-- ==== Sys2Proof/Word.lean ====
section
/-! DEFINITION. The word types of the register window (R90, R97) and their plainest arithmetic. -/

namespace Sys2Proof

/-- Registers are 32 bits wide (spec 00, Registers). -/
abbrev Word := BitVec 32

/-- One byte of a frame, of a record or of HBM. -/
abbrev Byte := BitVec 8

/-- One table entry: up to 128 bytes, word 0 least significant (R97). -/
abbrev Entry := BitVec 1024

/-- Bit `i` of a natural number read as a bit string. -/
def natBit (n i : Nat) : Bool := n / 2 ^ i % 2 == 1

/-- The `w`-bit field of `n` whose lowest bit is bit `lo`. -/
def natField (n lo w : Nat) : Nat := n / 2 ^ lo % 2 ^ w

/-- `n` with the `w`-bit field at bit `lo` replaced by `v` (reduced to `w` bits). -/
def natSetField (n lo w v : Nat) : Nat :=
  n - natField n lo w * 2 ^ lo + v % 2 ^ w * 2 ^ lo

/-- Two's-complement reading of the low `w` bits of `n`. -/
def signedOf (w n : Nat) : Int :=
  let m := n % 2 ^ w
  if m < 2 ^ (w - 1) then (m : Int) else (m : Int) - ((2 ^ w : Nat) : Int)

/-- The `w`-bit two's-complement pattern of an integer. -/
def patternOf (w : Nat) (i : Int) : Nat := (i % ((2 ^ w : Nat) : Int)).toNat

end Sys2Proof
end

