-- ==== Sys2Proof/Syntax.lean ====
section
/-! DEFINITION. The commands the block takes, one constructor per row of the opcode table, and the operands they carry.
An event row carries what the outside supplies with it (a received frame, a measured value, an outcome the spec leaves to
a check outside this model); everything else it uses is read from the state. -/

namespace Sys2Proof

/-- The four masters of R92. A core access carries its thread (R107). -/
inductive Master where
  | core (thread : Fin 384)
  | host
  | service
  | jtag
  deriving DecidableEq, Repr

/-- The two time domains. -/
inductive Dom where
  | cobalt
  | umber
  deriving DecidableEq, Repr

/-- The message a ToD input receives (R59): its bytes, whether its checksum is right, and the seconds a time event message names. -/
structure TodMessage where
  bytes : List Byte
  checksumOk : Bool
  timeEventSec : Option Nat
  deriving DecidableEq, Repr

/-- What a PTM dialog gave (R62): its four times, `t1` and `t4` in working time (unit 2^-32 ns), `t2` and `t3` the root's (ns). -/
structure PtmTimes where
  t1 : Nat
  t2 : Nat
  t3 : Nat
  t4 : Nat
  deriving DecidableEq, Repr

/-- One register access of a master: an address and a datum of 32 or 64 bits (R94). `partialBytes` marks a PCIe request
with partial byte enables; `bytes` is the width as issued. -/
structure Access where
  master : Master
  addr : BitVec 26
  bytes : Nat
  partialBytes : Bool
  deriving DecidableEq, Repr

/-- A table window: region, block and window number 0 to 3 (R97). -/
structure WinRef where
  region : Fin 64
  block : Fin 64
  w : Fin 4
  deriving DecidableEq, Repr

/-- A block of the register window (R90). -/
structure BlockRef where
  region : Fin 64
  block : Fin 64
  deriving DecidableEq, Repr

/-- Why a port leaves UP, or what its link shows (R118). -/
inductive PortLoss where
  | alignment
  | localFault
  | remoteFault
  deriving DecidableEq, Repr

/-- A frame in reception when its port is disabled: its bytes so far, and whether its head has passed to the pipeline (R115). -/
structure RxPart where
  bytes : List Byte
  headPassed : Bool
  deriving DecidableEq, Repr

/-- What a poll of one cage reads (R132, R133): acknowledge, latched flags (bits as SYS_MOD_FLAGS), ModuleFault state. -/
structure ModPoll where
  cage : Fin 64
  ack : Bool
  flags : Nat
  fault : Bool
  deriving DecidableEq, Repr

/-- What a CMIS access gives (R134): acknowledge, the bytes read, the latched flags among them, and the ModuleFault state among them
(none where the bytes do not show the module's state). -/
structure ModReply where
  ack : Bool
  data : List Byte
  flags : Nat
  fault : Option Bool
  deriving DecidableEq, Repr

/-- A table that ages (R200): a region's learned table, or an exact-match table. -/
inductive AgeTable where
  | learned (r : Fin 4)
  | em (t : Fin 64)
  deriving DecidableEq, Repr

/-- An associative array: PIPE region, and whether it is the egress array. -/
structure ArrayRef where
  region : Fin 4
  egress : Bool
  deriving DecidableEq, Repr

/-- A window of an associative array's block. -/
structure ArrayWin where
  array : ArrayRef
  w : Fin 2
  deriving DecidableEq, Repr

/-- A queue (R273): a virtual output queue or an egress queue. -/
inductive QueueRef where
  | voq (n : Fin 524288)
  | eq (n : Fin 524288)
  deriving DecidableEq, Repr

/-- How a DMA request of a device unit ends: served; Unsupported Request or Completer Abort before any data; or while data moves. -/
inductive DmaEnd where
  | ok
  | atCheck
  | later
  deriving DecidableEq, Repr

/-- What a lookaside request meets outside SEC (R370, R371): for a HOST ring the request, its additional data, its source and its
destination bytes in host memory, and how the accesses end; and whether the slot's stored form fails authentication (R355). -/
structure LkaIo where
  req : List Byte
  aad : List Byte
  src : List Byte
  dst : List Byte
  fault : DmaEnd
  corrupt : Bool
  deriving DecidableEq, Repr

/-- The capture of a frame's timestamp point at the MAC (R50): the lane of the port that carried the symbol, how long before this tick
(on receive) or after it (on transmit) the capture lies, the lane's deskew, and the symbol's position in its FEC codeword (unit
2^-32 ns). -/
structure Capture where
  lane : Fin 8
  at_ : Nat
  deskew : Nat
  fecPos : Nat
  deriving DecidableEq, Repr

/-- A frame as the PCS delivers it (R120, R121): destination address through FCS, whether an error control character or an
uncorrectable codeword lies in it, whether its head had passed to the pipeline before its end, the capture of its timestamp point,
and the codewords and symbols (by lane) corrected with it. -/
structure RxLine where
  frame : List Byte
  codeErr : Bool
  headPassed : Bool
  capture : Capture
  corrected : Nat
  uncorrected : Nat
  symbols : List Nat
  deriving DecidableEq, Repr

/-- How a frame goes onto the line (R125, R50): a bad tail, missing data or an excess length is found only after it has started; after
how many bytes data does not arrive in time; and the capture of its timestamp point. -/
structure TxLine where
  started : Bool
  underrun : Option Nat
  capture : Capture
  deriving DecidableEq, Repr

/-- Why a core looks for another thread (R382): its running thread misses in the system cache, or has waited 40 cycles for a device;
nothing runs on it; or the access of a stalled thread of it (by hart) is served. -/
inductive SwitchWhy where
  | miss
  | device
  | idle
  | served (hart : Fin 4)
  deriving DecidableEq, Repr

/-- What a transmit fetch finds in host memory (R413): the descriptors from the ring's head on, 32 bytes each, the bytes of the
packet's buffers one after the other, and how the requests end: at the descriptors, or at the data. -/
structure TxFetch where
  ring : List Byte
  data : List Byte
  fault : DmaEnd
  deriving DecidableEq, Repr

/-- What a receive write finds in host memory (R414): the descriptors from the ring's head on, 16 bytes each, and how the reads end. -/
structure RxHost where
  ring : List Byte
  fault : DmaEnd
  deriving DecidableEq, Repr

/-- Where a bitmap swap is asked for (R421): function 0 BAR0 of a link, or HOST_DLOG_SWAP. -/
inductive SwapFrom where
  | bar (link : Fin 4)
  | reg (m : Master)
  deriving DecidableEq, Repr

/-- What an NVMe submission doorbell brings in (R426): the queue, its 64-byte entry, the data pointers resolved to (address, length)
pieces, and the bytes they hold. -/
structure NvmeIn where
  queue : Fin 1025
  entry : List Byte
  segs : List (Nat × Nat)
  data : List Byte
  deriving DecidableEq, Repr

/-- A function-level reset of one function of a link, or a hot reset of the link (R427). -/
inductive LinkReset where
  | flr (fn : Fin 3)
  | hot
  deriving DecidableEq, Repr

/-- How the stored data of an HBM access comes back (R438, R439): whole, corrected, uncorrectable; or a command/address parity error
whose second attempt succeeds, or fails too. -/
inductive HbmErr where
  | ok
  | corrected
  | uncorrectable
  | parityOnce
  | parityTwice
  deriving DecidableEq, Repr

/-- A request to an HBM controller inside one 64-byte line (R433): its tag, address and length; what it writes, if anything; and how
the stored data comes back. -/
structure HbmReq where
  tag : BitVec 15
  addr : BitVec 40
  len : Nat
  write : Option (List Byte)
  err : HbmErr
  deriving DecidableEq, Repr

/-- What a lane's receive side finds at a slot (R337 to R341): the lane; the position whose marker was expected at this instant (used only while
that lane-slot is aligned or being confirmed); whether a signal is present and the receiver settled in the guard; whether the
marker came within 1.0 ns of a candidate's expected instant; the 106,080 PAM4 levels after the guard as they were received, two bits
each, the first most significant; how long before this tick the marker's first bit reached the ball (unit 2^-32 ns); the slip buffer's
level at the fill frames; and how many cells had passed when the level left its bounds, if it did. -/
structure RxSlot where
  lane : Fin 144
  pos : Fin 8
  signal : Bool
  settled : Bool
  onTime : Bool
  line : BitVec 212160
  age : Nat
  level : Nat
  overrun : Option Nat
  deriving DecidableEq, Repr

/-- The causes of R462. -/
inductive ChipCause where
  | timePartition
  | sysFatal
  | d2d
  | thermalTrip
  | rail
  deriving DecidableEq, Repr

/-- Damage to the storage of a complement pair (R102): the CP register, or the piste entry behind the window of the named block, and the
pair as it now stands. -/
structure CpUpset where
  addr : BitVec 26
  entry : Option (Fin 1152)
  pair : BitVec 64
  deriving DecidableEq, Repr

/-- The measurements of R508: VIN12 and VSB33 in units of 10 mV, package input power in W, VSB33 in tolerance, SVC_LOS pin high. -/
structure SupplyStat where
  vin12 : Fin 2048
  power : Fin 2048
  vsb33 : Fin 1024
  vsbOk : Bool
  los : Bool
  deriving DecidableEq, Repr

/-- Areas of the flash in which a boot meets an uncorrectable read error (R70): the copies of the boot record, the identity record, the
copies of the calibration record and of the settings store, records of the fault log, the report marker. -/
structure BootReads where
  brec0 : Bool
  brec1 : Bool
  ident : Bool
  cal0 : Bool
  cal1 : Bool
  set0 : Bool
  set1 : Bool
  faults : List (Fin 256)
  marker : Bool
  deriving DecidableEq, Repr

/-- What the start-up check of one HBM stack finds (R443): whether it answers, its first temperature readout, the ranks that fail. -/
structure StackCheck where
  answers : Bool
  temp : Fin 256
  failed : List (Fin 96)
  deriving DecidableEq, Repr

/-- An application a module advertises: host interface, media interface, host lanes (R84). -/
structure ModApp where
  host : Fin 256
  media : Fin 256
  lanes : Fin 16
  deriving DecidableEq, Repr

/-- What SYS finds in a cage (R84): nothing, a module it cannot read in three tries, or a module's identifier, applications, power class
and vendor OUI (first byte lowest). -/
inductive CageRead where
  | absent
  | unreadable
  | module_ (ident : Fin 256) (apps : List ModApp) (power : Fin 16) (oui : BitVec 24)
  deriving DecidableEq, Repr

structure CageCheck where
  cage : Fin 64
  read : CageRead
  deriving DecidableEq, Repr

/-- What has spent SYS_FWD_WAIT seconds without coming up (R80): an F-lane since its SerDes adaptation began, or a line port since its
module entered high power. -/
inductive FwdWait where
  | lane (l : Fin 144)
  | port (p : Fin 64)
  deriving DecidableEq, Repr

/-- Header fields of a service message that its sender chooses (R472): SEQ, SESSION, and bytes 14 and 15. -/
structure SvcHead where
  seq : Word
  session : Word
  reserved : BitVec 16
  deriving DecidableEq, Repr

/-- A frame on the service port that carries no service message of R472's table (R471): neighbour discovery for an IPv6 address, ARP for
an IPv4 address, a message whose TYPE the table does not have, or anything else. -/
inductive SvcFrame where
  | neighbour (addr : BitVec 128)
  | arp (addr : Word)
  | unknown (type : BitVec 8) (h : SvcHead)
  | other
  deriving DecidableEq, Repr

/-- The commands: one constructor per row of the opcode table. -/
inductive Instr where
  /-- CLOCK_TICK (R27): On each 1.4 GHz tick every domain adds its effective increment and rolls NS into SEC, and working time is recomputed. -/
  | clockTick
  /-- INCR_FRAC_WRITE (R28): A complement-pair write of TIME_DOM_INCR_FRAC sets the 40-bit base increment from the next tick, or is refused when out of range. -/
  | incrFracWrite (m : Master) (d : Dom) (datum : BitVec 64)
  /-- FIRMWARE_OFFSET_PUSH (R30): A write of TIME_DOM_OFS_HI under SRC FIRMWARE pushes the assembled offset into the domain's offset FIFO. -/
  | firmwareOffsetPush (m : Master) (d : Dom) (v : Word)
  /-- SERVO_OFFSET (R31): The servo takes one offset from the FIFO and steps, accepts, rejects or changes state by its procedure. -/
  | servoOffset (d : Dom)
  /-- SERVO_TIMEOUT (R31): A LOCK domain with no accepted offset for TIMEOUT enters Snowplough with target 0. -/
  | servoTimeout (d : Dom)
  /-- MODE_FREE (R31): A write of MODE FREE puts the domain in FREE with F and I at 0 on the next tick. -/
  | modeFree (m : Master) (d : Dom) (v : Word)
  /-- MODE_SERVO (R31): A write of MODE SERVO lets the domain leave FREE at its next offset or leave Snowplough after EXITN accepted offsets. -/
  | modeServo (m : Master) (d : Dom) (v : Word)
  /-- MODE_FORCE_SNOW (R34): A write of MODE FORCE_SNOW puts the domain in Snowplough at once with target 0 until another mode is written. -/
  | modeForceSnow (m : Master) (d : Dom) (v : Word)
  /-- REF_HOLD_UPDATE (R34): Each second, with REF_HOLD set and REF10M_IN qualified, I_hold is replaced by the frequency word REF10M_IN indicates. -/
  | refHoldUpdate (d : Dom) (f : Int)
  /-- VALID_DECLARE (R35): A write of TIME_DOM_VALID.DECLARE makes the domain VALID in any state. -/
  | validDeclare (m : Master) (d : Dom) (v : Word)
  /-- DOM_STEP (R36): A write of TIME_DOM_STEP_HI steps the domain on the next tick, feeding the continuity offset when the domain is active after WT_VALID. -/
  | domStep (m : Master) (d : Dom) (v : Word)
  /-- SETSEC_ARM (R36): A write of TIME_DOM_SETSEC_HI.ARM arms a seconds load for the domain's next whole-second rollover. -/
  | setsecArm (m : Master) (d : Dom) (v : Word)
  /-- SETSEC_LOAD (R36): At the domain's next whole-second rollover the armed seconds value replaces SEC. -/
  | setsecLoad (d : Dom)
  /-- SWITCH_NEXT_SLOT (R40): A write of SWITCH 0b01 requests an active-domain switch at the next slot start, or is refused before WT_VALID. -/
  | switchNextSlot (m : Master) (v : Word)
  /-- SWITCH_TIMED_ARM (R40): A write of SWITCH 0b10 arms a timed switch at the instant in TIME_WT_SWAT. -/
  | switchTimedArm (m : Master) (v : Word)
  /-- SWITCH_DISARM (R510): A write of SWITCH 0b11 disarms an armed timed switch. -/
  | switchDisarm (m : Master) (v : Word)
  /-- ACTIVE_SWITCH (R39): At the switch instant the device sets C to W minus the new domain's value and makes the other domain active. -/
  | activeSwitch
  /-- REVERT_WTR_EXPIRY (R40): With REVERT set and Umber active, WTR seconds after Cobalt's quality became good a switch back to Cobalt takes place. -/
  | revertWtrExpiry
  /-- SLOT_START (R19): A slot begins at working time k × 1,024 ns and the slot-start events fire. -/
  | slotStart
  /-- CYCLE_START (R20): At each cycle start the device computes allowances, pushes fabric offsets and applies quality changes. -/
  | cycleStart
  /-- PER_SECOND_LATCH (R20): At each whole second the per-second counters of LINE and FAB lanes copy the counts of the second that ended. -/
  | perSecondLatch
  /-- ONESTEP_DEPART (R52): A held one-step PTP frame is started so that its timestamp point crosses the ball at td. -/
  | onestepDepart (p : Fin 64) (late : Bool)
  /-- TSQ_READ_HEAD (R56): A read of TIME_TSQ_DATA0 latches the head entry of the selected port's queue. -/
  | tsqReadHead (m : Master)
  /-- TSQ_READ_POP (R56): A read of TIME_TSQ_DATA3 removes the head entry of the selected queue. -/
  | tsqReadPop (m : Master)
  /-- LOSS_READ_HEAD (R56): A read of TIME_LOSS_DATA0 latches the head entry of the loss log. -/
  | lossReadHead (m : Master)
  /-- LOSS_READ_POP (R56): A read of TIME_LOSS_DATA1 removes the head entry of the loss log. -/
  | lossReadPop (m : Master)
  /-- PPS_OUT_EDGE (R57): Each enabled PPS output places an edge at each whole second of its selected time plus its offset. -/
  | ppsOutEdge (n : Fin 4)
  /-- PPS_IN_EDGE (R58): A PPS_IN edge is stamped in both domains and an offset is pushed for the domain that uses it. -/
  | ppsInEdge (n : Fin 2) (phase : Fin 64)
  /-- PPSIN_LOSS (R58): An enabled PPS input with no edge for 1.5 s raises PPSIN_LOSS once. -/
  | ppsinLoss (n : Fin 2)
  /-- TOD_RX_MESSAGE (R59): A ToD message received on TOD_IN is queued for firmware and may load the seconds of the last PPS edge. -/
  | todRxMessage (msg : TodMessage)
  /-- TOD_RXDATA_READ (R66): A read of TIME_TOD_RXDATA returns and clears received ToD message bytes. -/
  | todRxdataRead (m : Master)
  /-- TOD_TX_MESSAGE (R60): DELAY ms after each PPS_OUT0 edge, TOD_OUT starts the time event message and then any buffered messages. -/
  | todTxMessage
  /-- REF_QUALIFY (R61): REF10M_IN is qualified after 10 s within ±1 ppm of its learned value. -/
  | refQualify (ofs : Word)
  /-- REF_LOSS (R61): REF10M_IN is disqualified on 1 µs without an edge or a frequency outside the window, raising REF_LOSS. -/
  | refLoss
  /-- PTM_DIALOG (R62): Every TIME_PTM_PERIOD the host link's PTM unit runs a dialog and writes a time record to host memory. -/
  | ptmDialog (l : Fin 4) (times : Option PtmTimes)
  /-- VSB33_RISE (R499): VSB33 reaches 3.135 V, the standby domain starts and every output takes its reset state. -/
  | vsb33Rise
  /-- VSB33_PRESENT (R68): 20 ms after VSB33 rose it counts as present and the device enters STANDBY or RESET. -/
  | vsb33Present
  /-- VIN12_VALID (R499): VIN12 has been at 11.4 V or more for 1 ms and the in-package regulators start. -/
  | vin12Valid
  /-- RAILS_IN_TOLERANCE (R499): Every in-package rail is in tolerance and PWR_OK rises if RESET_N is high. -/
  | railsInTolerance
  /-- RESET_N_FALL (R69): RESET_N low for 10 µs causes a chip reset and holds PWR_OK low. -/
  | resetNFall
  /-- RESET_N_RISE (R69): RESET_N rises and PWR_OK is driven high once every rail is in tolerance. -/
  | resetNRise
  /-- CHIP_RESET_WRITE (R103): An accepted write of 0x0000_A5C3 to SYS_CHIP_RESET causes a chip reset. -/
  | chipResetWrite (m : Master) (datum : BitVec 64)
  /-- VIN12_LOSS (R500): VIN12 below 10.8 V is a power loss: PWR_OK falls, F-lanes squelch and the device enters chip reset then STANDBY. -/
  | vin12Loss
  /-- VIN12_LOW (R500): VIN12 between 11.4 V and 10.8 V raises VIN12_LOW and operation continues. -/
  | vin12Low
  /-- VSB33_LOSS (R500): VSB33 below 3.0 V puts the device in OFF and removes every rail within 1 ms. -/
  | vsb33Loss
  /-- BOOT_START (R73): On the rising edge of PWR_OK the boot controller reads fuses, boot record and identity and selects the slot to boot. -/
  | bootStart (x : BootReads)
  /-- BID_READ_DONE (R81): The board identity memory read completes and the device ID, plan and board type are loaded or BID_BAD leads to HALT. -/
  | bidReadDone (b : Option (List Byte))
  /-- HBM_VERIFY_DONE (R443): Interface delays are applied and every rank is checked with the PRBS31 pattern, failed ranks being spared. -/
  | hbmVerifyDone (x0 : StackCheck) (x1 : StackCheck) (x2 : StackCheck) (x3 : StackCheck) (rec0 : Bool) (rec1 : Bool)
  /-- IMAGE_VERIFY_DONE (R76): The image copied to HBM is hashed and its header, target, signer, signature and rollback are checked. -/
  | imageVerifyDone (readErr : Bool) (ue : Bool)
  /-- WRITE_LIST_APPLY (R78): The loader applies one region's register write list entry by entry. -/
  | writeListApply
  /-- FW_LOAD_RELEASE (R383): FW sections are loaded and each CPU region's master thread is released at its entry point, and the device is RUNNING. -/
  | fwLoadRelease
  /-- CMIS_SWEEP (R84): SYS reads each cage's CMIS memory, records a result and sets matched modules to high power. -/
  | cmisSweep (checks : List CageCheck)
  /-- FWD_READY (R80): Once RUNNING, WT_VALID, lanes and ports are ready or late, FWD_READY is raised. -/
  | fwdReady
  /-- FWD_WAIT_EXPIRY (R80): A lane or port that has not come up within SYS_FWD_WAIT seconds is counted late. -/
  | fwdWaitExpiry (x : FwdWait)
  /-- HEALTH_TIMEOUT (R74): The 120 s health timer expires unconfirmed: FALLBACK_REQ and code 0x12 are written and HEALTH_TIMEOUT is raised. -/
  | healthTimeout
  /-- WT_LATE (R82): WT_LIMIT seconds after RUNNING without WT_VALID the device raises WT_LATE and keeps waiting. -/
  | wtLate
  /-- DECLARE_FIRST (R82): Once an anchor's domain has its first accepted offset and seconds load, the loader writes DECLARE. -/
  | declareFirst (d : Dom)
  /-- REGISTER_WRITE (R91): A register write without behaviour of its own is checked by R91 and applied per its field types. -/
  | registerWrite (x : Access) (datum : BitVec 64) (transit : Bool)
  /-- LATCH_WORD_READ (R96): A 32-bit read of a counter's low word or a group's latching word latches the high words for that master. -/
  | latchWordRead (x : Access)
  /-- COUNTER_READ_CLEAR (R5): A read of an RC register returns its value and clears it. -/
  | counterReadClear (x : Access)
  /-- CP_SCRUB (R102): The scrubber checks every CP register, logging CP_MISMATCH_STORED on a mismatch. -/
  | cpScrub (upset : Option CpUpset)
  /-- WIN_READ (R97): Window command READ copies the entry at INDEX to WIN_DATA. -/
  | winRead (m : Master) (x : WinRef) (v : Word)
  /-- WIN_WRITE (R97): Window command WRITE writes WIN_DATA to the entry at INDEX with VMASK. -/
  | winWrite (m : Master) (x : WinRef) (v : Word)
  /-- WIN_CLEAR (R97): Window command CLEAR writes zeros to the entry at INDEX. -/
  | winClear (m : Master) (x : WinRef) (v : Word)
  /-- WIN_READ_CLEAR (R195): Window command READ_CLEAR returns a counter entry and zeros it atomically. -/
  | winReadClear (m : Master) (x : WinRef) (v : Word)
  /-- BCAUSE_CLEAR (R104): A W1C write to BCAUSE clears cause bits and the summaries and IRQ_N follow. -/
  | bcauseClear (m : Master) (x : BlockRef) (v : Word)
  /-- BCAUSE_SET (R95): A write to BCAUSE_SET sets cause bits exactly as the unit event would. -/
  | bcauseSet (m : Master) (x : BlockRef) (v : Word)
  /-- BRESET_HOLD (R95): A CP write of BRESET.HOLD = 1 holds the block in reset. -/
  | bresetHold (m : Master) (x : BlockRef)
  /-- BRESET_RELEASE (R95): A CP write of BRESET.HOLD = 0 releases the block and increments its block epoch. -/
  | bresetRelease (m : Master) (x : BlockRef)
  /-- INTG_LOG_READ_HEAD (R107): A read of SYS_INTG_LOG0 latches the head integrity-log entry. -/
  | intgLogReadHead (m : Master)
  /-- INTG_LOG_READ_POP (R107): A read of SYS_INTG_LOG3 removes the head integrity-log entry. -/
  | intgLogReadPop (m : Master)
  /-- SNAP_COPY_ARM (R109): A SYS_SNAP_CTRL write of COPY arms a counter copy at SNAP_AT. -/
  | snapCopyArm (m : Master)
  /-- SNAP_FREEZE_ARM (R109): A SYS_SNAP_CTRL write of FREEZE arms a freeze of every counter at SNAP_AT. -/
  | snapFreezeArm (m : Master)
  /-- SNAP_THAW_AT (R109): A SYS_SNAP_CTRL write of THAW at SNAP_AT arms the end of a freeze. -/
  | snapThawAt (m : Master)
  /-- SNAP_THAW_NOW (R109): A SYS_SNAP_CTRL write of THAW now resumes counting at once. -/
  | snapThawNow (m : Master)
  /-- SNAP_DISARM (R109): A SYS_SNAP_CTRL write of DISARM cancels an armed snapshot command. -/
  | snapDisarm (m : Master)
  /-- SNAP_INSTANT (R109): At the armed instant every counter is copied, frozen or thawed as armed. -/
  | snapInstant
  /-- SNAP_DONE (R110): The snapshot area is complete, COMPLETE is written last and SNAP_DONE is raised. -/
  | snapDone
  /-- PORT_CFG_WRITE (R114): A write of LINE_PORT_CFG enabling or changing a port is accepted under R114 or refused. -/
  | portCfgWrite (m : Master) (p : Fin 64) (v : Word)
  /-- PORT_DISABLE (R115): EN going from 1 to 0 finishes the frame in transmission, discards the one being received and powers the lanes down. -/
  | portDisable (m : Master) (p : Fin 64) (v : Word) (rx : Option RxPart)
  /-- OCT_RATE_WRITE (R114): A write of LINE_OCT_RATE sets the quad rates, refused when it would change the rate under an enabled port. -/
  | octRateWrite (m : Master) (o : Fin 8) (v : Word)
  /-- MAXLEN_WRITE (R123): A write of LINE_PORT_MAXLEN sets MAC_MAXLEN for later frames, or is refused and MAXLEN_REFUSED raised. -/
  | maxlenWrite (m : Master) (p : Fin 64) (v : Word)
  /-- PORT_UP (R118): A port with lock, alignment and no fault for 1 ms continuously enters UP. -/
  | portUp (p : Fin 64)
  /-- PORT_DOWN (R118): A port that loses alignment or sees local or remote fault leaves UP at once. -/
  | portDown (p : Fin 64) (why : PortLoss)
  /-- AN_FAIL (R117): Auto-negotiation that does not resolve to the configured mode within 5 s raises AN_FAIL and restarts. -/
  | anFail (p : Fin 64)
  /-- RX_FRAME (R121): The MAC stamps a received frame, classifies it by length, code and FCS and passes, drops or ends it with a bad tail. -/
  | rxFrame (p : Fin 64) (x : RxLine)
  /-- PAUSE_EXPIRY (R126): The pause time of a received PAUSE or PFC frame runs out and the port or class resumes. -/
  | pauseExpiry (p : Fin 64) (cls : Fin 9)
  /-- TX_FRAME (R125): The MAC pads, encrypts, appends the FCS and sends a frame, or drops or ends it bad at the limits. -/
  | txFrame (p : Fin 64) (x : TxLine)
  /-- PORT_CNT_CLR (R128): A write of 1 to LINE_PORT_CNT_CLR zeros all 64 counters of the port in one clock. -/
  | portCntClr (m : Master) (p : Fin 64) (v : Word)
  /-- PORT_SLEEP (R129): A write of SLEEP = 1 to an UP or DOWN port stops its node and powers all but the wake detector. -/
  | portSleep (m : Master) (p : Fin 64) (v : Word)
  /-- PORT_WAKE_WRITE (R130): A write of SLEEP = 0 starts a port's wake. -/
  | portWakeWrite (m : Master) (p : Fin 64) (v : Word)
  /-- WAKE_MATCH (R130): A received frame that matches the wake pattern with good FCS starts the port's wake. -/
  | wakeMatch (p : Fin 64) (frame : List Byte)
  /-- WAKE_COMPLETE (R130): 5 µs after the wake start the port is UP or DOWN, WAKE is raised and the scheduler node restarts. -/
  | wakeComplete (p : Fin 64)
  /-- MOD_POLL (R132): Every SYS_MOD_POLL ms SYS reads each cage's module state and latched flags. -/
  | modPoll (polls : List ModPoll)
  /-- MOD_ACC_READ (R134): A write of SYS_MOD_ACC_CTRL.OP read starts a CMIS read through the access window. -/
  | modAccRead (m : Master) (v : Word)
  /-- MOD_ACC_WRITE (R134): A write of SYS_MOD_ACC_CTRL.OP write starts a CMIS write through the access window. -/
  | modAccWrite (m : Master) (v : Word)
  /-- MOD_ACC_DONE (R134): A module access completes and ACC_DONE or ACC_ERR is raised. -/
  | modAccDone (r : ModReply)
  /-- INGRESS_ACCEPT (R16): An ingress pipeline takes one packet per clock, preferring line packets. -/
  | ingressAccept (i : Fin 16)
  /-- PARSE_DISPATCH (R140): The packet is handed to the lowest-numbered free parse engine, which loads its window. -/
  | parseDispatch (i : Fin 16)
  /-- NOP (R148): Parse instruction NOP does nothing. -/
  | parseNop (i : Fin 16) (e : Fin 64)
  /-- EXT (R148): Parse instruction EXT extracts bits from the window into a register. -/
  | parseExt (i : Fin 16) (e : Fin 64)
  /-- HVX (R148): Parse instruction HVX copies window bytes into the header vector field area. -/
  | parseHvx (i : Fin 16) (e : Fin 64)
  /-- HVR (R148): Parse instruction HVR writes register bytes into the header vector field area. -/
  | parseHvr (i : Fin 16) (e : Fin 64)
  /-- LDI (R148): Parse instruction LDI loads an immediate into a register. -/
  | parseLdi (i : Fin 16) (e : Fin 64)
  /-- ALU (R148): Parse instruction ALU computes a register from a register and an operand. -/
  | parseAlu (i : Fin 16) (e : Fin 64)
  /-- CMP (R148): Parse instruction CMP sets the EQ and LT flags. -/
  | parseCmp (i : Fin 16) (e : Fin 64)
  /-- BR (R148): Parse instruction BR branches on a condition of the flags. -/
  | parseBr (i : Fin 16) (e : Fin 64)
  /-- SWT (R149): Parse instruction SWT dispatches through the state table, advancing the cursor. -/
  | parseSwt (i : Fin 16) (e : Fin 64)
  /-- ADV (R148): Parse instruction ADV advances the cursor. -/
  | parseAdv (i : Fin 16) (e : Fin 64)
  /-- MARK (R151): Parse instruction MARK records the cursor and type for a layer. -/
  | parseMark (i : Fin 16) (e : Fin 64)
  /-- FLAG (R148): Parse instruction FLAG sets or clears program flags. -/
  | parseFlag (i : Fin 16) (e : Fin 64)
  /-- HSEL (R148): Parse instruction HSEL selects a hash profile for HASH0 or HASH1. -/
  | parseHsel (i : Fin 16) (e : Fin 64)
  /-- EXC (R148): Parse instruction EXC takes the exception path with its reason. -/
  | parseExc (i : Fin 16) (e : Fin 64)
  /-- DONE (R148): Parse instruction DONE ends the parse with a CLASS and the pipeline completes the header vector and hashes. -/
  | parseDone (i : Fin 16) (e : Fin 64)
  /-- LOOKUP (R170): The ingress pipeline runs PORT, EM, MODE, associative, ECMP and next-hop lookups and decides. -/
  | lookup (i : Fin 16)
  /-- LONG_PROBE_LOOKUP (R182): A lookup moved to the long-probe lane probes its remaining candidates one per clock. -/
  | longProbeLookup (i : Fin 16)
  /-- FAR_LOOKUP (R187): A lookup with far candidates completes in the far lane through HBM probes in its own order. -/
  | farLookup (i : Fin 16) (n : Fin 256)
  /-- EM_INSERT (R163): EM command INSERT places an entry, moving up to 4 entries, or refuses DUPLICATE or FULL. -/
  | emInsert (m : Master) (v : Word)
  /-- EM_DELETE (R163): EM command DELETE clears VMASK bits of the keyed entry and frees it at 0. -/
  | emDelete (m : Master) (v : Word)
  /-- EM_SEARCH (R163): EM command SEARCH returns the keyed entry and its location. -/
  | emSearch (m : Master) (v : Word)
  /-- EM_UPDATE (R163): EM command UPDATE replaces bytes 8 to 15 of the keyed entry. -/
  | emUpdate (m : Master) (v : Word)
  /-- LPM_INSERT (R184): LPM command INSERT places a route near or far, moving up to 8 entries. -/
  | lpmInsert (m : Master) (v : Word)
  /-- LPM_DELETE (R184): LPM command DELETE clears VMASK bits of the matching route. -/
  | lpmDelete (m : Master) (v : Word)
  /-- LPM_SEARCH (R184): LPM command SEARCH returns the matching route and its part. -/
  | lpmSearch (m : Master) (v : Word)
  /-- LPM_UPDATE (R184): LPM command UPDATE replaces KIND and INDEX of the matching route. -/
  | lpmUpdate (m : Master) (v : Word)
  /-- REBUILD (R186): LPM command REBUILD starts a background rebuild of a length's filter. -/
  | rebuild (m : Master) (v : Word)
  /-- REBUILD_DONE (R186): A filter rebuild completes, LF_EN is set and REBUILD_DONE is raised. -/
  | rebuildDone
  /-- EGRESS_REWRITE (R193): The egress pipeline applies ECN, TTL, STRIP, MPLS, ENCAP and L2 steps by the rewrite index. -/
  | egressRewrite (i : Fin 16)
  /-- LEARN_ENGINE (R198): The learn engine serves one request from its FIFO, inserting, moving or refreshing an entry. -/
  | learnEngine (r : Fin 4)
  /-- LRN_INSERT (R198): Learned-table command INSERT passes through the learn engine. -/
  | lrnInsert (m : Master) (r : Fin 4) (v : Word)
  /-- LRN_DELETE (R198): Learned-table command DELETE passes through the learn engine. -/
  | lrnDelete (m : Master) (r : Fin 4) (v : Word)
  /-- LRN_SEARCH (R198): Learned-table command SEARCH passes through the learn engine. -/
  | lrnSearch (m : Master) (r : Fin 4) (v : Word)
  /-- FLUSH (R198): Learned-table command FLUSH starts deleting entries of a BD, a DEST or both. -/
  | flush (m : Master) (r : Fin 4) (v : Word)
  /-- FLUSH_DONE (R198): A background flush completes and FLUSH_DONE is raised. -/
  | flushDone (r : Fin 4)
  /-- NOTE_POST (R199): A learn-record descriptor is posted when it holds four records or 10 µs after its first. -/
  | notePost (r : Fin 4)
  /-- AGING_SWEEP_START (R200): An aging sweep starts at each whole second that is a multiple of the table's period. -/
  | agingSweepStart (t : AgeTable)
  /-- AGING_VISIT (R200): At its instant a location is visited: HIT is cleared or the entry is deleted. -/
  | agingVisit (t : AgeTable)
  /-- ASC_READ (R218): Associative command READ copies an entry to WIN_DATA and the staging registers. -/
  | ascRead (m : Master) (a : ArrayWin) (v : Word)
  /-- ASC_WRITE (R218): Associative command WRITE writes an entry at a free INDEX from the staging registers. -/
  | ascWrite (m : Master) (a : ArrayWin) (v : Word)
  /-- ASC_CLEAR (R218): Associative command CLEAR frees an entry at once, MASKED included. -/
  | ascClear (m : Master) (a : ArrayWin) (v : Word)
  /-- INSERT_AT (R219): Associative command INSERT_AT shifts entries toward the nearest free place and writes the new entry. -/
  | insertAt (m : Master) (a : ArrayWin) (v : Word)
  /-- SETV (R218): Associative command SETV sets VMASK bits in an entry. -/
  | setv (m : Master) (a : ArrayWin) (v : Word)
  /-- ASC_DELETE (R218): Associative command DELETE clears VMASK bits and frees the entry at 0. -/
  | ascDelete (m : Master) (a : ArrayWin) (v : Word)
  /-- ASC_UPDATE (R218): Associative command UPDATE replaces the result words of an entry. -/
  | ascUpdate (m : Master) (a : ArrayWin) (v : Word)
  /-- ASC_MOVE (R218): Associative command MOVE shifts a run of entries one place up or down. -/
  | ascMove (m : Master) (a : ArrayWin) (v : Word)
  /-- ASC_SEARCH (R218): Associative command SEARCH returns the winner for the staged key in one version. -/
  | ascSearch (m : Master) (a : ArrayWin) (v : Word)
  /-- MOVER_COPY (R219): The block mover copies one entry one place on in a maintenance slot. -/
  | moverCopy (a : ArrayRef)
  /-- SLOT_STEAL (R216): A maintenance action waiting 64 clocks without a spare slot steals the next port's slot. -/
  | slotSteal (a : ArrayRef)
  /-- SCRUB_REWRITE (R220): After a false hit the scrubber rewrites the entry's line from the shadow and clears MASKED. -/
  | scrubRewrite (a : ArrayRef)
  /-- SCRUB_LINE (R223): The scrubber compares one line with the shadow in a spare slot and rewrites it on a difference. -/
  | scrubLine (a : ArrayRef)
  /-- VER_COMMIT (R233): Command COMMIT seals BUILD and makes it current at the next slot start. -/
  | verCommit (m : Master)
  /-- VER_ARM (R233): Command ARM seals BUILD for a commit at SYS_VER_AT. -/
  | verArm (m : Master)
  /-- VER_DISARM (R233): Command DISARM returns a SEALED version to BUILD. -/
  | verDisarm (m : Master)
  /-- FORCE_RETIRE (R239): Command FORCE_RETIRE ends RETIRING at once and sets STAT.FORCED. -/
  | forceRetire (m : Master)
  /-- PAUSE_APPLY (R241): Command PAUSE_APPLY checks a host-slice batch and stops fetching the slice's transmit work. -/
  | pauseApply (m : Master)
  /-- VER_SEQ_WRITE (R235): A write of SYS_VER_SEQ sets the commit sequence while the other version is in BUILD. -/
  | verSeqWrite (m : Master) (v : Word)
  /-- COMMIT_INSTANT (R234): At the commit instant the sealed version becomes current, the old one RETIRING and SEQ increments. -/
  | commitInstant
  /-- RETIRE (R238): When in-flight count, peer drain and wait conditions hold, the retiring version returns to BUILD. -/
  | retire
  /-- RETIRE_LATE (R239): SYS_VER_RETIRE_LIMIT ms after T without retirement RETIRE_LATE is raised. -/
  | retireLate
  /-- BATCH_WRITE (R242): Once the slice has drained ahead of the lookup stage, the batch entries are written and HOST resumes. -/
  | batchWrite
  /-- PAUSE_ABORT (R242): A slice not drained by t0 + 1 µs resumes with nothing written and PAUSE_ABORT is raised. -/
  | pauseAbort
  /-- PACKET_ADMIT (R277): A packet or copy arriving at a queue meets the admission tests and is placed on-chip, in the stream or dropped. -/
  | packetAdmit (i : Fin 16) (ct : Bool)
  /-- CELL_FREE (R249): A cell free is checked for range and double free and returned to its area. -/
  | cellFree (ptr : Word)
  /-- SPILL_WRITE (R257): A packet whose tail is in is written as a record into its queue's spill stream. -/
  | spillWrite (q : QueueRef) (late : Bool)
  /-- SPILL_READBACK (R258): Records of a spilled queue are read back into general cells ahead of its head. -/
  | spillReadback (q : QueueRef)
  /-- SPILL_CACHE_REFILL (R255): The page cache holding 256 or fewer entries is refilled with 256 from the ring. -/
  | spillCacheRefill
  /-- SPILL_CACHE_DRAIN (R255): The page cache holding 768 or more entries drains 256 to the ring. -/
  | spillCacheDrain
  /-- SPILL_INIT (R255): A write to BUF_SPILL_INIT starts filling the free-page ring in page order. -/
  | spillInit (m : Master) (v : Word)
  /-- INIT_DONE (R255): The spill ring fill completes and INIT_DONE is raised. -/
  | initDone
  /-- REPL_EXPAND (R262): The replication engine makes a packet's copies in list order with a share record. -/
  | replExpand
  /-- SHARED_RELEASE (R265): A holder other than the owner releases a shared payload, decrementing PENDING. -/
  | sharedRelease (rec : Fin 131072) (byOwner : Bool)
  /-- SHARED_FREE (R265): The named last owner frees a shared payload, returned when PENDING is 0. -/
  | sharedFree (rec : Fin 131072) (byOwner : Bool)
  /-- POOL_ALLOC (R267): A 64-bit read of BUF_POOL_ALLOC returns a buffer from the pool or its fallback chain, or 0. -/
  | poolAlloc (m : Master) (p : Fin 256) (wide : Bool)
  /-- POOL_FREE (R267): A write to BUF_POOL_FREE returns a buffer to its pool, checked under R268. -/
  | poolFree (m : Master) (datum : BitVec 64)
  /-- POOL_RELEASE (R267): A write to BUF_POOL_RELEASE releases a shared pool buffer. -/
  | poolRelease (m : Master) (datum : BitVec 64)
  /-- POOL_SHARE (R267): A write to BUF_POOL_SHARE makes a buffer shared with PENDING holders. -/
  | poolShare (m : Master) (datum : BitVec 64)
  /-- POOL_INIT (R266): Pool command INIT fills the pool's ring with every buffer. -/
  | poolInit (m : Master) (v : Word)
  /-- POOL_LOG_READ_HEAD (R269): A read of BUF_POOL_LOG0 latches the head bad-free log entry. -/
  | poolLogReadHead (m : Master)
  /-- POOL_LOG_READ_POP (R269): A read of BUF_POOL_LOG3 removes the head bad-free log entry. -/
  | poolLogReadPop (m : Master)
  /-- VOQ_RELEASE (R282): QUE0 releases payload bytes of virtual output queues within credit and packs them into cells. -/
  | voqRelease (late : Bool)
  /-- STALL_FLUSH (R284): A virtual output queue releasing nothing for QUE0_VOQ_STALL µs is flushed. -/
  | stallFlush (q : Fin 524288)
  /-- EGRESS_SELECT (R291): A port node asks for a packet and QUE1 selects one through the hierarchy, charging buckets and deficits. -/
  | egressSelect (p : Fin 70) (late : Bool)
  /-- SHAPER_EPOCH (R294): A level's refresh epoch begins and its buckets refill on visit. -/
  | shaperEpoch (l : Fin 5)
  /-- PFC_REFRESH (R280): While the count stays at XON or above, the flow-control frame is sent again each half quanta. -/
  | pfcRefresh (p : Fin 64) (c : Fin 8)
  /-- PISTE_ARM (R305): Command ARM arms a piste bank swap at FAB_PISTE_AT. -/
  | pisteArm (m : Master)
  /-- PISTE_DISARM (R305): Command DISARM returns an armed bank to writable. -/
  | pisteDisarm (m : Master)
  /-- PISTE_SWAP (R305): At the armed instant both FAB regions make the other bank active and SWAPPED is raised. -/
  | pisteSwap
  /-- SLOT_FILL (R312): During slot k − 1 the device fills slot k's lane-slots with relay cells, spread cells and IDLE cells. -/
  | slotFill
  /-- SLOT_RX (R337): A received slot's marker, header and cells are decoded and judged on its lane-slot. -/
  | slotRx (x : RxSlot)
  /-- CELL_RX (R313): A received cell is checked and discarded, dropped, relayed or resequenced. -/
  | cellRx
  /-- RELAY_AGED (R314): A relay cell that has waited 2 × C slots is dropped. -/
  | relayAged (d : Fin 1024)
  /-- GAP_TIMER_EXPIRY (R316): A source's gap timer expires: missing cells are declared lost and held cells delivered. -/
  | gapTimerExpiry (n : Fin 1024)
  /-- EXP_UNSET (R316): After 64 cycles with no cell from a source and none held, EXP of that source becomes unset. -/
  | expUnset (n : Fin 1024)
  /-- OVC_PIN_FRAME_RX (R346): An HDLC frame received on an OVC port's pins enters its FIFO or is dropped. -/
  | ovcPinFrameRx (n : Fin 4) (frame : List Byte) (aborted : Bool)
  /-- OVC_CHANNEL_FRAME_RX (R345): An HDLC frame assembled from a lane-slot's overhead bytes enters its port's FIFO. -/
  | ovcChannelFrameRx (n : Fin 4)
  /-- OVC_PIN_FRAME_TX (R347): A queued frame is sent on the OVC pins when the output is idle. -/
  | ovcPinFrameTx (n : Fin 4)
  /-- OVC_CHANNEL_FRAME_TX (R347): A frame from the pins enters the overhead channel in the first header launched 1 µs later. -/
  | ovcChannelFrameTx (n : Fin 4)
  /-- OVC_TX_QUEUE (R352): A write of SYS_OVC_TXLEN queues TXBUF as a frame in PROC mode. -/
  | ovcTxQueue (m : Master) (n : Fin 4) (v : Word)
  /-- OVC_RX_POP (R352): A write of SYS_OVC_RXPOP removes the head received frame. -/
  | ovcRxPop (m : Master) (n : Fin 4) (v : Word)
  /-- OVC_CTRL_WRITE (R347): A write of MODE, LANE or POS discards the port's FIFOs, or is refused. -/
  | ovcCtrlWrite (m : Master) (n : Fin 4) (v : Word)
  /-- KEY_READ (R357): Key command READ returns a slot's attribute word. -/
  | keyRead (m : Master) (v : Word)
  /-- LOAD_PLAIN (R357): Key command LOAD_PLAIN wraps and stores a plain key from a core thread. -/
  | loadPlain (m : Master) (v : Word)
  /-- LOAD_WRAPPED (R357): Key command LOAD_WRAPPED loads a blob that authenticates under DK. -/
  | loadWrapped (m : Master) (v : Word)
  /-- EXPORT (R357): Key command EXPORT returns an exportable slot as a blob. -/
  | keyExport (m : Master) (v : Word)
  /-- ZEROISE (R357): Key command ZEROISE sets a slot's key and attributes to 0. -/
  | zeroise (m : Master) (v : Word)
  /-- RNG_FAIL (R361): The entropy source fails its health tests, RNG_OK clears and engines use the fixed countermeasure mode. -/
  | rngFail
  /-- RNG_RECOVER (R361): The entropy source passes its health tests again and RNG_OK returns. -/
  | rngRecover
  /-- ESP_INBOUND (R367): The ESP engine verifies and decrypts a whole inbound packet and recirculates the inner packet. -/
  | espInbound (i : Fin 16)
  /-- LKA_PRODUCER_WRITE (R369): A write of SEC_LKA_PI makes a ring's new requests pending for the engines. -/
  | lkaProducerWrite (m : Master) (r : Fin 256) (v : Word)
  /-- GCM_ENC (R370): Lookaside request GCM_ENC encrypts and writes data and tag at DST. -/
  | gcmEnc (r : Fin 256) (e : Fin 32) (x : LkaIo)
  /-- GCM_DEC (R370): Lookaside request GCM_DEC decrypts and checks the tag at SRC + LEN. -/
  | gcmDec (r : Fin 256) (e : Fin 32) (x : LkaIo)
  /-- XTS_ENC (R370): Lookaside request XTS_ENC encrypts a data unit with a key pair. -/
  | xtsEnc (r : Fin 256) (e : Fin 32) (x : LkaIo)
  /-- XTS_DEC (R370): Lookaside request XTS_DEC decrypts a data unit with a key pair. -/
  | xtsDec (r : Fin 256) (e : Fin 32) (x : LkaIo)
  /-- KMAC (R370): Lookaside request KMAC writes a KMAC256 output at DST. -/
  | kmac (r : Fin 256) (e : Fin 32) (x : LkaIo)
  /-- KMAC_VERIFY (R370): Lookaside request KMAC_VERIFY compares the computed value with the one at DST. -/
  | kmacVerify (r : Fin 256) (e : Fin 32) (x : LkaIo)
  /-- CH_ACQ (R392): Instruction CH.ACQ takes a credit and staging slot, waiting while no credit is free. -/
  | chAcq (t : Fin 384) (rd : Fin 32) (ch : BitVec 64)
  /-- CH_ACQ_WAKE (R392): A credit freed for a thread waiting in CH.ACQ completes its acquire. -/
  | chAcqWake (t : Fin 384)
  /-- CH_TRYACQ (R389): Instruction CH.TRYACQ takes a credit and slot or returns EMPTY. -/
  | chTryacq (t : Fin 384) (rd : Fin 32) (ch : BitVec 64)
  /-- CH_POST (R392): Instruction CH.POST copies a staging slot into the channel ring and may notify the reader. -/
  | chPost (t : Fin 384) (rd : Fin 32) (slot : BitVec 64) (data : BitVec 512)
  /-- CH_DROP (R389): Instruction CH.DROP frees a staging slot and returns its credit. -/
  | chDrop (t : Fin 384) (rd : Fin 32) (slot : BitVec 64)
  /-- CH_RECV (R392): Instruction CH.RECV moves the oldest descriptor to a receive slot, waiting while none is posted. -/
  | chRecv (t : Fin 384) (rd : Fin 32) (ch : BitVec 64)
  /-- CH_RECV_WAKE (R392): A post to a channel completes a CH.RECV that was waiting. -/
  | chRecvWake (t : Fin 384)
  /-- CH_TRYRECV (R389): Instruction CH.TRYRECV takes a descriptor or returns EMPTY. -/
  | chTryrecv (t : Fin 384) (rd : Fin 32) (ch : BitVec 64)
  /-- CH_FREE (R389): Instruction CH.FREE releases a receive slot. -/
  | chFree (t : Fin 384) (rd : Fin 32) (slot : BitVec 64)
  /-- EV_WAIT (R389): Instruction EV.WAIT returns and clears pending masked events or waits for one. -/
  | evWait (t : Fin 384) (rd : Fin 32) (mask timeout : BitVec 64)
  /-- EV_WAIT_WAKE (R389): A masked event bit setting ends a thread's EV.WAIT. -/
  | evWaitWake (t : Fin 384)
  /-- EV_WAIT_TIMEOUT (R389): An EV.WAIT timeout passes and the instruction returns 0. -/
  | evWaitTimeout (t : Fin 384)
  /-- EV_POLL (R389): Instruction EV.POLL returns and clears pending masked events without waiting. -/
  | evPoll (t : Fin 384) (rd : Fin 32) (mask : BitVec 64)
  /-- EV_SEND (R391): Instruction EV.SEND sets a thread-sourced input of a thread. -/
  | evSend (t : Fin 384) (rd : Fin 32) (target input : BitVec 64)
  /-- THREAD_SWITCH (R382): A core leaves its running thread on a system-cache miss, a wait, a long device access or a halt. -/
  | threadSwitch (core : Fin 96) (why : SwitchWhy)
  /-- CTX_WRITE (R384): Context command WRITE sets a register of a HELD thread. -/
  | ctxWrite (m : Master) (r : Fin 3)
  /-- CTX_READ (R384): Context command READ returns a register of a HELD thread. -/
  | ctxRead (m : Master) (r : Fin 3)
  /-- CTX_RELEASE (R384): Context command RELEASE starts a HELD thread. -/
  | ctxRelease (m : Master) (r : Fin 3)
  /-- CTX_RESET (R385): Context command RESET returns a thread to HELD, losing its slots and events. -/
  | ctxReset (m : Master) (r : Fin 3)
  /-- INTERRUPT_FILE_WRITE (R386): A write of identity n to a thread's interrupt file sets that interrupt pending. -/
  | interruptFileWrite (m : Master) (t : Fin 384) (v : Word)
  /-- TIMER_INTERRUPT (R387): Time reaching a thread's mtimecmp raises its machine timer interrupt. -/
  | timerInterrupt (t : Fin 384)
  /-- DEVICE_CHANNEL_WRITE (R393): A device unit writes a descriptor to a channel, or drops it when no credit is free. -/
  | deviceChannelWrite
  /-- PORT_TX_PROCESS (R395): The processor port takes a PORT_TX descriptor and injects or directly forwards its packet. -/
  | portTxProcess (c : Fin 49152)
  /-- DEBUG_HALT (R397): The debugger halts a thread, which keeps any staging slot held and sets HOLD. -/
  | debugHalt (t : Fin 384)
  /-- DEBUG_RESUME (R396): The debugger resumes a halted thread. -/
  | debugResume (t : Fin 384)
  /-- DEADLOCK (R398): A cluster whose started threads all wait on threads declares a deadlock and wakes its master. -/
  | deadlock (cl : Fin 12)
  /-- PMU_FREEZE (R400): PMU command FREEZE arms a freeze of the region's performance counters. -/
  | pmuFreeze (m : Master) (r : Fin 3)
  /-- PMU_THAW_AT (R400): PMU command THAW at AT arms the end of a freeze. -/
  | pmuThawAt (m : Master) (r : Fin 3)
  /-- PMU_THAW_NOW (R400): PMU command THAW now resumes the counters at once. -/
  | pmuThawNow (m : Master) (r : Fin 3)
  /-- PMU_DISARM (R400): PMU command DISARM cancels an armed PMU command. -/
  | pmuDisarm (m : Master) (r : Fin 3)
  /-- PMU_INSTANT (R400): At the armed instant the region's performance counters freeze or thaw. -/
  | pmuInstant (r : Fin 3)
  /-- SAMPLER_OVERFLOW (R401): qzsmpcnt passes from 1 to 0, qzsmppc is written and the counter-overflow interrupt raised. -/
  | samplerOverflow (t : Fin 384) (evt : Fin 32) (pc : BitVec 64)
  /-- HOST_LINK_UP (R405): A host link completes training and comes up. -/
  | hostLinkUp (l : Fin 4) (rate : Fin 6) (width : Fin 64) (flit : Bool)
  /-- HOST_LINK_DOWN (R427): A host link goes down and its queue pairs are disabled within 100 ms. -/
  | hostLinkDown (l : Fin 4)
  /-- HOST_PERST_ASSERT (R496): HOST_PERST_Nn low holds host link n in Detect and treats it as down. -/
  | hostPerstAssert (l : Fin 4)
  /-- HOST_PERST_RELEASE (R496): HOST_PERST_Nn rising lets host link n train. -/
  | hostPerstRelease (l : Fin 4)
  /-- FUNCTION_LEVEL_RESET (R427): A function-level reset or hot reset disables the link's queue pairs or resets its controller. -/
  | functionLevelReset (l : Fin 4) (what : LinkReset)
  /-- DOORBELL_TX_TAIL (R412): A host write of the TX tail to a doorbell page posts transmit work. -/
  | doorbellTxTail (l : Fin 4) (q : Fin 65536) (v : Word)
  /-- DOORBELL_RX_TAIL (R412): A host write of the RX tail posts receive buffers. -/
  | doorbellRxTail (l : Fin 4) (q : Fin 65536) (v : Word)
  /-- DOORBELL_CQ_HEAD (R412): A host write of the CQ head, with ARM, frees completions and arms the interrupt. -/
  | doorbellCqHead (l : Fin 4) (q : Fin 65536) (v : Word)
  /-- HOST_TX_FETCH (R410): HOST fetches a slice's next transmit packet under DRR and its token bucket. -/
  | hostTxFetch (l : Fin 4) (x : TxFetch)
  /-- HOST_RX_WRITE (R415): HOST writes a packet to the queue pair's receive buffers and posts its completion. -/
  | hostRxWrite (x : RxHost)
  /-- MSIX_MODERATION (R417): MOD_COUNT completions or MOD_USEC after the first send the armed MSI-X vector. -/
  | msixModeration (q : Fin 65536)
  /-- LKA_HOST_DOORBELL (R418): A host write to a BAR2 lookaside page is passed to SEC_LKA_PI or dropped. -/
  | lkaHostDoorbell (l : Fin 4) (r : Fin 256) (v : Word)
  /-- DLOG_FLUSH (R420): A cached dirty-bitmap word is ORed into host memory within 100 µs of its first bit. -/
  | dlogFlush (i : Fin 1024)
  /-- DLOG_SWAP (R421): A write of DLOG_SWAP switches a slice's logging to the other bitmap. -/
  | dlogSwap (src : SwapFrom) (v : Word)
  /-- DLOG_SWAP_DONE (R421): Once the old bitmap is flushed DONE is set, DLOG_SWAPPED raised and vector 1 sent. -/
  | dlogSwapDone (n : Fin 4096)
  /-- MBX_OPEN (R423): Mailbox command OPEN erases the inactive slot and starts a session. -/
  | mbxOpen (l : Fin 4) (ok : Bool)
  /-- MBX_WRITE (R423): Mailbox command WRITE writes MBX_DATA as the next block. -/
  | mbxWrite (l : Fin 4) (block : Fin 131072) (len : Fin 8192) (data : List Byte) (ok : Bool)
  /-- MBX_CLOSE (R423): Mailbox command CLOSE ends the session and marks the slot WRITTEN. -/
  | mbxClose (l : Fin 4) (ok : Bool)
  /-- MBX_ABORT (R423): Mailbox command ABORT ends the session and leaves the slot EMPTY. -/
  | mbxAbort (l : Fin 4)
  /-- NVME_DOORBELL (R426): A submission doorbell brings in an I/O command that HOST checks, buffers and hands to firmware. -/
  | nvmeDoorbell (l : Fin 4) (x : NvmeIn)
  /-- NVME_DONE (R426): A write of HOST_BLK_DONE3 posts the result, writes read data and completes the command. -/
  | nvmeDone (m : Master) (v : Word)
  /-- NVME_TIMEOUT (R426): A command without DONE for HOST_BLK_TMO ms completes with Transient Transport Error. -/
  | nvmeTimeout (i : Fin 65536)
  /-- NVME_CC_DISABLE (R426): A write of CC.EN = 0 stops fetching, and RDY falls once outstanding commands end. -/
  | nvmeCcDisable (l : Fin 4)
  /-- HBM_ACCESS (R433): A controller serves one 64-byte request by class weight through the redirect table. -/
  | hbmAccess (q : HbmReq)
  /-- RH_WINDOW_STEP (R436): At each window ÷ 8 step the oldest activation sub-count is dropped. -/
  | rhWindowStep (n : Fin 4)
  /-- RH_LOG_READ_HEAD (R437): A read of MEM_RH_LOG0 latches the head row-disturbance log entry. -/
  | rhLogReadHead (m : Master) (n : Fin 4)
  /-- RH_LOG_READ_POP (R437): A read of MEM_RH_LOG3 removes the head row-disturbance log entry. -/
  | rhLogReadPop (m : Master) (n : Fin 4)
  /-- PAGE_IDLE_PRECHARGE (R434): A bank's idle timer expires and the controller precharges the bank. -/
  | pageIdlePrecharge (n : Fin 4) (rank : Fin 96) (bank : Fin 64)
  /-- TEMP_READOUT (R435): Each millisecond the stack temperature is read and the refresh window and delays adjusted. -/
  | tempReadout (n : Fin 4) (t : Option (Fin 256))
  /-- REFRESH (R435): A per-bank refresh is issued on its turn in the refresh window. -/
  | refresh (n : Fin 4)
  /-- PATROL_SCRUB (R438): The patrol scrubber reads and corrects one line in the maintenance class. -/
  | patrolScrub (n : Fin 4) (err : HbmErr)
  /-- RAS_RETIRE (R440): RAS command RETIRE takes a logical rank out of service toward a spare. -/
  | rasRetire (m : Master) (n : Fin 4) (v : Word)
  /-- RAS_VERIFY (R444): RAS command VERIFY runs the verification pattern on a spare or retired rank. -/
  | rasVerify (m : Master) (n : Fin 4) (v : Word)
  /-- VERIFY_DONE (R444): The verification of a rank completes with its result and VERIFY_DONE is raised. -/
  | verifyDone (n : Fin 4) (pass : Bool)
  /-- MIGRATION_COPY_LINE (R440): One line of a failing rank is copied to the spare in a locked step. -/
  | migrationCopyLine (n : Fin 4) (bad : Bool)
  /-- RETIREMENT_RECORD_WRITE (R442): SYS rewrites both copies of the retirement record within 100 ms of RANK_RETIRED. -/
  | retirementRecordWrite
  /-- SELF_REFRESH_ENTRY (R446): A stack idle for 10 ms closes its pages and issues self-refresh entry. -/
  | selfRefreshEntry (n : Fin 4) (abandon : Bool)
  /-- SELF_REFRESH_EXIT (R446): After minimum residency with requests held, the stack leaves self-refresh and serves them. -/
  | selfRefreshExit (n : Fin 4)
  /-- BLOCK_FATAL (R451): A block-level uncorrectable error holds the block and records it in GW_FATAL_INFO. -/
  | blockFatal (r : Fin 26) (b : Fin 64)
  /-- BLOCK_AUTO_RELEASE (R451): 10 µs after a BLOCK_FATAL error SYS releases the block with a new epoch. -/
  | blockAutoRelease (r : Fin 26) (b : Fin 64)
  /-- REGION_FATAL (R453): A region-level error enters ABSENT at once without a drain. -/
  | regionFatal (r : Fin 26) (b : Fin 64)
  /-- RGN_RUN (R453): A write of RUN to SYS_RGN_RESET releases the region or ends RESTORE. -/
  | rgnRun (m : Master) (r : Fin 26)
  /-- RGN_RESET (R453): A write of RESET fences the region and runs its drain step. -/
  | rgnReset (m : Master) (r : Fin 26)
  /-- RGN_POWER_DOWN (R460): A write of POWER_DOWN fences the region and removes its power. -/
  | rgnPowerDown (m : Master) (r : Fin 26)
  /-- REGION_ABSENT (R453): The drain ends, held requests are answered ABSENT, the epoch increments and blocks are held. -/
  | regionAbsent (r : Fin 26)
  /-- REGION_RELEASE (R453): Once released and its dependencies run, the region enters RELEASING and its blocks are released. -/
  | regionRelease (r : Fin 26)
  /-- REGION_READY (R453): The region's write list is applied, the region enters RUN and REGION_READY is raised. -/
  | regionReady (r : Fin 26)
  /-- REPLY_TIMEOUT (R457): A request held 100 µs without a reply is answered TIMEOUT. -/
  | replyTimeout (r : Fin 26)
  /-- EPOCH_DISCARD (R457): A reply carrying a stale region epoch is discarded by the requester's gateway. -/
  | epochDiscard (r : Fin 26)
  /-- D2D_MODULE_FAIL (R8): A die-to-die module fails its link check and the device runs on the remaining modules. -/
  | d2dModuleFail
  /-- CHIP_FATAL (R463): A chip-fatal cause latches its code, drives IRQ_N and squelches F-lanes, PPS and line transmitters. -/
  | chipFatal (c : ChipCause)
  /-- FAILSAFE_AUTO_RESET (R463): 20 ms after a chip-fatal cause with AUTO_RESET set, a chip reset and cold boot follow. -/
  | failsafeAutoReset
  /-- SVC_STATUS (R472): Service message STATUS returns boot, image and slot state. -/
  | svcStatus (h : SvcHead) (body : List Byte)
  /-- SVC_REG_READ (R472): Service message REG_READ reads a register under the service port's rights. -/
  | svcRegRead (h : SvcHead) (body : List Byte)
  /-- SVC_REG_WRITE (R472): Service message REG_WRITE writes a register under the service port's rights. -/
  | svcRegWrite (h : SvcHead) (body : List Byte)
  /-- SVC_OPEN (R472): Service message OPEN erases a slot and opens an update session. -/
  | svcOpen (h : SvcHead) (body : List Byte) (ok : Bool)
  /-- SVC_WRITE (R473): Service message WRITE places a 1 KiB block at its offset in the slot. -/
  | svcWrite (h : SvcHead) (body : List Byte) (ok : Bool)
  /-- SVC_CLOSE (R473): Service message CLOSE ends the session when every block is written and marks the slot WRITTEN. -/
  | svcClose (h : SvcHead) (body : List Byte) (ok : Bool)
  /-- SVC_ABORT (R472): Service message ABORT ends the session and leaves the slot EMPTY. -/
  | svcAbort (h : SvcHead) (body : List Byte)
  /-- SVC_ACTIVATE (R472): Service message ACTIVATE issues the ACTIVATE image command. -/
  | svcActivate (h : SvcHead) (body : List Byte)
  /-- SVC_RESET (R472): Service message RESET replies and then causes a chip reset. -/
  | svcReset (h : SvcHead) (body : List Byte)
  /-- SVC_RECOVERY (R472): Service message RECOVERY sets RECOVERY_REQ and causes a chip reset. -/
  | svcRecovery (h : SvcHead) (body : List Byte)
  /-- SVC_ATTEST (R472): Service message ATTEST returns part of a signed report for the nonce. -/
  | svcAttest (h : SvcHead) (body : List Byte)
  /-- SESSION_TIMEOUT (R473): A session with no message for 60 s ends as ABORT does. -/
  | sessionTimeout
  /-- ACTIVATE (R474): Image command ACTIVATE names the target slot for the next boot in the boot record. -/
  | activate (m : Master) (v : Word)
  /-- CONFIRM (R475): Image command CONFIRM ends HEALTH_PENDING, confirms the slot and unlocks the settings store. -/
  | confirm (m : Master) (v : Word)
  /-- FALLBACK (R474): Image command FALLBACK sets FALLBACK_REQ, or starts a fallback Glide during a Glide. -/
  | fallback (m : Master) (v : Word)
  /-- GLIDE (R480): Image command GLIDE starts a warm boot into SLOT_SEL, suspending aging and opening the table-write queue. -/
  | glide (m : Master) (v : Word)
  /-- RESUME (R481): Image command RESUME ends the Glide control gap and applies the queued table writes. -/
  | resume (m : Master) (v : Word)
  /-- IMG_RECOVERY (R474): Image command RECOVERY sets RECOVERY_REQ and resets when RESET is set. -/
  | imgRecovery (m : Master) (v : Word)
  /-- FUSE_SEC (R474): Image command FUSE_SEC blows security-version fuses up to the booted image's SEC_VERSION. -/
  | fuseSec (m : Master) (v : Word)
  /-- REVOKE_KEY (R474): Image command REVOKE_KEY blows the revocation fuse of an image-signing key. -/
  | revokeKey (m : Master) (v : Word)
  /-- GLIDE_IMAGE_VERIFIED (R480): The Glide image copy and check complete and the CPU regions restart into it, or the Glide fails back. -/
  | glideImageVerified (readErr : Bool)
  /-- GAP_TIMEOUT (R480): A control gap without RESUME ends at 30 s and GAP_TIMEOUT is raised. -/
  | gapTimeout
  /-- GLIDE_WATCHDOG (R483): A Glide still running at t0 + 180 s sets FALLBACK_REQ if pending and causes a chip reset. -/
  | glideWatchdog
  /-- SET_WRITE (R478): A write of SYS_SET_CMD writes a new settings copy, refused while LOCKED or BUSY. -/
  | setWrite (m : Master) (v : Word)
  /-- SET_DONE (R478): The settings write completes and SET_DONE or SET_ERR is raised. -/
  | setDone (err : Bool)
  /-- ATT_REPORT (R487): Command REPORT starts building a signed attestation report for the nonce. -/
  | attReport (m : Master)
  /-- ATT_EXTEND (R485): Command EXTEND extends M6 by SYS_ATT_EXT0–15. -/
  | attExtend (m : Master)
  /-- ATT_DONE (R487): The report is written to its address and ATT_DONE is raised. -/
  | attDone
  /-- THERM_SAMPLE (R503): Every 100 µs SYS samples the die sensors and applies warn, throttle and trip thresholds. -/
  | thermSample (sensors : List (Option (BitVec 8)))
  /-- DIE_TO_DIE_LINK_UP (R79): At boot the die-to-die link completes its bring-up on 16 or 15 modules, or on fewer than 15 and the device enters RECOVERY with code 0x05. -/
  | dieToDieLinkUp (modules : Fin 17)
  /-- POOL_CACHE_REFILL (R266): A buffer pool's on-chip pointer cache that holds 256 or fewer entries is refilled with a burst of 256 from the pool's ring in HBM. -/
  | poolCacheRefill (p : Fin 256)
  /-- POOL_CACHE_DRAIN (R266): A buffer pool's on-chip pointer cache that holds 768 or more entries drains a burst of 256 to the pool's ring. -/
  | poolCacheDrain (p : Fin 256)
  /-- CONFIGURATION_REQUEST (R407): HOST answers a PCIe configuration request to one of a link's functions, with Configuration Request Retry Status until the HOST write list is applied. -/
  | configurationRequest (l : Fin 4) (fn : Fin 3)
  /-- NVME_CONTROLLER_ENABLE (R424): A host write of CC.EN = 1 to a block function enables its NVMe controller, so RDY rises and fetching may start, and clears the CSTS.CFS state left by a HOST reset. -/
  | nvmeControllerEnable (l : Fin 4)
  /-- PPS_OUT_PULSE_END (R57): TIME_PPSOUT_WIDTH after its edge, a PPS output's pulse ends and the pin returns to its idle level. -/
  | ppsOutPulseEnd (n : Fin 4)
  /-- SUPPLY_STATUS_UPDATE (R508): Every 1 ms SYS updates SYS_PWR_STAT with the measured VIN12, the package input power, the supply and rail flags and the SVC_LOS pin level. -/
  | supplyStatusUpdate (x : SupplyStat)
  /-- NEIGHBOUR_DISCOVERY_OR_ARP (R471): A service-port frame that is IPv6 neighbour discovery, or ARP with IP4_EN set, is answered, and any other non-protocol frame is discarded and counted. -/
  | neighbourDiscoveryOrArp (f : SvcFrame)
  deriving DecidableEq, Repr

end Sys2Proof
end

