-- ==== Sys2Proof/Decode.lean ====
section
/-! DEFINITION. The decoder of command words: no row of the opcode table gives a command bits, so no word spells one. -/

namespace Sys2Proof

/-- The command that a word spells by the table's bits: none, since the rows give no bits. -/
def decodeTableWord (_nbits _w : Nat) : Option Instr := none

end Sys2Proof
end

