-- ==== Sys2Proof/Machine/Codes.lean ====
section
/-! DEFINITION. The check codes and hashes the spec names: CRC-32 with a seed, CRC-16, Toeplitz, the internet checksum. -/

namespace Sys2Proof.Machine

/-- One bit of the reflected CRC-32 register, polynomial 0x04C11DB7 (R155). -/
def crc32Bit (c : Nat) : Nat := if c % 2 = 1 then (c / 2) ^^^ 0xEDB88320 else c / 2

def iterNat (f : Nat → Nat) : Nat → Nat → Nat
  | 0, x => x
  | n + 1, x => iterNat f n (f x)

def crc32Byte (c : Nat) (b : Byte) : Nat := iterNat crc32Bit 8 (c ^^^ b.toNat)

/-- CRC-32 of IEEE 802.3 started from `seed` (R155): the seed is loaded unchanged, and the result is complemented. -/
def crc32 (seed : Nat) (l : List Byte) : Nat := l.foldl crc32Byte seed ^^^ 0xFFFFFFFF

/-- The standard CRC-32. -/
def crc32Std (l : List Byte) : Nat := crc32 0xFFFFFFFF l

/-- One bit of a most-significant-first CRC-16, polynomial 0x1021. -/
def crc16Bit (c : Nat) : Nat := if 0x8000 ≤ c then (c * 2 % 65536) ^^^ 0x1021 else c * 2

/-- CRC-16 (CCITT polynomial) of a byte list from a start value. -/
def crc16 (seed : Nat) (l : List Byte) : Nat :=
  l.foldl (fun c b => iterNat crc16Bit 8 (c ^^^ (b.toNat * 256))) seed

/-- The bits of a byte list, most significant bit of each byte first. -/
def msbBits (l : List Byte) : List Bool := l.flatMap (fun b => (List.range 8).map (fun i => natBit b.toNat (7 - i)))

/-- Toeplitz hash (R155): `key` is the key as one number of `keyBits` bits, key bit 0 the most significant. -/
def toeplitzGo (key keyBits : Nat) : List Bool → Nat → Nat → Nat
  | [], _, h => h
  | b :: r, j, h =>
    toeplitzGo key keyBits r (j + 1) (if b then h ^^^ (key / 2 ^ (keyBits - 32 - j) % 2 ^ 32) else h)

def toeplitz (key keyBits : Nat) (l : List Byte) : Nat := toeplitzGo key keyBits (msbBits l) 0 0

/-- Sum of the 16-bit big-endian words of a byte list. -/
def wordSum : List Byte → Nat
  | [] => 0
  | [a] => a.toNat * 256
  | a :: b :: r => a.toNat * 256 + b.toNat + wordSum r

/-- One's-complement folding to 16 bits. -/
def fold16 (n : Nat) : Nat := if n = 0 then 0 else if n % 65535 = 0 then 65535 else n % 65535

/-- The internet checksum of a header whose checksum field reads 0. -/
def inetChecksum (l : List Byte) : Nat := 65535 - fold16 (wordSum l)

/-- Incremental update of RFC 1624: HC' = ~(~HC + ~m + m'). -/
def rfc1624 (hc m m' : Nat) : Nat := 65535 - fold16 ((65535 - hc) + (65535 - m) + m')

end Sys2Proof.Machine
end

