-- ==== Sys2Proof/Config.lean ====
section
/-! DEFINITION. What one device fixes and the values the spec leaves open. Each opaque constant has no body that a proof
can see: a statement about it holds whatever it is. -/

namespace Sys2Proof.Config

/-- Free values, drawn in order by the counter `State.freeCtr` (assumption 3). -/
opaque freeBits (w : Nat) : Nat → BitVec w

/-- Whether an inexact quotient `n / d` is taken to the integer above rather than the one below, where the spec does not
say how a value is rounded, or how a tie is (assumption 4). -/
opaque roundUp : Int → Nat → Bool

/-- The learned value of REF10M_IN as TIME_REF_FOFS shows it, by the tick at which it was learned: the measurement comes from the pin and
no command brings it in (R61). -/
opaque refLearned : Nat → BitVec 32

/-- Transmit (`true`) or receive delay of L-lane `lane` at a signalling rate in a copy of the calibration record, in 2^-32 ns (R50): the
spec gives the record no layout. -/
opaque laneDelay (copy1 : Bool) (lane rate : Nat) (tx : Bool) : BitVec 64

/-- How long after an instant (unit 2^-32 ns) the next point of a line port's launch grid comes: LINE measures the grid, and the spec
states no value of it (R52). -/
opaque launchWait : Nat → Nat → Nat

/-- Bank and row of a byte offset within an HBM rank: a fixed order that the spec does not state (R432). -/
opaque hbmBank : Nat → BitVec 6
opaque hbmRow : Nat → BitVec 18

/-- Interface delays of an HBM stack in a copy of the calibration record, by stack and entry of TABLE 0xF8, at 25 °C (`false`) and at
95 °C (`true`): the spec gives the record no layout (R443). -/
opaque hbmDelay (copy1 : Bool) (stack entry : Nat) (at95 : Bool) : BitVec 28

/-- Twice the cells per slot of a line port of another device: the cap of a demand record (R285). The device holds no value of a
peer's port rate, and the spec does not say where it takes one from. -/
opaque peerRate : Nat → Nat → Nat

/-- Speed of a line port of another device, by device and port: the speed condition of R260 needs it at the destination, which the
spec tells no peer's port speed. -/
opaque peerSpeed : Nat → Nat → Nat

/-- The package's fused device secret (R354, R469), 256 bits as bytes. -/
opaque deviceSecret : BitVec 256

/-- Digest of the boot ROM, fixed at manufacture (R485), 512 bits as bytes. -/
opaque romDigest : BitVec 512

/-- The four image-signing key digests in the boot ROM (R76). -/
opaque signerDigest : Nat → List (BitVec 8)

/-- Whether a Falcon-1024 signature over a digest verifies under a public key (R76): key, digest, signature. -/
opaque falconVerify : List (BitVec 8) → List (BitVec 8) → List (BitVec 8) → Bool

/-- Whether a signature over a digest verifies under one of the Quarazel manufacturing keys in the boot ROM (R75). -/
opaque manufacturingVerify : List (BitVec 8) → List (BitVec 8) → Bool

/-- A Falcon-1024 signature by a private key over a digest (R486): its length for a draw, taken modulo 1,281, and its bytes by
private key, digest, draw and place. -/
opaque falconLength : Nat → Nat
opaque falconSign : List (BitVec 8) → List (BitVec 8) → Nat → Nat → BitVec 8

/-- Whether a copy of the calibration record carries a right digest and signature (R75): the spec does not give its layout. -/
opaque calibrationOk : List (BitVec 8) → Bool

/-- Base increment that the oscillator offset of a calibration record asks for (R28, R79); taken only inside the range of R28. -/
opaque oscillatorBase : List (BitVec 8) → Nat

/-- Places in HBM system memory that the spec does not state: the two image areas (R479) and the area of the settings body (R477). -/
opaque imageArea : Bool → BitVec 40
opaque settingsArea : BitVec 40

end Sys2Proof.Config
end

