-- ==== Sys2Proof/Machine/State.lean ====
section
/-! DEFINITION. The state of the QZ9100: the register file, the table memories, the two byte memories (HBM and flash), and
for each chapter of the spec the state its rules name beyond the registers, as plain data. -/

namespace Sys2Proof.Machine

/-- Why a step stops with a fault. -/
inductive Fault where
  /-- Raised by no meaning: every command of this block has an effect the spec gives, on ill-formed operands too. It is there
  because the interface asks for a type of faults. Safe: no step ends in it. -/
  | illFormed
  deriving DecidableEq, Repr

/-- Why a command is refused. -/
inductive Refusal where
  /-- Raised by no arm: every command has its meaning. It would name a command without one. Safe: no step ends in it. -/
  | notModelled (mnemonic : String)
  deriving DecidableEq, Repr

/-- Answer of the register window to an access (R91), the first check that fails. `noWindow`: the window does not answer
(R68). `unsupported`: a host request outside the implemented BARs (R92). `fenced`: held by a region in FENCING (R455). -/
inductive AccCode where
  | ok | unmapped | widthErr | denied | absent | locked | noWindow | unsupported | fenced | cpRefused
  deriving DecidableEq, Repr

/-- What leaves the device, oldest first: replies to masters, frames, host writes, pin edges. -/
inductive Out where
  /-- A read's value. -/
  | reply (m : Master) (v : Nat)
  /-- An error completion, an ABSENT completion or a dropped write (R91). -/
  | refusedAccess (m : Master) (addr : Nat) (code : AccCode)
  /-- A frame on a line port, FCS included; `bad`: ended with an inverted FCS (R125). -/
  | lineTx (port : Nat) (bytes : List Byte) (bad : Bool)
  /-- What a port's reconciliation sublayer begins to send: remote fault, on local fault, or idle (R118). -/
  | lineFault (port : Nat) (remoteFault : Bool)
  /-- Bytes written to the memory behind host link `link`, with the PASID of the request. -/
  | hostWrite (link : Nat) (pasid : Option Nat) (addr : Nat) (bytes : List Byte)
  /-- Bits ORed into a 64-bit word of the memory behind a link (R420). -/
  | hostOr (link : Nat) (addr : Nat) (bits : Nat)
  /-- An MSI-X message: link, function, vector. -/
  | msix (link fn vec : Nat)
  /-- A completion entry of an NVMe queue, and its vector: link, queue, command identifier, dword 0, status field (R426). -/
  | nvmeDone (link queue cid dw0 status : Nat)
  /-- Answer to a PCIe configuration request: retry, or served (R407). -/
  | cfgAnswer (link fn : Nat) (retry : Bool)
  /-- An edge of PPS_OUTn to a level, at a time of its selected source (unit 2^-32 ns). -/
  | pps (n : Nat) (level : Bool) (at_ : Nat)
  /-- A CMIS write toward a module: cage, bank, page, offset, bytes (R134). -/
  | cmisWrite (cage bank page offset : Nat) (bytes : List Byte)
  /-- A matched module is set to high power with the application selected, counted from 1 (R84). -/
  | moduleUp (cage app : Nat)
  /-- What a request to HBM gets (R439): its tag, and the bytes read, or none where it gets ABSENT or an uncorrectable error. -/
  | hbmReply (tag : Nat) (data : Option (List Byte))
  /-- A slot on an F-lane (R306, R327, R328): lane, slot number, the working time at which the marker's first bit is at the ball, and the
  108,800 levels from 25.6 ns before it, two bits each, the first most significant. -/
  | laneTx (lane slot launch : Nat) (line : BitVec 217600)
  /-- A frame on the pins of an OVC port (R346), FCS excluded. -/
  | ovcTx (port : Nat) (frame : List Byte)
  /-- A reply of the service port (R472): TYPE with bit 7, SEQ, SESSION, STATUS, body. -/
  | svcReply (type seq session status : Nat) (body : List Byte)
  /-- The outcome of a register request of the service port that R91 refuses (STATUS 9), whose code the spec leaves to body byte 0. -/
  | svcRegError (type seq : Nat) (code : AccCode)
  /-- The service port's answer to neighbour discovery (true) or to ARP (R471). -/
  | svcNeighbour (ipv6 : Bool)
  /-- The time event message of TOD_OUT (R60): the edge's seconds, the leap fields, and the appended message words. -/
  | todTx (sec : Nat) (leap : Word) (more : List Word)
  deriving DecidableEq, Repr

/-! ## Packets -/

/-- What a decision does with a packet (R173, R189). -/
inductive Dest where
  | undecided
  | unicast (sysPort : Nat)
  | multicast (group : Nat)
  | processor (channel : Nat)
  | slice (slice qp : Nat)
  | drop
  deriving DecidableEq, Repr

/-- A packet inside the device: its bytes (no preamble, no FCS) and what travels with it. -/
structure Pkt where
  bytes : List Byte
  /-- Ingress local port and source kind (R150). -/
  port : Nat
  kind : Nat
  slice : Nat
  /-- Queue-pair or channel number. -/
  qp : Nat
  /-- Receive stamp in the port's stamp domain, when the MAC stamped it. -/
  stamp : Option Nat
  /-- Version bit: true is odd (R228). -/
  odd : Bool
  /-- Working time of acceptance. -/
  accepted : Nat
  /-- Dispatched before its tail arrived; bad tail (R260). -/
  cut : Bool
  bad : Bool
  /-- Order among the frames of an 8-lane port (R15, R17); for an exception packet the ingress pipeline that sent it. -/
  seq : Nat
  /-- Header vector (R150). -/
  hv : List Byte
  /-- IP_LOC, ECT and COLOR (R162). -/
  ipLoc : Nat
  ect : Bool
  color : Nat
  /-- CE mark asked for (R279). -/
  ce : Bool
  dest : Dest
  /-- Traffic class and rewrite index (R170). -/
  tc : Nat
  rewrite : Nat
  /-- Two-step message tag, or one-step operation asked for (R52, R54). -/
  tag : Option Nat
  oneStep : Bool
  /-- One more than the source device of a packet that crossed the fabric; 0 for one that did not. -/
  srcDev : Nat
  /-- The packet goes to the processor port as an exception (R153): its reason. -/
  exc : Option Nat
  /-- The version in which the device processes it, where it is foreign (R230). -/
  proc : Option Bool
  deriving DecidableEq, Repr

/-- The version a packet is looked up in: its own, or that in which a foreign packet is processed (R229, R230). -/
def Pkt.ver (k : Pkt) : Bool := k.proc.getD k.odd

def Pkt.empty : Pkt where
  bytes := []
  port := 0
  kind := 0
  slice := 0
  qp := 0
  stamp := none
  odd := false
  accepted := 0
  cut := false
  bad := false
  seq := 0
  hv := []
  ipLoc := 0
  ect := false
  color := 0
  ce := false
  dest := .undecided
  tc := 0
  rewrite := 0
  tag := none
  oneStep := false
  srcDev := 0
  exc := none
  proc := none

/-! ## Chapter 2: working time -/

/-- TIME_DOM_STAT.STATE. -/
inductive DomState where
  | free | lock | snow
  deriving DecidableEq, Repr

/-- One time domain (R27 to R36, R41). Time values count 2^-32 ns; frequency words count LSB; offsets count 2^-16 ns. -/
structure Domain where
  /-- SEC, NS and FRAC as one number. -/
  value : Nat
  /-- The 40-bit base increment in force (R28). -/
  base : Nat
  state : DomState
  /-- Integral term I and the held I of Snowplough. -/
  iTerm : Int
  iHold : Int
  /-- Frequency word F in force. -/
  freq : Int
  /-- Remaining Snowplough target, in 2^-32 ns. -/
  target : Int
  /-- Offset FIFO, oldest first (R30). -/
  fifo : List Int
  /-- Consecutive rejected offsets, their values (newest first), and accepted offsets in this Snowplough. -/
  rejects : Nat
  rejected : List Int
  exits : Nat
  /-- Accepted offsets, newest first, as far back as VALIDN can ask (R35). -/
  accepted : List Int
  /-- Tick of the last accepted offset. -/
  lastAccept : Nat
  lastOffset : Int
  valid : Bool
  /-- A step that takes effect on the next tick, and whether LOCK comes with it (R31, R36). -/
  stepNext : Option (Int × Bool)
  /-- A write of MODE = FREE takes effect on the next tick (R31). -/
  freeNext : Bool
  /-- Seconds armed by SETSEC (R36). -/
  secArm : Option Nat
  /-- Whether a seconds load has happened since the chip reset (DECLARE_FIRST, R82). -/
  secLoaded : Bool
  /-- Own state as it stands in the quality (R41), the anchor's reported state, and a reported change with its slot number. -/
  ownState : DomState
  reported : Option DomState
  reportPend : Option (DomState × Nat)
  /-- On the anchor: a change being announced, with its effective slot number (R41). -/
  announce : Option (DomState × Nat)
  quality : Bool
  /-- Two-way offsets have replaced one-way ones (R46). -/
  twoWay : Bool
  /-- Fabric offset measured in the running cycle, pushed at the next cycle start (R45, R46). -/
  fabricNext : Option Int
  /-- The last tick rolled NS into SEC (R36). -/
  rolled : Bool
  /-- For each PPS_IN: this domain's stamp of the last edge; a step or a seconds load of the domain moves it with the domain (R59). -/
  ppsEdge : List (Option Int)
  /-- The servo has taken an accepted offset since the chip reset, the one that steps the domain out of FREE among them
  (DECLARE_FIRST, R82). -/
  tookOffset : Bool
  deriving DecidableEq, Repr

/-- One entry of a transmit timestamp queue (R54, R56): tag and stamp. -/
structure TsqEntry where
  tag : Nat
  stamp : Nat
  deriving DecidableEq, Repr

/-- One record of the loss log (R55, R56). -/
structure LossRec where
  tag : Nat
  port : Nat
  sec : Nat
  deriving DecidableEq, Repr

/-- One-step frame held by LINE until its departure instant (R52); `bad`: its tail is bad (R125). -/
structure OneStep where
  port : Nat
  td : Nat
  bytes : List Byte
  bad : Bool
  deriving DecidableEq, Repr

/-- State of the TIME region (chapter 2) beyond its registers. -/
structure TimeSt where
  /-- Count of 1.4 GHz ticks. -/
  ticks : Nat
  cobalt : Domain
  umber : Domain
  active : Dom
  wtValid : Bool
  /-- Continuity offset C, in 2^-32 ns. -/
  cont : Int
  /-- Slot number at which a SWITCH = 0b01 takes effect; the instant of an armed timed switch. -/
  switchSlot : Option Nat
  switchAt : Option Nat
  /-- First slot at whose start an armed timed switch may act: the next one when it was armed, or when WT_VALID was set (R40, R510). -/
  switchFrom : Nat
  /-- TIME_WT_DIFF was within the limit at the previous update (R42). -/
  diffWithin : Bool
  /-- Time at which Cobalt's quality became good (R40 REVERT). -/
  cobaltGoodSince : Option Nat
  /-- Next slot and next second whose events have not fired. -/
  nextSlot : Nat
  nextSecond : Nat
  /-- Before WT_VALID: one more than the number of the cycle whose one-way offsets have been pushed last (R46). -/
  joinCycle : Nat
  /-- PPS outputs: next second to mark, pin level, and the time of the edge of a running pulse. -/
  ppsNext : List Nat
  ppsPin : List Bool
  ppsPulse : List (Option Nat)
  /-- Second of the last PPS_OUT0 edge whose ToD message is still due (R60). -/
  todDue : Option Nat
  /-- PPS inputs: tick of the last edge or enable, and whether its loss has been raised. -/
  ppsInTick : List Nat
  ppsInLost : List Bool
  /-- Tick of the last edge itself, for R59's 900 ms. -/
  ppsInEdge : List (Option Nat)
  todRx : List Byte
  refQualified : Bool
  /-- The last tick on which the learned value of REF10M_IN was taken, since the last qualification (R61). -/
  refTick : Option Nat
  /-- Transmit timestamp queues by port; the loss log; of each the head that each master has latched, by `whoCode` (R56, R96). -/
  tsq : List (List TsqEntry)
  tsqLatch : List (Nat × Option TsqEntry)
  loss : List LossRec
  lossLatch : List (Nat × Option LossRec)
  lossOvf : Nat
  oneStep : List OneStep
  /-- SEQ of the PTM record of each link (R63). -/
  ptmSeq : List Nat
  deriving DecidableEq, Repr

/-- A domain right after reset: FREE at the nominal base increment (R28, R66). -/
def Domain.reset : Domain where
  value := 0
  base := 3067833783
  state := .free
  iTerm := 0
  iHold := 0
  freq := 0
  target := 0
  fifo := []
  rejects := 0
  rejected := []
  exits := 0
  accepted := []
  lastAccept := 0
  lastOffset := 0
  valid := false
  stepNext := none
  freeNext := false
  secArm := none
  secLoaded := false
  ownState := .free
  reported := none
  reportPend := none
  announce := none
  quality := false
  twoWay := false
  fabricNext := none
  rolled := false
  ppsEdge := [none, none]
  tookOffset := false

def TimeSt.reset : TimeSt where
  ticks := 0
  cobalt := Domain.reset
  umber := Domain.reset
  active := .cobalt
  wtValid := false
  cont := 0
  switchSlot := none
  switchAt := none
  switchFrom := 0
  diffWithin := true
  cobaltGoodSince := none
  nextSlot := 0
  nextSecond := 0
  joinCycle := 0
  ppsNext := [0, 0, 0, 0]
  ppsPin := [false, false, false, false]
  ppsPulse := [none, none, none, none]
  todDue := none
  ppsInTick := [0, 0]
  ppsInLost := [false, false]
  ppsInEdge := [none, none]
  todRx := []
  refQualified := false
  refTick := none
  tsq := List.replicate 64 []
  tsqLatch := []
  loss := []
  lossLatch := []
  lossOvf := 0
  oneStep := []
  ptmSeq := [0, 0, 0, 0]

/-! ## Chapter 3: start-up -/

/-- The device states of R68. -/
inductive DevState where
  | off | reset | standby | boot | running | halt | recovery | glide
  deriving DecidableEq, Repr

/-- State of the boot controller, of the supplies and the reset pin, and of the fuses. -/
structure BootSt where
  dev : DevState
  /-- RWL fields are locked: the image load is complete (R5). -/
  imageLoaded : Bool
  /-- FLAGS of the running image (R77). -/
  imageFlags : Nat
  /-- The part is a QZ9100-H48 (R430): the ordering-code fuse (R75). -/
  h48 : Bool
  /-- The board identity memory as accepted; empty before (R81). -/
  bid : List Byte
  /-- The fabric regions are down under ISOLATED_OK (R87). -/
  isolated : Bool
  /-- Regions out of reset since the chip reset, one bit each (R68, R79); SYS always is. -/
  live : Nat
  /-- VSB33 has risen; it counts as present; VIN12 is valid; every rail is in tolerance; RESET_N is high (R68, R499). -/
  vsb : Bool
  vsbPresent : Bool
  vin12 : Bool
  rails : Bool
  resetN : Bool
  /-- Blown security-version fuses and revocation fuses (R76, R474). -/
  secFuses : Nat
  keyRevoked : Nat
  /-- BOOT_START has run; the candidate slot (1 A, 2 B); this boot has tried the other slot (R73). -/
  started : Bool
  slot : Nat
  triedOther : Bool
  /-- Steps of R79 that are complete: die-to-die link, board identity, HBM. -/
  d2dDone : Bool
  bidDone : Bool
  hbmDone : Bool
  /-- The image in the system area, once verified (R76); what the identity record gave (R75); calibration copy 1 is in use. -/
  image : List Byte
  identOk : Bool
  calCopy1 : Bool
  /-- Write lists of R79's order already applied; a failure of code 0x20 or 0x21 that leads to HALT. -/
  applied : Nat
  haltDue : Bool
  /-- In the list being applied: the entry the loader stands at, and the tick since which it polls there (R78). -/
  listPos : Nat
  pollTick : Option Nat
  /-- The firmware is released; the CMIS sweep is complete; the health timer runs (R74). -/
  released : Bool
  swept : Bool
  health : Bool
  /-- Tick of the release of firmware, where the health timer starts (R475). -/
  healthTick : Nat
  /-- F-lanes that have spent SYS_FWD_WAIT seconds (R80); WT_LIMIT of the TIME section; WT_LATE raised (R82). -/
  lanesLate : List Nat
  wtLimit : Nat
  wtLate : Bool
  /-- DECLARE_FIRST is still due in Cobalt, in Umber (R82). -/
  declCobalt : Bool
  declUmber : Bool
  /-- MOD_RST_N 0 to 63 are high (R499); the tick of t0 of R79. -/
  modRst : Bool
  startTick : Nat
  /-- Copies of the settings store that this boot cannot read (R70). -/
  setUnread : List Nat
  deriving DecidableEq, Repr

/-- A board with standby power only: VSB33 present, RESET_N high, VIN12 absent (SYS_BOOT_STAT resets to STANDBY). -/
def BootSt.reset : BootSt where
  dev := .standby
  imageLoaded := false
  imageFlags := 0
  h48 := false
  bid := []
  isolated := false
  live := 0
  vsb := true
  vsbPresent := true
  vin12 := false
  rails := false
  resetN := true
  secFuses := 0
  keyRevoked := 0
  started := false
  slot := 0
  triedOther := false
  d2dDone := false
  bidDone := false
  hbmDone := false
  image := []
  identOk := false
  calCopy1 := false
  applied := 0
  haltDue := false
  listPos := 0
  pollTick := none
  released := false
  swept := false
  health := false
  healthTick := 0
  lanesLate := []
  wtLimit := 0
  wtLate := false
  declCobalt := false
  declUmber := false
  modRst := false
  startTick := 0
  setUnread := []

/-! ## Chapter 4: the register window -/

/-- A latch of R96: the address of the latching word and the words latched with it. -/
structure Latch where
  addr : Nat
  words : List Word
  deriving DecidableEq, Repr

def Latch.none_ : Latch := ⟨0, []⟩

/-- Words 0 to 3 of an integrity-log entry (R107). -/
structure IntgEntry where
  w0 : Word
  w1 : Word
  w2 : Word
  w3 : Word
  deriving DecidableEq, Repr

/-- A snapshot command that waits for its instant (R109). -/
inductive SnapCmd where
  | copy | freeze
  deriving DecidableEq, Repr

/-- State of the register window (chapter 4) beyond the registers. -/
structure CtlSt where
  /-- Last good pair of each CP register, by address; an unlisted one is its reset pair (R102). -/
  cpGood : List (Nat × BitVec 64)
  /-- Read latches by master and block (R96). -/
  latches : List (Nat × Latch)
  /-- Integrity log, oldest first, the head that each master has latched, by `whoCode`, and its overflow count (R96, R107). -/
  intg : List IntgEntry
  intgLatch : List (Nat × Option IntgEntry)
  intgOvf : Nat
  /-- Snapshot: armed command and instant, copy under way with its instant, frozen, thaw instant, late, SEQ (R109). -/
  snapArmed : Option (SnapCmd × Nat)
  snapCopy : Option Nat
  snapFrozen : Bool
  snapThaw : Option Nat
  snapLate : Bool
  snapSeq : Nat
  /-- Regions absent at the instant of the running copy. -/
  snapAbsent : Nat
  /-- Counters as they stood at the instant of the running copy. -/
  snapRegs : List (Nat × Word)
  snapTabs : List (Nat × Entry)
  /-- Accesses held by regions in FENCING (R455): region, master, address. -/
  heldAcc : List (Nat × Master × Nat)
  deriving DecidableEq, Repr

def CtlSt.reset : CtlSt where
  cpGood := []
  latches := []
  intg := []
  intgLatch := []
  intgOvf := 0
  snapArmed := none
  snapCopy := none
  snapFrozen := false
  snapThaw := none
  snapLate := false
  snapSeq := 0
  snapAbsent := 0
  snapRegs := []
  snapTabs := []
  heldAcc := []

/-! ## Chapters 6 and 7: ingress pipelines -/

/-- A parse engine (R147). -/
structure Engine where
  busy : Bool
  pkt : Pkt
  pc : Nat
  /-- General registers G0 to G7. -/
  g : List Nat
  cursor : Nat
  eq : Bool
  lt : Bool
  /-- Instructions executed. -/
  count : Nat
  /-- Layers marked, one bit each. -/
  marked : Nat
  /-- Hash profile selected for HASH0. -/
  hsel0 : Option Nat
  /-- Hash profile selected for HASH1. -/
  hsel1 : Option Nat
  deriving DecidableEq, Repr

def Engine.idle : Engine := ⟨false, Pkt.empty, 0, [0, 0, 0, 0, 0, 0, 0, 0], 0, false, false, 0, 0, none, none⟩

/-- A dispatched packet in dispatch order (R143): still in an engine, or parsed. -/
inductive OrderEnt where
  | running (engine : Nat)
  | parsed (p : Pkt)
  deriving DecidableEq, Repr

/-- One probe a route lookup has still to make: length, and whether it is of the far part (R181). -/
structure Cand where
  len : Nat
  far : Bool
  deriving DecidableEq, Repr

/-- What a lookup supplies (R172, R173). -/
inductive Choice where
  | nextHop (n : Nat)
  | ecmp (g : Nat)
  | drop
  | processor (channel : Nat)
  | slice (n : Nat)
  | unicast (sysPort : Nat)
  | multicast (group : Nat)
  deriving DecidableEq, Repr

/-- What the steps before the MODE lookup give a packet (R170, R172): the EM result that stands, its TC, the port's or
slice's TC, the VRF, and the BD with its learning enable. -/
structure LookCtx where
  em : Option Choice
  emTc : Option Nat
  inTc : Nat
  vrf : Nat
  bd : Option Nat
  learn : Bool
  deriving DecidableEq, Repr

/-- A route lookup that waits in the long-probe or the far lane (R182, R187): its packet, what it holds, the probes left. -/
structure LaneEnt where
  pkt : Pkt
  ctx : LookCtx
  cands : List Cand
  deriving DecidableEq, Repr

/-- A decision in dispatch order: none while its lookup is in the long-probe lane (R183). -/
inductive RelEnt where
  | ready (p : Pkt)
  | waiting (id : Nat)
  deriving DecidableEq, Repr

/-- An ingress pipeline. -/
structure PipeSt where
  lineIn : List Pkt
  recircIn : List Pkt
  hostIn : List Pkt
  procIn : List Pkt
  /-- Which of recirculation, host and processor is asked first next (R16). -/
  rr : Nat
  fifo : List Pkt
  engines : List (Nat × Engine)
  order : List OrderEnt
  release : List RelEnt
  longLane : List (Nat × LaneEnt)
  longNext : Nat
  farLane : List LaneEnt
  /-- Packets that have left the pipeline toward the buffer, oldest first. -/
  toBuf : List Pkt
  /-- Exception meter: what has been spent, in 1/1,400,000 packet, and the tick it stood at (R153). -/
  excSpent : Nat
  excTick : Nat
  deriving DecidableEq, Repr

def PipeSt.reset : PipeSt where
  lineIn := []
  recircIn := []
  hostIn := []
  procIn := []
  rr := 0
  fifo := []
  engines := []
  order := []
  release := []
  longLane := []
  longNext := 0
  farLane := []
  toBuf := []
  excSpent := 0
  excTick := 0

/-! ## Chapter 5: line ports -/

/-- State of one line port beyond its registers. -/
structure PortSt where
  /-- Ticks at which a received PAUSE (index 0) and the PFC classes 0 to 7 (indexes 1 to 8) let go (R126). -/
  stopUntil : List (Option Nat)
  /-- A wake is under way; the link was lost during sleep; SLEEP = 1 was written while DISABLED or HELD (R118, R130). -/
  waking : Bool
  linkLost : Bool
  sleepPend : Bool
  /-- The next frame of an 8-lane port goes to the second pipeline of the pair; its order number (R15). -/
  second : Bool
  seq : Nat
  /-- The same for the frames that the port sends. -/
  egSecond : Bool
  egSeq : Nat
  /-- Flow-control frames QUE1 has asked for: class enable bits (256 is PAUSE) and quanta (R126, R280). -/
  fcReq : List (Nat × Nat)
  /-- Frames the egress pipelines have handed to the MAC, oldest first. -/
  txq : List Pkt
  deriving DecidableEq, Repr

def PortSt.reset : PortSt where
  stopUntil := [none, none, none, none, none, none, none, none, none]
  waking := false
  linkLost := false
  sleepPend := false
  second := false
  seq := 0
  egSecond := false
  egSeq := 0
  fcReq := []
  txq := []

/-- What the MODX section expects of a cage (R83). -/
structure ModExpect where
  role : Nat
  flags : Nat
  ident : Nat
  hostIf : Nat
  mediaIf : Nat
  maxPower : Nat
  lanes : Nat
  firstLane : Nat
  oui : Nat
  deriving DecidableEq, Repr

def ModExpect.none_ : ModExpect := ⟨0, 0, 0, 0, 0, 0, 0, 0, 0⟩

/-- State of one module cage (R84, R85, R132, R133). -/
structure CageSt where
  expect : ModExpect
  present : Bool
  /-- Polls in a row without an acknowledge. -/
  missed : Nat
  /-- A check of R85 is due. -/
  checkDue : Bool
  /-- The cage's ports or F-lanes are held down, lasers off. -/
  held : Bool
  /-- The module reported ModuleFault at the latest read of its state (R133). -/
  faulty : Bool
  deriving DecidableEq, Repr

def CageSt.reset : CageSt := ⟨ModExpect.none_, false, 0, false, false, false⟩

/-- State of the line ports and modules. -/
structure LineSt where
  ports : List (Nat × PortSt)
  cages : List (Nat × CageSt)
  /-- A CMIS access under way: true for a write (R134). -/
  modAcc : Option Bool
  /-- Live values of per-second counters at the last second, by address of the live counter (R120, R344). -/
  secBase : List (Nat × Nat)
  deriving DecidableEq, Repr

def LineSt.reset : LineSt := ⟨[], [], none, []⟩

/-! ## Chapter 7: maintenance and the learn engines -/

/-- A request in a learn engine's FIFO (R198): a learn or a move of the data path, or a firmware command with what its
window held. -/
inductive LrnReq where
  | learn (bd mac dest slice : Nat)
  | move (bd mac dest slice : Nat)
  | insert (data : Nat)
  | delete (data : Nat)
  | search (data : Nat)
  | flush (what bd dest : Nat)
  deriving DecidableEq, Repr

/-- A sweep under way: the instant it started, the next location (R200). -/
structure Sweep where
  start : Nat
  next : Nat
  deriving DecidableEq, Repr

/-- A learned table's engine and notes. -/
structure LearnSt where
  fifo : List LrnReq
  /-- Records to post, oldest first, and the tick of the first (R199). -/
  notes : List (List Byte)
  noteTick : Nat
  /-- A background flush: its flags, BD and DEST. -/
  flush : Option (Nat × Nat × Nat)
  deriving DecidableEq, Repr

def LearnSt.reset : LearnSt := ⟨[], [], 0, none⟩

/-- Route-table maintenance and aging. -/
structure FwdSt where
  /-- Descriptor whose filter is being rebuilt (R186). -/
  rebuild : Option Nat
  learn : List (Nat × LearnSt)
  /-- Sweeps under way, by table: 0 to 3 learned, 4 + t exact-match; and one more than the last second each started at. -/
  sweeps : List (Nat × Option Sweep)
  lastSweep : List (Nat × Nat)
  deriving DecidableEq, Repr

def FwdSt.reset : FwdSt := ⟨none, [], [], []⟩

/-! ## Chapter 8: associative arrays -/

/-- An array entry as one value: words 0 to 2, key and mask. -/
structure AscEnt where
  words : Nat
  key : Nat
  mask : Nat
  deriving DecidableEq, Repr

/-- A run of the block mover (R219): its window, the places it shifts, its stride, its direction, the next place to copy, the
places copied to, and for INSERT_AT the new entry and its place. -/
structure AscMove where
  win : Nat
  first : Nat
  last : Nat
  stride : Nat
  down : Bool
  next : Nat
  left : Nat
  copied : List Nat
  new : Option (AscEnt × Nat)
  deriving DecidableEq, Repr

/-- State of one array beyond its registers and entries. -/
structure AscSt where
  move : Option AscMove
  /-- The move that a reset of the region or a hold of the block cut short (R224). -/
  cut : Option AscMove
  /-- Window commands that wait for a slot, oldest first: window and command (R216). -/
  cmds : List (Nat × Nat)
  /-- For each port, one more than the tick of its latest packet search; 0 before any (R216). -/
  searched : List Nat
  /-- Lines to rewrite after a false hit, oldest first. -/
  rewrite : List Nat
  /-- Tick since which a maintenance action has waited with no spare slot on any port; the port asked next. -/
  waitTick : Nat
  stealPort : Nat
  /-- Next line of the scrubber. -/
  scrub : Nat
  deriving DecidableEq, Repr

def AscSt.reset : AscSt := ⟨none, none, [], [0, 0, 0, 0], [], 0, 0, 0⟩

/-! ## Chapter 9: versions -/

/-- What a peer announced at its latest meeting (R237). -/
structure PeerVer where
  odd : Bool
  seq : Nat
  drained : Bool
  deriving DecidableEq, Repr

/-- State of block VER beyond its registers. -/
structure VerSt where
  /-- Instant at which the sealed version becomes current. -/
  commitAt : Option Nat
  /-- Instant of the last commit; RETIRE_LATE has been raised for it; working time since which condition 2 of R238 holds. -/
  lastT : Nat
  lateRaised : Bool
  cond2At : Option Nat
  peers : List (Nat × Option PeerVer)
  /-- Peers already counted in SYS_VER_SKEW for this commit. -/
  skewed : List Nat
  /-- The running batch: its t0, its slice, its entry count (R242). -/
  batch : Option (Nat × Nat × Nat)
  /-- In-flight counts by version bit (R236). -/
  inflEven : Nat
  inflOdd : Nat
  deriving DecidableEq, Repr

def VerSt.reset : VerSt := ⟨none, 0, false, none, [], [], none, 0, 0⟩

/-! ## Chapters 10 and 11: buffer and queues -/

/-- A packet of a queue, or of the replication FIFO, as it stands in B-SRAM. -/
structure QEnt where
  pkt : Pkt
  /-- Its cells, first to last; a shared copy names the original's. -/
  cells : List Nat
  /-- Packet share record, and whether this copy is the named last owner (R262). -/
  share : Option Nat
  owner : Bool
  /-- CT of R253; REMOTE_REPL of R263; read back from a stream (R258). -/
  ct : Bool
  remote : Bool
  readBack : Bool
  /-- Payload bytes a virtual output queue has released (R282). -/
  released : Nat
  /-- The packet counts against a line port's PFC count (R280). -/
  pfc : Bool
  deriving DecidableEq, Repr

/-- A queue: its on-chip part, what waits to be written to its stream, the stream, and the stream's pages with the byte
positions of its next write and next read. -/
structure QSt where
  items : List QEnt
  toSpill : List QEnt
  stream : List QEnt
  pages : List Nat
  wpos : Nat
  rpos : Nat
  /-- Tick of the last byte released, or of becoming non-empty (R284). -/
  tick : Nat
  deriving DecidableEq, Repr

def QSt.reset : QSt := ⟨[], [], [], [], 0, 0, 0⟩

/-- A packet share record (R262, R265). -/
structure ShareRec where
  pending : Nat
  freed : Bool
  cells : List Nat
  deriving DecidableEq, Repr

/-- A shared pool buffer (R265, R268): its named last owner, PENDING, whether the owner's free has arrived. -/
structure PoolShare where
  kind : Nat
  id : Nat
  pending : Nat
  freed : Bool
  deriving DecidableEq, Repr

/-- A pool's cache, the ring behind it, and the buffers allocated. -/
structure PoolSt where
  cache : List Nat
  ringHead : Nat
  ringCount : Nat
  allocated : Nat
  deriving DecidableEq, Repr

def PoolSt.reset : PoolSt := ⟨[], 0, 0, 0⟩

/-- One entry of the bad-free log (R269). -/
structure BadFree where
  addr : Nat
  reason : Nat
  kind : Nat
  id : Nat
  ns : Nat
  sec : Nat
  deriving DecidableEq, Repr

/-- Region BUF beyond its registers. -/
structure BufSt where
  /-- Cells that are allocated, by pointer. -/
  cells : List (Nat × Bool)
  /-- First bank of the next packet. -/
  bank : Nat
  /-- Queues: 0 to 524,287 virtual output queues, 2^20 + e egress queues. -/
  queues : List (Nat × QSt)
  /-- Page cache, the ring behind it, a fill under way, and a rebuild that waits for the ring's stack (R270). -/
  pageCache : List Nat
  ringHead : Nat
  ringCount : Nat
  initBusy : Bool
  ringDue : Bool
  /-- Replication FIFO; packet share records. -/
  repl : List QEnt
  shares : List (Nat × ShareRec)
  pools : List (Nat × PoolSt)
  poolShares : List (Nat × PoolShare)
  log : List BadFree
  logLatch : List (Nat × Option BadFree)
  logOvf : Nat
  deriving DecidableEq, Repr

def BufSt.reset : BufSt := ⟨[], 0, [], [], 0, 0, false, false, [], [], [], [], [], [], 0⟩

/-- A node of the egress hierarchy: committed and peak tokens (2^-16 byte; none is full), the working time of the last refill, the
deficits of the committed and excess passes, and the child asked first next. -/
structure NodeSt where
  ctok : Option Int
  ptok : Option Int
  refill : Nat
  defC : Int
  defE : Int
  nextC : Nat
  nextE : Nat
  deriving DecidableEq, Repr

def NodeSt.reset : NodeSt := ⟨none, none, 0, 0, 0, 0, 0⟩

/-- A packet in an egress pipeline: the local port it is for. -/
structure EgPkt where
  pkt : Pkt
  port : Nat
  deriving DecidableEq, Repr

/-- A grant at a source (R283): VALUE as recorded, the records received that have not taken effect (VALUE and receive stamp, the latest
last), credit left in bytes. -/
structure Grant where
  value : Nat
  next : List (Nat × Nat)
  credit : Nat
  deriving DecidableEq, Repr

def Grant.none_ : Grant := ⟨0, [], 0⟩

/-- A demand record held (R285): HIGH and TOTAL in cells as decoded, and its age in cycles. -/
structure Demand where
  high : Nat
  total : Nat
  age : Nat
  deriving DecidableEq, Repr

/-- Regions QUE0 and QUE1 and the egress pipelines beyond their registers. -/
structure QueSt where
  /-- Nodes by level × 2^20 + node; 0 port, 1 L1, 2 L2, 3 L3, 4 queue. -/
  nodes : List (Nat × NodeSt)
  /-- Classes sending flow-control frames, by port × 8 + class: tick of the last frame + 1 (R280). -/
  pfcOn : List (Nat × Nat)
  /-- Egress pipelines' inputs. -/
  egress : List (Nat × List EgPkt)
  /-- Packets on their way to HOST's links and to the processor port, oldest first. -/
  hostOut : List EgPkt
  procOut : List EgPkt
  /-- Source side: grants by destination system line port index (device × 64 + port), cycles since the last meeting by peer. -/
  grants : List (Nat × Grant)
  sinceMet : List (Nat × Nat)
  expired : List Nat
  /-- Round robins and deficits of R282: the port after the one served last with HIGH backlog, and without; by port × 8 + class. -/
  highNext : Nat
  portNext : Nat
  voqDef : List (Nat × Int)
  /-- Source side: backlog of the last demand record sent, by destination port index; destination side: demands held, by
  source × 64 + port; grants computed and last sent, by the same index; round robins per peer. -/
  lastHint : List (Nat × Nat)
  hintNext : List (Nat × Nat)
  demands : List (Nat × Option Demand)
  granted : List (Nat × Nat)
  lastSent : List (Nat × Nat)
  recNext : List (Nat × Nat)
  /-- Seeds that stand for the grants not listed, by local port. -/
  seeds : List (Nat × Nat)
  deriving DecidableEq, Repr

def QueSt.reset : QueSt := ⟨[], [], [], [], [], [], [], [], 0, 0, [], [], [], [], [], [], [], []⟩

/-! ## Chapters 12 and 13: the Haldar fabric -/

/-- A fabric cell (R309). `firstOfs` is 0x1FF where no packet header begins; `fill` is the payload bytes used, minus 1. -/
structure Cell where
  src : Nat
  dst : Nat
  seq : Nat
  dport : Nat
  odd : Bool
  bad : Bool
  hop : Bool
  idle : Bool
  firstOfs : Nat
  fill : Nat
  ceMask : Nat
  /-- Header bits 111:76, as received. -/
  rest : Nat
  payload : List Byte
  deriving DecidableEq, Repr

/-- A closed cell of this source, with the number of packets whose last byte it carries (R236). -/
structure SpreadCell where
  cell : Cell
  ends : Nat
  deriving DecidableEq, Repr

/-- The open cell of a stream (R311): its bytes, where its first header begins, headers begun, ECN results. -/
structure OpenCell where
  odd : Bool
  bytes : List Byte
  firstOfs : Option Nat
  heads : Nat
  ceMask : Nat
  bad : Bool
  ends : Nat
  deriving DecidableEq, Repr

/-- A cell in the relay or the resequencing area: its B-SRAM pointer, and the slot in which it arrived. -/
structure HeldCell where
  cell : Cell
  ptr : Nat
  slot : Nat
  deriving DecidableEq, Repr

/-- What FAB1 keeps for a source (R315, R316): EXP, the cells held in order of arrival, the deadline of a running timer, and the slot
of the last cell. -/
structure SourceSt where
  exp : Option Nat
  held : List HeldCell
  timer : Option Nat
  lastSlot : Nat
  deriving DecidableEq, Repr

def SourceSt.reset : SourceSt := ⟨none, [], none, 0⟩

/-- A reassembly context (R317): bytes of the packet in progress, its CE mark and version, and whether it is broken. -/
structure ContextSt where
  part : List Byte
  ce : Bool
  odd : Bool
  broken : Bool
  /-- General cells that the packet in progress holds; it found none and is lost (R250). -/
  cells : List Nat
  lost : Bool
  deriving DecidableEq, Repr

def ContextSt.reset : ContextSt := ⟨[], false, false, false, [], false⟩

/-- Receive side of a lane-slot (R337 to R340): alignment, a candidate (good markers so far, SLOT of the last), consecutive bad markers,
SLOT of the last good marker, RX_OK of the last good header, and the slip buffer's centre. -/
structure LaneSlotSt where
  aligned : Bool
  cand : Option (Nat × Nat)
  bad : Nat
  lastGood : Nat
  rxOk : Bool
  centre : Option Nat
  deriving DecidableEq, Repr

def LaneSlotSt.reset : LaneSlotSt := ⟨false, none, 0, 0, false, none⟩

/-- A good marker received on a lane (R334): its sender, its SLOT, the receive stamps in both domains (unit 2^-32 ns), and the working time. -/
structure RxMark where
  peer : Nat
  slot : Nat
  cobalt : Nat
  umber : Nat
  at_ : Nat
  deriving DecidableEq, Repr

/-- The transmit stamps of one slot of a lane (R334). -/
structure TxMark where
  slot : Nat
  cobalt : Nat
  umber : Nat
  deriving DecidableEq, Repr

/-- An F-lane: its markers of the last 16 slots, newest first; the counts of the running second (R344): corrected symbols, uncorrectable
codewords, bad markers, slips, bad HCRCs, slots; seconds in a row that passed the test of R343; and ADV in force. -/
structure FLaneSt where
  rx : List RxMark
  tx : List TxMark
  sec : List Nat
  run : Nat
  adv : Nat
  deriving DecidableEq, Repr

def FLaneSt.reset : FLaneSt := ⟨[], [], [0, 0, 0, 0, 0, 0], 0, 0⟩

/-- One OVC port (R345 to R347): frames toward the pins and frames from the pins with their working times, FCS excluded, and bytes of
the channel frame that is being sent; channel bytes received and not yet made into frames. -/
structure OvcSt where
  toPins : List (List Byte)
  fromPins : List (Nat × List Byte)
  sending : List Byte
  chanIn : List Byte
  deriving DecidableEq, Repr

def OvcSt.reset : OvcSt := ⟨[], [], [], []⟩

/-- State of the fabric regions beyond their registers and tables. -/
structure FabSt where
  /-- Open cells by destination device × 128 + DPORT; the spread FIFO, oldest first; next SEQ by destination. -/
  open_ : List (Nat × Option OpenCell)
  spread : List SpreadCell
  nextSeq : List (Nat × Nat)
  /-- Lane that took the last spread cell (R312). -/
  lastLane : Nat
  /-- Relay queues by destination, oldest cell first. -/
  relay : List (Nat × List HeldCell)
  sources : List (Nat × SourceSt)
  contexts : List (Nat × ContextSt)
  /-- Lane-slots by lane × 8 + position; F-lanes. -/
  slots : List (Nat × LaneSlotSt)
  lanes : List (Nat × FLaneSt)
  /-- Cells received and not yet handled, oldest first: lane, slot in which they arrived, bytes. -/
  rx : List (Nat × Nat × List Byte)
  /-- Instant of an armed bank swap. -/
  swapAt : Option Nat
  /-- Slots already filled, and cycle starts already run: one more than the slot number. -/
  filled : Nat
  cycleRun : Nat
  ovc : List (Nat × OvcSt)
  /-- External delays of the F-lanes from the TIME section: outward, inward, unit 2^-8 ns (R45, R82). -/
  delays : List (Nat × Nat × Nat)
  /-- Piste entries whose stored pair fails (R102, R303), as found: by region × 1,152 + index. -/
  pisteBad : List (Nat × Option (BitVec 64))
  deriving DecidableEq, Repr

def FabSt.reset : FabSt where
  open_ := []
  spread := []
  nextSeq := []
  lastLane := 143
  relay := []
  sources := []
  contexts := []
  slots := []
  lanes := []
  rx := []
  swapAt := none
  filled := 0
  cycleRun := 0
  ovc := []
  delays := []
  pisteBad := []

/-! ## Chapters 14 to 16: cipher engines, processor clusters, host links -/

/-- Region SEC beyond its registers and tables. Keys, and the copies inline SAs take (R360), stand in table memory under codes no
window reaches. -/
structure SecSt where
  /-- The device key DK, where SEC holds one (R354). -/
  dk : Option Nat
  /-- The identity private key, which no master can read (R469). -/
  idPriv : Option (List Byte)
  /-- SAs whose PN_SOFT has been raised, by table key (R363, R368). -/
  soft : List (Nat × Bool)
  /-- PHASE of each lookaside ring's next completion: false is 1 (R373). -/
  lkaPhase : List (Nat × Bool)
  /-- The round robin of R369: the ring whose turn it is, and the requests it may still have taken in this turn. -/
  turnRing : Nat
  turnLeft : Nat
  deriving DecidableEq, Repr

def SecSt.reset : SecSt := ⟨none, none, [], [], 0, 0⟩

/-- CPU_THR_STAT.STATE (R381). -/
inductive ThrState where
  | held | ready | running | waiting | stalled | halted
  deriving DecidableEq, Repr

/-- What a WAITING thread waits for; `rd` takes the result. EV.WAIT carries its mask and the tick its timeout passes. -/
inductive ThrWait where
  | none_
  | ev (mask : Nat) (rd : Nat) (until_ : Option Nat)
  | acq (ch : Nat) (rd : Nat)
  | recv (ch : Nat) (rd : Nat)
  deriving DecidableEq, Repr

/-- A staging slot in use: its channel; a halt marked it held. -/
structure StageSlot where
  ch : Nat
  held : Bool
  deriving DecidableEq, Repr

/-- A receive slot in use: its channel and descriptor. -/
structure RecvSlot where
  ch : Nat
  desc : List Byte
  deriving DecidableEq, Repr

/-- One thread. -/
structure ThreadSt where
  state : ThrState
  wait : ThrWait
  stage : List (Option StageSlot)
  recv : List (Option RecvSlot)
  /-- pc, x1 to x31, f0 to f31, mstatus, mtvec, mscratch, satp, privilege mode, by CPU_CTX_IDX (R384). -/
  regs : List (Nat × BitVec 64)
  /-- Interrupt identities pending (R386); mip bits 7 and 13. -/
  intr : List (Nat × Bool)
  timerIrq : Bool
  overflowIrq : Bool
  /-- qzsmpevt, qzsmpcnt, qzsmppc (R401). -/
  smpEvt : BitVec 64
  smpCnt : Nat
  smpPc : BitVec 64
  /-- Sevenths of core cycles in RUNNING, READY, WAITING and STALLED (R399), and the tick they stand at. -/
  cycles : List Nat
  since : Nat
  deriving DecidableEq, Repr

def ThreadSt.reset : ThreadSt where
  state := .held
  wait := .none_
  stage := [none, none, none, none]
  recv := [none, none, none, none]
  regs := []
  intr := []
  timerIrq := false
  overflowIrq := false
  smpEvt := 0
  smpCnt := 0
  smpPc := 0
  cycles := [0, 0, 0, 0]
  since := 0

/-- A channel: the ring's next read place, descriptors posted and not received, credits in use, slots held by the debugger. -/
structure ChanSt where
  head : Nat
  fill : Nat
  used : Nat
  held : Nat
  deriving DecidableEq, Repr

def ChanSt.reset : ChanSt := ⟨0, 0, 0, 0⟩

/-- A region's performance-counter freeze (R400): armed freeze and thaw instants, frozen, late. -/
structure PmuSt where
  freezeAt : Option Nat
  thawAt : Option Nat
  frozen : Bool
  late : Bool
  deriving DecidableEq, Repr

def PmuSt.reset : PmuSt := ⟨none, none, false, false⟩

/-- State of the processor clusters (chapter 15) beyond their registers. -/
structure CpuSt where
  threads : List (Nat × ThreadSt)
  chans : List (Nat × ChanSt)
  /-- Clusters whose deadlock stands declared (R398), by region × 4 + cluster. -/
  deadlocked : List (Nat × Bool)
  pmu : List (Nat × PmuSt)
  /-- Hart that ran last on each core (R382). -/
  lastRun : List (Nat × Nat)
  /-- Entry points of the regions' master threads (R383). -/
  entry : List (Nat × Nat)
  deriving DecidableEq, Repr

def CpuSt.reset : CpuSt := ⟨[], [], [], [], [], []⟩

/-- A queue pair beyond its table entry (R411, R416, R417). -/
structure QpSt where
  error : Bool
  txHead : Nat
  txTail : Nat
  rxHead : Nat
  rxTail : Nat
  cqTail : Nat
  cqHead : Nat
  /-- Whether PHASE of the next completion is 0. -/
  phase0 : Bool
  arm : Bool
  /-- Completions posted since the last signal, and the tick of the first. -/
  unsig : Nat
  unsigTick : Nat
  deriving DecidableEq, Repr

def QpSt.reset : QpSt := ⟨false, 0, 0, 0, 0, 0, 0, false, false, 0, 0⟩

/-- A slice beyond its table entry: deficit and tokens of its transmit bucket (2^-16 byte; none is full) with the working time of
the last refill, the queue pair asked first next, pool buffers held (R410, R419), the dirty log's active bitmap, its swap under way
and the link that asked for it (R420, R421). -/
structure SliceSt where
  deficit : Int
  tokens : Option Int
  refill : Nat
  nextQp : Nat
  held : Nat
  active1 : Bool
  swapBusy : Bool
  swapLink : Nat
  deriving DecidableEq, Repr

def SliceSt.reset : SliceSt := ⟨0, none, 0, 0, 0, false, false, 0⟩

/-- One cached word of a dirty bitmap: link, address, bits, slice, which bitmap, tick of the first bit. -/
structure DirtyWord where
  link : Nat
  addr : Nat
  bits : Nat
  slice : Nat
  map1 : Bool
  tick : Nat
  deriving DecidableEq, Repr

/-- An NVMe command HOST holds (R426): where it stands, its handle, what it asks, its buffers, and the tick of its doorbell. -/
structure NvmeCmd where
  handed : Bool
  handle : Nat
  link : Nat
  queue : Nat
  cid : Nat
  opcode : Nat
  nsid : Nat
  slba : Nat
  bytes : Nat
  entry : List Byte
  segs : List (Nat × Nat)
  data : List Byte
  bufs : List Nat
  listBuf : Nat
  /-- Dword 0 and status of a result whose decryption waits for SEC. -/
  result : Option (Nat × Nat)
  tick : Nat
  deriving DecidableEq, Repr

/-- A host link: HOST_PERST_Nn low (its pull-down holds it so until it is driven); its management function's DLOG_STAT,
EVENT and MBX_STATUS; its block controller's CC.EN, CSTS.RDY, CSTS.CFS. -/
structure LinkSt where
  perst : Bool
  dlogDone : Bool
  dlogRefused : Bool
  dlogSlice : Nat
  event : Nat
  mbxStatus : Nat
  ccEn : Bool
  rdy : Bool
  cfs : Bool
  deriving DecidableEq, Repr

def LinkSt.reset : LinkSt := ⟨true, false, false, 0, 0, 0, false, false, false⟩

/-- State of the host links (chapter 16) beyond their registers and tables. -/
structure HostSt where
  links : List (Nat × LinkSt)
  qps : List (Nat × QpSt)
  slices : List (Nat × SliceSt)
  /-- Slice asked first next on each link. -/
  nextSlice : List (Nat × Nat)
  dirty : List DirtyWord
  nvme : List NvmeCmd
  /-- The region's write list has been applied since the chip reset (R404, R407). -/
  listApplied : Bool
  deriving DecidableEq, Repr

def HostSt.reset : HostSt := ⟨[], [], [], [], [], [], false⟩

/-! ## Chapter 17: HBM stacks -/

/-- A row that a bank tracks (R436): its sub-counts, newest first, and the tags of its last activations, newest first. -/
structure RowTrack where
  row : Nat
  subs : List Nat
  tags : List Nat
  deriving DecidableEq, Repr

/-- A bank: its open row with the tick of the last access, and the rows it tracks. -/
structure BankSt where
  open_ : Option Nat
  tick : Nat
  rows : List RowTrack
  deriving DecidableEq, Repr

def BankSt.reset : BankSt := ⟨none, 0, []⟩

/-- One entry of the row-disturbance log (R437). -/
structure RowLog where
  tag : Nat
  rank : Nat
  bank : Nat
  count : Nat
  row : Nat
  ns : Nat
  sec : Nat
  deriving DecidableEq, Repr

/-- A requester throttled at a row until the window ends, with the tick of its last activation there (R437). -/
structure RowThrottle where
  tag : Nat
  rank : Nat
  bank : Nat
  row : Nat
  tick : Nat
  deriving DecidableEq, Repr

/-- A migration (R440): logical rank, old rank, spare, next line. -/
structure Migration where
  logical : Nat
  old : Nat
  spare : Nat
  next : Nat
  deriving DecidableEq, Repr

/-- A stack with its controller, beyond the registers. -/
structure MemSt where
  /-- Free spares, rising; retired physical ranks; logical ranks that wait for their migration; the running one. -/
  spares : List Nat
  retired : List Nat
  waiting : List Nat
  migration : Option Migration
  /-- Lines that stand poisoned, by rank × 2^22 + line. -/
  poison : List (Nat × Bool)
  /-- Banks, by rank × 64 + bank. -/
  banks : List (Nat × BankSt)
  throttled : List RowThrottle
  /-- Steps taken in the running refresh window. -/
  step : Nat
  log : List RowLog
  logLatch : List (Nat × Option RowLog)
  logOvf : Nat
  /-- Failed readouts in a row; readouts in a row at the trip level; the temperature the delays were last interpolated at. -/
  tempFails : Nat
  hot : Nat
  delayTemp : Option Nat
  /-- Bank whose turn the next refresh is, and the next line of the patrol scrubber. -/
  refresh : Nat
  scrub : Nat
  /-- Tick of the last request; tick of the self-refresh entry; requests that wait, oldest first: held by self-refresh, by the
  throttling of their requester, or behind one of their requester's that waits (R10, R437, R446). -/
  lastReq : Nat
  srTick : Nat
  held : List HbmReq
  /-- The round robin of R433: the class whose turn it is, and the turns it has left. -/
  turnClass : Nat
  turnLeft : Nat
  /-- A rank under verification. -/
  verify : Option Nat
  deriving DecidableEq, Repr

def MemSt.reset : MemSt where
  spares := [94, 95]
  retired := []
  waiting := []
  migration := none
  poison := []
  banks := []
  throttled := []
  step := 0
  log := []
  logLatch := []
  logOvf := 0
  tempFails := 0
  hot := 0
  delayTemp := none
  refresh := 0
  scrub := 0
  lastReq := 0
  srTick := 0
  held := []
  turnClass := 0
  turnLeft := 0
  verify := none

/-- The four stacks, and a retirement record that is due (R442). -/
structure HbmSt where
  each : List (Nat × MemSt)
  recordDue : Bool
  deriving DecidableEq, Repr

def HbmSt.reset : HbmSt := ⟨[], false⟩

/-! ## Chapter 18: faults -/

/-- SYS_RGN_STAT.STATE (R452). -/
inductive RegionState where
  | run | fencing | absent | poweredDown | releasing | restore
  deriving DecidableEq, Repr

/-- What a region's sequence holds beyond SYS_RGN_STAT (R453, R454, R459). -/
structure RegionSt where
  /-- Where the running exit leads: true for POWER_DOWN. -/
  toPower : Bool
  /-- A RUN has been accepted, or an automatic release is due. -/
  runDue : Bool
  /-- Ticks at which REGION_FATAL errors arrived, newest first. -/
  fatalTicks : List Nat
  /-- The region comes back from POWERED_DOWN (R460). -/
  fromPower : Bool
  /-- The exit came from a REGION_FATAL error that POLICY.AUTO may release (R453, R459). -/
  auto : Bool
  /-- The tick of the entry to ABSENT (R453). -/
  tick : Nat
  /-- The write list of the release under way: the entry the loader stands at, and the tick since which it polls there (R78, R459). -/
  listPos : Nat
  pollTick : Option Nat
  deriving DecidableEq, Repr

/-- State of the fault machinery (chapter 18) beyond its registers. -/
structure FaultSt where
  regions : List (Nat × RegionSt)
  /-- BLOCK_FATAL errors: block (region × 64 + block) and tick, newest first (R451). -/
  blockFatals : List (Nat × Nat)
  /-- Blocks held by a BLOCK_FATAL error that SYS releases (R451). -/
  blockAuto : List Nat
  /-- The fail-safe's code once a CHIP_FATAL cause has been taken, with what was latched (R463, R464): working time, SYS_GSTAT, SYS_RGN_FATAL. -/
  failsafe : Option (Nat × Nat × Nat × Nat)
  /-- Die-to-die modules that work (R8). -/
  d2dModules : Nat
  /-- The chip-level cause of R8, which no register shows (assumption 68). -/
  d2dCause : Bool
  deriving DecidableEq, Repr

def RegionSt.reset : RegionSt where
  toPower := false
  runDue := false
  fatalTicks := []
  fromPower := false
  auto := false
  tick := 0
  listPos := 0
  pollTick := none

def FaultSt.reset : FaultSt where
  regions := []
  blockFatals := []
  blockAuto := []
  failsafe := none
  d2dModules := 16
  d2dCause := false

/-! ## Chapter 19: images, settings, attestation -/

/-- An update session (R470, R473, R423): through the service port or a host mailbox (its link), slot, session number, lengths of the
blocks written (1 KiB blocks of the service port, 4 KiB blocks of the mailbox), and the last request's SEQ with its reply. -/
structure SessionSt where
  svc : Bool
  link : Nat
  slot : Nat
  number : Nat
  blocks : List (Nat × Nat)
  lastSeq : Option Nat
  reply : Nat × List Byte
  /-- Tick of the last message (R473). -/
  tick : Nat
  deriving DecidableEq, Repr

/-- A queued window command of a Glide (R481): address of the window, WIN_CTRL as written, INDEX, WIN_DATA, and for an associative array
the staged key and mask words. -/
structure QueuedCmd where
  win : Nat
  ctrl : Nat
  index : Nat
  data : Nat
  stage : List Nat
  deriving DecidableEq, Repr

/-- A report being built (R487): its nonce, and where it goes (none: to the service port). -/
structure AttReq where
  nonce : List Byte
  dst : Option Nat
  deriving DecidableEq, Repr

/-- Images, sessions, settings and attestation beyond their registers. -/
structure ImgSt where
  session : Option SessionSt
  /-- Number of the next session. -/
  nextSession : Nat
  /-- ERASE_SET of the last ACTIVATE is still due (R474). -/
  erasePending : Bool
  /-- A settings write under way: copy, GENERATION, body (R478). -/
  setWrite : Option (Nat × Nat × List Byte)
  /-- Tick at which the control gap began (R480). -/
  gapTick : Nat
  /-- Glide: queued window commands; the tick of t0; a gap has been ended; the running Glide is a fallback; a Glide since cold boot. -/
  queue : List QueuedCmd
  glideTick : Nat
  gapOver : Bool
  fallback : Bool
  glided : Bool
  /-- Header of the image booted last, cold or Glide (R77, R479). -/
  head : List Byte
  /-- The image area the running image does not use is the second one (R479). -/
  area1 : Bool
  /-- Measurements M3 to M6 (R485). -/
  m3 : List Byte
  m4 : List Byte
  m5 : List Byte
  m6 : List Byte
  attBusy : Option AttReq
  /-- The report held: nonce, bytes, and the tick it was made (R487). -/
  report : Option (List Byte × List Byte × Nat)
  deriving DecidableEq, Repr

def ImgSt.reset : ImgSt where
  session := none
  nextSession := 0
  erasePending := false
  setWrite := none
  gapTick := 0
  queue := []
  glideTick := 0
  gapOver := false
  fallback := false
  glided := false
  head := []
  area1 := true
  m3 := List.replicate 64 0
  m4 := List.replicate 64 0
  m5 := List.replicate 64 0
  m6 := List.replicate 64 0
  attBusy := none
  report := none

/-! ## Chapter 20: thermal -/

/-- Consecutive samples of the dies at the trip level (R503); THERMTRIP_N low (R505); a sample has been taken since the chip reset. -/
structure ThermSt where
  hot : Nat
  tripLow : Bool
  sampled : Bool
  deriving DecidableEq, Repr

def ThermSt.reset : ThermSt := ⟨0, false, false⟩

/-! ## The state -/

/-- The whole state. -/
structure State where
  /-- Every register word, by register-window address; an unlisted word is its reset value. -/
  regs : List (Nat × Word)
  /-- Every table entry, by `tabKey`; an unlisted entry is zero. -/
  tabs : List (Nat × Entry)
  time : TimeSt
  ctl : CtlSt
  boot : BootSt
  flt : FaultSt
  /-- HBM contents by HBM system address (R431); an unlisted byte reads 0. -/
  hbm : List Host.Cell
  /-- Configuration flash contents (R70); an unlisted byte reads 0xFF. -/
  flash : List Host.Cell
  /-- Line ports and modules (chapter 5). -/
  line : LineSt
  /-- The 16 ingress pipelines. -/
  pipes : List (Nat × PipeSt)
  /-- Route-table maintenance, learn engines and aging (chapter 7). -/
  fwd : FwdSt
  /-- Version control (chapter 9). -/
  ver : VerSt
  /-- The associative arrays: 2 × region index, + 1 for the egress array (chapter 8). -/
  asc : List (Nat × AscSt)
  /-- The packet buffer and its pools (chapter 10). -/
  buf : BufSt
  /-- Queues, allowances, the egress hierarchy (chapter 11). -/
  que : QueSt
  /-- The cipher engines (chapter 14). -/
  sec : SecSt
  /-- The processor clusters (chapter 15). -/
  cpu : CpuSt
  /-- The host links (chapter 16). -/
  host : HostSt
  /-- The HBM stacks (chapter 17). -/
  mem : HbmSt
  /-- The fabric regions and the OVC ports (chapters 12 and 13). -/
  fab : FabSt
  /-- Images, sessions, settings and attestation (chapter 19). -/
  img : ImgSt
  /-- The thermal rules (chapter 20). -/
  therm : ThermSt
  /-- What has left the device, newest first. -/
  out : List Out
  /-- The model's own: how many free values have been drawn. -/
  freeCtr : Nat
  /-- The commands waiting, first in, first out. -/
  pending : List Instr
  deriving DecidableEq, Repr

/-- The machine right after reset. -/
def State.reset : State where
  regs := []
  tabs := []
  time := TimeSt.reset
  ctl := CtlSt.reset
  boot := BootSt.reset
  flt := FaultSt.reset
  hbm := []
  flash := []
  line := LineSt.reset
  pipes := []
  fwd := FwdSt.reset
  ver := VerSt.reset
  asc := []
  buf := BufSt.reset
  que := QueSt.reset
  sec := SecSt.reset
  cpu := CpuSt.reset
  host := HostSt.reset
  mem := HbmSt.reset
  fab := FabSt.reset
  img := ImgSt.reset
  therm := ThermSt.reset
  out := []
  freeCtr := 0
  pending := []

end Sys2Proof.Machine
end

