-- ==== Sys2Proof/Machine/Operands.lean ====
section
/-! DEFINITION. What the operands of the commands stand for: the numbers of masters, threads, domains, arrays, queues and causes in
registers and log entries, and the value a window command writes. -/

namespace Sys2Proof.Machine

/-! ## Masters and threads (R92, R93, R105, R107) -/

/-- CPU region (0 to 2), cluster and thread-in-cluster of thread `t` (R105; threads are numbered region by region, cluster by cluster). -/
def thrRegion (t : Nat) : Nat := t / 128
def thrCluster (t : Nat) : Nat := t % 128 / 32
def thrIndex (t : Nat) : Nat := t % 32

/-- Master codes of R93 and R107. -/
def masterCode : Master → Nat
  | .core _ => 0 | .host => 1 | .service => 2 | .jtag => 3

/-- The thread field of a log entry: the thread of a core, 0 of another master (R107). -/
def masterThread : Master → Nat
  | .core t => t.val
  | _ => 0

/-- Master code and thread of an access of a master, or of the device's own (R107). -/
def whoCode : Option Master → Nat
  | some m => masterCode m
  | none => 4

/-- Its thread field. -/
def whoThread : Option Master → Nat
  | some m => masterThread m
  | none => 0

/-- Region of a master's own gateway, the source of its requests. -/
def masterRegion : Master → Nat
  | .core t => 9 + thrRegion t.val
  | .host => 12
  | .service | .jtag => 0

/-- A processor core, whatever its thread (R357). -/
def isCore : Master → Bool
  | .core _ => true
  | _ => false

/-! ## Domains -/

/-- The register block of a domain. -/
def domBlock : Dom → Nat
  | .cobalt => 1
  | .umber => 2

/-- The domain that is not active when `d` is. -/
def otherDom : Dom → Dom
  | .cobalt => .umber
  | .umber => .cobalt

/-! ## Arrays, queues, windows, causes -/

/-- Number of an array in `State.asc`; its region and block. -/
def arrIdx (a : ArrayRef) : Nat := 2 * a.region.val + (if a.egress then 1 else 0)
def arrRegion (a : ArrayRef) : Nat := 3 + a.region.val
def arrBlock (a : ArrayRef) : Nat := if a.egress then 11 else 10

/-- Keys of `BufSt.queues`. -/
def eqKey (n : Nat) : Nat := 2 ^ 20 + n
def queueKey : QueueRef → Nat
  | .voq n => n
  | .eq n => eqKey n

/-- A WIN_CTRL value with its CMD replaced. -/
def withCmd (v : Word) (c : Nat) : Nat := v.toNat / 16 * 16 + c

/-- Codes of SYS_CHIP_FAULT (R462). -/
def chipCode : ChipCause → Nat
  | .timePartition => 1 | .sysFatal => 2 | .d2d => 3 | .thermalTrip => 4 | .rail => 5

end Sys2Proof.Machine
end

