-- ==== Sys2Proof/Machine/RegNames.lean ====
section
/-! DEFINITION. The byte offsets of the named registers inside their blocks, as the spec's register tables give them
(the first element where a register repeats), and the register-window address of a block (R90). -/

namespace Sys2Proof.Machine

/-- R90: bits 25:20 region, bits 19:14 block, bits 13:0 byte offset. -/
def regAddr (region block off : Nat) : Nat := region * 0x100000 + block * 0x4000 + off

namespace R

abbrev TIME_WT_CTRL : Nat := 0x40
abbrev TIME_WT_STAT : Nat := 0x44
abbrev TIME_WT_CONT_RATE : Nat := 0x48
abbrev TIME_WT_NOW_FRAC : Nat := 0x50
abbrev TIME_WT_NOW_NS : Nat := 0x54
abbrev TIME_WT_NOW_SEC_LO : Nat := 0x58
abbrev TIME_WT_NOW_SEC_HI : Nat := 0x5C
abbrev TIME_WT_CONT_LO : Nat := 0x60
abbrev TIME_WT_CONT_HI : Nat := 0x64
abbrev TIME_WT_SWAT_NS : Nat := 0x70
abbrev TIME_WT_SWAT_SEC_LO : Nat := 0x74
abbrev TIME_WT_SWAT_SEC_HI : Nat := 0x78
abbrev TIME_WT_DIFF : Nat := 0x7C
abbrev TIME_WT_DIFF_LIM : Nat := 0x80
abbrev TIME_DOM_MODE : Nat := 0x40
abbrev TIME_DOM_STAT : Nat := 0x44
abbrev TIME_DOM_INCR_INT : Nat := 0x48
abbrev TIME_DOM_INCR_FRAC : Nat := 0x50
abbrev TIME_DOM_KP : Nat := 0x58
abbrev TIME_DOM_KI : Nat := 0x5C
abbrev TIME_DOM_FLIM : Nat := 0x60
abbrev TIME_DOM_ILIM : Nat := 0x64
abbrev TIME_DOM_CAPTURE : Nat := 0x68
abbrev TIME_DOM_JUMP : Nat := 0x6C
abbrev TIME_DOM_TIMEOUT : Nat := 0x70
abbrev TIME_DOM_SNOW : Nat := 0x74
abbrev TIME_DOM_VALID : Nat := 0x78
abbrev TIME_DOM_OFS_LO : Nat := 0x80
abbrev TIME_DOM_OFS_HI : Nat := 0x84
abbrev TIME_DOM_SETSEC_LO : Nat := 0x88
abbrev TIME_DOM_SETSEC_HI : Nat := 0x8C
abbrev TIME_DOM_STEP_LO : Nat := 0x90
abbrev TIME_DOM_STEP_HI : Nat := 0x94
abbrev TIME_DOM_PDLY : Nat := 0x98
abbrev TIME_DOM_LAST_LO : Nat := 0xA0
abbrev TIME_DOM_LAST_HI : Nat := 0xA4
abbrev TIME_DOM_FREQ : Nat := 0xA8
abbrev TIME_DOM_CNT_ACC : Nat := 0xAC
abbrev TIME_DOM_CNT_REJ : Nat := 0xB0
abbrev TIME_PPSOUT_CTRL : Nat := 0x40
abbrev TIME_PPSOUT_OFS : Nat := 0x44
abbrev TIME_PPSOUT_WIDTH : Nat := 0x48
abbrev TIME_PPSIN_CTRL : Nat := 0x80
abbrev TIME_PPSIN_DLY : Nat := 0x88
abbrev TIME_TOD_CTRL : Nat := 0x90
abbrev TIME_TOD_LEAP : Nat := 0x94
abbrev TIME_TOD_RXDATA : Nat := 0xA0
abbrev TIME_REF_CTRL : Nat := 0xB0
abbrev TIME_REF_STAT : Nat := 0xB4
abbrev TIME_REF_FOFS : Nat := 0xB8
abbrev TIME_TOD_TXBUF : Nat := 0x100
abbrev TIME_TSQ_SEL : Nat := 0x40
abbrev TIME_TSQ_DATA : Nat := 0x44
abbrev TIME_LOSS_DATA : Nat := 0x60
abbrev TIME_LOSS_STAT : Nat := 0x68
abbrev TIME_TSQ_NE : Nat := 0x70
abbrev TIME_PORT_TSCTRL : Nat := 0x400
abbrev TIME_PORT_ASYM_TX : Nat := 0x404
abbrev TIME_PORT_ASYM_RX : Nat := 0x408
abbrev TIME_PORT_LEAD : Nat := 0x40C
abbrev TIME_PORT_TSQ_LOST : Nat := 0x410
abbrev TIME_PORT_ONESTEP_LATE : Nat := 0x414
abbrev TIME_PORT_TSQ_LEVEL : Nat := 0x418
abbrev TIME_PTM_CTRL : Nat := 0x100
abbrev TIME_PTM_ADDR_LO : Nat := 0x104
abbrev TIME_PTM_ADDR_HI : Nat := 0x108
abbrev TIME_PTM_PERIOD : Nat := 0x10C
abbrev TIME_PTM_STAT : Nat := 0x110
abbrev SYS_BOOT_STAT : Nat := 0x40
abbrev SYS_DEVICE_ID : Nat := 0x48
abbrev SYS_BOARD : Nat := 0x50
abbrev SYS_PLAN : Nat := 0x54
abbrev SYS_BOOT_FAIL : Nat := 0x58
abbrev SYS_BOOT_TIME : Nat := 0x5C
abbrev SYS_FWD_WAIT : Nat := 0x60
abbrev SYS_FWD_LATE_LO : Nat := 0x64
abbrev SYS_FWD_LATE_HI : Nat := 0x68
abbrev SYS_MOD_RESULT : Nat := 0x100
abbrev SYS_GSTAT : Nat := 0x40
abbrev SYS_GMASK : Nat := 0x44
abbrev SYS_IRQ_CTRL : Nat := 0x48
abbrev SYS_ACC_RD : Nat := 0x40
abbrev SYS_ACC_WR : Nat := 0x44
abbrev SYS_INTG_LOG : Nat := 0x40
abbrev SYS_INTG_STAT : Nat := 0x50
abbrev SYS_SNAP_CTRL : Nat := 0x40
abbrev SYS_SNAP_AT_NS : Nat := 0x44
abbrev SYS_SNAP_AT_SEC_LO : Nat := 0x48
abbrev SYS_SNAP_AT_SEC_HI : Nat := 0x4C
abbrev SYS_SNAP_STAT : Nat := 0x50
abbrev SYS_SNAP_BASE_LO : Nat := 0x58
abbrev SYS_SNAP_BASE_HI : Nat := 0x5C
abbrev SYS_CHIP_RESET : Nat := 0x40
abbrev SYS_RGN_RESET : Nat := 0x80
abbrev SYS_CHIP_FAULT : Nat := 0x48
abbrev SYS_FAILSAFE_CTRL : Nat := 0x4C
abbrev SYS_RGN_FATAL : Nat := 0x50
abbrev SYS_RGN_READY : Nat := 0x54
abbrev SYS_RGN_STAT : Nat := 0x204
abbrev SYS_RGN_POLICY : Nat := 0x284
abbrev SYS_RGN_WL_LO : Nat := 0x300
abbrev SYS_RGN_WL_HI : Nat := 0x304
abbrev LINE_OCT_RATE : Nat := 0x40
abbrev LINE_OCT_STAT : Nat := 0x44
abbrev LINE_PORT_CFG : Nat := 0x100
abbrev LINE_PORT_MAXLEN : Nat := 0x104
abbrev LINE_PORT_STAT : Nat := 0x108
abbrev LINE_PORT_PFC : Nat := 0x10C
abbrev LINE_PORT_HALF_LO : Nat := 0x110
abbrev LINE_PORT_HALF_HI : Nat := 0x114
abbrev LINE_PORT_CNT_CLR : Nat := 0x118
abbrev LINE_PORT_WAKE : Nat := 0x11C
abbrev LINE_PORT_FEC_CORR : Nat := 0x120
abbrev LINE_PORT_FEC_UNCORR : Nat := 0x128
abbrev LINE_PORT_SEC_CORR : Nat := 0x130
abbrev LINE_PORT_SEC_UNCORR : Nat := 0x134
abbrev LINE_LANE_STAT : Nat := 0x800
abbrev LINE_LANE_SYM : Nat := 0x808
abbrev LINE_LANE_SEC_SYM : Nat := 0x810
abbrev LINE_LANE_TXEQ : Nat := 0x814
abbrev LINE_LANE_POL : Nat := 0x818
abbrev LINE_PORT_WPAT : Nat := 0xC00
abbrev LINE_PORT_WMASK : Nat := 0xC40
abbrev LINE_PORT_CNT : Nat := 0x1000
abbrev SYS_MOD_POLL : Nat := 0x40
abbrev SYS_MOD_EVT_LO : Nat := 0x48
abbrev SYS_MOD_EVT_HI : Nat := 0x4C
abbrev SYS_MOD_ACC_CTRL : Nat := 0x50
abbrev SYS_MOD_ACC_LEN : Nat := 0x54
abbrev SYS_MOD_ACC_STAT : Nat := 0x58
abbrev SYS_MOD_ACC_DATA : Nat := 0x100
abbrev SYS_MOD_FLAGS : Nat := 0x200
abbrev PIPE_PARSE_ENTRY : Nat := 0x40
abbrev PIPE_EXC_CTRL : Nat := 0x60
abbrev PIPE_EXC_BURST : Nat := 0x64
abbrev PIPE_PARSE_PKTS : Nat := 0x80
abbrev PIPE_PARSE_INSTR : Nat := 0x88
abbrev PIPE_PARSE_OVERRUN : Nat := 0x90
abbrev PIPE_EXC_CNT : Nat := 0xA0
abbrev PIPE_PARSE_MAXI : Nat := 0xB0
abbrev PIPE_PARSE_FRAG : Nat := 0xB4
abbrev PIPE_PARSE_BEYOND : Nat := 0xB8
abbrev PIPE_COLOR_MAP : Nat := 0xC0
abbrev TBL_EM_STAT : Nat := 0x40
abbrev TBL_EM_CFG : Nat := 0x100
abbrev TBL_EM_COUNT : Nat := 0x200
abbrev TBL_EM_AGE : Nat := 0x300
abbrev TBL_EM_AGED : Nat := 0x400
abbrev TBL_TILE_FN : Nat := 0x100
abbrev TBL_AGE_SUSPEND : Nat := 0x40
abbrev TBL_LPM_STAT : Nat := 0x40
abbrev TBL_LPM_ENTRIES : Nat := 0x44
abbrev TBL_LPM_LOOKUPS : Nat := 0x400
abbrev TBL_LPM_PROBES : Nat := 0x408
abbrev TBL_LPM_LONG : Nat := 0x410
abbrev TBL_LPM_FALSE : Nat := 0x414
abbrev TBL_LPM_NOVRF : Nat := 0x418
abbrev TBL_NH_INVALID : Nat := 0x40
abbrev TBL_ECMP_INVALID : Nat := 0x44
abbrev TBL_IND_MISS : Nat := 0x48
abbrev TBL_STAT_ADJ : Nat := 0x40
abbrev TBL_STAT_NH_BASE : Nat := 0x44
abbrev TBL_FAR_BASE_LO : Nat := 0x40
abbrev TBL_FAR_BASE_HI : Nat := 0x44
abbrev TBL_FAR_RATE : Nat := 0x48
abbrev TBL_FAR_ENTRIES : Nat := 0x4C
abbrev TBL_FAR_PROBES : Nat := 0x50
abbrev TBL_FAR_DROP : Nat := 0x58
abbrev TBL_FAR_PREFETCH_WASTED : Nat := 0x5C
abbrev PIPE_LRN_CTRL : Nat := 0x40
abbrev PIPE_LRN_AGE : Nat := 0x44
abbrev PIPE_LRN_STAT : Nat := 0x48
abbrev PIPE_LRN_COUNT : Nat := 0x4C
abbrev PIPE_LRN_DROP : Nat := 0x50
abbrev PIPE_LRN_EVT : Nat := 0x60
abbrev PIPE_BRIDGE_FLOOD : Nat := 0x70
abbrev TBL_RW_TTL : Nat := 0x40
abbrev TBL_RW_EXC : Nat := 0x44
abbrev PIPE_ASC_CTRL : Nat := 0x40
abbrev PIPE_ASC_STAT : Nat := 0x44
abbrev PIPE_ASC_COUNT : Nat := 0x48
abbrev PIPE_ASC_MOVE_RANGE : Nat := 0x4C
abbrev PIPE_ASC_TIE_REC : Nat := 0x50
abbrev PIPE_ASC_MASKED : Nat := 0x54
abbrev PIPE_ASC_SEARCHES : Nat := 0x80
abbrev PIPE_ASC_HITS : Nat := 0x88
abbrev PIPE_ASC_TIES : Nat := 0xC0
abbrev PIPE_ASC_FALSE_HIT : Nat := 0xC4
abbrev PIPE_ASC_ABANDON : Nat := 0xC8
abbrev PIPE_ASC_STOLEN : Nat := 0xCC
abbrev PIPE_ASC_SCRUB_FIX : Nat := 0xD0
abbrev PIPE_ASC_SCRUB_PASSES : Nat := 0xD4
abbrev PIPE_ASC_EGR_DROP : Nat := 0xD8
abbrev PIPE_ASC_KEY : Nat := 0x100
abbrev PIPE_ASC_MASK : Nat := 0x180
abbrev SYS_VER_CTRL : Nat := 0x40
abbrev SYS_VER_STAT : Nat := 0x44
abbrev SYS_VER_SEQ : Nat := 0x48
abbrev SYS_VER_AT_NS : Nat := 0x4C
abbrev SYS_VER_AT_SEC_LO : Nat := 0x50
abbrev SYS_VER_AT_SEC_HI : Nat := 0x54
abbrev SYS_VER_INFL_CUR : Nat := 0x58
abbrev SYS_VER_INFL_RET : Nat := 0x5C
abbrev SYS_VER_RETIRE_LIMIT : Nat := 0x60
abbrev SYS_VER_PROP : Nat := 0x64
abbrev SYS_VER_PEND : Nat := 0x68
abbrev SYS_VER_LAST_RETIRE : Nat := 0x6C
abbrev SYS_VER_FOREIGN : Nat := 0x70
abbrev SYS_VER_SKEW : Nat := 0x74
abbrev SYS_VER_PROT : Nat := 0x78
abbrev SYS_VER_PAUSE : Nat := 0x80
abbrev SYS_VER_PAUSE_STAT : Nat := 0x84
abbrev SYS_VER_BATCH : Nat := 0x800
abbrev BUF_CELL_FREE : Nat := 0x40
abbrev BUF_CELL_MIN : Nat := 0x50
abbrev BUF_NOCELL : Nat := 0x60
abbrev BUF_CELL_BADFREE : Nat := 0x64
abbrev BUF_CT_CTRL : Nat := 0x70
abbrev BUF_CT_SRC_LO : Nat := 0x74
abbrev BUF_CT_SRC_HI : Nat := 0x78
abbrev BUF_BAD_DROP : Nat := 0x80
abbrev BUF_BAD_SENT : Nat := 0x84
abbrev BUF_BAD_RX_END : Nat := 0x88
abbrev BUF_BAD_RX_DROP : Nat := 0x8C
abbrev BUF_SPILL_BASE_LO : Nat := 0x40
abbrev BUF_SPILL_BASE_HI : Nat := 0x44
abbrev BUF_SPILL_PAGES : Nat := 0x48
abbrev BUF_SPILL_RING_LO : Nat := 0x50
abbrev BUF_SPILL_RING_HI : Nat := 0x54
abbrev BUF_SPILL_PTAB_LO : Nat := 0x58
abbrev BUF_SPILL_PTAB_HI : Nat := 0x5C
abbrev BUF_SPILL_FREE : Nat := 0x60
abbrev BUF_SPILL_AHEAD : Nat := 0x64
abbrev BUF_SPILL_INIT : Nat := 0x68
abbrev BUF_SPILL_WR_BYTES : Nat := 0x70
abbrev BUF_SPILL_RD_BYTES : Nat := 0x78
abbrev BUF_SPILL_DROP : Nat := 0x80
abbrev BUF_REPL_STAT : Nat := 0x40
abbrev BUF_REPL_FIFO_DROP : Nat := 0x44
abbrev BUF_REPL_NOSHARE : Nat := 0x48
abbrev BUF_REPL_SELF : Nat := 0x4C
abbrev BUF_POOL_LOG : Nat := 0x40
abbrev BUF_POOL_LOGSTAT : Nat := 0x50
abbrev BUF_POOL_SHARED : Nat := 0x54
abbrev BUF_POOL_FREE : Nat := 0x40
abbrev BUF_POOL_RELEASE : Nat := 0x48
abbrev BUF_POOL_SHARE : Nat := 0x50
abbrev BUF_POOL_ALLOC : Nat := 0x1000
abbrev QUE0_SHARED_SIZE : Nat := 0x40
abbrev QUE0_SHARED_USED : Nat := 0x44
abbrev QUE0_VOQ_STALL : Nat := 0x48
abbrev QUE0_CLASS_CFG : Nat := 0x60
abbrev QUE0_DROP : Nat := 0x80
abbrev QUE0_CE_MARKED : Nat := 0xA0
abbrev QUE0_ALW_CTRL : Nat := 0x40
abbrev QUE0_ALW_EXPIRE : Nat := 0x44
abbrev QUE0_HINT_AGE : Nat := 0x48
abbrev QUE0_HINT_DELTA : Nat := 0x4C
abbrev QUE0_ALW_F : Nat := 0x50
abbrev QUE0_REC_BAD : Nat := 0x54
abbrev QUE0_ALW_SENT : Nat := 0x58
abbrev QUE0_ALW_RECEIVED : Nat := 0x60
abbrev QUE1_SHARED_SIZE : Nat := 0x40
abbrev QUE1_SHARED_USED : Nat := 0x44
abbrev QUE1_DROP : Nat := 0x80
abbrev QUE1_CE_MARKED : Nat := 0xA0
abbrev QUE1_EPOCH : Nat := 0x40
abbrev QUE1_PORT_STOP_LO : Nat := 0x60
abbrev QUE1_PORT_STOP_MID : Nat := 0x64
abbrev QUE1_PORT_STOP_HI : Nat := 0x70
abbrev QUE1_SELECTS : Nat := 0x68
abbrev QUE1_PFC_CTRL : Nat := 0x100
abbrev QUE1_PFC_XOFF_LO : Nat := 0x40
abbrev QUE1_PFC_XOFF_HI : Nat := 0x44
abbrev QUE1_PFC_SENT : Nat := 0x48
abbrev FAB_PISTE_CTRL : Nat := 0x40
abbrev FAB_PISTE_STAT : Nat := 0x44
abbrev FAB_PISTE_AT_NS : Nat := 0x48
abbrev FAB_PISTE_AT_SEC_LO : Nat := 0x4C
abbrev FAB_PISTE_AT_SEC_HI : Nat := 0x50
abbrev FAB_PISTE_CFG : Nat := 0x60
abbrev FAB_LANES_ALIGNED : Nat := 0x70
abbrev FAB_CELLS_TX : Nat := 0x80
abbrev FAB_CELLS_RX : Nat := 0x88
abbrev FAB_HCRC_ERR : Nat := 0x90
abbrev FAB_MISROUTE : Nat := 0x94
abbrev FAB_MISCONNECT : Nat := 0x98
abbrev FAB_PHASE_JUMP : Nat := 0x9C
abbrev FAB_PHASE_WIN : Nat := 0xA0
abbrev FAB_LANE_CTRL : Nat := 0x100
abbrev FAB_LANE_ADV : Nat := 0x280
abbrev FAB_USABLE : Nat := 0x400
abbrev FAB_RLY_USED : Nat := 0x40
abbrev FAB_RLY_CELLS : Nat := 0x48
abbrev FAB_RLY_DROP : Nat := 0x50
abbrev FAB_SPREAD_LEVEL : Nat := 0x60
abbrev FAB_RSQ_PROP : Nat := 0x40
abbrev FAB_RSQ_HELD : Nat := 0x44
abbrev FAB_RSQ_LOST : Nat := 0x48
abbrev FAB_RSQ_LATE : Nat := 0x50
abbrev FAB_RSQ_DUP : Nat := 0x54
abbrev FAB_RSQ_FORCED : Nat := 0x58
abbrev FAB_RSQ_ABORT : Nat := 0x5C
abbrev FAB_LNK_DEG_SET : Nat := 0x40
abbrev FAB_LNK_DEG_CLR : Nat := 0x44
abbrev FAB_LNK_DEG_N : Nat := 0x48
abbrev FAB_LNK_DEG : Nat := 0x50
abbrev FAB_LNK_STAT : Nat := 0x1000
abbrev FAB_LNK_SEC_CORR : Nat := 0x1004
abbrev FAB_LNK_SEC_UNCORR : Nat := 0x1008
abbrev FAB_LNK_SEC_MARK : Nat := 0x100C
abbrev FAB_LNK_SEC_SLIP : Nat := 0x1010
abbrev FAB_LNK_SEC_HCRC : Nat := 0x1014
abbrev FAB_LNK_SEC_SLOTS : Nat := 0x1018
abbrev FAB_LNK_CORR : Nat := 0x1020
abbrev FAB_LNK_UNCORR : Nat := 0x1028
abbrev FAB_LNK_SLIP_DROP : Nat := 0x1030
abbrev FAB_LNK_SLIP_REP : Nat := 0x1034
abbrev FAB_LNK_OVERRUN : Nat := 0x1038
abbrev FAB_LNK_ALIGN_LOSS : Nat := 0x103C
abbrev SYS_OVC_CTRL : Nat := 0x40
abbrev SYS_OVC_STAT : Nat := 0x44
abbrev SYS_OVC_TXLEN : Nat := 0x48
abbrev SYS_OVC_RXLEN : Nat := 0x4C
abbrev SYS_OVC_RXPOP : Nat := 0x80
abbrev SYS_OVC_CNT : Nat := 0x100
abbrev SYS_OVC_TXBUF : Nat := 0x1000
abbrev SYS_OVC_RXBUF : Nat := 0x2000
abbrev SEC_KEY_STAT : Nat := 0x40
abbrev SEC_KEY_REASON : Nat := 0x44
abbrev SEC_KEY_COUNT : Nat := 0x48
abbrev SEC_KEY_CP_ERR : Nat := 0x4C
abbrev SEC_ESP_RW_BASE : Nat := 0x40
abbrev SEC_ESP_DROP : Nat := 0x80
abbrev SEC_LKA_PI : Nat := 0x1000
abbrev SEC_LKA_CI : Nat := 0x1004
abbrev SEC_LKA_STATUS : Nat := 0x84
abbrev MSEC_PORT_CFG : Nat := 0x40
abbrev MSEC_REPLAY_WIN : Nat := 0x44
abbrev MSEC_BYPASS : Nat := 0x100
abbrev MSEC_PN_SOFT_LO : Nat := 0x110
abbrev MSEC_PN_SOFT_HI : Nat := 0x114
abbrev CPU_DLK_CTRL : Nat := 0x40
abbrev CPU_DLK_CNT : Nat := 0x44
abbrev CPU_DLK_MASK : Nat := 0x48
abbrev CPU_EV_MISKIND : Nat := 0x4C
abbrev CPU_THR_STAT : Nat := 0x100
abbrev CPU_EV_KIND : Nat := 0x200
abbrev CPU_EVPEND : Nat := 0x400
abbrev CPU_MTIMECMP : Nat := 0x600
abbrev CPU_CTX_SEL : Nat := 0x40
abbrev CPU_CTX_IDX : Nat := 0x44
abbrev CPU_CTX_DATA_LO : Nat := 0x48
abbrev CPU_CTX_DATA_HI : Nat := 0x4C
abbrev CPU_CTX_CMD : Nat := 0x50
abbrev CPU_CTX_STAT : Nat := 0x54
abbrev CPU_CH_LASTHOLD : Nat := 0x40
abbrev CPU_CH_ENABLED : Nat := 0x44
abbrev CPU_PMU_CTRL : Nat := 0x40
abbrev CPU_PMU_AT_NS : Nat := 0x44
abbrev CPU_PMU_AT_SEC_LO : Nat := 0x48
abbrev CPU_PMU_AT_SEC_HI : Nat := 0x4C
abbrev CPU_PMU_STAT : Nat := 0x50
abbrev DBG_DATA : Nat := 0x110
abbrev DBG_DMCONTROL : Nat := 0x140
abbrev DBG_DMSTATUS : Nat := 0x144
abbrev DBG_HALTSUM1 : Nat := 0x14C
abbrev DBG_ABSTRACTCS : Nat := 0x158
abbrev DBG_COMMAND : Nat := 0x15C
abbrev DBG_HALTSUM0 : Nat := 0x200
abbrev HOST_LINK_CFG : Nat := 0x40
abbrev HOST_LINK_STAT : Nat := 0x80
abbrev HOST_NOLINK : Nat := 0xC0
abbrev HOST_DB_DROP : Nat := 0xC4
abbrev HOST_RX_NOQP : Nat := 0xC8
abbrev HOST_RX_NOBUF : Nat := 0xCC
abbrev HOST_RX_STOPPED : Nat := 0xD0
abbrev HOST_QUOTA_FAIL : Nat := 0x40
abbrev HOST_DLOG_SWAP : Nat := 0x44
abbrev HOST_DLOG_OOR : Nat := 0x48
abbrev HOST_BLK_DONE : Nat := 0x40
abbrev HOST_BLK_TMO : Nat := 0x50
abbrev HOST_BLK_LATE : Nat := 0x54
abbrev HOST_MBX_EN : Nat := 0x40
abbrev MEM_STAT : Nat := 0x40
abbrev MEM_PAGE_IDLE : Nat := 0x44
abbrev MEM_ARB_W : Nat := 0xA0
abbrev MEM_SR_CTRL : Nat := 0x60
abbrev MEM_SR_CNT : Nat := 0x64
abbrev MEM_SR_ABANDON : Nat := 0x68
abbrev MEM_ADDR_ERR : Nat := 0x6C
abbrev MEM_RD_BYTES : Nat := 0x80
abbrev MEM_WR_BYTES : Nat := 0x88
abbrev MEM_RH_TH : Nat := 0x40
abbrev MEM_RH_GAP : Nat := 0x44
abbrev MEM_RH_LOG : Nat := 0x50
abbrev MEM_RH_LOGSTAT : Nat := 0x60
abbrev MEM_RAS_CMD : Nat := 0x70
abbrev MEM_RAS_STAT : Nat := 0x74
abbrev MEM_MIG_RATE : Nat := 0x78
abbrev MEM_MIG_PTR : Nat := 0x7C
abbrev MEM_SCRUB_HOURS : Nat := 0x80
abbrev MEM_UE_DROP : Nat := 0x84
abbrev MEM_REDIR : Nat := 0x200
abbrev RCAUSE_LO : Nat := 0x40
abbrev RCAUSE_HI : Nat := 0x44
abbrev RMASK_LO : Nat := 0x48
abbrev RMASK_HI : Nat := 0x4C
abbrev GW_ABSENT_SENT : Nat := 0x50
abbrev GW_EPOCH_DISCARD : Nat := 0x54
abbrev GW_ABSENT_DROP : Nat := 0x58
abbrev GW_FATAL_INFO : Nat := 0x5C
abbrev GW_REPLY_TMO : Nat := 0x60
abbrev SYS_IMG_CTRL : Nat := 0x40
abbrev SYS_IMG_STAT : Nat := 0x44
abbrev SYS_GLIDE_QLEVEL : Nat := 0x50
abbrev SYS_GLIDE_QREFUSED : Nat := 0x54
abbrev SYS_GLIDE_TIME : Nat := 0x58
abbrev SYS_SET_STAT : Nat := 0x60
abbrev SYS_SET_SCHEMA : Nat := 0x64
abbrev SYS_SET_GEN_LO : Nat := 0x68
abbrev SYS_SET_GEN_HI : Nat := 0x6C
abbrev SYS_SET_LEN : Nat := 0x70
abbrev SYS_SET_BASE_LO : Nat := 0x78
abbrev SYS_SET_BASE_HI : Nat := 0x7C
abbrev SYS_SET_WBASE_LO : Nat := 0x80
abbrev SYS_SET_WBASE_HI : Nat := 0x84
abbrev SYS_SET_WLEN : Nat := 0x88
abbrev SYS_SET_CMD : Nat := 0x8C
abbrev SYS_ATT_NONCE : Nat := 0x40
abbrev SYS_ATT_DST_LO : Nat := 0x60
abbrev SYS_ATT_DST_HI : Nat := 0x64
abbrev SYS_ATT_CMD : Nat := 0x68
abbrev SYS_ATT_STAT : Nat := 0x6C
abbrev SYS_ATT_EXT : Nat := 0x80
abbrev SYS_SVC_CTRL : Nat := 0x40
abbrev SYS_SVC_IP4 : Nat := 0x44
abbrev SYS_SVC_PORT : Nat := 0x48
abbrev SYS_SVC_CNT : Nat := 0x80
abbrev SYS_THERM_STAT : Nat := 0x40
abbrev SYS_THERM_WARN : Nat := 0x44
abbrev SYS_THERM_LIM : Nat := 0x48
abbrev SYS_THERM_THR_CNT : Nat := 0x4C
abbrev SYS_THERM_SENSOR : Nat := 0x100
abbrev SYS_PWR_STAT : Nat := 0x60
abbrev SYS_PWR_VSB : Nat := 0x64
abbrev SYS_PWR_CTRL : Nat := 0x68

end R

namespace A

/-- Address of an offset in region 1, block 0. -/
abbrev wt (off : Nat) : Nat := regAddr 1 0 off
/-- Address of an offset in region 1, block 1. -/
abbrev domc (off : Nat) : Nat := regAddr 1 1 off
/-- Address of an offset in region 1, block 2. -/
abbrev domu (off : Nat) : Nat := regAddr 1 2 off
/-- Address of an offset in region 1, block 3. -/
abbrev tio (off : Nat) : Nat := regAddr 1 3 off
/-- Address of an offset in region 1, block 4. -/
abbrev tsu (off : Nat) : Nat := regAddr 1 4 off
/-- Address of an offset in region 1, block 5. -/
abbrev ptm (off : Nat) : Nat := regAddr 1 5 off
/-- Address of an offset in region 0, block 1. -/
abbrev boot (off : Nat) : Nat := regAddr 0 1 off
/-- Address of an offset in region 0, block 2. -/
abbrev irq (off : Nat) : Nat := regAddr 0 2 off
/-- Address of an offset in region 0, block 3. -/
abbrev acc (off : Nat) : Nat := regAddr 0 3 off
/-- Address of an offset in region 0, block 4. -/
abbrev intg (off : Nat) : Nat := regAddr 0 4 off
/-- Address of an offset in region 0, block 5. -/
abbrev snap (off : Nat) : Nat := regAddr 0 5 off
/-- Address of an offset in region 0, block 6. -/
abbrev rgn (off : Nat) : Nat := regAddr 0 6 off
/-- Address of an offset in region 0, block 7. -/
abbrev modm (off : Nat) : Nat := regAddr 0 7 off
/-- Address of an offset in region 0, block 8. -/
abbrev ver (off : Nat) : Nat := regAddr 0 8 off
/-- Address of an offset in region 0, block 9. -/
abbrev ovc (off : Nat) : Nat := regAddr 0 9 off
/-- Address of an offset in region 0, block 0xA. -/
abbrev img (off : Nat) : Nat := regAddr 0 0xA off
/-- Address of an offset in region 0, block 0xB. -/
abbrev att (off : Nat) : Nat := regAddr 0 0xB off
/-- Address of an offset in region 0, block 0xC. -/
abbrev svc (off : Nat) : Nat := regAddr 0 0xC off
/-- Address of an offset in region 0, block 0xD. -/
abbrev therm (off : Nat) : Nat := regAddr 0 0xD off
/-- Address of an offset in region 7, block 0. -/
abbrev tile (off : Nat) : Nat := regAddr 7 0 off
/-- Address of an offset in region 7, block 1. -/
abbrev lpm (off : Nat) : Nat := regAddr 7 1 off
/-- Address of an offset in region 7, block 3. -/
abbrev em (off : Nat) : Nat := regAddr 7 3 off
/-- Address of an offset in region 7, block 4. -/
abbrev dir (off : Nat) : Nat := regAddr 7 4 off
/-- Address of an offset in region 7, block 5. -/
abbrev nh (off : Nat) : Nat := regAddr 7 5 off
/-- Address of an offset in region 7, block 6. -/
abbrev stat (off : Nat) : Nat := regAddr 7 6 off
/-- Address of an offset in region 7, block 7. -/
abbrev far (off : Nat) : Nat := regAddr 7 7 off
/-- Address of an offset in region 7, block 8. -/
abbrev rwb (off : Nat) : Nat := regAddr 7 8 off
/-- Address of an offset in region 8, block 0. -/
abbrev key (off : Nat) : Nat := regAddr 8 0 off
/-- Address of an offset in region 8, block 1. -/
abbrev esp (off : Nat) : Nat := regAddr 8 1 off
/-- Address of an offset in region 8, block 2. -/
abbrev lka (off : Nat) : Nat := regAddr 8 2 off
/-- Address of an offset in region 0xC, block 0. -/
abbrev hlnk (off : Nat) : Nat := regAddr 0xC 0 off
/-- Address of an offset in region 0xC, block 1. -/
abbrev slc (off : Nat) : Nat := regAddr 0xC 1 off
/-- Address of an offset in region 0xC, block 2. -/
abbrev qp (off : Nat) : Nat := regAddr 0xC 2 off
/-- Address of an offset in region 0xC, block 3. -/
abbrev blk (off : Nat) : Nat := regAddr 0xC 3 off
/-- Address of an offset in region 0xC, block 4. -/
abbrev mbx (off : Nat) : Nat := regAddr 0xC 4 off
/-- Address of an offset in region 0x11, block 0. -/
abbrev voq (off : Nat) : Nat := regAddr 0x11 0 off
/-- Address of an offset in region 0x11, block 1. -/
abbrev alw (off : Nat) : Nat := regAddr 0x11 1 off
/-- Address of an offset in region 0x11, block 2. -/
abbrev adm0 (off : Nat) : Nat := regAddr 0x11 2 off
/-- Address of an offset in region 0x12, block 0. -/
abbrev eq (off : Nat) : Nat := regAddr 0x12 0 off
/-- Address of an offset in region 0x12, block 1. -/
abbrev qsch (off : Nat) : Nat := regAddr 0x12 1 off
/-- Address of an offset in region 0x12, block 2. -/
abbrev adm1 (off : Nat) : Nat := regAddr 0x12 2 off
/-- Address of an offset in region 0x12, block 3. -/
abbrev pfc (off : Nat) : Nat := regAddr 0x12 3 off
/-- Address of an offset in region 0x13, block 0. -/
abbrev cell (off : Nat) : Nat := regAddr 0x13 0 off
/-- Address of an offset in region 0x13, block 1. -/
abbrev spill (off : Nat) : Nat := regAddr 0x13 1 off
/-- Address of an offset in region 0x13, block 2. -/
abbrev repl (off : Nat) : Nat := regAddr 0x13 2 off
/-- Address of an offset in region 0x13, block 3. -/
abbrev pool (off : Nat) : Nat := regAddr 0x13 3 off
/-- Address of an offset in region 0x13, block 4. -/
abbrev bport (off : Nat) : Nat := regAddr 0x13 4 off
/-- Address of an offset in region 0x14, block 1. -/
abbrev frly (off : Nat) : Nat := regAddr 0x14 1 off
/-- Address of an offset in region 0x15, block 2. -/
abbrev frsq (off : Nat) : Nat := regAddr 0x15 2 off
abbrev oct (o off : Nat) : Nat := regAddr 2 o off
abbrev msec (o off : Nat) : Nat := regAddr 2 (0x10 + o) off
/-- Ingress pipeline `i` of the 16 (R15): region PIPE(i div 4), block IP(i mod 4). -/
abbrev ip (i off : Nat) : Nat := regAddr (3 + i / 4) (i % 4) off
/-- Block IND of PIPE region `p` (0 to 3). -/
abbrev ind (p off : Nat) : Nat := regAddr (3 + p) 8 off
/-- Block LRN of PIPE region `p` (0 to 3). -/
abbrev lrn (p off : Nat) : Nat := regAddr (3 + p) 9 off
/-- Block ASI of PIPE region `p` (0 to 3). -/
abbrev asi (p off : Nat) : Nat := regAddr (3 + p) 10 off
/-- Block ASE of PIPE region `p` (0 to 3). -/
abbrev ase (p off : Nat) : Nat := regAddr (3 + p) 11 off
/-- Cluster `c` of CPU region `r` (0 to 2). -/
abbrev cl (r c off : Nat) : Nat := regAddr (9 + r) c off
abbrev ctx (r off : Nat) : Nat := regAddr (9 + r) 4 off
abbrev chn (r off : Nat) : Nat := regAddr (9 + r) 5 off
abbrev dbg (r off : Nat) : Nat := regAddr (9 + r) 6 off
abbrev pmu (r off : Nat) : Nat := regAddr (9 + r) 7 off
/-- FAB0 or FAB1 (`f` 0 or 1). -/
abbrev fsch (f off : Nat) : Nat := regAddr (0x14 + f) 0 off
/-- FAB0 or FAB1 (`f` 0 or 1). -/
abbrev flnk (f off : Nat) : Nat := regAddr (0x14 + f) 3 off
/-- Region MEM`k`. -/
abbrev mctl (k off : Nat) : Nat := regAddr (0x16 + k) 0 off
/-- Region MEM`k`. -/
abbrev mras (k off : Nat) : Nat := regAddr (0x16 + k) 1 off
/-- Region MEM`k`. -/
abbrev mphy (k off : Nat) : Nat := regAddr (0x16 + k) 2 off
/-- The gateway block of a region. -/
abbrev gw (r off : Nat) : Nat := regAddr r 0x3F off

end A

end Sys2Proof.Machine
end

