-- ==== Sys2Proof/Machine/RegMap.lean ====
section
/-! DEFINITION. The register map: every register the spec's register tables name, by block, with its offset, repeats,
type (R5), implemented bits (a reserved bit reads 0, R6), reset value, RWL and WO bits inside it, whether it is a
counter (R109), and the range of values a write must lie in where the spec says other writes are refused. -/

namespace Sys2Proof.Machine

/-- The register types of R5. -/
inductive RegType where
  | rw | ro | w1c | wo | rwl | cp | rc
  deriving DecidableEq, Repr

/-- One row of a register table: `n` elements `st` bytes apart, each of `m` elements `st2` bytes apart, each of `w` words. -/
structure RegRow where
  name : String
  off : Nat
  w : Nat
  n : Nat
  st : Nat
  m : Nat
  st2 : Nat
  type : RegType
  mask : Nat
  reset : Nat
  rwl : Nat
  wo : Nat
  cnt : Bool
  lo : Nat
  hi : Nat
  deriving DecidableEq, Repr

/-- A register row, its fields in the order of `RegRow`. -/
def rg (name : String) (off w n st m st2 : Nat) (type : RegType) (mask reset rwl wo : Nat) (cnt : Bool) (lo hi : Nat) :
    RegRow := ⟨name, off, w, n, st, m, st2, type, mask, reset, rwl, wo, cnt, lo, hi⟩

/-- Registers of the `wt` blocks (R66). -/
def rows_wt : List RegRow := [
  rg "TIME_WT_CTRL" 0x40 1 1 0 1 0 .rw 0x1FFFF 0x12C4 0x10000 3 false 0 0,
  rg "TIME_WT_STAT" 0x44 1 1 0 1 0 .ro 0xF 0 0 0 false 0 0,
  rg "TIME_WT_CONT_RATE" 0x48 1 1 0 1 0 .rw 0x3FFFF 0x32 0 0 false 1 200000,
  rg "TIME_WT_NOW_FRAC" 0x50 1 1 0 1 0 .ro 0xFFFFFFFF 0 0 0 false 0 0,
  rg "TIME_WT_NOW_NS" 0x54 1 1 0 1 0 .ro 0xFFFFFFFF 0 0 0 false 0 0,
  rg "TIME_WT_NOW_SEC_LO" 0x58 1 1 0 1 0 .ro 0xFFFFFFFF 0 0 0 false 0 0,
  rg "TIME_WT_NOW_SEC_HI" 0x5C 1 1 0 1 0 .ro 0xFFFF 0 0 0 false 0 0,
  rg "TIME_WT_CONT_LO" 0x60 1 1 0 1 0 .ro 0xFFFFFFFF 0 0 0 false 0 0,
  rg "TIME_WT_CONT_HI" 0x64 1 1 0 1 0 .ro 0xFFFFFFFF 0 0 0 false 0 0,
  rg "TIME_WT_SWAT_NS" 0x70 1 1 0 1 0 .rw 0xFFFFFFFF 0 0 0 false 0 0,
  rg "TIME_WT_SWAT_SEC_LO" 0x74 1 1 0 1 0 .rw 0xFFFFFFFF 0 0 0 false 0 0,
  rg "TIME_WT_SWAT_SEC_HI" 0x78 1 1 0 1 0 .rw 0xFFFF 0 0 0 false 0 0,
  rg "TIME_WT_DIFF" 0x7C 1 1 0 1 0 .ro 0xFFFFFFFF 0 0 0 false 0 0,
  rg "TIME_WT_DIFF_LIM" 0x80 1 1 0 1 0 .rw 0xFFFFFFFF 0xA 0 0 false 0 0]

/-- Registers of the `dom` blocks (R66). -/
def rows_dom : List RegRow := [
  rg "TIME_DOM_MODE" 0x40 1 1 0 1 0 .rw 0x3FF007F 0x20 0 0 false 0 0,
  rg "TIME_DOM_STAT" 0x44 1 1 0 1 0 .ro 0xF01FF 0 0 0 false 0 0,
  rg "TIME_DOM_INCR_INT" 0x48 1 1 0 1 0 .cp 0xFF 0 0 0 false 0 0,
  rg "TIME_DOM_INCR_FRAC" 0x50 1 1 0 1 0 .cp 0xFFFFFFFF 0xB6DB6DB7 0 0 false 0 0,
  rg "TIME_DOM_KP" 0x58 1 1 0 1 0 .rw 0x1FFFFF 0 0 0 false 0 0,
  rg "TIME_DOM_KI" 0x5C 1 1 0 1 0 .rw 0x1FFFFF 0 0 0 false 0 0,
  rg "TIME_DOM_FLIM" 0x60 1 1 0 1 0 .rw 0xFFFFF 0x95CBF 0 0 false 0 613567,
  rg "TIME_DOM_ILIM" 0x64 1 1 0 1 0 .rw 0xFFFFF 0x95CBF 0 0 false 0 0,
  rg "TIME_DOM_CAPTURE" 0x68 1 1 0 1 0 .rw 0xFFFFF 0x3E8 0 0 false 0 0,
  rg "TIME_DOM_JUMP" 0x6C 1 1 0 1 0 .rw 0xFFFFF 1 0 0 false 0 0,
  rg "TIME_DOM_TIMEOUT" 0x70 1 1 0 1 0 .rw 0xFFFFFF 0x16E360 0 0 false 0 0,
  rg "TIME_DOM_SNOW" 0x74 1 1 0 1 0 .rw 0xFF3FFFF 0x4300064 0 0 false 0 0,
  rg "TIME_DOM_VALID" 0x78 1 1 0 1 0 .rw 0x80FFFFFF 0x100005 0 0x80000000 false 0 0,
  rg "TIME_DOM_OFS_LO" 0x80 1 1 0 1 0 .wo 0xFFFFFFFF 0 0 0 false 0 0,
  rg "TIME_DOM_OFS_HI" 0x84 1 1 0 1 0 .wo 0xFFFFFFFF 0 0 0 false 0 0,
  rg "TIME_DOM_SETSEC_LO" 0x88 1 1 0 1 0 .rw 0xFFFFFFFF 0 0 0 false 0 0,
  rg "TIME_DOM_SETSEC_HI" 0x8C 1 1 0 1 0 .rw 0x8000FFFF 0 0 0x80000000 false 0 0,
  rg "TIME_DOM_STEP_LO" 0x90 1 1 0 1 0 .wo 0xFFFFFFFF 0 0 0 false 0 0,
  rg "TIME_DOM_STEP_HI" 0x94 1 1 0 1 0 .wo 0xFFFFFFFF 0 0 0 false 0 0,
  rg "TIME_DOM_PDLY" 0x98 1 1 0 1 0 .rw 0xFFFFFFFF 0 0 0 false 0 0,
  rg "TIME_DOM_LAST_LO" 0xA0 1 1 0 1 0 .ro 0xFFFFFFFF 0 0 0 false 0 0,
  rg "TIME_DOM_LAST_HI" 0xA4 1 1 0 1 0 .ro 0xFFFFFFFF 0 0 0 false 0 0,
  rg "TIME_DOM_FREQ" 0xA8 1 1 0 1 0 .ro 0xFFFFFFFF 0 0 0 false 0 0,
  rg "TIME_DOM_CNT_ACC" 0xAC 1 1 0 1 0 .rc 0xFFFFFFFF 0 0 0 true 0 0,
  rg "TIME_DOM_CNT_REJ" 0xB0 1 1 0 1 0 .rc 0xFFFFFFFF 0 0 0 true 0 0]

/-- Registers of the `tio` blocks (R66). -/
def rows_tio : List RegRow := [
  rg "TIME_PPSOUT_CTRL" 0x40 1 4 16 1 0 .rw 0xF 0 0 0 false 0 0,
  rg "TIME_PPSOUT_OFS" 0x44 1 4 16 1 0 .rw 0xFFFFFFFF 0 0 0 false 0 0,
  rg "TIME_PPSOUT_WIDTH" 0x48 1 4 16 1 0 .rw 0xFFFFFFFF 0x64 0 0 false 1 500000,
  rg "TIME_PPSIN_CTRL" 0x80 1 2 4 1 0 .rw 3 1 0 0 false 0 0,
  rg "TIME_PPSIN_DLY" 0x88 1 2 4 1 0 .rw 0xFFFFFFFF 0 0 0 false 0 0,
  rg "TIME_TOD_CTRL" 0x90 1 1 0 1 0 .rw 0x1FF001F 0x10000 0 0 false 0 0,
  rg "TIME_TOD_LEAP" 0x94 1 1 0 1 0 .rw 0xFFFFFFFF 0 0 0 false 0 0,
  rg "TIME_TOD_RXDATA" 0xA0 1 1 0 1 0 .rc 0xFFFFFFFF 0 0 0 false 0 0,
  rg "TIME_REF_CTRL" 0xB0 1 1 0 1 0 .rw 0xFFFFFFFF 0 0 0 false 0 0,
  rg "TIME_REF_STAT" 0xB4 1 1 0 1 0 .ro 0xFFFFFFFF 0 0 0 false 0 0,
  rg "TIME_REF_FOFS" 0xB8 1 1 0 1 0 .ro 0xFFFFFFFF 0 0 0 false 0 0,
  rg "TIME_TOD_TXBUF" 0x100 1 16 4 1 0 .rw 0xFFFFFFFF 0 0 0 false 0 0]

/-- Registers of the `tsu` blocks (R66). -/
def rows_tsu : List RegRow := [
  rg "TIME_TSQ_SEL" 0x40 1 1 0 1 0 .rw 0x3F 0 0 0 false 0 0,
  rg "TIME_TSQ_DATA" 0x44 1 4 4 1 0 .ro 0xFFFFFFFF 0 0 0 false 0 0,
  rg "TIME_LOSS_DATA" 0x60 1 2 4 1 0 .ro 0xFFFFFFFF 0 0 0 false 0 0,
  rg "TIME_LOSS_STAT" 0x68 1 1 0 1 0 .ro 0xFFFF001F 0 0 0 false 0 0,
  rg "TIME_TSQ_NE" 0x70 1 2 4 1 0 .ro 0xFFFFFFFF 0 0 0 false 0 0,
  rg "TIME_PORT_TSCTRL" 0x400 1 64 32 1 0 .rw 0xF 4 0 0 false 0 0,
  rg "TIME_PORT_ASYM_TX" 0x404 1 64 32 1 0 .rw 0xFFFFFFFF 0 0 0 false 0 0,
  rg "TIME_PORT_ASYM_RX" 0x408 1 64 32 1 0 .rw 0xFFFFFFFF 0 0 0 false 0 0,
  rg "TIME_PORT_LEAD" 0x40C 1 64 32 1 0 .rw 0xFFFFFFFF 0x898 0 0 false 200 8000,
  rg "TIME_PORT_TSQ_LOST" 0x410 1 64 32 1 0 .rc 0xFFFFFFFF 0 0 0 true 0 0,
  rg "TIME_PORT_ONESTEP_LATE" 0x414 1 64 32 1 0 .rc 0xFFFFFFFF 0 0 0 true 0 0,
  rg "TIME_PORT_TSQ_LEVEL" 0x418 1 64 32 1 0 .ro 0x7F 0 0 0 false 0 0]

/-- Registers of the `ptm` blocks (R66). -/
def rows_ptm : List RegRow := [
  rg "TIME_PTM_CTRL" 0x100 1 4 64 1 0 .rw 1 0 0 0 false 0 0,
  rg "TIME_PTM_ADDR_LO" 0x104 1 4 64 1 0 .rw 0xFFFFFFFF 0 0 0 false 0 0,
  rg "TIME_PTM_ADDR_HI" 0x108 1 4 64 1 0 .rw 0xFFFFFFFF 0 0 0 false 0 0,
  rg "TIME_PTM_PERIOD" 0x10C 1 4 64 1 0 .rw 0xFFFFFFFF 0x3E8 0 0 false 1 10000,
  rg "TIME_PTM_STAT" 0x110 1 4 64 1 0 .ro 0x8000FFFF 0 0 0 false 0 0]

/-- Registers of the `boot` blocks (R88). -/
def rows_boot : List RegRow := [
  rg "SYS_BOOT_STAT" 0x40 1 1 0 1 0 .ro 0x7FFFF 1 0 0 false 0 0,
  rg "SYS_DEVICE_ID" 0x48 1 1 0 1 0 .cp 0x3FF 0 0 0 false 0 0,
  rg "SYS_BOARD" 0x50 1 1 0 1 0 .ro 0x3FFFF 0 0 0 false 0 0,
  rg "SYS_PLAN" 0x54 1 1 0 1 0 .ro 0xFFFFFFFF 0 0 0 false 0 0,
  rg "SYS_BOOT_FAIL" 0x58 1 1 0 1 0 .ro 0xFF 0 0 0 false 0 0,
  rg "SYS_BOOT_TIME" 0x5C 1 1 0 1 0 .ro 0xFFFFFFFF 0 0 0 false 0 0,
  rg "SYS_FWD_WAIT" 0x60 1 1 0 1 0 .rw 0x3F 0x14 0 0 false 5 60,
  rg "SYS_FWD_LATE_LO" 0x64 1 1 0 1 0 .ro 0xFFFFFFFF 0 0 0 false 0 0,
  rg "SYS_FWD_LATE_HI" 0x68 1 1 0 1 0 .ro 0xFFFFFFFF 0 0 0 false 0 0,
  rg "SYS_MOD_RESULT" 0x100 1 64 4 1 0 .ro 0x3F 0 0 0 false 0 0]

/-- Registers of the `irq` blocks (R111). -/
def rows_irq : List RegRow := [
  rg "SYS_GSTAT" 0x40 1 1 0 1 0 .ro 0x3FFFFFF 0 0 0 false 0 0,
  rg "SYS_GMASK" 0x44 1 1 0 1 0 .rw 0x3FFFFFF 0 0 0 false 0 0,
  rg "SYS_IRQ_CTRL" 0x48 1 1 0 1 0 .rw 3 0 0 0 false 0 0]

/-- Registers of the `acc` blocks (R93, R111). -/
def rows_acc : List RegRow := [
  rg "SYS_ACC_RD 0" 0x40 1 1 0 1 0 .rwl 0x3FFFFFF 0x3FFFFFF 0 0 false 0 0,
  rg "SYS_ACC_WR 0" 0x44 1 1 0 1 0 .rwl 0x3FFFFFF 0x3FFFFFF 0 0 false 0 0,
  rg "SYS_ACC_RD 1" 0x48 1 1 0 1 0 .rwl 0x3FFFFFF 0 0 0 false 0 0,
  rg "SYS_ACC_WR 1" 0x4C 1 1 0 1 0 .rwl 0x3FFFFFF 0 0 0 false 0 0,
  rg "SYS_ACC_RD 2" 0x50 1 1 0 1 0 .rwl 0x3FFFFFF 0x3FFFFFF 0 0 false 0 0,
  rg "SYS_ACC_WR 2" 0x54 1 1 0 1 0 .rwl 0x3FFFFFF 1 0 0 false 0 0,
  rg "SYS_ACC_RD 3" 0x58 1 1 0 1 0 .rwl 0x3FFFFFF 0x3FFFFFF 0 0 false 0 0,
  rg "SYS_ACC_WR 3" 0x5C 1 1 0 1 0 .rwl 0x3FFFFFF 0x3FFFFFF 0 0 false 0 0]

/-- Registers of the `intg` blocks (R111). -/
def rows_intg : List RegRow := [
  rg "SYS_INTG_LOG" 0x40 1 4 4 1 0 .ro 0xFFFFFFFF 0 0 0 false 0 0,
  rg "SYS_INTG_STAT" 0x50 1 1 0 1 0 .ro 0xFFFF001F 0 0 0 false 0 0]

/-- Registers of the `snap` blocks (R111). -/
def rows_snap : List RegRow := [
  rg "SYS_SNAP_CTRL" 0x40 1 1 0 1 0 .rw 7 0 0 7 false 0 0,
  rg "SYS_SNAP_AT_NS" 0x44 1 1 0 1 0 .rw 0xFFFFFFFF 0 0 0 false 0 0,
  rg "SYS_SNAP_AT_SEC_LO" 0x48 1 1 0 1 0 .rw 0xFFFFFFFF 0 0 0 false 0 0,
  rg "SYS_SNAP_AT_SEC_HI" 0x4C 1 1 0 1 0 .rw 0xFFFF 0 0 0 false 0 0,
  rg "SYS_SNAP_STAT" 0x50 1 1 0 1 0 .ro 0xFF0F 0 0 0 false 0 0,
  rg "SYS_SNAP_BASE_LO" 0x58 1 1 0 1 0 .rwl 0xFFFFFFFF 0 0 0 false 0 0,
  rg "SYS_SNAP_BASE_HI" 0x5C 1 1 0 1 0 .rwl 0xFFFFFFFF 0 0 0 false 0 0]

/-- Registers of the `rgn` blocks (R111, R466). -/
def rows_rgn : List RegRow := [
  rg "SYS_CHIP_RESET" 0x40 1 1 0 1 0 .cp 0xFFFFFFFF 0 0 0 false 0 0,
  rg "SYS_RGN_RESET" 0x80 1 14 8 1 0 .cp 3 0 0 0 false 0 0,
  rg "SYS_RGN_RESET" 0x100 1 10 8 1 0 .cp 3 0 0 0 false 0 0,
  rg "SYS_CHIP_FAULT" 0x48 1 1 0 1 0 .ro 0x800000FF 0 0 0 false 0 0,
  rg "SYS_FAILSAFE_CTRL" 0x4C 1 1 0 1 0 .rw 1 1 0 0 false 0 0,
  rg "SYS_RGN_FATAL" 0x50 1 1 0 1 0 .w1c 0x3FFFFFF 0 0 0 false 0 0,
  rg "SYS_RGN_READY" 0x54 1 1 0 1 0 .w1c 0x3FFFFFF 0 0 0 false 0 0,
  rg "SYS_RGN_STAT" 0x204 1 13 4 1 0 .ro 0x3FFF 0 0 0 false 0 0,
  rg "SYS_RGN_STAT" 0x240 1 10 4 1 0 .ro 0x3FFF 0 0 0 false 0 0,
  rg "SYS_RGN_POLICY" 0x284 1 13 4 1 0 .rw 7 5 0 0 false 0 0,
  rg "SYS_RGN_POLICY" 0x2C0 1 10 4 1 0 .rw 7 5 0 0 false 0 0,
  rg "SYS_RGN_WL_LO" 0x300 1 26 8 1 0 .rw 0xFFFFFFFF 0 0 0 false 0 0,
  rg "SYS_RGN_WL_HI" 0x304 1 26 8 1 0 .rw 0xFFFFFFFF 0 0 0 false 0 0]

/-- Registers of the `oct` blocks (R135). -/
def rows_oct : List RegRow := [
  rg "LINE_OCT_RATE" 0x40 1 1 0 1 0 .rw 0xF 0 0 0 false 0 0,
  rg "LINE_OCT_STAT" 0x44 1 1 0 1 0 .ro 0xFFFF 0 0 0 false 0 0,
  rg "LINE_PORT_CFG" 0x100 1 8 64 1 0 .rw 0x1FFF 0x400 0 0 false 0 0,
  rg "LINE_PORT_MAXLEN" 0x104 1 8 64 1 0 .rw 0x7FFF 0x2400 0 0 false 0 0,
  rg "LINE_PORT_STAT" 0x108 1 8 64 1 0 .ro 0xFFFF 0 0 0 false 0 0,
  rg "LINE_PORT_PFC" 0x10C 1 8 64 1 0 .rw 0xFFFF00FF 0 0 0 false 0 0,
  rg "LINE_PORT_HALF_LO" 0x110 1 8 64 1 0 .w1c 0xFFFFFFFF 0 0 0 false 0 0,
  rg "LINE_PORT_HALF_HI" 0x114 1 8 64 1 0 .w1c 0xFFFFFFFF 0 0 0 false 0 0,
  rg "LINE_PORT_CNT_CLR" 0x118 1 8 64 1 0 .wo 1 0 0 0 false 0 0,
  rg "LINE_PORT_WAKE" 0x11C 1 8 64 1 0 .rc 0xFFFFFFFF 0 0 0 true 0 0,
  rg "LINE_PORT_FEC_CORR" 0x120 2 8 64 1 0 .ro 0xFFFFFFFF 0 0 0 true 0 0,
  rg "LINE_PORT_FEC_UNCORR" 0x128 2 8 64 1 0 .ro 0xFFFFFFFF 0 0 0 true 0 0,
  rg "LINE_PORT_SEC_CORR" 0x130 1 8 64 1 0 .ro 0xFFFFFFFF 0 0 0 true 0 0,
  rg "LINE_PORT_SEC_UNCORR" 0x134 1 8 64 1 0 .ro 0xFFFFFFFF 0 0 0 true 0 0,
  rg "LINE_LANE_STAT" 0x800 1 8 32 1 0 .ro 0x1F 0 0 0 false 0 0,
  rg "LINE_LANE_SYM" 0x808 2 8 32 1 0 .ro 0xFFFFFFFF 0 0 0 true 0 0,
  rg "LINE_LANE_SEC_SYM" 0x810 1 8 32 1 0 .ro 0xFFFFFFFF 0 0 0 true 0 0,
  rg "LINE_LANE_TXEQ" 0x814 1 8 32 1 0 .rw 0xFFFFFF 0 0 0 false 0 0,
  rg "LINE_LANE_POL" 0x818 1 8 32 1 0 .rw 3 0 0 0 false 0 0,
  rg "LINE_PORT_WPAT" 0xC00 16 8 128 1 0 .rw 0xFFFFFFFF 0 0 0 false 0 0,
  rg "LINE_PORT_WMASK" 0xC40 16 8 128 1 0 .rw 0xFFFFFFFF 0 0 0 false 0 0,
  rg "LINE_PORT_CNT" 0x1000 128 8 512 1 0 .ro 0xFFFFFFFF 0 0 0 true 0 0]

/-- Registers of the `modm` blocks (R137). -/
def rows_modm : List RegRow := [
  rg "SYS_MOD_POLL" 0x40 1 1 0 1 0 .rw 0x3FF 0x32 0 0 false 10 1000,
  rg "SYS_MOD_EVT_LO" 0x48 1 1 0 1 0 .w1c 0xFFFFFFFF 0 0 0 false 0 0,
  rg "SYS_MOD_EVT_HI" 0x4C 1 1 0 1 0 .w1c 0xFFFFFFFF 0 0 0 false 0 0,
  rg "SYS_MOD_ACC_CTRL" 0x50 1 1 0 1 0 .rw 0xFFFFFFFF 0 0 0xC0 false 0 0,
  rg "SYS_MOD_ACC_LEN" 0x54 1 1 0 1 0 .rw 0xFF 1 0 0 false 1 128,
  rg "SYS_MOD_ACC_STAT" 0x58 1 1 0 1 0 .ro 0xF 0 0 0 false 0 0,
  rg "SYS_MOD_ACC_DATA" 0x100 1 32 4 1 0 .rw 0xFFFFFFFF 0 0 0 false 0 0,
  rg "SYS_MOD_FLAGS" 0x200 1 64 4 1 0 .w1c 0x1FF 0 0 0 false 0 0]

/-- Registers of the `ip` blocks (R165). -/
def rows_ip : List RegRow := [
  rg "PIPE_PARSE_ENTRY" 0x40 1 2 16 4 4 .rw 0x7FF 0 0 0 false 0 0,
  rg "PIPE_EXC_CTRL" 0x60 1 1 0 1 0 .rw 0xFFFFFFFF 0 0 0 false 0 0,
  rg "PIPE_EXC_BURST" 0x64 1 1 0 1 0 .rw 0xFFFF 0x40 0 0 false 0 0,
  rg "PIPE_PARSE_PKTS" 0x80 2 1 0 1 0 .ro 0xFFFFFFFF 0 0 0 true 0 0,
  rg "PIPE_PARSE_INSTR" 0x88 2 1 0 1 0 .ro 0xFFFFFFFF 0 0 0 true 0 0,
  rg "PIPE_PARSE_OVERRUN" 0x90 1 1 0 1 0 .rc 0xFFFFFFFF 0 0 0 true 0 0,
  rg "PIPE_EXC_CNT" 0xA0 1 4 4 1 0 .rc 0xFFFFFFFF 0 0 0 true 0 0,
  rg "PIPE_PARSE_MAXI" 0xB0 1 1 0 1 0 .rc 0x7F 0 0 0 false 0 0,
  rg "PIPE_PARSE_FRAG" 0xB4 1 1 0 1 0 .rc 0xFFFFFFFF 0 0 0 true 0 0,
  rg "PIPE_PARSE_BEYOND" 0xB8 1 1 0 1 0 .rc 0xFFFFFFFF 0 0 0 true 0 0,
  rg "PIPE_COLOR_MAP" 0xC0 1 4 4 1 0 .rw 0xFFFFFFFF 0 0 0 false 0 0]

/-- Registers of the `em` blocks (R165, R203). -/
def rows_em : List RegRow := [
  rg "TBL_EM_STAT" 0x40 1 1 0 1 0 .ro 3 0 0 0 false 0 0,
  rg "TBL_EM_CFG" 0x100 1 64 4 1 0 .rw 0x3FFF07 0 0 0 false 0 0,
  rg "TBL_EM_COUNT" 0x200 1 64 4 1 0 .ro 0x1FFFFF 0 0 0 false 0 0,
  rg "TBL_EM_AGE" 0x300 1 64 4 1 0 .rw 0xFFFF 0 0 0 false 0 0,
  rg "TBL_EM_AGED" 0x400 1 64 4 1 0 .rc 0xFFFFFFFF 0 0 0 true 0 0]

/-- Registers of the `tile` blocks (R203). -/
def rows_tile : List RegRow := [
  rg "TBL_TILE_FN" 0x100 1 96 4 1 0 .rwl 7 0 0 0 false 0 5,
  rg "TBL_AGE_SUSPEND" 0x40 1 1 0 1 0 .rw 1 0 0 0 false 0 0]

/-- Registers of the `lpm` blocks (R203). -/
def rows_lpm : List RegRow := [
  rg "TBL_LPM_STAT" 0x40 1 1 0 1 0 .ro 0x1FFF 0 0 0 false 0 0,
  rg "TBL_LPM_ENTRIES" 0x44 1 1 0 1 0 .ro 0x7FFFFF 0 0 0 false 0 0,
  rg "TBL_LPM_LOOKUPS" 0x400 2 16 32 1 0 .ro 0xFFFFFFFF 0 0 0 true 0 0,
  rg "TBL_LPM_PROBES" 0x408 2 16 32 1 0 .ro 0xFFFFFFFF 0 0 0 true 0 0,
  rg "TBL_LPM_LONG" 0x410 1 16 32 1 0 .rc 0xFFFFFFFF 0 0 0 true 0 0,
  rg "TBL_LPM_FALSE" 0x414 1 16 32 1 0 .rc 0xFFFFFFFF 0 0 0 true 0 0,
  rg "TBL_LPM_NOVRF" 0x418 1 16 32 1 0 .rc 0xFFFFFFFF 0 0 0 true 0 0]

/-- Registers of the `nh` blocks (R203). -/
def rows_nh : List RegRow := [
  rg "TBL_NH_INVALID" 0x40 1 1 0 1 0 .rc 0xFFFFFFFF 0 0 0 true 0 0,
  rg "TBL_ECMP_INVALID" 0x44 1 1 0 1 0 .rc 0xFFFFFFFF 0 0 0 true 0 0,
  rg "TBL_IND_MISS" 0x48 1 1 0 1 0 .rc 0xFFFFFFFF 0 0 0 true 0 0]

/-- Registers of the `stat` blocks (R203). -/
def rows_stat : List RegRow := [
  rg "TBL_STAT_ADJ" 0x40 1 1 0 1 0 .rw 0xFF 4 0 0 false 0 0,
  rg "TBL_STAT_NH_BASE" 0x44 1 1 0 1 0 .rw 0x1FFFFF 0 0 0 false 0 1048576]

/-- Registers of the `far` blocks (R203). -/
def rows_far : List RegRow := [
  rg "TBL_FAR_BASE_LO" 0x40 1 1 0 1 0 .rwl 0xFFFFFFFF 0 0 0 false 0 0,
  rg "TBL_FAR_BASE_HI" 0x44 1 1 0 1 0 .rwl 0xFFFFFFFF 0 0 0 false 0 0,
  rg "TBL_FAR_RATE" 0x48 1 1 0 1 0 .rw 0xFFF 0xBB8 0 0 false 1 3000,
  rg "TBL_FAR_ENTRIES" 0x4C 1 1 0 1 0 .ro 0x7FFFFFF 0 0 0 false 0 0,
  rg "TBL_FAR_PROBES" 0x50 2 1 0 1 0 .ro 0xFFFFFFFF 0 0 0 true 0 0,
  rg "TBL_FAR_DROP" 0x58 1 1 0 1 0 .rc 0xFFFFFFFF 0 0 0 true 0 0,
  rg "TBL_FAR_PREFETCH_WASTED" 0x5C 1 1 0 1 0 .rc 0xFFFFFFFF 0 0 0 true 0 0]

/-- Registers of the `lrn` blocks (R203). -/
def rows_lrn : List RegRow := [
  rg "PIPE_LRN_CTRL" 0x40 1 1 0 1 0 .rw 0xFFFF000F 3 0 0 false 0 0,
  rg "PIPE_LRN_AGE" 0x44 1 1 0 1 0 .rw 0xFFFF 0x12C 0 0 false 0 0,
  rg "PIPE_LRN_STAT" 0x48 1 1 0 1 0 .ro 0xF 0 0 0 false 0 0,
  rg "PIPE_LRN_COUNT" 0x4C 1 1 0 1 0 .ro 0x1FFFF 0 0 0 false 0 0,
  rg "PIPE_LRN_DROP" 0x50 1 4 4 1 0 .rc 0xFFFFFFFF 0 0 0 true 0 0,
  rg "PIPE_LRN_EVT" 0x60 1 3 4 1 0 .rc 0xFFFFFFFF 0 0 0 true 0 0,
  rg "PIPE_BRIDGE_FLOOD" 0x70 1 1 0 1 0 .rc 0xFFFFFFFF 0 0 0 true 0 0]

/-- Registers of the `rwb` blocks (R203). -/
def rows_rwb : List RegRow := [
  rg "TBL_RW_TTL" 0x40 1 1 0 1 0 .rc 0xFFFFFFFF 0 0 0 true 0 0,
  rg "TBL_RW_EXC" 0x44 1 1 0 1 0 .rc 0xFFFFFFFF 0 0 0 true 0 0]

/-- Registers of the `asc` blocks (R225). -/
def rows_asc : List RegRow := [
  rg "PIPE_ASC_CTRL" 0x40 1 1 0 1 0 .rw 3 1 0 0 false 0 0,
  rg "PIPE_ASC_STAT" 0x44 1 1 0 1 0 .ro 0xF0F 0 0 0 false 0 0,
  rg "PIPE_ASC_COUNT" 0x48 1 1 0 1 0 .ro 0xFFFF 0 0 0 false 0 0,
  rg "PIPE_ASC_MOVE_RANGE" 0x4C 1 1 0 1 0 .ro 0x7FFF7FFF 0 0 0 false 0 0,
  rg "PIPE_ASC_TIE_REC" 0x50 1 1 0 1 0 .ro 0xFFFF7FFF 0 0 0 false 0 0,
  rg "PIPE_ASC_MASKED" 0x54 1 1 0 1 0 .ro 0x80007FFF 0 0 0 false 0 0,
  rg "PIPE_ASC_SEARCHES" 0x80 2 4 16 1 0 .ro 0xFFFFFFFF 0 0 0 true 0 0,
  rg "PIPE_ASC_HITS" 0x88 2 4 16 1 0 .ro 0xFFFFFFFF 0 0 0 true 0 0,
  rg "PIPE_ASC_TIES" 0xC0 1 1 0 1 0 .rc 0xFFFFFFFF 0 0 0 true 0 0,
  rg "PIPE_ASC_FALSE_HIT" 0xC4 1 1 0 1 0 .rc 0xFFFFFFFF 0 0 0 true 0 0,
  rg "PIPE_ASC_ABANDON" 0xC8 1 1 0 1 0 .rc 0xFFFFFFFF 0 0 0 true 0 0,
  rg "PIPE_ASC_STOLEN" 0xCC 1 1 0 1 0 .rc 0xFFFFFFFF 0 0 0 true 0 0,
  rg "PIPE_ASC_SCRUB_FIX" 0xD0 1 1 0 1 0 .rc 0xFFFFFFFF 0 0 0 true 0 0,
  rg "PIPE_ASC_SCRUB_PASSES" 0xD4 1 1 0 1 0 .ro 0xFFFFFFFF 0 0 0 true 0 0,
  rg "PIPE_ASC_KEY" 0x100 1 20 4 1 0 .rw 0xFFFFFFFF 0 0 0 false 0 0,
  rg "PIPE_ASC_MASK" 0x180 1 20 4 1 0 .rw 0xFFFFFFFF 0 0 0 false 0 0]

/-- Registers of the `ase` blocks (R225). -/
def rows_ase : List RegRow := [
  rg "PIPE_ASC_EGR_DROP" 0xD8 1 1 0 1 0 .rc 0xFFFFFFFF 0 0 0 true 0 0]

/-- Registers of the `ver` blocks (R243). -/
def rows_ver : List RegRow := [
  rg "SYS_VER_CTRL" 0x40 1 1 0 1 0 .rw 7 0 0 7 false 0 0,
  rg "SYS_VER_STAT" 0x44 1 1 0 1 0 .ro 0xFFFF001F 0 0 0 false 0 0,
  rg "SYS_VER_SEQ" 0x48 1 1 0 1 0 .rw 0xFFFF 0 0 0 false 0 0,
  rg "SYS_VER_AT_NS" 0x4C 1 1 0 1 0 .rw 0xFFFFFFFF 0 0 0 false 0 0,
  rg "SYS_VER_AT_SEC_LO" 0x50 1 1 0 1 0 .rw 0xFFFFFFFF 0 0 0 false 0 0,
  rg "SYS_VER_AT_SEC_HI" 0x54 1 1 0 1 0 .rw 0xFFFF 0 0 0 false 0 0,
  rg "SYS_VER_INFL_CUR" 0x58 1 1 0 1 0 .ro 0xFFFFFFFF 0 0 0 false 0 0,
  rg "SYS_VER_INFL_RET" 0x5C 1 1 0 1 0 .ro 0xFFFFFFFF 0 0 0 false 0 0,
  rg "SYS_VER_RETIRE_LIMIT" 0x60 1 1 0 1 0 .rw 0xFFFF 0xC8 0 0 false 1 65535,
  rg "SYS_VER_PROP" 0x64 1 1 0 1 0 .rw 0x1FFFF 0x3E8 0 0 false 0 100000,
  rg "SYS_VER_PEND" 0x68 1 1 0 1 0 .ro 0x7FF 0 0 0 false 0 0,
  rg "SYS_VER_LAST_RETIRE" 0x6C 1 1 0 1 0 .ro 0xFFFFFFFF 0 0 0 false 0 0,
  rg "SYS_VER_FOREIGN" 0x70 1 1 0 1 0 .rc 0xFFFFFFFF 0 0 0 true 0 0,
  rg "SYS_VER_SKEW" 0x74 1 1 0 1 0 .rc 0xFFFFFFFF 0 0 0 true 0 0,
  rg "SYS_VER_PROT" 0x78 1 1 0 1 0 .ro 0x83FFFFFF 0 0 0 false 0 0,
  rg "SYS_VER_PAUSE" 0x80 1 1 0 1 0 .rw 0x1F0FFF 0 0 0 false 0 0,
  rg "SYS_VER_PAUSE_STAT" 0x84 1 1 0 1 0 .ro 0xFFFF00F7 0 0 0 false 0 0,
  rg "SYS_VER_BATCH" 0x800 1 512 4 1 0 .rw 0xFFFFFFFF 0 0 0 false 0 0]

/-- Registers of the `cell` blocks (R271). -/
def rows_cell : List RegRow := [
  rg "BUF_CELL_FREE 0" 0x40 1 1 0 1 0 .ro 0xFFFFF 0x80000 0 0 false 0 0,
  rg "BUF_CELL_MIN 0" 0x50 1 1 0 1 0 .rc 0xFFFFF 0x80000 0 0 false 0 0,
  rg "BUF_CELL_FREE 1" 0x44 1 1 0 1 0 .ro 0xFFFFF 0x10000 0 0 false 0 0,
  rg "BUF_CELL_MIN 1" 0x54 1 1 0 1 0 .rc 0xFFFFF 0x10000 0 0 false 0 0,
  rg "BUF_CELL_FREE 2" 0x48 1 1 0 1 0 .ro 0xFFFFF 0x10000 0 0 false 0 0,
  rg "BUF_CELL_MIN 2" 0x58 1 1 0 1 0 .rc 0xFFFFF 0x10000 0 0 false 0 0,
  rg "BUF_NOCELL" 0x60 1 1 0 1 0 .rc 0xFFFFFFFF 0 0 0 true 0 0,
  rg "BUF_CELL_BADFREE" 0x64 1 1 0 1 0 .rc 0xFFFFFFFF 0 0 0 true 0 0,
  rg "BUF_CT_CTRL" 0x70 1 1 0 1 0 .rw 3 2 0 0 false 0 0,
  rg "BUF_CT_SRC_LO" 0x74 1 1 0 1 0 .rw 0xFFFFFFFF 0 0 0 false 0 0,
  rg "BUF_CT_SRC_HI" 0x78 1 1 0 1 0 .rw 0xFFFFFFFF 0 0 0 false 0 0,
  rg "BUF_BAD_DROP" 0x80 1 1 0 1 0 .rc 0xFFFFFFFF 0 0 0 true 0 0,
  rg "BUF_BAD_SENT" 0x84 1 1 0 1 0 .rc 0xFFFFFFFF 0 0 0 true 0 0,
  rg "BUF_BAD_RX_END" 0x88 1 1 0 1 0 .rc 0xFFFFFFFF 0 0 0 true 0 0,
  rg "BUF_BAD_RX_DROP" 0x8C 1 1 0 1 0 .rc 0xFFFFFFFF 0 0 0 true 0 0]

/-- Registers of the `spill` blocks (R271). -/
def rows_spill : List RegRow := [
  rg "BUF_SPILL_BASE_LO" 0x40 1 1 0 1 0 .rwl 0xFFFFFFFF 0 0 0 false 0 0,
  rg "BUF_SPILL_BASE_HI" 0x44 1 1 0 1 0 .rwl 0xFFFFFFFF 0 0 0 false 0 0,
  rg "BUF_SPILL_PAGES" 0x48 1 1 0 1 0 .rwl 0x1FFFFFF 0 0 0 false 0 0,
  rg "BUF_SPILL_RING_LO" 0x50 1 1 0 1 0 .rwl 0xFFFFFFFF 0 0 0 false 0 0,
  rg "BUF_SPILL_RING_HI" 0x54 1 1 0 1 0 .rwl 0xFFFFFFFF 0 0 0 false 0 0,
  rg "BUF_SPILL_PTAB_LO" 0x58 1 1 0 1 0 .rwl 0xFFFFFFFF 0 0 0 false 0 0,
  rg "BUF_SPILL_PTAB_HI" 0x5C 1 1 0 1 0 .rwl 0xFFFFFFFF 0 0 0 false 0 0,
  rg "BUF_SPILL_FREE" 0x60 1 1 0 1 0 .ro 0x1FFFFFF 0 0 0 false 0 0,
  rg "BUF_SPILL_AHEAD" 0x64 1 1 0 1 0 .rw 0x7F 0x10 0 0 false 1 64,
  rg "BUF_SPILL_INIT" 0x68 1 1 0 1 0 .wo 1 0 0 0 false 0 0,
  rg "BUF_SPILL_WR_BYTES" 0x70 2 1 0 1 0 .ro 0xFFFFFFFF 0 0 0 true 0 0,
  rg "BUF_SPILL_RD_BYTES" 0x78 2 1 0 1 0 .ro 0xFFFFFFFF 0 0 0 true 0 0,
  rg "BUF_SPILL_DROP" 0x80 1 2 4 1 0 .rc 0xFFFFFFFF 0 0 0 true 0 0]

/-- Registers of the `repl` blocks (R271). -/
def rows_repl : List RegRow := [
  rg "BUF_REPL_STAT" 0x40 1 1 0 1 0 .ro 0x3FFFFFFF 0 0 0 false 0 0,
  rg "BUF_REPL_FIFO_DROP" 0x44 1 1 0 1 0 .rc 0xFFFFFFFF 0 0 0 true 0 0,
  rg "BUF_REPL_NOSHARE" 0x48 1 1 0 1 0 .rc 0xFFFFFFFF 0 0 0 true 0 0,
  rg "BUF_REPL_SELF" 0x4C 1 1 0 1 0 .rc 0xFFFFFFFF 0 0 0 true 0 0]

/-- Registers of the `pool` blocks (R271). -/
def rows_pool : List RegRow := [
  rg "BUF_POOL_LOG" 0x40 1 4 4 1 0 .ro 0xFFFFFFFF 0 0 0 false 0 0,
  rg "BUF_POOL_LOGSTAT" 0x50 1 1 0 1 0 .ro 0xFFFF001F 0 0 0 false 0 0,
  rg "BUF_POOL_SHARED" 0x54 1 1 0 1 0 .ro 0x1FFFF 0 0 0 false 0 0]

/-- Registers of the `bport` blocks (R271). -/
def rows_bport : List RegRow := [
  rg "BUF_POOL_FREE" 0x40 2 1 0 1 0 .wo 0xFFFFFFFF 0 0 0 false 0 0,
  rg "BUF_POOL_RELEASE" 0x48 2 1 0 1 0 .wo 0xFFFFFFFF 0 0 0 false 0 0,
  rg "BUF_POOL_SHARE" 0x50 2 1 0 1 0 .wo 0xFFFFFFFF 0 0 0 false 0 0,
  rg "BUF_POOL_ALLOC" 0x1000 2 256 8 1 0 .ro 0xFFFFFFFF 0 0 0 false 0 0]

/-- Registers of the `voq` blocks (R296). -/
def rows_voq : List RegRow := [
  rg "QUE0_SHARED_SIZE" 0x40 1 1 0 1 0 .rw 0xFFFFF 0x40000 0 0 false 0 0,
  rg "QUE0_SHARED_USED" 0x44 1 1 0 1 0 .ro 0xFFFFF 0 0 0 false 0 0,
  rg "QUE0_VOQ_STALL" 0x48 1 1 0 1 0 .rw 0xFFFFF 0x186A0 0 0 false 1000 1000000,
  rg "QUE0_CLASS_CFG" 0x60 1 8 4 1 0 .rw 0xFFF1 0x10 0 0 false 0 0,
  rg "QUE0_DROP" 0x80 1 6 4 1 0 .rc 0xFFFFFFFF 0 0 0 true 0 0,
  rg "QUE0_CE_MARKED" 0xA0 1 1 0 1 0 .rc 0xFFFFFFFF 0 0 0 true 0 0]

/-- Registers of the `alw` blocks (R296). -/
def rows_alw : List RegRow := [
  rg "QUE0_ALW_CTRL" 0x40 1 1 0 1 0 .rw 7 7 0 0 false 0 0,
  rg "QUE0_ALW_EXPIRE" 0x44 1 1 0 1 0 .rw 0xFF 4 0 0 false 2 255,
  rg "QUE0_HINT_AGE" 0x48 1 1 0 1 0 .rw 0xFF 0x20 0 0 false 2 255,
  rg "QUE0_HINT_DELTA" 0x4C 1 1 0 1 0 .rw 0xFFFF 0x10 0 0 false 0 0,
  rg "QUE0_ALW_F" 0x50 1 1 0 1 0 .ro 0x1FFFF 0x10000 0 0 false 0 0,
  rg "QUE0_REC_BAD" 0x54 1 1 0 1 0 .rc 0xFFFFFFFF 0 0 0 true 0 0,
  rg "QUE0_ALW_SENT" 0x58 2 1 0 1 0 .ro 0xFFFFFFFF 0 0 0 true 0 0,
  rg "QUE0_ALW_RECEIVED" 0x60 2 1 0 1 0 .ro 0xFFFFFFFF 0 0 0 true 0 0]

/-- Registers of the `eq` blocks (R297). -/
def rows_eq : List RegRow := [
  rg "QUE1_SHARED_SIZE" 0x40 1 1 0 1 0 .rw 0xFFFFF 0x40000 0 0 false 0 0,
  rg "QUE1_SHARED_USED" 0x44 1 1 0 1 0 .ro 0xFFFFF 0 0 0 false 0 0,
  rg "QUE1_DROP" 0x80 1 5 4 1 0 .rc 0xFFFFFFFF 0 0 0 true 0 0,
  rg "QUE1_CE_MARKED" 0xA0 1 1 0 1 0 .rc 0xFFFFFFFF 0 0 0 true 0 0]

/-- Registers of the `qsch` blocks (R297). -/
def rows_qsch : List RegRow := [
  rg "QUE1_EPOCH 0" 0x40 1 1 0 1 0 .rw 0x1FFFF 0x80 0 0 false 8 65536,
  rg "QUE1_EPOCH 1" 0x44 1 1 0 1 0 .rw 0x1FFFF 0x100 0 0 false 8 65536,
  rg "QUE1_EPOCH 2" 0x48 1 1 0 1 0 .rw 0x1FFFF 0x200 0 0 false 8 65536,
  rg "QUE1_EPOCH 3" 0x4C 1 1 0 1 0 .rw 0x1FFFF 0x400 0 0 false 8 65536,
  rg "QUE1_EPOCH 4" 0x50 1 1 0 1 0 .rw 0x1FFFF 0x800 0 0 false 8 65536,
  rg "QUE1_PORT_STOP_LO" 0x60 1 1 0 1 0 .ro 0xFFFFFFFF 0 0 0 false 0 0,
  rg "QUE1_PORT_STOP_MID" 0x64 1 1 0 1 0 .ro 0xFFFFFFFF 0 0 0 false 0 0,
  rg "QUE1_PORT_STOP_HI" 0x70 1 1 0 1 0 .ro 0x3F 0 0 0 false 0 0,
  rg "QUE1_SELECTS" 0x68 2 1 0 1 0 .ro 0xFFFFFFFF 0 0 0 true 0 0]

/-- Registers of the `pfc` blocks (R297). -/
def rows_pfc : List RegRow := [
  rg "QUE1_PFC_CTRL" 0x100 1 64 4 1 0 .rw 0x1FF 0 0 0 false 0 0,
  rg "QUE1_PFC_XOFF_LO" 0x40 1 1 0 1 0 .ro 0xFFFFFFFF 0 0 0 false 0 0,
  rg "QUE1_PFC_XOFF_HI" 0x44 1 1 0 1 0 .ro 0xFFFFFFFF 0 0 0 false 0 0,
  rg "QUE1_PFC_SENT" 0x48 1 1 0 1 0 .rc 0xFFFFFFFF 0 0 0 true 0 0]

/-- Registers of the `fsch0` blocks (R325). -/
def rows_fsch0 : List RegRow := [
  rg "FAB_PISTE_CTRL" 0x40 1 1 0 1 0 .rw 3 0 0 3 false 0 0,
  rg "FAB_PISTE_AT_NS" 0x48 1 1 0 1 0 .rw 0xFFFFFFFF 0 0 0 false 0 0,
  rg "FAB_PISTE_AT_SEC_LO" 0x4C 1 1 0 1 0 .rw 0xFFFFFFFF 0 0 0 false 0 0,
  rg "FAB_PISTE_AT_SEC_HI" 0x50 1 1 0 1 0 .rw 0xFFFF 0 0 0 false 0 0,
  rg "FAB_PISTE_CFG" 0x60 1 2 4 1 0 .rw 0x7FF003F 1 0 0 false 0 0]

/-- Registers of the `fsch` blocks (R325). -/
def rows_fsch : List RegRow := [
  rg "FAB_PISTE_STAT" 0x44 1 1 0 1 0 .ro 0xFF3F 4 0 0 false 0 0,
  rg "FAB_LANES_ALIGNED" 0x70 1 1 0 1 0 .ro 0x7F 0 0 0 false 0 0,
  rg "FAB_CELLS_TX" 0x80 2 1 0 1 0 .ro 0xFFFFFFFF 0 0 0 true 0 0,
  rg "FAB_CELLS_RX" 0x88 2 1 0 1 0 .ro 0xFFFFFFFF 0 0 0 true 0 0,
  rg "FAB_HCRC_ERR" 0x90 1 1 0 1 0 .rc 0xFFFFFFFF 0 0 0 true 0 0,
  rg "FAB_MISROUTE" 0x94 1 1 0 1 0 .rc 0xFFFFFFFF 0 0 0 true 0 0,
  rg "FAB_MISCONNECT" 0x98 1 1 0 1 0 .rc 0xFFFFFFFF 0 0 0 true 0 0,
  rg "FAB_PHASE_JUMP" 0x9C 1 1 0 1 0 .rc 0xFFFFFFFF 0 0 0 true 0 0,
  rg "FAB_PHASE_WIN" 0xA0 1 1 0 1 0 .rw 0xFFFF 0x40 0 0 false 0 0,
  rg "FAB_LANE_CTRL" 0x100 1 72 4 1 0 .rw 3 0 0 0 false 0 0,
  rg "FAB_LANE_ADV" 0x280 1 72 4 1 0 .rw 0xFFFFF 0 0 0 false 0 0,
  rg "FAB_USABLE" 0x400 1 8 16 3 4 .ro 0xFFFFFFFF 0 0 0 false 0 0]

/-- Registers of the `frly` blocks (R325). -/
def rows_frly : List RegRow := [
  rg "FAB_RLY_USED" 0x40 1 1 0 1 0 .ro 0x1FFFF 0 0 0 false 0 0,
  rg "FAB_RLY_CELLS" 0x48 2 1 0 1 0 .ro 0xFFFFFFFF 0 0 0 true 0 0,
  rg "FAB_RLY_DROP" 0x50 1 2 4 1 0 .rc 0xFFFFFFFF 0 0 0 true 0 0,
  rg "FAB_SPREAD_LEVEL" 0x60 1 1 0 1 0 .ro 0x7FFF 0 0 0 false 0 0]

/-- Registers of the `frsq` blocks (R325). -/
def rows_frsq : List RegRow := [
  rg "FAB_RSQ_PROP" 0x40 1 1 0 1 0 .rw 0x1FFFF 0x3E8 0 0 false 0 100000,
  rg "FAB_RSQ_HELD" 0x44 1 1 0 1 0 .ro 0x1FFFF 0 0 0 false 0 0,
  rg "FAB_RSQ_LOST" 0x48 2 1 0 1 0 .ro 0xFFFFFFFF 0 0 0 true 0 0,
  rg "FAB_RSQ_LATE" 0x50 1 1 0 1 0 .rc 0xFFFFFFFF 0 0 0 true 0 0,
  rg "FAB_RSQ_DUP" 0x54 1 1 0 1 0 .rc 0xFFFFFFFF 0 0 0 true 0 0,
  rg "FAB_RSQ_FORCED" 0x58 1 1 0 1 0 .rc 0xFFFFFFFF 0 0 0 true 0 0,
  rg "FAB_RSQ_ABORT" 0x5C 1 1 0 1 0 .rc 0xFFFFFFFF 0 0 0 true 0 0]

/-- Registers of the `flnk` blocks (R350). -/
def rows_flnk : List RegRow := [
  rg "FAB_LNK_DEG_SET" 0x40 1 1 0 1 0 .rw 0xFF 0x45 0 0 false 0 0,
  rg "FAB_LNK_DEG_CLR" 0x44 1 1 0 1 0 .rw 0xFF 0x55 0 0 false 0 0,
  rg "FAB_LNK_DEG_N" 0x48 1 1 0 1 0 .rw 0xF 3 0 0 false 2 10,
  rg "FAB_LNK_DEG" 0x50 1 3 4 1 0 .ro 0xFFFFFFFF 0 0 0 false 0 0,
  rg "FAB_LNK_STAT" 0x1000 1 72 64 1 0 .ro 0x7FFFF 0 0 0 false 0 0,
  rg "FAB_LNK_SEC_CORR" 0x1004 1 72 64 1 0 .ro 0xFFFFFFFF 0 0 0 true 0 0,
  rg "FAB_LNK_SEC_UNCORR" 0x1008 1 72 64 1 0 .ro 0xFFFFFFFF 0 0 0 true 0 0,
  rg "FAB_LNK_SEC_MARK" 0x100C 1 72 64 1 0 .ro 0xFFFFFFFF 0 0 0 true 0 0,
  rg "FAB_LNK_SEC_SLIP" 0x1010 1 72 64 1 0 .ro 0xFFFFFFFF 0 0 0 true 0 0,
  rg "FAB_LNK_SEC_HCRC" 0x1014 1 72 64 1 0 .ro 0xFFFFFFFF 0 0 0 true 0 0,
  rg "FAB_LNK_SEC_SLOTS" 0x1018 1 72 64 1 0 .ro 0xFFFFFFFF 0 0 0 true 0 0,
  rg "FAB_LNK_CORR" 0x1020 2 72 64 1 0 .ro 0xFFFFFFFF 0 0 0 true 0 0,
  rg "FAB_LNK_UNCORR" 0x1028 2 72 64 1 0 .ro 0xFFFFFFFF 0 0 0 true 0 0,
  rg "FAB_LNK_SLIP_DROP" 0x1030 1 72 64 1 0 .rc 0xFFFFFFFF 0 0 0 true 0 0,
  rg "FAB_LNK_SLIP_REP" 0x1034 1 72 64 1 0 .rc 0xFFFFFFFF 0 0 0 true 0 0,
  rg "FAB_LNK_OVERRUN" 0x1038 1 72 64 1 0 .rc 0xFFFFFFFF 0 0 0 true 0 0,
  rg "FAB_LNK_ALIGN_LOSS" 0x103C 1 72 64 1 0 .rc 0xFFFFFFFF 0 0 0 true 0 0]

/-- Registers of the `ovc` blocks (R352). -/
def rows_ovc : List RegRow := [
  rg "SYS_OVC_CTRL" 0x40 1 4 16 1 0 .rw 0x7FF3 0 0 0 false 0 0,
  rg "SYS_OVC_STAT" 0x44 1 4 16 1 0 .ro 0xFF 0 0 0 false 0 0,
  rg "SYS_OVC_TXLEN" 0x48 1 4 16 1 0 .wo 0x7FF 0 0 0 false 0 0,
  rg "SYS_OVC_RXLEN" 0x4C 1 4 16 1 0 .ro 0x800007FF 0 0 0 false 0 0,
  rg "SYS_OVC_RXPOP" 0x80 1 4 4 1 0 .wo 1 0 0 0 false 0 0,
  rg "SYS_OVC_CNT" 0x100 1 4 16 4 4 .rc 0xFFFFFFFF 0 0 0 true 0 0,
  rg "SYS_OVC_TXBUF" 0x1000 256 4 1024 1 0 .rw 0xFFFFFFFF 0 0 0 false 0 0,
  rg "SYS_OVC_RXBUF" 0x2000 256 4 1024 1 0 .ro 0xFFFFFFFF 0 0 0 false 0 0]

/-- Registers of the `key` blocks (R375). -/
def rows_key : List RegRow := [
  rg "SEC_KEY_STAT" 0x40 1 1 0 1 0 .ro 3 0 0 0 false 0 0,
  rg "SEC_KEY_REASON" 0x44 1 1 0 1 0 .ro 7 0 0 0 false 0 0,
  rg "SEC_KEY_COUNT" 0x48 1 1 0 1 0 .ro 0x3FFFF 0 0 0 false 0 0,
  rg "SEC_KEY_CP_ERR" 0x4C 1 1 0 1 0 .rc 0xFFFFFFFF 0 0 0 true 0 0]

/-- Registers of the `esp` blocks (R375). -/
def rows_esp : List RegRow := [
  rg "SEC_ESP_RW_BASE" 0x40 1 1 0 1 0 .rw 0xFFFFF 0 0 0 false 0 0,
  rg "SEC_ESP_DROP" 0x80 1 6 4 1 0 .rc 0xFFFFFFFF 0 0 0 true 0 0]

/-- Registers of the `lka` blocks (R375). -/
def rows_lka : List RegRow := [
  rg "SEC_LKA_PI" 0x1000 1 256 8 1 0 .rw 0xFFFF 0 0 0 false 0 0,
  rg "SEC_LKA_CI" 0x1004 1 256 8 1 0 .ro 0xFFFF 0 0 0 false 0 0,
  rg "SEC_LKA_STATUS" 0x84 1 12 4 1 0 .rc 0xFFFFFFFF 0 0 0 true 0 0]

/-- Registers of the `msec` blocks (R375). -/
def rows_msec : List RegRow := [
  rg "MSEC_PORT_CFG" 0x40 1 8 16 1 0 .rw 7 6 0 0 false 0 0,
  rg "MSEC_REPLAY_WIN" 0x44 1 8 16 1 0 .rw 0xFFFFFFFF 0 0 0 false 0 0,
  rg "MSEC_BYPASS" 0x100 1 4 4 1 0 .rw 0x1FFFF 0 0 0 false 0 0,
  rg "MSEC_PN_SOFT_LO" 0x110 1 1 0 1 0 .rw 0xFFFFFFFF 0 0 0 false 0 0,
  rg "MSEC_PN_SOFT_HI" 0x114 1 1 0 1 0 .rw 0xFFFFFFFF 0xC0000000 0 0 false 0 0]

/-- Registers of the `cl` blocks (R402). -/
def rows_cl : List RegRow := [
  rg "CPU_DLK_CTRL" 0x40 1 1 0 1 0 .rw 1 1 0 0 false 0 0,
  rg "CPU_DLK_CNT" 0x44 1 1 0 1 0 .rc 0xFFFFFFFF 0 0 0 true 0 0,
  rg "CPU_DLK_MASK" 0x48 1 1 0 1 0 .ro 0xFFFFFFFF 0 0 0 false 0 0,
  rg "CPU_EV_MISKIND" 0x4C 1 1 0 1 0 .rc 0xFFFFFFFF 0 0 0 true 0 0,
  rg "CPU_THR_STAT" 0x100 1 32 4 1 0 .ro 0xFFFF03FF 0 0 0 false 0 0,
  rg "CPU_EV_KIND" 0x200 2 32 8 1 0 .rw 0xFFFFFFFF 0 0 0 false 0 0,
  rg "CPU_EVPEND" 0x400 2 32 8 1 0 .ro 0xFFFFFFFF 0 0 0 false 0 0,
  rg "CPU_MTIMECMP" 0x600 2 32 8 1 0 .rw 0xFFFFFFFF 0xFFFFFFFF 0 0 false 0 0]

/-- Registers of the `ctx` blocks (R402). -/
def rows_ctx : List RegRow := [
  rg "CPU_CTX_SEL" 0x40 1 1 0 1 0 .rw 0x1FF 0 0 0 false 0 0,
  rg "CPU_CTX_IDX" 0x44 1 1 0 1 0 .rw 0x7F 0 0 0 false 0 0,
  rg "CPU_CTX_DATA_LO" 0x48 1 1 0 1 0 .rw 0xFFFFFFFF 0 0 0 false 0 0,
  rg "CPU_CTX_DATA_HI" 0x4C 1 1 0 1 0 .rw 0xFFFFFFFF 0 0 0 false 0 0,
  rg "CPU_CTX_CMD" 0x50 1 1 0 1 0 .wo 7 0 0 0 false 0 0,
  rg "CPU_CTX_STAT" 0x54 1 1 0 1 0 .ro 0xF 0 0 0 false 0 0]

/-- Registers of the `chn` blocks (R402). -/
def rows_chn : List RegRow := [
  rg "CPU_CH_LASTHOLD" 0x40 1 1 0 1 0 .ro 0x81FFFFFF 0 0 0 false 0 0,
  rg "CPU_CH_ENABLED" 0x44 1 1 0 1 0 .ro 0x7FFF 0 0 0 false 0 0]

/-- Registers of the `pmu` blocks (R402). -/
def rows_pmu : List RegRow := [
  rg "CPU_PMU_CTRL" 0x40 1 1 0 1 0 .rw 7 0 0 7 false 0 0,
  rg "CPU_PMU_AT_NS" 0x44 1 1 0 1 0 .rw 0xFFFFFFFF 0 0 0 false 0 0,
  rg "CPU_PMU_AT_SEC_LO" 0x48 1 1 0 1 0 .rw 0xFFFFFFFF 0 0 0 false 0 0,
  rg "CPU_PMU_AT_SEC_HI" 0x4C 1 1 0 1 0 .rw 0xFFFFFFFF 0 0 0 false 0 0,
  rg "CPU_PMU_STAT" 0x50 1 1 0 1 0 .ro 0xF 0 0 0 false 0 0]

/-- Registers of the `dbg` blocks (R396): DMI registers by RISC-V External Debug Support 1.0. -/
def rows_dbg : List RegRow := [
  rg "DBG_DATA" 0x110 2 1 0 1 0 .rw 0xFFFFFFFF 0 0 0 false 0 0,
  rg "DBG_DMCONTROL" 0x140 1 1 0 1 0 .rw 0x3FF0001 0 0 0 false 0 0,
  rg "DBG_DMSTATUS" 0x144 1 1 0 1 0 .ro 0xFFFFFFFF 0 0 0 false 0 0,
  rg "DBG_HALTSUM1" 0x14C 1 1 0 1 0 .ro 0xFFFFFFFF 0 0 0 false 0 0,
  rg "DBG_ABSTRACTCS" 0x158 1 1 0 1 0 .rw 0xFFFFFFFF 0 0 0 false 0 0,
  rg "DBG_COMMAND" 0x15C 1 1 0 1 0 .wo 0xFFFFFFFF 0 0 0 false 0 0,
  rg "DBG_HALTSUM0" 0x200 1 1 0 1 0 .ro 0xFFFFFFFF 0 0 0 false 0 0]

/-- Registers of the `hlnk` blocks (R428). -/
def rows_hlnk : List RegRow := [
  rg "HOST_LINK_CFG" 0x40 1 1 0 1 0 .rwl 0x1F 0x14 0 0 false 0 0,
  rg "HOST_LINK_STAT" 0x80 1 4 16 1 0 .ro 0x7FF 0 0 0 false 0 0,
  rg "HOST_NOLINK" 0xC0 1 1 0 1 0 .rc 0xFFFFFFFF 0 0 0 true 0 0,
  rg "HOST_DB_DROP" 0xC4 1 1 0 1 0 .rc 0xFFFFFFFF 0 0 0 true 0 0,
  rg "HOST_RX_NOQP" 0xC8 1 1 0 1 0 .rc 0xFFFFFFFF 0 0 0 true 0 0,
  rg "HOST_RX_NOBUF" 0xCC 1 1 0 1 0 .rc 0xFFFFFFFF 0 0 0 true 0 0,
  rg "HOST_RX_STOPPED" 0xD0 1 1 0 1 0 .rc 0xFFFFFFFF 0 0 0 true 0 0]

/-- Registers of the `slc` blocks (R428). -/
def rows_slc : List RegRow := [
  rg "HOST_QUOTA_FAIL" 0x40 1 1 0 1 0 .rc 0xFFFFFFFF 0 0 0 true 0 0,
  rg "HOST_DLOG_SWAP" 0x44 1 1 0 1 0 .wo 0xFFF 0 0 0 false 0 0,
  rg "HOST_DLOG_OOR" 0x48 1 1 0 1 0 .rc 0xFFFFFFFF 0 0 0 true 0 0]

/-- Registers of the `blk` blocks (R428). -/
def rows_blk : List RegRow := [
  rg "HOST_BLK_DONE" 0x40 1 4 4 1 0 .wo 0xFFFFFFFF 0 0 0 false 0 0,
  rg "HOST_BLK_TMO" 0x50 1 1 0 1 0 .rw 0x1FFFF 0x7530 0 0 false 100 100000,
  rg "HOST_BLK_LATE" 0x54 1 1 0 1 0 .rc 0xFFFFFFFF 0 0 0 true 0 0]

/-- Registers of the `mbx` blocks (R428). -/
def rows_mbx : List RegRow := [
  rg "HOST_MBX_EN" 0x40 1 1 0 1 0 .rwl 1 1 0 0 false 0 0]

/-- Registers of the `mctl` blocks (R448). -/
def rows_mctl : List RegRow := [
  rg "MEM_STAT" 0x40 1 1 0 1 0 .ro 0xFF3F 0 0 0 false 0 0,
  rg "MEM_PAGE_IDLE" 0x44 1 1 0 1 0 .rw 0x7FF 0x40 0 0 false 8 1024,
  rg "MEM_ARB_W 0" 0xA0 1 1 0 1 0 .rw 0xFF 0x32 0 0 false 1 255,
  rg "MEM_ARB_W 1" 0xA4 1 1 0 1 0 .rw 0xFF 8 0 0 false 1 255,
  rg "MEM_ARB_W 2" 0xA8 1 1 0 1 0 .rw 0xFF 0x18 0 0 false 1 255,
  rg "MEM_ARB_W 3" 0xAC 1 1 0 1 0 .rw 0xFF 8 0 0 false 1 255,
  rg "MEM_ARB_W 4" 0xB0 1 1 0 1 0 .rw 0xFF 0xA 0 0 false 1 255,
  rg "MEM_SR_CTRL" 0x60 1 1 0 1 0 .rw 1 1 0 0 false 0 0,
  rg "MEM_SR_CNT" 0x64 1 1 0 1 0 .rc 0xFFFFFFFF 0 0 0 true 0 0,
  rg "MEM_SR_ABANDON" 0x68 1 1 0 1 0 .rc 0xFFFFFFFF 0 0 0 true 0 0,
  rg "MEM_ADDR_ERR" 0x6C 1 1 0 1 0 .rc 0xFFFFFFFF 0 0 0 true 0 0,
  rg "MEM_RD_BYTES" 0x80 2 1 0 1 0 .ro 0xFFFFFFFF 0 0 0 true 0 0,
  rg "MEM_WR_BYTES" 0x88 2 1 0 1 0 .ro 0xFFFFFFFF 0 0 0 true 0 0]

/-- Registers of the `mras` blocks (R448). -/
def rows_mras : List RegRow := [
  rg "MEM_RH_TH" 0x40 1 1 0 1 0 .rw 0xFFFF 0x1000 0 0 false 512 32768,
  rg "MEM_RH_GAP" 0x44 1 1 0 1 0 .rw 0x1FFFF 0x7D0 0 0 false 100 100000,
  rg "MEM_RH_LOG" 0x50 1 4 4 1 0 .ro 0xFFFFFFFF 0 0 0 false 0 0,
  rg "MEM_RH_LOGSTAT" 0x60 1 1 0 1 0 .ro 0xFFFF001F 0 0 0 false 0 0,
  rg "MEM_RAS_CMD" 0x70 1 1 0 1 0 .wo 0x7F03 0 0 0 false 0 0,
  rg "MEM_RAS_STAT" 0x74 1 1 0 1 0 .ro 0x3FF 0 0 0 false 0 0,
  rg "MEM_MIG_RATE" 0x78 1 1 0 1 0 .rw 0xFF 0x20 0 0 false 1 128,
  rg "MEM_MIG_PTR" 0x7C 1 1 0 1 0 .ro 0x9FFFFFFF 0 0 0 false 0 0,
  rg "MEM_SCRUB_HOURS" 0x80 1 1 0 1 0 .rw 0xFF 0x18 0 0 false 0 168,
  rg "MEM_UE_DROP" 0x84 1 1 0 1 0 .rc 0xFFFFFFFF 0 0 0 true 0 0,
  rg "MEM_REDIR" 0x200 1 94 4 1 0 .ro 0xFF 0 0 0 false 0 0]

/-- Registers of the `gw` blocks (R104, R466). -/
def rows_gw : List RegRow := [
  rg "RCAUSE_LO" 0x40 1 1 0 1 0 .ro 0xFFFFFFFF 0 0 0 false 0 0,
  rg "RCAUSE_HI" 0x44 1 1 0 1 0 .ro 0xFFFFFFFF 0 0 0 false 0 0,
  rg "RMASK_LO" 0x48 1 1 0 1 0 .rw 0xFFFFFFFF 0 0 0 false 0 0,
  rg "RMASK_HI" 0x4C 1 1 0 1 0 .rw 0xFFFFFFFF 0 0 0 false 0 0,
  rg "GW_ABSENT_SENT" 0x50 1 1 0 1 0 .rc 0xFFFFFFFF 0 0 0 true 0 0,
  rg "GW_EPOCH_DISCARD" 0x54 1 1 0 1 0 .rc 0xFFFFFFFF 0 0 0 true 0 0,
  rg "GW_ABSENT_DROP" 0x58 1 1 0 1 0 .rc 0xFFFFFFFF 0 0 0 true 0 0,
  rg "GW_FATAL_INFO" 0x5C 1 1 0 1 0 .ro 0x800000FF 0 0 0 false 0 0,
  rg "GW_REPLY_TMO" 0x60 1 1 0 1 0 .rc 0xFFFFFFFF 0 0 0 true 0 0]

/-- Registers of the `img` blocks (R488). -/
def rows_img : List RegRow := [
  rg "SYS_IMG_CTRL" 0x40 1 1 0 1 0 .rw 0x3FF 0 0 0xF false 0 0,
  rg "SYS_IMG_STAT" 0x44 1 1 0 1 0 .ro 0x7FF 0 0 0 false 0 0,
  rg "SYS_GLIDE_QLEVEL" 0x50 1 1 0 1 0 .ro 0x1FFFF 0 0 0 false 0 0,
  rg "SYS_GLIDE_QREFUSED" 0x54 1 1 0 1 0 .rc 0xFFFFFFFF 0 0 0 true 0 0,
  rg "SYS_GLIDE_TIME" 0x58 1 1 0 1 0 .ro 0xFFFFFFFF 0 0 0 false 0 0,
  rg "SYS_SET_STAT" 0x60 1 1 0 1 0 .ro 0x1F 0 0 0 false 0 0,
  rg "SYS_SET_SCHEMA" 0x64 1 1 0 1 0 .ro 0xFFFFFFFF 0 0 0 false 0 0,
  rg "SYS_SET_GEN_LO" 0x68 1 1 0 1 0 .ro 0xFFFFFFFF 0 0 0 false 0 0,
  rg "SYS_SET_GEN_HI" 0x6C 1 1 0 1 0 .ro 0xFFFFFFFF 0 0 0 false 0 0,
  rg "SYS_SET_LEN" 0x70 1 1 0 1 0 .ro 0x1FFFFFF 0 0 0 false 0 0,
  rg "SYS_SET_BASE_LO" 0x78 1 1 0 1 0 .ro 0xFFFFFFFF 0 0 0 false 0 0,
  rg "SYS_SET_BASE_HI" 0x7C 1 1 0 1 0 .ro 0xFFFFFFFF 0 0 0 false 0 0,
  rg "SYS_SET_WBASE_LO" 0x80 1 1 0 1 0 .rw 0xFFFFFFFF 0 0 0 false 0 0,
  rg "SYS_SET_WBASE_HI" 0x84 1 1 0 1 0 .rw 0xFFFFFFFF 0 0 0 false 0 0,
  rg "SYS_SET_WLEN" 0x88 1 1 0 1 0 .rw 0x1FFFFFF 0 0 0 false 0 33554304,
  rg "SYS_SET_CMD" 0x8C 1 1 0 1 0 .wo 1 0 0 0 false 0 0]

/-- Registers of the `att` blocks (R488). -/
def rows_att : List RegRow := [
  rg "SYS_ATT_NONCE" 0x40 1 8 4 1 0 .rw 0xFFFFFFFF 0 0 0 false 0 0,
  rg "SYS_ATT_DST_LO" 0x60 1 1 0 1 0 .rw 0xFFFFFFFF 0 0 0 false 0 0,
  rg "SYS_ATT_DST_HI" 0x64 1 1 0 1 0 .rw 0xFFFFFFFF 0 0 0 false 0 0,
  rg "SYS_ATT_CMD" 0x68 1 1 0 1 0 .wo 3 0 0 0 false 0 0,
  rg "SYS_ATT_STAT" 0x6C 1 1 0 1 0 .ro 0x3FFF 0 0 0 false 0 0,
  rg "SYS_ATT_EXT" 0x80 1 16 4 1 0 .rw 0xFFFFFFFF 0 0 0 false 0 0]

/-- Registers of the `svc` blocks (R488). -/
def rows_svc : List RegRow := [
  rg "SYS_SVC_CTRL" 0x40 1 1 0 1 0 .rw 7 1 0 0 false 0 0,
  rg "SYS_SVC_IP4" 0x44 1 1 0 1 0 .rw 0xFFFFFFFF 0 0 0 false 0 0,
  rg "SYS_SVC_PORT" 0x48 1 1 0 1 0 .rw 0xFFFF 0x7CC6 0 0 false 0 0,
  rg "SYS_SVC_CNT" 0x80 1 4 4 1 0 .rc 0xFFFFFFFF 0 0 0 true 0 0]

/-- Registers of the `therm` blocks (R508). -/
def rows_therm : List RegRow := [
  rg "SYS_THERM_STAT" 0x40 1 1 0 1 0 .ro 0x7FFFFFF 0 0 0 false 0 0,
  rg "SYS_THERM_WARN" 0x44 1 1 0 1 0 .rw 0xFF 0x5F 0 0 false 80 100,
  rg "SYS_THERM_LIM" 0x48 1 1 0 1 0 .rw 0xFF 0x64 0 0 false 90 103,
  rg "SYS_THERM_THR_CNT" 0x4C 1 1 0 1 0 .rc 0xFFFFFFFF 0 0 0 true 0 0,
  rg "SYS_THERM_SENSOR" 0x100 1 48 4 1 0 .ro 0x1FF 0 0 0 false 0 0,
  rg "SYS_PWR_STAT" 0x60 1 1 0 1 0 .ro 0x3FFFFFF 0 0 0 false 0 0,
  rg "SYS_PWR_VSB" 0x64 1 1 0 1 0 .ro 0x3FF 0 0 0 false 0 0,
  rg "SYS_PWR_CTRL" 0x68 1 1 0 1 0 .rw 1 1 0 0 false 0 0]

/-- The registers of a block beyond its header and its table windows. -/
def blockRows (region block : Nat) : List RegRow :=
  if block = 0x3F then rows_gw
  else match region with
  | 0 => match block with
    | 1 => rows_boot | 2 => rows_irq | 3 => rows_acc | 4 => rows_intg | 5 => rows_snap | 6 => rows_rgn | 7 => rows_modm
    | 8 => rows_ver | 9 => rows_ovc | 10 => rows_img | 11 => rows_att | 12 => rows_svc | 13 => rows_therm | _ => []
  | 1 => match block with
    | 0 => rows_wt | 1 => rows_dom | 2 => rows_dom | 3 => rows_tio | 4 => rows_tsu | 5 => rows_ptm | _ => []
  | 2 => if block < 8 then rows_oct else rows_msec
  | 7 => match block with
    | 0 => rows_tile | 1 => rows_lpm | 3 => rows_em | 5 => rows_nh | 6 => rows_stat | 7 => rows_far | 8 => rows_rwb | _ => []
  | 8 => match block with
    | 0 => rows_key | 1 => rows_esp | 2 => rows_lka | _ => []
  | 12 => match block with
    | 0 => rows_hlnk | 1 => rows_slc | 3 => rows_blk | 4 => rows_mbx | _ => []
  | 0x11 => match block with
    | 0 => rows_voq | 1 => rows_alw | _ => []
  | 0x12 => match block with
    | 0 => rows_eq | 1 => rows_qsch | 3 => rows_pfc | _ => []
  | 0x13 => match block with
    | 0 => rows_cell | 1 => rows_spill | 2 => rows_repl | 3 => rows_pool | 4 => rows_bport | _ => []
  | 0x14 => match block with
    | 0 => rows_fsch ++ rows_fsch0 | 1 => rows_frly | 3 => rows_flnk | _ => []
  | 0x15 => match block with
    | 0 => rows_fsch | 2 => rows_frsq | 3 => rows_flnk | _ => []
  | _ =>
    if 3 ≤ region ∧ region ≤ 6 then
      (if block < 4 then rows_ip
       else if block = 9 then rows_lrn
       else if block = 10 then rows_asc
       else if block = 11 then rows_asc ++ rows_ase
       else [])
    else if 9 ≤ region ∧ region ≤ 11 then
      (if block < 4 then rows_cl
       else if block = 4 then rows_ctx
       else if block = 5 then rows_chn
       else if block = 6 then rows_dbg
       else if block = 7 then rows_pmu
       else [])
    else if 0x16 ≤ region ∧ region ≤ 0x19 then
      (if block = 0 then rows_mctl else if block = 1 then rows_mras else [])
    else []

/-- R11: the region IDs that name a region. -/
def regionExists (r : Nat) : Bool := r ≤ 0x0D || (0x10 ≤ r && r ≤ 0x19)

/-- The blocks a region has (R90 for GW; the chapters' block lists for the rest). -/
def blockExists (region block : Nat) : Bool :=
  regionExists region && (block == 0x3F ||
  (match region with
   | 0 => 1 ≤ block && block ≤ 13
   | 1 => block ≤ 5
   | 2 => block ≤ 7 || (0x10 ≤ block && block ≤ 0x17)
   | 3 | 4 | 5 | 6 => block ≤ 3 || (8 ≤ block && block ≤ 11)
   | 7 => block ≤ 8 && block != 2
   | 8 => block ≤ 2
   | 9 | 10 | 11 => block ≤ 7
   | 12 => block ≤ 4
   | 0x11 => block ≤ 2
   | 0x12 => block ≤ 3
   | 0x13 => block ≤ 4
   | 0x14 => block ≤ 1 || block == 3
   | 0x15 => block == 0 || block == 2 || block == 3
   | 0x16 | 0x17 | 0x18 | 0x19 => block ≤ 2
   | _ => false))

/-- The word of a row an offset falls in: the element number and the word inside the element.
A CP row is two words: value and complement (R100). -/
def RegRow.find (row : RegRow) (off : Nat) : Option (Nat × Nat) :=
  let words := if row.type = .cp then 2 else row.w
  if off < row.off then none
  else
    let d := off - row.off
    let i := if row.n ≤ 1 then 0 else d / row.st
    let d1 := d - i * row.st
    let j := if row.m ≤ 1 then 0 else d1 / row.st2
    let d2 := d1 - j * row.st2
    if i < row.n && j < row.m && d2 / 4 < words then some (i * row.m + j, d2 / 4) else none

/-- The row of a block that holds an offset. -/
def findRow (rows : List RegRow) (off : Nat) : Option (RegRow × Nat × Nat) :=
  match rows with
  | [] => none
  | row :: rest =>
    match row.find off with
    | some p => some (row, p.1, p.2)
    | none => findRow rest off

/-- The parts of a register-window address (R90). -/
def addrRegion (a : Nat) : Nat := a / 0x100000 % 64
def addrBlock (a : Nat) : Nat := a / 0x4000 % 64
def addrOff (a : Nat) : Nat := a % 0x4000

/-- Reset value of a header register (R95): BLKID and BLKVER are made of the block's numbers. -/
def headerReset (region block off : Nat) : Nat :=
  if off = 0x000 then block + region * 0x100 + (if 0x10 ≤ region then 0x4000 else 0)
  else if off = 0x004 then 0x100
  else if off = 0x00C then 0xFFFFFFFF
  else if off = 0x01C then 1
  else 0

/-- The default partition of T-SRAM (R168). -/
def tileFnReset (n : Nat) : Nat :=
  if n < 54 then 1 else if n < 64 then 2 else if n < 76 then 3 else if n < 84 then 4 else 5

/-- Reset value of the word at an address: its row's, the complement word of a CP register holding the inverse of the
value bits (R100); 0 where no register is. -/
def regResetNat (a : Nat) : Nat :=
  let region := addrRegion a
  let block := addrBlock a
  let off := addrOff a
  if off < 0x040 then headerReset region block off
  else match findRow (blockRows region block) off with
  | some (row, i, k) =>
    if row.type = .cp ∧ k = 1 then row.mask - row.reset
    else if off < 0x1000 ∧ region ≥ 0x16 ∧ block = 1 ∧ row.off = R.MEM_REDIR then i
    else if region = 7 ∧ block = 0 ∧ row.off = R.TBL_TILE_FN then tileFnReset i
    else row.reset
  | none => 0

/-- Reset value of the register word at an address. -/
def regReset (a : Nat) : Word := BitVec.ofNat 32 (regResetNat a)

end Sys2Proof.Machine
end

