-- ==== Sys2Proof/Machine/Sparse.lean ====
section
/-! DEFINITION. Sparse data by key: a list of (key, value) pairs in one canonical form, keys strictly rising and no entry
equal to what an unlisted key holds (`d`). Registers, table memories and the byte memories are such lists. -/

namespace Sys2Proof.Machine

/-- What the list holds at a key. -/
def spGet {α : Type} (d : Nat → α) : List (Nat × α) → Nat → α
  | [], k => d k
  | (j, v) :: r, k => if k = j then v else spGet d r k

/-- The list with an entry put in its place. -/
def spIns {α : Type} : List (Nat × α) → Nat → α → List (Nat × α)
  | [], k, v => [(k, v)]
  | (j, w) :: r, k, v =>
    if k < j then (k, v) :: (j, w) :: r else if k = j then (k, v) :: r else (j, w) :: spIns r k v

/-- The list without a key, wherever it stands. -/
def spDel {α : Type} : List (Nat × α) → Nat → List (Nat × α)
  | [], _ => []
  | (j, w) :: r, k => if k = j then spDel r k else (j, w) :: spDel r k

/-- Write: an entry equal to the unlisted value is removed, so that equal contents are equal lists. -/
def spPut {α : Type} [DecidableEq α] (d : Nat → α) (l : List (Nat × α)) (k : Nat) (v : α) : List (Nat × α) :=
  if v = d k then spDel l k else spIns l k v

/-- Keys above a bound, strictly rising, and no entry equal to the unlisted value. -/
def spWfFrom {α : Type} [DecidableEq α] (d : Nat → α) : Nat → List (Nat × α) → Bool
  | _, [] => true
  | lo, (j, v) :: r => decide (lo ≤ j) && decide (v ≠ d j) && spWfFrom d (j + 1) r

/-- The canonical form. -/
def spWf {α : Type} [DecidableEq α] (d : Nat → α) (l : List (Nat × α)) : Bool := spWfFrom d 0 l

end Sys2Proof.Machine
end

