-- ==== Sys2Proof/Machine/Ops.lean ====
section
/-! DEFINITION. The named operations over the state: registers and their fields, counters, table memories, byte memories,
free values, the time domains and working time, region states. -/

namespace Sys2Proof.Machine

/-! ## Registers -/

/-- The register word at an address. -/
def State.rd (s : State) (a : Nat) : Word := spGet regReset s.regs a

/-- The state with a register word written. -/
def State.wr (s : State) (a : Nat) (v : Word) : State := { s with regs := spPut regReset s.regs a v }

/-- A register field: `w` bits from bit `lo`. -/
def State.fld (s : State) (a lo w : Nat) : Nat := natField (s.rd a).toNat lo w

/-- The state with a register field written (its other bits kept). -/
def State.setFld (s : State) (a lo w v : Nat) : State :=
  s.wr a (BitVec.ofNat 32 (natSetField (s.rd a).toNat lo w v))

/-- One register bit. -/
def State.rbit (s : State) (a i : Nat) : Bool := natBit (s.rd a).toNat i

/-- The state with one register bit written. -/
def State.setRbit (s : State) (a i : Nat) (b : Bool) : State := s.setFld a i 1 (if b then 1 else 0)

/-- A 64-bit register pair, low word at the lower offset (R96). -/
def State.rd64 (s : State) (a : Nat) : Nat := (s.rd a).toNat + (s.rd (a + 4)).toNat * 2 ^ 32

/-- Registers of line port `p` and of L-lane `l`. -/
def portA (p off : Nat) : Nat := A.oct (p / 8) (off + 64 * (p % 8))
def laneA (l off : Nat) : Nat := A.oct (l / 8) (off + 32 * (l % 8))

/-- The state with a 64-bit register pair written. -/
def State.wr64 (s : State) (a v : Nat) : State :=
  (s.wr a (BitVec.ofNat 32 v)).wr (a + 4) (BitVec.ofNat 32 (v / 2 ^ 32))

/-- A 32-bit counter counts `n` events, unless counters are frozen (R109). It wraps (assumption 5). -/
def State.bump (s : State) (a : Nat) (n : Nat := 1) : State :=
  if s.ctl.snapFrozen then s else s.wr a (s.rd a + BitVec.ofNat 32 n)

/-- A counter of `w` bits in a 64-bit pair counts `n` events, unless counters are frozen; it wraps at its width. -/
def State.bump64 (s : State) (a : Nat) (n : Nat := 1) (w : Nat := 64) : State :=
  if s.ctl.snapFrozen then s else s.wr64 a ((s.rd64 a + n) % 2 ^ w)

/-- An overflow count of 16 bits counts an event, unless counters are frozen (R109). -/
def State.ovfNext (s : State) (n : Nat) : Nat := if s.ctl.snapFrozen then n else (n + 1) % 65536

/-- The value word of a CP register as its using logic takes it: the stored value while the stored pair is whole, the
last good pair's value otherwise (R102). -/
def cpWhole (mask v c : Nat) : Bool := v &&& mask == v && c == mask - v

/-- The reset pair of a CP register. -/
def cpResetPair (a : Nat) : BitVec 64 := BitVec.ofNat 64 (regResetNat a + regResetNat (a + 4) * 2 ^ 32)

def State.cpValue (s : State) (mask a : Nat) : Nat :=
  if cpWhole mask (s.rd a).toNat (s.rd (a + 4)).toNat then (s.rd a).toNat
  else (spGet cpResetPair s.ctl.cpGood a).toNat % 2 ^ 32

/-- An accepted CP write replaces the pair atomically (R101). -/
def State.cpStore (s : State) (mask a v : Nat) : State :=
  let s := (s.wr a (BitVec.ofNat 32 v)).wr (a + 4) (BitVec.ofNat 32 (mask - v))
  { s with ctl := { s.ctl with cpGood := spPut cpResetPair s.ctl.cpGood a (BitVec.ofNat 64 (v + (mask - v) * 2 ^ 32)) } }

/-! ## Latched log heads -/

/-- The head of a log that a reader has latched, if it has (R96). -/
def headOf {α : Type} [DecidableEq α] (l : List (Nat × Option α)) (m : Option Master) : Option α := spGet (fun _ => none) l (whoCode m)

def headPut {α : Type} [DecidableEq α] (l : List (Nat × Option α)) (m : Option Master) (e : Option α) : List (Nat × Option α) :=
  spPut (fun _ => none) l (whoCode m) e

/-! ## Table memories -/

/-- Key of entry `index` of TABLE `table` in a block. -/
def tabKey (region block table index : Nat) : Nat := ((region * 64 + block) * 256 + table) * 2 ^ 40 + index

def State.tab (s : State) (region block table index : Nat) : Entry :=
  spGet (fun _ => 0) s.tabs (tabKey region block table index)

def State.setTab (s : State) (region block table index : Nat) (e : Entry) : State :=
  { s with tabs := spPut (fun _ => 0) s.tabs (tabKey region block table index) e }

/-- A table entry read as a number. -/
def State.tabN (s : State) (region block table index : Nat) : Nat := (s.tab region block table index).toNat

def State.setTabN (s : State) (region block table index v : Nat) : State :=
  s.setTab region block table index (BitVec.ofNat 1024 v)

/-- Entries of a table memory that are listed, with their indexes. -/
def State.tabListed (s : State) (region block table : Nat) : List (Nat × Entry) :=
  let lo := tabKey region block table 0
  (s.tabs.filter (fun p => decide (lo ≤ p.1) && decide (p.1 < lo + 2 ^ 40))).map (fun p => (p.1 - lo, p.2))

/-! ## Byte memories -/

/-- What an HBM byte that nothing has written reads as (assumption 6). -/
def hbmEmpty (_ : Nat) : Byte := 0

/-- What a flash byte that nothing has written reads as (R71). -/
def flashEmpty (_ : Nat) : Byte := 0xFF

/-- The canonical form of the byte memories. -/
def Memory.wf (s : State) : Bool := spWf hbmEmpty s.hbm && spWf flashEmpty s.flash

/-- `n` bytes of a memory from an address, as a list. -/
def memBytes (d : Nat → Byte) (l : List Host.Cell) (a : Nat) : Nat → List Byte
  | 0 => []
  | n + 1 => spGet d l a :: memBytes d l (a + 1) n

/-- A memory with a list of bytes written from an address. -/
def memPutBytes (d : Nat → Byte) (l : List Host.Cell) (a : Nat) : List Byte → List Host.Cell
  | [] => l
  | b :: r => memPutBytes d (spPut d l a b) (a + 1) r

/-- Little-endian value of a byte list. -/
def leNat : List Byte → Nat
  | [] => 0
  | b :: r => b.toNat + 256 * leNat r

/-- Big-endian value of a byte list. -/
def beNat (l : List Byte) : Nat := leNat l.reverse

/-- `n` little-endian bytes of a number. -/
def leBytes : Nat → Nat → List Byte
  | 0, _ => []
  | n + 1, v => BitVec.ofNat 8 v :: leBytes n (v / 256)

/-- `n` big-endian bytes of a number. -/
def beBytes (n v : Nat) : List Byte := (leBytes n v).reverse

def State.hbmBytes (s : State) (a n : Nat) : List Byte := memBytes hbmEmpty s.hbm a n
def State.hbmLe (s : State) (a n : Nat) : Nat := leNat (s.hbmBytes a n)
def State.hbmWrite (s : State) (a : Nat) (b : List Byte) : State := { s with hbm := memPutBytes hbmEmpty s.hbm a b }
def State.flashBytes (s : State) (a n : Nat) : List Byte := memBytes flashEmpty s.flash a n
def State.flashLe (s : State) (a n : Nat) : Nat := leNat (s.flashBytes a n)
def State.flashWrite (s : State) (a : Nat) (b : List Byte) : State :=
  { s with flash := memPutBytes flashEmpty s.flash a b }

/-! ## Output and free values -/

/-- Something leaves the device. -/
def State.emit (s : State) (o : Out) : State := { s with out := o :: s.out }

/-- A free value: the next of the opaque sequence. -/
def State.freeVal (s : State) (w : Nat) : BitVec w := Config.freeBits w s.freeCtr
def State.drawn (s : State) : State := { s with freeCtr := s.freeCtr + 1 }

/-! ## Rounding (R25) -/

/-- The quotient of an exact division; where it is inexact and the spec does not say how it is rounded, one of the two
nearest integers, not fixed. -/
def divFree (n : Int) (d : Nat) : Int :=
  if n % (d : Int) = 0 then n / (d : Int)
  else n / (d : Int) + (if Config.roundUp n d then 1 else 0)

/-- round(n / d): the nearest integer; a tie goes to either. -/
def roundDiv (n : Int) (d : Nat) : Int :=
  let q := n / (d : Int)
  let r := n % (d : Int)
  if 2 * r < (d : Int) then q
  else if 2 * r > (d : Int) then q + 1
  else q + (if Config.roundUp n d then 1 else 0)

/-- clamp(x, -lim, lim). -/
def clampTo (x lim : Int) : Int := if x < -lim then -lim else if x > lim then lim else x

/-! ## Time -/

/-- One ns, one µs, one second and one slot in the unit 2^-32 ns (R19, R25). -/
def lsbNs : Nat := 2 ^ 32
def lsbUs : Nat := 1000 * 2 ^ 32
def lsbSec : Nat := 1000000000 * 2 ^ 32
def lsbSlot : Nat := 1024 * 2 ^ 32

/-- Ticks of the 1.4 GHz clock in a µs (R27). -/
def ticksPerUs : Nat := 1400

/-- One second of ticks. -/
def ticksPerSec : Nat := 1400000000

def TimeSt.dom (t : TimeSt) : Dom → Domain
  | .cobalt => t.cobalt
  | .umber => t.umber

def TimeSt.setDom (t : TimeSt) (d : Dom) (x : Domain) : TimeSt :=
  match d with
  | .cobalt => { t with cobalt := x }
  | .umber => { t with umber := x }

def State.dom (s : State) (d : Dom) : Domain := s.time.dom d

def State.setDom (s : State) (d : Dom) (x : Domain) : State := { s with time := s.time.setDom d x }

def domA (d : Dom) (off : Nat) : Nat := regAddr 1 (domBlock d) off

/-- A step of a domain joins one that waits for the same tick (R31, R36); `lock`: LOCK comes with it. -/
def Domain.addStep (x : Domain) (delta : Int) (lock : Bool) : Domain :=
  match x.stepNext with
  | some (d, l) => { x with stepNext := some (d + delta, l || lock) }
  | none => { x with stepNext := some (delta, lock) }

/-- A write of MODE = FREE or FORCE_SNOW overtakes a LOCK that waits for the next tick; its step still takes place (R31, R34). -/
def Domain.dropLock (x : Domain) : Domain := { x with stepNext := x.stepNext.map (fun p => (p.1, false)) }

/-- Working time W = D + C (R37), in 2^-32 ns. -/
def State.wt (s : State) : Nat := ((s.dom s.time.active).value + s.time.cont).toNat

/-- NS, SEC and FRAC of a time value (R25). -/
def tvFrac (v : Nat) : Nat := v % 2 ^ 32
def tvNs (v : Nat) : Nat := v / 2 ^ 32 % 1000000000
def tvSec (v : Nat) : Nat := v / lsbSec

/-- The time value of SEC and NS. -/
def tvOf (sec ns : Nat) : Nat := (sec * 1000000000 + ns) * 2 ^ 32

/-- A fine delay in ps, in 2^-32 ns (R25). -/
def psLsb (ps : Int) : Int := divFree (ps * 2 ^ 32) 1000

/-- Slot number of a time: the last slot that has begun (R19). -/
def slotOf (v : Nat) : Nat := v / lsbSlot

/-- First slot whose start is at or after a time. -/
def slotAtOrAfter (v : Nat) : Nat := (v + (lsbSlot - 1)) / lsbSlot

/-! ## Regions (R452) -/

def RegionState.ofCode : Nat → RegionState
  | 0 => .run | 1 => .fencing | 2 => .absent | 3 => .poweredDown | 4 => .releasing | _ => .restore

def RegionState.code : RegionState → Nat
  | .run => 0 | .fencing => 1 | .absent => 2 | .poweredDown => 3 | .releasing => 4 | .restore => 5

def rgnStatA (r : Nat) : Nat := A.rgn (0x200 + 4 * r)

/-- State of a region; SYS is always in RUN. -/
def State.rgnState (s : State) (r : Nat) : RegionState :=
  if r = 0 then .run else RegionState.ofCode (s.fld (rgnStatA r) 0 3)

def State.setRgnState (s : State) (r : Nat) (x : RegionState) : State := s.setFld (rgnStatA r) 0 3 x.code

/-- The region is out of reset since the chip reset: SYS always, the others from their step of R79 on (R68). -/
def State.live (s : State) (r : Nat) : Bool := r == 0 || natBit s.boot.live r

/-- The region's gateway is in absent mode (R452), or the region is not out of reset yet. -/
def State.rgnAbsent (s : State) (r : Nat) : Bool :=
  !s.live r ||
  (match s.rgnState r with
  | .absent | .poweredDown | .releasing => true
  | _ => false)

/-- Data-path requests to the region are not served: absent mode, or RESTORE, which passes register accesses only (R452). -/
def State.rgnDown (s : State) (r : Nat) : Bool := s.rgnAbsent r || s.rgnState r == .restore

/-- The region runs. -/
def State.rgnRuns (s : State) (r : Nat) : Bool := s.live r && s.rgnState r == .run

/-- Regions a region needs for all of its work (R11). -/
def rgnDepends (r : Nat) : List Nat :=
  match r with
  | 1 => [0] | 2 => [0, 1] | 3 | 4 | 5 | 6 => [7, 0x0D] | 7 => [0] | 8 => [0, 0x0D]
  | 9 | 10 | 11 => [0x0D, 0x16, 0x17, 0x18, 0x19] | 12 => [] | 0x0D => [0] | 0x10 => [0x0D] | 0x11 | 0x12 => [0x10, 0x13]
  | 0x13 => [0x10] | 0x14 | 0x15 => [0x10, 1, 0x13, 0x11] | 0x16 | 0x17 | 0x18 | 0x19 => [0x10]
  | _ => []

/-- The region works: it and every region its work depends on are in RUN (R11). -/
def State.rgnWorks (s : State) (r : Nat) : Bool := s.rgnRuns r && (rgnDepends r).all s.rgnRuns

/-- BRESET.HOLD of a block, as its logic takes it (R95, R102), or the block held by its BSTATUS (R451). -/
def State.blkHeld (s : State) (region block : Nat) : Bool :=
  s.cpValue 1 (regAddr region block 0x018) == 1 || s.rbit (regAddr region block 0x010) 1

def State.rst (s : State) (r : Nat) : RegionSt := spGet (fun _ => RegionSt.reset) s.flt.regions r
def State.setRst (s : State) (r : Nat) (x : RegionSt) : State :=
  { s with flt := { s.flt with regions := spPut (fun _ => RegionSt.reset) s.flt.regions r x } }

/-- Packed address of an HBM address (R431). -/
def hbmPacked (h48 : Bool) (a : Nat) : Option Nat :=
  if 0x0400000000 ≤ a ∧ a < 0x0800000000 then some (a - 0x0400000000)
  else if 0x0800000000 ≤ a ∧ a < 0x0880000000 then some (a - 0x0800000000 + 0x400000000)
  else if 0x0900000000 ≤ a ∧ a < 0x0A00000000 then some (a - 0x0900000000 + 0x480000000)
  else if 0x1000000000 ≤ a ∧ a < (if h48 then 0x1640000000 else 0x2200000000) then some (a - 0x1000000000 + 0x580000000)
  else none

/-- Stack of an HBM address (R432). -/
def State.hbmStack (s : State) (a : Nat) : Option Nat := (hbmPacked s.boot.h48 a).map (fun p => p / 4096 % 4)

/-- A request to an HBM address is not served: no range holds it, or its MEM region is not in RUN. -/
def State.hbmDown (s : State) (a : Nat) : Bool :=
  match s.hbmStack a with
  | some k => s.rgnDown (0x16 + k) || s.blkHeld (0x16 + k) 0
  | none => true

/-- A request to a block meets ABSENT (R452, R456). -/
def State.meets (s : State) (region block : Nat) : Bool := s.rgnDown region || s.blkHeld region block

/-- SYS_DEVICE_ID as the logic takes it (R81, R102). -/
def State.deviceId (s : State) : Nat := s.cpValue 0x3FF (A.boot R.SYS_DEVICE_ID)

/-- A packet of a region's requester meets ABSENT (R456): counted in GW_ABSENT_DROP of the requester's region. -/
def State.absentDrop (s : State) (r : Nat) : State := s.bump (A.gw r R.GW_ABSENT_DROP)

end Sys2Proof.Machine
end

