-- ==== Sys2Proof/Machine/Flags.lean ====
section
/-! DEFINITION. Cause bits, event routing, the integrity log, the summary tree and IRQ_N (R95, R104 to R108), and the answer
of the register window to an access (R91 to R94). -/

namespace Sys2Proof.Machine

def evKindA (t : Nat) : Nat := A.cl (thrRegion t) (thrCluster t) (R.CPU_EV_KIND + 8 * thrIndex t)
def evPendA (t : Nat) : Nat := A.cl (thrRegion t) (thrCluster t) (R.CPU_EVPEND + 8 * thrIndex t)

/-- Kind of an event input: true thread-sourced. Input 63 of a cluster's master thread is always device-sourced (R388). -/
def State.evThreadSourced (s : State) (t i : Nat) : Bool :=
  natBit (s.rd64 (evKindA t)) i && !(i == 63 && thrIndex t == 0)

/-- EVPEND of a thread. -/
def State.evPend (s : State) (t : Nat) : Nat := s.rd64 (evPendA t)

/-- An event sets its input's bit; a bit already set stays set (R388). -/
def State.setEvent (s : State) (t i : Nat) : State := s.wr64 (evPendA t) (s.evPend t ||| 2 ^ i)

/-- A cause bit as a raised one is written: BCAUSE with bit `k` set. -/
def State.setCause (s : State) (region block k : Nat) : State := s.setRbit (regAddr region block 0x008) k true

/-- A thread takes no events: its cluster's block is held, or it is HELD (R105, R388). -/
def State.coreInReset (s : State) (t : Nat) : Bool :=
  s.blkHeld (9 + thrRegion t) (thrCluster t) ||
  (match (spGet (fun _ => ThreadSt.reset) s.cpu.threads t).state with | .held => true | _ => false)

/-- A device event for input `i` of thread `t` (R388): an input of the other kind discards it, counts it and raises EV_MISKIND. -/
def deviceEventWith (raise : Nat → Nat → Nat → State → State) (t i : Nat) (s : State) : State :=
  if s.evThreadSourced t i then
    raise (9 + thrRegion t) (thrCluster t) 2 (s.bump (A.cl (thrRegion t) (thrCluster t) R.CPU_EV_MISKIND))
  else s.setEvent t i

/-- An entry for the integrity log (R107, R108). A full log discards it, counts it and raises LOG_OVF. -/
def intgLogWith (raise : Nat → Nat → Nat → State → State) (kind addr master src thread : Nat) (s : State) : State :=
  if 16 ≤ s.ctl.intg.length then
    raise 0 4 8 { s with ctl := { s.ctl with intgOvf := s.ovfNext s.ctl.intgOvf } }
  else
    let w := s.wt
    let e : IntgEntry :=
      { w0 := BitVec.ofNat 32 (addr % 2 ^ 26 + master * 2 ^ 26 + 2 ^ 31)
        w1 := BitVec.ofNat 32 (kind + src * 2 ^ 8 + thread * 2 ^ 16)
        w2 := BitVec.ofNat 32 (tvNs w)
        w3 := BitVec.ofNat 32 (tvSec w) }
    raise 0 4 (kind - 1) { s with ctl := { s.ctl with intg := s.ctl.intg ++ [e] } }

/-- BROUTEn of a block, if it routes cause bit `k` (R105). -/
def routeWith (raise : Nat → Nat → Nat → State → State) (region block k n : Nat) (s : State) : State :=
  let ra := regAddr region block (0x020 + 8 * n)
  if s.rbit (ra + 4) k && s.rbit ra 15 then
    let t := s.fld ra 0 9
    if 384 ≤ t || s.rgnAbsent (9 + thrRegion t) || s.coreInReset t then
      intgLogWith raise 8 ra 4 0 t s
    else deviceEventWith raise t (s.fld ra 9 6) s
  else s

/-- A unit event sets its cause bit (R95). A bit that is already set sends nothing more (R105). The fuel bounds the chain
an event without a thread starts (a ROUTE_LOST entry raises a cause of its own, which may itself be routed). -/
def raiseN : Nat → Nat → Nat → Nat → State → State
  | 0, region, block, k, s => s.setCause region block k
  | f + 1, region, block, k, s =>
    if s.rbit (regAddr region block 0x008) k then s
    else routeWith (raiseN f) region block k 1 (routeWith (raiseN f) region block k 0 (s.setCause region block k))

/-- Raise bit `k` of a block's BCAUSE. A chain sets no cause twice, and beyond its first only ROUTE_LOST, LOG_OVF and the EV_MISKIND of
the 12 clusters can join it, so 16 levels are more than there are. -/
def State.raise (s : State) (region block k : Nat) : State := raiseN 16 region block k s

/-- Raise a cause when a condition holds. -/
def State.raiseIf (s : State) (c : Bool) (region block k : Nat) : State := if c then s.raise region block k else s

/-- Log an integrity entry (R107). -/
def State.intgLog (s : State) (kind addr master src thread : Nat) : State :=
  intgLogWith (fun r b k s => s.raise r b k) kind addr master src thread s

/-- A device event for a thread's input, where the thread exists and can take it. -/
def State.deviceEvent (s : State) (t i : Nat) : State :=
  if 384 ≤ t || s.rgnAbsent (9 + thrRegion t) || s.coreInReset t then s
  else deviceEventWith (fun r b k s => s.raise r b k) t i s

/-! ## The summary tree (R104) -/

/-- Block `b` contributes its bit when (BCAUSE AND NOT BMASK) ≠ 0. -/
def State.blockCause (s : State) (region block : Nat) : Bool :=
  s.rd (regAddr region block 0x008) &&& ~~~ s.rd (regAddr region block 0x00C) != 0

/-- The sum of 2^i over the `n` indexes that satisfy a test. -/
def bitsWhere (p : Nat → Bool) : Nat → Nat
  | 0 => 0
  | n + 1 => bitsWhere p n + (if p n then 2 ^ n else 0)

/-- RCAUSE_LO and RCAUSE_HI together: 64 bits, one per block. -/
def State.rcause (s : State) (region : Nat) : Nat :=
  bitsWhere (fun b => blockExists region b && s.blockCause region b) 64

def State.rmask (s : State) (region : Nat) : Nat := s.rd64 (A.gw region R.RMASK_LO)

/-- SYS_GSTAT: bit n is set when (RCAUSE AND NOT RMASK) ≠ 0; 0 while the region's gateway is in absent mode. -/
def State.gstat (s : State) : Nat :=
  bitsWhere (fun r => regionExists r && !s.rgnAbsent r &&
    (bitsWhere (fun b => blockExists r b && !natBit (s.rmask r) b && s.blockCause r b) 64) != 0) 26

/-- IRQ_N is driven low (R104), whatever the masks in the fail-safe (R463). -/
def State.irqLow (s : State) : Bool :=
  s.flt.failsafe.isSome ||
  (s.rbit (A.irq R.SYS_IRQ_CTRL) 0 && (s.gstat &&& (2 ^ 32 - 1 - (s.rd (A.irq R.SYS_GMASK)).toNat)) != 0) ||
  s.rbit (A.irq R.SYS_IRQ_CTRL) 1

/-! ## Access to the register window -/

/-- Reset values of SYS_ACC_RD m and SYS_ACC_WR m (R93). -/
def accReset (m : Nat) (write : Bool) : Nat :=
  if m = 1 then 0 else if m = 2 && write then 1 else 0x3FFFFFF

/-- The rights in force: in RECOVERY and in STANDBY the reset values (R93). -/
def State.rights (s : State) (m : Nat) (write : Bool) : Nat :=
  match s.boot.dev with
  | .recovery | .standby => accReset m write
  | _ => (s.rd (A.acc ((if write then 0x44 else 0x40) + 8 * m))).toNat

/-- Width and alignment (R94). -/
def widthOk (addr bytes : Nat) (partialBytes : Bool) : Bool :=
  !partialBytes && ((bytes == 4 && addr % 4 == 0) || (bytes == 8 && addr % 8 == 0))

/-- The first check of R91 that an access fails, before the register's own type. -/
def State.accessCheck (s : State) (m : Master) (addr bytes : Nat) (partialBytes write : Bool) : AccCode :=
  let r := addrRegion addr
  let b := addrBlock addr
  if s.boot.dev = .off || s.boot.dev = .reset then .noWindow
  else if m = .host && !natBit s.boot.imageFlags 1 then .unsupported
  else if !blockExists r b then .unmapped
  else if !widthOk addr bytes partialBytes then .widthErr
  else if !natBit (s.rights (masterCode m) write) r then .denied
  else if s.rgnState r = .fencing then .fenced
  else if s.rgnAbsent r then .absent
  else if s.blkHeld r b && 0x040 ≤ addrOff addr then .absent
  else .ok

/-- The integrity log entry of a refused access, and the count of an ABSENT answer of the gateway (R91, R455). -/
def State.accessNoted (s : State) (m : Master) (addr : Nat) (c : AccCode) : State :=
  let log (k : Nat) : State := s.intgLog k addr (masterCode m) 0 (masterThread m)
  let r := addrRegion addr
  match c with
  | .unmapped => log 6
  | .widthErr => log 5
  | .denied => log 4
  | .locked => log 7
  | .absent => if s.rgnAbsent r then s.bump (A.gw r R.GW_ABSENT_SENT) else s
  | .ok | .noWindow | .cpRefused | .unsupported | .fenced => s

/-- What the device does with an access that a check refuses: logs it where R91 says so, and answers the master. An access in
FENCING is held. -/
def State.accessRefused (s : State) (m : Master) (addr : Nat) (c : AccCode) : State :=
  match c with
  | .ok | .noWindow | .cpRefused => s
  | .locked => s.accessNoted m addr c
  | .unmapped | .widthErr | .denied | .unsupported | .absent => (s.accessNoted m addr c).emit (.refusedAccess m addr c)
  | .fenced => { s with ctl := { s.ctl with heldAcc := s.ctl.heldAcc ++ [(addrRegion addr, m, addr)] } }

/-- A 32-bit write by a master to a register of which `f` is the effect once every check of R91 has passed. -/
def State.asWrite (s : State) (m : Master) (addr : Nat) (f : State → State) : State :=
  match s.accessCheck m addr 4 false true with
  | .ok => f s
  | c => s.accessRefused m addr c

/-- A 32-bit read by a master; `f` gives the value and the state after it. -/
def State.asRead (s : State) (m : Master) (addr : Nat) (f : State → Nat × State) : State :=
  match s.accessCheck m addr 4 false false with
  | .ok => let r := f s; r.2.emit (.reply m r.1)
  | c => s.accessRefused m addr c

/-- A 64-bit write of a CP register (R101): a pair that is not whole, or carries a reserved bit, is refused and logged. `f` is
the effect of the value accepted. -/
def State.asCpWrite (s : State) (m : Master) (addr mask : Nat) (datum : BitVec 64) (f : Nat → State → State) : State :=
  match s.accessCheck m addr 8 false true with
  | .ok =>
    let v := datum.toNat % 2 ^ 32
    if cpWhole mask v (datum.toNat / 2 ^ 32) then f v s
    else s.intgLog 1 addr (masterCode m) 0 (masterThread m)
  | c => s.accessRefused m addr c

/-- The using logic reads a CP pair: a stored pair that fails is logged (R102). -/
def State.cpCheck (s : State) (mask a : Nat) : State :=
  if cpWhole mask (s.rd a).toNat (s.rd (a + 4)).toNat then s else s.intgLog 2 a 4 0 0

def State.deviceIdRead (s : State) : State := s.cpCheck 0x3FF (A.boot R.SYS_DEVICE_ID)

/-- LOCKED_WRITE logged for a write to an RWL field after the image load (R91). -/
def State.lockedWrite (s : State) (m : Option Master) (addr : Nat) : State := s.intgLog 7 addr (whoCode m) 0 (whoThread m)

/-- RWL fields are locked to every writer from the end of the image load to the next cold boot, to the write list of a region's release
too (R5). -/
def State.rwlLocked (s : State) : Bool := s.boot.imageLoaded

/-- CP_REFUSED logged for a CP write whose register's own rules refuse it. -/
def State.cpRefused (s : State) (m : Option Master) (addr : Nat) : State := s.intgLog 1 addr (whoCode m) 0 (whoThread m)

end Sys2Proof.Machine
end

