-- ==== Sys2Proof/Machine/Control.lean ====
section
/-! DEFINITION. The integrity log's read side and the counter snapshot's commands (R107, R109). -/

namespace Sys2Proof.Machine

/-- A read of SYS_INTG_LOG0 latches the head entry; an empty log reads VALID = 0. -/
def State.intgHead (s : State) (m : Option Master) : Nat × State :=
  let e := s.ctl.intg.head?
  ((match e with | some e => e.w0.toNat | none => 0), { s with ctl := { s.ctl with intgLatch := headPut s.ctl.intgLatch m e } })

/-- A read of SYS_INTG_LOG3 removes it. -/
def State.intgPop (s : State) (m : Option Master) : Nat × State :=
  let e := match headOf s.ctl.intgLatch m with | some e => some e | none => s.ctl.intg.head?
  let latch := headPut s.ctl.intgLatch m none
  match s.ctl.intg with
  | [] => (0, { s with ctl := { s.ctl with intgLatch := latch } })
  | _ :: r =>
    ((match e with | some e => e.w3.toNat | none => 0), { s with ctl := { s.ctl with intgLatch := latch, intg := r } })

/-- INTG_LOG_READ_HEAD. -/
def execIntgLogReadHead (m : Master) (s : State) : Host.Outcome State Fault Refusal :=
  .next (s.asRead m (A.intg R.SYS_INTG_LOG) (fun s => s.intgHead (some m)))

/-- INTG_LOG_READ_POP. -/
def execIntgLogReadPop (m : Master) (s : State) : Host.Outcome State Fault Refusal :=
  .next (s.asRead m (A.intg (R.SYS_INTG_LOG + 12)) (fun s => s.intgPop (some m)))

/-- An instant register group: NS, SEC_LO, SEC_HI at three consecutive words. -/
def State.instant (s : State) (a : Nat) : Nat :=
  tvOf ((s.rd (a + 4)).toNat + s.fld (a + 8) 0 16 * 2 ^ 32) (s.rd a).toNat

/-- A FREEZE is armed or active, or a COPY runs (R109). -/
def State.snapBusy (s : State) : Bool :=
  s.ctl.snapCopy.isSome || s.ctl.snapFrozen || (match s.ctl.snapArmed with | some (.freeze, _) => true | _ => false)

/-- COPY or FREEZE: armed at SYS_SNAP_AT; an instant already past sets STAT.LATE and acts on the next tick. -/
def State.snapArm (s : State) (c : SnapCmd) : State :=
  if s.snapBusy then s.raise 0 5 1
  else
    let at_ := s.instant (A.snap R.SYS_SNAP_AT_NS)
    { s with ctl := { s.ctl with snapArmed := some (c, at_), snapLate := s.time.wtValid && decide (at_ < s.wt) } }

def State.snapThawAt (s : State) : State :=
  let at_ := s.instant (A.snap R.SYS_SNAP_AT_NS)
  { s with ctl := { s.ctl with snapThaw := some at_, snapLate := s.time.wtValid && decide (at_ < s.wt) } }

def State.snapThawNow (s : State) : State := { s with ctl := { s.ctl with snapFrozen := false, snapThaw := none } }

def State.snapDisarm (s : State) : State := { s with ctl := { s.ctl with snapArmed := none, snapThaw := none } }

/-- A write of SYS_SNAP_CTRL.CMD (R111). -/
def State.snapCtrlWrite (s : State) (cmd : Nat) : State :=
  match cmd with
  | 1 => s.snapArm .copy
  | 2 => s.snapArm .freeze
  | 3 => s.snapThawAt
  | 4 => s.snapThawNow
  | 5 => s.snapDisarm
  | _ => s

/-- SNAP_COPY_ARM. -/
def execSnapCopyArm (m : Master) (s : State) : Host.Outcome State Fault Refusal :=
  .next (s.asWrite m (A.snap R.SYS_SNAP_CTRL) (fun s => s.snapCtrlWrite 1))

/-- SNAP_FREEZE_ARM. -/
def execSnapFreezeArm (m : Master) (s : State) : Host.Outcome State Fault Refusal :=
  .next (s.asWrite m (A.snap R.SYS_SNAP_CTRL) (fun s => s.snapCtrlWrite 2))

/-- SNAP_THAW_AT. -/
def execSnapThawAt (m : Master) (s : State) : Host.Outcome State Fault Refusal :=
  .next (s.asWrite m (A.snap R.SYS_SNAP_CTRL) (fun s => s.snapCtrlWrite 3))

/-- SNAP_THAW_NOW. -/
def execSnapThawNow (m : Master) (s : State) : Host.Outcome State Fault Refusal :=
  .next (s.asWrite m (A.snap R.SYS_SNAP_CTRL) (fun s => s.snapCtrlWrite 4))

/-- SNAP_DISARM. -/
def execSnapDisarm (m : Master) (s : State) : Host.Outcome State Fault Refusal :=
  .next (s.asWrite m (A.snap R.SYS_SNAP_CTRL) (fun s => s.snapCtrlWrite 5))

/-- The overflow counts of the logs, in bits 31:16 of their status registers (R55, R107, R269, R437). -/
def State.ovfCounts (s : State) : List (Nat × Nat) :=
  [(A.intg R.SYS_INTG_STAT, s.ctl.intgOvf), (A.tsu R.TIME_LOSS_STAT, s.time.lossOvf), (regAddr 0x13 3 R.BUF_POOL_LOGSTAT, s.buf.logOvf)] ++
  (List.range 4).map (fun n =>
    (regAddr (0x16 + n) 1 R.MEM_RH_LOGSTAT, (spGet (fun _ => MemSt.reset) s.mem.each n).logOvf))

/-- An armed instant has come (R21, R23). -/
def State.instantDue (s : State) (at_ : Nat) : Bool := s.time.wtValid && decide (at_ ≤ s.wt)

/-- The thaw instant of a freeze. -/
def State.snapThawDue (s : State) : State :=
  match s.ctl.snapThaw with
  | some at_ => if s.instantDue at_ then s.snapThawNow else s
  | none => s

/-- SNAP_INSTANT: an armed COPY or FREEZE, or an armed THAW, takes effect (R109, R22). -/
def execSnapInstant (s : State) : Host.Outcome State Fault Refusal :=
  match s.ctl.snapArmed with
  | some (c, at_) =>
    if s.instantDue at_ then
      match c with
      | .copy =>
        .next { s with ctl := { s.ctl with
          snapArmed := none, snapCopy := some at_, snapSeq := (s.ctl.snapSeq + 1) % 256
          snapAbsent := bitsWhere (fun r => s.rgnAbsent r) 26, snapTabs := s.tabs
          snapRegs := s.ovfCounts.foldl (fun l q => spPut regReset l q.1 (BitVec.ofNat 32 (q.2 * 65536))) s.regs } }
      | .freeze => .next { s with ctl := { s.ctl with snapArmed := none, snapFrozen := true } }
    else .next s.snapThawDue
  | none => .next s.snapThawDue

end Sys2Proof.Machine
end

