-- ==== Sys2Proof/Machine/Versions.lean ====
section
/-! DEFINITION. Version control (spec 09): the version of a packet, in-flight counts, write protection, and the commands of
SYS_VER_CTRL. Commits and retirement, which need the fabric's peers, are in Retire; host-slice batches in Batch. -/

namespace Sys2Proof.Machine

def verStatA : Nat := A.ver R.SYS_VER_STAT

/-- The current version: true is odd. -/
def State.verOdd (s : State) : Bool := s.rbit verStatA 0

/-- SYS_VER_STAT.OTHER: 0 BUILD, 1 SEALED, 2 RETIRING (R231). -/
def State.verOther (s : State) : Nat := s.fld verStatA 1 2
def State.setVerOther (s : State) (v : Nat) : State := s.setFld verStatA 1 2 v

/-- Raise a cause of block VER (R244). -/
def State.verRaise (s : State) (k : Nat) : State := s.raise 0 8 k

/-- The version current at a stamp (R228): a stamp at or after the commit instant takes the new version. -/
def State.verAt (s : State) (stamp : Nat) : Bool :=
  match s.ver.commitAt with
  | some t => if s.time.wtValid && decide (t ≤ stamp) then !s.verOdd else s.verOdd
  | none => s.verOdd

/-- The version a packet would be looked up in is neither current nor retiring (R230). -/
def State.foreign (s : State) (k : Pkt) : Bool := k.ver != s.verOdd && s.verOther != 2

/-- The device meets a packet: a foreign one is processed in the current version and counted once (R230); the version it carries stays. -/
def State.meetPkt (s : State) (k : Pkt) : Pkt × State :=
  if s.foreign k then
    ({ k with proc := some s.verOdd }, if k.proc.isSome then s else (s.bump (A.ver R.SYS_VER_FOREIGN)).verRaise 5)
  else (k, s)

/-- In-flight counts (R236): one more, one fewer; a count never goes below 0. -/
def State.inflAdd (s : State) (odd : Bool) (n : Nat := 1) : State :=
  { s with ver := if odd then { s.ver with inflOdd := s.ver.inflOdd + n } else { s.ver with inflEven := s.ver.inflEven + n } }

def State.inflSub (s : State) (odd : Bool) : State :=
  { s with ver := if odd then { s.ver with inflOdd := s.ver.inflOdd - 1 } else { s.ver with inflEven := s.ver.inflEven - 1 } }

def State.infl (s : State) (odd : Bool) : Nat := if odd then s.ver.inflOdd else s.ver.inflEven

/-- The device has reached RUNNING. -/
def State.devRunning (s : State) : Bool := s.boot.dev == .running || s.boot.dev == .glide

/-- Bit of a version in a VMASK. -/
def verBit (odd : Bool) : Nat := if odd then 2 else 1

/-- Versions closed to writes, as a VMASK (R232). -/
def State.verLocked (s : State) : Nat :=
  if s.devRunning then verBit s.verOdd + (if s.verOther = 0 then 0 else verBit !s.verOdd) else 0

/-- A refused versioned write: ERR 4, the window's address in SYS_VER_PROT, VER_PROTECT (R232). -/
def State.verProtect (s : State) (a : Nat) : Nat × State :=
  (4, (s.wr (A.ver R.SYS_VER_PROT) (BitVec.ofNat 32 (a + 2 ^ 31))).verRaise 4)

/-- The state after a refused version command. -/
def State.verRefused (s : State) : State := s.verRaise 3

/-- COMMIT is refused: WT_VALID is 0, or the other version is SEALED or RETIRING. -/
def State.verNoSeal (s : State) : Bool := !s.time.wtValid || s.verOther != 0

def State.verSeal (s : State) (t : Nat) : State := ({ s with ver := { s.ver with commitAt := some t } } : State).setVerOther 1

/-- Working time minus T, in µs. -/
def State.usSinceT (s : State) : Nat := (s.wt - s.ver.lastT) / lsbUs

/-- The retiring version returns to BUILD; the time from T is recorded (R238). -/
def State.verRetired (s : State) (forced : Bool) : State :=
  ((((s.setVerOther 0).setRbit verStatA 4 forced).wr (A.ver R.SYS_VER_LAST_RETIRE) (BitVec.ofNat 32 s.usSinceT)).verRaise 1)

/-- A write of SYS_VER_CTRL.CMD, batches apart (R233). -/
def State.verCtrl (s : State) (cmd : Nat) : State :=
  match cmd with
  | 1 => if s.verNoSeal then s.verRefused else s.verSeal ((slotOf s.wt + 1) * lsbSlot)
  | 2 =>
    let t := s.instant (A.ver R.SYS_VER_AT_NS)
    if s.verNoSeal || t % lsbSlot != 0 || decide (t ≤ s.wt) then s.verRefused else s.verSeal t
  | 3 =>
    match s.ver.commitAt with
    | some t => if t ≤ s.wt then s.verRefused
                else ({ s with ver := { s.ver with commitAt := none } } : State).setVerOther 0
    | none => s.verRefused
  | 4 =>
    if s.verOther = 2 then
      let s := s.verRetired true
      { s with ver := if s.verOdd then { s.ver with inflEven := 0 } else { s.ver with inflOdd := 0 } }
    else s.verRefused
  | _ => s

def verCtrlA : Nat := A.ver R.SYS_VER_CTRL

/-- VER_COMMIT. -/
def execVerCommit (m : Master) (s : State) : Host.Outcome State Fault Refusal := .next (s.asWrite m verCtrlA (fun s => s.verCtrl 1))

/-- VER_ARM. -/
def execVerArm (m : Master) (s : State) : Host.Outcome State Fault Refusal := .next (s.asWrite m verCtrlA (fun s => s.verCtrl 2))

/-- VER_DISARM. -/
def execVerDisarm (m : Master) (s : State) : Host.Outcome State Fault Refusal := .next (s.asWrite m verCtrlA (fun s => s.verCtrl 3))

/-- FORCE_RETIRE. -/
def execForceRetire (m : Master) (s : State) : Host.Outcome State Fault Refusal := .next (s.asWrite m verCtrlA (fun s => s.verCtrl 4))

/-- A write of SYS_VER_SEQ: taken only while the other version is in BUILD (R235). -/
def State.verSeqWrite (s : State) (v : Nat) : State :=
  if s.verOther = 0 then (s.wr (A.ver R.SYS_VER_SEQ) (BitVec.ofNat 32 (v % 65536))).setFld verStatA 16 16 v
  else s.verRefused

/-- VER_SEQ_WRITE. -/
def execVerSeqWrite (m : Master) (v : Word) (s : State) : Host.Outcome State Fault Refusal :=
  .next (s.asWrite m (A.ver R.SYS_VER_SEQ) (fun s => s.verSeqWrite v.toNat))

/-- RETIRE_LATE: raised once, SYS_VER_RETIRE_LIMIT ms after T without retirement (R239). -/
def execRetireLate (s : State) : Host.Outcome State Fault Refusal :=
  if s.verOther = 2 ∧ s.ver.lateRaised = false ∧ s.ver.lastT + s.fld (A.ver R.SYS_VER_RETIRE_LIMIT) 0 16 * 1000 * lsbUs ≤ s.wt then
    .next (({ s with ver := { s.ver with lateRaised := true } } : State).verRaise 2)
  else .next s

end Sys2Proof.Machine
end

