-- ==== Sys2Proof/Machine/Window.lean ====
section
/-! DEFINITION. Table access windows (R97, R98): what a window command reads and writes, whatever the table. -/

namespace Sys2Proof.Machine

/-- Address of a window. -/
def winA (region block w : Nat) : Nat := regAddr region block (0x3000 + 0x100 * w)

def State.winTable (s : State) (a : Nat) : Nat := s.fld a 4 8
def State.winVmask (s : State) (a : Nat) : Nat := s.fld a 12 2
def State.winIndex (s : State) (a : Nat) : Nat := (s.rd (a + 4)).toNat + s.fld (a + 8) 0 8 * 2 ^ 32
def State.setWinIndex (s : State) (a v : Nat) : State :=
  (s.wr (a + 4) (BitVec.ofNat 32 v)).wr (a + 8) (BitVec.ofNat 32 (v / 2 ^ 32 % 256))

/-- WIN_DATA0 to n − 1 as one number, word 0 least significant. -/
def State.winDataN (s : State) (a : Nat) : Nat → Nat
  | 0 => 0
  | n + 1 => s.winDataN a n + (s.rd (a + 0x80 + 4 * n)).toNat * 2 ^ (32 * n)

def State.winData (s : State) (a : Nat) : Nat := s.winDataN a 32
def State.winWord (s : State) (a i : Nat) : Nat := (s.rd (a + 0x80 + 4 * i)).toNat
def State.setWinWord (s : State) (a i v : Nat) : State := s.wr (a + 0x80 + 4 * i) (BitVec.ofNat 32 v)

/-- The first `n` words of WIN_DATA take a number. -/
def State.setWinData (s : State) (a : Nat) : Nat → Nat → State
  | 0, _ => s
  | n + 1, v => (s.setWinData a n v).setWinWord a n (v / 2 ^ (32 * n))

/-- The end of a window command: BUSY 0, ERR, the entry size; INDEX moves on after ERR 0 with AUTOINC (R98). -/
def State.winEnd (s : State) (a err bytes : Nat) : State :=
  let s := s.wr (a + 12) (BitVec.ofNat 32 (err % 8 * 2 + bytes / 4 % 256 * 256))
  if err = 0 ∧ s.rbit a 14 = true then s.setWinIndex a ((s.winIndex a + 1) % 2 ^ 40) else s

/-- The table-write queue of a Glide is open: from its t0 until the gap ends (R481). -/
def State.glideQueues (s : State) : Bool :=
  let ph := s.fld (A.img R.SYS_IMG_STAT) 4 3
  ph == 1 || ph == 2 || ph == 4

/-- The regions whose window commands a Glide queues: TBL, PIPE0 to PIPE3, BUF, QUE0, QUE1, FAB0, FAB1. -/
def glideRegion (r : Nat) : Bool := (3 ≤ r && r ≤ 7) || (0x11 ≤ r && r ≤ 0x15)

/-- Addresses of the staged key and mask words of an associative array's block; no other block has any (R211). -/
def stageAddrs (a : Nat) : List Nat :=
  let r := addrRegion a
  let b := addrBlock a
  if 3 ≤ r ∧ r ≤ 6 ∧ (b = 10 ∨ b = 11) then
    (List.range 20).map (fun i => regAddr r b (R.PIPE_ASC_KEY + 4 * i)) ++
    (List.range 20).map (fun i => regAddr r b (R.PIPE_ASC_MASK + 4 * i))
  else []

/-- A window command other than READ joins the queue; the window shows BUSY 0 and ERR 0 at once, and INDEX moves on with AUTOINC. A
full queue ends it with ERR 5 (R481). -/
def State.winQueue (s : State) (a v : Nat) : State :=
  if 65536 ≤ s.img.queue.length then s.setFld (a + 12) 1 3 5
  else
    let s := s.wr a (BitVec.ofNat 32 (natField v 4 11 * 16))
    let s : State := { s with img := { s.img with queue := s.img.queue ++
      [⟨a, v, s.winIndex a, s.winData a, (stageAddrs a).map (fun x => (s.rd x).toNat)⟩] } }
    let s := s.setFld (a + 12) 0 4 0
    if s.rbit a 14 then s.setWinIndex a ((s.winIndex a + 1) % 2 ^ 40) else s

/-- A write of WIN_CTRL whose CMD is taken apart from the stored fields: a busy window ignores it with ERR 5 (R97). -/
def State.winStart (s : State) (a v : Nat) (run : State → State) : State :=
  if s.rbit (a + 12) 0 then s.setFld (a + 12) 1 3 5
  else if s.glideQueues && glideRegion (addrRegion a) && v % 16 != 1 then s.winQueue a v
  else run (s.wr a (BitVec.ofNat 32 (natField v 4 11 * 16)))

/-- A window command that ends at once: `run` gives its ERR and the state; `bytes` is the entry's size. -/
def State.winCmd (s : State) (a v bytes : Nat) (run : State → Nat × State) : State :=
  s.winStart a v (fun s => let r := run s; r.2.winEnd a r.1 bytes)

/-- A table as a window sees it: entry bytes, entries, and what READ, WRITE and CLEAR do. `get` is none where a READ ends with
ERR 3; `put` answers the command's ERR. -/
structure WinTable where
  bytes : Nat
  count : State → Nat
  get : State → Nat → Nat → Option Nat
  put : State → Nat → Nat → Nat → Nat × State
  clear : State → Nat → Nat → Nat × State
  /-- READ_CLEAR is one of the table's commands. -/
  readClear : Bool

/-- A plain table: no version, entries in table memory, a check of the value written. -/
def plainTable (region block table bytes count : Nat) (ok : State → Nat → Nat → Bool) : WinTable where
  bytes := bytes
  count := fun _ => count
  get := fun s i _ => some (s.tabN region block table i)
  put := fun s i _ v => if ok s i v then (0, s.setTabN region block table i v) else (4, s)
  clear := fun s i _ => if ok s i 0 then (0, s.setTabN region block table i 0) else (4, s)
  readClear := false

/-- A plain table whose entries keep only the bits of a mask. -/
def maskedTable (region block table bytes count mask : Nat) (ok : State → Nat → Nat → Bool) : WinTable :=
  { plainTable region block table bytes count ok with
    put := fun s i _ v =>
      if ok s i (v &&& mask) then (0, s.setTabN region block table i (v &&& mask)) else (4, s) }

/-- Copy `odd` of a direct-index entry (R174). -/
def verCopy (t : Nat) (odd : Bool) : Nat := natField t (if odd then 512 else 0) 512

/-- A direct-index entry with the copies a VMASK names replaced. -/
def verPut (t vmask v : Nat) : Nat :=
  let t := if natBit vmask 0 then natSetField t 0 512 v else t
  if natBit vmask 1 then natSetField t 512 512 v else t

/-- A direct-index table with one copy per version, protected by R232. -/
def copyTable (a region block table bytes count : Nat) (ok : Nat → Bool) : WinTable where
  bytes := bytes
  count := fun _ => count
  get := fun s i m => if m = 1 then some (verCopy (s.tabN region block table i) false)
    else if m = 2 then some (verCopy (s.tabN region block table i) true) else none
  put := fun s i m v =>
    if s.verLocked &&& m ≠ 0 then s.verProtect a
    else if ok v then (0, s.setTabN region block table i (verPut (s.tabN region block table i) m v)) else (4, s)
  clear := fun s i m =>
    if s.verLocked &&& m ≠ 0 then s.verProtect a
    else (0, s.setTabN region block table i (verPut (s.tabN region block table i) m 0))
  readClear := false

/-- READ, WRITE, CLEAR and READ_CLEAR of a table at the window's INDEX (R97, R195); counters that stand frozen are read and not
cleared (R109). -/
def State.winRun (s : State) (a cmd : Nat) (t : WinTable) : Nat × State :=
  let i := s.winIndex a
  let m := s.winVmask a
  let n := t.bytes / 4
  if t.count s ≤ i then (1, s)
  else match cmd with
    | 1 => match t.get s i m with
      | some v => (0, s.setWinData a n v)
      | none => (3, s)
    | 2 => t.put s i m (s.winDataN a n)
    | 3 => t.clear s i m
    | _ =>
      if t.readClear then
        match t.get s i m with
        | some v => let r := if s.ctl.snapFrozen then (0, s) else t.clear s i m; (r.1, r.2.setWinData a n v)
        | none => (3, s)
      else (3, s)

end Sys2Proof.Machine
end

