-- ==== Sys2Proof/Machine/Hbm.lean ====
section
/-! DEFINITION. The HBM stacks and their controllers (spec 17, R430 to R449): requests, pages, refresh, row disturbance, errors,
rank retirement, verification and self-refresh. -/

namespace Sys2Proof.Machine

def memA (n off : Nat) : Nat := regAddr (0x16 + n) 0 off
def rasA (n off : Nat) : Nat := regAddr (0x16 + n) 1 off

def State.stack (s : State) (n : Nat) : MemSt := spGet (fun _ => MemSt.reset) s.mem.each n
def State.setStack (s : State) (n : Nat) (x : MemSt) : State :=
  { s with mem := { s.mem with each := spPut (fun _ => MemSt.reset) s.mem.each n x } }

def State.memRaise (s : State) (n k : Nat) : State := s.raise (0x16 + n) 0 k
def State.rasRaise (s : State) (n k : Nat) : State := s.raise (0x16 + n) 1 k

/-! ## Places (R432, R440) -/

/-- Lines of a rank (R430). -/
def State.rankLines (s : State) : Nat := if s.boot.h48 then 2097152 else 4194304

/-- Logical rank and byte offset in the rank of a packed address. -/
def hbmPlace (p : Nat) : Nat × Nat :=
  let a := p / 16384 * 4096 + p % 4096
  (a / 256 % 94, a / 256 / 94 * 256 + a % 256)

def State.redir (s : State) (n l : Nat) : Nat := s.fld (rasA n (R.MEM_REDIR + 4 * l)) 0 7

/-- Physical rank that serves a line of a logical rank: the spare below the migration's pointer. -/
def State.servingRank (s : State) (n l line : Nat) : Nat :=
  match (s.stack n).migration with
  | some m => if m.logical = l ∧ line < m.next then m.spare else s.redir n l
  | none => s.redir n l

def poisonKey (rank line : Nat) : Nat := rank * 2 ^ 22 + line
def State.poisoned (s : State) (n rank line : Nat) : Bool := spGet (fun _ => false) (s.stack n).poison (poisonKey rank line)
def State.setPoison (s : State) (n rank line : Nat) (b : Bool) : State :=
  let x := s.stack n
  s.setStack n { x with poison := spPut (fun _ => false) x.poison (poisonKey rank line) b }

/-- A count of TABLE 0xF9: 0 corrected, 1 uncorrectable, 2 parity errors. -/
def State.rankCount (s : State) (n rank c : Nat) : State :=
  if s.ctl.snapFrozen then s
  else
    let e := s.tabN (0x16 + n) 1 0xF9 rank
    s.setTabN (0x16 + n) 1 0xF9 rank (natSetField e (64 * c) 64 (natField e (64 * c) 64 + 1))

/-! ## Retirement (R440, R441) -/

/-- MEM_STAT and MEM_MIG_PTR follow the spares and the migration. -/
def State.migShow (s : State) (n : Nat) : State :=
  let x := s.stack n
  let s := (s.setFld (memA n R.MEM_STAT) 4 2 x.spares.length).setRbit (memA n R.MEM_STAT) 3 x.migration.isSome
  s.wr (rasA n R.MEM_MIG_PTR) (match x.migration with
    | some m => BitVec.ofNat 32 (m.next % 2 ^ 22 + m.old * 2 ^ 22 + 2 ^ 31)
    | none => 0)

/-- A logical rank goes out of service: its migration starts, waits, or finds no spare. -/
def State.rankOut (s : State) (n l : Nat) : State :=
  let x := s.stack n
  match x.migration with
  | some m => if m.logical = l ∨ l ∈ x.waiting then s else s.setStack n { x with waiting := x.waiting ++ [l] }
  | none =>
    match x.spares with
    | [] => (s.setStack n { x with waiting := [] }).rasRaise n 4
    | sp :: rest =>
      let old := s.redir n l
      let s := s.setStack n { x with spares := rest, migration := some ⟨l, old, sp, 0⟩ }
      let s := (s.setRbit (rasA n (R.MEM_REDIR + 4 * l)) 7 true).rasRaise n 2
      ({ s with mem := { s.mem with recordDue := true } } : State).migShow n

/-- The last line is copied. -/
def State.migDone (s : State) (n : Nat) (m : Migration) : State :=
  let x := s.stack n
  let s := s.wr (rasA n (R.MEM_REDIR + 4 * m.logical)) (BitVec.ofNat 32 m.spare)
  let s := s.setStack n { x with migration := none, retired := x.retired ++ [m.old], waiting := x.waiting.drop 1 }
  let s := (s.migShow n).rasRaise n 3
  match x.waiting with
  | l :: _ => s.rankOut n l
  | [] => s

/-! ## Row disturbance (R436, R437) -/

/-- Count of a tracked row. -/
def RowTrack.count (r : RowTrack) : Nat := r.subs.foldl (· + ·) 0

def RowTrack.hit (r : RowTrack) (tag : Nat) : RowTrack :=
  { r with subs := (match r.subs with | a :: l => (a + 1) :: l | [] => [1]), tags := (tag :: r.tags).take 16 }

/-- The tracked rows after an activation: 64 entries, the smallest count giving way to an untracked row. -/
def trackRow (l : List RowTrack) (row tag : Nat) : List RowTrack :=
  if l.any (fun r => r.row == row) then l.map (fun r => if r.row = row then r.hit tag else r)
  else if l.length < 64 then l ++ [⟨row, [1], [tag]⟩]
  else
    match l with
    | [] => []
    | a :: rest =>
      let least := rest.foldl (fun m r => if r.count < m.count then r else m) a
      (l.erase least) ++ [⟨row, [least.count + 1], [tag]⟩]

/-- Requesters with 4 or more of a row's last 16 activations, each once, the latest first. -/
def heavyTags (tags : List Nat) : List Nat := (tags.filter (fun t => decide (4 ≤ tags.count t))).eraseDups

/-- An entry for the row-disturbance log. -/
def State.rhLog (s : State) (n : Nat) (e : RowLog) : State :=
  let x := s.stack n
  if 16 ≤ x.log.length then (s.setStack n { x with logOvf := s.ovfNext x.logOvf }).rasRaise n 6
  else s.setStack n { x with log := x.log ++ [e] }

/-- A row reaches MEM_RH_TH: refresh management closes the bank's page (R434) and resets the row's count, heavy requesters are throttled,
the log takes an entry. -/
def State.rhAct (s : State) (n rank bank row : Nat) : State :=
  let b := spGet (fun _ => BankSt.reset) (s.stack n).banks (rank * 64 + bank)
  match b.rows.find? (fun r => r.row == row) with
  | none => s
  | some r =>
    if r.count < s.fld (rasA n R.MEM_RH_TH) 0 16 then s
    else
      let heavy := heavyTags r.tags
      let b : BankSt :=
        ⟨none, b.tick, b.rows.map (fun q => if q.row = row then { q with subs := q.subs.map (fun _ => 0) } else q)⟩
      let x := s.stack n
      let x := { x with
        banks := spPut (fun _ => BankSt.reset) x.banks (rank * 64 + bank) b
        throttled := x.throttled ++ heavy.map (fun t => ⟨t, rank, bank, row, s.time.ticks⟩) }
      let e : RowLog := ⟨heavy.headD 0, rank, bank, heavy.length, row, tvNs s.wt, tvSec s.wt % 2 ^ 32⟩
      ((s.setStack n x).rhLog n e).rasRaise n 5

/-- Distance of two rows is at most two. -/
def nearRow (a b : Nat) : Bool := decide (a ≤ b + 2) && decide (b ≤ a + 2)

/-- Ticks that `ns` nanoseconds take, rounded up. -/
def nsTicks (ns : Nat) : Nat := (ns * 7 + 4) / 5

/-- A throttled requester's activation must still wait. -/
def State.rhWaits (s : State) (n tag rank bank row : Nat) : Bool :=
  (s.stack n).throttled.any (fun t => t.tag == tag && t.rank == rank && t.bank == bank && nearRow t.row row &&
    decide (s.time.ticks < t.tick + nsTicks (s.fld (rasA n R.MEM_RH_GAP) 0 17)))

/-- An access opens its row where another, or none, is open: that is an activation. -/
def State.rowActivate (s : State) (n tag rank bank row : Nat) : State :=
  let x := s.stack n
  let b := spGet (fun _ => BankSt.reset) x.banks (rank * 64 + bank)
  if b.open_ = some row then
    s.setStack n { x with banks := spPut (fun _ => BankSt.reset) x.banks (rank * 64 + bank) { b with tick := s.time.ticks } }
  else
    let b : BankSt := ⟨some row, s.time.ticks, trackRow b.rows row tag⟩
    let t := x.throttled.map (fun t =>
      if t.tag == tag && t.rank == rank && t.bank == bank && nearRow t.row row then { t with tick := s.time.ticks } else t)
    (s.setStack n { x with banks := spPut (fun _ => BankSt.reset) x.banks (rank * 64 + bank) b, throttled := t }).rhAct n rank bank row

/-- Tag of the maintenance class's accesses: SYS's kind, id 0 (assumption 94). -/
def maintTag : Nat := 6

/-- Byte `ofs` of a rank lies in a bank and row at which the maintenance class must still wait. -/
def State.maintWaits (s : State) (n rank ofs : Nat) : Bool :=
  s.rhWaits n maintTag rank (Config.hbmBank ofs).toNat (Config.hbmRow ofs).toNat

/-- A line access of the maintenance class activates its row like any other. -/
def State.maintain (s : State) (n rank ofs : Nat) : State :=
  s.rowActivate n maintTag rank (Config.hbmBank ofs).toNat (Config.hbmRow ofs).toNat

/-- MIGRATION_COPY_LINE: `bad` where the line stays uncorrectable in three reads. In self-refresh the copy waits for the exit. -/
def execMigrationCopyLine (n : Fin 4) (bad : Bool) (s : State) : Host.Outcome State Fault Refusal :=
  match (s.stack n.val).migration with
  | none => .next s
  | some m =>
    if s.rgnDown (0x16 + n.val) || s.rbit (memA n.val R.MEM_STAT) 1 || s.maintWaits n.val m.old (64 * m.next) ||
        s.maintWaits n.val m.spare (64 * m.next) then .next s
    else
      let s := (s.maintain n.val m.old (64 * m.next)).maintain n.val m.spare (64 * m.next)
      let b := bad || s.poisoned n.val m.old m.next
      let s := if b then s.rankCount n.val m.old 1 else s
      let s := s.setPoison n.val m.spare m.next b
      let m := { m with next := m.next + 1 }
      let s := s.setStack n.val { s.stack n.val with migration := some m, lastReq := s.time.ticks }
      .next (if s.rankLines ≤ m.next then s.migDone n.val m else s.migShow n.val)

/-- The log's words. -/
def rowLogWord (e : RowLog) : Nat → Nat
  | 0 => e.tag + e.rank * 2 ^ 15 + e.bank * 2 ^ 22 + e.count * 2 ^ 28 + 2 ^ 31
  | 1 => e.row
  | 2 => e.ns
  | _ => e.sec

def State.rhHead (s : State) (n : Nat) (m : Option Master) : Nat × State :=
  let x := s.stack n
  let e := x.log.head?
  ((match e with | some e => rowLogWord e 0 | none => 0), s.setStack n { x with logLatch := headPut x.logLatch m e })

def State.rhPop (s : State) (n : Nat) (m : Option Master) : Nat × State :=
  let x := s.stack n
  let e := match headOf x.logLatch m with | some e => some e | none => x.log.head?
  let latch := headPut x.logLatch m none
  match x.log with
  | [] => (0, s.setStack n { x with logLatch := latch })
  | _ :: r => ((match e with | some e => rowLogWord e 3 | none => 0), s.setStack n { x with logLatch := latch, log := r })

/-- RH_LOG_READ_HEAD. -/
def execRhLogReadHead (m : Master) (n : Fin 4) (s : State) : Host.Outcome State Fault Refusal :=
  .next (s.asRead m (rasA n.val R.MEM_RH_LOG) (fun s => s.rhHead n.val (some m)))

/-- RH_LOG_READ_POP. -/
def execRhLogReadPop (m : Master) (n : Fin 4) (s : State) : Host.Outcome State Fault Refusal :=
  .next (s.asRead m (rasA n.val (R.MEM_RH_LOG + 12)) (fun s => s.rhPop n.val (some m)))

/-! ## Requests (R431 to R433, R438, R439) -/

/-- Kind of a tag: 5 a far lane, 3 BUF. -/
def tagKind (t : Nat) : Nat := t % 8

def State.hbmAnswer (s : State) (q : HbmReq) (d : Option (List Byte)) : State := s.emit (.hbmReply q.tag.toNat d)

/-- The requester's outcome of R439: a far lane's lookup and a spill read-back count in MEM_UE_DROP. -/
def State.hbmFailed (s : State) (n : Nat) (q : HbmReq) : State :=
  let drop := tagKind q.tag.toNat == 5 || (tagKind q.tag.toNat == 3 && decide (0x1000000000 ≤ q.addr.toNat))
  let s := if drop then s.bump (rasA n R.MEM_UE_DROP) else s
  s.hbmAnswer q none

/-- An uncorrectable read: UE, the rank out of service, the line poisoned, the requester's outcome. -/
def State.hbmUe (s : State) (n l rank line : Nat) (q : HbmReq) : State :=
  ((((s.rankCount n rank 1).setPoison n rank line true).rasRaise n 0).rankOut n l).hbmFailed n q

/-! ### Lines that a device unit reads and writes within its own command (R438, R439) -/

/-- First bytes of the lines that `n` bytes from an address on touch. -/
def hbmLines (a n : Nat) : List Nat :=
  if n = 0 then [] else (List.range ((a % 64 + n + 63) / 64)).map (fun j => a / 64 * 64 + 64 * j)

/-- Stack, logical rank, physical rank and line of an HBM address. -/
def State.lineOf (s : State) (a : Nat) : Option (Nat × Nat × Nat × Nat) :=
  (hbmPacked s.boot.h48 a).map (fun p =>
    let l := (hbmPlace p).1
    let line := (hbmPlace p).2 / 64
    (p / 4096 % 4, l, s.servingRank (p / 4096 % 4) l line, line))

/-- The line of an address stands poisoned. -/
def State.lineBad (s : State) (a : Nat) : Bool :=
  match s.lineOf a with
  | some (n, _, rank, line) => s.poisoned n rank line
  | none => false

/-- Some line stands poisoned. -/
def State.anyPoison (s : State) : Bool := s.mem.each.any (fun p => !p.2.poison.isEmpty)

/-- A read of `n` bytes meets a poisoned line. -/
def State.hbmMeets (s : State) (a n : Nat) : Bool := s.anyPoison && (hbmLines a n).any s.lineBad

/-- UE of the line of an address: counted, raised, its rank out of service. -/
def State.lineUe (s : State) (a : Nat) : State :=
  match s.lineOf a with
  | some (n, l, rank, _) => ((s.rankCount n rank 1).rasRaise n 0).rankOut n l
  | none => s

/-- A read of `n` bytes: UE for every poisoned line it meets. -/
def State.hbmUeRead (s : State) (a n : Nat) : State :=
  if s.anyPoison then ((hbmLines a n).filter s.lineBad).foldl State.lineUe s else s

/-- MEM_UE_DROP of the stack of an address. -/
def State.ueDrop (s : State) (a : Nat) : State :=
  match s.hbmStack a with
  | some n => s.bump (rasA n R.MEM_UE_DROP)
  | none => s

/-- Whole lines written lose their poison. -/
def State.hbmClean (s : State) (a n : Nat) : State :=
  if s.anyPoison then
    ((hbmLines a n).filter (fun l => decide (a ≤ l) && decide (l + 64 ≤ a + n))).foldl (fun (s : State) l =>
      match s.lineOf l with
      | some (k, _, rank, line) => s.setPoison k rank line false
      | none => s) s
  else s

/-- A unit's write. -/
def State.hbmStore (s : State) (a : Nat) (b : List Byte) : State := (s.hbmWrite a b).hbmClean a b.length

/-- A refused address is counted by a controller, which raises ADDR_ERR (R431, assumption 66). -/
def State.addrErr (s : State) (a : Nat) : State :=
  (s.bump (memA (a / 4096 % 4) R.MEM_ADDR_ERR)).memRaise (a / 4096 % 4) 0

/-- The first line of `n` bytes that no range holds is refused. -/
def State.addrRefuse (s : State) (a n : Nat) : State :=
  match (hbmLines a n).find? (fun l => (hbmPacked s.boot.h48 l).isNone) with
  | some l => s.addrErr l
  | none => s

/-- The read that a partial write makes is uncorrectable: UE, and the merged line is poisoned (R438, R439). -/
def State.mergeUe (s : State) (n l rank : Nat) : State := ((s.rankCount n rank 1).rasRaise n 0).rankOut n l

/-- A request whose stack serves it. -/
def State.hbmServe (s : State) (n p : Nat) (q : HbmReq) : State :=
  let l := (hbmPlace p).1
  let ofs := (hbmPlace p).2
  let line := ofs / 64
  let rank := s.servingRank n l line
  let a := q.addr.toNat
  let bytes := q.len
  let s := s.rowActivate n q.tag.toNat rank (Config.hbmBank ofs).toNat (Config.hbmRow ofs).toNat
  let s := s.setStack n { s.stack n with lastReq := s.time.ticks }
  let s := if q.err = .parityOnce ∨ q.err = .parityTwice then
      (((s.rankCount n rank 2).rasRaise n 1).rankOut n l) else s
  let bad := q.err == .uncorrectable || s.poisoned n rank line
  match q.write with
  | none =>
    let s := s.bump64 (memA n R.MEM_RD_BYTES) bytes
    if bad || q.err == .parityTwice then s.hbmUe n l rank line q
    else (if q.err = .corrected then s.rankCount n rank 0 else s).hbmAnswer q (some (s.hbmBytes a q.len))
  | some d =>
    let s := s.bump64 (memA n R.MEM_WR_BYTES) bytes
    if q.err = .parityTwice then (s.setPoison n rank line true).hbmAnswer q (some [])
    else
      let full := decide (d.length = 64)
      let s := if !full && q.err == .corrected then s.rankCount n rank 0 else s
      let s := if !full && bad then s.mergeUe n l rank else s
      let s := s.setPoison n rank line (!full && bad)
      (s.hbmWrite a d).hbmAnswer q (some [])

/-- The request stays inside one line, and a write brings as many bytes as it says. -/
def hbmReqOk (q : HbmReq) : Bool :=
  decide (1 ≤ q.len) && decide (q.addr.toNat % 64 + q.len ≤ 64) && (match q.write with | some d => d.length == q.len | none => true)

/-! ### Requests that wait (R10, R433, R437) -/

/-- Class of a request, by its address (R433). -/
def hbmClass (q : HbmReq) : Nat :=
  let a := q.addr.toNat
  if 0x1000000000 ≤ a then 0 else if 0x0900000000 ≤ a then 1 else if 0x0800000000 ≤ a then 3 else 2

/-- The requester of a request is throttled at its row. -/
def State.hbmThrottled (s : State) (n p : Nat) (q : HbmReq) : Bool :=
  let ofs := (hbmPlace p).2
  s.rhWaits n q.tag.toNat (s.servingRank n (hbmPlace p).1 (ofs / 64)) (Config.hbmBank ofs).toNat (Config.hbmRow ofs).toNat

/-- Waiting requests that a controller can serve now: the oldest of each requester, unless it is throttled; `seen` holds the requesters
of earlier ones. -/
def State.hbmReady (s : State) (n : Nat) (seen : List (BitVec 15)) : List HbmReq → List HbmReq
  | [] => []
  | q :: r =>
    let rest := s.hbmReady n (q.tag :: seen) r
    if seen.contains q.tag || (hbmPacked s.boot.h48 q.addr.toNat).any (fun p => s.hbmThrottled n p q) then rest else q :: rest

/-- The class that serves next, from class `c` on with `left` turns: the first with work, and its turns after this one. -/
def State.arbPick (s : State) (n : Nat) (ready : List HbmReq) (c left : Nat) : Option (Nat × Nat) :=
  let has (k : Nat) : Bool := ready.any (fun q => hbmClass q == k)
  if 0 < left ∧ has c = true then some (c, left - 1)
  else
    ((List.range 5).map (fun j => (c + 1 + j) % 5)).findSome? (fun k =>
      if has k then some (k, s.fld (memA n (R.MEM_ARB_W + 4 * k)) 0 8 - 1) else none)

/-- One waiting request is served, of the class whose turn it is. -/
def State.hbmTurn (s : State) (n : Nat) : State :=
  let x := s.stack n
  let ready := s.hbmReady n [] x.held
  match s.arbPick n ready x.turnClass x.turnLeft with
  | none => s
  | some (c, left) =>
    match ready.find? (fun q => hbmClass q == c) with
    | none => s
    | some q =>
      let s := s.setStack n { x with held := x.held.erase q, turnClass := c, turnLeft := left }
      match hbmPacked s.boot.h48 q.addr.toNat with
      | some p => s.hbmServe n p q
      | none => s

/-- Every request that can be served is, outside self-refresh and in RUN. -/
def State.hbmDrain (s : State) (n : Nat) : State :=
  if s.rbit (memA n R.MEM_STAT) 1 || s.rgnDown (0x16 + n) || s.blkHeld (0x16 + n) 0 then s
  else (s.stack n).held.foldl (fun s _ => s.hbmTurn n) s

/-- RH_WINDOW_STEP: each row's oldest sub-count is dropped; throttling ends with the window. -/
def execRhWindowStep (n : Fin 4) (s : State) : Host.Outcome State Fault Refusal :=
  let x := s.stack n.val
  let banks := x.banks.map (fun p => (p.1, { p.2 with rows := p.2.rows.map (fun r => { r with subs := (0 :: r.subs).take 8 }) }))
  let last := x.step + 1 == 8
  let s := s.setStack n.val { x with banks := banks, step := if last then 0 else x.step + 1, throttled := if last then [] else x.throttled }
  .next (s.hbmDrain n.val)

/-- HBM_ACCESS: refused by a controller where no range holds the address, ABSENT where its region is not in RUN; it waits in
self-refresh, while its requester is throttled at the row, and behind an earlier request of its requester that waits. -/
def execHbmAccess (q : HbmReq) (s : State) : Host.Outcome State Fault Refusal :=
  if !hbmReqOk q then .next s
  else
    match hbmPacked s.boot.h48 q.addr.toNat with
    | none =>
      .next ((s.addrErr q.addr.toNat).hbmFailed (q.addr.toNat / 4096 % 4) q)
    | some p =>
      let n := p / 4096 % 4
      if s.hbmDown q.addr.toNat then .next ((s.bump (A.gw (0x16 + n) R.GW_ABSENT_SENT)).hbmAnswer q none)
      else
        let s := s.hbmDrain n
        let x := s.stack n
        if s.rbit (memA n R.MEM_STAT) 1 || x.held.any (fun w => w.tag == q.tag) || s.hbmThrottled n p q then
          .next (s.setStack n { x with held := x.held ++ [q], lastReq := s.time.ticks })
        else .next (s.hbmServe n p q)

/-! ## Pages, refresh, temperature (R434, R435) -/

/-- A bank's page is closed. -/
def State.closeBank (s : State) (n i : Nat) : State :=
  let x := s.stack n
  let b := spGet (fun _ => BankSt.reset) x.banks i
  s.setStack n { x with banks := spPut (fun _ => BankSt.reset) x.banks i { b with open_ := none } }

/-- PAGE_IDLE_PRECHARGE: the bank's timer of MEM_PAGE_IDLE clocks of 2 GHz has run. -/
def execPageIdlePrecharge (n : Fin 4) (rank : Fin 96) (bank : Fin 64) (s : State) : Host.Outcome State Fault Refusal :=
  let b := spGet (fun _ => BankSt.reset) (s.stack n.val).banks (rank.val * 64 + bank.val)
  if b.open_.isSome && decide (b.tick * 10 + s.fld (memA n.val R.MEM_PAGE_IDLE) 0 11 * 7 ≤ s.time.ticks * 10) then
    .next (s.closeBank n.val (rank.val * 64 + bank.val))
  else .next s

/-- REFRESH: the next bank in turn. -/
def execRefresh (n : Fin 4) (s : State) : Host.Outcome State Fault Refusal :=
  let i := (s.stack n.val).refresh
  let s := s.closeBank n.val i
  .next (s.setStack n.val { s.stack n.val with refresh := if i + 1 = 96 * 64 then 0 else i + 1 })

/-- Interface delays are interpolated again at each change of 5 °C. -/
def delayDue (old : Option Nat) (t : Nat) : Bool :=
  match old with
  | none => true
  | some o => decide (o + 5 ≤ t) || decide (t + 5 ≤ o)

/-- PATROL_SCRUB: the next line of a rank in service is read and corrected. -/
def execPatrolScrub (n : Fin 4) (err : HbmErr) (s : State) : Host.Outcome State Fault Refusal :=
  if s.fld (rasA n.val R.MEM_SCRUB_HOURS) 0 8 = 0 ∨ s.rbit (memA n.val R.MEM_STAT) 1 = true ∨ s.rgnDown (0x16 + n.val) = true then .next s
  else
    let i := (s.stack n.val).scrub
    let l := i / s.rankLines
    let line := i % s.rankLines
    let rank := s.servingRank n.val l line
    if s.maintWaits n.val rank (64 * line) then .next s
    else
      let s := s.maintain n.val rank (64 * line)
      let s := s.setStack n.val { s.stack n.val with scrub := if i + 1 = 94 * s.rankLines then 0 else i + 1 }
      let s := if err = .parityOnce ∨ err = .parityTwice then
          (((s.rankCount n.val rank 2).rasRaise n.val 1).rankOut n.val l) else s
      if err = .uncorrectable ∨ err = .parityTwice ∨ s.poisoned n.val rank line = true then
        .next ((((s.rankCount n.val rank 1).setPoison n.val rank line true).rasRaise n.val 0).rankOut n.val l)
      else .next (if err = .corrected then s.rankCount n.val rank 0 else s)

/-! ## RAS commands (R440, R444) -/

def State.rasRefused (s : State) (n : Nat) : State := (s.setRbit (rasA n R.MEM_RAS_STAT) 1 true).rasRaise n 8

/-- A physical rank is in service: a logical rank is redirected to it, or a migration fills it. -/
def State.rankServes (s : State) (n rank : Nat) : Bool :=
  (List.range 94).any (fun l => s.redir n l == rank) ||
  (match (s.stack n).migration with | some m => m.spare == rank | none => false)

/-- A write of MEM_RAS_CMD. -/
def State.rasCmd (s : State) (n v : Nat) : State :=
  let rank := natField v 8 7
  let x := s.stack n
  let a := rasA n R.MEM_RAS_STAT
  let busy := s.rbit a 0
  let s := (s.setFld a 3 7 rank).setRbit a 1 false
  match v % 4 with
  | 1 =>
    let moving := match x.migration with | some m => m.logical == rank | none => false
    if 94 ≤ rank ∨ moving = true ∨ rank ∈ x.waiting then s.rasRefused n else s.rankOut n rank
  | 2 =>
    if busy || decide (96 ≤ rank) || s.rankServes n rank then s.rasRefused n
    else (s.setRbit a 0 true).setStack n { x with verify := some rank }
  | _ => s

/-- RAS_RETIRE. -/
def execRasRetire (m : Master) (n : Fin 4) (v : Word) (s : State) : Host.Outcome State Fault Refusal :=
  .next (s.asWrite m (rasA n.val R.MEM_RAS_CMD) (fun s => s.rasCmd n.val (natSetField v.toNat 0 2 1)))

/-- RAS_VERIFY. -/
def execRasVerify (m : Master) (n : Fin 4) (v : Word) (s : State) : Host.Outcome State Fault Refusal :=
  .next (s.asWrite m (rasA n.val R.MEM_RAS_CMD) (fun s => s.rasCmd n.val (natSetField v.toNat 0 2 2)))

/-- VERIFY_DONE: a spare that fails is no longer free. In self-refresh the pattern waits for the exit. -/
def execVerifyDone (n : Fin 4) (pass : Bool) (s : State) : Host.Outcome State Fault Refusal :=
  let x := s.stack n.val
  match x.verify with
  | none => .next s
  | some r =>
    if s.rbit (memA n.val R.MEM_STAT) 1 then .next s
    else
      let a := rasA n.val R.MEM_RAS_STAT
      let s := s.setStack n.val { x with
        verify := none, spares := if pass then x.spares else x.spares.erase r, lastReq := s.time.ticks }
      .next ((((s.setRbit a 0 false).setRbit a 2 pass).migShow n.val).rasRaise n.val 7)

/-! ## The retirement record (R442) -/

def recordMagic : Nat := 0x52545251

/-- The record copy the boot controller takes: the bitmaps of the four stacks, 96 bits each. -/
def State.recordBits (s : State) : Nat :=
  let copy (o : Nat) : Option Nat :=
    let b := s.flashBytes (0x3D020000 + o) 64
    if leNat (b.take 4) = recordMagic ∧ leNat (b.drop 60) = crc32Std (b.take 60) then some (leNat ((b.drop 4).take 48)) else none
  match copy 0 with
  | some v => v
  | none => (copy 0x1000).getD 0

/-- Ranks of a stack that are retired, or whose migration has begun. -/
def State.retiredBits (s : State) (n : Nat) : Nat :=
  let x := s.stack n
  let l := match x.migration with | some m => m.old :: x.retired | none => x.retired
  bitsWhere (fun r => l.contains r) 96

/-- RETIREMENT_RECORD_WRITE: both copies; what the record marks stays marked. -/
def execRetirementRecordWrite (s : State) : Host.Outcome State Fault Refusal :=
  if !s.mem.recordDue then .next s
  else
    let bits := s.recordBits ||| (s.retiredBits 0 + s.retiredBits 1 * 2 ^ 96 + s.retiredBits 2 * 2 ^ 192 + s.retiredBits 3 * 2 ^ 288)
    let b := leBytes 4 recordMagic ++ leBytes 48 bits ++ List.replicate 8 0
    let r := b ++ leBytes 4 (crc32Std b)
    .next { (s.flashWrite 0x3D020000 r).flashWrite 0x3D021000 r with mem := { s.mem with recordDue := false } }

/-! ## Self-refresh (R445, R446) -/

/-- SELF_REFRESH_ENTRY: after 10 ms without a request every page is closed; `abandon` where a request comes before the command. -/
def execSelfRefreshEntry (n : Fin 4) (abandon : Bool) (s : State) : Host.Outcome State Fault Refusal :=
  let x := s.stack n.val
  let a := memA n.val R.MEM_STAT
  if !s.rbit (memA n.val R.MEM_SR_CTRL) 0 || s.rbit a 1 || s.rgnDown (0x16 + n.val) || !x.held.isEmpty ||
      decide (s.time.ticks < x.lastReq + 10000 * ticksPerUs) then .next s
  else
    let s := s.setStack n.val { x with banks := x.banks.map (fun p => (p.1, { p.2 with open_ := none })), srTick := s.time.ticks }
    .next (if abandon then s.bump (memA n.val R.MEM_SR_ABANDON)
      else (s.setRbit a 1 true).bump (memA n.val R.MEM_SR_CNT))

/-- Requests that a stack in self-refresh holds: those in its list, and the maintenance class's for a migration or a verification. -/
def MemSt.calls (x : MemSt) : Bool := !x.held.isEmpty || x.migration.isSome || x.verify.isSome

/-- SELF_REFRESH_EXIT: the residency of 1 µs over, the held requests are served. -/
def execSelfRefreshExit (n : Fin 4) (s : State) : Host.Outcome State Fault Refusal :=
  let x := s.stack n.val
  let a := memA n.val R.MEM_STAT
  if !s.rbit a 1 || !x.calls || decide (s.time.ticks < x.srTick + ticksPerUs) then .next s
  else
    .next ((s.setRbit a 1 false).hbmDrain n.val)

/-! ## Tables (R448) -/

/-- A field of the delay table at a temperature, on the line through its values at 25 °C and 95 °C, cut to the field (R443; assumptions
4 and 24). -/
def interpolated (lo hi w t : Nat) : Nat :=
  min ((lo : Int) + divFree (((hi : Int) - lo) * ((t : Int) - 25)) 70).toNat (2 ^ w - 1)

/-- An entry of TABLE 0xF8: receive delay, transmit delay, Vref code. -/
def State.delayEntry (s : State) (n i t : Nat) : Nat :=
  let c (hot : Bool) (ofs w : Nat) : Nat := natField (Config.hbmDelay s.boot.calCopy1 n i hot).toNat ofs w
  let f (ofs w : Nat) : Nat := interpolated (c false ofs w) (c true ofs w) w t * 2 ^ ofs
  f 0 10 + f 10 10 + f 20 8

/-- TABLE 0xF9 of RAS, 0xF8 of PHY. -/
def memTable (n block : Nat) : Nat → Option WinTable
  | 0xF9 => if block = 1 then some { maskedTable (0x16 + n) 1 0xF9 32 96 (2 ^ 192 - 1) (fun _ _ _ => true) with readClear := true } else none
  | 0xF8 => if block = 2 then some
      { bytes := 4
        count := fun _ => 5120
        get := fun s i _ => some (match (s.stack n).delayTemp with | some t => s.delayEntry n i t | none => 0)
        put := fun s _ _ _ => (3, s)
        clear := fun s _ _ => (3, s)
        readClear := false }
    else none
  | _ => none

end Sys2Proof.Machine
end

