-- ==== Sys2Proof/Machine/Buffer.lean ====
section
/-! DEFINITION. Region BUF (spec 10): the cell pool, packet share records, buffer pools with their rings and share table, the
bad-free log, and the spill pages' ring. -/

namespace Sys2Proof.Machine

def cellA (off : Nat) : Nat := regAddr 0x13 0 off
def spillA (off : Nat) : Nat := regAddr 0x13 1 off
def replA (off : Nat) : Nat := regAddr 0x13 2 off
def poolA (off : Nat) : Nat := regAddr 0x13 3 off
def bportA (off : Nat) : Nat := regAddr 0x13 4 off

/-! ## Cells (R245, R248, R249) -/

/-- First cell and end of an area inside a bank: general, relay, resequencing. -/
def areaFirst (a : Nat) : Nat := if a = 0 then 0 else if a = 1 then 16384 else 18432
def areaEnd (a : Nat) : Nat := if a = 0 then 16384 else if a = 1 then 18432 else 20480
def areaOf (ptr : Nat) : Nat := if ptr / 32 < 16384 then 0 else if ptr / 32 < 18432 then 1 else 2

def State.cellUsed (s : State) (ptr : Nat) : Bool := spGet (fun _ => false) s.buf.cells ptr

/-- The lowest free cell of a bank from cell `c` on, looking at `n` cells. -/
def State.lowestFree (s : State) (bank : Nat) : Nat → Nat → Option Nat
  | 0, _ => none
  | n + 1, c => if s.cellUsed (c * 32 + bank) then s.lowestFree bank n (c + 1) else some (c * 32 + bank)

/-- A free cell of an area, from a bank on in rotation; a bank with none is skipped. -/
def State.freeCell (s : State) (area bank : Nat) : Option Nat :=
  (List.range 32).findSome? (fun j => s.lowestFree ((bank + j) % 32) (areaEnd area - areaFirst area) (areaFirst area))

/-- The free count of an area and its low mark follow. -/
def State.cellFreeCount (s : State) (area n : Nat) : State :=
  let s := s.wr (cellA (R.BUF_CELL_FREE + 4 * area)) (BitVec.ofNat 32 n)
  if n < s.fld (cellA (R.BUF_CELL_MIN + 4 * area)) 0 20 then s.wr (cellA (R.BUF_CELL_MIN + 4 * area)) (BitVec.ofNat 32 n) else s

def State.setCell (s : State) (ptr : Nat) (used : Bool) : State :=
  let a := areaOf ptr
  let n := s.fld (cellA (R.BUF_CELL_FREE + 4 * a)) 0 20
  ({ s with buf := { s.buf with cells := spPut (fun _ => false) s.buf.cells ptr used } } : State).cellFreeCount a
    (if used then n - 1 else n + 1)

/-- Up to `n` cells of an area, the banks in rotation. -/
def allocGo (area : Nat) : Nat → Nat → State → List Nat × State
  | 0, _, s => ([], s)
  | n + 1, bank, s =>
    match s.freeCell area bank with
    | none => ([], s)
    | some p => let r := allocGo area n (p % 32 + 1) (s.setCell p true); (p :: r.1, r.2)

def State.allocUpTo (s : State) (area n : Nat) : List Nat × State :=
  let b := s.buf.bank
  let r := allocGo area n b s
  (r.1, { r.2 with buf := { r.2.buf with bank := (b + 1) % 32 } })

/-- Exactly `n` cells, or none. -/
def State.allocCells (s : State) (area n : Nat) : Option (List Nat × State) :=
  let r := s.allocUpTo area n
  if r.1.length = n then some r else none

/-- Cells of a packet of `n` data bytes (R251). -/
def cellsFor (n : Nat) : Nat := (n + 32 + 255) / 256

/-! ## The bad-free log (R268, R269) -/

def State.badFree (s : State) (addr reason kind id : Nat) : State :=
  if 16 ≤ s.buf.log.length then
    ({ s with buf := { s.buf with logOvf := s.ovfNext s.buf.logOvf } } : State).raise 0x13 3 1
  else
    let e : BadFree := ⟨addr, reason, kind, id, tvNs s.wt, tvSec s.wt⟩
    ({ s with buf := { s.buf with log := s.buf.log ++ [e] } } : State).raise 0x13 3 0

/-- Words of a log entry. -/
def badFreeWord (e : BadFree) (w : Nat) : Nat :=
  match w with
  | 0 => e.addr % 2 ^ 32
  | 1 => e.addr / 2 ^ 32 % 256 + e.reason * 2 ^ 8 + e.kind * 2 ^ 12 + 2 ^ 15 + e.id * 2 ^ 16
  | 2 => e.ns
  | _ => e.sec % 2 ^ 32

def State.poolLogHead (s : State) (m : Option Master) : Nat × State :=
  let e := s.buf.log.head?
  ((match e with | some e => badFreeWord e 0 | none => 0), { s with buf := { s.buf with logLatch := headPut s.buf.logLatch m e } })

def State.poolLogPop (s : State) (m : Option Master) : Nat × State :=
  let e := match headOf s.buf.logLatch m with | some e => some e | none => s.buf.log.head?
  let latch := headPut s.buf.logLatch m none
  match s.buf.log with
  | [] => (0, { s with buf := { s.buf with logLatch := latch } })
  | _ :: r =>
    ((match e with | some e => badFreeWord e 3 | none => 0), { s with buf := { s.buf with logLatch := latch, log := r } })

/-- POOL_LOG_READ_HEAD. -/
def execPoolLogReadHead (m : Master) (s : State) : Host.Outcome State Fault Refusal :=
  .next (s.asRead m (poolA R.BUF_POOL_LOG) (fun s => s.poolLogHead (some m)))

/-- POOL_LOG_READ_POP. -/
def execPoolLogReadPop (m : Master) (s : State) : Host.Outcome State Fault Refusal :=
  .next (s.asRead m (poolA (R.BUF_POOL_LOG + 12)) (fun s => s.poolLogPop (some m)))

/-- A cell free that the device checks: pointer beyond the cells, or a cell already free. -/
def State.cellFree (s : State) (ptr : Nat) : State :=
  let bad (reason : Nat) : State := ((s.bump (cellA R.BUF_CELL_BADFREE)).raise 0x13 0 1).badFree ptr reason 3 0
  if 655360 ≤ ptr then bad 1
  else if s.cellUsed ptr then s.setCell ptr false
  else bad 4

/-- Cells that a packet gives back, each free checked (R249). -/
def State.freeCells (s : State) (l : List Nat) : State := l.foldl State.cellFree s

/-- CELL_FREE. -/
def execCellFree (ptr : Word) (s : State) : Host.Outcome State Fault Refusal :=
  if s.meets 0x13 0 then .next s else .next (s.cellFree (ptr.toNat % 2 ^ 20))

/-! ## Packet share records (R262, R265) -/

def noShare : ShareRec := ⟨0, false, []⟩
def State.shareRec (s : State) (r : Nat) : ShareRec := spGet (fun _ => noShare) s.buf.shares r
def State.setShareRec (s : State) (r : Nat) (x : ShareRec) : State :=
  { s with buf := { s.buf with shares := spPut (fun _ => noShare) s.buf.shares r x } }

/-- A record is in use while it names cells. -/
def State.shareInUse (s : State) (r : Nat) : Bool := !(s.shareRec r).cells.isEmpty

/-- The lowest free record from `r` on. -/
def State.freeShare (s : State) : Nat → Nat → Option Nat
  | 0, _ => none
  | n + 1, r => if s.shareInUse r then s.freeShare n (r + 1) else some r

/-- The payload returns once the owner's free has arrived and PENDING is 0. -/
def State.shareSettle (s : State) (r : Nat) : State :=
  let x := s.shareRec r
  if x.freed && x.pending == 0 then (s.freeCells x.cells).setShareRec r noShare else s

def shareHead (x : ShareRec) : Nat := x.cells.headD 0

/-- A release of a packet payload (R265). -/
def State.shareRelease (s : State) (r : Nat) (byOwner : Bool) : State :=
  let x := s.shareRec r
  if byOwner then s.badFree (shareHead x) 3 3 0
  else if x.pending = 0 then s.badFree (shareHead x) 6 3 0
  else (s.setShareRec r { x with pending := x.pending - 1 }).shareSettle r

/-- A free of a packet payload (R265). -/
def State.shareFree (s : State) (r : Nat) (byOwner : Bool) : State :=
  let x := s.shareRec r
  if !byOwner then s.badFree (shareHead x) 3 3 0
  else if x.freed then s.badFree (shareHead x) 4 3 0
  else (s.setShareRec r { x with freed := true }).shareSettle r

/-- SHARED_RELEASE: of a record in use. -/
def execSharedRelease (rec : Fin 131072) (byOwner : Bool) (s : State) : Host.Outcome State Fault Refusal :=
  if s.shareInUse rec then .next (s.shareRelease rec byOwner) else .next s

/-- SHARED_FREE: of a record in use. -/
def execSharedFree (rec : Fin 131072) (byOwner : Bool) (s : State) : Host.Outcome State Fault Refusal :=
  if s.shareInUse rec then .next (s.shareFree rec byOwner) else .next s

/-- A copy is done with its payload: its cells return, or its release or free is recorded. -/
def State.payloadDone (s : State) (e : QEnt) : State :=
  match e.share with
  | none => s.freeCells e.cells
  | some r => if e.owner then s.shareFree r true else s.shareRelease r false

/-! ## Buffer pools (R266 to R268) -/

def State.poolDesc (s : State) (p : Nat) : Nat := s.tabN 0x13 3 0x70 p
def pdBase (d : Nat) : Nat := natField d 0 64
def pdRing (d : Nat) : Nat := natField d 64 64
def pdCount (d : Nat) : Nat := natField d 128 24
def pdEn (d : Nat) : Bool := natBit d 160
def pdSizeCode (d : Nat) : Nat := natField d 161 2
def pdFbEn (d : Nat) : Bool := natBit d 163
def pdFallback (d : Nat) : Nat := natField d 168 8
def poolBytes (code : Nat) : Nat := if code = 0 then 256 else if code = 1 then 2048 else if code = 2 then 16384 else 65536
def pdSize (d : Nat) : Nat := poolBytes (pdSizeCode d)

def State.pool (s : State) (p : Nat) : PoolSt := spGet (fun _ => PoolSt.reset) s.buf.pools p
def State.setPool (s : State) (p : Nat) (x : PoolSt) : State :=
  { s with buf := { s.buf with pools := spPut (fun _ => PoolSt.reset) s.buf.pools p x } }

/-- Counter `c` of a pool: 0 ALLOCS, 1 FREES, 2 FALLBACK, 3 EMPTY. -/
def State.poolCount (s : State) (p c : Nat) : State :=
  if s.ctl.snapFrozen then s
  else s.setTabN 0x13 3 0x71 p (natSetField (s.tabN 0x13 3 0x71 p) (64 * c) 64 (natField (s.tabN 0x13 3 0x71 p) (64 * c) 64 + 1))

/-- Entry `i` of a pool's ring, in HBM. -/
def ringAddr (d i : Nat) : Nat := pdRing d + 8 * (i % pdCount d)

/-- Ring entries that can be read; those of an uncorrectable line are discarded (R439). -/
def State.ringRead (s : State) (w : Nat) (l : List Nat) : List Nat :=
  (l.filter (fun a => !s.hbmMeets a w)).map (fun a => s.hbmLe a w)

/-- UE of every uncorrectable line that a burst of ring entries meets. -/
def State.ringUe (s : State) (w : Nat) (l : List Nat) : State :=
  if s.anyPoison then ((l.map (fun a => a / 64 * 64)).eraseDups).foldl (fun (s : State) a => s.hbmUeRead a w) s else s

/-- A burst of up to `n` pointers from the ring to the cache. -/
def State.poolRefill (s : State) (p : Nat) : State :=
  let d := s.poolDesc p
  let x := s.pool p
  let n := min 256 x.ringCount
  let at_ := (List.range n).map (fun j => ringAddr d (x.ringHead + j))
  (s.setPool p { x with
    cache := x.cache ++ s.ringRead 8 at_, ringHead := (x.ringHead + n) % pdCount d, ringCount := x.ringCount - n }).ringUe 8 at_

/-- A burst of up to `n` pointers from the cache to the ring. -/
def State.poolDrainN (s : State) (p n : Nat) : State :=
  let d := s.poolDesc p
  let x := s.pool p
  let l := x.cache.take n
  let s := (l.zipIdx).foldl (fun s q => s.hbmWrite (ringAddr d (x.ringHead + x.ringCount + q.2)) (leBytes 8 q.1)) s
  s.setPool p { x with cache := x.cache.drop n, ringCount := x.ringCount + l.length }

/-- The ring of a pool can be reached. -/
def State.poolRingUp (s : State) (p : Nat) : Bool := !s.hbmDown (pdRing (s.poolDesc p))

/-- POOL_CACHE_REFILL: a cache of 256 or fewer takes a burst of 256. -/
def execPoolCacheRefill (p : Fin 256) (s : State) : Host.Outcome State Fault Refusal :=
  if pdEn (s.poolDesc p) = true ∧ (s.pool p).cache.length ≤ 256 ∧ s.poolRingUp p = true ∧ s.rgnWorks 0x13 = true then
    .next (s.poolRefill p)
  else .next s

/-- POOL_CACHE_DRAIN: a cache of 768 or more gives a burst of 256. -/
def execPoolCacheDrain (p : Fin 256) (s : State) : Host.Outcome State Fault Refusal :=
  if pdEn (s.poolDesc p) = true ∧ 768 ≤ (s.pool p).cache.length ∧ s.poolRingUp p = true ∧ s.rgnWorks 0x13 = true then
    .next (s.poolDrainN p 256)
  else .next s

/-- A buffer from a pool, its cache filled from the ring where it is empty. -/
def State.poolTake (s : State) (p : Nat) : Option (Nat × State) :=
  if !pdEn (s.poolDesc p) then none
  else
    let s := if (s.pool p).cache.isEmpty && s.poolRingUp p then s.poolRefill p else s
    match (s.pool p).cache with
    | a :: r => some (a, (s.setPool p { s.pool p with cache := r, allocated := (s.pool p).allocated + 1 }).poolCount p 0)
    | [] => none

/-- The fallback chain from a pool: at most three links. -/
def poolChain : Nat → Nat → State → Option (Nat × Nat × State)
  | 0, _, _ => none
  | n + 1, p, s =>
    match s.poolTake p with
    | some r => some (r.1, p, r.2)
    | none => if pdFbEn (s.poolDesc p) then poolChain n (pdFallback (s.poolDesc p)) s else none

/-- ALLOC from pool `p`: the buffer's address, or 0. -/
def State.poolAlloc (s : State) (p : Nat) : Nat × State :=
  match poolChain 4 p s with
  | some (a, q, t) => (a, if q = p then t else t.poolCount p 2)
  | none => (0, (s.poolCount p 3).raise 0x13 3 2)

/-- The enabled pool whose range holds an address. -/
def State.poolOf (s : State) (a : Nat) : Option Nat :=
  ((s.tabListed 0x13 3 0x70).find? (fun q =>
    let d := q.2.toNat
    pdEn d && decide (pdBase d ≤ a) && decide (a < pdBase d + pdCount d * pdSize d))).map (·.1)

/-- A buffer returns to its pool. -/
def State.poolReturn (s : State) (p a : Nat) : State :=
  let s := if 1024 ≤ (s.pool p).cache.length then s.poolDrainN p 256 else s
  (s.setPool p { s.pool p with cache := (s.pool p).cache ++ [a], allocated := (s.pool p).allocated - 1 }).poolCount p 1

def noPoolShare : PoolShare := ⟨0, 0, 0, false⟩
def State.poolShare (s : State) (a : Nat) : Option PoolShare := (s.buf.poolShares.find? (fun q => q.1 == a)).map (·.2)
def State.setPoolShare (s : State) (a : Nat) (x : Option PoolShare) : State :=
  let l := match x with | some y => spIns s.buf.poolShares a y | none => spDel s.buf.poolShares a
  { s with buf := { s.buf with poolShares := l } }

/-- RANGE and ALIGN (R268): the pool of an address, or the reason of the refusal. -/
def State.poolCheck (s : State) (a : Nat) : Except Nat Nat :=
  match s.poolOf a with
  | none => .error 1
  | some p =>
    let d := s.poolDesc p
    if (a - pdBase d) % pdSize d ≠ 0 ∨ a % 256 ≠ 0 then .error 2 else .ok p

/-- FREE by a requester. -/
def State.poolFree (s : State) (a kind id : Nat) : State :=
  match s.poolCheck a with
  | .error r => s.badFree a r kind id
  | .ok p =>
    match s.poolShare a with
    | none => s.poolReturn p a
    | some x =>
      if x.kind ≠ kind ∨ x.id ≠ id then s.badFree a 3 kind id
      else if x.freed then s.badFree a 4 kind id
      else if x.pending = 0 then (s.setPoolShare a none).poolReturn p a
      else s.setPoolShare a (some { x with freed := true })

/-- RELEASE by a requester. -/
def State.poolRelease (s : State) (a kind id : Nat) : State :=
  match s.poolCheck a with
  | .error r => s.badFree a r kind id
  | .ok p =>
    match s.poolShare a with
    | none => s.badFree a 5 kind id
    | some x =>
      if x.kind = kind ∧ x.id = id then s.badFree a 3 kind id
      else if x.pending = 0 then s.badFree a 6 kind id
      else if x.pending = 1 ∧ x.freed = true then (s.setPoolShare a none).poolReturn p a
      else s.setPoolShare a (some { x with pending := x.pending - 1 })

/-- SHARE by a requester, who is the named last owner. -/
def State.poolShareOp (s : State) (datum kind id : Nat) : State :=
  let a := datum / 256 * 256
  if (s.poolShare a).isSome then s.raise 0x13 3 4
  else if 65536 ≤ s.buf.poolShares.length then s.raise 0x13 3 3
  else s.setPoolShare a (some ⟨kind, id, datum % 256, false⟩)

/-- Block PORT refuses the other masters (R267); a core thread's access passes the checks of R91. -/
def State.asPort (s : State) (m : Master) (addr bytes : Nat) (write : Bool) (f : Nat → State → State) : State :=
  match s.accessCheck m addr bytes false write with
  | .ok => match m with
    | .core t => f t.val s
    | _ => s.accessRefused m addr .denied
  | c => s.accessRefused m addr c

/-- POOL_ALLOC: a 64-bit read, or a 32-bit read of the low word that latches the high word (R96). -/
def execPoolAlloc (m : Master) (p : Fin 256) (wide : Bool) (s : State) : Host.Outcome State Fault Refusal :=
  let a := bportA (R.BUF_POOL_ALLOC + 8 * p)
  .next (s.asPort m a (if wide then 8 else 4) false (fun _ s =>
    let r := s.poolAlloc p
    if wide then r.2.emit (.reply m r.1)
    else
      let key := masterCode m + 4 * (0x13 * 64 + 4)
      let lat : Latch := ⟨a, [BitVec.ofNat 32 (r.1 / 2 ^ 32)]⟩
      ({ r.2 with ctl := { r.2.ctl with latches := spPut (fun _ => Latch.none_) r.2.ctl.latches key lat } } : State).emit
        (.reply m (r.1 % 2 ^ 32))))

/-- POOL_SHARE. -/
def execPoolShare (m : Master) (datum : BitVec 64) (s : State) : Host.Outcome State Fault Refusal :=
  .next (s.asPort m (bportA R.BUF_POOL_SHARE) 8 true (fun t s => s.poolShareOp datum.toNat 0 t))

/-- Processor memory and system memory, which adjoin, hold a range (R2, R431). -/
def poolMemory (a n : Nat) : Bool := decide (0x0400000000 ≤ a) && decide (a + n ≤ 0x0880000000)

/-- A descriptor write that R266 lets pass. -/
def State.poolDescOk (s : State) (p d : Nat) : Bool :=
  let old := s.poolDesc p
  let fixed (x : Nat) : Nat := natSetField (natSetField x 163 1 0) 168 8 0
  let bytes := pdCount d * pdSize d
  let fb := s.poolDesc (pdFallback d)
  pdBase d % pdSize d == 0 && pdRing d % 4096 == 0 && poolMemory (pdBase d) bytes && poolMemory (pdRing d) (8 * pdCount d) &&
  (s.tabListed 0x13 3 0x70).all (fun q =>
    let e := q.2.toNat
    q.1 == p || !pdEn e || decide (pdBase e + pdCount e * pdSize e ≤ pdBase d) || decide (pdBase d + bytes ≤ pdBase e)) &&
  (!pdFbEn d || (pdEn fb && decide (pdSizeCode d < pdSizeCode fb))) &&
  ((s.pool p).allocated == 0 || fixed d == fixed old)

/-- TABLE 0x70: a cleared descriptor is no pool. -/
def poolTable : WinTable :=
  { plainTable 0x13 3 0x70 32 256 State.poolDescOk with
    put := fun s i _ v => if s.poolDescOk i (v % 2 ^ 176) then (0, s.setTabN 0x13 3 0x70 i (v % 2 ^ 176)) else (4, s)
    clear := fun s i _ => if (s.pool i).allocated = 0 then (0, s.setTabN 0x13 3 0x70 i 0) else (4, s) }

def poolCounterTable : WinTable := { plainTable 0x13 3 0x71 32 256 (fun _ _ _ => true) with readClear := true }

/-- INIT: the ring holds every buffer, in ascending order; the cache is empty. -/
def State.poolInit (s : State) (p : Nat) : State :=
  let d := s.poolDesc p
  let s := (List.range (pdCount d)).foldl (fun s j => s.hbmWrite (ringAddr d j) (leBytes 8 (pdBase d + j * pdSize d))) s
  (s.hbmClean (pdRing d) (8 * pdCount d)).setPool p ⟨[], 0, pdCount d, 0⟩

def poolWinA : Nat := winA 0x13 3 0

/-- INIT of the pool at INDEX. -/
def State.poolInitRun (s : State) : Nat × State :=
  if 256 ≤ s.winIndex poolWinA then (1, s) else (0, s.poolInit (s.winIndex poolWinA))

/-- Window command INIT on TABLE 0x70. -/
def State.poolInitCmd (s : State) (v : Nat) : State :=
  s.winCmd poolWinA v 32 State.poolInitRun

/-- POOL_INIT. -/
def execPoolInit (m : Master) (v : Word) (s : State) : Host.Outcome State Fault Refusal :=
  .next (s.asWrite m poolWinA (fun s => s.poolInitCmd (natSetField (withCmd v 8) 4 8 0x70)))

/-! ## Spill pages (R255) -/

def State.spillPages (s : State) : Nat := s.fld (spillA R.BUF_SPILL_PAGES) 0 25
def State.spillFree (s : State) : Nat := s.buf.pageCache.length + s.buf.ringCount
def State.spillRing (s : State) (i : Nat) : Nat := s.rd64 (spillA R.BUF_SPILL_RING_LO) + 4 * (i % s.spillPages)
def State.spillPage (s : State) (n : Nat) : Nat := s.rd64 (spillA R.BUF_SPILL_BASE_LO) + 4096 * n
def State.spillUp (s : State) : Bool := !s.hbmDown (s.rd64 (spillA R.BUF_SPILL_RING_LO))

def State.pageRefill (s : State) : State :=
  let n := min 256 s.buf.ringCount
  let at_ := (List.range n).map (fun j => s.spillRing (s.buf.ringHead + j))
  ({ s with buf := { s.buf with
    pageCache := s.buf.pageCache ++ s.ringRead 4 at_, ringHead := (s.buf.ringHead + n) % s.spillPages
    ringCount := s.buf.ringCount - n } } : State).ringUe 4 at_

def State.pageDrain (s : State) (n : Nat) : State :=
  let l := s.buf.pageCache.take n
  let s := (l.zipIdx).foldl (fun s q => s.hbmWrite (s.spillRing (s.buf.ringHead + s.buf.ringCount + q.2)) (leBytes 4 q.1)) s
  { s with buf := { s.buf with pageCache := s.buf.pageCache.drop n, ringCount := s.buf.ringCount + l.length } }

/-- SPILL_CACHE_REFILL. -/
def execSpillCacheRefill (s : State) : Host.Outcome State Fault Refusal :=
  if s.buf.pageCache.length ≤ 256 ∧ s.spillUp = true ∧ s.rgnWorks 0x13 = true then .next s.pageRefill else .next s

/-- SPILL_CACHE_DRAIN. -/
def execSpillCacheDrain (s : State) : Host.Outcome State Fault Refusal :=
  if 768 ≤ s.buf.pageCache.length ∧ s.spillUp = true ∧ s.rgnWorks 0x13 = true then .next (s.pageDrain 256) else .next s

/-- A write of BUF_SPILL_INIT with bit 0 starts filling the ring. -/
def State.spillInit (s : State) (v : Nat) : State :=
  if natBit v 0 then { s with buf := { s.buf with initBusy := true } } else s

/-- SPILL_INIT. -/
def execSpillInit (m : Master) (v : Word) (s : State) : Host.Outcome State Fault Refusal :=
  .next (s.asWrite m (spillA R.BUF_SPILL_INIT) (fun s => s.spillInit v.toNat))

/-- The ring holds every page, in page order. -/
def State.fillRing (s : State) : State :=
  let s := (List.range s.spillPages).foldl (fun s j => s.hbmWrite (s.spillRing j) (leBytes 4 j)) s
  let s := s.hbmClean (s.spillRing 0) (4 * s.spillPages)
  { s with buf := { s.buf with pageCache := [], ringHead := 0, ringCount := s.spillPages, initBusy := false, ringDue := false } }

/-- The ring is rebuilt at the release of BUF, or once its stack serves again (R270). -/
def State.ringRebuild (s : State) : State :=
  if s.spillPages = 0 then s
  else if s.spillUp then s.fillRing
  else { s with buf := { s.buf with ringDue := true } }

/-- INIT_DONE. -/
def execInitDone (s : State) : Host.Outcome State Fault Refusal :=
  if s.buf.initBusy then .next (s.fillRing.raise 0x13 1 2) else .next s

/-- Pages are free, but the cache holds fewer than `n` and the ring's stack does not serve: what needs them waits. -/
def State.pagesWait (s : State) (n : Nat) : Bool :=
  decide (s.buf.pageCache.length < n) && decide (n ≤ s.spillFree) && !s.spillUp

/-- A free page; SPILL_LOW when fewer than 1 % are left. -/
def State.takePage (s : State) : Option (Nat × State) :=
  let s := if s.buf.pageCache.isEmpty && s.spillUp then s.pageRefill else s
  match s.buf.pageCache with
  | [] => none
  | n :: r =>
    let s : State := { s with buf := { s.buf with pageCache := r } }
    some (n, s.raiseIf (decide (s.spillFree * 100 < s.spillPages)) 0x13 1 1)

/-- A page returns to the ring's cache. -/
def State.returnPage (s : State) (n : Nat) : State :=
  let s := if 1024 ≤ s.buf.pageCache.length then s.pageDrain 256 else s
  { s with buf := { s.buf with pageCache := s.buf.pageCache ++ [n] } }

/-! ## Replication tables (R261) -/

def groupOk (v : Nat) : Bool :=
  decide (natField v 1 18 + natField v 19 11 ≤ 262144) && !(natBit v 0 && natField v 19 11 == 0)

def replEntryOk (v : Nat) : Bool := natField v 43 21 == 0 && decide (natField v 11 7 < 70)

def replTable : Nat → Option WinTable
  | 0x50 => some (maskedTable 0x13 2 0x50 4 65536 (2 ^ 30 - 1) (fun _ _ v => groupOk v))
  | 0x51 => some (plainTable 0x13 2 0x51 8 262144 (fun _ _ v => replEntryOk v))
  | 0x52 => some { maskedTable 0x13 2 0x52 8 262144 (2 ^ 48 - 1) (fun _ _ _ => true) with readClear := true }
  | _ => none

end Sys2Proof.Machine
end

