-- ==== Sys2Proof/Machine/ExactMatch.lean ====
section
/-! DEFINITION. Exact-match rule tables (spec 06, R159 to R164): their layout, the search for a place by moves, and the table
commands of window 0 of block EM. -/

namespace Sys2Proof.Machine

/-! ## A path of moves that frees a place -/

/-- A path of exactly `n` moves that frees a place in bucket `b`: `slots` are a bucket's places, `free` a free place of a
bucket, `alts` the other buckets of the entry at a place. The moves stand first to last, each from a place to a place. -/
def movePath {β : Type} (slots : β → List Nat) (free : β → Option Nat) (alts : Nat → List β) : Nat → β → Option (List (Nat × Nat))
  | 0, _ => none
  | n + 1, b =>
    (slots b).findSome? (fun p =>
      (alts p).findSome? (fun c =>
        match n with
        | 0 => (free c).map (fun q => [(p, q)])
        | _ + 1 =>
          match movePath slots free alts n c with
          | some ((q, r) :: rest) => some ((p, q) :: (q, r) :: rest)
          | _ => none))

/-- The shortest such path of at most `n` moves over a key's buckets (breadth first). Which of the shortest paths the
device takes is not stated: the model tries buckets and places in rising order (assumption 8). -/
def shortestPath {β : Type} (slots : β → List Nat) (free : β → Option Nat) (alts : Nat → List β) (bs : List β) (n : Nat) :
    Option (List (Nat × Nat)) :=
  ((List.range n).map (· + 1)).findSome? (fun k => bs.findSome? (movePath slots free alts k))

/-- The four seeds of R159. -/
def waySeed (w : Nat) : Nat :=
  if w = 0 then 0xFFFFFFFF else if w = 1 then 0x5A5A5A5A else if w = 2 then 0x3C3C3C3C else 0x96969696

/-! ## Layout -/

def emA (off : Nat) : Nat := regAddr 7 3 off
def emWinA : Nat := winA 7 3 0
def State.emCfg (s : State) (t : Nat) : Nat := (s.rd (emA (R.TBL_EM_CFG + 4 * t))).toNat
def emSize (cfg : Nat) : Nat := natField cfg 1 2

/-- Key bytes, entry bytes and entries of a tile, by SIZE (R159). -/
def emKeyBytes (size : Nat) : Nat := if size = 0 then 16 else if size = 1 then 32 else 64
def emBytes (size : Nat) : Nat := 16 + emKeyBytes size
def emPerTile (size : Nat) : Nat := if size = 0 then 32768 else if size = 1 then 21840 else 13104

/-- Buckets of one way: a quarter of the table's entries, four to a bucket. -/
def emBuckets (cfg : Nat) : Nat := natField cfg 15 7 / 4 * emPerTile (emSize cfg) / 4
def emLocations (cfg : Nat) : Nat := emBuckets cfg * 16

def State.emEntry (s : State) (t loc : Nat) : Nat := s.tabN 7 3 t loc
def entVmask (e : Nat) : Nat := e % 4
def emKey (cfg e : Nat) : Nat := natField e 128 (8 * emKeyBytes (emSize cfg))
/-- Key bytes of an entry's key, first byte first. -/
def emKeyList (cfg key : Nat) : List Byte := leBytes (emKeyBytes (emSize cfg)) key

/-- First place of the bucket of a key in way `w`. -/
def emBucket (cfg key w : Nat) : Nat :=
  if emBuckets cfg = 0 then 0
  else (w * emBuckets cfg + crc32 (waySeed w) (emKeyList cfg key) % emBuckets cfg) * 4

def emPlaces (b : Nat) : List Nat := [b, b + 1, b + 2, b + 3]
def emKeyPlaces (cfg key : Nat) : List Nat := (List.range 4).flatMap (fun w => emPlaces (emBucket cfg key w))

/-- Hit bit of a location (R200). -/
def State.emHit (s : State) (t loc : Nat) : Bool := s.tabN 7 3 (64 + t) loc != 0
def State.setEmHit (s : State) (t loc : Nat) (b : Bool) : State := s.setTabN 7 3 (64 + t) loc (if b then 1 else 0)

/-- Reserved bits of an entry read 0. -/
def emClean (e : Nat) : Nat := natSetField (natSetField e 2 62 0) 114 14 0

/-- A location takes an entry; TBL_EM_COUNT follows the entries in use. -/
def State.emStore (s : State) (t loc e : Nat) : State :=
  let was := entVmask (s.emEntry t loc) != 0
  let is_ := entVmask e != 0
  let a := emA (R.TBL_EM_COUNT + 4 * t)
  let s := s.setTabN 7 3 t loc e
  if was == is_ then s
  else if is_ then s.setFld a 0 21 (s.fld a 0 21 + 1)
  else s.setFld a 0 21 (s.fld a 0 21 - 1)

/-- An entry is written at a location; a table that passes 90 % raises EM_LOAD_HIGH (R163). -/
def State.emPut (s : State) (t loc e : Nat) : State :=
  let n := emLocations (s.emCfg t)
  let a := emA (R.TBL_EM_COUNT + 4 * t)
  let before := s.fld a 0 21
  let s := s.emStore t loc e
  s.raiseIf (decide (before * 10 ≤ n * 9) && decide (n * 9 < s.fld a 0 21 * 10)) 7 3 2

/-- An entry is freed: the place and its hit bit are clear. -/
def State.emFree (s : State) (t loc : Nat) : State := (s.emStore t loc 0).setEmHit t loc false

/-- Places that hold the key with a VMASK bit in common. -/
def State.emFind (s : State) (t key vmask : Nat) : List Nat :=
  let cfg := s.emCfg t
  (emKeyPlaces cfg key).filter (fun p => emKey cfg (s.emEntry t p) == key && (entVmask (s.emEntry t p) &&& vmask) != 0)

/-! ## Commands (R163) -/

/-- A refusal by the table: ERR 4 and TBL_EM_STAT.REASON. -/
def State.emRefuse (s : State) (reason : Nat) : Nat × State := (4, s.setFld (emA R.TBL_EM_STAT) 0 2 reason)

/-- One move: the entry at its new place first, then its old place free. -/
def State.emMove (s : State) (t : Nat) (p : Nat × Nat) : State :=
  let h := s.emHit t p.1
  (((s.emStore t p.2 (s.emEntry t p.1)).setEmHit t p.2 h).emFree t p.1)

/-- The new entry in its place. -/
def State.emPlace (s : State) (t p e : Nat) : State := ((s.emPut t p e).setEmHit t p true).setWinIndex emWinA p

/-- INSERT of the entry in WIN_DATA. -/
def State.emInsert (s : State) (t : Nat) : Nat × State :=
  let cfg := s.emCfg t
  let e := emClean (s.winDataN emWinA (emBytes (emSize cfg) / 4))
  let key := emKey cfg e
  if s.verLocked &&& entVmask e ≠ 0 then s.verProtect emWinA
  else if 7 ≤ natField e 64 4 then (4, s)
  else if s.emFind t key (entVmask e) ≠ [] then (s.raise 7 3 1).emRefuse 1
  else
    match (emKeyPlaces cfg key).find? (fun p => entVmask (s.emEntry t p) == 0) with
    | some p => (0, s.emPlace t p e)
    | none =>
      let free (b : Nat) : Option Nat := (emPlaces b).find? (fun p => entVmask (s.emEntry t p) == 0)
      let alts (p : Nat) : List Nat :=
        ((List.range 4).map (emBucket cfg (emKey cfg (s.emEntry t p)))).filter (fun b => b != p / 4 * 4)
      match shortestPath emPlaces free alts ((List.range 4).map (emBucket cfg key)) 4 with
      | some ((p, q) :: rest) => (0, (((p, q) :: rest).reverse.foldl (fun s m => s.emMove t m) s).emPlace t p e)
      | _ => (s.raise 7 3 0).emRefuse 2

/-- The key in WIN_DATA, at the key's place in an entry. -/
def State.emWinKey (s : State) (t : Nat) : Nat := emKey (s.emCfg t) (s.winDataN emWinA (emBytes (emSize (s.emCfg t)) / 4))

/-- DELETE: clear the named VMASK bits of the entries with the key; a place whose VMASK becomes 0 is free. -/
def State.emDelete (s : State) (t : Nat) : Nat × State :=
  let m := s.winVmask emWinA
  if s.verLocked &&& m ≠ 0 then s.verProtect emWinA
  else
    match s.emFind t (s.emWinKey t) m with
    | [] => s.emRefuse 3
    | l =>
      (0, l.foldl (fun s p =>
        let e := s.emEntry t p
        let v := entVmask e &&& (3 - m)
        if v = 0 then s.emFree t p else s.emPut t p (natSetField e 0 2 v)) (s.setWinIndex emWinA (l.headD 0)))

/-- SEARCH: the entry and its location. -/
def State.emSearch (s : State) (t : Nat) : Nat × State :=
  match s.emFind t (s.emWinKey t) (s.winVmask emWinA) with
  | [] => s.emRefuse 3
  | p :: _ => (0, (s.setWinData emWinA (emBytes (emSize (s.emCfg t)) / 4) (s.emEntry t p)).setWinIndex emWinA p)

/-- Bytes 8 to 15 of an entry replaced by those of another. -/
def emResult (e d : Nat) : Nat := emClean (natSetField e 64 64 (natField d 64 64))

/-- UPDATE: bytes 8 to 15 of the entries SEARCH would find. -/
def State.emUpdate (s : State) (t : Nat) : Nat × State :=
  let m := s.winVmask emWinA
  let d := s.winDataN emWinA (emBytes (emSize (s.emCfg t)) / 4)
  if s.verLocked &&& m ≠ 0 then s.verProtect emWinA
  else
    match s.emFind t (s.emWinKey t) m with
    | [] => s.emRefuse 3
    | l =>
      if l.any (fun p => (s.verLocked &&& entVmask (s.emEntry t p)) != 0) then s.verProtect emWinA
      else if 7 ≤ natField d 64 4 then (4, s)
      else (0, l.foldl (fun s p => s.emPut t p (emResult (s.emEntry t p) d)) s)

/-- TABLE = t of block EM; a table without locations is no table (assumption 9). -/
def emTable (t : Nat) (cfg : Nat) : WinTable where
  bytes := emBytes (emSize cfg)
  count := fun _ => emLocations cfg
  get := fun s i _ => some (s.emEntry t i)
  put := fun s i _ v =>
    if s.verLocked &&& (entVmask v ||| entVmask (s.emEntry t i)) ≠ 0 then s.verProtect emWinA
    else if 7 ≤ natField v 64 4 then (4, s)
    else (0, s.emPut t i (emClean v))
  clear := fun s i _ =>
    if s.verLocked &&& entVmask (s.emEntry t i) ≠ 0 then s.verProtect emWinA
    else (0, s.emFree t i)
  readClear := false

/-- A command of R163 on the table that WIN_CTRL names. -/
def State.emCmd (s : State) (v : Nat) (run : State → Nat → Nat × State) : State :=
  let t := natField v 4 8
  let n := if t < 64 then emLocations (s.emCfg t) else 0
  s.winCmd emWinA v (if n = 0 then 0 else emBytes (emSize (s.emCfg t))) (fun s => if n = 0 then (2, s) else run s t)

/-- EM_INSERT: a write of WIN_CTRL with CMD INSERT. -/
def execEmInsert (m : Master) (v : Word) (s : State) : Host.Outcome State Fault Refusal :=
  .next (s.asWrite m emWinA (fun s => s.emCmd (withCmd v 8) State.emInsert))

/-- EM_DELETE. -/
def execEmDelete (m : Master) (v : Word) (s : State) : Host.Outcome State Fault Refusal :=
  .next (s.asWrite m emWinA (fun s => s.emCmd (withCmd v 9) State.emDelete))

/-- EM_SEARCH. -/
def execEmSearch (m : Master) (v : Word) (s : State) : Host.Outcome State Fault Refusal :=
  .next (s.asWrite m emWinA (fun s => s.emCmd (withCmd v 10) State.emSearch))

/-- EM_UPDATE. -/
def execEmUpdate (m : Master) (v : Word) (s : State) : Host.Outcome State Fault Refusal :=
  .next (s.asWrite m emWinA (fun s => s.emCmd (withCmd v 11) State.emUpdate))

/-! ## Lookup (R161) -/

/-- The location that matches a key in a version, if any. -/
def State.emLookup (s : State) (t key : Nat) (odd : Bool) : Option Nat := (s.emFind t key (verBit odd)).head?

/-! ## Configuration (TBL_EM_CFG) -/

/-- The number of header-vector bytes a KEYMASK selects. -/
def popCount : Nat → Nat → Nat
  | 0, _ => 0
  | n + 1, v => v % 2 + popCount n (v / 2)

/-- A class profile selects no more bytes than the keys of the tables it names hold. -/
def classFits (cfgOf : Nat → Nat) (prof : Nat) : Bool :=
  (!natBit prof 72 || decide (popCount 128 (natField prof 128 128) ≤ emKeyBytes (emSize (cfgOf (natField prof 80 6))))) &&
  (!natBit prof 73 || decide (popCount 128 (natField prof 256 128) ≤ emKeyBytes (emSize (cfgOf (natField prof 88 6)))))

/-- A write of TBL_EM_CFG t: refused while entries are in use and its layout would change, or where a profile that names the
table would no longer fit. -/
def State.emCfgWrite (s : State) (t v : Nat) : State :=
  let old := s.emCfg t
  let layout (c : Nat) : Nat × Nat := (natField c 1 2, natField c 8 14)
  let cfgOf (u : Nat) : Nat := if u = t then v else s.emCfg u
  let fits := (List.range 16).all (fun i =>
    (s.tabListed (3 + i / 4) (i % 4) 0x04).all (fun p => classFits cfgOf p.2.toNat))
  if (s.fld (emA (R.TBL_EM_COUNT + 4 * t)) 0 21 != 0 && layout v != layout old) || !fits then s
  else s.wr (emA (R.TBL_EM_CFG + 4 * t)) (BitVec.ofNat 32 (v &&& 0x3FFF07))

end Sys2Proof.Machine
end

