-- ==== Sys2Proof/Machine/Lpm.lean ====
section
/-! DEFINITION. Route tables (spec 07, R176 to R187): descriptors, near and far buckets, length filters, maintenance. -/

namespace Sys2Proof.Machine

def lpmA (off : Nat) : Nat := regAddr 7 1 off
def lpmWinA : Nat := winA 7 1 0

/-- Codes under which the model keeps memories that no TABLE code reaches: near buckets, filter words, entries per table. -/
def nearCode : Nat := 0xF0
def filterCode : Nat := 0xF1
def lpmUseCode : Nat := 0xF2

/-- A route: family, length, VRF, prefix (32 or 128 bits, masked to the length). -/
structure Route where
  v6 : Bool
  len : Nat
  vrf : Nat
  pre : Nat
  deriving DecidableEq, Repr

/-- Address bits of a family. -/
def famBits (v6 : Bool) : Nat := if v6 then 128 else 32

/-- The first `len` bits of an address, the rest 0. -/
def maskTo (w len a : Nat) : Nat := a / 2 ^ (w - len) * 2 ^ (w - len)

def routeKey (v6 : Bool) (vrf addr len : Nat) : Route := ⟨v6, len, vrf, maskTo (famBits v6) len addr⟩

/-- Descriptor of a family and length (R176). -/
def lpmIndex (v6 : Bool) (len : Nat) : Nat := if v6 then 128 + len else len
def lpmValidIndex (i : Nat) : Bool := (1 ≤ i && i ≤ 32) || (129 ≤ i && i ≤ 256)
def State.lpmDesc (s : State) (i : Nat) : Nat := s.tabN 7 1 0x10 i
def Route.index (k : Route) : Nat := lpmIndex k.v6 k.len

/-- The key bytes of R177. -/
def Route.keyBytes (k : Route) : List Byte :=
  beBytes 2 k.vrf ++
    (if !k.v6 then beBytes 4 k.pre else if k.len ≤ 64 then beBytes 8 (k.pre / 2 ^ 64) else beBytes 16 k.pre)

/-- h0 to h3. -/
def Route.hash (k : Route) (n : Nat) : Nat := crc32 (waySeed n) k.keyBytes

/-- The value of `n` scaled by a hash: (h × n) >> 32. -/
def scaled (h n : Nat) : Nat := h * n / 2 ^ 32

/-! ## Buckets (R177, R178) -/

/-- Slot bits, slots and prefix bits of a bucket, by family and length. -/
def slotBits (v6 : Bool) (len : Nat) : Nat := if !v6 then 73 else if len ≤ 64 then 102 else 168
def slotCount (v6 : Bool) (len : Nat) : Nat := if !v6 then 7 else if len ≤ 64 then 5 else 3
def slotPreBits (v6 : Bool) (len : Nat) : Nat := if !v6 then 32 else if len ≤ 64 then 64 else 128

/-- A near or far bucket as one number. -/
def State.farBase (s : State) : Nat := s.rd64 (regAddr 7 7 R.TBL_FAR_BASE_LO)
def State.bucket (s : State) (far : Bool) (b : Nat) : Nat :=
  if far then s.hbmLe (s.farBase + 64 * b) 64 else s.tabN 7 1 nearCode b
def State.setBucket (s : State) (far : Bool) (b v : Nat) : State :=
  if far then s.hbmStore (s.farBase + 64 * b) (leBytes 64 v) else s.setTabN 7 1 nearCode b v

/-- Buckets of a key: two near, one far. -/
def State.nearBuckets (s : State) (k : Route) : List Nat :=
  let d := s.lpmDesc k.index
  let half := natField d 64 20 / 2
  [natField d 32 20 + scaled (k.hash 0) half, natField d 32 20 + half + scaled (k.hash 1) half]

def State.farBucket (s : State) (k : Route) : Nat :=
  let d := s.lpmDesc k.index
  natField d 160 26 + scaled (k.hash 0) (natField d 192 26)

def State.routeBuckets (s : State) (far : Bool) (k : Route) : List Nat := if far then [s.farBucket k] else s.nearBuckets k

/-- A slot's place: bucket × 8 + slot. -/
def State.slot (s : State) (far v6 : Bool) (len p : Nat) : Nat :=
  natField (s.bucket far (p / 8)) (p % 8 * slotBits v6 len) (slotBits v6 len)

def State.setSlot (s : State) (far v6 : Bool) (len p v : Nat) : State :=
  s.setBucket far (p / 8) (natSetField (s.bucket far (p / 8)) (p % 8 * slotBits v6 len) (slotBits v6 len) v)

/-- A slot's fields from bit 0: VMASK 2, KIND 2, INDEX 20, VRF 14, prefix. -/
def slotOf_ (k : Route) (vmask kind index : Nat) : Nat :=
  let pre := if k.v6 && decide (k.len ≤ 64) then k.pre / 2 ^ 64 else k.pre
  vmask % 4 + kind % 4 * 4 + index % 2 ^ 20 * 2 ^ 4 + k.vrf % 2 ^ 14 * 2 ^ 24 + pre * 2 ^ 38

def slotVmask (e : Nat) : Nat := e % 4
def slotKind (e : Nat) : Nat := natField e 2 2
def slotIndex (e : Nat) : Nat := natField e 4 20

/-- The route a slot holds. -/
def slotRoute (v6 : Bool) (len e : Nat) : Route :=
  let pre := natField e 38 (slotPreBits v6 len)
  ⟨v6, len, natField e 24 14, if v6 && decide (len ≤ 64) then pre * 2 ^ 64 else pre⟩

def slotPlaces (v6 : Bool) (len b : Nat) : List Nat := (List.range (slotCount v6 len)).map (fun j => b * 8 + j)

/-- The route has a table: length 1 to 32 or 1 to 128. -/
def Route.valid (k : Route) : Bool := decide (1 ≤ k.len) && decide (k.len ≤ famBits k.v6)

/-- The part of the route's table is enabled. -/
def State.partOn (s : State) (far : Bool) (k : Route) : Bool :=
  k.valid && natBit (s.lpmDesc k.index) (if far then 1 else 0)

/-- Places of a part that hold a key with a VMASK bit in common; a part that is not enabled holds none. -/
def State.routeFind (s : State) (far : Bool) (k : Route) (vmask : Nat) : List Nat :=
  if !s.partOn far k then []
  else ((s.routeBuckets far k).flatMap (slotPlaces k.v6 k.len)).filter (fun p =>
    let e := s.slot far k.v6 k.len p
    slotRoute k.v6 k.len e == k && (slotVmask e &&& vmask) != 0)

/-! ## Length filters (R180) -/

def State.filterWord (s : State) (k : Route) : Nat :=
  let d := s.lpmDesc k.index
  natField d 96 21 + scaled (k.hash 2) (natField d 128 21)

/-- The three bits of a key. -/
def filterBits (h : Nat) : Nat := 2 ^ natField h 0 6 ||| 2 ^ natField h 6 6 ||| 2 ^ natField h 12 6

def State.filterHas (s : State) (k : Route) : Bool :=
  (s.tabN 7 1 filterCode (s.filterWord k) &&& filterBits (k.hash 3)) == filterBits (k.hash 3)

def State.filterSet (s : State) (k : Route) : State :=
  s.setTabN 7 1 filterCode (s.filterWord k) (s.tabN 7 1 filterCode (s.filterWord k) ||| filterBits (k.hash 3))

/-! ## Entries in use -/

/-- Near and far entries of a table. -/
def State.lpmUse (s : State) (far : Bool) (i : Nat) : Nat := natField (s.tabN 7 1 lpmUseCode i) (if far then 32 else 0) 32

/-- The counts of a table and the device follow an entry added or removed. -/
def State.lpmCount (s : State) (far : Bool) (i : Nat) (up : Bool) : State :=
  let lo := if far then 32 else 0
  let a := if far then regAddr 7 7 R.TBL_FAR_ENTRIES else lpmA R.TBL_LPM_ENTRIES
  let n := s.lpmUse far i
  let t := (s.rd a).toNat
  (s.setTabN 7 1 lpmUseCode i (natSetField (s.tabN 7 1 lpmUseCode i) lo 32 (if up then n + 1 else n - 1))).wr a
    (BitVec.ofNat 32 (if up then t + 1 else t - 1))

/-- The guaranteed load of a near table, in percent (R184). -/
def lpmLoad (v6 : Bool) (len : Nat) : Nat := if !v6 then 90 else if len ≤ 64 then 84 else 75

/-! ## Maintenance (R184, R185) -/

def State.lpmRefuse (s : State) (reason : Nat) : Nat × State := (4, s.setFld (lpmA R.TBL_LPM_STAT) 0 3 reason)

/-- What WIN_DATA names: the route, its PART, and the prefix as given. -/
def State.lpmArgs (s : State) : Route × Bool × Nat :=
  let w := s.winWord lpmWinA 0
  let v6 := natBit w 22
  let p4 := s.winWord lpmWinA 4
  let pre := if v6 then ((p4 * 2 ^ 32 + s.winWord lpmWinA 5) * 2 ^ 32 + s.winWord lpmWinA 6) * 2 ^ 32 + s.winWord lpmWinA 7 else p4
  (routeKey v6 (natField w 0 14) pre (natField w 14 8), natBit w 23, pre)

/-- The entry in its place, its counts, and for a near entry the filter and the load level. -/
def State.lpmPlace (s : State) (far : Bool) (k : Route) (p e : Nat) : State :=
  let n := natField (s.lpmDesc k.index) 64 20 * slotCount k.v6 k.len * lpmLoad k.v6 k.len
  let before := s.lpmUse far k.index
  let s := (s.setSlot far k.v6 k.len p e).lpmCount far k.index true
  if far then s
  else (s.filterSet k).raiseIf (decide (before * 100 ≤ n) && decide (n < s.lpmUse far k.index * 100)) 7 1 4

/-- A near entry moves to its other bucket: the new slot first, then the old one free. -/
def State.lpmMove (s : State) (k : Route) (p : Nat × Nat) : State :=
  (s.setSlot false k.v6 k.len p.2 (s.slot false k.v6 k.len p.1)).setSlot false k.v6 k.len p.1 0

def State.lpmInsert (s : State) : Nat × State :=
  let a := s.lpmArgs
  let k := a.1
  let far := a.2.1
  let m := s.winVmask lpmWinA
  let e := slotOf_ k m (natField (s.winWord lpmWinA 1) 0 2) (natField (s.winWord lpmWinA 1) 2 20)
  let free (b : Nat) : Option Nat := (slotPlaces k.v6 k.len b).find? (fun p => slotVmask (s.slot far k.v6 k.len p) == 0)
  if s.verLocked &&& m ≠ 0 then s.verProtect lpmWinA
  else if s.routeFind false k m != [] || s.routeFind true k m != [] then (s.raise 7 1 1).lpmRefuse 1
  else if !k.valid && k.len != 0 && decide (famBits k.v6 < k.len) then s.lpmRefuse 5
  else if k.pre ≠ a.2.2 then s.lpmRefuse 4
  else if !s.partOn far k then s.lpmRefuse 5
  else
    match (s.routeBuckets far k).findSome? free with
    | some p =>
      if far && decide (67108864 ≤ s.fld (regAddr 7 7 R.TBL_FAR_ENTRIES) 0 27) then (s.raise 7 7 0).lpmRefuse 2
      else (0, s.lpmPlace far k p e)
    | none =>
      if far then (s.raise 7 7 0).lpmRefuse 2
      else
        let alts (p : Nat) : List Nat :=
          (s.nearBuckets (slotRoute k.v6 k.len (s.slot false k.v6 k.len p))).filter (fun b => b != p / 8)
        match shortestPath (slotPlaces k.v6 k.len) free alts (s.nearBuckets k) 8 with
        | some ((p, q) :: rest) => (0, (((p, q) :: rest).reverse.foldl (fun s x => s.lpmMove k x) s).lpmPlace false k p e)
        | _ => (s.raise 7 1 0).lpmRefuse 2

def State.lpmDelete (s : State) : Nat × State :=
  let a := s.lpmArgs
  let k := a.1
  let far := a.2.1
  let m := s.winVmask lpmWinA
  if s.verLocked &&& m ≠ 0 then s.verProtect lpmWinA
  else
    match s.routeFind far k m with
    | [] => s.lpmRefuse 3
    | l => (0, l.foldl (fun s p =>
        let e := s.slot far k.v6 k.len p
        let v := slotVmask e &&& (3 - m)
        if v = 0 then (s.setSlot far k.v6 k.len p 0).lpmCount far k.index false
        else s.setSlot far k.v6 k.len p (natSetField e 0 2 v)) s)

/-- SEARCH: the entry in words 0 and 1 with its PART, its VMASK in word 2 (assumption 10). -/
def State.lpmSearch (s : State) : Nat × State :=
  let k := s.lpmArgs.1
  let m := s.winVmask lpmWinA
  let near := s.routeFind false k m
  let far := s.routeFind true k m
  let answer (f : Bool) (p : Nat) : Nat × State :=
    let e := s.slot f k.v6 k.len p
    (0, (((s.setWinWord lpmWinA 0 (natSetField (s.winWord lpmWinA 0) 23 1 (if f then 1 else 0))).setWinWord lpmWinA 1
      (slotKind e + slotIndex e * 4)).setWinWord lpmWinA 2 (slotVmask e)))
  match near, far with
  | p :: _, _ => answer false p
  | [], p :: _ => answer true p
  | [], [] => s.lpmRefuse 3

def State.lpmUpdate (s : State) : Nat × State :=
  let a := s.lpmArgs
  let k := a.1
  let far := a.2.1
  let m := s.winVmask lpmWinA
  if s.verLocked &&& m ≠ 0 then s.verProtect lpmWinA
  else
    match s.routeFind far k m with
    | [] => s.lpmRefuse 3
    | l =>
      if l.any (fun p => (s.verLocked &&& slotVmask (s.slot far k.v6 k.len p)) != 0) then s.verProtect lpmWinA
      else (0, l.foldl (fun s p => s.setSlot far k.v6 k.len p
        (slotOf_ k (slotVmask (s.slot far k.v6 k.len p)) (natField (s.winWord lpmWinA 1) 0 2) (natField (s.winWord lpmWinA 1) 2 20))) s)

/-! ## Rebuilding a filter (R186) -/

def State.lpmRebuild (s : State) : Nat × State :=
  let i := s.winIndex lpmWinA
  if !lpmValidIndex i then (1, s)
  else if s.fwd.rebuild.isSome then s.lpmRefuse 6
  else (0, (({ s with fwd := { s.fwd with rebuild := some i } } : State).setFld (lpmA R.TBL_LPM_STAT) 3 10 (1 + 2 * i)))

/-- Words of a filter become 0. -/
def State.filterZero (s : State) (base words : Nat) : State :=
  ((s.tabListed 7 1 filterCode).filter (fun p => decide (base ≤ p.1) && decide (p.1 < base + words))).foldl
    (fun s p => s.setTabN 7 1 filterCode p.1 0) s

/-- The keys of every entry in a table's near part. -/
def State.nearRoutes (s : State) (v6 : Bool) (len : Nat) : List Route :=
  let d := s.lpmDesc (lpmIndex v6 len)
  ((s.tabListed 7 1 nearCode).filter (fun p => decide (natField d 32 20 ≤ p.1) &&
      decide (p.1 < natField d 32 20 + natField d 64 20))).flatMap (fun p =>
    ((slotPlaces v6 len p.1).map (s.slot false v6 len)).filterMap (fun e =>
      if slotVmask e = 0 then none else some (slotRoute v6 len e)))

/-- REBUILD_DONE: the fresh filter holds the keys of the near part, whatever their VMASK; LF_EN is set. -/
def execRebuildDone (s : State) : Host.Outcome State Fault Refusal :=
  match s.fwd.rebuild with
  | some i =>
    let v6 := decide (128 < i)
    let len := if v6 then i - 128 else i
    let d := s.lpmDesc i
    let routes := s.nearRoutes v6 len
    let s := routes.foldl State.filterSet (s.filterZero (natField d 96 21) (natField d 128 21))
    let s := s.setTabN 7 1 0x10 i (natSetField d 2 1 1)
    .next ((({ s with fwd := { s.fwd with rebuild := none } } : State).setFld (lpmA R.TBL_LPM_STAT) 3 1 0).raise 7 1 3)
  | none => .next s

/-! ## Descriptors (R176) -/

/-- Tiles of a function. -/
def State.tilesOf (s : State) (fn : Nat) : Nat :=
  ((List.range 96).filter (fun n => s.fld (regAddr 7 0 (R.TBL_TILE_FN + 4 * n)) 0 3 == fn)).length

/-- Parts and filter lie inside their group or area. -/
def State.descFits (s : State) (d : Nat) : Bool :=
  (!natBit d 0 || decide (natField d 32 20 + natField d 64 20 ≤ s.tilesOf 1 * 16384)) &&
  decide (natField d 96 21 + natField d 128 21 ≤ s.tilesOf 2 * 131072) &&
  (!natBit d 1 || decide (natField d 160 26 + natField d 192 26 ≤ 67108864))

/-- A descriptor write that R176 lets pass. -/
def State.descOk (s : State) (i d : Nat) : Bool :=
  let old := s.lpmDesc i
  s.descFits d && (!natBit d 2 || natBit old 2) &&
  ((s.lpmUse false i == 0 && s.lpmUse true i == 0) || d == old || d == natSetField old 2 1 0)

/-- The bits of a descriptor that are fields (R176). -/
def descMask : Nat :=
  7 + 0xFFFFF * 2 ^ 32 + 0xFFFFF * 2 ^ 64 + 0x1FFFFF * 2 ^ 96 + 0x1FFFFF * 2 ^ 128 + 0x3FFFFFF * 2 ^ 160 + 0x3FFFFFF * 2 ^ 192

/-- TABLE 0x10: descriptors. TABLE 0x11: length bitmaps, 40 bytes a VRF (R179). -/
def descTable : WinTable :=
  { maskedTable 7 1 0x10 32 257 descMask State.descOk with
    count := fun s => if lpmValidIndex (s.winIndex lpmWinA) then 257 else 0 }

def bitmapTable : WinTable := plainTable 7 1 0x11 40 16384 (fun _ _ _ => true)

/-- A command of R184: routes are in TABLE 0x12 (an entry takes WIN_DATA words 0 to 7), REBUILD acts on TABLE 0x10. -/
def State.lpmCmd (s : State) (v table : Nat) (run : State → Nat × State) : State :=
  s.winCmd lpmWinA v (if natField v 4 8 = 0x10 then 32 else if natField v 4 8 = 0x11 then 40 else if natField v 4 8 = 0x12 then 32 else 0) (fun s =>
    if natField v 4 8 = table then run s
    else if 0x10 ≤ natField v 4 8 ∧ natField v 4 8 ≤ 0x12 then (3, s) else (2, s))

/-- LPM_INSERT. -/
def execLpmInsert (m : Master) (v : Word) (s : State) : Host.Outcome State Fault Refusal :=
  .next (s.asWrite m lpmWinA (fun s => s.lpmCmd (withCmd v 8) 0x12 State.lpmInsert))

/-- LPM_DELETE. -/
def execLpmDelete (m : Master) (v : Word) (s : State) : Host.Outcome State Fault Refusal :=
  .next (s.asWrite m lpmWinA (fun s => s.lpmCmd (withCmd v 9) 0x12 State.lpmDelete))

/-- LPM_SEARCH. -/
def execLpmSearch (m : Master) (v : Word) (s : State) : Host.Outcome State Fault Refusal :=
  .next (s.asWrite m lpmWinA (fun s => s.lpmCmd (withCmd v 10) 0x12 State.lpmSearch))

/-- LPM_UPDATE. -/
def execLpmUpdate (m : Master) (v : Word) (s : State) : Host.Outcome State Fault Refusal :=
  .next (s.asWrite m lpmWinA (fun s => s.lpmCmd (withCmd v 11) 0x12 State.lpmUpdate))

/-- REBUILD. -/
def execRebuild (m : Master) (v : Word) (s : State) : Host.Outcome State Fault Refusal :=
  .next (s.asWrite m lpmWinA (fun s => s.lpmCmd (withCmd v 12) 0x10 State.lpmRebuild))

/-! ## The search (R181) -/

/-- A probe of a part: the entry that matches in a version. -/
def State.probe (s : State) (far : Bool) (k : Route) (odd : Bool) : Option Nat :=
  (s.routeFind far k (verBit odd)).head?.map (s.slot far k.v6 k.len)

/-- Length bitmaps of a VRF: near and far, by family. -/
def State.lenBit (s : State) (vrf : Nat) (v6 far : Bool) (len : Nat) : Bool :=
  natBit (s.tabN 7 1 0x11 vrf) ((if far then (if v6 then 192 else 160) else (if v6 then 32 else 0)) + (len - 1))

/-- The candidates of a lookup, longest first, near before far at equal length. -/
def State.candidates (s : State) (v6 : Bool) (vrf addr : Nat) (farEn : Bool) : List Cand :=
  ((List.range (famBits v6)).map (fun j => famBits v6 - j)).flatMap (fun len =>
    let k := routeKey v6 vrf addr len
    let d := s.lpmDesc k.index
    (if s.lenBit vrf v6 false len && natBit d 0 && (!natBit d 2 || s.filterHas k) then [⟨len, false⟩] else []) ++
    (if farEn && s.lenBit vrf v6 true len && natBit d 1 then [⟨len, true⟩] else []))

end Sys2Proof.Machine
end

