-- ==== Sys2Proof/Machine/Parse.lean ====
section
/-! DEFINITION. The parse engines (spec 06, R139 to R156, R162): dispatch, the fifteen instructions, the exception path and what
the pipeline does at DONE. -/

namespace Sys2Proof.Machine

def State.pipe (s : State) (i : Nat) : PipeSt := spGet (fun _ => PipeSt.reset) s.pipes i
def State.setPipe (s : State) (i : Nat) (x : PipeSt) : State :=
  { s with pipes := spPut (fun _ => PipeSt.reset) s.pipes i x }

/-- Region of ingress pipeline `i` (R15) and an entry of one of its window-0 tables. -/
def pipeRegion (i : Nat) : Nat := 3 + i / 4
def State.ipTab (s : State) (i table index : Nat) : Nat := s.tabN (pipeRegion i) (i % 4) table index

def State.engine (s : State) (i e : Nat) : Engine := spGet (fun _ => Engine.idle) (s.pipe i).engines e
def State.setEngine (s : State) (i e : Nat) (x : Engine) : State :=
  let p := s.pipe i
  s.setPipe i { p with engines := spPut (fun _ => Engine.idle) p.engines e x }

/-! ## Header vector (R150) -/

def hvByte (k : Pkt) (j : Nat) : Nat := (k.hv.getD j 0).toNat
def hvSet (k : Pkt) (j v : Nat) : Pkt := { k with hv := k.hv.set j (BitVec.ofNat 8 v) }
def hvPut (k : Pkt) (j : Nat) (l : List Byte) : Pkt := (l.zipIdx).foldl (fun k p => hvSet k (j + p.2) p.1.toNat) k
/-- A big-endian field of the header vector. -/
def hvField (k : Pkt) (j n : Nat) : Nat := beNat ((List.range n).map (fun i => k.hv.getD (j + i) 0))

/-- FLAGS, bytes 20 and 21 (R152). -/
def hvFlags (k : Pkt) : Nat := hvField k 20 2
def hvSetFlags (k : Pkt) (f : Nat) : Pkt := hvPut k 20 (beBytes 2 f)
def hvOrFlags (k : Pkt) (f : Nat) : Pkt := hvSetFlags k (hvFlags k ||| f)
def hvFlag (k : Pkt) (i : Nat) : Bool := natBit (hvFlags k) i

/-- Offset of layer `l` in the layer table; whether it is marked and inside the window (R151). -/
def hvLayerOfs (k : Pkt) (l : Nat) : Nat := hvByte k (40 + 2 * l)
def hvLayerType (k : Pkt) (l : Nat) : Nat := hvByte k (41 + 2 * l)
def hvLayerMarked (k : Pkt) (l : Nat) : Bool := hvLayerOfs k l != 0 || hvLayerType k l != 0

/-- The header vector as the pipeline writes it before the program starts: bytes 0 to 21. -/
def hvStart (k : Pkt) : Pkt :=
  let k := { k with hv := List.replicate 128 0 }
  let k := hvSet k 0 (k.port + (if k.odd then 128 else 0))
  let k := hvSet k 1 (k.kind + (if k.stamp.isSome then 4 else 0))
  let k := hvPut k 2 (beBytes 2 (k.bytes.length % 16384))
  let k := hvPut k 4 (beBytes 2 (k.slice % 4096))
  let k := hvPut k 6 (beBytes 2 k.qp)
  let k := match k.stamp with
    | some t => hvPut k 8 (beBytes 6 (tvSec t) ++ beBytes 4 (tvNs t) ++ beBytes 2 (tvFrac t / 65536))
    | none => k
  if k.cut then hvSetFlags k 8 else k

/-! ## Dispatch (R140, R144, R147) -/

/-- PARSE_DISPATCH: the oldest packet goes to the lowest-numbered free engine. -/
def execParseDispatch (i : Fin 16) (s : State) : Host.Outcome State Fault Refusal :=
  match (s.pipe i).fifo, (List.range 64).find? (fun e => !(s.engine i e).busy) with
  | k :: r, some e =>
    if s.rgnRuns (pipeRegion i) then
      let m := s.meetPkt k
      let k := m.1
      let s := m.2
      let bank := if k.ver then 1 else 0
      let entry := s.fld (A.ip i (R.PIPE_PARSE_ENTRY + 16 * bank + 4 * k.kind)) 0 11
      let x : Engine :=
        { Engine.idle with busy := true, pkt := hvStart k, pc := entry, g := [0, 0, 0, 0, 0, 0, 0, k.bytes.length] }
      let p := s.pipe i
      .next ((s.setPipe i { p with fifo := r, order := p.order ++ [.running e] }).setEngine i e x)
    else .next s
  | _, _ => .next s

/-! ## Window reads (R147) -/

/-- The byte at a window address, with the flags its read sets. -/
def winByte (k : Pkt) (a : Nat) : Nat × Nat :=
  let f := (if 255 < a then 2 else 0) ||| (if k.bytes.length ≤ a then 1 else 0)
  (if f = 0 then (k.bytes.getD a 0).toNat else 0, f)

/-- `n` window bytes from an address, and the flags their reads set. -/
def winBytes (k : Pkt) (a n : Nat) : List Byte × Nat :=
  let l := (List.range n).map (fun j => winByte k (a + j))
  (l.map (fun p => BitVec.ofNat 8 p.1), l.foldl (fun f p => f ||| p.2) 0)

/-! ## The exception path (R153) -/

/-- The meter: a packet passes while what has been spent leaves room for it; RATE 0 does not meter. -/
def State.excMeter (s : State) (i : Nat) : Bool × State :=
  let rate := s.fld (A.ip i R.PIPE_EXC_CTRL) 16 16
  if rate = 0 then (true, s)
  else
    let p := s.pipe i
    let spent := p.excSpent - rate * (s.time.ticks - p.excTick)
    let ok := decide (spent + 1400000 ≤ s.fld (A.ip i R.PIPE_EXC_BURST) 0 16 * 1400000)
    (ok, s.setPipe i { p with excSpent := if ok then spent + 1400000 else spent, excTick := s.time.ticks })

/-- The engine of a packet is free again; the packet leaves the dispatch order. -/
def State.engineLeaves (s : State) (i e : Nat) : State :=
  let p := s.pipe i
  (s.setPipe i { p with order := p.order.filter (fun o => o != .running e) }).setEngine i e Engine.idle

/-- Packets and instructions parsed, and the highest instruction count. -/
def State.parseCounts (s : State) (i n : Nat) : State :=
  let s := s.bump64 (A.ip i R.PIPE_PARSE_PKTS)
  if s.fld (A.ip i R.PIPE_PARSE_MAXI) 0 7 < n ∧ s.ctl.snapFrozen = false then s.setFld (A.ip i R.PIPE_PARSE_MAXI) 0 7 n else s

/-- A packet takes the exception path with a reason. -/
def State.takeExc (s : State) (i e reason : Nat) : State :=
  let x := s.engine i e
  let k := hvOrFlags x.pkt 4
  let k := hvPut k 24 (List.replicate 16 0)
  let k := hvSet (hvSet k 25 reason) 26 x.count
  let k := { k with exc := some reason, seq := i, dest := .processor (s.fld (A.ip i R.PIPE_EXC_CTRL) 0 16) }
  let s := (s.engineLeaves i e).parseCounts i x.count
  let s := (s.bump (A.ip i (R.PIPE_EXC_CNT + 4 * (if reason = 1 then 0 else if reason = 2 then 1 else 2)))).raise
    (pipeRegion i) (i % 4) 3
  let r := s.excMeter i
  if r.1 then
    let p := r.2.pipe i
    r.2.setPipe i { p with toBuf := p.toBuf ++ [k] }
  else ((r.2.bump (A.ip i (R.PIPE_EXC_CNT + 12))).raise (pipeRegion i) (i % 4) 1).inflSub k.odd

/-! ## Instructions (R141, R148) -/

/-- The packet of a busy engine that has become foreign during its parse is processed in the current version (R230). -/
def State.parseMeet (s : State) (i e : Nat) : State :=
  let x := s.engine i e
  if x.busy && s.foreign x.pkt then let m := s.meetPkt x.pkt; m.2.setEngine i e { x with pkt := m.1 } else s

/-- The instruction word at the engine's PC: bank 0 for an even packet, bank 1 for an odd one (R144). -/
def State.parseWord (s : State) (i e : Nat) : Nat :=
  let x := s.engine i e
  s.ipTab i 0x01 ((if x.pkt.ver then 2048 else 0) + x.pc) % 2 ^ 32

/-- One command of opcode `opc` on an engine: nothing on an idle engine or one that stands at another opcode; BUDGET where the
instruction would be the 97th; ILLEGAL on an opcode from 0x0F on, or where the instruction itself is illegal (`none`). An
instruction answers the engine after it, its PC set; it counts as executed. -/
def State.parseStep (s : State) (i e opc : Nat) (f : Nat → Engine → Option Engine) : State :=
  let s := s.parseMeet i e
  let x := s.engine i e
  let w := s.parseWord i e
  let op := natField w 27 5
  if !x.busy || !s.rgnRuns (pipeRegion i) then s
  else if 96 ≤ x.count then s.takeExc i e 1
  else if 0x0F ≤ op then s.takeExc i e 2
  else if op ≠ opc then s
  else
    match f w { x with pc := (x.pc + 1) % 2048 } with
    | some y => (s.setEngine i e { y with count := x.count + 1 }).bump64 (A.ip i R.PIPE_PARSE_INSTR)
    | none => s.takeExc i e 2

def Engine.reg (x : Engine) (r : Nat) : Nat := x.g.getD r 0
def Engine.setReg (x : Engine) (r v : Nat) : Engine := { x with g := x.g.set r (v % 2 ^ 32) }

/-- Reserved bits of a field must be 0. -/
def zeroField (w lo n : Nat) : Bool := natField w lo n == 0

def parseNopF (w : Nat) (x : Engine) : Option Engine := if zeroField w 0 27 then some x else none

/-- EXT: big-endian 4 bytes at cursor + OFS, shifted right, masked to WM1 + 1 bits. -/
def parseExtF (w : Nat) (x : Engine) : Option Engine :=
  if zeroField w 0 6 then
    let r := winBytes x.pkt (x.cursor + natField w 16 8) 4
    some (({ x with pkt := hvOrFlags x.pkt r.2 } : Engine).setReg (natField w 24 3)
      (beNat r.1 / 2 ^ natField w 11 5 % 2 ^ (natField w 6 5 + 1)))
  else none

/-- Header-vector bytes a program may write. -/
def hvWritable (ofs n : Nat) : Bool := 56 ≤ ofs && ofs + n ≤ 128

/-- HVX: copy LM1 + 1 bytes from cursor + OFS. -/
def parseHvxF (w : Nat) (x : Engine) : Option Engine :=
  let n := natField w 8 4 + 1
  let ofs := natField w 20 7
  if zeroField w 0 8 && hvWritable ofs n then
    let r := winBytes x.pkt (x.cursor + natField w 12 8) n
    some { x with pkt := hvPut (hvOrFlags x.pkt r.2) ofs r.1 }
  else none

/-- HVR: write the low LM1 + 1 bytes of RS, most significant first. -/
def parseHvrF (w : Nat) (x : Engine) : Option Engine :=
  let n := natField w 15 2 + 1
  let ofs := natField w 20 7
  if zeroField w 0 15 && hvWritable ofs n then
    some { x with pkt := hvPut x.pkt ofs (beBytes n (x.reg (natField w 17 3))) }
  else none

/-- LDI: RD = IMM, or RD[31:16] = IMM with the low half kept. -/
def parseLdiF (w : Nat) (x : Engine) : Option Engine :=
  let rd := natField w 24 3
  let imm := natField w 0 16
  if zeroField w 16 7 then
    some (x.setReg rd (if natBit w 23 then imm * 65536 + x.reg rd % 65536 else imm))
  else none

def aluOp (op a b : Nat) : Nat :=
  match op with
  | 0 => a + b
  | 1 => a + (2 ^ 32 - b)
  | 2 => a &&& b
  | 3 => a ||| b
  | 4 => a ^^^ b
  | 5 => a * 2 ^ (b % 32)
  | 6 => a / 2 ^ (b % 32)
  | _ => b

/-- ALU: RD = RS op (I ? IMM : RT), modulo 2^32. -/
def parseAluF (w : Nat) (x : Engine) : Option Engine :=
  if natBit w 17 && !zeroField w 14 3 then none
  else
    let b := if natBit w 17 then natField w 0 14 else x.reg (natField w 14 3)
    some (x.setReg (natField w 24 3) (aluOp (natField w 18 3) (x.reg (natField w 21 3)) b))

/-- CMP: EQ and LT, unsigned. -/
def parseCmpF (w : Nat) (x : Engine) : Option Engine :=
  if zeroField w 16 4 && (natBit w 20 || zeroField w 0 16) then
    let a := x.reg (natField w 24 3)
    let b := if natBit w 20 then natField w 0 16 else x.reg (natField w 21 3)
    some { x with eq := a == b, lt := decide (a < b) }
  else none

/-- Conditions of BR. -/
def brTaken (cond : Nat) (eq lt : Bool) : Bool :=
  match cond with
  | 0 => true | 1 => eq | 2 => !eq | 3 => lt | 4 => !lt | 5 => lt || eq | _ => !(lt || eq)

/-- BR: COND 7 is illegal. -/
def parseBrF (w : Nat) (x : Engine) : Option Engine :=
  let cond := natField w 24 3
  if cond = 7 ∨ zeroField w 11 13 = false then none
  else some (if brTaken cond x.eq x.lt then { x with pc := natField w 0 11 } else x)

/-- Cursor arithmetic saturates at 1,023. -/
def cursorAdd (c n : Nat) : Nat := min (c + n) 1023

/-- The valid state-table entry with the lowest index that SWT's STATE and value select (R149). -/
def State.swtFind (s : State) (i : Nat) (odd : Bool) (st val : Nat) : Option Nat :=
  ((List.range 512).map (fun n => s.ipTab i 0x02 ((if odd then 512 else 0) + n))).find?
    (fun t => natBit t 63 && natField t 55 8 == st && (val &&& natField t 23 16) == natField t 39 16)

/-- SWT: advance by the entry's ADV and continue at its TARGET, or at DEFAULT with the cursor kept. -/
def parseSwtF (s : State) (i : Nat) (w : Nat) (x : Engine) : Option Engine :=
  if zeroField w 11 5 then
    some (match s.swtFind i x.pkt.ver (natField w 16 8) (x.reg (natField w 24 3) % 65536) with
      | some t => { x with cursor := cursorAdd x.cursor (natField t 4 8), pc := natField t 12 11 }
      | none => { x with pc := natField w 0 11 })
  else none

/-- ADV: cursor += IMM + (REG ? RS × 2^SCALE : 0). -/
def parseAdvF (w : Nat) (x : Engine) : Option Engine :=
  if zeroField w 8 13 then
    let n := natField w 0 8 + (if natBit w 23 then x.reg (natField w 24 3) * 2 ^ natField w 21 2 else 0)
    some { x with cursor := cursorAdd x.cursor n }
  else none

/-- MARK: record the cursor and TYPE for LAYER; a layer already marked is illegal; beyond the window 0xFF is recorded (R151). -/
def parseMarkF (w : Nat) (x : Engine) : Option Engine :=
  let l := natField w 24 3
  if zeroField w 8 16 && !natBit x.marked l then
    let k := if 255 < x.cursor then hvOrFlags x.pkt 2 else x.pkt
    some { x with marked := x.marked ||| 2 ^ l
                  pkt := hvSet (hvSet k (40 + 2 * l) (min x.cursor 255)) (41 + 2 * l) (natField w 0 8) }
  else none

/-- FLAG: set or clear flags 15:4 where MASK is 1. -/
def parseFlagF (w : Nat) (x : Engine) : Option Engine :=
  if zeroField w 16 10 && zeroField w 0 4 then
    let m := natField w 4 12 * 16
    let f := hvFlags x.pkt
    some { x with pkt := hvSetFlags x.pkt (if natBit w 26 then f &&& (65535 - m) else f ||| m) }
  else none

/-- HSEL: select a hash profile for HASH0 or HASH1. -/
def parseHselF (w : Nat) (x : Engine) : Option Engine :=
  if zeroField w 6 20 then
    some (if natBit w 26 then { x with hsel1 := some (natField w 0 6) } else { x with hsel0 := some (natField w 0 6) })
  else none

/-- NOP. -/
def execParseNop (i : Fin 16) (e : Fin 64) (s : State) : Host.Outcome State Fault Refusal := .next (s.parseStep i e 0x00 parseNopF)
/-- EXT. -/
def execParseExt (i : Fin 16) (e : Fin 64) (s : State) : Host.Outcome State Fault Refusal := .next (s.parseStep i e 0x01 parseExtF)
/-- HVX. -/
def execParseHvx (i : Fin 16) (e : Fin 64) (s : State) : Host.Outcome State Fault Refusal := .next (s.parseStep i e 0x02 parseHvxF)
/-- HVR. -/
def execParseHvr (i : Fin 16) (e : Fin 64) (s : State) : Host.Outcome State Fault Refusal := .next (s.parseStep i e 0x03 parseHvrF)
/-- LDI. -/
def execParseLdi (i : Fin 16) (e : Fin 64) (s : State) : Host.Outcome State Fault Refusal := .next (s.parseStep i e 0x04 parseLdiF)
/-- ALU. -/
def execParseAlu (i : Fin 16) (e : Fin 64) (s : State) : Host.Outcome State Fault Refusal := .next (s.parseStep i e 0x05 parseAluF)
/-- CMP. -/
def execParseCmp (i : Fin 16) (e : Fin 64) (s : State) : Host.Outcome State Fault Refusal := .next (s.parseStep i e 0x06 parseCmpF)
/-- BR. -/
def execParseBr (i : Fin 16) (e : Fin 64) (s : State) : Host.Outcome State Fault Refusal := .next (s.parseStep i e 0x07 parseBrF)
/-- SWT. -/
def execParseSwt (i : Fin 16) (e : Fin 64) (s : State) : Host.Outcome State Fault Refusal :=
  .next (s.parseStep i e 0x08 (parseSwtF s i))
/-- ADV. -/
def execParseAdv (i : Fin 16) (e : Fin 64) (s : State) : Host.Outcome State Fault Refusal := .next (s.parseStep i e 0x09 parseAdvF)
/-- MARK. -/
def execParseMark (i : Fin 16) (e : Fin 64) (s : State) : Host.Outcome State Fault Refusal := .next (s.parseStep i e 0x0A parseMarkF)
/-- FLAG. -/
def execParseFlag (i : Fin 16) (e : Fin 64) (s : State) : Host.Outcome State Fault Refusal := .next (s.parseStep i e 0x0B parseFlagF)
/-- HSEL. -/
def execParseHsel (i : Fin 16) (e : Fin 64) (s : State) : Host.Outcome State Fault Refusal := .next (s.parseStep i e 0x0C parseHselF)

/-- EXC: take the exception path with REASON; a reason below 0x10 is illegal. -/
def execParseExc (i : Fin 16) (e : Fin 64) (s : State) : Host.Outcome State Fault Refusal :=
  let s := s.parseMeet i e
  let w := s.parseWord i e
  let t := s.parseStep i e 0x0D (fun w x => if zeroField w 8 19 && decide (0x10 ≤ natField w 0 8) then some x else none)
  if (t.engine i e).busy ∧ (s.engine i e).count < (t.engine i e).count then .next (t.takeExc i e (natField w 0 8)) else .next t

/-! ## DONE (R154 to R156, R162) -/

/-- Byte `j` of a table entry read as a number. -/
def entByte (t j : Nat) : Nat := natField t (8 * j) 8

/-- Header-vector bytes that a mask selects, from byte `base` on, in ascending offset. -/
def hvSelect (k : Pkt) (base n mask : Nat) : List Byte :=
  ((List.range n).filter (fun i => natBit mask i)).map (fun i => k.hv.getD (base + i) 0)

/-- Input bytes of a hash profile (R155): PORT, then SLICE, then the selected field bytes. -/
def hashInput (k : Pkt) (prof : Nat) : List Byte :=
  (if natBit (entByte prof 9) 0 then [BitVec.ofNat 8 (hvByte k 0 % 128)] else []) ++
  (if natBit (entByte prof 9) 1 then [k.hv.getD 4 0, k.hv.getD 5 0] else []) ++
  hvSelect k 56 72 (natField prof 0 72)

/-- The hash a profile gives: CRC-32 from SEED, or Toeplitz with the 40-byte key. -/
def hashOf (k : Pkt) (prof : Nat) : Nat :=
  if natBit (entByte prof 9) 2 then
    toeplitz (beNat ((List.range 40).map (fun j => BitVec.ofNat 8 (entByte prof (16 + j))))) 320 (hashInput k prof)
  else crc32 (natField prof 96 32) (hashInput k prof)

/-- The value of HASH0 or HASH1: 0 without a selected profile; ALT for fragments where ALT_EN is set (R156). -/
def State.hashValue (s : State) (i : Nat) (k : Pkt) : Option Nat → Nat
  | none => 0
  | some n =>
    let prof := s.ipTab i 0x03 n
    let prof := if (hvFlag k 4 || hvFlag k 5) && natBit (entByte prof 10) 6 then s.ipTab i 0x03 (entByte prof 10 % 64) else prof
    hashOf k prof

/-- The byte that holds ECN and DSCP, of the header IP_LOC names. -/
def tosByte (k : Pkt) (ipLoc : Nat) : Nat :=
  let o := hvLayerOfs k (if ipLoc ≤ 2 then 2 else 6)
  let b0 := (k.bytes.getD o 0).toNat
  let b1 := (k.bytes.getD (o + 1) 0).toNat
  if ipLoc = 1 ∨ ipLoc = 3 then b1 else b0 % 16 * 16 + b1 / 16

/-- IP_LOC, ECT and COLOR from byte 48 of the CLASS profile (R162); `marked` has a bit for each layer the program marked. -/
def State.classFields (s : State) (i : Nat) (k : Pkt) (marked prof : Nat) : Pkt :=
  let b := entByte prof 48
  let loc := natField b 0 3
  let l := if loc ≤ 2 then 2 else 6
  let loc := if natBit marked l && hvLayerOfs k l != 0xFF then loc else 0
  if loc = 0 then { k with ipLoc := 0, ect := false, color := 0 }
  else
    let t := tosByte k loc
    let dscp := t / 4
    let c := s.fld (A.ip i (R.PIPE_COLOR_MAP + 4 * (dscp / 16))) (2 * (dscp % 16)) 2
    { k with ipLoc := loc, ect := t % 4 != 0, color := if natField b 3 2 = 1 then min c 2 else 0 }

/-- The end of a parse with classification CLASS. -/
def State.parseDone (s : State) (i e cls : Nat) : State :=
  let x := s.engine i e
  let k := if hvFlag x.pkt 1 then hvOrFlags x.pkt 64 else x.pkt
  let prof := s.ipTab i 0x04 cls
  let outer := hvFlag k 5 || hvFlag k 6
  let k := if outer then
      (List.range 72).foldl (fun k j => if natBit prof j then k else hvSet k (56 + j) 0) k
    else k
  let k := hvSet (hvSet (hvSet k 24 cls) 25 0) 26 x.count
  let k := hvPut k 28 (beBytes 4 (s.hashValue i k x.hsel0) ++ beBytes 4 (s.hashValue i k x.hsel1))
  let k := s.classFields i k x.marked prof
  let s := s.parseCounts i x.count
  let s := if hvFlag k 5 then s.bump (A.ip i R.PIPE_PARSE_FRAG) else s
  let s := if hvFlag k 6 then s.bump (A.ip i R.PIPE_PARSE_BEYOND) else s
  let p := s.pipe i
  (s.setPipe i { p with order := p.order.map (fun o => if o = .running e then .parsed k else o) }).setEngine i e Engine.idle

/-- DONE: end the parse with classification CLASS. -/
def execParseDone (i : Fin 16) (e : Fin 64) (s : State) : Host.Outcome State Fault Refusal :=
  let s := s.parseMeet i e
  let w := s.parseWord i e
  let t := s.parseStep i e 0x0E (fun w x => if zeroField w 8 19 then some x else none)
  if (t.engine i e).busy ∧ (s.engine i e).count < (t.engine i e).count then .next (t.parseDone i e (natField w 0 8)) else .next t

end Sys2Proof.Machine
end

