-- ==== Sys2Proof/Machine/Tables.lean ====
section
/-! DEFINITION. The remaining tables of the TBL and PIPE windows: direct-index tables, next hops, ECMP, rewrite, statistics, parse
programs and profiles, indirection (spec 06 and 07). -/

namespace Sys2Proof.Machine

/-- A direct-index table whose copies keep only the low `bits` bits. -/
def directTable (a region block table bytes count bits : Nat) (ok : Nat → Bool) : WinTable :=
  let t := copyTable a region block table bytes count ok
  { t with put := fun s i m v => if ok v then t.put s i m (v % 2 ^ bits) else t.put s i m v }

def dirWinA : Nat := winA 7 4 0
def nhWinA : Nat := winA 7 5 0

/-- An MPLS copy with a zero reserved field (R175). -/
def mplsOk (v : Nat) : Bool := natField v 22 2 == 0

/-- A VRF copy whose channel fits (R175). -/
def vrfOk (v : Nat) : Bool := !(natBit v 1 && decide (65535 < natField v 2 20))

/-- A table of block DIR: entry bytes, entries, bits of a copy, and the check of a copy. -/
structure DirSpec where
  bytes : Nat
  count : Nat
  bits : Nat
  ok : Nat → Bool

def dirSpec : Nat → Option DirSpec
  | 0x30 => some ⟨4, 1048576, 24, mplsOk⟩
  | 0x31 => some ⟨8, 128, 32, fun _ => true⟩
  | 0x32 => some ⟨8, 4096, 32, fun _ => true⟩
  | 0x33 => some ⟨8, 16384, 24, vrfOk⟩
  | 0x34 => some ⟨8, 4096, 18, fun _ => true⟩
  | _ => none

/-- Tables of block DIR (R174). -/
def dirTable (t : Nat) : Option WinTable :=
  (dirSpec t).map (fun d => directTable dirWinA 7 4 t d.bytes d.count d.bits d.ok)

/-- TABLE 0x20: next hops, with a VMASK per entry (R189). -/
def nhTable : WinTable where
  bytes := 8
  count := fun _ => 1048576
  get := fun s i _ => some (s.tabN 7 5 0x20 i)
  put := fun s i _ v =>
    if s.verLocked &&& (entVmask v ||| entVmask (s.tabN 7 5 0x20 i)) ≠ 0 then s.verProtect nhWinA
    else if 5 ≤ natField v 2 3 then (4, s)
    else (0, s.setTabN 7 5 0x20 i (v % 2 ^ 47))
  clear := fun s i _ =>
    if s.verLocked &&& entVmask (s.tabN 7 5 0x20 i) ≠ 0 then s.verProtect nhWinA
    else (0, s.setTabN 7 5 0x20 i 0)
  readClear := false

/-- An ECMP group copy whose range ends inside the members (R190). -/
def ecmpOk (v : Nat) : Bool := decide (natField v 1 21 + natField v 22 9 + 1 ≤ 1204224)

def nextHopTable : Nat → Option WinTable
  | 0x20 => some nhTable
  | 0x21 => some (directTable nhWinA 7 5 0x21 4 65536 31 ecmpOk)
  | 0x22 => some (maskedTable 7 5 0x22 4 1204224 0x8FFFFF (fun _ _ _ => true))
  | _ => none

/-- A rewrite entry with zero reserved fields (R192). -/
def rewriteOk (v : Nat) : Bool := natField v 100 12 == 0 && natField v 124 4 == 0

/-- A rewrite profile that R193 does not refuse. -/
def profileOk (v : Nat) : Bool :=
  decide (natField v 12 2 < 2) && natField v 3 5 == 0 && natField v 14 2 == 0 && natField v 41 7 == 0 && natField v 64 64 == 0

/-- An encapsulation entry whose fixed-up fields lie inside LEN (R194). -/
def encapOk (v : Nat) : Bool :=
  let len := natField v 448 8
  let ip := natField v 464 8
  let udp := natField v 472 8
  decide (len ≤ 56) && (!natBit v 456 || decide (ip + 12 ≤ len)) && (!natBit v 457 || decide (ip + 6 ≤ len)) &&
    (!natBit v 458 || decide (udp + 8 ≤ len))

def rwTable : Nat → Option WinTable
  | 0x24 => some (plainTable 7 8 0x24 16 1048576 (fun _ _ v => rewriteOk v))
  | 0x25 => some (maskedTable 7 8 0x25 64 4096 (2 ^ 480 - 1 - 0xF8 * 2 ^ 456) (fun _ _ v => encapOk v))
  | 0x26 => some (maskedTable 7 8 0x26 8 256 (2 ^ 48 - 1) (fun _ _ _ => true))
  | 0x27 => some (plainTable 7 8 0x27 16 256 (fun _ _ v => profileOk v))
  | _ => none

/-- TABLE 0x40: statistics pairs (R195). -/
def statTable : WinTable := { plainTable 7 6 0x40 16 2097152 (fun _ _ _ => true) with readClear := true }

/-- PROG and STATE entries: the banks of R146 are closed to writes; bits outside `mask` are reserved. -/
def progTable (i table bytes count perBank mask : Nat) : WinTable :=
  let r := pipeRegion i
  let b := i % 4
  let put (s : State) (n v : Nat) : Nat × State :=
    if s.verLocked &&& verBit (decide (perBank ≤ n)) ≠ 0 then
      let x := s.verProtect (winA r b 0); (x.1, x.2.raise r b 2)
    else (0, s.setTabN r b table n (v &&& mask))
  { plainTable r b table bytes count (fun _ _ _ => true) with
    put := fun s n _ v => put s n v
    clear := fun s n _ => put s n 0 }

/-- A hash profile that R155 does not refuse: Toeplitz selects at most 36 bytes. -/
def hashOk (v : Nat) : Bool :=
  !natBit v 74 || decide (popCount 72 (natField v 0 72) + natField v 72 1 + 2 * natField v 73 1 ≤ 36)

/-- A class profile that R161 and R162 do not refuse. -/
def classOk (s : State) (v : Nat) : Bool :=
  classFits s.emCfg v && decide (natField v 384 3 ≤ 4) && decide (natField v 387 2 ≤ 1)

/-- A forwarding profile that R171 does not refuse. -/
def forwardOk (v : Nat) : Bool :=
  let mode := natField v 0 3
  let dst := natField v 8 8
  let fits (o n : Nat) : Bool := decide (o + n ≤ 128)
  match mode with
  | 0 => true
  | 1 => fits dst 4
  | 2 => fits dst 16
  | 3 => fits dst 3
  | 4 => fits dst 6 && fits (natField v 16 8) 6
  | _ => false

/-- `n` ones from bit `lo` on. -/
def fieldMask (lo n : Nat) : Nat := (2 ^ n - 1) * 2 ^ lo

/-- The bits of a hash profile that are fields: FIELD_MASK, bytes 9 and 10, SEED and the key (R156). -/
def hashMask : Nat := fieldMask 0 75 + fieldMask 80 7 + fieldMask 96 352

/-- The bits of a class profile that are fields (R161). -/
def classMask : Nat := fieldMask 0 74 + fieldMask 80 6 + fieldMask 88 6 + fieldMask 128 256 + fieldMask 384 5

/-- The bits of a forwarding profile that are fields (R171). -/
def forwardMask : Nat := fieldMask 0 3 + fieldMask 8 16 + fieldMask 24 5 + fieldMask 32 24 + fieldMask 64 16

/-- Tables of window 0 of block IPn. -/
def ipTable (i : Nat) : Nat → Option WinTable
  | 0x01 => some (progTable i 0x01 4 4096 2048 (2 ^ 32 - 1))
  | 0x02 => some (progTable i 0x02 8 1024 512 (fieldMask 4 60))
  | 0x03 => some (maskedTable (pipeRegion i) (i % 4) 0x03 64 64 hashMask (fun _ _ v => hashOk v))
  | 0x04 => some (maskedTable (pipeRegion i) (i % 4) 0x04 64 256 classMask (fun s _ v => classOk s v))
  | 0x05 => some (maskedTable (pipeRegion i) (i % 4) 0x05 32 256 forwardMask (fun _ _ v => forwardOk v))
  | _ => none

/-- An indirection descriptor that R157 does not refuse. -/
def indDescOk (v : Nat) : Bool :=
  let size := 2 ^ natField v 18 4
  natField v 0 18 % size == 0 && decide (natField v 0 18 + size ≤ 262144) && decide (natField v 23 5 + natField v 18 4 ≤ 32)

/-- Tables of window 0 of block IND. -/
def indTable (r : Nat) : Nat → Option WinTable
  | 0x10 => some (maskedTable r 8 0x10 4 256 0x8FFFFFFF (fun _ _ v => indDescOk v))
  | 0x11 => some (plainTable r 8 0x11 4 262144 (fun _ _ _ => true))
  | _ => none

/-- A write of PIPE_PARSE_ENTRY b,s (R146). -/
def State.parseEntryWrite (s : State) (i bank kind v : Nat) : State :=
  let a := A.ip i (R.PIPE_PARSE_ENTRY + 16 * bank + 4 * kind)
  if s.verLocked &&& verBit (bank == 1) ≠ 0 then ((s.verProtect a).2).raise (pipeRegion i) (i % 4) 2
  else s.wr a (BitVec.ofNat 32 (v % 2048))

/-! ## Host-slice batches (R240 to R242) -/

/-- Entry `n` of SYS_VER_BATCH as one number of 128 bytes. -/
def State.batchEntry (s : State) (n : Nat) : Nat :=
  (List.range 32).foldl (fun v i => v + (s.rd (A.ver (R.SYS_VER_BATCH + 128 * n + 4 * i))).toNat * 2 ^ (32 * i)) 0

/-- The parts of a batch entry: window, CMD, TABLE, INDEX, data. -/
structure BatchArgs where
  win : Nat
  cmd : Nat
  table : Nat
  index : Nat
  data : Nat
  deriving DecidableEq, Repr

def batchArgs (e : Nat) : BatchArgs := ⟨natField e 0 26, natField e 28 4, natField e 32 8, natField e 64 40, e / 2 ^ 256⟩

/-- The checks of R241 on one entry. -/
def State.batchOk (s : State) (b : BatchArgs) : Bool :=
  let em := b.win == emWinA
  (em || b.win == dirWinA) && (b.cmd == 1 || b.cmd == 3 || b.cmd == 0xB) &&
  (!em || ((b.cmd == 3 || entVmask b.data == 3) &&
    (decide (64 ≤ b.table) || entVmask (s.emEntry b.table b.index) == 0 || entVmask (s.emEntry b.table b.index) == 3)))

def State.batchCount (s : State) : Nat := min (s.fld (A.ver R.SYS_VER_PAUSE) 16 5) 16

/-- PAUSE_APPLY: the checks; then the slice is held from t0 on. -/
def State.pauseApply (s : State) : State :=
  let a := A.ver R.SYS_VER_PAUSE_STAT
  if s.ver.batch.isSome then s.verRefused
  else
    match (List.range s.batchCount).find? (fun n => !s.batchOk (batchArgs (s.batchEntry n))) with
    | some n => s.wr a (BitVec.ofNat 32 (4 + 16 * n))
    | none =>
      let x := (s.wt, s.fld (A.ver R.SYS_VER_PAUSE) 0 12, s.batchCount)
      (({ s with ver := { s.ver with batch := some x } } : State).wr a 1).setRbit verStatA 3 true

/-- PAUSE_APPLY. -/
def execPauseApply (m : Master) (s : State) : Host.Outcome State Fault Refusal :=
  .next (s.asWrite m verCtrlA State.pauseApply)

/-- A packet that a host slice sent. -/
def Pkt.ofSlice (k : Pkt) (slice : Nat) : Bool := k.kind == 1 && k.slice == slice

/-- A packet of the slice remains ahead of the lookup stage of a pipeline. -/
def State.sliceAhead (s : State) (slice : Nat) : Bool :=
  (List.range 16).any (fun i =>
    let p := s.pipe i
    p.hostIn.any (·.ofSlice slice) || p.fifo.any (·.ofSlice slice) ||
    p.order.any (fun o => match o with | .parsed k => k.ofSlice slice | .running e => (s.engine i e).pkt.ofSlice slice))

/-- The window of a batch entry takes it: the table and the place exist, the table has the command, and its checks pass. -/
def State.batchTakes (s : State) (b : BatchArgs) : Bool :=
  if b.win = emWinA then
    decide (b.table < 64) && decide (b.index < emLocations (s.emCfg b.table)) && (b.cmd == 3 || decide (natField b.data 64 4 < 7))
  else
    match dirSpec b.table with
    | some d => decide (b.index < d.count) && (b.cmd == 3 || (b.cmd == 1 && d.ok (natField b.data 0 (8 * d.bytes))))
    | none => false

/-- One entry of a batch, in both versions and exempt from R232; one that its window would not take writes nothing (assumption 85). -/
def State.batchPut (s : State) (b : BatchArgs) : State :=
  if !s.batchTakes b then s
  else if b.win = emWinA then
    let d := natField b.data 0 (8 * emBytes (emSize (s.emCfg b.table)))
    match b.cmd with
    | 1 => s.emPut b.table b.index (emClean d)
    | 3 => s.emFree b.table b.index
    | _ => s.emPut b.table b.index (emResult (s.emEntry b.table b.index) d)
  else
    match b.cmd, dirSpec b.table with
    | 1, some d => s.setTabN 7 4 b.table b.index (verPut (s.tabN 7 4 b.table b.index) 3 (natField b.data 0 d.bits))
    | _, _ => s.setTabN 7 4 b.table b.index 0

/-- The batch ends: HOST resumes. -/
def State.batchEnd (s : State) (result t0 : Nat) : State :=
  (({ s with ver := { s.ver with batch := none } } : State).wr (A.ver R.SYS_VER_PAUSE_STAT)
    (BitVec.ofNat 32 (2 * result + min ((s.wt - t0) / lsbNs) 65535 * 65536))).setRbit verStatA 3 false

/-- BATCH_WRITE: once no packet of the slice is ahead of the lookup stage. -/
def execBatchWrite (s : State) : Host.Outcome State Fault Refusal :=
  match s.ver.batch with
  | some (t0, slice, n) =>
    if s.sliceAhead slice then .next s
    else
      let s' := (List.range n).foldl (fun s j => s.batchPut (batchArgs (s.batchEntry j))) s
      .next ((s'.batchEnd 0 t0).verRaise 7)
  | none => .next s

/-- PAUSE_ABORT: a packet of the slice still ahead at t0 + 1 µs. -/
def execPauseAbort (s : State) : Host.Outcome State Fault Refusal :=
  match s.ver.batch with
  | some (t0, slice, _) =>
    if s.sliceAhead slice = true ∧ t0 + lsbUs ≤ s.wt then .next ((s.batchEnd 1 t0).verRaise 8) else .next s
  | none => .next s

end Sys2Proof.Machine
end

