-- ==== Sys2Proof/Machine/Assoc.lean ====
section
/-! DEFINITION. The associative search arrays (spec 08): partitions, entries with their shadow, the search with its verification, the
window commands, the block mover and the scrubber. -/

namespace Sys2Proof.Machine

/-! ## Layout -/

def arrA (a : ArrayRef) (off : Nat) : Nat := regAddr (arrRegion a) (arrBlock a) off
def arrWin (a : ArrayWin) : Nat := winA (arrRegion a.array) (arrBlock a.array) a.w

def State.arr (s : State) (a : ArrayRef) : AscSt := spGet (fun _ => AscSt.reset) s.asc (arrIdx a)
def State.setArr (s : State) (a : ArrayRef) (x : AscSt) : State :=
  { s with asc := spPut (fun _ => AscSt.reset) s.asc (arrIdx a) x }

def State.arrTab (s : State) (a : ArrayRef) (table i : Nat) : Nat := s.tabN (arrRegion a) (arrBlock a) table i
def State.setArrTab (s : State) (a : ArrayRef) (table i v : Nat) : State := s.setTabN (arrRegion a) (arrBlock a) table i v

/-- Codes under which the model keeps an entry's key and mask, and its shadow: control word 0, key, mask, and a mark where the
shadow's parity fails (R220, R221). Words 0 to 2 of the array are TABLE 0x62. -/
def keyCode : Nat := 0xE4
def maskCode : Nat := 0xE5
def shCtlCode : Nat := 0xE6
def shKeyCode : Nat := 0xE7
def shMaskCode : Nat := 0xE8
def shBadCode : Nat := 0xE9

def State.ascWords (s : State) (a : ArrayRef) (i : Nat) : Nat := s.arrTab a 0x62 i
def State.ascEnt (s : State) (a : ArrayRef) (i : Nat) : AscEnt :=
  ⟨s.ascWords a i, s.arrTab a keyCode i, s.arrTab a maskCode i⟩

def awVmask (w : Nat) : Nat := w % 4
def awMoving (w : Nat) : Bool := natBit w 2
def awMasked (w : Nat) : Bool := natBit w 3
def awWidth (w : Nat) : Nat := natField w 4 2
def awPriority (w : Nat) : Nat := natField w 16 16
def awKind (w : Nat) : Nat := natField w 32 3
def awIndex (w : Nat) : Nat := natField w 35 20
def awStatsEn (w : Nat) : Bool := natBit w 55
def awStatIdx (w : Nat) : Nat := natField w 64 21

/-- What the shadow keeps of words 0 to 2: VMASK, WIDTH and PRIORITY. -/
def shadowPart (w : Nat) : Nat := natSetField (natField w 0 32) 2 2 0

/-- Reserved bits read 0. -/
def awClean (w : Nat) : Nat := natSetField (natSetField (natField w 0 85) 6 10 0) 56 8 0

/-- The array alone takes an entry; PIPE_ASC_COUNT follows the entries in use. -/
def State.arrPut (s : State) (a : ArrayRef) (i : Nat) (e : AscEnt) : State :=
  let was := awVmask (s.ascWords a i) != 0
  let is_ := awVmask e.words != 0
  let c := arrA a R.PIPE_ASC_COUNT
  let s := ((s.setArrTab a 0x62 i e.words).setArrTab a keyCode i e.key).setArrTab a maskCode i e.mask
  if was == is_ then s else if is_ then s.setFld c 0 16 (s.fld c 0 16 + 1) else s.setFld c 0 16 (s.fld c 0 16 - 1)

/-- A maintenance write: array and shadow in the same clock; the new shadow has good parity. -/
def State.ascPut (s : State) (a : ArrayRef) (i : Nat) (e : AscEnt) : State :=
  (((((s.arrPut a i e).setArrTab a shCtlCode i (shadowPart e.words)).setArrTab a shKeyCode i e.key).setArrTab a shMaskCode i
    e.mask).setArrTab a shBadCode i 0)

/-- VMASK alone changes, in the array and in its shadow; the shadow's key, mask and parity stay (R220, R221). -/
def State.ascVmask (s : State) (a : ArrayRef) (i v : Nat) : State :=
  let e := s.ascEnt a i
  let s := s.arrPut a i { e with words := natSetField e.words 0 2 v }
  s.setArrTab a shCtlCode i (natSetField (s.arrTab a shCtlCode i) 0 2 v)

/-- A copy of place `i` at place `j`, words 0 to 2 as given: array to array, shadow to shadow with its parity. -/
def State.ascCopy (s : State) (a : ArrayRef) (i j w : Nat) : State :=
  let e := s.ascEnt a i
  let cp (s : State) (code : Nat) : State := s.setArrTab a code j (s.arrTab a code i)
  cp (cp (cp (cp (s.arrPut a j { e with words := w }) shCtlCode) shKeyCode) shMaskCode) shBadCode

/-- A change of words 0 to 2 that the shadow does not keep: MASKED and MOVING. -/
def State.ascSetWords (s : State) (a : ArrayRef) (i w : Nat) : State := s.setArrTab a 0x62 i w

def freeEnt : AscEnt := ⟨0, 0, 0⟩

/-! ## Partitions (R207) -/

def State.part (s : State) (a : ArrayRef) (p : Nat) : Nat := s.arrTab a 0x61 p
def partEn (p : Nat) : Bool := natBit p 0
def partWidth (p : Nat) : Nat := natField p 1 2
def partBase (p : Nat) : Nat := natField p 3 13
def partCount (p : Nat) : Nat := natField p 16 14

/-- Rows of an entry, and key bytes, of a width. -/
def widthRows (w : Nat) : Nat := 2 ^ w
def widthBytes (w : Nat) : Nat := 20 * 2 ^ w

/-- The places of a partition: from its first row to the row past its last. -/
def partFirst (p : Nat) : Nat := partBase p * 4
def partEnd (p : Nat) : Nat := (partBase p + partCount p) * 4

/-- The enabled partition that holds an index. -/
def State.partOf (s : State) (a : ArrayRef) (i : Nat) : Option Nat :=
  ((List.range 16).map (s.part a)).find? (fun p => partEn p && decide (partFirst p ≤ i) && decide (i < partEnd p))

/-- Listed entries of a partition. -/
def State.partEntries (s : State) (a : ArrayRef) (p : Nat) : List Nat :=
  ((s.tabListed (arrRegion a) (arrBlock a) 0x62).filter (fun q => decide (partFirst p ≤ q.1) && decide (q.1 < partEnd p))).map (·.1)

/-- Bytes that a key profile selects (R208, R209). -/
def keyProfileBytes (egress : Bool) (v : Nat) : Nat :=
  if egress then
    (if natBit v 5 then 8 else 0) +
      ((List.range 8).map (fun j => if natBit v (64 + 24 * j + 4) then natField v (64 + 24 * j + 16) 4 + 1 else 0)).foldl (· + ·) 0
  else popCount 128 (natField v 128 128)

/-- A profile fits a partition (R210). -/
def profileFits (egress : Bool) (v p : Nat) : Bool := decide (keyProfileBytes egress v ≤ widthBytes (partWidth p))

/-- The bits of a key profile that are fields (R208, R209); the others are reserved. -/
def keyProfileMask (egress : Bool) : Nat :=
  if egress then 0x3F + ((List.range 8).map (fun e => 0x0FFF1F * 2 ^ (64 + 24 * e))).foldl (· + ·) 0
  else 0x1F + (2 ^ 128 - 1) * 2 ^ 128

/-- A key profile write: TABLE 0x60. -/
def keyProfileTable (a : ArrayRef) : WinTable :=
  maskedTable (arrRegion a) (arrBlock a) 0x60 32 256 (keyProfileMask a.egress)
    (fun s _ v => profileFits a.egress v (s.part a (natField v 1 4)))

/-- A partition write that R207 and R210 let pass. -/
def State.partOk (s : State) (a : ArrayRef) (n v : Nat) : Bool :=
  let old := s.part a n
  let apart (p : Nat) : Bool :=
    !partEn p || partCount p == 0 || partCount v == 0 || decide (partEnd p ≤ partFirst v) || decide (partEnd v ≤ partFirst p)
  partWidth v != 3 && natField v 30 2 != 3 && decide (partBase v + partCount v ≤ 8192) &&
  (List.range 16).all (fun m => m == n || apart (s.part a m)) &&
  (v % 2 ^ 30 == old % 2 ^ 30 || (s.partEntries a old).all (fun i => awVmask (s.ascWords a i) == 0)) &&
  (s.tabListed (arrRegion a) (arrBlock a) 0x60).all (fun q =>
    let prof := q.2.toNat
    !natBit prof 0 || natField prof 1 4 != n || profileFits a.egress prof v)

def partTable (a : ArrayRef) : WinTable :=
  maskedTable (arrRegion a) (arrBlock a) 0x61 8 16 (2 ^ 48 - 1) (fun s n v => s.partOk a n v)

/-! ## Search (R213, R214, R220 to R222) -/

/-- An entry of the array takes part in a search of a version. -/
def ascTakesPart (e : AscEnt) (key : Nat) (odd : Bool) : Bool :=
  natBit e.words (if odd then 1 else 0) && !awMasked e.words && ((key &&& e.mask) == e.key)

/-- Entries that take part, by rising index. -/
def State.ascMatches (s : State) (a : ArrayRef) (p key : Nat) (odd : Bool) : List Nat :=
  (s.partEntries a p).filter (fun i => ascTakesPart (s.ascEnt a i) key odd)

def State.ascPrio (s : State) (a : ArrayRef) (i : Nat) : Nat := awPriority (s.ascWords a i)

/-- The highest priority, and among equals the lowest index. -/
def State.ascBest (s : State) (a : ArrayRef) : List Nat → Option Nat
  | [] => none
  | i :: r =>
    match s.ascBest a r with
    | none => some i
    | some j => if s.ascPrio a i < s.ascPrio a j then some j else some i

/-- Two places hold copies of one entry made by the block mover. -/
def State.ascCopies (s : State) (a : ArrayRef) (i j : Nat) : Bool :=
  let x := s.ascEnt a i
  let y := s.ascEnt a j
  (awMoving x.words || awMoving y.words) && x.key == y.key && x.mask == y.mask &&
    natSetField x.words 2 2 0 == natSetField y.words 2 2 0

/-- Ties are counted; the first one is latched where TIE_DEBUG asks for it (R214). -/
def State.ascTie (s : State) (a : ArrayRef) (w : Nat) (l : List Nat) : State :=
  match l.filter (fun i => i != w && s.ascPrio a i == s.ascPrio a w && !s.ascCopies a i w) with
  | [] => s
  | t :: _ =>
    let s := s.bump (arrA a R.PIPE_ASC_TIES)
    if s.rbit (arrA a R.PIPE_ASC_CTRL) 1 && !s.rbit (arrA a 0x008) 6 then
      (s.wr (arrA a R.PIPE_ASC_TIE_REC) (BitVec.ofNat 32 (w + t * 65536 + 2 ^ 31))).raise (arrRegion a) (arrBlock a) 6
    else s

/-- Some maintenance action of an array waits for a slot (R216). -/
def AscSt.waits (x : AscSt) : Bool := x.move.isSome || !x.rewrite.isEmpty || !x.cmds.isEmpty

/-- A maintenance action starts to wait for a slot. -/
def State.arrWait (s : State) (a : ArrayRef) : State :=
  if (s.arr a).waits then s else s.setArr a { s.arr a with waitTick := s.time.ticks }

/-- A port has its slot of this clock free: no packet of it searched the array in this clock (R216). -/
def State.ascSpare (s : State) (a : ArrayRef) : Bool := (s.arr a).searched.any (fun t => t != s.time.ticks + 1)

/-- A packet's search takes port `n`'s slot of this clock. -/
def State.ascUse (s : State) (a : ArrayRef) (n : Nat) : State :=
  s.setArr a { s.arr a with searched := (s.arr a).searched.set n (s.time.ticks + 1) }

/-- A false hit: the entry is masked; its line is rewritten next, unless the shadow's own parity failed. -/
def State.ascFalseHit (s : State) (a : ArrayRef) (w : Nat) (parity : Bool) : State :=
  let s := (s.ascSetWords a w (natSetField (s.ascWords a w) 3 1 1)).bump (arrA a R.PIPE_ASC_FALSE_HIT)
  let s := s.raise (arrRegion a) (arrBlock a) 0
  if parity then
    (((s.wr (arrA a R.PIPE_ASC_MASKED) (BitVec.ofNat 32 (w + 2 ^ 31))).setRbit (arrA a R.PIPE_ASC_STAT) 3 true).raise
      (arrRegion a) (arrBlock a) 1)
  else
    let s := s.arrWait a
    let x := s.arr a
    s.setArr a { x with rewrite := x.rewrite ++ [w / 4] }

/-- What a search ends with. -/
inductive AscResult where
  | hit (i : Nat)
  | miss
  | abandon
  deriving DecidableEq, Repr

/-- Searches until a hit is confirmed, nothing matches, or the fourth false hit. -/
def ascSearchN (a : ArrayRef) (p key : Nat) (odd : Bool) : Nat → State → AscResult × State
  | 0, s => (.abandon, (s.bump (arrA a R.PIPE_ASC_ABANDON)).raise (arrRegion a) (arrBlock a) 2)
  | n + 1, s =>
    let l := s.ascMatches a p key odd
    match s.ascBest a l with
    | none => (.miss, s)
    | some w =>
      let s := s.ascTie a w l
      let bad := s.arrTab a shBadCode w != 0
      if bad then ascSearchN a p key odd n (s.ascFalseHit a w true)
      else if (key &&& s.arrTab a shMaskCode w) = s.arrTab a shKeyCode w then (.hit w, s)
      else ascSearchN a p key odd n (s.ascFalseHit a w false)

/-- A search of a partition. -/
def State.ascSearch (s : State) (a : ArrayRef) (p key : Nat) (odd : Bool) : AscResult × State := ascSearchN a p key odd 4 s

/-- A packet's search on port `n`, counted; a statistics pair follows the winner elsewhere. -/
def State.ascPacket (s : State) (a : ArrayRef) (n p key : Nat) (odd : Bool) : AscResult × State :=
  let r := ((s.bump64 (arrA a (R.PIPE_ASC_SEARCHES + 16 * n))).ascUse a n).ascSearch a p key odd
  match r.1 with
  | .hit _ => (r.1, r.2.bump64 (arrA a (R.PIPE_ASC_HITS + 16 * n)))
  | _ => r

/-! ## Commands (R218) -/

/-- The staged key or mask: the first `n` bytes of the staging registers, byte 0 in bits 7:0. -/
def State.staged (s : State) (a : ArrayRef) (off bytes : Nat) : Nat :=
  (List.range (bytes / 4)).foldl (fun v j => v + (s.rd (arrA a (off + 4 * j))).toNat * 2 ^ (32 * j)) 0

/-- A refusal: ERR 4, REASON and CMD_REFUSED. -/
def State.ascRefuse (s : State) (a : ArrayRef) (reason : Nat) : Nat × State :=
  (4, (s.setFld (arrA a R.PIPE_ASC_STAT) 8 4 reason).raise (arrRegion a) (arrBlock a) 5)

/-- A KIND and INDEX that R212 lists for the array. -/
def ascKindOk (egress : Bool) (w : Nat) : Bool :=
  let k := awKind w
  let i := awIndex w
  if egress then (k == 0 || k == 1 || (k == 2 && decide (i ≤ 65535)) || k == 3)
  else (k == 0 || k == 1 || (k == 2 && decide (i ≤ 65535)) || k == 3 || (k == 4 && decide (i ≤ 65535)) || (k == 5 && decide (i ≤ 4095)))

/-- A command that names a row inside a running move: the entries it shifts and the place they shift into. -/
def State.ascInMove (s : State) (a : ArrayRef) (i : Nat) : Bool :=
  match (s.arr a).move with
  | some m =>
    if m.down then decide (m.first ≤ i + m.stride) && decide (i < m.last + m.stride)
    else decide (m.first ≤ i) && decide (i < m.last + 2 * m.stride)
  | none => false

/-- The entry that WRITE and INSERT_AT make of WIN_DATA, WIN_CTRL.VMASK and the staging registers. -/
def State.ascNew (s : State) (a : ArrayRef) (win : Nat) : AscEnt :=
  let w := natSetField (natSetField (awClean (s.winDataN win 3)) 0 2 (s.winVmask win)) 2 2 0
  let n := widthBytes (awWidth w)
  let mask := s.staged a R.PIPE_ASC_MASK n
  ⟨w, s.staged a R.PIPE_ASC_KEY n &&& mask, mask⟩

/-- REASON that refuses a new entry at an index, OCCUPIED apart. -/
def State.ascNewBad (s : State) (a : ArrayRef) (i w : Nat) : Option Nat :=
  match s.partOf a i with
  | none => some 3
  | some p =>
    if awWidth w ≠ partWidth p ∨ i % widthRows (partWidth p) ≠ 0 then some 4
    else if ascKindOk a.egress w then none else some 7

def State.ascWrite (s : State) (a : ArrayRef) (win : Nat) : Nat × State :=
  let i := s.winIndex win
  let e := s.ascNew a win
  if s.ascInMove a i then s.ascRefuse a 8
  else if s.verLocked &&& awVmask e.words ≠ 0 then s.verProtect win
  else if awVmask (s.ascWords a i) ≠ 0 then s.ascRefuse a 1
  else match s.ascNewBad a i e.words with
    | some r => s.ascRefuse a r
    | none => (0, if awVmask e.words = 0 then s else s.ascPut a i e)

def State.ascRead (s : State) (a : ArrayRef) (win : Nat) : Nat × State :=
  let e := s.ascEnt a (s.winIndex win)
  let n := widthBytes (awWidth e.words) / 4
  let put (s : State) (off v : Nat) : State :=
    (List.range n).foldl (fun s j => s.wr (arrA a (off + 4 * j)) (BitVec.ofNat 32 (v / 2 ^ (32 * j)))) s
  (0, put (put (s.setWinData win 3 e.words) R.PIPE_ASC_KEY e.key) R.PIPE_ASC_MASK e.mask)

/-- SHADOW_BAD: an entry is held masked because its shadow's parity failed. -/
def State.shadowBad (s : State) (a : ArrayRef) : State :=
  s.setRbit (arrA a R.PIPE_ASC_STAT) 3
    ((s.tabListed (arrRegion a) (arrBlock a) shBadCode).any (fun q => awMasked (s.ascWords a q.1)))

def State.ascClear (s : State) (a : ArrayRef) (win : Nat) : Nat × State :=
  let i := s.winIndex win
  if s.ascInMove a i then s.ascRefuse a 8
  else if s.verLocked &&& awVmask (s.ascWords a i) ≠ 0 then s.verProtect win
  else (0, (s.ascPut a i freeEnt).shadowBad a)

def State.ascSetv (s : State) (a : ArrayRef) (win : Nat) : Nat × State :=
  let i := s.winIndex win
  let e := s.ascEnt a i
  let m := s.winVmask win
  if s.ascInMove a i then s.ascRefuse a 8
  else if s.verLocked &&& (m ||| awVmask e.words) ≠ 0 then s.verProtect win
  else if awVmask e.words = 0 then s.ascRefuse a 2
  else (0, s.ascVmask a i (awVmask e.words ||| m))

def State.ascDelete (s : State) (a : ArrayRef) (win : Nat) : Nat × State :=
  let i := s.winIndex win
  let e := s.ascEnt a i
  let m := s.winVmask win
  if s.ascInMove a i then s.ascRefuse a 8
  else if s.verLocked &&& m ≠ 0 then s.verProtect win
  else if awVmask e.words = 0 then s.ascRefuse a 2
  else
    let v := awVmask e.words &&& (3 - m)
    (0, if v = 0 then (s.ascPut a i freeEnt).shadowBad a else s.ascVmask a i v)

def State.ascUpdate (s : State) (a : ArrayRef) (win : Nat) : Nat × State :=
  let i := s.winIndex win
  let e := s.ascEnt a i
  let w := natSetField (awClean (s.winDataN win 3)) 0 32 (natField e.words 0 32)
  if s.ascInMove a i then s.ascRefuse a 8
  else if s.verLocked &&& awVmask e.words ≠ 0 then s.verProtect win
  else if awVmask e.words = 0 then s.ascRefuse a 2
  else if !ascKindOk a.egress w then s.ascRefuse a 7
  else (0, s.ascSetWords a i w)

/-- SEARCH: the winner's index in INDEX. -/
def State.ascSearchCmd (s : State) (a : ArrayRef) (win : Nat) : Nat × State :=
  let p := s.part a (natField (s.winWord win 0) 0 4)
  let m := s.winVmask win
  if !partEn p || (m != 1 && m != 2) then s.ascRefuse a 2
  else
    let r := s.ascSearch a p (s.staged a R.PIPE_ASC_KEY (widthBytes (partWidth p))) (m == 2)
    match r.1 with
    | .hit i => (0, r.2.setWinIndex win i)
    | _ => r.2.ascRefuse a 2

/-- BUSY and MOVING follow the block mover. -/
def State.ascBusy (s : State) (a : ArrayRef) (b : Bool) : State := s.setFld (arrA a R.PIPE_ASC_STAT) 0 2 (if b then 3 else 0)

/-- A run of the mover starts; its window stays busy. -/
def State.ascStart (s : State) (a : ArrayRef) (m : AscMove) : State :=
  let s := s.arrWait a
  ((s.setArr a { s.arr a with move := some m }).ascBusy a true).wr (m.win + 12) 1

/-- The nearest free place of a partition below or above an index: strides tried 0, 1, 2, …, the upper one first. -/
def State.ascFree (s : State) (a : ArrayRef) (p i : Nat) : Option (Nat × Bool) :=
  let st := widthRows (partWidth p)
  (List.range (partCount p * 4 / st + 1)).findSome? (fun d =>
    let up := i + d * st
    if up < partEnd p && awVmask (s.ascWords a up) == 0 then some (up, false)
    else if partFirst p + d * st ≤ i && awVmask (s.ascWords a (i - d * st)) == 0 then some (i - d * st, true)
    else none)

/-- MOVE_ABORTED is cleared when a MOVE or INSERT_AT next completes. -/
def State.ascMoved (s : State) (a : ArrayRef) : State := s.setRbit (arrA a R.PIPE_ASC_STAT) 2 false

def State.ascInsertAt (s : State) (a : ArrayRef) (win v : Nat) : State :=
  s.winStart win v (fun s =>
    let i := s.winIndex win
    let e := s.ascNew a win
    let fin (p : Nat × State) : State := p.2.winEnd win p.1 12
    if natField v 4 8 ≠ 0x62 then s.winEnd win (if 0x60 ≤ natField v 4 8 ∧ natField v 4 8 ≤ 0x61 then 3 else 2) 0
    else if 32768 ≤ i then s.winEnd win 1 12
    else if (s.arr a).move.isSome then fin (s.ascRefuse a 8)
    else if s.verLocked &&& awVmask e.words ≠ 0 then fin (s.verProtect win)
    else match s.ascNewBad a i e.words, s.partOf a i with
      | some r, _ => fin (s.ascRefuse a r)
      | none, none => fin (s.ascRefuse a 3)
      | none, some p =>
        let st := widthRows (partWidth p)
        match s.ascFree a p i with
        | none => fin (s.ascRefuse a 6)
        | some (f, false) =>
          if f = i ∧ s.ascSpare a = true then fin (0, (s.ascPut a i e).ascMoved a)
          else s.ascStart a ⟨win, i, f - st, st, false, f - st, (f - i) / st, [], some (e, i)⟩
        | some (f, true) =>
          if f + st = i ∧ s.ascSpare a = true then fin (0, ((s.ascPut a f e).setWinIndex win f).ascMoved a)
          else s.ascStart a ⟨win, f + st, i - st, st, true, f + st, (i - f) / st - 1, [], some (e, i - st)⟩)

def State.ascMoveCmd (s : State) (a : ArrayRef) (win v : Nat) : State :=
  s.winStart win v (fun s =>
    let i := s.winIndex win
    let last := natField (s.winWord win 0) 0 15
    let down := natBit (s.winWord win 0) 31
    let fin (p : Nat × State) : State := p.2.winEnd win p.1 12
    if natField v 4 8 ≠ 0x62 then s.winEnd win (if 0x60 ≤ natField v 4 8 ∧ natField v 4 8 ≤ 0x61 then 3 else 2) 0
    else if 32768 ≤ i then s.winEnd win 1 12
    else if (s.arr a).move.isSome then fin (s.ascRefuse a 8)
    else match s.partOf a i with
      | none => fin (s.ascRefuse a 5)
      | some p =>
        let st := widthRows (partWidth p)
        let beyond := if down then i - st else last + st
        let inside := if down then decide (partFirst p + st ≤ i) && decide (last < partEnd p) else decide (last + st < partEnd p)
        if decide (last < i) || (last - i) % st != 0 || i % st != 0 || !inside || awVmask (s.ascWords a beyond) != 0 then
          fin (s.ascRefuse a 5)
        else s.ascStart a ⟨win, i, last, st, down, if down then i else last, (last - i) / st + 1, [], none⟩)

/-- A command of TABLE 0x62 that takes one slot, by its CMD; READ takes none. -/
def ascCommand (c : Nat) : Option (State → ArrayRef → Nat → Nat × State) :=
  match c with
  | 1 => some State.ascRead
  | 2 => some State.ascWrite
  | 3 => some State.ascClear
  | 9 => some State.ascSetv
  | 10 => some State.ascDelete
  | 11 => some State.ascUpdate
  | 13 => some State.ascSearchCmd
  | _ => none

/-- A window command in its slot: it ends. -/
def State.ascRun (s : State) (a : ArrayRef) (q : Nat × Nat) : State :=
  match ascCommand q.2 with
  | some run => let r := run s a q.1; r.2.winEnd q.1 r.1 12
  | none => s

/-! ### The slots (R216, R220) -/

/-- A line of the array is rewritten from the shadow; `unmask` clears MASKED, except where the shadow's parity fails. -/
def State.rewriteLine (s : State) (a : ArrayRef) (line : Nat) (unmask : Bool) : State :=
  (List.range 4).foldl (fun s j =>
    let i := line * 4 + j
    if s.arrTab a shBadCode i != 0 then s
    else
      let w := s.ascWords a i
      let w := natSetField w 0 2 (awVmask (s.arrTab a shCtlCode i))
      let w := natSetField (natSetField w 4 2 (awWidth (s.arrTab a shCtlCode i))) 16 16 (awPriority (s.arrTab a shCtlCode i))
      s.arrPut a i ⟨if unmask then natSetField w 3 1 0 else w, s.arrTab a shKeyCode i, s.arrTab a shMaskCode i⟩) s

/-- The next line to rewrite after a false hit. -/
def State.rewriteNext (s : State) (a : ArrayRef) : State :=
  match (s.arr a).rewrite with
  | line :: rest => (s.setArr a { s.arr a with rewrite := rest, waitTick := s.time.ticks }).rewriteLine a line true
  | [] => s

/-- Every line that waits is rewritten, ahead of window commands (R220). -/
def State.rewriteAll (s : State) (a : ArrayRef) : State := (s.arr a).rewrite.foldl (fun s _ => s.rewriteNext a) s

/-- The oldest window command that waits takes a slot. -/
def State.ascNext (s : State) (a : ArrayRef) : State :=
  match (s.arr a).cmds with
  | q :: rest => (s.setArr a { s.arr a with cmds := rest, waitTick := s.time.ticks }).ascRun a q
  | [] => s

/-- In a clock with a spare slot, what waits runs: the rewrites, then the window commands. -/
def State.ascDrain (s : State) (a : ArrayRef) : State :=
  let s := s.rewriteAll a
  (s.arr a).cmds.foldl (fun s _ => s.ascNext a) s

/-- The clock ends: with a spare slot in it, window commands that wait run, and no action has waited since (R216). -/
def State.ascClock (s : State) (a : ArrayRef) : State :=
  if (s.arr a).waits && s.ascSpare a then
    let s := if (s.arr a).cmds.isEmpty then s else s.ascDrain a
    s.setArr a { s.arr a with waitTick := s.time.ticks + 1 }
  else s

/-- A command that has no spare slot waits; its window stays busy. -/
def State.ascPend (s : State) (a : ArrayRef) (win c : Nat) : State :=
  let s := s.arrWait a
  (s.setArr a { s.arr a with cmds := (s.arr a).cmds ++ [(win, c)] }).wr (win + 12) 1

/-- A command on TABLE 0x62: in a spare slot at once, after what waits for one; else it waits. READ takes no slot. -/
def State.ascCmd (s : State) (a : ArrayWin) (v : Nat) (run : State → ArrayRef → Nat → Nat × State) : State :=
  let win := arrWin a
  s.winStart win v (fun s =>
    if natField v 4 8 ≠ 0x62 then
      (if 0x60 ≤ natField v 4 8 ∧ natField v 4 8 ≤ 0x61 then s.winEnd win 3 (if natField v 4 8 = 0x60 then 32 else 8)
       else s.winEnd win 2 8)
    else if 32768 ≤ s.winIndex win then s.winEnd win 1 12
    else if v % 16 ≠ 1 ∧ s.ascSpare a.array = false then s.ascPend a.array win (v % 16)
    else
      let s := if v % 16 = 1 then s else s.ascDrain a.array
      let r := run s a.array win
      r.2.winEnd win r.1 12)

/-- READ, WRITE and CLEAR of the profile and partition tables go through the same windows. -/
def ascTable (a : ArrayRef) : Nat → Option WinTable
  | 0x60 => some (keyProfileTable a)
  | 0x61 => some (partTable a)
  | _ => none

/-- ASC_READ. -/
def execAscRead (m : Master) (a : ArrayWin) (v : Word) (s : State) : Host.Outcome State Fault Refusal :=
  .next (s.asWrite m (arrWin a) (fun s => s.ascCmd a (withCmd v 1) State.ascRead))

/-- ASC_WRITE. -/
def execAscWrite (m : Master) (a : ArrayWin) (v : Word) (s : State) : Host.Outcome State Fault Refusal :=
  .next (s.asWrite m (arrWin a) (fun s => s.ascCmd a (withCmd v 2) State.ascWrite))

/-- ASC_CLEAR. -/
def execAscClear (m : Master) (a : ArrayWin) (v : Word) (s : State) : Host.Outcome State Fault Refusal :=
  .next (s.asWrite m (arrWin a) (fun s => s.ascCmd a (withCmd v 3) State.ascClear))

/-- INSERT_AT. -/
def execInsertAt (m : Master) (a : ArrayWin) (v : Word) (s : State) : Host.Outcome State Fault Refusal :=
  .next (s.asWrite m (arrWin a) (fun s => s.ascInsertAt a.array (arrWin a) (withCmd v 8)))

/-- SETV. -/
def execSetv (m : Master) (a : ArrayWin) (v : Word) (s : State) : Host.Outcome State Fault Refusal :=
  .next (s.asWrite m (arrWin a) (fun s => s.ascCmd a (withCmd v 9) State.ascSetv))

/-- ASC_DELETE. -/
def execAscDelete (m : Master) (a : ArrayWin) (v : Word) (s : State) : Host.Outcome State Fault Refusal :=
  .next (s.asWrite m (arrWin a) (fun s => s.ascCmd a (withCmd v 10) State.ascDelete))

/-- ASC_UPDATE. -/
def execAscUpdate (m : Master) (a : ArrayWin) (v : Word) (s : State) : Host.Outcome State Fault Refusal :=
  .next (s.asWrite m (arrWin a) (fun s => s.ascCmd a (withCmd v 11) State.ascUpdate))

/-- ASC_MOVE. -/
def execAscMove (m : Master) (a : ArrayWin) (v : Word) (s : State) : Host.Outcome State Fault Refusal :=
  .next (s.asWrite m (arrWin a) (fun s => s.ascMoveCmd a.array (arrWin a) (withCmd v 12)))

/-- ASC_SEARCH. -/
def execAscSearch (m : Master) (a : ArrayWin) (v : Word) (s : State) : Host.Outcome State Fault Refusal :=
  .next (s.asWrite m (arrWin a) (fun s => s.ascCmd a (withCmd v 13) State.ascSearchCmd))

/-! ## The block mover (R219) -/

/-- MOVING cleared in every copy made. -/
def State.clearMoving (s : State) (a : ArrayRef) (l : List Nat) : State :=
  l.foldl (fun s i => s.ascSetWords a i (natSetField (s.ascWords a i) 2 1 0)) s

/-- The run ends: MOVE_DONE, the window free, INDEX at the new entry's place. -/
def State.ascMoveEnd (s : State) (a : ArrayRef) (m : AscMove) (place : Option Nat) : State :=
  let s := ((s.setArr a { s.arr a with move := none }).ascBusy a false).ascMoved a
  let s := match place with | some i => s.setWinIndex m.win i | none => s
  (s.winEnd m.win 0 12).raise (arrRegion a) (arrBlock a) 3

/-- One maintenance slot of the mover: a copy, or after the copies the new entry's write. A MOVE frees the place its last copy
left (its entry stands one place on). -/
def State.moverSlot (s : State) (a : ArrayRef) (m : AscMove) : State :=
  match m.left with
  | n + 1 =>
    let dst := if m.down then m.next - m.stride else m.next + m.stride
    let w := s.ascWords a m.next
    let s := s.ascCopy a m.next dst (if awVmask w = 0 then w else natSetField w 2 1 1)
    let m' := { m with left := n, copied := dst :: m.copied, next := if m.down then m.next + m.stride else m.next - m.stride }
    let s := s.setArr a { s.arr a with move := some m', waitTick := s.time.ticks }
    if n = 0 then
      let s := s.clearMoving a m'.copied
      match m.new with
      | some _ => s
      | none => (s.ascPut a (if m.down then m.last else m.first) freeEnt).ascMoveEnd a m none
    else s
  | 0 =>
    match m.new with
    | some (e, i) => (s.ascPut a i e).ascMoveEnd a m (some i)
    | none => s.ascMoveEnd a m none

/-- The array works: its region runs and its block is not held. -/
def State.arrWorks (s : State) (a : ArrayRef) : Bool := s.rgnRuns (arrRegion a) && !s.blkHeld (arrRegion a) (arrBlock a)

/-- MOVER_COPY: a spare slot, with no rewrite ahead of it. -/
def execMoverCopy (a : ArrayRef) (s : State) : Host.Outcome State Fault Refusal :=
  match s.arrWorks a && s.ascSpare a, (s.arr a).move, (s.arr a).rewrite with
  | true, some m, [] => .next (s.moverSlot a m)
  | _, _, _ => .next s

/-! ## The scrubber (R220, R223) -/

/-- SCRUB_REWRITE. -/
def execScrubRewrite (a : ArrayRef) (s : State) : Host.Outcome State Fault Refusal :=
  if s.arrWorks a && s.ascSpare a then .next (s.rewriteNext a) else .next s

/-- SLOT_STEAL: an action that has waited 64 clocks with no spare slot takes the next port's slot: a rewrite, then a window command,
then the block mover. -/
def execSlotSteal (a : ArrayRef) (s : State) : Host.Outcome State Fault Refusal :=
  let x := s.arr a
  if s.arrWorks a && x.waits && decide (x.waitTick + 64 ≤ s.time.ticks) then
    let s := (s.setArr a { x with stealPort := (x.stealPort + 1) % 4 }).bump (arrA a R.PIPE_ASC_STOLEN)
    match x.rewrite, x.cmds, x.move with
    | _ :: _, _, _ => .next (s.rewriteNext a)
    | [], _ :: _, _ => .next (s.ascNext a)
    | [], [], some m => .next (s.moverSlot a m)
    | [], [], none => .next s
  else .next s

/-- A line differs from its shadow in some row. -/
def State.lineDiffers (s : State) (a : ArrayRef) (line : Nat) : Bool :=
  (List.range 4).any (fun j =>
    let i := line * 4 + j
    s.arrTab a shBadCode i == 0 &&
    (shadowPart (s.ascWords a i) != s.arrTab a shCtlCode i || s.arrTab a keyCode i != s.arrTab a shKeyCode i ||
      s.arrTab a maskCode i != s.arrTab a shMaskCode i))

/-- Lines of enabled partitions, in turn. -/
def State.scrubNext (s : State) (a : ArrayRef) (from_ : Nat) : Option Nat :=
  let starts := ((List.range 16).map (s.part a)).filterMap (fun p =>
    if partEn p && decide (from_ < partBase p + partCount p) then some (max from_ (partBase p)) else none)
  starts.foldl (fun b x => match b with | none => some x | some y => some (min x y)) none

/-- A row whose shadow parity fails is masked and recorded (R221). -/
def State.scrubParity (s : State) (a : ArrayRef) (line : Nat) : State :=
  (List.range 4).foldl (fun s j =>
    let i := line * 4 + j
    if s.arrTab a shBadCode i != 0 && !awMasked (s.ascWords a i) then
      (((s.ascSetWords a i (natSetField (s.ascWords a i) 3 1 1)).wr (arrA a R.PIPE_ASC_MASKED)
        (BitVec.ofNat 32 (i + 2 ^ 31))).setRbit (arrA a R.PIPE_ASC_STAT) 3 true).raise (arrRegion a) (arrBlock a) 1
    else s) s

/-- SCRUB_LINE: one line in a spare slot; a pass ends after the last line of the last partition. -/
def execScrubLine (a : ArrayRef) (s : State) : Host.Outcome State Fault Refusal :=
  if s.rbit (arrA a R.PIPE_ASC_CTRL) 0 && (s.arr a).rewrite.isEmpty && s.arrWorks a && s.ascSpare a then
    let next := match s.scrubNext a (s.arr a).scrub with | some l => some l | none => s.scrubNext a 0
    match next with
    | none => .next s
    | some line =>
      let s := s.scrubParity a line
      let s := if s.lineDiffers a line then
          ((s.rewriteLine a line false).bump (arrA a R.PIPE_ASC_SCRUB_FIX)).raise (arrRegion a) (arrBlock a) 7
        else s
      let done := (s.scrubNext a (line + 1)).isNone
      let s := s.setArr a { s.arr a with scrub := if done then 0 else line + 1 }
      .next (if done then s.wr (arrA a R.PIPE_ASC_SCRUB_PASSES) (s.rd (arrA a R.PIPE_ASC_SCRUB_PASSES) + 1) else s)
  else .next s

end Sys2Proof.Machine
end

