-- ==== Sys2Proof/Machine/Learn.lean ====
section
/-! DEFINITION. Learned tables, their engines, and aging (spec 07, R196 to R202). Posting the records, which needs the processor
channels, is in Channels. -/

namespace Sys2Proof.Machine

/-- Region of learned table `r`. -/
def lrnA (r off : Nat) : Nat := regAddr (3 + r) 9 off
def lrnWinA (r : Nat) : Nat := winA (3 + r) 9 0

def State.lrn (s : State) (r : Nat) : LearnSt := spGet (fun _ => LearnSt.reset) s.fwd.learn r
def State.setLrn (s : State) (r : Nat) (x : LearnSt) : State :=
  { s with fwd := { s.fwd with learn := spPut (fun _ => LearnSt.reset) s.fwd.learn r x } }

def State.lrnEntry (s : State) (r loc : Nat) : Nat := s.tabN (3 + r) 9 0x50 loc

/-- Fields of a learned entry (R196). -/
def leValid (e : Nat) : Bool := natBit e 0
def leStatic (e : Nat) : Bool := natBit e 1
def leHit (e : Nat) : Bool := natBit e 2
def leBd (e : Nat) : Nat := natField e 4 12
def leMac (e : Nat) : Nat := natField e 16 48
def leDest (e : Nat) : Nat := natField e 64 17
/-- SLICE with SLICE_VALID above it: 13 bits. -/
def leSlice (e : Nat) : Nat := natField e 81 13

/-- An entry with VALID and HIT set. -/
def leOf (bd mac dest slice : Nat) : Nat := 5 + bd * 2 ^ 4 + mac * 2 ^ 16 + dest * 2 ^ 64 + slice * 2 ^ 81

/-- First place of a key's bucket in way `w`: 4,096 buckets of 4 slots a way. -/
def lrnBucket (bd mac w : Nat) : Nat :=
  (w * 4096 + crc32 (waySeed w) (beBytes 2 bd ++ beBytes 6 mac) % 4096) * 4

def lrnPlaces (bd mac : Nat) : List Nat := (List.range 4).flatMap (fun w => emPlaces (lrnBucket bd mac w))

def State.lrnFind (s : State) (r bd mac : Nat) : Option Nat :=
  (lrnPlaces bd mac).find? (fun p => leValid (s.lrnEntry r p) && leBd (s.lrnEntry r p) == bd && leMac (s.lrnEntry r p) == mac)

/-- An entry is written; PIPE_LRN_COUNT follows the entries in use. -/
def State.lrnPut (s : State) (r loc e : Nat) : State :=
  let was := leValid (s.lrnEntry r loc)
  let a := lrnA r R.PIPE_LRN_COUNT
  let s := s.setTabN (3 + r) 9 0x50 loc e
  if was == leValid e then s else if leValid e then s.setFld a 0 17 (s.fld a 0 17 + 1) else s.setFld a 0 17 (s.fld a 0 17 - 1)

/-- A place for a key: a free one, or the moves that free one (at most four, never a STATIC entry). -/
def State.lrnRoom (s : State) (r bd mac : Nat) : Option (Nat × List (Nat × Nat)) :=
  let free (b : Nat) : Option Nat := (emPlaces b).find? (fun p => !leValid (s.lrnEntry r p))
  let alts (p : Nat) : List Nat :=
    let e := s.lrnEntry r p
    if leStatic e then [] else ((List.range 4).map (lrnBucket (leBd e) (leMac e))).filter (fun b => b != p / 4 * 4)
  match ((List.range 4).map (lrnBucket bd mac)).findSome? free with
  | some p => some (p, [])
  | none =>
    match shortestPath emPlaces free alts ((List.range 4).map (lrnBucket bd mac)) 4 with
    | some ((p, q) :: rest) => some (p, (p, q) :: rest)
    | _ => none

/-- The moves, last first, then the entry in the freed place. -/
def State.lrnPlace (s : State) (r e p : Nat) (moves : List (Nat × Nat)) : State :=
  (moves.reverse.foldl (fun s x => (s.lrnPut r x.2 (s.lrnEntry r x.1)).lrnPut r x.1 0) s).lrnPut r p e

/-- A record of R199, when NOTE_EN asks for it. -/
def State.lrnNote (s : State) (r type bd mac dest slice : Nat) : State :=
  if s.rbit (lrnA r R.PIPE_LRN_CTRL) 2 then
    let x := s.lrn r
    let b := beBytes 1 type ++ beBytes 2 bd ++ [0] ++ beBytes 6 mac ++ beBytes 3 dest ++
      beBytes 2 (slice % 4096 + (if natBit slice 12 then 32768 else 0)) ++ [0]
    s.setLrn r { x with notes := x.notes ++ [b], noteTick := if x.notes.isEmpty then s.time.ticks else x.noteTick }
  else s

/-- Dropped requests, by reason: 0 FULL, 1 FIFO, 2 SUSPENDED, 3 NOTE_LOST. -/
def State.lrnDrop (s : State) (r reason : Nat) : State := s.bump (lrnA r (R.PIPE_LRN_DROP + 4 * reason))

def State.lrnEvt (s : State) (r e : Nat) : State := s.bump (lrnA r (R.PIPE_LRN_EVT + 4 * e))

/-! ## Requests (R197, R198) -/

/-- Key of a data-path request. -/
def LrnReq.key : LrnReq → Option (Nat × Nat)
  | .learn bd mac _ _ => some (bd, mac)
  | .move bd mac _ _ => some (bd, mac)
  | _ => none

/-- A data-path request enters the FIFO: dropped while the region is suspended, merged with one pending for its key, dropped when the
FIFO of 1,024 is full. -/
def State.lrnRequest (s : State) (r : Nat) (q : LrnReq) : State :=
  let x := s.lrn r
  if s.rbit (lrnA r R.PIPE_LRN_CTRL) 3 then s.lrnDrop r 2
  else if x.fifo.any (fun p => p.key == q.key) then
    s.setLrn r { x with fifo := x.fifo.map (fun p => if p.key = q.key then q else p) }
  else if 1024 ≤ x.fifo.length then (s.lrnDrop r 1).raise (3 + r) 9 1
  else s.setLrn r { x with fifo := x.fifo ++ [q] }

/-- An entry's DEST and slice become new ones, HIT set; STATIC entries stay. -/
def leMoved (e dest slice : Nat) : Nat :=
  natSetField (natSetField (natSetField e 64 17 dest) 81 13 slice) 2 1 1

/-- A learn or move for a key that stands: a move where DEST or slice differ, a refresh where they do not. -/
def State.lrnMoveAt (s : State) (r p dest slice : Nat) : State :=
  let e := s.lrnEntry r p
  if leStatic e then s
  else if leDest e = dest ∧ leSlice e = slice then s.lrnPut r p (natSetField e 2 1 1)
  else if s.rbit (lrnA r R.PIPE_LRN_CTRL) 1 then
    ((s.lrnPut r p (leMoved e dest slice)).lrnEvt r 1).lrnNote r 2 (leBd e) (leMac e) dest slice
  else s

/-- A learn: insert, or drop with FULL. -/
def State.lrnLearn (s : State) (r bd mac dest slice : Nat) : State :=
  match s.lrnFind r bd mac with
  | some p => s.lrnMoveAt r p dest slice
  | none =>
    match s.lrnRoom r bd mac with
    | some (p, moves) =>
      ((s.lrnPlace r (leOf bd mac dest slice) p moves).lrnEvt r 0).lrnNote r 1 bd mac dest slice
    | none => ((s.lrnDrop r 0).raise (3 + r) 9 0).lrnNote r 4 bd mac dest slice

/-- A refusal of a firmware command. -/
def State.lrnRefuse (s : State) (r reason : Nat) : Nat × State := (4, s.setFld (lrnA r R.PIPE_LRN_STAT) 0 2 reason)

/-- INSERT of an entry in WIN_DATA. -/
def State.lrnFwInsert (s : State) (r e : Nat) : Nat × State :=
  match s.lrnFind r (leBd e) (leMac e) with
  | some _ => s.lrnRefuse r 1
  | none =>
    match s.lrnRoom r (leBd e) (leMac e) with
    | some (p, moves) => (0, (s.lrnPlace r (natSetField e 0 1 1) p moves).setWinIndex (lrnWinA r) p)
    | none => (s.raise (3 + r) 9 0).lrnRefuse r 2

def State.lrnFwDelete (s : State) (r e : Nat) : Nat × State :=
  match s.lrnFind r (leBd e) (leMac e) with
  | some p => (0, (s.lrnPut r p 0).setWinIndex (lrnWinA r) p)
  | none => s.lrnRefuse r 3

def State.lrnFwSearch (s : State) (r e : Nat) : Nat × State :=
  match s.lrnFind r (leBd e) (leMac e) with
  | some p => (0, (s.setWinData (lrnWinA r) 4 (s.lrnEntry r p)).setWinIndex (lrnWinA r) p)
  | none => s.lrnRefuse r 3

/-- LEARN_ENGINE: one request is served. A FLUSH waits behind one that still runs. -/
def execLearnEngine (r : Fin 4) (s : State) : Host.Outcome State Fault Refusal :=
  if s.rgnRuns (3 + r) && !s.blkHeld (3 + r) 9 then
    let x := s.lrn r
    match x.fifo with
    | [] => .next s
    | q :: rest =>
      let t := s.setLrn r { x with fifo := rest }
      let fin (p : Nat × State) : State := p.2.winEnd (lrnWinA r) p.1 16
      match q with
      | .learn bd mac dest slice => .next (if s.rbit (lrnA r R.PIPE_LRN_CTRL) 3 then t.lrnDrop r 2 else t.lrnLearn r bd mac dest slice)
      | .move bd mac dest slice => .next (if s.rbit (lrnA r R.PIPE_LRN_CTRL) 3 then t.lrnDrop r 2 else t.lrnLearn r bd mac dest slice)
      | .insert e => .next (fin (t.lrnFwInsert r e))
      | .delete e => .next (fin (t.lrnFwDelete r e))
      | .search e => .next (fin (t.lrnFwSearch r e))
      | .flush what bd dest =>
        if x.flush.isSome then .next s
        else .next ((fin (0, t.setLrn r { x with fifo := rest, flush := some (what, bd, dest) })).setRbit (lrnA r R.PIPE_LRN_STAT) 2 true)
  else .next s

/-- A firmware command on TABLE 0x50 joins the FIFO; its window is busy until the engine has served it. -/
def State.lrnCmd (s : State) (r v : Nat) (q : State → LrnReq) : State :=
  let a := lrnWinA r
  s.winStart a v (fun s =>
    if natField v 4 8 = 0x50 then (s.setLrn r { s.lrn r with fifo := (s.lrn r).fifo ++ [q s] }).wr (a + 12) 1
    else s.winEnd a 2 0)

def State.lrnWinEntry (s : State) (r : Nat) : Nat :=
  s.winDataN (lrnWinA r) 4 &&& (2 ^ 94 - 1 - 8)

/-- LRN_INSERT. -/
def execLrnInsert (m : Master) (r : Fin 4) (v : Word) (s : State) : Host.Outcome State Fault Refusal :=
  .next (s.asWrite m (lrnWinA r) (fun s => s.lrnCmd r (withCmd v 8) (fun s => .insert (s.lrnWinEntry r))))

/-- LRN_DELETE. -/
def execLrnDelete (m : Master) (r : Fin 4) (v : Word) (s : State) : Host.Outcome State Fault Refusal :=
  .next (s.asWrite m (lrnWinA r) (fun s => s.lrnCmd r (withCmd v 9) (fun s => .delete (s.lrnWinEntry r))))

/-- LRN_SEARCH. -/
def execLrnSearch (m : Master) (r : Fin 4) (v : Word) (s : State) : Host.Outcome State Fault Refusal :=
  .next (s.asWrite m (lrnWinA r) (fun s => s.lrnCmd r (withCmd v 10) (fun s => .search (s.lrnWinEntry r))))

/-- FLUSH: word 0 says what, word 1 the BD, word 2 the DEST. -/
def execFlush (m : Master) (r : Fin 4) (v : Word) (s : State) : Host.Outcome State Fault Refusal :=
  .next (s.asWrite m (lrnWinA r) (fun s => s.lrnCmd r (withCmd v 12) (fun s =>
    .flush (s.winWord (lrnWinA r) 0) (natField (s.winWord (lrnWinA r) 1) 0 12) (natField (s.winWord (lrnWinA r) 2) 0 17))))

/-- An entry that a FLUSH deletes. -/
def flushHits (what bd dest e : Nat) : Bool :=
  leValid e && (natBit what 0 || natBit what 1) && (!natBit what 0 || leBd e == bd) && (!natBit what 1 || leDest e == dest) &&
    (natBit what 2 || !leStatic e)

/-- FLUSH_DONE: the background flush is complete. -/
def execFlushDone (r : Fin 4) (s : State) : Host.Outcome State Fault Refusal :=
  match (s.lrn r).flush with
  | some (what, bd, dest) =>
    let hit := (s.tabListed (3 + r) 9 0x50).filter (fun p => flushHits what bd dest p.2.toNat)
    let s := hit.foldl (fun s p => s.lrnPut r p.1 0) s
    .next (((s.setLrn r { s.lrn r with flush := none }).setRbit (lrnA r R.PIPE_LRN_STAT) 2 false).raise (3 + r) 9 3)
  | none => .next s

/-- TABLE 0x50 of block LRN: reads and plain writes (R196). -/
def lrnTable (r : Nat) : WinTable where
  bytes := 16
  count := fun _ => 65536
  get := fun s i _ => some (s.lrnEntry r i)
  put := fun s i _ v => (0, s.lrnPut r i (v &&& (2 ^ 94 - 1 - 8)))
  clear := fun s i _ => (0, s.lrnPut r i 0)
  readClear := false

/-- A write of PIPE_LRN_CTRL: SUSPEND ends a sweep under way (R202). -/
def State.lrnCtrlWrite (s : State) (r v : Nat) : State :=
  let s := (s.wr (lrnA r R.PIPE_LRN_CTRL) (BitVec.ofNat 32 (v &&& 0xFFFF000F))).setRbit (lrnA r R.PIPE_LRN_STAT) 3 (natBit v 3)
  if natBit v 3 then { s with fwd := { s.fwd with sweeps := spPut (fun _ => none) s.fwd.sweeps r none } } else s

/-- A write of TBL_AGE_SUSPEND. -/
def State.ageSuspendWrite (s : State) (v : Nat) : State :=
  let s := s.wr (regAddr 7 0 R.TBL_AGE_SUSPEND) (BitVec.ofNat 32 (v % 2))
  if natBit v 0 then { s with fwd := { s.fwd with sweeps := s.fwd.sweeps.filter (fun p => decide (p.1 < 4)) } } else s

/-! ## Aging (R200 to R202) -/

/-- Number of a table that ages, its period, its locations, its visit spacing in ns, and whether its aging is suspended. -/
def ageIndex : AgeTable → Nat
  | .learned r => r
  | .em t => 4 + t

def State.agePeriod (s : State) : AgeTable → Nat
  | .learned r => s.fld (lrnA r R.PIPE_LRN_AGE) 0 16
  | .em t => s.fld (emA (R.TBL_EM_AGE + 4 * t)) 0 16

def State.ageLocations (s : State) : AgeTable → Nat
  | .learned _ => 65536
  | .em t => emLocations (s.emCfg t)

def ageSpacing : AgeTable → Nat
  | .learned _ => 1500
  | .em _ => 250

def State.ageSuspended (s : State) : AgeTable → Bool
  | .learned r => s.rbit (lrnA r R.PIPE_LRN_CTRL) 3
  | .em _ => s.rbit (regAddr 7 0 R.TBL_AGE_SUSPEND) 0

def ageRegion : AgeTable → Nat
  | .learned r => 3 + r
  | .em _ => 7

def State.setSweep (s : State) (t : AgeTable) (x : Option Sweep) : State :=
  { s with fwd := { s.fwd with sweeps := spPut (fun _ => none) s.fwd.sweeps (ageIndex t) x } }

def State.sweep (s : State) (t : AgeTable) : Option Sweep := spGet (fun _ => none) s.fwd.sweeps (ageIndex t)

/-- AGING_SWEEP_START: at a whole second that is a multiple of the period, once; a sweep that starts while suspended is skipped. -/
def execAgingSweepStart (t : AgeTable) (s : State) : Host.Outcome State Fault Refusal :=
  let sec := tvSec s.wt
  let p := s.agePeriod t
  if s.time.wtValid = true ∧ p ≠ 0 ∧ sec % p = 0 ∧ spGet (fun _ => 0) s.fwd.lastSweep (ageIndex t) ≠ sec + 1 ∧
      s.rgnRuns (ageRegion t) = true then
    let s : State := { s with fwd := { s.fwd with lastSweep := spPut (fun _ => 0) s.fwd.lastSweep (ageIndex t) (sec + 1) } }
    .next (if s.ageSuspended t then s else s.setSweep t (some ⟨sec * lsbSec, 0⟩))
  else .next s

/-- A visit of a learned location: HIT cleared, or the entry deleted with an AGE record. -/
def State.ageLearned (s : State) (r loc : Nat) : State :=
  let e := s.lrnEntry r loc
  if leValid e && !leStatic e then
    if leHit e then s.lrnPut r loc (natSetField e 2 1 0)
    else ((s.lrnPut r loc 0).lrnEvt r 2).lrnNote r 3 (leBd e) (leMac e) (leDest e) (leSlice e)
  else s

/-- A visit of an exact-match location. -/
def State.ageEm (s : State) (t loc : Nat) : State :=
  if entVmask (s.emEntry t loc) ≠ 0 then
    if s.emHit t loc then s.setEmHit t loc false
    else (s.emFree t loc).bump (emA (R.TBL_EM_AGED + 4 * t))
  else s

/-- AGING_VISIT: the next location, once its instant has come. -/
def execAgingVisit (t : AgeTable) (s : State) : Host.Outcome State Fault Refusal :=
  match s.sweep t with
  | some w =>
    if s.ageSuspended t then .next (s.setSweep t none)
    else if s.ageLocations t ≤ w.next then .next (s.setSweep t none)
    else if w.start + w.next * ageSpacing t * lsbNs ≤ s.wt then
      let s := s.setSweep t (if w.next + 1 < s.ageLocations t then some { w with next := w.next + 1 } else none)
      match t with
      | .learned r => .next (s.ageLearned r w.next)
      | .em n => .next (s.ageEm n w.next)
    else .next s
  | none => .next s

end Sys2Proof.Machine
end

