-- ==== Sys2Proof/Machine/Line.lean ====
section
/-! DEFINITION. Line ports and modules (spec 05): port configuration, link states, sleep, counters, flow control received, and
the CMIS side. Frames themselves are in LineFrames. -/

namespace Sys2Proof.Machine

/-- Register of port `p` (octet p div 8, lane p mod 8), 0x40 bytes a port (R135). -/

def State.port (s : State) (p : Nat) : PortSt := spGet (fun _ => PortSt.reset) s.line.ports p
def State.setPort (s : State) (p : Nat) (x : PortSt) : State :=
  { s with line := { s.line with ports := spPut (fun _ => PortSt.reset) s.line.ports p x } }
def State.cage (s : State) (c : Nat) : CageSt := spGet (fun _ => CageSt.reset) s.line.cages c
def State.setCage (s : State) (c : Nat) (x : CageSt) : State :=
  { s with line := { s.line with cages := spPut (fun _ => CageSt.reset) s.line.cages c x } }

/-- Lanes of a port mode, and the rate code its quads must have (R113). -/
def modeLanes (mode : Nat) : Nat :=
  if mode = 1 ∨ mode = 2 then 8 else if mode = 3 ∨ mode = 4 ∨ mode = 6 then 4
  else if mode = 5 ∨ mode = 7 ∨ mode = 9 then 2 else 1

def modeRate (mode : Nat) : Nat :=
  if mode = 1 ∨ mode = 3 ∨ mode = 5 ∨ mode = 8 then 3
  else if mode = 2 ∨ mode = 4 ∨ mode = 7 ∨ mode = 0xA then 2 else 1

/-- Speed of a port mode in Gbit/s (R113). -/
def modeSpeed (mode : Nat) : Nat :=
  match mode with
  | 1 => 1600 | 2 => 800 | 3 => 800 | 4 => 400 | 5 => 400 | 6 => 200 | 7 => 200 | 8 => 200 | 9 => 100 | 10 => 100 | _ => 50

def State.portCfg (s : State) (p : Nat) : Nat := (s.rd (portA p R.LINE_PORT_CFG)).toNat
def State.portEn (s : State) (p : Nat) : Bool := natBit (s.portCfg p) 4
def State.portMode (s : State) (p : Nat) : Nat := natField (s.portCfg p) 0 4

/-- LINE_PORT_STAT.STATE. -/
inductive PortState where
  | disabled | held | down | up | sleep
  deriving DecidableEq, Repr

def PortState.code : PortState → Nat
  | .disabled => 0 | .held => 1 | .down => 2 | .up => 3 | .sleep => 4

def PortState.ofCode : Nat → PortState
  | 0 => .disabled | 1 => .held | 2 => .down | 3 => .up | _ => .sleep

def State.portState (s : State) (p : Nat) : PortState := PortState.ofCode (s.fld (portA p R.LINE_PORT_STAT) 0 3)

/-- Cage of an L-lane: the line cage whose lanes hold it (R83). -/
def State.laneCage (s : State) (l : Nat) : Option Nat :=
  (List.range 64).find? (fun c =>
    let e := (s.cage c).expect
    e.role == 1 && decide (e.firstLane ≤ l) && decide (l < e.firstLane + e.lanes))

/-- The port's cage is held down (R84, R133). -/
def State.portHeld (s : State) (p : Nat) : Bool :=
  match s.laneCage p with
  | some c => (s.cage c).held
  | none => false

/-- Two port states with the link up between them: a move from one to the other is no link change (R118). -/
def linkUp : PortState → Bool
  | .up | .sleep => true
  | _ => false

/-- The receive bits of a port without a link: the low `bits` of each lane's LINE_LANE_STAT, ALIGN and LANES_LOCKED read 0 (R135). -/
def State.portDark (s : State) (p bits : Nat) : State :=
  let s := (List.range (modeLanes (s.portMode p))).foldl (fun s j => s.setFld (laneA (p + j) R.LINE_LANE_STAT) 0 bits 0) s
  let a := portA p R.LINE_PORT_STAT
  (s.setRbit a 5 false).setFld a 8 8 0

/-- A port takes a state: STATE, the octet's UP and SLEEP bits, the fault and receive bits (0 while DISABLED or HELD), and LINK_CHANGE
on every entry to and exit from UP but the two moves of sleep (R118). -/
def State.setPortState (s : State) (p : Nat) (x : PortState) : State :=
  let old := s.portState p
  let a := portA p R.LINE_PORT_STAT
  let k := p % 8
  let s := s.setFld a 0 3 x.code
  let s := if x = .disabled ∨ x = .held then ((s.setFld a 3 2 0).setRbit a 7 false).portDark p 5 else s
  let s := s.setRbit (A.oct (p / 8) R.LINE_OCT_STAT) k (x == .up)
  let s := s.setRbit (A.oct (p / 8) R.LINE_OCT_STAT) (8 + k) (x == .sleep)
  s.raiseIf (((old == .up) != (x == .up)) && !(linkUp old && linkUp x)) 2 (p / 8) k

/-! ## Configuration (R114, R115, R123) -/

/-- No lane of the port belongs to another enabled port of its octet. -/
def State.lanesFree (s : State) (p n : Nat) : Bool :=
  (List.range 8).all (fun j =>
    let q := p / 8 * 8 + j
    q == p || !s.portEn q || decide (j + modeLanes (s.portMode q) ≤ p % 8) || decide (p % 8 + n ≤ j))

/-- The mode's lane rate equals the rate of every quad the port covers. -/
def State.quadsMatch (s : State) (p mode : Nat) : Bool :=
  let a := A.oct (p / 8) R.LINE_OCT_RATE
  let q0 := s.fld a 0 2 == modeRate mode
  let q1 := s.fld a 2 2 == modeRate mode
  if modeLanes mode = 8 then q0 && q1 else if p % 8 < 4 then q0 else q1

/-- The conditions of R114 for a write of LINE_PORT_CFG. -/
def State.portCfgOk (s : State) (p v : Nat) : Bool :=
  let mode := natField v 0 4
  if natBit v 4 then
    decide (1 ≤ mode) && decide (mode ≤ 0xB) && p % 8 % modeLanes mode == 0 && s.quadsMatch p mode
      && s.lanesFree p (modeLanes mode) && !(natBit v 8 && natBit v 9) && !(s.portEn p && mode != s.portMode p)
  else true

/-- The pipeline that takes a port's next frame (R15). -/
def State.portPipe (s : State) (p : Nat) : Nat :=
  let o := p / 8
  if modeLanes (s.portMode p) = 8 then (if (s.port p).second then 2 * o + 1 else 2 * o)
  else if p % 8 < 4 then 2 * o else 2 * o + 1

/-- One of the 64 port counters counts (R127, R128): its width, its half-range event. -/
def octCounter (i : Nat) : Bool := i == 0 || i == 1 || i == 40 || i == 41

def State.portCount (s : State) (p i n : Nat) : State :=
  if s.ctl.snapFrozen then s
  else
    let a := A.oct (p / 8) (R.LINE_PORT_CNT + 512 * (p % 8) + 8 * i)
    let w := if octCounter i then 56 else 48
    let old := s.rd64 a
    let new := (old + n) % 2 ^ w
    let s := s.wr64 a new
    if !natBit old (w - 1) && natBit new (w - 1) then
      (s.setRbit (portA p (R.LINE_PORT_HALF_LO + 4 * (i / 32))) (i % 32) true).raise 2 (p / 8) (8 + p % 8)
    else s

/-- A line packet joins its pipeline's line input; an 8-lane port deals its frames to the two pipelines in turn (R15). -/
def State.toPipe (s : State) (p : Nat) (k : Pkt) : State :=
  let x := s.port p
  let i := s.portPipe p
  let s := s.setPort p { x with second := modeLanes (s.portMode p) == 8 && !x.second, seq := x.seq + 1 }
  let ip := spGet (fun _ => PipeSt.reset) s.pipes i
  { s with pipes := spPut (fun _ => PipeSt.reset) s.pipes i { ip with lineIn := ip.lineIn ++ [{ k with port := p, seq := x.seq }] } }

/-- Disabling a port (R115): a frame whose reception is cut off is discarded and counted; a head that has passed becomes a packet with
a bad tail (R121), which joins the pipeline's line input. -/
def State.portDisable (s : State) (p : Nat) (rx : Option RxPart) : State :=
  let s := match rx with
    | some part =>
      let s := s.portCount p 23 1
      if part.headPassed then s.toPipe p { Pkt.empty with bytes := part.bytes, bad := true, cut := true } else s
    | none => s
  let x := s.port p
  let s := s.setPort p { x with waking := false, linkLost := false, sleepPend := false, second := false, egSecond := false
                                stopUntil := PortSt.reset.stopUntil }
  (s.setRbit (portA p R.LINE_PORT_STAT) 6 false).setPortState p .disabled

/-- SLEEP = 1 written: an UP or DOWN port sleeps, its transmit lanes sending idle; a DISABLED or HELD one keeps the bit (R118, R129). -/
def State.sleepWrite (s : State) (p : Nat) : State :=
  match s.portState p with
  | .up => (s.setPort p { s.port p with linkLost := false, waking := false }).setPortState p .sleep
  | .down =>
    ((s.setPort p { s.port p with linkLost := true, waking := false }).setPortState p .sleep).emit (.lineFault p false)
  | .disabled | .held => s.setPort p { s.port p with sleepPend := true }
  | .sleep => s

/-- SLEEP = 0 written: a sleeping port begins to wake (R130). -/
def State.wakeWrite (s : State) (p : Nat) : State :=
  match s.portState p with
  | .sleep => s.setPort p { s.port p with waking := true }
  | _ => s.setPort p { s.port p with sleepPend := false }

/-- The state an enabled port starts in: HELD while its cage is held, else DOWN, or SLEEP where SLEEP = 1 waits. Its lanes have no lock
yet: LOCAL_FAULT shows, and a DOWN port sends remote fault, a sleeping one idle (R118, R129). -/
def State.portStart (s : State) (p : Nat) : State :=
  if s.portHeld p then s.setPortState p .held
  else
    let s := s.setFld (portA p R.LINE_PORT_STAT) 3 1 1
    if (s.port p).sleepPend then
      ((s.setPort p { s.port p with sleepPend := false, linkLost := true }).setPortState p .sleep).emit (.lineFault p false)
    else (s.setPortState p .down).emit (.lineFault p true)

/-- A write of LINE_PORT_CFG. -/
def State.portCfgWrite (s : State) (p v : Nat) (rx : Option RxPart) : State :=
  if s.portCfgOk p v then
    let was := s.portEn p
    let s := if was && !natBit v 4 then s.portDisable p rx else s
    let s := s.wr (portA p R.LINE_PORT_CFG) (BitVec.ofNat 32 (natField v 0 13))
    let s := if natBit v 11 then s.sleepWrite p else s.wakeWrite p
    if !was && natBit v 4 then s.portStart p else s
  else s.raise 2 (p / 8) 24

/-- PORT_CFG_WRITE. -/
def execPortCfgWrite (m : Master) (p : Fin 64) (v : Word) (s : State) : Host.Outcome State Fault Refusal :=
  .next (s.asWrite m (portA p R.LINE_PORT_CFG) (fun s => s.portCfgWrite p v.toNat none))

/-- PORT_DISABLE: a write with EN = 0, and the frame in reception, if any. -/
def execPortDisable (m : Master) (p : Fin 64) (v : Word) (rx : Option RxPart) (s : State) : Host.Outcome State Fault Refusal :=
  .next (s.asWrite m (portA p R.LINE_PORT_CFG) (fun s => s.portCfgWrite p (natSetField v.toNat 4 1 0) rx))

/-- PORT_SLEEP: a write with SLEEP = 1. -/
def execPortSleep (m : Master) (p : Fin 64) (v : Word) (s : State) : Host.Outcome State Fault Refusal :=
  .next (s.asWrite m (portA p R.LINE_PORT_CFG) (fun s => s.portCfgWrite p (natSetField v.toNat 11 1 1) none))

/-- PORT_WAKE_WRITE: a write with SLEEP = 0. -/
def execPortWakeWrite (m : Master) (p : Fin 64) (v : Word) (s : State) : Host.Outcome State Fault Refusal :=
  .next (s.asWrite m (portA p R.LINE_PORT_CFG) (fun s => s.portCfgWrite p (natSetField v.toNat 11 1 0) none))

/-- Quad `q` of octet `o` holds an enabled port. -/
def State.quadBusy (s : State) (o q : Nat) : Bool :=
  (List.range 8).any (fun j =>
    let p := 8 * o + j
    s.portEn p && decide (j < 4 * q + 4) && decide (4 * q < j + modeLanes (s.portMode p)))

/-- A write of LINE_OCT_RATE (R114). -/
def State.octRateWrite (s : State) (o v : Nat) : State :=
  let a := A.oct o R.LINE_OCT_RATE
  if (natField v 0 2 ≠ s.fld a 0 2 ∧ s.quadBusy o 0 = true) ∨ (natField v 2 2 ≠ s.fld a 2 2 ∧ s.quadBusy o 1 = true) then
    s.raise 2 o 24
  else s.wr a (BitVec.ofNat 32 (natField v 0 4))

/-- OCT_RATE_WRITE. -/
def execOctRateWrite (m : Master) (o : Fin 8) (v : Word) (s : State) : Host.Outcome State Fault Refusal :=
  .next (s.asWrite m (A.oct o R.LINE_OCT_RATE) (fun s => s.octRateWrite o v.toNat))

/-- A write of LINE_PORT_MAXLEN: 64 to 16,384 (R123). -/
def State.maxlenWrite (s : State) (p v : Nat) : State :=
  if 64 ≤ v ∧ v ≤ 16384 then s.wr (portA p R.LINE_PORT_MAXLEN) (BitVec.ofNat 32 v) else s.raise 2 (p / 8) 25

/-- MAXLEN_WRITE. -/
def execMaxlenWrite (m : Master) (p : Fin 64) (v : Word) (s : State) : Host.Outcome State Fault Refusal :=
  .next (s.asWrite m (portA p R.LINE_PORT_MAXLEN) (fun s => s.maxlenWrite p v.toNat))

/-! ## Link state (R117, R118) -/

/-- The status bits of a port with lock and alignment and no fault. -/
def State.portAligned (s : State) (p : Nat) : State :=
  let n := modeLanes (s.portMode p)
  let an := natBit (s.portCfg p) 6
  let s := (List.range n).foldl
    (fun s j => s.setFld (laneA (p + j) R.LINE_LANE_STAT) 0 5 (0xF + (if an then 0x10 else 0))) s
  let a := portA p R.LINE_PORT_STAT
  ((s.setFld a 3 3 4).setRbit a 7 an).setFld a 8 8 (2 ^ n - 1)

/-- PORT_UP: lock, alignment and no fault for 1 ms. A sleeping port's link is aligned again. -/
def execPortUp (p : Fin 64) (s : State) : Host.Outcome State Fault Refusal :=
  match s.portState p with
  | .down => .next ((s.portAligned p).setPortState p .up)
  | .sleep => .next ((s.portAligned p).setPort p { (s.portAligned p).port p with linkLost := false })
  | _ => .next s

/-- The status bits of a port that has lost its link or sees a fault. A loss of alignment is shown as a loss of signal and lock on
every lane (assumption 86); a fault that is received is received over an aligned link, local or remote (R118). -/
def State.portLossBits (s : State) (p : Nat) (why : PortLoss) : State :=
  let a := portA p R.LINE_PORT_STAT
  match why with
  | .alignment => (s.portDark p 3).setFld a 3 2 1
  | .localFault => (s.portAligned p).setFld a 3 2 1
  | .remoteFault => (s.portAligned p).setFld a 3 2 2

/-- What the reconciliation sublayer answers: remote fault to local fault, idle to remote fault. -/
def lossSends (why : PortLoss) : Bool := why != .remoteFault

/-- PORT_DOWN: an UP port leaves UP at once; a sleeping one, which sends idle, raises LINK_CHANGE and stays asleep (R130). -/
def execPortDown (p : Fin 64) (why : PortLoss) (s : State) : Host.Outcome State Fault Refusal :=
  match s.portState p with
  | .up => .next (((s.portLossBits p why).setPortState p .down).emit (.lineFault p (lossSends why)))
  | .down => .next ((s.portLossBits p why).emit (.lineFault p (lossSends why)))
  | .sleep =>
    let s' := s.portLossBits p why
    if (s.port p).linkLost then .next s'
    else .next ((s'.setPort p { s'.port p with linkLost := true }).raise 2 (p.val / 8) (p.val % 8))
  | _ => .next s

/-- AN_FAIL: negotiation unresolved after 5 s; it restarts. -/
def execAnFail (p : Fin 64) (s : State) : Host.Outcome State Fault Refusal :=
  if s.portEn p ∧ natBit (s.portCfg p) 6 = true ∧ s.portState p = .down then
    .next ((s.setRbit (portA p R.LINE_PORT_STAT) 7 false).raise 2 (p.val / 8) 26)
  else .next s

/-! ## Flow control received (R126) -/

/-- Ticks of a pause of `quanta` × 512 bit times at the port's speed, rounded up. -/
def State.pauseTicks (s : State) (p quanta : Nat) : Nat :=
  let d := 10 * modeSpeed (s.portMode p)
  (quanta * 512 * 14 + (d - 1)) / d

/-- PAUSED shows PAUSE or any class stopping transmission. -/
def State.pausedBit (s : State) (p : Nat) : State :=
  s.setRbit (portA p R.LINE_PORT_STAT) 6 ((s.port p).stopUntil.any Option.isSome)

/-- Stop index `i` (0 PAUSE, 1 + c class c) for a frame's quanta; quanta 0 lets go at once. -/
def State.pauseSet (s : State) (p i quanta : Nat) : State :=
  let x := s.port p
  let v := if quanta = 0 then none else some (s.time.ticks + s.pauseTicks p quanta)
  (s.setPort p { x with stopUntil := x.stopUntil.set i v }).pausedBit p

/-- PAUSE_EXPIRY. -/
def execPauseExpiry (p : Fin 64) (i : Fin 9) (s : State) : Host.Outcome State Fault Refusal :=
  let x := s.port p
  match x.stopUntil.getD i none with
  | some t =>
    if t ≤ s.time.ticks then .next ((s.setPort p { x with stopUntil := x.stopUntil.set i none }).pausedBit p) else .next s
  | none => .next s

/-! ## Counters (R128) -/

/-- Every counter of a port reads 0. -/
def State.cntClear (s : State) (p : Nat) : State :=
  (List.range 128).foldl (fun s i => s.wr (A.oct (p / 8) (R.LINE_PORT_CNT + 512 * (p % 8) + 4 * i)) 0) s

/-- PORT_CNT_CLR: a write of LINE_PORT_CNT_CLR; bit 0 clears. -/
def execPortCntClr (m : Master) (p : Fin 64) (v : Word) (s : State) : Host.Outcome State Fault Refusal :=
  .next (s.asWrite m (portA p R.LINE_PORT_CNT_CLR) (fun s => if natBit v.toNat 0 then s.cntClear p else s))

/-! ## Sleep (R129, R130) -/

/-- Byte `i` of a 64-byte register array. -/
def State.arrayByte (s : State) (a i : Nat) : Nat := s.fld (a + 4 * (i / 4)) (8 * (i % 4)) 8

/-- Bytes 0 to 63 equal the wake pattern under the mask. -/
def State.wakeMatches (s : State) (p : Nat) (frame : List Byte) : Bool :=
  let pat := A.oct (p / 8) (R.LINE_PORT_WPAT + 128 * (p % 8))
  let mask := A.oct (p / 8) (R.LINE_PORT_WMASK + 128 * (p % 8))
  (List.range 64).all (fun i =>
    ((frame.getD i 0).toNat &&& s.arrayByte mask i) == (s.arrayByte pat i &&& s.arrayByte mask i))

/-- The last four bytes of a frame are the CRC-32 of the rest, least significant byte first. -/
def fcsGood (frame : List Byte) : Bool :=
  4 ≤ frame.length && leNat (frame.drop (frame.length - 4)) == crc32Std (frame.take (frame.length - 4))

/-- Half of LINE_PORT_WAKE: 0 WAKE_CNT, 1 WAKE_DROP. -/
def State.wakeCount (s : State) (p half : Nat) : State :=
  if s.ctl.snapFrozen then s
  else s.setFld (portA p R.LINE_PORT_WAKE) (16 * half) 16 (s.fld (portA p R.LINE_PORT_WAKE) (16 * half) 16 + 1)

/-- WAKE_MATCH: a frame of 64 bytes or more that matches, with a good FCS, while the detector's link is aligned. -/
def execWakeMatch (p : Fin 64) (frame : List Byte) (s : State) : Host.Outcome State Fault Refusal :=
  if s.portState p = .sleep ∧ (s.port p).waking = false ∧ (s.port p).linkLost = false ∧ 64 ≤ frame.length ∧
      fcsGood frame = true ∧ s.wakeMatches p frame = true then
    .next ((s.setPort p { s.port p with waking := true }).wakeCount p 0)
  else .next s

/-- WAKE_COMPLETE: UP, or DOWN if the link was lost; WAKE raised. -/
def execWakeComplete (p : Fin 64) (s : State) : Host.Outcome State Fault Refusal :=
  let x := s.port p
  if s.portState p = .sleep ∧ x.waking = true then
    let s := s.setPort p { x with waking := false, linkLost := false }
    .next ((s.setPortState p (if x.linkLost then .down else .up)).raise 2 (p.val / 8) (16 + p.val % 8))
  else .next s

/-! ## Modules (R132 to R134) -/

def modEvt (s : State) (c : Nat) : State := s.setRbit (A.modm (R.SYS_MOD_EVT_LO + 4 * (c / 32))) (c % 32) true

/-- Every enabled port on the cage's lanes goes to HELD or out of it (R84, R133). -/
def State.cagePorts (s : State) (c : Nat) : State :=
  let e := (s.cage c).expect
  let held := (s.cage c).held
  (List.range 64).foldl
    (fun s p =>
      if e.role == 1 && s.portEn p && decide (e.firstLane ≤ p) && decide (p < e.firstLane + e.lanes) then
        if held then
          (if s.portState p = .held then s
           else ((s.setPort p { s.port p with waking := false })).setPortState p .held)
        else if s.portState p = .held then s.portStart p else s
      else s) s

def State.cageHold (s : State) (c : Nat) (held : Bool) : State := (s.setCage c { s.cage c with held := held }).cagePorts c

/-- Latched flags read from a module are kept; a newly set one raises MOD_FLAG (R133). -/
def State.modFlags (s : State) (c flags : Nat) : State :=
  let a := A.modm (R.SYS_MOD_FLAGS + 4 * c)
  let old := (s.rd a).toNat
  let new := old ||| natField flags 0 9
  if new = old then s else (modEvt (s.wr a (BitVec.ofNat 32 new)) c).raise 0 7 2

def accStatA : Nat := A.modm R.SYS_MOD_ACC_STAT

/-- For an offset of 128 or more, the bank goes to byte 126 and the page to byte 127 of the module first (R134). -/
def State.modAccSelect (s : State) (v : Nat) : State :=
  let bank := natField v 16 8
  let page := natField v 8 8
  if 128 ≤ natField v 24 8 then
    (s.emit (.cmisWrite (natField v 0 6) bank page 126 [BitVec.ofNat 8 bank])).emit
      (.cmisWrite (natField v 0 6) bank page 127 [BitVec.ofNat 8 page])
  else s

/-- A write of SYS_MOD_ACC_CTRL whose OP starts an access (R134). -/
def State.modAccStart (s : State) (v : Nat) (write : Bool) : State :=
  if s.line.modAcc.isSome then (s.setFld accStatA 1 3 4).raise 0 7 5
  else
    let s := s.wr (A.modm R.SYS_MOD_ACC_CTRL) (BitVec.ofNat 32 (natSetField v 6 2 0))
    let s := s.setFld accStatA 0 4 0
    if 256 < natField v 24 8 + s.fld (A.modm R.SYS_MOD_ACC_LEN) 0 8 then (s.setFld accStatA 1 3 3).raise 0 7 5
    else if !(s.cage (natField v 0 6)).present then (s.setFld accStatA 1 3 2).raise 0 7 5
    else (({ s with line := { s.line with modAcc := some write } } : State).setRbit accStatA 0 true).modAccSelect v

/-- MOD_ACC_READ. -/
def execModAccRead (m : Master) (v : Word) (s : State) : Host.Outcome State Fault Refusal :=
  .next (s.asWrite m (A.modm R.SYS_MOD_ACC_CTRL) (fun s => s.modAccStart v.toNat false))

/-- The bytes of SYS_MOD_ACC_DATA the access uses. -/
def State.modAccBytes (s : State) : List Byte :=
  (List.range (s.fld (A.modm R.SYS_MOD_ACC_LEN) 0 8)).map (fun i => BitVec.ofNat 8 (s.arrayByte (A.modm R.SYS_MOD_ACC_DATA) i))

/-- The bytes of a write leave toward the module: cage, bank, page, offset and data (R134). -/
def State.modAccSend (s : State) : State :=
  let a := A.modm R.SYS_MOD_ACC_CTRL
  s.emit (.cmisWrite (s.fld a 0 6) (s.fld a 16 8) (s.fld a 8 8) (s.fld a 24 8) s.modAccBytes)

/-- MOD_ACC_WRITE. -/
def execModAccWrite (m : Master) (v : Word) (s : State) : Host.Outcome State Fault Refusal :=
  .next (s.asWrite m (A.modm R.SYS_MOD_ACC_CTRL) (fun s =>
    let t := s.modAccStart v.toNat true
    if s.line.modAcc = none ∧ t.line.modAcc = some true then t.modAccSend else t))

/-- A byte list as data of a register array, byte 0 in bits 7:0 of its first word. -/
def State.putArray (s : State) (a : Nat) (l : List Byte) : State :=
  (l.zipIdx).foldl (fun s p => s.setFld (a + 4 * (p.2 / 4)) (8 * (p.2 % 4)) 8 p.1.toNat) s

end Sys2Proof.Machine
end

