-- ==== Sys2Proof/Machine/Forward.lean ====
section
/-! DEFINITION. Acceptance by an ingress pipeline (R16, R228) and the decision of a packet (spec 07, R170 to R191, R197). -/

namespace Sys2Proof.Machine

/-! ## Acceptance -/

/-- A counted packet is dropped: the in-flight count of its version falls (R236). -/
def State.dropPkt (s : State) (k : Pkt) : State := s.inflSub k.odd

/-- Packet joins the input FIFO; one that is stamped takes its version and counts (R228, R236). -/
def State.ingressTake (s : State) (i : Nat) (k : Pkt) (stamp : Bool) : State :=
  let r : Pkt × State :=
    if stamp then
      let odd := s.verAt s.wt
      ({ k with odd := odd, accepted := s.wt, proc := none }, s.inflAdd odd)
    else s.meetPkt k
  let p := r.2.pipe i
  r.2.setPipe i { p with fifo := p.fifo ++ [r.1] }

/-- The first non-empty of the recirculation, host and processor inputs from the one asked next: 0, 1 or 2. -/
def PipeSt.nextInput (p : PipeSt) : Option Nat :=
  let l := [p.recircIn, p.hostIn, p.procIn]
  ((List.range 3).map (fun j => (p.rr + j) % 3)).find? (fun j => !(l.getD j []).isEmpty)

/-- INGRESS_ACCEPT: a line packet when one waits (dropped where the FIFO of 512 is full), else the next of the other inputs. -/
def execIngressAccept (i : Fin 16) (s : State) : Host.Outcome State Fault Refusal :=
  let p := s.pipe i
  let full := decide (512 ≤ p.fifo.length)
  if s.rgnRuns (pipeRegion i) && !s.blkHeld (pipeRegion i) (i % 4) then
    match p.lineIn with
    | k :: r =>
      let t := s.setPipe i { p with lineIn := r }
      if full then .next ((t.bump (A.ip i R.PIPE_PARSE_OVERRUN)).raise (pipeRegion i) (i % 4) 0)
      else .next (t.ingressTake i k true)
    | [] =>
      if full then .next s
      else
        match p.nextInput with
        | some 0 => match p.recircIn with
          | k :: r => .next ((s.setPipe i { p with recircIn := r, rr := 1 }).ingressTake i { k with kind := 3 } false)
          | [] => .next s
        | some 1 => match p.hostIn with
          | k :: r => .next ((s.setPipe i { p with hostIn := r, rr := 2 }).ingressTake i k true)
          | [] => .next s
        | some _ => match p.procIn with
          | k :: r => .next ((s.setPipe i { p with procIn := r, rr := 0 }).ingressTake i k true)
          | [] => .next s
        | none => .next s
  else .next s

/-! ## Pieces of a decision -/

/-- A statistics pair counts a packet: bytes are header-vector bytes 2 and 3 plus TBL_STAT_ADJ (R195). -/
def State.statCount (s : State) (k : Pkt) (idx : Nat) : State :=
  if s.ctl.snapFrozen then s
  else
    let e := s.tabN 7 6 0x40 idx
    let n := ((hvField k 2 2 : Int) + signedOf 8 (s.fld (regAddr 7 6 R.TBL_STAT_ADJ) 0 8))
    let packets := (natField e 0 64 + 1) % 2 ^ 64
    let bytes := patternOf 64 ((natField e 64 64 : Int) + n)
    s.setTabN 7 6 0x40 idx (packets + bytes * 2 ^ 64)

/-- A direct-index entry in the packet's version. -/
def State.direct (s : State) (k : Pkt) (block table idx : Nat) : Nat := verCopy (s.tabN 7 block table idx) k.ver

/-- CLASS of a parsed packet. -/
def pktClass (k : Pkt) : Nat := hvByte k 24

def State.fwdProfile (s : State) (i : Nat) (k : Pkt) : Nat := s.ipTab i 0x05 (pktClass k)

/-- HASH0 or HASH1 of the header vector. -/
def pktHash (k : Pkt) (one : Bool) : Nat := hvField k (if one then 32 else 28) 4

/-- The entry that an indirection descriptor names for the packet (R157); an invalid descriptor gives an invalid entry. -/
def State.indEntry (s : State) (i : Nat) (k : Pkt) (n : Nat) : Nat :=
  let d := s.tabN (pipeRegion i) 8 0x10 n
  if natBit d 31 then
    s.tabN (pipeRegion i) 8 0x11 (natField d 0 18 + pktHash k (natBit d 22) / 2 ^ natField d 23 5 % 2 ^ natField d 18 4)
  else 0

/-- VALUE of an indirection entry of the wanted KIND; another KIND counts in TBL_IND_MISS (R173). -/
def State.indRead (s : State) (i : Nat) (k : Pkt) (n kind : Nat) : Option Nat × State :=
  let e := s.indEntry i k n
  if natField e 30 2 = kind then (some (natField e 0 30), s)
  else (none, (s.bump (regAddr 7 5 R.TBL_IND_MISS)).raise 7 5 2)

/-- A slice's entry (R408). -/
def State.sliceEntry (s : State) (n : Nat) : Nat := s.tabN 0xC 1 0xF0 n

/-- The queue pair of a packet for a slice: the one an indirection entry names, else queue pair 0 of the slice, its QP_BASE (R173, R415). -/
def State.sliceQp (s : State) (i : Nat) (k : Pkt) (slice : Nat) : Nat × State :=
  let prof := s.fwdProfile i k
  let base := natField (s.sliceEntry slice) 64 16
  if natBit prof 27 then
    let r := s.indRead i k (natField prof 40 8) 1
    ((r.1.getD base) % 65536, r.2)
  else (base, s)

/-- A decision's packet: its destination, rewrite index and traffic class; none where the packet is dropped. -/
def pktTo (k : Pkt) (d : Dest) (tc rewrite : Nat) : Option Pkt := some { k with dest := d, tc := tc, rewrite := rewrite }

/-- A drop for a next hop that is invalid or names an unassigned local port (R13, R189). -/
def State.nhInvalid (s : State) : State := (s.bump (regAddr 7 5 R.TBL_NH_INVALID)).raise 7 5 0

/-- A packet to a system port; local ports 70 to 127 are unassigned. -/
def State.toSysPort (s : State) (k : Pkt) (port tc rewrite : Nat) : Option Pkt × State :=
  if 70 ≤ port % 128 then (none, s.nhInvalid) else (pktTo k (.unicast port) tc rewrite, s)

/-- A packet to a slice. -/
def State.toSlice (s : State) (i : Nat) (k : Pkt) (slice tc rewrite : Nat) : Option Pkt × State :=
  let q := s.sliceQp i k slice
  (pktTo k (.slice slice q.1) tc rewrite, q.2)

/-- The next hop of an index (R189). -/
def State.useNextHop (s : State) (i : Nat) (k : Pkt) (c : LookCtx) (n : Nat) : Option Pkt × State :=
  let e := s.tabN 7 5 0x20 n
  if s.meets 7 5 then (none, s.absentDrop (pipeRegion i))
  else if !natBit e (if k.ver then 1 else 0) then (none, s.nhInvalid)
  else
    let s := if natBit e 46 then s.statCount k ((s.rd (regAddr 7 5 R.TBL_STAT_NH_BASE)).toNat % 2 ^ 21 + n) else s
    let tc := match c.emTc with | some t => t | none => if natBit e 45 then natField e 42 3 else c.inTc
    let rw_ := natField e 22 20
    let dest := natField e 5 17
    match natField e 2 3 with
    | 0 => s.toSysPort k dest tc rw_
    | 1 => (pktTo k (.multicast (dest % 65536)) tc rw_, s)
    | 2 => (pktTo k (.processor (dest % 65536)) tc rw_, s)
    | 4 => s.toSlice i k (dest % 4096) tc rw_
    | _ => (none, s)

/-- The member of an ECMP group that a packet takes (R190, R191): its next hop, or none where group and members are invalid. -/
def State.ecmpMember (s : State) (i : Nat) (k : Pkt) (g : Nat) : Option Nat × State :=
  let prof := s.fwdProfile i k
  let copy := s.direct k 5 0x21 g
  let count := natField copy 22 9 + 1
  let base := natField copy 1 21
  let pick : Nat × State :=
    if natBit prof 26 then
      let r := s.indRead i k (natField prof 32 8) 2
      match r.1 with
      | some v => (v % count, r.2)
      | none => (scaled (pktHash k (natBit prof 24)) count, r.2)
    else (scaled (pktHash k (natBit prof 24)) count, s)
  let s := pick.2
  let m (j : Nat) : Nat := s.tabN 7 5 0x22 (base + j)
  let invalid : Option Nat × State := (none, (s.bump (regAddr 7 5 R.TBL_ECMP_INVALID)).raise 7 5 1)
  if !natBit copy 0 then invalid
  else if natBit (m pick.1) 23 then (some (natField (m pick.1) 0 20), s)
  else if natBit (m ((pick.1 + 1) % count)) 23 then (some (natField (m ((pick.1 + 1) % count)) 0 20), s)
  else invalid

/-- TC of a packet whose decision has no next hop. -/
def LookCtx.tc (c : LookCtx) : Nat := match c.emTc with | some t => t | none => c.inTc

/-- A decision is carried out (R173). -/
def State.carryOut (s : State) (i : Nat) (k : Pkt) (c : LookCtx) (x : Choice) : Option Pkt × State :=
  match x with
  | .nextHop n => s.useNextHop i k c n
  | .ecmp g =>
    if s.meets 7 5 then (none, s.absentDrop (pipeRegion i))
    else
      let r := s.ecmpMember i k g
      match r.1 with
      | some n => r.2.useNextHop i k c n
      | none => (none, r.2)
  | .drop => (none, s)
  | .processor ch => (pktTo k (.processor ch) c.tc 0, s)
  | .slice n =>
    let prof := s.fwdProfile i k
    if natBit prof 28 then
      let r := s.indRead i k (natField prof 48 8) 3
      r.2.toSlice i k ((r.1.getD n) % 4096) c.tc 0
    else s.toSlice i k n c.tc 0
  | .unicast p => s.toSysPort k p c.tc 0
  | .multicast g => (pktTo k (.multicast g) c.tc 0, s)

/-- KIND and INDEX of an LPM entry or VRF copy. -/
def routeChoice (kind index : Nat) : Choice :=
  match kind with
  | 0 => .nextHop index
  | 1 => .ecmp index
  | 2 => .drop
  | _ => .processor index

/-! ## EM lookups (R161, R172) -/

/-- One EM lookup: the entry that matches, its hit bit set and its pair counted. -/
def State.emPacket (s : State) (i : Nat) (k : Pkt) (enBit tabBit maskBit : Nat) : Option Nat × State :=
  let prof := s.ipTab i 0x04 (pktClass k)
  let t := natField prof tabBit 6
  let cfg := s.emCfg t
  if !natBit prof enBit || !natBit cfg 0 || emBuckets cfg == 0 then (none, s)
  else
    match s.emLookup t (leNat (hvSelect k 0 128 (natField prof maskBit 128)) % 2 ^ (8 * emKeyBytes (emSize cfg))) k.ver with
    | none => (none, s)
    | some p =>
      let e := s.emEntry t p
      let s := s.setEmHit t p true
      (some e, if natBit e 92 then s.statCount k (natField e 93 21) else s)

def emKind (e : Nat) : Nat := natField e 64 4

/-- The EM result that stands: EM0's where both decide. -/
def emStands (e0 e1 : Option Nat) : Option Nat :=
  let real (e : Option Nat) : Option Nat := match e with | some x => if emKind x = 0 then none else some x | none => none
  match real e0 with
  | some x => some x
  | none => real e1

def emChoice (e : Nat) : Option Choice :=
  let n := natField e 72 20
  match emKind e with
  | 1 => some (.nextHop n)
  | 2 => some (.ecmp n)
  | 3 => some .drop
  | 4 => some (.processor n)
  | 5 => some (.slice n)
  | _ => none

/-- Steps 1 and 2 of R170: the ingress entries, the EM lookups, and what they give. -/
def State.lookStart (s : State) (i : Nat) (k : Pkt) : LookCtx × State :=
  let host := k.kind == 1
  let port := s.direct k 4 0x31 (hvByte k 0 % 128)
  let slice := if host then s.direct k 4 0x32 (hvField k 4 2) else 0
  let a := s.emPacket i k 72 80 128
  let b := a.2.emPacket i k 73 88 256
  let em := emStands a.1 b.1
  let vrf := match em with
    | some e => if emKind e = 6 then some (natField e 72 14) else none
    | none => none
  let vrf := match vrf with
    | some v => v
    | none => if host && natBit slice 14 then natField slice 0 14 else if natBit port 14 then natField port 0 14 else 0
  let bd := if host && natBit slice 27 then some (natField slice 15 12)
    else if natBit port 27 then some (natField port 15 12) else none
  let emTc := match em with | some e => if natBit e 68 then some (natField e 69 3) else none | none => none
  (⟨em.bind emChoice, emTc, natField (if host then slice else port) 29 3, vrf, bd,
    natBit port 28 || (host && natBit slice 28)⟩, b.2)

/-! ## Bridging (R197) -/

/-- The source lookup: HIT, a move request or a learn request. -/
def State.bridgeSource (s : State) (i : Nat) (k : Pkt) (bd : Nat) (learn : Bool) : State :=
  let r := i / 4
  let prof := s.fwdProfile i k
  let mac := hvField k (natField prof 16 8) 6
  let own := s.deviceId * 128 + hvByte k 0 % 128
  let slice := if k.kind = 1 then k.slice % 4096 + 4096 else 0
  match s.lrnFind r bd mac with
  | some p =>
    let e := s.lrnEntry r p
    if leDest e = own ∧ leSlice e = slice then s.lrnPut r p (natSetField e 2 1 1)
    else if !leStatic e && s.rbit (lrnA r R.PIPE_LRN_CTRL) 1 then s.lrnRequest r (.move bd mac own slice)
    else s
  | none => if learn && s.rbit (lrnA r R.PIPE_LRN_CTRL) 0 then s.lrnRequest r (.learn bd mac own slice) else s

/-- MODE BRIDGE: the destination and source lookups. -/
def State.bridge (s : State) (i : Nat) (k : Pkt) (c : LookCtx) : Option Choice × State :=
  match c.bd with
  | none => (none, s)
  | some bd =>
    let copy := s.direct k 4 0x34 bd
    if !natBit copy 17 then (none, s)
    else
      let r := i / 4
      let mac := hvField k (natField (s.fwdProfile i k) 8 8) 6
      let group := natBit mac 40
      let x : Choice × State :=
        match (if group then none else s.lrnFind r bd mac) with
        | some p =>
          let e := s.lrnEntry r p
          (if natBit (leSlice e) 12 then .slice (leSlice e % 4096) else .unicast (leDest e), s)
        | none => (.multicast (natField copy 0 16), if group then s else s.bump (lrnA r R.PIPE_BRIDGE_FLOOD))
      (some x.1, x.2.bridgeSource i k bd (c.learn && natBit copy 16))

/-! ## The end of a lookup -/

/-- Step 4: the ingress associative array. `none` where the packet leaves with no decision of the ranks. -/
inductive AscOut where
  | choice (x : Choice)
  | nothing
  | leaves (x : Choice)
  deriving DecidableEq, Repr

def ascChoice (w : Nat) : Option Choice :=
  match awKind w with
  | 1 => some (.nextHop (awIndex w))
  | 2 => some (.ecmp (awIndex w))
  | 3 => some .drop
  | 4 => some (.processor (awIndex w))
  | 5 => some (.slice (awIndex w))
  | _ => none

def State.ascIngress (s : State) (i : Nat) (k : Pkt) : AscOut × State :=
  let a : ArrayRef := ⟨⟨i / 4 % 4, Nat.mod_lt _ (by decide)⟩, false⟩
  let prof := s.arrTab a 0x60 (pktClass k)
  let p := s.part a (natField prof 1 4)
  if !natBit prof 0 || !partEn p then (.nothing, s)
  else
    let r := s.ascPacket a (i % 4) p (leNat (hvSelect k 0 128 (natField prof 128 128))) k.ver
    match r.1 with
    | .hit w =>
      let e := r.2.ascWords a w
      let s := if awStatsEn e then r.2.statCount k (awStatIdx e) else r.2
      (match ascChoice e with | some x => .choice x | none => .nothing, s)
    | .miss => (.nothing, r.2)
    | .abandon =>
      (match natField p 30 2 with
        | 1 => .leaves .drop
        | 2 => .leaves (.processor (natField p 32 16))
        | _ => .nothing, r.2)

/-- The packet needs a block of its lookups before the next hop that does not answer (R456): DIR always, EM, LPM, LRN and ASI as
its profiles ask for them. -/
def State.lookAbsent (s : State) (i : Nat) (k : Pkt) : Bool :=
  let cls := s.ipTab i 0x04 (pktClass k)
  let mode := natField (s.fwdProfile i k) 0 3
  s.meets 7 4 || ((natBit cls 72 || natBit cls 73) && s.meets 7 3) || ((mode == 1 || mode == 2) && s.meets 7 1) ||
    (mode == 4 && s.meets (pipeRegion i) 9) ||
    (natBit (s.tabN (pipeRegion i) 10 0x60 (pktClass k)) 0 && s.meets (pipeRegion i) 10)

/-- Ranks 1 to 4 of R172, then the decision. -/
def State.lookEnd (s : State) (i : Nat) (k : Pkt) (c : LookCtx) (mode : Option Choice) : Option Pkt × State :=
  let a := s.ascIngress i k
  let s := a.2
  let prof := s.fwdProfile i k
  let miss : Choice := if natBit prof 25 then .processor (natField prof 64 16) else .drop
  let x : Choice := match a.1 with
    | .choice x => x
    | .leaves x => x
    | .nothing => match c.em with
      | some x => x
      | none => mode.getD miss
  let r := s.carryOut i k c x
  match r.1 with
  | some k => (some k, r.2)
  | none => (none, r.2.dropPkt k)

/-- Decisions ready at the head of the order leave toward the buffer. -/
def releaseReady : List RelEnt → List Pkt × List RelEnt
  | .ready k :: r => let x := releaseReady r; (k :: x.1, x.2)
  | l => ([], l)

def State.release (s : State) (i : Nat) : State :=
  let p := s.pipe i
  let x := releaseReady p.release
  s.setPipe i { p with release := x.2, toBuf := p.toBuf ++ x.1 }

/-- A decision joins the release order. -/
def State.pushReady (s : State) (i : Nat) (k : Option Pkt) : State :=
  match k with
  | some k => let p := s.pipe i; (s.setPipe i { p with release := p.release ++ [.ready k] }).release i
  | none => s

/-! ## Route lookups (R181 to R187) -/

/-- A probe of a candidate, counted. -/
def State.probeCand (s : State) (i : Nat) (v6 : Bool) (vrf addr : Nat) (odd : Bool) (c : Cand) : Option Nat × State :=
  let k := routeKey v6 vrf addr c.len
  let hit := s.probe c.far k odd
  if c.far then (hit, s.bump64 (regAddr 7 7 R.TBL_FAR_PROBES))
  else
    let s := s.bump64 (lpmA (R.TBL_LPM_PROBES + 0x20 * i))
    (hit, if hit.isNone && natBit (s.lpmDesc k.index) 2 then s.bump (lpmA (R.TBL_LPM_FALSE + 0x20 * i)) else s)

/-- Candidates probed in order, at most `n`: the entry of the first real hit, and the candidates left. -/
def probeCands (i : Nat) (v6 : Bool) (vrf addr : Nat) (odd : Bool) : Nat → List Cand → State → Option Nat × List Cand × State
  | 0, l, s => (none, l, s)
  | _ + 1, [], s => (none, [], s)
  | n + 1, c :: r, s =>
    let x := s.probeCand i v6 vrf addr odd c
    match x.1 with
    | some e => (some e, [], x.2)
    | none => probeCands i v6 vrf addr odd n r x.2

/-- Family and address of a routed packet. -/
def State.routeAddr (s : State) (i : Nat) (k : Pkt) : Bool × Nat :=
  let prof := s.fwdProfile i k
  if natField prof 0 3 = 2 then (true, hvField k (natField prof 8 8) 16) else (false, hvField k (natField prof 8 8) 4)

/-- The VRF default of a packet's version. -/
def State.vrfDefault (s : State) (k : Pkt) (vrf : Nat) : Choice :=
  let copy := s.direct k 4 0x33 vrf
  routeChoice (natField copy 0 2) (natField copy 2 20)

def slotChoice (e : Nat) : Choice := routeChoice (slotKind e) (slotIndex e)

/-- What the MODE lookup does with a packet. -/
inductive ModeOut where
  | done (x : Option Choice)
  | long (l : List Cand)
  | far (l : List Cand)
  deriving DecidableEq, Repr

/-- The fast lane of a route lookup: at most 6 probes. -/
def State.routeLook (s : State) (i : Nat) (k : Pkt) (vrf : Nat) : ModeOut × State :=
  let s := s.bump64 (lpmA (R.TBL_LPM_LOOKUPS + 0x20 * i))
  let copy := s.direct k 4 0x33 vrf
  if !natBit copy 22 then (.done none, s.bump (lpmA (R.TBL_LPM_NOVRF + 0x20 * i)))
  else
    let fa := s.routeAddr i k
    let l := s.candidates fa.1 vrf fa.2 (natBit copy 23)
    if l.any (·.far) then (.far l, s)
    else
      let r := probeCands i fa.1 vrf fa.2 k.ver 6 l s
      match r.1, r.2.1 with
      | some e, _ => (.done (some (slotChoice e)), r.2.2)
      | none, [] => (.done (some (s.vrfDefault k vrf)), r.2.2)
      | none, c :: rest => (.long (c :: rest), r.2.2)

/-- Step 3: the MODE lookup of the profile. -/
def State.modeLook (s : State) (i : Nat) (k : Pkt) (c : LookCtx) : ModeOut × State :=
  let prof := s.fwdProfile i k
  match natField prof 0 3 with
  | 1 => s.routeLook i k c.vrf
  | 2 => s.routeLook i k c.vrf
  | 3 =>
    let copy := s.direct k 4 0x30 (hvField k (natField prof 8 8) 3 / 16)
    let n := natField copy 2 20
    (.done (match natField copy 0 2 with | 1 => some (.nextHop n) | 2 => some (.ecmp n) | 3 => some (.processor n) | _ => none), s)
  | 4 => let r := s.bridge i k c; (.done r.1, r.2)
  | _ => (.done none, s)

/-- LOOKUP: the oldest packet in dispatch order, once parsed. A lookup that needs the long-probe lane waits while the lane's 16 places are
taken; one with far candidates goes to the far lane, or is dropped where its 256 places are. -/
def execLookup (i : Fin 16) (s : State) : Host.Outcome State Fault Refusal :=
  match (s.pipe i).order with
  | .parsed k :: rest =>
    let t := s.setPipe i { s.pipe i with order := rest }
    if s.lookAbsent i k then .next ((t.absentDrop (pipeRegion i)).dropPkt k)
    else
      let m := t.meetPkt k
      let k := m.1
      let a := m.2.lookStart i k
      let b := a.2.modeLook i k a.1
      match b.1 with
      | .done x => let r := b.2.lookEnd i k a.1 x; .next (r.2.pushReady i r.1)
      | .long l =>
        let p := b.2.pipe i
        if 16 ≤ p.longLane.length then .next s
        else
          .next (((b.2.setPipe i { p with
            longLane := p.longLane ++ [(p.longNext, ⟨k, a.1, l⟩)], longNext := p.longNext + 1
            release := p.release ++ [.waiting p.longNext] }).bump (lpmA (R.TBL_LPM_LONG + 0x20 * i.val))).raise 7 1 2)
      | .far l =>
        let p := b.2.pipe i
        if 256 ≤ p.farLane.length then
          .next (((b.2.bump (regAddr 7 7 R.TBL_FAR_DROP)).raise 7 7 1).dropPkt k)
        else .next (b.2.setPipe i { p with farLane := p.farLane ++ [⟨k, a.1, l⟩] })
  | _ => .next s

/-- The far bucket that a candidate probes. -/
def State.farAddr (s : State) (i : Nat) (x : LaneEnt) (c : Cand) : Nat :=
  let fa := s.routeAddr i x.pkt
  s.farBase + 64 * s.farBucket (routeKey fa.1 x.ctx.vrf fa.2 c.len)

/-- The remaining probes of a lane's lookup, and the decision. A probe of an uncorrectable far bucket ends the lookup with its profile's
MISS, rank 4 of R172 (R439). -/
def State.laneEnd (s : State) (i : Nat) (y : LaneEnt) : Option Pkt × State :=
  let m := s.meetPkt y.pkt
  let s := m.2
  let x : LaneEnt := { y with pkt := m.1 }
  let fa := s.routeAddr i x.pkt
  let bad (c : Cand) : Bool := c.far && s.hbmMeets (s.farAddr i x c) 64
  let l := x.cands.takeWhile (fun c => !bad c)
  let r := probeCands i fa.1 x.ctx.vrf fa.2 x.pkt.ver l.length l s
  match r.1, x.cands.find? bad with
  | some e, _ => r.2.2.lookEnd i x.pkt x.ctx (some (slotChoice e))
  | none, some c => (((r.2.2.bump64 (regAddr 7 7 R.TBL_FAR_PROBES)).hbmUeRead (s.farAddr i x c) 64).ueDrop (s.farAddr i x c)).lookEnd i
      x.pkt x.ctx none
  | none, none => r.2.2.lookEnd i x.pkt x.ctx (some (s.vrfDefault x.pkt x.ctx.vrf))

/-- LONG_PROBE_LOOKUP: the lane's oldest lookup completes; its decision takes its place in dispatch order. -/
def execLongProbeLookup (i : Fin 16) (s : State) : Host.Outcome State Fault Refusal :=
  match (s.pipe i).longLane with
  | (id, x) :: rest =>
    let r := (s.setPipe i { s.pipe i with longLane := rest }).laneEnd i x
    let p := r.2.pipe i
    let rel := match r.1 with
      | some k => p.release.map (fun e => if e = .waiting id then .ready k else e)
      | none => p.release.filter (fun e => e != .waiting id)
    .next ((r.2.setPipe i { p with release := rel }).release i)
  | [] => .next s

/-- A far probe of the lookup would meet an absent far table (R456). -/
def State.farAbsent (s : State) (i : Nat) (x : LaneEnt) : Bool :=
  s.meets 7 7 || s.rgnDown 0x0D || x.cands.any (fun c => c.far && s.hbmDown (s.farAddr i x c))

/-- A packet entered on a line port of this device: it counts against that port and class (R280). -/
def Pkt.fromLine (k : Pkt) : Bool := k.kind == 0 && k.srcDev == 0

/-- Packets of a pipeline that are still ahead of its toBuf list, in the order of R17. -/
def State.pipeHolds (s : State) (i : Nat) : List Pkt :=
  let p := s.pipe i
  p.lineIn ++ p.fifo ++ p.order.filterMap (fun o => match o with | .parsed k => some k | .running e => some (s.engine i e).pkt) ++
    p.release.filterMap (fun r => match r with | .ready k => some k | .waiting _ => none) ++ p.longLane.map (·.2.pkt)

/-- An earlier frame of the packet's 8-lane port is still inside the pipeline pair (R17). -/
def State.behindPair (s : State) (i : Nat) (k : Pkt) : Bool :=
  k.fromLine && k.exc.isNone && modeLanes (s.portMode k.port) == 8 &&
  ((s.pipeHolds (i / 2 * 2 + (1 - i % 2)) ++ (s.pipe (i / 2 * 2 + (1 - i % 2))).toBuf).any (fun o =>
    o.fromLine && o.port == k.port && o.exc.isNone && decide (o.seq < k.seq)))

/-- The forwarding key of a route lookup: its family, VRF and address. -/
def State.farKey (s : State) (i : Nat) (x : LaneEnt) : (Bool × Nat) × Nat := (s.routeAddr i x.pkt, x.ctx.vrf)

/-- An earlier packet of the same port and forwarding key is still in a far lane, or an earlier frame of the 8-lane port has still to
reach one (R17, R187). -/
def State.behindFar (s : State) (i : Nat) (n : Nat) (x : LaneEnt) : Bool :=
  let pair := i / 2 * 2 + (1 - i % 2)
  let same (y : LaneEnt) := y.pkt.fromLine == x.pkt.fromLine && y.pkt.port == x.pkt.port
  ((s.pipe i).farLane.take n).any (fun y => same y && s.farKey i y == s.farKey i x) ||
  s.behindPair i x.pkt ||
  (s.pipe pair).farLane.any (fun y => same y && x.pkt.fromLine && decide (y.pkt.seq < x.pkt.seq) && s.farKey pair y == s.farKey i x)

/-- FAR_LOOKUP: lookup `n` of the far lane completes; far lookups complete in their own order, without prefetch,
but those of one port and forwarding key in arrival order (R17). -/
def execFarLookup (i : Fin 16) (n : Fin 256) (s : State) : Host.Outcome State Fault Refusal :=
  let p := s.pipe i
  match p.farLane[n.val]? with
  | some x =>
    let t := s.setPipe i { p with farLane := p.farLane.eraseIdx n.val }
    if s.behindFar i n.val x then .next s
    else if s.farAbsent i x then .next ((t.absentDrop (pipeRegion i)).dropPkt x.pkt)
    else
      let r := t.laneEnd i x
      match r.1 with
      | some k => let p := r.2.pipe i; .next (r.2.setPipe i { p with toBuf := p.toBuf ++ [k] })
      | none => .next r.2
  | none => .next s

end Sys2Proof.Machine
end

