-- ==== Sys2Proof/Machine/Queues.lean ====
section
/-! DEFINITION. Queues and the egress hierarchy (spec 11, R273 to R281, R290 to R295) with the buffer's admission, replication and
spill (spec 10, R250 to R264). -/

namespace Sys2Proof.Machine

def voqA (off : Nat) : Nat := regAddr 0x11 0 off
def eqA (off : Nat) : Nat := regAddr 0x12 0 off
def schA (off : Nat) : Nat := regAddr 0x12 1 off
def pfcA (off : Nat) : Nat := regAddr 0x12 3 off

/-! ## Queues as data -/

def isEq (key : Nat) : Bool := decide (2 ^ 20 ≤ key)

def State.queue (s : State) (key : Nat) : QSt := spGet (fun _ => QSt.reset) s.buf.queues key
def State.setQueue (s : State) (key : Nat) (x : QSt) : State :=
  { s with buf := { s.buf with queues := spPut (fun _ => QSt.reset) s.buf.queues key x } }

/-- Region of a queue, and its admission entry, counters and curve profile. -/
def qRegion (key : Nat) : Nat := if isEq key then 0x12 else 0x11
def State.qAdmit (s : State) (key : Nat) : Nat :=
  if isEq key then s.tabN 0x12 0 0x95 (key - 2 ^ 20) else s.tabN 0x11 0 0x80 key

/-- Cells of a stored packet. -/
def QEnt.cellCount (e : QEnt) : Nat := cellsFor e.pkt.bytes.length

/-- Bytes of a stream record (R256). -/
def QEnt.recordBytes (e : QEnt) : Nat :=
  if e.share.isSome then 16 else 48 + (e.pkt.bytes.length + 15) / 16 * 16

def natSum (l : List Nat) : Nat := l.foldl (· + ·) 0

def QSt.onChip (q : QSt) : Nat := natSum (q.items.map QEnt.cellCount)
def QSt.spilled (q : QSt) : Nat := natSum ((q.toSpill ++ q.stream).map QEnt.recordBytes)
def QSt.hasStream (q : QSt) : Bool := !q.toSpill.isEmpty || !q.stream.isEmpty
def QSt.holds (q : QSt) : Bool := !q.items.isEmpty || q.hasStream

/-- The length x of a queue (R276): on-chip cells, and spilled bytes ÷ 256 rounded up. -/
def QSt.length (q : QSt) : Nat := q.onChip + (q.spilled + 255) / 256

/-- Counters of a queue: 0 sent packets, 1 sent bytes, 2 dropped packets, 3 dropped bytes. -/
def State.qCount (s : State) (key c n : Nat) : State :=
  if s.ctl.snapFrozen then s
  else
    let r := qRegion key
    let t := if isEq key then 0x96 else 0x81
    let i := if isEq key then key - 2 ^ 20 else key
    s.setTabN r 0 t i (natSetField (s.tabN r 0 t i) (64 * c) 64 (natField (s.tabN r 0 t i) (64 * c) 64 + n))

/-! ## Shared pools, curves, lossless classes -/

/-- Shared use of a region (R276): on-chip use above QMIN, over its queues. -/
def State.sharedUsed (s : State) (eq : Bool) : Nat :=
  natSum ((s.buf.queues.filter (fun p => isEq p.1 == eq)).map (fun p => p.2.onChip - natField (s.qAdmit p.1) 32 20))

def State.sharedSize (s : State) (eq : Bool) : Nat :=
  s.fld (if eq then eqA R.QUE1_SHARED_SIZE else voqA R.QUE0_SHARED_SIZE) 0 20

/-- On-chip cells are at or above the spill threshold: the lower of SPILL_TH and the dynamic limit (R276). -/
def State.atSpillTh (s : State) (key : Nat) : Bool :=
  let a := s.qAdmit key
  let free : Int := (s.sharedSize (isEq key) : Int) - s.sharedUsed (isEq key)
  let dyn : Int := (natField a 32 20 * 128 : Nat) + (2 ^ natField a 12 4 : Nat) * free
  decide (min (((natField a 96 20 * 128 : Nat) : Int)) dyn ≤ (((s.queue key).onChip * 128 : Nat) : Int))

/-- Curve `c` (0 green, 1 yellow, 2 red, 3 ECN) of a queue's profile (R278). -/
def State.curve (s : State) (key c : Nat) : Nat :=
  natField (s.tabN (qRegion key) 2 0x88 (natField (s.qAdmit key) 4 8)) (64 * c) 64

/-- Probability of a curve at x, as a numerator and a denominator. -/
def curveProb (cv x : Nat) : Nat × Nat :=
  let lo := natField cv 0 28
  let hi := natField cv 28 28
  let pmax := natField cv 56 8
  if pmax = 0 then (0, 1)
  else if x < lo then (0, 1)
  else if hi ≤ x then (1, 1)
  else (pmax * (x - lo), 256 * (hi - lo))

/-- One test of a curve: a 16-bit random number, drawn per test and left free. -/
def State.curveTest (s : State) (key c x : Nat) : Bool × State :=
  let p := curveProb (s.curve key c) x
  (decide ((s.freeVal 16).toNat * p.2 < p.1 * 65536), s.drawn)

def State.pfcCtrl (s : State) (p : Nat) : Nat := (s.rd (pfcA (R.QUE1_PFC_CTRL + 4 * p))).toNat
def State.lossless (s : State) (k : Pkt) : Bool := k.fromLine && natBit (s.pfcCtrl k.port % 256) k.tc

/-- Live count of (p, c): cells that packets of every queue hold which entered on p with class c. -/
def State.pfcCount (s : State) (p c : Nat) : Nat :=
  natSum (s.buf.queues.map (fun q =>
    natSum (((q.2.items ++ q.2.toSpill ++ q.2.stream).filter (fun e =>
      e.pfc && !e.cells.isEmpty && e.pkt.port == p && e.pkt.tc == c)).map QEnt.cellCount)))

def State.pfcEntry (s : State) (p c : Nat) : Nat := s.tabN 0x12 3 0x98 (p * 8 + c)
def pfcXoff (e : Nat) : Nat := natField e 0 20
def pfcXon (e : Nat) : Nat := natField e 20 20
def pfcHeadroom (e : Nat) : Nat := natField e 40 20

/-- QUE1 asks the MAC for a flow-control frame: class bit (256 is PAUSE) and quanta. -/
def State.fcAsk (s : State) (p bit quanta : Nat) : State :=
  let s := s.bump (pfcA R.QUE1_PFC_SENT)
  s.setPort p { s.port p with fcReq := (s.port p).fcReq ++ [(bit, quanta)] }

def State.txQuanta (s : State) (p : Nat) : Nat := s.fld (portA p R.LINE_PORT_PFC) 16 16

/-- The frame of (p, c) in the port's mode, if LOSSLESS and the port's configuration ask for one. -/
def State.fcBit (s : State) (p c : Nat) : Option Nat :=
  let v := s.pfcCtrl p
  if !natBit (v % 256) c then none
  else if natBit v 8 then (if natBit (s.portCfg p) 8 then some 256 else none)
  else if natBit (s.portCfg p) 9 then some (2 ^ c) else none

def State.setPfcOn (s : State) (i v : Nat) : State := { s with que := { s.que with pfcOn := spPut (fun _ => 0) s.que.pfcOn i v } }

/-- The count of (p, c) has gone from `old` to what it is now (R280): LOSSLESS and the port's configuration decide the frames. -/
def State.pfcMoved (s : State) (p c old : Nat) : State :=
  let e := s.pfcEntry p c
  let new := s.pfcCount p c
  let i := p * 8 + c
  if old < pfcXoff e ∧ pfcXoff e ≤ new then
    let s := s.raise 0x12 3 0
    match s.fcBit p c with
    | some b => (s.setPfcOn i (s.time.ticks + 1)).fcAsk p b (s.txQuanta p)
    | none => s
  else if pfcXon e ≤ old ∧ new < pfcXon e then
    let s := s.setPfcOn i 0
    match s.fcBit p c with
    | some b =>
      if b = 256 then
        if (List.range 8).any (fun d => natBit (s.pfcCtrl p % 256) d && decide (pfcXon (s.pfcEntry p d) ≤ s.pfcCount p d)) then s
        else s.fcAsk p 256 0
      else s.fcAsk p b 0
    | none => s
  else s

/-- A queue takes new contents; the PFC count of a packet's port and class follows. -/
def State.setQueueFor (s : State) (key : Nat) (x : QSt) (k : Pkt) : State :=
  if k.fromLine then
    let old := s.pfcCount k.port k.tc
    (s.setQueue key x).pfcMoved k.port k.tc old
  else s.setQueue key x

/-- PFC_REFRESH: half the quanta of the last frame has passed while the count stays at XON or above. -/
def execPfcRefresh (p : Fin 64) (c : Fin 8) (s : State) : Host.Outcome State Fault Refusal :=
  let i := p.val * 8 + c.val
  let last := spGet (fun _ => 0) s.que.pfcOn i
  if last ≠ 0 ∧ pfcXon (s.pfcEntry p c) ≤ s.pfcCount p c ∧ last - 1 + s.pauseTicks p (s.txQuanta p) / 2 ≤ s.time.ticks then
    match s.fcBit p c with
    | some b => .next ((s.setPfcOn i (s.time.ticks + 1)).fcAsk p b (s.txQuanta p))
    | none => .next s
  else .next s

/-! ## Where a packet goes (R273 to R275, R415) -/

/-- A host link that BIF forms (R404). -/
def State.linkFormed (s : State) (n : Nat) : Bool :=
  let b := s.fld (regAddr 0xC 0 R.HOST_LINK_CFG) 0 2
  decide (n < (if b = 0 then 1 else if b = 1 then 2 else 4))

/-- Entry of the QUE1 port table; SHAPE_ADJ is 20 where nothing was written. -/
def State.portEntry (s : State) (p : Nat) : Nat := s.tabN 0x12 1 0x99 p ^^^ (20 * 2 ^ 64)

/-- The egress queue of a packet for local port `p`. -/
def State.egressQueue (s : State) (p tc rewrite : Nat) : Nat :=
  let e := s.portEntry p
  let g := if natBit e 19 then min (natField (s.tabN 0x12 0 0x9A rewrite) 0 16) (natField e 32 14 - 1) else 0
  natField e 0 19 + g * 8 + tc

/-- DEST of a decided packet: system port, with the queue pair of a slice in REWRITE. -/
def State.destOf (s : State) (k : Pkt) : Option (Nat × Nat) :=
  let own := s.deviceId * 128
  match k.dest with
  | .unicast p => some (p, k.rewrite)
  | .processor _ => some (own + 68, k.rewrite)
  | .slice n qp => some (own + 64 + natField (s.sliceEntry n) 1 2, qp)
  | _ => none

def State.carrier (s : State) (d : Nat) : Nat := natField (s.tabN 0x11 1 0x87 d) 0 6

/-- The queue of a system port. -/
def State.queueOf (s : State) (sysPort tc rewrite : Nat) : Nat :=
  let d := sysPort / 128
  let p := sysPort % 128
  if d = s.deviceId then eqKey (s.egressQueue p tc rewrite)
  else (d * 64 + (if 64 ≤ p then s.carrier d else p)) * 8 + tc

/-! ## Admission (R277) -/

/-- What the tests decide. -/
inductive Admit where
  | onChip
  | stream
  | drop (reason : Nat)
  deriving DecidableEq, Repr

def State.admitTest (s : State) (key n : Nat) (k : Pkt) : Admit × State :=
  let a := s.qAdmit key
  let q := s.queue key
  let x := q.length
  let e := s.pfcEntry k.port k.tc
  if !natBit a 0 then (.drop 0, s)
  else if s.lossless k then
    if pfcXoff e + pfcHeadroom e ≤ s.pfcCount k.port k.tc then (.drop 1, s)
    else if natField a 64 28 < x + n then (.drop 2, s)
    else (if q.hasStream then .stream else .onChip, s)
  else if natField a 64 28 < x + n then (.drop 2, s)
  else
    let c := min k.color 2
    let p := curveProb (s.curve key c) x
    let t : Bool × State := if !k.ect || p.1 == p.2 then s.curveTest key c x else (false, s)
    if t.1 then (.drop 3, t.2)
    else if q.hasStream || t.2.atSpillTh key then (if natBit a 2 then .stream else .drop 4, t.2)
    else (.onChip, t.2)

/-- An admission drop: the region's counter of its reason and the queue's drop counters. -/
def State.admitDrop (s : State) (key reason : Nat) (k : Pkt) : State :=
  let a := if isEq key then eqA (R.QUE1_DROP + 4 * reason) else voqA (R.QUE0_DROP + 4 * reason)
  let s := ((s.bump a).qCount key 2 1).qCount key 3 k.bytes.length
  s.raiseIf (reason == 1) 0x12 3 1

/-- SHARED_LOW: shared use above 90 % of the pool. -/
def State.sharedLow (s : State) (eq : Bool) : State :=
  s.raiseIf (decide (s.sharedSize eq * 9 < s.sharedUsed eq * 10)) (if eq then 0x12 else 0x11) 0 1

/-- An entry joins a queue's on-chip part or waits for its stream. -/
def State.enqueue (s : State) (key : Nat) (e : QEnt) (stream : Bool) : State :=
  let q := s.queue key
  let q := if q.holds then q else { q with tick := s.time.ticks }
  (s.setQueueFor key (if stream then { q with toSpill := q.toSpill ++ [e] } else { q with items := q.items ++ [e] }) e.pkt).sharedLow
    (isEq key)

/-- A local host link that BIF does not form drops the packet (R404). -/
def State.noLink (s : State) (sysPort : Nat) : Bool :=
  sysPort / 128 == s.deviceId && decide (64 ≤ sysPort % 128) && decide (sysPort % 128 ≤ 67) && !s.linkFormed (sysPort % 128 - 64)

/-- The speed condition of cut-through to a system port (R259). -/
def State.ctSpeed (s : State) (k : Pkt) (sysPort : Nat) : Bool :=
  sysPort / 128 != s.deviceId || decide (64 ≤ sysPort % 128) ||
    decide (modeSpeed (s.portMode (sysPort % 128)) ≤ modeSpeed (s.portMode k.port))

/-- The conditions under which a packet may be enqueued before its tail is written: at its source those of R259, at its destination
those of R260. That the queue places it on-chip is tested at its admission. -/
def State.ctMay (s : State) (k : Pkt) (key sysPort : Nat) : Bool :=
  (match k.dest with | .unicast _ => true | _ => false) && decide (256 ≤ k.bytes.length) &&
  (if k.srcDev = 0 then
     s.rbit (cellA R.BUF_CT_CTRL) 0 && k.fromLine && natBit (s.rd64 (cellA R.BUF_CT_SRC_LO)) k.port && natBit (s.qAdmit key) 1 &&
       s.ctSpeed k sysPort
   else
     s.rbit (cellA R.BUF_CT_CTRL) 1 && k.cut &&
       (decide (64 ≤ sysPort % 128) || decide (modeSpeed (s.portMode (sysPort % 128)) ≤ Config.peerSpeed (k.srcDev - 1) k.port)))

/-- A packet finds no general cell (R250). -/
def State.noCell (s : State) : State := (s.bump (cellA R.BUF_NOCELL)).raise 0x13 0 0

/-- An unshared packet that needs cells beyond those it holds: all of them, or for a cut-through one as many as there are from its first
256 bytes on, its tail then bad (R250, R259). -/
def State.store (s : State) (k : Pkt) (held : List Nat) (ct : Bool) : Option (Pkt × List Nat) × State :=
  let n := cellsFor k.bytes.length - held.length
  match s.allocCells 0 n with
  | some r => (some (k, held ++ r.1), r.2)
  | none =>
    let r := s.allocUpTo 0 n
    if ct ∧ 2 ≤ held.length + r.1.length then
      (some ({ k with bytes := k.bytes.take (256 * (held.length + r.1.length) - 32), bad := true }, held ++ r.1), r.2.noCell)
    else (none, s.noCell)

/-- A packet that leaves the device's count with the cells it holds. -/
def State.dropHeld (s : State) (k : Pkt) (held : List Nat) : State := (s.freeCells held).dropPkt k

/-- BAD_TAIL outcome of a packet dropped whole while queued (R260). -/
def State.badDropped (s : State) (k : Pkt) : State :=
  ((s.bump (cellA (if k.srcDev = 0 then R.BUF_BAD_DROP else R.BUF_BAD_RX_DROP))).raise 0x13 0 2).dropPkt k

/-- An admitted packet takes its cells and its place. -/
def State.admitted (s : State) (k : Pkt) (key : Nat) (ct : Bool) (held : List Nat) (stream : Bool) : State :=
  match s.store k held ct with
  | (some (k, cells), s) => s.enqueue key ⟨k, cells, none, true, ct, false, false, 0, k.fromLine⟩ stream
  | (none, s) => s.dropHeld k held

/-- A unicast packet arrives at its queue. `ct`: its tail is not written yet; `held`: the cells it has from its reassembly. -/
def State.admitUnicast (s : State) (k : Pkt) (sysPort rewrite : Nat) (ct : Bool) (held : List Nat) : State :=
  let key := s.queueOf sysPort k.tc rewrite
  let k := { k with rewrite := rewrite }
  if s.noLink sysPort then (s.bump (regAddr 0xC 0 R.HOST_NOLINK)).dropHeld k held
  else if s.meets (qRegion key) 0 || s.meets (qRegion key) 2 then (s.absentDrop 0x13).dropHeld k held
  else
    let ct := ct && s.ctMay k key sysPort
    if k.bad && !ct then (s.freeCells held).badDropped k
    else
      let t := s.admitTest key (cellsFor k.bytes.length) k
      match t.1 with
      | .drop r => (t.2.admitDrop key r k).dropHeld k held
      | .onChip => t.2.admitted k key ct held false
      | .stream => if k.bad then (t.2.freeCells held).badDropped k else t.2.admitted k key false held true

/-- A multicast packet joins the replication FIFO with its cells (R262). -/
def State.joinRepl (s : State) (k : Pkt) (group : Nat) (remote : Bool) (held : List Nat) : State :=
  if s.meets 0x13 2 then s.dropHeld k held
  else if k.bad then (s.freeCells held).badDropped k
  else if 4096 ≤ s.buf.repl.length then ((s.bump (replA R.BUF_REPL_FIFO_DROP)).raise 0x13 2 0).dropHeld k held
  else
    match s.store k held false with
    | (some (k, cells), s) =>
      let e : QEnt := ⟨{ k with dest := .multicast group }, cells, none, true, false, remote, false, 0, k.fromLine⟩
      { s with buf := { s.buf with repl := s.buf.repl ++ [e] } }
    | (none, s) => s.dropHeld k held

/-- The packet is one the ESP engine takes: parsed, not an exception packet, its CLASS enabled (R365). -/
def State.espTakes (s : State) (k : Pkt) : Bool :=
  k.exc.isNone && !k.hv.isEmpty && natBit (s.tabN 8 1 0xD2 (pktClass k)) 0

/-- PACKET_ADMIT: the oldest packet that a pipeline has sent toward the buffer. -/
def execPacketAdmit (i : Fin 16) (ct : Bool) (s : State) : Host.Outcome State Fault Refusal :=
  match (s.pipe i).toBuf with
  | [] => .next s
  | k :: r =>
    if s.behindPair i k || s.espTakes k then .next s
    else
      let s := s.setPipe i { s.pipe i with toBuf := r }
      if s.rgnDown 0x0D || s.rgnDown 0x10 || s.meets 0x13 0 then .next ((s.absentDrop (pipeRegion i)).dropPkt k)
      else match k.dest with
        | .multicast g => .next (s.joinRepl k g false [])
        | _ =>
          match s.destOf k with
          | some (p, rw_) => .next (if 70 ≤ p % 128 then s.nhInvalid.dropPkt k else s.admitUnicast k p rw_ ct [])
          | none => .next (s.dropPkt k)

/-! ## Replication (R261 to R264) -/

/-- A refused copy: its entry's counter, and the copy's release or free. -/
def State.copyRefused (s : State) (entry : Nat) (e : QEnt) : State :=
  let s := if s.ctl.snapFrozen then s else s.setTabN 0x13 2 0x52 entry ((s.tabN 0x13 2 0x52 entry + 1) % 2 ^ 48)
  s.payloadDone e

/-- One copy of a replication entry. -/
def State.makeCopy (s : State) (o : QEnt) (group entry : Nat) (share : Option Nat) (owner : Bool) : State :=
  let t := s.tabN 0x13 2 0x51 entry
  let device := natBit t 0
  let own := s.deviceId
  let tc := if natBit t 42 then natField t 39 3 else o.pkt.tc
  let base : QEnt := { o with share := share, owner := owner, remote := false }
  if device && o.remote then s.payloadDone base
  else if device && natField t 1 10 == own then ((s.bump (replA R.BUF_REPL_SELF)).raise 0x13 2 2).payloadDone base
  else
    let sysPort := (if device then natField t 1 10 else own) * 128 + natField t 11 7
    let rw_ := if device then group else if natBit t 38 then natField t 18 20 else o.pkt.rewrite
    let e : QEnt := { base with pkt := { o.pkt with dest := .unicast sysPort, tc := tc, rewrite := rw_ }, remote := device }
    let key := s.queueOf sysPort tc rw_
    if 70 ≤ sysPort % 128 then s.nhInvalid.copyRefused entry e
    else if s.noLink sysPort then (s.bump (regAddr 0xC 0 R.HOST_NOLINK)).copyRefused entry e
    else if s.meets (qRegion key) 0 || s.meets (qRegion key) 2 then (s.absentDrop 0x13).copyRefused entry e
    else
      let r := s.admitTest key e.cellCount e.pkt
      match r.1 with
      | .drop reason => (r.2.admitDrop key reason e.pkt).copyRefused entry e
      | .onChip => (r.2.inflAdd o.pkt.odd).enqueue key e false
      | .stream => (r.2.inflAdd o.pkt.odd).enqueue key e true

/-- REPL_EXPAND: the oldest packet of the FIFO. -/
def execReplExpand (s : State) : Host.Outcome State Fault Refusal :=
  match s.buf.repl with
  | [] => .next s
  | o :: rest =>
    let s : State := { s with buf := { s.buf with repl := rest } }
    let group := match o.pkt.dest with | .multicast g => g | _ => 0
    let g := s.tabN 0x13 2 0x50 group
    let n := natField g 19 11
    if !natBit g 0 then
      -- A packet of another device that this one cannot expand is counted (R264); the spec names no counter (assumption 88).
      .next (((if o.remote then s.bump (replA R.BUF_REPL_NOSHARE) else s).freeCells o.cells).dropPkt o.pkt)
    else if n = 1 then .next ((s.makeCopy o group (natField g 1 18) none true).dropPkt o.pkt)
    else
      match s.freeShare 131072 0 with
      | none => .next ((((s.bump (replA R.BUF_REPL_NOSHARE)).raise 0x13 2 1).freeCells o.cells).dropPkt o.pkt)
      | some r =>
        let s := s.setShareRec r ⟨n - 1, false, o.cells⟩
        .next (((List.range n).foldl (fun s j =>
          s.makeCopy o group (natField g 1 18 + j) (some r) (j + 1 == n)) s).dropPkt o.pkt)

/-! ## Spill (R256 to R258) -/

/-- A packet descriptor as it stands in a record (R253): HEAD 0 where the record carries the data. -/
def State.descriptor (s : State) (e : QEnt) : Nat :=
  let k := e.pkt
  let port := match k.dest with | .unicast p => p | .processor _ => s.deviceId * 128 + 68 | _ => (s.destOf k).elim 0 (·.1)
  (if e.share.isSome then e.cells.headD 0 else 0) + k.bytes.length % 2 ^ 14 * 2 ^ 20 + (if k.odd then 2 ^ 34 else 0) +
  (if k.bad then 2 ^ 35 else 0) + (if e.share.isSome then 2 ^ 37 else 0) + (if e.owner then 2 ^ 38 else 0) +
  (if e.remote then 2 ^ 39 else 0) + port % 2 ^ 17 * 2 ^ 40 + k.tc % 8 * 2 ^ 57 + k.rewrite % 2 ^ 20 * 2 ^ 60 +
  e.share.getD 0 * 2 ^ 80 + k.color % 4 * 2 ^ 97 + (if k.ect then 2 ^ 99 else 0) + k.kind % 4 * 2 ^ 100 + k.ipLoc % 8 * 2 ^ 102

/-- Link entry of the `j`-th cell of a stored packet (R252): NEXT, and on the last cell LAST, BAD and its bytes minus 1. -/
def QEnt.link (e : QEnt) (j : Nat) : Nat :=
  if j + 1 < e.cells.length then e.cells.getD (j + 1) 0
  else 2 ^ 20 + (if e.pkt.bad then 2 ^ 21 else 0) + (e.pkt.bytes.length + 31 - 256 * j) % 256 * 2 ^ 22

/-- Packets that hold cells of the general area: queued, waiting for their stream, or waiting for their copies. -/
def State.storedPackets (s : State) : List QEnt := s.buf.queues.flatMap (fun q => q.2.items ++ q.2.toSpill) ++ s.buf.repl

/-- BUF's link memory at a cell that a packet holds, as the packets that hold cells give it. -/
def State.linkEntry (s : State) (ptr : Nat) : Option Nat :=
  s.storedPackets.findSome? (fun e => (e.cells.findIdx? (fun c => c == ptr)).map e.link)

/-- The pointer to the next packet of its queue in a packet's descriptor slot (R254), by the HEAD cell: none at the tail. -/
def State.nextHead (s : State) (key head : Nat) : Option Nat :=
  let l := (s.queue key).items.map (fun e => e.cells.headD 0)
  (l.findIdx? (fun c => c == head)).bind (fun i => l[i + 1]?)

/-- The 32-byte prefix (R251). -/
def packetPrefix (k : Pkt) : List Byte :=
  (List.range 16).map (fun j => k.hv.getD (40 + j) 0) ++ [k.hv.getD 24 0, k.hv.getD 20 0, k.hv.getD 21 0] ++
  [BitVec.ofNat 8 (k.port % 128)] ++ (List.range 12).map (fun j => k.hv.getD (8 + j) 0)

/-- A record's bytes. -/
def State.recordOf (s : State) (e : QEnt) : List Byte :=
  if e.share.isSome then leBytes 16 (s.descriptor e)
  else
    leBytes 16 (s.descriptor e) ++ packetPrefix e.pkt ++ e.pkt.bytes ++
      List.replicate ((e.pkt.bytes.length + 15) / 16 * 16 - e.pkt.bytes.length) 0

/-- Page-table entry of a page: NEXT and VALID. -/
def State.ptabWrite (s : State) (page next : Nat) : State :=
  s.hbmWrite (s.rd64 (spillA R.BUF_SPILL_PTAB_LO) + 8 * page) (leBytes 8 (next + 2 ^ 31))

/-- Pages taken until a stream's pages reach byte position `upto`, chained in the page table; none where no page is left. -/
def growPages : Nat → Nat → List Nat → State → Option (List Nat × State)
  | 0, upto, pages, s => if upto ≤ pages.length * 4096 then some (pages, s) else none
  | n + 1, upto, pages, s =>
    if upto ≤ pages.length * 4096 then some (pages, s)
    else
      match s.takePage with
      | none => none
      | some (p, s) =>
        let s := match pages.getLast? with | some q => s.ptabWrite q p | none => s
        growPages n upto (pages ++ [p]) (s.ptabWrite p 0)

/-- Pieces of the `n` bytes of a stream from a position on: address and length within each page. -/
def State.streamPieces (s : State) (pages : List Nat) (pos n : Nat) : List (Nat × Nat) :=
  (List.range ((pos % 4096 + n + 4095) / 4096)).map (fun j =>
    let lo := max pos ((pos / 4096 + j) * 4096)
    let hi := min (pos + n) ((pos / 4096 + j + 1) * 4096)
    (s.spillPage (pages.getD (pos / 4096 + j) 0) + lo % 4096, hi - lo))

/-- Bytes written into a stream's pages from a position on. -/
def State.streamWrite (s : State) (pages : List Nat) (pos : Nat) (l : List Byte) : State :=
  let s := (l.zipIdx).foldl (fun s b => s.hbmWrite (s.spillPage (pages.getD ((pos + b.2) / 4096) 0) + (pos + b.2) % 4096) [b.1]) s
  (s.streamPieces pages pos l.length).foldl (fun s p => s.hbmClean p.1 p.2) s

/-- A spill drop: 0 FULL, 1 BANDWIDTH (R258). -/
def State.spillDrop (s : State) (e : QEnt) (r : Nat) : State :=
  ((((s.bump (spillA (R.BUF_SPILL_DROP + 4 * r))).raise 0x13 1 0).payloadDone e).dropPkt e.pkt)

/-- Pages that hold the `n` bytes of a stream from a position on. -/
def recordPages (pages : List Nat) (pos n : Nat) : List Nat := (pages.take ((pos + n + 4095) / 4096)).drop (pos / 4096)

/-- SPILL_WRITE: the oldest packet that waits for a queue's stream. `late`: it could not enter the write path within 2 µs. -/
def execSpillWrite (q : QueueRef) (late : Bool) (s : State) : Host.Outcome State Fault Refusal :=
  let key := queueKey q
  let x := s.queue key
  match x.toSpill with
  | [] => .next s
  | e :: r =>
    let gone := s.setQueueFor key { x with toSpill := r } e.pkt
    if !s.rgnWorks 0x13 || s.blkHeld 0x13 1 then .next s
    else if late then .next (gone.spillDrop e 1)
    else if s.pagesWait ((x.wpos + e.recordBytes + 4095) / 4096 - x.pages.length) then .next s
    else
      match growPages (e.recordBytes / 4096 + 2) (x.wpos + e.recordBytes) x.pages s with
      | none => .next (gone.spillDrop e 0)
      | some (pages, t) =>
        if (recordPages pages x.wpos e.recordBytes).any (fun p => t.hbmDown (t.spillPage p)) then
          .next (((gone.absentDrop 0x13).payloadDone e).dropPkt e.pkt)
        else
          let t := (t.streamWrite pages x.wpos (s.recordOf e)).bump64 (spillA R.BUF_SPILL_WR_BYTES) e.recordBytes
          let t := if e.share.isSome then t else t.freeCells e.cells
          let f := if e.share.isSome then e else { e with cells := [] }
          .next (t.setQueueFor key { x with toSpill := r, stream := x.stream ++ [f], pages := pages, wpos := x.wpos + e.recordBytes } e.pkt)

/-- Pages wholly read are returned; an empty stream returns them all and starts afresh. -/
def State.streamTrim (s : State) (key : Nat) : State :=
  let x := s.queue key
  if x.hasStream then
    let n := x.rpos / 4096
    let s := (x.pages.take n).foldl State.returnPage s
    s.setQueue key { x with pages := x.pages.drop n, rpos := x.rpos - n * 4096, wpos := x.wpos - n * 4096 }
  else (x.pages.foldl State.returnPage s).setQueue key { x with pages := [], rpos := 0, wpos := 0 }

/-- SPILL_READBACK: the stream's first record joins the on-chip part, while what was read ahead fits BUF_SPILL_AHEAD. A record that meets an
uncorrectable line is dropped, and counted in MEM_UE_DROP (R439). -/
def execSpillReadback (q : QueueRef) (s : State) : Host.Outcome State Fault Refusal :=
  let key := queueKey q
  let x := s.queue key
  let ahead := natSum ((x.items.filter (·.readBack)).map (fun e => e.pkt.bytes.length))
  match x.stream with
  | [] => .next s
  | e :: r =>
    if !s.rgnWorks 0x13 || s.blkHeld 0x13 1 || s.fld (spillA R.BUF_SPILL_AHEAD) 0 7 * 1024 < ahead + e.pkt.bytes.length ||
        (recordPages x.pages x.rpos e.recordBytes).any (fun p => s.hbmDown (s.spillPage p)) then .next s
    else if s.anyPoison && (s.streamPieces x.pages x.rpos e.recordBytes).any (fun p => s.hbmMeets p.1 p.2) then
      let l := s.streamPieces x.pages x.rpos e.recordBytes
      let t := l.foldl (fun s p => s.hbmUeRead p.1 p.2) s
      let t := match l.find? (fun p => s.hbmMeets p.1 p.2) with | some p => t.ueDrop p.1 | none => t
      let t := t.bump64 (spillA R.BUF_SPILL_RD_BYTES) e.recordBytes
      let t := t.setQueueFor key { x with stream := r, rpos := x.rpos + e.recordBytes } e.pkt
      .next (((if e.share.isSome then t.payloadDone e else t).dropPkt e.pkt).streamTrim key)
    else
      let got : Option (List Nat × State) := if e.share.isSome then some (e.cells, s) else s.allocCells 0 e.cellCount
      match got with
      | none => .next s
      | some (cells, t) =>
        let t := t.bump64 (spillA R.BUF_SPILL_RD_BYTES) e.recordBytes
        let t := t.setQueueFor key { x with items := x.items ++ [{ e with cells := cells, readBack := true }], stream := r,
                                            rpos := x.rpos + e.recordBytes } e.pkt
        .next ((t.sharedLow (isEq key)).streamTrim key)

/-! ## The egress hierarchy (R290 to R294) -/

def nodeKey (level n : Nat) : Nat := level * 2 ^ 20 + n
def State.nodeEntry (s : State) (level n : Nat) : Nat := s.tabN 0x12 1 (0x90 + level) n
def neEn (e : Nat) : Bool := natBit e 0
def nePrio (e : Nat) : Nat := natField e 1 3
def neWeight (e : Nat) : Nat := natField e 4 14
def neParent (e : Nat) : Nat := natField e 32 20

/-- Rate in kbit/s and burst in bytes of R293. -/
def rateOf (f : Nat) : Nat := natField f 0 12 * 2 ^ natField f 12 5
def burstOf (f : Nat) : Nat := (natField f 0 8 + 1) * 2 ^ natField f 8 4 * 64

def State.node (s : State) (level n : Nat) : NodeSt := spGet (fun _ => NodeSt.reset) s.que.nodes (nodeKey level n)
def State.setNode (s : State) (level n : Nat) (x : NodeSt) : State :=
  { s with que := { s.que with nodes := spPut (fun _ => NodeSt.reset) s.que.nodes (nodeKey level n) x } }

/-- Refresh period of a level in 2^-32 ns. -/
def State.epochLsb (s : State) (level : Nat) : Nat := s.fld (schA (R.QUE1_EPOCH + 4 * level)) 0 17 * lsbNs

/-- Tokens of one bucket (2^-16 byte) after `n` epochs of a level: capped at the burst; none is full. -/
def State.refilled (s : State) (level rate burst n : Nat) : Option Int → Option Int
  | none => none
  | some t =>
    let inc := divFree ((rateOf rate * s.fld (schA (R.QUE1_EPOCH + 4 * level)) 0 17 * 65536 : Nat) : Int) 8000000
    let v := t + (n : Int) * inc
    if ((burstOf burst * 65536 : Nat) : Int) ≤ v then none else some v

/-- A node as a visit finds it: every epoch begun since its last refill is added. -/
def State.visited (s : State) (level n : Nat) : NodeSt :=
  let x := s.node level n
  let e := s.nodeEntry level n
  let p := s.epochLsb level
  let k := s.wt / p - x.refill / p
  if k = 0 then x
  else { x with ctok := s.refilled level (natField e 64 17) (natField e 96 12) k x.ctok
                ptok := s.refilled level (natField e 128 17) (natField e 160 12) k x.ptok
                refill := s.wt }

/-- A bucket stands at or above 0: off (M = 0), or its tokens. -/
def bucketOk (rate : Nat) (t : Option Int) : Bool :=
  natField rate 0 12 == 0 || (match t with | none => true | some v => decide (0 ≤ v))

def State.committed (s : State) (level n : Nat) : Bool := bucketOk (natField (s.nodeEntry level n) 64 17) (s.visited level n).ctok
def State.peakOk (s : State) (level n : Nat) : Bool := bucketOk (natField (s.nodeEntry level n) 128 17) (s.visited level n).ptok

/-- Children of a node in the table of the level below it, in rising order. -/
def State.children (s : State) (level n : Nat) : List Nat :=
  ((s.tabListed 0x12 1 (0x91 + level)).filter (fun p => neEn p.2.toNat && neParent p.2.toNat == n)).map (·.1)

/-- The class of an egress queue is stopped by a PFC frame that the port honours (R281). -/
def State.classStopped (s : State) (p q : Nat) : Bool :=
  decide (p < 64) && ((s.port p).stopUntil.getD (1 + (q - natField (s.portEntry p) 0 19) % 8) none).isSome

/-- Egress pipeline of a packet for local port `p` (R13, R15). The recirculation port takes one fixed pipeline, and a packet for the
processor port that names no channel takes channel 0's (assumption 12). -/
def State.egressPipe (s : State) (p : Nat) (k : Pkt) : Nat :=
  if p < 64 then
    (if modeLanes (s.portMode p) = 8 then p / 8 * 2 + (if (s.port p).egSecond then 1 else 0)
     else if p % 8 < 4 then p / 8 * 2 else p / 8 * 2 + 1)
  else if p ≤ 67 then k.rewrite % 65536 % 16
  else if p = 68 then (match k.dest with | .processor c => c % 16 | _ => 0)
  else if k.kind = 0 then (if k.port % 8 < 4 then k.port / 8 * 2 else k.port / 8 * 2 + 1) % 16 else k.qp % 16

/-- A queue's head packet is for an egress pipeline in an absent region (R294). -/
def State.headAbsent (s : State) (p n : Nat) : Bool :=
  match (s.queue (eqKey n)).items with
  | e :: _ => s.rgnDown (pipeRegion (s.egressPipe p e.pkt))
  | [] => false

/-- A child is eligible (R291); the fuel is the number of levels below it. -/
def State.eligible (s : State) (p : Nat) : Nat → Nat → Nat → Bool
  | 0, level, n =>
    neEn (s.nodeEntry level n) && !(s.queue (eqKey n)).items.isEmpty && !s.classStopped p n && s.peakOk level n && !s.headAbsent p n
  | f + 1, level, n =>
    neEn (s.nodeEntry level n) && s.peakOk level n && (s.children level n).any (s.eligible p f (level + 1))

/-- Deficit of a child in a pass. -/
def NodeSt.deficit (x : NodeSt) (excess : Bool) : Int := if excess then x.defE else x.defC
def NodeSt.setDeficit (x : NodeSt) (excess : Bool) (d : Int) : NodeSt := if excess then { x with defE := d } else { x with defC := d }

/-- How many rounds a child needs for a positive deficit. -/
def roundsFor (d : Int) (weight : Nat) : Nat := if 0 < d then 0 else ((-d) / ((weight * 64 : Nat) : Int)).toNat + 1

/-- A node's choice of a child: committed before excess, the highest PRIO, deficit round robin from the child served last. -/
def State.chooseChild (s : State) (p level n f : Nat) : Option (Nat × Bool × State) :=
  let kids := (s.children level n).filter (s.eligible p f (level + 1))
  let com := kids.filter (s.committed (level + 1))
  let excess := com.isEmpty
  let cand := if excess then kids else com
  let prio (c : Nat) : Nat := nePrio (s.nodeEntry (level + 1) c)
  let top := cand.foldl (fun m c => max m (prio c)) 0
  let band := cand.filter (fun c => prio c == top)
  let x := s.node level n
  let ptr := if excess then x.nextE else x.nextC
  let order := band.filter (fun c => decide (ptr ≤ c)) ++ band.filter (fun c => decide (c < ptr))
  let rounds := match order.map (fun c => roundsFor ((s.node (level + 1) c).deficit excess) (neWeight (s.nodeEntry (level + 1) c))) with
    | [] => 0
    | r :: rest => rest.foldl min r
  let s := if rounds = 0 then s else order.foldl (fun s c =>
    let y := s.node (level + 1) c
    s.setNode (level + 1) c (y.setDeficit excess
      (y.deficit excess + ((rounds * neWeight (s.nodeEntry (level + 1) c) * 64 : Nat) : Int)))) s
  match order.find? (fun c => decide (0 < (s.node (level + 1) c).deficit excess)) with
  | none => none
  | some c =>
    let y := s.node level n
    some (c, excess, s.setNode level n (if excess then { y with nextE := c } else { y with nextC := c }))

/-- The path from a port node to a queue: (level, node, excess pass). -/
def choosePath (p : Nat) : Nat → Nat → Nat → State → Option (List (Nat × Nat × Bool) × Nat × State)
  | 0, _, n, s => some ([], n, s)
  | f + 1, level, n, s =>
    match s.chooseChild p level n f with
    | none => none
    | some (c, excess, s) =>
      match choosePath p f (level + 1) c s with
      | none => none
      | some (l, q, s) => some ((level + 1, c, excess) :: l, q, s)

/-- One bucket after a charge of `c` bytes: it falls below 0 by at most one charge; a charge below 0 fills it, up to its burst. -/
def chargedBucket (rate burst : Nat) (c : Int) (t : Option Int) : Option Int :=
  if natField rate 0 12 = 0 then t
  else
    let full : Int := (burstOf burst * 65536 : Nat)
    let v := t.getD full
    let w := if 0 ≤ c then max (v - c * 65536) (min v (-(c * 65536))) else v - c * 65536
    if full ≤ w then none else some w

/-- A node on the path is charged in both buckets, and in the deficit of the pass that chose it. -/
def State.chargeNode (s : State) (level n : Nat) (c : Int) (pass : Option Bool) : State :=
  let x := s.visited level n
  let e := s.nodeEntry level n
  let x := { x with ctok := chargedBucket (natField e 64 17) (natField e 96 12) c x.ctok
                    ptok := chargedBucket (natField e 128 17) (natField e 160 12) c x.ptok }
  s.setNode level n (match pass with | some b => x.setDeficit b (x.deficit b - c) | none => x)

/-- Bytes charged for a packet (R291). -/
def State.chargeBytes (s : State) (p len : Nat) : Int :=
  ((max len 60 + 4 : Nat) : Int) + signedOf 8 (natField (s.portEntry p) 64 8)

/-- A port node stops (R119, R281, R294). -/
def State.portStopped (s : State) (p : Nat) : Bool :=
  if p < 64 then
    ((s.portState p != .up && s.portState p != .sleep) && !natBit (s.portCfg p) 10) || s.portState p == .sleep ||
    ((s.port p).stopUntil.getD 0 none).isSome || s.rgnDown (pipeRegion (p / 8 * 2))
  else if p ≤ 67 then s.rgnDown 0xC
  else [3, 4, 5, 6].all s.rgnDown

/-- A packet of a queue's on-chip part leaves it: sent counters, payload, PFC count. -/
def State.dequeue (s : State) (key : Nat) (e : QEnt) (rest : List QEnt) : State :=
  let q := s.queue key
  let s := s.setQueueFor key { q with items := rest, tick := s.time.ticks } e.pkt
  s.payloadDone e

/-- The ECN test at dequeue (R279): the CE mark, and the counter of packets marked. -/
def State.ecnTest (s : State) (key x : Nat) (k : Pkt) (counter : Nat) : Pkt × State :=
  if k.ect then
    let t := s.curveTest key 3 x
    if t.1 && !k.ce then ({ k with ce := true }, t.2.bump counter) else (k, t.2)
  else (k, s)

/-- A packet selected for a port joins its egress pipeline; an 8-lane port deals its packets to the two of its pair in turn, each with
its order number (R15, R17). -/
def State.toEgress (s : State) (p : Nat) (k : Pkt) : State :=
  let i := s.egressPipe p k
  let x := s.port p
  let wide := decide (p < 64) && modeLanes (s.portMode p) == 8
  let k := if wide then { k with seq := x.egSeq } else k
  let s := if wide then s.setPort p { x with egSecond := !x.egSecond, egSeq := x.egSeq + 1 } else s
  { s with que := { s.que with egress := spPut (fun _ => []) s.que.egress i (spGet (fun _ => []) s.que.egress i ++ [⟨k, p⟩]) } }

/-- An earlier packet of the same 8-lane port waits in the other egress pipeline of the pair (R17). -/
def State.egressBehind (s : State) (i : Nat) (x : EgPkt) : Bool :=
  decide (x.port < 64) && modeLanes (s.portMode x.port) == 8 &&
  (spGet (fun _ => []) s.que.egress (i / 2 * 2 + (1 - i % 2))).any (fun o => o.port == x.port && decide (o.pkt.seq < x.pkt.seq))

/-- EGRESS_SELECT: a port node asks for a packet. `late`: a cut-through packet's bad last cell is written after its head was taken;
one whose bad tail came first is dropped whole. -/
def execEgressSelect (p : Fin 70) (late : Bool) (s : State) : Host.Outcome State Fault Refusal :=
  if s.meets 0x12 1 || s.meets 0x12 0 || s.meets 0x13 0 || s.rgnDown 0x10 || s.rgnDown 0x0D || s.portStopped p ||
      !s.eligible p 4 0 p then .next s
  else
    match choosePath p 4 0 p s with
    | none => .next s
    | some (path, q, t) =>
      match (t.queue (eqKey q)).items with
      | [] => .next s
      | e :: rest =>
        if e.pkt.bad && !late then .next ((s.dequeue (eqKey q) e rest).badDropped e.pkt)
        else
          let x := (t.queue (eqKey q)).length
          let c := t.chargeBytes p e.pkt.bytes.length
          let t := path.foldl (fun s n => s.chargeNode n.1 n.2.1 c (some n.2.2)) (t.chargeNode 0 p c none)
          let m := t.ecnTest (eqKey q) x e.pkt (eqA R.QUE1_CE_MARKED)
          let t := ((m.2.dequeue (eqKey q) e rest).qCount (eqKey q) 0 1).qCount (eqKey q) 1 e.pkt.bytes.length
          let t := t.bump64 (schA R.QUE1_SELECTS)
          let t := if e.pkt.bad then (t.bump (cellA (if e.pkt.srcDev = 0 then R.BUF_BAD_SENT else R.BUF_BAD_RX_END))).raise 0x13 0 2 else t
          .next (t.toEgress p m.1)

/-- SHAPER_EPOCH: a level's epoch has begun; its nodes refill. -/
def execShaperEpoch (l : Fin 5) (s : State) : Host.Outcome State Fault Refusal :=
  if s.time.wtValid ∧ s.rgnWorks 0x12 = true then
    .next ((s.tabListed 0x12 1 (0x90 + l)).foldl (fun s p => s.setNode l p.1 (s.visited l p.1)) s)
  else .next s

/-! ## Flushes and resets -/

/-- Ingress ports and classes whose PFC count a queue's packets enter. -/
def QSt.pfcPairs (q : QSt) : List (Nat × Nat) :=
  (((q.items ++ q.toSpill ++ q.stream).filter (·.pfc)).map (fun e => (e.pkt.port, e.pkt.tc))).eraseDups

/-- Every packet of a queue is discarded, each counted as dropped; the PFC counts follow. -/
def State.discardQueue (s : State) (key : Nat) : State :=
  let q := s.queue key
  let old := q.pfcPairs.map (fun x => (x, s.pfcCount x.1 x.2))
  let s := (q.items ++ q.toSpill).foldl (fun s e => (s.payloadDone e).dropPkt e.pkt) s
  let s := q.stream.foldl (fun s e => (if e.share.isSome then s.payloadDone e else s).dropPkt e.pkt) s
  let s := (q.pages.foldl State.returnPage s).setQueue key QSt.reset
  old.foldl (fun s x => s.pfcMoved x.1.1 x.1.2 x.2) s

/-- PFC counts restart at 0: the packets still held count no longer, and no frame is repeated (R295). -/
def State.pfcRestart (s : State) : State :=
  let off (l : List QEnt) : List QEnt := l.map (fun e => { e with pfc := false })
  { s with
    buf := { s.buf with queues := s.buf.queues.map (fun q =>
      (q.1, { q.2 with items := off q.2.items, toSpill := off q.2.toSpill, stream := off q.2.stream })) }
    que := { s.que with pfcOn := [] } }

/-- STALL_FLUSH: a virtual output queue that holds a packet but has released no byte for QUE0_VOQ_STALL µs. -/
def execStallFlush (q : Fin 524288) (s : State) : Host.Outcome State Fault Refusal :=
  let x := s.queue q
  if x.holds ∧ s.rgnWorks 0x11 = true ∧ x.tick + s.fld (voqA R.QUE0_VOQ_STALL) 0 20 * ticksPerUs ≤ s.time.ticks then
    let s := (x.items ++ x.toSpill ++ x.stream).foldl (fun s e => s.admitDrop q 5 e.pkt) s
    .next ((s.discardQueue q).raise 0x11 0 0)
  else .next s

/-! ## Tables (R276, R280, R290) -/

/-- An admission entry is written: QMIN moves shared use (R276, R298). -/
def admitTable (r : Nat) (w : WinTable) : WinTable :=
  { w with
    put := fun s i m v => let x := w.put s i m v; (x.1, if x.1 = 0 then x.2.sharedLow (r == 0x12) else x.2)
    clear := fun s i m => let x := w.clear s i m; (x.1, if x.1 = 0 then x.2.sharedLow (r == 0x12) else x.2) }

/-- A refused table or register write of QUE0 or QUE1 raises CFG_REFUSED in its block. -/
def cfgTable (r b table bytes count mask : Nat) (ok : State → Nat → Nat → Bool) : WinTable :=
  { plainTable r b table bytes count ok with
    put := fun s i _ v => if ok s i v then (0, s.setTabN r b table i (v &&& mask)) else (4, s.raise r b 2)
    clear := fun s i _ => if ok s i 0 then (0, s.setTabN r b table i 0) else (4, s.raise r b 2) }

def admitEntryOk (v : Nat) : Bool :=
  decide (natField v 12 4 ≤ 10) && !natBit v 3 && natField v 16 16 == 0 && natField v 52 12 == 0 && natField v 92 4 == 0 &&
    natField v 116 12 == 0

def curveOk (v : Nat) : Bool :=
  (List.range 4).all (fun c => natField v (64 * c + 56) 8 == 0 || decide (natField v (64 * c) 28 < natField v (64 * c + 28) 28))

/-- A rate and burst pair that R293 lets pass, at a level's period in ns. -/
def bucketEntryOk (rate burst period : Nat) : Bool :=
  let r := rateOf rate
  (r == 0 || (decide (64 ≤ r) && decide (r ≤ 1600000000))) && decide (natField burst 8 4 ≤ 10) &&
  (r == 0 || decide (r * period ≤ burstOf burst * 8000000))

def levelCount (level : Nat) : Nat :=
  match level with | 0 => 128 | 1 => 4096 | 2 => 32768 | 3 => 131072 | _ => 524288

/-- The node `f` levels above a node, by the PARENT fields between. -/
def State.nodeAbove (s : State) : Nat → Nat → Nat → Nat
  | 0, _, n => n
  | f + 1, level, n => s.nodeAbove f (level - 1) (neParent (s.nodeEntry level n))

/-- A queue below a node, or the node as a queue, holds a packet. -/
def State.nodeHolds (s : State) (level n : Nat) : Bool :=
  s.buf.queues.any (fun q => isEq q.1 && q.2.holds && s.nodeAbove (4 - level) 4 (q.1 - 2 ^ 20) == n)

/-- A node entry that R290 and R293 let pass. -/
def State.nodeOk (s : State) (level n v : Nat) : Bool :=
  let period := s.fld (schA (R.QUE1_EPOCH + 4 * level)) 0 17
  (level == 0 || decide (neParent v < levelCount (level - 1))) && !(neEn v && neWeight v == 0) &&
  bucketEntryOk (natField v 64 17) (natField v 96 12) period && bucketEntryOk (natField v 128 17) (natField v 160 12) period &&
  (level == 0 || neParent v == neParent (s.nodeEntry level n) || !s.nodeHolds level n)

/-- Bits of a node entry. -/
def nodeMask : Nat :=
  (2 ^ 18 - 1) + (2 ^ 20 - 1) * 2 ^ 32 + (2 ^ 17 - 1) * 2 ^ 64 + (2 ^ 12 - 1) * 2 ^ 96 + (2 ^ 17 - 1) * 2 ^ 128 + (2 ^ 12 - 1) * 2 ^ 160

def portEntryOk (v : Nat) : Bool := decide (natField v 0 19 + natField v 32 14 * 8 ≤ 524288)

/-- TABLE 0x99: the port table, SHAPE_ADJ 20 by default. -/
def portTable : WinTable where
  bytes := 16
  count := fun _ => 128
  get := fun s i _ => some (s.portEntry i)
  put := fun s i _ v =>
    let v := v &&& ((2 ^ 20 - 1) + (2 ^ 14 - 1) * 2 ^ 32 + 255 * 2 ^ 64)
    if portEntryOk v then (0, s.setTabN 0x12 1 0x99 i (v ^^^ (20 * 2 ^ 64))) else (4, s.raise 0x12 1 2)
  clear := fun s i _ => (0, s.setTabN 0x12 1 0x99 i (20 * 2 ^ 64))
  readClear := false

/-- TABLE 0x98: XOFF, XON, HEADROOM, and the live count in bytes 8 to 11. -/
def pfcTable : WinTable where
  bytes := 16
  count := fun _ => 512
  get := fun s i _ => some (s.tabN 0x12 3 0x98 i + s.pfcCount (i / 8) (i % 8) * 2 ^ 64)
  put := fun s i _ v => if pfcXoff v < pfcXon v then (4, s.raise 0x12 3 2) else (0, s.setTabN 0x12 3 0x98 i (v % 2 ^ 60))
  clear := fun s i _ => (0, s.setTabN 0x12 3 0x98 i 0)
  readClear := false

/-- A table that READ alone reaches. -/
def readOnlyTable (bytes count : Nat) (get : State → Nat → Nat) : WinTable where
  bytes := bytes
  count := fun _ => count
  get := fun s i _ => some (get s i)
  put := fun s _ _ _ => (3, s)
  clear := fun s _ _ => (3, s)
  readClear := false

def occupancy (s : State) (key : Nat) : Nat :=
  (s.queue key).onChip % 2 ^ 20 + ((s.queue key).spilled + 255) / 256 % 2 ^ 36 * 2 ^ 20

def admitMask : Nat := 0xFFF7 + (2 ^ 20 - 1) * 2 ^ 32 + (2 ^ 28 - 1) * 2 ^ 64 + (2 ^ 20 - 1) * 2 ^ 96

/-- Tables of QUE1's blocks EQ, SCH, ADM and PFC, and of QUE0's VOQ and ADM. -/
def queTable (r b : Nat) (table : Nat) : Option WinTable :=
  if r = 0x12 ∧ b = 0 then
    match table with
    | 0x95 => some (admitTable 0x12 (cfgTable 0x12 0 0x95 16 524288 admitMask (fun _ _ v => admitEntryOk v)))
    | 0x96 => some { plainTable 0x12 0 0x96 32 524288 (fun _ _ _ => true) with readClear := true }
    | 0x97 => some (readOnlyTable 8 524288 (fun s i => occupancy s (eqKey i)))
    | 0x9A => some (cfgTable 0x12 0 0x9A 4 1048576 0xFFFF (fun _ _ _ => true))
    | _ => none
  else if r = 0x12 ∧ b = 1 then
    (if table = 0x99 then some portTable
     else if 0x90 ≤ table ∧ table ≤ 0x94 then
       some (cfgTable 0x12 1 table 32 (levelCount (table - 0x90)) nodeMask (fun s i v => s.nodeOk (table - 0x90) i v))
     else none)
  else if b = 2 then (if table = 0x88 then some (cfgTable r 2 0x88 32 256 (2 ^ 256 - 1) (fun _ _ v => curveOk v)) else none)
  else if r = 0x12 then (if table = 0x98 then some pfcTable else none)
  else if b = 0 then
    match table with
    | 0x80 => some (admitTable 0x11 (cfgTable 0x11 0 0x80 16 524288 admitMask (fun _ _ v => admitEntryOk v)))
    | 0x81 => some { plainTable 0x11 0 0x81 32 524288 (fun _ _ _ => true) with readClear := true }
    | 0x82 => some (readOnlyTable 8 524288 occupancy)
    | _ => none
  else none

end Sys2Proof.Machine
end

