-- ==== Sys2Proof/Machine/SlotLine.lean ====
section
/-! DEFINITION. The slot on the line (spec 13, R327 to R330): its payload, the scrambler, the RS(544,514) codewords, the PAM4 levels, and
what a receive side decodes from them. A run of bits is a number whose most significant bit is the first on the line. -/

namespace Sys2Proof.Machine

/-- Bits `a` to `a + m - 1` of a run of `n` bits. -/
def bitSlice (s n a m : Nat) : Nat := (s >>> (n - a - m)) % 2 ^ m

/-! ## The scrambler (R330) -/

/-- The sequence of x^31 + x^28 + 1 from its first `n` bits on, to 200,332 bits: with n at least 31q for a power q of 2, the next 28q bits
are those 31q and 28q places before them. -/
def scrambleGo : Nat → Nat → Nat → Nat
  | 0, _, s => s
  | f + 1, n, s =>
    if 200332 ≤ n then bitSlice s n 0 200332
    else
      let q := 2 ^ Nat.log2 (n / 31)
      let m := 28 * q
      scrambleGo f (n + m) ((s <<< m) ||| (bitSlice s n (n - 31 * q) m ^^^ bitSlice s n (n - 28 * q) m))

/-- Scrambling bits of payload bits 128 to 200,459: the register's 31 ones leave it first (assumption 91). -/
def scrambleBits : Nat := scrambleGo 64 31 (2 ^ 31 - 1)

/-- A payload scrambled, or descrambled: the marker stays. -/
def scramblePayload (p : Nat) : Nat := p ^^^ scrambleBits

/-! ## The field and the code (R328) -/

/-- GF(2^10) of IEEE 802.3 Clause 91, x^10 + x^3 + 1: a symbol times α. -/
def symDouble (a : Nat) : Nat := if 512 ≤ a then (2 * a) ^^^ 0x409 else 2 * a

def symMul (a b : Nat) : Nat :=
  (List.range 10).foldl (fun r i => let r := symDouble r; if b.testBit (9 - i) then r ^^^ a else r) 0

/-- α to a power. -/
def symExp : Nat → Nat
  | 0 => 1
  | n + 1 => symDouble (symExp n)

/-- The inverse of a symbol: its 1,022nd power. -/
def symInv (a : Nat) : Nat :=
  ((List.range 9).foldl (fun (r : Nat × Nat) _ => let q := symMul r.1 r.1; (q, symMul r.2 q)) (a, 1)).2

/-- 30 symbols side by side, symbol `j` in bits 10j + 9 to 10j, each times α. -/
def symDoubleAll (v : Nat) : Nat :=
  let high := v &&& ((2 ^ 300 - 1) / 1023 * 512)
  ((v ^^^ high) <<< 1) ^^^ (high >>> 9 * 9)

/-- 30 symbols, each times the symbol `f`. -/
def symScale (f v : Nat) : Nat :=
  (List.range 10).foldl (fun r i => let r := symDoubleAll r; if f.testBit (9 - i) then r ^^^ v else r) 0

/-- The generator polynomial of Clause 91, the product of x - α^j for j from 0 to 29, without its leading term: the coefficient of x^j in
bits 10j + 9 to 10j. -/
def rsGenerator : Nat := 0x8fe282ece68a0011b235468f99448417ad07bd81eb9f7dcd69c5262305881fcb927880d0a0b

/-- The 30 parity symbols of the last `n` symbols of a run, the first symbol the highest coefficient, on top of a remainder. -/
def rsParityGo (d : Nat) : Nat → Nat → Nat
  | 0, r => r
  | n + 1, r => rsParityGo d n (((r <<< 10) % 2 ^ 300) ^^^ symScale ((r >>> 290) ^^^ ((d >>> (10 * n)) % 1024)) rsGenerator)

def rsParity (d : Nat) : Nat := rsParityGo d 514 0

/-- A codeword: 514 symbols and their parity. -/
def rsEncode (d : Nat) : Nat := (d <<< 300) ||| rsParity d

/-! ## Decoding up to 15 symbol errors (R337) -/

/-- A polynomial, its constant term first, at `x`. -/
def symEval (p : List Nat) (x : Nat) : Nat := p.foldr (fun c r => c ^^^ symMul r x) 0

def polyAdd (a b : List Nat) : List Nat := (List.range (max a.length b.length)).map (fun i => a.getD i 0 ^^^ b.getD i 0)

/-- The syndromes of a received word from its remainder: its values at α^0 to α^29. -/
def rsSyndromes (r : Nat) : List Nat :=
  let l := (List.range 30).map (fun j => (r >>> (10 * j)) % 1024)
  (List.range 30).map (fun j => symEval l (symExp j))

/-- Berlekamp-Massey: connection polynomial and length so far, the last ones before the length grew, steps since, and the discrepancy
then. -/
structure RsSearch where
  loc : List Nat
  len : Nat
  old : List Nat
  gap : Nat
  disc : Nat

def RsSearch.step (syn : List Nat) (x : RsSearch) (n : Nat) : RsSearch :=
  let d := (List.range (x.len + 1)).foldl (fun d i => d ^^^ symMul (x.loc.getD i 0) (syn.getD (n - i) 0)) 0
  if d = 0 then { x with gap := x.gap + 1 }
  else
    let f := symMul d (symInv x.disc)
    let next := polyAdd x.loc (List.replicate x.gap 0 ++ x.old.map (symMul f))
    if 2 * x.len ≤ n then ⟨next, n + 1 - x.len, x.loc, 1, d⟩ else { x with loc := next, gap := x.gap + 1 }

/-- The error at the coefficient of x^i (Forney). -/
def rsErrorAt (loc omega : List Nat) (i : Nat) : Nat :=
  let inv := symExp (1023 - i)
  let odd := ((List.range loc.length).filter (fun j => j % 2 == 1)).foldl (fun r j =>
    r ^^^ symMul (loc.getD j 0) (symExp ((1023 - i) * (j - 1) % 1023))) 0
  symMul (symExp i) (symMul (symEval omega inv) (symInv odd))

/-- A received codeword decoded: the data of the codeword within 15 symbols of it and the symbols corrected; none where there is none. -/
def rsDecode (c : Nat) : Option (Nat × Nat) :=
  let d := c >>> 300
  let r := rsParity d ^^^ (c % 2 ^ 300)
  if r = 0 then some (d, 0)
  else
    let syn := rsSyndromes r
    let x := (List.range 30).foldl (RsSearch.step syn) ⟨[1], 0, [1], 1, 1⟩
    let roots := (List.range 544).filter (fun i => symEval x.loc (symExp ((1023 - i) % 1023)) == 0)
    if 15 < x.len ∨ roots.length ≠ x.len then none
    else
      let omega := (List.range 30).map (fun n => (List.range (n + 1)).foldl (fun s i => s ^^^ symMul (x.loc.getD i 0) (syn.getD (n - i) 0)) 0)
      let fixed := roots.foldl (fun c i => c ^^^ (rsErrorAt x.loc omega i <<< (10 * i))) c
      if rsParity (fixed >>> 300) = fixed % 2 ^ 300 then some (fixed >>> 300, x.len) else none

/-! ## The payload (R327) -/

/-- Bytes as a run of bits, each most significant bit first. -/
def bytesRun (l : List Byte) : Nat := l.foldl (fun n b => n * 256 + b.toNat) 0

/-- The payload: marker and slot header, 91 cells, 7 fill frames and the pad, both zero. -/
def slotPayload (head : List Byte) (cells : List (List Byte)) : Nat :=
  (cells.foldl (fun n c => (n <<< 2176) ||| bytesRun c) (bytesRun head)) <<< (7 * 256 + 12)

/-- The bytes of a payload from bit `a` on. -/
def payloadBytes (p a n : Nat) : List Byte := (List.range n).map (fun j => BitVec.ofNat 8 (bitSlice p 200460 (a + 8 * j) 8))

/-! ## The levels (R328) -/

/-- PAM4 levels of a run of bits, two bits a level: Gray coding, its own inverse. -/
def grayPairs (n bits : Nat) : Nat := bits ^^^ ((bits >>> 1) &&& (4 ^ n / 3))

/-- The guard: levels 0 and 3 in turn for 5,440 bit times. -/
def guardLevels : Nat := (16 ^ 1360 - 1) / 15 * 3

/-- Codewords 0 to 38 of a scrambled payload. -/
def slotCodewords (p : Nat) : List Nat := (List.range 39).map (fun i => rsEncode (bitSlice p 200460 (5140 * i) 5140))

/-- A slot on the line: the levels of guard and codewords, two bits each. -/
def slotLine (head : List Byte) (cells : List (List Byte)) : BitVec 217600 :=
  let words := (slotCodewords (scramblePayload (slotPayload head cells))).foldl (fun n w => (n <<< 5440) ||| w) 0
  BitVec.ofNat 217600 ((guardLevels <<< 212160) ||| grayPairs 106080 words)

/-! ## What a receive side makes of the levels after the guard (R330, R336 to R338) -/

/-- Received codewords, before decoding. -/
def lineWords (v : BitVec 212160) : List Nat :=
  let bits := grayPairs 106080 v.toNat
  (List.range 39).map (fun i => bitSlice bits 212160 (5440 * i) 5440)

/-- The marker's place differs from the marker in at most 8 of its 128 raw bits. -/
def rawMarkerNear (v : BitVec 212160) (marker : Nat) : Bool :=
  let d := bitSlice (grayPairs 106080 v.toNat) 212160 0 128 ^^^ marker
  decide (((List.range 128).filter (fun i => d.testBit i)).length ≤ 8)

/-- The decoded codewords: none where one cannot be corrected. -/
def lineDecoded (v : BitVec 212160) : List (Option (Nat × Nat)) := (lineWords v).map rsDecode

/-- The payload, descrambled; the bits of a codeword that cannot be corrected stand as they came. -/
def linePayload (v : BitVec 212160) : Nat :=
  scramblePayload (((lineWords v).zip (lineDecoded v)).foldl (fun n w => (n <<< 5140) ||| (w.2.elim (w.1 >>> 300) (·.1))) 0)

end Sys2Proof.Machine

namespace Sys2Proof

open Sys2Proof.Machine

/-- Codeword 0, which holds the marker and the header, decodes. -/
def RxSlot.cw0 (x : RxSlot) : Bool := (((lineWords x.line).head?).bind rsDecode).isSome

/-- The decoded marker and header, 80 bytes, descrambled. -/
def RxSlot.head (x : RxSlot) : List Byte :=
  let d := (((lineWords x.line).head?).bind rsDecode).elim 0 (·.1)
  payloadBytes (scramblePayload (d <<< (38 * 5140))) 0 80

/-- The 91 cells, none where a byte lies in a codeword that cannot be corrected. -/
def RxSlot.cells (x : RxSlot) : List (Option (List Byte)) :=
  let p := linePayload x.line
  let ok := (lineDecoded x.line).map (·.isSome)
  (List.range 91).map (fun i =>
    let a := 640 + 2176 * i
    if ok.getD (a / 5140) false && ok.getD ((a + 2175) / 5140) false then some (payloadBytes p a 272) else none)

/-- Corrected symbols, and codewords that cannot be corrected. -/
def RxSlot.corrected (x : RxSlot) : Nat := (lineDecoded x.line).foldl (fun n d => n + d.elim 0 (·.2)) 0
def RxSlot.uncorrectable (x : RxSlot) : Nat := ((lineDecoded x.line).filter (·.isNone)).length

end Sys2Proof
end

