-- ==== Sys2Proof/Machine/Time.lean ====
section
/-! DEFINITION. Working time (spec 02): the domains and their servos, the continuity offset, switching, PPS, ToD, REF10M, the
timestamp queues and PTM. -/

namespace Sys2Proof.Machine

/-! ## Domain parameters (R66) -/

def State.domF (s : State) (d : Dom) (off lo w : Nat) : Nat := s.fld (domA d off) lo w

def State.domMode (s : State) (d : Dom) : Nat := s.domF d R.TIME_DOM_MODE 0 2
def State.domSrc (s : State) (d : Dom) : Nat := s.domF d R.TIME_DOM_MODE 2 3

/-- FLIM, itself limited to 613,567 LSB (R29). -/
def State.flim (s : State) (d : Dom) : Int := min (s.domF d R.TIME_DOM_FLIM 0 20) 613567

/-- Gain register times offset: M × 2^-E LSB per ns times an offset in 2^-16 ns (R32). -/
def State.gain (s : State) (d : Dom) (off : Nat) (theta : Int) : Int :=
  divFree ((s.domF d off 0 16 : Int) * theta) (2 ^ (s.domF d off 16 5 + 16))

/-- Raise a cause of a domain's block. -/
def State.domRaise (s : State) (d : Dom) (k : Nat) : State := s.raise 1 (domBlock d) k

/-- The domain working time starts on (R35, R510). -/
def State.startDom (s : State) : Dom := if s.rbit (A.wt R.TIME_WT_CTRL) 16 then .umber else .cobalt

/-- Time of a selected source: 0 working time, 1 Cobalt, 2 Umber (R57). -/
def State.srcTime (s : State) (src : Nat) : Nat :=
  if src = 1 then s.time.cobalt.value else if src = 2 then s.time.umber.value else s.wt

/-! ## Validity (R35) -/

/-- The second an output is to mark next: the first whose edge is not in the past. -/
def State.ppsFirst (s : State) (n : Nat) : Nat :=
  let ofs := psLsb (signedOf 32 (s.rd (A.tio (R.TIME_PPSOUT_OFS + 16 * n))).toNat)
  let v : Int := (s.srcTime (s.fld (A.tio (R.TIME_PPSOUT_CTRL + 16 * n)) 2 2) : Int) - ofs
  ((v + (lsbSec - 1 : Nat)) / (lsbSec : Int)).toNat

def State.ppsArm (s : State) (n : Nat) : State :=
  { s with time := { s.time with ppsNext := s.time.ppsNext.set n (s.ppsFirst n) } }

def State.ppsArmAll (s : State) : State := (((s.ppsArm 0).ppsArm 1).ppsArm 2).ppsArm 3

/-- The outputs whose selected time jumps with a domain: those on that domain, and, before WT_VALID, those on working time. -/
def State.ppsFollow (s : State) (d : Dom) (n : Nat) : State :=
  let src := s.fld (A.tio (R.TIME_PPSOUT_CTRL + 16 * n)) 2 2
  if src = domBlock d ∨ (src = 0 ∧ s.time.wtValid = false) then s.ppsArm n else s

def State.ppsFollowAll (s : State) (d : Dom) : State :=
  (((s.ppsFollow d 0).ppsFollow d 1).ppsFollow d 2).ppsFollow d 3

def ppsCtrlA (n : Nat) : Nat := A.tio (R.TIME_PPSOUT_CTRL + 16 * n)

/-- Pin level of an output between pulses (POL: 0 rising edge at the second). -/
def State.ppsIdle (s : State) (n : Nat) : Bool := s.rbit (ppsCtrlA n) 1

/-- Whether an output may leave its held-low level (R57, R463). -/
def State.ppsLive (s : State) (n : Nat) : Bool :=
  s.time.wtValid && s.rbit (ppsCtrlA n) 0 && s.flt.failsafe.isNone

def State.setPps (s : State) (n : Nat) (level : Bool) (at_ : Nat) : State :=
  ({ s with time := { s.time with ppsPin := s.time.ppsPin.set n level } }).emit (.pps n level at_)

/-- The level output `n` has outside its edges: low while it is held low, else its pulse's level or its level between pulses. -/
def State.ppsLevel (s : State) (n : Nat) : Bool :=
  s.ppsLive n && (if (s.time.ppsPulse.getD n none).isSome then !s.ppsIdle n else s.ppsIdle n)

/-- A change of the output's control, or WT_VALID, drives the pin to its level at once; an output that is held low has no pulse (R57). -/
def State.ppsSync (s : State) (n : Nat) : State :=
  let s : State := if s.ppsLive n then s else { s with time := { s.time with ppsPulse := s.time.ppsPulse.set n none } }
  if s.time.ppsPin.getD n false = s.ppsLevel n then s
  else s.setPps n (s.ppsLevel n) (s.srcTime (s.fld (ppsCtrlA n) 2 2))

def State.ppsSyncAll (s : State) : State := (((s.ppsSync 0).ppsSync 1).ppsSync 2).ppsSync 3

/-- Live counters that the per-second latch of LINE copies (R120). -/
def secLive : List Nat :=
  (List.range 64).flatMap (fun p => [portA p R.LINE_PORT_FEC_CORR, portA p R.LINE_PORT_FEC_UNCORR, laneA p R.LINE_LANE_SYM])

/-- The first per-second latch counts from here on: what was counted before belongs to no second of working time (R22, R23, R344). -/
def State.secStart (s : State) : State :=
  { s with
    line := { s.line with secBase := secLive.foldl (fun l a => spPut (fun _ => 0) l a (s.rd64 a)) s.line.secBase }
    fab := { s.fab with lanes := s.fab.lanes.foldl (fun l p =>
      spPut (fun _ => FLaneSt.reset) l p.1 { p.2 with sec := FLaneSt.reset.sec }) s.fab.lanes } }

/-- Working time is declared valid once START_DOM is VALID; the events of R20 start with the next slot and second (R23, R35). -/
def State.checkWtValid (s : State) : State :=
  if !s.time.wtValid && (s.dom s.startDom).valid then
    let s : State := { s with time := { s.time with wtValid := true, active := s.startDom, cont := 0 } }
    let w := s.wt
    let s : State :=
      { s with time := { s.time with
          nextSlot := slotAtOrAfter w, nextSecond := (w + (lsbSec - 1)) / lsbSec, switchFrom := slotAtOrAfter w } }
    s.secStart.ppsArmAll.ppsSyncAll.raise 1 0 4
  else s

/-- A domain becomes VALID; it loses VALID only through a chip reset. -/
def State.setValid (s : State) (d : Dom) : State :=
  if (s.dom d).valid then s.checkWtValid
  else ((s.setDom d { s.dom d with valid := true }).domRaise d 2).checkWtValid

/-- In LOCK, with the last VALIDN accepted offsets each within ±VALID_WIN. -/
def State.validMet (s : State) (d : Dom) : Bool :=
  let x := s.dom d
  let n := s.domF d R.TIME_DOM_VALID 16 8
  let win : Int := (s.domF d R.TIME_DOM_VALID 0 16 : Int) * 65536
  x.state == .lock && n ≤ x.accepted.length && (x.accepted.take n).all (fun t => -win ≤ t && t ≤ win)

def State.checkValid (s : State) (d : Dom) : State := if s.validMet d then s.setValid d else s

/-! ## The offset FIFO and the servo (R30 to R34) -/

/-- An offset arrives: a full FIFO discards it, counts it and raises FIFO_OVF. -/
def State.pushOffset (s : State) (d : Dom) (theta : Int) : State :=
  let x := s.dom d
  if 16 ≤ x.fifo.length then (s.bump (domA d R.TIME_DOM_CNT_REJ)).domRaise d 3
  else s.setDom d { x with fifo := x.fifo ++ [theta] }

/-- Every path into Snowplough: I_hold = I, a target, and SNOW_ENTER where the domain was not there yet. -/
def State.enterSnow (s : State) (d : Dom) (target : Int) : State :=
  let x := s.dom d
  let s' := s.setDom d { x with state := .snow, iHold := x.iTerm, target := target }
  if x.state = .snow then s' else s'.domRaise d 0

def listMax : List Int → Int
  | [] => 0
  | [a] => a
  | a :: r => max a (listMax r)

def listMin : List Int → Int
  | [] => 0
  | [a] => a
  | a :: r => min a (listMin r)

/-- An offset within CAPTURE (R31, its second branch). -/
def State.servoAccept (s : State) (d : Dom) (theta : Int) : State :=
  let s := s.bump (domA d R.TIME_DOM_CNT_ACC)
  let x := s.dom d
  let x : Domain :=
    { x with rejects := 0, rejected := [], lastAccept := s.time.ticks, lastOffset := theta, tookOffset := true
             accepted := (theta :: x.accepted).take 255 }
  match x.state with
  | .lock =>
    let i := clampTo (x.iTerm + s.gain d R.TIME_DOM_KI theta) (s.domF d R.TIME_DOM_ILIM 0 20)
    (s.setDom d { x with iTerm := i, freq := clampTo (s.gain d R.TIME_DOM_KP theta + i) (s.flim d) }).checkValid d
  | .snow =>
    if s.domMode d = 2 then s.setDom d x
    else if s.domF d R.TIME_DOM_SNOW 24 4 ≤ x.exits + 1 then
      ((s.setDom d { x with state := .lock, exits := 0, iTerm := x.iHold
                            freq := clampTo (s.gain d R.TIME_DOM_KP theta + x.iHold) (s.flim d) }).domRaise d 1).checkValid d
    else s.setDom d { x with exits := x.exits + 1 }
  | .free => s.setDom d x

/-- An offset outside CAPTURE (R31, its third branch). -/
def State.servoReject (s : State) (d : Dom) (theta : Int) : State :=
  let s := s.bump (domA d R.TIME_DOM_CNT_REJ)
  let x := s.dom d
  let run := (theta :: x.rejected).take 15
  let x : Domain := { x with rejects := x.rejects + 1, exits := 0, rejected := run }
  let n := s.domF d R.TIME_DOM_SNOW 20 4
  let last := run.take n
  let s := s.setDom d x
  if s.domMode d ≠ 2 ∧ n ≤ x.rejects ∧ listMax last - listMin last ≤ (s.domF d R.TIME_DOM_JUMP 0 20 : Int) * 65536 then
    s.enterSnow d (theta * 65536)
  else s

/-- One offset taken from the FIFO (R31). An offset taken in FREE, the one that steps the domain among them, counts in CNT_ACC and is
not one of the accepted offsets VALIDN looks back on (assumption 75). -/
def State.servoTake (s : State) (d : Dom) (theta : Int) : State :=
  let x := s.dom d
  match x.state with
  | .free =>
    let s := s.bump (domA d R.TIME_DOM_CNT_ACC)
    let x := s.dom d
    if s.domMode d = 1 then
      s.setDom d (({ x with lastOffset := theta, rejects := 0, rejected := [], exits := 0, lastAccept := s.time.ticks
                            tookOffset := true } : Domain).addStep (theta * 65536) true)
    else s.setDom d { x with lastOffset := theta }
  | _ =>
    let cap : Int := (s.domF d R.TIME_DOM_CAPTURE 0 20 : Int) * 65536
    if -cap ≤ theta ∧ theta ≤ cap then s.servoAccept d theta else s.servoReject d theta

/-! ## The tick (R27, R33, R36, R38) -/

/-- round(RATE × base ÷ 10^9) LSB. -/
def rateLsb (rate base : Nat) : Int := roundDiv ((rate : Int) * base) 1000000000

/-- Snowplough: the clamped F of this tick and the slew it adds in the direction of the target. -/
def snowStep (iHold target flim rate : Int) : Int × Int :=
  let dir : Int := if target < 0 then -1 else 1
  let f := clampTo (iHold + dir * rate) flim
  let added := max (dir * (f - iHold)) 0
  if target = 0 ∨ dir * target < added then (clampTo iHold flim, 0) else (f, dir * added)

/-- All time values are taken modulo 2^48 seconds. -/
def tvMod : Int := (2 ^ 48 * lsbSec : Nat)

/-- A change of a domain's value by `delta` outside its increment. After WT_VALID the continuity offset takes the opposite
change on the active domain, so that working time does not move (R36, assumption 7). -/
def State.jumpDom (s : State) (d : Dom) (delta : Int) : State :=
  let x := s.dom d
  let s := s.setDom d { x with value := (((x.value : Int) + delta) % tvMod).toNat, ppsEdge := x.ppsEdge.map (Option.map (· + delta)) }
  let s : State :=
    if s.time.wtValid && s.time.active == d then { s with time := { s.time with cont := s.time.cont - delta } } else s
  s.ppsFollowAll d

/-- One domain on one tick. During a reset of TIME it runs on its last effective increment (R12, R47). Its validity is looked at on
every tick, whatever made R35's condition true. -/
def State.tickDom (s : State) (d : Dom) : State :=
  let run := s.rgnRuns 1
  let x := s.dom d
  let x : Domain := if run && x.freeNext then { x with state := .free, freq := 0, iTerm := 0, freeNext := false } else x
  let x : Domain :=
    if !run then x
    else match x.state with
      | .free => { x with freq := 0 }
      | .lock => x
      | .snow =>
        let r := snowStep x.iHold x.target (s.flim d) (rateLsb (s.domF d R.TIME_DOM_SNOW 0 18) x.base)
        { x with freq := r.1, target := x.target - r.2 }
  let v : Int := (x.value : Int) + x.base + x.freq
  let x : Domain := { x with value := (v % tvMod).toNat, rolled := x.value / lsbSec != v.toNat / lsbSec }
  let s := s.setDom d { x with stepNext := if run then none else x.stepNext }
  if run then
    match x.stepNext with
    | some (delta, lock) =>
      let s := s.jumpDom d delta
      (if lock then s.setDom d { s.dom d with state := .lock, iTerm := 0, freq := 0 } else s).checkValid d
    | none => s.checkValid d
  else s

/-- The decay term d of a tick (R38). -/
def State.contDecay (s : State) : Int :=
  let c := s.time.cont
  let m := min (Int.natAbs c : Int) (rateLsb (s.fld (A.wt R.TIME_WT_CONT_RATE) 0 18) (s.dom s.time.active).base)
  if c < 0 then -m else m

/-- Continuity decay of one tick (R38). -/
def State.tickCont (s : State) : State :=
  if s.time.cont = 0 then s
  else
    let c := s.time.cont - s.contDecay
    ({ s with time := { s.time with cont := c } }).raiseIf (c == 0) 1 0 1

/-- The device learns the value of REF10M_IN while the input is enabled and a domain is in LOCK (R61). -/
def State.tickRef (s : State) : State :=
  if s.rgnRuns 1 && s.rbit (A.tio R.TIME_REF_CTRL) 0 && (s.time.cobalt.state == .lock || s.time.umber.state == .lock) then
    { s with time := { s.time with refTick := some s.time.ticks } }
  else s

/-! ## Register writes with an effect of their own -/

/-- The 40-bit base TIME_DOM_INCR_INT and a FRAC value give. -/
def State.newBase (s : State) (d : Dom) (frac : Nat) : Nat := s.cpValue 0xFF (domA d R.TIME_DOM_INCR_INT) * 2 ^ 32 + frac

/-- ±1,000 ppm of nominal (R28). -/
def baseInRange (b : Nat) : Bool := 3067833783 - 3067834 ≤ b && b ≤ 3067833783 + 3067834

/-- An accepted pair for TIME_DOM_INCR_FRAC: a base out of range keeps the old base and raises INCR_REFUSED (R28). -/
def State.incrFrac (s : State) (d : Dom) (v : Nat) : State :=
  let s := s.cpCheck 0xFF (domA d R.TIME_DOM_INCR_INT)
  if baseInRange (s.newBase d v) then
    let b := s.newBase d v
    let s := s.cpStore 0xFFFFFFFF (domA d R.TIME_DOM_INCR_FRAC) v
    s.setDom d { s.dom d with base := b }
  else s.domRaise d 4

/-- INCR_FRAC_WRITE. -/
def execIncrFracWrite (m : Master) (d : Dom) (datum : BitVec 64) (s : State) : Host.Outcome State Fault Refusal :=
  .next (s.asCpWrite m (domA d R.TIME_DOM_INCR_FRAC) 0xFFFFFFFF datum (fun v s => s.incrFrac d v))

/-- A write of TIME_DOM_OFS_HI pushes under SRC = FIRMWARE and is ignored under any other source (R30). -/
def State.ofsHi (s : State) (d : Dom) (v : Word) : State :=
  if s.domSrc d = 0 then
    s.pushOffset d (signedOf 64 (v.toNat * 2 ^ 32 + (s.rd (domA d R.TIME_DOM_OFS_LO)).toNat))
  else s

/-- FIRMWARE_OFFSET_PUSH. -/
def execFirmwareOffsetPush (m : Master) (d : Dom) (v : Word) (s : State) : Host.Outcome State Fault Refusal :=
  .next (s.asWrite m (domA d R.TIME_DOM_OFS_HI) (fun s => s.ofsHi d v))

/-- SERVO_OFFSET: the servo takes the oldest offset; it does not run while TIME is in reset. -/
def execServoOffset (d : Dom) (s : State) : Host.Outcome State Fault Refusal :=
  if s.rgnRuns 1 then
    match (s.dom d).fifo with
    | [] => .next s
    | theta :: r => .next ((s.setDom d { s.dom d with fifo := r }).servoTake d theta)
  else .next s

/-- SERVO_TIMEOUT: in LOCK without an accepted offset for more than TIMEOUT (R31). -/
def execServoTimeout (d : Dom) (s : State) : Host.Outcome State Fault Refusal :=
  if s.rgnRuns 1 ∧ (s.dom d).state = .lock ∧
      s.domF d R.TIME_DOM_TIMEOUT 0 24 * ticksPerUs < s.time.ticks - (s.dom d).lastAccept then
    .next (s.enterSnow d 0)
  else .next s

/-- A write of TIME_DOM_MODE: MODE = 0b11 and an undefined SRC leave their field as it is; FREE takes effect on the next
tick, FORCE_SNOW at once (R31, R34). -/
def State.domModeWrite (s : State) (d : Dom) (v : Nat) : State :=
  let a := domA d R.TIME_DOM_MODE
  let mode := if natField v 0 2 = 3 then s.domMode d else natField v 0 2
  let src := if 3 < natField v 2 3 then s.domSrc d else natField v 2 3
  let s := s.wr a (BitVec.ofNat 32 (mode + src * 4 + natField v 5 2 * 32 + natField v 16 10 * 65536))
  match natField v 0 2 with
  | 0 => s.setDom d { (s.dom d).dropLock with freeNext := true }
  | 2 => (s.setDom d { (s.dom d).dropLock with freeNext := false }).enterSnow d 0
  | _ => s

/-- MODE_FREE. -/
def execModeFree (m : Master) (d : Dom) (v : Word) (s : State) : Host.Outcome State Fault Refusal :=
  .next (s.asWrite m (domA d R.TIME_DOM_MODE) (fun s => s.domModeWrite d (natSetField v.toNat 0 2 0)))

/-- MODE_SERVO. -/
def execModeServo (m : Master) (d : Dom) (v : Word) (s : State) : Host.Outcome State Fault Refusal :=
  .next (s.asWrite m (domA d R.TIME_DOM_MODE) (fun s => s.domModeWrite d (natSetField v.toNat 0 2 1)))

/-- MODE_FORCE_SNOW. -/
def execModeForceSnow (m : Master) (d : Dom) (v : Word) (s : State) : Host.Outcome State Fault Refusal :=
  .next (s.asWrite m (domA d R.TIME_DOM_MODE) (fun s => s.domModeWrite d (natSetField v.toNat 0 2 2)))

/-- REF_HOLD_UPDATE (R34): each second, with REF_HOLD set and REF10M_IN qualified, I_hold becomes the word it indicates. -/
def execRefHoldUpdate (d : Dom) (f : Int) (s : State) : Host.Outcome State Fault Refusal :=
  if s.rgnRuns 1 ∧ s.domF d R.TIME_DOM_MODE 6 1 = 1 ∧ s.time.refQualified = true ∧ (s.dom d).state = .snow then
    .next (s.setDom d { s.dom d with iHold := f })
  else .next s

/-- A write of TIME_DOM_VALID: the window and count are stored, DECLARE declares the domain VALID in any state (R35). -/
def State.domValidWrite (s : State) (d : Dom) (v : Nat) : State :=
  let s := s.wr (domA d R.TIME_DOM_VALID) (BitVec.ofNat 32 (natField v 0 24))
  if natBit v 31 then s.setValid d else s.checkValid d

/-- VALID_DECLARE. -/
def execValidDeclare (m : Master) (d : Dom) (v : Word) (s : State) : Host.Outcome State Fault Refusal :=
  .next (s.asWrite m (domA d R.TIME_DOM_VALID) (fun s => s.domValidWrite d (natSetField v.toNat 31 1 1)))

/-- A write of TIME_DOM_STEP_HI: the step takes effect on the next tick (R36). -/
def State.stepHi (s : State) (d : Dom) (v : Word) : State :=
  let theta := signedOf 64 (v.toNat * 2 ^ 32 + (s.rd (domA d R.TIME_DOM_STEP_LO)).toNat)
  s.setDom d ((s.dom d).addStep (theta * 65536) false)

/-- DOM_STEP. -/
def execDomStep (m : Master) (d : Dom) (v : Word) (s : State) : Host.Outcome State Fault Refusal :=
  .next (s.asWrite m (domA d R.TIME_DOM_STEP_HI) (fun s => s.stepHi d v))

/-- A write of TIME_DOM_SETSEC_HI: SEC[47:32] is stored; ARM arms the seconds load for the next rollover, which is never the one of the
tick on which it is armed (R36, assumption 76). -/
def State.setsecHi (s : State) (d : Dom) (v : Nat) : State :=
  let s := s.wr (domA d R.TIME_DOM_SETSEC_HI) (BitVec.ofNat 32 (natField v 0 16))
  if natBit v 31 then
    s.setDom d { s.dom d with secArm := some (natField v 0 16 * 2 ^ 32 + (s.rd (domA d R.TIME_DOM_SETSEC_LO)).toNat), rolled := false }
  else s

/-- SETSEC_ARM. -/
def execSetsecArm (m : Master) (d : Dom) (v : Word) (s : State) : Host.Outcome State Fault Refusal :=
  .next (s.asWrite m (domA d R.TIME_DOM_SETSEC_HI) (fun s => s.setsecHi d (natSetField v.toNat 31 1 1)))

/-- A seconds load: SEC is replaced, NS and FRAC stay (R36). -/
def State.loadSec (s : State) (d : Dom) (sec : Nat) : State :=
  let x := s.dom d
  let s := s.setDom d { x with secArm := none, secLoaded := true }
  s.jumpDom d (((sec * lsbSec + x.value % lsbSec : Nat) : Int) - x.value)

/-- SETSEC_LOAD: on the domain's next whole-second rollover. -/
def execSetsecLoad (d : Dom) (s : State) : Host.Outcome State Fault Refusal :=
  match (s.dom d).secArm with
  | some sec => if (s.dom d).rolled then .next (s.loadSec d sec) else .next s
  | none => .next s

/-! ## Switching (R39, R40, R510) -/

/-- The switch instant: C = W − D_new, SWITCHED; beyond 1 s the switch is refused. -/
def State.switchTo (s : State) (d : Dom) : State :=
  let c : Int := (s.wt : Int) - (s.dom d).value
  if (lsbSec : Int) < (Int.natAbs c : Int) then s.raise 1 0 2
  else ({ s with time := { s.time with active := d, cont := c } }).raise 1 0 0

/-- A write of TIME_WT_CTRL (R40, R510). START_DOM is RWL: once locked it keeps its value, and a write of another value is logged. -/
def State.wtCtrlWrite (s : State) (m : Option Master) (v : Nat) : State :=
  if natField v 0 2 = 1 ∧ s.time.wtValid = false then s.raise 1 0 2
  else
    let a := A.wt R.TIME_WT_CTRL
    let sd := if s.rwlLocked then s.fld a 16 1 else natField v 16 1
    let s := if sd = natField v 16 1 then s else s.lockedWrite m a
    let s := s.wr a (BitVec.ofNat 32 (natField v 2 14 * 4 + sd * 65536))
    let s : State := if s.time.wtValid then s else { s with time := { s.time with active := s.startDom } }
    match natField v 0 2 with
    | 1 => { s with time := { s.time with switchSlot := some s.time.nextSlot } }
    | 2 =>
      let at_ := tvOf ((s.rd (A.wt R.TIME_WT_SWAT_SEC_LO)).toNat + s.fld (A.wt R.TIME_WT_SWAT_SEC_HI) 0 16 * 2 ^ 32)
        (s.rd (A.wt R.TIME_WT_SWAT_NS)).toNat
      { s with time := { s.time with switchAt := some at_, switchFrom := s.time.nextSlot } }
    | 3 => { s with time := { s.time with switchSlot := none, switchAt := none } }
    | _ => s

/-- SWITCH_NEXT_SLOT. -/
def execSwitchNextSlot (m : Master) (v : Word) (s : State) : Host.Outcome State Fault Refusal :=
  .next (s.asWrite m (A.wt R.TIME_WT_CTRL) (fun s => s.wtCtrlWrite (some m) (natSetField v.toNat 0 2 1)))

/-- SWITCH_TIMED_ARM. -/
def execSwitchTimedArm (m : Master) (v : Word) (s : State) : Host.Outcome State Fault Refusal :=
  .next (s.asWrite m (A.wt R.TIME_WT_CTRL) (fun s => s.wtCtrlWrite (some m) (natSetField v.toNat 0 2 2)))

/-- SWITCH_DISARM. -/
def execSwitchDisarm (m : Master) (v : Word) (s : State) : Host.Outcome State Fault Refusal :=
  .next (s.asWrite m (A.wt R.TIME_WT_CTRL) (fun s => s.wtCtrlWrite (some m) (natSetField v.toNat 0 2 3)))

/-- The slot start at which an armed timed switch acts: the first at or after its instant that had not passed when it was armed and, armed
before WT_VALID, at which WT_VALID is set (R40, R510). -/
def TimeSt.switchStart (t : TimeSt) (at_ : Nat) : Nat := max (slotAtOrAfter at_) t.switchFrom

/-- A firmware switch is due: its slot has begun and working time is valid. -/
def State.switchDue (s : State) : Bool :=
  s.time.wtValid &&
  ((match s.time.switchSlot with | some k => decide (k < s.time.nextSlot) | none => false) ||
   (match s.time.switchAt with | some at_ => decide (s.time.switchStart at_ < s.time.nextSlot) | none => false))

/-- ACTIVE_SWITCH: the switch instant of a firmware trigger. -/
def execActiveSwitch (s : State) : Host.Outcome State Fault Refusal :=
  if s.switchDue then
    let due1 := match s.time.switchSlot with | some k => decide (k < s.time.nextSlot) | none => false
    let s' : State :=
      if due1 then { s with time := { s.time with switchSlot := none } } else { s with time := { s.time with switchAt := none } }
    .next (s'.switchTo (otherDom s.time.active))
  else .next s

/-- Slots in a cycle (R19): CLEN of the active piste table. -/
def State.cycleLen (s : State) : Nat := s.fld (A.fsch 0 R.FAB_PISTE_STAT) 2 4

/-- The last slot that began opens a cycle. -/
def State.atCycleStart (s : State) : Bool := 0 < s.time.nextSlot && (s.time.nextSlot - 1) % s.cycleLen == 0

/-- REVERT_WTR_EXPIRY: the first cycle start at or after the one at which Cobalt's quality became good, plus WTR seconds. -/
def execRevertWtrExpiry (s : State) : Host.Outcome State Fault Refusal :=
  match s.time.cobaltGoodSince with
  | some g =>
    if s.time.wtValid ∧ s.rbit (A.wt R.TIME_WT_CTRL) 3 = true ∧ s.time.active = .umber ∧ s.atCycleStart = true ∧
        g + s.fld (A.wt R.TIME_WT_CTRL) 4 12 * lsbSec ≤ (s.time.nextSlot - 1) * lsbSlot then
      .next (s.switchTo .cobalt)
    else .next s
  | none => .next s

/-! ## Cycle-start work of TIME (R41, R42, R45, R46) -/

/-- This device is the domain's anchor: it takes the domain from no other device (R43). -/
def State.isAnchor (s : State) (d : Dom) : Bool := s.domSrc d != 3

/-- Quality of a domain at a cycle start of slot `k`. -/
def State.cycleQuality (s : State) (d : Dom) (k : Nat) : State :=
  let x := s.dom d
  if s.isAnchor d then
    match x.announce with
    | some (v, eff) =>
      if eff ≤ k then
        let y : Domain := { x with ownState := v, quality := v == .lock, announce := none }
        s.setDom d (if x.state == v then y else { y with announce := some (x.state, k + 2 * s.cycleLen) })
      else s
    | none => if x.state == x.ownState then s else s.setDom d { x with announce := some (x.state, k + 2 * s.cycleLen) }
  else
    let rep : Option DomState × Option (DomState × Nat) :=
      match x.reportPend with
      | some (v, eff) => if eff ≤ k then (some v, none) else (x.reported, x.reportPend)
      | none => (x.reported, none)
    s.setDom d { x with ownState := x.state, reported := rep.1, reportPend := rep.2, quality := x.state == .lock && rep.1 == some .lock }

/-- Quality changes at a cycle start, and AUTO's switch (R40, R41). -/
def State.qualityApply (s : State) (k : Nat) : State :=
  let was := s.time.cobalt.quality
  let act := s.time.active
  let wasAct := (s.dom act).quality
  let s := (s.cycleQuality .cobalt k).cycleQuality .umber k
  let now := s.time.cobalt.quality
  let s : State :=
    { s with time := { s.time with
        cobaltGoodSince := if now then (if was then s.time.cobaltGoodSince else some (k * lsbSlot)) else none } }
  if s.time.wtValid && s.rbit (A.wt R.TIME_WT_CTRL) 2 && wasAct && !(s.dom act).quality && (s.dom (otherDom act)).quality then
    s.switchTo (otherDom act)
  else s

/-- TIME_WT_DIFF and DIFF_ALARM (R42). A difference beyond the register's 32 bits shows its low 32 bits; the alarm compares the exact
difference (assumption 77). -/
def State.diffUpdate (s : State) : State :=
  let diff : Int := (s.time.cobalt.value : Int) - s.time.umber.value
  let within : Bool := decide (Int.natAbs diff ≤ (s.rd (A.wt R.TIME_WT_DIFF_LIM)).toNat * lsbNs)
  let was := s.time.diffWithin
  let s := s.wr (A.wt R.TIME_WT_DIFF) (BitVec.ofNat 32 (patternOf 32 (divFree diff (2 ^ 24))))
  ({ s with time := { s.time with diffWithin := within } }).raiseIf (was && !within) 1 0 3

/-- The offset of the cycle that ended is pushed (R45, R46). -/
def State.fabricPush (s : State) (d : Dom) : State :=
  match (s.dom d).fabricNext with
  | some theta =>
    let s := s.setDom d { s.dom d with fabricNext := none }
    if s.domSrc d = 3 then s.pushOffset d theta else s
  | none => s

/-- Cycle starts before WT_VALID, counted in the time of the domain named by START_DOM: they only push the one-way offsets that bring a
FABRIC domain to VALID (R46; assumption 78). -/
def State.joinCycleStart (s : State) : State :=
  let c := slotOf s.wt / max 1 s.cycleLen
  if s.rgnRuns 1 && s.time.joinCycle != c + 1 then
    let s : State := { s with time := { s.time with joinCycle := c + 1 } }
    (s.fabricPush .cobalt).fabricPush .umber
  else s

/-- TIME at the cycle start of slot `k`. -/
def State.cycleTime (s : State) (k : Nat) : State :=
  if s.rgnRuns 1 then (((s.fabricPush .cobalt).fabricPush .umber).qualityApply k).diffUpdate else s

/-! ## Timestamp queues and the loss log (R54 to R56) -/

/-- Words 0 to 3 of a transmit queue entry. -/
def tsqWord (e : TsqEntry) : Nat → Nat
  | 0 => e.tag % 2 ^ 32
  | 1 => tvSec e.stamp % 2 ^ 32
  | 2 => tvFrac e.stamp / 65536 * 65536 + tvSec e.stamp / 2 ^ 32 % 65536
  | _ => 2 ^ 31 + tvNs e.stamp

/-- Words 0 and 1 of a loss log entry. -/
def lossWord (e : LossRec) : Nat → Nat
  | 0 => e.tag % 2 ^ 32
  | _ => 2 ^ 31 + e.port % 64 * 2 ^ 24 + e.sec % 65536

def State.tsqPort (s : State) : Nat := s.fld (A.tsu R.TIME_TSQ_SEL) 0 6
def State.tsqOf (s : State) (p : Nat) : List TsqEntry := s.time.tsq.getD p []

/-- A two-step frame has left: its stamp joins the port's queue, or is lost (R54, R55). -/
def State.tsqAppend (s : State) (p tag stamp : Nat) : State :=
  let q := s.tsqOf p
  if 64 ≤ q.length then
    let s := (s.bump (A.tsu (R.TIME_PORT_TSQ_LOST + 32 * p))).raise 1 4 1
    if 16 ≤ s.time.loss.length then
      ({ s with time := { s.time with lossOvf := s.ovfNext s.time.lossOvf } }).raise 1 4 2
    else { s with time := { s.time with loss := s.time.loss ++ [⟨tag, p, tvSec stamp⟩] } }
  else
    let s : State := { s with time := { s.time with tsq := s.time.tsq.set p (q ++ [⟨tag, stamp⟩]) } }
    s.raiseIf (q.isEmpty && s.rbit (A.tsu (R.TIME_PORT_TSCTRL + 32 * p)) 3) 1 4 0

/-- A read of TIME_TSQ_DATA0 latches the head entry of the selected port's queue. -/
def State.tsqHead (s : State) (m : Option Master) : Nat × State :=
  let e := (s.tsqOf s.tsqPort).head?
  ((match e with | some e => tsqWord e 0 | none => 0), { s with time := { s.time with tsqLatch := headPut s.time.tsqLatch m e } })

/-- A read of TIME_TSQ_DATA3 removes the head of the queue that TIME_TSQ_SEL selects, also where nothing is latched or SEL has changed
since the latch (assumption 79); an empty queue returns VALID = 0. -/
def State.tsqPop (s : State) (m : Option Master) : Nat × State :=
  let p := s.tsqPort
  let q := s.tsqOf p
  let e := match headOf s.time.tsqLatch m with | some e => some e | none => q.head?
  let latch := headPut s.time.tsqLatch m none
  match q with
  | [] => (0, { s with time := { s.time with tsqLatch := latch } })
  | _ :: r =>
    ((match e with | some e => tsqWord e 3 | none => 0),
     { s with time := { s.time with tsqLatch := latch, tsq := s.time.tsq.set p r } })

/-- TSQ_READ_HEAD. -/
def execTsqReadHead (m : Master) (s : State) : Host.Outcome State Fault Refusal :=
  .next (s.asRead m (A.tsu R.TIME_TSQ_DATA) (fun s => s.tsqHead (some m)))

/-- TSQ_READ_POP. -/
def execTsqReadPop (m : Master) (s : State) : Host.Outcome State Fault Refusal :=
  .next (s.asRead m (A.tsu (R.TIME_TSQ_DATA + 12)) (fun s => s.tsqPop (some m)))

/-- A read of TIME_LOSS_DATA0 latches the head record. -/
def State.lossHead (s : State) (m : Option Master) : Nat × State :=
  let e := s.time.loss.head?
  ((match e with | some e => lossWord e 0 | none => 0), { s with time := { s.time with lossLatch := headPut s.time.lossLatch m e } })

/-- A read of TIME_LOSS_DATA1 removes the head record, also where nothing is latched (assumption 79). -/
def State.lossPop (s : State) (m : Option Master) : Nat × State :=
  let e := match headOf s.time.lossLatch m with | some e => some e | none => s.time.loss.head?
  let latch := headPut s.time.lossLatch m none
  match s.time.loss with
  | [] => (0, { s with time := { s.time with lossLatch := latch } })
  | _ :: r =>
    ((match e with | some e => lossWord e 1 | none => 0), { s with time := { s.time with lossLatch := latch, loss := r } })

/-- LOSS_READ_HEAD. -/
def execLossReadHead (m : Master) (s : State) : Host.Outcome State Fault Refusal :=
  .next (s.asRead m (A.tsu R.TIME_LOSS_DATA) (fun s => s.lossHead (some m)))

/-- LOSS_READ_POP. -/
def execLossReadPop (m : Master) (s : State) : Host.Outcome State Fault Refusal :=
  .next (s.asRead m (A.tsu (R.TIME_LOSS_DATA + 4)) (fun s => s.lossPop (some m)))

/-! ## PPS, ToD and REF10M (R57 to R61) -/

/-- The edge of output `n` for second `k` lies at second `k` of the selected time plus OFS. -/
def State.ppsOfs (s : State) (n : Nat) : Int := psLsb (signedOf 32 (s.rd (A.tio (R.TIME_PPSOUT_OFS + 16 * n))).toNat)
def State.ppsTime (s : State) (n : Nat) : Nat := s.srcTime (s.fld (ppsCtrlA n) 2 2)

/-- What the selected time of output `n` advances in a tick. -/
def State.ppsTickInc (s : State) (n : Nat) : Nat :=
  let inc (d : Dom) : Int := (s.dom d).base + (s.dom d).freq
  (match s.fld (ppsCtrlA n) 2 2 with
   | 1 => inc .cobalt
   | 2 => inc .umber
   | _ => inc s.time.active - s.contDecay).toNat

/-- The instant nearest to `at_` on the grid of 1/64 tick on which edges are placed, in the output's selected time (R57). -/
def State.ppsGrid (s : State) (n : Nat) (at_ : Int) : Int :=
  let inc := s.ppsTickInc n
  let j := roundDiv (((s.ppsTime n : Int) - at_) * 64) inc
  (s.ppsTime n : Int) - divFree (j * inc) 64

/-- PPS_OUT_EDGE: the output places its edge at the second that is due. -/
def execPpsOutEdge (n : Fin 4) (s : State) : Host.Outcome State Fault Refusal :=
  let k := (((s.ppsTime n : Int) - s.ppsOfs n) / (lsbSec : Int)).toNat
  if s.ppsLive n ∧ s.time.ppsNext.getD n 0 ≤ k ∧ 0 ≤ (s.ppsTime n : Int) - s.ppsOfs n then
    let at_ := ((k * lsbSec : Nat) : Int) + s.ppsOfs n
    let s := s.setPps n (!s.ppsIdle n) (s.ppsGrid n at_).toNat
    let s : State :=
      { s with time := { s.time with ppsNext := s.time.ppsNext.set n (k + 1), ppsPulse := s.time.ppsPulse.set n (some at_.toNat)
                                     todDue := if n.val = 0 then some k else s.time.todDue } }
    .next s
  else .next s

/-- PPS_OUT_PULSE_END: WIDTH after the edge, or at the next second. -/
def execPpsOutPulseEnd (n : Fin 4) (s : State) : Host.Outcome State Fault Refusal :=
  match s.time.ppsPulse.getD n none with
  | some at_ =>
    let v := s.ppsTime n
    if at_ + (s.rd (A.tio (R.TIME_PPSOUT_WIDTH + 16 * n))).toNat * lsbUs ≤ v ∨ at_ + lsbSec ≤ v then
      let s : State := { s with time := { s.time with ppsPulse := s.time.ppsPulse.set n none } }
      .next (s.setPps n (s.ppsLive n && s.ppsIdle n) v)
    else .next s
  | none => .next s

/-- Stamp of a PPS_IN edge in a domain: `phase` of 64 parts of a tick after the last tick, less the input's delay (R58). -/
def State.ppsStamp (s : State) (d : Dom) (n : Nat) (phase : Nat) : Int :=
  let x := s.dom d
  (x.value : Int) + ((x.base : Int) + x.freq) * phase / 64 - psLsb (signedOf 32 (s.rd (A.tio (R.TIME_PPSIN_DLY + 4 * n))).toNat)

/-- A domain at a PPS_IN edge: its stamp's second is kept for ToD, and the domain that uses the input gets an offset. -/
def State.ppsInDom (s : State) (d : Dom) (n : Nat) (phase : Nat) : State :=
  let st := s.ppsStamp d n phase
  let sec := roundDiv st lsbSec
  let x := s.dom d
  let s := s.setDom d { x with ppsEdge := x.ppsEdge.set n (some st) }
  if s.domSrc d = n + 1 then s.pushOffset d (divFree (sec * lsbSec - st) 65536) else s

def ppsInCtrlA (n : Nat) : Nat := A.tio (R.TIME_PPSIN_CTRL + 4 * n)

/-- PPS_IN_EDGE (R58): the selected edge of an enabled input. -/
def execPpsInEdge (n : Fin 2) (phase : Fin 64) (s : State) : Host.Outcome State Fault Refusal :=
  if s.rgnRuns 1 ∧ s.rbit (ppsInCtrlA n) 0 = true then
    let s := (s.ppsInDom .cobalt n phase).ppsInDom .umber n phase
    .next { s with time := { s.time with
      ppsInTick := s.time.ppsInTick.set n s.time.ticks, ppsInLost := s.time.ppsInLost.set n false
      ppsInEdge := s.time.ppsInEdge.set n (some s.time.ticks) } }
  else .next s

/-- PPSIN_LOSS: 1.5 s without an edge, once for each loss. -/
def execPpsinLoss (n : Fin 2) (s : State) : Host.Outcome State Fault Refusal :=
  if s.rgnRuns 1 ∧ s.rbit (ppsInCtrlA n) 0 = true ∧ s.time.ppsInLost.getD n false = false ∧
      1500000 * ticksPerUs ≤ s.time.ticks - s.time.ppsInTick.getD n 0 then
    .next (({ s with time := { s.time with ppsInLost := s.time.ppsInLost.set n true } }).raise 1 3 n)
  else .next s

/-- The PPS_IN edge a message names: the last one, of either input, where it lies less than 900 ms back (R59, assumption 80). -/
def State.todEdge (s : State) : Option Nat :=
  let late (n : Nat) : Option Nat :=
    match s.time.ppsInEdge.getD n none with
    | some t => if s.time.ticks - t < 900000 * ticksPerUs then some t else none
    | none => none
  match late 0, late 1 with
  | some a, some b => some (if a < b then 1 else 0)
  | some _, none => some 0
  | none, some _ => some 1
  | none, none => none

/-- A time event message meets a domain (R59). -/
def State.todDom (s : State) (d : Dom) (sec : Nat) : State :=
  let x := s.dom d
  match s.todEdge with
  | some n =>
    match x.ppsEdge.getD n none with
    | some st =>
      let e := roundDiv st lsbSec
      if x.valid then (if e = sec then s else s.domRaise d 5)
      else if s.rbit (domA d R.TIME_DOM_MODE) 5 then
        (s.setDom d { x with secLoaded := true }).jumpDom d (((sec : Int) - e) * lsbSec)
      else s
    | none => s
  | none => s

/-- TOD_RX_MESSAGE: a message with a checksum error is discarded; every other one is queued for firmware. -/
def execTodRxMessage (msg : TodMessage) (s : State) : Host.Outcome State Fault Refusal :=
  if s.rgnRuns 1 ∧ s.rbit (A.tio R.TIME_TOD_CTRL) 4 = true then
    if msg.checksumOk then
      let s : State := { s with time := { s.time with todRx := s.time.todRx ++ msg.bytes } }
      match msg.timeEventSec with
      | some sec => .next ((s.todDom .cobalt sec).todDom .umber sec)
      | none => .next s
    else .next (s.raise 1 3 2)
  else .next s

/-- A read of TIME_TOD_RXDATA takes the oldest received byte, with VALID. -/
def State.todRead (s : State) : Nat × State :=
  match s.time.todRx with
  | [] => (0, s)
  | b :: r => (b.toNat + 2 ^ 31, { s with time := { s.time with todRx := r } })

/-- TOD_RXDATA_READ. -/
def execTodRxdataRead (m : Master) (s : State) : Host.Outcome State Fault Refusal :=
  .next (s.asRead m (A.tio R.TIME_TOD_RXDATA) State.todRead)

/-- The words of TIME_TOD_TXBUF. -/
def State.todTxbuf (s : State) : List Word := (List.range 16).map (fun i => s.rd (A.tio (R.TIME_TOD_TXBUF + 4 * i)))

/-- TOD_TX_MESSAGE (R60): DELAY ms after a PPS_OUT0 edge, the edge's seconds with the leap fields, then what firmware appended: all 64
bytes of TIME_TOD_TXBUF, every second, since the spec gives the buffer no length and no valid bit (assumption 81). -/
def execTodTxMessage (s : State) : Host.Outcome State Fault Refusal :=
  match s.time.todDue with
  | some k =>
    if s.rgnRuns 1 ∧ s.rbit (A.tio R.TIME_TOD_CTRL) 3 = true ∧
        ((k * lsbSec : Nat) : Int) + s.ppsOfs 0 + (s.fld (A.tio R.TIME_TOD_CTRL) 16 9 * 1000 * lsbUs : Nat) ≤ s.ppsTime 0 then
      .next (({ s with time := { s.time with todDue := none } }).emit (.todTx k (s.rd (A.tio R.TIME_TOD_LEAP)) s.todTxbuf))
    else .next s
  | none => .next s

/-- REF_QUALIFY (R61): ten seconds within ±1 ppm of the learned value, measured against a domain in LOCK. The table of R66 gives
TIME_REF_CTRL and TIME_REF_STAT no bits: bit 0 of each is the enable and the qualification (assumption 82). -/
def execRefQualify (ofs : Word) (s : State) : Host.Outcome State Fault Refusal :=
  if s.rgnRuns 1 ∧ s.rbit (A.tio R.TIME_REF_CTRL) 0 = true ∧ s.time.refQualified = false ∧
      (s.time.cobalt.state = .lock ∨ s.time.umber.state = .lock) then
    let s := (s.wr (A.tio R.TIME_REF_FOFS) ofs).setRbit (A.tio R.TIME_REF_STAT) 0 true
    .next (({ s with time := { s.time with refQualified := true, refTick := none } }).raise 1 3 4)
  else .next s

/-- REF_LOSS: no edge for 1 µs, or a frequency outside the window. -/
def execRefLoss (s : State) : Host.Outcome State Fault Refusal :=
  if s.time.refQualified then
    let s := s.setRbit (A.tio R.TIME_REF_STAT) 0 false
    .next (({ s with time := { s.time with refQualified := false } }).raise 1 3 3)
  else .next s

/-! ## PTM (R62 to R64) -/

def ptmA (off l : Nat) : Nat := A.ptm (off + 64 * l)

/-- The unit writes records: enabled, after WT_VALID, with HOST and TIME in service and outside the fail-safe. TIME_PTM_STAT.RUNNING
shows it; the spec only names that bit (assumption 83). -/
def State.ptmRuns (s : State) (l : Nat) : Bool :=
  s.rbit (ptmA R.TIME_PTM_CTRL l) 0 && s.time.wtValid && s.rgnRuns 12 && s.rgnRuns 1 && s.flt.failsafe.isNone

/-- Link delay ((t4 − t1) − (t3 − t2)) ÷ 2, in 2^-32 ns. -/
def ptmDelay (t : PtmTimes) : Int :=
  divFree (((t.t4 : Int) - t.t1) - ((t.t3 : Int) - t.t2) * lsbNs) 2

/-- The unit runs dialogs: enabled, with TIME in service and outside the fail-safe (R62). -/
def State.ptmOn (s : State) (l : Nat) : Bool := s.rbit (ptmA R.TIME_PTM_CTRL l) 0 && s.rgnRuns 1 && s.flt.failsafe.isNone

/-- PTM_DIALOG: one dialog; a failed one raises PTM_FAIL and writes no record. Before WT_VALID, and while HOST is in reset, a dialog
writes no record either (R64). SEQ is odd while the fields are written. -/
def execPtmDialog (l : Fin 4) (times : Option PtmTimes) (s : State) : Host.Outcome State Fault Refusal :=
  if s.ptmOn l then
    match times with
    | none => .next (s.raise 1 5 l)
    | some t =>
      let dly := ptmDelay t
      let dns := patternOf 16 (divFree dly lsbNs)
      let s := s.setFld (ptmA R.TIME_PTM_STAT l) 0 16 dns
      if s.ptmRuns l = false then .next s else
      let w := ((t.t4 : Int) - dly).toNat
      let seq := s.time.ptmSeq.getD l 0
      let a := (s.rd (ptmA R.TIME_PTM_ADDR_LO l)).toNat + (s.rd (ptmA R.TIME_PTM_ADDR_HI l)).toNat * 2 ^ 32
      let flags := 1 + (if s.time.active = .umber then 2 else 0) + (if (s.dom s.time.active).quality then 4 else 0) + dns * 65536
      let body := leBytes 4 flags ++ leBytes 8 t.t3 ++ leBytes 6 (tvSec w) ++ leBytes 2 0 ++ leBytes 4 (tvNs w) ++ leBytes 4 (tvFrac w)
      let s := ((s.emit (.hostWrite l none a (leBytes 4 (seq + 1)))).emit (.hostWrite l none (a + 4) body)).emit
        (.hostWrite l none a (leBytes 4 (seq + 2)))
      .next { s with time := { s.time with ptmSeq := s.time.ptmSeq.set l (seq + 2) } }
  else .next s

end Sys2Proof.Machine
end

