-- ==== Sys2Proof/Machine/Fabric.lean ====
section
/-! DEFINITION. The fabric schedule (spec 12): modes, the piste table and its banks, cells and slot headers as bytes, lane-slots and
their usability, and the commands of FAB_PISTE_CTRL. -/

namespace Sys2Proof.Machine

def schF (f off : Nat) : Nat := regAddr (0x14 + f) 0 off
def rlyA (off : Nat) : Nat := regAddr 0x14 1 off
def rsqA (off : Nat) : Nat := regAddr 0x15 2 off
def flkA (f off : Nat) : Nat := regAddr (0x14 + f) 3 off
def alwA (off : Nat) : Nat := regAddr 0x11 1 off

/-- Both fabric regions run: otherwise the device sends nothing into the fabric (R324). -/
def State.fabricRuns (s : State) : Bool := s.flt.failsafe.isNone && s.rgnWorks 0x14 && s.rgnWorks 0x15 && !s.blkHeld 0x14 0 && !s.blkHeld 0x15 0

/-! ## Banks (R302 to R305) -/

def State.activeBank (s : State) : Nat := s.fld (schF 0 R.FAB_PISTE_STAT) 0 1
def State.pisteCfg (s : State) (b : Nat) : Nat := (s.rd (schF 0 (R.FAB_PISTE_CFG + 4 * b))).toNat
def cfgClen (c : Nat) : Nat := natField c 0 4
def cfgMode (c : Nat) : Nat := natField c 4 2
def cfgSize (c : Nat) : Nat := natField c 16 11

/-- The bank that is active at slot `k`: an armed swap changes it from its instant on. -/
def State.bankAt (s : State) (k : Nat) : Nat :=
  match s.fab.swapAt with
  | some t => if t ≤ k * lsbSlot then 1 - s.activeBank else s.activeBank
  | none => s.activeBank

/-- Entry of lane `l` at position `p` in a bank (R302): its last good value (R303). -/
def State.piste (s : State) (b p l : Nat) : Nat := s.tabN (0x14 + l / 72) 0 0xA0 (b * 576 + p * 72 + l % 72)

/-- A piste entry's stored pair, where it fails the checks of R102: by region and index. -/
def State.pisteFound (s : State) (f i : Nat) : Option (BitVec 64) := spGet (fun _ => none) s.fab.pisteBad (f * 1152 + i)
def State.setPisteFound (s : State) (f i : Nat) (v : Option (BitVec 64)) : State :=
  { s with fab := { s.fab with pisteBad := spPut (fun _ => none) s.fab.pisteBad (f * 1152 + i) v } }
def State.pisteBad (s : State) (b p l : Nat) : Bool := (s.pisteFound (l / 72) (b * 576 + p * 72 + l % 72)).isSome
def pisPeer (e : Nat) : Nat := natField e 0 10
def pisUsed (e : Nat) : Bool := natBit e 10
def pisPhase (e : Nat) : Nat := natField e 16 16

def State.systemSize (s : State) : Nat := cfgSize (s.pisteCfg s.activeBank)

/-- Per-entry rules of R300. -/
def State.pisteEntryOk (s : State) (b e : Nat) : Bool :=
  natField e 11 5 == 0 && (!pisUsed e || (pisPeer e != s.deviceId && decide (pisPeer e < cfgSize (s.pisteCfg b))))

/-- FITTED bit of an F-lane in the board identity memory (R81). -/
def State.laneFitted (s : State) (l : Nat) : Bool := natBit (leNat ((s.boot.bid.drop (0x14 + 2 * l)).take 2)) 15

/-- A bank obeys R300. -/
def State.bankOk (s : State) (b : Nat) : Bool :=
  let c := s.pisteCfg b
  let clen := cfgClen c
  let used := (List.range clen).flatMap (fun p => (List.range 144).filterMap (fun l =>
    let e := s.piste b p l
    if pisUsed e then some (l, pisPeer e) else none))
  [1, 2, 4, 8].contains clen && (decide (cfgMode c = 2) || (decide (cfgMode c < 2) && clen == 1)) &&
  used.all (fun u => u.2 != s.deviceId && decide (u.2 < cfgSize c)) &&
  (List.range (cfgSize c)).all (fun d => d == s.deviceId || used.any (fun u => u.2 == d && s.laneFitted u.1))

/-- A bank may be written: not active, and no swap armed. -/
def State.bankWritable (s : State) (b : Nat) : Bool := b != s.activeBank && s.fab.swapAt.isNone

/-- Value fields of a piste entry; its reserved bits are 0 in both words (R100). -/
def pisteMask : Nat := 0xFFFF07FF

/-- The low half and the high half of a written entry complement each other (R303). -/
def pistePair (v : Nat) : Bool := cpWhole pisteMask (v % 2 ^ 32) (v / 2 ^ 32)

/-- WRITE of a piste entry: value and complement, a bank that may be written, an entry the rules allow. -/
def State.pistePut (f : Nat) (s : State) (i _m v : Nat) : Nat × State :=
  if !pistePair v then (4, s.intgLog 1 (winA (0x14 + f) 0 0) 4 0 0)
  else if !s.bankWritable (i / 576) || !s.pisteEntryOk (i / 576) (v % 2 ^ 32) then (4, s)
  else (0, (s.setTabN (0x14 + f) 0 0xA0 i (v % 2 ^ 32)).setPisteFound f i none)

/-- CLEAR of a piste entry. -/
def State.pisteClear (f : Nat) (s : State) (i _m : Nat) : Nat × State :=
  if s.bankWritable (i / 576) then (0, (s.setTabN (0x14 + f) 0 0xA0 i 0).setPisteFound f i none) else (4, s)

/-- Damage to an entry's storage: a pair that is not whole is kept as found, beside the last good value (R102, R303). -/
def State.pisteUpset (s : State) (f i v : Nat) : State :=
  if pistePair v then (s.setTabN (0x14 + f) 0 0xA0 i (v % 2 ^ 32)).setPisteFound f i none else s.setPisteFound f i (some (BitVec.ofNat 64 v))

/-- TABLE 0xA0: complement pairs; a pair that does not match is also logged CP_REFUSED (R303). The log names the window. READ gives the
stored pair as found. -/
def pisteTable (f : Nat) : WinTable where
  bytes := 8
  count := fun _ => 1152
  get := fun s i _ =>
    match s.pisteFound f i with
    | some p => some p.toNat
    | none => let v := s.tabN (0x14 + f) 0 0xA0 i; some (v + (pisteMask - v) * 2 ^ 32)
  put := State.pistePut f
  clear := State.pisteClear f
  readClear := false

/-- A write of FAB_PISTE_CFG b. -/
def State.pisteCfgWrite (s : State) (b v : Nat) : State :=
  if s.bankWritable b && [1, 2, 4, 8].contains (cfgClen v) then
    s.wr (schF 0 (R.FAB_PISTE_CFG + 4 * b)) (BitVec.ofNat 32 (v &&& 0x07FF003F))
  else s

/-! ## Cells and slot headers as bytes (R309, R332, R333) -/

def hcrc (l : List Byte) : Nat := crc16 0xFFFF l

/-- The 16-byte cell header. -/
def cellHeader (c : Cell) : List Byte :=
  let b (x : Bool) (i : Nat) : Nat := if x then 2 ^ i else 0
  let h := leBytes 14 (c.src + c.dst * 2 ^ 10 + c.seq * 2 ^ 20 + c.dport * 2 ^ 40 + b c.odd 47 + b c.bad 48 + b c.hop 49 + b c.idle 50 +
    c.firstOfs * 2 ^ 51 + c.fill * 2 ^ 60 + c.ceMask * 2 ^ 68 + c.rest * 2 ^ 76)
  h ++ leBytes 2 (hcrc h)

/-- The 272 bytes of a cell. -/
def cellBytes (c : Cell) : List Byte := cellHeader c ++ c.payload

/-- A cell read from its bytes, if HCRC is good. -/
def cellOf (l : List Byte) : Option Cell :=
  if hcrc (l.take 14) = leNat ((l.drop 14).take 2) then
    let n := leNat (l.take 14)
    some ⟨natField n 0 10, natField n 10 10, natField n 20 20, natField n 40 7, natBit n 47, natBit n 48, natBit n 49, natBit n 50,
      natField n 51 9, natField n 60 8, natField n 68 8, natField n 76 36, l.drop 16⟩
  else none

/-- A header stamp of a time value: SEC[7:0], NS, FRAC[31:22]. -/
def stamp48 (v : Nat) : Nat := tvSec v % 256 * 2 ^ 40 + tvNs v * 2 ^ 10 + tvFrac v / 2 ^ 22

/-- Time value of a stamp whose whole seconds are known. -/
def stampWith (sec st : Nat) : Nat := sec * lsbSec + natField st 10 30 * lsbNs + natField st 0 10 * 2 ^ 22

/-- Extension of a stamp by the device's own value of the domain (R333): the match within 128 s, the earlier of two. -/
def stampNear (own st : Nat) : Nat :=
  let o := tvSec own
  let up := o + (natField st 40 8 + 256 - o % 256) % 256
  let late := stampWith up st
  if 256 ≤ up ∧ own ≤ stampWith (up - 256) st + 128 * lsbSec then stampWith (up - 256) st else late

/-- A slot header as its fields (R332). -/
structure SlotHeader where
  sender : Nat
  rxOk : Bool
  echoValid : Bool
  anchC : Bool
  anchU : Bool
  slot : Nat
  txC : Nat
  txU : Nat
  secHi : Nat
  ver : Nat
  seq : Nat
  echoSlot : Nat
  echoC : Nat
  echoU : Nat
  timeq : Nat
  alw : List Nat
  dem : List Nat
  ovc : List Byte
  deriving DecidableEq, Repr

/-- The 64 bytes of a slot header. -/
def slotHeaderBytes (h : SlotHeader) : List Byte :=
  let b (x : Bool) (i : Nat) : Nat := if x then 2 ^ i else 0
  let l := beBytes 2 (h.sender + b h.rxOk 10 + b h.echoValid 11 + b h.anchC 12 + b h.anchU 13 + 2 ^ 14) ++ beBytes 4 h.slot ++
    beBytes 6 h.txC ++ beBytes 6 h.txU ++ beBytes 5 h.secHi ++ beBytes 1 h.ver ++ beBytes 2 h.seq ++ beBytes 2 h.echoSlot ++
    beBytes 6 h.echoC ++ beBytes 6 h.echoU ++ beBytes 2 h.timeq ++ h.alw.flatMap (beBytes 2) ++ h.dem.flatMap (beBytes 4) ++ h.ovc
  l ++ beBytes 2 (hcrc l)

/-- A slot header from its bytes; none where HCRC is bad or FORMAT is not 0b01 (R332). -/
def slotHeaderOf (l : List Byte) : Option SlotHeader :=
  let f (o n : Nat) : Nat := beNat ((l.drop o).take n)
  let w := f 0 2
  if hcrc (l.take 62) = f 62 2 ∧ natField w 14 2 = 1 then
    some ⟨natField w 0 10, natBit w 10, natBit w 11, natBit w 12, natBit w 13, f 2 4, f 6 6, f 12 6, f 18 5, f 23 1, f 24 2, f 26 2, f 28 6,
      f 34 6, f 40 2, [f 42 2, f 44 2, f 46 2, f 48 2], [f 50 4, f 54 4], (l.drop 58).take 4⟩
  else none

/-- The marker (R329). -/
def markerBytes : List Byte := beBytes 16 0x3C5A96E10F87D24BC3A5691EF0782DB4

/-! ## Lanes and lane-slots -/

def State.lane (s : State) (l : Nat) : FLaneSt := spGet (fun _ => FLaneSt.reset) s.fab.lanes l
def State.setLane (s : State) (l : Nat) (x : FLaneSt) : State :=
  { s with fab := { s.fab with lanes := spPut (fun _ => FLaneSt.reset) s.fab.lanes l x } }
def State.lslot (s : State) (l p : Nat) : LaneSlotSt := spGet (fun _ => LaneSlotSt.reset) s.fab.slots (l * 8 + p)
def State.setLslot (s : State) (l p : Nat) (x : LaneSlotSt) : State :=
  { s with fab := { s.fab with slots := spPut (fun _ => LaneSlotSt.reset) s.fab.slots (l * 8 + p) x } }

def laneCtrlA (l : Nat) : Nat := schF (l / 72) (R.FAB_LANE_CTRL + 4 * (l % 72))
def laneAdvA (l : Nat) : Nat := schF (l / 72) (R.FAB_LANE_ADV + 4 * (l % 72))
def lnkStatA (l : Nat) : Nat := flkA (l / 72) (R.FAB_LNK_STAT + 0x40 * (l % 72))
def lnkCntA (l off : Nat) : Nat := flkA (l / 72) (off + 0x40 * (l % 72))

/-- The cage of an F-lane is held down, lasers off (R84). -/
def State.flaneHeld (s : State) (l : Nat) : Bool :=
  (List.range 64).any (fun c =>
    let e := (s.cage c).expect
    e.role == 2 && decide (e.firstLane ≤ l) && decide (l < e.firstLane + e.lanes) && (s.cage c).held)

/-- A lane works: EN, and fitted; one that is not fitted stays powered down (R81). -/
def State.laneEn (s : State) (l : Nat) : Bool := s.rbit (laneCtrlA l) 0 && s.laneFitted l

/-- Lane `l` is in degraded signal. -/
def State.laneDeg (s : State) (l : Nat) : Bool := s.rbit (lnkStatA l) 16

/-- A lane-slot of a bank is usable (R318). -/
def State.usableIn (s : State) (b l p : Nat) : Bool :=
  s.laneEn l && pisUsed (s.piste b p l) && (s.lslot l p).aligned && (s.lslot l p).rxOk &&
    !(s.rbit (laneCtrlA l) 1 && s.laneDeg l) && decide (p < cfgClen (s.pisteCfg b))

def usableA (l p : Nat) : Nat := schF (l / 72) (R.FAB_USABLE + 16 * p + 4 * (l % 72 / 32))

/-- FAB_USABLE follows, with LANE_LOST and LANE_BACK (R318); so do the alignment bits of FAB_LNK_STAT. -/
def State.laneSlotSync (s : State) (l p : Nat) : State :=
  let x := s.lslot l p
  let s := (s.setRbit (lnkStatA l) p x.aligned).setRbit (lnkStatA l) (8 + p) x.cand.isSome
  let was := s.rbit (usableA l p) (l % 72 % 32)
  let now := s.usableIn s.activeBank l p
  let s := s.setRbit (usableA l p) (l % 72 % 32) now
  (s.raiseIf (was && !now) (0x14 + l / 72) 0 0).raiseIf (!was && now) (0x14 + l / 72) 0 1

def State.laneSync (s : State) (l : Nat) : State := (List.range 8).foldl (fun s p => s.laneSlotSync l p) s

/-- A write of FAB_LANE_CTRL or another event that may change usability of a lane. -/
def State.laneCtrlWrite (s : State) (l v : Nat) : State := (s.wr (laneCtrlA l) (BitVec.ofNat 32 (v % 4))).laneSync l

/-- A lane counts as aligned at a cycle start: every USED position of it is usable (R319). -/
def State.laneAligned (s : State) (l : Nat) : Bool :=
  let b := s.activeBank
  let used := (List.range (cfgClen (s.pisteCfg b))).filter (fun p => pisUsed (s.piste b p l))
  !used.isEmpty && used.all (fun p => s.usableIn b l p)

/-- FAB_LANES_ALIGNED of both regions; the count of all lanes. -/
def State.lanesAligned (s : State) : Nat × State :=
  let n (f : Nat) : Nat := ((List.range 72).filter (fun j => s.laneAligned (72 * f + j))).length
  (n 0 + n 1, (s.wr (schF 0 R.FAB_LANES_ALIGNED) (BitVec.ofNat 32 (n 0))).wr (schF 1 R.FAB_LANES_ALIGNED) (BitVec.ofNat 32 (n 1)))

/-! ## Receive phases (R308) -/

/-- TABLE 0xA1: 15:0 PHASE, 31 MEASURED, by position × 72 + lane. -/
def State.phaseEntry (s : State) (p l : Nat) : Nat := s.tabN (0x14 + l / 72) 0 0xA1 (p * 72 + l % 72)
def State.setPhase (s : State) (p l v : Nat) : State := s.setTabN (0x14 + l / 72) 0 0xA1 (p * 72 + l % 72) v

/-- The phase the alignment search centres on. -/
def State.loadedPhase (s : State) (p l : Nat) : Nat :=
  let e := s.phaseEntry p l
  if natBit e 31 then natField e 0 16 else pisPhase (s.piste s.activeBank p l)

/-- Distance of two phases, modulo 1,024 ns. -/
def phaseDist (a b : Nat) : Nat :=
  let d := (a + 65536 - b % 65536) % 65536
  min d (65536 - d)

/-- A measured phase is stored; a jump beyond FAB_PHASE_WIN is counted. -/
def State.phaseMeasured (s : State) (p l ph : Nat) : State :=
  let f := l / 72
  let s := if s.fld (schF f R.FAB_PHASE_WIN) 0 16 < phaseDist ph (s.loadedPhase p l) then s.bump (schF f R.FAB_PHASE_JUMP) else s
  s.setPhase p l (ph % 65536 + 2 ^ 31)

def phaseTable (f : Nat) : WinTable := readOnlyTable 4 576 (fun s i => s.tabN (0x14 + f) 0 0xA1 i)

/-! ## Swaps (R305) -/

def State.pisteStat (s : State) (lo w v : Nat) : State :=
  (s.setFld (schF 0 R.FAB_PISTE_STAT) lo w v).setFld (schF 1 R.FAB_PISTE_STAT) lo w v

/-- ARM. -/
def State.pisteArm (s : State) : State :=
  let t := s.instant (schF 0 R.FAB_PISTE_AT_NS)
  if !s.time.wtValid || s.fab.swapAt.isSome || t % (8 * lsbSlot) != 0 || decide (t ≤ s.wt) || !s.bankOk (1 - s.activeBank) then
    s.raise 0x14 0 3
  else ({ s with fab := { s.fab with swapAt := some t } } : State).pisteStat 1 1 1

/-- DISARM. -/
def State.pisteDisarm (s : State) : State := ({ s with fab := { s.fab with swapAt := none } } : State).pisteStat 1 1 0

/-- A write of FAB_PISTE_CTRL. -/
def State.pisteCtrlWrite (s : State) (v : Nat) : State :=
  match v % 4 with
  | 1 => s.pisteArm
  | 2 => s.pisteDisarm
  | _ => s

/-- PISTE_ARM. -/
def execPisteArm (m : Master) (s : State) : Host.Outcome State Fault Refusal :=
  .next (s.asWrite m (schF 0 R.FAB_PISTE_CTRL) (fun s => s.pisteCtrlWrite 1))

/-- PISTE_DISARM. -/
def execPisteDisarm (m : Master) (s : State) : Host.Outcome State Fault Refusal :=
  .next (s.asWrite m (schF 0 R.FAB_PISTE_CTRL) (fun s => s.pisteCtrlWrite 2))

/-! ## Condition 2 of R238, which announcements and lost alignment complete -/

/-- Peers of the active piste table. -/
def State.pistePeers (s : State) : List Nat :=
  (List.range 1024).filter (fun d => (List.range s.cycleLen).any (fun p => (List.range 144).any (fun l =>
    let e := s.piste s.activeBank p l
    pisUsed e && pisPeer e == d)))

/-- Some lane-slot toward a peer is aligned. -/
def State.peerAligned (s : State) (d : Nat) : Bool :=
  (List.range s.cycleLen).any (fun p => (List.range 144).any (fun l =>
    let e := s.piste s.activeBank p l
    pisUsed e && pisPeer e == d && (s.lslot l p).aligned))

def State.verSeqNow (s : State) : Nat := s.fld verStatA 16 16

/-- A peer that holds retirement up no longer. -/
def State.peerDone (s : State) (d : Nat) : Bool :=
  !s.peerAligned d ||
  (match spGet (fun _ => none) s.ver.peers d with
   | some a => a.drained || a.seq != s.verSeqNow
   | none => false)

def State.cond2 (s : State) : Bool := s.pistePeers.all s.peerDone

/-- The instant at which condition 2 became true. -/
def State.cond2Sync (s : State) : State :=
  if s.verOther = 2 then
    (if s.cond2 then (if s.ver.cond2At.isSome then s else { s with ver := { s.ver with cond2At := some s.wt } })
     else { s with ver := { s.ver with cond2At := none } })
  else s

/-! ## The swap -/

/-- Phases at a swap: a changed PEER takes the new entry's PHASE with MEASURED = 0 (R308). -/
def State.swapPhases (s : State) (old new : Nat) : State :=
  (List.range 8).foldl (fun s p => (List.range 144).foldl (fun s l =>
    if pisPeer (s.piste old p l) = pisPeer (s.piste new p l) then s else s.setPhase p l (pisPhase (s.piste new p l))) s) s

/-- The other bank becomes active in both regions, and C with it. -/
def State.activate (s : State) (b : Nat) : State :=
  let old := s.activeBank
  let s := (s.swapPhases old b).pisteStat 0 1 b
  let s := s.pisteStat 2 4 (cfgClen (s.pisteCfg b))
  ((List.range 144).foldl State.laneSync s).cond2Sync

/-- PISTE_SWAP: on the tick of an armed instant. -/
def execPisteSwap (s : State) : Host.Outcome State Fault Refusal :=
  match s.fab.swapAt with
  | some t =>
    if s.instantDue t then
      let s := ({ s with fab := { s.fab with swapAt := none } } : State).pisteStat 1 1 0
      let s := s.activate (1 - s.activeBank)
      let n := s.fld (schF 0 R.FAB_PISTE_STAT) 8 8
      .next ((s.pisteStat 8 8 (n + 1)).raise 0x14 0 2)
    else .next s
  | none => .next s

end Sys2Proof.Machine
end

