-- ==== Sys2Proof/Machine/Allowance.lean ====
section
/-! DEFINITION. Allowances and the release of virtual output queues (spec 11, R282 to R289; spec 12, R310 and R311). -/

namespace Sys2Proof.Machine

/-! ## The record format (R289) -/

/-- Value of a 10-bit record field, in cells. -/
def recVal (c : Nat) : Nat := natField c 0 6 * 2 ^ natField c 6 4

/-- The format's largest value at or below a number. -/
def recFloorGo : Nat → Nat → Nat → Nat
  | 0, e, v => e * 64 + min 63 (v / 2 ^ e)
  | f + 1, e, v => if v / 2 ^ e ≤ 63 then e * 64 + v / 2 ^ e else recFloorGo f (e + 1) v

def recFloor (v : Nat) : Nat := recFloorGo 11 0 v

/-- The format's smallest value at or above a number; the largest there is, beyond them all. -/
def recCeilGo : Nat → Nat → Nat → Nat
  | 0, e, v => e * 64 + min 63 ((v + 2 ^ e - 1) / 2 ^ e)
  | f + 1, e, v => if (v + 2 ^ e - 1) / 2 ^ e ≤ 63 then e * 64 + (v + 2 ^ e - 1) / 2 ^ e else recCeilGo f (e + 1) v

def recCeil (v : Nat) : Nat := recCeilGo 11 0 v

/-! ## At the source: grants, credit, expiry (R282, R283) -/

def noGrant : Grant := ⟨0, [], 0⟩
def State.grant (s : State) (i : Nat) : Grant := spGet (fun _ => noGrant) s.que.grants i
def State.setGrant (s : State) (i : Nat) (g : Grant) : State :=
  { s with que := { s.que with grants := spPut (fun _ => noGrant) s.que.grants i g } }

/-- Every grant from this destination is treated as 0. -/
def State.alwExpired (s : State) (d : Nat) : Bool := s.que.expired.contains d

/-- The device has met peer `d`: its cycles without a meeting start again. -/
def State.met (s : State) (d : Nat) : State :=
  { s with que := { s.que with sinceMet := spPut (fun _ => 0) s.que.sinceMet d 1 } }

/-- What takes effect of the records received at the cycle start at `t`: those stamped before it, the latest (R283, R48). -/
def Grant.atCycle (g : Grant) (t : Nat) : Grant :=
  let old := g.next.filter (fun x => decide (x.2 < t))
  { g with value := (old.getLast?.map (·.1)).getD g.value, next := g.next.filter (fun x => decide (t ≤ x.2)) }

/-- Grants and credits at the cycle start at `t`, and destinations not met for QUE0_ALW_EXPIRE whole cycles. -/
def State.alwCycle (s : State) (t : Nat) : State :=
  let lim := s.fld (alwA R.QUE0_ALW_EXPIRE) 0 8
  let late := (s.que.sinceMet.filter (fun p => decide (lim < p.2) && !s.que.expired.contains p.1)).map (·.1)
  let s : State := { s with que := { s.que with
    sinceMet := s.que.sinceMet.map (fun p => (p.1, min (p.2 + 1) 256)), expired := s.que.expired ++ late } }
  let s := s.raiseIf (!late.isEmpty) 0x11 1 0
  let gs := s.que.grants.map (fun p =>
    let g := p.2.atCycle t
    (p.1, { g with credit := if s.alwExpired (p.1 / 64) then 0 else recVal g.value * 256 }))
  { s with que := { s.que with grants := gs.filter (fun p => p.2 != noGrant) } }

/-- An allowance record from peer `d`, received in a meeting at the stamp `w`. -/
def State.takeAllowance (s : State) (d w : Nat) (r : Nat) : State :=
  if r = 0xFFFF then s
  else if 11 < natField r 6 4 then s.bump (alwA R.QUE0_REC_BAD)
  else
    let i := d * 64 + natField r 10 6
    let s := s.setGrant i { s.grant i with next := (s.grant i).next ++ [(r % 1024, w)] }
    ({ s with que := { s.que with expired := s.que.expired.erase d } } : State).bump64 (alwA R.QUE0_ALW_RECEIVED)

/-- A demand record from peer `d`: HIGH and TOTAL kept as recorded. -/
def State.takeDemand (s : State) (d : Nat) (r : Nat) : State :=
  if r = 0xFFFFFFFF then s
  else if 11 < natField r 22 4 ∨ 11 < natField r 12 4 then s.bump (alwA R.QUE0_REC_BAD)
  else
    let x : Demand := ⟨natField r 16 10, natField r 6 10, 0⟩
    { s with que := { s.que with demands := spPut (fun _ => none) s.que.demands (d * 64 + natField r 26 6) (some x) } }

/-! ## At the destination: grants of every source (R287, R288) -/

/-- Sum of the rates of the enabled line ports, Gbit/s. -/
def State.rateSum (s : State) : Nat := natSum ((List.range 64).map (fun p => if s.portEn p then modeSpeed (s.portMode p) else 0))

/-- f as a numerator and a denominator: `a` lanes aligned. -/
def State.scale (s : State) (a : Nat) : Nat × Nat :=
  let r := 2 * s.rateSum
  if !s.rbit (alwA R.QUE0_ALW_CTRL) 2 || decide (r ≤ a * 182) then (1, 1) else (a * 182, r)

/-- Cells per cycle of a line port. -/
def State.portCells (s : State) (p : Nat) : Nat := modeSpeed (s.portMode p) * s.cycleLen * 1024 / 2048

/-- Cells of packets for a local port in the egress queues, on-chip and spilled. -/
def State.portOcc (s : State) (p : Nat) : Nat :=
  natSum ((s.buf.queues.filter (fun q => isEq q.1)).map (fun q =>
    natSum (((q.2.items ++ q.2.toSpill ++ q.2.stream).filter (fun e =>
      match s.destOf e.pkt with | some (d, _) => d == s.deviceId * 128 + p | none => false)).map QEnt.cellCount)))

/-- occ of R287: a carrier port answers for ports 64 to 69. -/
def State.occ (s : State) (p : Nat) : Nat :=
  s.portOcc p + (if s.carrier s.deviceId = p then natSum ((List.range 6).map (fun j => s.portOcc (64 + j))) else 0)

def minSum (ds : List (Nat × Nat)) (l : Nat) : Nat := natSum (ds.map (fun d => min d.2 l))

/-- The largest level at or below `l` whose sum of minima is within `b`. -/
def levelFor (ds : List (Nat × Nat)) (b : Nat) : Nat → Nat
  | 0 => 0
  | l + 1 => if minSum ds (l + 1) ≤ b then l + 1 else levelFor ds b l

/-- One band: the shares of its sources, and the budget left. -/
def bandShares (ds : List (Nat × Nat)) (b : Nat) : List (Nat × Nat) × Nat :=
  let top := ds.foldl (fun m d => max m d.2) 0
  let l := if natSum (ds.map (·.2)) ≤ b then top else levelFor ds b (min top b)
  let g := ds.map (fun d => (d.1, min d.2 l))
  (g, b - natSum (g.map (·.2)))

/-- Demands for local port `p` in force: source, HIGH, TOTAL, in cells; one older than QUE0_HINT_AGE counts as 0. -/
def State.demandsFor (s : State) (p : Nat) : List (Nat × Nat × Nat) :=
  s.que.demands.filterMap (fun q => match q.2 with
    | some x => if q.1 % 64 = p ∧ x.age ≤ s.fld (alwA R.QUE0_HINT_AGE) 0 8 then some (q.1 / 64, recVal x.high, recVal x.total) else none
    | none => none)

def State.portSetting (s : State) (p : Nat) : Nat := s.tabN 0x11 1 0x86 p

/-- B of a port. -/
def State.budget (s : State) (p : Nat) (f : Nat × Nat) : Nat :=
  let c := s.portCells p
  let b : Int := (c : Int) + Int.tdiv ((natField (s.portSetting p) 0 20 : Int) - s.occ p) 4
  (max 0 (min ((b * f.1) / (f.2 : Int)) (2 * c : Nat))).toNat

/-- Grants of one port: by source, in the record format; and the seed of the sources not listed. -/
def State.portGrants (s : State) (p : Nat) (f : Nat × Nat) : List (Nat × Nat) × Nat :=
  if !s.rgnRuns 0x12 then ([], 0)
  else
    let d := s.demandsFor p
    let high := bandShares ((d.filter (fun x => decide (0 < x.2.1))).map (fun x => (x.1, x.2.1))) (s.budget p f)
    let norm := bandShares ((d.filter (fun x => decide (x.2.1 < x.2.2))).map (fun x => (x.1, x.2.2 - x.2.1))) high.2
    let share (l : List (Nat × Nat)) (n : Nat) : Nat := ((l.find? (fun g => g.1 == n)).map (·.2)).getD 0
    let seed := if s.occ p < natField (s.portSetting p) 0 20 then natField (s.portSetting p) 20 10 else 0
    (d.map (fun x =>
      let g := recFloor (share high.1 x.1 + share norm.1 x.1)
      (x.1 * 64 + p, if recVal g = 0 then seed else g)), seed)

/-- The cycle-start computation of QUE0: `a` lanes aligned. -/
def State.grantCycle (s : State) (a : Nat) : State :=
  let f := s.scale a
  let was := (s.rd (alwA R.QUE0_ALW_F)).toNat
  let s := s.wr (alwA R.QUE0_ALW_F) (BitVec.ofNat 32 (divFree ((f.1 * 65536 : Nat) : Int) f.2).toNat)
  let s := s.raiseIf (was == 65536 && f.1 != f.2) 0x11 1 1
  let g := (List.range 64).map (fun p => (p, s.portGrants p f))
  let s : State := if s.rbit (alwA R.QUE0_ALW_CTRL) 0 then
      { s with que := { s.que with
        granted := (g.flatMap (fun q => q.2.1)).foldl (fun l x => spPut (fun _ => 0) l x.1 (x.2 + 1)) []
        seeds := g.foldl (fun l q => spPut (fun _ => 0) l q.1 q.2.2) [] } }
    else s
  { s with que := { s.que with
    demands := s.que.demands.map (fun q => (q.1, q.2.map (fun x => { x with age := min (x.age + 1) 256 }))) } }

/-- The latest grant of a source for a port, in the record format (a listed one is kept plus 1). -/
def State.grantNow (s : State) (d p : Nat) : Nat :=
  match spGet (fun _ => 0) s.que.granted (d * 64 + p) with
  | 0 => spGet (fun _ => 0) s.que.seeds p
  | n + 1 => n

/-! ## Records for a meeting (R285, R289) -/

/-- Insertion of a keyed amount, the largest amount first, the earlier of two equal ones first. -/
def insDown (x : Nat × Nat) : List (Nat × Nat) → List (Nat × Nat)
  | [] => [x]
  | y :: r => if y.2 < x.2 then x :: y :: r else y :: insDown x r

def sortDown (l : List (Nat × Nat)) : List (Nat × Nat) := l.foldl (fun a x => insDown x a) []

/-- A list taken up from an index on, in turn. -/
def rotate (n : Nat) (l : List Nat) : List Nat := l.filter (fun p => decide (n ≤ p)) ++ l.filter (fun p => decide (p < n))

def State.lastGrant (s : State) (d p : Nat) : Nat := spGet (fun _ => 0) s.que.lastSent (d * 64 + p)

/-- Ports whose allowance the next meeting with `d` carries, four at most: drops, rises, and the others in round robin. -/
def State.alwPorts (s : State) (d : Nat) : List Nat :=
  let ports := List.range 64
  let now (p : Nat) : Nat := recVal (s.grantNow d p)
  let last (p : Nat) : Nat := recVal (s.lastGrant d p)
  let drops := sortDown ((ports.filter (fun p => decide (now p < last p))).map (fun p => (p, last p - now p)))
  let rises := sortDown ((ports.filter (fun p => decide (last p < now p))).map (fun p => (p, now p - last p)))
  let rest := rotate (spGet (fun _ => 0) s.que.recNext d) (ports.filter (fun p => now p == last p))
  (drops.map (·.1) ++ rises.map (·.1) ++ rest).take 4

/-- The four allowance records for peer `d`. -/
def State.alwRecords (s : State) (d : Nat) : List Nat × State :=
  if !s.rbit (alwA R.QUE0_ALW_CTRL) 0 || !s.rgnRuns 0x11 then (List.replicate 4 0xFFFF, s)
  else
    let ps := s.alwPorts d
    let s' : State := { s with que := { s.que with
      lastSent := ps.foldl (fun l p => spPut (fun _ => 0) l (d * 64 + p) (s.grantNow d p)) s.que.lastSent
      recNext := match (ps.filter (fun p => recVal (s.grantNow d p) == recVal (s.lastGrant d p))).getLast? with
        | some p => spPut (fun _ => 0) s.que.recNext d (p + 1)
        | none => s.que.recNext } }
    ((ps.map (fun p => p * 1024 + s.grantNow d p) ++ List.replicate 4 0xFFFF).take 4, s'.bump64 (alwA R.QUE0_ALW_SENT) ps.length)

def State.classHigh (s : State) (c : Nat) : Bool := s.rbit (voqA (R.QUE0_CLASS_CFG + 4 * c)) 0

/-- Cells of packets that a pipeline has sent toward a virtual output queue and that are not admitted yet. -/
def State.comingCells (s : State) (key : Nat) : Nat :=
  natSum ((List.range 16).map (fun i => natSum (((s.pipe i).toBuf.filter (fun k => match s.destOf k with
    | some (p, r) => s.queueOf p k.tc r == key
    | none => false)).map (fun k => cellsFor k.bytes.length))))

/-- Backlog for port `p` of device `d`, in cells: of HIGH classes, and whole. -/
def State.backlog (s : State) (d p : Nat) : Nat × Nat :=
  let x (c : Nat) : Nat := (s.queue ((d * 64 + p) * 8 + c)).length + s.comingCells ((d * 64 + p) * 8 + c)
  (natSum (((List.range 8).filter s.classHigh).map x), natSum ((List.range 8).map x))

/-- How far the backlog of a port has moved since its last record. -/
def State.demMove (s : State) (d p : Nat) : Nat :=
  let b := (s.backlog d p).2
  let last := spGet (fun _ => 0) s.que.lastHint (d * 64 + p)
  if last ≤ b then b - last else last - b

/-- It has moved by QUE0_HINT_DELTA cells or more. -/
def State.demMoved (s : State) (d p : Nat) : Bool :=
  decide (s.fld (alwA R.QUE0_HINT_DELTA) 0 16 ≤ s.demMove d p) && decide (0 < s.demMove d p)

/-- Ports whose backlog the next meeting with `d` carries, two at most. -/
def State.demPorts (s : State) (d : Nat) : List Nat :=
  let moved := sortDown (((List.range 64).filter (s.demMoved d)).map (fun p => (p, s.demMove d p)))
  let rest := rotate (spGet (fun _ => 0) s.que.hintNext d)
    ((List.range 64).filter (fun p => decide (0 < (s.backlog d p).2) && !s.demMoved d p))
  (moved.map (·.1) ++ rest).take 2

/-- The two demand records for peer `d`: rounded up and capped at twice the port's cells per cycle. -/
def State.demRecords (s : State) (d : Nat) : List Nat × State :=
  if !s.rbit (alwA R.QUE0_ALW_CTRL) 1 || !s.rgnRuns 0x11 then (List.replicate 2 0xFFFFFFFF, s)
  else
    let ps := s.demPorts d
    let code (p n : Nat) : Nat := recCeil (min n (Config.peerRate d p * s.cycleLen))
    let r (p : Nat) : Nat := p * 2 ^ 26 + code p (s.backlog d p).1 * 2 ^ 16 + code p (s.backlog d p).2 * 2 ^ 6
    let s' : State := { s with que := { s.que with
      lastHint := ps.foldl (fun l p => spPut (fun _ => 0) l (d * 64 + p) (s.backlog d p).2) s.que.lastHint
      hintNext := match (ps.filter (fun p => !s.demMoved d p)).getLast? with
        | some p => spPut (fun _ => 0) s.que.hintNext d (p + 1)
        | none => s.que.hintNext } }
    ((ps.map r ++ List.replicate 2 0xFFFFFFFF).take 2, s')

/-! ## Cells from released bytes (R282, R310, R311) -/

/-- The 18-byte packet header of a packet that leaves toward the fabric. -/
def packetHeader (e : QEnt) : List Byte :=
  let k := e.pkt
  let b (x : Bool) (i : Nat) : Nat := if x then 2 ^ i else 0
  beBytes 2 (k.bytes.length % 2 ^ 14 + b k.ect 14 + b e.ct 15) ++
  [BitVec.ofNat 8 ((if e.remote then 1 else 0) + k.tc % 8 * 2 + k.kind % 4 * 16 + k.color % 4 * 64), BitVec.ofNat 8 (k.port % 128),
   k.hv.getD 24 0, k.hv.getD 21 0] ++ beBytes 3 (k.rewrite % 2 ^ 20) ++ (List.range 8).map (fun j => k.hv.getD (40 + 2 * j) 0) ++
  [BitVec.ofNat 8 (k.ipLoc % 8)]

/-- Bytes a packet sends: header and data. -/
def streamBytes (e : QEnt) : List Byte := packetHeader e ++ e.pkt.bytes

def State.openCell (s : State) (k : Nat) : Option OpenCell := spGet (fun _ => none) s.fab.open_ k
def State.setOpen (s : State) (k : Nat) (c : Option OpenCell) : State :=
  { s with fab := { s.fab with open_ := spPut (fun _ => none) s.fab.open_ k c } }

/-- An open cell closes: it joins the spread FIFO. -/
def State.closeCell (s : State) (k : Nat) : State :=
  match s.openCell k with
  | none => s
  | some c =>
    let x : Cell := ⟨s.deviceId, k / 128, 0, k % 128, c.odd, c.bad, false, false, c.firstOfs.getD 0x1FF, c.bytes.length - 1, c.ceMask,
      0, c.bytes ++ List.replicate (256 - c.bytes.length) 0⟩
    let s := s.setOpen k none
    { s with fab := { s.fab with spread := s.fab.spread ++ [⟨x, c.ends⟩] } }

/-- A stream's open cell closes because a packet of another version comes next, while the spread FIFO has room. -/
def State.closeBefore (s : State) (k : Nat) (odd : Bool) : State :=
  match s.openCell k with
  | some c => if c.odd != odd && decide (s.fab.spread.length < 16384) then s.closeCell k else s
  | none => s

def emptyCell (odd : Bool) : OpenCell := ⟨odd, [], none, 0, 0, false, 0⟩

/-- Bytes of one packet packed into its stream, from a position in them, while credit remains and the spread FIFO has room. The result is
the position reached. `ce`: the packet is marked; `bad`: its tail is bad. A cell closes with the first byte of its eighth header (R311,
assumption 89). -/
def packGo (k : Nat) (all : List Byte) (odd ce bad : Bool) : Nat → Nat → Nat → State → Nat × State
  | 0, pos, _, s => (pos, s)
  | f + 1, pos, credit, s =>
    if all.length ≤ pos ∨ credit = 0 ∨ 16384 ≤ s.fab.spread.length then (pos, s)
    else
      let c := (s.openCell k).getD (emptyCell odd)
      let eighth := decide (pos = 0 ∧ c.heads = 7)
      let n := if eighth then 1 else min (min (256 - c.bytes.length) (all.length - pos)) credit
      let last := decide (pos + n = all.length)
      let c : OpenCell :=
        { c with bytes := c.bytes ++ (all.drop pos).take n
                 firstOfs := if pos = 0 then some (c.firstOfs.getD c.bytes.length) else c.firstOfs
                 heads := if pos = 0 then c.heads + 1 else c.heads
                 ceMask := if pos = 0 ∧ ce = true then c.ceMask + 2 ^ c.heads else c.ceMask
                 bad := c.bad || (last && bad)
                 ends := if last then c.ends + 1 else c.ends }
      let s := s.setOpen k (some c)
      let s := if c.bytes.length = 256 ∨ (last && bad) ∨ eighth then s.closeCell k else s
      packGo k all odd ce bad f (pos + n) (credit - n) s

/-! ## VOQ_RELEASE -/

def voqKey (i c : Nat) : Nat := i * 8 + c

/-- Classes of a destination port with a packet on-chip. -/
def State.voqClasses (s : State) (i : Nat) : List Nat := (List.range 8).filter (fun c => !(s.queue (voqKey i c)).items.isEmpty)

/-- A packet of class `c` has begun to leave. -/
def State.voqBegun (s : State) (i c : Nat) : Bool :=
  match (s.queue (voqKey i c)).items with
  | e :: _ => decide (0 < e.released)
  | [] => false

def State.classWeight (s : State) (c : Nat) : Nat := s.fld (voqA (R.QUE0_CLASS_CFG + 4 * c)) 4 12 * 64
def State.voqDeficit (s : State) (i c : Nat) : Int := spGet (fun _ => 0) s.que.voqDef (voqKey i c)
def State.setVoqDeficit (s : State) (i c : Nat) (d : Int) : State :=
  { s with que := { s.que with voqDef := spPut (fun _ => 0) s.que.voqDef (voqKey i c) d } }

/-- The class a port serves next: a packet that has begun goes on; then HIGH classes in descending TC; then deficit round robin. -/
def State.voqClass (s : State) (i : Nat) : Option (Nat × State) :=
  let cs := s.voqClasses i
  match cs.find? (s.voqBegun i) with
  | some c => some (c, s)
  | none =>
    match (cs.filter s.classHigh).getLast? with
    | some c => some (c, s)
    | none =>
      let rounds := match cs.map (fun c => roundsFor (s.voqDeficit i c) (s.classWeight c / 64)) with
        | [] => 0
        | r :: rest => rest.foldl min r
      let s := if rounds = 0 then s else cs.foldl (fun s c => s.setVoqDeficit i c (s.voqDeficit i c + ((rounds * s.classWeight c : Nat) : Int))) s
      (cs.find? (fun c => decide (0 < s.voqDeficit i c))).map (fun c => (c, s))

/-- Destination ports that may release: a grant with credit, not expired, a packet on-chip. -/
def State.voqReady (s : State) : List Nat :=
  (s.que.grants.filter (fun g => decide (0 < g.2.credit) && !s.alwExpired (g.1 / 64) && !(s.voqClasses g.1).isEmpty)).map (·.1)

/-- The port served next: with HIGH backlog first, round robin in each group; whether it is of the HIGH group. -/
def State.voqPort (s : State) : Option (Nat × Bool) :=
  let r := s.voqReady
  let high := r.filter (fun i => (s.voqClasses i).any s.classHigh)
  if high.isEmpty then (rotate s.que.portNext r).head?.map (fun i => (i, false))
  else (rotate s.que.highNext high).head?.map (fun i => (i, true))

/-- The round robin of its group goes on after port `i`. -/
def State.voqTurn (s : State) (i : Nat) (high : Bool) : State :=
  { s with que := if high then { s.que with highNext := i + 1 } else { s.que with portNext := i + 1 } }

/-- Local port a stream leads to (R18): ports 64 to 69 ride in the carrier's queue. -/
def QEnt.dport (e : QEnt) (s : State) : Nat := match s.destOf e.pkt with | some (p, _) => p % 128 | none => 0

/-- The head packet of class `c` releases what fits the credit; the ECN test is made when its first byte leaves. -/
def State.voqSend (s : State) (i c : Nat) (e : QEnt) (rest : List QEnt) : State :=
  let key := voqKey i c
  let x := (s.queue key).length
  let k := i / 64 * 128 + e.dport s
  let s := s.closeBefore k e.pkt.odd
  let m : Pkt × State := if e.released = 0 ∧ 0 < (s.grant i).credit ∧ s.fab.spread.length < 16384 then
      s.ecnTest key x e.pkt (voqA R.QUE0_CE_MARKED) else (e.pkt, s)
  let e := { e with pkt := m.1 }
  let all := streamBytes e
  let g := m.2.grant i
  let r := packGo k all e.pkt.odd m.1.ce e.pkt.bad (all.length / 32 + 16) e.released g.credit m.2
  let n := r.1 - e.released
  let t := r.2.setGrant i { g with credit := g.credit - n }
  let t := if t.classHigh c then t else t.setVoqDeficit i c (t.voqDeficit i c - (n : Int))
  if r.1 = all.length then
    let t := (((t.dequeue key e rest).qCount key 0 1).qCount key 1 e.pkt.bytes.length)
    if e.pkt.bad then (t.bump (cellA R.BUF_BAD_SENT)).raise 0x13 0 2 else t
  else if n = 0 then t
  else
    let q := t.queue key
    t.setQueue key { q with items := { e with released := r.1 } :: rest, tick := t.time.ticks }

/-- VOQ_RELEASE: one packet's turn. `late`: a cut-through packet's bad last cell is written after its head was taken; one whose bad
tail came first is dropped whole (R260). -/
def execVoqRelease (late : Bool) (s : State) : Host.Outcome State Fault Refusal :=
  if s.meets 0x11 0 || s.rgnDown 0x14 || s.meets 0x13 0 || s.rgnDown 0x10 then .next s
  else
    match s.voqPort with
    | none => .next s
    | some (i, high) =>
      match s.voqClass i with
      | none => .next s
      | some (c, t) =>
        match (t.queue (voqKey i c)).items with
        | [] => .next s
        | e :: rest =>
          let t := t.voqTurn i high
          if e.pkt.bad && !late && e.released == 0 then .next ((t.dequeue (voqKey i c) e rest).badDropped e.pkt)
          else .next (t.voqSend i c e rest)

/-- Cells whose cycle has ended close (R311). -/
def State.closeAll (s : State) : State := s.fab.open_.foldl (fun s q => s.closeCell q.1) s

end Sys2Proof.Machine
end

