-- ==== Sys2Proof/Machine/Threads.lean ====
section
/-! DEFINITION. Threads of the processor clusters (spec 15): their states, the switch of a core, events, the context window, interrupts,
timers, the performance counters and the sampler. Channels are in Channels. -/

namespace Sys2Proof.Machine

def State.thr (s : State) (t : Nat) : ThreadSt := spGet (fun _ => ThreadSt.reset) s.cpu.threads t
def State.setThr (s : State) (t : Nat) (x : ThreadSt) : State :=
  { s with cpu := { s.cpu with threads := spPut (fun _ => ThreadSt.reset) s.cpu.threads t x } }

def ctxA (r off : Nat) : Nat := regAddr (9 + r) 4 off
def chnA (r off : Nat) : Nat := regAddr (9 + r) 5 off
def pmuA (r off : Nat) : Nat := regAddr (9 + r) 7 off

/-- Threads of core `c` (0 to 95). -/
def coreThreads (c : Nat) : List Nat := [4 * c, 4 * c + 1, 4 * c + 2, 4 * c + 3]

def ThrState.code : ThrState → Nat
  | .held => 0 | .ready => 1 | .running => 2 | .waiting => 3 | .stalled => 4 | .halted => 5

/-! ## Waiting on threads (R398) -/

def chRegion (c : Nat) : Nat := c / 16384
def State.chEntry (s : State) (c : Nat) : Nat := s.tabN (9 + chRegion c) 5 0xE0 (c % 16384)
def chKind (e : Nat) : Nat := natField e 65 2

/-- A waiting thread waits on threads. -/
def State.onThreads (s : State) (t : Nat) : Bool :=
  (s.thr t).state == .waiting &&
  (match (s.thr t).wait with
  | .ev mask _ none => (List.range 64).all (fun i => !natBit mask i || s.evThreadSourced t i)
  | .acq c _ => chKind (s.chEntry c) == 0
  | .recv c _ => chKind (s.chEntry c) == 0
  | _ => false)

/-- A deadlock of cluster `cl` stands declared. -/
def State.declared (s : State) (cl : Nat) : Bool := spGet (fun _ => false) s.cpu.deadlocked cl
def State.setDeclared (s : State) (cl : Nat) (b : Bool) : State :=
  { s with cpu := { s.cpu with deadlocked := spPut (fun _ => false) s.cpu.deadlocked cl b } }

/-- A thread stops waiting: its cluster may declare a deadlock again where it waited on threads. -/
def State.stopWait (s : State) (t : Nat) : State := if s.onThreads t then s.setDeclared (t / 32) false else s

/-! ## Performance counters (R399, R400) -/

def State.pmu (s : State) (r : Nat) : PmuSt := spGet (fun _ => PmuSt.reset) s.cpu.pmu r
def State.setPmu (s : State) (r : Nat) (x : PmuSt) : State :=
  { s with cpu := { s.cpu with pmu := spPut (fun _ => PmuSt.reset) s.cpu.pmu r x } }

/-- Counter of cycles that a state adds to: 0 RUNNING, 1 READY, 2 WAITING, 3 STALLED. -/
def ThrState.cycleIndex : ThrState → Option Nat
  | .running => some 0
  | .ready => some 1
  | .waiting => some 2
  | .stalled => some 3
  | _ => none

/-- Sevenths of a core cycle in a 1.4 GHz tick: the cores run at 2.4 GHz, at 1.2 GHz while throttled (R503). -/
def State.cycleSevenths (s : State) : Nat := if s.rbit (A.therm R.SYS_THERM_STAT) 25 then 6 else 12

/-- The cycle counters of a thread as they stand now. -/
def State.cyclesNow (s : State) (t : Nat) : List Nat :=
  let x := s.thr t
  match x.state.cycleIndex with
  | some i => if (s.pmu (thrRegion t)).frozen then x.cycles
    else x.cycles.set i (x.cycles.getD i 0 + (s.time.ticks - x.since) * s.cycleSevenths)
  | none => x.cycles

/-- A thread takes a state; the cycles of the old one are counted. -/
def State.thrTo (s : State) (t : Nat) (st : ThrState) : State :=
  let c := s.cyclesNow t
  (s.stopWait t).setThr t { s.thr t with state := st, cycles := c, since := s.time.ticks }

/-- Event `e` of a thread counts. -/
def State.pmuCount (s : State) (t e : Nat) : State :=
  if (s.pmu (thrRegion t)).frozen then s
  else
    let i := thrIndex t * 32 + e
    s.setTabN (9 + thrRegion t) (thrCluster t) 0xE8 i ((s.tabN (9 + thrRegion t) (thrCluster t) 0xE8 i + 1) % 2 ^ 48)

/-- Counter `e` of a thread, as TABLE 0xE8 shows it. -/
def State.pmuRead (s : State) (t e : Nat) : Nat :=
  if 3 ≤ e ∧ e ≤ 6 then (s.cyclesNow t).getD (e - 3) 0 / 7 % 2 ^ 48
  else s.tabN (9 + thrRegion t) (thrCluster t) 0xE8 (thrIndex t * 32 + e)

/-- CPU_PMU_STAT. -/
def State.pmuStat (s : State) (r : Nat) : State :=
  let x := s.pmu r
  s.wr (pmuA r R.CPU_PMU_STAT) (BitVec.ofNat 32
    ((if x.freezeAt.isSome || x.thawAt.isSome then 1 else 0) + (if x.frozen then 4 else 0) + (if x.late then 8 else 0)))

/-- The threads of a region count their cycles up to now, and start again from now. -/
def State.pmuAccrue (s : State) (r : Nat) : State :=
  (List.range 128).foldl (fun s j => let t := 128 * r + j
    s.setThr t { s.thr t with cycles := s.cyclesNow t, since := s.time.ticks }) s

def State.pmuThaw (s : State) (r : Nat) : State :=
  let x := s.pmu r
  let s := if x.frozen then s.pmuAccrue r else s
  (s.setPmu r { x with frozen := false, thawAt := none }).pmuStat r

def State.pmuInstant (s : State) (r : Nat) : Nat :=
  tvOf ((s.rd (pmuA r R.CPU_PMU_AT_SEC_LO)).toNat + s.fld (pmuA r R.CPU_PMU_AT_SEC_HI) 0 16 * 2 ^ 32)
    (s.rd (pmuA r R.CPU_PMU_AT_NS)).toNat

/-- A write of CPU_PMU_CTRL.CMD. -/
def State.pmuCtrl (s : State) (r cmd : Nat) : State :=
  let x := s.pmu r
  let at_ := s.pmuInstant r
  let late := s.time.wtValid && decide (at_ < s.wt)
  match cmd with
  | 2 => if x.frozen || x.freezeAt.isSome then s.raise (9 + r) 7 0
         else (s.setPmu r { x with freezeAt := some at_, late := late }).pmuStat r
  | 3 => (s.setPmu r { x with thawAt := some at_, late := late }).pmuStat r
  | 4 => s.pmuThaw r
  | 5 => (s.setPmu r { x with freezeAt := none, thawAt := none }).pmuStat r
  | _ => s

def State.pmuCmd (s : State) (m : Master) (r cmd : Nat) : State :=
  s.asWrite m (pmuA r R.CPU_PMU_CTRL) (fun s => s.pmuCtrl r cmd)

/-- PMU_FREEZE. -/
def execPmuFreeze (m : Master) (r : Fin 3) (s : State) : Host.Outcome State Fault Refusal := .next (s.pmuCmd m r 2)
/-- PMU_THAW_AT. -/
def execPmuThawAt (m : Master) (r : Fin 3) (s : State) : Host.Outcome State Fault Refusal := .next (s.pmuCmd m r 3)
/-- PMU_THAW_NOW. -/
def execPmuThawNow (m : Master) (r : Fin 3) (s : State) : Host.Outcome State Fault Refusal := .next (s.pmuCmd m r 4)
/-- PMU_DISARM. -/
def execPmuDisarm (m : Master) (r : Fin 3) (s : State) : Host.Outcome State Fault Refusal := .next (s.pmuCmd m r 5)

/-- PMU_INSTANT: an armed freeze or thaw takes effect. -/
def execPmuInstant (r : Fin 3) (s : State) : Host.Outcome State Fault Refusal :=
  let x := s.pmu r
  match x.freezeAt, x.thawAt with
  | some at_, _ =>
    if s.instantDue at_ then
      .next (((s.pmuAccrue r).setPmu r { x with freezeAt := none, frozen := true }).pmuStat r)
    else .next s
  | none, some at_ => if s.instantDue at_ then .next (s.pmuThaw r) else .next s
  | none, none => .next s

/-- SAMPLER_OVERFLOW: the sampler of a started thread, enabled on an event, empties at a pc (R401). -/
def execSamplerOverflow (t : Fin 384) (evt : Fin 32) (pc : BitVec 64) (s : State) : Host.Outcome State Fault Refusal :=
  let x := s.thr t
  if x.state = .held ∨ x.state = .halted ∨ (s.pmu (thrRegion t)).frozen = true then .next s
  else .next (s.setThr t { x with smpEvt := BitVec.ofNat 64 (evt.val + 2 ^ 63), smpCnt := 0, smpPc := pc, overflowIrq := true })

/-! ## Running and switching (R381, R382) -/

def State.coreRuns (s : State) (t : Nat) : Bool := (coreThreads (t / 4)).any (fun u => (s.thr u).state == .running)

/-- A thread runs. -/
def State.thrRun (s : State) (t : Nat) : State :=
  let s := s.thrTo t .running
  { s with cpu := { s.cpu with lastRun := spPut (fun _ => 0) s.cpu.lastRun (t / 4) (t % 4) } }

/-- A wait has ended: the thread keeps a core on which nothing else runs, else it is READY. -/
def State.thrWake (s : State) (t : Nat) : State :=
  let s := if s.coreRuns t then s.thrTo t .ready else s.thrRun t
  s.setThr t { s.thr t with wait := .none_ }

/-- Register write of a thread: x0 discards. -/
def State.setX (s : State) (t rd : Nat) (v : BitVec 64) : State :=
  if rd = 0 then s else s.setThr t { s.thr t with regs := spPut (fun _ => 0) (s.thr t).regs rd v }

/-- A status code as rd shows it: 0 minus the code. -/
def status (n : Nat) : BitVec 64 := 0 - BitVec.ofNat 64 n

/-- A vendor instruction is executed by a running thread whose region is up. -/
def State.issues (s : State) (t : Nat) : Bool := (s.thr t).state == .running && s.rgnWorks (9 + thrRegion t)

/-- The next READY thread of a core after a hart, in hart order. -/
def State.nextReady (s : State) (core hart : Nat) : Option Nat :=
  ((List.range 4).map (fun j => 4 * core + (hart + 1 + j) % 4)).find? (fun t => (s.thr t).state == .ready)

/-- THREAD_SWITCH. -/
def execThreadSwitch (core : Fin 96) (why : SwitchWhy) (s : State) : Host.Outcome State Fault Refusal :=
  let running := (coreThreads core).find? (fun t => (s.thr t).state == .running)
  let leave (t e : Nat) : State :=
    let s := (s.thrTo t .stalled).pmuCount t e
    match s.nextReady core (t % 4) with
    | some u => (s.pmuCount t 7).thrRun u
    | none => s
  match why, running with
  | .miss, some t => .next (leave t 11)
  | .device, some t => .next (leave t 13)
  | .idle, none =>
    let h := spGet (fun _ => 0) s.cpu.lastRun core.val
    match s.nextReady core h with
    | some u => .next ((if u = 4 * core.val + h ∨ (s.thr (4 * core.val + h)).state = .held then s
        else s.pmuCount (4 * core.val + h) 7).thrRun u)
    | none => .next s
  | .served h, _ =>
    let t := 4 * core.val + h.val
    if (s.thr t).state = .stalled then .next (s.thrWake t) else .next s
  | _, _ => .next s

/-! ## Events (R388 to R391) -/

/-- Bits of EVPEND are cleared and returned. -/
def State.takeEvents (s : State) (t rd v clear : Nat) : State :=
  (s.wr64 (evPendA t) (s.evPend t - (s.evPend t &&& clear))).setX t rd (BitVec.ofNat 64 v)

/-- EV_WAIT. -/
def execEvWait (t : Fin 384) (rd : Fin 32) (mask timeout : BitVec 64) (s : State) : Host.Outcome State Fault Refusal :=
  if s.issues t then
    let v := s.evPend t &&& mask.toNat
    if v ≠ 0 then .next (s.takeEvents t rd v v)
    else
      let until_ := if timeout = 0 then none else some (s.time.ticks + (timeout.toNat * 7 + 11) / 12)
      let s := (s.pmuCount t 19).thrTo t .waiting
      .next (s.setThr t { s.thr t with wait := .ev mask.toNat rd until_ })
  else .next s

/-- EV_POLL. -/
def execEvPoll (t : Fin 384) (rd : Fin 32) (mask : BitVec 64) (s : State) : Host.Outcome State Fault Refusal :=
  if s.issues t then
    let v := s.evPend t &&& mask.toNat
    .next (s.takeEvents t rd v v)
  else .next s

/-- EV_WAIT_WAKE: a bit of the mask is pending. -/
def execEvWaitWake (t : Fin 384) (s : State) : Host.Outcome State Fault Refusal :=
  match (s.thr t).state, (s.thr t).wait with
  | .waiting, .ev mask rd _ =>
    let v := s.evPend t &&& mask
    if v ≠ 0 then .next ((s.takeEvents t rd v v).thrWake t) else .next s
  | _, _ => .next s

/-- EV_WAIT_TIMEOUT: the wait returns 0. -/
def execEvWaitTimeout (t : Fin 384) (s : State) : Host.Outcome State Fault Refusal :=
  match (s.thr t).state, (s.thr t).wait with
  | .waiting, .ev _ rd (some u) => if u ≤ s.time.ticks then .next ((s.setX t rd 0).thrWake t) else .next s
  | _, _ => .next s

/-- An event aimed at an input of the other kind is discarded and counted (R388). -/
def State.miskind (s : State) (t : Nat) : State :=
  (s.bump (A.cl (thrRegion t) (thrCluster t) R.CPU_EV_MISKIND)).raise (9 + thrRegion t) (thrCluster t) 2

/-- An event from a thread, or a channel notification of KIND THREAD. -/
def State.threadEvent (s : State) (t i : Nat) : State :=
  if 384 ≤ t || s.rgnAbsent (9 + thrRegion t) || s.coreInReset t then s
  else if s.evThreadSourced t i then s.setEvent t i else s.miskind t

/-- EV_SEND. -/
def execEvSend (t : Fin 384) (rd : Fin 32) (target input : BitVec 64) (s : State) : Host.Outcome State Fault Refusal :=
  if s.issues t then
    let u := target.toNat
    let i := input.toNat
    if 384 ≤ u ∨ 64 ≤ i then .next (s.setX t rd (status 6))
    else if s.rgnAbsent (9 + thrRegion u) then .next (s.setX t rd (status 7))
    else if !s.evThreadSourced u i then .next ((s.miskind u).setX t rd (status 6))
    else .next (((if s.coreInReset u then s else (s.setEvent u i).pmuCount t 20)).setX t rd 0)
  else .next s

/-! ## Interrupts and timers (R386, R387) -/

/-- INTERRUPT_FILE_WRITE: identity 1 to 255 becomes pending, for a master with write access to the thread's region. -/
def execInterruptFileWrite (m : Master) (t : Fin 384) (v : Word) (s : State) : Host.Outcome State Fault Refusal :=
  let x := s.thr t
  let n := v.toNat
  if natBit (s.rights (masterCode m) true) (9 + thrRegion t) = true ∧ s.rgnAbsent (9 + thrRegion t) = false ∧ 1 ≤ n ∧ n ≤ 255 then
    .next (s.setThr t { x with intr := spPut (fun _ => false) x.intr n true })
  else .next s

def timeCmpA (t : Nat) : Nat := A.cl (thrRegion t) (thrCluster t) (R.CPU_MTIMECMP + 8 * thrIndex t)

/-- time ≥ mtimecmp: working time as SEC × 1,000,000,000 + NS. -/
def State.timerDue (s : State) (t : Nat) : Bool := decide (s.rd64 (timeCmpA t) ≤ s.wt / lsbNs)

/-- TIMER_INTERRUPT: it stands while time ≥ mtimecmp. -/
def execTimerInterrupt (t : Fin 384) (s : State) : Host.Outcome State Fault Refusal :=
  if (s.thr t).state ≠ .held then .next (s.setThr t { s.thr t with timerIrq := s.timerDue t }) else .next s

/-- A write of CPU_MTIMECMP: the interrupt stands only while time ≥ mtimecmp. -/
def State.timerLevel (s : State) (t : Nat) : State :=
  if s.timerDue t then s else s.setThr t { s.thr t with timerIrq := false }

end Sys2Proof.Machine
end

