-- ==== Sys2Proof/Machine/Channels.lean ====
section
/-! DEFINITION. Channels (spec 15, R390 to R393), the vendor instructions over them, the return of a thread to HELD, the context window,
the debugger, and cluster deadlock. -/

namespace Sys2Proof.Machine

/-! ## The channel table (R390) -/

def chBase (e : Nat) : Nat := natField e 0 64
def chEn (e : Nat) : Bool := natBit e 64
def chSize (e : Nat) : Nat := 2 ^ natField e 72 4
def chReader (e : Nat) : Nat := natField e 80 9
def chInput (e : Nat) : Nat := natField e 89 6
def chNotify (e : Nat) : Bool := natBit e 95
def chPool (e : Nat) : Nat := natField e 96 8

def State.chan (s : State) (c : Nat) : ChanSt := spGet (fun _ => ChanSt.reset) s.cpu.chans c
def State.setChan (s : State) (c : Nat) (x : ChanSt) : State :=
  { s with cpu := { s.cpu with chans := spPut (fun _ => ChanSt.reset) s.cpu.chans c x } }

/-- The channel's region does not answer. -/
def State.chAbsent (s : State) (c : Nat) : Bool := s.meets (9 + chRegion c) 5

/-- A counter of TABLE 0xE1: the field of `w` bits at bit `lo`. -/
def State.chCount (s : State) (c lo w : Nat) : State :=
  if s.ctl.snapFrozen then s
  else
    let r := 9 + chRegion c
    let e := s.tabN r 5 0xE1 (c % 16384)
    s.setTabN r 5 0xE1 (c % 16384) (natSetField e lo w (natField e lo w + 1))

/-- A drop counter: 128 DROP_FULL, 144 DROP_TOOBIG, 160 DROP_BADDESC, 176 LOST. -/
def State.chDrop (s : State) (c lo : Nat) : State := (s.chCount c lo 16).raise (9 + chRegion c) 5 0

def State.creditFree (s : State) (c : Nat) : Bool := decide ((s.chan c).used < chSize (s.chEntry c))

def chanMask : Nat := (2 ^ 64 - 1) + 7 * 2 ^ 64 + 15 * 2 ^ 72 + 65535 * 2 ^ 80 + 255 * 2 ^ 96

/-- An entry that R390 lets stand: READER in the region where the KIND has one, LOG2N 2 to 12, BASE in processor memory and aligned. -/
def chanOk (r v : Nat) : Bool :=
  (chKind v == 2 || chReader v / 128 == r) && decide (2 ≤ natField v 72 4) && decide (natField v 72 4 ≤ 12) && chBase v % 4096 == 0 &&
    decide (0x0400000000 ≤ chBase v) && decide (chBase v + 64 * chSize v ≤ 0x0800000000)

/-- Fields other than NOTIFY_EN and EN. -/
def chanFixed (v : Nat) : Nat := natSetField (natSetField v 64 1 0) 95 1 0

/-- TABLE 0xE0 of region CPU`r`. -/
def chanTable (r : Nat) : WinTable where
  bytes := 32
  count := fun _ => 16384
  get := fun s i _ => some (s.tabN (9 + r) 5 0xE0 i)
  put := fun s i _ v =>
    let v := v &&& chanMask
    let old := s.tabN (9 + r) 5 0xE0 i
    if chanOk r v && (!chEn old || chanFixed v == chanFixed old) then
      let a := chnA r R.CPU_CH_ENABLED
      let n := (s.rd a).toNat + (if chEn v then 1 else 0) - (if chEn old then 1 else 0)
      (0, (s.setTabN (9 + r) 5 0xE0 i v).wr a (BitVec.ofNat 32 n))
    else (4, s.raise (9 + r) 5 1)
  clear := fun s i _ =>
    let old := s.tabN (9 + r) 5 0xE0 i
    if chEn old then (4, s.raise (9 + r) 5 1) else (0, s.setTabN (9 + r) 5 0xE0 i 0)
  readClear := false

/-- TABLE 0xE1: stored counters, credits in use, held slots. READ_CLEAR zeros bytes 0 to 23. -/
def chanCounters (r : Nat) : WinTable where
  bytes := 32
  count := fun _ => 16384
  get := fun s i _ =>
    let x := s.chan (16384 * r + i)
    some (s.tabN (9 + r) 5 0xE1 i + x.used * 2 ^ 192 + x.held % 256 * 2 ^ 208 + (if x.held = 0 then 0 else 2 ^ 216))
  put := fun s i _ v => (0, s.setTabN (9 + r) 5 0xE1 i (v % 2 ^ 192))
  clear := fun s i _ => (0, s.setTabN (9 + r) 5 0xE1 i 0)
  readClear := true

def cpuChnTable (r : Nat) : Nat → Option WinTable
  | 0xE0 => some (chanTable r)
  | 0xE1 => some (chanCounters r)
  | _ => none

/-! ## Slots (R392): staging slot i at 64 × i, receive slot j at 256 + 64 × j of the thread's page (assumption 21) -/

def slotPage (t : Nat) : Nat := 0x30000000 + 0x400 * t
def stageAddr (t i : Nat) : BitVec 64 := BitVec.ofNat 64 (slotPage t + 64 * i)
def recvAddr (t i : Nat) : BitVec 64 := BitVec.ofNat 64 (slotPage t + 256 + 64 * i)

/-- Index of the staging slot in use at an address. -/
def State.stageAt (s : State) (t : Nat) (a : BitVec 64) : Option (Nat × StageSlot) :=
  (List.range 4).findSome? (fun i =>
    match (s.thr t).stage.getD i none with
    | some x => if a = stageAddr t i then some (i, x) else none
    | none => none)

def State.recvAt (s : State) (t : Nat) (a : BitVec 64) : Option Nat :=
  (List.range 4).find? (fun i => ((s.thr t).recv.getD i none).isSome && a == recvAddr t i)

def freeIndex {α : Type} (l : List (Option α)) : Option Nat := (List.range 4).find? (fun i => (l.getD i none).isNone)

/-! ## Ring operations -/

/-- A descriptor joins the ring and its reader is notified; the credit is already counted. -/
def State.chAppend (s : State) (c : Nat) (desc : List Byte) : State :=
  let e := s.chEntry c
  let x := s.chan c
  let s := s.hbmStore (chBase e + 64 * ((x.head + x.fill) % chSize e)) desc
  let s := (s.setChan c { x with fill := x.fill + 1 }).chCount c 0 64
  if chNotify e && chKind e != 2 then
    (if chKind e = 0 then s.threadEvent (chReader e) (chInput e) else s.deviceEvent (chReader e) (chInput e))
  else s

/-- The oldest descriptor leaves the ring, and its credit is free. -/
def State.chTake (s : State) (c : Nat) : List Byte × State :=
  let e := s.chEntry c
  let x := s.chan c
  (s.hbmBytes (chBase e + 64 * x.head) 64,
    (s.setChan c { x with head := (x.head + 1) % chSize e, fill := x.fill - 1, used := x.used - 1 }).chCount c 64 64)

/-- How a device unit's descriptor fares (R393): posted, dropped for want of a credit, or the channel not enabled or absent. -/
inductive ChPost where
  | posted
  | full
  | absent
  deriving DecidableEq, Repr

/-- A device unit writes a descriptor to a channel of a KIND. -/
def State.chDevice (s : State) (c kind : Nat) (desc : List Byte) : ChPost × State :=
  if 49152 ≤ c ∨ s.chAbsent c = true ∨ chEn (s.chEntry c) = false ∨ chKind (s.chEntry c) ≠ kind then (.absent, s)
  else if !s.creditFree c then (.full, s.chDrop c 128)
  else (.posted, (s.setChan c { s.chan c with used := (s.chan c).used + 1 }).chAppend c desc)

/-! ## The vendor instructions -/

/-- An acquire: the slot's address, or a status; `none` where no credit is free. -/
def State.acquire (s : State) (t c : Nat) : Option (BitVec 64 × State) :=
  if 49152 ≤ c then some (status 1, s)
  else if s.chAbsent c then some (status 7, s)
  else if !chEn (s.chEntry c) || !(chKind (s.chEntry c) == 0 || chKind (s.chEntry c) == 2) then some (status 1, s)
  else
    let x := s.thr t
    match freeIndex x.stage with
    | none => some (status 4, s)
    | some i =>
      if s.creditFree c then
        some (stageAddr t i, (s.setThr t { x with stage := x.stage.set i (some ⟨c, false⟩) }).setChan c
          { s.chan c with used := (s.chan c).used + 1 })
      else none

/-- CH_ACQ. -/
def execChAcq (t : Fin 384) (rd : Fin 32) (ch : BitVec 64) (s : State) : Host.Outcome State Fault Refusal :=
  if s.issues t then
    match s.acquire t ch.toNat with
    | some (v, s) => .next (s.setX t rd v)
    | none =>
      let s := (s.pmuCount t 18).thrTo t .waiting
      .next (s.setThr t { s.thr t with wait := .acq ch.toNat rd })
  else .next s

/-- CH_ACQ_WAKE. -/
def execChAcqWake (t : Fin 384) (s : State) : Host.Outcome State Fault Refusal :=
  match (s.thr t).state, (s.thr t).wait with
  | .waiting, .acq c rd =>
    match s.acquire t c with
    | some (v, s) => .next ((s.setX t rd v).thrWake t)
    | none => .next s
  | _, _ => .next s

/-- CH_TRYACQ. -/
def execChTryacq (t : Fin 384) (rd : Fin 32) (ch : BitVec 64) (s : State) : Host.Outcome State Fault Refusal :=
  if s.issues t then
    match s.acquire t ch.toNat with
    | some (v, s) => .next (s.setX t rd v)
    | none => .next (s.setX t rd (status 3))
  else .next s

/-- A staging slot is free again; a held one no longer counts in HELD (R397). -/
def State.stageFree (s : State) (t i : Nat) (x : StageSlot) : State :=
  let s := s.setThr t { s.thr t with stage := (s.thr t).stage.set i none }
  if x.held then s.setChan x.ch { s.chan x.ch with held := (s.chan x.ch).held - 1 } else s

/-- CH_POST: the slot's 64 bytes, as the thread's stores left them, go into the ring. -/
def execChPost (t : Fin 384) (rd : Fin 32) (slot : BitVec 64) (data : BitVec 512) (s : State) :
    Host.Outcome State Fault Refusal :=
  if s.issues t then
    match s.stageAt t slot with
    | none => .next (s.setX t rd (status 5))
    | some (i, x) =>
      if s.chAbsent x.ch then .next (s.setX t rd (status 7))
      else if !chEn (s.chEntry x.ch) then .next (s.setX t rd (status 1))
      else .next ((((s.stageFree t i x).chAppend x.ch (leBytes 64 data.toNat)).pmuCount t 16).setX t rd 0)
  else .next s

/-- A staging slot is dropped: its credit returns. -/
def State.stageDrop (s : State) (t i : Nat) (x : StageSlot) : State :=
  let s := s.stageFree t i x
  s.setChan x.ch { s.chan x.ch with used := (s.chan x.ch).used - 1 }

/-- CH_DROP. -/
def execChDrop (t : Fin 384) (rd : Fin 32) (slot : BitVec 64) (s : State) : Host.Outcome State Fault Refusal :=
  if s.issues t then
    match s.stageAt t slot with
    | none => .next (s.setX t rd (status 5))
    | some (i, x) => .next ((s.stageDrop t i x).setX t rd 0)
  else .next s

/-- A receive: the slot's address, or a status; `none` where no descriptor is posted. -/
def State.receive (s : State) (t c : Nat) : Option (BitVec 64 × State) :=
  if 49152 ≤ c then some (status 1, s)
  else if s.chAbsent c then some (status 7, s)
  else
    let e := s.chEntry c
    if !chEn e || chKind e == 2 || chReader e != t then some (status 1, s)
    else match freeIndex (s.thr t).recv with
      | none => some (status 4, s)
      | some i =>
        if (s.chan c).fill = 0 then none
        else
          let r := s.chTake c
          let x := r.2.thr t
          some (recvAddr t i, (r.2.setThr t { x with recv := x.recv.set i (some ⟨c, r.1⟩) }).pmuCount t 17)

/-- CH_RECV. -/
def execChRecv (t : Fin 384) (rd : Fin 32) (ch : BitVec 64) (s : State) : Host.Outcome State Fault Refusal :=
  if s.issues t then
    match s.receive t ch.toNat with
    | some (v, s) => .next (s.setX t rd v)
    | none =>
      let s := (s.pmuCount t 18).thrTo t .waiting
      .next (s.setThr t { s.thr t with wait := .recv ch.toNat rd })
  else .next s

/-- CH_RECV_WAKE. -/
def execChRecvWake (t : Fin 384) (s : State) : Host.Outcome State Fault Refusal :=
  match (s.thr t).state, (s.thr t).wait with
  | .waiting, .recv c rd =>
    match s.receive t c with
    | some (v, s) => .next ((s.setX t rd v).thrWake t)
    | none => .next s
  | _, _ => .next s

/-- CH_TRYRECV. -/
def execChTryrecv (t : Fin 384) (rd : Fin 32) (ch : BitVec 64) (s : State) : Host.Outcome State Fault Refusal :=
  if s.issues t then
    match s.receive t ch.toNat with
    | some (v, s) => .next (s.setX t rd v)
    | none => .next (s.setX t rd (status 3))
  else .next s

/-- CH_FREE. -/
def execChFree (t : Fin 384) (rd : Fin 32) (slot : BitVec 64) (s : State) : Host.Outcome State Fault Refusal :=
  if s.issues t then
    match s.recvAt t slot with
    | none => .next (s.setX t rd (status 5))
    | some i => .next ((s.setThr t { s.thr t with recv := (s.thr t).recv.set i none }).setX t rd 0)
  else .next s

/-! ## Starting and stopping threads (R383 to R385) -/

/-- A thread returns to HELD: slots, descriptors, events, interrupts and timer are lost. -/
def State.thrHold (s : State) (t : Nat) : State :=
  let s := (List.range 4).foldl (fun s i =>
    match (s.thr t).stage.getD i none with | some x => s.stageDrop t i x | none => s) s
  let s := (List.range 4).foldl (fun s i =>
    match (s.thr t).recv.getD i none with | some x => s.chDrop x.ch 176 | none => s) s
  (((s.stopWait t).wr64 (evPendA t) 0).wr64 (timeCmpA t) (2 ^ 64 - 1)).setThr t { ThreadSt.reset with since := s.time.ticks }

/-- A reset of CPU region `r` returns the credits of staging slots of its channels, whatever thread holds them (R392). -/
def State.slotsReturn (s : State) (r : Nat) : State :=
  (List.range 384).foldl (fun s t => (List.range 4).foldl (fun (s : State) i =>
    match (s.thr t).stage.getD i none with
    | some x => if chRegion x.ch = r then s.stageDrop t i x else s
    | none => s) s) s

/-- A HELD thread starts: READY, its counters from 0. -/
def State.thrStart (s : State) (t : Nat) : State :=
  let s := (List.range 32).foldl (fun s e => s.setTabN (9 + thrRegion t) (thrCluster t) 0xE8 (thrIndex t * 32 + e) 0) s
  s.setThr t { s.thr t with state := .ready, wait := .none_, cycles := [0, 0, 0, 0], since := s.time.ticks }

/-- A region's master thread is released at its entry point, in M mode, a0 the region index and a1 the device ID (R383). -/
def State.masterStart (s : State) (r : Nat) : State :=
  let t := 128 * r
  let s := s.thrStart t
  let l := [(0, spGet (fun _ => 0) s.cpu.entry r), (10, r), (11, s.deviceId), (68, 3)]
  s.setThr t { s.thr t with regs := l.foldl (fun g p => spPut (fun _ => 0) g p.1 (BitVec.ofNat 64 p.2)) [] }

/-! ## The context window (R384) -/

/-- CTX takes writes from the region's master thread and from JTAG. -/
def ctxMay (m : Master) (r : Nat) : Bool :=
  match m with
  | .core t => t.val == 128 * r
  | .jtag => true
  | _ => false

/-- A write of a CTX register. -/
def State.ctxWrite (s : State) (m : Master) (r off : Nat) (f : State → State) : State :=
  s.asWrite m (ctxA r off) (fun s => if ctxMay m r then f s else s.accessRefused m (ctxA r off) .denied)

def State.ctxErr (s : State) (r e : Nat) : State := s.wr (ctxA r R.CPU_CTX_STAT) (BitVec.ofNat 32 (2 * e))

/-- A command written to CPU_CTX_CMD. -/
def State.ctxCmd (s : State) (r cmd : Nat) : State :=
  let t := s.fld (ctxA r R.CPU_CTX_SEL) 0 9
  let i := s.fld (ctxA r R.CPU_CTX_IDX) 0 7
  let isHeld := decide (384 ≤ t) || (s.thr t).state == .held
  let other := t / 128 != r
  let err : Nat := match cmd with
    | 1 | 2 => if !isHeld then 1 else if other then 2 else if t = 128 * r then 3 else if 68 < i then 4 else 0
    | 3 => if !isHeld then 1 else if other then 2 else 0
    | 4 => if decide (t < 384) && isHeld then 5 else if other then 2 else if t = 128 * r then 3 else 0
    | _ => 0
  if err ≠ 0 then s.ctxErr r err
  else match cmd with
    | 1 =>
      let v := BitVec.ofNat 64 (s.rd64 (ctxA r R.CPU_CTX_DATA_LO))
      let th := s.thr t
      (s.setThr t { th with regs := spPut (fun _ => 0) th.regs i v }).ctxErr r 0
    | 2 => (s.wr64 (ctxA r R.CPU_CTX_DATA_LO) (spGet (fun _ => (0 : BitVec 64)) (s.thr t).regs i).toNat).ctxErr r 0
    | 3 => (s.thrStart t).ctxErr r 0
    | 4 => (s.thrHold t).ctxErr r 0
    | _ => s

def State.ctxRun (s : State) (m : Master) (r cmd : Nat) : State := s.ctxWrite m r R.CPU_CTX_CMD (fun s => s.ctxCmd r cmd)

/-- CTX_WRITE. -/
def execCtxWrite (m : Master) (r : Fin 3) (s : State) : Host.Outcome State Fault Refusal := .next (s.ctxRun m r 1)
/-- CTX_READ. -/
def execCtxRead (m : Master) (r : Fin 3) (s : State) : Host.Outcome State Fault Refusal := .next (s.ctxRun m r 2)
/-- CTX_RELEASE. -/
def execCtxRelease (m : Master) (r : Fin 3) (s : State) : Host.Outcome State Fault Refusal := .next (s.ctxRun m r 3)
/-- CTX_RESET. -/
def execCtxReset (m : Master) (r : Fin 3) (s : State) : Host.Outcome State Fault Refusal := .next (s.ctxRun m r 4)

/-! ## The debugger (R396, R397) -/

/-- A staging slot that a halted thread holds counts in HELD once, and CPU_CH_LASTHOLD names its channel. -/
def State.slotHeld (s : State) (t i : Nat) (x : StageSlot) : State :=
  let s := if x.held then s
    else (s.setThr t { s.thr t with stage := (s.thr t).stage.set i (some { x with held := true }) }).setChan x.ch
      { s.chan x.ch with held := (s.chan x.ch).held + 1 }
  let s := s.wr (chnA (chRegion x.ch) R.CPU_CH_LASTHOLD) (BitVec.ofNat 32 (x.ch + t * 2 ^ 16 + 2 ^ 31))
  s.raise (9 + thrRegion t) (thrCluster t) 1

/-- The debugger halts a thread: a staging slot it holds stays private and keeps its credit. -/
def State.debugHalt (s : State) (t : Nat) : State :=
  let st := (s.thr t).state
  if st = .held ∨ st = .halted ∨ s.rgnWorks (9 + thrRegion t) = false ∨ s.blkHeld (9 + thrRegion t) 6 = true then s
  else
    (List.range 4).foldl (fun (s : State) i =>
      match (s.thr t).stage.getD i none with
      | some x => s.slotHeld t i x
      | none => s) (s.thrTo t .halted)

/-- The debugger resumes a thread: it waits on, or is READY. -/
def State.debugResume (s : State) (t : Nat) : State :=
  if (s.thr t).state = .halted then s.thrTo t (if (s.thr t).wait = .none_ then .ready else .waiting) else s

/-- DEBUG_HALT. -/
def execDebugHalt (t : Fin 384) (s : State) : Host.Outcome State Fault Refusal := .next (s.debugHalt t)

/-- DEBUG_RESUME. -/
def execDebugResume (t : Fin 384) (s : State) : Host.Outcome State Fault Refusal := .next (s.debugResume t)

/-! ## Deadlock (R398) -/

/-- Every started thread of a cluster waits on threads, and at least one is started. -/
def State.clusterDead (s : State) (cl : Nat) : Bool :=
  let l := ((List.range 32).map (fun j => 32 * cl + j)).filter (fun t => (s.thr t).state != .held)
  !l.isEmpty && l.all s.onThreads

/-- The deadlock event ends whatever wait the master is in. -/
def State.masterWoken (s : State) (t : Nat) : State :=
  let x := s.thr t
  if x.state ≠ .waiting then s
  else match x.wait with
    | .ev mask rd _ => let m := mask ||| 2 ^ 63; (s.takeEvents t rd (s.evPend t &&& m) m).thrWake t
    | .acq _ rd => (s.setX t rd (status 2)).thrWake t
    | .recv _ rd => (s.setX t rd (status 2)).thrWake t
    | .none_ => s

/-- DEADLOCK: declared once until some thread of the cluster has stopped waiting on threads. -/
def execDeadlock (cl : Fin 12) (s : State) : Host.Outcome State Fault Refusal :=
  let r := cl.val / 4
  let c := cl.val % 4
  let t := 32 * cl.val
  if !s.clusterDead cl || s.declared cl || !s.rbit (A.cl r c R.CPU_DLK_CTRL) 0 || !s.rgnWorks (9 + r) then .next s
  else
    let mask := bitsWhere (fun j => s.onThreads (t + j)) 32
    let s := ((s.setDeclared cl true).wr (A.cl r c R.CPU_DLK_MASK) (BitVec.ofNat 32 mask)).bump (A.cl r c R.CPU_DLK_CNT)
    let s := if s.coreInReset t then s else s.setEvent t 63
    .next ((s.masterWoken t).raise (9 + r) c 0)

end Sys2Proof.Machine
end

