-- ==== Sys2Proof/Machine/Debug.lean ====
section
/-! DEFINITION. The debug module of a CPU region (R396): the registers of RISC-V External Debug Support 1.0 that select, halt and resume
a hart and reach the registers of a halted one (assumption 92). DMI register d lies at offset 0x100 + 4 d of block DBG. -/

namespace Sys2Proof.Machine

def dbgA (r off : Nat) : Nat := regAddr (9 + r) 6 off

/-- The hart that dmcontrol selects, as a thread. -/
def State.dmHart (s : State) (r : Nat) : Nat := 128 * r + s.fld (dbgA r R.DBG_DMCONTROL) 16 7

/-- A write of dmcontrol: while dmactive is 0 no other field takes a value; haltreq stands before resumereq. -/
def State.dmControl (s : State) (r v : Nat) : State :=
  let a := dbgA r R.DBG_DMCONTROL
  if !natBit v 0 then s.wr a 0
  else if !s.rbit a 0 then s.wr a 1
  else
    let s := s.wr a (BitVec.ofNat 32 (1 + natField v 16 7 * 2 ^ 16))
    if natBit v 31 then s.debugHalt (s.dmHart r) else if natBit v 30 then s.debugResume (s.dmHart r) else s

/-- dmstatus of the selected hart: version 1.0, authenticated; halted, running, unavailable in HELD; a resume is acknowledged at once. -/
def State.dmStatus (s : State) (r : Nat) : Nat :=
  3 + 2 ^ 7 +
  (match (s.thr (s.dmHart r)).state with
   | .halted => 3 * 2 ^ 8
   | .held => 3 * 2 ^ 12
   | .ready | .running | .waiting | .stalled => 3 * 2 ^ 10 + 3 * 2 ^ 16)

/-- haltsum0: the 32 harts around the selected one; haltsum1: the groups of 32 with a halted hart. -/
def State.haltsum0 (s : State) (r : Nat) : Nat :=
  bitsWhere (fun j => (s.thr (s.dmHart r / 32 * 32 + j)).state == .halted) 32
def State.haltsum1 (s : State) (r : Nat) : Nat :=
  bitsWhere (fun g => (List.range 32).any (fun j => (s.thr (128 * r + 32 * g + j)).state == .halted)) 4

/-- abstractcs: two data words, and cmderr. -/
def State.abstractCs (s : State) (r : Nat) : Nat := 2 + s.fld (dbgA r R.DBG_ABSTRACTCS) 8 3 * 2 ^ 8

/-- A write of abstractcs clears the bits of cmderr written 1. -/
def State.abstractCsWrite (s : State) (r v : Nat) : State :=
  let a := dbgA r R.DBG_ABSTRACTCS
  s.setFld a 8 3 (s.fld a 8 3 - (s.fld a 8 3 &&& natField v 8 3))

/-- Register of a thread, as `ThreadSt.regs` numbers it, that an abstract command's regno names. -/
def dmReg (regno : Nat) : Option Nat :=
  if 0x1000 ≤ regno ∧ regno < 0x1020 then some (regno - 0x1000)
  else if 0x1020 ≤ regno ∧ regno < 0x1040 then some (regno - 0x1020 + 32)
  else match regno with
  | 0x7B1 => some 0
  | 0x300 => some 64
  | 0x305 => some 65
  | 0x340 => some 66
  | 0x180 => some 67
  | _ => none

/-- An abstract command that ends with an error sets cmderr. -/
def State.cmdErr (s : State) (r e : Nat) : State := s.setFld (dbgA r R.DBG_ABSTRACTCS) 8 3 e

/-- Access Register of 64 or 32 bits between data0 and data1 and a register of the halted hart; x0 reads 0 and takes nothing. -/
def State.accessRegister (s : State) (r v : Nat) : State :=
  let t := s.dmHart r
  let regno := natField v 0 16
  let wide := natField v 20 3 == 3
  match dmReg regno with
  | none => s.cmdErr r 3
  | some i =>
    if regno = 0x1000 then (if natBit v 16 then s else s.wr64 (dbgA r R.DBG_DATA) 0)
    else
      let old := (spGet (fun _ => (0 : BitVec 64)) (s.thr t).regs i).toNat
      if natBit v 16 then
        let d := s.rd64 (dbgA r R.DBG_DATA)
        s.setThr t { s.thr t with regs := spPut (fun _ => 0) (s.thr t).regs i (BitVec.ofNat 64 (if wide then d else d % 2 ^ 32)) }
      else if wide then s.wr64 (dbgA r R.DBG_DATA) old
      else s.wr (dbgA r R.DBG_DATA) (BitVec.ofNat 32 old)

/-- A write of command: nothing while cmderr stands; another command type, size or a program buffer is not supported; a hart that is
not halted refuses it. -/
def State.abstractCommand (s : State) (r v : Nat) : State :=
  if s.fld (dbgA r R.DBG_ABSTRACTCS) 8 3 ≠ 0 then s
  else if natField v 24 8 ≠ 0 ∨ natBit v 18 = true ∨ (natBit v 17 = true ∧ ¬(natField v 20 3 = 2 ∨ natField v 20 3 = 3)) then s.cmdErr r 2
  else if (s.thr (s.dmHart r)).state ≠ .halted then s.cmdErr r 4
  else if natBit v 17 then s.accessRegister r v
  else s

/-- A write of a DMI register. -/
def State.dmiWrite (s : State) (r off v : Nat) (store : State) : State :=
  if off = R.DBG_DMCONTROL then s.dmControl r v
  else if !s.rbit (dbgA r R.DBG_DMCONTROL) 0 then s
  else if off = R.DBG_ABSTRACTCS then s.abstractCsWrite r v
  else if off = R.DBG_COMMAND then s.abstractCommand r v
  else store

/-- What a DMI register shows that no word holds. -/
def State.dmiView (s : State) (r off : Nat) : Option Nat :=
  if off = R.DBG_DMSTATUS then some (s.dmStatus r)
  else if off = R.DBG_HALTSUM0 then some (s.haltsum0 r)
  else if off = R.DBG_HALTSUM1 then some (s.haltsum1 r)
  else if off = R.DBG_ABSTRACTCS then some (s.abstractCs r)
  else none

end Sys2Proof.Machine
end

