-- ==== Sys2Proof/Machine/Spread.lean ====
section
/-! DEFINITION. Filling the slots of the F-lanes (spec 12, R306, R312, R318; spec 13, R331 to R335), and the start of slots and cycles
(R19, R20). -/

namespace Sys2Proof.Machine

/-! ## What a slot header says -/

/-- Launch instant of slot `k` on a lane (R306), in 2^-32 ns. -/
def launchAt (k adv : Nat) : Nat := ((k * lsbSlot : Nat) + divFree (256 * 2 ^ 32) 10 - ((adv * 2 ^ 24 : Nat) : Int)).toNat

/-- Value of a domain at a working time (assumption 30). -/
def State.domAt (s : State) (d : Dom) (w : Nat) : Nat := (((s.dom d).value : Int) + w - s.wt).toNat

def DomState.code : DomState → Nat
  | .free => 0 | .lock => 1 | .snow => 2

def DomState.ofCode (n : Nat) : DomState := if n = 1 then .lock else if n = 2 then .snow else .free

/-- One domain's byte of TIMEQ in a header of a cycle that begins at slot `cyc` (R335). -/
def State.timeqByte (s : State) (d : Dom) (cyc : Nat) : Nat :=
  let x := s.dom d
  match x.announce with
  | some (v, eff) =>
    if eff ≤ cyc then v.code
    else x.ownState.code + 4 + v.code * 8 + min 3 ((eff - cyc) / s.cycleLen) * 32
  | none => x.ownState.code

/-- The sealed version becomes current at or before the start of slot `k`. -/
def State.commitBy (s : State) (k : Nat) : Bool :=
  match s.ver.commitAt with
  | some t => decide (t ≤ k * lsbSlot)
  | none => false

/-- No virtual output queue and nothing in the fabric sender holds a packet of a version (R237). -/
def State.senderClear (s : State) (odd : Bool) : Bool :=
  s.buf.queues.all (fun q => isEq q.1 || (q.2.items ++ q.2.toSpill ++ q.2.stream).all (fun e => e.pkt.odd != odd)) &&
  s.fab.open_.all (fun q => match q.2 with | some c => c.odd != odd | none => true) && s.fab.spread.all (fun c => c.cell.odd != odd)

/-- VER_CUR and DRAINED, and SEQ, of a header of slot `k` (R237). -/
def State.verAnnounce (s : State) (k : Nat) : Nat × Nat :=
  let due := s.commitBy k
  let odd := if due then !s.verOdd else s.verOdd
  let drained := (due || s.verOther == 2) && s.senderClear (!odd)
  ((if odd then 1 else 0) + (if drained then 2 else 0), (s.fld verStatA 16 16 + (if due then 1 else 0)) % 65536)

/-- The marker that a header launched at `w` echoes (R334). -/
def State.echoOf (s : State) (l peer w : Nat) : Option RxMark :=
  match (s.lane l).rx.find? (fun m => m.peer == peer && decide (m.at_ + 200 * lsbNs ≤ w)) with
  | some m => if w ≤ m.at_ + 16 * lsbSlot then some m else none
  | none => none

/-! ## The OVC bytes of a header (R345) -/

def ovcCtrlA (n : Nat) : Nat := A.ovc (R.SYS_OVC_CTRL + 16 * n)
def State.ovcMode (s : State) (n : Nat) : Nat := s.fld (ovcCtrlA n) 0 2
def State.ovcPort (s : State) (n : Nat) : OvcSt := spGet (fun _ => OvcSt.reset) s.fab.ovc n
def State.setOvc (s : State) (n : Nat) (x : OvcSt) : State :=
  { s with fab := { s.fab with ovc := spPut (fun _ => OvcSt.reset) s.fab.ovc n x } }

/-- The port that bridges a lane-slot; its channel carries something only while POS is below C and WT_VALID is set (R347). -/
def State.ovcBridge (s : State) (l p : Nat) : Option Nat :=
  [0, 1, 2, 3].find? (fun n => s.ovcMode n == 2 && s.fld (ovcCtrlA n) 4 8 == l && s.fld (ovcCtrlA n) 12 3 == p &&
    s.time.wtValid && decide (p < s.cycleLen))

/-- Four overhead bytes: the next bytes of the frame that is being sent, flags otherwise. -/
def State.ovcTake (s : State) (l p : Nat) : List Byte × State :=
  match s.ovcBridge l p with
  | some n =>
    let x := s.ovcPort n
    ((x.sending.take 4 ++ List.replicate 4 (0x7E : Byte)).take 4, s.setOvc n { x with sending := x.sending.drop 4 })
  | none => (List.replicate 4 0x7E, s)

/-! ## SLOT_FILL (R312) -/

def State.relayQ (s : State) (d : Nat) : List HeldCell := spGet (fun _ => []) s.fab.relay d
def State.setRelayQ (s : State) (d : Nat) (l : List HeldCell) : State :=
  { s with fab := { s.fab with relay := spPut (fun _ => []) s.fab.relay d l } }

/-- NEXT of a relay cell in BUF's link memory (R247, R252): the next cell of its relay queue. -/
def State.relayNext (s : State) (d ptr : Nat) : Option Nat :=
  let l := (s.relayQ d).map (·.ptr)
  (l.findIdx? (fun c => c == ptr)).bind (fun i => l[i + 1]?)

/-- The relay hop: each usable lane takes cells for its peer, 91 at most; the rooms that are left. -/
def relayGo : List (Nat × Nat) → State → List (Nat × Cell) → List (Nat × Cell) × List (Nat × Nat) × State
  | [], s, acc => (acc, [], s)
  | (l, peer) :: rest, s, acc =>
    let take := (s.relayQ peer).take 91
    let s := (s.freeCells (take.map (·.ptr))).setRelayQ peer ((s.relayQ peer).drop 91)
    let s := s.bump64 (rlyA R.FAB_RLY_CELLS) take.length
    let r := relayGo rest s (acc ++ take.map (fun h => (l, { h.cell with hop := true })))
    (r.1, (l, 91 - take.length) :: r.2.1, r.2.2)

/-- SEQ of the next cell toward a destination. -/
def State.takeSeq (s : State) (d : Nat) : Nat × State :=
  let n := spGet (fun _ => 0) s.fab.nextSeq d
  (n, { s with fab := { s.fab with nextSeq := spPut (fun _ => 0) s.fab.nextSeq d ((n + 1) % 2 ^ 20) } })

/-- Packets whose last byte has left no longer count (R236). -/
def inflLeave (odd : Bool) : Nat → State → State
  | 0, s => s
  | n + 1, s => inflLeave odd n (s.inflSub odd)

/-- The spread hop: lanes with room, in rotation. -/
def spreadGo : Nat → List (Nat × Nat) → State → List (Nat × Cell) → List (Nat × Cell) × State
  | 0, _, s, acc => (acc, s)
  | _ + 1, [], s, acc => (acc, s)
  | f + 1, (l, room) :: rest, s, acc =>
    match s.fab.spread with
    | [] => (acc, s)
    | c :: q =>
      if room = 0 then spreadGo f rest s acc
      else
        let s : State := { s with fab := { s.fab with spread := q, lastLane := l } }
        let n := s.takeSeq c.cell.dst
        spreadGo f (rest ++ [(l, room - 1)]) (inflLeave c.cell.odd c.ends n.2) (acc ++ [(l, { c.cell with seq := n.1, hop := false })])

/-- The header of slot `k` on a lane; `used`: the lane carries a slot to a peer at this position (R331). -/
def State.laneHeader (s : State) (k l p peer : Nat) (used : Bool) : SlotHeader × State :=
  let w := launchAt k (s.lane l).adv
  let c := s.domAt .cobalt w
  let u := s.domAt .umber w
  let e := if used then s.echoOf l peer w else none
  let a := if used then s.alwRecords peer else (List.replicate 4 0xFFFF, s)
  let d := if used then a.2.demRecords peer else (List.replicate 2 0xFFFFFFFF, a.2)
  let o := if used then d.2.ovcTake l p else (List.replicate 4 0x7E, d.2)
  let v := s.verAnnounce k
  let cyc := k / s.cycleLen * s.cycleLen
  let h : SlotHeader :=
    { sender := s.deviceId, rxOk := used && (s.lslot l p).aligned, echoValid := e.isSome, anchC := s.isAnchor .cobalt
      anchU := s.isAnchor .umber, slot := k % 2 ^ 32, txC := stamp48 c, txU := stamp48 u
      secHi := tvSec (if k % 2 = 0 then c else u) / 256 % 2 ^ 40, ver := v.1, seq := v.2
      echoSlot := (e.elim 0 (·.slot)) % 65536, echoC := e.elim 0 (fun m => stamp48 m.cobalt), echoU := e.elim 0 (fun m => stamp48 m.umber)
      timeq := s.timeqByte .cobalt cyc + s.timeqByte .umber cyc * 256, alw := a.1, dem := d.1, ovc := o.1 }
  let x := o.2.lane l
  (h, o.2.setLane l { x with tx := ((⟨k % 2 ^ 32, c, u⟩ : TxMark) :: x.tx).take 16 })

/-- An IDLE cell: every field but SRC and HCRC is 0 (R309). -/
def idleCell (src : Nat) : Cell := ⟨src, 0, 0, 0, false, false, false, true, 0, 0, 0, 0, List.replicate 256 0⟩

/-- One lane's slot goes out: its cells, and IDLE cells in the remaining places (R312). -/
def State.laneSend (s : State) (k b p l : Nat) (cells : List (Nat × Cell)) : State :=
  let e := s.piste b p l
  let h := s.laneHeader k l p (pisPeer e) (pisUsed e)
  let mine := (cells.filter (fun c => c.1 == l)).map (·.2)
  let s := h.2.bump64 (schF (l / 72) R.FAB_CELLS_TX) mine.length
  s.emit (.laneTx l k (launchAt k (s.lane l).adv) (slotLine (markerBytes ++ slotHeaderBytes h.1)
    ((mine ++ List.replicate (91 - mine.length) (idleCell s.deviceId)).map cellBytes)))

/-- The lane's piste entry is read: a stored pair that fails is logged (R102). -/
def State.pisteRead (s : State) (b p l : Nat) : State :=
  if s.pisteBad b p l then s.intgLog 2 (winA (0x14 + l / 72) 0 0) 4 0 0 else s

/-- ADV changes take effect at the next slot start (R306): the slot filled next is launched with them. -/
def State.latchAdv (s : State) : State :=
  (List.range 144).foldl (fun s l => s.setLane l { s.lane l with adv := s.fld (laneAdvA l) 0 20 }) s

/-- Every enabled lane of slot `k`; the relay queues and the spread FIFO stand still while block RLY is held. -/
def State.fillSlot (s : State) (k : Nat) : State :=
  let b := s.bankAt k
  let p := k % cfgClen (s.pisteCfg b)
  let s := (List.range 144).foldl (fun s l => s.pisteRead b p l) s.deviceIdRead.latchAdv
  let lanes := (List.range 144).filter (fun l => s.laneEn l && !s.flaneHeld l)
  let u := lanes.filter (fun l => s.usableIn b l p)
  let down := s.blkHeld 0x14 1
  let r := if s.meets 0x13 0 || down then ([], u.map (fun l => (l, 91)), s) else relayGo (u.map (fun l => (l, pisPeer (s.piste b p l)))) s []
  let start := r.2.2.fab.lastLane + 1
  let order := r.2.1.filter (fun x => decide (start ≤ x.1)) ++ r.2.1.filter (fun x => decide (x.1 < start))
  let t := if down then (r.1, r.2.2) else spreadGo (r.2.2.fab.spread.length + 144) order r.2.2 r.1
  lanes.foldl (fun s l => s.laneSend k b p l t.1) t.2

/-- SLOT_FILL: the next slot is filled, once, during the slot before it. -/
def execSlotFill (s : State) : Host.Outcome State Fault Refusal :=
  let k := s.time.nextSlot
  if s.time.wtValid && s.fabricRuns && decide (s.fab.filled ≤ k) then
    let t := s.fillSlot k
    .next { t with fab := { t.fab with filled := k + 1 } }
  else .next s

/-! ## SLOT_START and CYCLE_START (R19, R20) -/

/-- SLOT_START. -/
def execSlotStart (s : State) : Host.Outcome State Fault Refusal :=
  if s.instantDue (s.time.nextSlot * lsbSlot) then
    .next (({ s with time := { s.time with nextSlot := s.time.nextSlot + 1 } } : State).latchAdv)
  else .next s

/-- CYCLE_START: of the slot that began last, once: open cells close; TIME, QUE0 and the fabric do their cycle-start work. -/
def execCycleStart (s : State) : Host.Outcome State Fault Refusal :=
  let k := s.time.nextSlot - 1
  if s.time.wtValid = false then .next s.joinCycleStart
  else if s.atCycleStart && decide (s.fab.cycleRun ≤ k) then
    let s : State := { s with fab := { s.fab with cycleRun := k + 1 } }
    let s := s.cycleTime k
    let a := s.lanesAligned
    let s := a.2.closeAll
    if s.rgnWorks 0x11 then .next ((s.alwCycle (k * lsbSlot)).grantCycle a.1) else .next s
  else .next s

end Sys2Proof.Machine
end

