-- ==== Sys2Proof/Machine/Deliver.lean ====
section
/-! DEFINITION. What arrives from the fabric: slots, their alignment and their headers (spec 13, R333 to R344), and cells: relay,
resequencing and reassembly (spec 12, R313 to R320). -/

namespace Sys2Proof.Machine

/-! ## Slot headers -/

/-- Slot number with these low 32 bits that is nearest to the device's own. -/
def State.fullSlot (s : State) (n : Nat) : Nat :=
  let o := s.time.nextSlot
  let b := o / 2 ^ 32 * 2 ^ 32 + n
  if b + 2 ^ 31 < o then b + 2 ^ 32 else if o + 2 ^ 31 ≤ b then b - 2 ^ 32 else b

/-- A version announcement of a slot at or after the last commit (R237, R238). -/
def State.takeVersion (s : State) (peer : Nat) (h : SlotHeader) : State :=
  if s.fullSlot h.slot * lsbSlot < s.ver.lastT then s
  else
    let a : PeerVer := ⟨natBit h.ver 0, h.seq, natBit h.ver 1⟩
    let s : State := { s with ver := { s.ver with peers := spPut (fun _ => none) s.ver.peers peer (some a) } }
    let s := if h.seq != s.verSeqNow && !s.ver.skewed.contains peer then
        (({ s with ver := { s.ver with skewed := peer :: s.ver.skewed } } : State).bump (A.ver R.SYS_VER_SKEW)).verRaise 6
      else s
    s.cond2Sync

/-- The anchor's state of a domain, from its TIMEQ byte (R335). -/
def State.takeTimeq (s : State) (d : Dom) (h : SlotHeader) : State :=
  let x := s.dom d
  let anch := match d with | .cobalt => h.anchC | .umber => h.anchU
  let q := match d with | .cobalt => h.timeq % 128 | .umber => h.timeq / 256 % 128
  if s.isAnchor d || !anch || h.sender != s.domF d R.TIME_DOM_MODE 16 10 then s
  else
    let c := s.cycleLen
    if natBit q 2 then
      s.setDom d { x with reportPend := some (DomState.ofCode (natField q 3 2), s.fullSlot h.slot / c * c + natField q 5 2 * c) }
    else
      let st := DomState.ofCode (natField q 0 2)
      if x.reported = some st then s
      else s.setDom d { x with reportPend := some (st, s.time.nextSlot / c * c + (if s.time.nextSlot % c = 0 then 0 else c)) }

/-- The offset of an exchange or of a one-way header (R45, R46), for the next cycle start: the first of the cycle stands. -/
def State.takeOffset (s : State) (l : Nat) (d : Dom) (h : SlotHeader) (t4 : Nat) : State :=
  let x := s.dom d
  if s.domSrc d ≠ 3 ∨ h.sender ≠ s.domF d R.TIME_DOM_MODE 16 10 then s
  else
    let tx := match d with | .cobalt => h.txC | .umber => h.txU
    let echo := match d with | .cobalt => h.echoC | .umber => h.echoU
    let own := if h.echoValid then (s.lane l).tx.find? (fun t => t.slot % 65536 == h.echoSlot) else none
    match own with
    | some t =>
      let t1 := match d with | .cobalt => t.cobalt | .umber => t.umber
      let dl := spGet (fun _ => (0, 0)) s.fab.delays l
      let num : Int := ((stampNear x.value echo : Int) - t1) + ((stampNear x.value tx : Int) - t4) - ((dl.1 : Int) - dl.2) * (2 ^ 24 : Nat)
      if x.fabricNext.isSome && x.twoWay then s
      else if s.time.wtValid then s.setDom d { x with fabricNext := some (divFree num (2 ^ 17)), twoWay := true }
      else s
    | none =>
      let covered := match d with | .cobalt => h.slot % 2 == 0 | .umber => h.slot % 2 == 1
      if x.twoWay || x.fabricNext.isSome || !covered then s
      else
        let t3 := stampWith (h.secHi * 256 + natField tx 40 8) tx
        let th : Int := (t3 : Int) + ((s.rd (domA d R.TIME_DOM_PDLY)).toNat * 2 ^ 24 : Nat) - t4
        s.setDom d { x with fabricNext := some (divFree th (2 ^ 16)) }

/-- Overhead bytes of a bridged lane-slot; flags that open nothing are left out (R345). -/
def State.ovcGive (s : State) (l p : Nat) (b : List Byte) : State :=
  match s.ovcBridge l p with
  | some n =>
    let x := s.ovcPort n
    s.setOvc n { x with chanIn := (x.chanIn ++ b).dropWhile (fun c => c == 0x7E) }
  | none => s

/-- What a good header of an aligned lane-slot gives. -/
def State.takeHeader (s : State) (l p w : Nat) (h : SlotHeader) : State :=
  let s := if s.rgnRuns 0x11 then
      h.dem.foldl (fun s r => s.takeDemand h.sender r) (h.alw.foldl (fun s r => s.takeAllowance h.sender w r) (s.met h.sender))
    else s
  let s := if s.rgnRuns 1 then (s.takeTimeq .cobalt h).takeTimeq .umber h else s
  (s.takeVersion h.sender h).ovcGive l p h.ovc

/-- A good marker: receive stamps, echo, offsets, receive phase (R308, R334, R337). -/
def State.takeMarker (s : State) (l p age : Nat) (h : SlotHeader) : State :=
  let c := s.time.cobalt.value - age
  let u := s.time.umber.value - age
  let x := s.lane l
  let s := s.setLane l { x with rx := ((⟨h.sender, h.slot, c, u, s.wt - age⟩ : RxMark) :: x.rx).take 16 }
  let s := if s.rgnRuns 1 then (s.takeOffset l .cobalt h c).takeOffset l .umber h u else s
  if s.time.wtValid then s.phaseMeasured p l ((s.wt - age) % lsbSlot / 2 ^ 26) else s

/-! ## SLOT_RX -/

/-- Counts of the running second: entry `i` counts `n`. -/
def State.laneSec (s : State) (l i n : Nat) : State :=
  let x := s.lane l
  s.setLane l { x with sec := x.sec.set i (x.sec.getD i 0 + n) }

/-- A candidate marker of a lane-slot that is not aligned (R338). -/
def State.searchSlot (s : State) (x : RxSlot) (h : SlotHeader) (p : Nat) : State :=
  let l := x.lane.val
  let q := s.lslot l p
  let near := rawMarkerNear x.line (beNat markerBytes) && (!(cfgMode (s.pisteCfg s.activeBank) == 2 && s.time.wtValid) ||
    decide (phaseDist ((s.wt - x.age) % lsbSlot / 2 ^ 26) (s.loadedPhase p l) ≤ 1024))
  if near then s.setLslot l p { q with cand := some (1, h.slot) } else s.setLslot l p { q with cand := none }

/-- A slot at the instant a candidate expects: three good markers in a row declare alignment. -/
def State.confirmSlot (s : State) (x : RxSlot) (h : Option SlotHeader) (n last : Nat) : State :=
  let l := x.lane.val
  let p := x.pos.val
  let q := s.lslot l p
  match h with
  | some h =>
    if x.onTime && h.slot == (last + s.cycleLen) % 2 ^ 32 then
      let s := s.takeMarker l p x.age h
      (if n = 2 then
         (s.setLslot l p { q with aligned := true, cand := none, bad := 0, lastGood := h.slot, rxOk := h.rxOk, centre := none }).cond2Sync
       else s.setLslot l p { q with cand := some (n + 1, h.slot) })
    else s.searchSlot x h p
  | none => s.setLslot l p { q with cand := none }

/-- Alignment of a lane-slot is lost (R339). -/
def State.loseAlign (s : State) (l p : Nat) : State :=
  ((s.setLslot l p LaneSlotSt.reset).bump (lnkCntA l R.FAB_LNK_ALIGN_LOSS)).cond2Sync

/-- The slip of a slot at its fill frames (R340). -/
def State.slip (s : State) (l level centre : Nat) : State :=
  if centre + 24 ≤ level then (s.bump (lnkCntA l R.FAB_LNK_SLIP_DROP)).laneSec l 3 1
  else if level + 24 ≤ centre then (s.bump (lnkCntA l R.FAB_LNK_SLIP_REP)).laneSec l 3 1
  else s

/-- A slot on an aligned lane-slot: `h` is its header where HCRC is good, `good` whether marker, header and sender are right. -/
def State.alignedSlot (s : State) (x : RxSlot) (h : Option SlotHeader) (base : Bool) : State :=
  let l := x.lane.val
  let p := x.pos.val
  let q := s.lslot l p
  let peer := pisPeer (s.piste s.activeBank p l)
  let s := ((s.laneSec l 0 x.corrected).laneSec l 1 x.uncorrectable).laneSec l 5 1
  let s := (s.bump64 (lnkCntA l R.FAB_LNK_CORR) x.corrected).bump64 (lnkCntA l R.FAB_LNK_UNCORR) x.uncorrectable
  let s := if x.signal && x.cw0 && h.isNone then s.laneSec l 4 1 else s
  let overran := x.overrun.isSome
  let slotOk := match h with | some h => h.slot == (q.lastGood + s.cycleLen * (q.bad + 1)) % 2 ^ 32 | none => false
  let good := base && slotOk && !overran
  let s := if overran then (s.bump (lnkCntA l R.FAB_LNK_OVERRUN)).raise (0x14 + l / 72) 3 2 else s
  let s := match q.centre with | some c => if overran then s else s.slip l x.level c | none => s
  let s := match h with
    | some h => if h.sender = peer then
        (s.setLslot l p { q with rxOk := h.rxOk }).takeHeader l p (s.wt - x.age) h else s
    | none => s
  let q := s.lslot l p
  let q := if overran then { q with centre := none } else q
  let s := if good then
      let n := (h.elim 0 (·.slot))
      s.setLslot l p { q with bad := 0, lastGood := n, centre := some (q.centre.getD x.level) }
    else (s.setLslot l p { q with bad := q.bad + 1 }).laneSec l 2 1
  let s := match h with | some h => if good then s.takeMarker l p x.age h else s | none => s
  let s := if !good && decide (4 ≤ q.bad + 1) then s.loseAlign l p else s
  let right := match h with | some h => h.sender == peer | none => true
  let cells := if x.signal && right then (x.cells.take (x.overrun.getD 91)).filterMap id else []
  { s with fab := { s.fab with rx := s.fab.rx ++ cells.map (fun c => (l, s.time.nextSlot - 1, c)) } }

/-- What a lane that is powered down or whose cage is held receives: nothing (R81, R84). -/
def RxSlot.dark (x : RxSlot) : RxSlot := { x with signal := false, settled := false, line := 0, overrun := none }

/-- SLOT_RX. -/
def execSlotRx (x : RxSlot) (s : State) : Host.Outcome State Fault Refusal :=
  let l := x.lane.val
  let f := l / 72
  let x := if s.laneEn l && !s.flaneHeld l then x else RxSlot.dark x
  if !s.rgnWorks (0x14 + f) || s.blkHeld (0x14 + f) 0 || s.blkHeld (0x14 + f) 3 then .next s
  else
    let s := (s.setRbit (lnkStatA l) 17 x.signal).setRbit (lnkStatA l) 18 x.settled
    let h := if x.signal && x.cw0 then slotHeaderOf (x.head.drop 16) else none
    let q := s.lslot l x.pos
    let expected := q.aligned || q.cand.isSome
    let p := if expected then x.pos.val else (h.elim 0 (·.slot)) % s.cycleLen
    let e := s.piste s.activeBank p l
    if !pisUsed e || decide (s.cycleLen ≤ p) then .next s
    else
      let mis := match h with | some h => h.sender != pisPeer e | none => false
      let s := if mis then (s.bump (schF f R.FAB_MISCONNECT) x.cells.length).raise (0x14 + f) 0 4 else s
      let base := h.isSome && !mis && x.head.take 16 == markerBytes
      let s := if q.aligned then s.alignedSlot x h base
        else match q.cand with
          | some (n, last) => s.confirmSlot x (if base then h else none) n last
          | none => match h with
            | some h =>
              let y := s.lslot l p
              if base && !y.aligned && y.cand.isNone then s.searchSlot x h p else s
            | none => s
      .next (s.laneSlotSync l p)

/-! ## Reassembly (R317) -/

def State.context (s : State) (k : Nat) : ContextSt := spGet (fun _ => ContextSt.reset) s.fab.contexts k
def State.setContext (s : State) (k : Nat) (x : ContextSt) : State :=
  { s with fab := { s.fab with contexts := spPut (fun _ => ContextSt.reset) s.fab.contexts k x } }

/-- Length of a stream packet: header and data, once its first two bytes are there. -/
def streamLen (b : List Byte) : Nat := 18 + natField (beNat (b.take 2)) 0 14

/-- Bytes of a cell cut into packets: those that end in it with their CE marks, and the packet left in progress. `i` counts the headers
begun in this cell. -/
def cutGo (mask : Nat) : Nat → Nat → List Byte → Bool → List Byte → List (List Byte × Bool) × List Byte × Bool
  | 0, _, part, ce, _ => ([], part, ce)
  | _ + 1, _, part, ce, [] => ([], part, ce)
  | f + 1, i, part, ce, b =>
    let start := part.isEmpty
    let ce := if start then natBit mask i else ce
    let i := if start then i + 1 else i
    let need := if part.length < 18 then 18 else streamLen part
    let take := need - part.length
    let part := part ++ b.take take
    let b := b.drop take
    if 18 ≤ part.length ∧ part.length = streamLen part then
      let r := cutGo mask f i [] false b
      ((part, ce) :: r.1, r.2)
    else cutGo mask f i part ce b

/-- The header vector a stored packet stands for (R317). -/
def fabricHv (src : Nat) (b : List Byte) (n : Nat) (odd : Bool) : List Byte :=
  let port := natField (b.getD 3 0).toNat 0 7
  [BitVec.ofNat 8 (port + (if odd then 128 else 0)), BitVec.ofNat 8 (natField (b.getD 2 0).toNat 4 2)] ++ beBytes 2 n ++
  List.replicate 4 0 ++ beBytes 2 src ++ List.replicate 4 0 ++ List.replicate 4 0xFF ++ [0, 0, 0, b.getD 5 0, 0, 0, b.getD 4 0] ++
  List.replicate 15 0 ++ (List.range 8).flatMap (fun j => [b.getD (9 + j) 0, 0]) ++ List.replicate 72 0

/-- A packet read from its stream. -/
def fabricPkt (src : Nat) (b : List Byte) (ce bad odd : Bool) (wt : Nat) : Pkt :=
  let w := beNat (b.take 2)
  let c := (b.getD 2 0).toNat
  let bytes := b.drop 18
  { Pkt.empty with
    bytes := bytes, port := natField (b.getD 3 0).toNat 0 7, kind := natField c 4 2, odd := odd, accepted := wt, cut := natBit w 15
    bad := bad, hv := fabricHv src b bytes.length odd, ipLoc := natField (b.getD 17 0).toNat 0 3, ect := natBit w 14
    color := natField c 6 2, ce := ce, tc := natField c 1 3, rewrite := natField (beNat ((b.drop 6).take 3)) 0 20, srcDev := src + 1 }

/-- A packet is enqueued with the cells it holds, or expanded at the destination (R263). One whose CT is set may have been enqueued
before its tail (R260). A local port that is unassigned takes none (R13, assumption 88). -/
def State.reassembled (s : State) (src dport : Nat) (b : List Byte) (ce bad odd : Bool) (cells : List Nat) : State :=
  let k := fabricPkt src b ce bad odd s.wt
  let s := s.inflAdd odd
  if s.meets 0x13 0 || s.rgnDown 0x10 then (s.absentDrop 0x15).dropHeld k cells
  else if 70 ≤ dport then s.nhInvalid.dropHeld k cells
  else if natBit (b.getD 2 0).toNat 0 then s.joinRepl k (k.rewrite % 65536) true cells
  else
    let p := s.deviceId * 128 + dport
    s.admitUnicast { k with dest := .unicast p } p k.rewrite k.cut cells

/-- A packet in progress ends where it stands: with its first 256 bytes stored and CT set it may be in its queue, and ends there as a bad
tail; otherwise its cells return (R250, R260, R317). -/
def State.cutShort (s : State) (src dport : Nat) (b : List Byte) (ce odd : Bool) (cells : List Nat) : State :=
  let n := min (b.length - 18) (256 * cells.length - 32)
  if natBit (beNat (b.take 2)) 15 && !natBit (b.getD 2 0).toNat 0 && decide (256 ≤ n) then
    s.reassembled src dport (b.take (18 + n)) ce true odd (cells.take (cellsFor n))
  else s.freeCells cells

/-- The general cells of a packet read up to its byte `n`, beyond those it holds (R251): none where the area is exhausted. -/
def State.growCells (s : State) (room : Bool) (n : Nat) (cells : List Nat) : Option (List Nat) × State :=
  if !room then (none, s)
  else match s.allocCells 0 ((if n < 18 then 0 else cellsFor (n - 18)) - cells.length) with
    | some r => (some (cells ++ r.1), r.2)
    | none => (none, s)

/-- The last byte of a packet has been read. A packet lost for want of a cell was counted then. -/
def State.packetEnds (s : State) (c : Cell) (room : Bool) (b : List Byte) (ce bad : Bool) (cells : List Nat) (lost : Bool) : State :=
  if lost then s
  else match s.growCells room b.length cells with
    | (some l, s) => s.reassembled c.src c.dport b ce bad c.odd l
    | (none, s) => s.noCell.cutShort c.src c.dport b ce c.odd cells

/-- The packet in progress takes the cells of its bytes so far. -/
def State.packetGrows (s : State) (k : Nat) (c : Cell) (room : Bool) : State :=
  let x := s.context k
  if x.lost || x.part.isEmpty then s
  else match s.growCells room x.part.length x.cells with
    | (some l, s) => s.setContext k { x with cells := l }
    | (none, s) => (s.noCell.setContext k { x with cells := [], lost := true }).cutShort c.src c.dport x.part x.ce c.odd x.cells

/-- A cell delivered to its context, in SEQ order. It is written to the general area, and its cell there returns once the context has
read it into the packets that it carries (R246, R247, R251). -/
def State.deliverCell (s : State) (c : Cell) : State :=
  let k := c.src * 128 + c.dport
  let x := s.context k
  let b := c.payload.take (c.fill + 1)
  if x.broken && c.firstOfs == 0x1FF then s
  else
    let b := if x.broken then b.drop c.firstOfs else b
    let part := if x.broken then [] else x.part
    let raw := s.allocUpTo 0 1
    let room := !raw.1.isEmpty
    let r := cutGo c.ceMask (b.length + 2) 0 part x.ce b
    let n := r.1.length
    let s := if n = 0 then raw.2.setContext k { x with part := r.2.1, ce := r.2.2, odd := c.odd, broken := false }
      else raw.2.setContext k ⟨r.2.1, r.2.2, c.odd, false, [], false⟩
    let s := (r.1.zipIdx).foldl (fun s q => s.packetEnds c room q.1.1 q.1.2 (c.bad && q.2 + 1 == n) (if q.2 = 0 then x.cells else [])
      (decide (q.2 = 0) && x.lost)) s
    (s.packetGrows k c room).freeCells raw.1

/-- A context is broken: its packet in progress is lost, or ends as a bad tail where its head is enqueued. -/
def State.breakContext (s : State) (k : Nat) : State :=
  let x := s.context k
  let s := s.setContext k ⟨[], false, false, true, [], false⟩
  if x.part.isEmpty || x.lost then s
  else ((s.cutShort (k / 128) (k % 128) x.part x.ce x.odd x.cells).bump (rsqA R.FAB_RSQ_ABORT)).raise 0x15 2 2

/-! ## Resequencing (R315, R316) -/

def State.source (s : State) (n : Nat) : SourceSt := spGet (fun _ => SourceSt.reset) s.fab.sources n
def State.setSource (s : State) (n : Nat) (x : SourceSt) : State :=
  { s with fab := { s.fab with sources := spPut (fun _ => SourceSt.reset) s.fab.sources n x } }

/-- Expiry of a gap timer started by a cell of slot `k`. -/
def State.gapDeadline (s : State) (k : Nat) : Nat :=
  (k + s.cycleLen + 1) * lsbSlot + s.fld (rsqA R.FAB_RSQ_PROP) 0 17 * lsbNs

def seqDist (a b : Nat) : Nat := (b + 2 ^ 20 - a % 2 ^ 20) % 2 ^ 20

/-- Held cells from EXP on are delivered; then the timer stops, or starts again from the earliest-arrived cell still held. -/
def deliverHeld (n : Nat) : Nat → State → State
  | 0, s => s
  | f + 1, s =>
    let x := s.source n
    match x.exp with
    | none => s
    | some e =>
      match x.held.find? (fun h => h.cell.seq == e) with
      | some h =>
        let s := (s.setSource n { x with exp := some ((e + 1) % 2 ^ 20), held := x.held.filter (fun g => g.cell.seq != e) }).freeCells [h.ptr]
        deliverHeld n f (s.deliverCell h.cell)
      | none => s.setSource n { x with timer := (x.held.head?).map (fun h => s.gapDeadline h.slot) }

/-- The lowest held SEQ: from EXP on where it is set, else around the first cell held. -/
def SourceSt.lowest (x : SourceSt) : Nat :=
  let base := match x.exp with | some e => e | none => ((x.held.head?).elim 0 (·.cell.seq) + 2 ^ 19) % 2 ^ 20
  let d := x.held.foldl (fun m h => min m (seqDist base h.cell.seq)) (2 ^ 20)
  (base + d) % 2 ^ 20

/-- Cells of a source are declared lost: its counter in TABLE 0xA3, and FAB_RSQ_LOST. -/
def State.cellsLost (s : State) (n c : Nat) : State :=
  let s := s.bump64 (rsqA R.FAB_RSQ_LOST) c
  let s := if s.ctl.snapFrozen then s else s.setTabN 0x15 2 0xA3 n ((s.tabN 0x15 2 0xA3 n + c) % 2 ^ 64)
  s.raise 0x15 2 0

/-- The gap timer of a source expires. -/
def State.gapExpire (s : State) (n : Nat) : State :=
  let x := s.source n
  let q := x.lowest
  let s := match x.exp with
    | some e =>
      let s := s.cellsLost n (seqDist e q)
      (List.range 128).foldl (fun (s : State) p => s.breakContext (n * 128 + p)) s
    | none => s
  deliverHeld n (x.held.length + 1) (s.setSource n { s.source n with exp := some q })

/-- The running timer with the earliest deadline. -/
def State.earliestTimer (s : State) : Option Nat :=
  (s.fab.sources.foldl (fun (m : Option (Nat × Nat)) q =>
    match q.2.timer, m with
    | some t, some (_, u) => if t < u then some (q.1, t) else m
    | some t, none => some (q.1, t)
    | none, _ => m) none).map (·.1)

/-- A cell is held; the timer of its source starts if it is not running. -/
def State.holdCell (s : State) (n slot : Nat) (c : Cell) : State :=
  match s.allocCells 2 1 with
  | some ([ptr], s) =>
    let x := s.source n
    s.setSource n { x with held := x.held ++ [⟨c, ptr, slot⟩], timer := some (x.timer.getD (s.gapDeadline slot)) }
  | _ => s

/-- R316. -/
def State.resequence (s : State) (slot : Nat) (c : Cell) : State :=
  let n := c.src
  let s := s.setSource n { s.source n with lastSlot := slot }
  let x := s.source n
  match x.exp with
  | none => s.holdCell n slot c
  | some e =>
    let d := seqDist e c.seq
    if 2 ^ 19 ≤ d then s.bump (rsqA R.FAB_RSQ_LATE)
    else if d = 0 then
      deliverHeld n (x.held.length + 1) ((s.setSource n { x with exp := some ((e + 1) % 2 ^ 20) }).deliverCell c)
    else if x.held.any (fun h => h.cell.seq == c.seq) then s.bump (rsqA R.FAB_RSQ_DUP)
    else
      let full := (s.freeCell 2 0).isNone
      let s := if full then
          let s := (s.bump (rsqA R.FAB_RSQ_FORCED)).raise 0x15 2 1
          match s.earliestTimer with | some m => s.gapExpire m | none => s
        else s
      s.holdCell n slot c

/-! ## CELL_RX (R313, R314) -/

/-- A cell for another device joins its relay queue, where the relay area has a cell. -/
def State.relayCell (s : State) (slot : Nat) (c : Cell) : State :=
  if s.meets 0x13 0 then s.absentDrop 0x14
  else
    match s.allocCells 1 1 with
    | some ([ptr], s) => s.setRelayQ c.dst (s.relayQ c.dst ++ [⟨c, ptr, slot⟩])
    | _ => (s.bump (rlyA R.FAB_RLY_DROP)).raise 0x14 1 0

/-- One received cell. -/
def State.cellIn (s : State) (l slot : Nat) (b : List Byte) : State :=
  let f := l / 72
  match cellOf b with
  | none => s.bump (schF f R.FAB_HCRC_ERR)
  | some c =>
    let lost (s : State) : State := (s.bump (schF f R.FAB_MISROUTE)).raise (0x14 + f) 0 5
    if c.idle then s
    else
      let s := s.bump64 (schF f R.FAB_CELLS_RX)
      let n := s.systemSize
      if c.src = s.deviceId ∨ n ≤ c.src ∨ n ≤ c.dst then lost s
      else if c.dst = s.deviceId then (if s.rgnDown 0x15 || s.blkHeld 0x15 2 then s else s.resequence slot c)
      else if c.hop then lost s
      else if s.rgnDown 0x14 || s.blkHeld 0x14 1 then s
      else s.relayCell slot c

/-- CELL_RX: the oldest cell received. -/
def execCellRx (s : State) : Host.Outcome State Fault Refusal :=
  match s.fab.rx with
  | [] => .next s
  | (l, slot, b) :: r => .next (({ s with fab := { s.fab with rx := r } } : State).cellIn l slot b)

/-- RELAY_AGED: the oldest cell for a destination, after 2 × C slots. -/
def execRelayAged (d : Fin 1024) (s : State) : Host.Outcome State Fault Refusal :=
  match s.relayQ d with
  | [] => .next s
  | h :: r =>
    if h.slot + 2 * s.cycleLen < s.time.nextSlot then
      .next ((((s.setRelayQ d r).freeCells [h.ptr]).bump (rlyA (R.FAB_RLY_DROP + 4))).raise 0x14 1 1)
    else .next s

/-- GAP_TIMER_EXPIRY. -/
def execGapTimerExpiry (n : Fin 1024) (s : State) : Host.Outcome State Fault Refusal :=
  match (s.source n).timer with
  | some t => if s.instantDue t then .next (s.gapExpire n) else .next s
  | none => .next s

/-- EXP_UNSET: no cell for 64 cycles and none held. -/
def execExpUnset (n : Fin 1024) (s : State) : Host.Outcome State Fault Refusal :=
  let x := s.source n
  if x.exp.isSome && x.held.isEmpty && decide (x.lastSlot + 64 * s.cycleLen < s.time.nextSlot) then
    .next (s.setSource n { x with exp := none })
  else .next s

/-! ## Tables and what a reset discards -/

/-- TABLE 0xA2 of FAB0. -/
def relayTable : WinTable := readOnlyTable 4 1024 (fun s i =>
  let q := s.relayQ i
  q.length % 2 ^ 17 + min 32767 (match q with | h :: _ => s.time.nextSlot - 1 - h.slot | [] => 0) * 2 ^ 17)

/-- TABLE 0xA3 of FAB1: READ_CLEAR and CLEAR zero the lost count. -/
def sourceTable : WinTable where
  bytes := 16
  count := fun _ => 1024
  get := fun s i _ =>
    let x := s.source i
    some (x.exp.getD 0 + (if x.exp.isSome then 2 ^ 31 else 0) + x.held.length % 2 ^ 17 * 2 ^ 32 + s.tabN 0x15 2 0xA3 i * 2 ^ 64)
  put := fun s _ _ _ => (3, s)
  clear := fun s i _ => (0, s.setTabN 0x15 2 0xA3 i 0)
  readClear := true

/-- Tables of the fabric regions (R325) and of QUE0's block ALW. -/
def fabTable (r b table : Nat) : Option WinTable :=
  if b = 0 then (if table = 0xA0 then some (pisteTable (r - 0x14)) else if table = 0xA1 then some (phaseTable (r - 0x14)) else none)
  else if r = 0x14 ∧ b = 1 ∧ table = 0xA2 then some relayTable
  else if r = 0x15 ∧ b = 2 ∧ table = 0xA3 then some sourceTable
  else none

def alwTable : Nat → Option WinTable
  | 0x84 => some (readOnlyTable 4 65536 (fun s i => (s.grant i).value + (if s.alwExpired (i / 64) then 1024 else 0)))
  | 0x85 => some (readOnlyTable 4 65536 (fun s i => match spGet (fun _ => none) s.que.demands i with
      | some x => x.high + x.total * 1024 + min 63 x.age * 2 ^ 20 | none => 0))
  | 0x86 => some (cfgTable 0x11 1 0x86 4 64 (2 ^ 30 - 1) (fun _ _ v => decide (natField v 26 4 ≤ 11)))
  | 0x87 => some (cfgTable 0x11 1 0x87 4 1024 63 (fun _ _ _ => true))
  | _ => none

/-- A virtual output queue whose head has begun to leave loses that packet. -/
def State.dropBegun (s : State) (key : Nat) : State :=
  match (s.queue key).items with
  | e :: rest => if 0 < e.released then (s.dequeue key e rest).dropPkt e.pkt else s
  | [] => s

/-- What a reset of FAB0 or FAB1 discards (R324): cells, open cells with their packets, sequence numbers. -/
def State.fabDiscard (s : State) : State :=
  let s := s.fab.open_.foldl (fun s q => match q.2 with | some c => inflLeave c.odd c.ends s | none => s) s
  let s := s.fab.spread.foldl (fun s c => inflLeave c.cell.odd c.ends s) s
  let s := (s.buf.queues.filter (fun q => !isEq q.1)).foldl (fun s q => s.dropBegun q.1) s
  let s := s.freeCells (s.fab.relay.flatMap (fun q => q.2.map (·.ptr)))
  let s := s.freeCells (s.fab.sources.flatMap (fun q => q.2.held.map (·.ptr)))
  let s := s.freeCells (s.fab.contexts.flatMap (fun q => q.2.cells))
  { s with fab := { s.fab with open_ := [], spread := [], nextSeq := [], relay := [], sources := [], contexts := [], rx := [] } }

/-- The lane slots, the counters and the status of lane j of a fabric region as reset leaves them. -/
def State.laneReset (f : Nat) (s : State) (j : Nat) : State :=
  let l := 72 * f + j
  let s := (List.range 8).foldl (fun s p => (s.setLslot l p LaneSlotSt.reset).laneSlotSync l p) s
  let s := s.wr (lnkStatA l) 0
  let s := [R.FAB_LNK_SEC_CORR, R.FAB_LNK_SEC_UNCORR, R.FAB_LNK_SEC_MARK, R.FAB_LNK_SEC_SLIP, R.FAB_LNK_SEC_HCRC,
    R.FAB_LNK_SEC_SLOTS, R.FAB_LNK_CORR, R.FAB_LNK_CORR + 4, R.FAB_LNK_UNCORR, R.FAB_LNK_UNCORR + 4, R.FAB_LNK_SLIP_DROP,
    R.FAB_LNK_SLIP_REP, R.FAB_LNK_OVERRUN, R.FAB_LNK_ALIGN_LOSS].foldl (fun s o => s.wr (lnkCntA l o) 0) s
  s.setLane l { FLaneSt.reset with adv := (s.lane l).adv }

/-- The rest of a frame that a bridge was sending is cut off: what has gone is found bad where it arrives (R349). -/
def State.ovcCutShort (s : State) : State :=
  [0, 1, 2, 3].foldl (fun (s : State) n => s.setOvc n { s.ovcPort n with sending := [] }) s

/-- One word of FAB_LNK_DEG cleared. -/
def State.degClear (f : Nat) (s : State) (w : Nat) : State := s.wr (flkA f (R.FAB_LNK_DEG + 4 * w)) 0

/-- What two domains heard from the fabric is forgotten. -/
def State.fabForget (s : State) : State :=
  let forget (x : Domain) : Domain := { x with reported := none, reportPend := none }
  { s with time := { s.time with cobalt := forget s.time.cobalt, umber := forget s.time.umber } }

/-- A reset of region FAB `f` (R324, R349): alignment of its lanes, counters, run counts and degraded state go. -/
def State.fabReset (s : State) (f : Nat) : State :=
  (([0, 1, 2].foldl (State.degClear f) ((List.range 72).foldl (State.laneReset f) s.fabDiscard.ovcCutShort)).fabForget).cond2Sync

end Sys2Proof.Machine
end

