-- ==== Sys2Proof/Machine/Cipher.lean ====
section
/-! DEFINITION. The cipher suites of the engines (spec 14): AES-256 with GCM and XTS, Keccak with SHAKE256 and KMAC256, by the
standards the spec names (FIPS 197, NIST SP 800-38D, IEEE 1619, FIPS 202, NIST SP 800-185). -/

namespace Sys2Proof.Machine

/-- The AES substitution box (FIPS 197), entry 0 in the top byte. -/
def aesSboxTable : Nat :=
  0x637c777bf26b6fc53001672bfed7ab76ca82c97dfa5947f0add4a2af9ca472c0 * 2 ^ 1792 +
  0xb7fd9326363ff7cc34a5e5f171d8311504c723c31896059a071280e2eb27b275 * 2 ^ 1536 +
  0x09832c1a1b6e5aa0523bd6b329e32f8453d100ed20fcb15b6acbbe394a4c58cf * 2 ^ 1280 +
  0xd0efaafb434d338545f9027f503c9fa851a3408f929d38f5bcb6da2110fff3d2 * 2 ^ 1024 +
  0xcd0c13ec5f974417c4a77e3d645d197360814fdc222a908846eeb814de5e0bdb * 2 ^ 768 +
  0xe0323a0a4906245cc2d3ac629195e479e7c8376d8dd54ea96c56f4ea657aae08 * 2 ^ 512 +
  0xba78252e1ca6b4c6e8dd741f4bbd8b8a703eb5664803f60e613557b986c11d9e * 2 ^ 256 +
  0xe1f8981169d98e949b1e87e9ce5528df8ca1890dbfe6426841992d0fb054bb16 * 2 ^ 0

/-- Its inverse. -/
def aesInvTable : Nat :=
  0x52096ad53036a538bf40a39e81f3d7fb7ce339829b2fff87348e4344c4dee9cb * 2 ^ 1792 +
  0x547b9432a6c2233dee4c950b42fac34e082ea16628d924b2765ba2496d8bd125 * 2 ^ 1536 +
  0x72f8f66486689816d4a45ccc5d65b6926c704850fdedb9da5e154657a78d9d84 * 2 ^ 1280 +
  0x90d8ab008cbcd30af7e45805b8b34506d02c1e8fca3f0f02c1afbd0301138a6b * 2 ^ 1024 +
  0x3a9111414f67dcea97f2cfcef0b4e67396ac7422e7ad3585e2f937e81c75df6e * 2 ^ 768 +
  0x47f11a711d29c5896fb7620eaa18be1bfc563e4bc6d279209adbc0fe78cd5af4 * 2 ^ 512 +
  0x1fdda8338807c731b11210592780ec5f60517fa919b54a0d2de57a9f93c99cef * 2 ^ 256 +
  0xa0e03b4dae2af5b0c8ebbb3c83539961172b047eba77d626e169146355210c7d * 2 ^ 0

/-- Round constants of Keccak-f[1600] (FIPS 202). -/
def keccakRc : List Nat :=
  [0x1, 0x8082, 0x800000000000808a, 0x8000000080008000, 0x808b, 0x80000001, 0x8000000080008081, 0x8000000000008009,
   0x8a, 0x88, 0x80008009, 0x8000000a, 0x8000808b, 0x800000000000008b, 0x8000000000008089, 0x8000000000008003,
   0x8000000000008002, 0x8000000000000080, 0x800a, 0x800000008000000a, 0x8000000080008081, 0x8000000000008080, 0x80000001, 0x8000000080008008]

/-! ## AES-256: a block is a number of 128 bits, its first byte the most significant -/

def aesS (b : Nat) : Nat := natField aesSboxTable (8 * (255 - b)) 8
def aesSInv (b : Nat) : Nat := natField aesInvTable (8 * (255 - b)) 8

/-- Byte `i` of a block. -/
def blkByte (x i : Nat) : Nat := natField x (8 * (15 - i)) 8

/-- A block from its bytes. -/
def blkOf (f : Nat → Nat) : Nat := (List.range 16).foldl (fun v i => v * 256 + f i % 256) 0

/-- Multiplication by x in GF(2^8). -/
def gfX (a : Nat) : Nat := if 128 ≤ a then (a * 2 % 256) ^^^ 0x1B else a * 2

/-- Multiplication in GF(2^8) by a constant of four bits. -/
def gfMul (a k : Nat) : Nat :=
  (if natBit k 0 then a else 0) ^^^ (if natBit k 1 then gfX a else 0) ^^^ (if natBit k 2 then gfX (gfX a) else 0) ^^^
    (if natBit k 3 then gfX (gfX (gfX a)) else 0)

/-- One column step: row r of column c is the sum of the column's bytes times the circulant's constants. -/
def mixWith (k0 k1 k2 k3 x : Nat) : Nat :=
  blkOf (fun i =>
    let b (j : Nat) : Nat := blkByte x (i / 4 * 4 + (i + j) % 4)
    gfMul (b 0) k0 ^^^ gfMul (b 1) k1 ^^^ gfMul (b 2) k2 ^^^ gfMul (b 3) k3)

def aesSubShift (x : Nat) : Nat := blkOf (fun i => aesS (blkByte x ((i + 4 * (i % 4)) % 16)))
def aesInvSubShift (x : Nat) : Nat := blkOf (fun i => aesSInv (blkByte x ((i + 12 * (i % 4)) % 16)))

/-- The four bytes of a word substituted. -/
def subWord (w : Nat) : Nat := (List.range 4).foldl (fun v i => v * 256 + aesS (natField w (8 * (3 - i)) 8)) 0
def rotWord (w : Nat) : Nat := w % 2 ^ 24 * 256 + w / 2 ^ 24

/-- Words of the key schedule, newest first. -/
def keyWords : Nat → Nat → List Nat → List Nat
  | 0, _, l => l
  | n + 1, i, l =>
    let t := l.headD 0
    let t := if i % 8 = 0 then subWord (rotWord t) ^^^ (2 ^ (i / 8 - 1) * 2 ^ 24) else if i % 8 = 4 then subWord t else t
    keyWords n (i + 1) ((l.getD 7 0 ^^^ t) :: l)

/-- The 15 round keys of a 256-bit key, in order. -/
def roundKeys (key : Nat) : List Nat :=
  let w := (keyWords 52 8 ((List.range 8).map (fun i => natField key (32 * i) 32))).reverse
  (List.range 15).map (fun r => (List.range 4).foldl (fun v i => v * 2 ^ 32 + w.getD (4 * r + i) 0) 0)

def aesRounds : List Nat → Nat → Nat
  | [], x => x
  | [k], x => aesSubShift x ^^^ k
  | k :: r, x => aesRounds r (mixWith 2 3 1 1 (aesSubShift x) ^^^ k)

/-- AES encryption of a block under a key schedule. -/
def aesEnc (ks : List Nat) (x : Nat) : Nat := aesRounds ks.tail (x ^^^ ks.headD 0)

def aesInvRounds : List Nat → Nat → Nat
  | [], x => x
  | [k], x => aesInvSubShift x ^^^ k
  | k :: r, x => aesInvRounds r (mixWith 14 11 13 9 (aesInvSubShift x ^^^ k))

/-- AES decryption of a block. -/
def aesDec (ks : List Nat) (x : Nat) : Nat := aesInvRounds ks.reverse.tail (x ^^^ ks.reverse.headD 0)

/-! ## GCM -/

/-- The bytes cut into pieces of `n`, the last one shorter; the fuel is the number of bytes. -/
def chunksN (n : Nat) : Nat → List Byte → List (List Byte)
  | 0, _ => []
  | f + 1, l => if l.isEmpty then [] else l.take n :: chunksN n f (l.drop n)

def chunks (n : Nat) (l : List Byte) : List (List Byte) := chunksN n l.length l

/-- A block of bytes, zeros after the last, as a number. -/
def blkPad (l : List Byte) : Nat := beNat l * 256 ^ (16 - l.length)

/-- Product in GF(2^128) as GCM orders its bits. -/
def ghashMulN (x : Nat) : Nat → Nat → Nat → Nat
  | 0, z, _ => z
  | n + 1, z, v =>
    ghashMulN x n (if natBit x n then z ^^^ v else z) (if v % 2 = 1 then (v / 2) ^^^ (0xE1 * 2 ^ 120) else v / 2)

def ghashMul (x y : Nat) : Nat := ghashMulN x 128 0 y

def ghash (h : Nat) (blocks : List Nat) : Nat := blocks.foldl (fun y x => ghashMul (y ^^^ x) h) 0

/-- `l` combined with the key stream of the counter blocks from `ctr` on. -/
def xorList : List Byte → List Byte → List Byte
  | a :: l, b :: r => (a ^^^ b) :: xorList l r
  | _, _ => []

def gcmStream (ks : List Nat) : Nat → List (List Byte) → List Byte
  | _, [] => []
  | ctr, c :: r => xorList c (beBytes 16 (aesEnc ks ctr)) ++ gcmStream ks (ctr + 1) r

/-- The tag over additional data and ciphertext. -/
def gcmTag (ks : List Nat) (iv : Nat) (aad cipher : List Byte) : List Byte :=
  let h := aesEnc ks 0
  let s := ghash h ((chunks 16 aad).map blkPad ++ (chunks 16 cipher).map blkPad ++
    [8 * aad.length * 2 ^ 64 + 8 * cipher.length])
  beBytes 16 (aesEnc ks (iv * 2 ^ 32 + 1) ^^^ s)

/-- AES-GCM-256 encryption: the ciphertext and its tag. `iv` is the 96-bit IV. -/
def gcmEnc (key iv : Nat) (aad plain : List Byte) : List Byte × List Byte :=
  let ks := roundKeys key
  let c := gcmStream ks (iv * 2 ^ 32 + 2) (chunks 16 plain)
  (c, gcmTag ks iv aad c)

/-- Decryption: the plaintext, when the tag is right. -/
def gcmDec (key iv : Nat) (aad cipher tag : List Byte) : Option (List Byte) :=
  let ks := roundKeys key
  if gcmTag ks iv aad cipher = tag then some (gcmStream ks (iv * 2 ^ 32 + 2) (chunks 16 cipher)) else none

/-! ## XTS -/

/-- The next tweak: a multiplication by x with the block read little-endian. -/
def xtsNext (t : Nat) : Nat :=
  let v := leNat (beBytes 16 t)
  let w := v * 2 % 2 ^ 128
  leNat (beBytes 16 (if 2 ^ 127 ≤ v then w ^^^ 0x87 else w))

def xtsBlk (f : Nat → Nat) (t : Nat) (b : List Byte) : List Byte := beBytes 16 (f (beNat b ^^^ t) ^^^ t)

/-- The data unit block by block; ciphertext stealing for a last block that is not whole (IEEE 1619). -/
def xtsGo (enc : Bool) (f : Nat → Nat) : Nat → List (List Byte) → List Byte
  | _, [] => []
  | t, [b] => xtsBlk f t b
  | t, b :: c :: r =>
    if c.length < 16 then
      let x := xtsBlk f (if enc then t else xtsNext t) b
      xtsBlk f (if enc then xtsNext t else t) (c ++ x.drop c.length) ++ x.take c.length
    else xtsBlk f t b ++ xtsGo enc f (xtsNext t) (c :: r)

/-- AES-XTS-256: data key, tweak key, the 16 tweak bytes. -/
def xts (enc : Bool) (k1 k2 : Nat) (tweak data : List Byte) : List Byte :=
  let ks := roundKeys k1
  xtsGo enc (if enc then aesEnc ks else aesDec ks) (aesEnc (roundKeys k2) (beNat tweak)) (chunks 16 data)

/-! ## Keccak -/

def rotl64 (x n : Nat) : Nat := x * 2 ^ n % 2 ^ 64 + x / 2 ^ (64 - n)

/-- Rotation of lane (x, y), by index x + 5 y. -/
def keccakRot : List Nat :=
  [0, 1, 62, 28, 27, 36, 44, 6, 55, 20, 3, 10, 43, 25, 39, 41, 45, 15, 21, 8, 18, 2, 61, 56, 14]

/-- One round over 25 lanes. -/
def keccakRound (a : List Nat) (rc : Nat) : List Nat :=
  let c := (List.range 5).map (fun x => a.getD x 0 ^^^ a.getD (x + 5) 0 ^^^ a.getD (x + 10) 0 ^^^ a.getD (x + 15) 0 ^^^ a.getD (x + 20) 0)
  let t := (List.range 25).map (fun i => a.getD i 0 ^^^ c.getD ((i + 4) % 5) 0 ^^^ rotl64 (c.getD ((i % 5 + 1) % 5) 0) 1)
  let b := (List.range 25).map (fun i =>
    let x := i % 5
    let y := i / 5
    let src := (x + 3 * y) % 5 + 5 * x
    rotl64 (t.getD src 0) (keccakRot.getD src 0))
  (List.range 25).map (fun i =>
    let y := i / 5
    let v := b.getD i 0 ^^^ ((2 ^ 64 - 1 - b.getD ((i % 5 + 1) % 5 + 5 * y) 0) &&& b.getD ((i % 5 + 2) % 5 + 5 * y) 0)
    if i = 0 then v ^^^ rc else v)

def keccakF (a : List Nat) : List Nat := keccakRc.foldl keccakRound a

/-- Bytes of the rate of 136 that a state holds. -/
def keccakOut (a : List Nat) : List Byte := (a.take 17).flatMap (leBytes 8)

def keccakAbsorb (a : List Nat) (l : List Byte) : List Nat :=
  keccakF ((List.range 25).map (fun i => a.getD i 0 ^^^ leNat ((l.drop (8 * i)).take 8)))

def keccakSqueeze : Nat → List Nat → List Byte
  | 0, _ => []
  | n + 1, a => keccakOut a ++ keccakSqueeze n (keccakF a)

/-- The sponge of capacity 512 with a domain suffix: `n` bytes. -/
def keccak512 (suffix : Nat) (l : List Byte) (n : Nat) : List Byte :=
  let pad := 136 - l.length % 136
  let p := if pad = 1 then [BitVec.ofNat 8 (suffix + 128)]
    else BitVec.ofNat 8 suffix :: (List.replicate (pad - 2) 0 ++ [0x80])
  let a := (chunks 136 (l ++ p)).foldl keccakAbsorb (List.replicate 25 0)
  (keccakSqueeze (n / 136 + 1) a).take n

def shake256 (l : List Byte) (n : Nat) : List Byte := keccak512 0x1F l n

/-- Bytes of a number, most significant first, at least one. -/
def natBytes (n : Nat) : List Byte := beBytes (if n < 256 then 1 else if n < 65536 then 2 else if n < 2 ^ 24 then 3 else 4) n
def leftEncode (n : Nat) : List Byte := BitVec.ofNat 8 (natBytes n).length :: natBytes n
def rightEncode (n : Nat) : List Byte := natBytes n ++ [BitVec.ofNat 8 (natBytes n).length]
def encodeString (l : List Byte) : List Byte := leftEncode (8 * l.length) ++ l
def bytepad (l : List Byte) : List Byte :=
  let x := leftEncode 136 ++ l
  x ++ List.replicate ((136 - x.length % 136) % 136) 0

/-- ASCII bytes of a string. -/
def ascii (t : String) : List Byte := t.toList.map (fun c => BitVec.ofNat 8 c.toNat)

/-- KMAC256 of a key and a message: `n` bytes, with a customisation string. -/
def kmac256 (key msg : List Byte) (n : Nat) (custom : List Byte) : List Byte :=
  keccak512 0x04 (bytepad (encodeString (ascii "KMAC") ++ encodeString custom) ++
    (bytepad (encodeString key) ++ msg ++ rightEncode (8 * n))) n

end Sys2Proof.Machine
end

