-- ==== Sys2Proof/Machine/Flash.lean ====
section
/-! DEFINITION. What the boot controller and SYS keep in the flash (R70): the boot record, the image slots, the settings store's headers,
the fault records and the report marker. -/

namespace Sys2Proof.Machine

/-- The flash with a range erased: every byte of it reads 0xFF. -/
def State.flashErase (s : State) (a n : Nat) : State :=
  { s with flash := s.flash.filter (fun p => decide (p.1 < a) || decide (a + n ≤ p.1)) }

/-! ## The boot record (R71, R72) -/

/-- SLOT_x_STATE: IMAGE_VERSION, state (0 EMPTY, 1 WRITTEN, 2 BOOTED, 3 CONFIRMED, 4 FAILED), failure code. -/
structure SlotRec where
  version : Nat
  st : Nat
  code : Nat
  deriving DecidableEq, Repr

structure BootRec where
  gen : Nat
  sel : Nat
  prev : Nat
  flags : Nat
  attempts : Nat
  a : SlotRec
  b : SlotRec
  deriving DecidableEq, Repr

def brecMagic : Nat := 0x51425A51

/-- The record of R71 for the case that no copy is valid. -/
def BootRec.fresh : BootRec := ⟨0, 1, 0, 0, 0, ⟨0, 1, 0⟩, ⟨0, 1, 0⟩⟩

def BootRec.slot (r : BootRec) (n : Nat) : SlotRec := if n = 2 then r.b else r.a
def BootRec.setSlot (r : BootRec) (n : Nat) (x : SlotRec) : BootRec := if n = 2 then { r with b := x } else { r with a := x }

/-- A slot's state is set; its IMAGE_VERSION and, unless one is given, its failure code stay. -/
def BootRec.mark (r : BootRec) (n st : Nat) (code : Option Nat) : BootRec :=
  r.setSlot n { r.slot n with st := st, code := code.getD (r.slot n).code }

def BootRec.fallbackReq (r : BootRec) : Bool := natBit r.flags 0
def BootRec.healthPending (r : BootRec) : Bool := natBit r.flags 1
def BootRec.recoveryReq (r : BootRec) : Bool := natBit r.flags 2
def BootRec.setFlag (r : BootRec) (i : Nat) (b : Bool) : BootRec := { r with flags := natSetField r.flags i 1 (if b then 1 else 0) }

def cpBytes (v : Nat) : List Byte := leBytes 4 v ++ leBytes 4 (2 ^ 32 - 1 - v % 2 ^ 32)
def slotBytes (x : SlotRec) : List Byte := leBytes 8 x.version ++ leBytes 4 x.st ++ leBytes 4 x.code

def BootRec.bytes (r : BootRec) : List Byte :=
  let b := leBytes 4 brecMagic ++ leBytes 4 1 ++ leBytes 8 r.gen ++ cpBytes r.sel ++ cpBytes r.prev ++ leBytes 4 r.flags ++
    leBytes 4 r.attempts ++ slotBytes r.a ++ slotBytes r.b
  b ++ leBytes 4 (crc32Std b)

def leAt (b : List Byte) (o n : Nat) : Nat := leNat ((b.drop o).take n)

/-- A valid boot record from the first 0x4C bytes of a copy. -/
def bootRecOf (b : List Byte) : Option BootRec :=
  let w (o n : Nat) : Nat := leAt b o n
  let st (o : Nat) : SlotRec := ⟨w o 8, w (o + 8) 4, w (o + 12) 4⟩
  if w 0 4 = brecMagic ∧ w 0x48 4 = crc32Std (b.take 0x48) ∧ w 0x10 4 + w 0x14 4 = 2 ^ 32 - 1 ∧ w 0x18 4 + w 0x1C 4 = 2 ^ 32 - 1 then
    some ⟨w 8 8, w 0x10 4, w 0x18 4, w 0x20 4, w 0x24 4, st 0x28, st 0x38⟩
  else none

def brecCopyA (c : Nat) : Nat := 0x8000 * c
def State.brecCopy (s : State) (c : Nat) : Option BootRec := bootRecOf (s.flashBytes (brecCopyA c) 0x4C)

/-- The copy in use with its record: the valid one of higher GENERATION, copy 0 where they are equal; none where neither is valid. -/
def State.brecInUse (s : State) : Option (Nat × BootRec) :=
  match s.brecCopy 0, s.brecCopy 1 with
  | some x, some y => if x.gen < y.gen then some (1, y) else some (0, x)
  | some x, none => some (0, x)
  | none, some y => some (1, y)
  | none, none => none

def State.brec (s : State) : BootRec := match s.brecInUse with | some q => q.2 | none => BootRec.fresh

/-- A write of the boot record: to the copy not in use, GENERATION one higher (R72). -/
def State.brecPut (s : State) (r : BootRec) : State :=
  let c := match s.brecInUse with | some q => 1 - q.1 | none => 0
  let a := brecCopyA c
  (s.flashErase a 0x8000).flashWrite a ({ r with gen := (s.brec.gen + 1) % 2 ^ 64 } : BootRec).bytes

/-! ## Slots (R70) -/

def slotA (n : Nat) : Nat := if n = 2 then 0x21020000 else 0x05020000
def slotLen : Nat := 448 * 2 ^ 20

/-- SYS_BOOT_STAT.SLOT. -/
def State.bootedSlot (s : State) : Nat := s.fld (A.boot R.SYS_BOOT_STAT) 3 2
def State.setBootedSlot (s : State) (n : Nat) : State :=
  let s := s.setFld (A.boot R.SYS_BOOT_STAT) 3 2 n
  { s with boot := { s.boot with slot := n } }

/-- The inactive slot: the one SYS_BOOT_STAT.SLOT does not name, and where it names none the one SLOT_SEL does not name. -/
def State.inactiveSlot (s : State) : Nat := 3 - (if s.bootedSlot = 0 then (if s.brec.sel = 2 then 2 else 1) else s.bootedSlot)

/-! ## The failure code and the causes of block BOOT (R87, R89) -/

def State.bootFail (s : State) (code : Nat) : State := s.wr (A.boot R.SYS_BOOT_FAIL) (BitVec.ofNat 32 code)
def State.bootRaise (s : State) (k : Nat) : State := s.raise 0 1 k
def State.imgRaise (s : State) (k : Nat) : State := s.raise 0 10 k

/-! ## Update sessions (R470, R473, R423) -/

/-- No session of a link's mailbox, or of any link, is open any more; its slot stays EMPTY. -/
def State.mbxEnd (s : State) (p : Nat → Bool) : State :=
  match s.img.session with
  | some x => if !x.svc && p x.link then { s with img := { s.img with session := none } } else s
  | none => s

/-- A session opens on a slot: the slot is erased and EMPTY, and PREV_SLOT becomes none where it named it. -/
def State.sessionOpen (s : State) (svc : Bool) (link slot : Nat) : State :=
  let s := s.flashErase (slotA slot) slotLen
  let r := s.brec.mark slot 0 none
  let s := s.brecPut (if r.prev = slot then { r with prev := 0 } else r)
  { s with img := { s.img with
      session := some ⟨svc, link, slot, s.img.nextSession, [], none, (0, []), s.time.ticks⟩, nextSession := (s.img.nextSession + 1) % 2 ^ 32 } }

/-- The session closes: the slot is WRITTEN with the image's version. -/
def State.sessionClose (s : State) (x : SessionSt) : State :=
  let r := s.brec
  let s := s.brecPut (r.setSlot x.slot { r.slot x.slot with st := 1, version := s.flashLe (slotA x.slot + 0x10) 8 })
  { s with img := { s.img with session := none } }

/-- The session ends with its slot EMPTY. -/
def State.sessionEnd (s : State) : State := { s with img := { s.img with session := none } }

/-- Every block of `unit` bytes below a length is written, each whole but the last. -/
def blocksWhole (blocks : List (Nat × Nat)) (unit len : Nat) : Nat → Bool
  | 0 => true
  | n + 1 =>
    let have_ := spGet (fun _ => 0) blocks n
    blocksWhole blocks unit len n && decide (0 < have_) &&
      (if (n + 1) * unit ≤ len then decide (have_ = unit) else decide (len - n * unit ≤ have_))

/-! ## Fault records (R464) -/

def faultMagic : Nat := 0x46544C51
def faultA (i : Nat) : Nat := 0x3D030000 + 64 * i
def markerA : Nat := 0x3D022000
def markerMagic : Nat := 0x524B4D51

/-- Record `i` of the ring: its sequence number and code, where its MAGIC and CRC are correct. -/
def State.faultRec (s : State) (i : Nat) : Option (Nat × Nat) :=
  let b := s.flashBytes (faultA i) 64
  if leAt b 0 4 = faultMagic ∧ leAt b 60 4 = crc32Std (b.take 60) then some (leAt b 4 4, leAt b 8 1) else none

/-- The newest record among the first `n`, those in `unread` apart: its place, sequence number and code. -/
def State.newestFault (s : State) (unread : List Nat) : Nat → Option (Nat × Nat × Nat)
  | 0 => none
  | n + 1 =>
    match s.newestFault unread n, if unread.contains n then none else s.faultRec n with
    | some x, some y => if x.2.1 < y.1 then some (n, y.1, y.2) else some x
    | none, some y => some (n, y.1, y.2)
    | x, none => x

/-- SYS writes a fault record, and SYS_CHIP_FAULT takes its code. -/
def State.faultWrite (s : State) (code sec ns gstat fatal : Nat) : State :=
  let last := s.newestFault [] 256
  let place := match last with | some x => (x.1 + 1) % 256 | none => 0
  let seq := match last with | some x => x.2.1 + 1 | none => 1
  let b := leBytes 4 faultMagic ++ leBytes 4 seq ++ leBytes 1 code ++ leBytes 7 0 ++ leBytes 6 sec ++ leBytes 2 0 ++ leBytes 4 ns ++
    leBytes 4 gstat ++ leBytes 4 fatal ++ leBytes 24 0
  ((s.flashErase (faultA place) 64).flashWrite (faultA place) (b ++ leBytes 4 (crc32Std b))).setFld (A.rgn R.SYS_CHIP_FAULT) 0 8 code

/-- The report marker's sequence number. -/
def State.marker (s : State) : Option Nat :=
  let b := s.flashBytes markerA 12
  if leAt b 0 4 = markerMagic ∧ leAt b 8 4 = crc32Std (b.take 8) then some (leAt b 4 4) else none

/-- At boot: the newest record's code, and CHIP_FAULT_SEEN where the marker does not know it yet. Records and a marker that cannot be read
fail their check (R70). -/
def State.faultLoad (s : State) (x : BootReads) : State :=
  match s.newestFault (x.faults.map (·.val)) 256 with
  | none => s
  | some (_, seq, code) =>
    let s := s.setFld (A.rgn R.SYS_CHIP_FAULT) 0 8 code
    let seen := match (if x.marker then none else s.marker) with | some m => decide (seq ≤ m) | none => false
    if seen then s
    else
      let b := leBytes 4 markerMagic ++ leBytes 4 seq
      ((s.flashErase markerA 12).flashWrite markerA (b ++ leBytes 4 (crc32Std b))).raise 0 6 4

/-! ## The settings store (R477) -/

def setCopyA (c : Nat) : Nat := if c = 0 then 0x01020000 else 0x03020000
def setCopyLen : Nat := 32 * 2 ^ 20
def setMagic : Nat := 0x53545351
def setMax : Nat := 33554304

/-- Header of a settings copy: SCHEMA, GENERATION, LENGTH. -/
structure SetHead where
  schema : Nat
  gen : Nat
  len : Nat
  deriving DecidableEq, Repr

/-- A valid settings copy; one that this boot could not read is none. -/
def State.setCopy (s : State) (c : Nat) : Option SetHead :=
  let h := s.flashBytes (setCopyA c) 128
  let len := leAt h 24 8
  if c ∈ s.boot.setUnread then none
  else if leAt h 0 4 = setMagic ∧ leAt h 4 4 = 1 ∧ leAt h 124 4 = crc32Std (h.take 124) ∧ len ≤ setMax then
    (if (h.drop 40).take 64 = shake256 (s.flashBytes (setCopyA c + 128) len) 64 then some ⟨leAt h 8 4, leAt h 16 8, len⟩ else none)
  else none

/-- The settings copy in use: the valid one of higher GENERATION. -/
def State.setInUse (s : State) : Option (Nat × SetHead) :=
  match s.setCopy 0, s.setCopy 1 with
  | some x, some y => if x.gen < y.gen then some (1, y) else some (0, x)
  | some x, none => some (0, x)
  | none, some y => some (1, y)
  | none, none => none

/-- Header bytes of a settings copy. -/
def setHeader (schema gen len writer : Nat) (digest : List Byte) : List Byte :=
  let b := leBytes 4 setMagic ++ leBytes 4 1 ++ leBytes 4 schema ++ leBytes 4 0 ++ leBytes 8 gen ++ leBytes 8 len ++ leBytes 8 writer ++
    digest ++ leBytes 20 0
  b ++ leBytes 4 (crc32Std b)

end Sys2Proof.Machine
end

