-- ==== Sys2Proof/Machine/HostMem.lean ====
section
/-! DEFINITION. HOST's accesses to host memory (spec 16): the slice a request is made for, its PASID, and the dirty-page log that
every write for a slice leaves (R409, R420). -/

namespace Sys2Proof.Machine

def slcA (off : Nat) : Nat := regAddr 0xC 1 off
def lnkA (off : Nat) : Nat := regAddr 0xC 0 off

/-! ## Slices (R408) -/

def slValid (e : Nat) : Bool := natBit e 0
def slLink (e : Nat) : Nat := natField e 1 2
def slNet (e : Nat) : Bool := natBit e 3
def slBlk (e : Nat) : Bool := natBit e 4
def slStop (e : Nat) : Bool := natBit e 5
def slPasid (e : Nat) : Option Nat := if natBit e 63 then some (natField e 32 20) else none
def slQpBase (e : Nat) : Nat := natField e 64 16
def slQpCount (e : Nat) : Nat := natField e 80 13

def State.slice (s : State) (n : Nat) : SliceSt := spGet (fun _ => SliceSt.reset) s.host.slices n
def State.setSlice (s : State) (n : Nat) (x : SliceSt) : State :=
  { s with host := { s.host with slices := spPut (fun _ => SliceSt.reset) s.host.slices n x } }

def State.hlink (s : State) (n : Nat) : LinkSt := spGet (fun _ => LinkSt.reset) s.host.links n
def State.setHlink (s : State) (n : Nat) (x : LinkSt) : State :=
  { s with host := { s.host with links := spPut (fun _ => LinkSt.reset) s.host.links n x } }

/-- The default slice of a link. -/
def State.defaultSlice (s : State) (l : Nat) : Option Nat :=
  ((s.tabListed 0xC 1 0xF0).find? (fun p =>
    let e := p.2.toNat
    slValid e && slLink e == l && (slPasid e).isNone)).map (·.1)

/-- HOST makes DMA requests: it is not absent, and the device not in the fail-safe (R463). -/
def State.hostUp (s : State) : Bool := !s.rgnDown 0xC && s.flt.failsafe.isNone

/-! ## The dirty-page log (R420) -/

def State.dlogEntry (s : State) (slice : Nat) : Nat := s.tabN 0xC 1 0xF2 slice

/-- A cached word leaves the cache: its bits are ORed into host memory. -/
def State.dirtyFlush (s : State) (w : DirtyWord) : State :=
  ({ s with host := { s.host with dirty := s.host.dirty.filter (fun x => x != w) } } : State).emit (.hostOr w.link w.addr w.bits)

/-- Every cached word that a test picks is flushed. -/
def State.dirtyFlushAll (s : State) (p : DirtyWord → Bool) : State := (s.host.dirty.filter p).foldl State.dirtyFlush s

/-- Words that a completion for a slice must not overtake. -/
def State.dirtyFlushSlice (s : State) (slice : Nat) : State := s.dirtyFlushAll (fun w => w.slice == slice)

/-- One page is marked in the active bitmap: in a cached word, or in a new one; a full cache flushes its oldest word first. -/
def State.dirtyMark (s : State) (slice page : Nat) : State :=
  let e := s.dlogEntry slice
  let one := (s.slice slice).active1
  let addr := natField e (if one then 64 else 0) 64 + 8 * (page / 64)
  if s.host.dirty.any (fun w => w.slice == slice && w.map1 == one && w.addr == addr) then
    { s with host := { s.host with dirty := s.host.dirty.map (fun w =>
        if w.slice == slice && w.map1 == one && w.addr == addr then { w with bits := w.bits ||| 2 ^ (page % 64) } else w) } }
  else
    let s := if 1024 ≤ s.host.dirty.length then
        (match s.host.dirty with | w :: _ => s.dirtyFlush w | [] => s) else s
    { s with host := { s.host with dirty := s.host.dirty ++
        [⟨slLink (s.sliceEntry slice), addr, 2 ^ (page % 64), slice, one, s.time.ticks⟩] } }

/-- The pages a write touches, one by one. -/
def dirtyPages (slice base count : Nat) : Nat → Nat → State → State
  | 0, _, s => s
  | n + 1, page, s =>
    dirtyPages slice base count n (page + 1) (if base ≤ page ∧ page < base + count then s.dirtyMark slice (page - base) else s)

/-- What a DMA write for a slice leaves in its log. -/
def State.dirtyLog (s : State) (slice addr n : Nat) : State :=
  let e := s.dlogEntry slice
  if natBit e 224 && decide (0 < n) then
    let base := natField e 128 64 / 4096
    let count := natField e 192 32
    let first := addr / 4096
    let last := (addr + n - 1) / 4096
    let s := dirtyPages slice base count (last + 1 - first) first s
    if first < base ∨ base + count ≤ last then (s.bump (slcA R.HOST_DLOG_OOR)).raise 0xC 1 0 else s
  else s

/-- A DMA write that HOST makes for a slice. -/
def State.dmaWrite (s : State) (slice addr : Nat) (b : List Byte) : State :=
  let e := s.sliceEntry slice
  if b.isEmpty then s
  else (s.emit (.hostWrite (slLink e) (slPasid e) addr b)).dirtyLog slice addr b.length

/-- An MSI-X message of a function of a link. -/
def State.sendMsix (s : State) (link fn vec : Nat) : State := s.emit (.msix link fn vec)

/-! ## Ranges of HBM -/

/-- Some byte of an HBM range is not served. -/
def State.hbmRangeDown (s : State) (a n : Nat) : Bool :=
  decide (0 < n) && ((List.range ((a + n - 1) / 4096 - a / 4096 + 1)).any (fun j =>
    s.hbmDown (if j = 0 then a else (a / 4096 + j) * 4096)))

end Sys2Proof.Machine
end

