-- ==== Sys2Proof/Machine/Keys.lean ====
section
/-! DEFINITION. Key slots (spec 14, R354 to R360): the slot table, key references, the key commands, and the copies of keys that
inline security associations hold. -/

namespace Sys2Proof.Machine

def keyA (off : Nat) : Nat := regAddr 8 0 off
def keyWinA : Nat := winA 8 0 0

/-- A slot: bits 31:0 attributes, bits 319:64 the key. -/
def State.keySlot (s : State) (i : Nat) : Nat := s.tabN 8 0 0xB0 i
def ksAttr (e : Nat) : Nat := natField e 0 32
def ksKey (e : Nat) : Nat := natField e 64 256
def ksValid (e : Nat) : Bool := natBit e 0
def ksUse (e bit : Nat) : Bool := natBit e bit
def ksOwned (e : Nat) : Bool := natBit e 28
def ksSlice (e : Nat) : Nat := natField e 16 12

/-- The slot takes attributes and a key; SEC_KEY_COUNT follows. -/
def State.setKeySlot (s : State) (i attr key : Nat) : State :=
  let c := (s.rd (keyA R.SEC_KEY_COUNT)).toNat + (if natBit attr 0 then 1 else 0) - (if ksValid (s.keySlot i) then 1 else 0)
  (s.setTabN 8 0 0xB0 i (attr + key * 2 ^ 64)).wr (keyA R.SEC_KEY_COUNT) (BitVec.ofNat 32 c)

/-- The slot that a 64-bit reference names, when its pair matches (R359). -/
def keyRef (v : Nat) : Option Nat :=
  let i := v % 2 ^ 17
  if v = i + (131071 - i) * 2 ^ 32 then some i else none

/-- A refused reference is counted (R359). -/
def State.keyRefBad (s : State) : State := (s.bump (keyA R.SEC_KEY_CP_ERR)).raise 8 0 3

/-- Attributes that R356 defines. -/
def attrMask : Nat := 0x1FFF007F

/-! ## Key commands (R357, R358) -/

/-- A refusal: ERR 4, the reason, KEY_REFUSED. -/
def State.keyRefuse (s : State) (reason : Nat) : Nat × State :=
  (4, (s.wr (keyA R.SEC_KEY_REASON) (BitVec.ofNat 32 reason)).raise 8 0 0)

def State.rngOk (s : State) : Bool := s.rbit (keyA R.SEC_KEY_STAT) 1

/-- The key of WIN_DATA0 to 7, byte 0 in bits 7:0 of WIN_DATA0, as a big-endian number. -/
def State.winKey (s : State) : Nat := beNat (leBytes 32 (s.winDataN keyWinA 8))

/-- LOAD_PLAIN. -/
def State.keyLoadPlain (s : State) (m : Master) (i : Nat) : Nat × State :=
  let attr := s.winWord keyWinA 8 &&& attrMask
  if s.sec.dk.isNone then s.keyRefuse 1
  else if !isCore m then s.keyRefuse 4
  else if !natBit attr 0 || natField attr 2 5 == 0 then s.keyRefuse 5
  else if !s.rngOk then s.keyRefuse 7
  else (0, (s.setKeySlot i attr s.winKey).setWinData keyWinA 8 0)

/-- The blob in WIN_DATA: IV, attribute word, wrapped key, tag (R356). -/
def State.keyBlob (s : State) : List Byte := leBytes 64 (s.winDataN keyWinA 16)

/-- The key of a blob that authenticates under DK. -/
def blobOpen (dk : Nat) (b : List Byte) : Option (List Byte) :=
  gcmDec dk (beNat (b.take 12)) ((b.drop 12).take 4) ((b.drop 16).take 32) (b.drop 48)

/-- The slot takes the blob's attribute word and the key it holds; a blob that does not authenticate is refused. -/
def State.keyTake (s : State) (i : Nat) : Option (List Byte) → Nat × State
  | none => s.keyRefuse 2
  | some k => (0, s.setKeySlot i (leNat ((s.keyBlob.drop 12).take 4)) (beNat k))

/-- LOAD_WRAPPED: a blob that authenticates under DK. -/
def State.keyLoadWrapped (s : State) (i : Nat) : Nat × State :=
  match s.sec.dk with
  | none => s.keyRefuse 1
  | some dk => s.keyTake i (blobOpen dk s.keyBlob)

/-- EXPORT: the blob of the slot, with a nonce from the entropy source. -/
def State.keyExportCmd (s : State) (m : Master) (i : Nat) : Nat × State :=
  let e := s.keySlot i
  if !ksValid e then s.keyRefuse 6
  else if !natBit e 1 then s.keyRefuse 3
  else if !isCore m then s.keyRefuse 4
  else if !s.rngOk then s.keyRefuse 7
  else match s.sec.dk with
    | none => s.keyRefuse 1
    | some dk =>
      let nonce := (s.freeVal 96).toNat
      let attr := leBytes 4 (ksAttr e)
      let c := gcmEnc dk nonce attr (beBytes 32 (ksKey e))
      (0, s.drawn.setWinData keyWinA 16 (leNat (beBytes 12 nonce ++ attr ++ c.1 ++ c.2)))

/-- ZEROISE. -/
def State.keyZeroise (s : State) (i : Nat) : Nat × State := (0, s.setKeySlot i 0 0)

/-- READ: the attribute word. -/
def State.keyReadCmd (s : State) (i : Nat) : Nat × State := (0, s.setWinWord keyWinA 0 (ksAttr (s.keySlot i)))

/-- A command on TABLE 0xB0. -/
def State.keyCmd (s : State) (v : Nat) (run : State → Nat → Nat × State) : State :=
  s.winCmd keyWinA v (if natField v 4 8 = 0xB0 then 4 else 0) (fun s =>
    if natField v 4 8 ≠ 0xB0 then (2, s)
    else if 131072 ≤ s.winIndex keyWinA then (1, s)
    else run s (s.winIndex keyWinA))

/-- KEY_READ. -/
def execKeyRead (m : Master) (v : Word) (s : State) : Host.Outcome State Fault Refusal :=
  .next (s.asWrite m keyWinA (fun s => s.keyCmd (withCmd v 1) State.keyReadCmd))

/-- LOAD_PLAIN. -/
def execLoadPlain (m : Master) (v : Word) (s : State) : Host.Outcome State Fault Refusal :=
  .next (s.asWrite m keyWinA (fun s => s.keyCmd (withCmd v 8) (fun s i => s.keyLoadPlain m i)))

/-- LOAD_WRAPPED. -/
def execLoadWrapped (m : Master) (v : Word) (s : State) : Host.Outcome State Fault Refusal :=
  .next (s.asWrite m keyWinA (fun s => s.keyCmd (withCmd v 9) State.keyLoadWrapped))

/-- EXPORT. -/
def execKeyExport (m : Master) (v : Word) (s : State) : Host.Outcome State Fault Refusal :=
  .next (s.asWrite m keyWinA (fun s => s.keyCmd (withCmd v 10) (fun s i => s.keyExportCmd m i)))

/-- ZEROISE. -/
def execZeroise (m : Master) (v : Word) (s : State) : Host.Outcome State Fault Refusal :=
  .next (s.asWrite m keyWinA (fun s => s.keyCmd (withCmd v 11) State.keyZeroise))

/-- RNG_FAIL: the entropy source fails its health tests (R361). -/
def execRngFail (s : State) : Host.Outcome State Fault Refusal :=
  if s.rgnRuns 8 then .next ((s.setRbit (keyA R.SEC_KEY_STAT) 1 false).raise 8 0 2) else .next s

/-- RNG_RECOVER. -/
def execRngRecover (s : State) : Host.Outcome State Fault Refusal :=
  if s.rgnRuns 8 then .next (s.setRbit (keyA R.SEC_KEY_STAT) 1 true) else .next s

/-! ## Keys of inline associations (R360) -/

/-- Key a slot gives an inline SA with a use bit: the reference whole, the slot VALID, the use bit set, not SLICE_OWNED. -/
def State.saKey (s : State) (ref use : Nat) : Option Nat :=
  match keyRef ref with
  | none => none
  | some i =>
    let e := s.keySlot i
    if ksValid e && ksUse e use && !ksOwned e then some (ksKey e) else none

/-- An SA is written: with VALID = 1 it takes a copy of its key, else the copy is destroyed. `code` is where copies stand. -/
def State.saPut (s : State) (region block table code i v ref use : Nat) : Nat × State :=
  let k := tabKey region block table i
  let soft (s : State) : State := { s with sec := { s.sec with soft := spPut (fun _ => false) s.sec.soft k false } }
  if natBit v 0 then
    match s.saKey ref use with
    | some key => (0, soft ((s.setTabN region block table i v).setTabN region block code i key))
    | none => (4, if (keyRef ref).isNone then s.keyRefBad else s)
  else (0, soft ((s.setTabN region block table i v).setTabN region block code i 0))

/-- PN_SOFT of an SA, once. -/
def State.pnSoft (s : State) (region block table i : Nat) : State :=
  let k := tabKey region block table i
  if spGet (fun _ => false) s.sec.soft k then s
  else ({ s with sec := { s.sec with soft := spPut (fun _ => false) s.sec.soft k true } } : State).raise region block 0

end Sys2Proof.Machine
end

