-- ==== Sys2Proof/Machine/Lookaside.lean ====
section
/-! DEFINITION. The lookaside engines (spec 14, R369 to R374): rings, requests, completions. -/

namespace Sys2Proof.Machine

def lkaA (off : Nat) : Nat := regAddr 8 2 off

/-! ## Rings (R369) -/

def State.ring (s : State) (r : Nat) : Nat := s.tabN 8 2 0xB8 r
def rgReq (e : Nat) : Nat := natField e 0 64
def rgCmpl (e : Nat) : Nat := natField e 64 64
def rgSize (e : Nat) : Nat := 2 ^ natField e 128 5
def rgEn (e : Nat) : Bool := natBit e 136
def rgHost (e : Nat) : Bool := natBit e 137
def rgSlice (e : Nat) : Nat := natField e 144 12
def rgNotify (e : Nat) : Bool := natBit e 207

def State.lkaPi (s : State) (r : Nat) : Nat := s.fld (lkaA (R.SEC_LKA_PI + 8 * r)) 0 16
def State.lkaCi (s : State) (r : Nat) : Nat := s.fld (lkaA (R.SEC_LKA_CI + 8 * r)) 0 16

/-- Work is pending on a ring: an index names a place of the ring. -/
def State.lkaPending (s : State) (r : Nat) : Bool :=
  rgEn (s.ring r) && s.lkaPi r % rgSize (s.ring r) != s.lkaCi r % rgSize (s.ring r)

def rgWeight (e : Nat) : Nat := natField e 160 8

/-- An engine can take the ring's next request now. -/
def State.lkaReady (s : State) (r : Nat) : Bool :=
  let ring := s.ring r
  s.lkaPending r && (if rgHost ring then s.hostUp else !s.hbmDown (rgReq ring + 64 * (s.lkaCi r % rgSize ring)))

/-- The ring whose turn it is, and its requests left in this turn after this one: WEIGHT of them in a row, then the next ring with work
(R369). -/
def State.lkaPick (s : State) : Option (Nat × Nat) :=
  let c := s.sec.turnRing
  if 0 < s.sec.turnLeft ∧ s.lkaReady c = true then some (c, s.sec.turnLeft - 1)
  else ((List.range 256).map (fun j => (c + 1 + j) % 256)).findSome? (fun r => if s.lkaReady r then some (r, rgWeight (s.ring r) - 1) else none)

def State.lkaTurn (s : State) (r : Nat) : Bool := s.lkaPick.any (fun q => q.1 == r)

/-- Fields other than WEIGHT, NOTIFY_EN and EN. -/
def rgFixed (e : Nat) : Nat := natSetField (natSetField (natSetField e 136 1 0) 160 8 0) 207 1 0

def ringMask : Nat :=
  (2 ^ 128 - 1) + 31 * 2 ^ 128 + 3 * 2 ^ 136 + 4095 * 2 ^ 144 + 255 * 2 ^ 160 + 65535 * 2 ^ 192

/-- TABLE 0xB8: a change to another field of an enabled ring is refused. -/
def ringTable : WinTable :=
  maskedTable 8 2 0xB8 32 256 ringMask (fun s i v => !rgEn (s.ring i) || rgFixed v == rgFixed (s.ring i))

/-- A write of SEC_LKA_PI r. -/
def State.lkaPiWrite (s : State) (r v : Nat) : State := s.wr (lkaA (R.SEC_LKA_PI + 8 * r)) (BitVec.ofNat 32 (v % 65536))

/-- LKA_PRODUCER_WRITE. -/
def execLkaProducerWrite (m : Master) (r : Fin 256) (v : Word) (s : State) : Host.Outcome State Fault Refusal :=
  .next (s.asWrite m (lkaA (R.SEC_LKA_PI + 8 * r)) (fun s => s.lkaPiWrite r v.toNat))

/-! ## Requests (R370, R371) -/

/-- The fields of a request. -/
structure LkaReq where
  op : Nat
  flags : Nat
  rsv : Nat
  tag : List Byte
  ref : Nat
  src : Nat
  dst : Nat
  len : Nat
  aadLen : Nat
  outLen : Nat
  aadAddr : Nat
  tail : List Byte
  deriving DecidableEq, Repr

def lkaReq (b : List Byte) : LkaReq :=
  let f (o n : Nat) : Nat := leNat ((b.drop o).take n)
  ⟨f 0 1, f 1 1, f 2 2, (b.drop 4).take 4, f 8 8, f 16 8, f 24 8, f 32 4, f 36 2, f 38 2, f 40 8, b.drop 48⟩

def opGcm (o : Nat) : Bool := o == 1 || o == 2
def opXts (o : Nat) : Bool := o == 3 || o == 4
def opKmac (o : Nat) : Bool := o == 5 || o == 6

def allZero (l : List Byte) : Bool := l.all (· == 0)

/-- Reserved fields are 0. -/
def lkaReserved (q : LkaReq) : Bool :=
  decide (q.flags < 2) && q.rsv == 0 && (!opGcm q.op || allZero (q.tail.drop 12)) && (!opKmac q.op || allZero q.tail) &&
    (opKmac q.op || q.outLen == 0)

/-- Slot checks: status 0x07, 0x08, or 0. -/
def State.lkaSlot (s : State) (ring : Nat) (q : LkaReq) (i : Nat) (corrupt : Bool) : Nat :=
  let e := s.keySlot i
  let own (e : Nat) : Bool := !ksOwned e || (rgHost ring && ksSlice e == rgSlice ring)
  if corrupt || !ksValid e || s.sec.dk.isNone then 7
  else if opGcm q.op then (if ksUse e 4 && own e then 0 else 8)
  else if opKmac q.op then (if ksUse e 6 && own e then 0 else 8)
  else
    let t := s.keySlot (i + 1)
    if i % 2 = 0 ∧ (ksUse e 5 && own e && ksValid t && ksUse t 5 && own t) = true then 0 else 8

/-- Length checks. -/
def lkaLen (q : LkaReq) : Nat :=
  if opGcm q.op then (if q.len < 1 ∨ 65536 < q.len then 2 else if 4096 < q.aadLen then 3 else 0)
  else if opXts q.op then (if q.len < 16 ∨ 16384 < q.len then 4 else 0)
  else if 1048576 < q.len ∨ q.outLen < 16 ∨ 64 < q.outLen ∨ 256 < q.aadLen then 5 else 0

/-- Bytes read at SRC, and written or read at DST. -/
def lkaSrcLen (q : LkaReq) : Nat := if q.op = 2 then q.len + 16 else q.len
def lkaDstLen (q : LkaReq) : Nat := if q.op = 1 then q.len + 16 else if opKmac q.op then q.outLen else q.len

/-- What an engine reads: additional data, source, destination; from HBM, or from host memory. -/
structure LkaIn where
  aad : List Byte
  src : List Byte
  dst : List Byte
  deriving DecidableEq, Repr

def State.lkaIn (s : State) (ring : Nat) (q : LkaReq) (x : LkaIo) : LkaIn :=
  if rgHost ring then ⟨x.aad, x.src, x.dst⟩
  else ⟨s.hbmBytes q.aadAddr q.aadLen, s.hbmBytes q.src (lkaSrcLen q), if q.op = 6 then s.hbmBytes q.dst q.outLen else []⟩

/-- The operand's bytes of a HOST ring's request have the lengths the request asks for. -/
def lkaInFits (q : LkaReq) (x : LkaIo) : Bool :=
  x.aad.length == q.aadLen && x.src.length == lkaSrcLen q && (q.op != 6 || x.dst.length == q.outLen)

/-- An address fault or ABSENT on an access in HBM. -/
def State.lkaHbmFault (s : State) (q : LkaReq) : Bool :=
  s.hbmRangeDown q.src (lkaSrcLen q) || s.hbmRangeDown q.dst (lkaDstLen q) ||
  (!opXts q.op && s.hbmRangeDown q.aadAddr q.aadLen)

/-- Bytes written for a ring: in HBM, or in the slice's memory. -/
def State.lkaWrite (s : State) (ring addr : Nat) (b : List Byte) : State :=
  if rgHost ring then s.dmaWrite (rgSlice ring) addr b else s.hbmStore addr b

/-- What an engine reads in HBM: address and length of each piece. -/
def lkaReads (q : LkaReq) : List (Nat × Nat) :=
  [(q.src, lkaSrcLen q), (q.aadAddr, if opXts q.op then 0 else q.aadLen), (q.dst, if q.op = 6 then q.outLen else 0)]

/-- An uncorrectable line among what an engine reads (R439). -/
def State.lkaUe (s : State) (q : LkaReq) : Bool := (lkaReads q).any (fun p => s.hbmMeets p.1 p.2)

/-- A fault on an access in HBM, as the controllers show it: refused addresses and uncorrectable lines. -/
def State.lkaFaultShow (s : State) (q : LkaReq) : State :=
  let s := ((q.dst, lkaDstLen q) :: lkaReads q).foldl (fun (s : State) p => s.addrRefuse p.1 p.2) s
  (lkaReads q).foldl (fun (s : State) p => s.hbmUeRead p.1 p.2) s

/-- The operation itself: status, and what is written at DST. -/
def State.lkaCompute (s : State) (q : LkaReq) (i : Nat) (d : LkaIn) : Nat × List Byte :=
  let key := ksKey (s.keySlot i)
  let iv := beNat (q.tail.take 12)
  match q.op with
  | 1 => let c := gcmEnc key iv d.aad d.src; (0, c.1 ++ c.2)
  | 2 => match gcmDec key iv d.aad (d.src.take q.len) (d.src.drop q.len) with
    | some p => (0, p)
    | none => (1, List.replicate q.len 0)
  | 3 => (0, xts true key (ksKey (s.keySlot (i + 1))) q.tail d.src)
  | 4 => (0, xts false key (ksKey (s.keySlot (i + 1))) q.tail d.src)
  | 5 => (0, kmac256 (beBytes 32 key) d.src q.outLen d.aad)
  | _ => (if kmac256 (beBytes 32 key) d.src q.outLen d.aad = d.dst then 0 else 1, [])

/-- Free values for `n` bytes: DST after a fault during processing (R371). -/
def State.freeBytes (s : State) : Nat → List Byte × State
  | 0 => ([], s)
  | n + 1 => let r := s.drawn.freeBytes n; (s.freeVal 8 :: r.1, r.2)

/-- A request is run: its status, the bytes processed, the state. -/
def State.lkaProcess (s : State) (ring : Nat) (q : LkaReq) (x : LkaIo) : Nat × Nat × State :=
  if q.op < 1 ∨ 6 < q.op ∨ lkaReserved q = false then (9, 0, s)
  else match keyRef q.ref with
    | none => (6, 0, s.keyRefBad)
    | some i =>
      let s := s.raiseIf x.corrupt 8 0 1
      let st := s.lkaSlot ring q i x.corrupt
      if st ≠ 0 then (st, 0, s)
      else if lkaLen q ≠ 0 then (lkaLen q, 0, s)
      else if rgHost ring && x.fault == .atCheck then (10, 0, s)
      else if !rgHost ring && (s.lkaHbmFault q || s.lkaUe q) then (10, 0, s.lkaFaultShow q)
      else if rgHost ring && x.fault == .later then
        let r := s.freeBytes (if q.op = 6 then 0 else lkaDstLen q)
        (10, 0, r.2.lkaWrite ring q.dst r.1)
      else
        let r := s.lkaCompute q i (s.lkaIn ring q x)
        (r.1, q.len, s.lkaWrite ring q.dst r.2)

/-- A completion is posted (R373): bytes 0 to 4 and 6 to 15, then byte 5; then the ring's notification. -/
def State.lkaComplete (s : State) (r e : Nat) (q : LkaReq) (status done : Nat) : State :=
  let ring := s.ring r
  let ci := s.lkaCi r % rgSize ring
  let at_ := rgCmpl ring + 16 * ci
  let left := s.lkaPick.elim 0 (·.2)
  let phase0 := spGet (fun _ => false) s.sec.lkaPhase r
  let s := if rgHost ring then s.dirtyFlushSlice (rgSlice ring) else s
  let s := s.lkaWrite ring at_ (q.tag ++ [BitVec.ofNat 8 status])
  let s := s.lkaWrite ring (at_ + 6) ([BitVec.ofNat 8 e, 0] ++ leBytes 4 done ++ leBytes 4 (tvNs s.wt))
  let s := s.lkaWrite ring (at_ + 5) [if phase0 then 0 else 1]
  let s : State := { s with sec := { s.sec with turnRing := r, turnLeft := left } }
  let last := ci + 1 == rgSize ring
  let s := s.wr (lkaA (R.SEC_LKA_CI + 8 * r)) (BitVec.ofNat 32 (if last then 0 else ci + 1))
  let s : State := if last then { s with sec := { s.sec with lkaPhase := spPut (fun _ => false) s.sec.lkaPhase r (!phase0) } } else s
  let s := if status = 0 then s else s.bump (lkaA (R.SEC_LKA_STATUS + 4 * (status - 1)))
  let s := (s.raiseIf (status == 1) 8 2 0).raiseIf (status == 10) 8 2 1
  if rgNotify ring || natBit q.flags 0 then
    (if rgHost ring then s.sendMsix (slLink (s.sliceEntry (rgSlice ring))) 1 (natField ring 192 11)
     else s.deviceEvent (natField ring 192 9) (natField ring 201 6))
  else s

/-- An engine takes the head request of the ring whose turn it is when its OP is `op`, or is none of the six. -/
def State.lkaRun (s : State) (op r e : Nat) (x : LkaIo) : State :=
  let ring := s.ring r
  if s.meets 8 2 || !s.lkaTurn r then s
  else
    let at_ := rgReq ring + 64 * (s.lkaCi r % rgSize ring)
    let b := if rgHost ring then x.req else s.hbmBytes at_ 64
    let q := lkaReq b
    if !rgHost ring && s.hbmMeets at_ 64 then
      let d := s.freeBytes 4
      (d.2.hbmUeRead at_ 64).lkaComplete r e { q with tag := d.1, flags := 0 } 10 0
    else if b.length ≠ 64 ∨ ¬(q.op = op ∨ q.op < 1 ∨ 6 < q.op) ∨ (rgHost ring && x.fault == .ok && !lkaInFits q x) = true then s
    else
      let p := s.lkaProcess ring q x
      p.2.2.lkaComplete r e q p.1 p.2.1

/-- GCM_ENC. -/
def execGcmEnc (r : Fin 256) (e : Fin 32) (x : LkaIo) (s : State) : Host.Outcome State Fault Refusal := .next (s.lkaRun 1 r e x)
/-- GCM_DEC. -/
def execGcmDec (r : Fin 256) (e : Fin 32) (x : LkaIo) (s : State) : Host.Outcome State Fault Refusal := .next (s.lkaRun 2 r e x)
/-- XTS_ENC. -/
def execXtsEnc (r : Fin 256) (e : Fin 32) (x : LkaIo) (s : State) : Host.Outcome State Fault Refusal := .next (s.lkaRun 3 r e x)
/-- XTS_DEC. -/
def execXtsDec (r : Fin 256) (e : Fin 32) (x : LkaIo) (s : State) : Host.Outcome State Fault Refusal := .next (s.lkaRun 4 r e x)
/-- KMAC. -/
def execKmac (r : Fin 256) (e : Fin 32) (x : LkaIo) (s : State) : Host.Outcome State Fault Refusal := .next (s.lkaRun 5 r e x)
/-- KMAC_VERIFY. -/
def execKmacVerify (r : Fin 256) (e : Fin 32) (x : LkaIo) (s : State) : Host.Outcome State Fault Refusal := .next (s.lkaRun 6 r e x)

end Sys2Proof.Machine
end

