-- ==== Sys2Proof/Machine/HostQueues.lean ====
section
/-! DEFINITION. HOST's slices and queue pairs (spec 16): their tables, doorbells, transmit fetches, receive writes, completions,
interrupt moderation, and the dirty log's swap (R408 to R421). -/

namespace Sys2Proof.Machine

/-! ## Queue pair entries (R411) -/

def State.qpEntry (s : State) (q : Nat) : Nat := s.tabN 0xC 2 0xF1 q
def qpEn (e : Nat) : Bool := natBit e 192
def qpTxSize (e : Nat) : Nat := 2 ^ natField e 200 4
def qpRxSize (e : Nat) : Nat := 2 ^ natField e 208 4
/-- Four bits hold 7 to 16: code 0 is 16 (assumption 22). -/
def qpCqSize (e : Nat) : Nat := if natField e 216 4 = 0 then 65536 else 2 ^ natField e 216 4
def qpVector (e : Nat) : Nat := natField e 224 11
def qpIrqEn (e : Nat) : Bool := natBit e 239
def qpModUs (e : Nat) : Nat := natField e 240 10
def qpModCount (e : Nat) : Nat := natField e 256 8
def qpBufSize (e : Nat) : Nat := 2048 * 2 ^ natField e 264 2

def State.qp (s : State) (q : Nat) : QpSt := spGet (fun _ => QpSt.reset) s.host.qps q
def State.setQp (s : State) (q : Nat) (x : QpSt) : State :=
  { s with host := { s.host with qps := spPut (fun _ => QpSt.reset) s.host.qps q x } }

/-- A slice entry's range of queue pairs holds `q`. -/
def slHolds (e q : Nat) : Bool := slValid e && decide (slQpBase e ≤ q) && decide (q < slQpBase e + slQpCount e)

/-- The valid slice whose range holds a queue pair. -/
def State.qpSlice (s : State) (q : Nat) : Option Nat := ((s.tabListed 0xC 1 0xF0).find? (fun p => slHolds p.2.toNat q)).map (·.1)

/-- Fields that an enabled pair may change: EN, IRQ_EN and the moderation fields. -/
def qpFixed (e : Nat) : Nat :=
  natSetField (natSetField (natSetField (natSetField e 192 1 0) 239 1 0) 240 10 0) 256 8 0

def qpMask : Nat :=
  (2 ^ 192 - 1) + 2 ^ 192 + 15 * 2 ^ 200 + 15 * 2 ^ 208 + 15 * 2 ^ 216 + 2047 * 2 ^ 224 + 2 ^ 239 + 1023 * 2 ^ 240 + 255 * 2 ^ 256 +
  3 * 2 ^ 264

/-- A write of a pair's entry that R411 lets pass. -/
def State.qpOk (s : State) (q v : Nat) : Bool :=
  let old := s.qpEntry q
  (!qpEn v || ((s.qpSlice q).isSome && decide (qpTxSize v + qpRxSize v ≤ qpCqSize v) && decide (6 ≤ natField v 200 4) &&
    decide (6 ≤ natField v 208 4) && decide (128 ≤ qpCqSize v) && decide (1 ≤ qpModCount v) && natField v 0 12 == 0 &&
    natField v 64 12 == 0 && natField v 128 12 == 0)) &&
  (!qpEn old || qpFixed v == qpFixed old)

/-- TABLE 0xF1: an accepted write ends the pair's ERROR. -/
def qpTable : WinTable where
  bytes := 64
  count := fun _ => 65536
  get := fun s i _ =>
    let x := s.qp i
    some (s.qpEntry i + (if x.error then 2 ^ 193 else 0) + x.txHead * 2 ^ 272 + x.txTail * 2 ^ 288 + x.rxHead * 2 ^ 304 +
      x.rxTail * 2 ^ 320 + x.cqTail * 2 ^ 336 + x.cqHead * 2 ^ 352)
  put := fun s i _ v =>
    let v := v &&& qpMask
    if s.qpOk i v then (0, (s.setTabN 0xC 2 0xF1 i v).setQp i { s.qp i with error := false }) else (4, s)
  clear := fun s i _ =>
    if s.qpOk i 0 then (0, (s.setTabN 0xC 2 0xF1 i 0).setQp i { s.qp i with error := false }) else (4, s)
  readClear := false

/-- TABLE 0xF5: the pair's counters. -/
def qpCounterTable : WinTable := { plainTable 0xC 2 0xF5 32 65536 (fun _ _ _ => true) with readClear := true }

/-- A counter of TABLE 0xF5: 0 TX packets, 1 TX bytes, 2 RX packets, 3 RX bytes. -/
def State.qpCount (s : State) (q c n : Nat) : State :=
  if s.ctl.snapFrozen then s
  else
    let e := s.tabN 0xC 2 0xF5 q
    s.setTabN 0xC 2 0xF5 q (natSetField e (64 * c) 64 (natField e (64 * c) 64 + n))

/-! ## The slice table (R408, R419) -/

def sliceMask : Nat :=
  63 + (2 ^ 20 - 1) * 2 ^ 32 + 2 ^ 63 + 65535 * 2 ^ 64 + 8191 * 2 ^ 80 + (2 ^ 17 - 1) * 2 ^ 128 + 4095 * 2 ^ 160 + 16383 * 2 ^ 176 +
  (2 ^ 24 - 1) * 2 ^ 192

/-- Enabled pairs of the old range stay in the new one. -/
def State.qpKept (s : State) (old v : Nat) : Bool :=
  !slValid old || (s.tabListed 0xC 2 0xF1).all (fun p => !(slHolds old p.1 && qpEn p.2.toNat) || slHolds v p.1)

/-- A slice entry that R408 and R419 let pass. -/
def State.sliceOk (s : State) (n v : Nat) : Bool :=
  (!slValid v || (decide (1 ≤ slQpCount v) && decide (1 ≤ natField v 176 14))) && decide (slQpCount v ≤ 4096) &&
  decide (slQpBase v + slQpCount v ≤ 65536) && bucketEntryOk (natField v 128 17) (natField v 160 12) 0 &&
  (s.tabListed 0xC 1 0xF0).all (fun p =>
    let e := p.2.toNat
    p.1 == n || !slValid e ||
      (!(slValid v && slLink e == slLink v && slPasid e == slPasid v) &&
        (slQpCount v == 0 || decide (slQpBase e + slQpCount e ≤ slQpBase v) || decide (slQpBase v + slQpCount v ≤ slQpBase e)))) &&
  s.qpKept (s.sliceEntry n) v

/-- A table of block SLC: a refused write raises CFG_REFUSED. -/
def sliceTable : WinTable where
  bytes := 32
  count := fun _ => 4096
  get := fun s i _ => some (s.sliceEntry i)
  put := fun s i _ v =>
    let v := v &&& sliceMask
    if s.sliceOk i v then (0, s.setTabN 0xC 1 0xF0 i v) else (4, s.raise 0xC 1 2)
  clear := fun s i _ => if s.sliceOk i 0 then (0, s.setTabN 0xC 1 0xF0 i 0) else (4, s.raise 0xC 1 2)
  readClear := false

def dlogMask : Nat := (2 ^ 224 - 1) + 2 ^ 224
def dlogOk (v : Nat) : Bool :=
  natField v 0 3 == 0 && natField v 64 3 == 0 && natField v 128 12 == 0 && (!natBit v 224 || natField v 192 32 != 0)

/-- TABLE 0xF2: ACTIVE and SWAP_BUSY read as they stand. -/
def dlogTable : WinTable where
  bytes := 32
  count := fun _ => 4096
  get := fun s i _ =>
    some (s.dlogEntry i + (if (s.slice i).active1 then 2 ^ 225 else 0) + (if (s.slice i).swapBusy then 2 ^ 226 else 0))
  put := fun s i _ v => if dlogOk v then (0, s.setTabN 0xC 1 0xF2 i (v &&& dlogMask)) else (4, s.raise 0xC 1 2)
  clear := fun s i _ => (0, s.setTabN 0xC 1 0xF2 i 0)
  readClear := false

/-! ## Interrupts and completions (R416, R417) -/

/-- The pair's vector is sent when it is due: IRQ_EN and ARM set, MOD_COUNT completions unsignalled, or MOD_USEC since the first. -/
def State.qpSignal (s : State) (q : Nat) : State :=
  let e := s.qpEntry q
  let x := s.qp q
  if qpIrqEn e && x.arm && decide (0 < x.unsig) &&
      (decide (qpModCount e ≤ x.unsig) || decide (x.unsigTick + qpModUs e * ticksPerUs ≤ s.time.ticks)) then
    match s.qpSlice q with
    | some n => (s.setQp q { x with arm := false, unsig := 0 }).sendMsix (slLink (s.sliceEntry n)) 1 (qpVector e)
    | none => s
  else s

/-- MSIX_MODERATION. -/
def execMsixModeration (q : Fin 65536) (s : State) : Host.Outcome State Fault Refusal :=
  .next (if s.hostUp then s.qpSignal q.val else s)

/-- A completion of 32 bytes, whose byte 2 is given apart, is posted for a slice: the slice's dirty words first, byte 2 last. -/
def State.qpComplete (s : State) (n q : Nat) (b : List Byte) : State :=
  let e := s.qpEntry q
  let x := s.qp q
  let i := x.cqTail % qpCqSize e
  let at_ := natField e 128 64 + 32 * i
  let s := s.dirtyFlushSlice n
  let s := (s.dmaWrite n at_ (b.take 2)).dmaWrite n (at_ + 3) (b.drop 3)
  let s := s.dmaWrite n (at_ + 2) [if x.phase0 then 0 else 1]
  let last := i + 1 == qpCqSize e
  let x := s.qp q
  let x := { x with
    cqTail := if last then 0 else i + 1
    phase0 := if last then !x.phase0 else x.phase0
    unsigTick := if x.unsig = 0 then s.time.ticks else x.unsigTick
    unsig := x.unsig + 1 }
  (s.setQp q x).qpSignal q

/-- A request for a pair ended with Unsupported Request or Completer Abort (R409). -/
def State.qpFault (s : State) (q : Nat) : State := (s.setQp q { s.qp q with error := true }).raise 0xC 0 4

/-! ## Doorbells (R409, R412) -/

def State.dbDrop (s : State) : State := s.bump (lnkA R.HOST_DB_DROP)

/-- A write to a doorbell page through link `l`. -/
def State.doorbell (s : State) (l q : Nat) (f : QpSt → QpSt) : State :=
  if !s.hostUp then s
  else match s.qpSlice q with
    | some n =>
      let e := s.sliceEntry n
      if qpEn (s.qpEntry q) && slLink e == l && !slStop e then s.setQp q (f (s.qp q)) else s.dbDrop
    | none => s.dbDrop

/-- DOORBELL_TX_TAIL. -/
def execDoorbellTxTail (l : Fin 4) (q : Fin 65536) (v : Word) (s : State) : Host.Outcome State Fault Refusal :=
  .next (s.doorbell l q (fun x => { x with txTail := v.toNat % 65536 }))

/-- DOORBELL_RX_TAIL. -/
def execDoorbellRxTail (l : Fin 4) (q : Fin 65536) (v : Word) (s : State) : Host.Outcome State Fault Refusal :=
  .next (s.doorbell l q (fun x => { x with rxTail := v.toNat % 65536 }))

/-- DOORBELL_CQ_HEAD: the write arms where bit 31 is 1. -/
def execDoorbellCqHead (l : Fin 4) (q : Fin 65536) (v : Word) (s : State) : Host.Outcome State Fault Refusal :=
  if s.hostUp then
    .next ((s.doorbell l q (fun x => { x with cqHead := v.toNat % 65536, arm := x.arm || natBit v.toNat 31 })).qpSignal q)
  else .next s

/-- LKA_HOST_DOORBELL: to SEC_LKA_PI when the ring is a HOST ring of a slice of the link (R418). -/
def execLkaHostDoorbell (l : Fin 4) (r : Fin 256) (v : Word) (s : State) : Host.Outcome State Fault Refusal :=
  if !s.hostUp then .next s
  else
    let ring := s.ring r
    let e := s.sliceEntry (rgSlice ring)
    if rgHost ring && slValid e && slLink e == l then .next (s.lkaPiWrite r v.toNat) else .next s.dbDrop

/-! ## Transmit (R410, R413) -/

/-- Descriptors posted and not fetched. -/
def State.txPosted (s : State) (q : Nat) : Nat :=
  let n := qpTxSize (s.qpEntry q)
  ((s.qp q).txTail % n + n - (s.qp q).txHead % n) % n

/-- The pair may be fetched for: enabled, no ERROR, work posted, nothing on its way absent (R427). -/
def State.qpReady (s : State) (q : Nat) : Bool :=
  qpEn (s.qpEntry q) && !(s.qp q).error && decide (0 < s.txPosted q) && !s.rgnDown (pipeRegion (q % 16)) &&
  !s.blkHeld (pipeRegion (q % 16)) (q % 16 % 4) && !s.rgnDown 0x0D && !s.rgnDown 0x10

/-- Pairs of a slice in rising order that may be fetched for. -/
def State.sliceReadyQps (s : State) (n : Nat) : List Nat :=
  ((s.tabListed 0xC 2 0xF1).map (·.1)).filter (fun q => slHolds (s.sliceEntry n) q && s.qpReady q)

/-- Tokens of a slice's bucket as they stand now (2^-16 byte). -/
def State.sliceTokens (s : State) (n : Nat) : Option Int :=
  let e := s.sliceEntry n
  let x := s.slice n
  match x.tokens with
  | none => none
  | some t =>
    let v := t + divFree ((rateOf (natField e 128 17) * 125 * 65536 * (s.wt - x.refill) : Nat) : Int) lsbSec
    if ((burstOf (natField e 160 12) * 65536 : Nat) : Int) ≤ v then none else some v

/-- A slice that HOST may fetch for on its link. -/
def State.sliceReady (s : State) (l n : Nat) : Bool :=
  let e := s.sliceEntry n
  slValid e && slLink e == l && slNet e && !slStop e && bucketOk (natField e 128 17) (s.sliceTokens n) &&
  (match s.ver.batch with | some b => b.2.1 != n | none => true) && !(s.sliceReadyQps n).isEmpty

def rotateFrom (ptr : Nat) (l : List Nat) : List Nat :=
  l.filter (fun c => decide (ptr ≤ c)) ++ l.filter (fun c => decide (c < ptr))

/-- Deficit round robin over a link's slices: the slice served, with the rounds it took added. -/
def State.chooseSlice (s : State) (l : Nat) : Option (Nat × State) :=
  let cand := ((s.tabListed 0xC 1 0xF0).map (·.1)).filter (s.sliceReady l)
  let order := rotateFrom (spGet (fun _ => 0) s.host.nextSlice l) cand
  let weight (n : Nat) : Nat := natField (s.sliceEntry n) 176 14
  let rounds := match order.map (fun n => roundsFor (s.slice n).deficit (weight n)) with
    | [] => 0
    | r :: rest => rest.foldl min r
  let s := if rounds = 0 then s else order.foldl (fun s n =>
    s.setSlice n { s.slice n with deficit := (s.slice n).deficit + ((rounds * weight n * 64 : Nat) : Int) }) s
  match order.find? (fun n => decide (0 < (s.slice n).deficit)) with
  | none => none
  | some n => some (n, { s with host := { s.host with nextSlice := spPut (fun _ => 0) s.host.nextSlice l n } })

/-- A packet's descriptors: through the first EOP, at most eight; none while the packet is not complete. -/
def txDescs (posted : Nat) (ring : List Byte) : Option (List (List Byte)) :=
  let l := (List.range (min posted 8)).map (fun i => padTo 32 ((ring.drop (32 * i)).take 32))
  match l.findIdx? (fun d => natBit (d.getD 10 0).toNat 0) with
  | some i => some (l.take (i + 1))
  | none => if 8 ≤ posted then some l else none
where
  padTo (n : Nat) (l : List Byte) : List Byte := l ++ List.replicate (n - l.length) 0

def tdLen (d : List Byte) : Nat := leNat ((d.drop 8).take 2)

/-- The packet's length, where its descriptors are good. -/
def txLength (ds : List (List Byte)) : Option Nat :=
  let n := natSum (ds.map tdLen)
  let d := ds.headD []
  let csum := natBit (d.getD 10 0).toNat 1
  if ds.all (fun d => decide (1 ≤ tdLen d) && decide (tdLen d ≤ 16380) && decide ((d.getD 10 0).toNat < 8) && d.getD 11 0 == 0 &&
      allZero (d.drop 20)) && natBit ((ds.getLastD []).getD 10 0).toNat 0 && decide (14 ≤ n) && decide (n ≤ 16380) &&
      (!csum || decide (leNat ((d.drop 18).take 2) + 2 ≤ n)) then some n
  else none

/-- The packet's data with the checksum that CSUM_EN asks for. -/
def txData (d : List Byte) (b : List Byte) : List Byte :=
  if natBit (d.getD 10 0).toNat 1 then
    let o := leNat ((d.drop 18).take 2)
    b.take o ++ beBytes 2 (inetChecksum (b.drop (leNat ((d.drop 16).take 2)))) ++ b.drop (o + 2)
  else b

/-- A slice and its bucket are charged for a packet. -/
def State.sliceCharge (s : State) (n c : Nat) : State :=
  let e := s.sliceEntry n
  let t := chargedBucket (natField e 128 17) (natField e 160 12) c (s.sliceTokens n)
  s.setSlice n { s.slice n with deficit := (s.slice n).deficit - (c : Int), tokens := t, refill := s.wt }

/-- A transmit completion (R416). -/
def txDone (status used first : Nat) (d : List Byte) : List Byte :=
  [1, BitVec.ofNat 8 status, 0, BitVec.ofNat 8 used] ++ leBytes 2 first ++ [0, 0] ++ (d.drop 12).take 4 ++ List.replicate 20 0

/-- A fetch for a pair of a slice: the packet enters its pipeline, then its completion is posted. -/
def State.txFetch (s : State) (l n q : Nat) (x : TxFetch) : State :=
  let size := qpTxSize (s.qpEntry q)
  let first := (s.qp q).txHead % size
  if x.fault = .atCheck then s.qpFault q
  else match txDescs (s.txPosted q) x.ring with
    | none => s
    | some ds =>
      let d := ds.headD []
      let used := ds.length
      let s := (s.setQp q { s.qp q with txHead := (first + used) % size }).setSlice n { s.slice n with nextQp := q + 1 }
      match txLength ds with
      | none => s.qpComplete n q (txDone 1 used first d)
      | some len =>
        if x.fault = .later then (s.qpFault q).qpComplete n q (txDone 2 used first d)
        else
          let b := x.data.take len ++ List.replicate (len - x.data.length) 0
          let k : Pkt := { Pkt.empty with
            bytes := txData d b, port := 64 + l, kind := 1, slice := n, qp := q
            tag := if natBit (d.getD 10 0).toNat 2 then some (leNat ((d.drop 12).take 4)) else none }
          let i := q % 16
          let p := s.pipe i
          let s := s.setPipe i { p with hostIn := p.hostIn ++ [k] }
          (((s.sliceCharge n len).qpCount q 0 1).qpCount q 1 len).qpComplete n q (txDone 0 used first d)

/-- HOST_TX_FETCH: the next fetch of a link. -/
def execHostTxFetch (l : Fin 4) (x : TxFetch) (s : State) : Host.Outcome State Fault Refusal :=
  if !s.hostUp || !s.rbit (lnkA (R.HOST_LINK_STAT + 16 * l.val)) 9 then .next s
  else match s.chooseSlice l.val with
    | none => .next s
    | some (n, t) =>
      match rotateFrom (t.slice n).nextQp (t.sliceReadyQps n) with
      | q :: _ => .next (t.txFetch l.val n q x)
      | [] => .next s

/-! ## Receive (R414, R415) -/

/-- A receive completion (R416). -/
def rxDone (k : Pkt) (fault : Bool) (used first : Nat) : List Byte :=
  let t := k.stamp.getD 0
  [2, if fault then 2 else if k.bad then 3 else 0, 0, BitVec.ofNat 8 used] ++ leBytes 2 first ++ leBytes 2 (k.bytes.length % 16384) ++
  leBytes 4 (pktHash k false) ++ [BitVec.ofNat 8 (pktClass k), if k.stamp.isSome then 1 else 0, 0, 0] ++
  leBytes 8 (tvSec t % 2 ^ 48) ++ leBytes 4 (tvNs t) ++ leBytes 2 (tvFrac t / 65536) ++ [0, 0]

/-- The packet's data goes into its buffers. -/
def State.rxData (s : State) (n size : Nat) (ring : List Byte) : Nat → Nat → List Byte → State
  | 0, _, _ => s
  | f + 1, i, b =>
    ((s.dmaWrite n (leNat ((ring.drop (16 * i)).take 8)) (b.take size))).rxData n size ring f (i + 1) (b.drop size)

/-- A packet for link `l` is written to its queue pair. A request that faults while descriptors are read leaves them posted; one
that faults in the data write uses them up, and the completion says FAULT (assumption 93). -/
def State.rxWrite (s : State) (l : Nat) (k : Pkt) (x : RxHost) : State :=
  let q := k.rewrite % 65536
  let e := s.qpEntry q
  match s.qpSlice q with
  | none => s.bump (lnkA R.HOST_RX_NOQP)
  | some n =>
    let sl := s.sliceEntry n
    if !qpEn e || slLink sl != l then s.bump (lnkA R.HOST_RX_NOQP)
    else if slStop sl then s.bump (lnkA (R.HOST_RX_NOQP + 8))
    else
      let size := qpRxSize e
      let first := (s.qp q).rxHead % size
      let posted := ((s.qp q).rxTail % size + size - first) % size
      let need := (k.bytes.length + qpBufSize e - 1) / qpBufSize e
      if posted < need ∨ (s.qp q).error = true then s.bump (lnkA (R.HOST_RX_NOQP + 4))
      else if x.fault = .atCheck then (s.qpFault q).bump (lnkA (R.HOST_RX_NOQP + 4))
      else
        let s := s.setQp q { s.qp q with rxHead := (first + need) % size }
        if x.fault = .later then (s.qpFault q).qpComplete n q (rxDone k true need first)
        else
          let s := s.rxData n (qpBufSize e) x.ring need 0 k.bytes
          ((s.qpCount q 2 1).qpCount q 3 k.bytes.length).qpComplete n q (rxDone k false need first)

/-- HOST_RX_WRITE: the oldest packet on its way to the links. -/
def execHostRxWrite (x : RxHost) (s : State) : Host.Outcome State Fault Refusal :=
  match s.que.hostOut with
  | [] => .next s
  | y :: r =>
    if !s.hostUp then .next s
    else .next (({ s with que := { s.que with hostOut := r } } : State).rxWrite (y.port - 64) y.pkt x)

/-! ## The dirty log (R420, R421) -/

/-- DLOG_FLUSH: word `i` of the cache. -/
def execDlogFlush (i : Fin 1024) (s : State) : Host.Outcome State Fault Refusal :=
  match s.host.dirty[i.val]? with
  | some w => .next (if s.hostUp then s.dirtyFlush w else s)
  | none => .next s

/-- DLOG_STAT of the slice's link, where the swap was asked for. -/
def State.dlogSwap (s : State) (l n : Nat) : State :=
  let x := s.slice n
  if x.swapBusy then s.setHlink l { s.hlink l with dlogRefused := true }
  else
    (s.setSlice n { x with active1 := !x.active1, swapBusy := true, swapLink := l }).setHlink l
      { s.hlink l with dlogDone := false, dlogRefused := false, dlogSlice := n }

/-- DLOG_SWAP: in function 0 BAR0 of a link, or in HOST_DLOG_SWAP (then for the slice's link). -/
def execDlogSwap (src : SwapFrom) (v : Word) (s : State) : Host.Outcome State Fault Refusal :=
  let n := v.toNat % 4096
  match src with
  | .bar l => .next (if s.hostUp then s.dlogSwap l.val n else s)
  | .reg m => .next (s.asWrite m (slcA R.HOST_DLOG_SWAP) (fun s => s.dlogSwap (slLink (s.sliceEntry n)) n))

/-- DLOG_SWAP_DONE: every word of the old bitmap flushed, then DONE, DLOG_SWAPPED and vector 1 of function 0. -/
def execDlogSwapDone (n : Fin 4096) (s : State) : Host.Outcome State Fault Refusal :=
  let x := s.slice n.val
  if x.swapBusy && s.hostUp then
    let s := s.dirtyFlushAll (fun w => w.slice == n.val && w.map1 != x.active1)
    let s := s.setSlice n.val { s.slice n.val with swapBusy := false }
    let l := x.swapLink
    let y := s.hlink l
    .next (((s.setHlink l { y with dlogDone := true, event := y.event ||| 2 }).raise 0xC 1 1).sendMsix l 0 1)
  else .next s

end Sys2Proof.Machine
end

