-- ==== Sys2Proof/Machine/HostBlock.lean ====
section
/-! DEFINITION. HOST's block function (spec 16): NVMe commands from their doorbell to their completion (R424 to R426). -/

namespace Sys2Proof.Machine

def blkA (off : Nat) : Nat := regAddr 0xC 3 off

/-! ## Tables (R425) -/

def nsMask : Nat := 15 + (2 ^ 128 - 1) * 2 ^ 32 + 65535 * 2 ^ 160 + 4095 * 2 ^ 176 + 255 * 2 ^ 192

/-- Tables 0xF3 and 0xF4 of block BLK. -/
def blkTable : Nat → Option WinTable
  | 0xF3 => some (maskedTable 0xC 3 0xF3 32 1024 nsMask (fun _ _ _ => true))
  | 0xF4 => some (maskedTable 0xC 3 0xF4 4 4100 8191 (fun _ _ _ => true))
  | _ => none

/-- Namespace `nsid` of link `l`, where it is valid. -/
def State.namespace_ (s : State) (l nsid : Nat) : Option Nat :=
  if nsid < 1 ∨ 256 < nsid then none
  else
    let e := s.tabN 0xC 3 0xF3 (l * 256 + (nsid - 1))
    if natBit e 0 then some e else none

def nsLba (e : Nat) : Nat := if natBit e 1 then 4096 else 512
def nsXts (e : Nat) : Bool := natBit e 2
def nsProt (e : Nat) : Bool := natBit e 3
def nsSize (e : Nat) : Nat := natField e 32 64
def nsKeyRef (e : Nat) : Nat := natField e 96 64
def nsChannel (e : Nat) : Nat := natField e 160 16
def nsSlice (e : Nat) : Nat := natField e 176 12
def nsPool (e : Nat) : Nat := natField e 192 8

/-- The slice whose PASID a queue's DMA carries: the bound one, else the link's default slice. -/
def State.queueSlice (s : State) (l y : Nat) : Option Nat :=
  let e := s.tabN 0xC 3 0xF4 (l * 1025 + y)
  if y ≠ 0 ∧ natBit e 12 = true then some (natField e 0 12) else s.defaultSlice l

/-! ## Commands -/

def opFlush : Nat := 0
def opWrite : Nat := 1
def opRead : Nat := 2
def opZeroes : Nat := 8
def opDataset : Nat := 9

/-- A command names a range of LBAs. -/
def opRanged (o : Nat) : Bool := o == opWrite || o == opRead || o == opZeroes
def opFromHost (o : Nat) : Bool := o == opWrite || o == opDataset

def entLe (e : List Byte) (i n : Nat) : Nat := leNat ((e.drop i).take n)

/-- Bytes a command moves: LBAs of a Read or Write, ranges of a Dataset Management, none otherwise. -/
def cmdBytes (ns : Nat) (op : Nat) (e : List Byte) : Nat :=
  if op = opWrite ∨ op = opRead then (entLe e 48 2 + 1) * nsLba ns
  else if op = opDataset then ((e.getD 40 0).toNat + 1) * 16
  else 0

/-- The checks of t0: an NVMe status, 0 where the command passes. -/
def State.cmdStatus (s : State) (l op nsid : Nat) (e : List Byte) : Nat :=
  if ¬(op = opFlush ∨ op = opWrite ∨ op = opRead ∨ op = opZeroes ∨ op = opDataset) then 0x01
  else match s.namespace_ l nsid with
    | none => 0x0B
    | some ns =>
      if 1048576 < cmdBytes ns op e then 0x02
      else if opRanged op && decide (nsSize ns < entLe e 40 8 + entLe e 48 2 + 1) then 0x80
      else if nsProt ns && (op == opWrite || op == opZeroes || op == opDataset) then 0x20
      else 0

/-- RDY falls once CC.EN is 0 and no command of the link is outstanding. -/
def State.rdyFalls (s : State) (l : Nat) : State :=
  let x := s.hlink l
  if !x.ccEn && x.rdy && !s.host.nvme.any (fun c => c.link == l) then s.setHlink l { x with rdy := false } else s

/-- A completion entry is posted after the dirty words of the slice, with the queue's vector. -/
def State.nvmePost (s : State) (l y cid dw0 st : Nat) : State :=
  let s := match s.queueSlice l y with | some n => s.dirtyFlushSlice n | none => s
  (s.emit (.nvmeDone l y cid dw0 st)).sendMsix l 2 y

/-- A buffer HOST holds for a slice goes back. -/
def State.blkFree (s : State) (n a : Nat) : State :=
  (s.poolFree a 1 n).setSlice n { s.slice n with held := (s.slice n).held - 1 }

/-- The buffers of a command go back. -/
def State.blkFreeAll (s : State) (n : Nat) (c : NvmeCmd) : State :=
  (if c.listBuf = 0 then c.bufs else c.bufs ++ [c.listBuf]).foldl (fun s a => s.blkFree n a) s

/-- An allocation on a slice's behalf: none past POOL_QUOTA, or from an empty chain. -/
def State.blkAlloc (s : State) (n pool : Nat) : Option Nat × State :=
  let x := s.slice n
  if natField (s.sliceEntry n) 192 24 ≤ x.held then (none, s.bump (slcA R.HOST_QUOTA_FAIL))
  else
    let r := s.poolAlloc pool
    if r.1 = 0 then (none, r.2) else (some r.1, r.2.setSlice n { r.2.slice n with held := (r.2.slice n).held + 1 })

/-- `k` buffers, or none of them. -/
def blkAllocN (n pool : Nat) : Nat → State → Option (List Nat) × State
  | 0, s => (some [], s)
  | k + 1, s =>
    match s.blkAlloc n pool with
    | (none, s) => (none, s)
    | (some a, s) =>
      match blkAllocN n pool k s with
      | (some l, s) => (some (a :: l), s)
      | (none, s) => (none, s.blkFree n a)

/-- The pool of the list buffer: the first enabled one of 256-byte buffers (assumption 23). -/
def State.listPool (s : State) : Nat :=
  (((s.tabListed 0x13 3 0x70).find? (fun p => pdEn p.2.toNat && pdSizeCode p.2.toNat == 0)).map (·.1)).getD 0

/-- The slot checks of R371 for a namespace: the slots of the pair, or none. -/
def State.nsKeys (s : State) (ns : Nat) : Option (Nat × Nat) :=
  match keyRef (nsKeyRef ns) with
  | none => none
  | some i =>
    let own (e : Nat) : Bool := ksValid e && ksUse e 5 && (!ksOwned e || ksSlice e == nsSlice ns)
    if i % 2 = 0 ∧ (own (s.keySlot i) && own (s.keySlot (i + 1)) && s.sec.dk.isSome) = true
    then some (ksKey (s.keySlot i), ksKey (s.keySlot (i + 1))) else none

/-- Each LBA of a run of data as one XTS data unit. -/
def xtsUnits (enc : Bool) (k1 k2 unit : Nat) : Nat → Nat → List Byte → List Byte
  | 0, _, _ => []
  | f + 1, lba, b =>
    if b.isEmpty then [] else xts enc k1 k2 (leBytes 16 lba) (b.take unit) ++ xtsUnits enc k1 k2 unit f (lba + 1) (b.drop unit)

/-- Data into or out of the 64 KiB buffers of a command. -/
def State.bufsWrite (s : State) : List Nat → List Byte → State
  | [], _ => s
  | a :: r, b => (s.hbmStore a (b.take 65536)).bufsWrite r (b.drop 65536)

def State.bufsRead (s : State) : List Nat → Nat → List Byte
  | [], _ => []
  | a :: r, n => s.hbmBytes a (min n 65536) ++ s.bufsRead r (n - 65536)

/-- The buffers that hold `n` bytes, with the bytes in each. -/
def bufPieces : List Nat → Nat → List (Nat × Nat)
  | [], _ => []
  | a :: r, n => (a, min n 65536) :: bufPieces r (n - 65536)

/-- A read of a command's buffers meets an uncorrectable line. -/
def State.bufsMeet (s : State) (bufs : List Nat) (n : Nat) : Bool := (bufPieces bufs n).any (fun p => s.hbmMeets p.1 p.2)

def State.bufsUe (s : State) (bufs : List Nat) (n : Nat) : State := (bufPieces bufs n).foldl (fun s p => s.hbmUeRead p.1 p.2) s

/-- Data spread over the host's pieces. -/
def State.segsWrite (s : State) (l : Nat) (slice : Option Nat) : List (Nat × Nat) → List Byte → State
  | [], _ => s
  | (a, n) :: r, b =>
    let s := match slice with
      | some k => s.dmaWrite k a (b.take n)
      | none => if (b.take n).isEmpty then s else s.emit (.hostWrite l none a (b.take n))
    s.segsWrite l slice r (b.drop n)

/-- A reference that fails R359 is counted where it refuses a command. -/
def State.nsRefCount (s : State) (ns : Nat) : State := if (keyRef (nsKeyRef ns)).isNone then s.keyRefBad else s

/-- The command leaves the list, its buffers go back, its completion is posted. -/
def State.nvmeEnd (s : State) (c : NvmeCmd) (dw0 st : Nat) : State :=
  let ns := (s.namespace_ c.link c.nsid).getD (s.tabN 0xC 3 0xF3 (c.link * 256))
  let s : State := { s with host := { s.host with nvme := s.host.nvme.filter (fun x => x != c) } }
  ((s.blkFreeAll (nsSlice ns) c).nvmePost c.link c.queue c.cid dw0 st).rdyFalls c.link

/-- Smallest handle not in use. -/
def State.freeHandle (s : State) : Nat :=
  ((List.range (s.host.nvme.length + 1)).find? (fun h => !s.host.nvme.any (fun c => c.handed && c.handle == h))).getD 0

/-- The descriptor of a hand-off. -/
def handOffDesc (admin : Bool) (c : NvmeCmd) (handle list : Nat) : List Byte :=
  [if admin then 0x11 else 0x10, BitVec.ofNat 8 c.link] ++ leBytes 2 c.queue ++ leBytes 4 handle ++ leBytes 8 list ++
  leBytes 4 c.bufs.length ++ leBytes 4 c.bytes ++ List.replicate 40 0

/-- Work that a held command waits for is there: BUF, its channel's region, SEC for XTS. -/
def State.blkMay (s : State) (ns : Nat) (c : NvmeCmd) : Bool :=
  s.hostUp && !s.meets 0x13 3 && !s.chAbsent (nsChannel ns) && !(nsXts ns && c.opcode == opWrite && s.meets 8 2)

/-- A held command is tried: buffers, write data, hand-off. -/
def State.blkTry (s : State) (c : NvmeCmd) : State :=
  let ns := (s.namespace_ c.link c.nsid).getD (s.tabN 0xC 3 0xF3 (c.link * 256))
  let n := nsSlice ns
  let admin := c.queue == 0
  if c.handed || !s.blkMay ns c then s
  else if !admin && nsXts ns && c.opcode == opWrite && (s.nsKeys ns).isNone then (s.nsRefCount ns).nvmeEnd c 0 0x06
  else
    match blkAllocN n (nsPool ns) ((c.bytes + 65535) / 65536) s with
    | (none, s) => s
    | (some bufs, s) =>
      match s.blkAlloc n s.listPool with
      | (none, s) => bufs.foldl (fun s a => s.blkFree n a) s
      | (some list, s) =>
        let data := if !admin && opFromHost c.opcode then c.data.take c.bytes ++ List.replicate (c.bytes - c.data.length) 0 else []
        let data := match (if !admin && nsXts ns && c.opcode == opWrite then s.nsKeys ns else none) with
          | some k => xtsUnits true k.1 k.2 (nsLba ns) data.length c.slba data
          | none => data
        let s := s.bufsWrite bufs data
        let s := s.hbmStore list (c.entry ++ bufs.flatMap (leBytes 8))
        let h := s.freeHandle
        let d : NvmeCmd := { c with handed := true, handle := h, bufs := bufs, listBuf := list, data := [] }
        let s : State := { s with host := { s.host with nvme := s.host.nvme.map (fun x => if x = c then d else x) } }
        (s.chDevice (nsChannel ns) 3 (handOffDesc admin d h list)).2

/-- A command comes in. -/
def State.nvmeTake (s : State) (l : Nat) (x : NvmeIn) : State :=
  let e := (x.entry ++ List.replicate (64 - x.entry.length) 0).take 64
  let op := (e.getD 0 0).toNat
  let nsid := entLe e 4 4
  let cid := entLe e 2 2
  let st := if x.queue.val = 0 then 0 else s.cmdStatus l op nsid e
  if st ≠ 0 then s.nvmePost l x.queue cid 0 st
  else
    let ns := (s.namespace_ l nsid).getD (s.tabN 0xC 3 0xF3 (l * 256))
    let bytes := if x.queue.val = 0 then natSum (x.segs.map (·.2)) else cmdBytes ns op e
    let c : NvmeCmd := ⟨false, 0, l, x.queue, cid, op, nsid, entLe e 40 8, bytes, e, x.segs, x.data, [], 0, none,
      s.time.ticks⟩
    ({ s with host := { s.host with nvme := s.host.nvme ++ [c] } } : State).blkTry c

/-- NVME_DOORBELL: a stopped slice, or one without BLK_EN, has its doorbell dropped. -/
def execNvmeDoorbell (l : Fin 4) (x : NvmeIn) (s : State) : Host.Outcome State Fault Refusal :=
  let y := s.hlink l.val
  if !s.hostUp || !y.ccEn || !y.rdy then .next s
  else
    let bad := match s.queueSlice l.val x.queue.val with
      | some n => slStop (s.sliceEntry n) || !slBlk (s.sliceEntry n) || slLink (s.sliceEntry n) != l.val
      | none => false
    .next (if bad then s.dbDrop else s.nvmeTake l.val x)

/-- The result of a handed command: read data to the host, decrypted where XTS_EN asks for it, then the completion. Read data that meets an
uncorrectable line ends the command with Internal Error (R439). -/
def State.nvmeResult (s : State) (c : NvmeCmd) (dw0 st : Nat) : State :=
  let ns := (s.namespace_ c.link c.nsid).getD (s.tabN 0xC 3 0xF3 (c.link * 256))
  let read := (c.queue != 0 && c.opcode == opRead) || (c.queue == 0 && !c.bufs.isEmpty && natBit c.opcode 1)
  if !read then s.nvmeEnd c dw0 st
  else if s.bufsMeet c.bufs c.bytes then (s.bufsUe c.bufs c.bytes).nvmeEnd c 0 0x06
  else
    let data := s.bufsRead c.bufs c.bytes
    if c.queue != 0 && nsXts ns then
      match s.nsKeys ns with
      | none => (s.nsRefCount ns).nvmeEnd c 0 0x06
      | some k => (s.segsWrite c.link (s.queueSlice c.link c.queue) c.segs
          (xtsUnits false k.1 k.2 (nsLba ns) data.length c.slba data)).nvmeEnd c dw0 st
    else (s.segsWrite c.link (s.queueSlice c.link c.queue) c.segs data).nvmeEnd c dw0 st

/-- A result that must wait for SEC: a Read to decrypt (R427). -/
def State.resultWaits (s : State) (c : NvmeCmd) : Bool :=
  c.queue != 0 && c.opcode == opRead && nsXts ((s.namespace_ c.link c.nsid).getD 0) && s.meets 8 2

/-- Every command that waits is tried again, oldest first: a buffer has come free, or a region is ready. -/
def State.blkRetry (s : State) : State :=
  s.host.nvme.foldl (fun s c => match c.result with
    | some (dw0, st) => if s.resultWaits c then s else s.nvmeResult c dw0 st
    | none => s.blkTry c) s

/-- The write of HOST_BLK_DONE3. -/
def State.blkDone (s : State) : State :=
  match s.host.nvme.find? (fun c => c.handed && c.result.isNone && c.handle == (s.rd (blkA R.HOST_BLK_DONE)).toNat) with
  | none => s.bump (blkA R.HOST_BLK_LATE)
  | some c =>
    let dw0 := (s.rd (blkA (R.HOST_BLK_DONE + 8))).toNat
    let st := s.fld (blkA (R.HOST_BLK_DONE + 4)) 0 16
    if s.resultWaits c then
      { s with host := { s.host with nvme := s.host.nvme.map (fun x => if x = c then { c with result := some (dw0, st) } else x) } }
    else (s.nvmeResult c dw0 st).blkRetry

/-- NVME_DONE. -/
def execNvmeDone (m : Master) (v : Word) (s : State) : Host.Outcome State Fault Refusal :=
  let a := blkA (R.HOST_BLK_DONE + 12)
  .next (s.asWrite m a (fun s => (s.wr a v).blkDone))

/-- NVME_TIMEOUT: outstanding command `i`. -/
def execNvmeTimeout (i : Fin 65536) (s : State) : Host.Outcome State Fault Refusal :=
  match s.host.nvme[i.val]? with
  | none => .next s
  | some c =>
    if s.hostUp && decide (c.tick + s.fld (blkA R.HOST_BLK_TMO) 0 17 * 1000 * ticksPerUs ≤ s.time.ticks) then
      .next (((s.nvmeEnd c 0 0x22).raise 0xC 3 0).blkRetry)
    else .next s

/-- NVME_CC_DISABLE: fetching stops; RDY falls once nothing is outstanding. -/
def execNvmeCcDisable (l : Fin 4) (s : State) : Host.Outcome State Fault Refusal :=
  if s.hostUp then .next ((s.setHlink l.val { s.hlink l.val with ccEn := false }).rdyFalls l.val) else .next s

/-- NVME_CONTROLLER_ENABLE. -/
def execNvmeControllerEnable (l : Fin 4) (s : State) : Host.Outcome State Fault Refusal :=
  if s.hostUp && s.rbit (lnkA (R.HOST_LINK_STAT + 16 * l.val)) 9 then
    .next (s.setHlink l.val { s.hlink l.val with ccEn := true, rdy := true, cfs := false })
  else .next s

/-- A write of HOST_BLK_TMO: 100 to 100,000 ms, others refused. -/
def State.blkTmoWrite (s : State) (v : Nat) : State :=
  if 100 ≤ v % 2 ^ 17 ∧ v % 2 ^ 17 ≤ 100000 then s.wr (blkA R.HOST_BLK_TMO) (BitVec.ofNat 32 (v % 2 ^ 17)) else s.raise 0xC 3 1

/-! ## Pool operations of core threads (R267), which may let a held command go on -/

/-- POOL_FREE. -/
def execPoolFree (m : Master) (datum : BitVec 64) (s : State) : Host.Outcome State Fault Refusal :=
  .next (s.asPort m (bportA R.BUF_POOL_FREE) 8 true (fun t s => (s.poolFree datum.toNat 0 t).blkRetry))

/-- POOL_RELEASE. -/
def execPoolRelease (m : Master) (datum : BitVec 64) (s : State) : Host.Outcome State Fault Refusal :=
  .next (s.asPort m (bportA R.BUF_POOL_RELEASE) 8 true (fun t s => (s.poolRelease datum.toNat 0 t).blkRetry))

end Sys2Proof.Machine
end

