-- ==== Sys2Proof/Machine/Macsec.lean ====
section
/-! DEFINITION. Inline MACsec (spec 14, R362 to R365): the tables of a MSEC block, a frame protected on transmit, a frame verified on
receive. -/

namespace Sys2Proof.Machine

def msecBlock (o : Nat) : Nat := 16 + o
def msecA (o off : Nat) : Nat := regAddr 2 (msecBlock o) off

/-- Byte `i` of a table entry, and `n` bytes from it read big-endian. -/
def entByteAt (e i : Nat) : Byte := BitVec.ofNat 8 (natField e (8 * i) 8)
def entBytes (e i n : Nat) : List Byte := (List.range n).map (fun j => entByteAt e (i + j))
def entBe (e i n : Nat) : Nat := beNat (entBytes e i n)

/-- An entry with `n` bytes from byte `i` replaced by a big-endian number. -/
def entSetBe (e i n v : Nat) : Nat := natSetField e (8 * i) (8 * n) (leNat (beBytes n v))

/-! ## Tables -/

def txKeyCode : Nat := 0xC8
def rxKeyCode : Nat := 0xC9
def useMacsec : Nat := 2

def State.msTab (s : State) (o table i : Nat) : Nat := s.tabN 2 (msecBlock o) table i

/-- An SA table: a write takes or destroys the copy of its key. -/
def saTable (o table code count : Nat) : WinTable where
  bytes := 48
  count := fun _ => count
  get := fun s i _ => some (s.msTab o table i)
  put := fun s i _ v =>
    let v := v &&& (1 + (2 ^ 256 - 1) * 2 ^ 64)
    s.saPut 2 (msecBlock o) table code i v (entBe v 8 8) useMacsec
  clear := fun s i _ => s.saPut 2 (msecBlock o) table code i 0 0 useMacsec
  readClear := false

def msecTable (o : Nat) : Nat → Option WinTable
  | 0xC0 => some (maskedTable 2 (msecBlock o) 0xC0 16 8 (2 ^ 71 - 1) (fun _ _ _ => true))
  | 0xC1 => some (saTable o 0xC1 txKeyCode 32)
  | 0xC2 => some (maskedTable 2 (msecBlock o) 0xC2 16 128 (2 ^ 65 - 1) (fun _ _ _ => true))
  | 0xC3 => some (saTable o 0xC3 rxKeyCode 512)
  | 0xC4 => some { plainTable 2 (msecBlock o) 0xC4 8 128 (fun _ _ _ => true) with readClear := true }
  | _ => none

/-- Counter `i` of port `p` (R365). -/
def State.msCount (s : State) (p i n : Nat) : State :=
  if s.ctl.snapFrozen then s
  else
    let k := p % 8 * 16 + i
    s.setTabN 2 (msecBlock (p / 8)) 0xC4 k ((s.msTab (p / 8) 0xC4 k + n) % 2 ^ 64)

/-- The EtherType is in the bypass list. -/
def State.msBypass (s : State) (o etype : Nat) : Bool :=
  (List.range 4).any (fun e => s.rbit (msecA o (R.MSEC_BYPASS + 4 * e)) 16 && s.fld (msecA o (R.MSEC_BYPASS + 4 * e)) 0 16 == etype)

def etypeOf (f : List Byte) : Nat := beNat ((f.drop 12).take 2)

/-- The IV of a packet number: salt with SSCI and PN combined. -/
def xpnIv (sa pn : Nat) : Nat := entBe sa 28 12 ^^^ (entBe sa 24 4 * 2 ^ 64 + pn)

/-! ## Transmit (R363) -/

/-- The SecTAG: EtherType, TCI and AN, short length, PN, SCI. -/
def secTag (sc an pn dataLen : Nat) : List Byte :=
  let c := natField sc 64 8
  let incl := natBit c 2
  let tci := (if natBit c 3 then 0x40 else 0) + (if incl then 0x20 else 0) + (if natBit c 4 then 0x10 else 0) +
    (if natBit c 1 then 0x0C else 0) + an
  beBytes 2 0x88E5 ++ [BitVec.ofNat 8 tci, BitVec.ofNat 8 (if dataLen < 48 then dataLen else 0)] ++ beBytes 4 (pn % 2 ^ 32) ++
    (if incl then entBytes sc 0 8 else [])

/-- Bytes that MACsec adds to a frame of a port (R125). -/
def State.msExpansion (s : State) (p : Nat) (f : List Byte) : Nat :=
  let sc := s.msTab (p / 8) 0xC0 (p % 8)
  if natBit (s.portCfg p) 12 && natBit sc 64 && !s.msBypass (p / 8) (etypeOf f) then (if natBit sc 66 then 32 else 24) else 0

/-- A padded frame on its way to the line: as it is sent, or none where it is dropped. -/
def State.msTransmit (s : State) (p : Nat) (f : List Byte) : Option (List Byte) × State :=
  let o := p / 8
  let sc := s.msTab o 0xC0 (p % 8)
  if !natBit (s.portCfg p) 12 then (some f, s)
  else if !natBit sc 64 || s.msBypass o (etypeOf f) then (some f, s.msCount p 13 1)
  else
    let an := natField sc 69 2
    let k := p % 8 * 4 + an
    let sa := s.msTab o 0xC1 k
    let pn := entBe sa 16 8
    if !natBit sa 0 || pn == 2 ^ 64 - 1 then (none, s.msCount p 12 1)
    else
      let body := f.drop 12
      let tag := secTag sc an pn body.length
      let key := s.msTab o txKeyCode k
      let enc := natBit sc 65
      let head := f.take 12 ++ tag
      let c := if enc then gcmEnc key (xpnIv sa pn) head body else (body, (gcmEnc key (xpnIv sa pn) (head ++ body) []).2)
      let s := s.setTabN 2 (msecBlock o) 0xC1 k (entSetBe sa 16 8 (pn + 1))
      let s := if s.rd64 (msecA o R.MSEC_PN_SOFT_LO) < pn + 1 then s.pnSoft 2 (msecBlock o) 0xC1 k else s
      let s := (s.msCount p (if enc then 11 else 10) 1).msCount p 14 body.length
      (some (head ++ c.1 ++ c.2), s)

/-! ## Receive (R364) -/

/-- A SecTAG as it stands in a frame: TCI, PN, SCI, the protected data, the ICV. -/
structure SecTagRx where
  an : Nat
  enc : Bool
  pn : Nat
  sci : Option (List Byte)
  head : List Byte
  data : List Byte
  icv : List Byte
  deriving DecidableEq, Repr

/-- The SecTAG of a frame; none where it is malformed. -/
def secTagRx (f : List Byte) : Option SecTagRx :=
  let tci := (f.getD 14 0).toNat
  let sl := (f.getD 15 0).toNat
  let n := if natBit tci 5 then 28 else 20
  let rest := f.drop n
  let dlen := if sl = 0 then rest.length - 16 else sl
  if natBit tci 7 || (natBit tci 3 && !natBit tci 2) || (natBit tci 5 && (natBit tci 6 || natBit tci 4)) || decide (48 ≤ sl) ||
      decide (rest.length < dlen + 16) || (sl == 0 && decide (rest.length < 64)) then none
  else some ⟨tci % 4, natBit tci 3, beNat ((f.drop 16).take 4), if natBit tci 5 then some ((f.drop 20).take 8) else none,
    f.take n, rest.take dlen, (rest.drop dlen).take 16⟩

/-- The secure channel of a frame: by its SCI, else the port's only valid one. -/
def State.rxSc (s : State) (p : Nat) (sci : Option (List Byte)) : Option Nat :=
  let l := (List.range 16).filterMap (fun n =>
    let k := p % 8 * 16 + n
    let e := s.msTab (p / 8) 0xC2 k
    if natBit e 64 then some (k, e) else none)
  match sci with
  | some x => (l.find? (fun q => entBytes q.2 0 8 == x)).map (·.1)
  | none => match l with
    | [q] => some q.1
    | _ => none

/-- The full packet number, from the low 32 bits and LOWEST_PN. -/
def recoverPn (lowest pn : Nat) : Nat :=
  let h := lowest / 2 ^ 32
  (if natBit lowest 31 && !natBit pn 31 then h + 1 else h) % 2 ^ 32 * 2 ^ 32 + pn

/-- A dropped frame raises RX_DROP. -/
def State.msDrop (s : State) (p i : Nat) : Option (List Byte) × State :=
  (none, (s.msCount p i 1).raise 2 (msecBlock (p / 8)) 1)

/-- A received frame without FCS: what passes, or none. `validate`: 0 DISABLED, 1 CHECK, 2 STRICT. -/
def State.msReceive (s : State) (p : Nat) (f : List Byte) : Option (List Byte) × State :=
  let o := p / 8
  let cfg := (s.rd (msecA o (R.MSEC_PORT_CFG + 16 * (p % 8)))).toNat
  let v := natField cfg 0 2
  if !natBit (s.portCfg p) 12 then (some f, s)
  else if s.msBypass o (etypeOf f) then (some f, s)
  else if etypeOf f ≠ 0x88E5 then (if v = 2 then s.msDrop p 7 else (some f, s.msCount p 6 1))
  else match secTagRx f with
    | none => if v = 0 then (some f, s) else s.msDrop p 8
    | some t =>
      let open_ := f.take 12 ++ t.data
      let noSa (s : State) : Option (List Byte) × State :=
        if v = 0 then (some f, s) else if v = 2 || t.enc then s.msDrop p 4 else (some open_, s.msCount p 5 1)
      match s.rxSc p t.sci with
      | none => noSa s
      | some sc =>
        let k := sc * 4 + t.an
        let sa := s.msTab o 0xC3 k
        if !natBit sa 0 then noSa s
        else if (keyRef (entBe sa 8 8)).isNone then noSa s.keyRefBad
        else
          let lowest := entBe sa 16 8
          let pn := recoverPn lowest t.pn
          let win := (s.rd (msecA o (R.MSEC_REPLAY_WIN + 16 * (p % 8)))).toNat
          if v = 0 then (some f, s)
          else if natBit cfg 2 && decide (pn + win < lowest) then s.msDrop p 3
          else
            let key := s.msTab o rxKeyCode k
            let plain := if t.enc then gcmDec key (xpnIv sa pn) t.head t.data t.icv
              else (gcmDec key (xpnIv sa pn) (t.head ++ t.data) [] t.icv).map (fun _ => t.data)
            match plain with
            | some d =>
              let s := s.setTabN 2 (msecBlock o) 0xC3 k (entSetBe sa 16 8 (max lowest (pn + 1 - win)))
              (some (f.take 12 ++ d), (s.msCount p 0 1).msCount p 9 d.length)
            | none => if v = 2 || t.enc then s.msDrop p 2 else (some open_, s.msCount p 1 1)

end Sys2Proof.Machine
end

