-- ==== Sys2Proof/Machine/LineFrames.lean ====
section
/-! DEFINITION. Frames on the line ports (spec 05, R121 to R127, and R50 to R55): reception, flow control, transmission, one-step
departure. -/

namespace Sys2Proof.Machine

/-! ## Counters of good frames (R127) -/

/-- Index of a frame's size bucket, 0 to 9. -/
def sizeBucket (n : Nat) : Nat :=
  if n ≤ 64 then 0 else if n ≤ 127 then 1 else if n ≤ 255 then 2 else if n ≤ 511 then 3 else if n ≤ 1023 then 4
  else if n ≤ 1518 then 5 else if n ≤ 2047 then 6 else if n ≤ 4095 then 7 else if n ≤ 8191 then 8 else 9

/-- Cast of a destination address: 0 unicast, 1 multicast, 2 broadcast. -/
def castOf (f : List Byte) : Nat :=
  if (f.take 6).all (· == 0xFF) then 2 else if natBit (f.getD 0 0).toNat 0 then 1 else 0

/-- A good frame of `n` bytes with FCS: `oct` and `pkt` are the counters of good octets and frames, `cast` and `size` the first of
theirs. -/
def State.goodFrame (s : State) (p : Nat) (f : List Byte) (n oct pkt cast size : Nat) : State :=
  (((s.portCount p oct n).portCount p pkt 1).portCount p (cast + castOf f) 1).portCount p (size + sizeBucket n) 1

/-! ## Reception -/

/-- From the capture at the MAC to the ball (R50): the L-lane's deskew, the symbol's position in its FEC codeword, and the lane's delay
in the calibration record at its signalling rate (assumption 87). -/
def State.captureDelay (s : State) (p : Nat) (tx : Bool) (c : Capture) : Nat :=
  c.deskew + c.fecPos + (Config.laneDelay s.boot.calCopy1 (p + c.lane.val) (modeRate (s.portMode p)) tx).toNat

/-- The stamp of a frame (R50, R51): in the domain of TSDOM, less what lies between the ball and the capture, less
TIME_PORT_ASYM_RX. -/
def State.rxStamp (s : State) (p : Nat) (c : Capture) : Option Nat :=
  let a := A.tsu (R.TIME_PORT_TSCTRL + 32 * p)
  if s.rbit a 2 && s.rgnRuns 1 then
    let asym := psLsb (signedOf 32 (s.rd (A.tsu (R.TIME_PORT_ASYM_RX + 32 * p))).toNat)
    some (((s.srcTime (s.fld a 0 2) : Nat) : Int) - (c.at_ : Int) - (s.captureDelay p false c : Int) - asym).toNat
  else none

/-- A frame that ends badly: dropped whole, or a packet with a bad tail when its head has passed (R121). -/
def State.rxBad (s : State) (p : Nat) (x : RxLine) (b : List Byte) : State :=
  if x.headPassed then s.toPipe p { Pkt.empty with bytes := b, bad := true, cut := true, stamp := s.rxStamp p x.capture } else s

/-- A length field that disagrees with the client data (R121 row 6). -/
def lenBad (f : List Byte) : Bool :=
  let v := etypeOf f
  let client := f.length - 18
  decide (v < 0x600) && !(v == client || (decide (v < 46) && client == 46))

/-- Pause classes a PFC frame stops: class `c` when its bit is set in the frame and in LINE_PORT_PFC. -/
def State.pfcRx (s : State) (p : Nat) (f : List Byte) : Nat → State
  | 0 => s
  | c + 1 =>
    let s := s.pfcRx p f c
    let on := natBit (word16' f 16) c
    let s := if on then s.portCount p (32 + c) 1 else s
    if on && natBit (s.portCfg p) 9 && s.rbit (portA p R.LINE_PORT_PFC) c then s.pauseSet p (1 + c) (word16' f (18 + 2 * c)) else s
where word16' (b : List Byte) (o : Nat) : Nat := beNat ((b.drop o).take 2)

/-- A MAC control frame is consumed (R126). -/
def State.macControl (s : State) (p : Nat) (f : List Byte) : State :=
  let op := beNat ((f.drop 14).take 2)
  if op = 0x0001 then
    let s := s.portCount p 24 1
    if natBit (s.portCfg p) 8 then s.pauseSet p 0 (beNat ((f.drop 16).take 2)) else s
  else if op = 0x0101 then s.pfcRx p f 8
  else s.portCount p 25 1

/-- A frame that passes the MAC: MACsec, then the pipeline (R131). -/
def State.rxPass (s : State) (p : Nat) (x : RxLine) (f : List Byte) : State :=
  let i := s.portPipe p
  if s.rgnAbsent (pipeRegion' i) || s.blkHeld (pipeRegion' i) (i % 4) then s.portCount p 23 1
  else
    let stamp := s.rxStamp p x.capture
    match s.msReceive p f with
    | (some b, s) => s.toPipe p { Pkt.empty with bytes := b, cut := x.headPassed, stamp := stamp }
    | (none, s) => s.rxBad p x f
where pipeRegion' (i : Nat) : Nat := 3 + i / 4

/-- Codewords and symbols corrected with a frame (R120). -/
def State.fecCount (s : State) (p : Nat) (x : RxLine) : State :=
  let s := (s.bump64 (portA p R.LINE_PORT_FEC_CORR) x.corrected).bump64 (portA p R.LINE_PORT_FEC_UNCORR) x.uncorrected
  (x.symbols.zipIdx).foldl (fun s q =>
    if q.2 < modeLanes (s.portMode p) then s.bump64 (laneA (p + q.2) R.LINE_LANE_SYM) q.1 else s) s

/-- The checks of R121 in order, on an UP port. -/
def State.rxCheck (s : State) (p : Nat) (x : RxLine) : State :=
  let f := x.frame
  let n := f.length
  let body := f.take (n - 4)
  let maxlen := s.fld (portA p R.LINE_PORT_MAXLEN) 0 15
  if n < 64 then s.portCount p (if fcsGood f then 18 else 19) 1
  else if maxlen < n then (s.portCount p 20 1).rxBad p x (f.take (maxlen + 1))
  else if x.codeErr then (s.portCount p 21 1).rxBad p x body
  else if !fcsGood f then (s.portCount p 17 1).rxBad p x body
  else if natBit (s.portCfg p) 7 && lenBad f then (s.portCount p 22 1).rxBad p x body
  else
    let s := s.goodFrame p f n 0 2 4 7
    if etypeOf f = 0x8808 then s.macControl p f else s.rxPass p x body

/-- A frame the PCS delivers on a port. -/
def State.rxFrame (s : State) (p : Nat) (x : RxLine) : State :=
  if !s.rgnWorks 2 || s.blkHeld 2 (p / 8) then s
  else
    let all (s : State) : State := ((s.fecCount p x).portCount p 1 x.frame.length).portCount p 3 1
    match s.portState p with
    | .up => (all s).rxCheck p x
    | .down => (all s).portCount p 23 1
    | .sleep => if (s.port p).waking then ((all s).portCount p 23 1).wakeCount p 1 else s
    | _ => s

/-- RX_FRAME. -/
def execRxFrame (p : Fin 64) (x : RxLine) (s : State) : Host.Outcome State Fault Refusal := .next (s.rxFrame p x)

/-! ## Transmission -/

/-- The FCS of a frame, or its complement. -/
def fcsOf (f : List Byte) (bad : Bool) : List Byte := leBytes 4 (if bad then 0xFFFFFFFF - crc32Std f else crc32Std f)

/-- A frame leaves, FCS appended; a looped-back port receives it (LINE_PORT_CFG.LOOP). -/
def State.lineSend (s : State) (p : Nat) (f : List Byte) (bad : Bool) : State :=
  let g := f ++ fcsOf f bad
  let s := (s.portCount p 41 g.length).portCount p 43 1
  let s := if bad then s.portCount p 58 1 else s.goodFrame p f g.length 40 42 44 47
  if natBit (s.portCfg p) 5 then s.rxFrame p ⟨g, false, false, ⟨0, 0, 0, 0⟩, 0, 0, []⟩ else s.emit (.lineTx p g bad)

/-- A flow-control frame (R126): PAUSE for bit 256, else PFC with the class bits. The source address is not the spec's: free. -/
def State.sendFc (s : State) (p bit quanta : Nat) : State :=
  let sa := beBytes 6 (s.freeVal 48).toNat
  let head := beBytes 6 0x0180C2000001 ++ sa ++ beBytes 2 0x8808
  let body := if bit = 256 then beBytes 2 1 ++ beBytes 2 quanta
    else beBytes 2 0x0101 ++ beBytes 2 bit ++ (List.range 8).flatMap (fun c => beBytes 2 (if natBit bit c then quanta else 0))
  let f := head ++ body
  (s.drawn.portCount p (if bit = 256 then 60 else 61) 1).lineSend p (f ++ List.replicate (60 - f.length) 0) false

/-- Transmit stamp of a two-step frame, appended to the port's queue (R50, R54). -/
def State.txStamp (s : State) (p : Nat) (tag : Nat) (c : Capture) : State :=
  if s.rgnRuns 1 then
    let asym := psLsb (signedOf 32 (s.rd (A.tsu (R.TIME_PORT_ASYM_TX + 32 * p))).toNat)
    let t := ((s.srcTime (s.fld (A.tsu (R.TIME_PORT_TSCTRL + 32 * p)) 0 2) : Nat) : Int) + (c.at_ : Int) +
      (s.captureDelay p true c : Int) + asym
    s.tsqAppend p tag t.toNat
  else s

/-- Bytes of a frame that leave before its inverted FCS: up to MAC_MAXLEN, or until data is missing after it has started (R125). -/
def txBytes (g : List Byte) (tooLong : Bool) (maxlen : Nat) (x : TxLine) : List Byte :=
  let g := if tooLong then g.take (maxlen - 4) else g
  match x.started, x.underrun with
  | true, some n => g.take n
  | _, _ => g

/-- The MAC sends a frame: length limits, padding, MACsec, FCS (R125). -/
def State.macSend (s : State) (p : Nat) (k : Pkt) (x : TxLine) : State :=
  let n := k.bytes.length
  if n < 14 then s.portCount p 62 1
  else
    let f := k.bytes ++ List.replicate (60 - n) 0
    let s := if n < 60 then s.portCount p 57 1 else s
    let maxlen := s.fld (portA p R.LINE_PORT_MAXLEN) 0 15
    let tooLong := decide (maxlen < f.length + s.msExpansion p f + 4)
    if tooLong && !x.started then s.portCount p 59 1
    else
      match s.msTransmit p f with
      | (none, s) => s
      | (some g, s) =>
        let s := s.lineSend p (txBytes g tooLong maxlen x) (tooLong || k.bad || (x.started && x.underrun.isSome))
        match k.tag with
        | some tag => s.txStamp p tag x.capture
        | none => s

/-- Time a frame of `n` bytes takes on the line with preamble and gap, in 2^-32 ns. -/
def State.lineTime (s : State) (p n : Nat) : Nat := (n + 24) * 8 * 2 ^ 32 / modeSpeed (s.portMode p)

/-- Bytes of a packet on the line before the FCS: padded, and expanded by MACsec (R125). -/
def State.lineBytes (s : State) (p : Nat) (b : List Byte) : Nat :=
  let f := b ++ List.replicate (60 - b.length) 0
  f.length + s.msExpansion p f

/-- A one-step frame of the port waits whose departure a frame of `n` bytes would run into (R52). -/
def State.oneStepWaits (s : State) (p n : Nat) : Bool :=
  s.time.oneStep.any (fun o => o.port == p && decide (o.td < s.wt + s.lineTime p n))

/-- TX_FRAME: a flow-control frame QUE1 has asked for, else the port's next frame. -/
def execTxFrame (p : Fin 64) (x : TxLine) (s : State) : Host.Outcome State Fault Refusal :=
  if !s.rgnWorks 2 || s.blkHeld 2 (p / 8) || s.flt.failsafe.isSome then .next s
  else
    let q := s.port p
    match q.fcReq, q.txq with
    | r :: rest, _ =>
      if s.portState p ≠ .up then .next (s.setPort p { q with fcReq := rest })
      else if s.oneStepWaits p 60 then .next s
      else .next ((s.setPort p { q with fcReq := rest }).sendFc p r.1 r.2)
    | [], k :: rest =>
      if s.portState p ≠ .up then
        let s := s.setPort p { q with txq := rest }
        .next (if s.portState p = .sleep then s else s.portCount p 62 1)
      else if s.oneStepWaits p (s.lineBytes p k.bytes) then .next s
      else .next ((s.setPort p { q with txq := rest }).macSend p k x)
    | [], [] => .next s

/-- ONESTEP_DEPART: the oldest held one-step frame of a port, at its departure instant; `late`: it cannot start then (R53). -/
def execOnestepDepart (p : Fin 64) (late : Bool) (s : State) : Host.Outcome State Fault Refusal :=
  match s.time.oneStep.find? (fun o => o.port == p.val) with
  | none => .next s
  | some o =>
    if s.wt < o.td ∨ s.rgnWorks 2 = false ∨ s.flt.failsafe.isSome = true then .next s
    else
      let s := { s with time := { s.time with oneStep := s.time.oneStep.erase o } }
      if s.portState p ≠ .up then .next (if s.portState p = .sleep then s else s.portCount p 62 1)
      else if late then .next ((s.bump (A.tsu (R.TIME_PORT_ONESTEP_LATE + 32 * p))).raise 1 4 3)
      else .next (s.macSend p { Pkt.empty with bytes := o.bytes, bad := o.bad } ⟨false, none, ⟨0, 0, 0, 0⟩⟩)

end Sys2Proof.Machine
end

