-- ==== Sys2Proof/Machine/RegionReset.lean ====
section
/-! DEFINITION. What a region loses at a reset, what its release sets up, and what its return to RUN does (R12, R47, R55, R169, R224,
R270, R295, R324, R349, R355, R374, R385, R427, R447, R460); and the chip reset (R69). -/

namespace Sys2Proof.Machine

/-! ## Registers (assumption 31) -/

/-- Register words that a reset of their region leaves as they are: the gateway's, the block epoch, the TIME and HOST partitions
(R12, R407), and what the chapters say survives or what describes a table that survives. -/
def keptReg (r b off : Nat) : Bool :=
  b == 0x3F || off == 0x014 ||
  (match r with
  | 1 => b ≤ 2 && 0x40 ≤ off
  | 3 | 4 | 5 | 6 =>
    (b < 4 && off == R.PIPE_PARSE_ENTRY) || (b == 9 && off == R.PIPE_LRN_COUNT) ||
    ((b == 10 || b == 11) && (off == R.PIPE_ASC_COUNT || off == R.PIPE_ASC_MASKED))
  | 7 =>
    (b == 0 && R.TBL_TILE_FN ≤ off && off < 0x300) || (b == 3 && R.TBL_EM_CFG ≤ off && off < 0x300) ||
    (b == 1 && off == R.TBL_LPM_ENTRIES) ||
    (b == 7 && (off == R.TBL_FAR_BASE_LO || off == R.TBL_FAR_BASE_LO + 4 || off == R.TBL_FAR_ENTRIES))
  | 8 => (b == 0 && off == R.SEC_KEY_STAT) || (b == 2 && R.SEC_LKA_PI ≤ off && off < R.SEC_LKA_PI + 0x800)
  | 9 | 10 | 11 => b == 5 && off == R.CPU_CH_ENABLED
  | 12 => (b == 0 && (off == R.HOST_LINK_CFG || (R.HOST_LINK_STAT ≤ off && off < R.HOST_LINK_STAT + 0x40))) ||
    (b == 4 && off == R.HOST_MBX_EN)
  | 0x13 => b == 1 && R.BUF_SPILL_BASE_LO ≤ off && off ≤ R.BUF_SPILL_PTAB_HI
  | 0x14 | 0x15 => b == 0 && ((R.FAB_PISTE_STAT ≤ off && off < 0x80) || (R.FAB_LANE_CTRL ≤ off && off < 0x400))
  | 0x16 | 0x17 | 0x18 | 0x19 => (b == 0 && off == R.MEM_STAT) || (b == 1 && (off == R.MEM_MIG_PTR || (R.MEM_REDIR ≤ off && off < 0x400)))
  | _ => false)

/-- A window's WIN_STAT that shows ERR 6: the command its region's or block's reset has cut short; it stays to be read (R97). -/
def winCut (p : Nat × Word) : Bool :=
  decide (0x3000 ≤ addrOff p.1) && addrOff p.1 % 0x100 == 12 && natField p.2.toNat 1 3 == 6

/-- The registers of a region, but for the kept ones, return to their reset values; latches and last good pairs with them. -/
def State.regsReset (s : State) (r : Nat) : State :=
  let keep (a : Nat) : Bool := addrRegion a != r || keptReg r (addrBlock a) (addrOff a)
  { s with
    regs := s.regs.filter (fun p => keep p.1 || winCut p)
    ctl := { s.ctl with
      cpGood := s.ctl.cpGood.filter (fun p => keep p.1)
      latches := s.ctl.latches.filter (fun p => p.1 / 256 != r) }
    line := { s.line with secBase := s.line.secBase.filter (fun p => addrRegion p.1 != r) } }

/-- The registers of one block from 0x40 on return to their reset values, but for the kept ones (R451). -/
def State.blockReset (s : State) (r b : Nat) : State :=
  let keep (a : Nat) : Bool :=
    addrRegion a != r || addrBlock a != b || decide (addrOff a < 0x40) || keptReg r b (addrOff a)
  { s with
    regs := s.regs.filter (fun p => keep p.1 || winCut p)
    ctl := { s.ctl with
      cpGood := s.ctl.cpGood.filter (fun p => keep p.1), latches := s.ctl.latches.filter (fun p => p.1 / 4 != r * 64 + b) }
    line := { s.line with secBase := s.line.secBase.filter (fun p => keep p.1) } }

/-! ## What a region loses at the entry to ABSENT -/

/-- Packets an ingress pipeline holds that are counted in flight (R236). -/
def State.pipeCounted (s : State) (i : Nat) : List Pkt :=
  let p := s.pipe i
  p.recircIn ++ p.fifo ++
    p.order.filterMap (fun o => match o with | .parsed k => some k | .running e => some (s.engine i e).pkt) ++
    p.release.filterMap (fun r => match r with | .ready k => some k | .waiting _ => none) ++ p.longLane.map (·.2.pkt) ++
    p.farLane.map (·.pkt) ++ p.toBuf

def State.dropAll (s : State) (l : List Pkt) : State := l.foldl State.dropPkt s

/-- An ingress pipeline and the egress pipeline beside it lose their packets. -/
def State.pipeDown (s : State) (i : Nat) : State :=
  let s := (s.dropAll (s.pipeCounted i)).setPipe i PipeSt.reset
  let s := s.dropAll ((spGet (fun _ => []) s.que.egress i).map (·.pkt))
  { s with que := { s.que with egress := spPut (fun _ => []) s.que.egress i [] } }

/-- A request that came through a firmware window. -/
def LrnReq.isCommand : LrnReq → Bool
  | .learn _ _ _ _ | .move _ _ _ _ => false
  | _ => true

/-- The engine of one array of PIPE `q` stops: its window commands end with ERR 6; a move cut short is kept for the release, as are
the lines still to be rewritten, whose entries stay masked until then (R220, R224). -/
def State.arrDown (s : State) (q : Nat) (e : Bool) : State :=
  let a : ArrayRef := ⟨⟨q % 4, Nat.mod_lt _ (by omega)⟩, e⟩
  let x := s.arr a
  let s := x.cmds.foldl (fun s c => s.winEnd c.1 6 12) s
  let s := match x.move with | some m => s.winEnd m.win 6 12 | none => s
  s.setArr a { AscSt.reset with
    rewrite := x.rewrite
    cut := match x.move with | some m => some m | none => x.cut }

/-- The aging sweep of PIPE `q` ends. -/
def State.sweepsDown (s : State) (q : Nat) : State :=
  { s with fwd := { s.fwd with sweeps := s.fwd.sweeps.filter (fun p => p.1 != q) } }

/-- The learn engine of PIPE `q` stops; a window command in hand ends with ERR 6. -/
def State.lrnDown (s : State) (q : Nat) : State :=
  let s := if (s.lrn q).fifo.any LrnReq.isCommand || (s.lrn q).flush.isSome then s.winEnd (lrnWinA q) 6 0 else s
  s.setLrn q LearnSt.reset

/-- A PIPE region: packets go, running window commands end with ERR 6 (R169, R224). -/
def State.pipesDown (s : State) (q : Nat) : State :=
  let s := (List.range 4).foldl (fun s j => s.pipeDown (4 * q + j)) s
  (((s.lrnDown q).arrDown q false).arrDown q true).sweepsDown q

/-- TBL: maintenance in hand ends. -/
def State.tblDown (s : State) : State :=
  { s with fwd := { s.fwd with rebuild := none, sweeps := s.fwd.sweeps.filter (fun p => p.1 < 4) } }

/-- LINE: frames handed to the MACs go. -/
def State.lineDown (s : State) : State :=
  { s with line := { s.line with ports := [] }, time := { s.time with oneStep := [] } }

/-- SEC: every key slot is zeroised (R355); no request is ever left half done in this model (R374). -/
def State.secDown (s : State) : State :=
  let lo := tabKey 8 0 0xB0 0
  { s with tabs := s.tabs.filter (fun p => decide (p.1 < lo) || decide (lo + 2 ^ 40 ≤ p.1)) }

/-- What a CPU region records beside its threads goes. -/
def State.cpuForget (s : State) (c : Nat) : State :=
  { s with cpu := { s.cpu with
    deadlocked := s.cpu.deadlocked.filter (fun p => p.1 / 4 != c)
    pmu := s.cpu.pmu.filter (fun p => p.1 != c)
    lastRun := s.cpu.lastRun.filter (fun p => p.1 / 32 != c) } }

/-- A CPU region: its threads return to HELD (R385), and NVMe commands handed to its channels complete (R427). -/
def State.cpuDown (s : State) (c : Nat) : State :=
  let s := (((List.range 128).foldl (fun s j => s.thrHold (128 * c + j)) s).slotsReturn c).cpuForget c
  let mine (x : NvmeCmd) : Bool :=
    x.handed && (match s.namespace_ x.link (if x.queue = 0 ∧ x.nsid = 0 then 1 else x.nsid) with
      | some ns => chRegion (nsChannel ns) == c
      | none => false)
  (s.host.nvme.filter mine).foldl (fun s x => s.nvmeEnd x 0 0x22) s

/-- Queue pair `q` is disabled, its ring indices at 0. -/
def State.qpOff (s : State) (q : Nat) : State :=
  (s.setTabN 0xC 2 0xF1 q (natSetField (s.qpEntry q) 192 1 0)).setQp q QpSt.reset

/-- What the links had in hand. -/
def State.hostForget (s : State) : State :=
  { s with
    que := { s.que with hostOut := [] }
    host := { s.host with nvme := [], dirty := [], slices := [], nextSlice := [] } }

/-- HOST: packets on their way to the links and commands in hand go. -/
def State.hostDown (s : State) : State :=
  let s := s.hostForget
  s.mbxEnd (fun _ => true)

/-- QUE0 and QUE1: every packet of the region's queues goes (R295). -/
def State.queDown (s : State) (eq : Bool) : State :=
  let s := (s.buf.queues.filter (fun p => isEq p.1 == eq)).foldl (fun s p => s.discardQueue p.1) s
  if eq then { s.pfcRestart with que := { s.pfcRestart.que with nodes := [] } }
  else { s with que := { s.que with
    grants := [], sinceMet := [], expired := [], highNext := 0, portNext := 0, voqDef := [], lastHint := [], hintNext := [], demands := []
    granted := [], lastSent := [], recNext := [], seeds := [] } }

/-- BUF: pointer caches drain to their rings at a commanded exit and are lost otherwise; every packet and share record goes (R270, R453). -/
def State.bufDown (s : State) (fatal : Bool) : State :=
  let s := s.buf.pools.foldl (fun (s : State) p =>
    if !fatal && s.poolRingUp p.1 then s.poolDrainN p.1 (s.pool p.1).cache.length
    else s.setPool p.1 { s.pool p.1 with cache := [] }) s
  let s := if !fatal && s.spillUp then s.pageDrain s.buf.pageCache.length else s
  let s := s.buf.queues.foldl (fun s p => s.discardQueue p.1) s
  let s := s.dropAll (s.buf.repl.map (·.pkt))
  let s := s.fab.contexts.foldl (fun s p => s.breakContext p.1) s
  { s with
    buf := { BufSt.reset with pools := s.buf.pools }
    fab := { s.fab with relay := [], sources := s.fab.sources.map (fun p => (p.1, { p.2 with held := [], timer := none })) } }

/-- MEMn: writes accepted are finished, but where a REGION_FATAL error skips the drain (R453); pages close, other requests held get ABSENT;
contents, redirect table and trackers stay (R447). -/
def State.memDown (s : State) (n : Nat) (fatal : Bool) : State :=
  let s := (s.stack n).held.foldl (fun (s : State) q =>
    match q.write, hbmPacked s.boot.h48 q.addr.toNat, fatal with
    | some _, some p, false => s.hbmServe n p q
    | _, _, _ => s.hbmAnswer q none) s
  let x := s.stack n
  s.setStack n { x with
    held := [], verify := none, banks := x.banks.map (fun p => (p.1, { p.2 with open_ := none }))
    migration := x.migration.map (fun m => { m with next := 0 }) }

/-- What reset of region `r` takes away. -/
def State.regionLoses (s : State) (r : Nat) (fatal : Bool) : State :=
  match r with
  | 2 => s.lineDown
  | 3 | 4 | 5 | 6 => s.pipesDown (r - 3)
  | 7 => s.tblDown
  | 8 => s.secDown
  | 9 | 10 | 11 => s.cpuDown (r - 9)
  | 12 => s.hostDown
  | 0x11 => s.queDown false
  | 0x12 => s.queDown true
  | 0x13 => s.bufDown fatal
  | 0x14 => s.fabReset 0
  | 0x15 => s.fabReset 1
  | 0x16 | 0x17 | 0x18 | 0x19 => s.memDown (r - 0x16) fatal
  | _ => s

/-- The reset of a region at its entry to ABSENT; window commands cut short show their ERR 6. -/
def State.regionReset (s : State) (r : Nat) (fatal : Bool) : State :=
  let s := (s.regionLoses r fatal).regsReset r
  { s with flt := { s.flt with
    blockFatals := s.flt.blockFatals.filter (fun p => p.1 / 64 != r), blockAuto := s.flt.blockAuto.filter (fun b => b / 64 != r) } }

/-- Power is removed from a region: its memories lose their contents, but for the TIME and HOST partitions (R460). -/
def State.powerOff (s : State) (r : Nat) : State :=
  if r = 1 ∨ r = 12 then s
  else
    let s : State := { s with tabs := s.tabs.filter (fun p => p.1 / 2 ^ 48 / 64 != r) }
    let s : State := { s with regs := s.regs.filter (fun p =>
      addrRegion p.1 != r || addrBlock p.1 == 0x3F || addrOff p.1 == 0x014 || decide (0x16 ≤ r)) }
    if 0x16 ≤ r then
      let h48 := s.boot.h48
      let s : State := { s with hbm := s.hbm.filter (fun p =>
        match (hbmPacked h48 p.1).map (fun q => q / 4096 % 4) with | some k => k + 0x16 != r | none => true) }
      s.setStack (r - 0x16) { s.stack (r - 0x16) with poison := [], banks := [] }
    else if 9 ≤ r ∧ r ≤ 11 then
      { s with cpu := { s.cpu with chans := s.cpu.chans.filter (fun p => chRegion p.1 + 9 != r) } }
    else if r = 0x13 then { s with buf := BufSt.reset }
    else if 3 ≤ r ∧ r ≤ 6 then
      { s with asc := s.asc.filter (fun p => p.1 / 2 + 3 != r) }
    else s

/-! ## Release and return -/

/-- A domain when TIME leaves reset (R47). The entry to Snowplough raises no SNOW_ENTER: TIME's cause registers stand at their reset
(assumption 84). -/
def Domain.restart (x : Domain) : Domain :=
  let x := { x with fifo := [], rejects := 0, rejected := [], exits := 0, stepNext := none, freeNext := false, secArm := none,
                    reported := none, reportPend := none, ppsEdge := [none, none] }
  match x.state with
  | .free => { x with freq := 0, iTerm := 0 }
  | _ => { x with state := .snow, iHold := x.freq, target := 0, exits := 0 }

/-- TIME is released: timestamp queues and loss log are empty, its pins idle (R47, R55). -/
def State.timeUp (s : State) : State :=
  let t := s.time
  { s with time := { t with
    cobalt := t.cobalt.restart, umber := t.umber.restart, tsq := List.replicate 64 [], tsqLatch := [], loss := []
    lossLatch := [], lossOvf := 0, todRx := [], todDue := none, refQualified := false, refTick := none, ppsPulse := [none, none, none, none]
    ppsPin := [false, false, false, false], ppsInTick := [t.ticks, t.ticks], ppsInLost := [false, false]
    ppsInEdge := [none, none] } }

/-- At the release of a PIPE region a move cut short leaves its range and MOVE_ABORTED behind, MOVING cleared (R224). -/
def State.ascAborted (s : State) (a : ArrayRef) : State :=
  match (s.arr a).cut with
  | none => s
  | some m =>
    let s := s.clearMoving a (m.copied ++ m.copied.map (fun i => if m.down then i + m.stride else i - m.stride))
    let s := (s.setArr a { s.arr a with cut := none }).wr (arrA a R.PIPE_ASC_MOVE_RANGE) (BitVec.ofNat 32 (m.first + m.last * 2 ^ 16))
    (s.setFld (arrA a R.PIPE_ASC_STAT) 0 3 4).raise (arrRegion a) (arrBlock a) 4

/-- At the entry to RELEASING: what the region's chapter lays down for its release. -/
def State.regionUp (s : State) (r : Nat) : State :=
  match r with
  | 1 => s.timeUp
  | 3 | 4 | 5 | 6 =>
    let q : Fin 4 := ⟨(r - 3) % 4, Nat.mod_lt _ (by omega)⟩
    (s.ascAborted ⟨q, false⟩).ascAborted ⟨q, true⟩
  | 0x13 => s.ringRebuild
  | 0x16 | 0x17 | 0x18 | 0x19 => s.setRbit (memA (r - 0x16) R.MEM_STAT) 1 false
  | _ => s

/-- HOST after its reset: queue pairs disabled, controllers in CFS, EVENT and its vector on each formed link (R427). -/
def State.hostReady (s : State) : State :=
  let s := (s.tabListed 0xC 2 0xF1).foldl (fun (s : State) p => s.qpOff p.1) s
  let s : State := { s with host := { s.host with qps := [] } }
  (List.range 4).foldl (fun (s : State) l =>
    let x := s.hlink l
    let s := s.setHlink l { x with ccEn := false, rdy := false, cfs := true, event := natSetField x.event 2 1 1, mbxStatus := 0 }
    if s.linkFormed l then s.sendMsix l 0 0 else s) s

/-- At the return to RUN: what waits for the region's ready event goes on; a CPU region's master thread starts (R385, R427). -/
def State.regionReadyFx (s : State) (r : Nat) : State :=
  let s := match r with
    | 9 | 10 | 11 => if s.cpu.entry.any (fun p => p.1 == r - 9) then s.masterStart (r - 9) else s
    | 12 => s.hostReady
    | 0x16 | 0x17 | 0x18 | 0x19 => if s.buf.ringDue then s.ringRebuild else s
    | _ => s
  s.blkRetry

/-! ## The chip reset (R69) -/

/-- Every region, the TIME partition included, returns to its state at reset; what the flash, the fuses, the supplies and pins hold,
and what has left the device, stays. HBM loses its contents (R447). -/
def State.chipClear (s : State) : State :=
  { State.reset with
    flash := s.flash
    out := s.out
    freeCtr := s.freeCtr
    pending := s.pending
    time := { TimeSt.reset with ticks := s.time.ticks }
    boot := { BootSt.reset with
      dev := s.boot.dev, h48 := s.boot.h48, vsb := s.boot.vsb, vsbPresent := s.boot.vsbPresent, vin12 := s.boot.vin12
      rails := s.boot.rails, resetN := s.boot.resetN, secFuses := s.boot.secFuses, keyRevoked := s.boot.keyRevoked }
    flt := { FaultSt.reset with d2dModules := s.flt.d2dModules, d2dCause := s.flt.d2dCause }
    host := { HostSt.reset with links := (List.range 4).foldl (fun l n =>
      spPut (fun _ => LinkSt.reset) l n { LinkSt.reset with perst := (s.hlink n).perst }) [] }
    img := { ImgSt.reset with erasePending := s.img.erasePending, nextSession := s.img.nextSession }
    therm := { ThermSt.reset with tripLow := s.therm.tripLow } }

/-- Where the device stands once a chip reset is done: OFF, RESET, BOOT on the rising edge of PWR_OK, or STANDBY (R68, R69). -/
def BootSt.settled (b : BootSt) : DevState :=
  if !b.vsb || !b.vsbPresent then .off
  else if !b.resetN then .reset
  else if b.vin12 && b.rails then .boot
  else .standby

def State.settle (s : State) : State := { s with boot := { s.boot with dev := s.boot.settled } }

def State.chipReset (s : State) : State := s.chipClear.settle

end Sys2Proof.Machine
end

