-- ==== Sys2Proof/Machine/HostLinks.lean ====
section
/-! DEFINITION. Host links coming and going, function resets, configuration requests, and the update mailbox (spec 16, R404 to R407, R422,
R423, R427, R496). -/

namespace Sys2Proof.Machine

def linkStatA (l : Nat) : Nat := regAddr 0xC 0 (R.HOST_LINK_STAT + 16 * l)
def State.linkIsUp (s : State) (l : Nat) : Bool := s.rbit (linkStatA l) 9

/-- LINK_CHANGE, where HOST is there to show it. -/
def State.linkChange (s : State) (l : Nat) : State := s.raiseIf (!s.rgnAbsent 0xC) 0xC 0 l

/-- Lanes of a link under BIF. -/
def State.linkLanes (s : State) : Nat :=
  match s.fld (regAddr 0xC 0 R.HOST_LINK_CFG) 0 2 with
  | 0 => 32
  | 1 => 16
  | _ => 8

/-- HOST_LINK_UP: rate and width within R405 and HOST_LINK_CFG, FLIT mode always at 64 GT/s. -/
def execHostLinkUp (l : Fin 4) (rate : Fin 6) (width : Fin 64) (flit : Bool) (s : State) : Host.Outcome State Fault Refusal :=
  if s.host.listApplied && s.linkFormed l && !(s.hlink l).perst && s.flt.failsafe.isNone && !s.linkIsUp l &&
      decide (rate.val ≤ s.fld (regAddr 0xC 0 R.HOST_LINK_CFG) 2 3) && [1, 2, 4, 8, 16, 32].contains width.val &&
      decide (width.val ≤ s.linkLanes) && (flit || rate.val != 5) then
    .next ((s.wr (linkStatA l) (BitVec.ofNat 32 (rate.val + width.val * 8 + 512 + (if flit then 1024 else 0)))).linkChange l)
  else .next s

/-! ## Sessions of the mailbox (R423) -/

/-- The open session, where this link's mailbox has it. -/
def State.mbxSession (s : State) (l : Nat) : Option SessionSt :=
  match s.img.session with
  | some x => if !x.svc && x.link == l then some x else none
  | none => none

def State.mbxRaise (s : State) : State := s.raise 0xC 4 0

/-- An open session of the link ends as ABORT does. -/
def State.mbxDrop (s : State) (l : Nat) : State :=
  match s.mbxSession l with
  | some _ => s.sessionEnd.mbxRaise
  | none => s

/-! ## What a reset of a link or a function takes (R427) -/

/-- The queue pairs of a link's slices are disabled. -/
def State.linkQpsOff (s : State) (l : Nat) : State :=
  (s.tabListed 0xC 2 0xF1).foldl (fun (s : State) p =>
    match s.qpSlice p.1 with
    | some n => if slLink (s.sliceEntry n) = l then s.qpOff p.1 else s
    | none => s) s

/-- A link's block controller is reset: its commands go, and their buffers come back. -/
def State.controllerReset (s : State) (l : Nat) : State :=
  let mine := s.host.nvme.filter (fun c => c.link == l)
  let s := mine.foldl (fun (s : State) c =>
    let ns := (s.namespace_ l c.nsid).getD (s.tabN 0xC 3 0xF3 (l * 256))
    s.blkFreeAll (nsSlice ns) c) s
  let s : State := { s with host := { s.host with nvme := s.host.nvme.filter (fun c => c.link != l) } }
  s.setHlink l { s.hlink l with ccEn := false, rdy := false, cfs := false }

/-- A link that is up goes down. -/
def State.linkDown (s : State) (l : Nat) : State :=
  if s.linkIsUp l then ((((s.wr (linkStatA l) 0).linkChange l).linkQpsOff l).controllerReset l).mbxDrop l else s

/-- HOST_LINK_DOWN. -/
def execHostLinkDown (l : Fin 4) (s : State) : Host.Outcome State Fault Refusal := .next (s.linkDown l)

/-- HOST_PERST_ASSERT: the link is held in Detect and counts as down (R496). -/
def execHostPerstAssert (l : Fin 4) (s : State) : Host.Outcome State Fault Refusal :=
  let s := s.linkDown l
  .next (s.setHlink l { s.hlink l with perst := true })

/-- HOST_PERST_RELEASE. -/
def execHostPerstRelease (l : Fin 4) (s : State) : Host.Outcome State Fault Refusal :=
  .next (s.setHlink l { s.hlink l with perst := false })

/-- FUNCTION_LEVEL_RESET, or a hot reset of the link. -/
def execFunctionLevelReset (l : Fin 4) (what : LinkReset) (s : State) : Host.Outcome State Fault Refusal :=
  if s.linkIsUp l then
    match what with
    | .hot => .next (((s.linkQpsOff l).controllerReset l).mbxDrop l)
    | .flr fn =>
      if fn.val = 0 then .next (s.mbxDrop l) else if fn.val = 1 then .next (s.linkQpsOff l) else .next (s.controllerReset l)
  else .next s

/-- CONFIGURATION_REQUEST: retry until the HOST write list is applied (R79, R407). -/
def execConfigurationRequest (l : Fin 4) (fn : Fin 3) (s : State) : Host.Outcome State Fault Refusal :=
  if s.boot.dev = .off ∨ s.boot.dev = .reset ∨ (s.hlink l).perst = true then .next s
  else .next (s.emit (.cfgAnswer l fn (!s.host.listApplied)))

/-! ## Mailbox commands -/

/-- A command completes: its status, MBX_DONE with the vector of EVENT. -/
def State.mbxDone (s : State) (l st : Nat) : State :=
  let x := s.hlink l
  (s.setHlink l { x with mbxStatus := st, event := natSetField x.event 0 1 1 }).sendMsix l 0 0

/-- A mailbox command of a link that is up; DISABLED while HOST_MBX_EN is 0. `f` gives the status and the state. -/
def State.mbxCmd (s : State) (l : Nat) (f : State → Nat × State) : State :=
  if s.hostUp && s.linkIsUp l then
    if s.rbit (regAddr 0xC 4 R.HOST_MBX_EN) 0 then let q := f s; q.2.mbxDone l q.1 else s.mbxDone l 8
  else s

/-- MBX_OPEN. -/
def execMbxOpen (l : Fin 4) (ok : Bool) (s : State) : Host.Outcome State Fault Refusal :=
  .next (s.mbxCmd l (fun s =>
    match s.img.session with
    | some x =>
      if x.svc || x.link != l.val then (5, s)
      else
        let s := (s.sessionOpen false l s.inactiveSlot).mbxRaise
        if ok then (2, s) else (6, s.sessionEnd.mbxRaise)
    | none =>
      let s := (s.sessionOpen false l s.inactiveSlot).mbxRaise
      if ok then (2, s) else (6, s.sessionEnd.mbxRaise)))

/-- MBX_WRITE. -/
def execMbxWrite (l : Fin 4) (block : Fin 131072) (len : Fin 8192) (data : List Byte) (ok : Bool) (s : State) :
    Host.Outcome State Fault Refusal :=
  .next (s.mbxCmd l (fun s =>
    match s.mbxSession l with
    | none => (7, s)
    | some x =>
      if 114687 < block.val then (4, s)
      else if block.val ≠ x.blocks.length ∨ len.val = 0 ∨ 4096 < len.val ∨ x.blocks.any (fun p => decide (p.2 < 4096)) = true then (3, s)
      else if !ok then (6, s.sessionEnd.mbxRaise)
      else
        let s := s.flashWrite (slotA x.slot + 4096 * block.val) ((data ++ List.replicate 4096 0).take len.val)
        (2, { s with img := { s.img with session := some { x with blocks := x.blocks ++ [(block.val, len.val)] } } })))

/-- MBX_CLOSE. -/
def execMbxClose (l : Fin 4) (ok : Bool) (s : State) : Host.Outcome State Fault Refusal :=
  .next (s.mbxCmd l (fun s =>
    match s.mbxSession l with
    | none => (7, s)
    | some x => if ok then (2, (s.sessionClose x).mbxRaise) else (6, s.sessionEnd.mbxRaise)))

/-- MBX_ABORT. -/
def execMbxAbort (l : Fin 4) (s : State) : Host.Outcome State Fault Refusal :=
  .next (s.mbxCmd l (fun s => (2, s.mbxDrop l)))

end Sys2Proof.Machine
end

