-- ==== Sys2Proof/Machine/Image.lean ====
section
/-! DEFINITION. Edmon images: their format and verification (R76, R77), sections by board key, ELF64 firmware (R383), and the identity
record (R75, R354, R468, R469). -/

namespace Sys2Proof.Machine

/-- A directory entry (R77). -/
structure Section where
  type : Nat
  region : Nat
  key : Nat
  offset : Nat
  length : Nat
  deriving DecidableEq, Repr

def imageMagic : Nat := 0x4D44455A
def imgLen (b : List Byte) : Nat := leAt b 8 8
def imgVersion (b : List Byte) : Nat := leAt b 0x10 8
def imgSecVersion (b : List Byte) : Nat := leAt b 0x18 4
def imgSchema (b : List Byte) : Nat := leAt b 0x1C 4
def imgTargets (b : List Byte) : Nat := leAt b 0x20 4
def imgFlags (b : List Byte) : Nat := leAt b 0x24 4
def imgSig (b : List Byte) : Nat := leAt b 0x28 8
def imgSections (b : List Byte) : Nat := leAt b 6 2

/-- The first `n` directory entries. -/
def sectionsN (b : List Byte) : Nat → List Section
  | 0 => []
  | n + 1 =>
    let o := 0x40 + 32 * n
    sectionsN b n ++ [⟨leAt b o 2, leAt b (o + 2) 1, leAt b (o + 4) 4, leAt b (o + 8) 8, leAt b (o + 16) 8⟩]

def sections (b : List Byte) : List Section := sectionsN b (min (imgSections b) 120)

/-- The bytes of a directory entry that R77 fixes at zero are zero. -/
def dirZero (b : List Byte) : Nat → Bool
  | 0 => true
  | n + 1 => dirZero b n && leAt b (0x43 + 32 * n) 1 == 0 && leAt b (0x58 + 32 * n) 8 == 0

/-- No two entries of a type name one region. -/
def distinctRegions (l : List Section) (type : Nat) : Bool :=
  let r := (l.filter (fun x => x.type == type)).map (·.region)
  r.eraseDups.length == r.length

/-- One directory entry by the rules of R77. -/
def sectionOk (b : List Byte) (x : Section) : Bool :=
  1 ≤ x.type && x.type ≤ 7 && x.offset % 64 == 0 && x.offset + x.length ≤ imgLen b &&
  (match x.type with
  | 1 => regionExists x.region
  | 7 => 9 ≤ x.region && x.region ≤ 11
  | _ => x.region == 0xFF)

/-- Header and directory (R76, R77). -/
def headerOk (b : List Byte) (room : Nat) : Bool :=
  let sig := imgSig b
  leAt b 0 4 == imageMagic && leAt b 4 2 == 1 && 1 ≤ imgSections b && imgSections b ≤ 120 &&
  imgLen b ≤ room && 0x40 + 32 * imgSections b ≤ imgLen b && dirZero b (imgSections b) &&
  (sections b).all (sectionOk b) && distinctRegions (sections b) 1 && distinctRegions (sections b) 7 &&
  sig % 4096 == 0 && sig + 1795 ≤ imgLen b && leAt b (sig + 1793) 2 ≤ 1280 && sig + 1795 + leAt b (sig + 1793) 2 ≤ imgLen b &&
  imgSecVersion b ≤ 64

/-- Public key, signature and digest of an image. -/
def imgKey (b : List Byte) : List Byte := (b.drop (imgSig b)).take 1793
def imgSignature (b : List Byte) : List Byte := (b.drop (imgSig b + 1795)).take (leAt b (imgSig b + 1793) 2)
def imgDigest (b : List Byte) : List Byte := shake256 (b.take (imgSig b)) 64

/-- The image-signing key an image is signed by: the first whose digest is that of its public key. -/
def signerOf (keyDigest : List Byte) : Option Nat := (List.range 4).find? (fun k => Config.signerDigest k == keyDigest)

/-- The checks of R76, in full. -/
def State.imageOk (s : State) (b : List Byte) : Bool :=
  headerOk b slotLen && natBit (imgTargets b) (if s.boot.h48 then 1 else 0) &&
  (match signerOf (shake256 (imgKey b) 64) with
  | some k => !natBit s.boot.keyRevoked k
  | none => false) &&
  Config.falconVerify (imgKey b) (imgDigest b) (imgSignature b) && decide (s.boot.secFuses ≤ imgSecVersion b)

/-- The image of a slot as the flash holds it: IMAGE_LEN bytes, at most a slot. -/
def State.slotImage (s : State) (n : Nat) : List Byte := s.flashBytes (slotA n) (min (s.flashLe (slotA n + 8) 8) slotLen)

/-- The image copied from a slot into an area of system memory, if it verifies there. -/
def State.imageLoad (s : State) (n : Nat) (second : Bool) : State × Option (List Byte) :=
  let b := s.slotImage n
  let s := s.hbmStore (Config.imageArea second).toNat b
  (s, if s.imageOk b then some b else none)

/-- Contents of a section. -/
def sectionBytes (b : List Byte) (x : Section) : List Byte := (b.drop x.offset).take x.length

/-- The one section of a type for a region. -/
def sectionFor (b : List Byte) (type region : Nat) : Option (List Byte) :=
  ((sections b).find? (fun x => x.type == type && x.region == region)).map (sectionBytes b)

/-- The section of a type whose KEY matches what the board gave, else the one for any. -/
def sectionKeyed (b : List Byte) (type key : Nat) : Option (List Byte) :=
  match (sections b).find? (fun x => x.type == type && x.key == key) with
  | some x => some (sectionBytes b x)
  | none => ((sections b).find? (fun x => x.type == type && x.key == 0xFFFFFFFF)).map (sectionBytes b)

/-- Measurements and header of the image booted last (R485). -/
def State.measure (s : State) (b : List Byte) (glide : Bool) : State :=
  let d := imgDigest b
  { s with img := { s.img with
    head := b.take 64, m3 := d, m4 := shake256 (imgKey b) 64
    m5 := if glide then shake256 (s.img.m5 ++ 1 :: d) 64 else s.img.m5 } }

/-! ## Firmware (R383) -/

/-- A PT_LOAD segment: physical address, file bytes, bytes in memory. -/
structure Segment where
  addr : Nat
  bytes : List Byte
  size : Nat
  deriving DecidableEq, Repr

/-- PT_LOAD segments among the first `n` program headers. -/
def segmentsN (b : List Byte) : Nat → List Segment
  | 0 => []
  | n + 1 =>
    let o := leAt b 32 8 + leAt b 54 2 * n
    let l := segmentsN b n
    if leAt b o 4 = 1 then l ++ [⟨leAt b (o + 24) 8, (b.drop (leAt b (o + 8) 8)).take (leAt b (o + 32) 8), leAt b (o + 40) 8⟩] else l

/-- An ELF64 file's entry point and segments. -/
def elfOf (b : List Byte) : Option (Nat × List Segment) :=
  if leAt b 0 4 = 0x464C457F ∧ leAt b 4 2 = 0x0102 then some (leAt b 24 8, segmentsN b (leAt b 56 2)) else none

/-- Processor memory (R431). -/
def inProcMem (x : Segment) : Bool := 0x0400000000 ≤ x.addr && x.addr + x.size ≤ 0x0800000000

def segOverlap (x y : Segment) : Bool := decide (x.addr < y.addr + y.size) && decide (y.addr < x.addr + x.size)

/-- The FW files of an image: region index, entry point, segments; none where a file breaks R383 or is no ELF64 file. -/
def fwFiles (b : List Byte) : Option (List (Nat × Nat × List Segment)) :=
  let l := (sections b).filter (fun x => x.type == 7)
  let f := l.filterMap (fun x => (elfOf (sectionBytes b x)).map (fun e => (x.region - 9, e.1, e.2)))
  let apart := f.all (fun x => f.all (fun y => x.1 == y.1 || x.2.2.all (fun a => y.2.2.all (fun c => !segOverlap a c))))
  if f.length = l.length ∧ f.all (fun x => x.2.2.all inProcMem) = true ∧ apart = true then some f else none

/-- Every segment in memory, the rest of it zero. -/
def State.segLoad (s : State) (x : Segment) : State :=
  s.hbmStore x.addr (x.bytes.take x.size ++ List.replicate (x.size - x.bytes.length) 0)

/-- The files are loaded, and the master threads of their regions released; none where a file breaks R383. -/
def State.fwLoad (s : State) (b : List Byte) : Option State :=
  (fwFiles b).map (fun f =>
    let s := f.foldl (fun (s : State) x => x.2.2.foldl State.segLoad s) s
    let s : State := { s with cpu := { s.cpu with entry := f.foldl (fun e x => spIns e x.1 x.2.1) [] } }
    f.foldl (fun (s : State) x => s.masterStart x.1) s)

/-! ## The identity record -/

def identA : Nat := 0x10000
def identMagic : Nat := 0x44495A51

/-- The identity record as the flash holds it. -/
def State.ident (s : State) : List Byte := s.flashBytes identA 0x10000

def identDigest (b : List Byte) : List Byte := (b.drop 0xF000).take 64

/-- Digest, signature and ORDERING of the record (R75, R468). -/
def identValid (b : List Byte) (h48 : Bool) : Bool :=
  leAt b 0 4 == identMagic && leAt b 4 4 == 1 && leAt b 8 4 == (if h48 then 1 else 0) &&
  identDigest b == shake256 (b.take 0xF000) 64 && leAt b 0xF040 2 ≤ 1280 &&
  Config.manufacturingVerify (identDigest b) ((b.drop 0xF042).take (leAt b 0xF040 2))

def secretBytes : List Byte := leBytes 32 Config.deviceSecret.toNat

/-- The device key (R354), as the number its bytes make first byte highest. -/
def deviceKey (digest : List Byte) : Nat := beNat (kmac256 secretBytes digest 32 (ascii "QZ9100 slot wrap"))

/-- The identity private key, where its blob authenticates (R469). -/
def identPriv (b : List Byte) : Option (List Byte) :=
  let key := beNat (kmac256 secretBytes (identDigest b) 32 (ascii "QZ9100 identity key"))
  let w := (b.drop 0x800).take 2333
  gcmDec key (beNat (w.take 12)) ((b.drop 0x80).take 1793) ((w.drop 12).take 2305) ((w.drop 2317).take 16)

/-- The keys of an identity record, by its private key where it opens. -/
def State.identTake (s : State) (b : List Byte) : Option (List Byte) → State
  | some k =>
    { s with sec := { s.sec with dk := some (deviceKey (identDigest b)), idPriv := some k }, boot := { s.boot with identOk := true } }
  | none => (s.bootFail 4).bootRaise 3

/-- The identity record is read: DK and the identity key are derived, or IDENT_BAD is raised and the boot goes on (R75, R469). -/
def State.identLoad (s : State) (readErr : Bool) : State :=
  s.identTake s.ident (if !readErr && identValid s.ident s.boot.h48 then identPriv s.ident else none)

end Sys2Proof.Machine
end

