-- ==== Sys2Proof/Machine/Esp.lean ====
section
/-! DEFINITION. Inline IPsec ESP (spec 14, R366 to R368): the SA tables, an inbound packet taken and recirculated, an outbound packet
built. -/

namespace Sys2Proof.Machine

def espA (off : Nat) : Nat := regAddr 8 1 off
def inKeyCode : Nat := 0xD8
def outKeyCode : Nat := 0xD9
def useEsp : Nat := 3

def State.espTab (s : State) (table i : Nat) : Nat := s.tabN 8 1 table i

/-- Outbound TPL_LEN. -/
def tplLen (e : Nat) : Nat := natField e 8 8

/-- An SA table of block ESP. -/
def espSaTable (table code bytes mask : Nat) (ok : Nat → Bool) : WinTable where
  bytes := bytes
  count := fun _ => 65536
  get := fun s i _ => some (s.espTab table i)
  put := fun s i _ v =>
    let v := v &&& mask
    if ok v then s.saPut 8 1 table code i v (natField v 64 64) useEsp else (4, s)
  clear := fun s i _ => s.saPut 8 1 table code i 0 0 useEsp
  readClear := false

def inSaMask : Nat := 7 + (2 ^ 192 - 1) * 2 ^ 32 + (2 ^ 256 - 1) * 2 ^ 256
def outSaMask : Nat := 0xFF07 + (2 ^ 256 - 1) * 2 ^ 32 + (2 ^ 512 - 1) * 2 ^ 512

def espTable : Nat → Option WinTable
  | 0xD0 => some (espSaTable 0xD0 inKeyCode 64 inSaMask (fun _ => true))
  | 0xD1 => some (espSaTable 0xD1 outKeyCode 128 outSaMask (fun v => decide (20 ≤ tplLen v) && decide (tplLen v ≤ 64)))
  | 0xD2 => some (maskedTable 8 1 0xD2 4 256 1 (fun _ _ _ => true))
  | 0xD3 => some { plainTable 8 1 0xD3 32 131072 (fun _ _ _ => true) with readClear := true }
  | _ => none

/-- Counter `c` of an SA: 0 packets, 1 bytes, 2 drops, 3 authentication failures. -/
def State.espCount (s : State) (sa c n : Nat) : State :=
  if s.ctl.snapFrozen then s
  else s.setTabN 8 1 0xD3 sa (natSetField (s.espTab 0xD3 sa) (64 * c) 64 (natField (s.espTab 0xD3 sa) (64 * c) 64 + n))

/-- A dropped packet: its reason, its SA, ESP_DROP. -/
def State.espDrop (s : State) (reason sa : Nat) : State :=
  ((s.bump (espA (R.SEC_ESP_DROP + 4 * reason))).espCount sa 2 1).raise 8 1 1

/-! ## Inbound (R367) -/

/-- The full sequence number of a received one: with ESN, its high part by the window (RFC 4303). -/
def espSeq (esn : Bool) (highest low : Nat) : Nat :=
  let tl := highest % 2 ^ 32
  let th := highest / 2 ^ 32
  if !esn then low
  else if 255 ≤ tl then (if tl - 255 ≤ low then th else th + 1) * 2 ^ 32 + low
  else (if 2 ^ 32 + tl - 255 ≤ low then th - 1 else th) * 2 ^ 32 + low

/-- The window's bit of a sequence number: bit i of the bitmap is the highest number less i. -/
def espReplay (highest bitmap seq : Nat) : Bool :=
  decide (seq ≤ highest) && (decide (highest - seq ≥ 256) || natBit bitmap (highest - seq))

/-- The window after a packet that verified. -/
def espWindow (e seq : Nat) : Nat :=
  let highest := natField e 160 64
  let bitmap := natField e 256 256
  if highest < seq then natSetField (natSetField e 160 64 seq) 256 256 (if seq - highest < 256 then bitmap * 2 ^ (seq - highest) + 1 else 1)
  else natSetField e 256 256 (bitmap ||| 2 ^ (highest - seq))

/-- Layer 0 of a packet ends where the next marked layer begins. -/
def layerZeroEnd (k : Pkt) : Nat :=
  if hvLayerMarked k 1 && decide (0 < hvLayerOfs k 1) then hvLayerOfs k 1
  else if hvLayerMarked k 2 && decide (0 < hvLayerOfs k 2) then hvLayerOfs k 2
  else hvLayerOfs k 4

/-- The rebuilt frame: layer 0 with the EtherType of the inner packet, then the inner packet; none where the trailer is malformed. -/
def espInner (k : Pkt) (plain : List Byte) : Option (List Byte) :=
  let nh := (plain.getD (plain.length - 1) 0).toNat
  let pad := (plain.getD (plain.length - 2) 0).toNat
  if plain.length < pad + 2 ∨ ¬(nh = 4 ∨ nh = 41) then none
  else
    let l0 := k.bytes.take (layerZeroEnd k)
    some (l0.take (l0.length - 2) ++ beBytes 2 (if nh = 4 then 0x0800 else 0x86DD) ++ plain.take (plain.length - pad - 2))

/-- What the engine does with a packet of pipeline `i`. -/
def State.espInbound (s : State) (i : Nat) (k : Pkt) : State :=
  let ofs := hvLayerOfs k 4
  let b := k.bytes.drop ofs
  let spi := beNat (b.take 4)
  let n := spi % 65536
  let e := s.espTab 0xD0 n
  if !hvLayerMarked k 4 || ofs == 255 || decide (b.length < 32) then (s.espDrop 3 n).dropPkt k
  else if !natBit e 0 || natField e 32 32 != spi then (s.espDrop 0 n).dropPkt k
  else if (keyRef (natField e 64 64)).isNone then (s.keyRefBad.espDrop 0 n).dropPkt k
  else
    let seq := espSeq (natBit e 1) (natField e 160 64) (beNat ((b.drop 4).take 4))
    if natBit e 2 && espReplay (natField e 160 64) (natField e 256 256) seq then (s.espDrop 1 n).dropPkt k
    else
      let salt := (List.range 4).map (fun j => entByteAt e (16 + j))
      let aad := b.take 4 ++ beBytes (if natBit e 1 then 8 else 4) seq
      let data := (b.drop 16).take (b.length - 32)
      match gcmDec (s.espTab inKeyCode n) (beNat (salt ++ (b.drop 8).take 8)) aad data (b.drop (b.length - 16)) with
      | none => ((s.espDrop 2 n).espCount n 3 1).dropPkt k
      | some plain =>
        let s := s.setTabN 8 1 0xD0 n (if natBit e 2 then espWindow e seq else natSetField e 160 64 (max seq (natField e 160 64)))
        let s := (s.espCount n 0 1).espCount n 1 k.bytes.length
        match espInner k plain with
        | none => (s.espDrop 3 n).dropPkt k
        | some f =>
          let p := s.pipe i
          let q : Pkt := { Pkt.empty with bytes := f, port := 69, kind := 3, odd := k.odd, accepted := k.accepted, proc := k.proc }
          s.setPipe i { p with recircIn := p.recircIn ++ [q] }

/-- ESP_INBOUND: the oldest decided packet of a pipeline, when its CLASS has IN_EN = 1. -/
def execEspInbound (i : Fin 16) (s : State) : Host.Outcome State Fault Refusal :=
  match (s.pipe i).toBuf with
  | [] => .next s
  | k :: r =>
    if !s.espTakes k || s.behindPair i k then .next s
    else
      let s := s.setPipe i { s.pipe i with toBuf := r }
      if s.meets 8 1 then .next ((s.absentDrop (pipeRegion i)).dropPkt k)
      else if k.bad then .next ((s.espDrop 2 (natField (beNat ((k.bytes.drop (hvLayerOfs k 4)).take 4)) 0 16)).dropPkt k)
      else .next (s.espInbound i k)

/-! ## Outbound (R368) -/

/-- Padding of ESP: 1, 2, 3, … -/
def espPad (n : Nat) : List Byte := (List.range n).map (fun j => BitVec.ofNat 8 (j + 1))

/-- The outer length fields of the template copy, for the IP header that ends where the ESP header begins. -/
def espOuter (v6 : Bool) (tpl : List Byte) (total : Nat) : List Byte :=
  if v6 then
    let o := tpl.length - 40
    tpl.take (o + 4) ++ beBytes 2 (total - o - 40) ++ tpl.drop (o + 6)
  else
    let o := tpl.length - 20
    let t := tpl.take (o + 2) ++ beBytes 2 (total - o) ++ (tpl.drop (o + 4)).take 6 ++ [0, 0] ++ tpl.drop (o + 12)
    t.take (o + 10) ++ beBytes 2 (inetChecksum (t.drop o)) ++ t.drop (o + 12)

/-- The encrypted packet of an outbound SA; `l2` is the offset of layer 2 in the rewritten frame. -/
def espBuild (e key seq : Nat) (f : List Byte) (l2 : Nat) : List Byte :=
  let inner := f.drop l2
  let pad := (4 - (inner.length + 2) % 4) % 4
  let nh : Nat := if ((inner.getD 0 0).toNat / 16) = 6 then 41 else 4
  let plain := inner ++ espPad pad ++ [BitVec.ofNat 8 pad, BitVec.ofNat 8 nh]
  let spi := beBytes 4 (natField e 32 32)
  let salt := (List.range 4).map (fun j => entByteAt e (16 + j))
  let c := gcmEnc key (beNat (salt ++ beBytes 8 seq)) (spi ++ beBytes (if natBit e 1 then 8 else 4) seq) plain
  let tpl := entBytes e 64 (tplLen e)
  let rest := spi ++ beBytes 4 seq ++ beBytes 8 seq ++ c.1 ++ c.2
  espOuter (natBit e 2) tpl (tpl.length + rest.length) ++ rest

/-- Index of the outbound SA that a REWRITE index selects. -/
def State.espOut (s : State) (rewrite : Nat) : Option Nat :=
  let base := s.fld (espA R.SEC_ESP_RW_BASE) 0 20
  if base ≤ rewrite ∧ rewrite ≤ base + 65535 ∧ natBit (s.espTab 0xD1 (rewrite - base)) 0 = true then some (rewrite - base) else none

/-- A rewritten frame for a port is encrypted with outbound SA `n`; none where it is dropped. -/
def State.espOutbound (s : State) (n port : Nat) (f : List Byte) (l2 : Nat) : Option (List Byte) × State :=
  let e := s.espTab 0xD1 n
  let sa := 65536 + n
  let seq := natField e 160 64
  if (keyRef (natField e 64 64)).isNone then (none, s.keyRefBad.espDrop 0 sa)
  else if (if natBit e 1 then 2 ^ 64 - 1 else 2 ^ 32 - 1) ≤ seq then (none, s.espDrop 5 sa)
  else
    let out := espBuild e (s.espTab outKeyCode n) seq f l2
    let line := max 60 out.length + 4 + (if port < 64 then s.msExpansion port out else 0)
    if port < 64 ∧ s.fld (portA port R.LINE_PORT_MAXLEN) 0 15 < line then (none, s.espDrop 4 sa)
    else
      let s := s.setTabN 8 1 0xD1 n (natSetField e 160 64 (seq + 1))
      let s := if seq ≤ natField e 224 64 ∧ natField e 224 64 < seq + 1 then s.pnSoft 8 1 0xD1 n else s
      (some out, (s.espCount sa 0 1).espCount sa 1 out.length)

end Sys2Proof.Machine
end

