-- ==== Sys2Proof/Machine/Rewrite.lean ====
section
/-! DEFINITION. The egress pipelines: the egress associative search (R209, R212), the header rewrite (R192 to R194), PTP event frames
(R52, R54), and the hand-over to MAC, HOST, processor port or recirculation. -/

namespace Sys2Proof.Machine

/-! ## The egress search -/

/-- Key of the egress search: the metadata when META = 1, then the extractions. -/
def State.egressKey (s : State) (prof p : Nat) (k : Pkt) : List Byte :=
  let own := s.deviceId * 128
  let src := (if k.srcDev = 0 then own else (k.srcDev - 1) * 128) + k.port
  let meta_ := [BitVec.ofNat 8 p, BitVec.ofNat 8 (k.tc + (if k.odd then 128 else 0))] ++ beBytes 3 (k.rewrite % 2 ^ 20) ++
    beBytes 3 (src % 2 ^ 17)
  let one (j : Nat) : List Byte :=
    let b0 := natField prof (64 + 24 * j) 8
    let ofs := natField prof (72 + 24 * j) 8 + (if natBit b0 3 then 0 else hvLayerOfs k (b0 % 8))
    if natBit b0 4 then (winBytes k ofs (natField prof (80 + 24 * j) 4 + 1)).1 else []
  (if natBit prof 5 then meta_ else []) ++ (List.range 8).flatMap one

/-- What the egress search decides. -/
inductive EgOut where
  | go (rewrite : Nat)
  | drop
  | processor (channel : Nat)
  deriving DecidableEq, Repr

/-- The search of a packet for port `p` in egress pipeline `i`; KIND REWRITE is ignored for ports 64 to 68 (R415). -/
def State.egressSearch (s : State) (i p : Nat) (k : Pkt) : EgOut × State :=
  let a : ArrayRef := ⟨⟨i / 4 % 4, Nat.mod_lt _ (by decide)⟩, true⟩
  let prof := s.arrTab a 0x60 (pktClass k)
  let part := s.part a (natField prof 1 4)
  if !natBit prof 0 || !partEn part then (.go k.rewrite, s)
  else
    let r := s.ascPacket a (i % 4) part (leNat (s.egressKey prof p k)) k.ver
    match r.1 with
    | .hit w =>
      let e := r.2.ascWords a w
      let s := if awStatsEn e then r.2.statCount k (awStatIdx e) else r.2
      (match awKind e with
        | 1 => .drop
        | 2 => .processor (awIndex e)
        | 3 => .go (if p < 64 ∨ p = 69 then awIndex e else k.rewrite)
        | _ => .go k.rewrite, if awKind e = 1 then s.bump (arrA a R.PIPE_ASC_EGR_DROP) else s)
    | .miss => (.go k.rewrite, r.2)
    | .abandon =>
      (match natField part 30 2 with
        | 1 => .drop
        | 2 => .processor (natField part 32 16)
        | _ => .go k.rewrite, r.2)

/-! ## Edits -/

/-- A frame being edited: its bytes, and how far a byte of the original has moved. -/
structure Edit where
  b : List Byte
  shift : Int
  deriving DecidableEq, Repr

def Edit.drop_ (e : Edit) (n : Nat) : Edit := ⟨e.b.drop n, e.shift - (n : Int)⟩
def Edit.push (e : Edit) (l : List Byte) : Edit := ⟨l ++ e.b, e.shift + (l.length : Int)⟩

/-- Bytes replaced from an offset. -/
def putAt (b : List Byte) (o : Nat) (l : List Byte) : List Byte :=
  b.take o ++ l.take (b.length - o) ++ b.drop (o + l.length)

/-- A 16-bit word of a frame. -/
def word16 (b : List Byte) (o : Nat) : Nat := beNat ((b.drop o).take 2)

/-- A 16-bit word of an IPv4 header at `ip` changes: the header checksum follows (RFC 1624). -/
def ip4Put (b : List Byte) (ip o v : Nat) : List Byte :=
  let old := word16 b (ip + o)
  putAt (putAt b (ip + o) (beBytes 2 v)) (ip + 10) (beBytes 2 (rfc1624 (word16 b (ip + 10)) old v))

/-- The IP header that IP_LOC names: its offset, and whether it is IPv6 (R162). -/
def ipAt (k : Pkt) : Option (Nat × Bool) :=
  match k.ipLoc with
  | 1 => some (hvLayerOfs k 2, false)
  | 2 => some (hvLayerOfs k 2, true)
  | 3 => some (hvLayerOfs k 6, false)
  | 4 => some (hvLayerOfs k 6, true)
  | _ => none

/-- The CE mark (R279): the ECN field becomes 0b11. -/
def ceMark (k : Pkt) : List Byte :=
  match ipAt k with
  | some (o, false) => if k.ce then ip4Put k.bytes o 0 (word16 k.bytes o ||| 3) else k.bytes
  | some (o, true) => if k.ce then putAt k.bytes (o + 1) [k.bytes.getD (o + 1) 0 ||| 0x30] else k.bytes
  | none => k.bytes

/-- How an edit ends. -/
inductive EditEnd where
  | done (e : Edit)
  | ttl
  | bad
  deriving DecidableEq, Repr

/-- TTL_DEC: an expired header ends the edit. -/
def ttlStep (k : Pkt) (dec : Bool) (e : Edit) : EditEnd :=
  if !dec then .done e
  else match ipAt k with
    | none => .done e
    | some (o, v6) =>
      let t := (e.b.getD (o + (if v6 then 7 else 8)) 0).toNat
      if t ≤ 1 then .ttl
      else if v6 then .done { e with b := putAt e.b (o + 7) [BitVec.ofNat 8 (t - 1)] }
      else .done { e with b := ip4Put e.b o 8 (word16 e.b (o + 8) - 256) }

/-- STRIP: every byte before the layer. -/
def stripStep (k : Pkt) (l : Nat) (e : Edit) : EditEnd :=
  if l = 0 then .done e
  else if !hvLayerMarked k l || hvLayerOfs k l == 255 then .bad
  else .done (e.drop_ (hvLayerOfs k l))

/-- A label stack entry. -/
def mplsWord (label tc : Nat) (bottom : Bool) (ttl : Nat) : List Byte :=
  beBytes 4 (label * 2 ^ 12 + tc * 2 ^ 9 + (if bottom then 256 else 0) + ttl)

/-- Offset, in the packet before the edit, of the front that STRIP leaves. -/
def stripFront (k : Pkt) (l : Nat) : Nat := if l = 0 then 0 else hvLayerOfs k l

/-- The MPLS step; a label stands at the front when the label stack is marked at the front that STRIP leaves (assumption 20). -/
def mplsStep (k : Pkt) (prof label : Nat) (e : Edit) : EditEnd :=
  let atLabel := hvLayerMarked k 1 && hvLayerOfs k 1 == stripFront k (natField prof 0 3) && decide (4 ≤ e.b.length)
  let w := beNat (e.b.take 4)
  match natField prof 8 2 with
  | 1 =>
    if !atLabel then .bad else if w % 256 ≤ 1 then .ttl
    else .done { e with b := beBytes 4 (label * 2 ^ 12 + w % 2 ^ 12 - 1) ++ e.b.drop 4 }
  | 2 => .done (e.push (mplsWord label k.tc (!atLabel) (natField prof 32 8)))
  | 3 => if !atLabel then .bad else if w % 256 ≤ 1 then .ttl else .done (e.drop_ 4)
  | _ => .done e

/-- The length fields that an encapsulation entry asks for (R194). -/
def encapFix (enc : Nat) (b : List Byte) : List Byte :=
  let f := natField enc 456 8
  let ip := natField enc 464 8
  let udp := natField enc 472 8
  let b := if natBit f 2 then putAt (putAt b (udp + 4) (beBytes 2 (b.length - udp))) (udp + 6) [0, 0] else b
  let b := if natBit f 1 then putAt b (ip + 4) (beBytes 2 (b.length - ip)) else b
  if natBit f 0 then
    let b := putAt (putAt b (ip + 2) (beBytes 2 (b.length - ip))) (ip + 10) [0, 0]
    putAt b (ip + 10) (beBytes 2 (inetChecksum ((b.drop ip).take (4 * ((b.getD ip 0).toNat % 16)))))
  else b

def encapStep (on : Bool) (enc : Nat) (e : Edit) : Edit :=
  if on then
    let t := e.push (entBytes enc 0 (natField enc 448 8))
    { t with b := encapFix enc t.b }
  else e

/-- The link header of L2 = 1. -/
def linkHeader (rw_ prof : Nat) (smac : List Byte) : List Byte :=
  entBytes rw_ 0 6 ++ smac ++
  (if natBit rw_ 79 then beBytes 2 0x8100 ++ beBytes 2 (natField rw_ 76 3 * 2 ^ 13 + natField rw_ 64 12) else []) ++
  entBytes prof 16 2

def EditEnd.andThen (x : EditEnd) (f : Edit → EditEnd) : EditEnd :=
  match x with
  | .done e => f e
  | y => y

def State.rwTab (s : State) (table i : Nat) : Nat := s.tabN 7 8 table i

/-- The whole edit of a packet by rewrite index `r` (R193). -/
def State.edit (s : State) (k : Pkt) (r : Nat) : EditEnd :=
  let rw_ := s.rwTab 0x24 r
  let prof := s.rwTab 0x27 (natField rw_ 56 8)
  (ttlStep k (natBit prof 10) ⟨ceMark k, 0⟩).andThen (fun e => (stripStep k (natField prof 0 3) e).andThen (fun e =>
    (mplsStep k prof (natField rw_ 80 20) e).andThen (fun e =>
      let e := encapStep (natBit prof 11) (s.rwTab 0x25 (natField rw_ 112 12)) e
      .done (if natField prof 12 2 = 1 then e.push (linkHeader rw_ prof (entBytes (s.rwTab 0x26 (natField rw_ 48 8)) 0 6)) else e))))

/-! ## Hand-over -/

/-- A packet on its way to the processor port: the egress pipeline it comes from, its channel. -/
def State.toProc (s : State) (i : Nat) (k : Pkt) (channel : Nat) : State :=
  { s with que := { s.que with procOut := s.que.procOut ++ [⟨{ k with dest := .processor channel }, i⟩] } }

/-- A packet that cannot be edited: unchanged to the profile's channel, or dropped. -/
def State.rwExc (s : State) (i : Nat) (k : Pkt) (prof cause : Nat) (counter : Nat) : State :=
  let s := (s.bump (regAddr 7 8 counter)).raise 7 8 cause
  if natBit prof 40 then s.toProc i k (natField prof 48 16) else s.dropPkt k

/-- Offset of the PTP header: after UDP where layer 3 is marked, else at layer 2, else after an untagged link header. -/
def ptpAt (k : Pkt) : Nat :=
  if hvLayerMarked k 3 then hvLayerOfs k 3 + 8 else if hvLayerMarked k 2 then hvLayerOfs k 2 else 14

/-- The message tag of R54. -/
def ptpTag (b : List Byte) (o : Nat) : Nat :=
  (b.getD o 0).toNat % 16 * 2 ^ 28 + (b.getD (o + 4) 0).toNat * 2 ^ 20 + word16 b (o + 30)

/-- A one-step message: Sync or Pdelay_Resp without the two-step flag. -/
def ptpOneStep (b : List Byte) (o : Nat) : Bool :=
  let t := (b.getD o 0).toNat % 16
  (t == 0 || t == 3) && !natBit (b.getD (o + 6) 0).toNat 1

/-- The origin timestamp and the correction field of a departure instant. -/
def ptpStamp (b : List Byte) (o td : Nat) : List Byte :=
  putAt (putAt b (o + 34) (beBytes 6 (tvSec td) ++ beBytes 4 (tvNs td))) (o + 8) (beBytes 8 (tvFrac td / 65536))

/-- A frame handed to a line port's MAC: absent, not UP, one-step held, or queued to send. `shift`: how far the original's bytes moved. -/
def State.toMac (s : State) (i p : Nat) (k : Pkt) (f : List Byte) (shift : Int) : State :=
  if s.rgnDown 2 then (s.absentDrop (pipeRegion i)).dropPkt k
  else
    let s := s.dropPkt k
    if s.portState p ≠ .up then (if s.portState p = .sleep then s else s.portCount p 62 1)
    else
      let o := ((ptpAt k : Nat) : Int) + shift
      let ptp := hvFlag k 7 && decide (0 ≤ o) && k.tag.isNone
      if ptp && ptpOneStep f o.toNat then
        let entry := s.wt + s.fld (A.tsu (R.TIME_PORT_LEAD + 32 * p)) 0 14 * lsbNs
        let td := entry + Config.launchWait p entry
        { s with time := { s.time with oneStep := s.time.oneStep ++ [⟨p, td, ptpStamp f o.toNat td, k.bad⟩] } }
      else
        let tag := if ptp then some (ptpTag f o.toNat) else k.tag
        s.setPort p { s.port p with txq := (s.port p).txq ++ [{ k with bytes := f, tag := tag }] }

/-- A packet leaves egress pipeline `i` for local port `p`, edited. -/
def State.handOver (s : State) (i p : Nat) (k : Pkt) (f : List Byte) (shift : Int) : State :=
  if p < 64 then s.toMac i p k f shift
  else if p ≤ 67 then
    (if s.rgnDown 0xC then (s.absentDrop (pipeRegion i)).dropPkt k
     else
      let s := s.dropPkt k
      { s with que := { s.que with hostOut := s.que.hostOut ++ [⟨{ k with bytes := f }, p⟩] } })
  else if p = 68 then s.toProc i { k with bytes := f } (match k.dest with | .processor c => c | _ => 0)
  else
    let x := s.pipe i
    let q : Pkt := { Pkt.empty with bytes := f, port := 69, kind := 3, odd := k.odd, accepted := k.accepted, bad := k.bad, proc := k.proc }
    s.setPipe i { x with recircIn := x.recircIn ++ [q] }

/-- ESP encryption after the edit, where the REWRITE index asks for it, then the hand-over. -/
def State.sendEdited (s : State) (i p r : Nat) (k : Pkt) (e : Edit) : State :=
  match (if p < 64 ∨ p = 69 then s.espOut r else none) with
  | none => s.handOver i p k e.b e.shift
  | some n =>
    if s.meets 8 1 then (s.absentDrop (pipeRegion i)).dropPkt k
    else
      let l2 := (((hvLayerOfs k 2 : Nat) : Int) + e.shift).toNat
      match s.espOutbound n p e.b l2 with
      | (some f, t) => t.handOver i p { k with hv := [] } f 0
      | (none, t) => t.dropPkt k

/-- The edit of a packet by rewrite index `r`. -/
def State.rewriteSend (s : State) (i p r : Nat) (k : Pkt) : State :=
  if r = 0 ∨ ¬(p < 64 ∨ p = 69) then s.sendEdited i p r k ⟨ceMark k, 0⟩
  else if s.meets 7 8 then (s.absentDrop (pipeRegion i)).dropPkt k
  else
    let prof := s.rwTab 0x27 (natField (s.rwTab 0x24 r) 56 8)
    match s.edit k r with
    | .done e => s.sendEdited i p r k e
    | .ttl => s.rwExc i k prof 0 R.TBL_RW_TTL
    | .bad => s.rwExc i k prof 1 R.TBL_RW_EXC

/-- EGRESS_REWRITE: the oldest packet of an egress pipeline. -/
def execEgressRewrite (i : Fin 16) (s : State) : Host.Outcome State Fault Refusal :=
  match spGet (fun _ => []) s.que.egress i with
  | [] => .next s
  | x :: r =>
    if !s.rgnRuns (pipeRegion i) || s.egressBehind i x then .next s
    else
      let s := { s with que := { s.que with egress := spPut (fun _ => []) s.que.egress i r } }
      let m := s.meetPkt x.pkt
      let k := m.1
      let s := m.2
      if s.meets (pipeRegion i) 11 && natBit (s.tabN (pipeRegion i) 11 0x60 (pktClass k)) 0 then
        .next ((s.absentDrop (pipeRegion i)).dropPkt k)
      else
        match s.egressSearch i x.port k with
        | (.drop, s) => .next (s.dropPkt k)
        | (.processor c, s) => .next (s.toProc i k c)
        | (.go w, s) => .next (s.rewriteSend i x.port w k)

end Sys2Proof.Machine
end

