-- ==== Sys2Proof/Machine/Windows.lean ====
section
/-! DEFINITION. Every table access window of the device: the blocks that have windows, the table behind each TABLE code, the write of
WIN_CTRL with any CMD, and the commands a Glide has queued (R97, R98, R481). -/

namespace Sys2Proof.Machine

/-- Windows of a block (R97). -/
def winCount (region block : Nat) : Nat :=
  match region with
  | 2 => if 0x10 ≤ block ∧ block ≤ 0x17 then 1 else 0
  | 3 | 4 | 5 | 6 => if block < 4 ∨ block = 8 ∨ block = 9 then 1 else if block = 10 ∨ block = 11 then 2 else 0
  | 7 => if block = 1 ∨ (3 ≤ block ∧ block ≤ 6) ∨ block = 8 then 1 else 0
  | 8 => if block ≤ 2 then 1 else 0
  | 9 | 10 | 11 => if block < 4 ∨ block = 5 then 1 else 0
  | 12 => if 1 ≤ block ∧ block ≤ 3 then 1 else 0
  | 0x11 => if block ≤ 2 then 1 else 0
  | 0x12 => if block ≤ 3 then 1 else 0
  | 0x13 => if block = 2 ∨ block = 3 then 1 else 0
  | 0x14 => if block ≤ 1 then 1 else 0
  | 0x15 => if block = 0 ∨ block = 2 then 1 else 0
  | 0x16 | 0x17 | 0x18 | 0x19 => if block = 1 ∨ block = 2 then 1 else 0
  | _ => 0

/-- The array of a PIPE region's block 0x0A or 0x0B. -/
def arrayOf (region block : Nat) : ArrayRef := ⟨⟨(region - 3) % 4, Nat.mod_lt _ (by omega)⟩, block == 11⟩

/-- TABLE 0xE8 of a cluster block: counter e of local thread j at index 32 × j + e (R399). -/
def pmuTable (region block : Nat) : WinTable :=
  readOnlyTable 8 1024 (fun s i => s.pmuRead ((region - 9) * 128 + block * 32 + i / 32) (i % 32))

/-- The table behind a TABLE code of a block's windows, if READ, WRITE and CLEAR go to it as R97 lays down. -/
def State.tableOf (s : State) (region block table : Nat) : Option WinTable :=
  match region with
  | 2 => msecTable (block - 0x10) table
  | 3 | 4 | 5 | 6 =>
    if block < 4 then ipTable ((region - 3) * 4 + block) table
    else if block = 8 then indTable region table
    else if block = 9 then (if table = 0x50 then some (lrnTable (region - 3)) else none)
    else ascTable (arrayOf region block) table
  | 7 =>
    match block with
    | 1 => if table = 0x10 then some descTable else if table = 0x11 then some bitmapTable else none
    | 3 => if table < 64 ∧ emLocations (s.emCfg table) ≠ 0 then some (emTable table (s.emCfg table)) else none
    | 4 => dirTable table
    | 5 => nextHopTable table
    | 6 => if table = 0x40 then some statTable else none
    | 8 => rwTable table
    | _ => none
  | 8 => if block = 1 then espTable table else if block = 2 ∧ table = 0xB8 then some ringTable else none
  | 9 | 10 | 11 =>
    if block = 5 then cpuChnTable (region - 9) table else if table = 0xE8 then some (pmuTable region block) else none
  | 12 =>
    match block with
    | 1 => if table = 0xF0 then some sliceTable else if table = 0xF2 then some dlogTable else none
    | 2 => if table = 0xF1 then some qpTable else if table = 0xF5 then some qpCounterTable else none
    | 3 => blkTable table
    | _ => none
  | 0x11 => if block = 1 then alwTable table else queTable 0x11 block table
  | 0x12 => queTable 0x12 block table
  | 0x13 => if block = 2 then replTable table
    else if table = 0x70 then some poolTable else if table = 0x71 then some poolCounterTable else none
  | 0x14 | 0x15 => fabTable region block table
  | 0x16 | 0x17 | 0x18 | 0x19 => memTable (region - 0x16) block table
  | _ => none

/-- TABLE codes that only commands of their own serve: routes, key slots. -/
def ownTable (region block table : Nat) : Bool :=
  (region == 7 && block == 1 && table == 0x12) || (region == 8 && block == 0 && table == 0xB0)

/-- READ, WRITE, CLEAR or READ_CLEAR through a window. -/
def State.winPlain (s : State) (region block w v : Nat) : State :=
  let a := winA region block w
  let table := natField v 4 8
  match s.tableOf region block table with
  | none => s.winCmd a v 0 (fun s => (if ownTable region block table then 3 else 2, s))
  | some t =>
    let c := v % 16
    s.winCmd a v t.bytes (fun s => if c = 1 ∨ c = 2 ∨ c = 3 ∨ c = 8 then s.winRun a c t else (3, s))

/-- The command of TBL block EM that a CMD names, beyond R97's. -/
def emCommand (c : Nat) : Option (State → Nat → Nat × State) :=
  match c with
  | 8 => some State.emInsert
  | 9 => some State.emDelete
  | 10 => some State.emSearch
  | 11 => some State.emUpdate
  | _ => none

def lpmCommand (c : Nat) : Option (Nat × (State → Nat × State)) :=
  match c with
  | 8 => some (0x12, State.lpmInsert)
  | 9 => some (0x12, State.lpmDelete)
  | 10 => some (0x12, State.lpmSearch)
  | 11 => some (0x12, State.lpmUpdate)
  | 12 => some (0x10, State.lpmRebuild)
  | _ => none

def lrnCommand (r c : Nat) : Option (State → LrnReq) :=
  match c with
  | 8 => some (fun s => .insert (s.lrnWinEntry r))
  | 9 => some (fun s => .delete (s.lrnWinEntry r))
  | 10 => some (fun s => .search (s.lrnWinEntry r))
  | 12 => some (fun s => .flush (s.winWord (lrnWinA r) 0) (natField (s.winWord (lrnWinA r) 1) 0 12)
      (natField (s.winWord (lrnWinA r) 2) 0 17))
  | _ => none

def keyCommand (m : Master) (c : Nat) : Option (State → Nat → Nat × State) :=
  match c with
  | 1 => some State.keyReadCmd
  | 8 => some (fun s i => s.keyLoadPlain m i)
  | 9 => some State.keyLoadWrapped
  | 10 => some (fun s i => s.keyExportCmd m i)
  | 11 => some State.keyZeroise
  | _ => none

/-- A write of WIN_CTRL, whatever its CMD; CMD 0 starts no command and stores the other fields. -/
def State.winCtrl (s : State) (m : Master) (region block w v : Nat) : State :=
  let a := winA region block w
  let c := v % 16
  let table := natField v 4 8
  let plain := s.winPlain region block w v
  if c = 0 then (if s.rbit (a + 12) 0 then s.setFld (a + 12) 1 3 5 else s.wr a (BitVec.ofNat 32 (natField v 4 11 * 16)))
  else if region = 7 ∧ block = 3 then
    match emCommand c with
    | some f => s.emCmd v f
    | none => plain
  else if region = 7 ∧ block = 1 then
    match lpmCommand c with
    | some f => s.lpmCmd v f.1 f.2
    | none => plain
  else if 3 ≤ region ∧ region ≤ 6 ∧ block = 9 then
    match lrnCommand (region - 3) c with
    | some f => s.lrnCmd (region - 3) v f
    | none => plain
  else if 3 ≤ region ∧ region ≤ 6 ∧ (block = 10 ∨ block = 11) ∧ (table = 0x62 ∨ 8 ≤ c) then
    let x := arrayOf region block
    match ascCommand c with
    | some f => s.ascCmd ⟨x, ⟨w % 2, Nat.mod_lt _ (by omega)⟩⟩ v f
    | none => if c = 8 then s.ascInsertAt x a v else if c = 12 then s.ascMoveCmd x a v else s.winCmd a v 12 (fun s => (3, s))
  else if region = 0x13 ∧ block = 3 ∧ c = 8 ∧ table = 0x70 then s.poolInitCmd v
  else if region = 8 ∧ block = 0 then
    match keyCommand m c with
    | some f => s.keyCmd v f
    | none => plain
  else plain

/-- A write of WIN_INDEX or WIN_DATA: ignored with ERR 5 while the window is busy (R97). WIN_STAT and the gaps take no write. -/
def State.winWordWrite (s : State) (a off : Nat) (v : Word) : State :=
  if off = 4 ∨ off = 8 ∨ (0x80 ≤ off ∧ off < 0x100) then
    (if s.rbit (a + 12) 0 then s.setFld (a + 12) 1 3 5
     else s.wr (a + off) (if off = 8 then v &&& 0xFF else v))
  else s

/-! ## The queue of a Glide -/

/-- The state of an outcome that goes on. -/
def afterStep (s : State) : Host.Outcome State Fault Refusal → State
  | .next t => t
  | _ => s

/-- A window command that an engine carries out runs to its end: the learn engine, or the block mover. -/
def State.winSettle (s : State) (a : Nat) : State :=
  let r := addrRegion a
  if 3 ≤ r ∧ r ≤ 6 then
    let q : Fin 4 := ⟨(r - 3) % 4, Nat.mod_lt _ (by omega)⟩
    if addrBlock a = 9 then (List.range (s.lrn q).fifo.length).foldl (fun s _ => afterStep s (execLearnEngine q s)) s
    else
      let x := arrayOf r (addrBlock a)
      let s := s.ascDrain x
      match (s.arr x).move with
      | some m => (List.range (m.left + 1)).foldl (fun s _ =>
          match (s.arr x).move with
          | some m => s.moverSlot x m
          | none => s) s
      | none => s
  else s

/-- Addresses of a window's registers. -/
def winAddrs (a : Nat) : List Nat := [a, a + 4, a + 8, a + 12] ++ (List.range 32).map (fun i => a + 0x80 + 4 * i)

/-- One queued command runs as it was recorded; the window's own registers stand as they were. A refusal is counted. -/
def State.queuedRun (s : State) (q : QueuedCmd) : State :=
  let addrs := winAddrs q.win ++ stageAddrs q.win
  let saved := addrs.map (fun x => s.rd x)
  let r := addrRegion q.win
  let b := addrBlock q.win
  let gone := s.rgnAbsent r || s.blkHeld r b
  let s1 := (((s.setWinIndex q.win q.index).setWinData q.win 32 q.data).setFld (q.win + 12) 0 4 0)
  let s1 := ((stageAddrs q.win).zip q.stage).foldl (fun s p => s.wr p.1 (BitVec.ofNat 32 p.2)) s1
  let s1 := if gone then s1.setFld (q.win + 12) 1 3 6
    else (s1.winCtrl .jtag r b (natField q.win 8 2) q.ctrl).winSettle q.win
  let bad := s1.fld (q.win + 12) 1 3 != 0
  let s1 := (addrs.zip saved).foldl (fun s p => s.wr p.1 p.2) s1
  if bad then (s1.bump (A.img R.SYS_GLIDE_QREFUSED)).raise 0 10 4 else s1

/-- The end of the gap: the queued commands run in their order (R481). -/
def State.queueApply (s : State) : State :=
  let q := s.img.queue
  q.foldl State.queuedRun { s with img := { s.img with queue := [] } }

end Sys2Proof.Machine
end

