-- ==== Sys2Proof/Machine/Images.lean ====
section
/-! DEFINITION. Image commands, Glide, the settings store and attestation (spec 19, R74, R470 to R489). -/

namespace Sys2Proof.Machine

def imgStatA : Nat := A.img R.SYS_IMG_STAT
def bootStatA : Nat := A.boot R.SYS_BOOT_STAT

/-- Glide phase: 0 none, 1 LOAD, 2 GAP, 3 SETTLE, 4 FALLBACK_LOAD. -/
def State.glidePhase (s : State) : Nat := s.fld imgStatA 4 3
def State.setGlidePhase (s : State) (p : Nat) : State := s.setFld imgStatA 4 3 p
def State.setHealth (s : State) (b : Bool) : State :=
  { s with boot := { s.boot with health := b, healthTick := if b then s.time.ticks else s.boot.healthTick } }

/-- The health timer's 120 s have run (R475). -/
def State.healthOver (s : State) : Bool := decide (s.boot.healthTick + 120 * ticksPerSec ≤ s.time.ticks)
def State.setDev (s : State) (d : DevState) : State := { s with boot := { s.boot with dev := d } }

/-- FALLBACK_REQ with a failure code in the state of SLOT_SEL, in one record write (R74, R474). -/
def State.fallbackReq (s : State) (code : Nat) : State :=
  let r := s.brec
  (s.brecPut ((r.setFlag 0 true).mark r.sel (r.slot r.sel).st (some code))).bootFail code

/-- The record of R73 step 2: PREV_SLOT takes over, the abandoned slot is FAILED. -/
def BootRec.step2 (r : BootRec) (code : Nat) : BootRec :=
  { ((r.mark r.sel 4 (some code)).setFlag 0 false).setFlag 1 false with sel := r.prev, prev := 0, attempts := 0 }

/-- The record of R73 step 3: a WRITTEN or BOOTED candidate is counted and watched. -/
def BootRec.step3 (r : BootRec) : BootRec :=
  { (r.setFlag 1 true).mark r.sel 2 none with attempts := (r.attempts + 1) % 2 ^ 32 }

def BootRec.step3Due (r : BootRec) : Bool := (r.slot r.sel).st == 1 || (r.slot r.sel).st == 2

/-! ## The settings store (R477, R478) -/

/-- The store's registers and its body at SYS_SET_BASE. -/
def State.setShow (s : State) : State :=
  match s.setInUse with
  | none =>
    let s := (s.setFld (A.img R.SYS_SET_STAT) 0 1 0).wr (A.img R.SYS_SET_SCHEMA) 0
    ((s.wr64 (A.img R.SYS_SET_GEN_LO) 0).wr (A.img R.SYS_SET_LEN) 0).wr64 (A.img R.SYS_SET_BASE_LO) 0
  | some (c, h) =>
    let s := (s.setFld (A.img R.SYS_SET_STAT) 0 1 1).setFld (A.img R.SYS_SET_STAT) 3 1 c
    let s := (s.wr (A.img R.SYS_SET_SCHEMA) (BitVec.ofNat 32 h.schema)).wr64 (A.img R.SYS_SET_GEN_LO) h.gen
    let s := (s.wr (A.img R.SYS_SET_LEN) (BitVec.ofNat 32 h.len)).wr64 (A.img R.SYS_SET_BASE_LO) Config.settingsArea.toNat
    s.hbmStore Config.settingsArea.toNat (s.flashBytes (setCopyA c + 128) h.len)

/-- Before a release of firmware: an erase that ACTIVATE asked for, then the body of the copy in use. -/
def State.setBoot (s : State) : State :=
  let s : State := if s.img.erasePending then
      let s := (s.flashErase (setCopyA 0) setCopyLen).flashErase (setCopyA 1) setCopyLen
      { s with img := { s.img with erasePending := false } }
    else s
  let s := s.setShow
  if s.setInUse.isNone then s.imgRaise 7 else s

/-- SYS_SET_CMD bit 0: the body is taken, and the copy not in use erased, unless LOCKED or BUSY. -/
def State.setCmd (s : State) (v : Nat) : State :=
  if natBit v 0 && !s.brec.healthPending && s.img.setWrite.isNone then
    let c := match s.setInUse with | some q => 1 - q.1 | none => 0
    let gen := match s.setInUse with | some q => q.2.gen + 1 | none => 1
    let body := s.hbmBytes (s.rd64 (A.img R.SYS_SET_WBASE_LO)) (s.rd (A.img R.SYS_SET_WLEN)).toNat
    let s := (s.flashErase (setCopyA c) setCopyLen).setRbit (A.img R.SYS_SET_STAT) 4 false
    { s with img := { s.img with setWrite := some (c, gen % 2 ^ 64, body) } }
  else s

/-- SET_WRITE. -/
def execSetWrite (m : Master) (v : Word) (s : State) : Host.Outcome State Fault Refusal :=
  .next (s.asWrite m (A.img R.SYS_SET_CMD) (fun s => s.setCmd v.toNat))

/-- SET_DONE: body, then header; or a flash error. -/
def execSetDone (err : Bool) (s : State) : Host.Outcome State Fault Refusal :=
  match s.img.setWrite with
  | none => .next s
  | some (c, gen, body) =>
    let s : State := { s with img := { s.img with setWrite := none } }
    if err then .next ((s.setRbit (A.img R.SYS_SET_STAT) 4 true).imgRaise 6)
    else
      let head := setHeader (imgSchema s.img.head) gen body.length (imgVersion s.img.head) (shake256 body 64)
      let s : State := { s with boot := { s.boot with setUnread := s.boot.setUnread.filter (fun x => x != c) } }
      .next ((((s.flashWrite (setCopyA c + 128) body).flashWrite (setCopyA c) head).setShow).imgRaise 5)

/-! ## Glide (R479 to R483) -/

/-- A register bit that SYS sets in a region, which a region in absent mode does not take. -/
def State.glideSuspend (s : State) (on : Bool) : State :=
  let b := if on then 8 else 0
  let s := (List.range 4).foldl (fun (s : State) r =>
    if s.rgnAbsent (3 + r) then s else s.lrnCtrlWrite r (natSetField (s.rd (lrnA r R.PIPE_LRN_CTRL)).toNat 3 1 (b / 8))) s
  if s.rgnAbsent 7 then s else s.ageSuspendWrite (b / 8)

/-- The end of a Glide: RUNNING, its length shown, GLIDE_DONE. -/
def State.glideDone (s : State) : State :=
  let ms := (divFree (s.time.ticks - s.img.glideTick : Nat) (1000 * ticksPerUs)).toNat
  ((((s.setDev .running).setGlidePhase 0).wr (A.img R.SYS_GLIDE_TIME) (BitVec.ofNat 32 ms)).imgRaise 1)

/-- The Glide ends once its gap is over and HEALTH_PENDING is 0. -/
def State.glideCheck (s : State) : State :=
  if s.boot.dev = .glide ∧ s.img.gapOver = true ∧ s.brec.healthPending = false then s.glideDone else s

/-- The end of the control gap: the queue runs, suspension ends. -/
def State.gapEnd (s : State) : State :=
  let s := ((s.setGlidePhase 3).queueApply).glideSuspend false
  ({ s with img := { s.img with gapOver := true } } : State).glideCheck

/-- A fallback Glide (R482). -/
def State.fallbackGlide (s : State) (code : Nat) : State :=
  let s := ((s.brecPut (s.brec.step2 code)).bootFail code).bootRaise 0
  let s := (((s.setHealth false).setRbit bootStatA 5 true).setGlidePhase 4).glideSuspend true
  { s with img := { s.img with gapOver := false, fallback := true } }

/-- The image of the gap is the one in use, its header's FLAGS apart (R86, R479); the region table's words from 0x300 return to their
reset values. -/
def State.gapImage (s : State) (b : List Byte) : State :=
  { s with
    img := { s.img with glided := true, area1 := !s.img.area1 }
    boot := { s.boot with image := b }
    regs := s.regs.filter (fun p => decide (p.1 < A.rgn 0x300) || decide (A.rgn 0x300 + 8 * 26 ≤ p.1)) }

/-- The gap begins: CPU regions back to HELD, the new firmware, its settings; a file that breaks R383 fails the slot (R78). -/
def State.glideEnter (s : State) (n : Nat) (b : List Byte) : State :=
  let s := ((s.cpuDown 0).cpuDown 1).cpuDown 2
  let s := (({ s with img := { s.img with gapTick := s.time.ticks } } : State).setGlidePhase 2).setBootedSlot n
  let s := s.setRbit bootStatA 5 s.img.fallback
  let s := (s.gapImage b).measure b true
  match s.setBoot.fwLoad b with
  | some t => t.setHealth t.brec.healthPending
  | none => ((s.brecPut (s.brec.mark n 4 (some 0x11))).bootFail 0x11).chipReset

/-- A slot that fails its check in a Glide. -/
def State.glideFail (s : State) (n : Nat) : State :=
  let r := s.brec
  let s := (s.brecPut { (r.mark n 4 (some 0x10)).setFlag 1 false with sel := s.bootedSlot }).bootFail 0x10
  ((((s.setGlidePhase 0).queueApply).glideSuspend false).setDev .running).imgRaise 2

/-- GLIDE_IMAGE_VERIFIED: SLOT_SEL has been copied and checked; a FAILED slot is not read. -/
def execGlideImageVerified (readErr : Bool) (s : State) : Host.Outcome State Fault Refusal :=
  if s.boot.dev = .glide ∧ (s.glidePhase = 1 ∨ s.glidePhase = 4) then
    let r := s.brec
    let n := if r.sel = 2 then 2 else 1
    if readErr ∨ (r.slot n).st = 4 then .next (s.glideFail n)
    else
      let q := s.imageLoad n s.img.area1
      match q.2 with
      | some b => .next (q.1.glideEnter n b)
      | none => .next (q.1.glideFail n)
  else .next s

/-- GAP_TIMEOUT: 30 s after the gap began. -/
def execGapTimeout (s : State) : Host.Outcome State Fault Refusal :=
  if s.boot.dev = .glide ∧ s.glidePhase = 2 ∧ s.img.gapTick + 30 * ticksPerSec ≤ s.time.ticks then .next (s.imgRaise 3).gapEnd
  else .next s

/-- GLIDE_WATCHDOG: 180 s after t0. -/
def execGlideWatchdog (s : State) : Host.Outcome State Fault Refusal :=
  if s.boot.dev = .glide ∧ s.img.glideTick + 180 * ticksPerSec ≤ s.time.ticks then
    .next (if s.brec.healthPending then s.fallbackReq 0x12 else s).chipReset
  else .next s

/-- HEALTH_TIMEOUT: the health timer expires (R74); in a Glide the previous slot takes over (R482). -/
def execHealthTimeout (s : State) : Host.Outcome State Fault Refusal :=
  if s.boot.health && s.healthOver then
    let s := (s.setHealth false).bootRaise 9
    if s.boot.dev = .glide ∧ s.brec.prev ≠ 0 then .next (s.fallbackGlide 0x12) else .next (s.fallbackReq 0x12)
  else .next s

/-! ## SYS_IMG_CTRL (R474, R475): each command answers 0, or the reason of its refusal -/

/-- ACTIVATE. -/
def State.imgActivate (s : State) (v : Nat) : Nat × State :=
  let r := s.brec
  let rec_ := s.boot.dev == .recovery
  let want := natField v 4 2
  let target := if rec_ then (if want = 1 ∨ want = 2 then want else 0) else s.inactiveSlot
  if (!rec_ && want != 0) || target == 0 || target == s.bootedSlot || !((r.slot target).st == 1 || (r.slot target).st == 3) then (2, s)
  else if r.healthPending then (3, s)
  else if s.img.session.isSome then (5, s)
  else if s.boot.dev = .glide then (1, s)
  else
    let prev := if rec_ then (if (r.slot (3 - target)).st = 3 then 3 - target else 0) else s.bootedSlot
    let s := s.brecPut { r with sel := target, prev := prev, attempts := 0, flags := 0 }
    (0, { s with img := { s.img with erasePending := natBit v 6 } })

/-- CONFIRM. -/
def State.imgConfirm (s : State) : Nat × State :=
  let r := s.brec
  if !r.healthPending then (3, s)
  else if !s.boot.health || s.healthOver then (6, s)
  else
    let s := s.brecPut { (r.setFlag 1 false).mark s.bootedSlot 3 none with attempts := 0 }
    (0, ((s.setHealth false).imgRaise 8).glideCheck)

/-- FALLBACK. -/
def State.imgFallback (s : State) (v : Nat) : Nat × State :=
  let r := s.brec
  if !r.healthPending then (3, s)
  else if r.prev = 0 then (4, s)
  else if s.boot.dev = .glide then (0, s.fallbackGlide 0x13)
  else
    let s := s.fallbackReq 0x13
    (0, if natBit v 7 then s.chipReset else s)

/-- GLIDE. -/
def State.imgGlide (s : State) : Nat × State :=
  let r := s.brec
  if s.boot.dev ≠ .running then (1, s)
  else if r.healthPending then (3, s)
  else if r.sel = s.bootedSlot then (2, s)
  else if s.img.setWrite.isSome ∨ s.img.session.isSome then (7, s)
  else
    let s := if r.step3Due then s.brecPut r.step3 else s
    let s := ((s.setDev .glide).setGlidePhase 1).glideSuspend true
    (0, { s with img := { s.img with glideTick := s.time.ticks, gapOver := false, fallback := false } })

/-- RESUME. -/
def State.imgResume (s : State) : Nat × State :=
  if s.glidePhase = 2 then (0, s.gapEnd) else (1, s)

/-- RECOVERY. -/
def State.imgRecovery (s : State) (v : Nat) : Nat × State :=
  let s := s.brecPut (s.brec.setFlag 2 true)
  (0, if natBit v 7 then s.chipReset else s)

/-- FUSE_SEC. -/
def State.imgFuseSec (s : State) : Nat × State :=
  let want := imgSecVersion s.img.head
  if (s.brec.slot s.bootedSlot).st ≠ 3 ∨ s.bootedSlot = 0 ∨ s.boot.dev ≠ .running ∨ want ≤ s.boot.secFuses then (8, s)
  else (0, { s with boot := { s.boot with secFuses := want } })

/-- REVOKE_KEY. -/
def State.imgRevoke (s : State) (v : Nat) : Nat × State :=
  let k := natField v 8 2
  if signerOf s.img.m4 = some k ∨ natBit s.boot.keyRevoked k = true then (8, s)
  else (0, { s with boot := { s.boot with keyRevoked := natSetField s.boot.keyRevoked k 1 1 } })

/-- The command of a SYS_IMG_CTRL value; one that no row of R474 names is refused with STATE (R488). -/
def State.imgRun (s : State) (v : Nat) : Nat × State :=
  match v % 16 with
  | 1 => s.imgActivate v
  | 2 => s.imgConfirm
  | 3 => s.imgFallback v
  | 4 => s.imgGlide
  | 5 => s.imgResume
  | 6 => s.imgRecovery v
  | 7 => s.imgFuseSec
  | 8 => s.imgRevoke v
  | _ => (1, s)

/-- A refusal sets REASON and raises IMG_REFUSED. -/
def State.imgEnd (q : Nat × State) : State := if q.1 = 0 then q.2 else (q.2.setFld imgStatA 0 4 q.1).imgRaise 0

/-- A write of SYS_IMG_CTRL. -/
def State.imgCtrl (s : State) (v : Nat) : State :=
  State.imgEnd ((s.wr (A.img R.SYS_IMG_CTRL) (BitVec.ofNat 32 (v &&& 0x3F0))).imgRun v)

/-- A master's write of SYS_IMG_CTRL with a command. -/
def State.asImg (s : State) (m : Master) (v : Word) (c : Nat) : State :=
  s.asWrite m (A.img R.SYS_IMG_CTRL) (fun s => s.imgCtrl (withCmd v c))

/-- ACTIVATE. -/
def execActivate (m : Master) (v : Word) (s : State) : Host.Outcome State Fault Refusal := .next (s.asImg m v 1)
/-- CONFIRM. -/
def execConfirm (m : Master) (v : Word) (s : State) : Host.Outcome State Fault Refusal := .next (s.asImg m v 2)
/-- FALLBACK. -/
def execFallback (m : Master) (v : Word) (s : State) : Host.Outcome State Fault Refusal := .next (s.asImg m v 3)
/-- GLIDE. -/
def execGlide (m : Master) (v : Word) (s : State) : Host.Outcome State Fault Refusal := .next (s.asImg m v 4)
/-- RESUME. -/
def execResume (m : Master) (v : Word) (s : State) : Host.Outcome State Fault Refusal := .next (s.asImg m v 5)
/-- RECOVERY. -/
def execImgRecovery (m : Master) (v : Word) (s : State) : Host.Outcome State Fault Refusal := .next (s.asImg m v 6)
/-- FUSE_SEC. -/
def execFuseSec (m : Master) (v : Word) (s : State) : Host.Outcome State Fault Refusal := .next (s.asImg m v 7)
/-- REVOKE_KEY. -/
def execRevokeKey (m : Master) (v : Word) (s : State) : Host.Outcome State Fault Refusal := .next (s.asImg m v 8)

/-! ## Attestation (R485 to R487) -/

def attStatA : Nat := A.att R.SYS_ATT_STAT

/-- `n` words from a register on, as bytes. -/
def State.regBytes (s : State) (a : Nat) : Nat → List Byte
  | 0 => []
  | n + 1 => s.regBytes a n ++ leBytes 4 (s.rd (a + 4 * n)).toNat

/-- SYS_BOOT_STAT.STATE of a device state that the window can show. -/
def devCode : DevState → Nat
  | .off | .reset => 0
  | .standby => 1
  | .boot => 2
  | .running => 3
  | .halt => 4
  | .recovery => 5
  | .glide => 6

def calA (second : Bool) : Nat := if second then 0x820000 else 0x20000
def calLen : Nat := 8 * 2 ^ 20
def State.calRecord (s : State) (second : Bool) : List Byte := s.flashBytes (calA second) calLen

/-- M0 to M6. -/
def State.measurements (s : State) : List Byte :=
  leBytes 64 Config.romDigest.toNat ++ identDigest s.ident ++ shake256 (s.calRecord s.boot.calCopy1) 64 ++
  s.img.m3 ++ s.img.m4 ++ s.img.m5 ++ s.img.m6

/-- Bytes 0 to 559 of a report whose whole length is `len`. -/
def State.reportHead (s : State) (nonce : List Byte) (len : Nat) : List Byte :=
  let w := s.wt
  let bit (b : Bool) (i : Nat) : Nat := if b then 2 ^ i else 0
  let flags := bit s.time.wtValid 0 + bit (s.rbit bootStatA 5) 1 + bit s.boot.health 2 + bit s.img.glided 3 +
    devCode s.boot.dev * 16 + s.bootedSlot * 128
  leBytes 4 0x54415A51 ++ leBytes 4 1 ++ leBytes 4 len ++ leBytes 4 flags ++ nonce ++ (s.ident.drop 0x20).take 32 ++
  leBytes 6 (tvSec w) ++ leBytes 2 0 ++ leBytes 4 (tvNs w) ++ leBytes 4 0 ++ leBytes 8 (imgVersion s.img.head) ++
  leBytes 1 s.boot.secFuses ++ leBytes 1 s.boot.keyRevoked ++ leBytes 6 0 ++ s.measurements

/-- A report for a nonce, signed with the identity key by a signature of at most 1,280 bytes. The report is held. -/
def State.reportMake (s : State) (nonce : List Byte) : State × List Byte :=
  let n := Config.falconLength s.freeCtr % 1281
  let h := s.reportHead nonce (564 + n)
  let sig := (List.range n).map (Config.falconSign (s.sec.idPriv.getD []) (shake256 h 64) s.freeCtr)
  let b := h ++ leBytes 2 n ++ leBytes 2 0 ++ sig
  (({ s with img := { s.img with report := some (nonce, b, s.time.ticks) } } : State).drawn, b)

/-- SYS_ATT_CMD: REPORT or EXTEND. -/
def State.attCmd (s : State) (v : Nat) : State :=
  match v % 4 with
  | 1 =>
    if !s.boot.identOk then (s.setFld attStatA 0 3 4).raise 0 0xB 1
    else if s.img.attBusy.isSome then s
    else
      let s := s.setFld attStatA 0 3 1
      { s with img := { s.img with attBusy := some ⟨s.regBytes (A.att R.SYS_ATT_NONCE) 8, some (s.rd64 (A.att R.SYS_ATT_DST_LO))⟩ } }
  | 2 => { s with img := { s.img with m6 := shake256 (s.img.m6 ++ s.regBytes (A.att R.SYS_ATT_EXT) 16) 64 } }
  | _ => s

/-- ATT_REPORT. -/
def execAttReport (m : Master) (s : State) : Host.Outcome State Fault Refusal :=
  .next (s.asWrite m (A.att R.SYS_ATT_CMD) (fun s => s.attCmd 1))

/-- ATT_EXTEND. -/
def execAttExtend (m : Master) (s : State) : Host.Outcome State Fault Refusal :=
  .next (s.asWrite m (A.att R.SYS_ATT_CMD) (fun s => s.attCmd 2))

/-- ATT_DONE: the report stands at its address. -/
def execAttDone (s : State) : Host.Outcome State Fault Refusal :=
  match s.img.attBusy with
  | none => .next s
  | some q =>
    let p := ({ s with img := { s.img with attBusy := none } } : State).reportMake q.nonce
    let s := p.1
    let s := match q.dst with | some a => s.hbmStore a p.2 | none => s
    .next ((s.wr attStatA (BitVec.ofNat 32 (2 + p.2.length % 2048 * 8))).raise 0 0xB 0)

end Sys2Proof.Machine
end

