-- ==== Sys2Proof/Machine/Ovc.lean ====
section
/-! DEFINITION. The OVC serial ports (spec 13, R345 to R353). A frame is its bytes; its FCS stands with it only on the pins and in the
channel. -/

namespace Sys2Proof.Machine

/-- One bit of the reflected CRC-16 of ISO/IEC 13239, polynomial x^16 + x^12 + x^5 + 1. -/
def fcs16Bit (c : Nat) : Nat := if c % 2 = 1 then (c / 2) ^^^ 0x8408 else c / 2

/-- The 16-bit FCS of a frame. -/
def fcs16 (l : List Byte) : Nat := l.foldl (fun c b => iterNat fcs16Bit 8 (c ^^^ b.toNat)) 0xFFFF ^^^ 0xFFFF

/-- A frame with its FCS. -/
def withFcs (l : List Byte) : List Byte := l ++ leBytes 2 (fcs16 l)

/-- A frame that is not bad (R346): length, FCS; its bytes without FCS. -/
def goodHdlc (l : List Byte) : Option (List Byte) :=
  let n := l.length
  if 3 ≤ n ∧ n ≤ 1026 ∧ leNat (l.drop (n - 2)) = fcs16 (l.take (n - 2)) then some (l.take (n - 2)) else none

/-- Octet stuffing of the channel: flag 0x7E, escape 0x7D (R345). -/
def stuff (l : List Byte) : List Byte := l.flatMap (fun b => if b = 0x7E ∨ b = 0x7D then [0x7D, b ^^^ 0x20] else [b])

/-- The stuffing undone; none where the frame is aborted. -/
def unstuff : List Byte → Option (List Byte)
  | [] => some []
  | [b] => if b = 0x7D then none else some [b]
  | b :: c :: r => if b = 0x7D then (unstuff r).map (fun l => (c ^^^ 0x20) :: l) else (unstuff (c :: r)).map (fun l => b :: l)

def ovcCntA (n r : Nat) : Nat := A.ovc (R.SYS_OVC_CNT + 16 * n + 4 * r)

/-- A bad frame is discarded and counted. -/
def State.ovcBad (s : State) (n : Nat) : State := (s.bump (ovcCntA n 3)).raise 0 9 (8 + n)

/-- A frame that finds its FIFO full. -/
def State.ovcDrop (s : State) (n : Nat) : State := (s.bump (ovcCntA n 2)).raise 0 9 (4 + n)

/-- OVC_PIN_FRAME_RX: a frame between two flags on the pins, FCS included. -/
def execOvcPinFrameRx (n : Fin 4) (frame : List Byte) (aborted : Bool) (s : State) : Host.Outcome State Fault Refusal :=
  if s.ovcMode n = 0 ∨ s.blkHeld 0 9 = true then .next s
  else
    match (if aborted then none else goodHdlc frame) with
    | none => .next (s.ovcBad n)
    | some f =>
      let s := s.bump (ovcCntA n 1)
      let x := s.ovcPort n
      if 8 ≤ x.fromPins.length then .next (s.ovcDrop n)
      else .next ((s.setOvc n { x with fromPins := x.fromPins ++ [(s.wt, f)] }).raiseIf (s.ovcMode n == 1) 0 9 n)

/-- OVC_CHANNEL_FRAME_RX: the first frame among the channel bytes of a bridged port. -/
def execOvcChannelFrameRx (n : Fin 4) (s : State) : Host.Outcome State Fault Refusal :=
  let x := s.ovcPort n
  if s.ovcMode n = 2 ∧ s.blkHeld 0 9 = false ∧ x.chanIn.contains 0x7E = true then
    let raw := x.chanIn.takeWhile (fun b => b != 0x7E)
    let s := s.setOvc n { x with chanIn := (x.chanIn.drop raw.length).dropWhile (fun b => b == 0x7E) }
    match (unstuff raw).bind goodHdlc with
    | none => .next (s.ovcBad n)
    | some f =>
      let x := s.ovcPort n
      if 8 ≤ x.toPins.length then .next (s.ovcDrop n) else .next (s.setOvc n { x with toPins := x.toPins ++ [f] })
  else .next s

/-- OVC_PIN_FRAME_TX: the oldest frame goes out on the pins. -/
def execOvcPinFrameTx (n : Fin 4) (s : State) : Host.Outcome State Fault Refusal :=
  let x := s.ovcPort n
  match x.toPins with
  | [] => .next s
  | f :: r =>
    if s.ovcMode n = 0 ∨ s.blkHeld 0 9 = true then .next s else .next (((s.setOvc n { x with toPins := r }).bump (ovcCntA n 0)).emit (.ovcTx n f))

/-- OVC_CHANNEL_FRAME_TX: the oldest frame from the pins, 1 µs after its closing flag, once the channel is free. -/
def execOvcChannelFrameTx (n : Fin 4) (s : State) : Host.Outcome State Fault Refusal :=
  let x := s.ovcPort n
  match x.fromPins with
  | [] => .next s
  | (t, f) :: r =>
    if s.ovcMode n = 2 ∧ s.blkHeld 0 9 = false ∧ x.sending = [] ∧ s.time.wtValid = true ∧ s.fld (ovcCtrlA n) 12 3 < s.cycleLen ∧
        t + lsbUs ≤ s.wt then
      .next (s.setOvc n { x with fromPins := r, sending := (0x7E : Byte) :: stuff (withFcs f) ++ [0x7E] })
    else .next s

/-- A write of SYS_OVC_TXLEN: TXBUF is queued as a frame, or refused (R352). -/
def State.ovcTxQueue (s : State) (n v : Nat) : State :=
  let len := v % 2048
  let x := s.ovcPort n
  if s.ovcMode n ≠ 1 ∨ 8 ≤ x.toPins.length ∨ len = 0 ∨ 1024 < len then s.raise 0 9 (12 + n)
  else
    let f := (List.range len).map (fun j => BitVec.ofNat 8 (s.arrayByte (A.ovc (R.SYS_OVC_TXBUF + 1024 * n)) j))
    s.setOvc n { x with toPins := x.toPins ++ [f] }

/-- OVC_TX_QUEUE. -/
def execOvcTxQueue (m : Master) (n : Fin 4) (v : Word) (s : State) : Host.Outcome State Fault Refusal :=
  .next (s.asWrite m (A.ovc (R.SYS_OVC_TXLEN + 16 * n)) (fun s => s.ovcTxQueue n v.toNat))

/-- A write of SYS_OVC_RXPOP: the FIFO from the pins faces firmware in PROC mode. -/
def State.ovcRxPop (s : State) (n v : Nat) : State :=
  let x := s.ovcPort n
  if natBit v 0 && s.ovcMode n == 1 then s.setOvc n { x with fromPins := x.fromPins.drop 1 } else s

/-- OVC_RX_POP. -/
def execOvcRxPop (m : Master) (n : Fin 4) (v : Word) (s : State) : Host.Outcome State Fault Refusal :=
  .next (s.asWrite m (A.ovc (R.SYS_OVC_RXPOP + 4 * n)) (fun s => s.ovcRxPop n v.toNat))

/-- A write of SYS_OVC_CTRL that the device takes. -/
def State.ovcCtrlOk (s : State) (n v : Nat) : Bool :=
  natField v 0 2 != 3 && decide (natField v 4 8 ≤ 143) &&
  !([0, 1, 2, 3].any (fun o => o != n && s.ovcMode o == 2 && s.fld (ovcCtrlA o) 4 8 == natField v 4 8 &&
    s.fld (ovcCtrlA o) 12 3 == natField v 12 3))

/-- A write of SYS_OVC_CTRL: the FIFOs are discarded, their frames counted as dropped (R347). -/
def State.ovcCtrlWrite (s : State) (n v : Nat) : State :=
  if s.ovcCtrlOk n v then
    let x := s.ovcPort n
    let k := x.toPins.length + x.fromPins.length
    ((s.wr (ovcCtrlA n) (BitVec.ofNat 32 (v &&& 0x7FF3))).bump (ovcCntA n 2) k).setOvc n OvcSt.reset
  else s.raise 0 9 16

/-- OVC_CTRL_WRITE. -/
def execOvcCtrlWrite (m : Master) (n : Fin 4) (v : Word) (s : State) : Host.Outcome State Fault Refusal :=
  .next (s.asWrite m (ovcCtrlA n) (fun s => s.ovcCtrlWrite n v.toNat))

/-! ## Registers that show the FIFOs (R352) -/

def State.ovcStat (s : State) (n : Nat) : Nat := (s.ovcPort n).toPins.length + (s.ovcPort n).fromPins.length * 16

/-- The head received frame, as firmware sees it in PROC mode. -/
def State.ovcHead (s : State) (n : Nat) : Option (List Byte) :=
  if s.ovcMode n = 1 then ((s.ovcPort n).fromPins.head?).map (·.2) else none

def State.ovcRxlen (s : State) (n : Nat) : Nat := match s.ovcHead n with | some f => f.length + 2 ^ 31 | none => 0

def State.ovcRxbuf (s : State) (n w : Nat) : Nat := leNat ((((s.ovcHead n).getD []).drop (4 * w)).take 4)

end Sys2Proof.Machine
end

