-- ==== Sys2Proof/Machine/Regions.lean ====
section
/-! DEFINITION. Error classes, the region states and their fence, and the chip fail-safe (R450 to R464). The step to RUN, which applies a
write list, stands in Release. -/

namespace Sys2Proof.Machine

/-! ## The fail-safe (R462, R463) -/

/-- A module at high power gets TxDisable on all its lanes (CMIS page 10h byte 130; assumption 41). -/
def State.txDisable (s : State) (c : Nat) : State :=
  if s.rbit (A.boot (R.SYS_MOD_RESULT + 4 * c)) 5 then s.emit (.cmisWrite c 0 0x10 130 [0xFF]) else s

/-- The cause, t0, gate states and fatal set that hold until a chip reset. -/
def State.failsafeEnter (s : State) (code w g f : Nat) : State := { s with flt := { s.flt with failsafe := some (code, w, g, f) } }

/-- PPS output n falls where it is high. -/
def State.ppsLow (s : State) (n : Nat) : State := if s.time.ppsPin.getD n false then s.setPps n false s.wt else s

/-- THERMTRIP_N goes low. -/
def State.tripAssert (s : State) : State := { s with therm := { s.therm with tripLow := true } }

/-- A CHIP_FATAL cause: the whole sequence of R463 up to its end at t0 + 20 ms. A device in the fail-safe stays as it is. -/
def State.chipFatal (s : State) (code : Nat) : State :=
  if s.flt.failsafe.isSome then s
  else
    let w := if s.time.wtValid then s.wt else 0
    let g := s.gstat
    let f := (s.rd (A.rgn R.SYS_RGN_FATAL)).toNat
    let s := s.failsafeEnter code w g f
    let s := (List.range 4).foldl State.ppsLow s
    let s := (List.range 64).foldl State.txDisable s
    let s := (s.faultWrite code (tvSec w % 2 ^ 48) (tvNs w) g f).setRbit (A.rgn R.SYS_CHIP_FAULT) 31 true
    if code = 4 then s.tripAssert else s

/-- The device can detect a chip-level cause: it is neither off nor held in reset. -/
def State.awake (s : State) : Bool := s.boot.dev != .off && s.boot.dev != .reset

/-- CHIP_FATAL. -/
def execChipFatal (c : ChipCause) (s : State) : Host.Outcome State Fault Refusal :=
  let real : Bool := match c with
    | .d2d => decide (s.flt.d2dModules < 4)
    | .rail => s.boot.vin12 && s.boot.rails && s.boot.resetN
    | _ => true
  if s.awake && real then .next (s.chipFatal (chipCode c)) else .next s

/-- FAILSAFE_AUTO_RESET. -/
def execFailsafeAutoReset (s : State) : Host.Outcome State Fault Refusal :=
  if s.flt.failsafe.isSome ∧ s.rbit (A.rgn R.SYS_FAILSAFE_CTRL) 0 = true then .next s.chipReset else .next s

/-- D2D_MODULE_FAIL: the chip-level cause of R8 is raised, and the device runs on the others. -/
def execD2dModuleFail (s : State) : Host.Outcome State Fault Refusal :=
  .next { s with flt := { s.flt with d2dModules := s.flt.d2dModules - 1, d2dCause := true } }

/-! ## The fence (R452, R453, R455) -/

/-- Accesses held by a region in FENCING are answered ABSENT. -/
def State.heldAnswer (s : State) (r : Nat) : State :=
  let l := s.ctl.heldAcc.filter (fun q => q.1 == r)
  let s : State := { s with ctl := { s.ctl with heldAcc := s.ctl.heldAcc.filter (fun q => q.1 != r) } }
  l.foldl (fun (s : State) q => s.accessRefused q.2.1 q.2.2 .absent) s

/-- Power goes, and the region is known to come back without its contents. -/
def State.regionPowerOff (s : State) (r : Nat) : State :=
  let s := (s.powerOff r).setRgnState r .poweredDown
  s.setRst r { s.rst r with fromPower := true }

/-- The entry to ABSENT: what the region loses is lost, the epoch goes on, held requests are answered. -/
def State.enterAbsent (s : State) (r : Nat) (fatal power : Bool) : State :=
  let s := (s.regionReset r fatal).setRgnState r .absent
  let s := (s.setFld (rgnStatA r) 3 1 0).setFld (rgnStatA r) 4 4 (s.fld (rgnStatA r) 4 4 + 1)
  let s := (s.setRst r { s.rst r with tick := s.time.ticks }).heldAnswer r
  if power then s.regionPowerOff r else s

/-- A commanded exit begins. -/
def State.leaveRun (s : State) (r : Nat) (power : Bool) : State :=
  (s.setRst r { s.rst r with toPower := power, runDue := false, auto := false }).setRgnState r .fencing

/-- A RESET or POWER_DOWN during RELEASING or RESTORE: again from ABSENT. -/
def State.againAbsent (s : State) (r : Nat) (power : Bool) : State :=
  (s.setRst r { s.rst r with runDue := false, auto := false }).enterAbsent r false power

/-- RUN, with its ready event. -/
def State.regionRun (s : State) (r : Nat) : State :=
  let s := s.setRst r { s.rst r with auto := false, runDue := false, fromPower := false }
  let s := ((s.setRgnState r .run).setRbit (A.rgn R.SYS_RGN_READY) r true).raise 0 6 1
  s.regionReadyFx r

/-- An accepted RUN. -/
def State.rgnRunCmd (s : State) (r : Nat) : State :=
  match s.rgnState r with
  | .restore => s.regionRun r
  | .fencing | .absent | .poweredDown =>
    (s.setRst r { s.rst r with runDue := true }).setFld (rgnStatA r) 12 1 0
  | .run | .releasing => s

/-- An accepted RESET. -/
def State.rgnResetCmd (s : State) (r : Nat) : State :=
  match s.rgnState r with
  | .run => s.leaveRun r false
  | .fencing => s.setRst r { s.rst r with toPower := false }
  | .poweredDown => (s.setRst r { s.rst r with tick := s.time.ticks }).setRgnState r .absent
  | .releasing | .restore => s.againAbsent r false
  | .absent => s

/-- An accepted POWER_DOWN. -/
def State.rgnPowerCmd (s : State) (r : Nat) : State :=
  match s.rgnState r with
  | .run => s.leaveRun r true
  | .fencing => s.setRst r { s.rst r with toPower := true }
  | .absent => (s.setRst r { s.rst r with runDue := false, auto := false }).regionPowerOff r
  | .releasing | .restore => s.againAbsent r true
  | .poweredDown => s

def rgnResetA (r : Nat) : Nat := A.rgn (R.SYS_RGN_RESET + 8 * r)

/-- A well-formed pair written to SYS_RGN_RESET r is refused (R103): SYS itself, the value 3, RUN after a failed write list. The pair has
passed R101, so nothing is logged (assumption 74). -/
def State.rgnCmdRefused (s : State) (r v : Nat) : Bool :=
  r == 0 || 2 < v || (v == 0 && s.rbit (rgnStatA r) 13)

/-- The effect of an accepted pair; a region that is not out of reset yet takes none (assumption 32). -/
def State.rgnCmd (s : State) (r v : Nat) : State :=
  let s := s.cpStore 3 (rgnResetA r) v
  if !s.live r then s
  else if v = 0 then s.rgnRunCmd r else if v = 1 then s.rgnResetCmd r else s.rgnPowerCmd r

/-- A write of `v` to SYS_RGN_RESET r. -/
def State.rgnResetWrite (s : State) (r v : Nat) : State := if s.rgnCmdRefused r v then s else s.rgnCmd r v

/-- A pair whose complement matches. -/
def pairOf (mask v : Nat) : BitVec 64 := BitVec.ofNat 64 (v + (mask - v) * 2 ^ 32)

def State.asRgnReset (s : State) (m : Master) (r v : Nat) : State :=
  s.asCpWrite m (rgnResetA r) 3 (pairOf 3 v) (fun v s => s.rgnResetWrite r v)

/-- RGN_RUN. -/
def execRgnRun (m : Master) (r : Fin 26) (s : State) : Host.Outcome State Fault Refusal := .next (s.asRgnReset m r 0)

/-- RGN_RESET. -/
def execRgnReset (m : Master) (r : Fin 26) (s : State) : Host.Outcome State Fault Refusal := .next (s.asRgnReset m r 1)

/-- RGN_POWER_DOWN. -/
def execRgnPowerDown (m : Master) (r : Fin 26) (s : State) : Host.Outcome State Fault Refusal := .next (s.asRgnReset m r 2)

/-- REGION_ABSENT: the drain of a region in FENCING ends. -/
def execRegionAbsent (r : Fin 26) (s : State) : Host.Outcome State Fault Refusal :=
  if s.live r ∧ s.rgnState r = .fencing then .next (s.enterAbsent r false (s.rst r).toPower) else .next s

def policyA (r : Nat) : Nat := A.rgn (0x280 + 4 * r)

/-- The region may leave ABSENT: 10 µs have passed, and a RUN, or an automatic release of a REGION_FATAL entry, is due. -/
def State.releaseDue (s : State) (r : Nat) : Bool :=
  let x := s.rst r
  (s.rgnState r == .absent || s.rgnState r == .poweredDown) && decide (x.tick + 10 * ticksPerUs ≤ s.time.ticks) &&
  !s.rbit (rgnStatA r) 13 && (x.runDue || (x.auto && s.rbit (policyA r) 0 && !s.rbit (rgnStatA r) 12))

/-- REGION_RELEASE: RELEASING once the regions it depends on run; the wait shows in WAIT_DEP. -/
def execRegionRelease (r : Fin 26) (s : State) : Host.Outcome State Fault Refusal :=
  if s.live r && s.releaseDue r then
    if (rgnDepends r).all s.rgnRuns then
      let s := (s.setRst r { s.rst r with runDue := false, listPos := 0, pollTick := none }).setFld (rgnStatA r) 3 1 0
      .next ((s.setRgnState r .releasing).regionUp r)
    else if s.rbit (rgnStatA r) 3 then .next s
    else .next ((s.setFld (rgnStatA r) 3 1 1).raise 0 6 2)
  else .next s

/-! ## Errors (R450, R451, R453, R454) -/

def State.fatalInfo (s : State) (r block cls : Nat) : State :=
  s.wr (A.gw r R.GW_FATAL_INFO) (BitVec.ofNat 32 (block % 64 + cls * 2 ^ 6 + 2 ^ 31))

/-- Ticks of a list that lie within a span before now. -/
def State.within (s : State) (span : Nat) (l : List Nat) : List Nat := l.filter (fun t => decide (s.time.ticks < t + span))

/-- A REGION_FATAL error of class 2, or 3 for a failed write list: ABSENT at once, and after three in 60 s latched down. -/
def State.regionFatal (s : State) (r block cls : Nat) : State :=
  let s := ((s.fatalInfo r block cls).raise r 0x3F 1)
  if r = 0 then s.chipFatal 2
  else
    let s := (s.setRbit (A.rgn R.SYS_RGN_FATAL) r true).raise 0 6 0
    let l := s.time.ticks :: s.within (60 * ticksPerSec) (s.rst r).fatalTicks
    let s := s.setRst r { s.rst r with
      fatalTicks := l
      auto := if s.rgnState r = .absent ∨ s.rgnState r = .poweredDown then (s.rst r).auto else cls == 2 }
    let s := if 3 ≤ l.length ∧ s.rbit (rgnStatA r) 12 = false then (s.setFld (rgnStatA r) 12 1 1).raise 0 6 3 else s
    match s.rgnState r with
    | .absent | .poweredDown => s
    | st => s.enterAbsent r true (st == .fencing && (s.rst r).toPower)

/-- REGION_FATAL. -/
def execRegionFatal (r : Fin 26) (b : Fin 64) (s : State) : Host.Outcome State Fault Refusal :=
  if s.awake && s.live r && blockExists r b then .next (s.regionFatal r b 2) else .next s

/-- A block goes into reset: the window commands that its engines run end with ERR 6 (R97). -/
def State.blockCut (s : State) (r b : Nat) : State :=
  if 3 ≤ r ∧ r ≤ 6 then
    (if b = 9 then s.lrnDown (r - 3) else if b = 10 ∨ b = 11 then s.arrDown (r - 3) (b == 11) else s)
  else s

/-- Initial contents of a block's memories, as a reset of its region leaves them (R451). -/
def State.blockInit (s : State) (r b : Nat) : State :=
  let s := s.blockReset r b
  match r with
  | 0 =>
    let c := s.ctl
    if b = 4 then { s with ctl := { c with intg := [], intgLatch := [], intgOvf := 0 } }
    else if b = 5 then { s with ctl := { c with
      snapArmed := none, snapCopy := none, snapFrozen := false, snapThaw := none, snapLate := false, snapSeq := 0 } }
    else if b = 8 then { s with ver := VerSt.reset }
    else if b = 9 then { s with fab := { s.fab with ovc := [] } }
    else s
  | 1 =>
    if b = 4 then { s with time := { s.time with tsq := List.replicate 64 [], tsqLatch := [], loss := [], lossLatch := [], lossOvf := 0 } }
    else s
  | 3 | 4 | 5 | 6 =>
    if b < 4 then s.pipeDown (4 * (r - 3) + b)
    else if b = 9 then s.setLrn (r - 3) LearnSt.reset
    else if b = 10 ∨ b = 11 then
      (let a : ArrayRef := ⟨⟨(r - 3) % 4, Nat.mod_lt _ (by omega)⟩, b == 11⟩
       s.ascAborted a)
    else s
  | 8 => if b = 0 then s.secDown else s
  | 9 | 10 | 11 =>
    if b < 4 then
      let s := (List.range 32).foldl (fun (s : State) j => s.thrHold (128 * (r - 9) + 32 * b + j)) s
      if b = 0 ∧ s.cpu.entry.any (fun p => p.1 == r - 9) = true then s.masterStart (r - 9) else s
    else s
  | 12 => if b = 2 then (s.tabListed 0xC 2 0xF1).foldl (fun (s : State) p => s.qpOff p.1) s else s
  | 0x11 => if b = 0 ∨ b = 1 then s.queDown false else s
  | 0x12 => if b = 0 then (s.buf.queues.filter (fun p => isEq p.1)).foldl (fun (s : State) p => s.discardQueue p.1) s
            else if b = 1 then { s with que := { s.que with nodes := [] } }
            else if b = 3 then s.pfcRestart
            else s
  | 0x13 => if b = 0 then s.bufDown true
            else if b = 1 then s.ringRebuild
            else if b = 3 then { s with buf := { s.buf with
              pools := s.buf.pools.map (fun p => (p.1, { p.2 with cache := [] })), poolShares := [], log := [], logLatch := [], logOvf := 0 } }
            else s
  | 0x14 => s.fabReset 0
  | 0x15 => s.fabReset 1
  | 0x16 | 0x17 | 0x18 | 0x19 => if b = 0 then s.memDown (r - 0x16) false else s
  | _ => s

/-- A block leaves reset: the epoch in BEPOCH goes on (R95). -/
def State.blockEpoch (s : State) (r b : Nat) : State :=
  let a := regAddr r b 0x014
  s.setFld a 4 4 (s.fld a 4 4 + 1)

/-- What a BLOCK_FATAL error does to the block: its information, its cause, its open work, its hold (R450). -/
def State.blockHold (s : State) (r b : Nat) : State :=
  let s := (s.fatalInfo r b 1).raise r 0x3F 0
  let s := if s.blkHeld r b then s else s.blockCut r b
  s.setRbit (regAddr r b 0x010) 1 true

/-- The error counts: the third within 1 s counts for the region; an earlier one waits for its release where the policy has one. -/
def State.blockStrike (s : State) (r b : Nat) : State :=
  let k := r * 64 + b
  let old := s.flt.blockFatals.filter (fun p => decide (s.time.ticks < p.2 + ticksPerSec))
  let s : State := { s with flt := { s.flt with blockFatals := (k, s.time.ticks) :: old } }
  if 2 ≤ (old.filter (fun p => p.1 == k)).length then s.regionFatal r b 2
  else if r = 0 ∨ s.rbit (policyA r) 2 = true then
    { s with flt := { s.flt with blockAuto := if s.flt.blockAuto.contains k then s.flt.blockAuto else s.flt.blockAuto ++ [k] } }
  else s

/-- A BLOCK_FATAL error: the block is held; the third within 1 s counts for the region. -/
def State.blockFatal (s : State) (r b : Nat) : State := (s.blockHold r b).blockStrike r b

/-- BLOCK_FATAL: in the gateway block it is REGION_FATAL (R450). -/
def execBlockFatal (r : Fin 26) (b : Fin 64) (s : State) : Host.Outcome State Fault Refusal :=
  if !(s.awake && s.live r && blockExists r b) then .next s
  else if b.val = 0x3F then .next (s.regionFatal r b 2)
  else .next (s.blockFatal r b)

/-- BLOCK_AUTO_RELEASE: 10 µs after the error. -/
def execBlockAutoRelease (r : Fin 26) (b : Fin 64) (s : State) : Host.Outcome State Fault Refusal :=
  let k := r.val * 64 + b.val
  let due := match s.flt.blockFatals.find? (fun p => p.1 == k) with
    | some p => decide (p.2 + 10 * ticksPerUs ≤ s.time.ticks)
    | none => true
  if s.flt.blockAuto.contains k && due then
    let s : State := { s with flt := { s.flt with blockAuto := s.flt.blockAuto.filter (fun x => x != k) } }
    let s := s.setRbit (regAddr r b 0x010) 1 false
    .next ((s.blockEpoch r b).blockInit r b)
  else .next s

/-- REPLY_TIMEOUT: the target region's gateway answers TIMEOUT (R457). -/
def execReplyTimeout (r : Fin 26) (s : State) : Host.Outcome State Fault Refusal :=
  if regionExists r && s.rgnRuns r then .next ((s.bump (A.gw r R.GW_REPLY_TMO)).raise r 0x3F 3) else .next s

/-- EPOCH_DISCARD: the requester's gateway discards a reply of an older epoch (R457). -/
def execEpochDiscard (r : Fin 26) (s : State) : Host.Outcome State Fault Refusal :=
  if regionExists r && s.live r then .next ((s.bump (A.gw r R.GW_EPOCH_DISCARD)).raise r 0x3F 2) else .next s

end Sys2Proof.Machine
end

