-- ==== Sys2Proof/Machine/Thermal.lean ====
section
/-! DEFINITION. Temperature and supply status (R435, R502, R503, R505, R508, R509). -/

namespace Sys2Proof.Machine

def thermStatA : Nat := A.therm R.SYS_THERM_STAT
def sensorA (n : Nat) : Nat := A.therm (R.SYS_THERM_SENSOR + 4 * n)

/-- Reading of a die sensor; none where it has failed. -/
def State.sensor (s : State) (n : Nat) : Option Int :=
  if s.rbit (sensorA n) 8 then none else some (signedOf 8 (s.fld (sensorA n) 0 8))

/-- The hottest of a list of readings. -/
def hottest : List (Option Int) → Option Int
  | [] => none
  | none :: r => hottest r
  | some t :: r =>
    match hottest r with
    | some u => some (max t u)
    | none => some t

/-- Readings of the F-die (0 to 31) and of the T-die (32 to 47). -/
def State.fdie (s : State) : List (Option Int) := (List.range 32).map s.sensor
def State.tdie (s : State) : List (Option Int) := (List.range 16).map (fun n => s.sensor (32 + n))

/-- Hottest last readout of the stacks, °C. -/
def State.hbmHottest (s : State) : Nat :=
  (List.range 4).foldl (fun t n => max t (s.fld (memA n R.MEM_STAT) 8 8)) 0

/-- A hottest-sensor field takes its value; with no working sensor its value is not stated, and is a free value. -/
def State.showHottest (s : State) (lo : Nat) (t : Option Int) : State :=
  match t with
  | some t => s.setFld thermStatA lo 8 (patternOf 8 t)
  | none => (s.setFld thermStatA lo 8 (s.freeVal 8).toNat).drawn

/-- Cores change their clock: their cycles count up to now at the old rate. -/
def State.throttleSet (s : State) (on : Bool) : State :=
  (((s.pmuAccrue 0).pmuAccrue 1).pmuAccrue 2).setRbit thermStatA 25 on

/-- WARN, on the hottest working die sensor. -/
def State.warnEval (s : State) : State :=
  match hottest (s.fdie ++ s.tdie) with
  | some t =>
    let now := decide ((s.fld (A.therm R.SYS_THERM_WARN) 0 8 : Int) ≤ t)
    (s.setRbit thermStatA 24 now).raiseIf (now && !s.rbit thermStatA 24) 0 13 0
  | none => s

/-- The throttle, on the hottest working die sensor or the hottest stack: it ends once both are 3 °C below their levels. -/
def State.throttleEval (s : State) : State :=
  let lim : Int := s.fld (A.therm R.SYS_THERM_LIM) 0 8
  let die := hottest (s.fdie ++ s.tdie)
  let hbm := s.hbmHottest
  let on := (match die with | some t => decide (lim ≤ t) | none => false) || decide (95 ≤ hbm)
  let off := (match die with | some t => decide (t ≤ lim - 3) | none => true) && decide (hbm ≤ 92)
  let was := s.rbit thermStatA 25
  if !was && on then ((s.throttleSet true).bump (A.therm R.SYS_THERM_THR_CNT)).raise 0 13 1
  else if was && off then (s.throttleSet false).raise 0 13 2
  else s

/-- The warn and throttle levels, as they stand now. -/
def State.thermEval (s : State) : State := s.warnEval.throttleEval

/-- BOOT holds before t0 of R79: a sensor below 0 °C, or after a thermal trip one above 95 °C (R505). -/
def State.bootHold (s : State) : Bool :=
  (s.fdie ++ s.tdie).any (fun t => match t with | some t => decide (t < 0) | none => false) ||
  (s.therm.tripLow && (!s.therm.sampled ||
    (s.fdie ++ s.tdie).any (fun t => match t with | some t => decide (95 < t) | none => false)))

/-- A sensor's register takes a sample. -/
def State.sensorTake (s : State) (n : Nat) (v : Option (BitVec 8)) : State :=
  match v with
  | some t => s.wr (sensorA n) (BitVec.ofNat 32 t.toNat)
  | none => s.setRbit (sensorA n) 8 true

/-- THERM_SAMPLE: the 48 die sensors in order; none for one that fails to read. -/
def execThermSample (sensors : List (Option (BitVec 8))) (s : State) : Host.Outcome State Fault Refusal :=
  if !s.awake || sensors.length != 48 then .next s
  else
    let s := (sensors.zipIdx).foldl (fun (s : State) p => s.sensorTake p.2 p.1) s
    let s := s.raiseIf (sensors.any (·.isNone)) 0 13 3
    let f := hottest s.fdie
    let t := hottest s.tdie
    let s := ((s.showHottest 0 f).showHottest 8 t).setFld thermStatA 16 8 s.hbmHottest
    let top := hottest [f, t]
    let hot := match top with | some x => decide (115 ≤ x) | none => false
    let cool := match top with | some x => decide (x < 95) | none => false
    let n := if hot then s.therm.hot + 1 else 0
    let s : State := { s with therm := { s.therm with hot := n, sampled := true, tripLow := s.therm.tripLow && !cool } }
    let s := if s.boot.dev = .boot ∧ s.boot.started = false then s.setRbit thermStatA 26 s.bootHold else s
    let s := s.warnEval
    if f.isNone || t.isNone || decide (3 ≤ n) then .next (s.chipFatal 4) else .next s.throttleEval

/-- TEMP_READOUT: none where the readout fails (R435). -/
def execTempReadout (n : Fin 4) (t : Option (Fin 256)) (s : State) : Host.Outcome State Fault Refusal :=
  let a := memA n.val R.MEM_STAT
  let x := s.stack n.val
  match t with
  | some t =>
    let hot := if 105 ≤ t.val then x.hot + 1 else 0
    let s := (s.setFld a 8 8 t.val).setStack n.val { x with
      tempFails := 0, hot := hot
      delayTemp := if delayDue x.delayTemp t.val then some t.val else x.delayTemp }
    let s :=
      if 85 < t.val then (if s.rbit a 2 then s else (s.setRbit a 2 true).memRaise n.val 1)
      else if t.val ≤ 83 then s.setRbit a 2 false
      else s
    let s := s.setFld thermStatA 16 8 s.hbmHottest
    if 3 ≤ hot ∧ s.awake = true then .next (s.chipFatal 4) else .next s.throttleEval
  | none =>
    let fails := x.tempFails + 1
    let s := s.setStack n.val { x with tempFails := fails }
    let s := if s.rbit a 2 then s else (s.setRbit a 2 true).memRaise n.val 1
    .next (s.raiseIf (fails == 3) (0x16 + n.val) 0 2)

/-- PWR_OK: every in-package rail in tolerance, and RESET_N high (R68, R499). -/
def State.pwrOk (s : State) : Bool := s.boot.rails && s.boot.resetN

/-! Pins that follow a register (R493, R497): SVC_TXDIS is low while SYS_SVC_CTRL.EN is 1, THERMTRIP_N follows R505, MOD_RST_N the boot,
and the pull-ups of MI2C are on while SYS_PWR_CTRL.MI2C_PU is 1. -/

def State.svcTxDis (s : State) : Bool := !(s.awake && s.rbit (regAddr 0 12 R.SYS_SVC_CTRL) 0)
def State.mi2cPullUp (s : State) : Bool := s.rbit (A.therm R.SYS_PWR_CTRL) 0
def State.modRstN (s : State) : Bool := s.boot.modRst
def State.thermtripN (s : State) : Bool := !s.therm.tripLow

/-- SUPPLY_STATUS_UPDATE. -/
def execSupplyStatusUpdate (x : SupplyStat) (s : State) : Host.Outcome State Fault Refusal :=
  if !s.awake then .next s
  else
    let v := x.vin12.val + x.power.val * 2 ^ 11 + (if x.vsbOk then 2 ^ 22 else 0) + (if 1140 ≤ x.vin12.val then 2 ^ 23 else 0) +
      (if s.pwrOk then 2 ^ 24 else 0) + (if x.los then 2 ^ 25 else 0)
    .next ((s.wr (A.therm R.SYS_PWR_STAT) (BitVec.ofNat 32 v)).wr (A.therm R.SYS_PWR_VSB) (BitVec.ofNat 32 x.vsb33.val))

end Sys2Proof.Machine
end

