-- ==== Sys2Proof/Machine/Bus.lean ====
section
/-! DEFINITION. The register window as a whole: what a read of any register answers and clears, what a write of any register does, in
32 or 64 bits (R5, R6, R91 to R103). A writer or reader `none` is the device itself, its loader. -/

namespace Sys2Proof.Machine

/-! ## Cause bits -/

/-- The cause bits a block defines, in its chapter's table. -/
def causeMask (region block : Nat) : Nat :=
  let low (n : Nat) : Nat := 2 ^ n - 1
  if block = 0x3F then low 4
  else match region with
  | 0 => match block with
    | 1 => low 11 | 4 => low 9 | 5 => low 2 | 6 => low 5 | 7 => low 6 | 8 => low 9 | 9 => low 17 | 10 => low 9 | 11 => low 2
    | 13 => low 5 | _ => 0
  | 1 => match block with
    | 0 => low 5 | 1 | 2 => low 6 | 3 => low 5 | 4 => low 4 | 5 => low 4 | _ => 0
  | 2 => if block < 8 then low 27 else low 2
  | 3 | 4 | 5 | 6 => if block < 4 then low 4 else if block = 9 then low 4 else if 10 ≤ block then low 8 else 0
  | 7 => match block with
    | 1 => low 5 | 3 => low 3 | 5 => low 3 | 7 => low 2 | 8 => low 2 | _ => 0
  | 8 => match block with
    | 0 => low 4 | 1 => low 2 | 2 => low 2 | _ => 0
  | 9 | 10 | 11 => if block < 4 then low 3 else if block = 5 then low 2 else if block = 7 then low 1 else 0
  | 12 => match block with
    | 0 => low 5 | 1 => low 3 | 3 => low 2 | 4 => low 1 | _ => 0
  | 0x11 => if block ≤ 1 then low 3 else 4
  | 0x12 => match block with
    | 0 => 6 | 1 | 2 => 4 | 3 => low 3 | _ => 0
  | 0x13 => match block with
    | 0 | 1 | 2 => low 3 | 3 => low 5 | _ => 0
  | 0x14 | 0x15 => match block with
    | 0 => low 6 | 1 => low 2 | 2 => low 3 | 3 => low 3 | _ => 0
  | 0x16 | 0x17 | 0x18 | 0x19 => match block with
    | 0 => low 3 | 1 => low 9 | _ => 0
  | _ => 0

/-- A write of BCAUSE clears the bits written 1; the tie record of an array stands until its cause is cleared (R218). -/
def State.bcauseClear (s : State) (r b v : Nat) : State :=
  let a := regAddr r b 0x008
  let s := s.wr a (s.rd a &&& ~~~ BitVec.ofNat 32 v)
  if 3 ≤ r ∧ r ≤ 6 ∧ (b = 10 ∨ b = 11) ∧ natBit v 6 = true then s.wr (regAddr r b R.PIPE_ASC_TIE_REC) 0 else s

/-- A write of BCAUSE_SET: each bit the block defines is raised as its unit event would raise it. -/
def State.bcauseSet (s : State) (r b v : Nat) : State :=
  (List.range 32).foldl (fun (s : State) k => if natBit (v &&& causeMask r b) k then s.raise r b k else s) s

/-- An accepted pair for BRESET: a block that it puts in reset ends the commands its engines run. A release of a block that
was held, by this register or by BSTATUS.HELD, counts an epoch and leaves the block's memories as a reset of its region does (R95, R451). -/
def State.bresetWrite (s : State) (r b v : Nat) : State :=
  let was := s.blkHeld r b
  let s := s.cpStore 1 (regAddr r b 0x018) v
  if v = 0 ∧ was = true then
    let s : State := { s with flt := { s.flt with blockAuto := s.flt.blockAuto.filter (fun x => x != r * 64 + b) } }
    ((s.setRbit (regAddr r b 0x010) 1 false).blockEpoch r b).blockInit r b
  else if v = 1 ∧ was = false then s.blockCut r b
  else s

/-! ## Registers that show state held elsewhere -/

def boolN (b : Bool) (n : Nat) : Nat := if b then 2 ^ n else 0

/-- BSTATUS (R95): READY, HELD, CFG_LOCKED for a block that has RWL fields. -/
def State.bstatus (s : State) (r b : Nat) : Nat :=
  let held := s.blkHeld r b
  let rwl := (blockRows r b).any (fun row => row.type == .rwl || row.rwl != 0)
  boolN (!held) 0 + boolN held 1 + boolN (rwl && s.boot.imageLoaded) 2

def domStateCode : DomState → Nat
  | .free => 0 | .lock => 1 | .snow => 2

/-- TIME_DOM_STAT. -/
def State.domStat (s : State) (d : Dom) : Nat :=
  let x := s.dom d
  domStateCode x.state + boolN x.valid 2 + boolN x.quality 3 + x.fifo.length * 16 + min x.rejects 15 * 65536

/-- Word `i` of a signed 64-bit value. -/
def word64 (v : Int) (i : Nat) : Nat := patternOf 64 v / 2 ^ (32 * i) % 2 ^ 32

/-- Word `i` of TIME_WT_NOW: FRAC, NS, SEC_LO, SEC_HI. -/
def nowWord (w i : Nat) : Nat :=
  match i with
  | 0 => tvFrac w | 1 => tvNs w | 2 => tvSec w % 2 ^ 32 | _ => tvSec w / 2 ^ 32 % 65536

/-- Word `i` of an integrity-log entry. -/
def intgWord (e : IntgEntry) (i : Nat) : Nat := ([e.w0, e.w1, e.w2, e.w3].getD i 0).toNat

def State.timeView (s : State) (b off : Nat) : Option Nat :=
  let t := s.time
  match b with
  | 0 =>
    if off = R.TIME_WT_STAT then
      some (boolN (t.active == .umber) 0 + boolN t.wtValid 1 + boolN (t.cont != 0) 2 + boolN t.switchAt.isSome 3)
    else if 0x50 ≤ off ∧ off < 0x60 then some (nowWord s.wt ((off - 0x50) / 4))
    else if off = 0x60 ∨ off = 0x64 then some (word64 (divFree t.cont 65536) ((off - 0x60) / 4))
    else none
  | 1 | 2 =>
    let d : Dom := if b = 1 then .cobalt else .umber
    if off = R.TIME_DOM_STAT then some (s.domStat d)
    else if off = 0xA0 ∨ off = 0xA4 then some (word64 (s.dom d).lastOffset ((off - 0xA0) / 4))
    else if off = 0xA8 then some (patternOf 32 (s.dom d).freq)
    else none
  | 3 => if off = R.TIME_REF_STAT + 4 then t.refTick.map (fun k => (Config.refLearned k).toNat) else none
  | 4 =>
    if 0x44 ≤ off ∧ off < 0x54 then
      some (match (s.tsqOf s.tsqPort).head? with
        | some e => tsqWord e ((off - 0x44) / 4)
        | none => 0)
    else if off = 0x60 ∨ off = 0x64 then
      some (match t.loss.head? with
        | some e => lossWord e ((off - 0x60) / 4)
        | none => 0)
    else if off = R.TIME_LOSS_STAT then some (t.loss.length + t.lossOvf * 65536)
    else if off = 0x70 ∨ off = 0x74 then some (bitsWhere (fun p => !(s.tsqOf ((off - 0x70) * 8 + p)).isEmpty) 32)
    else if 0x400 ≤ off ∧ off < 0xC00 ∧ off % 32 = 24 then some (s.tsqOf ((off - 0x400) / 32)).length
    else none
  | 5 =>
    if 0x100 ≤ off ∧ off < 0x200 ∧ off % 64 = 16 then
      let l := (off - 0x100) / 64
      some (s.fld (ptmA R.TIME_PTM_STAT l) 0 16 + boolN (s.ptmRuns l) 31)
    else none
  | _ => none

/-- SYS_BOOT_STAT; SLOT, FALLBACK and FWD_READY are stored. -/
def State.bootStat (s : State) : Nat :=
  let v := (s.rd bootStatA).toNat
  devCode s.boot.dev + natField v 3 3 * 8 + boolN s.boot.health 6 + natField v 7 1 * 128 + s.boot.secFuses % 128 * 256 +
    s.boot.keyRevoked % 16 * 2 ^ 15

/-- The open update session, if any. -/
def State.session (s : State) : Option SessionSt := s.img.session

/-- SYS_IMG_STAT; REASON and the Glide phase are stored. -/
def State.imgStat (s : State) : Nat :=
  (s.rd imgStatA).toNat % 128 +
    (match s.session with
     | some x => 128 + (if x.svc then 2 else 1) * 256
     | none => 0) + boolN s.img.erasePending 10

/-- SYS_RGN_STAT r; FATAL_COUNT counts the errors of the last 60 s. -/
def State.rgnStat (s : State) (r : Nat) : Nat :=
  let v := (s.rd (rgnStatA r)).toNat
  v % 256 + min (s.within (60 * ticksPerSec) (s.rst r).fatalTicks).length 15 * 256 + natField v 12 2 * 4096

def State.sysView (s : State) (b off : Nat) : Option Nat :=
  match b with
  | 1 => if off = R.SYS_BOOT_STAT then some s.bootStat else none
  | 2 => if off = R.SYS_GSTAT then some s.gstat else none
  | 4 =>
    if 0x40 ≤ off ∧ off < 0x50 then
      some (match s.ctl.intg.head? with
        | some e => intgWord e ((off - 0x40) / 4)
        | none => 0)
    else if off = R.SYS_INTG_STAT then some (s.ctl.intg.length + s.ctl.intgOvf * 65536)
    else none
  | 5 =>
    if off = R.SYS_SNAP_STAT then
      let c := s.ctl
      some (boolN (c.snapArmed.isSome || c.snapThaw.isSome) 0 + boolN c.snapCopy.isSome 1 + boolN c.snapFrozen 2 + boolN c.snapLate 3 +
        c.snapSeq % 256 * 256)
    else none
  | 6 => if 0x204 ≤ off ∧ off < 0x268 then some (s.rgnStat ((off - 0x200) / 4)) else none
  | 8 =>
    if off = R.SYS_VER_INFL_CUR then some (s.infl s.verOdd % 2 ^ 32)
    else if off = R.SYS_VER_INFL_RET then some (s.infl (!s.verOdd) % 2 ^ 32)
    else if off = R.SYS_VER_PEND then some (if s.verOther = 2 then (s.pistePeers.filter (fun d => !s.peerDone d)).length else 0)
    else none
  | 9 =>
    if 0x40 ≤ off ∧ off < 0x80 then
      let n := (off - 0x40) / 16
      if off % 16 = 4 then some (s.ovcStat n) else if off % 16 = 12 then some (s.ovcRxlen n) else none
    else if 0x2000 ≤ off ∧ off < 0x3000 then some (s.ovcRxbuf ((off - 0x2000) / 1024) ((off - 0x2000) % 1024 / 4))
    else none
  | 10 =>
    if off = R.SYS_IMG_STAT then some s.imgStat
    else if off = R.SYS_GLIDE_QLEVEL then some s.img.queue.length
    else if off = R.SYS_SET_STAT then
      let v := (s.rd (A.img R.SYS_SET_STAT)).toNat
      some (natField v 0 1 + boolN s.brec.healthPending 1 + boolN s.img.setWrite.isSome 2 + natField v 3 2 * 8)
    else none
  | _ => none

def thrStateCode : ThrState → Nat
  | .held => 0 | .ready => 1 | .running => 2 | .waiting => 3 | .stalled => 4 | .halted => 5

/-- CPU_THR_STAT. -/
def State.thrStat (s : State) (t : Nat) : Nat :=
  let x := s.thr t
  let waits := (match x.state with | .waiting => true | _ => false)
  let ch : Nat := match x.wait with | .acq c _ => c | .recv c _ => c | _ => 0
  thrStateCode x.state + boolN (s.onThreads t) 3 +
    (x.stage.filter (·.isSome)).length * 16 + (x.recv.filter (·.isSome)).length * 128 + (if waits then ch % 65536 * 65536 else 0)

def State.cpuView (s : State) (r b off : Nat) : Option Nat :=
  if b < 4 ∧ 0x100 ≤ off ∧ off < 0x180 then some (s.thrStat (128 * (r - 9) + 32 * b + (off - 0x100) / 4))
  else if b = 6 then s.dmiView (r - 9) off
  else none

def State.queView (s : State) (r b off : Nat) : Option Nat :=
  if r = 0x11 ∧ b = 0 ∧ off = R.QUE0_SHARED_USED then some (s.sharedUsed false)
  else if r = 0x12 ∧ b = 0 ∧ off = R.QUE1_SHARED_USED then some (s.sharedUsed true)
  else if r = 0x12 ∧ b = 1 ∧ off = 0x60 then some (bitsWhere (fun p => s.portStopped p) 32)
  else if r = 0x12 ∧ b = 1 ∧ off = 0x64 then some (bitsWhere (fun p => s.portStopped (32 + p)) 32)
  else if r = 0x12 ∧ b = 1 ∧ off = 0x70 then some (bitsWhere (fun p => s.portStopped (64 + p)) 6)
  else if r = 0x12 ∧ b = 3 ∧ (off = 0x40 ∨ off = 0x44) then
    some (bitsWhere (fun j => let p := (off - 0x40) * 8 + j
      (List.range 8).any (fun c => decide (0 < s.pfcCount p c) && decide (pfcXoff (s.pfcEntry p c) ≤ s.pfcCount p c))) 32)
  else none

def State.bufView (s : State) (b off : Nat) : Option Nat :=
  match b with
  | 1 => if off = R.BUF_SPILL_FREE then some (s.buf.pageCache.length + s.buf.ringCount) else none
  | 2 => if off = R.BUF_REPL_STAT then some (s.buf.repl.length + s.buf.shares.length * 2 ^ 13) else none
  | 3 =>
    if 0x40 ≤ off ∧ off < 0x50 then
      some (match s.buf.log.head? with
        | some e => badFreeWord e ((off - 0x40) / 4)
        | none => 0)
    else if off = R.BUF_POOL_LOGSTAT then some (s.buf.log.length + s.buf.logOvf * 65536)
    else if off = R.BUF_POOL_SHARED then some s.buf.poolShares.length
    else none
  | _ => none

def State.fabView (s : State) (r b off : Nat) : Option Nat :=
  if r = 0x14 ∧ b = 1 ∧ off = R.FAB_RLY_USED then some (natSum (s.fab.relay.map (fun p => p.2.length)))
  else if r = 0x14 ∧ b = 1 ∧ off = R.FAB_SPREAD_LEVEL then some s.fab.spread.length
  else if r = 0x15 ∧ b = 2 ∧ off = R.FAB_RSQ_HELD then some (natSum (s.fab.sources.map (fun p => p.2.held.length)))
  else none

def State.memView (s : State) (n b off : Nat) : Option Nat :=
  let x := s.stack n
  if b = 1 ∧ 0x50 ≤ off ∧ off < 0x60 then
    some (match x.log.head? with
      | some e => rowLogWord e ((off - 0x50) / 4)
      | none => 0)
  else if b = 1 ∧ off = R.MEM_RH_LOGSTAT then some (x.log.length + x.logOvf * 65536)
  else none

/-- The value of a register word that shows state held elsewhere. -/
def State.derived (s : State) (r b off : Nat) : Option Nat :=
  if b = 0x3F then
    (if off = 0x40 then some (s.rcause r % 2 ^ 32) else if off = 0x44 then some (s.rcause r / 2 ^ 32) else none)
  else match r with
  | 0 => s.sysView b off
  | 1 => s.timeView b off
  | 9 | 10 | 11 => s.cpuView r b off
  | 0x11 | 0x12 => s.queView r b off
  | 0x13 => s.bufView b off
  | 0x14 | 0x15 => s.fabView r b off
  | 0x16 | 0x17 | 0x18 | 0x19 => s.memView (r - 0x16) b off
  | _ => none

/-- What a register word reads as, nothing changed by it: an unimplemented offset and a write-only register read 0 (R5, R91). -/
def State.view (s : State) (a : Nat) : Nat :=
  let r := addrRegion a
  let b := addrBlock a
  let off := addrOff a
  if off < 0x40 then
    (if off = 0x010 then s.bstatus r b
     else if off = 0x014 then s.fld (rgnStatA r) 4 4 + s.fld a 4 4 * 16
     else if off < 0x030 then (s.rd a).toNat else 0)
  else if 0x3000 ≤ off ∧ (off - 0x3000) / 0x100 < winCount r b then
    (let o := off % 0x100
     if o < 0x10 ∨ 0x80 ≤ o then (s.rd a).toNat else 0)
  else match findRow (blockRows r b) off with
  | none => 0
  | some (row, _, _) =>
    match row.type with
    | .wo => 0
    | _ =>
      match s.derived r b off with
      | some v => v
      | none => (s.rd a).toNat &&& (2 ^ 32 - 1 - row.wo)

/-! ## Reads -/

/-- Latches of R96: one for each master and block. -/
def latchKey (m : Master) (a : Nat) : Nat := masterCode m + 4 * (addrRegion a * 64 + addrBlock a)
def State.latch (s : State) (m : Master) (a : Nat) : Latch := spGet (fun _ => Latch.none_) s.ctl.latches (latchKey m a)
def State.setLatch (s : State) (m : Master) (a : Nat) (x : Latch) : State :=
  { s with ctl := { s.ctl with latches := spPut (fun _ => Latch.none_) s.ctl.latches (latchKey m a) x } }

/-- A counter of 64 bits whose low word lies at an address: a row of two words, or a row of such counters side by side. -/
def wideCounter (a : Nat) : Bool :=
  match findRow (blockRows (addrRegion a) (addrBlock a)) (addrOff a) with
  | some (row, _, k) => row.cnt && decide (2 ≤ row.w) && k % 2 == 0
  | none => false

/-- Words that a read of a word latches with it: the high word of a 64-bit counter, or the rest of a group whose description names a
latching word. -/
def latchWords (r b off : Nat) : Nat :=
  if r = 1 ∧ b = 0 ∧ off = 0x50 then 3
  else if r = 1 ∧ b = 0 ∧ off = 0x60 then 1
  else if r = 0 ∧ b = 10 ∧ off = R.SYS_SET_GEN_LO then 1
  else if wideCounter (regAddr r b off) then 1 else 0

/-- A read of an RC register clears it, but counters that stand frozen (R5, R109). BUF_CELL_MIN starts again from the free count. -/
def State.readClear (s : State) (a : Nat) : State :=
  match findRow (blockRows (addrRegion a) (addrBlock a)) (addrOff a) with
  | some (row, i, k) =>
    if row.type = .rc ∧ !(row.cnt && s.ctl.snapFrozen) = true then
      (if addrRegion a = 0x13 ∧ addrBlock a = 0 ∧ 0x50 ≤ row.off ∧ row.off < 0x5C then s.wr a (s.rd (a - 0x10))
       else if row.w = 2 ∧ k = 0 then s.wr64 a 0
       else if i < 4096 then s.wr a 0 else s)
    else s
  | none => s

/-- A read that takes something out of a queue or a log, or latches a log's head for its reader (`none`: the device's own), with its
value. -/
def State.readTake (s : State) (m : Option Master) (a : Nat) : Option (Nat × State) :=
  let r := addrRegion a
  let b := addrBlock a
  let off := addrOff a
  match r with
  | 0 => if b = 4 ∧ off = 0x40 then some (s.intgHead m) else if b = 4 ∧ off = 0x4C then some (s.intgPop m) else none
  | 1 =>
    if b = 3 ∧ off = R.TIME_TOD_RXDATA then some s.todRead
    else if b = 4 ∧ off = 0x44 then some (s.tsqHead m)
    else if b = 4 ∧ off = 0x50 then some (s.tsqPop m)
    else if b = 4 ∧ off = 0x60 then some (s.lossHead m)
    else if b = 4 ∧ off = 0x64 then some (s.lossPop m)
    else none
  | 0x13 =>
    if b = 3 ∧ off = 0x40 then some (s.poolLogHead m)
    else if b = 3 ∧ off = 0x4C then some (s.poolLogPop m)
    else if b = 4 ∧ 0x1000 ≤ off ∧ off < 0x1800 ∧ off % 8 = 0 then some (s.poolAlloc ((off - 0x1000) / 8))
    else none
  | 0x16 | 0x17 | 0x18 | 0x19 =>
    if b = 1 ∧ off = 0x50 then some (s.rhHead (r - 0x16) m) else if b = 1 ∧ off = 0x5C then some (s.rhPop (r - 0x16) m) else none
  | _ => none

/-- A word between the first and the last of a log's head that the reader has latched. -/
def State.headWord (s : State) (m : Master) (a : Nat) : Option Nat :=
  let r := addrRegion a
  let b := addrBlock a
  let off := addrOff a
  match r with
  | 0 => if b = 4 ∧ (off = 0x44 ∨ off = 0x48) then (headOf s.ctl.intgLatch (some m)).map (fun e => intgWord e ((off - 0x40) / 4)) else none
  | 1 =>
    if b = 4 ∧ (off = 0x48 ∨ off = 0x4C) then (headOf s.time.tsqLatch (some m)).map (fun e => tsqWord e ((off - 0x44) / 4)) else none
  | 0x13 =>
    if b = 3 ∧ (off = 0x44 ∨ off = 0x48) then (headOf s.buf.logLatch (some m)).map (fun e => badFreeWord e ((off - 0x40) / 4)) else none
  | 0x16 | 0x17 | 0x18 | 0x19 =>
    if b = 1 ∧ (off = 0x54 ∨ off = 0x58) then
      (headOf (s.stack (r - 0x16)).logLatch (some m)).map (fun e => rowLogWord e ((off - 0x50) / 4))
    else none
  | _ => none

/-- The word a pending latch holds for an address, and what is left of the latch. -/
def Latch.take (x : Latch) (a : Nat) : Option (Nat × Latch) :=
  if x.words.isEmpty || decide (a ≤ x.addr) || decide (x.addr + 4 * x.words.length < a) then none
  else
    let i := (a - x.addr) / 4 - 1
    some ((x.words.getD i 0).toNat, if i + 1 = x.words.length then Latch.none_ else x)

/-- A 32-bit read whose checks have passed. -/
def State.readWord (s : State) (m : Master) (a : Nat) : Nat × State :=
  match (s.latch m a).take a with
  | some (v, x) => (v, s.setLatch m a x)
  | none =>
    match s.readTake (some m) a with
    | some (v, t) =>
      if addrRegion a = 0x13 ∧ addrBlock a = 4 then (v % 2 ^ 32, t.setLatch m a ⟨a, [BitVec.ofNat 32 (v / 2 ^ 32)]⟩)
      else (v, t)
    | none =>
      let v := (s.headWord m a).getD (s.view a)
      let n := latchWords (addrRegion a) (addrBlock a) (addrOff a)
      let t := if n = 0 then s
        else s.setLatch m a ⟨a, (List.range n).map (fun i => BitVec.ofNat 32 (s.view (a + 4 * (i + 1))))⟩
      (v, t.readClear a)

/-- A low half and the high half read after it. -/
def wide (lo : Nat) (hi : Nat × State) : Nat × State := (lo + hi.1 * 2 ^ 32, hi.2)

/-- The two halves where reading the low one may take an entry. -/
def State.readWideTake (s : State) (m : Master) (a : Nat) : Option (Nat × State) → Nat × State
  | some x => if addrRegion a = 0x13 ∧ addrBlock a = 4 then x else wide x.1 (x.2.readWord m (a + 4))
  | none => wide (s.readWord m a).1 ((s.readWord m a).2.readWord m (a + 4))

/-- A 64-bit read whose checks have passed: a counter, a CP pair or an allocation at one instant, else the low word and then the
high word (R94, R96). -/
def State.readWide (s : State) (m : Master) (a : Nat) : Nat × State :=
  if wideCounter a then (s.view a + s.view (a + 4) * 2 ^ 32, s.readClear a) else s.readWideTake m a (s.readTake (some m) a)

/-- BUF block PORT answers only core threads (R267). -/
def portDenied (m : Master) (a : Nat) : Bool :=
  addrRegion a == 0x13 && addrBlock a == 4 && decide (0x40 ≤ addrOff a) && (match m with | .core _ => false | _ => true)

/-- The operation field of REGACC spells an access of JTAG: 01 a 32-bit read, 10 a 32-bit write, 11 a 64-bit write, and no other
(R92). -/
def regaccSpells (bytes : Nat) (partialBytes write : Bool) : Bool := !partialBytes && (bytes == 4 || bytes == 8 && write)

/-- The check an access fails, the rules of the block itself included. -/
def State.busCheck (s : State) (m : Master) (a bytes : Nat) (partialBytes write : Bool) : AccCode :=
  if m = .jtag ∧ !regaccSpells bytes partialBytes write then .unsupported
  else match s.accessCheck m a bytes partialBytes write with
  | .ok =>
    let r := addrRegion a
    if portDenied m a then .denied
    else if write && decide (9 ≤ r) && decide (r ≤ 11) && addrBlock a == 4 && decide (0x40 ≤ addrOff a) && !ctxMay m (r - 9) then
      .denied
    else .ok
  | c => c

/-- A read of the register window by a master. -/
def State.busRead (s : State) (m : Master) (a bytes : Nat) : Nat × State :=
  if bytes = 8 then s.readWide m a else s.readWord m a

/-! ## Writes -/

/-- The bits of a CP register at an offset, its low word's. -/
def cpMaskAt (r b off : Nat) : Option Nat :=
  if off = 0x018 then some 1
  else match findRow (blockRows r b) off with
  | some (row, _, k) => if row.type = .cp ∧ k = 0 then some row.mask else none
  | none => none

/-- A well-formed pair that has passed R101, at a CP register with rules and effects of its own (R103). A pair that only those rules
refuse keeps the old one and is not logged (assumption 74). -/
def State.cpAccept (s : State) (a v : Nat) : State :=
  let r := addrRegion a
  let b := addrBlock a
  let off := addrOff a
  if off = 0x018 then s.bresetWrite r b v
  else if r = 0 ∧ b = 1 then
    (if s.rwlLocked then s else s.cpStore 0x3FF a v)
  else if r = 0 ∧ b = 6 ∧ off = 0x40 then (if v = 0xA5C3 then s.chipReset else s)
  else if r = 0 ∧ b = 6 then s.rgnResetWrite ((off - 0x80) / 8) v
  else
    let d : Dom := if b = 1 then .cobalt else .umber
    if off = R.TIME_DOM_INCR_INT then s.cpStore 0xFF a v else s.incrFrac d v

/-- A 64-bit write of a CP register. -/
def State.cpWrite (s : State) (m : Option Master) (a mask datum : Nat) : State :=
  if cpWhole mask (datum % 2 ^ 32) (datum / 2 ^ 32) then s.cpAccept a (datum % 2 ^ 32) else s.cpRefused m a

/-- A value refused by a register's range; QUE0's and QUE1's blocks raise CFG_REFUSED (R296). -/
def State.rangeRefused (s : State) (r b : Nat) : State :=
  s.raiseIf ((r == 0x11 && decide (b ≤ 1)) || (r == 0x12 && decide (b ≤ 1))) r b 2

/-- The pools of QUE0 and QUE1 together hold at most 524,288 cells (R276). -/
def State.sharedSizeWrite (s : State) (eq : Bool) (a v : Nat) : State :=
  if 524288 < v % 2 ^ 20 + s.sharedSize (!eq) then s.raise (addrRegion a) 0 2
  else (s.wr a (BitVec.ofNat 32 (v % 2 ^ 20))).sharedLow eq

/-- A threshold of R342: M from 1 to 9, E from 1 to 15. -/
def degOk (v : Nat) : Bool := 1 ≤ v % 16 && v % 16 ≤ 9 && 1 ≤ v / 16 % 16

/-- Clear threshold `c` is not above set threshold `t`. -/
def degOrdered (c t : Nat) : Bool := c % 16 * 10 ^ (t / 16 % 16) ≤ t % 16 * 10 ^ (c / 16 % 16)

/-- A plain store of a register word: implemented bits, write-only bits apart; RWL bits keep their value once locked, and a write
that would change one of them is logged. -/
def State.storeWord (s : State) (m : Option Master) (a v : Nat) (row : RegRow) : State :=
  let v := v &&& row.mask &&& (2 ^ 32 - 1 - row.wo)
  if s.rwlLocked && row.rwl != 0 then
    let old := (s.rd a).toNat
    let s := if old &&& row.rwl = v &&& row.rwl then s else s.lockedWrite m a
    s.wr a (BitVec.ofNat 32 ((v &&& (2 ^ 32 - 1 - row.rwl)) ||| (old &&& row.rwl)))
  else s.wr a (BitVec.ofNat 32 v)

/-- Writes of TIME's registers that do more than store. -/
def State.timeHook (s : State) (m : Option Master) (b a : Nat) (row : RegRow) (i v : Nat) (store : State) : State :=
  match b with
  | 0 => if row.off = R.TIME_WT_CTRL then s.wtCtrlWrite m v else store
  | 1 | 2 =>
    let d : Dom := if b = 1 then .cobalt else .umber
    if row.off = R.TIME_DOM_MODE then s.domModeWrite d v
    else if row.off = R.TIME_DOM_SNOW then (if v % 2 ^ 18 = 0 ∨ 200000 < v % 2 ^ 18 then s else store)
    else if row.off = R.TIME_DOM_VALID then s.domValidWrite d v
    else if row.off = R.TIME_DOM_OFS_LO then (if s.domSrc d = 0 then s.wr a (BitVec.ofNat 32 v) else s)
    else if row.off = R.TIME_DOM_OFS_HI then s.ofsHi d (BitVec.ofNat 32 v)
    else if row.off = R.TIME_DOM_SETSEC_HI then s.setsecHi d v
    else if row.off = R.TIME_DOM_STEP_HI then s.stepHi d (BitVec.ofNat 32 v)
    else store
  | 3 =>
    if row.off = R.TIME_PPSOUT_CTRL then (if natField v 2 2 = 3 then s else (store.ppsArm i).ppsSync i)
    else if row.off = R.TIME_PPSOUT_OFS then store.ppsArm i
    else if row.off = R.TIME_PPSIN_CTRL ∧ natBit v 0 = true ∧ s.rbit a 0 = false then
      { store with time := { store.time with
        ppsInTick := store.time.ppsInTick.set i store.time.ticks, ppsInLost := store.time.ppsInLost.set i false } }
    else store
  | 4 => if row.off = R.TIME_PORT_TSCTRL ∧ v % 4 = 3 then s else store
  | _ => store

/-- Writes of SYS's registers that do more than store. -/
def State.sysHook (s : State) (b : Nat) (row : RegRow) (i v : Nat) (store : State) : State :=
  match b with
  | 5 => if row.off = R.SYS_SNAP_CTRL then s.snapCtrlWrite (v % 8) else store
  | 6 => if row.off = R.SYS_RGN_WL_LO ∨ row.off = R.SYS_RGN_WL_HI then store.setRbit (rgnStatA i) 13 false else store
  | 7 =>
    if row.off = R.SYS_MOD_ACC_CTRL then
      (match natField v 6 2 with
       | 1 => s.modAccStart v false
       | 2 =>
         let t := s.modAccStart v true
         if s.line.modAcc = none ∧ t.line.modAcc = some true then t.modAccSend else t
       | _ => store)
    else store
  | 8 =>
    if row.off = R.SYS_VER_CTRL then (if v % 8 = 5 then s.pauseApply else s.verCtrl (v % 8))
    else if row.off = R.SYS_VER_SEQ then s.verSeqWrite v
    else store
  | 9 =>
    if row.off = R.SYS_OVC_CTRL then s.ovcCtrlWrite i v
    else if row.off = R.SYS_OVC_TXLEN then s.ovcTxQueue i v
    else if row.off = R.SYS_OVC_RXPOP then s.ovcRxPop i v
    else store
  | 10 => if row.off = R.SYS_IMG_CTRL then s.imgCtrl v else if row.off = R.SYS_SET_CMD then s.setCmd v else store
  | 11 => if row.off = R.SYS_ATT_CMD then s.attCmd v else store
  | 13 =>
    if row.off = R.SYS_THERM_WARN then (if (s.rd (A.therm R.SYS_THERM_LIM)).toNat < v % 256 then s else store.thermEval)
    else if row.off = R.SYS_THERM_LIM then (if v % 256 < (s.rd (A.therm R.SYS_THERM_WARN)).toNat then s else store.thermEval)
    else store
  | _ => store

def State.lineHook (s : State) (b : Nat) (row : RegRow) (i v : Nat) (store : State) : State :=
  if b < 8 then
    if row.off = R.LINE_OCT_RATE then s.octRateWrite b v
    else if row.off = R.LINE_PORT_CFG then s.portCfgWrite (8 * b + i) v none
    else if row.off = R.LINE_PORT_MAXLEN then s.maxlenWrite (8 * b + i) v
    else if row.off = R.LINE_PORT_CNT_CLR then (if natBit v 0 then s.cntClear (8 * b + i) else s)
    else store
  else if row.off = R.MSEC_PORT_CFG ∧ natField v 1 2 = 3 then s
  else store

def State.pipeHook (s : State) (r b : Nat) (row : RegRow) (i v : Nat) (store : State) : State :=
  if b < 4 ∧ row.off = R.PIPE_PARSE_ENTRY then s.parseEntryWrite ((r - 3) * 4 + b) (i / 4) (i % 4) v
  else if b = 9 ∧ row.off = R.PIPE_LRN_CTRL then s.lrnCtrlWrite (r - 3) v
  else store

def State.tblHook (s : State) (b : Nat) (row : RegRow) (i v : Nat) (store : State) : State :=
  if b = 0 ∧ row.off = R.TBL_AGE_SUSPEND then s.ageSuspendWrite v
  else if b = 3 ∧ row.off = R.TBL_EM_CFG then s.emCfgWrite i v
  else store

def State.cpuHook (s : State) (r b : Nat) (row : RegRow) (i v : Nat) (store : State) : State :=
  if b < 4 ∧ row.off = R.CPU_MTIMECMP then store.timerLevel ((r - 9) * 128 + 32 * b + i)
  else if b = 4 ∧ row.off = R.CPU_CTX_CMD then s.ctxCmd (r - 9) (v % 8)
  else if b = 6 then s.dmiWrite (r - 9) row.off v store
  else if b = 7 ∧ row.off = R.CPU_PMU_CTRL then s.pmuCtrl (r - 9) (v % 8)
  else store

def State.hostHook (s : State) (b : Nat) (row : RegRow) (i v : Nat) (store : State) : State :=
  match b with
  | 0 => if row.off = R.HOST_LINK_CFG ∧ v % 4 = 3 then s else store
  | 1 => if row.off = R.HOST_DLOG_SWAP then s.dlogSwap (slLink (s.sliceEntry (v % 4096))) (v % 4096) else store
  | 3 =>
    if row.off = R.HOST_BLK_DONE ∧ i = 3 then store.blkDone
    else if row.off = R.HOST_BLK_TMO then s.blkTmoWrite v
    else store
  | _ => store

def State.bufHook (s : State) (b : Nat) (row : RegRow) (v : Nat) (store : State) : State :=
  match b with
  | 1 =>
    if row.off = R.BUF_SPILL_INIT then s.spillInit v
    else if row.off = R.BUF_SPILL_PAGES ∧ (if s.boot.h48 then 6553600 else 18874368) < v % 2 ^ 25 then s
    else store
  | 4 => s
  | _ => store

def State.fabHook (s : State) (r b : Nat) (row : RegRow) (i v : Nat) (store : State) : State :=
  if r = 0x14 ∧ b = 0 ∧ row.off = R.FAB_PISTE_CTRL then s.pisteCtrlWrite v
  else if r = 0x14 ∧ b = 0 ∧ row.off = R.FAB_PISTE_CFG then s.pisteCfgWrite i v
  else if b = 0 ∧ row.off = R.FAB_LANE_CTRL then s.laneCtrlWrite (72 * (r - 0x14) + i) v
  else if b = 3 ∧ row.off = R.FAB_LNK_DEG_SET then
    (if degOk v && degOrdered (s.rd (regAddr r 3 R.FAB_LNK_DEG_CLR)).toNat v then store else s)
  else if b = 3 ∧ row.off = R.FAB_LNK_DEG_CLR then
    (if degOk v && degOrdered v (s.rd (regAddr r 3 R.FAB_LNK_DEG_SET)).toNat then store else s)
  else store

/-- A write of a register with an effect of its own, or its plain store. -/
def State.regHook (s : State) (m : Option Master) (a : Nat) (row : RegRow) (i v : Nat) : State :=
  let r := addrRegion a
  let b := addrBlock a
  let store := s.storeWord m a v row
  match r with
  | 0 => s.sysHook b row i v store
  | 1 => s.timeHook m b a row i v store
  | 2 => s.lineHook b row i v store
  | 3 | 4 | 5 | 6 => s.pipeHook r b row i v store
  | 7 => s.tblHook b row i v store
  | 8 => if b = 2 ∧ row.off = R.SEC_LKA_PI then s.lkaPiWrite i v else store
  | 9 | 10 | 11 => s.cpuHook r b row i v store
  | 12 => s.hostHook b row i v store
  | 0x11 => if b = 0 ∧ row.off = R.QUE0_SHARED_SIZE then s.sharedSizeWrite false a v else store
  | 0x12 => if b = 0 ∧ row.off = R.QUE1_SHARED_SIZE then s.sharedSizeWrite true a v else store
  | 0x13 => s.bufHook b row v store
  | 0x14 | 0x15 => s.fabHook r b row i v store
  | 0x16 | 0x17 | 0x18 | 0x19 => if b = 1 ∧ row.off = R.MEM_RAS_CMD then s.rasCmd (r - 0x16) v else store
  | _ => store

/-- A 32-bit write of a register beyond the header and the windows, by its type (R5) and its range. -/
def State.rowWrite (s : State) (m : Option Master) (a : Nat) (row : RegRow) (i v : Nat) : State :=
  match row.type with
  | .ro | .rc => s
  | .w1c => s.wr a (s.rd a &&& ~~~ BitVec.ofNat 32 v)
  | .cp => s.cpRefused m a
  | .rwl => if s.rwlLocked then s.lockedWrite m a
            else if row.hi ≠ 0 ∧ (v &&& row.mask < row.lo ∨ row.hi < v &&& row.mask) then s
            else s.regHook m a row i v
  | .wo | .rw =>
    if row.hi ≠ 0 ∧ (v &&& row.mask < row.lo ∨ row.hi < v &&& row.mask) ∧
        ¬(row.off = R.LINE_PORT_MAXLEN ∧ addrRegion a = 2) ∧ ¬(row.off = R.HOST_BLK_TMO ∧ addrRegion a = 12) then
      s.rangeRefused (addrRegion a) (addrBlock a)
    else s.regHook m a row i v

/-- A 32-bit write of a block's header (R95). -/
def State.headerWrite (s : State) (m : Option Master) (a v : Nat) : State :=
  let r := addrRegion a
  let b := addrBlock a
  let off := addrOff a
  if off = 0x008 then s.bcauseClear r b v
  else if off = 0x00C ∨ off = 0x024 ∨ off = 0x02C then s.wr a (BitVec.ofNat 32 v)
  else if off = 0x018 ∨ off = 0x01C then s.cpRefused m a
  else if off = 0x020 ∨ off = 0x028 then s.wr a (BitVec.ofNat 32 (v % 65536))
  else if off = 0x030 then s.bcauseSet r b v
  else s

/-- A 32-bit write whose checks have passed. -/
def State.writeWord (s : State) (m : Option Master) (a v : Nat) : State :=
  let r := addrRegion a
  let b := addrBlock a
  let off := addrOff a
  if off < 0x40 then s.headerWrite m a v
  else if 0x3000 ≤ off ∧ (off - 0x3000) / 0x100 < winCount r b then
    (let w := (off - 0x3000) / 0x100
     if off % 0x100 = 0 then s.winCtrl (m.getD .jtag) r b w v else s.winWordWrite (winA r b w) (off % 0x100) (BitVec.ofNat 32 v))
  else match findRow (blockRows r b) off with
  | none => s
  | some (row, i, _) => s.rowWrite m a row i v

/-- A 64-bit write of BUF block PORT by a core thread (R267). -/
def State.portWrite (s : State) (t off datum : Nat) : State :=
  if off = R.BUF_POOL_FREE then (s.poolFree datum 0 t).blkRetry
  else if off = R.BUF_POOL_RELEASE then (s.poolRelease datum 0 t).blkRetry
  else if off = R.BUF_POOL_SHARE then s.poolShareOp datum 0 t
  else s

/-- A 64-bit write whose checks have passed: a CP register, block PORT, else the low word and then the high word (R94, R101). -/
def State.writeWide (s : State) (m : Option Master) (a datum : Nat) : State :=
  match cpMaskAt (addrRegion a) (addrBlock a) (addrOff a) with
  | some mask => s.cpWrite m a mask datum
  | none =>
    if addrRegion a = 0x13 ∧ addrBlock a = 4 ∧ 0x40 ≤ addrOff a then
      (match m with
       | some (.core t) => s.portWrite t.val (addrOff a) datum
       | _ => s)
    else (s.writeWord m a (datum % 2 ^ 32)).writeWord m (a + 4) (datum / 2 ^ 32)

/-- A write of the register window. -/
def State.busWrite (s : State) (m : Option Master) (a bytes datum : Nat) : State :=
  if bytes = 8 then s.writeWide m a datum else s.writeWord m a (datum % 2 ^ 32)

/-- A whole pair that goes bad between the source gateway and the destination: discarded, the last good pair kept, and
CP_MISMATCH_TRANSIT logged with both regions (R102). -/
def transitBad (m : Master) (a datum : Nat) : Bool :=
  masterRegion m != addrRegion a &&
  (match cpMaskAt (addrRegion a) (addrBlock a) (addrOff a) with
   | some mask => cpWhole mask (datum % 2 ^ 32) (datum / 2 ^ 32)
   | none => false)

/-! ## Commands -/

/-- REGISTER_WRITE. -/
def execRegisterWrite (x : Access) (datum : BitVec 64) (transit : Bool) (s : State) : Host.Outcome State Fault Refusal :=
  let a := x.addr.toNat
  match s.busCheck x.master a x.bytes x.partialBytes true with
  | .ok =>
    if transit && x.bytes == 8 && transitBad x.master a datum.toNat then
      .next (s.intgLog 3 a (masterCode x.master) (masterRegion x.master) (masterThread x.master))
    else .next (s.busWrite (some x.master) a x.bytes datum.toNat)
  | c => .next (s.accessRefused x.master a c)

/-- A read of the register window by a master, with its reply. -/
def State.asBusRead (s : State) (x : Access) : State :=
  let a := x.addr.toNat
  match s.busCheck x.master a x.bytes x.partialBytes false with
  | .ok => let q := s.busRead x.master a x.bytes; q.2.emit (.reply x.master q.1)
  | c => s.accessRefused x.master a c

/-- LATCH_WORD_READ. -/
def execLatchWordRead (x : Access) (s : State) : Host.Outcome State Fault Refusal := .next (s.asBusRead x)

/-- COUNTER_READ_CLEAR. -/
def execCounterReadClear (x : Access) (s : State) : Host.Outcome State Fault Refusal := .next (s.asBusRead x)

/-- A write of a window's WIN_CTRL with a CMD. -/
def State.asWin (s : State) (m : Master) (x : WinRef) (v : Word) (c : Nat) : State :=
  s.asWrite m (winA x.region x.block x.w) (fun s =>
    if x.w.val < winCount x.region x.block then s.winCtrl m x.region x.block x.w (withCmd v c) else s)

/-- WIN_READ. -/
def execWinRead (m : Master) (x : WinRef) (v : Word) (s : State) : Host.Outcome State Fault Refusal := .next (s.asWin m x v 1)
/-- WIN_WRITE. -/
def execWinWrite (m : Master) (x : WinRef) (v : Word) (s : State) : Host.Outcome State Fault Refusal := .next (s.asWin m x v 2)
/-- WIN_CLEAR. -/
def execWinClear (m : Master) (x : WinRef) (v : Word) (s : State) : Host.Outcome State Fault Refusal := .next (s.asWin m x v 3)
/-- WIN_READ_CLEAR. -/
def execWinReadClear (m : Master) (x : WinRef) (v : Word) (s : State) : Host.Outcome State Fault Refusal := .next (s.asWin m x v 8)

/-- BCAUSE_CLEAR. -/
def execBcauseClear (m : Master) (x : BlockRef) (v : Word) (s : State) : Host.Outcome State Fault Refusal :=
  .next (s.asWrite m (regAddr x.region x.block 0x008) (fun s => s.bcauseClear x.region x.block v.toNat))

/-- BCAUSE_SET. -/
def execBcauseSet (m : Master) (x : BlockRef) (v : Word) (s : State) : Host.Outcome State Fault Refusal :=
  .next (s.asWrite m (regAddr x.region x.block 0x030) (fun s => s.bcauseSet x.region x.block v.toNat))

/-- BRESET_HOLD. -/
def execBresetHold (m : Master) (x : BlockRef) (s : State) : Host.Outcome State Fault Refusal :=
  .next (s.asCpWrite m (regAddr x.region x.block 0x018) 1 (pairOf 1 1) (fun v s => s.bresetWrite x.region x.block v))

/-- BRESET_RELEASE. -/
def execBresetRelease (m : Master) (x : BlockRef) (s : State) : Host.Outcome State Fault Refusal :=
  .next (s.asCpWrite m (regAddr x.region x.block 0x018) 1 (pairOf 1 0) (fun v s => s.bresetWrite x.region x.block v))

/-- CHIP_RESET_WRITE: a 64-bit write of SYS_CHIP_RESET (R103). -/
def execChipResetWrite (m : Master) (datum : BitVec 64) (s : State) : Host.Outcome State Fault Refusal :=
  let a := A.rgn R.SYS_CHIP_RESET
  .next (s.asCpWrite m a 0xFFFFFFFF datum (fun v s => s.cpAccept a v))

/-! ## The scrubber (R102) -/

/-- CP registers whose stored words have been touched since reset: the only ones that can disagree. -/
def State.cpTouched (s : State) : List (Nat × Nat) :=
  s.regs.filterMap (fun p =>
    let a := p.1 / 8 * 8
    (cpMaskAt (addrRegion a) (addrBlock a) (addrOff a)).map (fun mask => (a, mask)))

/-- CP_SCRUB: every pair that disagrees is logged; `upset` is a stored pair that has been damaged since the last pass. -/
def execCpScrub (upset : Option CpUpset) (s : State) : Host.Outcome State Fault Refusal :=
  let s := match upset with
    | some u =>
      let a := u.addr.toNat
      match u.entry with
      | some i => if a = winA 0x14 0 0 then s.pisteUpset 0 i u.pair.toNat else if a = winA 0x15 0 0 then s.pisteUpset 1 i u.pair.toNat else s
      | none =>
      if (cpMaskAt (addrRegion a) (addrBlock a) (addrOff a)).isSome && blockExists (addrRegion a) (addrBlock a) then s.wr64 a u.pair.toNat
      else s
    | none => s
  let bad := (s.cpTouched.filter (fun q => !cpWhole q.2 (s.rd q.1).toNat (s.rd (q.1 + 4)).toNat)).eraseDups
  .next (bad.foldl (fun (s : State) q => s.intgLog 2 q.1 4 0 0) s)

end Sys2Proof.Machine
end

