-- ==== Sys2Proof/Machine/Clock.lean ====
section
/-! DEFINITION. The 1.4 GHz clock (R27, R37): what one tick does to time, and to the actions that wait for a slot of an array. -/

namespace Sys2Proof.Machine

/-- The array under an index of `State.asc`. -/
def arrOfIdx (n : Nat) : ArrayRef := ⟨⟨n / 2 % 4, Nat.mod_lt _ (by omega)⟩, n % 2 == 1⟩

/-- Requests that wait at a controller go on as their time comes (R437). -/
def State.stacksClock (s : State) : State :=
  s.mem.each.foldl (fun s p => if p.1 < 4 ∧ p.2.held ≠ [] then s.hbmDrain p.1 else s) s

/-- The clock ends for every array (R216). -/
def State.arraysClock (s : State) : State :=
  s.asc.foldl (fun s p => if s.arrWorks (arrOfIdx p.1) then s.ascClock (arrOfIdx p.1) else s) s

/-- CLOCK_TICK (R27, R37). -/
def execClockTick (s : State) : Host.Outcome State Fault Refusal :=
  if s.boot.dev = .off ∨ s.boot.dev = .reset then .next s
  else
    let s := s.arraysClock
    let s : State := { s with time := { s.time with ticks := s.time.ticks + 1 } }
    let s := s.stacksClock
    if s.live 1 then .next ((s.tickDom .cobalt).tickDom .umber).tickCont.tickRef.checkWtValid else .next s

end Sys2Proof.Machine
end

