-- ==== Sys2Proof/Machine/Loader.lean ====
section
/-! DEFINITION. What the loader applies from an image: register write lists (R78, R459), table and parse preloads (R99, R145), the TIME,
PISTE and MODX sections (R82, R304, R83) and the tile rules of TBL's list (R168). The loader is no master: it needs no rights. The RWL
lock, which begins where the image load ends, holds it too (R5). -/

namespace Sys2Proof.Machine

/-! ## Register write lists (R78) -/

/-- Where an entry, or a whole list, leaves the loader: at the next entry; at the end, that many entries long; polling at an entry since a tick;
or failed at a block of the region (0x3F where the entry addresses none). -/
inductive ListStep where
  | go (pos : Nat) (s : State)
  | ended (len : Nat) (s : State)
  | wait (pos since : Nat) (s : State)
  | fail (block : Nat) (s : State)
  deriving DecidableEq, Repr

/-- The block a failing entry addressed, or 0x3F where it addresses none of the region. -/
def failBlock (r a : Nat) : Nat := if addrRegion a = r ∧ blockExists r (addrBlock a) = true then addrBlock a else 0x3F

/-- The region's gateway answers ABSENT, or will once its fence ends. In RELEASING the region's own list goes through (R452). -/
def State.gateShut (s : State) (r : Nat) : Bool :=
  match s.rgnState r with
  | .fencing | .absent | .poweredDown => true
  | .run | .restore | .releasing => false

/-- An access of the loader gets an error completion or ABSENT: no such block, a width that does not fit, a region that has gone absent, a
block that is held. -/
def State.loaderErr (s : State) (a bytes : Nat) : Bool :=
  !blockExists (addrRegion a) (addrBlock a) || a % bytes != 0 || s.gateShut (addrRegion a) ||
  (s.blkHeld (addrRegion a) (addrBlock a) && decide (0x40 ≤ addrOff a))

/-- A pair for a CP register that R101 or the register's own rules refuse (R28, R103). -/
def State.pairRefused (s : State) (a mask datum : Nat) : Bool :=
  let v := datum % 2 ^ 32
  !cpWhole mask v (datum / 2 ^ 32) ||
  (match addrRegion a with
  | 0 =>
    if addrBlock a = 6 ∧ addrOff a = R.SYS_CHIP_RESET then v != 0xA5C3
    else if addrBlock a = 6 ∧ addrOff a ≠ 0x018 then s.rgnCmdRefused ((addrOff a - R.SYS_RGN_RESET) / 8) v
    else false
  | 1 =>
    if addrOff a = R.TIME_DOM_INCR_FRAC then !baseInRange (s.newBase (if addrBlock a = 1 then .cobalt else .umber) v) else false
  | _ => false)

/-- The address is a word of a CP register. -/
def cpWord (a : Nat) : Bool :=
  let at_ (x : Nat) : Bool := (cpMaskAt (addrRegion x) (addrBlock x) (addrOff x)).isSome
  at_ a || (a % 8 == 4 && at_ (a - 4))

/-- What a read by the loader gives. -/
def State.loaderRead (s : State) (a : Nat) : Nat × State :=
  match s.readTake none a with
  | some (v, t) => (v % 2 ^ 32, t)
  | none => (s.view a, s.readClear a)

/-- WRITE. A CP register refuses a 32-bit write; BIF = 0b11 of HOST_LINK_CFG fails the list. -/
def State.listWrite (s : State) (r pos a v : Nat) : ListStep :=
  let noBif := addrRegion a == 12 && addrBlock a == 0 && addrOff a == R.HOST_LINK_CFG && v % 4 == 3
  if addrRegion a ≠ r ∨ s.loaderErr a 4 = true ∨ cpWord a = true ∨ noBif = true then .fail (failBlock r a) s
  else .go (pos + 1) (s.busWrite none a 4 v)

/-- The complement pair of an entry would be refused. -/
def State.pairBad (s : State) (a datum : Nat) : Bool :=
  match cpMaskAt (addrRegion a) (addrBlock a) (addrOff a) with
  | some mask => s.pairRefused a mask datum
  | none => false

/-- WRITE_CP. A chip reset ends the list with everything else. -/
def State.listWriteCp (s : State) (r pos a datum : Nat) : ListStep :=
  if addrRegion a ≠ r ∨ s.loaderErr a 8 = true ∨ s.pairBad a datum = true then .fail (failBlock r a) s
  else if a = A.rgn R.SYS_CHIP_RESET then .ended (pos + 1) (s.busWrite none a 8 datum)
  else .go (pos + 1) (s.busWrite none a 8 datum)

/-- POLL: one read at each attempt; PARAM µs after the first the loader gives up. -/
def State.listPoll (s : State) (r pos a want mask param : Nat) (since : Option Nat) : ListStep :=
  if addrRegion a ≠ r ∨ s.loaderErr a 4 = true then .fail (failBlock r a) s
  else
    let q := s.loaderRead a
    let t := since.getD s.time.ticks
    if q.1 &&& mask = want then .go (pos + 1) q.2
    else if t + param * ticksPerUs ≤ s.time.ticks then .fail (failBlock r a) q.2
    else .wait pos t q.2

/-- One entry. -/
def State.listEntry (s : State) (r pos : Nat) (since : Option Nat) (e : List Byte) : ListStep :=
  let a := leAt e 0 4 % 2 ^ 26
  let d0 := leAt e 4 4
  let d1 := leAt e 8 4
  let param := leAt e 12 4
  match leAt e 0 4 / 2 ^ 28 with
  | 1 => s.listWrite r pos a d0
  | 2 => s.listWriteCp r pos a (d0 + d1 * 2 ^ 32)
  | 3 => s.listPoll r pos a d0 d1 param since
  | 4 => if param ≤ 100000 then .go (pos + 1) s else .fail 0x3F s
  | 5 => .go (if s.fld (A.boot R.SYS_BOARD) 0 16 = d0 then pos + 1 else pos + 1 + param) s
  | 15 => .ended (pos + 1) s
  | _ => .fail 0x3F s

/-- The list from an entry on; `ent` gives its entries, none past its end. -/
def listGo (ent : Nat → Option (List Byte)) (r : Nat) : Nat → Nat → Option Nat → State → ListStep
  | 0, _, _, s => .fail 0x3F s
  | n + 1, pos, since, s =>
    match ent pos with
    | none => .ended pos s
    | some e =>
      match s.listEntry r pos since e with
      | .go p t => listGo ent r n p none t
      | x => x

/-- Entries of a list that stands in an image. -/
def listEnt (b : List Byte) (i : Nat) : Option (List Byte) := if 16 * i < b.length then some ((b.drop (16 * i)).take 16) else none

/-- A region's section in an image, applied from an entry on. -/
def State.sectionRun (s : State) (img : List Byte) (r pos : Nat) (since : Option Nat) : ListStep :=
  let b := (sectionFor img 1 r).getD []
  listGo (listEnt b) r (b.length / 16 + 2) pos since s

/-! ## The rules of the tile partition (R168) -/

/-- The tiles of a function lie side by side. -/
def contiguous : List Nat → Bool
  | a :: b :: l => b == a + 1 && contiguous (b :: l)
  | _ => true

def State.tileFn (s : State) (n : Nat) : Nat := s.fld (regAddr 7 0 (R.TBL_TILE_FN + 4 * n)) 0 3

/-- Every function's tiles are contiguous, NH has 12 and DIR 8, and an enabled exact-match table names EM tiles only. -/
def State.tilesOk (s : State) : Bool :=
  let tiles (fn : Nat) : List Nat := (List.range 96).filter (fun n => s.tileFn n == fn)
  [1, 2, 3, 4, 5].all (fun fn => contiguous (tiles fn)) && (tiles 3).length == 12 && (tiles 4).length == 8 &&
  (List.range 64).all (fun t =>
    let c := s.emCfg t
    !natBit c 0 || (List.range (natField c 15 7)).all (fun j => s.tileFn (natField c 8 7 + j) == 5))

/-! ## Table preloads (R99) -/

/-- One entry through a window with CMD WRITE and VMASK 0b11; none where the window ends with an error. -/
def State.preEntry (s : State) (a table index : Nat) (e : List Byte) : Option State :=
  let r := addrRegion a
  let b := addrBlock a
  let w := (addrOff a - 0x3000) / 0x100
  let s := (List.range 32).foldl (fun (s : State) i => s.winWordWrite a (0x80 + 4 * i) (BitVec.ofNat 32 (leAt e (4 * i) 4))) s
  let s := (s.winWordWrite a 4 (BitVec.ofNat 32 index)).winWordWrite a 8 (BitVec.ofNat 32 (index / 2 ^ 32))
  let s := (s.winCtrl .jtag r b w (2 + table * 16 + 3 * 2 ^ 12)).winSettle a
  if s.fld (a + 12) 1 3 = 0 then some s else none

/-- `n` entries of a record from an index on. -/
def State.preEntries (s : State) (a table size first : Nat) (b : List Byte) : Nat → Option State
  | 0 => some s
  | n + 1 => (s.preEntries a table size first b n).bind (fun t => t.preEntry a table (first + n) ((b.drop (size * n)).take size))

/-- The address is the WIN_CTRL of a window. -/
def isWindow (a : Nat) : Bool :=
  decide (0x3000 ≤ addrOff a) && addrOff a % 0x100 == 0 &&
  decide ((addrOff a - 0x3000) / 0x100 < winCount (addrRegion a) (addrBlock a))

/-- The records of a section from an offset on whose window's region is wanted. -/
def State.preRecords (s : State) (b : List Byte) (want : Nat → Bool) : Nat → Nat → Option State
  | 0, _ => some s
  | n + 1, o =>
    if b.length < o + 32 then some s
    else
      let a := leAt b o 4 % 2 ^ 26
      let size := leAt b (o + 6) 2
      let count := leAt b (o + 16) 8
      let next := o + 32 + (size * count + 31) / 32 * 32
      if count = 0 ∨ want (addrRegion a) = false then s.preRecords b want n next
      else if !isWindow a || s.loaderErr a 4 || size < 4 || 128 < size || size % 4 != 0 || b.length < o + 32 + size * count then none
      else (s.preEntries a (leAt b (o + 4) 1) size (leAt b (o + 8) 8) (b.drop (o + 32)) count).bind (fun t => t.preRecords b want n next)

/-- Every TPRE record of an image whose window's region is wanted. -/
def State.preload (s : State) (img : List Byte) (want : Nat → Bool) : Option State :=
  ((sections img).filter (fun x => x.type == 2)).foldl (fun (o : Option State) x =>
    let b := sectionBytes img x
    o.bind (fun t => t.preRecords b want (b.length / 32 + 1) 0)) (some s)

/-! ## Parse preloads (R145) -/

/-- One pipeline's record. -/
def State.parseRecord (s : State) (i : Nat) (b : List Byte) : Option State :=
  let a := winA (pipeRegion i) (i % 4) 0
  ((s.preEntries a 0x01 4 0 b 2048).bind (fun t => t.preEntries a 0x02 8 0 (b.drop 8192) 512)).map (fun t =>
    (List.range 4).foldl (fun (t : State) k => t.parseEntryWrite i 0 k (leAt b (12288 + 2 * k) 2 % 2048)) t)

/-- The records of the pipelines below `n`: those before it, and how many they are. -/
def State.parseRecords (s : State) (b : List Byte) : Nat → Option (State × Nat)
  | 0 => some (s, 0)
  | n + 1 =>
    (s.parseRecords b n).bind (fun q =>
      if natBit (leAt b 0 2) n then
        let o := 64 + 12352 * q.2
        if b.length < o + 12352 then none else (q.1.parseRecord n (b.drop o)).map (fun t => (t, q.2 + 1))
      else some q)

def State.parsePreload (s : State) (img : List Byte) : Option State :=
  match (sections img).find? (fun x => x.type == 3) with
  | some x => (s.parseRecords (sectionBytes img x) 16).map (·.1)
  | none => some s

/-! ## What the board said (R81) -/

def bidType (b : List Byte) : Nat := leAt b 6 2
def bidPlan (b : List Byte) : Nat := leAt b 0xC 4
def bidMode (b : List Byte) : Nat := leAt b 0x10 1
def bidSize (b : List Byte) : Nat := leAt b 0x12 2

/-- The PISTE section for the plan; one of another MODE or SYSTEM_SIZE counts as none (R304). -/
def State.pisteSection (s : State) : Option (List Byte) :=
  match sectionKeyed s.boot.image 4 (bidPlan s.boot.bid) with
  | some b => if leAt b 4 1 = bidMode s.boot.bid ∧ leAt b 6 2 = bidSize s.boot.bid then some b else none
  | none => none

def State.timeSection (s : State) : Option (List Byte) := sectionKeyed s.boot.image 6 (bidPlan s.boot.bid)

/-- PLAN_UNKNOWN: HALT, or ISOLATED_OK and the fabric regions down (R87). -/
def State.planCheck (s : State) : State :=
  if s.boot.haltDue || (s.pisteSection.isSome && s.timeSection.isSome) then s
  else
    let s := (s.bootFail 0x21).bootRaise 6
    let iso := natBit s.boot.imageFlags 0
    { s with boot := { s.boot with isolated := iso, haltDue := !iso } }

/-! ## The TIME section (R43, R82) -/

/-- Every field inside its range. -/
def timeSectionOk (b : List Byte) : Bool :=
  decide (1216 ≤ b.length) && decide (leAt b 4 2 < 1024) && decide (leAt b 6 2 < 1024) &&
  [8, 9, 10, 11, 14].all (fun o => decide (leAt b o 1 ≤ 1)) && decide (10 ≤ leAt b 12 2) && decide (leAt b 12 2 ≤ 90)

/-- One domain: SERVO, its source, its anchor, the delay toward it. -/
def State.domProgram (s : State) (d : Dom) (src anchor pdly : Nat) : State :=
  let old := (s.rd (domA d R.TIME_DOM_MODE)).toNat
  let s := s.domModeWrite d (1 + src * 4 + natField old 5 2 * 32 + anchor * 65536)
  s.wr (domA d R.TIME_DOM_PDLY) (BitVec.ofNat 32 pdly)

/-- The section is applied; none where it is short or a field is out of range. -/
def State.timeApply (s : State) (b : List Byte) : Option State :=
  if timeSectionOk b then
    let me := s.deviceId
    let a := leAt b 4 2
    let c := leAt b 6 2
    let src (anchor : Nat) (o pps : Nat) : Nat := if me = anchor then (if leAt b o 1 = 0 then pps else 0) else 3
    let s := s.domProgram .cobalt (src a 10 1) (if me = a then 0 else a) (leAt b 16 4)
    let s := s.domProgram .umber (src c 11 2) (if me = c then 0 else c) (leAt b 20 4)
    let ctl := s.fld (A.wt R.TIME_WT_CTRL) 2 14 * 4
    let s := s.wtCtrlWrite none (ctl + leAt b 14 1 * 65536)
    some { s with
      boot := { s.boot with
        wtLimit := leAt b 12 2, declCobalt := me == a && leAt b 8 1 == 1, declUmber := me == c && leAt b 9 1 == 1 }
      fab := { s.fab with delays := (List.range 144).foldl (fun m l =>
        spPut (fun _ => (0, 0)) m l (leAt b (64 + 8 * l) 4, leAt b (68 + 8 * l) 4)) [] } }
  else none

/-! ## The PISTE section (R304) -/

/-- Bank 0, its configuration, the lanes' ADV and EN; none where the section breaks R300. -/
def State.pisteApply (s : State) (b : List Byte) : Option State :=
  let clen := leAt b 5 1
  if !([1, 2, 4, 8].contains clen) || decide (b.length < 640 + 576 * clen) || decide (2 < leAt b 4 1) then none
  else
    let entry (p l : Nat) : Nat := leAt b (640 + 4 * (144 * p + l)) 4
    let s := s.wr (schF 0 R.FAB_PISTE_CFG) (BitVec.ofNat 32 (clen + leAt b 4 1 * 16 + leAt b 6 2 % 2048 * 65536))
    let s := (List.range clen).foldl (fun (s : State) p => (List.range 144).foldl (fun (s : State) l =>
      (s.setTabN (0x14 + l / 72) 0 0xA0 (p * 72 + l % 72) (entry p l)).setPisteFound (l / 72) (p * 72 + l % 72) none) s) s
    let s := (List.range 144).foldl (fun (s : State) l => s.wr (laneAdvA l) (BitVec.ofNat 32 (leAt b (64 + 4 * l) 4 % 2 ^ 20))) s
    let s := (s.pisteStat 0 1 0).pisteStat 2 4 clen
    let ok := s.bankOk 0 && (List.range clen).all (fun p => (List.range 144).all (fun l => s.pisteEntryOk 0 (entry p l)))
    if ok then
      some ((List.range 144).foldl (fun (s : State) l =>
        if s.laneFitted l then s.laneCtrlWrite l ((s.rd (laneCtrlA l)).toNat ||| 1) else s) s)
    else none

/-! ## The MODX section (R83) -/

def modExpectOf (b : List Byte) (o : Nat) : ModExpect where
  role := leAt b (o + 1) 1
  flags := leAt b (o + 2) 1
  ident := leAt b (o + 3) 1
  hostIf := leAt b (o + 4) 1
  mediaIf := leAt b (o + 5) 1
  maxPower := leAt b (o + 6) 1
  lanes := leAt b (o + 7) 1
  firstLane := leAt b (o + 8) 1
  oui := leAt b (o + 9) 3

/-- The expectation for a cage; a cage without an entry expects nothing. -/
def modExpect (b : List Byte) (c : Nat) : ModExpect :=
  match (List.range (b.length / 16)).find? (fun i => leAt b (16 * i) 1 == c) with
  | some i => modExpectOf b (16 * i)
  | none => ModExpect.none_

/-- Every cage takes its expectation and is held until it is checked. -/
def State.modxLoad (s : State) : State :=
  let b := (sectionKeyed s.boot.image 5 (s.fld (A.boot R.SYS_BOARD) 0 16)).getD []
  (List.range 64).foldl (fun (s : State) c => s.setCage c { s.cage c with expect := modExpect b c, held := true }) s

end Sys2Proof.Machine
end

