-- ==== Sys2Proof/Machine/Startup.lean ====
section
/-! DEFINITION. Power, pins and start-up: the device states, slot selection, what the boot controller verifies, the order in which regions
come up, the CMIS sweep, and forwarding ready (R68 to R89, R443, R499, R500). -/

namespace Sys2Proof.Machine

def State.setBootSt (s : State) (b : BootSt) : State := { s with boot := b }

/-! ## Supplies and RESET_N (R68, R69, R499, R500) -/

/-- VSB33_RISE: the standby domain starts; the device is still OFF. -/
def execVsb33Rise (s : State) : Host.Outcome State Fault Refusal := .next (s.setBootSt { s.boot with vsb := true })

/-- VSB33_PRESENT: STANDBY, or RESET while RESET_N is low. -/
def execVsb33Present (s : State) : Host.Outcome State Fault Refusal :=
  if s.boot.vsb && !s.boot.vsbPresent then
    let s := s.setBootSt { s.boot with vsbPresent := true }
    .next (if s.boot.dev = .off then s.settle else s)
  else .next s

/-- VIN12_VALID. -/
def execVin12Valid (s : State) : Host.Outcome State Fault Refusal := .next (s.setBootSt { s.boot with vin12 := true })

/-- RAILS_IN_TOLERANCE: PWR_OK rises if RESET_N is high, and BOOT starts on that edge. -/
def execRailsInTolerance (s : State) : Host.Outcome State Fault Refusal :=
  if s.boot.vin12 && s.boot.vsb && s.boot.vsbPresent && !s.boot.rails then
    let s := s.setBootSt { s.boot with rails := true }
    .next (if s.boot.dev = .standby ∧ s.boot.resetN = true then s.settle else s)
  else .next s

/-- RESET_N_FALL: low for 10 µs. -/
def execResetNFall (s : State) : Host.Outcome State Fault Refusal :=
  if s.boot.resetN then .next (s.setBootSt { s.boot with resetN := false }).chipReset else .next s

/-- RESET_N_RISE: STANDBY, and BOOT with the edge of PWR_OK once every rail is in tolerance. -/
def execResetNRise (s : State) : Host.Outcome State Fault Refusal :=
  if s.boot.resetN then .next s
  else
    let s := s.setBootSt { s.boot with resetN := true }
    .next (if s.boot.dev = .reset then s.settle else s)

/-- VIN12_LOSS: below 10.8 V. With the rails up it is a power loss: a chip reset, then STANDBY; no fault record. -/
def execVin12Loss (s : State) : Host.Outcome State Fault Refusal :=
  let was := s.boot.rails
  let s := s.setBootSt { s.boot with vin12 := false, rails := false }
  .next (if was then s.chipReset else s)

/-- VIN12_LOW: below 11.4 V, where operation goes on; before the rails are up VIN12 no longer counts as valid. -/
def execVin12Low (s : State) : Host.Outcome State Fault Refusal :=
  if s.boot.rails then .next (s.raiseIf s.awake 0 13 4) else .next (s.setBootSt { s.boot with vin12 := false })

/-- VSB33_LOSS: OFF, every rail removed. -/
def execVsb33Loss (s : State) : Host.Outcome State Fault Refusal :=
  .next (s.setBootSt { s.boot with vsb := false, vsbPresent := false, rails := false }).chipReset

/-! ## Failure outcomes (R73, R78, R87) -/

/-- RECOVERY: SYS and the service port only, the port's registers at their reset values (R488). -/
def State.toRecovery (s : State) (code : Nat) : State :=
  let s := ((s.setBootedSlot 0).bootFail code).blockReset 0 12
  s.setBootSt { s.boot with dev := .recovery, live := 0, slot := 0 }

/-- An application failure: the candidate is FAILED with code 0x11, and the chip reset starts over. -/
def State.appFail (s : State) : State :=
  ((s.brecPut (s.brec.mark s.boot.slot 4 (some 0x11))).bootFail 0x11).chipReset

/-- FALLBACK_TAKEN, and the boot counts as a fallback. -/
def State.fallbackTaken (s : State) : State := (s.bootRaise 0).setRbit bootStatA 5 true

/-- The record of R73 step 4: the other slot is selected. -/
def BootRec.step4 (r : BootRec) (n code : Nat) : BootRec :=
  { (((r.mark n 4 (some code)).setFlag 0 false).setFlag 1 false) with sel := 3 - n, prev := 0, attempts := 0 }

/-- Step 4: the candidate failed; the other slot is tried once, unless it is EMPTY or FAILED. -/
def State.failOver (s : State) (code : Nat) : State :=
  let n := s.boot.slot
  if s.boot.triedOther then (s.brecPut (s.brec.mark n 4 (some code))).toRecovery 0x30
  else
    let st := (s.brec.slot (3 - n)).st
    let s := ((s.brecPut (s.brec.step4 n code)).bootFail code).fallbackTaken
    let s := s.setBootSt { s.boot with triedOther := true, slot := 3 - n }
    if st = 0 ∨ st = 4 then s.toRecovery 0x30 else s

/-! ## The first steps (R71, R73, R75, R79) -/

/-- Step 3: SLOT_SEL, unless it is FAILED. -/
def State.bootStep3 (s : State) : State :=
  let r := s.brec
  let n := if r.sel = 2 then 2 else 1
  let s := s.setBootSt { s.boot with slot := n }
  if (r.slot n).st = 4 then s.failOver (r.slot n).code
  else if r.step3Due then s.brecPut r.step3
  else s

/-- The slot to boot. -/
def State.selectSlot (s : State) : State :=
  let r := s.brec
  if r.recoveryReq then s.toRecovery 0x30
  else if r.fallbackReq || (r.healthPending && decide (3 ≤ r.attempts)) then
    if r.prev = 0 then (s.brecPut (r.setFlag 0 false)).bootStep3
    else
      let code := if r.fallbackReq then (r.slot r.sel).code else 0x14
      let s := ((s.brecPut (r.step2 code)).bootFail code).fallbackTaken
      s.setBootSt { s.boot with slot := if r.prev = 2 then 2 else 1 }
  else s.bootStep3

/-- The calibration record: copy 0, else copy 1, else RECOVERY. -/
def State.calLoad (s : State) (x : BootReads) : State :=
  let ok0 := !x.cal0 && Config.calibrationOk (s.calRecord false)
  let ok1 := !x.cal1 && Config.calibrationOk (s.calRecord true)
  if ok0 then s
  else
    let s := s.bootRaise 2
    if ok1 then
      let s := s.bootFail 2
      s.setBootSt { s.boot with calCopy1 := true }
    else s.toRecovery 3

def State.setLive (s : State) (r : Nat) : State := s.setBootSt { s.boot with live := natSetField s.boot.live r 1 1 }

/-- The base increment from the oscillator offset, in both domains. -/
def State.setBase (s : State) (d : Dom) (b : Nat) : State :=
  let s := (s.cpStore 0xFF (domA d R.TIME_DOM_INCR_INT) (b / 2 ^ 32)).cpStore 0xFFFFFFFF (domA d R.TIME_DOM_INCR_FRAC) (b % 2 ^ 32)
  s.setDom d { s.dom d with base := b }

/-- TIME out of reset: both domains FREE. -/
def State.timeStart (s : State) : State :=
  let b := Config.oscillatorBase (s.calRecord s.boot.calCopy1)
  let s := (s.setLive 1).regionUp 1
  if baseInRange b then (s.setBase .cobalt b).setBase .umber b else s

/-- A boot record copy that cannot be read holds nothing. -/
def State.brecUnread (s : State) (x : BootReads) : State :=
  let s := if x.brec0 then s.flashErase (brecCopyA 0) 0x8000 else s
  if x.brec1 then s.flashErase (brecCopyA 1) 0x8000 else s

/-- Steps of R79 from t0 to t0 + 40 ms. -/
def State.bootStart (s : State) (x : BootReads) : State :=
  let s := s.setRbit thermStatA 26 false
  let s := s.setBootSt { s.boot with
    started := true, startTick := s.time.ticks, setUnread := (if x.set0 then [0] else []) ++ (if x.set1 then [1] else []) }
  let s := (s.faultLoad x).brecUnread x
  let s := if s.brecInUse.isNone then (s.bootFail 1).bootRaise 1 else s
  let s := (s.identLoad x.ident).selectSlot
  if s.boot.dev = .recovery then s
  else
    let s := s.setBootSt { s.boot with modRst := true }
    let s := s.calLoad x
    if s.boot.dev = .recovery then s else s.timeStart

/-- BOOT_START: BOOT holds before it while R505 says so, and shows HOLD. -/
def execBootStart (x : BootReads) (s : State) : Host.Outcome State Fault Refusal :=
  if s.boot.dev != .boot || s.boot.started then .next s
  else if s.bootHold then .next (s.setRbit thermStatA 26 true)
  else .next (s.bootStart x)

/-- A step of R79 runs: the device boots and has not failed. -/
def State.booting (s : State) : Bool := s.boot.dev == .boot && s.boot.started

/-- The die-to-die links are up. -/
def State.setD2dDone (s : State) : State := s.setBootSt { s.boot with d2dDone := true }

/-- DIE_TO_DIE_LINK_UP. -/
def execDieToDieLinkUp (modules : Fin 17) (s : State) : Host.Outcome State Fault Refusal :=
  if s.booting && !s.boot.d2dDone then
    let s : State := { s with flt := { s.flt with d2dModules := modules, d2dCause := modules < 16 } }
    if modules.val < 15 then .next (s.toRecovery 5)
    else
      .next ((s.setLive 0x0D).setLive 0x10).setD2dDone
  else .next s

/-! ## The board identity memory (R81) -/

/-- MAGIC, CRC, the ID with its complement and zero bits, ID < SYSTEM_SIZE. -/
def bidOk (b : List Byte) : Bool :=
  let id := leAt b 8 4
  b.length == 2048 && leAt b 0 4 == 0x44425A51 && leAt b 0x7FC 4 == crc32Std (b.take 0x7FC) &&
  natField id 10 6 == 0 && natField id 26 6 == 0 && natField id 16 10 == 1023 - natField id 0 10 && decide (natField id 0 10 < bidSize b)

/-- BID_READ_DONE: the 2,048 bytes, or none where three retries failed. -/
def execBidReadDone (b : Option (List Byte)) (s : State) : Host.Outcome State Fault Refusal :=
  if s.booting && !s.boot.bidDone then
    let s := s.setBootSt { s.boot with bidDone := true }
    let f := (s.bootFail 0x20).bootRaise 5
    let bad := f.setBootSt { f.boot with haltDue := true }
    match b with
    | some b =>
      if bidOk b then
        let s := s.setBootSt { s.boot with bid := b }
        let s := s.wr (A.boot R.SYS_BOARD) (BitVec.ofNat 32 (bidType b + bidMode b % 4 * 65536))
        let s := s.wr (A.boot R.SYS_PLAN) (BitVec.ofNat 32 (bidPlan b))
        .next (s.cpStore 0x3FF (A.boot R.SYS_DEVICE_ID) (natField (leAt b 8 4) 0 10))
      else .next bad
    | none => .next bad
  else .next s

/-! ## HBM (R442, R443) -/

/-- Failed and recorded ranks of a stack, rising. -/
def badRanks (record : Nat) (x : StackCheck) : List Nat :=
  (List.range 96).filter (fun r => natBit record r || x.failed.any (fun k => k.val == r))

/-- Bad logical ranks take the spares that are left, both in ascending order. -/
def State.sparesIn (s : State) (n : Nat) : List Nat → List Nat → State
  | l :: ls, p :: ps => (s.wr (rasA n (R.MEM_REDIR + 4 * l)) (BitVec.ofNat 32 p)).sparesIn n ls ps
  | _, _ => s

/-- One stack comes up: delays at its first readout, spares for its bad ranks. -/
def State.stackUp (s : State) (n : Nat) (bad : List Nat) (x : StackCheck) : State :=
  let lost := bad.filter (fun r => decide (r < 94))
  let spares := [94, 95].filter (fun r => !bad.contains r)
  let s := (s.setLive (0x16 + n)).sparesIn n lost spares
  let s := s.setStack n { s.stack n with spares := spares.drop lost.length, delayTemp := some x.temp }
  let s := ((s.migShow n).setFld (memA n R.MEM_STAT) 8 8 x.temp).setRbit (memA n R.MEM_STAT) 0 true
  if lost.isEmpty then s else (s.bootFail 6).bootRaise 4

/-- HBM_VERIFY_DONE: `rec0` and `rec1` say that a copy of the retirement record cannot be read. -/
def execHbmVerifyDone (x0 x1 x2 x3 : StackCheck) (rec0 rec1 : Bool) (s : State) : Host.Outcome State Fault Refusal :=
  if s.booting && s.boot.d2dDone && !s.boot.hbmDone then
    let s := if rec0 then s.flashErase 0x3D020000 64 else s
    let s := if rec1 then s.flashErase 0x3D021000 64 else s
    let bits := s.recordBits
    let l := [x0, x1, x2, x3].zipIdx.map (fun p => (p.2, badRanks (natField bits (96 * p.2) 96) p.1, p.1))
    if l.any (fun p => !p.2.2.answers || decide (2 < p.2.1.length)) then .next (s.toRecovery 7)
    else
      let s := l.foldl (fun (s : State) p => s.stackUp p.1 p.2.1 p.2.2) s
      .next (s.setBootSt { s.boot with hbmDone := true })
  else .next s

/-! ## The image (R76, R79) -/

/-- IMAGE_VERIFY_DONE: the slot copied and checked; `readErr` where the flash cannot be read, `ue` where the copy meets an uncorrectable
line of HBM. -/
def execImageVerifyDone (readErr ue : Bool) (s : State) : Host.Outcome State Fault Refusal :=
  if s.booting && s.boot.hbmDone && s.boot.image.isEmpty then
    if ue then .next s.appFail
    else
      let q := s.imageLoad s.boot.slot false
      match q.2 with
      | some b =>
        if readErr then .next (q.1.failOver 0x10)
        else
          let s := (q.1.setBootedSlot q.1.boot.slot).measure b false
          .next (s.setBootSt { s.boot with image := b, imageFlags := imgFlags b })
      | none => .next (q.1.failOver 0x10)
  else .next s

/-! ## Write lists and preloads (R78, R79) -/

/-- Regions in the order of their lists; after them the preloads, and then the CPU regions. -/
def listOrder : List Nat := [0, 12, 0x0D, 0x10, 0x16, 0x17, 0x18, 0x19, 1, 0x13, 7, 8, 3, 4, 5, 6, 0x11, 0x12, 0x14, 0x15, 2]

/-- Regions that stay down: LINE, FAB0 and FAB1 in HALT, FAB0 and FAB1 under ISOLATED_OK. -/
def State.staysDown (s : State) (r : Nat) : Bool :=
  (s.boot.haltDue && r == 2) || ((s.boot.haltDue || s.boot.isolated) && (r == 0x14 || r == 0x15))

/-- What the loader does before a list. -/
def State.beforeList (s : State) (r : Nat) : State :=
  match r with
  | 0x0D => s.planCheck
  | 2 => s.modxLoad
  | _ => s

/-- What the loader does after a list; none where that fails. -/
def State.afterList (s : State) (r : Nat) : Option State :=
  match r with
  | 1 =>
    if s.boot.haltDue then some s
    else match s.timeSection with
    | some b => s.timeApply b
    | none => some s
  | 7 => if s.tilesOk then some s else none
  | 12 => some { s with host := { s.host with listApplied := true } }
  | 0x15 =>
    match s.pisteSection with
    | some b => s.pisteApply b
    | none => some s
  | _ => some s

def State.listDone (s : State) : State := s.setBootSt { s.boot with applied := s.boot.applied + 1, listPos := 0, pollTick := none }

/-- One region's list, from where the loader stands in it. -/
def State.regionList (s : State) (r : Nat) : State :=
  let s := if s.boot.listPos = 0 ∧ s.boot.pollTick = none then s.beforeList r else s
  if s.staysDown r then s.listDone
  else
    let s := s.setLive r
    match s.sectionRun s.boot.image r s.boot.listPos s.boot.pollTick with
    | .ended _ t =>
      if !t.boot.started then t
      else (match t.afterList r with
        | some u => u.listDone
        | none => t.appFail)
    | .wait p since t => t.setBootSt { t.boot with listPos := p, pollTick := some since }
    | .fail _ t => t.appFail
    | .go _ t => t

/-- Table and parse preloads, those of regions that stay down left out. -/
def State.preloads (s : State) : State :=
  match (s.preload s.boot.image (fun r => !s.staysDown r)).bind (fun t => t.parsePreload t.boot.image) with
  | some t => t.listDone
  | none => s.appFail

/-- WRITE_LIST_APPLY: the next list of R79's order, or the preloads, which come after LINE's. A list whose POLL still waits goes on at the
next command. -/
def execWriteListApply (s : State) : Host.Outcome State Fault Refusal :=
  let n := s.boot.applied
  if s.booting && !s.boot.image.isEmpty && s.boot.bidDone && decide (n < 25) then
    if n = 21 then .next s.preloads
    else .next (s.regionList (if n < 21 then listOrder.getD n 0 else 9 + (n - 22)))
  else .next s

/-- A region that stays down after start-up is POWERED_DOWN. -/
def State.leaveDown (s : State) (r : Nat) : State :=
  if s.staysDown r then
    let s := (s.setLive r).setRgnState r .poweredDown
    s.setRst r { s.rst r with fromPower := true }
  else s

/-- FW_LOAD_RELEASE: settings, firmware, RUNNING or HALT, and the health timer (R74, R383, R477). -/
def execFwLoadRelease (s : State) : Host.Outcome State Fault Refusal :=
  if s.booting && s.boot.applied == 25 && !s.boot.released then
    match s.setBoot.fwLoad s.boot.image with
    | none => .next s.appFail
    | some t =>
      let t := ((t.leaveDown 2).leaveDown 0x14).leaveDown 0x15
      .next (t.setBootSt { t.boot with
        dev := if t.boot.haltDue then .halt else .running, imageLoaded := true, released := true, health := t.brec.healthPending
        healthTick := t.time.ticks })
  else .next s

/-! ## Forwarding ready (R80, R82) -/

/-- A module in the cage of a port matched. -/
def State.portMatched (s : State) (p : Nat) : Bool :=
  match s.laneCage p with
  | some c => s.fld (A.boot (R.SYS_MOD_RESULT + 4 * c)) 0 4 == 0 && s.boot.swept
  | none => false

/-- The port's module has reported a fault. -/
def State.portFaulty (s : State) (p : Nat) : Bool :=
  match s.laneCage p with
  | some c => (s.cage c).held || s.rbit (A.modm (R.SYS_MOD_FLAGS + 4 * c)) 1
  | none => false

def fwdLateA (p : Nat) : Nat := A.boot (R.SYS_FWD_LATE_LO + 4 * (p / 32))
def State.portLate (s : State) (p : Nat) : Bool := s.rbit (fwdLateA p) (p % 32)

/-- A port no longer holds FWD_READY back. -/
def State.portReady (s : State) (p : Nat) : Bool :=
  !(s.portEn p && s.portMatched p) || s.portState p == .up || s.portFaulty p || s.portLate p

/-- An F-lane is aligned at every USED position. -/
def State.laneReady (s : State) (l : Nat) : Bool :=
  let b := s.activeBank
  (List.range (cfgClen (s.pisteCfg b))).all (fun p => !pisUsed (s.piste b p l) || (s.lslot l p).aligned)

/-- Every fitted F-lane is aligned at every USED position, or has spent its wait. -/
def State.lanesReady (s : State) : Bool :=
  (List.range 144).all (fun l => !s.laneFitted l || s.laneReady l || s.boot.lanesLate.contains l)

/-- FWD_READY: raised once. -/
def execFwdReady (s : State) : Host.Outcome State Fault Refusal :=
  if s.boot.dev == .running && s.time.wtValid && s.boot.swept && !s.rbit bootStatA 7 &&
      (s.boot.isolated || s.lanesReady) && (List.range 64).all s.portReady then
    let ms := (divFree (s.time.ticks - s.boot.startTick : Nat) (1000 * ticksPerUs)).toNat
    .next (((s.setRbit bootStatA 7 true).wr (A.boot R.SYS_BOOT_TIME) (BitVec.ofNat 32 ms)).bootRaise 10)
  else .next s

/-- FWD_WAIT_EXPIRY. -/
def execFwdWaitExpiry (x : FwdWait) (s : State) : Host.Outcome State Fault Refusal :=
  if s.boot.dev == .running && s.boot.swept && !s.rbit bootStatA 7 then
    match x with
    | .lane l =>
      .next (if !s.laneFitted l || s.laneReady l || s.boot.lanesLate.contains l.val then s
        else s.setBootSt { s.boot with lanesLate := s.boot.lanesLate ++ [l.val] })
    | .port p => .next (if s.portReady p then s else s.setRbit (fwdLateA p) (p.val % 32) true)
  else .next s

/-- WT_LATE: WT_LIMIT seconds after RUNNING. -/
def execWtLate (s : State) : Host.Outcome State Fault Refusal :=
  if s.boot.dev == .running && !s.time.wtValid && !s.boot.wtLate && s.boot.wtLimit != 0 then
    let s := (s.bootFail 0x23).bootRaise 8
    .next (s.setBootSt { s.boot with wtLate := true })
  else .next s

/-- DECLARE_FIRST: the anchor's own domain has taken its first accepted offset and its seconds load. -/
def execDeclareFirst (d : Dom) (s : State) : Host.Outcome State Fault Refusal :=
  let due := match d with | .cobalt => s.boot.declCobalt | .umber => s.boot.declUmber
  if due && (s.dom d).tookOffset && (s.dom d).secLoaded then
    let s := match d with
      | .cobalt => s.setBootSt { s.boot with declCobalt := false }
      | .umber => s.setBootSt { s.boot with declUmber := false }
    .next (s.setValid d)
  else .next s

end Sys2Proof.Machine
end

