-- ==== Sys2Proof/Machine/Modules.lean ====
section
/-! DEFINITION. Modules (R83 to R85, R132 to R134): the CMIS sweep, the polls, and the end of a CMIS access. -/

namespace Sys2Proof.Machine

/-! ## The CMIS sweep (R83 to R85) -/

/-- Place of the first application that fits, counted from 1. -/
def appFor (e : ModExpect) (apps : List ModApp) : Option Nat :=
  (apps.findIdx? (fun x => x.host.val == e.hostIf && x.media.val == e.mediaIf && x.lanes.val == e.lanes)).map (· + 1)

/-- The result of a cage (R84), and the application where it is 0. -/
def cageResult (e : ModExpect) : CageRead → Nat × Nat
  | .absent => (if natBit e.flags 0 then 1 else 2, 0)
  | .unreadable => (if e.role = 0 then 8 else 3, 0)
  | .module_ ident apps power oui =>
    if e.role = 0 then (8, 0)
    else if ident.val ≠ e.ident then (4, 0)
    else match appFor e apps with
      | none => (5, 0)
      | some k =>
        if e.maxPower < power.val then (6, 0)
        else if natBit e.flags 1 = true ∧ oui.toNat ≠ e.oui then (7, 0)
        else (0, k)

/-- Nothing is in the cage. -/
def cageAbsent : CageRead → Bool
  | .absent => true
  | _ => false

/-- F-lanes of a cage follow its hold. -/
def State.cageLanes (s : State) (c : Nat) : State :=
  let e := (s.cage c).expect
  if e.role = 2 then
    (List.range e.lanes).foldl (fun (s : State) j => if e.firstLane + j < 144 then s.laneSync (e.firstLane + j) else s) s
  else s

/-- One cage is checked. -/
def State.cageCheck (s : State) (c : Nat) (x : CageRead) : State :=
  let q := cageResult (s.cage c).expect x
  let s := s.setCage c { s.cage c with present := !cageAbsent x, checkDue := false }
  let v := q.1 + boolN (!cageAbsent x) 4 + boolN (q.1 == 0) 5
  let s := s.wr (A.boot (R.SYS_MOD_RESULT + 4 * c)) (BitVec.ofNat 32 v)
  let s := if q.1 = 0 then s.emit (.moduleUp c q.2) else s
  let s := (s.cageHold c (q.1 != 0)).cageLanes c
  if q.1 = 0 ∨ q.1 = 2 then s else (s.bootFail 0x22).bootRaise 7

/-- CMIS_SWEEP: after the release of firmware all 64 cages, one not listed being empty; later the cages whose check is due. -/
def execCmisSweep (checks : List CageCheck) (s : State) : Host.Outcome State Fault Refusal :=
  if !s.boot.released then .next s
  else if s.boot.swept then
    .next (checks.foldl (fun (s : State) x => if (s.cage x.cage).checkDue then s.cageCheck x.cage x.read else s) s)
  else
    let s := if s.boot.haltDue then s.modxLoad else s
    let found (c : Nat) : CageRead := match checks.find? (fun x => x.cage.val == c) with | some x => x.read | none => .absent
    let s := (List.range 64).foldl (fun (s : State) c => s.cageCheck c (found c)) s
    .next (s.setBootSt { s.boot with swept := true })

/-! ## Polls and accesses (R132 to R134) -/

/-- What a read shows of the module's state: ModuleFault, newly reported, holds the cage and raises MOD_FAULT (R133). -/
def State.modFault (s : State) (c : Nat) (fault : Bool) : State :=
  let was := (s.cage c).faulty
  let s := s.setCage c { s.cage c with faulty := fault }
  if fault && !was then (((modEvt s c).cageHold c true).cageLanes c).raise 0 7 3 else s

/-- One cage of a poll: insertion and removal start the check of R85; that of an empty cage is done at once. -/
def State.pollCage (s : State) (q : ModPoll) : State :=
  let c := q.cage.val
  let x := s.cage c
  if q.ack then
    let s :=
      if x.present then s.setCage c { x with missed := 0 }
      else (modEvt (s.setCage c { x with present := true, missed := 0, checkDue := true }) c).raise 0 7 0
    (s.modFlags c q.flags).modFault c q.fault
  else if x.present && decide (2 ≤ x.missed) then
    ((modEvt (s.setCage c { x with missed := 0, faulty := false }) c).raise 0 7 1).cageCheck c .absent
  else s.setCage c { x with missed := if x.present then x.missed + 1 else 0 }

/-- MOD_POLL. -/
def execModPoll (polls : List ModPoll) (s : State) : Host.Outcome State Fault Refusal := .next (polls.foldl State.pollCage s)

/-- The bytes an access has read: in ACC_DATA, its flags kept, the module's state taken where it is among them (R133). -/
def State.modAccTake (s : State) (r : ModReply) : State :=
  let c := s.fld (A.modm R.SYS_MOD_ACC_CTRL) 0 6
  let s := (s.putArray (A.modm R.SYS_MOD_ACC_DATA) (r.data.take (s.fld (A.modm R.SYS_MOD_ACC_LEN) 0 8))).modFlags c r.flags
  match r.fault with
  | some f => s.modFault c f
  | none => s

/-- MOD_ACC_DONE: the access ends (R133, R134). -/
def execModAccDone (r : ModReply) (s : State) : Host.Outcome State Fault Refusal :=
  match s.line.modAcc with
  | some write =>
    let s : State := ({ s with line := { s.line with modAcc := none } } : State).setRbit accStatA 0 false
    if r.ack then .next ((if write then s else s.modAccTake r).raise 0 7 4)
    else .next ((s.setFld accStatA 1 3 1).raise 0 7 5)
  | none => .next s

end Sys2Proof.Machine
end

