-- ==== Sys2Proof/Machine/Processor.lean ====
section
/-! DEFINITION. The processor port and the other device units that write channels: PORT_RX, PORT_TX and learn-record descriptors
(R199, R393 to R395). -/

namespace Sys2Proof.Machine

/-- A byte list extended with zeros to `n` bytes. -/
def padTo (n : Nat) (l : List Byte) : List Byte := l ++ List.replicate (n - l.length) 0

/-- A PORT_RX descriptor (R394). -/
def State.portRxDesc (s : State) (k : Pkt) (pipeline addr : Nat) : List Byte :=
  padTo 64 ([1, if k.bad then 1 else 0] ++ leBytes 2 k.bytes.length ++ leBytes 4 pipeline ++ leBytes 8 addr ++
    leBytes 8 (tvSec s.wt) ++ leBytes 4 (tvNs s.wt))

/-- The unit's own counter for a descriptor whose channel is not enabled or absent: exception packets in their ingress pipeline
(R153), others in GW_ABSENT_DROP of the egress pipeline's region (R456). -/
def State.procAbsent (s : State) (k : Pkt) (i : Nat) : State :=
  if k.exc.isSome then (s.bump (A.ip k.seq (R.PIPE_EXC_CNT + 12))).raise (pipeRegion k.seq) (k.seq % 4) 1
  else s.absentDrop (pipeRegion i)

/-- A packet for channel `c` from egress pipeline `i`. -/
def State.portRx (s : State) (k : Pkt) (i c : Nat) : State :=
  let e := s.chEntry c
  if 49152 ≤ c ∨ s.chAbsent c = true ∨ chEn e = false ∨ chKind e ≠ 1 then s.procAbsent k i
  else if !s.creditFree c then s.chDrop c 128
  else
    let b := s.poolAlloc (chPool e)
    if b.1 = 0 then b.2
    else
      let size := match b.2.poolOf b.1 with | some p => pdSize (b.2.poolDesc p) | none => 0
      if size < 128 + k.bytes.length then (b.2.poolFree b.1 4 0).chDrop c 144
      else if b.2.hbmRangeDown b.1 (128 + k.bytes.length) then (b.2.poolFree b.1 4 0).absentDrop (9 + chRegion c)
      else
        let s := b.2.hbmStore b.1 (padTo 128 (k.hv.take 128) ++ k.bytes)
        (s.chDevice c 1 (s.portRxDesc k i b.1)).2

/-- DEVICE_CHANNEL_WRITE: the oldest packet on its way to the processor port. -/
def execDeviceChannelWrite (s : State) : Host.Outcome State Fault Refusal :=
  match s.que.procOut with
  | [] => .next s
  | x :: r =>
    let s : State := { s with que := { s.que with procOut := r } }
    let c := match x.pkt.dest with | .processor c => c | _ => 0
    .next ((s.portRx x.pkt x.port c).dropPkt x.pkt)

/-- The buffer of a dropped or finished PORT_TX descriptor goes back to its pool with FREE_EN = 1. -/
def State.portTxFree (s : State) (d : List Byte) : State :=
  if natBit (d.getD 1 0).toNat 0 then s.poolFree (leNat ((d.drop 8).take 8)) 4 0 else s

/-- What the processor port does with a descriptor of channel `c` (R395). -/
def State.portTx (s : State) (c : Nat) (d : List Byte) : State :=
  let type := (d.getD 0 0).toNat
  let n := leNat ((d.drop 2).take 2)
  let a := leNat ((d.drop 8).take 8)
  if ¬(type = 2 ∨ type = 3) ∨ n < 14 ∨ 16380 < n ∨ poolMemory a n = false then (s.portTxFree d).chDrop c 160
  else if s.hbmRangeDown a n then (s.portTxFree d).absentDrop (9 + chRegion c)
  else
    let tag := if natBit (d.getD 1 0).toNat 1 then some (leNat ((d.drop 4).take 4)) else none
    let k : Pkt := { Pkt.empty with bytes := s.hbmBytes a n, port := 68, kind := 2, qp := c, tag := tag }
    let i := c % 16
    let p := s.pipe i
    if type = 2 then (s.setPipe i { p with procIn := p.procIn ++ [k] }).portTxFree d
    else
      let w := leNat ((d.drop 16).take 4)
      let odd := s.verOdd
      let k := { k with
        odd := odd, accepted := s.wt, dest := .unicast (natField w 0 17), tc := natField w 17 3
        rewrite := natField (leNat ((d.drop 20).take 3)) 0 20 }
      ((s.setPipe i { p with toBuf := p.toBuf ++ [k] }).inflAdd odd).portTxFree d

/-- PORT_TX_PROCESS: the oldest descriptor of an enabled channel of KIND PORT_TX. -/
def execPortTxProcess (c : Fin 49152) (s : State) : Host.Outcome State Fault Refusal :=
  let e := s.chEntry c.val
  if s.chAbsent c.val = true ∨ s.meets (pipeRegion (c.val % 16)) (c.val % 16 % 4) = true ∨ chEn e = false ∨ chKind e ≠ 2 ∨
      (s.chan c.val).fill = 0 ∨ s.hbmRangeDown (chBase e) (64 * chSize e) then .next s
  else
    let r := s.chTake c.val
    .next (r.2.portTx c.val r.1)

/-- NOTE_POST: a learn-record descriptor leaves with four records, or 10 µs after its first. -/
def execNotePost (r : Fin 4) (s : State) : Host.Outcome State Fault Refusal :=
  let x := s.lrn r.val
  if x.notes.isEmpty ∨ (x.notes.length < 4 ∧ s.time.ticks < x.noteTick + 10 * ticksPerUs) then .next s
  else
    let l := x.notes.take 4
    let s := s.setLrn r.val { x with notes := x.notes.drop 4, noteTick := s.time.ticks }
    let p := s.chDevice (s.fld (lrnA r.val R.PIPE_LRN_CTRL) 16 16) 3 (padTo 64 l.flatten)
    match p.1 with
    | .posted => .next p.2
    | _ => .next ((l.foldl (fun s _ => s.lrnDrop r.val 3) p.2).raise (3 + r.val) 9 2)

end Sys2Proof.Machine
end

