-- ==== Sys2Proof/Machine/Release.lean ====
section
/-! DEFINITION. The end of a region's release: its write list, its preloads after a power-down, and RUN with the ready event (R453, R459,
R460, R485). -/

namespace Sys2Proof.Machine

/-- SYS_RGN_WL r: where the region's own list stands, 0 for the image's. -/
def State.listAt (s : State) (r : Nat) : Nat := s.rd64 (A.rgn (R.SYS_RGN_WL_LO + 8 * r))

/-- System memory (R431). -/
def inSysMem (a : Nat) : Bool := 0x0800000000 ≤ a && a < 0x0880000000

/-- Entries of a list in system memory; one outside it, or in a stack that does not serve, has no OP. -/
def State.memEnt (s : State) (a i : Nat) : Option (List Byte) :=
  let x := a + 16 * i
  if inSysMem x && inSysMem (x + 15) && !s.hbmDown x && !s.hbmDown (x + 15) then some (s.hbmBytes x 16) else some (List.replicate 16 0)

/-- The region's list: its entries, and how many the loader can meet at most. -/
def State.rgnList (s : State) (r : Nat) : (Nat → Option (List Byte)) × Nat :=
  let a := s.listAt r
  if a = 0 then
    let b := (sectionFor s.boot.image 1 r).getD []
    (listEnt b, b.length / 16 + 2)
  else (s.memEnt a, 2 ^ 27 + 2)

/-- The first `n` entries of a list as bytes. -/
def listBytes (ent : Nat → Option (List Byte)) : Nat → List Byte
  | 0 => []
  | n + 1 => listBytes ent n ++ (ent n).getD []

/-- M5 takes a list that has been applied. -/
def State.extendList (s : State) (l : List Byte) : State :=
  if l.isEmpty then s
  else { s with img := { s.img with m5 := shake256 (s.img.m5 ++ 2 :: shake256 l 64) 64 } }

/-- A write list or a preload that fails: ABSENT, class 3, never the same list again (R459). -/
def State.listFails (s : State) (r block : Nat) : State := (s.regionFatal r block 3).setRbit (rgnStatA r) 13 true

/-- Preloads of a region that comes back from POWERED_DOWN (R460); they are exempt from R232. -/
def State.rgnPreload (s : State) (r : Nat) : Option State :=
  if (s.rst r).fromPower then
    let dev := s.boot.dev
    ((s.setDev .boot).preload s.boot.image (fun x => x == r)).map (fun t => t.setDev dev)
  else some s

/-- The list has ended: tile rules, measurement, preloads, then RESTORE or RUN. -/
def State.listEnds (s : State) (r : Nat) (l : List Byte) : State :=
  let s := s.setRst r { s.rst r with listPos := 0, pollTick := none }
  if r = 7 ∧ s.tilesOk = false then s.listFails r 0
  else
    match (s.extendList l).rgnPreload r with
    | none => s.listFails r 0x3F
    | some t => if t.rbit (policyA r) 1 then t.setRgnState r .restore else t.regionRun r

/-- Where the loader leaves the write list of a region under release: at its end, at a POLL that waits, or at a failed entry (R459). -/
def listFinish (r : Nat) (list : Nat → Option (List Byte)) : ListStep → State
  | .ended n t => t.listEnds r (listBytes list n)
  | .wait p since t => t.setRst r { t.rst r with listPos := p, pollTick := some since }
  | .fail b t => (t.setRst r { t.rst r with listPos := 0, pollTick := none }).listFails r b
  | .go _ t => t

/-- The loader goes on with the write list of a region under release, as far as it gets (R78, R459). -/
def State.listRun (s : State) (r : Nat) (q : (Nat → Option (List Byte)) × Nat) (t : RegionSt) : State :=
  listFinish r q.1 (listGo q.1 r q.2 t.listPos t.pollTick s)

/-- REGION_READY: the write list of a region in RELEASING is applied; one whose POLL still waits goes on at the next command. -/
def execRegionReady (r : Fin 26) (s : State) : Host.Outcome State Fault Refusal :=
  if s.live r ∧ s.rgnState r = .releasing then .next (s.listRun r (s.rgnList r) (s.rst r)) else .next s

end Sys2Proof.Machine
end

