-- ==== Sys2Proof/Machine/Retire.lean ====
section
/-! DEFINITION. The commit instant and retirement (spec 09, R234 to R238). -/

namespace Sys2Proof.Machine

/-- The sealed version becomes current at `t`: the former one retires, SEQ goes on, every peer has yet to announce. -/
def State.commitNow (s : State) (t : Nat) : State :=
  let n := (s.verSeqNow + 1) % 65536
  let s := ((s.setRbit verStatA 0 !s.verOdd).setVerOther 2).setFld verStatA 16 16 n
  let s := s.wr (A.ver R.SYS_VER_SEQ) (BitVec.ofNat 32 n)
  let s : State := { s with ver := { s.ver with
    commitAt := none, lastT := t, lateRaised := false, peers := [], skewed := [], cond2At := none } }
  let s := if s.cond2 then { s with ver := { s.ver with cond2At := some t } } else s
  s.verRaise 0

/-- COMMIT_INSTANT: on the tick of the commit instant. -/
def execCommitInstant (s : State) : Host.Outcome State Fault Refusal :=
  match s.ver.commitAt with
  | some t => if s.instantDue t then .next (s.commitNow t) else .next s
  | none => .next s

/-- Conditions 2 and 3 of R238; they do not apply while the fabric regions are down under ISOLATED_OK. -/
def State.peersDrained (s : State) : Bool :=
  s.boot.isolated ||
  s.cond2 &&
  (match s.ver.cond2At with
   | some t => decide (t + 3 * s.cycleLen * lsbSlot + s.fld (A.ver R.SYS_VER_PROP) 0 17 * lsbNs ≤ s.wt)
   | none => false)

/-- RETIRE: every condition of R238 holds. -/
def execRetire (s : State) : Host.Outcome State Fault Refusal :=
  if s.verOther == 2 && s.infl (!s.verOdd) == 0 && s.peersDrained then .next (s.verRetired false) else .next s

end Sys2Proof.Machine
end

