-- ==== Sys2Proof/Machine/Seconds.lean ====
section
/-! DEFINITION. The per-second latch of LINE and of the F-lanes, and degraded signal (R20, R120, R342 to R344). -/

namespace Sys2Proof.Machine

def saturate32 (n : Nat) : Nat := min n (2 ^ 32 - 1)

/-- One live counter's count of the second that ended, saturating, in its per-second register. -/
def State.secLatch (s : State) (live dst : Nat) : State :=
  let now := s.rd64 live
  let base := spGet (fun _ => 0) s.line.secBase live
  let s : State := { s with line := { s.line with secBase := spPut (fun _ => 0) s.line.secBase live now } }
  s.wr dst (BitVec.ofNat 32 (saturate32 ((now + 2 ^ 64 - base) % 2 ^ 64)))

/-- A line port with its lane of the same number. -/
def State.portSecond (s : State) (p : Nat) : State :=
  ((s.secLatch (portA p R.LINE_PORT_FEC_CORR) (portA p R.LINE_PORT_SEC_CORR)).secLatch
    (portA p R.LINE_PORT_FEC_UNCORR) (portA p R.LINE_PORT_SEC_UNCORR)).secLatch
    (laneA p R.LINE_LANE_SYM) (laneA p R.LINE_LANE_SEC_SYM)

/-- SER of a second against a threshold: whether it lies above (`up`) or below it. Counts are in the order of FAB_LNK_SEC_CORR on. -/
def serTest (sec : List Nat) (threshold : Nat) (up : Bool) : Bool :=
  let errors := (sec.getD 0 0 + 16 * sec.getD 1 0) * 10 ^ natField threshold 4 4
  let bound := natField threshold 0 4 * 21216 * sec.getD 5 0
  if up then decide (bound < errors) else decide (errors < bound)

/-- A lane enters or leaves degraded signal. -/
def State.setDeg (s : State) (l : Nat) (on : Bool) : State :=
  let f := l / 72
  let j := l % 72
  let s := (s.setRbit (lnkStatA l) 16 on).setRbit (flkA f (R.FAB_LNK_DEG + 4 * (j / 32))) (j % 32) on
  (s.laneSync l).raise (0x14 + f) 3 (if on then 0 else 1)

/-- The degraded-signal test of an evaluated second. -/
def State.degEval (s : State) (l : Nat) : State :=
  let f := l / 72
  let x := s.lane l
  let deg := s.laneDeg l
  let threshold := (s.rd (flkA f (if deg then R.FAB_LNK_DEG_CLR else R.FAB_LNK_DEG_SET))).toNat
  let run := if serTest x.sec threshold (!deg) then x.run + 1 else 0
  if s.fld (flkA f R.FAB_LNK_DEG_N) 0 4 ≤ run then (s.setLane l { x with run := 0 }).setDeg l (!deg)
  else s.setLane l { x with run := run }

/-- One F-lane: its counts are shown, the test is made where it received a slot, and the next second counts from 0. -/
def State.laneSecond (s : State) (l : Nat) : State :=
  let x := s.lane l
  let s := (List.range 6).foldl (fun (s : State) i =>
    s.wr (lnkCntA l (R.FAB_LNK_SEC_CORR + 4 * i)) (BitVec.ofNat 32 (saturate32 (x.sec.getD i 0)))) s
  let s := if 0 < x.sec.getD 5 0 then s.degEval l else s
  s.setLane l { s.lane l with sec := FLaneSt.reset.sec }

/-- PER_SECOND_LATCH: at each whole second of working time, once it is valid (R23). -/
def execPerSecondLatch (s : State) : Host.Outcome State Fault Refusal :=
  if s.time.wtValid ∧ s.time.nextSecond * lsbSec ≤ s.wt then
    let s : State := { s with time := { s.time with nextSecond := s.time.nextSecond + 1 } }
    let s := if s.rgnAbsent 2 then s else (List.range 64).foldl State.portSecond s
    .next ((List.range 144).foldl (fun (s : State) l => if s.rgnAbsent (0x14 + l / 72) then s else s.laneSecond l) s)
  else .next s

end Sys2Proof.Machine
end

