-- ==== Sys2Proof/Machine/Service.lean ====
section
/-! DEFINITION. The service port: its frames, messages and update session (R471 to R473, R484, R487). -/

namespace Sys2Proof.Machine

def svcCntA (r : Nat) : Nat := regAddr 0 12 (R.SYS_SVC_CNT + 4 * r)

/-- The port answers: in every state but OFF and RESET, and while EN is 1. -/
def State.svcUp (s : State) : Bool := s.awake && s.rbit (regAddr 0 12 R.SYS_SVC_CTRL) 0

/-- A reply, counted. -/
def State.svcAnswer (s : State) (type : Nat) (h : SvcHead) (st : Nat) (body : List Byte) : State :=
  let s := s.bump (svcCntA 1)
  let s := if st = 2 then s.bump (svcCntA 3) else s
  s.emit (.svcReply (type + 128) h.seq.toNat h.session.toNat st body)

/-- A message of a TYPE: counted, and answered BAD_REQUEST where its length is wrong or a reserved field is not 0, among them the SESSION
of a message that belongs to none. -/
def State.svcMsg (s : State) (type : Nat) (h : SvcHead) (body : List Byte) (lengthOk inSession : Bool) (f : State → State) : State :=
  if s.svcUp then
    let s := s.bump (svcCntA 0)
    if !lengthOk || h.reserved != 0 || (!inSession && h.session != 0) || decide (1040 < body.length) then s.svcAnswer type h 2 []
    else f s
  else s

/-! ## Status and registers -/

/-- SVC_STATUS. -/
def execSvcStatus (h : SvcHead) (body : List Byte) (s : State) : Host.Outcome State Fault Refusal :=
  .next (s.svcMsg 0x01 h body body.isEmpty false (fun s =>
    s.svcAnswer 0x01 h 0 (beBytes 4 s.bootStat ++ beBytes 4 s.imgStat ++ slotBytes s.brec.a ++ slotBytes s.brec.b)))

/-- An access of the service port that R91 refuses: DENIED, or the outcome's code. One that meets a region in FENCING is held. -/
def State.svcRefused (s : State) (type : Nat) (h : SvcHead) (a : Nat) (c : AccCode) : State :=
  match c with
  | .fenced => s.accessRefused .service a c
  | .denied => (s.accessNoted .service a c).svcAnswer type h 8 []
  | _ => ((s.accessNoted .service a c).bump (svcCntA 1)).emit (.svcRegError (type + 128) h.seq.toNat c)

/-- Address and width of a register request; none where a reserved bit is set or the width is neither 4 nor 8. -/
def svcAddr (body : List Byte) : Option (Nat × Nat) :=
  let a := beNat (body.take 4)
  let w := leAt body 4 1
  if a < 2 ^ 26 ∧ (w = 4 ∨ w = 8) then some (a, w) else none

/-- SVC_REG_READ. -/
def execSvcRegRead (h : SvcHead) (body : List Byte) (s : State) : Host.Outcome State Fault Refusal :=
  .next (s.svcMsg 0x02 h body (body.length == 5 && (svcAddr body).isSome) false (fun s =>
    match svcAddr body with
    | some (a, w) =>
      match s.busCheck .service a w false false with
      | .ok => let q := s.busRead .service a w; q.2.svcAnswer 0x02 h 0 (beBytes w q.1)
      | c => s.svcRefused 0x02 h a c
    | none => s))

/-- SVC_REG_WRITE; a write of 4 bytes takes the last 4 of the data. -/
def execSvcRegWrite (h : SvcHead) (body : List Byte) (s : State) : Host.Outcome State Fault Refusal :=
  .next (s.svcMsg 0x03 h body (body.length == 13 && (svcAddr body).isSome) false (fun s =>
    match svcAddr body with
    | some (a, w) =>
      match s.busCheck .service a w false true with
      | .ok => (s.svcAnswer 0x03 h 0 []).busWrite (some .service) a w (beNat ((body.drop 5).take 8))
      | c => s.svcRefused 0x03 h a c
    | none => s))

/-! ## The update session -/

/-- The service port's own open session. -/
def State.svcSession (s : State) : Option SessionSt :=
  match s.img.session with
  | some x => if x.svc then some x else none
  | none => none

def State.setSession (s : State) (x : SessionSt) : State := { s with img := { s.img with session := some x } }

/-- An answer that the session keeps for a repeat of its SEQ. -/
def State.sessAnswer (s : State) (type : Nat) (h : SvcHead) (st : Nat) (body : List Byte) : State :=
  let s := match s.svcSession with
    | some x => s.setSession { x with lastSeq := some h.seq.toNat, reply := (st, body), tick := s.time.ticks }
    | none => s
  s.svcAnswer type h st body

/-- A message of the session: SESSION must be its number, and a repeated SEQ gets the cached reply. -/
def State.sessMsg (s : State) (type : Nat) (h : SvcHead) (f : State → SessionSt → State) : State :=
  match s.svcSession with
  | none => s.svcAnswer type h 3 []
  | some x =>
    if x.number ≠ h.session.toNat then s.svcAnswer type h 3 []
    else if x.lastSeq = some h.seq.toNat then (s.setSession { x with tick := s.time.ticks }).svcAnswer type h x.reply.1 x.reply.2
    else f s x

/-- The slot an OPEN names: the inactive slot, or in RECOVERY either. -/
def State.openSlot (s : State) (v : Nat) : Option Nat :=
  if v = 0 then some s.inactiveSlot else if (v = 1 ∨ v = 2) ∧ s.boot.dev = .recovery then some v else none

/-- SVC_OPEN: `ok` where the erase succeeds. -/
def execSvcOpen (h : SvcHead) (body : List Byte) (ok : Bool) (s : State) : Host.Outcome State Fault Refusal :=
  .next (s.svcMsg 0x10 h body (body.length == 1) false (fun s =>
    match s.img.session with
    | some x =>
      if x.svc ∧ x.lastSeq = some h.seq.toNat ∧ x.reply.2.length = 4 then
        (s.setSession { x with tick := s.time.ticks }).svcAnswer 0x10 h x.reply.1 x.reply.2
      else s.svcAnswer 0x10 h 3 []
    | none =>
      match s.openSlot (leAt body 0 1) with
      | none => s.svcAnswer 0x10 h 2 []
      | some n =>
        let id := s.img.nextSession
        let s := s.sessionOpen true 0 n
        if ok then s.sessAnswer 0x10 h 0 (beBytes 4 id) else s.sessionEnd.svcAnswer 0x10 h 6 []))

/-- A WRITE's block fits: aligned, inside the slot, and whole where a later block is there. -/
def writeFits (x : SessionSt) (ofs len : Nat) : Bool :=
  ofs % 1024 == 0 && decide (ofs + len ≤ slotLen) && (len == 1024 || x.blocks.all (fun p => decide (p.1 ≤ ofs / 1024)))

/-- SVC_WRITE: `ok` where the flash takes the data. -/
def execSvcWrite (h : SvcHead) (body : List Byte) (ok : Bool) (s : State) : Host.Outcome State Fault Refusal :=
  .next (s.svcMsg 0x11 h body (decide (5 ≤ body.length) && decide (body.length ≤ 1028)) true (fun s =>
    s.sessMsg 0x11 h (fun s x =>
      let ofs := beNat (body.take 4)
      let data := body.drop 4
      if !writeFits x ofs data.length then s.sessAnswer 0x11 h 4 []
      else if !ok then s.sessionEnd.svcAnswer 0x11 h 6 []
      else
        let s := s.flashWrite (slotA x.slot + ofs) data
        let s := s.setSession { x with blocks := spPut (fun _ => 0) x.blocks (ofs / 1024) data.length }
        s.sessAnswer 0x11 h 0 [])))

/-- SVC_CLOSE: `ok` where the boot record takes its write. -/
def execSvcClose (h : SvcHead) (body : List Byte) (ok : Bool) (s : State) : Host.Outcome State Fault Refusal :=
  .next (s.svcMsg 0x12 h body (body.length == 4) true (fun s =>
    s.sessMsg 0x12 h (fun s x =>
      let len := beNat body
      if slotLen < len ∨ blocksWhole x.blocks 1024 len ((len + 1023) / 1024) = false then s.sessAnswer 0x12 h 5 []
      else if ok then (s.sessionClose x).svcAnswer 0x12 h 0 []
      else s.sessionEnd.svcAnswer 0x12 h 6 [])))

/-- SVC_ABORT. -/
def execSvcAbort (h : SvcHead) (body : List Byte) (s : State) : Host.Outcome State Fault Refusal :=
  .next (s.svcMsg 0x13 h body body.isEmpty true (fun s => s.sessMsg 0x13 h (fun s _ => s.sessionEnd.svcAnswer 0x13 h 0 [])))

/-- SESSION_TIMEOUT: 60 s without a message. -/
def execSessionTimeout (s : State) : Host.Outcome State Fault Refusal :=
  match s.svcSession with
  | some x => if x.tick + 60 * ticksPerSec ≤ s.time.ticks then .next s.sessionEnd else .next s
  | none => .next s

/-! ## Image commands, reset and recovery -/

/-- The port's write right to SYS, under which it acts through SYS_IMG_CTRL (R93, R474). -/
def State.svcMayCtrl (s : State) : Bool := natBit (s.rights (masterCode .service) true) 0

/-- SVC_ACTIVATE. -/
def execSvcActivate (h : SvcHead) (body : List Byte) (s : State) : Host.Outcome State Fault Refusal :=
  .next (s.svcMsg 0x20 h body (body.length == 1 && leAt body 0 1 % 16 == 1) false (fun s =>
    if s.svcMayCtrl then
      let v := leAt body 0 1
      let q := (s.wr (A.img R.SYS_IMG_CTRL) (BitVec.ofNat 32 (v &&& 0x3F0))).imgRun v
      (State.imgEnd q).svcAnswer 0x20 h (if q.1 = 0 then 0 else 7) []
    else s.svcAnswer 0x20 h 8 []))

/-- SVC_RESET: the reply first. -/
def execSvcReset (h : SvcHead) (body : List Byte) (s : State) : Host.Outcome State Fault Refusal :=
  .next (s.svcMsg 0x21 h body body.isEmpty false (fun s => (s.svcAnswer 0x21 h 0 []).chipReset))

/-- SVC_RECOVERY: the reply first. A device in RECOVERY does not take it. -/
def execSvcRecovery (h : SvcHead) (body : List Byte) (s : State) : Host.Outcome State Fault Refusal :=
  .next (s.svcMsg 0x22 h body body.isEmpty false (fun s =>
    if s.boot.dev = .recovery then s.svcAnswer 0x22 h 2 []
    else if s.svcMayCtrl then
      let s := s.svcAnswer 0x22 h 0 []
      (s.brecPut (s.brec.setFlag 2 true)).chipReset
    else s.svcAnswer 0x22 h 8 []))

/-! ## Attestation -/

/-- The report held for a nonce, made within the last 10 s. -/
def State.reportHeld (s : State) (nonce : List Byte) : Option (List Byte) :=
  match s.img.report with
  | some (n, b, t) => if n = nonce ∧ s.time.ticks < t + 10 * ticksPerSec then some b else none
  | none => none

/-- A reply with a part of a report. -/
def State.attestReply (s : State) (h : SvcHead) (part : Nat) (b : List Byte) : State :=
  s.svcAnswer 0x30 h 0 (beBytes 2 b.length ++ (b.drop (1024 * part)).take 1024)

/-- SVC_ATTEST. -/
def execSvcAttest (h : SvcHead) (body : List Byte) (s : State) : Host.Outcome State Fault Refusal :=
  .next (s.svcMsg 0x30 h body (body.length == 33) false (fun s =>
    let nonce := body.take 32
    let part := leAt body 32 1
    if !s.boot.identOk then (s.raise 0 0xB 1).svcAnswer 0x30 h 7 []
    else if s.img.attBusy.isSome then s.svcAnswer 0x30 h 1 []
    else match s.reportHeld nonce with
      | some b => s.attestReply h part b
      | none => let q := s.reportMake nonce; q.1.attestReply h part q.2))

/-! ## Other frames (R471) -/

/-- The port's link-local address: fe80::/64 and the modified EUI-64 of SVC_MAC. -/
def State.linkLocal (s : State) : Nat :=
  let mac := s.flashBytes (identA + 0x14) 6
  let b (i : Nat) : Nat := (mac.getD i 0).toNat
  0xFE80 * 2 ^ 112 + (b 0 ^^^ 2) * 2 ^ 56 + b 1 * 2 ^ 48 + b 2 * 2 ^ 40 + 0xFFFE * 2 ^ 24 + b 3 * 2 ^ 16 + b 4 * 2 ^ 8 + b 5

/-- NEIGHBOUR_DISCOVERY_OR_ARP: a message of an unknown TYPE is a BAD_REQUEST (R473). -/
def execNeighbourDiscoveryOrArp (f : SvcFrame) (s : State) : Host.Outcome State Fault Refusal :=
  if s.svcUp then
    let drop := s.bump (svcCntA 2)
    match f with
    | .neighbour a => .next (if a.toNat = s.linkLocal then s.emit (.svcNeighbour true) else drop)
    | .arp a =>
      let mine : Bool := s.rbit (regAddr 0 12 R.SYS_SVC_CTRL) 2 && a == s.rd (regAddr 0 12 R.SYS_SVC_IP4)
      .next (if mine then s.emit (.svcNeighbour false) else drop)
    | .unknown t h => .next ((s.bump (svcCntA 0)).svcAnswer t.toNat h 2 [])
    | .other => .next drop
  else .next s

end Sys2Proof.Machine
end

