-- ==== Sys2Proof/Machine/Snapshot.lean ====
section
/-! DEFINITION. The snapshot area that a COPY leaves in system memory (R109, R110). -/

namespace Sys2Proof.Machine

/-- A counter array behind a window: its entries, and the places of an entry's counters. -/
structure CounterArray where
  region : Nat
  block : Nat
  table : Nat
  entries : Nat
  fields : List (Nat × Nat)
  deriving DecidableEq, Repr

/-- `n` counters of 64 bits side by side. -/
def fields64 (n : Nat) : List (Nat × Nat) := (List.range n).map (fun i => (64 * i, 64))

/-- Every counter array of the device. -/
def counterArrays : List CounterArray :=
  (List.range 8).map (fun o => ⟨2, 0x10 + o, 0xC4, 128, fields64 1⟩) ++
  [⟨7, 6, 0x40, 2097152, fields64 2⟩, ⟨8, 1, 0xD3, 131072, fields64 4⟩] ++
  (List.range 3).map (fun c => ⟨9 + c, 5, 0xE1, 16384, [(0, 64), (64, 64), (128, 16), (144, 16), (160, 16), (176, 16)]⟩) ++
  [⟨0xC, 2, 0xF5, 65536, fields64 4⟩, ⟨0x11, 0, 0x81, 524288, fields64 4⟩, ⟨0x12, 0, 0x96, 524288, fields64 4⟩,
   ⟨0x13, 2, 0x52, 262144, [(0, 48)]⟩, ⟨0x13, 3, 0x71, 256, fields64 4⟩, ⟨0x15, 2, 0xA3, 1024, fields64 1⟩] ++
  (List.range 4).map (fun n => ⟨0x16 + n, 1, 0xF9, 96, fields64 3⟩)

/-- Blocks whose status register holds a log's overflow count in bits 31:16, with its offset. -/
def ovfOffset (r b : Nat) : Option Nat :=
  if r = 0 ∧ b = 4 then some R.SYS_INTG_STAT
  else if r = 1 ∧ b = 4 then some R.TIME_LOSS_STAT
  else if r = 0x13 ∧ b = 3 then some R.BUF_POOL_LOGSTAT
  else if 0x16 ≤ r ∧ r ≤ 0x19 ∧ b = 1 then some R.MEM_RH_LOGSTAT
  else none

/-- Counters of one element of a register row: words of each, by offset in the element; an element of more than two words is an array of
64-bit counters (R127). -/
def rowCounters (row : RegRow) : List (Nat × Nat) :=
  if row.w < 2 then [(0, 1)] else (List.range (row.w / 2)).map (fun k => (8 * k, 2))

/-- Register counters of a block: address and words of each (0: the upper half of a status register), rows and elements in ascending
offset, a log's overflow count last. -/
def blockCounters (r b : Nat) : List (Nat × Nat) :=
  ((blockRows r b).filter (·.cnt)).flatMap (fun row => (List.range row.n).flatMap (fun i => (List.range row.m).flatMap (fun j =>
    (rowCounters row).map (fun q => (regAddr r b (row.off + i * row.st + j * row.st2 + q.1), q.2))))) ++
  (match ovfOffset r b with | some off => [(regAddr r b off, 0)] | none => [])

/-- A section: its counters are those of a block's registers, or of an array. -/
inductive SnapSection where
  | regs (region block : Nat)
  | arr (x : CounterArray)
  deriving DecidableEq, Repr

/-- The sections, region by region and block by block: a block's registers before its arrays. -/
def snapSections : List SnapSection :=
  (List.range 26).flatMap (fun r => (List.range 64).flatMap (fun b =>
    (if blockExists r b && !(blockCounters r b).isEmpty then [.regs r b] else []) ++
    (counterArrays.filter (fun x => x.region == r && x.block == b)).map .arr))

def snapRegion : SnapSection → Nat
  | .regs r _ => r
  | .arr x => x.region

/-- Counters of a section; none where its region was absent at T. -/
def State.snapCount (s : State) (x : SnapSection) : Nat :=
  if natBit s.ctl.snapAbsent (snapRegion x) then 0
  else match x with
    | .regs r b => (blockCounters r b).length
    | .arr y => y.entries * y.fields.length

/-- A register counter as it stood at T. -/
def State.snapReg (s : State) (q : Nat × Nat) : Nat :=
  let w (a : Nat) : Nat := (spGet regReset s.ctl.snapRegs a).toNat
  if q.2 = 0 then w q.1 / 65536 else w q.1 + (if q.2 = 2 then w (q.1 + 4) * 2 ^ 32 else 0)

/-- Counter `i` of a section, as it stood at T. -/
def State.snapValue (s : State) (x : SnapSection) (i : Nat) : Nat :=
  match x with
  | .regs r b => s.snapReg ((blockCounters r b).getD i (0, 0))
  | .arr y =>
    let f := y.fields.getD (i % y.fields.length) (0, 0)
    natField (spGet (fun _ => 0) s.ctl.snapTabs (tabKey y.region y.block y.table (i / y.fields.length))).toNat f.1 f.2

/-- `n` counters are written from an address on. -/
def putCounts (f : Nat → Nat) (a : Nat) : Nat → State → State
  | 0, s => s
  | n + 1, s => putCounts f a n (s.hbmWrite (a + 8 * n) (leBytes 8 (f n)))

/-- The directory entry of a section whose data lies at an offset. -/
def State.snapEntry (s : State) (x : SnapSection) (ofs : Nat) : List Byte :=
  let rbt : Nat × Nat × Nat := match x with | .regs r b => (r, b, 0xFF) | .arr y => (y.region, y.block, y.table)
  leBytes 1 rbt.1 ++ leBytes 1 rbt.2.1 ++ leBytes 1 rbt.2.2 ++ leBytes 1 (if natBit s.ctl.snapAbsent rbt.1 then 1 else 0) ++ leBytes 4 0 ++
    leBytes 8 ofs ++ leBytes 8 (s.snapCount x) ++ leBytes 4 8 ++ leBytes 4 0

/-- Directory entries and data of the sections: next entry's address, next data offset, and the area's base. -/
def State.snapPut (s : State) (base : Nat) : Nat → Nat → List SnapSection → State
  | _, _, [] => s
  | dir, ofs, x :: l =>
    let t := (s.hbmWrite (base + dir) (s.snapEntry x ofs))
    (putCounts (s.snapValue x) (base + ofs) (s.snapCount x) t).snapPut base (dir + 32) (ofs + 8 * s.snapCount x) l

/-- The header, COMPLETE or not. -/
def State.snapHeader (s : State) (at_ : Nat) (complete : Bool) : List Byte :=
  leBytes 4 0x534E5051 ++ leBytes 4 s.ctl.snapSeq ++ leBytes 6 (tvSec at_) ++ leBytes 2 0 ++ leBytes 4 (tvNs at_) ++ leBytes 4 (tvFrac at_) ++
    leBytes 4 snapSections.length ++ leBytes 4 (if complete then 1 else 0) ++ List.replicate 32 0

/-- SNAP_DONE: the area is written, COMPLETE last. -/
def execSnapDone (s : State) : Host.Outcome State Fault Refusal :=
  match s.ctl.snapCopy with
  | none => .next s
  | some at_ =>
    let base := s.rd64 (A.snap R.SYS_SNAP_BASE_LO)
    let t := s.hbmWrite base (s.snapHeader at_ false)
    let t := t.snapPut base 64 (64 + 32 * snapSections.length) snapSections
    let t := t.hbmWrite base (s.snapHeader at_ true)
    let t : State := { t with ctl := { t.ctl with snapCopy := none, snapRegs := [], snapTabs := [], snapAbsent := 0 } }
    .next (t.raise 0 5 0)

end Sys2Proof.Machine
end

