-- ==== Sys2Proof/Machine/Dispatch.lean ====
section
/-! DEFINITION. Every command and its meaning: one arm per constructor, each one direct call. -/

namespace Sys2Proof.Machine

/-- The effect of a command on everything but the queue of waiting commands. -/
def exec (i : Instr) (s : State) : Host.Outcome State Fault Refusal :=
  match i with
  | .clockTick => Sys2Proof.Machine.execClockTick s
  | .incrFracWrite m d datum => Sys2Proof.Machine.execIncrFracWrite m d datum s
  | .firmwareOffsetPush m d v => Sys2Proof.Machine.execFirmwareOffsetPush m d v s
  | .servoOffset d => Sys2Proof.Machine.execServoOffset d s
  | .servoTimeout d => Sys2Proof.Machine.execServoTimeout d s
  | .modeFree m d v => Sys2Proof.Machine.execModeFree m d v s
  | .modeServo m d v => Sys2Proof.Machine.execModeServo m d v s
  | .modeForceSnow m d v => Sys2Proof.Machine.execModeForceSnow m d v s
  | .refHoldUpdate d f => Sys2Proof.Machine.execRefHoldUpdate d f s
  | .validDeclare m d v => Sys2Proof.Machine.execValidDeclare m d v s
  | .domStep m d v => Sys2Proof.Machine.execDomStep m d v s
  | .setsecArm m d v => Sys2Proof.Machine.execSetsecArm m d v s
  | .setsecLoad d => Sys2Proof.Machine.execSetsecLoad d s
  | .switchNextSlot m v => Sys2Proof.Machine.execSwitchNextSlot m v s
  | .switchTimedArm m v => Sys2Proof.Machine.execSwitchTimedArm m v s
  | .switchDisarm m v => Sys2Proof.Machine.execSwitchDisarm m v s
  | .activeSwitch => Sys2Proof.Machine.execActiveSwitch s
  | .revertWtrExpiry => Sys2Proof.Machine.execRevertWtrExpiry s
  | .slotStart => Sys2Proof.Machine.execSlotStart s
  | .cycleStart => Sys2Proof.Machine.execCycleStart s
  | .perSecondLatch => Sys2Proof.Machine.execPerSecondLatch s
  | .onestepDepart p late => Sys2Proof.Machine.execOnestepDepart p late s
  | .tsqReadHead m => Sys2Proof.Machine.execTsqReadHead m s
  | .tsqReadPop m => Sys2Proof.Machine.execTsqReadPop m s
  | .lossReadHead m => Sys2Proof.Machine.execLossReadHead m s
  | .lossReadPop m => Sys2Proof.Machine.execLossReadPop m s
  | .ppsOutEdge n => Sys2Proof.Machine.execPpsOutEdge n s
  | .ppsInEdge n phase => Sys2Proof.Machine.execPpsInEdge n phase s
  | .ppsinLoss n => Sys2Proof.Machine.execPpsinLoss n s
  | .todRxMessage msg => Sys2Proof.Machine.execTodRxMessage msg s
  | .todRxdataRead m => Sys2Proof.Machine.execTodRxdataRead m s
  | .todTxMessage => Sys2Proof.Machine.execTodTxMessage s
  | .refQualify ofs => Sys2Proof.Machine.execRefQualify ofs s
  | .refLoss => Sys2Proof.Machine.execRefLoss s
  | .ptmDialog l times => Sys2Proof.Machine.execPtmDialog l times s
  | .vsb33Rise => Sys2Proof.Machine.execVsb33Rise s
  | .vsb33Present => Sys2Proof.Machine.execVsb33Present s
  | .vin12Valid => Sys2Proof.Machine.execVin12Valid s
  | .railsInTolerance => Sys2Proof.Machine.execRailsInTolerance s
  | .resetNFall => Sys2Proof.Machine.execResetNFall s
  | .resetNRise => Sys2Proof.Machine.execResetNRise s
  | .chipResetWrite m datum => Sys2Proof.Machine.execChipResetWrite m datum s
  | .vin12Loss => Sys2Proof.Machine.execVin12Loss s
  | .vin12Low => Sys2Proof.Machine.execVin12Low s
  | .vsb33Loss => Sys2Proof.Machine.execVsb33Loss s
  | .bootStart x => Sys2Proof.Machine.execBootStart x s
  | .bidReadDone b => Sys2Proof.Machine.execBidReadDone b s
  | .hbmVerifyDone x0 x1 x2 x3 rec0 rec1 => Sys2Proof.Machine.execHbmVerifyDone x0 x1 x2 x3 rec0 rec1 s
  | .imageVerifyDone readErr ue => Sys2Proof.Machine.execImageVerifyDone readErr ue s
  | .writeListApply => Sys2Proof.Machine.execWriteListApply s
  | .fwLoadRelease => Sys2Proof.Machine.execFwLoadRelease s
  | .cmisSweep checks => Sys2Proof.Machine.execCmisSweep checks s
  | .fwdReady => Sys2Proof.Machine.execFwdReady s
  | .fwdWaitExpiry x => Sys2Proof.Machine.execFwdWaitExpiry x s
  | .healthTimeout => Sys2Proof.Machine.execHealthTimeout s
  | .wtLate => Sys2Proof.Machine.execWtLate s
  | .declareFirst d => Sys2Proof.Machine.execDeclareFirst d s
  | .registerWrite x datum transit => Sys2Proof.Machine.execRegisterWrite x datum transit s
  | .latchWordRead x => Sys2Proof.Machine.execLatchWordRead x s
  | .counterReadClear x => Sys2Proof.Machine.execCounterReadClear x s
  | .cpScrub upset => Sys2Proof.Machine.execCpScrub upset s
  | .winRead m x v => Sys2Proof.Machine.execWinRead m x v s
  | .winWrite m x v => Sys2Proof.Machine.execWinWrite m x v s
  | .winClear m x v => Sys2Proof.Machine.execWinClear m x v s
  | .winReadClear m x v => Sys2Proof.Machine.execWinReadClear m x v s
  | .bcauseClear m x v => Sys2Proof.Machine.execBcauseClear m x v s
  | .bcauseSet m x v => Sys2Proof.Machine.execBcauseSet m x v s
  | .bresetHold m x => Sys2Proof.Machine.execBresetHold m x s
  | .bresetRelease m x => Sys2Proof.Machine.execBresetRelease m x s
  | .intgLogReadHead m => Sys2Proof.Machine.execIntgLogReadHead m s
  | .intgLogReadPop m => Sys2Proof.Machine.execIntgLogReadPop m s
  | .snapCopyArm m => Sys2Proof.Machine.execSnapCopyArm m s
  | .snapFreezeArm m => Sys2Proof.Machine.execSnapFreezeArm m s
  | .snapThawAt m => Sys2Proof.Machine.execSnapThawAt m s
  | .snapThawNow m => Sys2Proof.Machine.execSnapThawNow m s
  | .snapDisarm m => Sys2Proof.Machine.execSnapDisarm m s
  | .snapInstant => Sys2Proof.Machine.execSnapInstant s
  | .snapDone => Sys2Proof.Machine.execSnapDone s
  | .portCfgWrite m p v => Sys2Proof.Machine.execPortCfgWrite m p v s
  | .portDisable m p v rx => Sys2Proof.Machine.execPortDisable m p v rx s
  | .octRateWrite m o v => Sys2Proof.Machine.execOctRateWrite m o v s
  | .maxlenWrite m p v => Sys2Proof.Machine.execMaxlenWrite m p v s
  | .portUp p => Sys2Proof.Machine.execPortUp p s
  | .portDown p why => Sys2Proof.Machine.execPortDown p why s
  | .anFail p => Sys2Proof.Machine.execAnFail p s
  | .rxFrame p x => Sys2Proof.Machine.execRxFrame p x s
  | .pauseExpiry p cls => Sys2Proof.Machine.execPauseExpiry p cls s
  | .txFrame p x => Sys2Proof.Machine.execTxFrame p x s
  | .portCntClr m p v => Sys2Proof.Machine.execPortCntClr m p v s
  | .portSleep m p v => Sys2Proof.Machine.execPortSleep m p v s
  | .portWakeWrite m p v => Sys2Proof.Machine.execPortWakeWrite m p v s
  | .wakeMatch p frame => Sys2Proof.Machine.execWakeMatch p frame s
  | .wakeComplete p => Sys2Proof.Machine.execWakeComplete p s
  | .modPoll polls => Sys2Proof.Machine.execModPoll polls s
  | .modAccRead m v => Sys2Proof.Machine.execModAccRead m v s
  | .modAccWrite m v => Sys2Proof.Machine.execModAccWrite m v s
  | .modAccDone r => Sys2Proof.Machine.execModAccDone r s
  | .ingressAccept ix => Sys2Proof.Machine.execIngressAccept ix s
  | .parseDispatch ix => Sys2Proof.Machine.execParseDispatch ix s
  | .parseNop ix e => Sys2Proof.Machine.execParseNop ix e s
  | .parseExt ix e => Sys2Proof.Machine.execParseExt ix e s
  | .parseHvx ix e => Sys2Proof.Machine.execParseHvx ix e s
  | .parseHvr ix e => Sys2Proof.Machine.execParseHvr ix e s
  | .parseLdi ix e => Sys2Proof.Machine.execParseLdi ix e s
  | .parseAlu ix e => Sys2Proof.Machine.execParseAlu ix e s
  | .parseCmp ix e => Sys2Proof.Machine.execParseCmp ix e s
  | .parseBr ix e => Sys2Proof.Machine.execParseBr ix e s
  | .parseSwt ix e => Sys2Proof.Machine.execParseSwt ix e s
  | .parseAdv ix e => Sys2Proof.Machine.execParseAdv ix e s
  | .parseMark ix e => Sys2Proof.Machine.execParseMark ix e s
  | .parseFlag ix e => Sys2Proof.Machine.execParseFlag ix e s
  | .parseHsel ix e => Sys2Proof.Machine.execParseHsel ix e s
  | .parseExc ix e => Sys2Proof.Machine.execParseExc ix e s
  | .parseDone ix e => Sys2Proof.Machine.execParseDone ix e s
  | .lookup ix => Sys2Proof.Machine.execLookup ix s
  | .longProbeLookup ix => Sys2Proof.Machine.execLongProbeLookup ix s
  | .farLookup ix n => Sys2Proof.Machine.execFarLookup ix n s
  | .emInsert m v => Sys2Proof.Machine.execEmInsert m v s
  | .emDelete m v => Sys2Proof.Machine.execEmDelete m v s
  | .emSearch m v => Sys2Proof.Machine.execEmSearch m v s
  | .emUpdate m v => Sys2Proof.Machine.execEmUpdate m v s
  | .lpmInsert m v => Sys2Proof.Machine.execLpmInsert m v s
  | .lpmDelete m v => Sys2Proof.Machine.execLpmDelete m v s
  | .lpmSearch m v => Sys2Proof.Machine.execLpmSearch m v s
  | .lpmUpdate m v => Sys2Proof.Machine.execLpmUpdate m v s
  | .rebuild m v => Sys2Proof.Machine.execRebuild m v s
  | .rebuildDone => Sys2Proof.Machine.execRebuildDone s
  | .egressRewrite ix => Sys2Proof.Machine.execEgressRewrite ix s
  | .learnEngine r => Sys2Proof.Machine.execLearnEngine r s
  | .lrnInsert m r v => Sys2Proof.Machine.execLrnInsert m r v s
  | .lrnDelete m r v => Sys2Proof.Machine.execLrnDelete m r v s
  | .lrnSearch m r v => Sys2Proof.Machine.execLrnSearch m r v s
  | .flush m r v => Sys2Proof.Machine.execFlush m r v s
  | .flushDone r => Sys2Proof.Machine.execFlushDone r s
  | .notePost r => Sys2Proof.Machine.execNotePost r s
  | .agingSweepStart t => Sys2Proof.Machine.execAgingSweepStart t s
  | .agingVisit t => Sys2Proof.Machine.execAgingVisit t s
  | .ascRead m a v => Sys2Proof.Machine.execAscRead m a v s
  | .ascWrite m a v => Sys2Proof.Machine.execAscWrite m a v s
  | .ascClear m a v => Sys2Proof.Machine.execAscClear m a v s
  | .insertAt m a v => Sys2Proof.Machine.execInsertAt m a v s
  | .setv m a v => Sys2Proof.Machine.execSetv m a v s
  | .ascDelete m a v => Sys2Proof.Machine.execAscDelete m a v s
  | .ascUpdate m a v => Sys2Proof.Machine.execAscUpdate m a v s
  | .ascMove m a v => Sys2Proof.Machine.execAscMove m a v s
  | .ascSearch m a v => Sys2Proof.Machine.execAscSearch m a v s
  | .moverCopy a => Sys2Proof.Machine.execMoverCopy a s
  | .slotSteal a => Sys2Proof.Machine.execSlotSteal a s
  | .scrubRewrite a => Sys2Proof.Machine.execScrubRewrite a s
  | .scrubLine a => Sys2Proof.Machine.execScrubLine a s
  | .verCommit m => Sys2Proof.Machine.execVerCommit m s
  | .verArm m => Sys2Proof.Machine.execVerArm m s
  | .verDisarm m => Sys2Proof.Machine.execVerDisarm m s
  | .forceRetire m => Sys2Proof.Machine.execForceRetire m s
  | .pauseApply m => Sys2Proof.Machine.execPauseApply m s
  | .verSeqWrite m v => Sys2Proof.Machine.execVerSeqWrite m v s
  | .commitInstant => Sys2Proof.Machine.execCommitInstant s
  | .retire => Sys2Proof.Machine.execRetire s
  | .retireLate => Sys2Proof.Machine.execRetireLate s
  | .batchWrite => Sys2Proof.Machine.execBatchWrite s
  | .pauseAbort => Sys2Proof.Machine.execPauseAbort s
  | .packetAdmit ix ct => Sys2Proof.Machine.execPacketAdmit ix ct s
  | .cellFree ptr => Sys2Proof.Machine.execCellFree ptr s
  | .spillWrite q late => Sys2Proof.Machine.execSpillWrite q late s
  | .spillReadback q => Sys2Proof.Machine.execSpillReadback q s
  | .spillCacheRefill => Sys2Proof.Machine.execSpillCacheRefill s
  | .spillCacheDrain => Sys2Proof.Machine.execSpillCacheDrain s
  | .spillInit m v => Sys2Proof.Machine.execSpillInit m v s
  | .initDone => Sys2Proof.Machine.execInitDone s
  | .replExpand => Sys2Proof.Machine.execReplExpand s
  | .sharedRelease rec byOwner => Sys2Proof.Machine.execSharedRelease rec byOwner s
  | .sharedFree rec byOwner => Sys2Proof.Machine.execSharedFree rec byOwner s
  | .poolAlloc m p wide => Sys2Proof.Machine.execPoolAlloc m p wide s
  | .poolFree m datum => Sys2Proof.Machine.execPoolFree m datum s
  | .poolRelease m datum => Sys2Proof.Machine.execPoolRelease m datum s
  | .poolShare m datum => Sys2Proof.Machine.execPoolShare m datum s
  | .poolInit m v => Sys2Proof.Machine.execPoolInit m v s
  | .poolLogReadHead m => Sys2Proof.Machine.execPoolLogReadHead m s
  | .poolLogReadPop m => Sys2Proof.Machine.execPoolLogReadPop m s
  | .voqRelease late => Sys2Proof.Machine.execVoqRelease late s
  | .stallFlush q => Sys2Proof.Machine.execStallFlush q s
  | .egressSelect p late => Sys2Proof.Machine.execEgressSelect p late s
  | .shaperEpoch l => Sys2Proof.Machine.execShaperEpoch l s
  | .pfcRefresh p c => Sys2Proof.Machine.execPfcRefresh p c s
  | .pisteArm m => Sys2Proof.Machine.execPisteArm m s
  | .pisteDisarm m => Sys2Proof.Machine.execPisteDisarm m s
  | .pisteSwap => Sys2Proof.Machine.execPisteSwap s
  | .slotFill => Sys2Proof.Machine.execSlotFill s
  | .slotRx x => Sys2Proof.Machine.execSlotRx x s
  | .cellRx => Sys2Proof.Machine.execCellRx s
  | .relayAged d => Sys2Proof.Machine.execRelayAged d s
  | .gapTimerExpiry n => Sys2Proof.Machine.execGapTimerExpiry n s
  | .expUnset n => Sys2Proof.Machine.execExpUnset n s
  | .ovcPinFrameRx n frame aborted => Sys2Proof.Machine.execOvcPinFrameRx n frame aborted s
  | .ovcChannelFrameRx n => Sys2Proof.Machine.execOvcChannelFrameRx n s
  | .ovcPinFrameTx n => Sys2Proof.Machine.execOvcPinFrameTx n s
  | .ovcChannelFrameTx n => Sys2Proof.Machine.execOvcChannelFrameTx n s
  | .ovcTxQueue m n v => Sys2Proof.Machine.execOvcTxQueue m n v s
  | .ovcRxPop m n v => Sys2Proof.Machine.execOvcRxPop m n v s
  | .ovcCtrlWrite m n v => Sys2Proof.Machine.execOvcCtrlWrite m n v s
  | .keyRead m v => Sys2Proof.Machine.execKeyRead m v s
  | .loadPlain m v => Sys2Proof.Machine.execLoadPlain m v s
  | .loadWrapped m v => Sys2Proof.Machine.execLoadWrapped m v s
  | .keyExport m v => Sys2Proof.Machine.execKeyExport m v s
  | .zeroise m v => Sys2Proof.Machine.execZeroise m v s
  | .rngFail => Sys2Proof.Machine.execRngFail s
  | .rngRecover => Sys2Proof.Machine.execRngRecover s
  | .espInbound ix => Sys2Proof.Machine.execEspInbound ix s
  | .lkaProducerWrite m r v => Sys2Proof.Machine.execLkaProducerWrite m r v s
  | .gcmEnc r e x => Sys2Proof.Machine.execGcmEnc r e x s
  | .gcmDec r e x => Sys2Proof.Machine.execGcmDec r e x s
  | .xtsEnc r e x => Sys2Proof.Machine.execXtsEnc r e x s
  | .xtsDec r e x => Sys2Proof.Machine.execXtsDec r e x s
  | .kmac r e x => Sys2Proof.Machine.execKmac r e x s
  | .kmacVerify r e x => Sys2Proof.Machine.execKmacVerify r e x s
  | .chAcq t rd ch => Sys2Proof.Machine.execChAcq t rd ch s
  | .chAcqWake t => Sys2Proof.Machine.execChAcqWake t s
  | .chTryacq t rd ch => Sys2Proof.Machine.execChTryacq t rd ch s
  | .chPost t rd slot data => Sys2Proof.Machine.execChPost t rd slot data s
  | .chDrop t rd slot => Sys2Proof.Machine.execChDrop t rd slot s
  | .chRecv t rd ch => Sys2Proof.Machine.execChRecv t rd ch s
  | .chRecvWake t => Sys2Proof.Machine.execChRecvWake t s
  | .chTryrecv t rd ch => Sys2Proof.Machine.execChTryrecv t rd ch s
  | .chFree t rd slot => Sys2Proof.Machine.execChFree t rd slot s
  | .evWait t rd mask timeout => Sys2Proof.Machine.execEvWait t rd mask timeout s
  | .evWaitWake t => Sys2Proof.Machine.execEvWaitWake t s
  | .evWaitTimeout t => Sys2Proof.Machine.execEvWaitTimeout t s
  | .evPoll t rd mask => Sys2Proof.Machine.execEvPoll t rd mask s
  | .evSend t rd target input => Sys2Proof.Machine.execEvSend t rd target input s
  | .threadSwitch core why => Sys2Proof.Machine.execThreadSwitch core why s
  | .ctxWrite m r => Sys2Proof.Machine.execCtxWrite m r s
  | .ctxRead m r => Sys2Proof.Machine.execCtxRead m r s
  | .ctxRelease m r => Sys2Proof.Machine.execCtxRelease m r s
  | .ctxReset m r => Sys2Proof.Machine.execCtxReset m r s
  | .interruptFileWrite m t v => Sys2Proof.Machine.execInterruptFileWrite m t v s
  | .timerInterrupt t => Sys2Proof.Machine.execTimerInterrupt t s
  | .deviceChannelWrite => Sys2Proof.Machine.execDeviceChannelWrite s
  | .portTxProcess c => Sys2Proof.Machine.execPortTxProcess c s
  | .debugHalt t => Sys2Proof.Machine.execDebugHalt t s
  | .debugResume t => Sys2Proof.Machine.execDebugResume t s
  | .deadlock cl => Sys2Proof.Machine.execDeadlock cl s
  | .pmuFreeze m r => Sys2Proof.Machine.execPmuFreeze m r s
  | .pmuThawAt m r => Sys2Proof.Machine.execPmuThawAt m r s
  | .pmuThawNow m r => Sys2Proof.Machine.execPmuThawNow m r s
  | .pmuDisarm m r => Sys2Proof.Machine.execPmuDisarm m r s
  | .pmuInstant r => Sys2Proof.Machine.execPmuInstant r s
  | .samplerOverflow t evt pc => Sys2Proof.Machine.execSamplerOverflow t evt pc s
  | .hostLinkUp l rate width flit => Sys2Proof.Machine.execHostLinkUp l rate width flit s
  | .hostLinkDown l => Sys2Proof.Machine.execHostLinkDown l s
  | .hostPerstAssert l => Sys2Proof.Machine.execHostPerstAssert l s
  | .hostPerstRelease l => Sys2Proof.Machine.execHostPerstRelease l s
  | .functionLevelReset l what => Sys2Proof.Machine.execFunctionLevelReset l what s
  | .doorbellTxTail l q v => Sys2Proof.Machine.execDoorbellTxTail l q v s
  | .doorbellRxTail l q v => Sys2Proof.Machine.execDoorbellRxTail l q v s
  | .doorbellCqHead l q v => Sys2Proof.Machine.execDoorbellCqHead l q v s
  | .hostTxFetch l x => Sys2Proof.Machine.execHostTxFetch l x s
  | .hostRxWrite x => Sys2Proof.Machine.execHostRxWrite x s
  | .msixModeration q => Sys2Proof.Machine.execMsixModeration q s
  | .lkaHostDoorbell l r v => Sys2Proof.Machine.execLkaHostDoorbell l r v s
  | .dlogFlush ix => Sys2Proof.Machine.execDlogFlush ix s
  | .dlogSwap src v => Sys2Proof.Machine.execDlogSwap src v s
  | .dlogSwapDone n => Sys2Proof.Machine.execDlogSwapDone n s
  | .mbxOpen l ok => Sys2Proof.Machine.execMbxOpen l ok s
  | .mbxWrite l block len data ok => Sys2Proof.Machine.execMbxWrite l block len data ok s
  | .mbxClose l ok => Sys2Proof.Machine.execMbxClose l ok s
  | .mbxAbort l => Sys2Proof.Machine.execMbxAbort l s
  | .nvmeDoorbell l x => Sys2Proof.Machine.execNvmeDoorbell l x s
  | .nvmeDone m v => Sys2Proof.Machine.execNvmeDone m v s
  | .nvmeTimeout ix => Sys2Proof.Machine.execNvmeTimeout ix s
  | .nvmeCcDisable l => Sys2Proof.Machine.execNvmeCcDisable l s
  | .hbmAccess q => Sys2Proof.Machine.execHbmAccess q s
  | .rhWindowStep n => Sys2Proof.Machine.execRhWindowStep n s
  | .rhLogReadHead m n => Sys2Proof.Machine.execRhLogReadHead m n s
  | .rhLogReadPop m n => Sys2Proof.Machine.execRhLogReadPop m n s
  | .pageIdlePrecharge n rank bank => Sys2Proof.Machine.execPageIdlePrecharge n rank bank s
  | .tempReadout n t => Sys2Proof.Machine.execTempReadout n t s
  | .refresh n => Sys2Proof.Machine.execRefresh n s
  | .patrolScrub n err => Sys2Proof.Machine.execPatrolScrub n err s
  | .rasRetire m n v => Sys2Proof.Machine.execRasRetire m n v s
  | .rasVerify m n v => Sys2Proof.Machine.execRasVerify m n v s
  | .verifyDone n pass => Sys2Proof.Machine.execVerifyDone n pass s
  | .migrationCopyLine n bad => Sys2Proof.Machine.execMigrationCopyLine n bad s
  | .retirementRecordWrite => Sys2Proof.Machine.execRetirementRecordWrite s
  | .selfRefreshEntry n abandon => Sys2Proof.Machine.execSelfRefreshEntry n abandon s
  | .selfRefreshExit n => Sys2Proof.Machine.execSelfRefreshExit n s
  | .blockFatal r b => Sys2Proof.Machine.execBlockFatal r b s
  | .blockAutoRelease r b => Sys2Proof.Machine.execBlockAutoRelease r b s
  | .regionFatal r b => Sys2Proof.Machine.execRegionFatal r b s
  | .rgnRun m r => Sys2Proof.Machine.execRgnRun m r s
  | .rgnReset m r => Sys2Proof.Machine.execRgnReset m r s
  | .rgnPowerDown m r => Sys2Proof.Machine.execRgnPowerDown m r s
  | .regionAbsent r => Sys2Proof.Machine.execRegionAbsent r s
  | .regionRelease r => Sys2Proof.Machine.execRegionRelease r s
  | .regionReady r => Sys2Proof.Machine.execRegionReady r s
  | .replyTimeout r => Sys2Proof.Machine.execReplyTimeout r s
  | .epochDiscard r => Sys2Proof.Machine.execEpochDiscard r s
  | .d2dModuleFail => Sys2Proof.Machine.execD2dModuleFail s
  | .chipFatal c => Sys2Proof.Machine.execChipFatal c s
  | .failsafeAutoReset => Sys2Proof.Machine.execFailsafeAutoReset s
  | .svcStatus h body => Sys2Proof.Machine.execSvcStatus h body s
  | .svcRegRead h body => Sys2Proof.Machine.execSvcRegRead h body s
  | .svcRegWrite h body => Sys2Proof.Machine.execSvcRegWrite h body s
  | .svcOpen h body ok => Sys2Proof.Machine.execSvcOpen h body ok s
  | .svcWrite h body ok => Sys2Proof.Machine.execSvcWrite h body ok s
  | .svcClose h body ok => Sys2Proof.Machine.execSvcClose h body ok s
  | .svcAbort h body => Sys2Proof.Machine.execSvcAbort h body s
  | .svcActivate h body => Sys2Proof.Machine.execSvcActivate h body s
  | .svcReset h body => Sys2Proof.Machine.execSvcReset h body s
  | .svcRecovery h body => Sys2Proof.Machine.execSvcRecovery h body s
  | .svcAttest h body => Sys2Proof.Machine.execSvcAttest h body s
  | .sessionTimeout => Sys2Proof.Machine.execSessionTimeout s
  | .activate m v => Sys2Proof.Machine.execActivate m v s
  | .confirm m v => Sys2Proof.Machine.execConfirm m v s
  | .fallback m v => Sys2Proof.Machine.execFallback m v s
  | .glide m v => Sys2Proof.Machine.execGlide m v s
  | .resume m v => Sys2Proof.Machine.execResume m v s
  | .imgRecovery m v => Sys2Proof.Machine.execImgRecovery m v s
  | .fuseSec m v => Sys2Proof.Machine.execFuseSec m v s
  | .revokeKey m v => Sys2Proof.Machine.execRevokeKey m v s
  | .glideImageVerified readErr => Sys2Proof.Machine.execGlideImageVerified readErr s
  | .gapTimeout => Sys2Proof.Machine.execGapTimeout s
  | .glideWatchdog => Sys2Proof.Machine.execGlideWatchdog s
  | .setWrite m v => Sys2Proof.Machine.execSetWrite m v s
  | .setDone err => Sys2Proof.Machine.execSetDone err s
  | .attReport m => Sys2Proof.Machine.execAttReport m s
  | .attExtend m => Sys2Proof.Machine.execAttExtend m s
  | .attDone => Sys2Proof.Machine.execAttDone s
  | .thermSample sensors => Sys2Proof.Machine.execThermSample sensors s
  | .dieToDieLinkUp modules => Sys2Proof.Machine.execDieToDieLinkUp modules s
  | .poolCacheRefill p => Sys2Proof.Machine.execPoolCacheRefill p s
  | .poolCacheDrain p => Sys2Proof.Machine.execPoolCacheDrain p s
  | .configurationRequest l fn => Sys2Proof.Machine.execConfigurationRequest l fn s
  | .nvmeControllerEnable l => Sys2Proof.Machine.execNvmeControllerEnable l s
  | .ppsOutPulseEnd n => Sys2Proof.Machine.execPpsOutPulseEnd n s
  | .supplyStatusUpdate x => Sys2Proof.Machine.execSupplyStatusUpdate x s
  | .neighbourDiscoveryOrArp f => Sys2Proof.Machine.execNeighbourDiscoveryOrArp f s

end Sys2Proof.Machine
end

