-- ==== Sys2Proof/Safety.lean ====
section
/-! DEFINITION. The terms the statements use: the shape of a state that every run keeps (each sparse store in its canonical form),
accesses that pass every check of R91, and cause bits. -/

namespace Sys2Proof.Machine

/-- The canonical form of the registers, the table memories and the byte memories. -/
def State.storesWf (s : State) : Bool :=
  spWf regReset s.regs && spWf (fun _ => (0 : Entry)) s.tabs && Memory.wf s

/-- A 32-bit write, a 32-bit read, a 64-bit write of a CP register by a master that the checks of R91 let through. -/
abbrev State.mayWrite (s : State) (m : Master) (a : Nat) : Prop := s.accessCheck m a 4 false true = .ok
abbrev State.mayRead (s : State) (m : Master) (a : Nat) : Prop := s.accessCheck m a 4 false false = .ok
abbrev State.mayWriteCp (s : State) (m : Master) (a : Nat) : Prop := s.accessCheck m a 8 false true = .ok

/-- Bit `k` of a block's BCAUSE is set (R95). -/
def State.cause (s : State) (region block k : Nat) : Bool := s.rbit (regAddr region block 0x008) k

/-- `n` steps, as far as each answers a next state. -/
def steps : Nat → State → Host.Outcome State Fault Refusal
  | 0, s => .next s
  | n + 1, s =>
    match step s with
    | .next t => steps n t
    | o => o

end Sys2Proof.Machine
end

