-- ==== Sys2Proof/Certificates/Slice0/Obligations.lean ====
section
/-! DEFINITION. The statements about the device. Each takes the state and the operands as they come; what it asks of them stands
before its arrow. `exec c s = .next t` says that the command completes, with the state it leaves. -/

open Sys2Proof Sys2Proof.Machine

/-- A step takes the command at the front of the queue and answers what `exec` answers on the state with the rest of the queue; with
nothing waiting it leaves the state as it is (assumption 1, the model's choice). The opcode table gives no row bits, so no word spells a
command. -/
def Obligations.StepRunsTheFrontCommand : Prop :=
  ∀ s : State, (∀ (c : Instr) (rest : List Instr), s.pending = c :: rest → step s = exec c { s with pending := rest }) ∧
    (s.pending = [] → step s = .next s) ∧
    (∀ nbits w : Nat, s.withFetchWord nbits w = s)

/-- Whatever command stands in front, with whatever operands, well formed or not, and whatever the state, a step answers a next state:
the block never stops, and a queue of n commands is empty after n steps. -/
def Obligations.EveryCommandCompletes : Prop :=
  (∀ (c : Instr) (s : State), ∃ t, exec c s = .next t ∧ t.pending = s.pending) ∧
  (∀ s : State, ∃ t, steps s.pending.length s = .next t ∧ t.pending = [])

/-- The register file, the table memories, HBM and flash list each address at most once, in rising order, and never a value equal to
what an unlisted address reads as; every step keeps that form, from every state that has it. -/
def Obligations.StepsKeepStoresCanonical : Prop :=
  ∀ s t : State, s.storesWf = true → step s = .next t → t.storesWf = true

/-- The invariant of `StepsKeepStoresCanonical` holds at reset, where the queue and the output are empty. -/
def Obligations.ResetStoresAreCanonical : Prop :=
  State.reset.storesWf = true ∧ State.reset.pending = [] ∧ State.reset.out = []

/-- A step removes only the command it runs from the queue; what has left the package stays in the output, with the new outputs before
it; the tick count and the number of blown security-version fuses do not fall; a revoked signing key stays revoked; the ordering code
does not change; and no free value is drawn twice. -/
def Obligations.StepsTakeNothingBack : Prop :=
  ∀ s t : State, step s = .next t →
    t.pending = s.pending.tail ∧ (∃ l, t.out = l ++ s.out) ∧ s.time.ticks ≤ t.time.ticks ∧ s.boot.secFuses ≤ t.boot.secFuses ∧
    (∀ i, natBit s.boot.keyRevoked i = true → natBit t.boot.keyRevoked i = true) ∧ t.boot.h48 = s.boot.h48 ∧ s.freeCtr ≤ t.freeCtr

/-- After a unit event, its BCAUSE bit is set, every cause bit that was set is still set, and nothing outside the register file and the
integrity log has changed; an event whose bit is set already changes nothing at all. -/
def Obligations.RaisingACauseIsRecorded : Prop :=
  ∀ (s : State) (r b k : Nat), s.storesWf = true → r < 64 → b < 64 → k < 32 →
    (s.raise r b k).cause r b k = true ∧
    (∀ r' b' k', r' < 64 → b' < 64 → k' < 32 → s.cause r' b' k' = true → (s.raise r b k).cause r' b' k' = true) ∧
    (s.cause r b k = true → s.raise r b k = s) ∧
    (∃ (l : List (Nat × Word)) (c : CtlSt), s.raise r b k = { s with regs := l, ctl := c })

/-- Logging an entry of kind k, with room in the log, sets bit k − 1 of INTG's BCAUSE; a full log sets bit 8 (LOG_OVF). A write of a
word to INTG's BCAUSE clears exactly the bits that are 1 in it. -/
def Obligations.IntegrityEntriesSetTheirCause : Prop :=
  ∀ (s : State), s.storesWf = true →
    (∀ k a m x y : Nat, 1 ≤ k → k ≤ 8 → s.ctl.intg.length < 16 →
      (s.intgLog k a m x y).cause 0 4 (k - 1) = true ∧
      ∃ e, (∃ l, (s.intgLog k a m x y).ctl.intg = s.ctl.intg ++ e :: l) ∧ natField e.w1.toNat 0 8 = k) ∧
    (∀ k a m x y : Nat, 16 ≤ s.ctl.intg.length →
      (s.intgLog k a m x y).cause 0 4 8 = true ∧ (∃ l, (s.intgLog k a m x y).ctl.intg = s.ctl.intg ++ l)) ∧
    (∀ (m : Master) (v : Word), s.mayWrite m (regAddr 0 4 0x008) →
      ∃ t, exec (.bcauseClear m ⟨0, 4⟩ v) s = .next t ∧
        ∀ k, k < 32 → t.cause 0 4 k = (s.cause 0 4 k && !natBit v.toNat k))

/-- Writes of a time domain's registers that pass the checks of R91. A whole INCR_FRAC pair sets the base increment with the value logic
takes from INCR_INT where the base lies within 1,000 ppm, else keeps it and raises INCR_REFUSED; a pair that is not whole is refused and
logged. OFS_HI under SRC = FIRMWARE appends the 64-bit offset, or, with the FIFO full, discards, counts and raises it; under another SRC
it is ignored. MODE stores the mode and the register's other fields, keeps SRC where the written SRC is undefined, and FREE waits for the
next tick while FORCE_SNOW enters Snowplough at once with target 0; either overtakes a LOCK that waits for the tick, whose step still
comes. DECLARE makes the domain VALID; STEP_HI arms a step for the next tick, added to one that waits; ARM of SETSEC_HI arms the seconds
load for a rollover after this tick (assumption 76). Each equation gives the whole next state. -/
def Obligations.TimeDomainWritesTakeEffect : Prop :=
  ∀ (s : State) (m : Master) (d : Dom) (v : Word), s.storesWf = true →
    (s.mayWriteCp m (domA d R.TIME_DOM_INCR_FRAC) → ∃ u : State, u = s.cpCheck 0xFF (domA d R.TIME_DOM_INCR_INT) ∧
      (∀ w : Nat, w < 2 ^ 32 → baseInRange (u.newBase d w) = true →
        exec (.incrFracWrite m d (pairOf 0xFFFFFFFF w)) s =
          .next ((u.cpStore 0xFFFFFFFF (domA d R.TIME_DOM_INCR_FRAC) w).setDom d { u.dom d with base := u.newBase d w })) ∧
      (∀ w : Nat, w < 2 ^ 32 → baseInRange (u.newBase d w) = false →
        exec (.incrFracWrite m d (pairOf 0xFFFFFFFF w)) s = .next (u.raise 1 (domBlock d) 4)) ∧
      (∀ q : BitVec 64, cpWhole 0xFFFFFFFF (q.toNat % 2 ^ 32) (q.toNat / 2 ^ 32) = false →
        exec (.incrFracWrite m d q) s = .next (s.cpRefused (some m) (domA d R.TIME_DOM_INCR_FRAC)))) ∧
    (s.mayWrite m (domA d R.TIME_DOM_OFS_HI) →
      (s.domSrc d = 0 → (s.dom d).fifo.length < 16 → exec (.firmwareOffsetPush m d v) s = .next (s.setDom d { s.dom d with
        fifo := (s.dom d).fifo ++ [signedOf 64 (v.toNat * 2 ^ 32 + (s.rd (domA d R.TIME_DOM_OFS_LO)).toNat)] })) ∧
      (s.domSrc d = 0 → 16 ≤ (s.dom d).fifo.length →
        exec (.firmwareOffsetPush m d v) s = .next ((s.bump (domA d R.TIME_DOM_CNT_REJ)).raise 1 (domBlock d) 3)) ∧
      (s.domSrc d ≠ 0 → exec (.firmwareOffsetPush m d v) s = .next s)) ∧
    (s.mayWrite m (domA d R.TIME_DOM_MODE) → ∀ (w : Nat → Word) (x : Domain),
      (∀ k, w k = BitVec.ofNat 32 (k + (if 3 < natField v.toNat 2 3 then s.domSrc d else natField v.toNat 2 3) * 4 +
        natField v.toNat 5 2 * 32 + natField v.toNat 16 10 * 65536)) →
      x = { s.dom d with stepNext := (s.dom d).stepNext.map (fun p => (p.1, false)) } →
      exec (.modeFree m d v) s = .next ((s.wr (domA d R.TIME_DOM_MODE) (w 0)).setDom d { x with freeNext := true }) ∧
      exec (.modeServo m d v) s = .next (s.wr (domA d R.TIME_DOM_MODE) (w 1)) ∧
      exec (.modeForceSnow m d v) s =
        .next (((s.wr (domA d R.TIME_DOM_MODE) (w 2)).setDom d
          { x with freeNext := false, state := .snow, iHold := x.iTerm, target := 0 }).raiseIf
            (decide ((s.dom d).state ≠ .snow)) 1 (domBlock d) 0)) ∧
    (s.mayWrite m (domA d R.TIME_DOM_VALID) →
      ∃ u : State, u = s.wr (domA d R.TIME_DOM_VALID) (BitVec.ofNat 32 (natField v.toNat 0 24)) ∧
        ((s.dom d).valid = false →
          exec (.validDeclare m d v) s = .next ((u.setDom d { s.dom d with valid := true }).raise 1 (domBlock d) 2).checkWtValid) ∧
        ((s.dom d).valid = true → exec (.validDeclare m d v) s = .next u.checkWtValid)) ∧
    (s.mayWrite m (domA d R.TIME_DOM_STEP_HI) → ∀ theta : Int,
      theta = signedOf 64 (v.toNat * 2 ^ 32 + (s.rd (domA d R.TIME_DOM_STEP_LO)).toNat) * 65536 →
      exec (.domStep m d v) s = .next (s.setDom d { s.dom d with
        stepNext := match (s.dom d).stepNext with
          | none => some (theta, false)
          | some (q, lock) => some (q + theta, lock) })) ∧
    (s.mayWrite m (domA d R.TIME_DOM_SETSEC_HI) →
      exec (.setsecArm m d v) s =
        .next ((s.wr (domA d R.TIME_DOM_SETSEC_HI) (BitVec.ofNat 32 (natField v.toNat 0 16))).setDom d { s.dom d with
          secArm := some (natField v.toNat 0 16 * 2 ^ 32 + (s.rd (domA d R.TIME_DOM_SETSEC_LO)).toNat), rolled := false }))

/-- SWITCH writes that pass the checks. Before WT_VALID 0b01 changes nothing but the raised SWITCH_REFUSED. Every other one stores AUTO,
REVERT and WTR, and START_DOM unless the image has locked it (a write of another value is then logged), before WT_VALID names the active
domain by START_DOM, and: 0b01 sets the switch for the next slot, 0b10 arms the instant in TIME_WT_SWAT, no slot that has begun among its
starts, 0b11 disarms both. A switch that is due, or the return to Cobalt after WTR at a cycle start, makes the other domain active with
C = W minus its value where that is at most 1 s, so that working time is the same before and after, with the domains, the memories and
the flash as they were; where it is more, both times stay as they are and SWITCH_REFUSED is raised. -/
def Obligations.SwitchingKeepsWorkingTime : Prop :=
  ∀ (s : State) (m : Master) (v : Word), s.storesWf = true →
    (s.mayWrite m (A.wt R.TIME_WT_CTRL) → ∀ (start : Nat) (u x y : State),
      start = (if s.rwlLocked then s.fld (A.wt R.TIME_WT_CTRL) 16 1 else natField v.toNat 16 1) →
      u = (if start = natField v.toNat 16 1 then s else s.lockedWrite (some m) (A.wt R.TIME_WT_CTRL)) →
      x = u.wr (A.wt R.TIME_WT_CTRL) (BitVec.ofNat 32 (natField v.toNat 2 14 * 4 + start * 65536)) →
      y = { x with time := { x.time with active := if x.time.wtValid then x.time.active else x.startDom } } →
      (s.time.wtValid = true →
        exec (.switchNextSlot m v) s = .next { y with time := { y.time with switchSlot := some s.time.nextSlot } }) ∧
      (s.time.wtValid = false → exec (.switchNextSlot m v) s = .next (s.raise 1 0 2)) ∧
      exec (.switchTimedArm m v) s =
        .next { y with time := { y.time with switchFrom := s.time.nextSlot, switchAt := some (tvOf
          ((y.rd (A.wt R.TIME_WT_SWAT_SEC_LO)).toNat + y.fld (A.wt R.TIME_WT_SWAT_SEC_HI) 0 16 * 2 ^ 32)
          (y.rd (A.wt R.TIME_WT_SWAT_NS)).toNat) } } ∧
      exec (.switchDisarm m v) s = .next { y with time := { y.time with switchSlot := none, switchAt := none } }) ∧
    (s.switchDue = true → ∃ t, exec .activeSwitch s = .next t ∧
      t.wt = s.wt ∧ (∀ d, t.dom d = s.dom d) ∧ t.tabs = s.tabs ∧ t.hbm = s.hbm ∧ t.flash = s.flash ∧
      t.time.active = (if ((s.wt : Int) - (s.dom (otherDom s.time.active)).value).natAbs ≤ lsbSec then otherDom s.time.active
        else s.time.active) ∧
      t.cause 1 0 (if ((s.wt : Int) - (s.dom (otherDom s.time.active)).value).natAbs ≤ lsbSec then 0 else 2) = true) ∧
    (∀ g, s.time.wtValid = true → s.rbit (A.wt R.TIME_WT_CTRL) 3 = true → s.time.active = .umber → s.atCycleStart = true →
      s.time.cobaltGoodSince = some g → g + s.fld (A.wt R.TIME_WT_CTRL) 4 12 * lsbSec ≤ (s.time.nextSlot - 1) * lsbSlot →
      ∃ t, exec .revertWtrExpiry s = .next t ∧
        t.wt = s.wt ∧ (∀ d, t.dom d = s.dom d) ∧ t.tabs = s.tabs ∧ t.hbm = s.hbm ∧ t.flash = s.flash ∧
        t.time.active = (if ((s.wt : Int) - s.time.cobalt.value).natAbs ≤ lsbSec then .cobalt else .umber) ∧
        t.cause 1 0 (if ((s.wt : Int) - s.time.cobalt.value).natAbs ≤ lsbSec then 0 else 2) = true)

/-- A tick counts, lets the actions that wait at the arrays and the HBM controllers go on (with nothing waiting there it leaves them), and
then every domain with no free run waiting adds its base increment and the frequency word its state gives, modulo 2^48 s, and the step
that waits, if one does; nothing but time, registers, the control surface, the per-second bases and the PPS pins changes with it. An
offset within CAPTURE taken in LOCK updates I and F by the clamped KI and KP terms and leaves the FIFO; one taken in FREE with
MODE = SERVO steps the domain by itself on the next tick, into LOCK. A LOCK domain past TIMEOUT enters Snowplough with target 0. A
qualified REF10M_IN with REF_HOLD replaces I_hold. A seconds load at a rollover replaces SEC, keeps NS and FRAC, and leaves working time
where it was when the domain is the active one after WT_VALID. -/
def Obligations.DomainsTickServoAndLoadSeconds : Prop :=
  ∀ (s : State) (d : Dom), s.storesWf = true → s.boot.dev ≠ .off → s.boot.dev ≠ .reset → s.live 1 = true → s.rgnRuns 1 = true →
    (∀ u : State, u = (State.stacksClock { s.arraysClock with time := { s.arraysClock.time with ticks := s.arraysClock.time.ticks + 1 } }) →
      (s.asc = [] → s.mem.each = [] → u = { s with time := { s.time with ticks := s.time.ticks + 1 } }) ∧
      (u.live 1 = true → u.rgnRuns 1 = true → (∀ e, (u.dom e).freeNext = false) →
        ∃ t, exec .clockTick s = .next t ∧ t.time.ticks = u.time.ticks ∧
          (∀ e, ((t.dom e).value : Int) = (((u.dom e).value + (u.dom e).base + (match (u.dom e).state with
            | .free => 0
            | .lock => (u.dom e).freq
            | .snow => (snowStep (u.dom e).iHold (u.dom e).target (u.flim e)
                (rateLsb (u.domF e R.TIME_DOM_SNOW 0 18) (u.dom e).base)).1)) % tvMod +
            (match (u.dom e).stepNext with
              | none => 0
              | some p => p.1)) % tvMod) ∧
          (∀ e, (t.dom e).base = (u.dom e).base ∧ (t.dom e).stepNext = none) ∧
          t.tabs = u.tabs ∧ t.hbm = u.hbm ∧ t.flash = u.flash ∧ t.boot = u.boot ∧ t.pipes = u.pipes ∧ t.que = u.que)) ∧
    (∀ theta r, (s.dom d).fifo = theta :: r → (s.dom d).state = .lock →
      -((s.domF d R.TIME_DOM_CAPTURE 0 20 : Int) * 65536) ≤ theta → theta ≤ (s.domF d R.TIME_DOM_CAPTURE 0 20 : Int) * 65536 →
      ∃ t, exec (.servoOffset d) s = .next t ∧ (t.dom d).fifo = r ∧ (t.dom d).state = .lock ∧ (t.dom d).lastOffset = theta ∧
        (t.dom d).iTerm = clampTo ((s.dom d).iTerm + s.gain d R.TIME_DOM_KI theta) (s.domF d R.TIME_DOM_ILIM 0 20) ∧
        (t.dom d).freq = clampTo (s.gain d R.TIME_DOM_KP theta + (t.dom d).iTerm) (s.flim d) ∧
        t.tabs = s.tabs ∧ t.hbm = s.hbm ∧ t.flash = s.flash) ∧
    (∀ theta r, (s.dom d).fifo = theta :: r → (s.dom d).state = .free → s.domMode d = 1 → (s.dom d).stepNext = none →
      exec (.servoOffset d) s = .next ((s.bump (domA d R.TIME_DOM_CNT_ACC)).setDom d { s.dom d with
        fifo := r, lastOffset := theta, rejects := 0, rejected := [], exits := 0, lastAccept := s.time.ticks, tookOffset := true
        stepNext := some (theta * 65536, true) })) ∧
    ((s.dom d).state = .lock → s.domF d R.TIME_DOM_TIMEOUT 0 24 * ticksPerUs < s.time.ticks - (s.dom d).lastAccept →
      exec (.servoTimeout d) s = .next ((s.setDom d
        { s.dom d with state := .snow, iHold := (s.dom d).iTerm, target := 0 }).raise 1 (domBlock d) 0)) ∧
    (∀ f, s.domF d R.TIME_DOM_MODE 6 1 = 1 → s.time.refQualified = true → (s.dom d).state = .snow →
      exec (.refHoldUpdate d f) s = .next (s.setDom d { s.dom d with iHold := f })) ∧
    (∀ sec, (s.dom d).secArm = some sec → (s.dom d).rolled = true → sec < 2 ^ 48 →
      ∃ t, exec (.setsecLoad d) s = .next t ∧ (t.dom d).value = sec * lsbSec + (s.dom d).value % lsbSec ∧
        (t.dom d).secArm = none ∧ (t.dom d).secLoaded = true ∧ (∀ e, e ≠ d → t.dom e = s.dom e) ∧
        (s.time.wtValid = true → s.time.active = d → t.wt = s.wt) ∧ t.regs = s.regs ∧ t.tabs = s.tabs ∧ t.hbm = s.hbm)

/-- A slot that is due counts and takes over the lanes' ADV settings. A cycle start after WT_VALID runs once: TIME's cycle work, closing of
open cells, and allowances and grants where QUE0 and the regions it depends on run; before WT_VALID it only pushes the one-way offsets of
FABRIC domains, once a cycle of the start domain's time (assumption 78). A whole second latches the counts of line ports and F-lanes whose
regions answer. A held one-step frame at its departure instant goes to the MAC with the tail it has, or, too late, is counted and raised;
on a port that is not UP it is discarded, counted unless the port sleeps. An enabled PPS output places its edge at the second that is due,
on the grid of 1/64 tick, and arms the next one; its pulse ends WIDTH later, or at the next second; an edge of an enabled PPS input is
stamped in both domains; 1.5 s without one raises PPSIN_LOSS once. -/
def Obligations.TimedInstantsFireWhenDue : Prop :=
  ∀ s : State,
    (s.instantDue (s.time.nextSlot * lsbSlot) = true →
      exec .slotStart s = .next (State.latchAdv { s with time := { s.time with nextSlot := s.time.nextSlot + 1 } })) ∧
    (∀ (k : Nat) (u w : State), s.time.wtValid = true → s.atCycleStart = true → k = s.time.nextSlot - 1 → s.fab.cycleRun ≤ k →
      u = State.cycleTime { s with fab := { s.fab with cycleRun := k + 1 } } k → w = u.lanesAligned.2.closeAll →
      exec .cycleStart s = .next (if w.rgnWorks 0x11 then (w.alwCycle (k * lsbSlot)).grantCycle u.lanesAligned.1 else w)) ∧
    (s.time.wtValid = false → s.rgnRuns 1 = true → s.time.joinCycle ≠ slotOf s.wt / max 1 s.cycleLen + 1 →
      exec .cycleStart s = .next ((State.fabricPush
        { s with time := { s.time with joinCycle := slotOf s.wt / max 1 s.cycleLen + 1 } } .cobalt).fabricPush .umber)) ∧
    (s.time.wtValid = true → s.time.nextSecond * lsbSec ≤ s.wt → s.rgnAbsent 2 = false →
      exec .perSecondLatch s = .next ((List.range 144).foldl
        (fun t l => if t.rgnAbsent (0x14 + l / 72) then t else t.laneSecond l)
        ((List.range 64).foldl State.portSecond { s with time := { s.time with nextSecond := s.time.nextSecond + 1 } }))) ∧
    (∀ (p : Fin 64) (late : Bool) (o : OneStep), s.time.oneStep.find? (fun o => o.port == p.val) = some o → o.td ≤ s.wt →
      s.rgnWorks 2 = true → s.flt.failsafe = none →
      ∃ u : State, u = { s with time := { s.time with oneStep := s.time.oneStep.erase o } } ∧
        (s.portState p = .up → exec (.onestepDepart p late) s = .next (if late then
          (u.bump (A.tsu (R.TIME_PORT_ONESTEP_LATE + 32 * p))).raise 1 4 3
          else u.macSend p { Pkt.empty with bytes := o.bytes, bad := o.bad } ⟨false, none, ⟨0, 0, 0, 0⟩⟩)) ∧
        (s.portState p ≠ .up → exec (.onestepDepart p late) s = .next (if s.portState p = .sleep then u else u.portCount p 62 1))) ∧
    (∀ (n : Fin 4) (k : Nat), s.ppsLive n = true → 0 ≤ (s.ppsTime n : Int) - s.ppsOfs n →
      k = (((s.ppsTime n : Int) - s.ppsOfs n) / (lsbSec : Int)).toNat → s.time.ppsNext.getD n 0 ≤ k →
      ∃ (t : State) (edge : Int), edge = ((k * lsbSec : Nat) : Int) + s.ppsOfs n ∧ exec (.ppsOutEdge n) s = .next t ∧
        t.time.ppsPin = s.time.ppsPin.set n (!s.ppsIdle n) ∧ t.time.ppsNext = s.time.ppsNext.set n (k + 1) ∧
        t.time.ppsPulse = s.time.ppsPulse.set n (some edge.toNat) ∧
        t.time.todDue = (if n.val = 0 then some k else s.time.todDue) ∧
        t.out = .pps n (!s.ppsIdle n) (s.ppsGrid n edge).toNat :: s.out ∧
        t.regs = s.regs ∧ t.tabs = s.tabs ∧ t.hbm = s.hbm ∧ t.line = s.line) ∧
    (∀ (n : Fin 4) (edge : Nat), s.time.ppsPulse.getD n none = some edge →
      edge + (s.rd (A.tio (R.TIME_PPSOUT_WIDTH + 16 * n))).toNat * lsbUs ≤ s.ppsTime n ∨ edge + lsbSec ≤ s.ppsTime n →
      ∃ t, exec (.ppsOutPulseEnd n) s = .next t ∧ t.time.ppsPulse = s.time.ppsPulse.set n none ∧
        t.time.ppsPin = s.time.ppsPin.set n (s.ppsLive n && s.ppsIdle n) ∧
        t.out = .pps n (s.ppsLive n && s.ppsIdle n) (s.ppsTime n) :: s.out ∧
        t.regs = s.regs ∧ t.tabs = s.tabs ∧ t.hbm = s.hbm ∧ t.line = s.line) ∧
    (∀ (n : Fin 2) (phase : Fin 64), s.rgnRuns 1 = true → s.rbit (ppsInCtrlA n) 0 = true →
      ∃ u : State, u = (s.ppsInDom .cobalt n phase).ppsInDom .umber n phase ∧
        exec (.ppsInEdge n phase) s = .next { u with time := { u.time with
          ppsInTick := u.time.ppsInTick.set n u.time.ticks, ppsInLost := u.time.ppsInLost.set n false
          ppsInEdge := u.time.ppsInEdge.set n (some u.time.ticks) } }) ∧
    (∀ n : Fin 2, s.rgnRuns 1 = true → s.rbit (ppsInCtrlA n) 0 = true → s.time.ppsInLost.getD n false = false →
      1500000 * ticksPerUs ≤ s.time.ticks - s.time.ppsInTick.getD n 0 →
      exec (.ppsinLoss n) s =
        .next (State.raise { s with time := { s.time with ppsInLost := s.time.ppsInLost.set n true } } 1 3 n))

/-- Reads that pass the checks: DATA0 of the timestamp queue and of the loss log latches the head entry for the reader and answers its
first word, or 0 when empty; the last word answers the latched entry's word, or the head's where nothing is latched, and removes the head
(assumption 79), or answers 0 when empty; TOD_RXDATA answers the oldest byte with VALID and removes it, or 0. A good ToD message is queued
byte for byte, and its time event meets both domains; one with a bad checksum is discarded and raised; the due message is sent DELAY ms
after its PPS_OUT0 edge. A measured reference is qualified against a domain in LOCK, and lost. A PTM dialog whose times came writes its
record with SEQ odd while the fields change; a failed one of a unit that runs dialogs raises PTM_FAIL and writes nothing. -/
def Obligations.TimestampTodReferenceAndPtmResults : Prop :=
  ∀ (s : State) (m : Master),
    (s.mayRead m (A.tsu R.TIME_TSQ_DATA) →
      exec (.tsqReadHead m) s = .next (State.emit { s with time := { s.time with
        tsqLatch := headPut s.time.tsqLatch (some m) (s.tsqOf s.tsqPort).head? } }
        (.reply m (match (s.tsqOf s.tsqPort).head? with
          | some e => e.tag % 2 ^ 32
          | none => 0)))) ∧
    (s.mayRead m (A.tsu (R.TIME_TSQ_DATA + 12)) →
      (∀ h r, s.tsqOf s.tsqPort = h :: r → ∃ e : TsqEntry, e = (headOf s.time.tsqLatch (some m)).getD h ∧
        exec (.tsqReadPop m) s = .next (State.emit { s with time := { s.time with
          tsqLatch := headPut s.time.tsqLatch (some m) none, tsq := s.time.tsq.set s.tsqPort r } } (.reply m (2 ^ 31 + tvNs e.stamp)))) ∧
      (s.tsqOf s.tsqPort = [] → exec (.tsqReadPop m) s = .next (State.emit { s with time := { s.time with
        tsqLatch := headPut s.time.tsqLatch (some m) none } } (.reply m 0)))) ∧
    (s.mayRead m (A.tsu R.TIME_LOSS_DATA) →
      exec (.lossReadHead m) s = .next (State.emit { s with time := { s.time with
        lossLatch := headPut s.time.lossLatch (some m) s.time.loss.head? } }
        (.reply m (match s.time.loss.head? with
          | some e => e.tag % 2 ^ 32
          | none => 0)))) ∧
    (s.mayRead m (A.tsu (R.TIME_LOSS_DATA + 4)) →
      (∀ h r, s.time.loss = h :: r → ∃ e : LossRec, e = (headOf s.time.lossLatch (some m)).getD h ∧
        exec (.lossReadPop m) s = .next (State.emit { s with time := { s.time with
          lossLatch := headPut s.time.lossLatch (some m) none, loss := r } }
          (.reply m (2 ^ 31 + e.port % 64 * 2 ^ 24 + e.sec % 65536)))) ∧
      (s.time.loss = [] → exec (.lossReadPop m) s = .next (State.emit { s with time := { s.time with
        lossLatch := headPut s.time.lossLatch (some m) none } } (.reply m 0)))) ∧
    (s.mayRead m (A.tio R.TIME_TOD_RXDATA) →
      (∀ b r, s.time.todRx = b :: r → exec (.todRxdataRead m) s =
        .next (State.emit { s with time := { s.time with todRx := r } } (.reply m (b.toNat + 2 ^ 31)))) ∧
      (s.time.todRx = [] → exec (.todRxdataRead m) s = .next (s.emit (.reply m 0)))) ∧
    (∀ msg : TodMessage, s.rgnRuns 1 = true → s.rbit (A.tio R.TIME_TOD_CTRL) 4 = true →
      (∀ u : State, msg.checksumOk = true → u = { s with time := { s.time with todRx := s.time.todRx ++ msg.bytes } } →
        exec (.todRxMessage msg) s = .next (match msg.timeEventSec with
          | some sec => (u.todDom .cobalt sec).todDom .umber sec
          | none => u)) ∧
      (msg.checksumOk = false → exec (.todRxMessage msg) s = .next (s.raise 1 3 2))) ∧
    (∀ k, s.time.todDue = some k → s.rgnRuns 1 = true → s.rbit (A.tio R.TIME_TOD_CTRL) 3 = true →
      ((k * lsbSec : Nat) : Int) + s.ppsOfs 0 + (s.fld (A.tio R.TIME_TOD_CTRL) 16 9 * 1000 * lsbUs : Nat) ≤ s.ppsTime 0 →
      exec .todTxMessage s = .next (State.emit { s with time := { s.time with todDue := none } }
        (.todTx k (s.rd (A.tio R.TIME_TOD_LEAP)) s.todTxbuf))) ∧
    (∀ ofs : Word, s.rgnRuns 1 = true → s.rbit (A.tio R.TIME_REF_CTRL) 0 = true → s.time.refQualified = false →
      s.time.cobalt.state = .lock ∨ s.time.umber.state = .lock →
      exec (.refQualify ofs) s = .next (State.raise
        { (s.wr (A.tio R.TIME_REF_FOFS) ofs).setRbit (A.tio R.TIME_REF_STAT) 0 true with
          time := { s.time with refQualified := true, refTick := none } } 1 3 4)) ∧
    (s.time.refQualified = true →
      exec .refLoss s = .next (State.raise { s.setRbit (A.tio R.TIME_REF_STAT) 0 false with
        time := { s.time with refQualified := false } } 1 3 3)) ∧
    (∀ l : Fin 4, s.ptmOn l = true →
      exec (.ptmDialog l none) s = .next (s.raise 1 5 l) ∧
      (∀ x : PtmTimes, s.storesWf = true → s.ptmRuns l = true → ∃ (t : State) (body : List Byte), exec (.ptmDialog l (some x)) s = .next t ∧
        body.length = 28 ∧ t.time.ptmSeq = s.time.ptmSeq.set l (s.time.ptmSeq.getD l 0 + 2) ∧
        (∃ a : Nat, a = (s.rd (ptmA R.TIME_PTM_ADDR_LO l)).toNat + (s.rd (ptmA R.TIME_PTM_ADDR_HI l)).toNat * 2 ^ 32 ∧
          t.out = .hostWrite l none a (leBytes 4 (s.time.ptmSeq.getD l 0 + 2)) :: .hostWrite l none (a + 4) body ::
            .hostWrite l none a (leBytes 4 (s.time.ptmSeq.getD l 0 + 1)) :: s.out) ∧
        t.tabs = s.tabs ∧ t.hbm = s.hbm ∧ t.line = s.line))

/-- VSB33 present, rails in tolerance and the edges of RESET_N bring the device to the state the pins call for. A fall of RESET_N, a loss
of VIN12 with the rails up and a loss of VSB33 each leave the state of a chip reset: every register at its reset value, every table entry
zero, HBM lost, the flash, the fuses and what has left the device kept; the device is in RESET, STANDBY or OFF. A VIN12 between 11.4 V
and 10.8 V only raises VIN12_LOW. -/
def Obligations.SuppliesAndResetNMoveTheDevice : Prop :=
  ∀ s : State,
    exec .vsb33Rise s = .next { s with boot := { s.boot with vsb := true } } ∧
    exec .vin12Valid s = .next { s with boot := { s.boot with vin12 := true } } ∧
    (s.boot.vsb = true → s.boot.vsbPresent = false → s.boot.dev = .off →
      ∃ t, exec .vsb33Present s = .next t ∧ t.boot.vsbPresent = true ∧
        t.boot.dev = (if s.boot.resetN then (if s.boot.vin12 && s.boot.rails then .boot else .standby) else .reset) ∧
        t.regs = s.regs ∧ t.tabs = s.tabs ∧ t.flash = s.flash) ∧
    (s.boot.vin12 = true → s.boot.vsb = true → s.boot.vsbPresent = true → s.boot.rails = false → s.boot.dev = .standby →
      s.boot.resetN = true →
      ∃ t, exec .railsInTolerance s = .next t ∧ t.boot.rails = true ∧ t.boot.dev = .boot ∧ t.regs = s.regs ∧ t.tabs = s.tabs) ∧
    (s.boot.resetN = false → s.boot.dev = .reset → s.boot.vsb = true → s.boot.vsbPresent = true →
      ∃ t, exec .resetNRise s = .next t ∧ t.boot.resetN = true ∧
        t.boot.dev = (if s.boot.vin12 && s.boot.rails then .boot else .standby) ∧ t.regs = s.regs ∧ t.tabs = s.tabs) ∧
    (s.boot.resetN = true → s.boot.vsb = true → s.boot.vsbPresent = true →
      ∃ t, exec .resetNFall s = .next t ∧ t.boot.dev = .reset ∧ (∀ a, t.rd a = regReset a) ∧ (∀ r b n i, t.tab r b n i = 0) ∧
        t.hbm = [] ∧ t.flash = s.flash ∧ t.out = s.out ∧ t.boot.secFuses = s.boot.secFuses ∧
        t.boot.keyRevoked = s.boot.keyRevoked) ∧
    (s.boot.rails = true → s.boot.vsb = true → s.boot.vsbPresent = true → s.boot.resetN = true →
      ∃ t, exec .vin12Loss s = .next t ∧ t.boot.dev = .standby ∧ t.boot.vin12 = false ∧ (∀ a, t.rd a = regReset a) ∧
        (∀ r b n i, t.tab r b n i = 0) ∧ t.hbm = [] ∧ t.flash = s.flash ∧ t.out = s.out) ∧
    (s.boot.rails = true → s.awake = true → exec .vin12Low s = .next (s.raise 0 13 4)) ∧
    (∃ t, exec .vsb33Loss s = .next t ∧ t.boot.dev = .off ∧ (∀ a, t.rd a = regReset a) ∧ (∀ r b n i, t.tab r b n i = 0) ∧
        t.hbm = [] ∧ t.flash = s.flash ∧ t.out = s.out)

/-- BOOT_START runs once when no thermal hold stands, and SYS_BOOT_TIME counts from it; under a hold BOOT waits and shows it. Fewer than 15
die-to-die modules end in RECOVERY, 15 or 16 bring HBM's regions towards release, the missing one kept as a cause. A good identity memory
sets SYS_BOARD, SYS_PLAN and the device ID; none, or a bad one, leads to HALT. A stack that does not answer, or with more than two bad
ranks, ends in RECOVERY; else the stacks come up. A verified image becomes the image in use, any other fails over, and an uncorrectable
line of HBM under it is an application failure. Write lists go in order, a region that stays down passed over, a list that waits for a
POLL going on at the next command and one that fails being an application failure, then the preloads; with all applied, firmware that
loads makes the device RUNNING, or HALT without a device ID, and firmware that does not is an application failure. -/
def Obligations.BootStepsRunInTheirOrder : Prop :=
  ∀ s : State,
    (∀ x : BootReads, s.boot.dev = .boot → s.boot.started = false →
      (s.bootHold = true → exec (.bootStart x) s = .next (s.setRbit thermStatA 26 true)) ∧
      (s.bootHold = false → ∃ t, exec (.bootStart x) s = .next t ∧ t = s.bootStart x ∧
        t.boot.started = true ∧ t.boot.startTick = s.time.ticks)) ∧
    (s.booting = true →
      (∀ n : Fin 17, s.boot.d2dDone = false →
        (n.val < 15 → ∃ t, exec (.dieToDieLinkUp n) s = .next t ∧ t.boot.dev = .recovery ∧ t.boot.live = 0 ∧ t.boot.slot = 0 ∧
          t.flt.d2dModules = n) ∧
        (15 ≤ n.val → exec (.dieToDieLinkUp n) s = .next
          ((State.setLive { s with flt := { s.flt with d2dModules := n, d2dCause := n < 16 } } 0x0D).setLive 0x10).setD2dDone)) ∧
      (∀ b : List Byte, s.boot.bidDone = false → bidOk b = true →
        exec (.bidReadDone (some b)) s = .next ((((s.setBootSt { s.boot with bidDone := true, bid := b }).wr (A.boot R.SYS_BOARD)
          (BitVec.ofNat 32 (bidType b + bidMode b % 4 * 65536))).wr (A.boot R.SYS_PLAN) (BitVec.ofNat 32 (bidPlan b))).cpStore
            0x3FF (A.boot R.SYS_DEVICE_ID) (natField (leAt b 8 4) 0 10))) ∧
      (s.boot.bidDone = false → ∀ q : Option (List Byte), (∀ b, q = some b → bidOk b = false) →
        ∃ t, exec (.bidReadDone q) s = .next t ∧ t.boot.haltDue = true ∧ t.boot.bidDone = true) ∧
      (∀ x0 x1 x2 x3 : StackCheck, s.boot.d2dDone = true → s.boot.hbmDone = false →
        (x0.answers = false ∨ x1.answers = false ∨ x2.answers = false ∨ x3.answers = false →
          ∃ t, exec (.hbmVerifyDone x0 x1 x2 x3 false false) s = .next t ∧ t.boot.dev = .recovery) ∧
        (x0.answers = true → x1.answers = true → x2.answers = true → x3.answers = true →
          (∀ n x, (n, x) ∈ [(0, x0), (1, x1), (2, x2), (3, x3)] → (badRanks (natField s.recordBits (96 * n) 96) x).length ≤ 2) →
          ∃ t u : State, u = [(0, x0), (1, x1), (2, x2), (3, x3)].foldl
              (fun u p => u.stackUp p.1 (badRanks (natField s.recordBits (96 * p.1) 96) p.2) p.2) s ∧
            exec (.hbmVerifyDone x0 x1 x2 x3 false false) s = .next t ∧ t = u.setBootSt { u.boot with hbmDone := true })) ∧
      (∀ b : List Byte, s.boot.hbmDone = true → s.boot.image = [] →
        ((s.imageLoad s.boot.slot false).2 = some b → ∃ t, exec (.imageVerifyDone false false) s = .next t ∧
          t.boot.image = b ∧ t.boot.imageFlags = imgFlags b) ∧
        ((s.imageLoad s.boot.slot false).2 = none →
          exec (.imageVerifyDone false false) s = .next ((s.imageLoad s.boot.slot false).1.failOver 0x10)) ∧
        exec (.imageVerifyDone false true) s = .next s.appFail) ∧
      (s.boot.image ≠ [] → s.boot.bidDone = true →
        (s.boot.applied < 25 → s.boot.applied ≠ 21 → ∀ (r : Nat) (u : State),
          r = (if s.boot.applied < 21 then listOrder.getD s.boot.applied 0 else 9 + (s.boot.applied - 22)) →
          u = (if s.boot.listPos = 0 ∧ s.boot.pollTick = none then s.beforeList r else s) →
          (u.staysDown r = true → exec .writeListApply s = .next u.listDone) ∧
          (u.staysDown r = false →
            (∀ p t w, (u.setLive r).sectionRun u.boot.image r u.boot.listPos u.boot.pollTick = .ended p t → t.boot.started = true →
              t.afterList r = some w → exec .writeListApply s = .next w.listDone) ∧
            (∀ p since t, (u.setLive r).sectionRun u.boot.image r u.boot.listPos u.boot.pollTick = .wait p since t →
              exec .writeListApply s = .next (t.setBootSt { t.boot with listPos := p, pollTick := some since })) ∧
            (∀ p t, (u.setLive r).sectionRun u.boot.image r u.boot.listPos u.boot.pollTick = .fail p t →
              exec .writeListApply s = .next t.appFail))) ∧
        (s.boot.applied = 21 →
          (∀ t, (s.preload s.boot.image (fun r => !s.staysDown r)).bind (fun t => t.parsePreload t.boot.image) = some t →
            exec .writeListApply s = .next t.listDone) ∧
          ((s.preload s.boot.image (fun r => !s.staysDown r)).bind (fun t => t.parsePreload t.boot.image) = none →
            exec .writeListApply s = .next s.appFail))) ∧
      (s.boot.applied = 25 → s.boot.released = false →
        (∀ u, s.setBoot.fwLoad s.boot.image = some u → ∃ w : State, w = ((u.leaveDown 2).leaveDown 0x14).leaveDown 0x15 ∧
          exec .fwLoadRelease s = .next (w.setBootSt { w.boot with
            dev := if w.boot.haltDue then .halt else .running
            imageLoaded := true
            released := true
            health := w.brec.healthPending
            healthTick := w.time.ticks })) ∧
        (s.setBoot.fwLoad s.boot.image = none → exec .fwLoadRelease s = .next s.appFail)))

/-- The first sweep checks all 64 cages, one not listed being empty, in HALT after reading MODX; later sweeps check the cages whose check is
due. FWD_READY is raised once the device runs with valid time, the sweep has been made and no fitted lane and no port holds it back, and
SYS_BOOT_TIME is written in ms. A lane or port that is not ready when its own wait expires is late, an unfitted or ready one is not.
WT_LATE is raised once. The loader declares the anchor's domain after its first accepted offset and its seconds. -/
def Obligations.SweepAndForwardingReady : Prop :=
  ∀ s : State,
    (∀ l : List CageCheck, s.boot.released = true → s.boot.swept = false →
      ∃ u : State, u = (List.range 64).foldl (fun u c => u.cageCheck c
          (match l.find? (fun x => x.cage.val == c) with
            | some x => x.read
            | none => .absent)) (if s.boot.haltDue then s.modxLoad else s) ∧
        exec (.cmisSweep l) s = .next (u.setBootSt { u.boot with swept := true })) ∧
    (∀ l : List CageCheck, s.boot.released = true → s.boot.swept = true →
      exec (.cmisSweep l) s =
        .next (l.foldl (fun u x => if (u.cage x.cage).checkDue then u.cageCheck x.cage x.read else u) s)) ∧
    (s.boot.dev = .running → s.time.wtValid = true → s.boot.swept = true → s.rbit bootStatA 7 = false →
      s.boot.isolated = true ∨ (∀ l, l < 144 → s.laneFitted l = true → s.laneReady l = true ∨ l ∈ s.boot.lanesLate) →
      (∀ p, p < 64 → s.portReady p = true) →
      exec .fwdReady s = .next (((s.setRbit bootStatA 7 true).wr (A.boot R.SYS_BOOT_TIME)
        (BitVec.ofNat 32 (divFree (s.time.ticks - s.boot.startTick : Nat) (1000 * ticksPerUs)).toNat)).bootRaise 10)) ∧
    (s.boot.dev = .running → s.boot.swept = true → s.rbit bootStatA 7 = false →
      (∀ l : Fin 144, exec (.fwdWaitExpiry (.lane l)) s =
        .next (if s.laneFitted l = true ∧ s.laneReady l = false ∧ l.val ∉ s.boot.lanesLate then
          { s with boot := { s.boot with lanesLate := s.boot.lanesLate ++ [l.val] } } else s)) ∧
      (∀ p : Fin 64, exec (.fwdWaitExpiry (.port p)) s =
        .next (if s.portReady p then s else s.setRbit (fwdLateA p) (p.val % 32) true))) ∧
    (s.boot.dev = .running → s.time.wtValid = false → s.boot.wtLate = false → s.boot.wtLimit ≠ 0 →
      ∃ t, exec .wtLate s = .next t ∧ t = ((s.bootFail 0x23).bootRaise 8).setBootSt
        { ((s.bootFail 0x23).bootRaise 8).boot with wtLate := true }) ∧
    (s.boot.declCobalt = true → s.time.cobalt.tookOffset = true → s.time.cobalt.secLoaded = true →
      exec (.declareFirst .cobalt) s = .next ((s.setBootSt { s.boot with declCobalt := false }).setValid .cobalt)) ∧
    (s.boot.declUmber = true → s.time.umber.tookOffset = true → s.time.umber.secLoaded = true →
      exec (.declareFirst .umber) s = .next ((s.setBootSt { s.boot with declUmber := false }).setValid .umber))

/-- A 32-bit write that passes the checks leaves a read-only or read-to-clear register as it is, clears the written ones of a W1C
register, is refused and logged at a CP register, stores BMASK, is logged and drops at a locked RWL register, changes nothing but its
refusal where an RW register's range refuses the value, and otherwise has the register's own effect. A read of a 32-bit read-to-clear
register answers its value and clears it; a read of a latching word answers it and keeps the words that belong to it for that master. BCAUSE
is cleared bit by bit, BCAUSE_SET raises the defined bits, BRESET holds and releases a block, and only 0xA5C3 resets the chip, any other
well-formed pair doing nothing (assumption 74) and a pair that is not whole being refused and logged. A scrub pass logs each touched CP
pair that disagrees, once; where all agree it changes nothing. -/
def Obligations.RegisterWindowFollowsRegisterTypes : Prop :=
  ∀ (s : State) (m : Master) (a : BitVec 26), s.storesWf = true →
    (∀ (v : BitVec 64) (row : RegRow) (i k w : Nat), s.busCheck m a.toNat 4 false true = .ok → 0x40 ≤ addrOff a.toNat →
      winCount (addrRegion a.toNat) (addrBlock a.toNat) = 0 → w = v.toNat % 2 ^ 32 →
      findRow (blockRows (addrRegion a.toNat) (addrBlock a.toNat)) (addrOff a.toNat) = some (row, i, k) →
      (row.type = .ro ∨ row.type = .rc → exec (.registerWrite ⟨m, a, 4, false⟩ v false) s = .next s) ∧
      (row.type = .w1c → ∃ t, exec (.registerWrite ⟨m, a, 4, false⟩ v false) s = .next t ∧
        t.rd a.toNat = (s.rd a.toNat &&& ~~~ BitVec.ofNat 32 w) ∧
        (∀ b, b ≠ a.toNat → t.rd b = s.rd b) ∧ t.tabs = s.tabs ∧ t.hbm = s.hbm ∧ t.flash = s.flash ∧ t.time = s.time) ∧
      (row.type = .cp → exec (.registerWrite ⟨m, a, 4, false⟩ v false) s = .next (s.cpRefused (some m) a.toNat)) ∧
      (row.type = .rwl → s.boot.imageLoaded = true →
        exec (.registerWrite ⟨m, a, 4, false⟩ v false) s = .next (s.lockedWrite (some m) a.toNat)) ∧
      (row.type = .rw ∨ row.type = .wo → row.hi = 0 ∨ (row.lo ≤ w &&& row.mask ∧ w &&& row.mask ≤ row.hi) →
        exec (.registerWrite ⟨m, a, 4, false⟩ v false) s = .next (s.regHook (some m) a.toNat row i w)) ∧
      (row.type = .rw ∨ row.type = .wo → row.hi ≠ 0 → w &&& row.mask < row.lo ∨ row.hi < w &&& row.mask →
        addrRegion a.toNat ≠ 2 → addrRegion a.toNat ≠ 12 →
        exec (.registerWrite ⟨m, a, 4, false⟩ v false) s = .next (s.rangeRefused (addrRegion a.toNat) (addrBlock a.toNat)))) ∧
    (∀ v : BitVec 64, s.busCheck m a.toNat 4 false true = .ok → addrOff a.toNat = 0x00C →
      exec (.registerWrite ⟨m, a, 4, false⟩ v false) s = .next (s.wr a.toNat (BitVec.ofNat 32 (v.toNat % 2 ^ 32)))) ∧
    (∀ (row : RegRow) (i : Nat), s.busCheck m a.toNat 4 false false = .ok → (s.latch m a.toNat).take a.toNat = none →
      s.readTake (some m) a.toNat = none → s.headWord m a.toNat = none →
      latchWords (addrRegion a.toNat) (addrBlock a.toNat) (addrOff a.toNat) = 0 →
      findRow (blockRows (addrRegion a.toNat) (addrBlock a.toNat)) (addrOff a.toNat) = some (row, i, 0) →
      row.type = .rc → row.w = 1 → i < 4096 → addrRegion a.toNat ≠ 0x13 → (row.cnt && s.ctl.snapFrozen) = false →
      ∃ t, exec (.counterReadClear ⟨m, a, 4, false⟩) s = .next t ∧ t.out = .reply m (s.view a.toNat) :: s.out ∧
        t.rd a.toNat = 0 ∧ (∀ b, b ≠ a.toNat → t.rd b = s.rd b) ∧ t.tabs = s.tabs ∧ t.hbm = s.hbm ∧ t.time = s.time) ∧
    (s.busCheck m a.toNat 4 false false = .ok → (s.latch m a.toNat).take a.toNat = none → s.readTake (some m) a.toNat = none →
      s.headWord m a.toNat = none → latchWords (addrRegion a.toNat) (addrBlock a.toNat) (addrOff a.toNat) ≠ 0 →
      exec (.latchWordRead ⟨m, a, 4, false⟩) s = .next (((s.setLatch m a.toNat ⟨a.toNat,
        (List.range (latchWords (addrRegion a.toNat) (addrBlock a.toNat) (addrOff a.toNat))).map
          (fun i => BitVec.ofNat 32 (s.view (a.toNat + 4 * (i + 1))))⟩).readClear a.toNat).emit (.reply m (s.view a.toNat)))) ∧
    (∀ (x : BlockRef) (v : Word), s.mayWrite m (regAddr x.region x.block 0x008) →
      ∃ u : State, u = s.wr (regAddr x.region x.block 0x008) (s.rd (regAddr x.region x.block 0x008) &&& ~~~ v) ∧
        exec (.bcauseClear m x v) s = .next (if 3 ≤ x.region.val ∧ x.region.val ≤ 6 ∧ (x.block.val = 10 ∨ x.block.val = 11) ∧
          natBit v.toNat 6 = true then u.wr (regAddr x.region x.block R.PIPE_ASC_TIE_REC) 0 else u)) ∧
    (∀ (x : BlockRef) (v : Word), s.mayWrite m (regAddr x.region x.block 0x030) →
      exec (.bcauseSet m x v) s = .next ((List.range 32).foldl
        (fun t k => if natBit (v.toNat &&& causeMask x.region x.block) k then t.raise x.region x.block k else t) s)) ∧
    (∀ (x : BlockRef) (r b : Nat), s.mayWriteCp m (regAddr x.region x.block 0x018) → r = x.region.val → b = x.block.val →
      (∀ u : State, u = s.cpStore 1 (regAddr r b 0x018) 1 → u.blkHeld r b = true ∧
        exec (.bresetHold m x) s = .next (if s.blkHeld r b then u else u.blockCut r b)) ∧
      (∀ u : State, u = s.cpStore 1 (regAddr r b 0x018) 0 →
        exec (.bresetRelease m x) s = .next (if s.blkHeld r b then
          ((State.setRbit { u with flt := { u.flt with blockAuto := u.flt.blockAuto.filter (fun y => y != r * 64 + b) } }
            (regAddr r b 0x010) 1 false).blockEpoch r b).blockInit r b else u))) ∧
    (s.mayWriteCp m (A.rgn R.SYS_CHIP_RESET) →
      exec (.chipResetWrite m (pairOf 0xFFFFFFFF 0xA5C3)) s = .next s.chipReset ∧
      (∀ v : Nat, v < 2 ^ 32 → v ≠ 0xA5C3 → exec (.chipResetWrite m (pairOf 0xFFFFFFFF v)) s = .next s) ∧
      (∀ q : BitVec 64, cpWhole 0xFFFFFFFF (q.toNat % 2 ^ 32) (q.toNat / 2 ^ 32) = false →
        exec (.chipResetWrite m q) s = .next (s.cpRefused (some m) (A.rgn R.SYS_CHIP_RESET)))) ∧
    (exec (.cpScrub none) s = .next ((s.cpTouched.filter
        (fun q => !cpWhole q.2 (s.rd q.1).toNat (s.rd (q.1 + 4)).toNat)).eraseDups.foldl (fun t q => t.intgLog 2 q.1 4 0 0) s)) ∧
    ((∀ q ∈ s.cpTouched, cpWhole q.2 (s.rd q.1).toNat (s.rd (q.1 + 4)).toNat = true) → exec (.cpScrub none) s = .next s)

/-- A window outside the key slots and the arrays' entries (TABLE 0x62), whose commands have statements of their own. A busy window ignores
a command with ERR 5. Else, of a table that takes the general commands: an INDEX beyond the table ends with ERR 1; READ copies the entry
at INDEX into WIN_DATA, or ends with ERR 3 where it cannot be read, WRITE writes it from WIN_DATA under VMASK, CLEAR clears it, READ_CLEAR
copies and clears a counter entry, only copies it while counting is frozen, and ends with ERR 3 on any other table; each ends with ERR and
the entry size, INDEX moving on with AUTOINC. An unknown TABLE code ends with ERR 2. With a Glide's queue open in a region it covers,
WRITE, CLEAR and READ_CLEAR join the queue. `u` is the state with the command's other fields stored in WIN_CTRL. -/
def Obligations.WindowCommandsActOnTheEntry : Prop :=
  ∀ (s u : State) (m : Master) (x : WinRef) (v : Word) (a t : Nat) (queued : Bool),
    a = winA x.region x.block x.w → s.mayWrite m a → x.w.val < winCount x.region x.block → t = natField v.toNat 4 8 →
    ¬(x.region.val = 8 ∧ x.block.val = 0) →
    ¬(3 ≤ x.region.val ∧ x.region.val ≤ 6 ∧ (x.block.val = 10 ∨ x.block.val = 11) ∧ t = 0x62) →
    queued = (s.glideQueues && glideRegion (addrRegion a)) → u = s.wr a (BitVec.ofNat 32 (natField v.toNat 4 11 * 16)) →
    (s.rbit (a + 12) 0 = true →
      exec (.winRead m x v) s = .next (s.setFld (a + 12) 1 3 5) ∧ exec (.winWrite m x v) s = .next (s.setFld (a + 12) 1 3 5) ∧
      exec (.winClear m x v) s = .next (s.setFld (a + 12) 1 3 5)) ∧
    (s.rbit (a + 12) 0 = false → queued = true →
      exec (.winWrite m x v) s = .next (s.winQueue a (withCmd v 2)) ∧ exec (.winClear m x v) s = .next (s.winQueue a (withCmd v 3)) ∧
      (0x11 ≤ x.region.val → t ≠ 0x70 → exec (.winReadClear m x v) s = .next (s.winQueue a (withCmd v 8)))) ∧
    (s.rbit (a + 12) 0 = false → s.tableOf x.region x.block t = none → ownTable x.region x.block t = false →
      exec (.winRead m x v) s = .next (u.winEnd a 2 0) ∧
      (queued = false → exec (.winWrite m x v) s = .next (u.winEnd a 2 0) ∧ exec (.winClear m x v) s = .next (u.winEnd a 2 0))) ∧
    (∀ table : WinTable, s.rbit (a + 12) 0 = false → s.tableOf x.region x.block t = some table →
      (table.count u ≤ u.winIndex a → exec (.winRead m x v) s = .next (u.winEnd a 1 table.bytes) ∧
        (queued = false → exec (.winWrite m x v) s = .next (u.winEnd a 1 table.bytes) ∧
          exec (.winClear m x v) s = .next (u.winEnd a 1 table.bytes))) ∧
      (u.winIndex a < table.count u →
        (∀ e, table.get u (u.winIndex a) (u.winVmask a) = some e →
          exec (.winRead m x v) s = .next ((u.setWinData a (table.bytes / 4) e).winEnd a 0 table.bytes)) ∧
        (table.get u (u.winIndex a) (u.winVmask a) = none → exec (.winRead m x v) s = .next (u.winEnd a 3 table.bytes)) ∧
        (queued = false →
          exec (.winWrite m x v) s =
            .next ((table.put u (u.winIndex a) (u.winVmask a) (u.winDataN a (table.bytes / 4))).2.winEnd a
              (table.put u (u.winIndex a) (u.winVmask a) (u.winDataN a (table.bytes / 4))).1 table.bytes) ∧
          exec (.winClear m x v) s =
            .next ((table.clear u (u.winIndex a) (u.winVmask a)).2.winEnd a
              (table.clear u (u.winIndex a) (u.winVmask a)).1 table.bytes) ∧
          (x.region.val ≠ 7 → ¬(3 ≤ x.region.val ∧ x.region.val ≤ 6) → t ≠ 0x70 →
            (∀ e, table.readClear = true → table.get u (u.winIndex a) (u.winVmask a) = some e →
              (u.ctl.snapFrozen = false → exec (.winReadClear m x v) s =
                .next (((table.clear u (u.winIndex a) (u.winVmask a)).2.setWinData a (table.bytes / 4) e).winEnd a
                  (table.clear u (u.winIndex a) (u.winVmask a)).1 table.bytes)) ∧
              (u.ctl.snapFrozen = true → exec (.winReadClear m x v) s =
                .next ((u.setWinData a (table.bytes / 4) e).winEnd a 0 table.bytes))) ∧
            (table.readClear = false → exec (.winReadClear m x v) s = .next (u.winEnd a 3 table.bytes))))))

/-- A read of SYS_INTG_LOG0 latches the head entry for its reader and answers its first word; a read of LOG3 answers the last word of the
latched entry, or of the head where nothing is latched, and removes the head; an empty log answers 0. COPY and FREEZE arm at SYS_SNAP_AT
when no freeze is armed or active and no copy runs, and are refused with the cause raised otherwise; THAW arms at the instant, THAW
now ends the freeze, DISARM cancels. At the armed instant a copy keeps the counters as they stand, the logs' overflow counts among them, or
counting freezes; when the area is written the copy ends and SNAP_DONE is raised, memory outside the area being its own affair. -/
def Obligations.IntegrityLogAndSnapshot : Prop :=
  ∀ (s : State) (m : Master),
    (s.mayRead m (A.intg R.SYS_INTG_LOG) →
      exec (.intgLogReadHead m) s = .next (State.emit { s with ctl := { s.ctl with
        intgLatch := headPut s.ctl.intgLatch (some m) s.ctl.intg.head? } }
        (.reply m (match s.ctl.intg.head? with
          | some e => e.w0.toNat
          | none => 0)))) ∧
    (s.mayRead m (A.intg (R.SYS_INTG_LOG + 12)) →
      (∀ h r, s.ctl.intg = h :: r → ∃ e : IntgEntry, e = (headOf s.ctl.intgLatch (some m)).getD h ∧
        exec (.intgLogReadPop m) s = .next (State.emit { s with ctl := { s.ctl with
          intgLatch := headPut s.ctl.intgLatch (some m) none, intg := r } } (.reply m e.w3.toNat))) ∧
      (s.ctl.intg = [] → exec (.intgLogReadPop m) s = .next (State.emit { s with ctl := { s.ctl with
        intgLatch := headPut s.ctl.intgLatch (some m) none } } (.reply m 0)))) ∧
    (s.mayWrite m (A.snap R.SYS_SNAP_CTRL) →
      (s.snapBusy = false →
        exec (.snapCopyArm m) s = .next { s with ctl := { s.ctl with
          snapArmed := some (.copy, s.instant (A.snap R.SYS_SNAP_AT_NS))
          snapLate := s.time.wtValid && decide (s.instant (A.snap R.SYS_SNAP_AT_NS) < s.wt) } } ∧
        exec (.snapFreezeArm m) s = .next { s with ctl := { s.ctl with
          snapArmed := some (.freeze, s.instant (A.snap R.SYS_SNAP_AT_NS))
          snapLate := s.time.wtValid && decide (s.instant (A.snap R.SYS_SNAP_AT_NS) < s.wt) } }) ∧
      (s.snapBusy = true → exec (.snapCopyArm m) s = .next (s.raise 0 5 1) ∧
        exec (.snapFreezeArm m) s = .next (s.raise 0 5 1)) ∧
      exec (.snapThawAt m) s = .next { s with ctl := { s.ctl with
        snapThaw := some (s.instant (A.snap R.SYS_SNAP_AT_NS))
        snapLate := s.time.wtValid && decide (s.instant (A.snap R.SYS_SNAP_AT_NS) < s.wt) } } ∧
      exec (.snapThawNow m) s = .next { s with ctl := { s.ctl with snapFrozen := false, snapThaw := none } } ∧
      exec (.snapDisarm m) s = .next { s with ctl := { s.ctl with snapArmed := none, snapThaw := none } }) ∧
    (∀ i, s.instantDue i = true →
      (s.ctl.snapArmed = some (.copy, i) → exec .snapInstant s = .next { s with ctl := { s.ctl with
        snapArmed := none, snapCopy := some i, snapSeq := (s.ctl.snapSeq + 1) % 256
        snapAbsent := bitsWhere (fun r => s.rgnAbsent r) 26, snapTabs := s.tabs
        snapRegs := s.ovfCounts.foldl (fun l q => spPut regReset l q.1 (BitVec.ofNat 32 (q.2 * 65536))) s.regs } }) ∧
      (s.ctl.snapArmed = some (.freeze, i) →
        exec .snapInstant s = .next { s with ctl := { s.ctl with snapArmed := none, snapFrozen := true } }) ∧
      (s.ctl.snapArmed = none → s.ctl.snapThaw = some i →
        exec .snapInstant s = .next { s with ctl := { s.ctl with snapFrozen := false, snapThaw := none } })) ∧
    (∀ i, s.ctl.snapCopy = some i →
      ∃ t u : State, exec .snapDone s = .next t ∧ t = u.raise 0 5 0 ∧ u.ctl.snapCopy = none ∧ u.ctl.snapFrozen = s.ctl.snapFrozen ∧
        u.regs = s.regs ∧ u.tabs = s.tabs ∧ u.flash = s.flash ∧ u.time = s.time ∧ u.out = s.out)

/-- By a master that may write the register. A refused LINE_PORT_CFG or LINE_OCT_RATE keeps the old value and raises CFG_REFUSED, a length
outside 64 to 16,384 MAXLEN_REFUSED. A disabled port that is enabled with SLEEP = 0 starts: HELD while its cage is held, else DOWN with
LOCAL_FAULT shown and remote fault sent; an enabled port written with its settings and SLEEP = 0 keeps its state. EN = 0 disables an
enabled port, with its frame in reception cut off, and stores the rest. SLEEP = 1 on an enabled port that is UP or DOWN puts it to sleep,
sending idle in place of remote fault, on a HELD one waits; SLEEP = 0 on a sleeping one begins to wake it. A write of 1 to
LINE_PORT_CNT_CLR zeroes the port's counters, any other leaves them. -/
def Obligations.PortSettingsTakeEffect : Prop :=
  ∀ (s : State) (m : Master) (p : Fin 64) (v : Word), s.storesWf = true →
    (s.mayWrite m (portA p R.LINE_PORT_CFG) →
      (s.portCfgOk p v.toNat = false →
        exec (.portCfgWrite m p v) s = .next (s.raise 2 (p.val / 8) 24)) ∧
      (∀ u : State, s.portCfgOk p v.toNat = true → natBit v.toNat 4 = true → natBit v.toNat 11 = false →
        u = State.setPort (s.wr (portA p R.LINE_PORT_CFG) (BitVec.ofNat 32 (natField v.toNat 0 13))) p
            { s.port p with sleepPend := false } →
        (s.portEn p = false → s.portState p = .disabled →
          (u.portHeld p = true → exec (.portCfgWrite m p v) s = .next (u.setPortState p .held)) ∧
          (u.portHeld p = false → exec (.portCfgWrite m p v) s =
            .next (((u.setFld (portA p R.LINE_PORT_STAT) 3 1 1).setPortState p .down).emit (.lineFault p true)))) ∧
        (s.portEn p = true → s.portState p ≠ .sleep → exec (.portCfgWrite m p v) s = .next u)) ∧
      (∀ rx, s.portEn p = true → natBit v.toNat 11 = false →
        exec (.portDisable m p v rx) s = .next (((s.portDisable p rx).wr (portA p R.LINE_PORT_CFG)
          (BitVec.ofNat 32 (natField (natSetField v.toNat 4 1 0) 0 13))).wakeWrite p)) ∧
      (∀ w, w = natSetField v.toNat 11 1 1 → s.portCfgOk p w = true → s.portEn p = true → natBit w 4 = true →
        ∀ u : State, u = s.wr (portA p R.LINE_PORT_CFG) (BitVec.ofNat 32 (natField w 0 13)) →
        (s.portState p = .up → exec (.portSleep m p v) s =
          .next ((u.setPort p { s.port p with linkLost := false, waking := false }).setPortState p .sleep)) ∧
        (s.portState p = .down → exec (.portSleep m p v) s =
          .next (((u.setPort p { s.port p with linkLost := true, waking := false }).setPortState p .sleep).emit
            (.lineFault p false))) ∧
        (s.portState p = .held → exec (.portSleep m p v) s = .next (u.setPort p { s.port p with sleepPend := true })) ∧
        (s.portState p = .sleep → exec (.portSleep m p v) s = .next u)) ∧
      (∀ w, w = natSetField v.toNat 11 1 0 → s.portCfgOk p w = true → s.portEn p = true → natBit w 4 = true →
        exec (.portWakeWrite m p v) s =
          .next (State.setPort (s.wr (portA p R.LINE_PORT_CFG) (BitVec.ofNat 32 (natField w 0 13))) p
            (if s.portState p = .sleep then { s.port p with waking := true } else { s.port p with sleepPend := false })))) ∧
    (∀ o : Fin 8, s.mayWrite m (A.oct o R.LINE_OCT_RATE) →
      exec (.octRateWrite m o v) s =
        .next (if (natField v.toNat 0 2 ≠ s.fld (A.oct o R.LINE_OCT_RATE) 0 2 ∧ s.quadBusy o 0 = true) ∨
            (natField v.toNat 2 2 ≠ s.fld (A.oct o R.LINE_OCT_RATE) 2 2 ∧ s.quadBusy o 1 = true) then s.raise 2 o 24
          else s.wr (A.oct o R.LINE_OCT_RATE) (BitVec.ofNat 32 (natField v.toNat 0 4)))) ∧
    (s.mayWrite m (portA p R.LINE_PORT_MAXLEN) →
      (64 ≤ v.toNat → v.toNat ≤ 16384 → exec (.maxlenWrite m p v) s = .next (s.wr (portA p R.LINE_PORT_MAXLEN) v)) ∧
      (v.toNat < 64 ∨ 16384 < v.toNat → ∃ t, exec (.maxlenWrite m p v) s = .next t ∧
        t.rd (portA p R.LINE_PORT_MAXLEN) = s.rd (portA p R.LINE_PORT_MAXLEN) ∧ t.cause 2 (p.val / 8) 25 = true)) ∧
    (s.mayWrite m (portA p R.LINE_PORT_CNT_CLR) →
      (natBit v.toNat 0 = true → ∃ t, exec (.portCntClr m p v) s = .next t ∧
        (∀ i, i < 128 → t.rd (A.oct (p.val / 8) (R.LINE_PORT_CNT + 512 * (p.val % 8) + 4 * i)) = 0) ∧
        t.tabs = s.tabs ∧ t.line = s.line ∧ t.hbm = s.hbm ∧ t.time = s.time ∧ t.out = s.out) ∧
      (natBit v.toNat 0 = false → exec (.portCntClr m p v) s = .next s))

/-- A DOWN port comes UP with its lanes aligned, a sleeping one is aligned and stays asleep; an UP port that loses its link goes DOWN with
the loss in its status, sending remote fault, or idle where remote fault is what it received; a DOWN port shows and answers the fault; a
sleeping one stays asleep and notes the loss with LINK_CHANGE, once; any other port takes neither. A negotiation that fails on a DOWN port
with AN_EN raises AN_FAIL. A pause ends when its ticks have run. A good frame that matches the wake pattern begins to wake a sleeping port
and is counted; the wake ends UP, or DOWN where the link was lost, with WAKE raised. -/
def Obligations.LinksChangeStateByTheRules : Prop :=
  ∀ (s : State) (p : Fin 64),
    (s.portState p = .down → exec (.portUp p) s = .next ((s.portAligned p).setPortState p .up)) ∧
    (s.portState p = .sleep → exec (.portUp p) s =
      .next ((s.portAligned p).setPort p { (s.portAligned p).port p with linkLost := false })) ∧
    (∀ (why : PortLoss) (send : Bool), send = (if why = .remoteFault then false else true) →
      (s.portState p = .up → exec (.portDown p why) s =
        .next (((s.portLossBits p why).setPortState p .down).emit (.lineFault p send))) ∧
      (s.portState p = .down → exec (.portDown p why) s = .next ((s.portLossBits p why).emit (.lineFault p send))) ∧
      (s.portState p = .sleep → (s.port p).linkLost = false →
        exec (.portDown p why) s = .next (((s.portLossBits p why).setPort p
          { (s.portLossBits p why).port p with linkLost := true }).raise 2 (p.val / 8) (p.val % 8))) ∧
      (s.portState p = .sleep → (s.port p).linkLost = true → exec (.portDown p why) s = .next (s.portLossBits p why)) ∧
      (s.portState p = .disabled ∨ s.portState p = .held →
        exec (.portUp p) s = .next s ∧ exec (.portDown p why) s = .next s)) ∧
    (s.portEn p = true → natBit (s.portCfg p) 6 = true → s.portState p = .down →
      exec (.anFail p) s = .next ((s.setRbit (portA p R.LINE_PORT_STAT) 7 false).raise 2 (p.val / 8) 26)) ∧
    (∀ (i : Fin 9) (e : Nat), (s.port p).stopUntil.getD i none = some e →
      (e ≤ s.time.ticks → exec (.pauseExpiry p i) s = .next ((s.setPort p { s.port p with
        stopUntil := (s.port p).stopUntil.set i none }).pausedBit p)) ∧
      (s.time.ticks < e → exec (.pauseExpiry p i) s = .next s)) ∧
    (∀ frame : List Byte, s.portState p = .sleep → (s.port p).waking = false → (s.port p).linkLost = false →
      64 ≤ frame.length → fcsGood frame = true → s.wakeMatches p frame = true →
      exec (.wakeMatch p frame) s = .next ((s.setPort p { s.port p with waking := true }).wakeCount p 0)) ∧
    (s.portState p = .sleep → (s.port p).waking = true →
      exec (.wakeComplete p) s = .next (((s.setPort p { s.port p with waking := false, linkLost := false }).setPortState p
        (if (s.port p).linkLost then .down else .up)).raise 2 (p.val / 8) (16 + p.val % 8)))

/-- A poll that a module answers clears its missed count; a first answer marks it present, starts its check and raises MOD_INSERT, a new
flag MOD_FLAG, a fault not reported before holds the cage with its ports and F-lanes and raises MOD_FAULT. The third silence in a row
removes the module with MOD_REMOVE, and the empty cage is checked: its result 2, or 1 where a module is required, its ports and F-lanes
held. A poll of several cages takes them in order. An access to a present module with none running starts, bank and page written first for
an offset of 128 or more, is busy until its reply, and ends with MOD_ACC_DONE, or with ACC_ERR where the module does not acknowledge;
beyond the module's 256 bytes, to an empty cage or while another runs it ends with error 3, 2 or 4. -/
def Obligations.ModulesArePolledAndAccessed : Prop :=
  ∀ (s : State) (m : Master) (v : Word),
    (∀ q : ModPoll, q.ack = true →
      ∃ u : State, u = State.modFlags (if (s.cage q.cage).present then s.setCage q.cage { s.cage q.cage with missed := 0 }
          else (modEvt (s.setCage q.cage { s.cage q.cage with present := true, missed := 0, checkDue := true }) q.cage).raise 0 7 0)
          q.cage q.flags ∧
        (q.fault = false → exec (.modPoll [q]) s = .next (u.setCage q.cage { u.cage q.cage with faulty := false })) ∧
        (q.fault = true → (u.cage q.cage).faulty = false → exec (.modPoll [q]) s = .next ((((modEvt (u.setCage q.cage
          { u.cage q.cage with faulty := true }) q.cage).cageHold q.cage true).cageLanes q.cage).raise 0 7 3)) ∧
        (q.fault = true → (u.cage q.cage).faulty = true →
          exec (.modPoll [q]) s = .next (u.setCage q.cage { u.cage q.cage with faulty := true }))) ∧
    (∀ q : ModPoll, q.ack = false →
      ((s.cage q.cage).present = false →
        exec (.modPoll [q]) s = .next (s.setCage q.cage { s.cage q.cage with missed := 0 })) ∧
      ((s.cage q.cage).present = true → (s.cage q.cage).missed < 2 → exec (.modPoll [q]) s =
        .next (s.setCage q.cage { s.cage q.cage with missed := (s.cage q.cage).missed + 1 })) ∧
      ((s.cage q.cage).present = true → 2 ≤ (s.cage q.cage).missed → exec (.modPoll [q]) s = .next (State.cageCheck
        ((modEvt (s.setCage q.cage { s.cage q.cage with missed := 0, faulty := false }) q.cage).raise 0 7 1) q.cage .absent))) ∧
    (∀ c : Nat, (cageResult (s.cage c).expect .absent).1 = (if natBit (s.cage c).expect.flags 0 then 1 else 2)) ∧
    (∀ l : List ModPoll, exec (.modPoll l) s = .next (l.foldl State.pollCage s)) ∧
    (s.mayWrite m (A.modm R.SYS_MOD_ACC_CTRL) → s.line.modAcc = none →
      ∀ u : State, u = State.setFld (s.wr (A.modm R.SYS_MOD_ACC_CTRL) (BitVec.ofNat 32 (natSetField v.toNat 6 2 0))) accStatA 0 4 0 →
      (natField v.toNat 24 8 + u.fld (A.modm R.SYS_MOD_ACC_LEN) 0 8 ≤ 256 → (u.cage (natField v.toNat 0 6)).present = true →
        exec (.modAccRead m v) s = .next (State.modAccSelect
          (State.setRbit { u with line := { u.line with modAcc := some false } } accStatA 0 true) v.toNat) ∧
        exec (.modAccWrite m v) s = .next (State.modAccSend (State.modAccSelect
          (State.setRbit { u with line := { u.line with modAcc := some true } } accStatA 0 true) v.toNat))) ∧
      (256 < natField v.toNat 24 8 + u.fld (A.modm R.SYS_MOD_ACC_LEN) 0 8 →
        exec (.modAccRead m v) s = .next ((u.setFld accStatA 1 3 3).raise 0 7 5) ∧
        exec (.modAccWrite m v) s = .next ((u.setFld accStatA 1 3 3).raise 0 7 5)) ∧
      (natField v.toNat 24 8 + u.fld (A.modm R.SYS_MOD_ACC_LEN) 0 8 ≤ 256 → (u.cage (natField v.toNat 0 6)).present = false →
        exec (.modAccRead m v) s = .next ((u.setFld accStatA 1 3 2).raise 0 7 5) ∧
        exec (.modAccWrite m v) s = .next ((u.setFld accStatA 1 3 2).raise 0 7 5))) ∧
    (s.mayWrite m (A.modm R.SYS_MOD_ACC_CTRL) → s.line.modAcc ≠ none →
      exec (.modAccRead m v) s = .next ((s.setFld accStatA 1 3 4).raise 0 7 5) ∧
      exec (.modAccWrite m v) s = .next ((s.setFld accStatA 1 3 4).raise 0 7 5)) ∧
    (∀ (r : ModReply) (write : Bool) (u : State), s.line.modAcc = some write →
      u = State.setRbit { s with line := { s.line with modAcc := none } } accStatA 0 false →
      (r.ack = false → exec (.modAccDone r) s = .next ((u.setFld accStatA 1 3 1).raise 0 7 5)) ∧
      (r.ack = true → write = true → exec (.modAccDone r) s = .next (u.raise 0 7 4)) ∧
      (r.ack = true → write = false → ∃ w : State, w = State.modFlags
          (u.putArray (A.modm R.SYS_MOD_ACC_DATA) (r.data.take (u.fld (A.modm R.SYS_MOD_ACC_LEN) 0 8)))
          (u.fld (A.modm R.SYS_MOD_ACC_CTRL) 0 6) r.flags ∧
        exec (.modAccDone r) s = .next (State.raise (match r.fault with
          | some f => w.modFault (u.fld (A.modm R.SYS_MOD_ACC_CTRL) 0 6) f
          | none => w) 0 7 4)))

/-- With LINE and the regions it depends on running and the octet not held. `u` is the state with the codewords, octets and frames
counted. On an UP port the first row that applies decides: under 64 octets a fragment or undersize count; longer than MAXLEN, code error,
bad FCS or length error: its count, and dropped or a packet with a bad tail; else a good frame, consumed if it is MAC control, else passed
on. A DOWN port counts it as discarded; a sleeping one takes no notice of it, but counts it as discarded and as dropped while it wakes; a
DISABLED or HELD port takes nothing. -/
def Obligations.ReceivedFramesAreClassified : Prop :=
  ∀ (s u : State) (p : Fin 64) (x : RxLine) (f : List Byte), s.rgnWorks 2 = true → s.blkHeld 2 (p.val / 8) = false → f = x.frame →
    u = ((s.fecCount p x).portCount p 1 f.length).portCount p 3 1 →
    (s.portState p = .up →
      (f.length < 64 → fcsGood f = true → exec (.rxFrame p x) s = .next (u.portCount p 18 1)) ∧
      (f.length < 64 → fcsGood f = false → exec (.rxFrame p x) s = .next (u.portCount p 19 1)) ∧
      (64 ≤ f.length → u.fld (portA p R.LINE_PORT_MAXLEN) 0 15 < f.length → exec (.rxFrame p x) s =
        .next ((u.portCount p 20 1).rxBad p x (f.take (u.fld (portA p R.LINE_PORT_MAXLEN) 0 15 + 1)))) ∧
      (64 ≤ f.length → f.length ≤ u.fld (portA p R.LINE_PORT_MAXLEN) 0 15 →
        (x.codeErr = true → exec (.rxFrame p x) s = .next ((u.portCount p 21 1).rxBad p x (f.take (f.length - 4)))) ∧
        (x.codeErr = false → fcsGood f = false → exec (.rxFrame p x) s =
          .next ((u.portCount p 17 1).rxBad p x (f.take (f.length - 4)))) ∧
        (x.codeErr = false → fcsGood f = true → natBit (u.portCfg p) 7 = true → lenBad f = true →
          exec (.rxFrame p x) s = .next ((u.portCount p 22 1).rxBad p x (f.take (f.length - 4)))) ∧
        (x.codeErr = false → fcsGood f = true → natBit (u.portCfg p) 7 = false ∨ lenBad f = false →
          (etypeOf f = 0x8808 → exec (.rxFrame p x) s = .next ((u.goodFrame p f f.length 0 2 4 7).macControl p f)) ∧
          (etypeOf f ≠ 0x8808 → exec (.rxFrame p x) s =
            .next ((u.goodFrame p f f.length 0 2 4 7).rxPass p x (f.take (f.length - 4))))))) ∧
    (s.portState p = .down → exec (.rxFrame p x) s = .next (u.portCount p 23 1)) ∧
    (s.portState p = .sleep → (s.port p).waking = true → exec (.rxFrame p x) s = .next ((u.portCount p 23 1).wakeCount p 1)) ∧
    (s.portState p = .sleep → (s.port p).waking = false → exec (.rxFrame p x) s = .next s) ∧
    (s.portState p = .disabled ∨ s.portState p = .held → exec (.rxFrame p x) s = .next s)

/-- With LINE and the regions it depends on running, the octet not held and no fail-safe. A flow-control frame asked for goes first, and
is dropped on a port that is not UP. Else the oldest packet leaves the queue; neither starts where it would run into the departure of a
one-step frame that waits. On an UP port a packet under 14 bytes is discarded with its count, a shorter one is padded to 60 bytes and
counted, one too long and not begun is counted; any other leaves with what MACsec makes of it and its FCS, cut at MAC_MAXLEN or where data
is missing after it has begun, and the FCS inverted for those and for a bad packet, its transmit time queued where it carries a tag. A
port that is not UP discards the packet, with its count unless it sleeps. -/
def Obligations.TheMacSendsByItsRules : Prop :=
  ∀ (s : State) (p : Fin 64) (x : TxLine), s.rgnWorks 2 = true → s.blkHeld 2 (p.val / 8) = false → s.flt.failsafe = none →
    (∀ r rest, (s.port p).fcReq = r :: rest →
      (s.portState p = .up → s.oneStepWaits p 60 = false →
        exec (.txFrame p x) s = .next ((s.setPort p { s.port p with fcReq := rest }).sendFc p r.1 r.2)) ∧
      (s.portState p = .up → s.oneStepWaits p 60 = true → exec (.txFrame p x) s = .next s) ∧
      (s.portState p ≠ .up → exec (.txFrame p x) s = .next (s.setPort p { s.port p with fcReq := rest }))) ∧
    (∀ (k : Pkt) (rest : List Pkt) (u : State), (s.port p).fcReq = [] → (s.port p).txq = k :: rest →
      u = s.setPort p { s.port p with txq := rest } →
      (s.portState p ≠ .up → exec (.txFrame p x) s = .next (if s.portState p = .sleep then u else u.portCount p 62 1)) ∧
      (s.portState p = .up → s.oneStepWaits p (s.lineBytes p k.bytes) = true → exec (.txFrame p x) s = .next s) ∧
      (s.portState p = .up → s.oneStepWaits p (s.lineBytes p k.bytes) = false →
        (k.bytes.length < 14 → exec (.txFrame p x) s = .next (u.portCount p 62 1)) ∧
        (∀ (f : List Byte) (w : State) (n : Nat) (long : Bool), 14 ≤ k.bytes.length →
          f = k.bytes ++ List.replicate (60 - k.bytes.length) 0 → w = (if k.bytes.length < 60 then u.portCount p 57 1 else u) →
          n = w.fld (portA p R.LINE_PORT_MAXLEN) 0 15 → long = decide (n < f.length + w.msExpansion p f + 4) →
          (long = true → x.started = false → exec (.txFrame p x) s = .next (w.portCount p 59 1)) ∧
          (long = false ∨ x.started = true → ∀ g y, w.msTransmit p f = (some g, y) →
            exec (.txFrame p x) s = .next (match k.tag with
              | some tag => (y.lineSend p (txBytes g long n x) (long || k.bad || (x.started && x.underrun.isSome))).txStamp p tag x.capture
              | none => y.lineSend p (txBytes g long n x) (long || k.bad || (x.started && x.underrun.isSome)))) ∧
          (long = false ∨ x.started = true → ∀ y, w.msTransmit p f = (none, y) → exec (.txFrame p x) s = .next y))))

/-- By a master whose write of SYS_IMG_CTRL passes R91; `u c` is the state with the other fields of the value stored, and a refusal
(`no c r`) sets REASON to r in it and raises IMG_REFUSED. ACTIVATE writes the record for its target, or is refused with SLOT, HEALTH,
SESSION or STATE, tested in this order; CONFIRM within the health window ends it, else HEALTH or LATE; FALLBACK asks for the previous slot,
in a Glide by a fallback Glide, else HEALTH or NO_PREV; GLIDE starts one, else STATE, HEALTH, SLOT or BUSY; RESUME ends the gap, else STATE;
RECOVERY asks for it and, with RESET, resets the chip; FUSE_SEC blows up to the image's version, REVOKE_KEY its key, else FUSE. -/
def Obligations.ImageCommandsActOrAreRefused : Prop :=
  ∀ (s : State) (m : Master) (v : Word) (u : Nat → State) (no : Nat → Nat → Host.Outcome State Fault Refusal),
    s.mayWrite m (A.img R.SYS_IMG_CTRL) →
    (∀ c, u c = s.wr (A.img R.SYS_IMG_CTRL) (BitVec.ofNat 32 (withCmd v c &&& 0x3F0))) →
    (∀ c r, no c r = .next (((u c).setFld imgStatA 0 4 r).imgRaise 0)) →
    (∀ (want tgt prev : Nat) (ok : Prop), want = natField v.toNat 4 2 →
      tgt = (if s.boot.dev = .recovery then (if want = 1 ∨ want = 2 then want else 0) else (u 1).inactiveSlot) →
      prev = (if s.boot.dev = .recovery then (if (s.brec.slot (3 - tgt)).st = 3 then 3 - tgt else 0) else (u 1).bootedSlot) →
      (ok ↔ (s.boot.dev ≠ .recovery → want = 0) ∧ tgt ≠ 0 ∧ tgt ≠ (u 1).bootedSlot ∧
        ((s.brec.slot tgt).st = 1 ∨ (s.brec.slot tgt).st = 3)) →
      (¬ ok → exec (.activate m v) s = no 1 2) ∧
      (ok → s.brec.healthPending = true → exec (.activate m v) s = no 1 3) ∧
      (ok → s.brec.healthPending = false → s.img.session ≠ none → exec (.activate m v) s = no 1 5) ∧
      (ok → s.brec.healthPending = false → s.img.session = none → s.boot.dev = .glide → exec (.activate m v) s = no 1 1) ∧
      (ok → s.brec.healthPending = false → s.img.session = none → s.boot.dev ≠ .glide →
        ∃ t : State, t = (u 1).brecPut { s.brec with sel := tgt, prev := prev, attempts := 0, flags := 0 } ∧
          exec (.activate m v) s = .next { t with img := { t.img with erasePending := natBit v.toNat 6 } })) ∧
    (s.brec.healthPending = false → exec (.confirm m v) s = no 2 3 ∧ exec (.fallback m v) s = no 3 3) ∧
    (s.brec.healthPending = true →
      (s.boot.health = true → s.healthOver = false → exec (.confirm m v) s = .next
        ((((u 2).brecPut { (s.brec.setFlag 1 false).mark (u 2).bootedSlot 3 none with attempts := 0 }).setHealth false).imgRaise 8).glideCheck) ∧
      (s.boot.health = false ∨ s.healthOver = true → exec (.confirm m v) s = no 2 6) ∧
      (s.brec.prev = 0 → exec (.fallback m v) s = no 3 4) ∧
      (s.brec.prev ≠ 0 → s.boot.dev = .glide → exec (.fallback m v) s = .next ((u 3).fallbackGlide 0x13)) ∧
      (s.brec.prev ≠ 0 → s.boot.dev ≠ .glide → exec (.fallback m v) s = .next
        (if natBit v.toNat 7 then ((u 3).fallbackReq 0x13).chipReset else (u 3).fallbackReq 0x13))) ∧
    (s.boot.dev ≠ .running → exec (.glide m v) s = no 4 1) ∧
    (s.boot.dev = .running →
      (s.brec.healthPending = true → exec (.glide m v) s = no 4 3) ∧
      (s.brec.healthPending = false → s.brec.sel = (u 4).bootedSlot → exec (.glide m v) s = no 4 2) ∧
      (s.brec.healthPending = false → s.brec.sel ≠ (u 4).bootedSlot → s.img.setWrite ≠ none ∨ s.img.session ≠ none →
        exec (.glide m v) s = no 4 7) ∧
      (s.brec.healthPending = false → s.brec.sel ≠ (u 4).bootedSlot → s.img.setWrite = none → s.img.session = none →
        ∃ w t : State, w = (if s.brec.step3Due then (u 4).brecPut s.brec.step3 else u 4) ∧
          t = ((w.setDev .glide).setGlidePhase 1).glideSuspend true ∧ exec (.glide m v) s = .next { t with img := { t.img with
            glideTick := t.time.ticks, gapOver := false, fallback := false } })) ∧
    ((u 5).glidePhase = 2 → exec (.resume m v) s = .next (u 5).gapEnd) ∧
    ((u 5).glidePhase ≠ 2 → exec (.resume m v) s = no 5 1) ∧
    (exec (.imgRecovery m v) s = .next (if natBit v.toNat 7 then ((u 6).brecPut (s.brec.setFlag 2 true)).chipReset
      else (u 6).brecPut (s.brec.setFlag 2 true))) ∧
    (∀ ok : Prop, (ok ↔ (s.brec.slot (u 7).bootedSlot).st = 3 ∧ (u 7).bootedSlot ≠ 0 ∧ s.boot.dev = .running ∧
        s.boot.secFuses < imgSecVersion s.img.head) →
      (ok → exec (.fuseSec m v) s = .next { u 7 with boot := { (u 7).boot with secFuses := imgSecVersion s.img.head } }) ∧
      (¬ ok → exec (.fuseSec m v) s = no 7 8)) ∧
    (∀ k, k = natField v.toNat 8 2 →
      (signerOf s.img.m4 ≠ some k → natBit s.boot.keyRevoked k = false → ∃ t, exec (.revokeKey m v) s = .next t ∧
        t = { u 8 with boot := { (u 8).boot with keyRevoked := t.boot.keyRevoked } } ∧
        ∀ i, natBit t.boot.keyRevoked i = (natBit s.boot.keyRevoked i || i == k)) ∧
      (signerOf s.img.m4 = some k ∨ natBit s.boot.keyRevoked k = true → exec (.revokeKey m v) s = no 8 8))

/-- The health timer, running for 120 s or more, raises its cause and asks for the previous slot: by a fallback Glide in a Glide with a
previous slot, else in the record. In a Glide in its load phases, an image that passes its check is entered; one that does not, cannot be
read or whose slot is FAILED is failed, and the Glide is over; in any other state the check does nothing. The gap, once 30 s old, raises
its cause and ends; the watchdog, 180 s after t0, resets the chip, with FALLBACK_REQ where the image was not confirmed. Where the timer,
the Glide or the gap is not running, or its time has not passed, nothing changes. -/
def Obligations.GlideAndHealthTimersAct : Prop :=
  ∀ (s : State),
    (s.boot.health = true → s.boot.healthTick + 120 * ticksPerSec ≤ s.time.ticks → ∀ u : State, u = (s.setHealth false).bootRaise 9 →
      (u.boot.dev ≠ .glide ∨ u.brec.prev = 0 → exec .healthTimeout s = .next (u.fallbackReq 0x12)) ∧
      (u.boot.dev = .glide → u.brec.prev ≠ 0 → exec .healthTimeout s = .next (u.fallbackGlide 0x12))) ∧
    (s.boot.health = false ∨ s.time.ticks < s.boot.healthTick + 120 * ticksPerSec → exec .healthTimeout s = .next s) ∧
    (∀ n : Nat, s.boot.dev = .glide → s.glidePhase = 1 ∨ s.glidePhase = 4 → n = (if s.brec.sel = 2 then 2 else 1) →
      (exec (.glideImageVerified true) s = .next (s.glideFail n)) ∧
      ((s.brec.slot n).st = 4 → exec (.glideImageVerified false) s = .next (s.glideFail n)) ∧
      ((s.brec.slot n).st ≠ 4 →
        (∀ t b, s.imageLoad n s.img.area1 = (t, some b) → exec (.glideImageVerified false) s = .next (t.glideEnter n b)) ∧
        (∀ t, s.imageLoad n s.img.area1 = (t, none) → exec (.glideImageVerified false) s = .next (t.glideFail n)))) ∧
    (s.boot.dev ≠ .glide ∨ (s.glidePhase ≠ 1 ∧ s.glidePhase ≠ 4) → ∀ e, exec (.glideImageVerified e) s = .next s) ∧
    (s.boot.dev = .glide → s.glidePhase = 2 → s.img.gapTick + 30 * ticksPerSec ≤ s.time.ticks →
      exec .gapTimeout s = .next (s.imgRaise 3).gapEnd) ∧
    (s.boot.dev ≠ .glide ∨ s.glidePhase ≠ 2 ∨ s.time.ticks < s.img.gapTick + 30 * ticksPerSec → exec .gapTimeout s = .next s) ∧
    (s.boot.dev = .glide → s.img.glideTick + 180 * ticksPerSec ≤ s.time.ticks →
      (s.brec.healthPending = true → exec .glideWatchdog s = .next (s.fallbackReq 0x12).chipReset) ∧
      (s.brec.healthPending = false → exec .glideWatchdog s = .next s.chipReset)) ∧
    (s.boot.dev ≠ .glide ∨ s.time.ticks < s.img.glideTick + 180 * ticksPerSec → exec .glideWatchdog s = .next s)

/-- By a master whose write passes R91. SET_WRITE with bit 0 set takes the body at SYS_SET_WBASE and erases the copy that is not in use,
for the next generation; with bit 0 clear, while the image is not confirmed, or while a write is under way, it does nothing. SET_DONE
writes body and header to that copy, which is then readable, shows the store and raises its cause, or shows the error; without a write it
does nothing. REPORT takes the nonce and the destination; without an identity key it shows the error and raises its cause; while a
report is being made it does nothing. EXTEND makes M6 the SHAKE256 of M6 and the 16 register words. A finished report stands at its
destination, its length and state in SYS_ATT_STAT, with ATT_DONE; with none under way nothing happens. -/
def Obligations.SettingsAndReportsAreWritten : Prop :=
  ∀ (s : State) (m : Master),
    (∀ v : Word, s.mayWrite m (A.img R.SYS_SET_CMD) →
      (natBit v.toNat 0 = true → s.brec.healthPending = false → s.img.setWrite = none →
        ∀ c gen, (s.setInUse = none → c = 0 ∧ gen = 1) → (∀ q, s.setInUse = some q → c = 1 - q.1 ∧ gen = q.2.gen + 1) →
        ∃ t : State, t = (s.flashErase (setCopyA c) setCopyLen).setRbit (A.img R.SYS_SET_STAT) 4 false ∧
          exec (.setWrite m v) s = .next { t with img := { t.img with setWrite := some (c, gen % 2 ^ 64,
            s.hbmBytes (s.rd64 (A.img R.SYS_SET_WBASE_LO)) (s.rd (A.img R.SYS_SET_WLEN)).toNat) } }) ∧
      (natBit v.toNat 0 = false ∨ s.brec.healthPending = true ∨ s.img.setWrite ≠ none → exec (.setWrite m v) s = .next s)) ∧
    (∀ c gen body u w, s.img.setWrite = some (c, gen, body) → u = { s with img := { s.img with setWrite := none } } →
      w = { u with boot := { u.boot with setUnread := u.boot.setUnread.filter (fun x => x != c) } } →
      exec (.setDone true) s = .next ((u.setRbit (A.img R.SYS_SET_STAT) 4 true).imgRaise 6) ∧
      exec (.setDone false) s = .next (State.imgRaise (State.setShow ((w.flashWrite (setCopyA c + 128) body).flashWrite (setCopyA c)
        (setHeader (imgSchema s.img.head) gen body.length (imgVersion s.img.head) (shake256 body 64)))) 5)) ∧
    (s.img.setWrite = none → ∀ e, exec (.setDone e) s = .next s) ∧
    (s.mayWrite m (A.att R.SYS_ATT_CMD) →
      (s.boot.identOk = true → s.img.attBusy = none → ∃ t : State, t = s.setFld attStatA 0 3 1 ∧
        exec (.attReport m) s = .next { t with img := { t.img with attBusy := (some
          (AttReq.mk (t.regBytes (A.att R.SYS_ATT_NONCE) 8) (some (t.rd64 (A.att R.SYS_ATT_DST_LO))))) } }) ∧
      (s.boot.identOk = true → s.img.attBusy ≠ none → exec (.attReport m) s = .next s) ∧
      (s.boot.identOk = false → exec (.attReport m) s = .next ((s.setFld attStatA 0 3 4).raise 0 0xB 1)) ∧
      exec (.attExtend m) s = .next { s with img := { s.img with
        m6 := shake256 (s.img.m6 ++ s.regBytes (A.att R.SYS_ATT_EXT) 16) 64 } }) ∧
    (∀ q t b, s.img.attBusy = some q → State.reportMake { s with img := { s.img with attBusy := none } } q.nonce = (t, b) →
      (∀ a, q.dst = some a → exec .attDone s =
        .next (State.raise ((t.hbmStore a b).wr attStatA (BitVec.ofNat 32 (2 + b.length % 2048 * 8))) 0 0xB 0)) ∧
      (q.dst = none → exec .attDone s = .next ((t.wr attStatA (BitVec.ofNat 32 (2 + b.length % 2048 * 8))).raise 0 0xB 0))) ∧
    (s.img.attBusy = none → exec .attDone s = .next s)

/-- A port that is off, or a device in OFF or RESET, takes nothing. With the port up every message is counted (`u`), and one with a wrong
length, a reserved field or a SESSION set gets BAD_REQUEST. STATUS answers the two status words and the two slot states; a register
access that R91 lets through is done and answered, a denied one gets status 8, one that meets a fence is held, any other outcome status 9;
ACTIVATE runs the command where the port may write SYS and answers 0 or 7, else 8; RESET answers and resets the chip; RECOVERY does so
with its request in the record, in RECOVERY gets 2, without the right 8; ATTEST answers the part of the report held or a new one, without
an identity key 7 with the cause raised, while one is being made 1. Neighbour discovery and ARP for the port's own addresses are answered,
an unknown TYPE gets BAD_REQUEST, other frames are counted as dropped. -/
def Obligations.ServiceMessagesAreAnswered : Prop :=
  ∀ (s u : State) (h : SvcHead) (body : List Byte), u = s.bump (svcCntA 0) →
    (s.svcUp = false → ∀ i ∈ [Instr.svcStatus h body, .svcRegRead h body, .svcRegWrite h body, .svcActivate h body, .svcReset h body,
      .svcRecovery h body, .svcAttest h body], exec i s = .next s) ∧
    (s.svcUp = false → ∀ f, exec (.neighbourDiscoveryOrArp f) s = .next s) ∧
    (s.svcUp = true →
      (h.reserved ≠ 0 ∨ h.session ≠ 0 ∨ body ≠ [] → exec (.svcStatus h body) s = .next (u.svcAnswer 0x01 h 2 []) ∧
        exec (.svcReset h body) s = .next (u.svcAnswer 0x21 h 2 []) ∧ exec (.svcRecovery h body) s = .next (u.svcAnswer 0x22 h 2 [])) ∧
      (h.reserved ≠ 0 ∨ h.session ≠ 0 ∨ body.length ≠ 5 ∨ svcAddr body = none →
        exec (.svcRegRead h body) s = .next (u.svcAnswer 0x02 h 2 [])) ∧
      (h.reserved ≠ 0 ∨ h.session ≠ 0 ∨ body.length ≠ 13 ∨ svcAddr body = none →
        exec (.svcRegWrite h body) s = .next (u.svcAnswer 0x03 h 2 [])) ∧
      (h.reserved ≠ 0 ∨ h.session ≠ 0 ∨ body.length ≠ 1 ∨ leAt body 0 1 % 16 ≠ 1 →
        exec (.svcActivate h body) s = .next (u.svcAnswer 0x20 h 2 [])) ∧
      (h.reserved ≠ 0 ∨ h.session ≠ 0 ∨ body.length ≠ 33 → exec (.svcAttest h body) s = .next (u.svcAnswer 0x30 h 2 []))) ∧
    (s.svcUp = true → h.reserved = 0 → h.session = 0 →
      (exec (.svcStatus h []) s = .next (u.svcAnswer 0x01 h 0
        (beBytes 4 u.bootStat ++ beBytes 4 u.imgStat ++ slotBytes u.brec.a ++ slotBytes u.brec.b))) ∧
      (∀ a w c, body.length = 5 → svcAddr body = some (a, w) → u.busCheck .service a w false false = c →
        exec (.svcRegRead h body) s = .next (match c with
          | .ok => (u.busRead .service a w).2.svcAnswer 0x02 h 0 (beBytes w (u.busRead .service a w).1)
          | .denied => (u.accessNoted .service a .denied).svcAnswer 0x02 h 8 []
          | .fenced => u.accessRefused .service a .fenced
          | c => ((u.accessNoted .service a c).bump (svcCntA 1)).emit (.svcRegError 0x82 h.seq.toNat c))) ∧
      (∀ a w c, body.length = 13 → svcAddr body = some (a, w) → u.busCheck .service a w false true = c →
        exec (.svcRegWrite h body) s = .next (match c with
          | .ok => (u.svcAnswer 0x03 h 0 []).busWrite (some .service) a w (beNat ((body.drop 5).take 8))
          | .denied => (u.accessNoted .service a .denied).svcAnswer 0x03 h 8 []
          | .fenced => u.accessRefused .service a .fenced
          | c => ((u.accessNoted .service a c).bump (svcCntA 1)).emit (.svcRegError 0x83 h.seq.toNat c))) ∧
      (∀ q : Nat × State, body.length = 1 → leAt body 0 1 % 16 = 1 →
        q = (u.wr (A.img R.SYS_IMG_CTRL) (BitVec.ofNat 32 (leAt body 0 1 &&& 0x3F0))).imgRun (leAt body 0 1) →
        exec (.svcActivate h body) s =
          .next (if u.svcMayCtrl then (State.imgEnd q).svcAnswer 0x20 h (if q.1 = 0 then 0 else 7) [] else u.svcAnswer 0x20 h 8 [])) ∧
      (exec (.svcReset h []) s = .next (u.svcAnswer 0x21 h 0 []).chipReset) ∧
      (u.boot.dev = .recovery → exec (.svcRecovery h []) s = .next (u.svcAnswer 0x22 h 2 [])) ∧
      (u.boot.dev ≠ .recovery → exec (.svcRecovery h []) s = .next (if u.svcMayCtrl then
        State.chipReset ((u.svcAnswer 0x22 h 0 []).brecPut ((u.svcAnswer 0x22 h 0 []).brec.setFlag 2 true))
        else u.svcAnswer 0x22 h 8 [])) ∧
      (body.length = 33 →
        (u.boot.identOk = false → exec (.svcAttest h body) s = .next ((u.raise 0 0xB 1).svcAnswer 0x30 h 7 [])) ∧
        (u.boot.identOk = true → u.img.attBusy ≠ none → exec (.svcAttest h body) s = .next (u.svcAnswer 0x30 h 1 [])) ∧
        (u.boot.identOk = true → u.img.attBusy = none →
          (∀ b, u.reportHeld (body.take 32) = some b →
            exec (.svcAttest h body) s = .next (u.attestReply h (leAt body 32 1) b)) ∧
          (u.reportHeld (body.take 32) = none → exec (.svcAttest h body) s =
            .next ((u.reportMake (body.take 32)).1.attestReply h (leAt body 32 1) (u.reportMake (body.take 32)).2))))) ∧
    (s.svcUp = true →
      (∀ a : BitVec 128, exec (.neighbourDiscoveryOrArp (.neighbour a)) s =
        .next (if a.toNat = s.linkLocal then s.emit (.svcNeighbour true) else s.bump (svcCntA 2))) ∧
      (∀ a : BitVec 32, exec (.neighbourDiscoveryOrArp (.arp a)) s =
        .next (if s.rbit (regAddr 0 12 R.SYS_SVC_CTRL) 2 = true ∧ a = s.rd (regAddr 0 12 R.SYS_SVC_IP4)
          then s.emit (.svcNeighbour false) else s.bump (svcCntA 2))) ∧
      (∀ t, exec (.neighbourDiscoveryOrArp (.unknown t h)) s = .next (u.svcAnswer t.toNat h 2 [])) ∧
      exec (.neighbourDiscoveryOrArp .other) s = .next (s.bump (svcCntA 2)))

/-- With the port up every message is counted (`u`), and one with a wrong length or a reserved field set gets BAD_REQUEST; a port that is
off takes nothing. OPEN with no session open erases the slot it may name and answers the new session's number, or, where the erase fails,
ends it with FLASH_ERR; a slot it may not name gets BAD_REQUEST; with a session open it gets SESSION, or the reply kept where it repeats
the SEQ that opened it. A message of another session, or with none open, gets SESSION, a repeated SEQ the reply kept. Else WRITE of a
block that fits stores it and notes it, one that does not gets OFFSET, a flash error ends the session; CLOSE of a whole image ends the
session with the slot written, of another gets INCOMPLETE, a failed write FLASH_ERR; ABORT ends it without the image. 60 s without a
message end the session. -/
def Obligations.ServiceSessionsUpdateASlot : Prop :=
  ∀ (s u : State) (h : SvcHead) (body : List Byte) (ok : Bool), u = s.bump (svcCntA 0) →
    (s.svcUp = false → ∀ i ∈ [Instr.svcOpen h body ok, .svcWrite h body ok, .svcClose h body ok, .svcAbort h body], exec i s = .next s) ∧
    (s.svcUp = true →
      (h.reserved ≠ 0 ∨ h.session ≠ 0 ∨ body.length ≠ 1 → exec (.svcOpen h body ok) s = .next (u.svcAnswer 0x10 h 2 [])) ∧
      (h.reserved ≠ 0 ∨ body.length < 5 ∨ 1028 < body.length → exec (.svcWrite h body ok) s = .next (u.svcAnswer 0x11 h 2 [])) ∧
      (h.reserved ≠ 0 ∨ body.length ≠ 4 → exec (.svcClose h body ok) s = .next (u.svcAnswer 0x12 h 2 [])) ∧
      (h.reserved ≠ 0 ∨ body ≠ [] → exec (.svcAbort h body) s = .next (u.svcAnswer 0x13 h 2 []))) ∧
    (s.svcUp = true → h.reserved = 0 → h.session = 0 → body.length = 1 →
      (s.img.session = none →
        (∀ n, u.openSlot (leAt body 0 1) = some n →
          exec (.svcOpen h body true) s =
            .next (State.sessAnswer (u.sessionOpen true 0 n) 0x10 h 0 (beBytes 4 s.img.nextSession)) ∧
          exec (.svcOpen h body false) s = .next (State.svcAnswer (u.sessionOpen true 0 n).sessionEnd 0x10 h 6 [])) ∧
        (u.openSlot (leAt body 0 1) = none → exec (.svcOpen h body ok) s = .next (u.svcAnswer 0x10 h 2 []))) ∧
      (∀ x, s.img.session = some x → ∀ again : Prop,
        (again ↔ x.svc = true ∧ x.lastSeq = some h.seq.toNat ∧ x.reply.2.length = 4) →
        (again → exec (.svcOpen h body ok) s =
          .next (State.svcAnswer (u.setSession { x with tick := u.time.ticks }) 0x10 h x.reply.1 x.reply.2)) ∧
        (¬ again → exec (.svcOpen h body ok) s = .next (u.svcAnswer 0x10 h 3 [])))) ∧
    (s.svcUp = true → h.reserved = 0 →
      (s.svcSession = none ∨ (∃ x, s.svcSession = some x ∧ x.number ≠ h.session.toNat) →
        (5 ≤ body.length → body.length ≤ 1028 → exec (.svcWrite h body ok) s = .next (u.svcAnswer 0x11 h 3 [])) ∧
        (body.length = 4 → exec (.svcClose h body ok) s = .next (u.svcAnswer 0x12 h 3 [])) ∧
        exec (.svcAbort h []) s = .next (u.svcAnswer 0x13 h 3 [])) ∧
      (∀ x, s.svcSession = some x → x.number = h.session.toNat → x.lastSeq = some h.seq.toNat →
        ∀ w, w = u.setSession { x with tick := u.time.ticks } →
        (5 ≤ body.length → body.length ≤ 1028 → exec (.svcWrite h body ok) s = .next (w.svcAnswer 0x11 h x.reply.1 x.reply.2)) ∧
        (body.length = 4 → exec (.svcClose h body ok) s = .next (w.svcAnswer 0x12 h x.reply.1 x.reply.2)) ∧
        exec (.svcAbort h []) s = .next (w.svcAnswer 0x13 h x.reply.1 x.reply.2)) ∧
      (∀ x, s.svcSession = some x → x.number = h.session.toNat → x.lastSeq ≠ some h.seq.toNat →
        (exec (.svcAbort h []) s = .next (u.sessionEnd.svcAnswer 0x13 h 0 [])) ∧
        (5 ≤ body.length → body.length ≤ 1028 →
          (writeFits x (beNat (body.take 4)) (body.drop 4).length = false → exec (.svcWrite h body ok) s = .next (u.sessAnswer 0x11 h 4 [])) ∧
          (writeFits x (beNat (body.take 4)) (body.drop 4).length = true →
            exec (.svcWrite h body true) s = .next (State.sessAnswer (State.setSession
              (u.flashWrite (slotA x.slot + beNat (body.take 4)) (body.drop 4))
              { x with blocks := spPut (fun _ => 0) x.blocks (beNat (body.take 4) / 1024) (body.drop 4).length }) 0x11 h 0 []) ∧
            exec (.svcWrite h body false) s = .next (u.sessionEnd.svcAnswer 0x11 h 6 []))) ∧
        (body.length = 4 → ∀ whole : Prop,
          (whole ↔ beNat body ≤ slotLen ∧ blocksWhole x.blocks 1024 (beNat body) ((beNat body + 1023) / 1024) = true) →
          (whole → exec (.svcClose h body true) s = .next ((u.sessionClose x).svcAnswer 0x12 h 0 []) ∧
            exec (.svcClose h body false) s = .next (u.sessionEnd.svcAnswer 0x12 h 6 [])) ∧
          (¬ whole → exec (.svcClose h body ok) s = .next (u.sessAnswer 0x12 h 5 []))))) ∧
    (∀ x, s.svcSession = some x → x.tick + 60 * ticksPerSec ≤ s.time.ticks → exec .sessionTimeout s = .next s.sessionEnd) ∧
    (s.svcSession = none ∨ (∃ x, s.svcSession = some x ∧ s.time.ticks < x.tick + 60 * ticksPerSec) →
      exec .sessionTimeout s = .next s)

/-- On a busy engine of a running pipeline that has executed fewer than 96 instructions and whose word `w` holds the command's opcode.
`u` is the state in which a packet that has become foreign is processed in the current version (s itself where none has), `y` the
engine with PC and count moved on, `run` stores an engine and counts the instruction, and `ill` is the exception path with reason
ILLEGAL: it is taken where a reserved bit is set, the header vector's bytes named are not writable, BR has condition 7 or the layer is
marked already. -/
def Obligations.ParseInstructionsExecute : Prop :=
  ∀ (s : State) (i : Fin 16) (e : Fin 64) (u : State) (x y : Engine) (w : Nat) (run : Engine → State)
    (ill : Host.Outcome State Fault Refusal),
    u = s.parseMeet i e → x = u.engine i e → x.busy = true → u.rgnRuns (pipeRegion i) = true → x.count < 96 → w = u.parseWord i e →
    y = { x with pc := (x.pc + 1) % 2048, count := x.count + 1 } →
    (∀ z, run z = (u.setEngine i e z).bump64 (A.ip i R.PIPE_PARSE_INSTR)) → ill = .next (u.takeExc i e 2) →
    (natField w 27 5 = 0 →
      (natField w 0 27 = 0 → exec (.parseNop i e) s = .next (run y)) ∧
      (natField w 0 27 ≠ 0 → exec (.parseNop i e) s = ill)) ∧
    (natField w 27 5 = 1 →
      (natField w 0 6 = 0 → ∀ r, r = winBytes x.pkt (x.cursor + natField w 16 8) 4 →
        exec (.parseExt i e) s = .next (run (Engine.setReg { y with pkt := hvOrFlags x.pkt r.2 } (natField w 24 3)
          (beNat r.1 / 2 ^ natField w 11 5 % 2 ^ (natField w 6 5 + 1))))) ∧
      (natField w 0 6 ≠ 0 → exec (.parseExt i e) s = ill)) ∧
    (natField w 27 5 = 2 →
      (natField w 0 8 = 0 → hvWritable (natField w 20 7) (natField w 8 4 + 1) = true →
        ∀ r, r = winBytes x.pkt (x.cursor + natField w 12 8) (natField w 8 4 + 1) →
        exec (.parseHvx i e) s = .next (run { y with pkt := hvPut (hvOrFlags x.pkt r.2) (natField w 20 7) r.1 })) ∧
      (natField w 0 8 ≠ 0 ∨ hvWritable (natField w 20 7) (natField w 8 4 + 1) = false → exec (.parseHvx i e) s = ill)) ∧
    (natField w 27 5 = 3 →
      (natField w 0 15 = 0 → hvWritable (natField w 20 7) (natField w 15 2 + 1) = true →
        exec (.parseHvr i e) s = .next (run { y with
          pkt := hvPut x.pkt (natField w 20 7) (beBytes (natField w 15 2 + 1) (x.reg (natField w 17 3))) })) ∧
      (natField w 0 15 ≠ 0 ∨ hvWritable (natField w 20 7) (natField w 15 2 + 1) = false → exec (.parseHvr i e) s = ill)) ∧
    (natField w 27 5 = 4 →
      (natField w 16 7 = 0 → exec (.parseLdi i e) s = .next (run (y.setReg (natField w 24 3)
        (if natBit w 23 then natField w 0 16 * 65536 + x.reg (natField w 24 3) % 65536 else natField w 0 16)))) ∧
      (natField w 16 7 ≠ 0 → exec (.parseLdi i e) s = ill)) ∧
    (natField w 27 5 = 5 →
      (natBit w 17 = true → natField w 14 3 = 0 → exec (.parseAlu i e) s = .next (run
        (y.setReg (natField w 24 3) (aluOp (natField w 18 3) (x.reg (natField w 21 3)) (natField w 0 14))))) ∧
      (natBit w 17 = true → natField w 14 3 ≠ 0 → exec (.parseAlu i e) s = ill) ∧
      (natBit w 17 = false → exec (.parseAlu i e) s = .next (run
        (y.setReg (natField w 24 3) (aluOp (natField w 18 3) (x.reg (natField w 21 3)) (x.reg (natField w 14 3))))))) ∧
    (natField w 27 5 = 6 → ∀ b, b = (if natBit w 20 then natField w 0 16 else x.reg (natField w 21 3)) →
      (natField w 16 4 = 0 → natBit w 20 = true ∨ natField w 0 16 = 0 → exec (.parseCmp i e) s = .next (run { y with
        eq := x.reg (natField w 24 3) == b, lt := decide (x.reg (natField w 24 3) < b) })) ∧
      (natField w 16 4 ≠ 0 ∨ (natBit w 20 = false ∧ natField w 0 16 ≠ 0) → exec (.parseCmp i e) s = ill)) ∧
    (natField w 27 5 = 7 →
      (natField w 24 3 ≠ 7 → natField w 11 13 = 0 → exec (.parseBr i e) s =
        .next (run (if brTaken (natField w 24 3) x.eq x.lt then { y with pc := natField w 0 11 } else y))) ∧
      (natField w 24 3 = 7 ∨ natField w 11 13 ≠ 0 → exec (.parseBr i e) s = ill)) ∧
    (natField w 27 5 = 8 →
      (natField w 11 5 = 0 →
        (∀ t, u.swtFind i x.pkt.ver (natField w 16 8) (x.reg (natField w 24 3) % 65536) = some t → exec (.parseSwt i e) s =
          .next (run { y with cursor := cursorAdd x.cursor (natField t 4 8), pc := natField t 12 11 })) ∧
        (u.swtFind i x.pkt.ver (natField w 16 8) (x.reg (natField w 24 3) % 65536) = none →
          exec (.parseSwt i e) s = .next (run { y with pc := natField w 0 11 }))) ∧
      (natField w 11 5 ≠ 0 → exec (.parseSwt i e) s = ill)) ∧
    (natField w 27 5 = 9 →
      (natField w 8 13 = 0 → exec (.parseAdv i e) s = .next (run { y with
        cursor := cursorAdd x.cursor (natField w 0 8 + (if natBit w 23 then x.reg (natField w 24 3) * 2 ^ natField w 21 2 else 0)) })) ∧
      (natField w 8 13 ≠ 0 → exec (.parseAdv i e) s = ill)) ∧
    (natField w 27 5 = 10 → ∀ k, k = (if 255 < x.cursor then hvOrFlags x.pkt 2 else x.pkt) →
      (natField w 8 16 = 0 → natBit x.marked (natField w 24 3) = false →
        exec (.parseMark i e) s = .next (run { y with
          marked := x.marked ||| 2 ^ natField w 24 3
          pkt := hvSet (hvSet k (40 + 2 * natField w 24 3) (min x.cursor 255)) (41 + 2 * natField w 24 3) (natField w 0 8) })) ∧
      (natField w 8 16 ≠ 0 ∨ natBit x.marked (natField w 24 3) = true → exec (.parseMark i e) s = ill)) ∧
    (natField w 27 5 = 11 →
      (natField w 16 10 = 0 → natField w 0 4 = 0 → exec (.parseFlag i e) s = .next (run { y with
        pkt := hvSetFlags x.pkt (if natBit w 26 then hvFlags x.pkt &&& (65535 - natField w 4 12 * 16)
                                 else hvFlags x.pkt ||| natField w 4 12 * 16) })) ∧
      (natField w 16 10 ≠ 0 ∨ natField w 0 4 ≠ 0 → exec (.parseFlag i e) s = ill)) ∧
    (natField w 27 5 = 12 →
      (natField w 6 20 = 0 → exec (.parseHsel i e) s =
        .next (run (if natBit w 26 then { y with hsel1 := some (natField w 0 6) } else { y with hsel0 := some (natField w 0 6) }))) ∧
      (natField w 6 20 ≠ 0 → exec (.parseHsel i e) s = ill))

/-- Dispatch hands the oldest packet to the lowest free engine of a running pipeline, at the entry of its bank and kind; without a packet,
a free engine or a running pipeline it does nothing. `u` is the state in which a packet that has become foreign is processed in the
current version. On every engine each of the fifteen commands, given with its opcode, does no more than that on an idle engine, in a pipeline that
does not run, or where the word holds another opcode below 0x0F; the 97th instruction takes the exception path with reason BUDGET, an
opcode from 0x0F on with ILLEGAL. EXC with a reason from 0x10 on ends with it, else with ILLEGAL; DONE ends with its class; both are counted
as executed; a reserved bit set is ILLEGAL. -/
def Obligations.ParsesStartAndEnd : Prop :=
  ∀ (s : State) (i : Fin 16),
    (∀ k r n, (s.pipe i).fifo = k :: r → (List.range 64).find? (fun e => !(s.engine i e).busy) = some n →
      s.rgnRuns (pipeRegion i) = true → ∀ k' u, s.meetPkt k = (k', u) → ∃ t, t = u.setPipe i { u.pipe i with
          fifo := r
          order := (u.pipe i).order ++ [.running n] } ∧
        exec (.parseDispatch i) s = .next (t.setEngine i n { Engine.idle with
          busy := true
          pkt := hvStart k'
          pc := u.fld (A.ip i (R.PIPE_PARSE_ENTRY + 16 * (if k'.ver then 1 else 0) + 4 * k'.kind)) 0 11
          g := [0, 0, 0, 0, 0, 0, 0, k'.bytes.length] })) ∧
    ((s.pipe i).fifo = [] ∨ (∀ e, e < 64 → (s.engine i e).busy = true) ∨ s.rgnRuns (pipeRegion i) = false →
      exec (.parseDispatch i) s = .next s) ∧
    (∀ (e : Fin 64) (u : State) (x : Engine) (w : Nat), u = s.parseMeet i e → x = u.engine i e → w = u.parseWord i e →
      (∀ q ∈ [(0, Instr.parseNop i e), (1, .parseExt i e), (2, .parseHvx i e), (3, .parseHvr i e), (4, .parseLdi i e), (5, .parseAlu i e),
          (6, .parseCmp i e), (7, .parseBr i e), (8, .parseSwt i e), (9, .parseAdv i e), (10, .parseMark i e), (11, .parseFlag i e),
          (12, .parseHsel i e), (13, .parseExc i e), (14, .parseDone i e)],
        (x.busy = false ∨ u.rgnRuns (pipeRegion i) = false → exec q.2 s = .next u) ∧
        (x.busy = true → u.rgnRuns (pipeRegion i) = true →
          (96 ≤ x.count → exec q.2 s = .next (u.takeExc i e 1)) ∧
          (x.count < 96 → 0x0F ≤ natField w 27 5 → exec q.2 s = .next (u.takeExc i e 2)) ∧
          (x.count < 96 → natField w 27 5 < 0x0F → natField w 27 5 ≠ q.1 → exec q.2 s = .next u))) ∧
      (x.busy = true → u.rgnRuns (pipeRegion i) = true → x.count < 96 → ∀ y,
        y = (u.setEngine i e { x with pc := (x.pc + 1) % 2048, count := x.count + 1 }).bump64 (A.ip i R.PIPE_PARSE_INSTR) →
        (natField w 27 5 = 13 →
          (natField w 8 19 = 0 → 0x10 ≤ natField w 0 8 → exec (.parseExc i e) s = .next (y.takeExc i e (natField w 0 8))) ∧
          (natField w 8 19 ≠ 0 ∨ natField w 0 8 < 0x10 → exec (.parseExc i e) s = .next (u.takeExc i e 2))) ∧
        (natField w 27 5 = 14 →
          (natField w 8 19 = 0 → exec (.parseDone i e) s = .next (y.parseDone i e (natField w 0 8))) ∧
          (natField w 8 19 ≠ 0 → exec (.parseDone i e) s = .next (u.takeExc i e 2)))))

/-- A pipeline that runs and is not held takes a line packet before the other inputs, with the version of the instant, or drops it with
OVERRUN where the FIFO of 512 is full; recirculation, host and processor inputs take turns while there is room; else nothing happens. The
oldest packet in dispatch order, once parsed, is looked up and decided (`m`: a foreign packet in the current version); where candidates remain after 6 probes it waits in the long
lane, or, with its 16 places taken, where it is; with far candidates in the far lane, or is dropped and counted with its 256 places taken;
one that needs an absent block is dropped. The lanes end their lookups; a far lookup waits behind an earlier packet of its port and key,
and is dropped where the far table is absent. At egress a packet whose search says go is rewritten and sent, one it sends to a processor
goes there, one it drops is uncounted; one that needs an absent search is dropped; one behind an earlier frame of its 8-lane port waits. -/
def Obligations.PacketsAreAcceptedAndDecided : Prop :=
  ∀ (s : State) (i : Fin 16) (p : PipeSt), p = s.pipe i →
    (s.rgnRuns (pipeRegion i) = true → s.blkHeld (pipeRegion i) (i.val % 4) = false →
      (∀ k r, p.lineIn = k :: r →
        (p.fifo.length < 512 → exec (.ingressAccept i) s = .next ((s.setPipe i { p with lineIn := r }).ingressTake i k true)) ∧
        (512 ≤ p.fifo.length → exec (.ingressAccept i) s =
          .next (((s.setPipe i { p with lineIn := r }).bump (A.ip i R.PIPE_PARSE_OVERRUN)).raise (pipeRegion i) (i.val % 4) 0))) ∧
      (p.lineIn = [] → p.fifo.length < 512 →
        (∀ k r, p.nextInput = some 0 → p.recircIn = k :: r → exec (.ingressAccept i) s =
          .next ((s.setPipe i { p with recircIn := r, rr := 1 }).ingressTake i { k with kind := 3 } false)) ∧
        (∀ k r, p.nextInput = some 1 → p.hostIn = k :: r →
          exec (.ingressAccept i) s = .next ((s.setPipe i { p with hostIn := r, rr := 2 }).ingressTake i k true)) ∧
        (∀ k r, p.nextInput = some 2 → p.procIn = k :: r →
          exec (.ingressAccept i) s = .next ((s.setPipe i { p with procIn := r, rr := 0 }).ingressTake i k true)) ∧
        (p.nextInput = none → exec (.ingressAccept i) s = .next s)) ∧
      (p.lineIn = [] → 512 ≤ p.fifo.length → exec (.ingressAccept i) s = .next s)) ∧
    (s.rgnRuns (pipeRegion i) = false ∨ s.blkHeld (pipeRegion i) (i.val % 4) = true → exec (.ingressAccept i) s = .next s) ∧
    (∀ k rest t, p.order = .parsed k :: rest → t = s.setPipe i { p with order := rest } →
      (s.lookAbsent i k = true → exec (.lookup i) s = .next ((t.absentDrop (pipeRegion i)).dropPkt k)) ∧
      (∀ m c u l v, s.lookAbsent i k = false → t.meetPkt k = m → m.2.lookStart i m.1 = (c, u) → u.modeLook i m.1 c = (l, v) →
        (∀ x, l = .done x → exec (.lookup i) s = .next ((v.lookEnd i m.1 c x).2.pushReady i (v.lookEnd i m.1 c x).1)) ∧
        (∀ q, l = .long q →
          (16 ≤ (v.pipe i).longLane.length → exec (.lookup i) s = .next s) ∧
          ((v.pipe i).longLane.length < 16 → ∃ y, y = v.setPipe i { v.pipe i with
              longLane := (v.pipe i).longLane ++ [((v.pipe i).longNext, ⟨m.1, c, q⟩)], longNext := (v.pipe i).longNext + 1
              release := (v.pipe i).release ++ [.waiting (v.pipe i).longNext] } ∧
            exec (.lookup i) s = .next ((y.bump (lpmA (R.TBL_LPM_LONG + 0x20 * i.val))).raise 7 1 2))) ∧
        (∀ q, l = .far q →
          (256 ≤ (v.pipe i).farLane.length →
            exec (.lookup i) s = .next (((v.bump (regAddr 7 7 R.TBL_FAR_DROP)).raise 7 7 1).dropPkt m.1)) ∧
          ((v.pipe i).farLane.length < 256 →
            exec (.lookup i) s = .next (v.setPipe i { v.pipe i with farLane := (v.pipe i).farLane ++ [⟨m.1, c, q⟩] }))))) ∧
    ((∀ k rest, p.order ≠ .parsed k :: rest) → exec (.lookup i) s = .next s) ∧
    (∀ id x rest r, p.longLane = (id, x) :: rest → r = (s.setPipe i { p with longLane := rest }).laneEnd i x →
      (∀ k, r.1 = some k → exec (.longProbeLookup i) s = .next (State.release (r.2.setPipe i { r.2.pipe i with
        release := (r.2.pipe i).release.map (fun e => if e = .waiting id then .ready k else e) }) i)) ∧
      (r.1 = none → exec (.longProbeLookup i) s = .next (State.release (r.2.setPipe i { r.2.pipe i with
        release := (r.2.pipe i).release.filter (fun e => e != .waiting id) }) i))) ∧
    (p.longLane = [] → exec (.longProbeLookup i) s = .next s) ∧
    (∀ n : Fin 256, p.farLane[n.val]? = none → exec (.farLookup i n) s = .next s) ∧
    (∀ (n : Fin 256) x t, p.farLane[n.val]? = some x → t = s.setPipe i { p with farLane := p.farLane.eraseIdx n.val } →
      (s.behindFar i n.val x = true → exec (.farLookup i n) s = .next s) ∧
      (s.behindFar i n.val x = false → s.farAbsent i x = true →
        exec (.farLookup i n) s = .next ((t.absentDrop (pipeRegion i)).dropPkt x.pkt)) ∧
      (s.behindFar i n.val x = false → s.farAbsent i x = false → ∀ r, r = t.laneEnd i x →
        (∀ k, r.1 = some k →
          exec (.farLookup i n) s = .next (r.2.setPipe i { r.2.pipe i with toBuf := (r.2.pipe i).toBuf ++ [k] })) ∧
        (r.1 = none → exec (.farLookup i n) s = .next r.2))) ∧
    (∀ x r, spGet (fun _ => []) s.que.egress i.val = x :: r →
      (s.rgnRuns (pipeRegion i) = false ∨ s.egressBehind i x = true → exec (.egressRewrite i) s = .next s) ∧
      (∀ (k : Pkt) (u : State) (none_ : Bool), s.rgnRuns (pipeRegion i) = true → s.egressBehind i x = false →
        State.meetPkt { s with que := { s.que with egress := spPut (fun _ => []) s.que.egress i.val r } } x.pkt = (k, u) →
        none_ = (u.meets (pipeRegion i) 11 && natBit (u.tabN (pipeRegion i) 11 0x60 (pktClass k)) 0) →
        (none_ = true → exec (.egressRewrite i) s = .next ((u.absentDrop (pipeRegion i)).dropPkt k)) ∧
        (∀ o v, none_ = false → u.egressSearch i x.port k = (o, v) → exec (.egressRewrite i) s = .next (match o with
          | .go w => v.rewriteSend i x.port w k
          | .processor c => v.toProc i k c
          | .drop => v.dropPkt k)))) ∧
    (spGet (fun _ => []) s.que.egress i.val = [] → exec (.egressRewrite i) s = .next s)

/-- By a master whose write of the EM window passes R91. A busy window ends with ERR 5; in a Glide the command is queued. Else `u` is the
state with the window's other fields stored, `fin r` the end of the command with ERR and entry size, `w` the entry in WIN_DATA of table
`t`, `d` the same with its reserved bits 0. A TABLE that names none ends with ERR 2. INSERT refuses a locked version, a result type
from 7 on, a key that stands (DUPLICATE, with its cause) and a full table (FULL, with its cause), and otherwise writes the entry into the
first free place of its buckets or moves entries first. DELETE takes VMASK bits away from every entry with the key and frees what has none
left, SEARCH returns the first one and its location, UPDATE replaces bytes 8 to 15 of all; without an entry the three end NOT_FOUND;
DELETE and UPDATE refuse a locked version. -/
def Obligations.ExactMatchCommandsAct : Prop :=
  ∀ (s u : State) (m : Master) (v : Word) (t cfg w d n : Nat) (fin : Nat × State → State) (all : List (Nat × Instr)),
    s.mayWrite m emWinA → u = s.wr emWinA (BitVec.ofNat 32 (natField v.toNat 4 11 * 16)) → t = natField v.toNat 4 8 →
    cfg = s.emCfg t → n = (if t < 64 then emLocations cfg else 0) → w = u.winDataN emWinA (emBytes (emSize cfg) / 4) → d = emClean w →
    all = [(8, .emInsert m v), (9, .emDelete m v), (10, .emSearch m v), (11, .emUpdate m v)] →
    (∀ r, fin r = r.2.winEnd emWinA r.1 (if n = 0 then 0 else emBytes (emSize cfg))) →
    (s.rbit (emWinA + 12) 0 = true → ∀ c ∈ all, exec c.2 s = .next (s.setFld (emWinA + 12) 1 3 5)) ∧
    (s.rbit (emWinA + 12) 0 = false → s.glideQueues = true → ∀ c ∈ all, exec c.2 s = .next (s.winQueue emWinA (withCmd v c.1))) ∧
    (s.rbit (emWinA + 12) 0 = false → s.glideQueues = false → n = 0 → ∀ c ∈ all, exec c.2 s = .next (fin (2, u))) ∧
    (s.rbit (emWinA + 12) 0 = false → s.glideQueues = false → n ≠ 0 →
      (u.verLocked &&& entVmask d ≠ 0 → exec (.emInsert m v) s = .next (fin (u.verProtect emWinA))) ∧
      (u.verLocked &&& entVmask d = 0 →
        (7 ≤ natField d 64 4 → exec (.emInsert m v) s = .next (fin (4, u))) ∧
        (natField d 64 4 < 7 →
          (u.emFind t (emKey cfg d) (entVmask d) ≠ [] → exec (.emInsert m v) s = .next (fin ((u.raise 7 3 1).emRefuse 1))) ∧
          (u.emFind t (emKey cfg d) (entVmask d) = [] →
            (∀ p, (emKeyPlaces cfg (emKey cfg d)).find? (fun p => entVmask (u.emEntry t p) == 0) = some p →
              exec (.emInsert m v) s = .next (fin (0, u.emPlace t p d))) ∧
            ((emKeyPlaces cfg (emKey cfg d)).find? (fun p => entVmask (u.emEntry t p) == 0) = none →
              ∀ path, path = shortestPath emPlaces (fun b => (emPlaces b).find? (fun p => entVmask (u.emEntry t p) == 0))
                (fun p => ((List.range 4).map (emBucket cfg (emKey cfg (u.emEntry t p)))).filter (fun b => b != p / 4 * 4))
                ((List.range 4).map (emBucket cfg (emKey cfg d))) 4 →
              (path = none ∨ path = some [] → exec (.emInsert m v) s = .next (fin ((u.raise 7 3 0).emRefuse 2))) ∧
              (∀ p q rest, path = some ((p, q) :: rest) → exec (.emInsert m v) s =
                .next (fin (0, (((p, q) :: rest).reverse.foldl (fun x y => x.emMove t y) u).emPlace t p d))))))) ∧
      (∀ x, x = u.winVmask emWinA →
        (u.emFind t (emKey cfg w) x = [] → exec (.emSearch m v) s = .next (fin (u.emRefuse 3))) ∧
        (∀ p l, u.emFind t (emKey cfg w) x = p :: l → exec (.emSearch m v) s =
          .next (fin (0, (u.setWinData emWinA (emBytes (emSize cfg) / 4) (u.emEntry t p)).setWinIndex emWinA p))) ∧
        (u.verLocked &&& x ≠ 0 → exec (.emDelete m v) s = .next (fin (u.verProtect emWinA)) ∧
          exec (.emUpdate m v) s = .next (fin (u.verProtect emWinA))) ∧
        (u.verLocked &&& x = 0 →
          (u.emFind t (emKey cfg w) x = [] → exec (.emDelete m v) s = .next (fin (u.emRefuse 3)) ∧
            exec (.emUpdate m v) s = .next (fin (u.emRefuse 3))) ∧
          (∀ p l, u.emFind t (emKey cfg w) x = p :: l →
            (exec (.emDelete m v) s = .next (fin (0, (p :: l).foldl (fun y q =>
              if entVmask (y.emEntry t q) &&& (3 - x) = 0 then y.emFree t q
              else y.emPut t q (natSetField (y.emEntry t q) 0 2 (entVmask (y.emEntry t q) &&& (3 - x)))) (u.setWinIndex emWinA p)))) ∧
            ((∃ q ∈ p :: l, u.verLocked &&& entVmask (u.emEntry t q) ≠ 0) →
              exec (.emUpdate m v) s = .next (fin (u.verProtect emWinA))) ∧
            ((∀ q ∈ p :: l, u.verLocked &&& entVmask (u.emEntry t q) = 0) →
              (7 ≤ natField w 64 4 → exec (.emUpdate m v) s = .next (fin (4, u))) ∧
              (natField w 64 4 < 7 → exec (.emUpdate m v) s = .next (fin (0,
                (p :: l).foldl (fun y q => y.emPut t q (emResult (y.emEntry t q) w)) u))))))))

/-- By a master whose write of the LPM window passes R91. A busy window ends with ERR 5; in a Glide the command is queued. Else `u` is the
state with the window's other fields stored, `fin r` the end of the command with ERR and entry size, `k` the route in WIN_DATA, `far` its
part, `x` VMASK. Routes are in TABLE 0x12, REBUILD acts on 0x10: another table of the block ends with ERR 3, no table with 2. INSERT refuses a
locked version, a route that stands in either part (DUPLICATE), a length no table has (NO_TABLE), prefix bits beyond LENGTH (BADKEY), a
part that is off (NO_TABLE), a full far part and a full near part (FULL); otherwise the entry takes the first free slot, near after moves.
DELETE and UPDATE act on every entry that matches, unless a version is locked, SEARCH returns the near one before the far; without one they
end NOT_FOUND. A second REBUILD is BUSY; at its end the filter has been cleared and holds the keys of the near part, LF_EN is set and
REBUILD_DONE raised. -/
def Obligations.RouteCommandsAct : Prop :=
  ∀ (s : State),
    (∀ (m : Master) (v : Word) (u : State) (k : Route) (far : Bool) (pre x e t : Nat) (fin : Nat × State → State)
        (slots : Nat → Option Nat) (all : List (Nat × Instr)),
      s.mayWrite m lpmWinA → u = s.wr lpmWinA (BitVec.ofNat 32 (natField v.toNat 4 11 * 16)) → t = natField v.toNat 4 8 →
      all = [(8, .lpmInsert m v), (9, .lpmDelete m v), (10, .lpmSearch m v), (11, .lpmUpdate m v)] →
      (∀ r, fin r = r.2.winEnd lpmWinA r.1 (if t = 0x10 ∨ t = 0x12 then 32 else if t = 0x11 then 40 else 0)) →
      u.lpmArgs = (k, far, pre) → x = u.winVmask lpmWinA →
      e = slotOf_ k x (natField (u.winWord lpmWinA 1) 0 2) (natField (u.winWord lpmWinA 1) 2 20) →
      slots = (fun b => (slotPlaces k.v6 k.len b).find? (fun p => slotVmask (u.slot far k.v6 k.len p) == 0)) →
      (s.rbit (lpmWinA + 12) 0 = true → ∀ c ∈ all ++ [(12, .rebuild m v)], exec c.2 s = .next (s.setFld (lpmWinA + 12) 1 3 5)) ∧
      (s.rbit (lpmWinA + 12) 0 = false → s.glideQueues = true →
        ∀ c ∈ all ++ [(12, .rebuild m v)], exec c.2 s = .next (s.winQueue lpmWinA (withCmd v c.1))) ∧
      (s.rbit (lpmWinA + 12) 0 = false → s.glideQueues = false →
        (t = 0x10 ∨ t = 0x11 → ∀ c ∈ all, exec c.2 s = .next (fin (3, u))) ∧
        (t < 0x10 ∨ 0x12 < t → ∀ c ∈ all ++ [(12, .rebuild m v)], exec c.2 s = .next (fin (2, u))) ∧
        (t = 0x11 ∨ t = 0x12 → exec (.rebuild m v) s = .next (fin (3, u))) ∧
        (t = 0x10 → ∀ i, i = u.winIndex lpmWinA →
          (lpmValidIndex i = false → exec (.rebuild m v) s = .next (fin (1, u))) ∧
          (lpmValidIndex i = true → u.fwd.rebuild ≠ none → exec (.rebuild m v) s = .next (fin (u.lpmRefuse 6))) ∧
          (lpmValidIndex i = true → u.fwd.rebuild = none → exec (.rebuild m v) s =
            .next (fin (0, State.setFld { u with fwd := { u.fwd with rebuild := some i } } (lpmA R.TBL_LPM_STAT) 3 10 (1 + 2 * i))))) ∧
        (t = 0x12 →
          (u.verLocked &&& x ≠ 0 → exec (.lpmInsert m v) s = .next (fin (u.verProtect lpmWinA)) ∧
            exec (.lpmDelete m v) s = .next (fin (u.verProtect lpmWinA)) ∧
            exec (.lpmUpdate m v) s = .next (fin (u.verProtect lpmWinA))) ∧
          (u.verLocked &&& x = 0 →
            (u.routeFind false k x ≠ [] ∨ u.routeFind true k x ≠ [] →
              exec (.lpmInsert m v) s = .next (fin ((u.raise 7 1 1).lpmRefuse 1))) ∧
            (u.routeFind false k x = [] → u.routeFind true k x = [] →
              (famBits k.v6 < k.len → exec (.lpmInsert m v) s = .next (fin (u.lpmRefuse 5))) ∧
              (k.len ≤ famBits k.v6 → k.pre ≠ pre → exec (.lpmInsert m v) s = .next (fin (u.lpmRefuse 4))) ∧
              (k.len ≤ famBits k.v6 → k.pre = pre → u.partOn far k = false → exec (.lpmInsert m v) s = .next (fin (u.lpmRefuse 5))) ∧
              (k.len ≤ famBits k.v6 → k.pre = pre → u.partOn far k = true →
                (∀ p, (u.routeBuckets far k).findSome? slots = some p →
                  (far = true → u.fld (regAddr 7 7 R.TBL_FAR_ENTRIES) 0 27 < 67108864) →
                  exec (.lpmInsert m v) s = .next (fin (0, u.lpmPlace far k p e))) ∧
                (far = true → (u.routeBuckets far k).findSome? slots = none ∨
                    67108864 ≤ u.fld (regAddr 7 7 R.TBL_FAR_ENTRIES) 0 27 →
                  exec (.lpmInsert m v) s = .next (fin ((u.raise 7 7 0).lpmRefuse 2))) ∧
                (far = false → (u.routeBuckets far k).findSome? slots = none → ∀ path,
                  path = shortestPath (slotPlaces k.v6 k.len) slots
                    (fun p => (u.nearBuckets (slotRoute k.v6 k.len (u.slot false k.v6 k.len p))).filter (fun b => b != p / 8))
                    (u.nearBuckets k) 8 →
                  (path = none ∨ path = some [] → exec (.lpmInsert m v) s = .next (fin ((u.raise 7 1 0).lpmRefuse 2))) ∧
                  (∀ p q rest, path = some ((p, q) :: rest) → exec (.lpmInsert m v) s =
                    .next (fin (0, (((p, q) :: rest).reverse.foldl (fun y z => y.lpmMove k z) u).lpmPlace false k p e)))))) ∧
            (u.routeFind far k x = [] → exec (.lpmDelete m v) s = .next (fin (u.lpmRefuse 3)) ∧
              exec (.lpmUpdate m v) s = .next (fin (u.lpmRefuse 3))) ∧
            (∀ p l, u.routeFind far k x = p :: l →
              exec (.lpmDelete m v) s = .next (fin (0, (p :: l).foldl (fun y q =>
                if slotVmask (y.slot far k.v6 k.len q) &&& (3 - x) = 0
                then (y.setSlot far k.v6 k.len q 0).lpmCount far k.index false
                else y.setSlot far k.v6 k.len q (natSetField (y.slot far k.v6 k.len q) 0 2
                  (slotVmask (y.slot far k.v6 k.len q) &&& (3 - x)))) u)) ∧
              ((∃ q ∈ p :: l, u.verLocked &&& slotVmask (u.slot far k.v6 k.len q) ≠ 0) →
                exec (.lpmUpdate m v) s = .next (fin (u.verProtect lpmWinA))) ∧
              ((∀ q ∈ p :: l, u.verLocked &&& slotVmask (u.slot far k.v6 k.len q) = 0) →
                exec (.lpmUpdate m v) s = .next (fin (0, (p :: l).foldl (fun y q => y.setSlot far k.v6 k.len q
                  (slotOf_ k (slotVmask (y.slot far k.v6 k.len q)) (natField (y.winWord lpmWinA 1) 0 2)
                    (natField (y.winWord lpmWinA 1) 2 20))) u))))) ∧
          (u.routeFind false k x = [] → u.routeFind true k x = [] →
            exec (.lpmSearch m v) s = .next (fin (u.lpmRefuse 3))) ∧
          (∀ f p l o, u.routeFind f k x = p :: l → f = false ∨ u.routeFind false k x = [] → o = u.slot f k.v6 k.len p →
            exec (.lpmSearch m v) s = .next (fin (0,
              ((u.setWinWord lpmWinA 0 (natSetField (u.winWord lpmWinA 0) 23 1 (if f then 1 else 0))).setWinWord lpmWinA 1
                (slotKind o + slotIndex o * 4)).setWinWord lpmWinA 2 (slotVmask o))))))) ∧
    (∀ (i len : Nat) (v6 : Bool) (t x : State), s.fwd.rebuild = some i → v6 = decide (128 < i) →
      len = (if v6 = true then i - 128 else i) →
      t = (s.nearRoutes v6 len).foldl State.filterSet (s.filterZero (natField (s.lpmDesc i) 96 21) (natField (s.lpmDesc i) 128 21)) →
      x = t.setTabN 7 1 0x10 i (natSetField (s.lpmDesc i) 2 1 1) →
      exec .rebuildDone s = .next (State.raise (State.setFld { x with fwd := { x.fwd with rebuild := none } }
        (lpmA R.TBL_LPM_STAT) 3 1 0) 7 1 3)) ∧
    (s.fwd.rebuild = none → exec .rebuildDone s = .next s)

/-- By a master whose write of a learn window passes R91: a busy window ends with ERR 5, in a Glide the command is queued, a table other
than 0x50 ends with ERR 2, else the command joins the FIFO and leaves its window busy. The running, unheld engine serves the oldest
request: a learn or move drops as SUSPENDED, refreshes or moves the entry that stands, inserts a new one, or is dropped as FULL; INSERT,
DELETE and SEARCH end their window with ERR 0 or their reason; FLUSH starts in the background, or waits for one that runs, and at its end
has deleted what it names. Records leave four at a time or 10 µs after the first; those no channel takes are dropped and counted. A sweep
starts once at a whole second that its period divides, unless suspended; a due visit clears HIT, deletes an entry without it, and leaves a
STATIC or free one; a suspension or the last location ends the sweep. Where none of this holds, nothing changes. -/
def Obligations.LearningActsByTheRules : Prop :=
  ∀ s : State,
    (∀ (m : Master) (r : Fin 4) (v : Word) (u : State), s.mayWrite m (lrnWinA r) →
      u = s.wr (lrnWinA r) (BitVec.ofNat 32 (natField v.toNat 4 11 * 16)) →
      (∀ c ∈ [((8 : Nat), Instr.lrnInsert m r v), (9, .lrnDelete m r v), (10, .lrnSearch m r v), (12, .flush m r v)],
        (s.rbit (lrnWinA r + 12) 0 = true → exec c.2 s = .next (s.setFld (lrnWinA r + 12) 1 3 5)) ∧
        (s.rbit (lrnWinA r + 12) 0 = false → s.glideQueues = true → exec c.2 s = .next (s.winQueue (lrnWinA r) (withCmd v c.1))) ∧
        (s.rbit (lrnWinA r + 12) 0 = false → s.glideQueues = false → natField v.toNat 4 8 ≠ 0x50 →
          exec c.2 s = .next (u.winEnd (lrnWinA r) 2 0))) ∧
      (s.rbit (lrnWinA r + 12) 0 = false → s.glideQueues = false → natField v.toNat 4 8 = 0x50 → ∀ join : LrnReq → State,
        (∀ q, join q = (u.setLrn r { u.lrn r with fifo := (u.lrn r).fifo ++ [q] }).wr (lrnWinA r + 12) 1) →
        exec (.lrnInsert m r v) s = .next (join (.insert (u.lrnWinEntry r))) ∧
        exec (.lrnDelete m r v) s = .next (join (.delete (u.lrnWinEntry r))) ∧
        exec (.lrnSearch m r v) s = .next (join (.search (u.lrnWinEntry r))) ∧
        exec (.flush m r v) s = .next (join (.flush (u.winWord (lrnWinA r) 0) (natField (u.winWord (lrnWinA r) 1) 0 12)
          (natField (u.winWord (lrnWinA r) 2) 0 17))))) ∧
    (∀ r : Fin 4, s.rgnRuns (3 + r.val) = false ∨ s.blkHeld (3 + r.val) 9 = true ∨ (s.lrn r).fifo = [] →
      exec (.learnEngine r) s = .next s) ∧
    (∀ (r : Fin 4) q rest (t : State) (fin : Nat × State → State), s.rgnRuns (3 + r.val) = true → s.blkHeld (3 + r.val) 9 = false →
      (s.lrn r).fifo = q :: rest → t = s.setLrn r { s.lrn r with fifo := rest } →
      (∀ x, fin x = x.2.winEnd (lrnWinA r) x.1 16) →
      (∀ bd mac dest slice, q = .learn bd mac dest slice ∨ q = .move bd mac dest slice →
        (s.rbit (lrnA r R.PIPE_LRN_CTRL) 3 = true → exec (.learnEngine r) s = .next (t.lrnDrop r 2)) ∧
        (s.rbit (lrnA r R.PIPE_LRN_CTRL) 3 = false →
          (∀ p, t.lrnFind r bd mac = some p → exec (.learnEngine r) s = .next (t.lrnMoveAt r p dest slice)) ∧
          (∀ p moves, t.lrnFind r bd mac = none → t.lrnRoom r bd mac = some (p, moves) → exec (.learnEngine r) s =
            .next (((t.lrnPlace r (leOf bd mac dest slice) p moves).lrnEvt r 0).lrnNote r 1 bd mac dest slice)) ∧
          (t.lrnFind r bd mac = none → t.lrnRoom r bd mac = none → exec (.learnEngine r) s =
            .next (((t.lrnDrop r 0).raise (3 + r.val) 9 0).lrnNote r 4 bd mac dest slice)))) ∧
      (∀ e, q = .insert e →
        (∀ p, t.lrnFind r (leBd e) (leMac e) = some p → exec (.learnEngine r) s = .next (fin (t.lrnRefuse r 1))) ∧
        (∀ p moves, t.lrnFind r (leBd e) (leMac e) = none → t.lrnRoom r (leBd e) (leMac e) = some (p, moves) →
          exec (.learnEngine r) s = .next (fin (0, (t.lrnPlace r (natSetField e 0 1 1) p moves).setWinIndex (lrnWinA r) p))) ∧
        (t.lrnFind r (leBd e) (leMac e) = none → t.lrnRoom r (leBd e) (leMac e) = none →
          exec (.learnEngine r) s = .next (fin ((t.raise (3 + r.val) 9 0).lrnRefuse r 2)))) ∧
      (∀ e, q = .delete e ∨ q = .search e → t.lrnFind r (leBd e) (leMac e) = none →
        exec (.learnEngine r) s = .next (fin (t.lrnRefuse r 3))) ∧
      (∀ e p, q = .delete e → t.lrnFind r (leBd e) (leMac e) = some p →
        exec (.learnEngine r) s = .next (fin (0, (t.lrnPut r p 0).setWinIndex (lrnWinA r) p))) ∧
      (∀ e p, q = .search e → t.lrnFind r (leBd e) (leMac e) = some p → exec (.learnEngine r) s =
        .next (fin (0, (t.setWinData (lrnWinA r) 4 (t.lrnEntry r p)).setWinIndex (lrnWinA r) p))) ∧
      (∀ what bd dest, q = .flush what bd dest →
        ((s.lrn r).flush = none → exec (.learnEngine r) s = .next ((fin (0, t.setLrn r { s.lrn r with
          fifo := rest
          flush := some (what, bd, dest) })).setRbit (lrnA r R.PIPE_LRN_STAT) 2 true)) ∧
        ((s.lrn r).flush ≠ none → exec (.learnEngine r) s = .next s))) ∧
    (∀ (r : Fin 4) what bd dest (t : State), (s.lrn r).flush = some (what, bd, dest) →
      t = ((s.tabListed (3 + r.val) 9 0x50).filter (fun p => flushHits what bd dest p.2.toNat)).foldl (fun x p => x.lrnPut r p.1 0) s →
      exec (.flushDone r) s = .next (((t.setLrn r { t.lrn r with flush := none }).setRbit (lrnA r R.PIPE_LRN_STAT) 2 false).raise
        (3 + r.val) 9 3)) ∧
    (∀ r : Fin 4, (s.lrn r).flush = none → exec (.flushDone r) s = .next s) ∧
    (∀ (r : Fin 4) (x : LearnSt), x = s.lrn r →
      (x.notes = [] ∨ (x.notes.length < 4 ∧ s.time.ticks < x.noteTick + 10 * ticksPerUs) → exec (.notePost r) s = .next s) ∧
      (4 ≤ x.notes.length ∨ (x.notes ≠ [] ∧ x.noteTick + 10 * ticksPerUs ≤ s.time.ticks) → ∀ p,
        p = State.chDevice (s.setLrn r { x with
          notes := x.notes.drop 4
          noteTick := s.time.ticks }) (s.fld (lrnA r R.PIPE_LRN_CTRL) 16 16) 3 (padTo 64 (x.notes.take 4).flatten) →
        (p.1 = .posted → exec (.notePost r) s = .next p.2) ∧
        (p.1 ≠ .posted → exec (.notePost r) s =
          .next (((x.notes.take 4).foldl (fun t _ => t.lrnDrop r 3) p.2).raise (3 + r.val) 9 2)))) ∧
    (∀ (t : AgeTable) (u : State) (due : Prop), u = { s with fwd := { s.fwd with
        lastSweep := spPut (fun _ => 0) s.fwd.lastSweep (ageIndex t) (tvSec s.wt + 1) } } →
      (due ↔ s.time.wtValid = true ∧ s.agePeriod t ≠ 0 ∧ tvSec s.wt % s.agePeriod t = 0 ∧
        spGet (fun _ => 0) s.fwd.lastSweep (ageIndex t) ≠ tvSec s.wt + 1 ∧ s.rgnRuns (ageRegion t) = true) →
      (due → exec (.agingSweepStart t) s =
        .next (if s.ageSuspended t then u else u.setSweep t (some ⟨tvSec s.wt * lsbSec, 0⟩))) ∧
      (¬ due → exec (.agingSweepStart t) s = .next s)) ∧
    (∀ t : AgeTable, s.sweep t = none → exec (.agingVisit t) s = .next s) ∧
    (∀ (t : AgeTable) w, s.sweep t = some w →
      (s.ageSuspended t = true ∨ s.ageLocations t ≤ w.next → exec (.agingVisit t) s = .next (s.setSweep t none)) ∧
      (s.ageSuspended t = false → w.next < s.ageLocations t →
        (s.wt < w.start + w.next * ageSpacing t * lsbNs → exec (.agingVisit t) s = .next s) ∧
        (w.start + w.next * ageSpacing t * lsbNs ≤ s.wt → ∀ u : State,
          u = s.setSweep t (if w.next + 1 < s.ageLocations t then some { w with next := w.next + 1 } else none) →
          (∀ r e, t = .learned r → e = u.lrnEntry r w.next →
            (leValid e = false ∨ leStatic e = true → exec (.agingVisit t) s = .next u) ∧
            (leValid e = true → leStatic e = false → leHit e = true →
              exec (.agingVisit t) s = .next (u.lrnPut r w.next (natSetField e 2 1 0))) ∧
            (leValid e = true → leStatic e = false → leHit e = false → exec (.agingVisit t) s =
              .next (((u.lrnPut r w.next 0).lrnEvt r 2).lrnNote r 3 (leBd e) (leMac e) (leDest e) (leSlice e)))) ∧
          (∀ n, t = .em n →
            (entVmask (u.emEntry n w.next) = 0 → exec (.agingVisit t) s = .next u) ∧
            (entVmask (u.emEntry n w.next) ≠ 0 → u.emHit n w.next = true →
              exec (.agingVisit t) s = .next (u.setEmHit n w.next false)) ∧
            (entVmask (u.emEntry n w.next) ≠ 0 → u.emHit n w.next = false →
              exec (.agingVisit t) s = .next ((u.emFree n w.next).bump (emA (R.TBL_EM_AGED + 4 * n))))))))

/-- For every array, partition word `p`, key and version, in a state whose stores are canonical and whose entries up to the
partition's end hold no key bit that their mask leaves out (as WRITE stores them): an entry takes part exactly when it lies in the
partition, its VMASK bit for the version is 1, MASKED is 0, and the key agrees at every bit of its mask; the winner is the entry of highest
PRIORITY, of equals the one of lowest index. A search answers that winner where its shadow confirms it, and misses where no entry takes
part. -/
def Obligations.SearchWinnerHasHighestPriorityLowestIndex : Prop :=
  ∀ (s : State) (a : ArrayRef) (p key : Nat) (odd : Bool), s.storesWf = true →
    (∀ i, i < partEnd p → (s.ascEnt a i).key &&& (s.ascEnt a i).mask = (s.ascEnt a i).key) →
    (∀ i, i ∈ s.ascMatches a p key odd ↔ partFirst p ≤ i ∧ i < partEnd p ∧
      natBit (awVmask (s.ascEnt a i).words) (if odd then 1 else 0) = true ∧ awMasked (s.ascEnt a i).words = false ∧
      ∀ b, (s.ascEnt a i).mask.testBit b = true → key.testBit b = (s.ascEnt a i).key.testBit b) ∧
    (∀ w, s.ascBest a (s.ascMatches a p key odd) = some w ↔ w ∈ s.ascMatches a p key odd ∧
      ∀ i ∈ s.ascMatches a p key odd, s.ascPrio a i < s.ascPrio a w ∨ (s.ascPrio a i = s.ascPrio a w ∧ w ≤ i)) ∧
    (∀ w, s.ascBest a (s.ascMatches a p key odd) = some w → s.arrTab a shBadCode w = 0 →
      key &&& s.arrTab a shMaskCode w = s.arrTab a shKeyCode w →
      s.ascSearch a p key odd = (.hit w, s.ascTie a w (s.ascMatches a p key odd))) ∧
    (s.ascMatches a p key odd = [] → s.ascSearch a p key odd = (.miss, s))

/-- By a master whose write of the array's window passes R91. A busy window ends with ERR 5; in a Glide every command but READ is queued.
A table of the block that has no such command ends with ERR 3, no table with 2, an INDEX from 32,768 on with 1. READ copies the entry to the window and the
staging registers and takes no slot; each other command waits where no slot is spare, and else runs after what waits for one (`d`). In the
range of a running move WRITE, CLEAR, SETV, DELETE and UPDATE are refused as BUSY, at a version closed to writes by protection. WRITE
stores a new entry in a free place of its partition and refuses an occupied place, a place, width or kind that does not fit; CLEAR frees;
SETV, DELETE and UPDATE change the entry they find or refuse NOT_FOUND, UPDATE also a kind that does not fit; SEARCH answers the winner or
NOT_FOUND. -/
def Obligations.AssociativeCommandsAct : Prop :=
  ∀ (s u d : State) (m : Master) (a : ArrayWin) (v : Word) (win t i x : Nat) (e n : AscEnt) (fin : Nat × State → State)
    (refuse : Nat → Host.Outcome State Fault Refusal) (all : List (Nat × Instr)),
    win = arrWin a → s.mayWrite m win → u = s.wr win (BitVec.ofNat 32 (natField v.toNat 4 11 * 16)) → t = natField v.toNat 4 8 →
    all = [(2, .ascWrite m a v), (3, .ascClear m a v), (9, .setv m a v), (10, .ascDelete m a v), (11, .ascUpdate m a v),
      (13, .ascSearch m a v)] →
    d = u.ascDrain a.array → i = d.winIndex win → x = d.winVmask win → e = d.ascEnt a.array i → n = d.ascNew a.array win →
    (∀ r, fin r = r.2.winEnd win r.1 12) → (∀ r, refuse r = .next (fin (d.ascRefuse a.array r))) →
    (s.rbit (win + 12) 0 = true → ∀ c ∈ (1, .ascRead m a v) :: all, exec c.2 s = .next (s.setFld (win + 12) 1 3 5)) ∧
    (s.rbit (win + 12) 0 = false → s.glideQueues = true → ∀ c ∈ all, exec c.2 s = .next (s.winQueue win (withCmd v c.1))) ∧
    (s.rbit (win + 12) 0 = false →
      (t = 0x60 → exec (.ascRead m a v) s = .next (u.winEnd win 3 32)) ∧
      (t = 0x61 → exec (.ascRead m a v) s = .next (u.winEnd win 3 8)) ∧
      (t < 0x60 ∨ 0x62 < t → exec (.ascRead m a v) s = .next (u.winEnd win 2 8)) ∧
      (t = 0x62 → 32768 ≤ u.winIndex win → exec (.ascRead m a v) s = .next (fin (1, u))) ∧
      (t = 0x62 → u.winIndex win < 32768 → exec (.ascRead m a v) s = .next (fin (u.ascRead a.array win)))) ∧
    (s.rbit (win + 12) 0 = false → s.glideQueues = false →
      (t = 0x60 → ∀ c ∈ all, exec c.2 s = .next (u.winEnd win 3 32)) ∧
      (t = 0x61 → ∀ c ∈ all, exec c.2 s = .next (u.winEnd win 3 8)) ∧
      (t < 0x60 ∨ 0x62 < t → ∀ c ∈ all, exec c.2 s = .next (u.winEnd win 2 8)) ∧
      (t = 0x62 → 32768 ≤ u.winIndex win → ∀ c ∈ all, exec c.2 s = .next (fin (1, u))) ∧
      (t = 0x62 → u.winIndex win < 32768 → u.ascSpare a.array = false →
        ∀ c ∈ all, exec c.2 s = .next (u.ascPend a.array win c.1)) ∧
      (t = 0x62 → u.winIndex win < 32768 → u.ascSpare a.array = true →
        (d.ascInMove a.array i = true → exec (.ascWrite m a v) s = refuse 8 ∧ exec (.ascClear m a v) s = refuse 8 ∧
          exec (.setv m a v) s = refuse 8 ∧ exec (.ascDelete m a v) s = refuse 8 ∧ exec (.ascUpdate m a v) s = refuse 8) ∧
        (d.ascInMove a.array i = false →
          (d.verLocked &&& awVmask n.words ≠ 0 → exec (.ascWrite m a v) s = .next (fin (d.verProtect win))) ∧
          (d.verLocked &&& awVmask n.words = 0 →
            (awVmask e.words ≠ 0 → exec (.ascWrite m a v) s = refuse 1) ∧
            (awVmask e.words = 0 →
              (∀ r, d.ascNewBad a.array i n.words = some r → exec (.ascWrite m a v) s = refuse r) ∧
              (d.ascNewBad a.array i n.words = none → exec (.ascWrite m a v) s =
                .next (fin (0, if awVmask n.words = 0 then d else d.ascPut a.array i n))))) ∧
          (d.verLocked &&& awVmask e.words ≠ 0 → exec (.ascClear m a v) s = .next (fin (d.verProtect win)) ∧
            exec (.ascUpdate m a v) s = .next (fin (d.verProtect win))) ∧
          (d.verLocked &&& awVmask e.words = 0 →
            exec (.ascClear m a v) s = .next (fin (0, (d.ascPut a.array i freeEnt).shadowBad a.array)) ∧
            (awVmask e.words = 0 → exec (.ascUpdate m a v) s = refuse 2) ∧
            (∀ w, w = natSetField (awClean (d.winDataN win 3)) 0 32 (natField e.words 0 32) → awVmask e.words ≠ 0 →
              (ascKindOk a.array.egress w = true → exec (.ascUpdate m a v) s = .next (fin (0, d.ascSetWords a.array i w))) ∧
              (ascKindOk a.array.egress w = false → exec (.ascUpdate m a v) s = refuse 7))) ∧
          (d.verLocked &&& (x ||| awVmask e.words) ≠ 0 → exec (.setv m a v) s = .next (fin (d.verProtect win))) ∧
          (d.verLocked &&& (x ||| awVmask e.words) = 0 →
            (awVmask e.words = 0 → exec (.setv m a v) s = refuse 2) ∧
            (awVmask e.words ≠ 0 → exec (.setv m a v) s = .next (fin (0, d.ascVmask a.array i (awVmask e.words ||| x))))) ∧
          (d.verLocked &&& x ≠ 0 → exec (.ascDelete m a v) s = .next (fin (d.verProtect win))) ∧
          (d.verLocked &&& x = 0 →
            (awVmask e.words = 0 → exec (.ascDelete m a v) s = refuse 2) ∧
            (awVmask e.words ≠ 0 → awVmask e.words &&& (3 - x) = 0 → exec (.ascDelete m a v) s =
              .next (fin (0, (d.ascPut a.array i freeEnt).shadowBad a.array))) ∧
            (awVmask e.words &&& (3 - x) ≠ 0 → exec (.ascDelete m a v) s =
              .next (fin (0, d.ascVmask a.array i (awVmask e.words &&& (3 - x))))))) ∧
        (∀ p, p = d.part a.array (natField (d.winWord win 0) 0 4) →
          (partEn p = false ∨ (x ≠ 1 ∧ x ≠ 2) → exec (.ascSearch m a v) s = refuse 2) ∧
          (partEn p = true → x = 1 ∨ x = 2 → ∀ r,
            r = d.ascSearch a.array p (d.staged a.array R.PIPE_ASC_KEY (widthBytes (partWidth p))) (x == 2) →
            (∀ w, r.1 = .hit w → exec (.ascSearch m a v) s = .next (fin (0, r.2.setWinIndex win w))) ∧
            (r.1 = .miss ∨ r.1 = .abandon → exec (.ascSearch m a v) s = .next (fin (r.2.ascRefuse a.array 2)))))))

/-- By a master whose write of the window passes R91: a busy window ends with ERR 5, in a Glide the command is queued, a wrong TABLE or
INDEX ends it as for the other commands, a run under way refuses it as BUSY. INSERT_AT refuses a closed version, an index outside a
partition or a width or kind that does not fit, and a full partition; it writes at once where the place at INDEX, or the one below it, is free and a
slot is spare, and else starts a run toward the nearest free place. MOVE refuses a block it cannot move, and else starts a run over it. A
mover slot copies the next entry with MOVING set and clears MOVING after the last copy, after which a MOVE frees the place left and
ends; the slot after the last copy of an INSERT_AT writes the new entry and ends the run. The mover takes a spare slot with no rewrite
ahead of it, a rewrite any spare slot; what has waited 64 clocks takes a port's slot, counted: rewrites, then commands, then the mover.
The scrubber's line, where it differs from its shadow, is rewritten, counted and raised; after the last line a pass is counted. -/
def Obligations.MoverAndScrubberKeepTheArray : Prop :=
  ∀ s : State,
    (∀ (u : State) (m : Master) (a : ArrayWin) (v : Word) (win t i : Nat) (bad : Nat → Host.Outcome State Fault Refusal), win = arrWin a →
      s.mayWrite m win → u = s.wr win (BitVec.ofNat 32 (natField v.toNat 4 11 * 16)) → t = natField v.toNat 4 8 → i = u.winIndex win →
      (∀ r, bad r = .next ((u.ascRefuse a.array r).2.winEnd win 4 12)) →
      (∀ c ∈ [((8 : Nat), Instr.insertAt m a v), (12, .ascMove m a v)],
        (s.rbit (win + 12) 0 = true → exec c.2 s = .next (s.setFld (win + 12) 1 3 5)) ∧
        (s.rbit (win + 12) 0 = false → s.glideQueues = true → exec c.2 s = .next (s.winQueue win (withCmd v c.1))) ∧
        (s.rbit (win + 12) 0 = false → s.glideQueues = false →
          (t = 0x60 ∨ t = 0x61 → exec c.2 s = .next (u.winEnd win 3 0)) ∧
          (t < 0x60 ∨ 0x62 < t → exec c.2 s = .next (u.winEnd win 2 0)) ∧
          (t = 0x62 → 32768 ≤ i → exec c.2 s = .next (u.winEnd win 1 12)) ∧
          (t = 0x62 → i < 32768 → (u.arr a.array).move ≠ none → exec c.2 s = bad 8))) ∧
      (s.rbit (win + 12) 0 = false → s.glideQueues = false → t = 0x62 → i < 32768 → (u.arr a.array).move = none →
        (∀ e, e = u.ascNew a.array win →
          (u.verLocked &&& awVmask e.words ≠ 0 → exec (.insertAt m a v) s = .next ((u.verProtect win).2.winEnd win 4 12)) ∧
          (u.verLocked &&& awVmask e.words = 0 →
            (∀ r, u.ascNewBad a.array i e.words = some r → exec (.insertAt m a v) s = bad r) ∧
            (∀ p st, u.ascNewBad a.array i e.words = none → u.partOf a.array i = some p → st = widthRows (partWidth p) →
              (u.ascFree a.array p i = none → exec (.insertAt m a v) s = bad 6) ∧
              (∀ f, u.ascFree a.array p i = some (f, false) →
                (f = i → u.ascSpare a.array = true →
                  exec (.insertAt m a v) s = .next (((u.ascPut a.array i e).ascMoved a.array).winEnd win 0 12)) ∧
                (f ≠ i ∨ u.ascSpare a.array = false → exec (.insertAt m a v) s =
                  .next (u.ascStart a.array ⟨win, i, f - st, st, false, f - st, (f - i) / st, [], some (e, i)⟩))) ∧
              (∀ f, u.ascFree a.array p i = some (f, true) →
                (f + st = i → u.ascSpare a.array = true → exec (.insertAt m a v) s =
                  .next ((((u.ascPut a.array f e).setWinIndex win f).ascMoved a.array).winEnd win 0 12)) ∧
                (f + st ≠ i ∨ u.ascSpare a.array = false → exec (.insertAt m a v) s =
                  .next (u.ascStart a.array ⟨win, f + st, i - st, st, true, f + st, (i - f) / st - 1, [], some (e, i - st)⟩)))))) ∧
        (u.partOf a.array i = none → exec (.ascMove m a v) s = bad 5) ∧
        (∀ p st last down (ok : Prop), u.partOf a.array i = some p → st = widthRows (partWidth p) → last = natField (u.winWord win 0) 0 15 →
          down = natBit (u.winWord win 0) 31 →
          (ok ↔ i ≤ last ∧ (last - i) % st = 0 ∧ i % st = 0 ∧
            (if down = true then partFirst p + st ≤ i ∧ last < partEnd p else last + st < partEnd p) ∧
            awVmask (u.ascWords a.array (if down = true then i - st else last + st)) = 0) →
          (ok → exec (.ascMove m a v) s =
            .next (u.ascStart a.array ⟨win, i, last, st, down, if down = true then i else last, (last - i) / st + 1, [], none⟩)) ∧
          (¬ ok → exec (.ascMove m a v) s = bad 5)))) ∧
    (∀ (a : ArrayRef) (x : AscSt), x = s.arr a →
      (∀ y k dst e (t : State), x.move = some y → y.left = k + 1 → dst = (if y.down then y.next - y.stride else y.next + y.stride) →
        e = s.ascEnt a y.next → t = s.ascCopy a y.next dst (if awVmask e.words = 0 then e.words else natSetField e.words 2 1 1) →
        ∃ w, w = t.setArr a { t.arr a with
            move := some { y with
              left := k
              copied := dst :: y.copied
              next := if y.down then y.next + y.stride else y.next - y.stride }
            waitTick := t.time.ticks } ∧
          s.moverSlot a y = (if k ≠ 0 then w else
            if y.new.isSome then w.clearMoving a (dst :: y.copied)
            else ((w.clearMoving a (dst :: y.copied)).ascPut a (if y.down then y.last else y.first) freeEnt).ascMoveEnd a y none)) ∧
      (∀ y e i, x.move = some y → y.left = 0 → y.new = some (e, i) → s.moverSlot a y = (s.ascPut a i e).ascMoveEnd a y (some i)) ∧
      (∀ y, x.move = some y → s.arrWorks a = true → s.ascSpare a = true → x.rewrite = [] →
        exec (.moverCopy a) s = .next (s.moverSlot a y)) ∧
      (x.move = none ∨ s.arrWorks a = false ∨ s.ascSpare a = false ∨ x.rewrite ≠ [] → exec (.moverCopy a) s = .next s) ∧
      (∀ line rest, x.rewrite = line :: rest → s.arrWorks a = true → s.ascSpare a = true → exec (.scrubRewrite a) s =
        .next ((s.setArr a { x with
          rewrite := rest
          waitTick := s.time.ticks }).rewriteLine a line true)) ∧
      (x.rewrite = [] ∨ s.arrWorks a = false ∨ s.ascSpare a = false → exec (.scrubRewrite a) s = .next s) ∧
      (∀ t, s.arrWorks a = true → x.waitTick + 64 ≤ s.time.ticks →
        t = (s.setArr a { x with stealPort := (x.stealPort + 1) % 4 }).bump (arrA a R.PIPE_ASC_STOLEN) →
        (x.rewrite ≠ [] → exec (.slotSteal a) s = .next (t.rewriteNext a)) ∧
        (x.rewrite = [] → x.cmds ≠ [] → exec (.slotSteal a) s = .next (t.ascNext a)) ∧
        (∀ y, x.rewrite = [] → x.cmds = [] → x.move = some y → exec (.slotSteal a) s = .next (t.moverSlot a y))) ∧
      (s.arrWorks a = false ∨ s.time.ticks < x.waitTick + 64 ∨ (x.rewrite = [] ∧ x.cmds = [] ∧ x.move = none) →
        exec (.slotSteal a) s = .next s) ∧
      (∀ (ready : Prop) (next : Option Nat),
        (ready ↔ s.rbit (arrA a R.PIPE_ASC_CTRL) 0 = true ∧ x.rewrite = [] ∧ s.arrWorks a = true ∧ s.ascSpare a = true) →
        next = (s.scrubNext a x.scrub).or (s.scrubNext a 0) →
        (¬ ready ∨ next = none → exec (.scrubLine a) s = .next s) ∧
        (∀ line (t u : State), ready → next = some line → t = s.scrubParity a line →
          u = (if t.lineDiffers a line = true
            then ((t.rewriteLine a line false).bump (arrA a R.PIPE_ASC_SCRUB_FIX)).raise (arrRegion a) (arrBlock a) 7 else t) →
          (u.scrubNext a (line + 1) ≠ none → exec (.scrubLine a) s = .next (u.setArr a { u.arr a with scrub := line + 1 })) ∧
          (u.scrubNext a (line + 1) = none → ∃ w, w = u.setArr a { u.arr a with scrub := 0 } ∧ exec (.scrubLine a) s =
            .next (w.wr (arrA a R.PIPE_ASC_SCRUB_PASSES) (w.rd (arrA a R.PIPE_ASC_SCRUB_PASSES) + 1))))))

/-- Writes of SYS_VER_CTRL.CMD that pass the access checks. COMMIT seals BUILD for the first slot start after the write and does not touch
SYS_VER_AT; ARM seals it for the instant in SYS_VER_AT; both are refused without WT_VALID or while the other version is SEALED or RETIRING,
ARM also where its instant is no slot start or not later than the working time. While SEALED the version is closed to writes. DISARM returns
SEALED to BUILD, refused with nothing armed or past the instant. FORCE_RETIRE ends RETIRING, refused where nothing is retiring.
PAUSE_APPLY runs the batch, refused while one runs. A refusal raises ARM_REFUSED and does nothing else. -/
def Obligations.VersionCommandsActOrAreRefused : Prop :=
  ∀ (s : State) (m : Master), s.mayWrite m verCtrlA →
    (s.time.wtValid = false ∨ s.verOther ≠ 0 →
      exec (.verCommit m) s = .next (s.raise 0 8 3) ∧ exec (.verArm m) s = .next (s.raise 0 8 3)) ∧
    (s.time.wtValid = true → s.verOther = 0 →
      (∃ t, exec (.verCommit m) s = .next t ∧ t = State.setFld { s with ver := { s.ver with
          commitAt := some ((slotOf s.wt + 1) * lsbSlot) } } verStatA 1 2 1 ∧
        (s.devRunning = true → t.verOther = 1 → t.verLocked = 3) ∧ s.wt < (slotOf s.wt + 1) * lsbSlot) ∧
      (∀ t, t = s.instant (A.ver R.SYS_VER_AT_NS) →
        (t % lsbSlot ≠ 0 ∨ t ≤ s.wt → exec (.verArm m) s = .next (s.raise 0 8 3)) ∧
        (t % lsbSlot = 0 → s.wt < t → exec (.verArm m) s =
          .next (State.setFld { s with ver := { s.ver with commitAt := some t } } verStatA 1 2 1)))) ∧
    (s.ver.commitAt = none → exec (.verDisarm m) s = .next (s.raise 0 8 3)) ∧
    (∀ t, s.ver.commitAt = some t →
      (t ≤ s.wt → exec (.verDisarm m) s = .next (s.raise 0 8 3)) ∧
      (s.wt < t → exec (.verDisarm m) s = .next (State.setFld { s with ver := { s.ver with commitAt := none } } verStatA 1 2 0))) ∧
    (s.verOther ≠ 2 → exec (.forceRetire m) s = .next (s.raise 0 8 3)) ∧
    (s.verOther = 2 → ∀ t : State, t = s.verRetired true → exec (.forceRetire m) s = .next { t with
      ver := if t.verOdd = true then { t.ver with inflEven := 0 } else { t.ver with inflOdd := 0 } }) ∧
    (s.ver.batch ≠ none → exec (.pauseApply m) s = .next (s.raise 0 8 3)) ∧
    (s.ver.batch = none →
      (∀ n, (List.range s.batchCount).find? (fun n => !s.batchOk (batchArgs (s.batchEntry n))) = some n →
        exec (.pauseApply m) s = .next (s.wr (A.ver R.SYS_VER_PAUSE_STAT) (BitVec.ofNat 32 (4 + 16 * n)))) ∧
      ((List.range s.batchCount).find? (fun n => !s.batchOk (batchArgs (s.batchEntry n))) = none →
        exec (.pauseApply m) s = .next (State.setRbit (State.wr { s with ver := { s.ver with
          batch := some (s.wt, s.fld (A.ver R.SYS_VER_PAUSE) 0 12, s.batchCount) } } (A.ver R.SYS_VER_PAUSE_STAT) 1) verStatA 3 true)))

/-- SYS_VER_SEQ is taken while the other version is in BUILD and refused otherwise. The sealed version becomes current on the tick of its
instant, the former one RETIRING and the commit cause set. RETIRE ends RETIRING once nothing of that version is in flight and the peers
are drained; RETIRE_LATE is raised once past its limit. A batch writes when no packet of its slice is ahead of the lookup, and ends with its
cause; one still blocked at t0 + 1 µs ends aborted. Before those times nothing happens. -/
def Obligations.CommitsAndRetirementFollowTheirConditions : Prop :=
  ∀ s : State,
    (∀ (m : Master) (v : Word), s.mayWrite m (A.ver R.SYS_VER_SEQ) →
      (s.verOther = 0 → exec (.verSeqWrite m v) s = .next ((s.wr (A.ver R.SYS_VER_SEQ)
        (BitVec.ofNat 32 (v.toNat % 65536))).setFld verStatA 16 16 v.toNat)) ∧
      (s.verOther ≠ 0 → exec (.verSeqWrite m v) s = .next s.verRefused)) ∧
    (∀ t, s.ver.commitAt = some t →
      (s.instantDue t = true → ∃ u, exec .commitInstant s = .next u ∧ u = s.commitNow t ∧ u.ver.commitAt = none ∧
        u.ver.lastT = t ∧ u.ver.lateRaised = false ∧ u.ver.peers = [] ∧
        (s.storesWf = true → u.verOdd = !s.verOdd ∧ u.verOther = 2)) ∧
      (s.instantDue t = false → exec .commitInstant s = .next s)) ∧
    (s.ver.commitAt = none → exec .commitInstant s = .next s) ∧
    (s.verOther = 2 → s.infl (!s.verOdd) = 0 → s.peersDrained = true → exec .retire s = .next (s.verRetired false)) ∧
    (s.verOther ≠ 2 ∨ s.infl (!s.verOdd) ≠ 0 ∨ s.peersDrained = false → exec .retire s = .next s) ∧
    (s.verOther = 2 → s.ver.lateRaised = false →
      s.ver.lastT + s.fld (A.ver R.SYS_VER_RETIRE_LIMIT) 0 16 * 1000 * lsbUs ≤ s.wt →
      exec .retireLate s = .next (State.verRaise { s with ver := { s.ver with lateRaised := true } } 2)) ∧
    (s.verOther ≠ 2 ∨ s.ver.lateRaised = true ∨
        s.wt < s.ver.lastT + s.fld (A.ver R.SYS_VER_RETIRE_LIMIT) 0 16 * 1000 * lsbUs → exec .retireLate s = .next s) ∧
    (∀ t0 slice n, s.ver.batch = some (t0, slice, n) →
      (s.sliceAhead slice = true → exec .batchWrite s = .next s ∧
        (t0 + lsbUs ≤ s.wt → exec .pauseAbort s = .next ((s.batchEnd 1 t0).verRaise 8)) ∧
        (s.wt < t0 + lsbUs → exec .pauseAbort s = .next s)) ∧
      (s.sliceAhead slice = false → exec .pauseAbort s = .next s ∧ ∃ t : State,
        t = (List.range n).foldl (fun x j => x.batchPut (batchArgs (x.batchEntry j))) s ∧
        exec .batchWrite s = .next ((t.batchEnd 0 t0).verRaise 7))) ∧
    (s.ver.batch = none → exec .batchWrite s = .next s ∧ exec .pauseAbort s = .next s)

/-- Accesses of block PORT that pass R91: core threads only, every other master is refused. ALLOC answers what its pool gives, 64 bits
or the low word with the high word latched: the head of an enabled pool's cache, else of the fallback chain, counted; 0 from an empty
chain, counted and raised. FREE of an unshared buffer puts it back on its pool's cache; RANGE and ALIGN refuse an address, and with a share
record OWNER or AGAIN refuses it, each leaving only the log entry; with copies outstanding the owner's free is recorded. RELEASE counts a
share down, returns the buffer with the last one after the owner's free, and is refused without a record, by the owner or once too often.
SHARE names the owner; a second one and one beyond 65,536 records raise their cause. After FREE and RELEASE what waits for a buffer is tried
again. The log gives its head to a master and removes it with its last word. INIT fills the ring; a busy window ends with ERR 5, in a Glide
the command is queued, an INDEX from 256 on ends with 1. Caches of enabled pools whose ring serves take and give bursts of 256. -/
def Obligations.PoolsHandOutAndTakeBack : Prop :=
  ∀ s : State,
    (∀ p : Nat,
      (∀ a l, pdEn (s.poolDesc p) = true → (s.pool p).cache = a :: l → s.poolAlloc p = (a, (s.setPool p { s.pool p with
        cache := l
        allocated := (s.pool p).allocated + 1 }).poolCount p 0)) ∧
      (poolChain 4 p s = none → s.poolAlloc p = (0, (s.poolCount p 3).raise 0x13 3 2)) ∧
      (∀ a q u, poolChain 4 p s = some (a, q, u) → s.poolAlloc p = (a, if q = p then u else u.poolCount p 2))) ∧
    (∀ (t : Fin 384) (p : Fin 256) (adr : Nat) (r : Nat × State), adr = bportA (R.BUF_POOL_ALLOC + 8 * p.val) → r = s.poolAlloc p →
      (s.accessCheck (.core t) adr 8 false false = .ok → exec (.poolAlloc (.core t) p true) s = .next (r.2.emit (.reply (.core t) r.1))) ∧
      (s.accessCheck (.core t) adr 4 false false = .ok → ∀ l, l = spPut (fun _ => Latch.none_) r.2.ctl.latches
          (masterCode (.core t) + 4 * (0x13 * 64 + 4)) ⟨adr, [BitVec.ofNat 32 (r.1 / 2 ^ 32)]⟩ →
        exec (.poolAlloc (.core t) p false) s =
          .next (State.emit { r.2 with ctl := { r.2.ctl with latches := l } } (.reply (.core t) (r.1 % 2 ^ 32))))) ∧
    (∀ m : Master, (∀ t, m ≠ .core t) →
      (∀ (p : Fin 256) (wide : Bool) (adr : Nat), adr = bportA (R.BUF_POOL_ALLOC + 8 * p.val) →
        s.accessCheck m adr (if wide then 8 else 4) false false = .ok →
        exec (.poolAlloc m p wide) s = .next (s.accessRefused m adr .denied)) ∧
      (∀ (d : BitVec 64),
        (s.accessCheck m (bportA R.BUF_POOL_FREE) 8 false true = .ok →
          exec (.poolFree m d) s = .next (s.accessRefused m (bportA R.BUF_POOL_FREE) .denied)) ∧
        (s.accessCheck m (bportA R.BUF_POOL_RELEASE) 8 false true = .ok →
          exec (.poolRelease m d) s = .next (s.accessRefused m (bportA R.BUF_POOL_RELEASE) .denied)) ∧
        (s.accessCheck m (bportA R.BUF_POOL_SHARE) 8 false true = .ok →
          exec (.poolShare m d) s = .next (s.accessRefused m (bportA R.BUF_POOL_SHARE) .denied)))) ∧
    (∀ (t : Fin 384) (d : BitVec 64) (a : Nat), a = d.toNat →
      (s.accessCheck (.core t) (bportA R.BUF_POOL_FREE) 8 false true = .ok →
        (∀ r, s.poolCheck a = .error r → exec (.poolFree (.core t) d) s = .next (s.badFree a r 0 t.val).blkRetry) ∧
        (∀ p, s.poolCheck a = .ok p →
          (s.poolShare a = none → exec (.poolFree (.core t) d) s = .next (s.poolReturn p a).blkRetry) ∧
          (∀ x, s.poolShare a = some x →
            (x.kind ≠ 0 ∨ x.id ≠ t.val → exec (.poolFree (.core t) d) s = .next (s.badFree a 3 0 t.val).blkRetry) ∧
            (x.kind = 0 → x.id = t.val →
              (x.freed = true → exec (.poolFree (.core t) d) s = .next (s.badFree a 4 0 t.val).blkRetry) ∧
              (x.freed = false → 0 < x.pending → exec (.poolFree (.core t) d) s =
                .next (s.setPoolShare a (some { x with freed := true })).blkRetry) ∧
              (x.freed = false → x.pending = 0 → exec (.poolFree (.core t) d) s =
                .next ((s.setPoolShare a none).poolReturn p a).blkRetry))))) ∧
      (s.accessCheck (.core t) (bportA R.BUF_POOL_RELEASE) 8 false true = .ok →
        (∀ r, s.poolCheck a = .error r → exec (.poolRelease (.core t) d) s = .next (s.badFree a r 0 t.val).blkRetry) ∧
        (∀ p, s.poolCheck a = .ok p →
          (s.poolShare a = none → exec (.poolRelease (.core t) d) s = .next (s.badFree a 5 0 t.val).blkRetry) ∧
          (∀ x, s.poolShare a = some x →
            (x.kind = 0 → x.id = t.val → exec (.poolRelease (.core t) d) s = .next (s.badFree a 3 0 t.val).blkRetry) ∧
            (x.kind ≠ 0 ∨ x.id ≠ t.val →
              (x.pending = 0 → exec (.poolRelease (.core t) d) s = .next (s.badFree a 6 0 t.val).blkRetry) ∧
              (x.pending = 1 → x.freed = true → exec (.poolRelease (.core t) d) s =
                .next ((s.setPoolShare a none).poolReturn p a).blkRetry) ∧
              (1 < x.pending ∨ (x.pending = 1 ∧ x.freed = false) → exec (.poolRelease (.core t) d) s =
                .next (s.setPoolShare a (some { x with pending := x.pending - 1 })).blkRetry))))) ∧
      (s.accessCheck (.core t) (bportA R.BUF_POOL_SHARE) 8 false true = .ok →
        (s.poolShare (a / 256 * 256) ≠ none → exec (.poolShare (.core t) d) s = .next (s.raise 0x13 3 4)) ∧
        (s.poolShare (a / 256 * 256) = none → 65536 ≤ s.buf.poolShares.length →
          exec (.poolShare (.core t) d) s = .next (s.raise 0x13 3 3)) ∧
        (s.poolShare (a / 256 * 256) = none → s.buf.poolShares.length < 65536 → exec (.poolShare (.core t) d) s =
          .next (s.setPoolShare (a / 256 * 256) (some ⟨0, t.val, a % 256, false⟩))))) ∧
    (∀ (m : Master) (v : Word) (u : State) (w : Nat), s.mayWrite m poolWinA → w = natSetField (withCmd v 8) 4 8 0x70 →
      u = s.wr poolWinA (BitVec.ofNat 32 (natField w 4 11 * 16)) →
      (s.rbit (poolWinA + 12) 0 = true → exec (.poolInit m v) s = .next (s.setFld (poolWinA + 12) 1 3 5)) ∧
      (s.rbit (poolWinA + 12) 0 = false → s.glideQueues = true → exec (.poolInit m v) s = .next (s.winQueue poolWinA w)) ∧
      (s.rbit (poolWinA + 12) 0 = false → s.glideQueues = false →
        (256 ≤ u.winIndex poolWinA → exec (.poolInit m v) s = .next (u.winEnd poolWinA 1 32)) ∧
        (u.winIndex poolWinA < 256 → exec (.poolInit m v) s = .next ((u.poolInit (u.winIndex poolWinA)).winEnd poolWinA 0 32)))) ∧
    (∀ m : Master,
      (s.mayRead m (poolA R.BUF_POOL_LOG) → exec (.poolLogReadHead m) s =
        .next (State.emit { s with buf := { s.buf with logLatch := headPut s.buf.logLatch (some m) s.buf.log.head? } }
          (.reply m (match s.buf.log.head? with | some e => badFreeWord e 0 | none => 0)))) ∧
      (s.mayRead m (poolA (R.BUF_POOL_LOG + 12)) →
        (s.buf.log = [] → exec (.poolLogReadPop m) s = .next (State.emit
          { s with buf := { s.buf with logLatch := headPut s.buf.logLatch (some m) none } } (.reply m 0))) ∧
        (∀ e r, s.buf.log = e :: r → exec (.poolLogReadPop m) s = .next (State.emit { s with buf := { s.buf with
          logLatch := headPut s.buf.logLatch (some m) none
          log := r } } (.reply m (badFreeWord ((headOf s.buf.logLatch (some m)).getD e) 3)))))) ∧
    (∀ (p : Fin 256) (up : Prop), (up ↔ pdEn (s.poolDesc p) = true ∧ s.poolRingUp p = true ∧ s.rgnWorks 0x13 = true) →
      (up → (s.pool p).cache.length ≤ 256 → exec (.poolCacheRefill p) s = .next (s.poolRefill p)) ∧
      (¬ up ∨ 256 < (s.pool p).cache.length → exec (.poolCacheRefill p) s = .next s) ∧
      (up → 768 ≤ (s.pool p).cache.length → exec (.poolCacheDrain p) s = .next (s.poolDrainN p 256)) ∧
      (¬ up ∨ (s.pool p).cache.length < 768 → exec (.poolCacheDrain p) s = .next s))

/-- CELL_FREE of a cell beyond the last or already free is counted, raised and logged, of one in use returns it; with block CELL absent it
does nothing. A release of a shared payload by a copy counts PENDING down, one too many or by the owner is logged; the owner's free is recorded once, a
second one or another's is logged; with both the cells return; a record that is not in use does nothing. SPILL_INIT bit 0 and its completion fill the
ring. Page bursts move at 256 and 768 where the ring serves. A spill that is late, or has no page, drops its packet, counted; one whose pages are in an
absent stack drops it as absent; one that waits for pages, or for its block, stays; else it writes its record to its queue's stream and
gives its cells back. A read-back takes the first record, within its limit, with cells for it and its pages there, and trims the stream;
one that meets an uncorrectable line is dropped and counted. -/
def Obligations.CellsSharesAndSpillPages : Prop :=
  ∀ s : State,
    (∀ (ptr : Word) (p : Nat), p = ptr.toNat % 2 ^ 20 →
      (s.meets 0x13 0 = true → exec (.cellFree ptr) s = .next s) ∧
      (s.meets 0x13 0 = false →
        (655360 ≤ p → exec (.cellFree ptr) s = .next (((s.bump (cellA R.BUF_CELL_BADFREE)).raise 0x13 0 1).badFree p 1 3 0)) ∧
        (p < 655360 → s.cellUsed p = true → exec (.cellFree ptr) s = .next (s.setCell p false)) ∧
        (p < 655360 → s.cellUsed p = false →
          exec (.cellFree ptr) s = .next (((s.bump (cellA R.BUF_CELL_BADFREE)).raise 0x13 0 1).badFree p 4 3 0)))) ∧
    (∀ (r : Fin 131072) (x : ShareRec), x = s.shareRec r →
      (x.cells = [] → ∀ b, exec (.sharedRelease r b) s = .next s ∧ exec (.sharedFree r b) s = .next s) ∧
      (x.cells ≠ [] →
        exec (.sharedRelease r true) s = .next (s.badFree (shareHead x) 3 3 0) ∧
        (x.pending = 0 → exec (.sharedRelease r false) s = .next (s.badFree (shareHead x) 6 3 0)) ∧
        (x.pending = 1 → x.freed = true → exec (.sharedRelease r false) s =
          .next (((s.setShareRec r { x with pending := 0 }).freeCells x.cells).setShareRec r noShare)) ∧
        (1 < x.pending ∨ (x.pending = 1 ∧ x.freed = false) →
          exec (.sharedRelease r false) s = .next (s.setShareRec r { x with pending := x.pending - 1 })) ∧
        exec (.sharedFree r false) s = .next (s.badFree (shareHead x) 3 3 0) ∧
        (x.freed = true → exec (.sharedFree r true) s = .next (s.badFree (shareHead x) 4 3 0)) ∧
        (x.freed = false → x.pending = 0 → exec (.sharedFree r true) s =
          .next (((s.setShareRec r { x with freed := true }).freeCells x.cells).setShareRec r noShare)) ∧
        (x.freed = false → 0 < x.pending → exec (.sharedFree r true) s = .next (s.setShareRec r { x with freed := true })))) ∧
    (∀ (m : Master) (v : Word), s.mayWrite m (spillA R.BUF_SPILL_INIT) →
      (natBit v.toNat 0 = true → exec (.spillInit m v) s = .next { s with buf := { s.buf with initBusy := true } }) ∧
      (natBit v.toNat 0 = false → exec (.spillInit m v) s = .next s)) ∧
    (s.buf.initBusy = true → exec .initDone s = .next (s.fillRing.raise 0x13 1 2)) ∧
    (s.buf.initBusy = false → exec .initDone s = .next s) ∧
    (∀ up : Prop, (up ↔ s.spillUp = true ∧ s.rgnWorks 0x13 = true) →
      (up → s.buf.pageCache.length ≤ 256 → exec .spillCacheRefill s = .next s.pageRefill) ∧
      (¬ up ∨ 256 < s.buf.pageCache.length → exec .spillCacheRefill s = .next s) ∧
      (up → 768 ≤ s.buf.pageCache.length → exec .spillCacheDrain s = .next (s.pageDrain 256)) ∧
      (¬ up ∨ s.buf.pageCache.length < 768 → exec .spillCacheDrain s = .next s)) ∧
    (∀ (q : QueueRef) (key : Nat) (x : QSt), key = queueKey q → x = s.queue key →
      (x.toSpill = [] ∨ s.rgnWorks 0x13 = false ∨ s.blkHeld 0x13 1 = true → ∀ late, exec (.spillWrite q late) s = .next s) ∧
      (s.rgnWorks 0x13 = true → s.blkHeld 0x13 1 = false → ∀ e r t wait, x.toSpill = e :: r →
        t = s.setQueueFor key { x with toSpill := r } e.pkt →
        wait = s.pagesWait ((x.wpos + e.recordBytes + 4095) / 4096 - x.pages.length) →
        exec (.spillWrite q true) s = .next (t.spillDrop e 1) ∧
        (wait = true → exec (.spillWrite q false) s = .next s) ∧
        (wait = false → ∀ got, got = growPages (e.recordBytes / 4096 + 2) (x.wpos + e.recordBytes) x.pages s →
          (got = none → exec (.spillWrite q false) s = .next (t.spillDrop e 0)) ∧
          (∀ pages u, got = some (pages, u) →
            ((recordPages pages x.wpos e.recordBytes).any (fun p => u.hbmDown (u.spillPage p)) = true →
              exec (.spillWrite q false) s = .next (((t.absentDrop 0x13).payloadDone e).dropPkt e.pkt)) ∧
            ((recordPages pages x.wpos e.recordBytes).any (fun p => u.hbmDown (u.spillPage p)) = false → ∀ v f,
              v = (u.streamWrite pages x.wpos (s.recordOf e)).bump64 (spillA R.BUF_SPILL_WR_BYTES) e.recordBytes →
              f = (if e.share.isSome then e else { e with cells := [] }) →
              exec (.spillWrite q false) s = .next ((if e.share.isSome then v else v.freeCells e.cells).setQueueFor key { x with
                toSpill := r
                stream := x.stream ++ [f]
                pages := pages
                wpos := x.wpos + e.recordBytes } e.pkt))))) ∧
      (x.stream = [] → exec (.spillReadback q) s = .next s) ∧
      (∀ e r (ready : Prop) bad, x.stream = e :: r →
        (ready ↔ s.rgnWorks 0x13 = true ∧ s.blkHeld 0x13 1 = false ∧
          natSum ((x.items.filter (·.readBack)).map (fun e => e.pkt.bytes.length)) + e.pkt.bytes.length ≤
            s.fld (spillA R.BUF_SPILL_AHEAD) 0 7 * 1024 ∧
          (recordPages x.pages x.rpos e.recordBytes).any (fun p => s.hbmDown (s.spillPage p)) = false) →
        bad = (s.anyPoison && (s.streamPieces x.pages x.rpos e.recordBytes).any (fun p => s.hbmMeets p.1 p.2)) →
        (¬ ready → exec (.spillReadback q) s = .next s) ∧
        (ready → bad = true → ∀ t w : State, t = (s.streamPieces x.pages x.rpos e.recordBytes).foldl (fun (s : State) (p : Nat × Nat) => s.hbmUeRead p.1 p.2) s →
          w = State.setQueueFor ((match (s.streamPieces x.pages x.rpos e.recordBytes).find? (fun (p : Nat × Nat) => s.hbmMeets p.1 p.2) with
            | some p => t.ueDrop p.1
            | none => t).bump64 (spillA R.BUF_SPILL_RD_BYTES) e.recordBytes) key { x with
              stream := r
              rpos := x.rpos + e.recordBytes } e.pkt →
          exec (.spillReadback q) s = .next (((if e.share.isSome then w.payloadDone e else w).dropPkt e.pkt).streamTrim key)) ∧
        (ready → bad = false → ∀ got, got = (if e.share.isSome then some (e.cells, s) else s.allocCells 0 e.cellCount) →
          (got = none → exec (.spillReadback q) s = .next s) ∧
          (∀ cells t, got = some (cells, t) →
            exec (.spillReadback q) s = .next ((((t.bump64 (spillA R.BUF_SPILL_RD_BYTES) e.recordBytes).setQueueFor key { x with
              items := x.items ++ [{ e with
                cells := cells
                readBack := true }]
              stream := r
              rpos := x.rpos + e.recordBytes } e.pkt).sharedLow (isEq key)).streamTrim key)))))

/-- A packet on its way to the buffer that waits for nothing is admitted to the queue of its destination, joins the replication FIFO, is
dropped without a destination, at an unassigned port counted and raised, and counted where the buffer's memory is down; one behind an
earlier frame of its port, or for the IPsec unit, stays. A multicast packet of a group that is off is dropped, of another device counted, of a
group of one copied once, without a free share record counted and raised, else copied entry by entry. A port's turn sends the head of the
chosen queue, or drops one whose bad tail came before its head was taken; egress selects the head of the chosen path, charges its nodes and counts it,
a bad one that is sent too, or drops it likewise; where there is nothing to send, or what it needs is absent, neither does anything. A queue that
released nothing for its limit loses its packets; an epoch refills its level's nodes; pause goes out again after half its quanta. -/
def Obligations.QueuesAdmitReplicateAndSend : Prop :=
  ∀ s : State,
    (∀ (i : Fin 16) (ct : Bool),
      ((s.pipe i).toBuf = [] → exec (.packetAdmit i ct) s = .next s) ∧
      (∀ k r (t : State), (s.pipe i).toBuf = k :: r → t = s.setPipe i { s.pipe i with toBuf := r } →
        (s.behindPair i k = true ∨ s.espTakes k = true → exec (.packetAdmit i ct) s = .next s) ∧
        (s.behindPair i k = false → s.espTakes k = false →
          ((t.rgnDown 0x0D || t.rgnDown 0x10 || t.meets 0x13 0) = true →
            exec (.packetAdmit i ct) s = .next ((t.absentDrop (pipeRegion i)).dropPkt k)) ∧
          ((t.rgnDown 0x0D || t.rgnDown 0x10 || t.meets 0x13 0) = false →
            (∀ g, k.dest = .multicast g → exec (.packetAdmit i ct) s = .next (t.joinRepl k g false [])) ∧
            ((∀ g, k.dest ≠ .multicast g) →
              (∀ p w, t.destOf k = some (p, w) → exec (.packetAdmit i ct) s =
                .next (if 70 ≤ p % 128 then t.nhInvalid.dropPkt k else t.admitUnicast k p w ct [])) ∧
              (t.destOf k = none → exec (.packetAdmit i ct) s = .next (t.dropPkt k))))))) ∧
    (s.buf.repl = [] → exec .replExpand s = .next s) ∧
    (∀ o rest g x (t : State), s.buf.repl = o :: rest → o.pkt.dest = .multicast g → x = s.tabN 0x13 2 0x50 g →
      t = { s with buf := { s.buf with repl := rest } } →
      (natBit x 0 = false → exec .replExpand s =
        .next (((if o.remote then t.bump (replA R.BUF_REPL_NOSHARE) else t).freeCells o.cells).dropPkt o.pkt)) ∧
      (natBit x 0 = true →
        (natField x 19 11 = 1 → exec .replExpand s = .next ((t.makeCopy o g (natField x 1 18) none true).dropPkt o.pkt)) ∧
        (natField x 19 11 ≠ 1 →
          (t.freeShare 131072 0 = none → exec .replExpand s =
            .next ((((t.bump (replA R.BUF_REPL_NOSHARE)).raise 0x13 2 1).freeCells o.cells).dropPkt o.pkt)) ∧
          (∀ r, t.freeShare 131072 0 = some r → exec .replExpand s = .next (((List.range (natField x 19 11)).foldl
            (fun u j => u.makeCopy o g (natField x 1 18 + j) (some r) (j + 1 == natField x 19 11))
            (t.setShareRec r ⟨natField x 19 11 - 1, false, o.cells⟩)).dropPkt o.pkt))))) ∧
    (∀ late : Bool,
      ((s.meets 0x11 0 || s.rgnDown 0x14 || s.meets 0x13 0 || s.rgnDown 0x10) = true ∨ s.voqPort = none → exec (.voqRelease late) s = .next s) ∧
      ((s.meets 0x11 0 || s.rgnDown 0x14 || s.meets 0x13 0 || s.rgnDown 0x10) = false → ∀ i high, s.voqPort = some (i, high) →
        (s.voqClass i = none → exec (.voqRelease late) s = .next s) ∧
        (∀ c t, s.voqClass i = some (c, t) →
          ((t.queue (voqKey i c)).items = [] → exec (.voqRelease late) s = .next s) ∧
          (∀ e rest u, (t.queue (voqKey i c)).items = e :: rest → u = t.voqTurn i high →
            (e.pkt.bad = false ∨ late = true ∨ e.released ≠ 0 → exec (.voqRelease late) s = .next (u.voqSend i c e rest)) ∧
            (e.pkt.bad = true → late = false → e.released = 0 →
              exec (.voqRelease late) s = .next ((u.dequeue (voqKey i c) e rest).badDropped e.pkt)))))) ∧
    (∀ (p : Fin 70) (late : Bool) (idle : Prop), (idle ↔ (s.meets 0x12 1 || s.meets 0x12 0 || s.meets 0x13 0 || s.rgnDown 0x10 ||
        s.rgnDown 0x0D || s.portStopped p) = true ∨ s.eligible p 4 0 p = false ∨ choosePath p 4 0 p s = none) →
      (idle → exec (.egressSelect p late) s = .next s) ∧
      (∀ path q t, ¬ idle → choosePath p 4 0 p s = some (path, q, t) →
        ((t.queue (eqKey q)).items = [] → exec (.egressSelect p late) s = .next s) ∧
        (∀ e rest, (t.queue (eqKey q)).items = e :: rest →
          (e.pkt.bad = true → late = false →
            exec (.egressSelect p late) s = .next ((s.dequeue (eqKey q) e rest).badDropped e.pkt)) ∧
          (e.pkt.bad = false ∨ late = true → ∀ c u y w, c = t.chargeBytes p e.pkt.bytes.length →
            u = path.foldl (fun s n => s.chargeNode n.1 n.2.1 c (some n.2.2)) (t.chargeNode 0 p c none) →
            y = u.ecnTest (eqKey q) (t.queue (eqKey q)).length e.pkt (eqA R.QUE1_CE_MARKED) →
            w = (((y.2.dequeue (eqKey q) e rest).qCount (eqKey q) 0 1).qCount (eqKey q) 1 e.pkt.bytes.length).bump64
              (schA R.QUE1_SELECTS) →
            exec (.egressSelect p late) s = .next ((if e.pkt.bad then (w.bump (cellA (if e.pkt.srcDev = 0 then R.BUF_BAD_SENT
              else R.BUF_BAD_RX_END))).raise 0x13 0 2 else w).toEgress p y.1))))) ∧
    (∀ (q : Fin 524288) (x : QSt) (due : Prop), x = s.queue q → (due ↔ x.holds = true ∧ s.rgnWorks 0x11 = true ∧
        x.tick + s.fld (voqA R.QUE0_VOQ_STALL) 0 20 * ticksPerUs ≤ s.time.ticks) →
      (due → exec (.stallFlush q) s = .next (State.raise (State.discardQueue
        ((x.items ++ x.toSpill ++ x.stream).foldl (fun s e => s.admitDrop q 5 e.pkt) s) q) 0x11 0 0)) ∧
      (¬ due → exec (.stallFlush q) s = .next s)) ∧
    (∀ l : Fin 5,
      (s.time.wtValid = true → s.rgnWorks 0x12 = true → exec (.shaperEpoch l) s =
        .next ((s.tabListed 0x12 1 (0x90 + l.val)).foldl (fun s p => s.setNode l p.1 (s.visited l p.1)) s)) ∧
      (s.time.wtValid = false ∨ s.rgnWorks 0x12 = false → exec (.shaperEpoch l) s = .next s)) ∧
    (∀ (p : Fin 64) (c : Fin 8) last (due : Prop), last = spGet (fun _ => 0) s.que.pfcOn (p.val * 8 + c.val) →
      (due ↔ last ≠ 0 ∧ pfcXon (s.pfcEntry p c) ≤ s.pfcCount p c ∧
        last - 1 + s.pauseTicks p (s.txQuanta p) / 2 ≤ s.time.ticks) →
      (¬ due ∨ s.fcBit p c = none → exec (.pfcRefresh p c) s = .next s) ∧
      (∀ b, due → s.fcBit p c = some b → exec (.pfcRefresh p c) s =
        .next ((s.setPfcOn (p.val * 8 + c.val) (s.time.ticks + 1)).fcAsk p b (s.txQuanta p))))

/-- ARM is refused, with its cause and nothing else, without WT_VALID, while a swap is armed, for an instant that is no start of 8 slots or
not later than the working time, and for a bank that breaks the rules; otherwise the swap stands at its instant. DISARM cancels. On the
tick of the instant the other bank becomes active in both regions with its phases and cycle length, the count of swaps moves on and the
cause is raised; before it, or with no swap armed, nothing happens. SLOT_FILL fills the next slot, once, while working time is valid and
the fabric runs; else it does nothing. -/
def Obligations.PisteSwapsAndSlotFilling : Prop :=
  ∀ s : State,
    (∀ (m : Master) (t : Nat), s.mayWrite m (schF 0 R.FAB_PISTE_CTRL) → t = s.instant (schF 0 R.FAB_PISTE_AT_NS) →
      (s.time.wtValid = false ∨ s.fab.swapAt ≠ none ∨ t % (8 * lsbSlot) ≠ 0 ∨ t ≤ s.wt ∨ s.bankOk (1 - s.activeBank) = false →
        exec (.pisteArm m) s = .next (s.raise 0x14 0 3)) ∧
      (s.time.wtValid = true → s.fab.swapAt = none → t % (8 * lsbSlot) = 0 → s.wt < t → s.bankOk (1 - s.activeBank) = true →
        exec (.pisteArm m) s = .next (State.pisteStat { s with fab := { s.fab with swapAt := some t } } 1 1 1)) ∧
      exec (.pisteDisarm m) s = .next (State.pisteStat { s with fab := { s.fab with swapAt := none } } 1 1 0)) ∧
    (∀ t, s.fab.swapAt = some t →
      (s.instantDue t = false → exec .pisteSwap s = .next s) ∧
      (∀ u v : State, s.instantDue t = true → u = State.pisteStat { s with fab := { s.fab with swapAt := none } } 1 1 0 →
        v = u.activate (1 - u.activeBank) →
        exec .pisteSwap s = .next ((v.pisteStat 8 8 (v.fld (schF 0 R.FAB_PISTE_STAT) 8 8 + 1)).raise 0x14 0 2))) ∧
    (s.fab.swapAt = none → exec .pisteSwap s = .next s) ∧
    (s.time.wtValid = true → s.fabricRuns = true → s.fab.filled ≤ s.time.nextSlot → ∀ t, t = s.fillSlot s.time.nextSlot →
      exec .slotFill s = .next { t with fab := { t.fab with filled := s.time.nextSlot + 1 } }) ∧
    (s.time.wtValid = false ∨ s.fabricRuns = false ∨ s.time.nextSlot < s.fab.filled → exec .slotFill s = .next s)

/-- A slot does nothing where its region does not work or its blocks are held; on a lane that is off or held it arrives dark (`y`). Else its signal
bits follow and `h` is its decoded header, `p` its position: where it is expected, else by its header. An unused or absent position takes no more.
A wrong sender is counted and raised; an aligned lane-slot takes the slot, a candidate is confirmed by it, any other searches; its
status follows. The oldest cell is counted: a bad HCRC as error, an idle cell not at all, one from this device, beyond the system, or a
relayed one for another device as misrouted; others go to their relay queue or, here, to the resequencer, which holds a cell while EXP is
unset, delivers the expected one and what it held after it, counts late ones and duplicates, and without a free cell first gives up the
earliest gap; a block that is down takes none. A relayed cell ages out after twice the cycle; a gap timer gives up at its deadline; an idle
source loses EXP. -/
def Obligations.SlotsAndCellsAreTaken : Prop :=
  ∀ s : State,
    (∀ (x y : RxSlot) (l f p e : Nat) (t u : State) (h : Option SlotHeader) (off mis base : Bool) (q : LaneSlotSt),
      l = x.lane.val → f = l / 72 → off = (!s.rgnWorks (0x14 + f) || s.blkHeld (0x14 + f) 0 || s.blkHeld (0x14 + f) 3) →
      y = (if s.laneEn l = true ∧ s.flaneHeld l = false then x else RxSlot.dark x) →
      t = (s.setRbit (lnkStatA l) 17 y.signal).setRbit (lnkStatA l) 18 y.settled →
      h = (if y.signal && y.cw0 then slotHeaderOf (y.head.drop 16) else none) → q = t.lslot l x.pos.val →
      p = (if q.aligned = true ∨ q.cand ≠ none then x.pos.val else (h.elim 0 (·.slot)) % t.cycleLen) →
      e = t.piste t.activeBank p l → mis = (match h with | some g => g.sender != pisPeer e | none => false) →
      base = (h.isSome && !mis && y.head.take 16 == markerBytes) →
      u = (if mis then (t.bump (schF f R.FAB_MISCONNECT) y.cells.length).raise (0x14 + f) 0 4 else t) →
      (off = true → exec (.slotRx x) s = .next s) ∧
      (off = false → pisUsed e = false ∨ t.cycleLen ≤ p → exec (.slotRx x) s = .next t) ∧
      (off = false → pisUsed e = true → p < t.cycleLen →
        (q.aligned = true → exec (.slotRx x) s = .next ((u.alignedSlot y h base).laneSlotSync l p)) ∧
        (∀ n last, q.aligned = false → q.cand = some (n, last) →
          exec (.slotRx x) s = .next ((u.confirmSlot y (if base then h else none) n last).laneSlotSync l p)) ∧
        (∀ g, q.aligned = false → q.cand = none → h = some g → base = true → (u.lslot l p).aligned = false → (u.lslot l p).cand = none →
          exec (.slotRx x) s = .next ((u.searchSlot y g p).laneSlotSync l p)) ∧
        (q.aligned = false → q.cand = none → h = none ∨ base = false ∨ (u.lslot l p).aligned = true ∨ (u.lslot l p).cand ≠ none →
          exec (.slotRx x) s = .next (u.laneSlotSync l p)))) ∧
    (s.fab.rx = [] → exec .cellRx s = .next s) ∧
    (∀ l slot b r (t u : State) (lost : State), s.fab.rx = (l, slot, b) :: r → t = { s with fab := { s.fab with rx := r } } →
      (cellOf b = none → exec .cellRx s = .next (t.bump (schF (l / 72) R.FAB_HCRC_ERR))) ∧
      (∀ c, cellOf b = some c →
        (c.idle = true → exec .cellRx s = .next t) ∧
        (c.idle = false → u = t.bump64 (schF (l / 72) R.FAB_CELLS_RX) →
          lost = (u.bump (schF (l / 72) R.FAB_MISROUTE)).raise (0x14 + l / 72) 0 5 →
          (c.src = u.deviceId ∨ u.systemSize ≤ c.src ∨ u.systemSize ≤ c.dst → exec .cellRx s = .next lost) ∧
          (c.src ≠ u.deviceId → c.src < u.systemSize → c.dst < u.systemSize →
            (c.dst ≠ u.deviceId → c.hop = true → exec .cellRx s = .next lost) ∧
            (c.dst ≠ u.deviceId → c.hop = false → exec .cellRx s =
              .next (if u.rgnDown 0x14 = true ∨ u.blkHeld 0x14 1 = true then u else u.relayCell slot c)) ∧
            (c.dst = u.deviceId → u.rgnDown 0x15 = true ∨ u.blkHeld 0x15 2 = true → exec .cellRx s = .next u) ∧
            (c.dst = u.deviceId → u.rgnDown 0x15 = false → u.blkHeld 0x15 2 = false →
              ∀ v x, v = u.setSource c.src { u.source c.src with lastSlot := slot } → x = v.source c.src →
              (x.exp = none → exec .cellRx s = .next (v.holdCell c.src slot c)) ∧
              (∀ e, x.exp = some e →
                (2 ^ 19 ≤ seqDist e c.seq → exec .cellRx s = .next (v.bump (rsqA R.FAB_RSQ_LATE))) ∧
                (seqDist e c.seq = 0 → exec .cellRx s = .next (deliverHeld c.src (x.held.length + 1)
                  ((v.setSource c.src { x with exp := some ((e + 1) % 2 ^ 20) }).deliverCell c))) ∧
                (0 < seqDist e c.seq → seqDist e c.seq < 2 ^ 19 →
                  (x.held.any (fun h => h.cell.seq == c.seq) = true → exec .cellRx s = .next (v.bump (rsqA R.FAB_RSQ_DUP))) ∧
                  (x.held.any (fun h => h.cell.seq == c.seq) = false →
                    (v.freeCell 2 0 ≠ none → exec .cellRx s = .next (v.holdCell c.src slot c)) ∧
                    (∀ g, v.freeCell 2 0 = none → g = (v.bump (rsqA R.FAB_RSQ_FORCED)).raise 0x15 2 1 → exec .cellRx s =
                      .next (State.holdCell (match g.earliestTimer with
                        | some m => g.gapExpire m
                        | none => g) c.src slot c)))))))))) ∧
    (∀ d : Fin 1024, s.relayQ d = [] → exec (.relayAged d) s = .next s) ∧
    (∀ (d : Fin 1024) h r, s.relayQ d = h :: r →
      (h.slot + 2 * s.cycleLen < s.time.nextSlot → exec (.relayAged d) s =
        .next ((((s.setRelayQ d r).freeCells [h.ptr]).bump (rlyA (R.FAB_RLY_DROP + 4))).raise 0x14 1 1)) ∧
      (s.time.nextSlot ≤ h.slot + 2 * s.cycleLen → exec (.relayAged d) s = .next s)) ∧
    (∀ n : Fin 1024, (s.source n).timer = none → exec (.gapTimerExpiry n) s = .next s) ∧
    (∀ (n : Fin 1024) t, (s.source n).timer = some t →
      (s.instantDue t = true → exec (.gapTimerExpiry n) s = .next (s.gapExpire n)) ∧
      (s.instantDue t = false → exec (.gapTimerExpiry n) s = .next s)) ∧
    (∀ n : Fin 1024,
      ((s.source n).exp ≠ none → (s.source n).held = [] → (s.source n).lastSlot + 64 * s.cycleLen < s.time.nextSlot →
        exec (.expUnset n) s = .next (s.setSource n { s.source n with exp := none })) ∧
      ((s.source n).exp = none ∨ (s.source n).held ≠ [] ∨ s.time.nextSlot ≤ (s.source n).lastSlot + 64 * s.cycleLen →
        exec (.expUnset n) s = .next s))

/-- On the pins a port that is off, or whose block is held, takes and sends nothing; an aborted or bad frame is counted bad, a good one counts and joins the FIFO of 8 or is
counted dropped where it is full. A bridged port takes the first frame of its channel bytes the same way, sends the oldest frame from the
pins 1 µs after its end while the channel is free and carries something, and every port that is on sends its oldest frame on the pins. By
a master whose write passes R91: TXLEN queues a frame of 1 to 1,024 bytes in PROC mode with room, else raises its cause; RXPOP removes the
head in PROC mode; and a CTRL write that breaks no rule discards the FIFOs, another raises its cause. -/
def Obligations.OvcPortsCarryFrames : Prop :=
  ∀ (s : State) (n : Fin 4) (x : OvcSt) (on : Prop), x = s.ovcPort n → (on ↔ s.ovcMode n ≠ 0 ∧ s.blkHeld 0 9 = false) →
    (∀ (b : List Byte) (aborted : Bool),
      (¬ on → exec (.ovcPinFrameRx n b aborted) s = .next s) ∧
      (on → exec (.ovcPinFrameRx n b true) s = .next (s.ovcBad n)) ∧
      (on → goodHdlc b = none → exec (.ovcPinFrameRx n b aborted) s = .next (s.ovcBad n)) ∧
      (∀ f t y, on → goodHdlc b = some f → t = s.bump (ovcCntA n 1) → y = t.ovcPort n →
        (8 ≤ y.fromPins.length → exec (.ovcPinFrameRx n b false) s = .next (t.ovcDrop n)) ∧
        (y.fromPins.length < 8 → exec (.ovcPinFrameRx n b false) s =
          .next ((t.setOvc n { y with fromPins := y.fromPins ++ [(t.wt, f)] }).raiseIf (t.ovcMode n == 1) 0 9 n)))) ∧
    (s.ovcMode n ≠ 2 ∨ s.blkHeld 0 9 = true ∨ x.chanIn.contains 0x7E = false → exec (.ovcChannelFrameRx n) s = .next s) ∧
    (∀ raw t, s.ovcMode n = 2 → s.blkHeld 0 9 = false → x.chanIn.contains 0x7E = true → raw = x.chanIn.takeWhile (fun b => b != 0x7E) →
      t = s.setOvc n { x with chanIn := (x.chanIn.drop raw.length).dropWhile (fun b => b == 0x7E) } →
      ((unstuff raw).bind goodHdlc = none → exec (.ovcChannelFrameRx n) s = .next (t.ovcBad n)) ∧
      (∀ f, (unstuff raw).bind goodHdlc = some f →
        (8 ≤ (t.ovcPort n).toPins.length → exec (.ovcChannelFrameRx n) s = .next (t.ovcDrop n)) ∧
        ((t.ovcPort n).toPins.length < 8 → exec (.ovcChannelFrameRx n) s =
          .next (t.setOvc n { t.ovcPort n with toPins := (t.ovcPort n).toPins ++ [f] })))) ∧
    (x.toPins = [] ∨ ¬ on → exec (.ovcPinFrameTx n) s = .next s) ∧
    (∀ f r, x.toPins = f :: r → on → exec (.ovcPinFrameTx n) s =
      .next (State.emit ((s.setOvc n { x with toPins := r }).bump (ovcCntA n 0)) (.ovcTx n f))) ∧
    (x.fromPins = [] → exec (.ovcChannelFrameTx n) s = .next s) ∧
    (∀ w f r (due : Prop), x.fromPins = (w, f) :: r →
      (due ↔ s.ovcMode n = 2 ∧ s.blkHeld 0 9 = false ∧ x.sending = [] ∧ s.time.wtValid = true ∧
        s.fld (ovcCtrlA n) 12 3 < s.cycleLen ∧ w + lsbUs ≤ s.wt) →
      (due → exec (.ovcChannelFrameTx n) s = .next (s.setOvc n { x with
        fromPins := r
        sending := (0x7E : Byte) :: stuff (withFcs f) ++ [0x7E] })) ∧
      (¬ due → exec (.ovcChannelFrameTx n) s = .next s)) ∧
    (∀ (m : Master) (v : Word),
      (∀ len, len = v.toNat % 2048 → s.mayWrite m (A.ovc (R.SYS_OVC_TXLEN + 16 * n)) →
        (s.ovcMode n ≠ 1 ∨ 8 ≤ x.toPins.length ∨ len = 0 ∨ 1024 < len → exec (.ovcTxQueue m n v) s = .next (s.raise 0 9 (12 + n))) ∧
        (s.ovcMode n = 1 → x.toPins.length < 8 → 0 < len → len ≤ 1024 → exec (.ovcTxQueue m n v) s =
          .next (s.setOvc n { x with toPins := x.toPins ++
            [(List.range len).map (fun j => BitVec.ofNat 8 (s.arrayByte (A.ovc (R.SYS_OVC_TXBUF + 1024 * n)) j))] }))) ∧
      (s.mayWrite m (A.ovc (R.SYS_OVC_RXPOP + 4 * n)) →
        (natBit v.toNat 0 = true → s.ovcMode n = 1 → exec (.ovcRxPop m n v) s =
          .next (s.setOvc n { x with fromPins := x.fromPins.drop 1 })) ∧
        (natBit v.toNat 0 = false ∨ s.ovcMode n ≠ 1 → exec (.ovcRxPop m n v) s = .next s)) ∧
      (s.mayWrite m (ovcCtrlA n) →
        (s.ovcCtrlOk n v.toNat = true → exec (.ovcCtrlWrite m n v) s = .next (State.setOvc
          ((s.wr (ovcCtrlA n) (BitVec.ofNat 32 (v.toNat &&& 0x7FF3))).bump (ovcCntA n 2) (x.toPins.length + x.fromPins.length))
          n OvcSt.reset)) ∧
        (s.ovcCtrlOk n v.toNat = false → exec (.ovcCtrlWrite m n v) s = .next (s.raise 0 9 16))))

/-- By a master whose write of the window of block KEY passes R91. A busy window ends with ERR 5. Else
`u` is the state with the window's other fields stored and `fin r` the end of the command with ERR and entry size: a TABLE other than 0xB0
ends with ERR 2, an INDEX from 131,072 on with ERR 1. Otherwise READ gives the attribute word and no key, ZEROISE clears. LOAD_PLAIN is
refused without a device key, from a master that is no core thread, with attributes that are not VALID or name no use, and without
entropy; else the slot takes key and attributes and the window's words are zeroed. LOAD_WRAPPED is refused without a device key and where
the blob does not authenticate, else the slot takes what the blob holds. EXPORT is refused for an empty slot, one not exportable, another
master, and missing entropy or device key, in that order, and else gives the blob under a nonce the entropy source draws. RNG_FAIL clears
RNG_OK and raises its cause, RNG_RECOVER sets it; with the region not running neither does anything. -/
def Obligations.KeyCommandsActOrAreRefused : Prop :=
  ∀ s : State,
    (∀ (u : State) (m : Master) (v : Word) (i a e : Nat) (fin : Nat × State → State) (all : List (Nat × Instr)), s.mayWrite m keyWinA →
      u = s.wr keyWinA (BitVec.ofNat 32 (natField v.toNat 4 11 * 16)) → i = u.winIndex keyWinA →
      a = u.winWord keyWinA 8 &&& attrMask → e = u.keySlot i →
      (∀ r, fin r = r.2.winEnd keyWinA r.1 (if natField v.toNat 4 8 = 0xB0 then 4 else 0)) →
      all = [(1, .keyRead m v), (8, .loadPlain m v), (9, .loadWrapped m v), (10, .keyExport m v), (11, .zeroise m v)] →
      (s.rbit (keyWinA + 12) 0 = true → ∀ c ∈ all, exec c.2 s = .next (s.setFld (keyWinA + 12) 1 3 5)) ∧
      (s.rbit (keyWinA + 12) 0 = false → natField v.toNat 4 8 ≠ 0xB0 →
        ∀ c ∈ all, exec c.2 s = .next (fin (2, u))) ∧
      (s.rbit (keyWinA + 12) 0 = false → natField v.toNat 4 8 = 0xB0 → 131072 ≤ i →
        ∀ c ∈ all, exec c.2 s = .next (fin (1, u))) ∧
      (s.rbit (keyWinA + 12) 0 = false → natField v.toNat 4 8 = 0xB0 → i < 131072 →
        exec (.keyRead m v) s = .next (fin (0, u.setWinWord keyWinA 0 (ksAttr e))) ∧
        exec (.zeroise m v) s = .next (fin (0, u.setKeySlot i 0 0)) ∧
        (u.sec.dk = none → exec (.loadPlain m v) s = .next (fin (u.keyRefuse 1)) ∧
          exec (.loadWrapped m v) s = .next (fin (u.keyRefuse 1))) ∧
        (∀ dk, u.sec.dk = some dk →
          (isCore m = false → exec (.loadPlain m v) s = .next (fin (u.keyRefuse 4))) ∧
          (isCore m = true →
            (natBit a 0 = false ∨ natField a 2 5 = 0 → exec (.loadPlain m v) s = .next (fin (u.keyRefuse 5))) ∧
            (natBit a 0 = true → natField a 2 5 ≠ 0 → u.rngOk = false → exec (.loadPlain m v) s = .next (fin (u.keyRefuse 7))) ∧
            (natBit a 0 = true → natField a 2 5 ≠ 0 → u.rngOk = true → exec (.loadPlain m v) s =
              .next (fin (0, (u.setKeySlot i a u.winKey).setWinData keyWinA 8 0)))) ∧
          (blobOpen dk u.keyBlob = none → exec (.loadWrapped m v) s = .next (fin (u.keyRefuse 2))) ∧
          (∀ k, blobOpen dk u.keyBlob = some k → exec (.loadWrapped m v) s =
            .next (fin (0, u.setKeySlot i (leNat ((u.keyBlob.drop 12).take 4)) (beNat k))))) ∧
        (ksValid e = false → exec (.keyExport m v) s = .next (fin (u.keyRefuse 6))) ∧
        (ksValid e = true →
          (natBit e 1 = false → exec (.keyExport m v) s = .next (fin (u.keyRefuse 3))) ∧
          (natBit e 1 = true → isCore m = false → exec (.keyExport m v) s = .next (fin (u.keyRefuse 4))) ∧
          (natBit e 1 = true → isCore m = true → u.rngOk = false → exec (.keyExport m v) s = .next (fin (u.keyRefuse 7))) ∧
          (natBit e 1 = true → isCore m = true → u.rngOk = true → u.sec.dk = none →
            exec (.keyExport m v) s = .next (fin (u.keyRefuse 1))) ∧
          (∀ dk nonce c, natBit e 1 = true → isCore m = true → u.rngOk = true → u.sec.dk = some dk → nonce = (u.freeVal 96).toNat →
            c = gcmEnc dk nonce (leBytes 4 (ksAttr e)) (beBytes 32 (ksKey e)) → exec (.keyExport m v) s =
              .next (fin (0, u.drawn.setWinData keyWinA 16 (leNat (beBytes 12 nonce ++ leBytes 4 (ksAttr e) ++ c.1 ++ c.2)))))))) ∧
    (s.rgnRuns 8 = true → exec .rngFail s = .next ((s.setRbit (keyA R.SEC_KEY_STAT) 1 false).raise 8 0 2) ∧
      exec .rngRecover s = .next (s.setRbit (keyA R.SEC_KEY_STAT) 1 true)) ∧
    (s.rgnRuns 8 = false → exec .rngFail s = .next s ∧ exec .rngRecover s = .next s)

/-- Nothing happens where the pipeline has no decided packet, or the oldest one's class does not ask for ESP or it still waits for its
pair. Else the packet is taken. With the engine absent it is dropped and counted. A packet whose bytes are bad fails its tag. Its SPI
selects the association: a header not there or cut short, an association that is not VALID or holds another SPI, a key reference that does
not match its complement, a sequence number that the window has seen, a failed tag and a malformed trailer each drop it with their reason.
One that verifies updates window and counters, and its inner frame is recirculated through local port 69 with its version kept. -/
def Obligations.InboundEspPacketsAreVerified : Prop :=
  ∀ (s : State) (i : Fin 16),
    ((s.pipe i).toBuf = [] → exec (.espInbound i) s = .next s) ∧
    (∀ (k : Pkt) (r : List Pkt) (t : State), (s.pipe i).toBuf = k :: r → t = s.setPipe i { s.pipe i with toBuf := r } →
    (s.espTakes k = false ∨ s.behindPair i k = true → exec (.espInbound i) s = .next s) ∧
    (s.espTakes k = true → s.behindPair i k = false →
    (t.meets 8 1 = true → exec (.espInbound i) s = .next ((t.absentDrop (pipeRegion i)).dropPkt k)) ∧
    (t.meets 8 1 = false → ∀ (b : List Byte) (spi n e : Nat), b = k.bytes.drop (hvLayerOfs k 4) → spi = beNat (b.take 4) →
      n = spi % 65536 → e = t.espTab 0xD0 n →
      (k.bad = true → exec (.espInbound i) s = .next ((t.espDrop 2 n).dropPkt k)) ∧
      (k.bad = false →
      (hvLayerMarked k 4 = false ∨ hvLayerOfs k 4 = 255 ∨ b.length < 32 → exec (.espInbound i) s = .next ((t.espDrop 3 n).dropPkt k)) ∧
      (hvLayerMarked k 4 = true → hvLayerOfs k 4 ≠ 255 → 32 ≤ b.length →
        (natBit e 0 = false ∨ natField e 32 32 ≠ spi → exec (.espInbound i) s = .next ((t.espDrop 0 n).dropPkt k)) ∧
        (natBit e 0 = true → natField e 32 32 = spi →
          (keyRef (natField e 64 64) = none → exec (.espInbound i) s = .next ((t.keyRefBad.espDrop 0 n).dropPkt k)) ∧
          (keyRef (natField e 64 64) ≠ none →
            ∀ seq, seq = espSeq (natBit e 1) (natField e 160 64) (beNat ((b.drop 4).take 4)) →
            (natBit e 2 = true → espReplay (natField e 160 64) (natField e 256 256) seq = true →
              exec (.espInbound i) s = .next ((t.espDrop 1 n).dropPkt k)) ∧
            (natBit e 2 = false ∨ espReplay (natField e 160 64) (natField e 256 256) seq = false →
              ∀ plain, plain = gcmDec (t.espTab inKeyCode n)
                (beNat ((List.range 4).map (fun j => entByteAt e (16 + j)) ++ (b.drop 8).take 8))
                (b.take 4 ++ beBytes (if natBit e 1 then 8 else 4) seq) ((b.drop 16).take (b.length - 32)) (b.drop (b.length - 16)) →
              (plain = none → exec (.espInbound i) s = .next (((t.espDrop 2 n).espCount n 3 1).dropPkt k)) ∧
              (∀ p u, plain = some p → u = ((t.setTabN 8 1 0xD0 n (if natBit e 2 then espWindow e seq
                  else natSetField e 160 64 (max seq (natField e 160 64)))).espCount n 0 1).espCount n 1 k.bytes.length →
                (espInner k p = none → exec (.espInbound i) s = .next ((u.espDrop 3 n).dropPkt k)) ∧
                (∀ f, espInner k p = some f → exec (.espInbound i) s = .next (u.setPipe i { u.pipe i with
                  recircIn := (u.pipe i).recircIn ++ [{ Pkt.empty with
                    bytes := f
                    port := 69
                    kind := 3
                    odd := k.odd
                    accepted := k.accepted
                    proc := k.proc }] })))))))))))

/-- A write of the producer index that passes R91 stores it. Where the block does not serve, or it is not the ring's turn, no operation does
anything. Where it is: a request that stands in an uncorrectable line of HBM completes MEM_FAULT under a free tag; an operation other than
the request's, a host request not delivered whole, or delivered data of other lengths, leave the state as it is; otherwise the request is
completed with what processing gives. Processing: BAD_OP for an OP that is none or a reserved field that is not 0, KEY_CP for a reference
that does not match, the slot's checks, the length checks, and MEM_FAULT, in that order, write nothing at DST; a host fault that comes
during processing writes free bytes at DST and ends MEM_FAULT; otherwise the result of the operation is written at DST. -/
def Obligations.LookasideRequestsRun : Prop :=
  ∀ (s : State) (r : Fin 256),
    (∀ (m : Master) (v : Word), s.mayWrite m (lkaA (R.SEC_LKA_PI + 8 * r.val)) → exec (.lkaProducerWrite m r v) s =
      .next (s.wr (lkaA (R.SEC_LKA_PI + 8 * r.val)) (BitVec.ofNat 32 (v.toNat % 65536)))) ∧
    (∀ (e : Fin 32) (x : LkaIo) (ops : List (Nat × Instr)),
      ops = [(1, .gcmEnc r e x), (2, .gcmDec r e x), (3, .xtsEnc r e x), (4, .xtsDec r e x), (5, .kmac r e x), (6, .kmacVerify r e x)] →
      (s.meets 8 2 = true ∨ s.lkaTurn r = false → ∀ c ∈ ops, exec c.2 s = .next s) ∧
      (s.meets 8 2 = false → s.lkaTurn r = true →
        ∀ (ring at_ : Nat) (host : Bool) (b : List Byte) (q : LkaReq), ring = s.ring r → host = rgHost ring →
        at_ = rgReq ring + 64 * (s.lkaCi r % rgSize ring) → b = (if host = true then x.req else s.hbmBytes at_ 64) → q = lkaReq b →
        (host = false → s.hbmMeets at_ 64 = true → ∀ d, d = s.freeBytes 4 → ∀ c ∈ ops,
          exec c.2 s = .next ((d.2.hbmUeRead at_ 64).lkaComplete r e
            { q with
              tag := d.1
              flags := 0 } 10 0)) ∧
        (host = true ∨ s.hbmMeets at_ 64 = false →
          (b.length ≠ 64 ∨ (host = true ∧ x.fault = .ok ∧ lkaInFits q x = false) → ∀ c ∈ ops, exec c.2 s = .next s) ∧
          (1 ≤ q.op → q.op ≤ 6 → ∀ c ∈ ops, c.1 ≠ q.op → exec c.2 s = .next s) ∧
          (b.length = 64 → host = false ∨ x.fault ≠ .ok ∨ lkaInFits q x = true →
            ∀ (st done : Nat) (u : State), s.lkaProcess ring q x = (st, done, u) →
            (q.op = 1 → exec (.gcmEnc r e x) s = .next (u.lkaComplete r e q st done)) ∧
            (q.op = 2 → exec (.gcmDec r e x) s = .next (u.lkaComplete r e q st done)) ∧
            (q.op = 3 → exec (.xtsEnc r e x) s = .next (u.lkaComplete r e q st done)) ∧
            (q.op = 4 → exec (.xtsDec r e x) s = .next (u.lkaComplete r e q st done)) ∧
            (q.op = 5 → exec (.kmac r e x) s = .next (u.lkaComplete r e q st done)) ∧
            (q.op = 6 → exec (.kmacVerify r e x) s = .next (u.lkaComplete r e q st done)) ∧
            (q.op = 0 ∨ 6 < q.op → st = 9 ∧ done = 0 ∧ u = s ∧ ∀ c ∈ ops, exec c.2 s = .next (u.lkaComplete r e q st done)) ∧
            (1 ≤ q.op → q.op ≤ 6 →
              (lkaReserved q = false → st = 9 ∧ done = 0 ∧ u = s) ∧
              (lkaReserved q = true →
                (keyRef q.ref = none → st = 6 ∧ done = 0 ∧ u = s.keyRefBad) ∧
                (∀ i t c, keyRef q.ref = some i → t = s.raiseIf x.corrupt 8 0 1 → c = t.lkaSlot ring q i x.corrupt →
                  (c ≠ 0 → st = c ∧ done = 0 ∧ u = t) ∧
                  (c = 0 → lkaLen q ≠ 0 → st = lkaLen q ∧ done = 0 ∧ u = t) ∧
                  (c = 0 → lkaLen q = 0 →
                    (host = true → x.fault = .atCheck → st = 10 ∧ done = 0 ∧ u = t) ∧
                    (host = false → t.lkaHbmFault q = true ∨ t.lkaUe q = true → st = 10 ∧ done = 0 ∧ u = t.lkaFaultShow q) ∧
                    (host = true → x.fault = .later → ∀ f, f = t.freeBytes (if q.op = 6 then 0 else lkaDstLen q) →
                      st = 10 ∧ done = 0 ∧ u = f.2.lkaWrite ring q.dst f.1) ∧
                    ((host = true ∧ x.fault = .ok) ∨ (host = false ∧ t.lkaHbmFault q = false ∧ t.lkaUe q = false) →
                      ∀ y, y = t.lkaCompute q i (t.lkaIn ring q x) →
                      st = y.1 ∧ done = q.len ∧ u = t.lkaWrite ring q.dst y.2)))))))))

/-- For every ring, in HBM or of a host slice, when its turn comes, and every GCM_DEC request that is read and passes its checks and whose
tag does not verify over what the engine read: the state that the completion is posted in is the one in which LEN zeros have been written at DST; so the completion, whose
status is AUTH_FAIL, follows the zeroing, and no byte of the plaintext is written. -/
def Obligations.AuthFailZeroesTheDestinationFirst : Prop :=
  ∀ (s t : State) (r : Fin 256) (e : Fin 32) (x : LkaIo) (ring : Nat) (b : List Byte) (q : LkaReq) (i : Nat) (d : LkaIn),
    ring = s.ring r → s.lkaTurn r = true → s.meets 8 2 = false →
    b = (if rgHost ring = true then x.req else s.hbmBytes (rgReq ring + 64 * (s.lkaCi r % rgSize ring)) 64) → b.length = 64 →
    (rgHost ring = false → s.hbmMeets (rgReq ring + 64 * (s.lkaCi r % rgSize ring)) 64 = false) →
    q = lkaReq b → q.op = 2 → lkaReserved q = true → keyRef q.ref = some i → t = s.raiseIf x.corrupt 8 0 1 →
    t.lkaSlot ring q i x.corrupt = 0 → lkaLen q = 0 →
    (rgHost ring = true → x.fault = .ok ∧ lkaInFits q x = true) → (rgHost ring = false → t.lkaHbmFault q = false ∧ t.lkaUe q = false) →
    d = t.lkaIn ring q x →
    gcmDec (ksKey (t.keySlot i)) (beNat (q.tail.take 12)) d.aad (d.src.take q.len) (d.src.drop q.len) = none →
    exec (.gcmDec r e x) s = .next ((t.lkaWrite ring q.dst (List.replicate q.len 0)).lkaComplete r e q 1 q.len)

/-- Of a thread that does not issue (not RUNNING, or its region not at work) no instruction does anything. Of one that does: an acquire, and
a receive, from a channel 49,152 or above, one not enabled, one of a KIND the instruction does not act on, and a receive by another than the
reader, answer status 1; a channel of a region that does not answer, status 7; with no slot free, status 4. `acq v u` and `rec v u` say that
the instructions answer `v` and leave `u`, and that the wake of a thread that waits so does the same and ends the wait. An acquire with a
credit takes the slot and the credit; without one CH.ACQ waits, CH.TRYACQ answers EMPTY. A receive takes the oldest descriptor; from an
empty ring CH.RECV waits, CH.TRYRECV answers EMPTY. CH.POST sends the slot's bytes to the ring and frees it, CH.DROP returns its credit,
CH.FREE frees a receive slot; another address answers status 5. A wait goes on while it cannot be served. -/
def Obligations.ChannelInstructionsExecute : Prop :=
  ∀ (s : State) (t : Fin 384) (rd : Fin 32),
    (s.issues t = false → ∀ (ch a : BitVec 64) (data : BitVec 512),
      ∀ c ∈ [Instr.chAcq t rd ch, .chTryacq t rd ch, .chRecv t rd ch, .chTryrecv t rd ch, .chPost t rd a data, .chDrop t rd a,
        .chFree t rd a], exec c s = .next s) ∧
    (∀ (ch : BitVec 64) (c e : Nat) (acq rec : BitVec 64 → State → Prop), c = ch.toNat → e = s.chEntry c →
      (∀ v u, acq v u ↔
        (s.issues t = true → exec (.chAcq t rd ch) s = .next (u.setX t rd v) ∧ exec (.chTryacq t rd ch) s = .next (u.setX t rd v)) ∧
        ((s.thr t).state = .waiting → (s.thr t).wait = .acq c rd → exec (.chAcqWake t) s = .next ((u.setX t rd v).thrWake t))) →
      (∀ v u, rec v u ↔
        (s.issues t = true → exec (.chRecv t rd ch) s = .next (u.setX t rd v) ∧ exec (.chTryrecv t rd ch) s = .next (u.setX t rd v)) ∧
        ((s.thr t).state = .waiting → (s.thr t).wait = .recv c rd → exec (.chRecvWake t) s = .next ((u.setX t rd v).thrWake t))) →
      (49152 ≤ c → acq (status 1) s ∧ rec (status 1) s) ∧
      (c < 49152 → s.chAbsent c = true → acq (status 7) s ∧ rec (status 7) s) ∧
      (c < 49152 → s.chAbsent c = false → chEn e = false → acq (status 1) s ∧ rec (status 1) s) ∧
      (c < 49152 → s.chAbsent c = false → chEn e = true →
        (chKind e ≠ 0 → chKind e ≠ 2 → acq (status 1) s) ∧
        (chKind e = 0 ∨ chKind e = 2 →
          (freeIndex (s.thr t).stage = none → acq (status 4) s) ∧
          (∀ i, freeIndex (s.thr t).stage = some i →
            (s.creditFree c = true → acq (stageAddr t i)
              ((s.setThr t { s.thr t with stage := (s.thr t).stage.set i (some ⟨c, false⟩) }).setChan c
                { s.chan c with used := (s.chan c).used + 1 })) ∧
            (s.creditFree c = false →
              (∀ u, s.issues t = true → u = (s.pmuCount t 18).thrTo t .waiting →
                exec (.chAcq t rd ch) s = .next (u.setThr t { u.thr t with wait := .acq c rd }) ∧
                exec (.chTryacq t rd ch) s = .next (s.setX t rd (status 3))) ∧
              ((s.thr t).state = .waiting → (s.thr t).wait = .acq c rd → exec (.chAcqWake t) s = .next s)))) ∧
        (chKind e = 2 ∨ chReader e ≠ t.val → rec (status 1) s) ∧
        (chKind e ≠ 2 → chReader e = t.val →
          (freeIndex (s.thr t).recv = none → rec (status 4) s) ∧
          (∀ i, freeIndex (s.thr t).recv = some i →
            (∀ r, (s.chan c).fill ≠ 0 → r = s.chTake c → rec (recvAddr t i)
              ((r.2.setThr t { r.2.thr t with recv := (r.2.thr t).recv.set i (some ⟨c, r.1⟩) }).pmuCount t 17)) ∧
            ((s.chan c).fill = 0 →
              (∀ u, s.issues t = true → u = (s.pmuCount t 18).thrTo t .waiting →
                exec (.chRecv t rd ch) s = .next (u.setThr t { u.thr t with wait := .recv c rd }) ∧
                exec (.chTryrecv t rd ch) s = .next (s.setX t rd (status 3))) ∧
              ((s.thr t).state = .waiting → (s.thr t).wait = .recv c rd → exec (.chRecvWake t) s = .next s)))))) ∧
    (s.issues t = true → ∀ (a : BitVec 64) (data : BitVec 512),
      (s.stageAt t a = none → exec (.chPost t rd a data) s = .next (s.setX t rd (status 5)) ∧
        exec (.chDrop t rd a) s = .next (s.setX t rd (status 5))) ∧
      (∀ i x, s.stageAt t a = some (i, x) →
        (s.chAbsent x.ch = true → exec (.chPost t rd a data) s = .next (s.setX t rd (status 7))) ∧
        (s.chAbsent x.ch = false → chEn (s.chEntry x.ch) = false → exec (.chPost t rd a data) s = .next (s.setX t rd (status 1))) ∧
        (s.chAbsent x.ch = false → chEn (s.chEntry x.ch) = true → exec (.chPost t rd a data) s = .next
          ((((s.stageFree t i x).chAppend x.ch (leBytes 64 data.toNat)).pmuCount t 16).setX t rd 0)) ∧
        exec (.chDrop t rd a) s = .next ((s.stageDrop t i x).setX t rd 0)) ∧
      (s.recvAt t a = none → exec (.chFree t rd a) s = .next (s.setX t rd (status 5))) ∧
      (∀ i, s.recvAt t a = some i → exec (.chFree t rd a) s =
        .next ((s.setThr t { s.thr t with recv := (s.thr t).recv.set i none }).setX t rd 0))) ∧
    ((s.thr t).state ≠ .waiting ∨ (∀ c k, (s.thr t).wait ≠ .acq c k) → exec (.chAcqWake t) s = .next s) ∧
    ((s.thr t).state ≠ .waiting ∨ (∀ c k, (s.thr t).wait ≠ .recv c k) → exec (.chRecvWake t) s = .next s)

/-- An issuing thread's EV.POLL returns and clears the pending bits of its mask; EV.WAIT does the same where there are any and waits
otherwise; a thread that does not issue does neither. The wait ends when one is pending or its timeout has passed, the latter with 0. An
identity 1 to 255 written by a master with the right to a region that answers becomes pending; another value or master does nothing. The
timer's interrupt of a started thread stands while its time has come; a HELD thread has none. By a master whose write passes R91, FREEZE
arms unless frozen or armed, then it is refused with its cause; THAW_AT arms, DISARM cancels, THAW_NOW thaws. An armed instant takes effect
when due, a freeze before a thaw, and not before. A sampler overflow records event and pc for a thread neither HELD nor HALTED whose
counters are not frozen. -/
def Obligations.EventsTimersAndCounters : Prop :=
  ∀ s : State,
    (∀ (t : Fin 384) (rd : Fin 32) (mask tmo : BitVec 64) (v : Nat), v = s.evPend t &&& mask.toNat →
      (s.issues t = false → exec (.evPoll t rd mask) s = .next s ∧ exec (.evWait t rd mask tmo) s = .next s) ∧
      (s.issues t = true →
        exec (.evPoll t rd mask) s = .next (s.takeEvents t rd v v) ∧
        (v ≠ 0 → exec (.evWait t rd mask tmo) s = .next (s.takeEvents t rd v v)) ∧
        (∀ u w, v = 0 → u = (s.pmuCount t 19).thrTo t .waiting → w = (if tmo = 0 then none else
            some (s.time.ticks + (tmo.toNat * 7 + 11) / 12)) →
          exec (.evWait t rd mask tmo) s = .next (u.setThr t { u.thr t with wait := .ev mask.toNat rd w })))) ∧
    (∀ t : Fin 384,
      ((s.thr t).state ≠ .waiting ∨ (∀ mask rd u, (s.thr t).wait ≠ .ev mask rd u) →
        exec (.evWaitWake t) s = .next s ∧ exec (.evWaitTimeout t) s = .next s) ∧
      (∀ mask rd u v, (s.thr t).state = .waiting → (s.thr t).wait = .ev mask rd u → v = s.evPend t &&& mask →
        (v ≠ 0 → exec (.evWaitWake t) s = .next ((s.takeEvents t rd v v).thrWake t)) ∧
        (v = 0 → exec (.evWaitWake t) s = .next s) ∧
        (∀ n, u = some n → n ≤ s.time.ticks → exec (.evWaitTimeout t) s = .next ((s.setX t rd 0).thrWake t)) ∧
        (∀ n, u = some n → s.time.ticks < n → exec (.evWaitTimeout t) s = .next s) ∧
        (u = none → exec (.evWaitTimeout t) s = .next s))) ∧
    (∀ (m : Master) (t : Fin 384) (v : Word),
      (natBit (s.rights (masterCode m) true) (9 + thrRegion t) = true → s.rgnAbsent (9 + thrRegion t) = false →
        1 ≤ v.toNat → v.toNat ≤ 255 → exec (.interruptFileWrite m t v) s =
          .next (s.setThr t { s.thr t with intr := spPut (fun _ => false) (s.thr t).intr v.toNat true })) ∧
      (natBit (s.rights (masterCode m) true) (9 + thrRegion t) = false ∨ s.rgnAbsent (9 + thrRegion t) = true ∨ v.toNat = 0 ∨
        255 < v.toNat → exec (.interruptFileWrite m t v) s = .next s)) ∧
    (∀ t : Fin 384,
      ((s.thr t).state ≠ .held → exec (.timerInterrupt t) s = .next (s.setThr t { s.thr t with
        timerIrq := decide (s.rd64 (timeCmpA t) ≤ s.wt / lsbNs) })) ∧
      ((s.thr t).state = .held → exec (.timerInterrupt t) s = .next s)) ∧
    (∀ (m : Master) (r : Fin 3) (x : PmuSt) (at_ : Nat) (late : Bool), s.mayWrite m (pmuA r R.CPU_PMU_CTRL) → x = s.pmu r →
      at_ = s.pmuInstant r → late = (s.time.wtValid && decide (at_ < s.wt)) →
      (x.frozen = true ∨ x.freezeAt ≠ none → exec (.pmuFreeze m r) s = .next (s.raise (9 + r.val) 7 0)) ∧
      (x.frozen = false → x.freezeAt = none → exec (.pmuFreeze m r) s = .next ((s.setPmu r { x with
        freezeAt := some at_
        late := late }).pmuStat r)) ∧
      exec (.pmuThawAt m r) s = .next ((s.setPmu r { x with
        thawAt := some at_
        late := late }).pmuStat r) ∧
      exec (.pmuThawNow m r) s = .next (s.pmuThaw r) ∧
      exec (.pmuDisarm m r) s = .next ((s.setPmu r { x with
        freezeAt := none
        thawAt := none }).pmuStat r)) ∧
    (∀ (r : Fin 3),
      (∀ n, (s.pmu r).freezeAt = some n →
        (s.instantDue n = true → exec (.pmuInstant r) s =
          .next (((s.pmuAccrue r).setPmu r { s.pmu r with
            freezeAt := none
            frozen := true }).pmuStat r)) ∧
        (s.instantDue n = false → exec (.pmuInstant r) s = .next s)) ∧
      ((s.pmu r).freezeAt = none →
        (∀ n, (s.pmu r).thawAt = some n →
          (s.instantDue n = true → exec (.pmuInstant r) s = .next (s.pmuThaw r)) ∧
          (s.instantDue n = false → exec (.pmuInstant r) s = .next s)) ∧
        ((s.pmu r).thawAt = none → exec (.pmuInstant r) s = .next s))) ∧
    (∀ (t : Fin 384) (e : Fin 32) (pc : BitVec 64),
      ((s.thr t).state ≠ .held → (s.thr t).state ≠ .halted → (s.pmu (thrRegion t)).frozen = false →
        exec (.samplerOverflow t e pc) s = .next (s.setThr t { s.thr t with
          smpEvt := BitVec.ofNat 64 (e.val + 2 ^ 63)
          smpCnt := 0
          smpPc := pc
          overflowIrq := true })) ∧
      ((s.thr t).state = .held ∨ (s.thr t).state = .halted ∨ (s.pmu (thrRegion t)).frozen = true →
        exec (.samplerOverflow t e pc) s = .next s))

/-- EV.SEND of an issuing thread at an input below 64 of a thread in any present region. A thread-sourced input of a thread that takes events
is set, the event is counted for the sender and rd takes 0: whatever the register holds, the input's bit is then 1 and no bit is lost; for
a thread that takes no events (HELD, or its cluster's block held) nothing is delivered. Another input changes nothing of the target but the
count and cause of the miss in its cluster, and rd takes KIND, status 6. A thread or input that does not exist answers KIND too, a thread
of an absent region status 7. A thread that does not issue does nothing. -/
def Obligations.EvSendSetsTheInputOrAnswersKind : Prop :=
  ∀ (s : State) (t : Fin 384) (rd : Fin 32) (target input : BitVec 64) (u i : Nat), u = target.toNat → i = input.toNat →
    (s.issues t = false → exec (.evSend t rd target input) s = .next s) ∧
    (s.issues t = true →
      (384 ≤ u ∨ 64 ≤ i → exec (.evSend t rd target input) s = .next (s.setX t rd (status 6))) ∧
      (u < 384 → i < 64 → s.rgnAbsent (9 + thrRegion u) = true →
        exec (.evSend t rd target input) s = .next (s.setX t rd (status 7))) ∧
      (u < 384 → i < 64 → s.rgnAbsent (9 + thrRegion u) = false →
        (s.evThreadSourced u i = true → s.coreInReset u = true → exec (.evSend t rd target input) s = .next (s.setX t rd 0)) ∧
        (s.evThreadSourced u i = true → s.coreInReset u = false →
          ∃ v, exec (.evSend t rd target input) s = .next v ∧ v = ((s.setEvent u i).pmuCount t 20).setX t rd 0 ∧
            (s.storesWf = true → natBit (v.evPend u) i = true ∧ ∀ j, natBit (s.evPend u) j = true → natBit (v.evPend u) j = true)) ∧
        (s.evThreadSourced u i = false → exec (.evSend t rd target input) s =
          .next (((s.bump (A.cl (thrRegion u) (thrCluster u) R.CPU_EV_MISKIND)).raise (9 + thrRegion u) (thrCluster u) 2).setX t rd
            (status 6)))))

/-- A miss or a long device access stalls the running thread, an idle core picks one: the next READY thread in hart order runs, if any; a
served access wakes the stalled thread. A context command from neither the master thread nor JTAG is refused; else it ends with the first
ERR of its list that holds (1 not HELD, 5 HELD, 2 another region, 3 the master, 4 no such register), or writes or reads the register,
releases or resets the thread. The debugger halts a started thread of a region at work whose debug module is not held, and a staging slot
it holds is counted; it resumes a HALTED one. A cluster with deadlock detection on whose started threads all wait on threads declares it
once. The oldest packet for the processor port is written to its channel's buffer, or dropped with its count where the channel is no
PORT_RX one that answers, has no credit, or no buffer that takes it. The oldest descriptor of a PORT_TX channel is malformed and dropped,
names absent memory, or is sent, to ingress (TYPE 2) or straight to the buffer (TYPE 3). Otherwise nothing happens. -/
def Obligations.ThreadsAndPortsAreServed : Prop :=
  ∀ s : State,
    (∀ (core : Fin 96) (run : Option Nat), run = (coreThreads core).find? (fun t => (s.thr t).state == .running) →
      (run = none → exec (.threadSwitch core .miss) s = .next s ∧ exec (.threadSwitch core .device) s = .next s) ∧
      (∀ t, run = some t → exec (.threadSwitch core .idle) s = .next s ∧
        ∀ c ∈ [(11, Instr.threadSwitch core .miss), (13, .threadSwitch core .device)], ∀ x, x = (s.thrTo t .stalled).pmuCount t c.1 →
          (∀ u, x.nextReady core (t % 4) = some u → exec c.2 s = .next ((x.pmuCount t 7).thrRun u)) ∧
          (x.nextReady core (t % 4) = none → exec c.2 s = .next x)) ∧
      (run = none → ∀ h, h = spGet (fun _ => 0) s.cpu.lastRun core.val →
        (s.nextReady core h = none → exec (.threadSwitch core .idle) s = .next s) ∧
        (∀ u, s.nextReady core h = some u → exec (.threadSwitch core .idle) s =
          .next ((if u = 4 * core.val + h ∨ (s.thr (4 * core.val + h)).state = .held then s
            else s.pmuCount (4 * core.val + h) 7).thrRun u))) ∧
      (∀ h : Fin 4,
        ((s.thr (4 * core.val + h.val)).state = .stalled →
          exec (.threadSwitch core (.served h)) s = .next (s.thrWake (4 * core.val + h.val))) ∧
        ((s.thr (4 * core.val + h.val)).state ≠ .stalled → exec (.threadSwitch core (.served h)) s = .next s))) ∧
    (∀ (m : Master) (r : Fin 3) (t i : Nat) (held : Prop), s.mayWrite m (ctxA r R.CPU_CTX_CMD) → t = s.fld (ctxA r R.CPU_CTX_SEL) 0 9 →
      i = s.fld (ctxA r R.CPU_CTX_IDX) 0 7 → (held ↔ 384 ≤ t ∨ (s.thr t).state = .held) →
      (ctxMay m r = false → ∀ c ∈ [Instr.ctxWrite m r, .ctxRead m r, .ctxRelease m r, .ctxReset m r],
        exec c s = .next (s.accessRefused m (ctxA r R.CPU_CTX_CMD) .denied)) ∧
      (ctxMay m r = true →
        (¬ held → ∀ c ∈ [Instr.ctxWrite m r, .ctxRead m r, .ctxRelease m r], exec c s = .next (s.ctxErr r 1)) ∧
        (held → t / 128 ≠ r.val → ∀ c ∈ [Instr.ctxWrite m r, .ctxRead m r, .ctxRelease m r], exec c s = .next (s.ctxErr r 2)) ∧
        (held → t / 128 = r.val → exec (.ctxRelease m r) s = .next ((s.thrStart t).ctxErr r 0) ∧
          (t = 128 * r.val → exec (.ctxWrite m r) s = .next (s.ctxErr r 3) ∧ exec (.ctxRead m r) s = .next (s.ctxErr r 3)) ∧
          (t ≠ 128 * r.val → 68 < i → exec (.ctxWrite m r) s = .next (s.ctxErr r 4) ∧ exec (.ctxRead m r) s = .next (s.ctxErr r 4)) ∧
          (t ≠ 128 * r.val → i ≤ 68 →
            (∀ y, y = spPut (fun _ => 0) (s.thr t).regs i (BitVec.ofNat 64 (s.rd64 (ctxA r R.CPU_CTX_DATA_LO))) →
              exec (.ctxWrite m r) s = .next ((s.setThr t { s.thr t with regs := y }).ctxErr r 0)) ∧
            exec (.ctxRead m r) s = .next ((s.wr64 (ctxA r R.CPU_CTX_DATA_LO)
              (spGet (fun _ => (0 : BitVec 64)) (s.thr t).regs i).toNat).ctxErr r 0))) ∧
        (t < 384 → held → exec (.ctxReset m r) s = .next (s.ctxErr r 5)) ∧
        (384 ≤ t ∨ ¬ held →
          (t / 128 ≠ r.val → exec (.ctxReset m r) s = .next (s.ctxErr r 2)) ∧
          (t = 128 * r.val → exec (.ctxReset m r) s = .next (s.ctxErr r 3)) ∧
          (t / 128 = r.val → t ≠ 128 * r.val → exec (.ctxReset m r) s = .next ((s.thrHold t).ctxErr r 0))))) ∧
    (∀ t : Fin 384,
      ((s.thr t).state = .held ∨ (s.thr t).state = .halted ∨ s.rgnWorks (9 + thrRegion t) = false ∨
        s.blkHeld (9 + thrRegion t) 6 = true → exec (.debugHalt t) s = .next s) ∧
      ((s.thr t).state ≠ .held → (s.thr t).state ≠ .halted → s.rgnWorks (9 + thrRegion t) = true →
        s.blkHeld (9 + thrRegion t) 6 = false → exec (.debugHalt t) s =
          .next ((List.range 4).foldl (fun (u : State) i => ((u.thr t).stage.getD i none).elim u (u.slotHeld t i)) (s.thrTo t .halted))) ∧
      ((s.thr t).state = .halted → (s.thr t).wait = .none_ → exec (.debugResume t) s = .next (s.thrTo t .ready)) ∧
      ((s.thr t).state = .halted → (s.thr t).wait ≠ .none_ → exec (.debugResume t) s = .next (s.thrTo t .waiting)) ∧
      ((s.thr t).state ≠ .halted → exec (.debugResume t) s = .next s)) ∧
    (∀ (cl : Fin 12) (on : Prop), (on ↔ s.clusterDead cl = true ∧ s.declared cl = false ∧
        s.rbit (A.cl (cl.val / 4) (cl.val % 4) R.CPU_DLK_CTRL) 0 = true ∧ s.rgnWorks (9 + cl.val / 4) = true) →
      (¬ on → exec (.deadlock cl) s = .next s) ∧
      (∀ u : State, on → u = ((s.setDeclared cl true).wr (A.cl (cl.val / 4) (cl.val % 4) R.CPU_DLK_MASK)
          (BitVec.ofNat 32 (bitsWhere (fun j => s.onThreads (32 * cl.val + j)) 32))).bump (A.cl (cl.val / 4) (cl.val % 4) R.CPU_DLK_CNT) →
        exec (.deadlock cl) s = .next (((if u.coreInReset (32 * cl.val) then u else u.setEvent (32 * cl.val) 63).masterWoken
          (32 * cl.val)).raise (9 + cl.val / 4) (cl.val % 4) 0))) ∧
    (s.que.procOut = [] → exec .deviceChannelWrite s = .next s) ∧
    (∀ x r c (u : State) e, s.que.procOut = x :: r → x.pkt.dest = .processor c ∨ (c = 0 ∧ ∀ d, x.pkt.dest ≠ .processor d) →
      u = { s with que := { s.que with procOut := r } } → e = u.chEntry c →
      (49152 ≤ c ∨ u.chAbsent c = true ∨ chEn e = false ∨ chKind e ≠ 1 →
        exec .deviceChannelWrite s = .next ((u.procAbsent x.pkt x.port).dropPkt x.pkt)) ∧
      (c < 49152 → u.chAbsent c = false → chEn e = true → chKind e = 1 →
        (u.creditFree c = false → exec .deviceChannelWrite s = .next ((u.chDrop c 128).dropPkt x.pkt)) ∧
        (∀ b n (w : State), u.creditFree c = true → u.poolAlloc (chPool e) = (b, w) → n = 128 + x.pkt.bytes.length →
          (b = 0 → exec .deviceChannelWrite s = .next (w.dropPkt x.pkt)) ∧
          (b ≠ 0 → ∀ size, size = (w.poolOf b).elim 0 (fun p => pdSize (w.poolDesc p)) →
            (size < n → exec .deviceChannelWrite s = .next (((w.poolFree b 4 0).chDrop c 144).dropPkt x.pkt)) ∧
            (n ≤ size → w.hbmRangeDown b n = true →
              exec .deviceChannelWrite s = .next (((w.poolFree b 4 0).absentDrop (9 + chRegion c)).dropPkt x.pkt)) ∧
            (n ≤ size → w.hbmRangeDown b n = false → ∀ y : State, y = w.hbmStore b (padTo 128 (x.pkt.hv.take 128) ++ x.pkt.bytes) →
              exec .deviceChannelWrite s = .next ((y.chDevice c 1 (y.portRxDesc x.pkt x.port b)).2.dropPkt x.pkt)))))) ∧
    (∀ (c : Fin 49152) (e i : Nat) (on : Prop), e = s.chEntry c.val → i = c.val % 16 →
      (on ↔ s.chAbsent c.val = false ∧ s.meets (pipeRegion i) (i % 4) = false ∧ chEn e = true ∧ chKind e = 2 ∧ (s.chan c.val).fill ≠ 0 ∧
        s.hbmRangeDown (chBase e) (64 * chSize e) = false) →
      (¬ on → exec (.portTxProcess c) s = .next s) ∧
      (on → ∀ d (u : State) type n a k w, s.chTake c.val = (d, u) → type = (d.getD 0 0).toNat → n = leNat ((d.drop 2).take 2) →
        a = leNat ((d.drop 8).take 8) → w = leNat ((d.drop 16).take 4) →
        k = ({ Pkt.empty with
          bytes := u.hbmBytes a n
          port := 68
          kind := 2
          qp := c.val
          tag := if natBit (d.getD 1 0).toNat 1 then some (leNat ((d.drop 4).take 4)) else none } : Pkt) →
        (¬(type = 2 ∨ type = 3) ∨ n < 14 ∨ 16380 < n ∨ poolMemory a n = false →
          exec (.portTxProcess c) s = .next ((u.portTxFree d).chDrop c.val 160)) ∧
        (type = 2 ∨ type = 3 → 14 ≤ n → n ≤ 16380 → poolMemory a n = true →
          (u.hbmRangeDown a n = true → exec (.portTxProcess c) s = .next ((u.portTxFree d).absentDrop (9 + chRegion c.val))) ∧
          (u.hbmRangeDown a n = false →
            (type = 2 → exec (.portTxProcess c) s =
              .next ((u.setPipe i { u.pipe i with procIn := (u.pipe i).procIn ++ [k] }).portTxFree d)) ∧
            (type = 3 → exec (.portTxProcess c) s = .next (((u.setPipe i { u.pipe i with toBuf := (u.pipe i).toBuf ++ [{ k with
              odd := u.verOdd
              accepted := u.wt
              dest := .unicast (natField w 0 17)
              tc := natField w 17 3
              rewrite := natField (leNat ((d.drop 20).take 3)) 0 20 }] }).inflAdd u.verOdd).portTxFree d))))))

/-- A formed link of HOST with its write list applied, out of PERST and the fail-safe, that is down comes up at a rate and width within
HOST_LINK_CFG and R405 (FLIT at 64 GT/s) and shows them in HOST_LINK_STAT; another request to come up does nothing. A link that goes down,
or PERST, shows 0, disables its queue pairs, resets its controller and ends its mailbox session; a hot reset and a function reset do their
part of that; a link that is down takes none of them. A configuration request of a powered device out of reset and PERST is answered, with
a retry until the write list is applied. A mailbox command of an up link with HOST there ends with a status, sets MBX_DONE and sends vector 0
(`fin`): 8 while HOST_MBX_EN is 0, else as its session stands: OPEN is refused (5) while another holds it and opens it otherwise; without
its session CLOSE and WRITE end with 7; a block past the last ends with 4, one out of order, empty or too long with 3, data that fail with
6 and the session gone; ABORT ends the session. -/
def Obligations.HostLinksAndMailboxAct : Prop :=
  ∀ (s : State) (l : Fin 4),
    (∀ (rate : Fin 6) (width : Fin 64) (flit : Bool) (on : Prop),
      (on ↔ s.host.listApplied = true ∧ s.linkFormed l.val = true ∧ (s.hlink l.val).perst = false ∧ s.flt.failsafe = none ∧
        s.linkIsUp l.val = false ∧ rate.val ≤ s.fld (regAddr 0xC 0 R.HOST_LINK_CFG) 2 3 ∧
        [1, 2, 4, 8, 16, 32].contains width.val = true ∧ width.val ≤ s.linkLanes ∧ (rate.val = 5 → flit = true)) →
      (on → exec (.hostLinkUp l rate width flit) s = .next ((s.wr (linkStatA l.val)
        (BitVec.ofNat 32 (rate.val + width.val * 8 + 512 + (if flit then 1024 else 0)))).linkChange l.val)) ∧
      (¬ on → exec (.hostLinkUp l rate width flit) s = .next s)) ∧
    (s.linkIsUp l.val = false →
      exec (.hostLinkDown l) s = .next s ∧ (∀ w, exec (.functionLevelReset l w) s = .next s) ∧
      exec (.hostPerstAssert l) s = .next (s.setHlink l.val { s.hlink l.val with perst := true })) ∧
    exec (.hostPerstRelease l) s = .next (s.setHlink l.val { s.hlink l.val with perst := false }) ∧
    (s.linkIsUp l.val = true →
      (∀ t, t = ((((s.wr (linkStatA l.val) 0).linkChange l.val).linkQpsOff l.val).controllerReset l.val).mbxDrop l.val →
        exec (.hostLinkDown l) s = .next t ∧
        exec (.hostPerstAssert l) s = .next (t.setHlink l.val { t.hlink l.val with perst := true })) ∧
      exec (.functionLevelReset l .hot) s = .next (((s.linkQpsOff l.val).controllerReset l.val).mbxDrop l.val) ∧
      exec (.functionLevelReset l (.flr 0)) s = .next (s.mbxDrop l.val) ∧
      exec (.functionLevelReset l (.flr 1)) s = .next (s.linkQpsOff l.val) ∧
      exec (.functionLevelReset l (.flr 2)) s = .next (s.controllerReset l.val)) ∧
    (∀ fn : Fin 3,
      (s.boot.dev ≠ .off → s.boot.dev ≠ .reset → (s.hlink l.val).perst = false →
        exec (.configurationRequest l fn) s = .next (s.emit (.cfgAnswer l fn (!s.host.listApplied)))) ∧
      (s.boot.dev = .off ∨ s.boot.dev = .reset ∨ (s.hlink l.val).perst = true → exec (.configurationRequest l fn) s = .next s)) ∧
    (∀ (b : Fin 131072) (n : Fin 8192) (d : List Byte) (ok : Bool) (cmds : List Instr),
      cmds = [.mbxOpen l ok, .mbxWrite l b n d ok, .mbxClose l ok, .mbxAbort l] →
      (s.hostUp = false ∨ s.linkIsUp l.val = false → ∀ c ∈ cmds, exec c s = .next s) ∧
      (s.hostUp = true → s.linkIsUp l.val = true → ∀ (fin : Nat → State → State),
        (∀ st t, fin st t = (t.setHlink l.val { t.hlink l.val with
          mbxStatus := st
          event := natSetField (t.hlink l.val).event 0 1 1 }).sendMsix l.val 0 0) →
        (s.rbit (regAddr 0xC 4 R.HOST_MBX_EN) 0 = false → ∀ c ∈ cmds, exec c s = .next (fin 8 s)) ∧
        (s.rbit (regAddr 0xC 4 R.HOST_MBX_EN) 0 = true →
          (∀ x, s.img.session = some x → x.svc = true ∨ x.link ≠ l.val → exec (.mbxOpen l ok) s = .next (fin 5 s)) ∧
          ((∀ x, s.img.session = some x → x.svc = false ∧ x.link = l.val) →
            ∀ u, u = (s.sessionOpen false l.val s.inactiveSlot).mbxRaise →
            exec (.mbxOpen l ok) s = .next (if ok then fin 2 u else fin 6 u.sessionEnd.mbxRaise)) ∧
          (s.mbxSession l.val = none → exec (.mbxWrite l b n d ok) s = .next (fin 7 s) ∧ exec (.mbxClose l ok) s = .next (fin 7 s) ∧
            exec (.mbxAbort l) s = .next (fin 2 s)) ∧
          (∀ x, s.mbxSession l.val = some x →
            exec (.mbxAbort l) s = .next (fin 2 s.sessionEnd.mbxRaise) ∧
            exec (.mbxClose l ok) s = .next (if ok then fin 2 (s.sessionClose x).mbxRaise else fin 6 s.sessionEnd.mbxRaise) ∧
            (114687 < b.val → exec (.mbxWrite l b n d ok) s = .next (fin 4 s)) ∧
            (b.val ≤ 114687 → ∀ good, good = (b.val == x.blocks.length && decide (1 ≤ n.val) && decide (n.val ≤ 4096) &&
                x.blocks.all (fun p => decide (4096 ≤ p.2))) →
              (good = false → exec (.mbxWrite l b n d ok) s = .next (fin 3 s)) ∧
              (good = true → ok = false → exec (.mbxWrite l b n d ok) s = .next (fin 6 s.sessionEnd.mbxRaise)) ∧
              (∀ u : State, good = true → ok = true →
                u = s.flashWrite (slotA x.slot + 4096 * b.val) ((d ++ List.replicate 4096 0).take n.val) →
                exec (.mbxWrite l b n d ok) s = .next (fin 2 { u with img := { u.img with session := some { x with
                  blocks := x.blocks ++ [(b.val, n.val)] } } })))))))

/-- With HOST down none of these does anything but a swap by register. A doorbell of an enabled pair of a slice of the link, not stopped,
sets its index, others are counted in HOST_DB_DROP; a lookaside doorbell goes to SEC for a HOST ring of a valid slice of the link. A fetch
of a link that is up serves the slice and pair whose turn it is, if any: while the packet's descriptors are not complete it waits; it
advances the pair past them, hands the packet to pipeline (pair mod 16) and posts its completion; bad descriptors complete with status 1; a
DMA fault puts the pair into ERROR, before anything is used or with status 2. A receive write counts why it drops (no pair, stopped slice,
too few buffers or ERROR); else it fills buffers and posts its completion; a fault while descriptors are read leaves them, one while data is
written uses them (status 2; log entry 93). A vector leaves when due; words are flushed; a swap asked for while one is under way is
refused, else the bitmaps change places and the old words leave before it is done. -/
def Obligations.HostQueuesRun : Prop :=
  ∀ s : State,
    (s.hostUp = false → ∀ (l : Fin 4) (q : Fin 65536) (v : Word) (r : Fin 256) (x : TxFetch) (y : RxHost) (i : Fin 1024) (n : Fin 4096),
      ∀ c ∈ [Instr.doorbellTxTail l q v, .doorbellRxTail l q v, .doorbellCqHead l q v, .lkaHostDoorbell l r v, .hostTxFetch l x,
        .hostRxWrite y, .msixModeration q, .dlogFlush i, .dlogSwap (.bar l) v, .dlogSwapDone n], exec c s = .next s) ∧
    (s.hostUp = true →
    (∀ (l : Fin 4) (q : Fin 65536) (v : Word),
      (∀ n e, s.qpSlice q.val = some n → e = s.sliceEntry n → qpEn (s.qpEntry q.val) = true → slLink e = l.val → slStop e = false →
        exec (.doorbellTxTail l q v) s = .next (s.setQp q.val { s.qp q.val with txTail := v.toNat % 65536 }) ∧
        exec (.doorbellRxTail l q v) s = .next (s.setQp q.val { s.qp q.val with rxTail := v.toNat % 65536 }) ∧
        exec (.doorbellCqHead l q v) s = .next ((s.setQp q.val { s.qp q.val with
          cqHead := v.toNat % 65536
          arm := (s.qp q.val).arm || natBit v.toNat 31 }).qpSignal q.val)) ∧
      (s.qpSlice q.val = none ∨ qpEn (s.qpEntry q.val) = false ∨
          (∃ n, s.qpSlice q.val = some n ∧ (slLink (s.sliceEntry n) ≠ l.val ∨ slStop (s.sliceEntry n) = true)) →
        exec (.doorbellTxTail l q v) s = .next (s.bump (lnkA R.HOST_DB_DROP)) ∧
        exec (.doorbellRxTail l q v) s = .next (s.bump (lnkA R.HOST_DB_DROP)) ∧
        exec (.doorbellCqHead l q v) s = .next ((s.bump (lnkA R.HOST_DB_DROP)).qpSignal q.val))) ∧
    (∀ (l : Fin 4) (r : Fin 256) (v : Word) (e : Nat), e = s.sliceEntry (rgSlice (s.ring r.val)) →
      (rgHost (s.ring r.val) = true → slValid e = true → slLink e = l.val → exec (.lkaHostDoorbell l r v) s =
        .next (s.wr (lkaA (R.SEC_LKA_PI + 8 * r.val)) (BitVec.ofNat 32 (v.toNat % 65536)))) ∧
      (rgHost (s.ring r.val) = false ∨ slValid e = false ∨ slLink e ≠ l.val →
        exec (.lkaHostDoorbell l r v) s = .next (s.bump (lnkA R.HOST_DB_DROP)))) ∧
    (∀ (l : Fin 4) (x : TxFetch) (up : Bool), up = s.rbit (lnkA (R.HOST_LINK_STAT + 16 * l.val)) 9 →
      (up = false ∨ s.chooseSlice l.val = none → exec (.hostTxFetch l x) s = .next s) ∧
      (∀ n (t : State), up = true → s.chooseSlice l.val = some (n, t) →
        (∀ q r, rotateFrom (t.slice n).nextQp (t.sliceReadyQps n) = q :: r →
          (x.fault = .atCheck → exec (.hostTxFetch l x) s = .next (t.qpFault q)) ∧
          (x.fault ≠ .atCheck → txDescs (t.txPosted q) x.ring = none → exec (.hostTxFetch l x) s = .next t) ∧
          (∀ ds d size first (u : State), x.fault ≠ .atCheck → txDescs (t.txPosted q) x.ring = some ds → d = ds.headD [] →
            size = qpTxSize (t.qpEntry q) → first = (t.qp q).txHead % size →
            u = (t.setQp q { t.qp q with txHead := (first + ds.length) % size }).setSlice n { t.slice n with nextQp := q + 1 } →
            (txLength ds = none → exec (.hostTxFetch l x) s = .next (u.qpComplete n q (txDone 1 ds.length first d))) ∧
            (∀ len, txLength ds = some len → x.fault = .later → exec (.hostTxFetch l x) s =
              .next ((u.qpFault q).qpComplete n q (txDone 2 ds.length first d))) ∧
            (∀ len k p, txLength ds = some len → x.fault = .ok → p = u.pipe (q % 16) →
              k = { Pkt.empty with
                bytes := txData d (x.data.take len ++ List.replicate (len - x.data.length) 0)
                port := 64 + l.val
                kind := 1
                slice := n
                qp := q
                tag := if natBit (d.getD 10 0).toNat 2 then some (leNat ((d.drop 12).take 4)) else none } →
              exec (.hostTxFetch l x) s = .next (((((u.setPipe (q % 16) { p with hostIn := p.hostIn ++ [k] }).sliceCharge n len).qpCount
                q 0 1).qpCount q 1 len).qpComplete n q (txDone 0 ds.length first d))))))) ∧
    (∀ (x : RxHost),
      (s.que.hostOut = [] → exec (.hostRxWrite x) s = .next s) ∧
      (∀ y r k q e (u : State), s.que.hostOut = y :: r → u = { s with que := { s.que with hostOut := r } } →
        k = y.pkt → q = k.rewrite % 65536 → e = u.qpEntry q →
        (u.qpSlice q = none → exec (.hostRxWrite x) s = .next (u.bump (lnkA R.HOST_RX_NOQP))) ∧
        (∀ n sl size first posted need, u.qpSlice q = some n → sl = u.sliceEntry n → size = qpRxSize e →
          first = (u.qp q).rxHead % size → posted = ((u.qp q).rxTail % size + size - first) % size →
          need = (k.bytes.length + qpBufSize e - 1) / qpBufSize e →
          (qpEn e = false ∨ slLink sl ≠ y.port - 64 → exec (.hostRxWrite x) s = .next (u.bump (lnkA R.HOST_RX_NOQP))) ∧
          (qpEn e = true → slLink sl = y.port - 64 →
            (slStop sl = true → exec (.hostRxWrite x) s = .next (u.bump (lnkA (R.HOST_RX_NOQP + 8)))) ∧
            (slStop sl = false → posted < need ∨ (u.qp q).error = true →
              exec (.hostRxWrite x) s = .next (u.bump (lnkA (R.HOST_RX_NOQP + 4)))) ∧
            (slStop sl = false → need ≤ posted → (u.qp q).error = false →
              ∀ w : State, w = u.setQp q { u.qp q with rxHead := (first + need) % size } →
              (x.fault = .atCheck → exec (.hostRxWrite x) s = .next ((u.qpFault q).bump (lnkA (R.HOST_RX_NOQP + 4)))) ∧
              (x.fault = .later → exec (.hostRxWrite x) s = .next ((w.qpFault q).qpComplete n q (rxDone k true need first))) ∧
              (x.fault = .ok → exec (.hostRxWrite x) s = .next ((((w.rxData n (qpBufSize e) x.ring need 0 k.bytes).qpCount q 2 1).qpCount
                q 3 k.bytes.length).qpComplete n q (rxDone k false need first)))))))) ∧
    (∀ (q : Fin 65536) (due : Prop), (due ↔ qpIrqEn (s.qpEntry q.val) = true ∧ (s.qp q.val).arm = true ∧ 0 < (s.qp q.val).unsig ∧
        (qpModCount (s.qpEntry q.val) ≤ (s.qp q.val).unsig ∨
          (s.qp q.val).unsigTick + qpModUs (s.qpEntry q.val) * ticksPerUs ≤ s.time.ticks)) →
      (∀ n, due → s.qpSlice q.val = some n → exec (.msixModeration q) s = .next ((s.setQp q.val { s.qp q.val with
        arm := false
        unsig := 0 }).emit (.msix (slLink (s.sliceEntry n)) 1 (qpVector (s.qpEntry q.val))))) ∧
      (¬ due ∨ s.qpSlice q.val = none → exec (.msixModeration q) s = .next s)) ∧
    (∀ (i : Fin 1024),
      (∀ w, s.host.dirty[i.val]? = some w → exec (.dlogFlush i) s = .next (State.emit { s with host := { s.host with
        dirty := s.host.dirty.filter (fun x => x != w) } } (.hostOr w.link w.addr w.bits))) ∧
      (s.host.dirty[i.val]? = none → exec (.dlogFlush i) s = .next s)) ∧
    (∀ (n : Fin 4096) (x : SliceSt) (u : State) (y : LinkSt), x = s.slice n.val →
      u = State.setSlice (s.dirtyFlushAll (fun w => w.slice == n.val && w.map1 != x.active1)) n.val
        { (s.dirtyFlushAll (fun w => w.slice == n.val && w.map1 != x.active1)).slice n.val with swapBusy := false } →
      y = u.hlink x.swapLink →
      (x.swapBusy = true → exec (.dlogSwapDone n) s = .next (((u.setHlink x.swapLink { y with
        dlogDone := true
        event := y.event ||| 2 }).raise 0xC 1 1).emit (.msix x.swapLink 0 1))) ∧
      (x.swapBusy = false → exec (.dlogSwapDone n) s = .next s))) ∧
    (∀ (src : SwapFrom) (v : Word) (n l : Nat) (x : SliceSt), n = v.toNat % 4096 → x = s.slice n →
      (s.hostUp = true ∧ ∃ b : Fin 4, src = .bar b ∧ l = b.val) ∨
        (∃ m, src = .reg m ∧ s.mayWrite m (slcA R.HOST_DLOG_SWAP) ∧ l = slLink (s.sliceEntry n)) →
      (x.swapBusy = true → exec (.dlogSwap src v) s = .next (s.setHlink l { s.hlink l with dlogRefused := true })) ∧
      (∀ u : State, x.swapBusy = false → u = s.setSlice n { x with
          active1 := !x.active1
          swapBusy := true
          swapLink := l } →
        exec (.dlogSwap src v) s = .next (u.setHlink l { s.hlink l with
          dlogDone := false
          dlogRefused := false
          dlogSlice := n })))

/-- With HOST down none of these does anything but DONE. A doorbell of a controller that is enabled and ready brings a command: of a slice
that is stopped, blockless or another link's it is dropped and counted. An I/O command is checked in order: unknown opcode (0x01), no
namespace (0x0B), too long (0x02), out of range (0x80), protected (0x20), and one that fails completes at once. One that passes, and every
admin command, joins the list: it waits while what it needs is away or no buffer is free; an XTS write without its keys ends with 0x06;
else its buffers take its data and it is handed off. DONE with the HANDLE of a handed command holds the result while SEC is away for an XTS
read, else posts it: read data goes to the host, decrypted with XTS, an uncorrectable line or missing keys end it with 0x06; then waiting
commands are tried. Another HANDLE counts in HOST_BLK_LATE. A command past HOST_BLK_TMO ends with 0x22. CC.EN = 0 lets RDY fall once nothing
is outstanding; enabling a controller of an up link sets RDY. -/
def Obligations.BlockCommandsRun : Prop :=
  ∀ s : State,
    (s.hostUp = false → ∀ (l : Fin 4) (x : NvmeIn) (i : Fin 65536),
      ∀ c ∈ [Instr.nvmeDoorbell l x, .nvmeTimeout i, .nvmeCcDisable l, .nvmeControllerEnable l], exec c s = .next s) ∧
    (s.hostUp = true → ∀ (l : Fin 4) (x : NvmeIn) (y : Nat) (bad : Prop), y = x.queue.val →
      (bad ↔ ∃ n, s.queueSlice l.val y = some n ∧
        (slStop (s.sliceEntry n) = true ∨ slBlk (s.sliceEntry n) = false ∨ slLink (s.sliceEntry n) ≠ l.val)) →
      ((s.hlink l.val).ccEn = false ∨ (s.hlink l.val).rdy = false → exec (.nvmeDoorbell l x) s = .next s) ∧
      ((s.hlink l.val).ccEn = true → (s.hlink l.val).rdy = true →
        (bad → exec (.nvmeDoorbell l x) s = .next (s.bump (lnkA R.HOST_DB_DROP))) ∧
        (¬ bad → ∀ e op nsid cid ns, e = (x.entry ++ List.replicate (64 - x.entry.length) 0).take 64 → op = (e.getD 0 0).toNat →
          nsid = entLe e 4 4 → cid = entLe e 2 2 → ns = (s.namespace_ l.val nsid).getD (s.tabN 0xC 3 0xF3 (l.val * 256)) →
          (y ≠ 0 → ∀ st fail, st = s.cmdStatus l.val op nsid e →
            fail = (match s.queueSlice l.val y with
              | some n => s.dirtyFlushSlice n
              | none => s).emit (.nvmeDone l.val y cid 0 st) →
            (op ∉ [0, 1, 2, 8, 9] → st = 0x01) ∧
            (op ∈ [0, 1, 2, 8, 9] →
              (s.namespace_ l.val nsid = none → st = 0x0B) ∧
              (s.namespace_ l.val nsid ≠ none →
                (1048576 < cmdBytes ns op e → st = 0x02) ∧
                (cmdBytes ns op e ≤ 1048576 → ∀ beyond, beyond = (opRanged op && decide (nsSize ns < entLe e 40 8 + entLe e 48 2 + 1)) →
                  (beyond = true → st = 0x80) ∧
                  (beyond = false → nsProt ns = true → op ∈ [1, 8, 9] → st = 0x20) ∧
                  (beyond = false → nsProt ns = false ∨ op ∉ [1, 8, 9] → st = 0)))) ∧
            (st ≠ 0 → exec (.nvmeDoorbell l x) s = .next (fail.emit (.msix l.val 2 y)))) ∧
          (y = 0 ∨ s.cmdStatus l.val op nsid e = 0 → ∀ n xts (c : NvmeCmd) (w : State), n = nsSlice ns →
            xts = (y != 0 && nsXts ns && op == 1) →
            c = ⟨false, 0, l.val, y, cid, op, nsid, entLe e 40 8, if y = 0 then natSum (x.segs.map (·.2)) else cmdBytes ns op e, e,
              x.segs, x.data, [], 0, none, s.time.ticks⟩ →
            w = { s with host := { s.host with nvme := s.host.nvme ++ [c] } } →
            (w.blkMay ns c = false → exec (.nvmeDoorbell l x) s = .next w) ∧
            (w.blkMay ns c = true → xts = true → w.nsKeys ns = none →
              exec (.nvmeDoorbell l x) s = .next ((w.nsRefCount ns).nvmeEnd c 0 0x06)) ∧
            (w.blkMay ns c = true → xts = false ∨ w.nsKeys ns ≠ none → ∀ bufs (t : State),
              blkAllocN n (nsPool ns) ((c.bytes + 65535) / 65536) w = (bufs, t) →
              (bufs = none → exec (.nvmeDoorbell l x) s = .next t) ∧
              (∀ bl (u : State), bufs = some bl → t.blkAlloc n t.listPool = (none, u) →
                exec (.nvmeDoorbell l x) s = .next (bl.foldl (fun (s : State) a => s.blkFree n a) u)) ∧
              (∀ bl list (u : State) data (v : State) (d : NvmeCmd), bufs = some bl → t.blkAlloc n t.listPool = (some list, u) →
                data = (if y ≠ 0 ∧ (op = 1 ∨ op = 9) then x.data.take c.bytes ++ List.replicate (c.bytes - x.data.length) 0 else []) →
                v = (u.bufsWrite bl (if xts then (u.nsKeys ns).elim data
                  (fun k => xtsUnits true k.1 k.2 (nsLba ns) data.length c.slba data) else data)).hbmStore list
                    (e ++ bl.flatMap (leBytes 8)) →
                d = { c with
                  handed := true
                  handle := v.freeHandle
                  bufs := bl
                  listBuf := list
                  data := [] } →
                exec (.nvmeDoorbell l x) s = .next (State.chDevice { v with host := { v.host with
                  nvme := v.host.nvme.map (fun x => if x = c then d else x) } } (nsChannel ns) 3
                    (handOffDesc (y == 0) d v.freeHandle list)).2)))))) ∧
    (∀ (m : Master) (v : Word) (u : State) (got : Option NvmeCmd), s.mayWrite m (blkA (R.HOST_BLK_DONE + 12)) →
      u = s.wr (blkA (R.HOST_BLK_DONE + 12)) v →
      got = u.host.nvme.find? (fun c => c.handed && c.result.isNone && c.handle == (u.rd (blkA R.HOST_BLK_DONE)).toNat) →
      (got = none → exec (.nvmeDone m v) s = .next (u.bump (blkA R.HOST_BLK_LATE))) ∧
      (∀ c dw0 st ns read, got = some c → dw0 = (u.rd (blkA (R.HOST_BLK_DONE + 8))).toNat →
        st = u.fld (blkA (R.HOST_BLK_DONE + 4)) 0 16 →
        ns = (u.namespace_ c.link c.nsid).getD (u.tabN 0xC 3 0xF3 (c.link * 256)) →
        read = ((c.queue != 0 && c.opcode == 2) || (c.queue == 0 && !c.bufs.isEmpty && natBit c.opcode 1)) →
        (u.resultWaits c = true → exec (.nvmeDone m v) s = .next { u with host := { u.host with
          nvme := u.host.nvme.map (fun x => if x = c then { c with result := some (dw0, st) } else x) } }) ∧
        (u.resultWaits c = false →
          (read = false → exec (.nvmeDone m v) s = .next (u.nvmeEnd c dw0 st).blkRetry) ∧
          (read = true → u.bufsMeet c.bufs c.bytes = true →
            exec (.nvmeDone m v) s = .next ((u.bufsUe c.bufs c.bytes).nvmeEnd c 0 0x06).blkRetry) ∧
          (read = true → u.bufsMeet c.bufs c.bytes = false → ∀ data seg, data = u.bufsRead c.bufs c.bytes →
            seg = u.segsWrite c.link (u.queueSlice c.link c.queue) c.segs →
            (c.queue = 0 ∨ nsXts ns = false → exec (.nvmeDone m v) s = .next ((seg data).nvmeEnd c dw0 st).blkRetry) ∧
            (c.queue ≠ 0 → nsXts ns = true →
              (u.nsKeys ns = none → exec (.nvmeDone m v) s = .next ((u.nsRefCount ns).nvmeEnd c 0 0x06).blkRetry) ∧
              (∀ k, u.nsKeys ns = some k → exec (.nvmeDone m v) s =
                .next ((seg (xtsUnits false k.1 k.2 (nsLba ns) data.length c.slba data)).nvmeEnd c dw0 st).blkRetry)))))) ∧
    (s.hostUp = true →
      (∀ i : Fin 65536,
        (s.host.nvme[i.val]? = none → exec (.nvmeTimeout i) s = .next s) ∧
        (∀ c, s.host.nvme[i.val]? = some c →
          (c.tick + s.fld (blkA R.HOST_BLK_TMO) 0 17 * 1000 * ticksPerUs ≤ s.time.ticks →
            exec (.nvmeTimeout i) s = .next (((s.nvmeEnd c 0 0x22).raise 0xC 3 0).blkRetry)) ∧
          (s.time.ticks < c.tick + s.fld (blkA R.HOST_BLK_TMO) 0 17 * 1000 * ticksPerUs →
            exec (.nvmeTimeout i) s = .next s))) ∧
      (∀ (l : Fin 4),
        (∀ u : State, u = s.setHlink l.val { s.hlink l.val with ccEn := false } → exec (.nvmeCcDisable l) s =
          .next (if (u.hlink l.val).rdy && !u.host.nvme.any (fun c => c.link == l.val) && !(u.hlink l.val).ccEn then
            u.setHlink l.val { u.hlink l.val with rdy := false } else u)) ∧
        (s.rbit (lnkA (R.HOST_LINK_STAT + 16 * l.val)) 9 = true → exec (.nvmeControllerEnable l) s =
          .next (s.setHlink l.val { s.hlink l.val with
            ccEn := true
            rdy := true
            cfs := false })) ∧
        (s.rbit (lnkA (R.HOST_LINK_STAT + 16 * l.val)) 9 = false → exec (.nvmeControllerEnable l) s = .next s)))

/-- A request that does not stay in one line does nothing. One whose address lies in no range is refused, counted and raises ADDR_ERR; one to
a stack not in RUN is answered ABSENT. Else the controller first serves what waits and can be served; the request is held in self-refresh,
behind an earlier one of its requester, and while its requester is throttled at its row, and otherwise served: its row is opened, a parity
error is counted and takes the rank out; a read answers the stored bytes or fails as uncorrectable (counted, rank out, line poisoned, no
data; a far lane's or a spill's counts in MEM_UE_DROP); a write stores its bytes, poisons the line for a second parity error or where a part
merges into an uncorrectable line, and cleans it otherwise. A bank idle long enough closes; a refresh closes the next bank; a window step
drops the oldest sub-counts and, at the window's end, the throttling. A read of the row log's head latches its entry for the reading master,
the read of its last word pops it. A readout shows the temperature, sets the window and raises 85 °C once; at the trip level three times it
is fatal; a failed one falls back to the hot window and the third raises its cause. The scrubber, on, outside self-refresh, in RUN and not
throttled, goes on by a line, corrects it, or takes its rank out of service. -/
def Obligations.HbmRequestsAndUpkeep : Prop :=
  ∀ s : State,
    (∀ q : HbmReq,
      (hbmReqOk q = false → exec (.hbmAccess q) s = .next s) ∧
      (∀ a (drop : Prop), hbmReqOk q = true → a = q.addr.toNat →
        (drop ↔ tagKind q.tag.toNat = 5 ∨ (tagKind q.tag.toNat = 3 ∧ 0x1000000000 ≤ a)) →
        (∀ n (u : State), hbmPacked s.boot.h48 a = none → n = a / 4096 % 4 →
          u = (s.bump (memA n R.MEM_ADDR_ERR)).raise (0x16 + n) 0 0 →
          (drop → exec (.hbmAccess q) s = .next ((u.bump (rasA n R.MEM_UE_DROP)).emit (.hbmReply q.tag.toNat none))) ∧
          (¬ drop → exec (.hbmAccess q) s = .next (u.emit (.hbmReply q.tag.toNat none)))) ∧
        (∀ p n, hbmPacked s.boot.h48 a = some p → n = p / 4096 % 4 →
          (s.hbmDown a = true → exec (.hbmAccess q) s =
            .next ((s.bump (A.gw (0x16 + n) R.GW_ABSENT_SENT)).emit (.hbmReply q.tag.toNat none))) ∧
          (∀ (t : State) (waits : Prop) (ofs l line rank row bank : Nat), s.hbmDown a = false → t = s.hbmDrain n →
            l = (hbmPlace p).1 → ofs = (hbmPlace p).2 → line = ofs / 64 → rank = t.servingRank n l line →
            row = (Config.hbmRow ofs).toNat → bank = (Config.hbmBank ofs).toNat →
            (waits ↔ t.rbit (memA n R.MEM_STAT) 1 = true ∨ (∃ w ∈ (t.stack n).held, w.tag = q.tag) ∨
              t.rhWaits n q.tag.toNat rank bank row = true) →
            (waits → exec (.hbmAccess q) s = .next (t.setStack n { t.stack n with
              held := (t.stack n).held ++ [q]
              lastReq := t.time.ticks })) ∧
            (¬ waits → ∀ (v u : State) (bad : Bool) (fail : State → State), v = t.rowActivate n q.tag.toNat rank bank row →
              u = (if q.err = .parityOnce ∨ q.err = .parityTwice then
                (((v.setStack n { v.stack n with lastReq := v.time.ticks }).rankCount n rank 2).raise (0x16 + n) 1 1).rankOut n l
                else v.setStack n { v.stack n with lastReq := v.time.ticks }) →
              bad = (q.err == .uncorrectable || u.poisoned n rank line) →
              (∀ y, fail y = ((((y.rankCount n rank 1).setPoison n rank line true).raise (0x16 + n) 1 0).rankOut n l)) →
              (∀ w : State, q.write = none → w = u.bump64 (memA n R.MEM_RD_BYTES) q.len →
                (bad = true ∨ q.err = .parityTwice →
                  (drop → exec (.hbmAccess q) s = .next (((fail w).bump (rasA n R.MEM_UE_DROP)).emit (.hbmReply q.tag.toNat none))) ∧
                  (¬ drop → exec (.hbmAccess q) s = .next ((fail w).emit (.hbmReply q.tag.toNat none)))) ∧
                (∀ z : State, bad = false → q.err ≠ .parityTwice → z = (if q.err = .corrected then w.rankCount n rank 0 else w) →
                  exec (.hbmAccess q) s = .next (z.emit (.hbmReply q.tag.toNat (some (z.hbmBytes a q.len)))))) ∧
              (∀ (w : State) d, q.write = some d → w = u.bump64 (memA n R.MEM_WR_BYTES) q.len →
                (q.err = .parityTwice → exec (.hbmAccess q) s =
                  .next ((w.setPoison n rank line true).emit (.hbmReply q.tag.toNat (some [])))) ∧
                (∀ y z : State, q.err ≠ .parityTwice → d.length ≠ 64 → y = (if q.err = .corrected then w.rankCount n rank 0 else w) →
                  z = (if bad then ((y.rankCount n rank 1).raise (0x16 + n) 1 0).rankOut n l else y) → exec (.hbmAccess q) s =
                    .next (((z.setPoison n rank line bad).hbmWrite a d).emit (.hbmReply q.tag.toNat (some [])))) ∧
                (q.err ≠ .parityTwice → d.length = 64 → exec (.hbmAccess q) s =
                  .next (((w.setPoison n rank line false).hbmWrite a d).emit (.hbmReply q.tag.toNat (some [])))))))))) ∧
    (∀ (n : Fin 4) (rank : Fin 96) (bank : Fin 64) (i : Nat) (b : BankSt), i = rank.val * 64 + bank.val →
      b = spGet (fun _ => BankSt.reset) (s.stack n.val).banks i →
      (b.open_ ≠ none → b.tick * 10 + s.fld (memA n.val R.MEM_PAGE_IDLE) 0 11 * 7 ≤ s.time.ticks * 10 →
        exec (.pageIdlePrecharge n rank bank) s = .next (s.setStack n.val { s.stack n.val with
          banks := spPut (fun _ => BankSt.reset) (s.stack n.val).banks i { b with open_ := none } })) ∧
      (b.open_ = none ∨ s.time.ticks * 10 < b.tick * 10 + s.fld (memA n.val R.MEM_PAGE_IDLE) 0 11 * 7 →
        exec (.pageIdlePrecharge n rank bank) s = .next s)) ∧
    (∀ (n : Fin 4) (i : Nat) (b : BankSt) (t : State), i = (s.stack n.val).refresh →
      b = spGet (fun _ => BankSt.reset) (s.stack n.val).banks i →
      t = s.setStack n.val { s.stack n.val with banks := spPut (fun _ => BankSt.reset) (s.stack n.val).banks i { b with open_ := none } } →
      exec (.refresh n) s = .next (t.setStack n.val { t.stack n.val with refresh := if i + 1 = 96 * 64 then 0 else i + 1 })) ∧
    (∀ (n : Fin 4) (x : MemSt) (last : Bool), x = s.stack n.val → last = (x.step + 1 == 8) →
      exec (.rhWindowStep n) s = .next ((s.setStack n.val { x with
        banks := x.banks.map (fun p => (p.1, { p.2 with rows := p.2.rows.map (fun r => { r with subs := (0 :: r.subs).take 8 }) }))
        step := if last then 0 else x.step + 1
        throttled := if last then [] else x.throttled }).hbmDrain n.val)) ∧
    (∀ (m : Master) (n : Fin 4) (x : MemSt), x = s.stack n.val →
      (s.mayRead m (rasA n.val R.MEM_RH_LOG) → exec (.rhLogReadHead m n) s =
        .next ((s.setStack n.val { x with logLatch := headPut x.logLatch (some m) x.log.head? }).emit
          (.reply m (x.log.head?.elim 0 (fun e => rowLogWord e 0))))) ∧
      (s.mayRead m (rasA n.val (R.MEM_RH_LOG + 12)) → ∀ latch, latch = headPut x.logLatch (some m) none →
        (x.log = [] → exec (.rhLogReadPop m n) s = .next ((s.setStack n.val { x with logLatch := latch }).emit (.reply m 0))) ∧
        (∀ e r, x.log = e :: r → exec (.rhLogReadPop m n) s =
          .next ((s.setStack n.val { x with
            logLatch := latch
            log := r }).emit (.reply m (rowLogWord ((headOf x.logLatch (some m)).getD e) 3)))))) ∧
    (∀ (n : Fin 4) (x : MemSt) (a : Nat), x = s.stack n.val → a = memA n.val R.MEM_STAT →
      (∀ (v : Fin 256) (hot : Nat) (t u w : State), hot = (if 105 ≤ v.val then x.hot + 1 else 0) →
        t = (s.setFld a 8 8 v.val).setStack n.val { x with
          tempFails := 0
          hot := hot
          delayTemp := if delayDue x.delayTemp v.val then some v.val else x.delayTemp } →
        u = (if 85 < v.val then (if t.rbit a 2 then t else (t.setRbit a 2 true).raise (0x16 + n.val) 0 1)
          else if v.val ≤ 83 then t.setRbit a 2 false else t) →
        w = u.setFld thermStatA 16 8 u.hbmHottest →
        (3 ≤ hot → w.awake = true → exec (.tempReadout n (some v)) s = .next (w.chipFatal 4)) ∧
        (hot < 3 ∨ w.awake = false → exec (.tempReadout n (some v)) s = .next w.throttleEval)) ∧
      (∀ t u : State, t = s.setStack n.val { x with tempFails := x.tempFails + 1 } →
        u = (if t.rbit a 2 then t else (t.setRbit a 2 true).raise (0x16 + n.val) 0 1) →
        exec (.tempReadout n none) s = .next (u.raiseIf (x.tempFails + 1 == 3) (0x16 + n.val) 0 2))) ∧
    (∀ (n : Fin 4) (err : HbmErr) (i l line rank : Nat) (off : Prop) (v t u : State), i = (s.stack n.val).scrub →
      l = i / s.rankLines → line = i % s.rankLines → rank = s.servingRank n.val l line →
      (off ↔ s.fld (rasA n.val R.MEM_SCRUB_HOURS) 0 8 = 0 ∨ s.rbit (memA n.val R.MEM_STAT) 1 = true ∨
        s.rgnDown (0x16 + n.val) = true ∨ s.maintWaits n.val rank (64 * line) = true) →
      v = s.maintain n.val rank (64 * line) →
      t = v.setStack n.val { v.stack n.val with scrub := if i + 1 = 94 * v.rankLines then 0 else i + 1 } →
      u = (if err = .parityOnce ∨ err = .parityTwice then ((t.rankCount n.val rank 2).raise (0x16 + n.val) 1 1).rankOut n.val l else t) →
      (off → exec (.patrolScrub n err) s = .next s) ∧
      (¬ off → err = .uncorrectable ∨ err = .parityTwice ∨ u.poisoned n.val rank line = true → exec (.patrolScrub n err) s =
        .next ((((u.rankCount n.val rank 1).setPoison n.val rank line true).raise (0x16 + n.val) 1 0).rankOut n.val l)) ∧
      (¬ off → err ≠ .uncorrectable → err ≠ .parityTwice → u.poisoned n.val rank line = false → exec (.patrolScrub n err) s =
        .next (if err = .corrected then u.rankCount n.val rank 0 else u)))

/-- By a master whose write of MEM_RAS_CMD passes R91: RETIRE takes a logical rank out of service and is refused for a bad, moving or waiting
one; VERIFY starts on a rank not in service and is refused otherwise or while one runs. With a migration, its controller in RUN, outside
self-refresh and not throttled at the lines' rows, a copied line is read and written and moves the pointer; its poison goes with it; the
last line ends the migration: the logical rank is redirected to the spare, the old one retired, the next waiting rank starts. A verified
spare that fails is no longer free; in self-refresh the verification waits. The record, once due, is written to both places with every bit
it held. With SR_CTRL on, in RUN, nothing held and 10 ms past the last request the stack closes its pages and enters self-refresh, or
abandons it; 1 µs after its entry it leaves it for a held request, a migration or a verification, and what can be served is. Otherwise
nothing happens. -/
def Obligations.RanksRetireAndStacksRest : Prop :=
  ∀ (s : State) (n : Fin 4) (x : MemSt) (st : Nat), x = s.stack n.val → st = rasA n.val R.MEM_RAS_STAT →
    (∀ (m : Master) (v : Word) (rank : Nat) (u : State) (bad busy : Prop), s.mayWrite m (rasA n.val R.MEM_RAS_CMD) →
      rank = natField v.toNat 8 7 → u = (s.setFld st 3 7 rank).setRbit st 1 false →
      (bad ↔ 94 ≤ rank ∨ (∃ g, x.migration = some g ∧ g.logical = rank) ∨ rank ∈ x.waiting) →
      (busy ↔ s.rbit st 0 = true ∨ 96 ≤ rank ∨ u.rankServes n.val rank = true) →
      (¬ bad → exec (.rasRetire m n v) s = .next (u.rankOut n.val rank)) ∧
      (bad → exec (.rasRetire m n v) s = .next ((u.setRbit st 1 true).raise (0x16 + n.val) 1 8)) ∧
      (¬ busy → exec (.rasVerify m n v) s = .next ((u.setRbit st 0 true).setStack n.val { x with verify := some rank })) ∧
      (busy → exec (.rasVerify m n v) s = .next ((u.setRbit st 1 true).raise (0x16 + n.val) 1 8))) ∧
    (x.migration = none → ∀ b, exec (.migrationCopyLine n b) s = .next s) ∧
    (∀ (g h : Migration) (b bad : Bool) (off : Prop) (r t w : State), x.migration = some g → h = { g with next := g.next + 1 } →
      (off ↔ s.rgnDown (0x16 + n.val) = true ∨ s.rbit (memA n.val R.MEM_STAT) 1 = true ∨
        s.maintWaits n.val g.old (64 * g.next) = true ∨ s.maintWaits n.val g.spare (64 * g.next) = true) →
      r = (s.maintain n.val g.old (64 * g.next)).maintain n.val g.spare (64 * g.next) →
      bad = (b || r.poisoned n.val g.old g.next) →
      t = State.setPoison (if bad then r.rankCount n.val g.old 1 else r) n.val g.spare g.next bad →
      w = t.setStack n.val { t.stack n.val with
        migration := some h
        lastReq := t.time.ticks } →
      (off → exec (.migrationCopyLine n b) s = .next s) ∧
      (¬ off → g.next + 1 < w.rankLines → exec (.migrationCopyLine n b) s = .next (w.migShow n.val)) ∧
      (∀ y z : State, ¬ off → w.rankLines ≤ g.next + 1 →
        y = w.wr (rasA n.val (R.MEM_REDIR + 4 * g.logical)) (BitVec.ofNat 32 g.spare) →
        z = ((y.setStack n.val { w.stack n.val with
          migration := none
          retired := (w.stack n.val).retired ++ [g.old]
          waiting := (w.stack n.val).waiting.drop 1 }).migShow n.val).raise (0x16 + n.val) 1 3 →
        exec (.migrationCopyLine n b) s = .next ((w.stack n.val).waiting.head?.elim z (z.rankOut n.val)))) ∧
    (x.verify = none ∨ s.rbit (memA n.val R.MEM_STAT) 1 = true → ∀ b, exec (.verifyDone n b) s = .next s) ∧
    (∀ (r : Nat) (b : Bool), x.verify = some r → s.rbit (memA n.val R.MEM_STAT) 1 = false → exec (.verifyDone n b) s = .next
      (((((s.setStack n.val { x with
        verify := none
        spares := if b then x.spares else x.spares.erase r
        lastReq := s.time.ticks }).setRbit st 0 false).setRbit st 2 b).migShow n.val).raise (0x16 + n.val) 1 7)) ∧
    (s.mem.recordDue = false → exec .retirementRecordWrite s = .next s) ∧
    (s.mem.recordDue = true → ∃ (bits : Nat) (b : List Byte) (u : State),
      bits = s.recordBits ||| (s.retiredBits 0 + s.retiredBits 1 * 2 ^ 96 + s.retiredBits 2 * 2 ^ 192 + s.retiredBits 3 * 2 ^ 288) ∧
      b = leBytes 4 recordMagic ++ leBytes 48 bits ++ List.replicate 8 0 ∧
      u = (s.flashWrite 0x3D020000 (b ++ leBytes 4 (crc32Std b))).flashWrite 0x3D021000 (b ++ leBytes 4 (crc32Std b)) ∧
      exec .retirementRecordWrite s = .next { u with mem := { s.mem with recordDue := false } }) ∧
    (∀ (u : State) (ab : Bool) (off : Prop),
      (off ↔ s.rbit (memA n.val R.MEM_SR_CTRL) 0 = false ∨ s.rbit (memA n.val R.MEM_STAT) 1 = true ∨
        s.rgnDown (0x16 + n.val) = true ∨ x.held ≠ [] ∨ s.time.ticks < x.lastReq + 10000 * ticksPerUs) →
      u = s.setStack n.val { x with
        banks := x.banks.map (fun p => (p.1, { p.2 with open_ := none }))
        srTick := s.time.ticks } →
      (¬ off →
        exec (.selfRefreshEntry n false) s = .next ((u.setRbit (memA n.val R.MEM_STAT) 1 true).bump (memA n.val R.MEM_SR_CNT)) ∧
        exec (.selfRefreshEntry n true) s = .next (u.bump (memA n.val R.MEM_SR_ABANDON))) ∧
      (off → exec (.selfRefreshEntry n ab) s = .next s)) ∧
    (∀ off : Prop, (off ↔ s.rbit (memA n.val R.MEM_STAT) 1 = false ∨ (x.held = [] ∧ x.migration = none ∧ x.verify = none) ∨
        s.time.ticks < x.srTick + ticksPerUs) →
      (off → exec (.selfRefreshExit n) s = .next s) ∧
      (¬ off → exec (.selfRefreshExit n) s = .next ((s.setRbit (memA n.val R.MEM_STAT) 1 false).hbmDrain n.val)))

/-- A whole pair of a master that may write SYS_RGN_RESET: for SYS, and RUN after a failed write list, nothing is stored (log entry 74: and
nothing logged). Accepted, it is stored; a region not out of reset takes no more. RUN ends RESTORE, is due in FENCING, ABSENT and
POWERED_DOWN where it clears the latch, and is no change in RUN and RELEASING. RESET and POWER_DOWN begin the fence in RUN, choose its end
in FENCING, begin again from ABSENT in RELEASING and RESTORE, lead from POWERED_DOWN to ABSENT and back, and are no change where they lead.
Once the drain ends the region is reset, ABSENT, its epoch one higher, its held accesses answered, and powered off if asked (`abs`). A
release is due 10 µs later for a RUN, or for a fatal entry by policy unless latched, and not after a failed list; it goes on once the
regions it needs run, else shows WAIT_DEP. The write list then ends it in RUN (`run`) or RESTORE, waits at a POLL, or fails the region,
which also happens for illegal tiles or a preload that fails. -/
def Obligations.RegionCommandsRunTheFence : Prop :=
  ∀ (s : State) (r : Fin 26) (abs : State → Bool → State) (run : State → State),
    (∀ u t w y : State, t = (u.regionReset r.val false).setRgnState r.val .absent →
      w = State.setFld (t.setFld (rgnStatA r.val) 3 1 0) (rgnStatA r.val) 4 4 (t.fld (rgnStatA r.val) 4 4 + 1) →
      y = (w.setRst r.val { w.rst r.val with tick := w.time.ticks }).heldAnswer r.val →
      abs u false = y ∧ abs u true = y.regionPowerOff r.val) →
    (∀ u, run u = (State.raise (((u.setRst r.val { u.rst r.val with
      auto := false
      runDue := false
      fromPower := false }).setRgnState r.val .run).setRbit (A.rgn R.SYS_RGN_READY) r.val true) 0 6 1).regionReadyFx r.val) →
    (∀ (m : Master) (u v w : State), s.mayWriteCp m (rgnResetA r.val) → u = s.cpStore 3 (rgnResetA r.val) 0 →
      v = s.cpStore 3 (rgnResetA r.val) 1 → w = s.cpStore 3 (rgnResetA r.val) 2 →
      (r.val = 0 → exec (.rgnRun m r) s = .next s ∧ exec (.rgnReset m r) s = .next s ∧ exec (.rgnPowerDown m r) s = .next s) ∧
      (s.rbit (rgnStatA r.val) 13 = true → exec (.rgnRun m r) s = .next s) ∧
      (r.val ≠ 0 → s.rbit (rgnStatA r.val) 13 = false →
        (u.live r.val = false → exec (.rgnRun m r) s = .next u) ∧
        (u.live r.val = true →
          (u.rgnState r.val = .restore → exec (.rgnRun m r) s = .next (run u)) ∧
          (u.rgnState r.val = .absent ∨ u.rgnState r.val = .poweredDown ∨ u.rgnState r.val = .fencing → exec (.rgnRun m r) s =
            .next ((u.setRst r.val { u.rst r.val with runDue := true }).setFld (rgnStatA r.val) 12 1 0)) ∧
          (u.rgnState r.val = .run ∨ u.rgnState r.val = .releasing → exec (.rgnRun m r) s = .next u))) ∧
      (r.val ≠ 0 →
        (v.live r.val = false → exec (.rgnReset m r) s = .next v) ∧
        (v.live r.val = true →
          (v.rgnState r.val = .run → exec (.rgnReset m r) s = .next ((v.setRst r.val { v.rst r.val with
            toPower := false
            runDue := false
            auto := false }).setRgnState r.val .fencing)) ∧
          (v.rgnState r.val = .fencing → exec (.rgnReset m r) s = .next (v.setRst r.val { v.rst r.val with toPower := false })) ∧
          (v.rgnState r.val = .poweredDown → exec (.rgnReset m r) s =
            .next ((v.setRst r.val { v.rst r.val with tick := v.time.ticks }).setRgnState r.val .absent)) ∧
          (v.rgnState r.val = .releasing ∨ v.rgnState r.val = .restore → exec (.rgnReset m r) s = .next (abs (v.setRst r.val { v.rst r.val with
            runDue := false
            auto := false }) false)) ∧
          (v.rgnState r.val = .absent → exec (.rgnReset m r) s = .next v)) ∧
        (w.live r.val = false → exec (.rgnPowerDown m r) s = .next w) ∧
        (w.live r.val = true →
          (w.rgnState r.val = .run → exec (.rgnPowerDown m r) s = .next ((w.setRst r.val { w.rst r.val with
            toPower := true
            runDue := false
            auto := false }).setRgnState r.val .fencing)) ∧
          (w.rgnState r.val = .fencing → exec (.rgnPowerDown m r) s = .next (w.setRst r.val { w.rst r.val with toPower := true })) ∧
          (w.rgnState r.val = .absent → exec (.rgnPowerDown m r) s = .next ((w.setRst r.val { w.rst r.val with
            runDue := false
            auto := false }).regionPowerOff r.val)) ∧
          (w.rgnState r.val = .releasing ∨ w.rgnState r.val = .restore → exec (.rgnPowerDown m r) s =
            .next (abs (w.setRst r.val { w.rst r.val with
              runDue := false
              auto := false }) true)) ∧
          (w.rgnState r.val = .poweredDown → exec (.rgnPowerDown m r) s = .next w)))) ∧
    (s.live r.val = true → s.rgnState r.val = .fencing → exec (.regionAbsent r) s = .next (abs s (s.rst r.val).toPower)) ∧
    (s.live r.val = false ∨ s.rgnState r.val ≠ .fencing → exec (.regionAbsent r) s = .next s) ∧
    (∀ due : Prop, (due ↔ s.live r.val = true ∧ (s.rgnState r.val = .absent ∨ s.rgnState r.val = .poweredDown) ∧
        (s.rst r.val).tick + 10 * ticksPerUs ≤ s.time.ticks ∧ s.rbit (rgnStatA r.val) 13 = false ∧
        ((s.rst r.val).runDue = true ∨
          ((s.rst r.val).auto = true ∧ s.rbit (policyA r.val) 0 = true ∧ s.rbit (rgnStatA r.val) 12 = false))) →
      (¬ due → exec (.regionRelease r) s = .next s) ∧
      (due → (rgnDepends r.val).all s.rgnRuns = true → exec (.regionRelease r) s = .next ((((s.setRst r.val { s.rst r.val with
        runDue := false
        listPos := 0
        pollTick := none }).setFld (rgnStatA r.val) 3 1 0).setRgnState r.val .releasing).regionUp r.val)) ∧
      (due → (rgnDepends r.val).all s.rgnRuns = false → s.rbit (rgnStatA r.val) 3 = false → exec (.regionRelease r) s =
        .next ((s.setFld (rgnStatA r.val) 3 1 1).raise 0 6 2)) ∧
      (due → (rgnDepends r.val).all s.rgnRuns = false → s.rbit (rgnStatA r.val) 3 = true → exec (.regionRelease r) s = .next s)) ∧
    (s.live r.val = false ∨ s.rgnState r.val ≠ .releasing → exec (.regionReady r) s = .next s) ∧
    (∀ (list : Nat → Option (List Byte)) (fuel : Nat) (out : ListStep), s.live r.val = true → s.rgnState r.val = .releasing →
      s.rgnList r.val = (list, fuel) → out = listGo list r.val fuel (s.rst r.val).listPos (s.rst r.val).pollTick s →
      (∀ p t, out = .go p t → exec (.regionReady r) s = .next t) ∧
      (∀ p since t, out = .wait p since t → exec (.regionReady r) s = .next (t.setRst r.val { t.rst r.val with
        listPos := p
        pollTick := some since })) ∧
      (∀ b t, out = .fail b t → exec (.regionReady r) s = .next ((State.regionFatal (t.setRst r.val { t.rst r.val with
        listPos := 0
        pollTick := none }) r.val b 3).setRbit (rgnStatA r.val) 13 true)) ∧
      (∀ n t (u v : State), out = .ended n t → u = t.setRst r.val { t.rst r.val with
          listPos := 0
          pollTick := none } → v = u.extendList (listBytes list n) →
        (r.val = 7 → u.tilesOk = false → exec (.regionReady r) s = .next ((u.regionFatal r.val 0 3).setRbit (rgnStatA r.val) 13 true)) ∧
        (r.val ≠ 7 ∨ u.tilesOk = true →
          (v.rgnPreload r.val = none →
            exec (.regionReady r) s = .next ((u.regionFatal r.val 0x3F 3).setRbit (rgnStatA r.val) 13 true)) ∧
          (∀ w : State, v.rgnPreload r.val = some w →
            (w.rbit (policyA r.val) 1 = false → exec (.regionReady r) s = .next (run w)) ∧
            (w.rbit (policyA r.val) 1 = true → exec (.regionReady r) s = .next (w.setRgnState r.val .restore))))))

/-- A BLOCK_FATAL error of an awake device in a block of a live region shows in GW_FATAL_INFO, ends the open work of a learn or search block
with ERR 6 and holds the block; the third in 1 s, and one in a gateway block, is the region's; else by policy, and in SYS, the block awaits
release, 10 µs later, with its epoch and memories. A REGION_FATAL error of SYS is CHIP_FATAL; of another region it sets its fatal bit,
latches the third in 60 s down, and enters ABSENT at once unless it is there. A chip-level cause of an awake device (D2D with a module gone,
RAIL with power good) enters the fail-safe with its code and the values at detection: PPS outputs low, lasers off, the fault written, a
thermal trip shown; once in it a further one changes nothing; AUTO_RESET then resets the chip. A D2D module that fails leaves the others
and raises its cause. A late reply and one of an old epoch count at the gateway. Sensor samples of an awake device are shown, set the levels,
and the third hot one in a row, or a die with no working sensor, is fatal; supply readings are shown. Otherwise nothing happens. -/
def Obligations.ErrorsEscalateToTheFailSafe : Prop :=
  ∀ s : State,
    (∀ (r : Fin 26) (b : Fin 64) (k : Nat) (on : Prop), k = r.val * 64 + b.val →
      (on ↔ s.awake = true ∧ s.live r.val = true ∧ blockExists r.val b.val = true) →
      (¬ on → exec (.blockFatal r b) s = .next s ∧ exec (.regionFatal r b) s = .next s) ∧
      (on → exec (.regionFatal r b) s = .next (s.regionFatal r.val b.val 2) ∧
        (b.val = 0x3F → exec (.blockFatal r b) s = .next (s.regionFatal r.val b.val 2)) ∧
        (b.val ≠ 0x3F → ∀ (t u v w : State) (old : List (Nat × Nat)), t = (s.fatalInfo r.val b.val 1).raise r.val 0x3F 0 →
          u = (if t.blkHeld r.val b.val = false ∧ 3 ≤ r.val ∧ r.val ≤ 6 then
            (if b.val = 9 then t.lrnDown (r.val - 3)
              else if b.val = 10 ∨ b.val = 11 then t.arrDown (r.val - 3) (b.val == 11) else t) else t) →
          v = u.setRbit (regAddr r.val b.val 0x010) 1 true →
          old = v.flt.blockFatals.filter (fun p => decide (v.time.ticks < p.2 + ticksPerSec)) →
          w = { v with flt := { v.flt with blockFatals := (k, v.time.ticks) :: old } } →
          (2 ≤ (old.filter (fun p => p.1 == k)).length → exec (.blockFatal r b) s = .next (w.regionFatal r.val b.val 2)) ∧
          ((old.filter (fun p => p.1 == k)).length < 2 →
            (r.val ≠ 0 → w.rbit (policyA r.val) 2 = false → exec (.blockFatal r b) s = .next w) ∧
            (r.val = 0 ∨ w.rbit (policyA r.val) 2 = true → exec (.blockFatal r b) s = .next { w with flt := { w.flt with
              blockAuto := if w.flt.blockAuto.contains k then w.flt.blockAuto else w.flt.blockAuto ++ [k] } })))) ∧
      (∀ (due : Prop) (t : State), (due ↔ s.flt.blockAuto.contains k = true ∧
          ∀ p, s.flt.blockFatals.find? (fun p => p.1 == k) = some p → p.2 + 10 * ticksPerUs ≤ s.time.ticks) →
        t = { s with flt := { s.flt with blockAuto := s.flt.blockAuto.filter (fun x => x != k) } } →
        (due → exec (.blockAutoRelease r b) s =
          .next (((t.setRbit (regAddr r.val b.val 0x010) 1 false).blockEpoch r.val b.val).blockInit r.val b.val)) ∧
        (¬ due → exec (.blockAutoRelease r b) s = .next s)) ∧
      (on → r.val = 0 → exec (.regionFatal r b) s = .next (((s.fatalInfo 0 b.val 2).raise 0 0x3F 1).chipFatal 2)) ∧
      (on → r.val ≠ 0 → ∀ (v w x : State) (l : List Nat), v = State.raise (State.setRbit
          ((s.fatalInfo r.val b.val 2).raise r.val 0x3F 1) (A.rgn R.SYS_RGN_FATAL) r.val true) 0 6 0 →
        l = v.time.ticks :: v.within (60 * ticksPerSec) (v.rst r.val).fatalTicks →
        w = v.setRst r.val { v.rst r.val with
          fatalTicks := l
          auto := if v.rgnState r.val = .absent ∨ v.rgnState r.val = .poweredDown then (v.rst r.val).auto else true } →
        x = (if 3 ≤ l.length ∧ w.rbit (rgnStatA r.val) 12 = false then (w.setFld (rgnStatA r.val) 12 1 1).raise 0 6 3 else w) →
        (x.rgnState r.val = .absent ∨ x.rgnState r.val = .poweredDown → exec (.regionFatal r b) s = .next x) ∧
        (x.rgnState r.val ≠ .absent → x.rgnState r.val ≠ .poweredDown → exec (.regionFatal r b) s =
          .next (x.enterAbsent r.val true (x.rgnState r.val == .fencing && (x.rst r.val).toPower))))) ∧
    (∀ (c : ChipCause) (on : Prop), (on ↔ s.awake = true ∧ s.flt.failsafe = none ∧ (c = .d2d → s.flt.d2dModules < 4) ∧
        (c = .rail → s.boot.vin12 = true ∧ s.boot.rails = true ∧ s.boot.resetN = true)) →
      (¬ on → exec (.chipFatal c) s = .next s) ∧
      (on → ∀ (at_ fatal : Nat) (u v : State), at_ = (if s.time.wtValid then s.wt else 0) →
        fatal = (s.rd (A.rgn R.SYS_RGN_FATAL)).toNat →
        u = (List.range 64).foldl State.txDisable ((List.range 4).foldl State.ppsLow { s with flt := { s.flt with
          failsafe := some (chipCode c, at_, s.gstat, fatal) } }) →
        v = (u.faultWrite (chipCode c) (tvSec at_ % 2 ^ 48) (tvNs at_) s.gstat fatal).setRbit (A.rgn R.SYS_CHIP_FAULT) 31 true →
        exec (.chipFatal c) s = .next (if c = .thermalTrip then { v with therm := { v.therm with tripLow := true } } else v))) ∧
    (s.flt.failsafe ≠ none → s.rbit (A.rgn R.SYS_FAILSAFE_CTRL) 0 = true → exec .failsafeAutoReset s = .next s.chipReset) ∧
    (s.flt.failsafe = none ∨ s.rbit (A.rgn R.SYS_FAILSAFE_CTRL) 0 = false → exec .failsafeAutoReset s = .next s) ∧
    exec .d2dModuleFail s = .next { s with flt := { s.flt with
      d2dModules := s.flt.d2dModules - 1
      d2dCause := true } } ∧
    (∀ r : Fin 26,
      (regionExists r.val = true → s.rgnRuns r.val = true →
        exec (.replyTimeout r) s = .next ((s.bump (A.gw r.val R.GW_REPLY_TMO)).raise r.val 0x3F 3)) ∧
      (regionExists r.val = false ∨ s.rgnRuns r.val = false → exec (.replyTimeout r) s = .next s) ∧
      (regionExists r.val = true → s.live r.val = true →
        exec (.epochDiscard r) s = .next ((s.bump (A.gw r.val R.GW_EPOCH_DISCARD)).raise r.val 0x3F 2)) ∧
      (regionExists r.val = false ∨ s.live r.val = false → exec (.epochDiscard r) s = .next s)) ∧
    (∀ (x : SupplyStat) (v : Nat),
      v = x.vin12.val + x.power.val * 2 ^ 11 + (if x.vsbOk then 2 ^ 22 else 0) + (if 1140 ≤ x.vin12.val then 2 ^ 23 else 0) +
        (if s.pwrOk then 2 ^ 24 else 0) + (if x.los then 2 ^ 25 else 0) →
      (s.awake = true → exec (.supplyStatusUpdate x) s =
        .next ((s.wr (A.therm R.SYS_PWR_STAT) (BitVec.ofNat 32 v)).wr (A.therm R.SYS_PWR_VSB) (BitVec.ofNat 32 x.vsb33.val))) ∧
      (s.awake = false → exec (.supplyStatusUpdate x) s = .next s)) ∧
    (∀ (l : List (Option (BitVec 8))),
      (s.awake = false ∨ l.length ≠ 48 → exec (.thermSample l) s = .next s) ∧
      (∀ (t v u w x : State) (f d top : Option Int) (n : Nat), s.awake = true → l.length = 48 →
        t = State.raiseIf ((l.zipIdx).foldl (fun (s : State) p => s.sensorTake p.2 p.1) s) (l.any (·.isNone)) 0 13 3 →
        f = hottest t.fdie → d = hottest t.tdie → top = hottest [f, d] → v = (t.showHottest 0 f).showHottest 8 d →
        u = v.setFld thermStatA 16 8 t.hbmHottest → n = (if top.any (fun x => decide (115 ≤ x)) then u.therm.hot + 1 else 0) →
        w = { u with therm := { u.therm with
          hot := n
          sampled := true
          tripLow := u.therm.tripLow && !top.any (fun x => decide (x < 95)) } } →
        x = (if w.boot.dev = .boot ∧ w.boot.started = false then w.setRbit thermStatA 26 w.bootHold else w).warnEval →
        (f = none ∨ d = none ∨ 3 ≤ n → exec (.thermSample l) s = .next (x.chipFatal 4)) ∧
        (f ≠ none → d ≠ none → n < 3 → exec (.thermSample l) s = .next x.throttleEval)))
end

