-- ==== Sys2Proof/Laws/Sparse.lean ====
section
/-! SUPPORT. The laws of sparse data: a read after a write, and every operation keeps the canonical form. -/

namespace Sys2Proof.Machine

variable {α : Type} [DecidableEq α] {d : Nat → α} {l : List (Nat × α)} {k j : Nat} {v : α}

/-- A wider bound holds where a narrower one does. -/
theorem spWfFrom_mono {lo lo' : Nat} (h : lo' ≤ lo) (w : spWfFrom d lo l = true) : spWfFrom d lo' l = true := by
  cases l with
  | nil => rfl
  | cons p r => simp [spWfFrom] at w ⊢; exact ⟨⟨Nat.le_trans h w.1.1, w.1.2⟩, w.2⟩

/-- An insertion at or above the bound keeps the canonical form. -/
theorem spIns_wfFrom {lo : Nat} (w : spWfFrom d lo l = true) (hk : lo ≤ k) (hv : v ≠ d k) :
    spWfFrom d lo (spIns l k v) = true := by
  induction l generalizing lo with
  | nil => simp [spIns, spWfFrom, hk, hv]
  | cons p r ih =>
    obtain ⟨j, x⟩ := p
    simp only [spWfFrom, Bool.and_eq_true, decide_eq_true_eq] at w
    simp only [spIns]
    split
    · simp [spWfFrom, hk, hv, w.1.2, w.2]; omega
    · split
      · subst k; simp [spWfFrom, hk, hv, w.2]
      · simp only [spWfFrom, Bool.and_eq_true, decide_eq_true_eq]
        exact ⟨w.1, ih w.2 (by omega)⟩

/-- A deletion keeps the canonical form. -/
theorem spDel_wfFrom {lo : Nat} (w : spWfFrom d lo l = true) : spWfFrom d lo (spDel l k) = true := by
  induction l generalizing lo with
  | nil => rfl
  | cons p r ih =>
    obtain ⟨j, x⟩ := p
    simp only [spWfFrom, Bool.and_eq_true, decide_eq_true_eq] at w
    simp only [spDel]
    split
    · exact spWfFrom_mono (by omega) (ih w.2)
    · simp only [spWfFrom, Bool.and_eq_true, decide_eq_true_eq]
      exact ⟨w.1, ih w.2⟩

/-- A write keeps the canonical form. -/
theorem spPut_wf (w : spWf d l = true) : spWf d (spPut d l k v) = true := by
  unfold spPut
  split
  · exact spDel_wfFrom w
  · exact spIns_wfFrom w (Nat.zero_le _) ‹_›

/-- Dropping entries keeps the canonical form. -/
theorem spFilter_wfFrom {lo : Nat} (p : Nat × α → Bool) (w : spWfFrom d lo l = true) :
    spWfFrom d lo (l.filter p) = true := by
  induction l generalizing lo with
  | nil => rfl
  | cons q r ih =>
    obtain ⟨j, x⟩ := q
    simp only [spWfFrom, Bool.and_eq_true, decide_eq_true_eq] at w
    simp only [List.filter]
    split
    · simp only [spWfFrom, Bool.and_eq_true, decide_eq_true_eq]
      exact ⟨w.1, ih w.2⟩
    · exact spWfFrom_mono (by omega) (ih w.2)

theorem spFilter_wf (p : Nat × α → Bool) (w : spWf d l = true) : spWf d (l.filter p) = true := spFilter_wfFrom p w

/-! ## Reads -/

/-- In a canonical list every key below the bound reads as unlisted. -/
theorem spGet_below {lo : Nat} (w : spWfFrom d lo l = true) (h : k < lo) : spGet d l k = d k := by
  induction l generalizing lo with
  | nil => rfl
  | cons p r ih =>
    obtain ⟨j, x⟩ := p
    simp only [spWfFrom, Bool.and_eq_true, decide_eq_true_eq] at w
    simp only [spGet]
    rw [if_neg (by omega), ih w.2 (by omega)]

omit [DecidableEq α] in
theorem spGet_spIns (l : List (Nat × α)) (k j : Nat) (v : α) :
    spGet d (spIns l k v) j = if j = k then v else spGet d l j := by
  induction l with
  | nil => simp [spIns, spGet]
  | cons p r ih =>
    obtain ⟨i, x⟩ := p
    simp only [spIns]
    split
    · simp only [spGet]
    · split
      · subst k; simp only [spGet]; split <;> simp [*]
      · simp only [spGet, ih]
        split
        · rename_i h1 h2 h3; subst h3; rw [if_neg (Ne.symm h2)]
        · rfl

omit [DecidableEq α] in
theorem spGet_spDel (l : List (Nat × α)) (k j : Nat) :
    spGet d (spDel l k) j = if j = k then d k else spGet d l j := by
  induction l with
  | nil => simp only [spDel, spGet]; split <;> simp [*]
  | cons p r ih =>
    obtain ⟨i, x⟩ := p
    simp only [spDel]
    split
    · subst k
      simp only [ih, spGet]
      split <;> rfl
    · simp only [spGet, ih]
      split
      · rename_i h1 h2; subst h2; rw [if_neg (fun e => h1 e.symm)]
      · rfl

/-- A read after a write, in any list: the value written at its key, what was there at every other. -/
theorem spGet_spPut (l : List (Nat × α)) (k j : Nat) (v : α) :
    spGet d (spPut d l k v) j = if j = k then v else spGet d l j := by
  unfold spPut
  split
  · rename_i h; rw [spGet_spDel, h]
  · exact spGet_spIns l k j v

@[simp] theorem spGet_spPut_self (l : List (Nat × α)) (k : Nat) (v : α) : spGet d (spPut d l k v) k = v := by
  rw [spGet_spPut, if_pos rfl]

theorem spGet_spPut_ne (l : List (Nat × α)) (h : j ≠ k) (v : α) : spGet d (spPut d l k v) j = spGet d l j := by
  rw [spGet_spPut, if_neg h]

end Sys2Proof.Machine
end

