-- ==== Sys2Proof/Laws/State.lean ====
section
/-! SUPPORT. The small lemmas of the state: for each update the fields it leaves, true by definition; reads after writes of
registers and tables; and what raising a cause can change. -/

namespace Sys2Proof.Machine

variable (s : State)

/-! ## wr -/

@[simp] theorem State.wr_tabs (a : Nat) (v : Word) : (s.wr a v).tabs = s.tabs := rfl
@[simp] theorem State.wr_time (a : Nat) (v : Word) : (s.wr a v).time = s.time := rfl
@[simp] theorem State.wr_ctl (a : Nat) (v : Word) : (s.wr a v).ctl = s.ctl := rfl
@[simp] theorem State.wr_boot (a : Nat) (v : Word) : (s.wr a v).boot = s.boot := rfl
@[simp] theorem State.wr_flt (a : Nat) (v : Word) : (s.wr a v).flt = s.flt := rfl
@[simp] theorem State.wr_hbm (a : Nat) (v : Word) : (s.wr a v).hbm = s.hbm := rfl
@[simp] theorem State.wr_flash (a : Nat) (v : Word) : (s.wr a v).flash = s.flash := rfl
@[simp] theorem State.wr_line (a : Nat) (v : Word) : (s.wr a v).line = s.line := rfl
@[simp] theorem State.wr_pipes (a : Nat) (v : Word) : (s.wr a v).pipes = s.pipes := rfl
@[simp] theorem State.wr_fwd (a : Nat) (v : Word) : (s.wr a v).fwd = s.fwd := rfl
@[simp] theorem State.wr_ver (a : Nat) (v : Word) : (s.wr a v).ver = s.ver := rfl
@[simp] theorem State.wr_asc (a : Nat) (v : Word) : (s.wr a v).asc = s.asc := rfl
@[simp] theorem State.wr_buf (a : Nat) (v : Word) : (s.wr a v).buf = s.buf := rfl
@[simp] theorem State.wr_que (a : Nat) (v : Word) : (s.wr a v).que = s.que := rfl
@[simp] theorem State.wr_sec (a : Nat) (v : Word) : (s.wr a v).sec = s.sec := rfl
@[simp] theorem State.wr_cpu (a : Nat) (v : Word) : (s.wr a v).cpu = s.cpu := rfl
@[simp] theorem State.wr_host (a : Nat) (v : Word) : (s.wr a v).host = s.host := rfl
@[simp] theorem State.wr_mem (a : Nat) (v : Word) : (s.wr a v).mem = s.mem := rfl
@[simp] theorem State.wr_fab (a : Nat) (v : Word) : (s.wr a v).fab = s.fab := rfl
@[simp] theorem State.wr_img (a : Nat) (v : Word) : (s.wr a v).img = s.img := rfl
@[simp] theorem State.wr_therm (a : Nat) (v : Word) : (s.wr a v).therm = s.therm := rfl
@[simp] theorem State.wr_out (a : Nat) (v : Word) : (s.wr a v).out = s.out := rfl
@[simp] theorem State.wr_freeCtr (a : Nat) (v : Word) : (s.wr a v).freeCtr = s.freeCtr := rfl
@[simp] theorem State.wr_pending (a : Nat) (v : Word) : (s.wr a v).pending = s.pending := rfl

/-! ## setFld -/

@[simp] theorem State.setFld_tabs (a lo w v : Nat) : (s.setFld a lo w v).tabs = s.tabs := rfl
@[simp] theorem State.setFld_time (a lo w v : Nat) : (s.setFld a lo w v).time = s.time := rfl
@[simp] theorem State.setFld_ctl (a lo w v : Nat) : (s.setFld a lo w v).ctl = s.ctl := rfl
@[simp] theorem State.setFld_boot (a lo w v : Nat) : (s.setFld a lo w v).boot = s.boot := rfl
@[simp] theorem State.setFld_flt (a lo w v : Nat) : (s.setFld a lo w v).flt = s.flt := rfl
@[simp] theorem State.setFld_hbm (a lo w v : Nat) : (s.setFld a lo w v).hbm = s.hbm := rfl
@[simp] theorem State.setFld_flash (a lo w v : Nat) : (s.setFld a lo w v).flash = s.flash := rfl
@[simp] theorem State.setFld_line (a lo w v : Nat) : (s.setFld a lo w v).line = s.line := rfl
@[simp] theorem State.setFld_pipes (a lo w v : Nat) : (s.setFld a lo w v).pipes = s.pipes := rfl
@[simp] theorem State.setFld_fwd (a lo w v : Nat) : (s.setFld a lo w v).fwd = s.fwd := rfl
@[simp] theorem State.setFld_ver (a lo w v : Nat) : (s.setFld a lo w v).ver = s.ver := rfl
@[simp] theorem State.setFld_asc (a lo w v : Nat) : (s.setFld a lo w v).asc = s.asc := rfl
@[simp] theorem State.setFld_buf (a lo w v : Nat) : (s.setFld a lo w v).buf = s.buf := rfl
@[simp] theorem State.setFld_que (a lo w v : Nat) : (s.setFld a lo w v).que = s.que := rfl
@[simp] theorem State.setFld_sec (a lo w v : Nat) : (s.setFld a lo w v).sec = s.sec := rfl
@[simp] theorem State.setFld_cpu (a lo w v : Nat) : (s.setFld a lo w v).cpu = s.cpu := rfl
@[simp] theorem State.setFld_host (a lo w v : Nat) : (s.setFld a lo w v).host = s.host := rfl
@[simp] theorem State.setFld_mem (a lo w v : Nat) : (s.setFld a lo w v).mem = s.mem := rfl
@[simp] theorem State.setFld_fab (a lo w v : Nat) : (s.setFld a lo w v).fab = s.fab := rfl
@[simp] theorem State.setFld_img (a lo w v : Nat) : (s.setFld a lo w v).img = s.img := rfl
@[simp] theorem State.setFld_therm (a lo w v : Nat) : (s.setFld a lo w v).therm = s.therm := rfl
@[simp] theorem State.setFld_out (a lo w v : Nat) : (s.setFld a lo w v).out = s.out := rfl
@[simp] theorem State.setFld_freeCtr (a lo w v : Nat) : (s.setFld a lo w v).freeCtr = s.freeCtr := rfl
@[simp] theorem State.setFld_pending (a lo w v : Nat) : (s.setFld a lo w v).pending = s.pending := rfl

/-! ## setRbit -/

@[simp] theorem State.setRbit_tabs (a i : Nat) (b : Bool) : (s.setRbit a i b).tabs = s.tabs := rfl
@[simp] theorem State.setRbit_time (a i : Nat) (b : Bool) : (s.setRbit a i b).time = s.time := rfl
@[simp] theorem State.setRbit_ctl (a i : Nat) (b : Bool) : (s.setRbit a i b).ctl = s.ctl := rfl
@[simp] theorem State.setRbit_boot (a i : Nat) (b : Bool) : (s.setRbit a i b).boot = s.boot := rfl
@[simp] theorem State.setRbit_flt (a i : Nat) (b : Bool) : (s.setRbit a i b).flt = s.flt := rfl
@[simp] theorem State.setRbit_hbm (a i : Nat) (b : Bool) : (s.setRbit a i b).hbm = s.hbm := rfl
@[simp] theorem State.setRbit_flash (a i : Nat) (b : Bool) : (s.setRbit a i b).flash = s.flash := rfl
@[simp] theorem State.setRbit_line (a i : Nat) (b : Bool) : (s.setRbit a i b).line = s.line := rfl
@[simp] theorem State.setRbit_pipes (a i : Nat) (b : Bool) : (s.setRbit a i b).pipes = s.pipes := rfl
@[simp] theorem State.setRbit_fwd (a i : Nat) (b : Bool) : (s.setRbit a i b).fwd = s.fwd := rfl
@[simp] theorem State.setRbit_ver (a i : Nat) (b : Bool) : (s.setRbit a i b).ver = s.ver := rfl
@[simp] theorem State.setRbit_asc (a i : Nat) (b : Bool) : (s.setRbit a i b).asc = s.asc := rfl
@[simp] theorem State.setRbit_buf (a i : Nat) (b : Bool) : (s.setRbit a i b).buf = s.buf := rfl
@[simp] theorem State.setRbit_que (a i : Nat) (b : Bool) : (s.setRbit a i b).que = s.que := rfl
@[simp] theorem State.setRbit_sec (a i : Nat) (b : Bool) : (s.setRbit a i b).sec = s.sec := rfl
@[simp] theorem State.setRbit_cpu (a i : Nat) (b : Bool) : (s.setRbit a i b).cpu = s.cpu := rfl
@[simp] theorem State.setRbit_host (a i : Nat) (b : Bool) : (s.setRbit a i b).host = s.host := rfl
@[simp] theorem State.setRbit_mem (a i : Nat) (b : Bool) : (s.setRbit a i b).mem = s.mem := rfl
@[simp] theorem State.setRbit_fab (a i : Nat) (b : Bool) : (s.setRbit a i b).fab = s.fab := rfl
@[simp] theorem State.setRbit_img (a i : Nat) (b : Bool) : (s.setRbit a i b).img = s.img := rfl
@[simp] theorem State.setRbit_therm (a i : Nat) (b : Bool) : (s.setRbit a i b).therm = s.therm := rfl
@[simp] theorem State.setRbit_out (a i : Nat) (b : Bool) : (s.setRbit a i b).out = s.out := rfl
@[simp] theorem State.setRbit_freeCtr (a i : Nat) (b : Bool) : (s.setRbit a i b).freeCtr = s.freeCtr := rfl
@[simp] theorem State.setRbit_pending (a i : Nat) (b : Bool) : (s.setRbit a i b).pending = s.pending := rfl

/-! ## wr64 -/

@[simp] theorem State.wr64_tabs (a v : Nat) : (s.wr64 a v).tabs = s.tabs := rfl
@[simp] theorem State.wr64_time (a v : Nat) : (s.wr64 a v).time = s.time := rfl
@[simp] theorem State.wr64_ctl (a v : Nat) : (s.wr64 a v).ctl = s.ctl := rfl
@[simp] theorem State.wr64_boot (a v : Nat) : (s.wr64 a v).boot = s.boot := rfl
@[simp] theorem State.wr64_flt (a v : Nat) : (s.wr64 a v).flt = s.flt := rfl
@[simp] theorem State.wr64_hbm (a v : Nat) : (s.wr64 a v).hbm = s.hbm := rfl
@[simp] theorem State.wr64_flash (a v : Nat) : (s.wr64 a v).flash = s.flash := rfl
@[simp] theorem State.wr64_line (a v : Nat) : (s.wr64 a v).line = s.line := rfl
@[simp] theorem State.wr64_pipes (a v : Nat) : (s.wr64 a v).pipes = s.pipes := rfl
@[simp] theorem State.wr64_fwd (a v : Nat) : (s.wr64 a v).fwd = s.fwd := rfl
@[simp] theorem State.wr64_ver (a v : Nat) : (s.wr64 a v).ver = s.ver := rfl
@[simp] theorem State.wr64_asc (a v : Nat) : (s.wr64 a v).asc = s.asc := rfl
@[simp] theorem State.wr64_buf (a v : Nat) : (s.wr64 a v).buf = s.buf := rfl
@[simp] theorem State.wr64_que (a v : Nat) : (s.wr64 a v).que = s.que := rfl
@[simp] theorem State.wr64_sec (a v : Nat) : (s.wr64 a v).sec = s.sec := rfl
@[simp] theorem State.wr64_cpu (a v : Nat) : (s.wr64 a v).cpu = s.cpu := rfl
@[simp] theorem State.wr64_host (a v : Nat) : (s.wr64 a v).host = s.host := rfl
@[simp] theorem State.wr64_mem (a v : Nat) : (s.wr64 a v).mem = s.mem := rfl
@[simp] theorem State.wr64_fab (a v : Nat) : (s.wr64 a v).fab = s.fab := rfl
@[simp] theorem State.wr64_img (a v : Nat) : (s.wr64 a v).img = s.img := rfl
@[simp] theorem State.wr64_therm (a v : Nat) : (s.wr64 a v).therm = s.therm := rfl
@[simp] theorem State.wr64_out (a v : Nat) : (s.wr64 a v).out = s.out := rfl
@[simp] theorem State.wr64_freeCtr (a v : Nat) : (s.wr64 a v).freeCtr = s.freeCtr := rfl
@[simp] theorem State.wr64_pending (a v : Nat) : (s.wr64 a v).pending = s.pending := rfl

/-! ## cpStore -/

@[simp] theorem State.cpStore_tabs (m a v : Nat) : (s.cpStore m a v).tabs = s.tabs := rfl
@[simp] theorem State.cpStore_time (m a v : Nat) : (s.cpStore m a v).time = s.time := rfl
@[simp] theorem State.cpStore_boot (m a v : Nat) : (s.cpStore m a v).boot = s.boot := rfl
@[simp] theorem State.cpStore_flt (m a v : Nat) : (s.cpStore m a v).flt = s.flt := rfl
@[simp] theorem State.cpStore_hbm (m a v : Nat) : (s.cpStore m a v).hbm = s.hbm := rfl
@[simp] theorem State.cpStore_flash (m a v : Nat) : (s.cpStore m a v).flash = s.flash := rfl
@[simp] theorem State.cpStore_line (m a v : Nat) : (s.cpStore m a v).line = s.line := rfl
@[simp] theorem State.cpStore_pipes (m a v : Nat) : (s.cpStore m a v).pipes = s.pipes := rfl
@[simp] theorem State.cpStore_fwd (m a v : Nat) : (s.cpStore m a v).fwd = s.fwd := rfl
@[simp] theorem State.cpStore_ver (m a v : Nat) : (s.cpStore m a v).ver = s.ver := rfl
@[simp] theorem State.cpStore_asc (m a v : Nat) : (s.cpStore m a v).asc = s.asc := rfl
@[simp] theorem State.cpStore_buf (m a v : Nat) : (s.cpStore m a v).buf = s.buf := rfl
@[simp] theorem State.cpStore_que (m a v : Nat) : (s.cpStore m a v).que = s.que := rfl
@[simp] theorem State.cpStore_sec (m a v : Nat) : (s.cpStore m a v).sec = s.sec := rfl
@[simp] theorem State.cpStore_cpu (m a v : Nat) : (s.cpStore m a v).cpu = s.cpu := rfl
@[simp] theorem State.cpStore_host (m a v : Nat) : (s.cpStore m a v).host = s.host := rfl
@[simp] theorem State.cpStore_mem (m a v : Nat) : (s.cpStore m a v).mem = s.mem := rfl
@[simp] theorem State.cpStore_fab (m a v : Nat) : (s.cpStore m a v).fab = s.fab := rfl
@[simp] theorem State.cpStore_img (m a v : Nat) : (s.cpStore m a v).img = s.img := rfl
@[simp] theorem State.cpStore_therm (m a v : Nat) : (s.cpStore m a v).therm = s.therm := rfl
@[simp] theorem State.cpStore_out (m a v : Nat) : (s.cpStore m a v).out = s.out := rfl
@[simp] theorem State.cpStore_freeCtr (m a v : Nat) : (s.cpStore m a v).freeCtr = s.freeCtr := rfl
@[simp] theorem State.cpStore_pending (m a v : Nat) : (s.cpStore m a v).pending = s.pending := rfl

/-! ## setTab -/

@[simp] theorem State.setTab_regs (r b n i : Nat) (e : Entry) : (s.setTab r b n i e).regs = s.regs := rfl
@[simp] theorem State.setTab_time (r b n i : Nat) (e : Entry) : (s.setTab r b n i e).time = s.time := rfl
@[simp] theorem State.setTab_ctl (r b n i : Nat) (e : Entry) : (s.setTab r b n i e).ctl = s.ctl := rfl
@[simp] theorem State.setTab_boot (r b n i : Nat) (e : Entry) : (s.setTab r b n i e).boot = s.boot := rfl
@[simp] theorem State.setTab_flt (r b n i : Nat) (e : Entry) : (s.setTab r b n i e).flt = s.flt := rfl
@[simp] theorem State.setTab_hbm (r b n i : Nat) (e : Entry) : (s.setTab r b n i e).hbm = s.hbm := rfl
@[simp] theorem State.setTab_flash (r b n i : Nat) (e : Entry) : (s.setTab r b n i e).flash = s.flash := rfl
@[simp] theorem State.setTab_line (r b n i : Nat) (e : Entry) : (s.setTab r b n i e).line = s.line := rfl
@[simp] theorem State.setTab_pipes (r b n i : Nat) (e : Entry) : (s.setTab r b n i e).pipes = s.pipes := rfl
@[simp] theorem State.setTab_fwd (r b n i : Nat) (e : Entry) : (s.setTab r b n i e).fwd = s.fwd := rfl
@[simp] theorem State.setTab_ver (r b n i : Nat) (e : Entry) : (s.setTab r b n i e).ver = s.ver := rfl
@[simp] theorem State.setTab_asc (r b n i : Nat) (e : Entry) : (s.setTab r b n i e).asc = s.asc := rfl
@[simp] theorem State.setTab_buf (r b n i : Nat) (e : Entry) : (s.setTab r b n i e).buf = s.buf := rfl
@[simp] theorem State.setTab_que (r b n i : Nat) (e : Entry) : (s.setTab r b n i e).que = s.que := rfl
@[simp] theorem State.setTab_sec (r b n i : Nat) (e : Entry) : (s.setTab r b n i e).sec = s.sec := rfl
@[simp] theorem State.setTab_cpu (r b n i : Nat) (e : Entry) : (s.setTab r b n i e).cpu = s.cpu := rfl
@[simp] theorem State.setTab_host (r b n i : Nat) (e : Entry) : (s.setTab r b n i e).host = s.host := rfl
@[simp] theorem State.setTab_mem (r b n i : Nat) (e : Entry) : (s.setTab r b n i e).mem = s.mem := rfl
@[simp] theorem State.setTab_fab (r b n i : Nat) (e : Entry) : (s.setTab r b n i e).fab = s.fab := rfl
@[simp] theorem State.setTab_img (r b n i : Nat) (e : Entry) : (s.setTab r b n i e).img = s.img := rfl
@[simp] theorem State.setTab_therm (r b n i : Nat) (e : Entry) : (s.setTab r b n i e).therm = s.therm := rfl
@[simp] theorem State.setTab_out (r b n i : Nat) (e : Entry) : (s.setTab r b n i e).out = s.out := rfl
@[simp] theorem State.setTab_freeCtr (r b n i : Nat) (e : Entry) : (s.setTab r b n i e).freeCtr = s.freeCtr := rfl
@[simp] theorem State.setTab_pending (r b n i : Nat) (e : Entry) : (s.setTab r b n i e).pending = s.pending := rfl

/-! ## setTabN -/

@[simp] theorem State.setTabN_regs (r b n i v : Nat) : (s.setTabN r b n i v).regs = s.regs := rfl
@[simp] theorem State.setTabN_time (r b n i v : Nat) : (s.setTabN r b n i v).time = s.time := rfl
@[simp] theorem State.setTabN_ctl (r b n i v : Nat) : (s.setTabN r b n i v).ctl = s.ctl := rfl
@[simp] theorem State.setTabN_boot (r b n i v : Nat) : (s.setTabN r b n i v).boot = s.boot := rfl
@[simp] theorem State.setTabN_flt (r b n i v : Nat) : (s.setTabN r b n i v).flt = s.flt := rfl
@[simp] theorem State.setTabN_hbm (r b n i v : Nat) : (s.setTabN r b n i v).hbm = s.hbm := rfl
@[simp] theorem State.setTabN_flash (r b n i v : Nat) : (s.setTabN r b n i v).flash = s.flash := rfl
@[simp] theorem State.setTabN_line (r b n i v : Nat) : (s.setTabN r b n i v).line = s.line := rfl
@[simp] theorem State.setTabN_pipes (r b n i v : Nat) : (s.setTabN r b n i v).pipes = s.pipes := rfl
@[simp] theorem State.setTabN_fwd (r b n i v : Nat) : (s.setTabN r b n i v).fwd = s.fwd := rfl
@[simp] theorem State.setTabN_ver (r b n i v : Nat) : (s.setTabN r b n i v).ver = s.ver := rfl
@[simp] theorem State.setTabN_asc (r b n i v : Nat) : (s.setTabN r b n i v).asc = s.asc := rfl
@[simp] theorem State.setTabN_buf (r b n i v : Nat) : (s.setTabN r b n i v).buf = s.buf := rfl
@[simp] theorem State.setTabN_que (r b n i v : Nat) : (s.setTabN r b n i v).que = s.que := rfl
@[simp] theorem State.setTabN_sec (r b n i v : Nat) : (s.setTabN r b n i v).sec = s.sec := rfl
@[simp] theorem State.setTabN_cpu (r b n i v : Nat) : (s.setTabN r b n i v).cpu = s.cpu := rfl
@[simp] theorem State.setTabN_host (r b n i v : Nat) : (s.setTabN r b n i v).host = s.host := rfl
@[simp] theorem State.setTabN_mem (r b n i v : Nat) : (s.setTabN r b n i v).mem = s.mem := rfl
@[simp] theorem State.setTabN_fab (r b n i v : Nat) : (s.setTabN r b n i v).fab = s.fab := rfl
@[simp] theorem State.setTabN_img (r b n i v : Nat) : (s.setTabN r b n i v).img = s.img := rfl
@[simp] theorem State.setTabN_therm (r b n i v : Nat) : (s.setTabN r b n i v).therm = s.therm := rfl
@[simp] theorem State.setTabN_out (r b n i v : Nat) : (s.setTabN r b n i v).out = s.out := rfl
@[simp] theorem State.setTabN_freeCtr (r b n i v : Nat) : (s.setTabN r b n i v).freeCtr = s.freeCtr := rfl
@[simp] theorem State.setTabN_pending (r b n i v : Nat) : (s.setTabN r b n i v).pending = s.pending := rfl

/-! ## hbmWrite -/

@[simp] theorem State.hbmWrite_regs (a : Nat) (b : List Byte) : (s.hbmWrite a b).regs = s.regs := rfl
@[simp] theorem State.hbmWrite_tabs (a : Nat) (b : List Byte) : (s.hbmWrite a b).tabs = s.tabs := rfl
@[simp] theorem State.hbmWrite_time (a : Nat) (b : List Byte) : (s.hbmWrite a b).time = s.time := rfl
@[simp] theorem State.hbmWrite_ctl (a : Nat) (b : List Byte) : (s.hbmWrite a b).ctl = s.ctl := rfl
@[simp] theorem State.hbmWrite_boot (a : Nat) (b : List Byte) : (s.hbmWrite a b).boot = s.boot := rfl
@[simp] theorem State.hbmWrite_flt (a : Nat) (b : List Byte) : (s.hbmWrite a b).flt = s.flt := rfl
@[simp] theorem State.hbmWrite_flash (a : Nat) (b : List Byte) : (s.hbmWrite a b).flash = s.flash := rfl
@[simp] theorem State.hbmWrite_line (a : Nat) (b : List Byte) : (s.hbmWrite a b).line = s.line := rfl
@[simp] theorem State.hbmWrite_pipes (a : Nat) (b : List Byte) : (s.hbmWrite a b).pipes = s.pipes := rfl
@[simp] theorem State.hbmWrite_fwd (a : Nat) (b : List Byte) : (s.hbmWrite a b).fwd = s.fwd := rfl
@[simp] theorem State.hbmWrite_ver (a : Nat) (b : List Byte) : (s.hbmWrite a b).ver = s.ver := rfl
@[simp] theorem State.hbmWrite_asc (a : Nat) (b : List Byte) : (s.hbmWrite a b).asc = s.asc := rfl
@[simp] theorem State.hbmWrite_buf (a : Nat) (b : List Byte) : (s.hbmWrite a b).buf = s.buf := rfl
@[simp] theorem State.hbmWrite_que (a : Nat) (b : List Byte) : (s.hbmWrite a b).que = s.que := rfl
@[simp] theorem State.hbmWrite_sec (a : Nat) (b : List Byte) : (s.hbmWrite a b).sec = s.sec := rfl
@[simp] theorem State.hbmWrite_cpu (a : Nat) (b : List Byte) : (s.hbmWrite a b).cpu = s.cpu := rfl
@[simp] theorem State.hbmWrite_host (a : Nat) (b : List Byte) : (s.hbmWrite a b).host = s.host := rfl
@[simp] theorem State.hbmWrite_mem (a : Nat) (b : List Byte) : (s.hbmWrite a b).mem = s.mem := rfl
@[simp] theorem State.hbmWrite_fab (a : Nat) (b : List Byte) : (s.hbmWrite a b).fab = s.fab := rfl
@[simp] theorem State.hbmWrite_img (a : Nat) (b : List Byte) : (s.hbmWrite a b).img = s.img := rfl
@[simp] theorem State.hbmWrite_therm (a : Nat) (b : List Byte) : (s.hbmWrite a b).therm = s.therm := rfl
@[simp] theorem State.hbmWrite_out (a : Nat) (b : List Byte) : (s.hbmWrite a b).out = s.out := rfl
@[simp] theorem State.hbmWrite_freeCtr (a : Nat) (b : List Byte) : (s.hbmWrite a b).freeCtr = s.freeCtr := rfl
@[simp] theorem State.hbmWrite_pending (a : Nat) (b : List Byte) : (s.hbmWrite a b).pending = s.pending := rfl

/-! ## flashWrite -/

@[simp] theorem State.flashWrite_regs (a : Nat) (b : List Byte) : (s.flashWrite a b).regs = s.regs := rfl
@[simp] theorem State.flashWrite_tabs (a : Nat) (b : List Byte) : (s.flashWrite a b).tabs = s.tabs := rfl
@[simp] theorem State.flashWrite_time (a : Nat) (b : List Byte) : (s.flashWrite a b).time = s.time := rfl
@[simp] theorem State.flashWrite_ctl (a : Nat) (b : List Byte) : (s.flashWrite a b).ctl = s.ctl := rfl
@[simp] theorem State.flashWrite_boot (a : Nat) (b : List Byte) : (s.flashWrite a b).boot = s.boot := rfl
@[simp] theorem State.flashWrite_flt (a : Nat) (b : List Byte) : (s.flashWrite a b).flt = s.flt := rfl
@[simp] theorem State.flashWrite_hbm (a : Nat) (b : List Byte) : (s.flashWrite a b).hbm = s.hbm := rfl
@[simp] theorem State.flashWrite_line (a : Nat) (b : List Byte) : (s.flashWrite a b).line = s.line := rfl
@[simp] theorem State.flashWrite_pipes (a : Nat) (b : List Byte) : (s.flashWrite a b).pipes = s.pipes := rfl
@[simp] theorem State.flashWrite_fwd (a : Nat) (b : List Byte) : (s.flashWrite a b).fwd = s.fwd := rfl
@[simp] theorem State.flashWrite_ver (a : Nat) (b : List Byte) : (s.flashWrite a b).ver = s.ver := rfl
@[simp] theorem State.flashWrite_asc (a : Nat) (b : List Byte) : (s.flashWrite a b).asc = s.asc := rfl
@[simp] theorem State.flashWrite_buf (a : Nat) (b : List Byte) : (s.flashWrite a b).buf = s.buf := rfl
@[simp] theorem State.flashWrite_que (a : Nat) (b : List Byte) : (s.flashWrite a b).que = s.que := rfl
@[simp] theorem State.flashWrite_sec (a : Nat) (b : List Byte) : (s.flashWrite a b).sec = s.sec := rfl
@[simp] theorem State.flashWrite_cpu (a : Nat) (b : List Byte) : (s.flashWrite a b).cpu = s.cpu := rfl
@[simp] theorem State.flashWrite_host (a : Nat) (b : List Byte) : (s.flashWrite a b).host = s.host := rfl
@[simp] theorem State.flashWrite_mem (a : Nat) (b : List Byte) : (s.flashWrite a b).mem = s.mem := rfl
@[simp] theorem State.flashWrite_fab (a : Nat) (b : List Byte) : (s.flashWrite a b).fab = s.fab := rfl
@[simp] theorem State.flashWrite_img (a : Nat) (b : List Byte) : (s.flashWrite a b).img = s.img := rfl
@[simp] theorem State.flashWrite_therm (a : Nat) (b : List Byte) : (s.flashWrite a b).therm = s.therm := rfl
@[simp] theorem State.flashWrite_out (a : Nat) (b : List Byte) : (s.flashWrite a b).out = s.out := rfl
@[simp] theorem State.flashWrite_freeCtr (a : Nat) (b : List Byte) : (s.flashWrite a b).freeCtr = s.freeCtr := rfl
@[simp] theorem State.flashWrite_pending (a : Nat) (b : List Byte) : (s.flashWrite a b).pending = s.pending := rfl

/-! ## emit -/

@[simp] theorem State.emit_regs (o : Out) : (s.emit o).regs = s.regs := rfl
@[simp] theorem State.emit_tabs (o : Out) : (s.emit o).tabs = s.tabs := rfl
@[simp] theorem State.emit_time (o : Out) : (s.emit o).time = s.time := rfl
@[simp] theorem State.emit_ctl (o : Out) : (s.emit o).ctl = s.ctl := rfl
@[simp] theorem State.emit_boot (o : Out) : (s.emit o).boot = s.boot := rfl
@[simp] theorem State.emit_flt (o : Out) : (s.emit o).flt = s.flt := rfl
@[simp] theorem State.emit_hbm (o : Out) : (s.emit o).hbm = s.hbm := rfl
@[simp] theorem State.emit_flash (o : Out) : (s.emit o).flash = s.flash := rfl
@[simp] theorem State.emit_line (o : Out) : (s.emit o).line = s.line := rfl
@[simp] theorem State.emit_pipes (o : Out) : (s.emit o).pipes = s.pipes := rfl
@[simp] theorem State.emit_fwd (o : Out) : (s.emit o).fwd = s.fwd := rfl
@[simp] theorem State.emit_ver (o : Out) : (s.emit o).ver = s.ver := rfl
@[simp] theorem State.emit_asc (o : Out) : (s.emit o).asc = s.asc := rfl
@[simp] theorem State.emit_buf (o : Out) : (s.emit o).buf = s.buf := rfl
@[simp] theorem State.emit_que (o : Out) : (s.emit o).que = s.que := rfl
@[simp] theorem State.emit_sec (o : Out) : (s.emit o).sec = s.sec := rfl
@[simp] theorem State.emit_cpu (o : Out) : (s.emit o).cpu = s.cpu := rfl
@[simp] theorem State.emit_host (o : Out) : (s.emit o).host = s.host := rfl
@[simp] theorem State.emit_mem (o : Out) : (s.emit o).mem = s.mem := rfl
@[simp] theorem State.emit_fab (o : Out) : (s.emit o).fab = s.fab := rfl
@[simp] theorem State.emit_img (o : Out) : (s.emit o).img = s.img := rfl
@[simp] theorem State.emit_therm (o : Out) : (s.emit o).therm = s.therm := rfl
@[simp] theorem State.emit_freeCtr (o : Out) : (s.emit o).freeCtr = s.freeCtr := rfl
@[simp] theorem State.emit_pending (o : Out) : (s.emit o).pending = s.pending := rfl

/-! ## drawn -/

@[simp] theorem State.drawn_regs : s.drawn.regs = s.regs := rfl
@[simp] theorem State.drawn_tabs : s.drawn.tabs = s.tabs := rfl
@[simp] theorem State.drawn_time : s.drawn.time = s.time := rfl
@[simp] theorem State.drawn_ctl : s.drawn.ctl = s.ctl := rfl
@[simp] theorem State.drawn_boot : s.drawn.boot = s.boot := rfl
@[simp] theorem State.drawn_flt : s.drawn.flt = s.flt := rfl
@[simp] theorem State.drawn_hbm : s.drawn.hbm = s.hbm := rfl
@[simp] theorem State.drawn_flash : s.drawn.flash = s.flash := rfl
@[simp] theorem State.drawn_line : s.drawn.line = s.line := rfl
@[simp] theorem State.drawn_pipes : s.drawn.pipes = s.pipes := rfl
@[simp] theorem State.drawn_fwd : s.drawn.fwd = s.fwd := rfl
@[simp] theorem State.drawn_ver : s.drawn.ver = s.ver := rfl
@[simp] theorem State.drawn_asc : s.drawn.asc = s.asc := rfl
@[simp] theorem State.drawn_buf : s.drawn.buf = s.buf := rfl
@[simp] theorem State.drawn_que : s.drawn.que = s.que := rfl
@[simp] theorem State.drawn_sec : s.drawn.sec = s.sec := rfl
@[simp] theorem State.drawn_cpu : s.drawn.cpu = s.cpu := rfl
@[simp] theorem State.drawn_host : s.drawn.host = s.host := rfl
@[simp] theorem State.drawn_mem : s.drawn.mem = s.mem := rfl
@[simp] theorem State.drawn_fab : s.drawn.fab = s.fab := rfl
@[simp] theorem State.drawn_img : s.drawn.img = s.img := rfl
@[simp] theorem State.drawn_therm : s.drawn.therm = s.therm := rfl
@[simp] theorem State.drawn_out : s.drawn.out = s.out := rfl
@[simp] theorem State.drawn_pending : s.drawn.pending = s.pending := rfl

/-! ## setRst -/

@[simp] theorem State.setRst_regs (r : Nat) (x : RegionSt) : (s.setRst r x).regs = s.regs := rfl
@[simp] theorem State.setRst_tabs (r : Nat) (x : RegionSt) : (s.setRst r x).tabs = s.tabs := rfl
@[simp] theorem State.setRst_time (r : Nat) (x : RegionSt) : (s.setRst r x).time = s.time := rfl
@[simp] theorem State.setRst_ctl (r : Nat) (x : RegionSt) : (s.setRst r x).ctl = s.ctl := rfl
@[simp] theorem State.setRst_boot (r : Nat) (x : RegionSt) : (s.setRst r x).boot = s.boot := rfl
@[simp] theorem State.setRst_hbm (r : Nat) (x : RegionSt) : (s.setRst r x).hbm = s.hbm := rfl
@[simp] theorem State.setRst_flash (r : Nat) (x : RegionSt) : (s.setRst r x).flash = s.flash := rfl
@[simp] theorem State.setRst_line (r : Nat) (x : RegionSt) : (s.setRst r x).line = s.line := rfl
@[simp] theorem State.setRst_pipes (r : Nat) (x : RegionSt) : (s.setRst r x).pipes = s.pipes := rfl
@[simp] theorem State.setRst_fwd (r : Nat) (x : RegionSt) : (s.setRst r x).fwd = s.fwd := rfl
@[simp] theorem State.setRst_ver (r : Nat) (x : RegionSt) : (s.setRst r x).ver = s.ver := rfl
@[simp] theorem State.setRst_asc (r : Nat) (x : RegionSt) : (s.setRst r x).asc = s.asc := rfl
@[simp] theorem State.setRst_buf (r : Nat) (x : RegionSt) : (s.setRst r x).buf = s.buf := rfl
@[simp] theorem State.setRst_que (r : Nat) (x : RegionSt) : (s.setRst r x).que = s.que := rfl
@[simp] theorem State.setRst_sec (r : Nat) (x : RegionSt) : (s.setRst r x).sec = s.sec := rfl
@[simp] theorem State.setRst_cpu (r : Nat) (x : RegionSt) : (s.setRst r x).cpu = s.cpu := rfl
@[simp] theorem State.setRst_host (r : Nat) (x : RegionSt) : (s.setRst r x).host = s.host := rfl
@[simp] theorem State.setRst_mem (r : Nat) (x : RegionSt) : (s.setRst r x).mem = s.mem := rfl
@[simp] theorem State.setRst_fab (r : Nat) (x : RegionSt) : (s.setRst r x).fab = s.fab := rfl
@[simp] theorem State.setRst_img (r : Nat) (x : RegionSt) : (s.setRst r x).img = s.img := rfl
@[simp] theorem State.setRst_therm (r : Nat) (x : RegionSt) : (s.setRst r x).therm = s.therm := rfl
@[simp] theorem State.setRst_out (r : Nat) (x : RegionSt) : (s.setRst r x).out = s.out := rfl
@[simp] theorem State.setRst_freeCtr (r : Nat) (x : RegionSt) : (s.setRst r x).freeCtr = s.freeCtr := rfl
@[simp] theorem State.setRst_pending (r : Nat) (x : RegionSt) : (s.setRst r x).pending = s.pending := rfl

/-! ## setRgnState -/

@[simp] theorem State.setRgnState_tabs (r : Nat) (x : RegionState) : (s.setRgnState r x).tabs = s.tabs := rfl
@[simp] theorem State.setRgnState_time (r : Nat) (x : RegionState) : (s.setRgnState r x).time = s.time := rfl
@[simp] theorem State.setRgnState_ctl (r : Nat) (x : RegionState) : (s.setRgnState r x).ctl = s.ctl := rfl
@[simp] theorem State.setRgnState_boot (r : Nat) (x : RegionState) : (s.setRgnState r x).boot = s.boot := rfl
@[simp] theorem State.setRgnState_flt (r : Nat) (x : RegionState) : (s.setRgnState r x).flt = s.flt := rfl
@[simp] theorem State.setRgnState_hbm (r : Nat) (x : RegionState) : (s.setRgnState r x).hbm = s.hbm := rfl
@[simp] theorem State.setRgnState_flash (r : Nat) (x : RegionState) : (s.setRgnState r x).flash = s.flash := rfl
@[simp] theorem State.setRgnState_line (r : Nat) (x : RegionState) : (s.setRgnState r x).line = s.line := rfl
@[simp] theorem State.setRgnState_pipes (r : Nat) (x : RegionState) : (s.setRgnState r x).pipes = s.pipes := rfl
@[simp] theorem State.setRgnState_fwd (r : Nat) (x : RegionState) : (s.setRgnState r x).fwd = s.fwd := rfl
@[simp] theorem State.setRgnState_ver (r : Nat) (x : RegionState) : (s.setRgnState r x).ver = s.ver := rfl
@[simp] theorem State.setRgnState_asc (r : Nat) (x : RegionState) : (s.setRgnState r x).asc = s.asc := rfl
@[simp] theorem State.setRgnState_buf (r : Nat) (x : RegionState) : (s.setRgnState r x).buf = s.buf := rfl
@[simp] theorem State.setRgnState_que (r : Nat) (x : RegionState) : (s.setRgnState r x).que = s.que := rfl
@[simp] theorem State.setRgnState_sec (r : Nat) (x : RegionState) : (s.setRgnState r x).sec = s.sec := rfl
@[simp] theorem State.setRgnState_cpu (r : Nat) (x : RegionState) : (s.setRgnState r x).cpu = s.cpu := rfl
@[simp] theorem State.setRgnState_host (r : Nat) (x : RegionState) : (s.setRgnState r x).host = s.host := rfl
@[simp] theorem State.setRgnState_mem (r : Nat) (x : RegionState) : (s.setRgnState r x).mem = s.mem := rfl
@[simp] theorem State.setRgnState_fab (r : Nat) (x : RegionState) : (s.setRgnState r x).fab = s.fab := rfl
@[simp] theorem State.setRgnState_img (r : Nat) (x : RegionState) : (s.setRgnState r x).img = s.img := rfl
@[simp] theorem State.setRgnState_therm (r : Nat) (x : RegionState) : (s.setRgnState r x).therm = s.therm := rfl
@[simp] theorem State.setRgnState_out (r : Nat) (x : RegionState) : (s.setRgnState r x).out = s.out := rfl
@[simp] theorem State.setRgnState_freeCtr (r : Nat) (x : RegionState) : (s.setRgnState r x).freeCtr = s.freeCtr := rfl
@[simp] theorem State.setRgnState_pending (r : Nat) (x : RegionState) : (s.setRgnState r x).pending = s.pending := rfl

/-! ## setDom -/

@[simp] theorem State.setDom_regs (d : Dom) (x : Domain) : (s.setDom d x).regs = s.regs := rfl
@[simp] theorem State.setDom_tabs (d : Dom) (x : Domain) : (s.setDom d x).tabs = s.tabs := rfl
@[simp] theorem State.setDom_ctl (d : Dom) (x : Domain) : (s.setDom d x).ctl = s.ctl := rfl
@[simp] theorem State.setDom_boot (d : Dom) (x : Domain) : (s.setDom d x).boot = s.boot := rfl
@[simp] theorem State.setDom_flt (d : Dom) (x : Domain) : (s.setDom d x).flt = s.flt := rfl
@[simp] theorem State.setDom_hbm (d : Dom) (x : Domain) : (s.setDom d x).hbm = s.hbm := rfl
@[simp] theorem State.setDom_flash (d : Dom) (x : Domain) : (s.setDom d x).flash = s.flash := rfl
@[simp] theorem State.setDom_line (d : Dom) (x : Domain) : (s.setDom d x).line = s.line := rfl
@[simp] theorem State.setDom_pipes (d : Dom) (x : Domain) : (s.setDom d x).pipes = s.pipes := rfl
@[simp] theorem State.setDom_fwd (d : Dom) (x : Domain) : (s.setDom d x).fwd = s.fwd := rfl
@[simp] theorem State.setDom_ver (d : Dom) (x : Domain) : (s.setDom d x).ver = s.ver := rfl
@[simp] theorem State.setDom_asc (d : Dom) (x : Domain) : (s.setDom d x).asc = s.asc := rfl
@[simp] theorem State.setDom_buf (d : Dom) (x : Domain) : (s.setDom d x).buf = s.buf := rfl
@[simp] theorem State.setDom_que (d : Dom) (x : Domain) : (s.setDom d x).que = s.que := rfl
@[simp] theorem State.setDom_sec (d : Dom) (x : Domain) : (s.setDom d x).sec = s.sec := rfl
@[simp] theorem State.setDom_cpu (d : Dom) (x : Domain) : (s.setDom d x).cpu = s.cpu := rfl
@[simp] theorem State.setDom_host (d : Dom) (x : Domain) : (s.setDom d x).host = s.host := rfl
@[simp] theorem State.setDom_mem (d : Dom) (x : Domain) : (s.setDom d x).mem = s.mem := rfl
@[simp] theorem State.setDom_fab (d : Dom) (x : Domain) : (s.setDom d x).fab = s.fab := rfl
@[simp] theorem State.setDom_img (d : Dom) (x : Domain) : (s.setDom d x).img = s.img := rfl
@[simp] theorem State.setDom_therm (d : Dom) (x : Domain) : (s.setDom d x).therm = s.therm := rfl
@[simp] theorem State.setDom_out (d : Dom) (x : Domain) : (s.setDom d x).out = s.out := rfl
@[simp] theorem State.setDom_freeCtr (d : Dom) (x : Domain) : (s.setDom d x).freeCtr = s.freeCtr := rfl
@[simp] theorem State.setDom_pending (d : Dom) (x : Domain) : (s.setDom d x).pending = s.pending := rfl
@[simp] theorem State.dom_setDom (d : Dom) (x : Domain) : (s.setDom d x).dom d = x := by cases d <;> rfl
theorem State.dom_setDom_ne {d e : Dom} (h : e ≠ d) (x : Domain) : (s.setDom d x).dom e = s.dom e := by
  cases d <;> cases e <;> first | rfl | exact absurd rfl h
@[simp] theorem State.setDom_setDom (d : Dom) (x y : Domain) : (s.setDom d x).setDom d y = s.setDom d y := by cases d <;> rfl
@[simp] theorem State.setDom_wtValid (d : Dom) (x : Domain) : (s.setDom d x).time.wtValid = s.time.wtValid := by cases d <;> rfl
@[simp] theorem State.setDom_active (d : Dom) (x : Domain) : (s.setDom d x).time.active = s.time.active := by cases d <;> rfl
@[simp] theorem State.setDom_cont (d : Dom) (x : Domain) : (s.setDom d x).time.cont = s.time.cont := by cases d <;> rfl
@[simp] theorem State.setDom_ticks (d : Dom) (x : Domain) : (s.setDom d x).time.ticks = s.time.ticks := by cases d <;> rfl
@[simp] theorem State.setDom_rd (d : Dom) (x : Domain) (a : Nat) : (s.setDom d x).rd a = s.rd a := rfl
@[simp] theorem State.wr_dom (a : Nat) (v : Word) (d : Dom) : (s.wr a v).dom d = s.dom d := rfl
@[simp] theorem State.emit_rd (o : Out) (a : Nat) : (s.emit o).rd a = s.rd a := rfl
@[simp] theorem State.setTab_rd (r b n i : Nat) (e : Entry) (a : Nat) : (s.setTab r b n i e).rd a = s.rd a := rfl

/-! ## Reads after writes -/

variable {s}

theorem State.rd_wr (a b : Nat) (v : Word) : (s.wr a v).rd b = if b = a then v else s.rd b := spGet_spPut _ a b v

@[simp] theorem State.rd_wr_self (a : Nat) (v : Word) : (s.wr a v).rd a = v := spGet_spPut_self _ a v

theorem State.rd_wr_ne {a b : Nat} (n : b ≠ a) (v : Word) : (s.wr a v).rd b = s.rd b := spGet_spPut_ne _ n v

theorem State.wr_regsWf (h : spWf regReset s.regs = true) (a : Nat) (v : Word) : spWf regReset (s.wr a v).regs = true :=
  spPut_wf h

theorem State.tab_setTab (r b n i : Nat) (e : Entry) : (s.setTab r b n i e).tab r b n i = e := spGet_spPut_self _ _ _

/-- Registers alone decide what a register reads as. -/
theorem State.rd_congr {s t : State} (h : t.regs = s.regs) (a : Nat) : t.rd a = s.rd a := by unfold State.rd; rw [h]

theorem State.cpStore_regs (s : State) (mask a v : Nat) :
    (s.cpStore mask a v).regs = ((s.wr a (BitVec.ofNat 32 v)).wr (a + 4) (BitVec.ofNat 32 (mask - v))).regs := rfl

/-- A value stored under its register's mask is the value the logic takes (R101, R102). -/
theorem State.cpValue_cpStore {s : State} {mask a v : Nat} (hv : v < 2 ^ 32)
    (hm : mask < 2 ^ 32) (hw : v &&& mask = v) : (s.cpStore mask a v).cpValue mask a = v := by
  have e1 : (s.cpStore mask a v).rd a = BitVec.ofNat 32 v := by
    rw [State.rd_congr (State.cpStore_regs s mask a v), State.rd_wr_ne (by omega), State.rd_wr_self]
  have e2 : (s.cpStore mask a v).rd (a + 4) = BitVec.ofNat 32 (mask - v) := by
    rw [State.rd_congr (State.cpStore_regs s mask a v), State.rd_wr_self]
  have e3 : (BitVec.ofNat 32 v).toNat = v := by simp only [BitVec.toNat_ofNat]; omega
  have e4 : (BitVec.ofNat 32 (mask - v)).toNat = mask - v := by simp only [BitVec.toNat_ofNat]; omega
  have e5 : cpWhole mask v (mask - v) = true := by simp [cpWhole, hw]
  unfold State.cpValue
  rw [e1, e2, e3, e4, e5]
  simp

/-! ## Raising a cause -/

/-- The state with other registers and other control-surface records, and nothing else changed. -/
def State.withCtl (s : State) (r : List (Nat × Word)) (c : CtlSt) : State := { s with regs := r, ctl := c }

/-- `t` differs from `s` in registers and control-surface records at most. -/
def CtlOnly (s t : State) : Prop := ∃ r c, t = s.withCtl r c

theorem CtlOnly.refl (s : State) : CtlOnly s s := ⟨s.regs, s.ctl, rfl⟩
theorem CtlOnly.trans {s t u : State} (h : CtlOnly s t) (g : CtlOnly t u) : CtlOnly s u := by
  obtain ⟨r, c, rfl⟩ := h
  obtain ⟨r', c', rfl⟩ := g
  exact ⟨r', c', rfl⟩
theorem CtlOnly.wr {s t : State} (h : CtlOnly s t) (a : Nat) (v : Word) : CtlOnly s (t.wr a v) :=
  h.trans ⟨_, _, rfl⟩
theorem CtlOnly.ctlUpd {s t : State} (h : CtlOnly s t) (c : CtlSt) : CtlOnly s { t with ctl := c } :=
  h.trans ⟨_, _, rfl⟩
theorem CtlOnly.bump {s t : State} (h : CtlOnly s t) (a n : Nat) : CtlOnly s (t.bump a n) := by
  unfold State.bump
  split
  · exact h
  · exact h.wr _ _

theorem CtlOnly.same {s t : State} (h : CtlOnly s t) : t.tabs = s.tabs ∧ t.time = s.time ∧ t.boot = s.boot ∧ t.flt = s.flt ∧ t.hbm = s.hbm ∧ t.flash = s.flash ∧ t.line = s.line ∧ t.pipes = s.pipes ∧ t.fwd = s.fwd ∧ t.ver = s.ver ∧ t.asc = s.asc ∧ t.buf = s.buf ∧ t.que = s.que ∧ t.sec = s.sec ∧ t.cpu = s.cpu ∧ t.host = s.host ∧ t.mem = s.mem ∧ t.fab = s.fab ∧ t.img = s.img ∧ t.therm = s.therm ∧ t.out = s.out ∧ t.freeCtr = s.freeCtr ∧ t.pending = s.pending := by
  obtain ⟨r, c, rfl⟩ := h
  exact ⟨rfl, rfl, rfl, rfl, rfl, rfl, rfl, rfl, rfl, rfl, rfl, rfl, rfl, rfl, rfl, rfl, rfl, rfl, rfl, rfl, rfl, rfl, rfl⟩

theorem deviceEventWith_ctlOnly {raise : Nat → Nat → Nat → State → State}
    (hr : ∀ r b k (s t : State), CtlOnly s t → CtlOnly s (raise r b k t)) (i j : Nat) {s t : State} (h : CtlOnly s t) :
    CtlOnly s (deviceEventWith raise i j t) := by
  unfold deviceEventWith
  split
  · exact hr _ _ _ _ _ (h.bump _ _)
  · exact (h.wr _ _).wr _ _

theorem intgLogWith_ctlOnly {raise : Nat → Nat → Nat → State → State}
    (hr : ∀ r b k (s t : State), CtlOnly s t → CtlOnly s (raise r b k t)) (k a m x y : Nat) {s t : State} (h : CtlOnly s t) :
    CtlOnly s (intgLogWith raise k a m x y t) := by
  unfold intgLogWith
  split
  · exact hr _ _ _ _ _ (h.ctlUpd _)
  · exact hr _ _ _ _ _ (h.ctlUpd _)

theorem routeWith_ctlOnly {raise : Nat → Nat → Nat → State → State}
    (hr : ∀ r b k (s t : State), CtlOnly s t → CtlOnly s (raise r b k t)) (r b k n : Nat) {s t : State} (h : CtlOnly s t) :
    CtlOnly s (routeWith raise r b k n t) := by
  unfold routeWith
  dsimp only
  split
  · split
    · exact intgLogWith_ctlOnly hr _ _ _ _ _ h
    · exact deviceEventWith_ctlOnly hr _ _ h
  · exact h

theorem raiseN_ctlOnly (f r b k : Nat) (s t : State) (h : CtlOnly s t) : CtlOnly s (raiseN f r b k t) := by
  induction f generalizing r b k s t with
  | zero => exact h.wr _ _
  | succ f ih =>
    unfold raiseN
    split
    · exact h
    · exact routeWith_ctlOnly ih _ _ _ _ (routeWith_ctlOnly ih _ _ _ _ (h.wr _ _))

/-- Raising a cause changes registers and the integrity log, and nothing else. -/
theorem State.raise_ctlOnly (s : State) (r b k : Nat) : CtlOnly s (s.raise r b k) := raiseN_ctlOnly 16 r b k s s (CtlOnly.refl s)

theorem State.intgLog_ctlOnly (s : State) (k a m x y : Nat) : CtlOnly s (s.intgLog k a m x y) :=
  intgLogWith_ctlOnly (fun r b k _ t h => h.trans (t.raise_ctlOnly r b k)) _ _ _ _ _ (CtlOnly.refl s)

@[simp] theorem State.raise_tabs (s : State) (r b k : Nat) : (s.raise r b k).tabs = s.tabs := by
  obtain ⟨x, y, e⟩ := s.raise_ctlOnly r b k
  rw [e]; rfl
@[simp] theorem State.raise_time (s : State) (r b k : Nat) : (s.raise r b k).time = s.time := by
  obtain ⟨x, y, e⟩ := s.raise_ctlOnly r b k
  rw [e]; rfl
@[simp] theorem State.raise_boot (s : State) (r b k : Nat) : (s.raise r b k).boot = s.boot := by
  obtain ⟨x, y, e⟩ := s.raise_ctlOnly r b k
  rw [e]; rfl
@[simp] theorem State.raise_flt (s : State) (r b k : Nat) : (s.raise r b k).flt = s.flt := by
  obtain ⟨x, y, e⟩ := s.raise_ctlOnly r b k
  rw [e]; rfl
@[simp] theorem State.raise_hbm (s : State) (r b k : Nat) : (s.raise r b k).hbm = s.hbm := by
  obtain ⟨x, y, e⟩ := s.raise_ctlOnly r b k
  rw [e]; rfl
@[simp] theorem State.raise_flash (s : State) (r b k : Nat) : (s.raise r b k).flash = s.flash := by
  obtain ⟨x, y, e⟩ := s.raise_ctlOnly r b k
  rw [e]; rfl
@[simp] theorem State.raise_line (s : State) (r b k : Nat) : (s.raise r b k).line = s.line := by
  obtain ⟨x, y, e⟩ := s.raise_ctlOnly r b k
  rw [e]; rfl
@[simp] theorem State.raise_pipes (s : State) (r b k : Nat) : (s.raise r b k).pipes = s.pipes := by
  obtain ⟨x, y, e⟩ := s.raise_ctlOnly r b k
  rw [e]; rfl
@[simp] theorem State.raise_fwd (s : State) (r b k : Nat) : (s.raise r b k).fwd = s.fwd := by
  obtain ⟨x, y, e⟩ := s.raise_ctlOnly r b k
  rw [e]; rfl
@[simp] theorem State.raise_ver (s : State) (r b k : Nat) : (s.raise r b k).ver = s.ver := by
  obtain ⟨x, y, e⟩ := s.raise_ctlOnly r b k
  rw [e]; rfl
@[simp] theorem State.raise_asc (s : State) (r b k : Nat) : (s.raise r b k).asc = s.asc := by
  obtain ⟨x, y, e⟩ := s.raise_ctlOnly r b k
  rw [e]; rfl
@[simp] theorem State.raise_buf (s : State) (r b k : Nat) : (s.raise r b k).buf = s.buf := by
  obtain ⟨x, y, e⟩ := s.raise_ctlOnly r b k
  rw [e]; rfl
@[simp] theorem State.raise_que (s : State) (r b k : Nat) : (s.raise r b k).que = s.que := by
  obtain ⟨x, y, e⟩ := s.raise_ctlOnly r b k
  rw [e]; rfl
@[simp] theorem State.raise_sec (s : State) (r b k : Nat) : (s.raise r b k).sec = s.sec := by
  obtain ⟨x, y, e⟩ := s.raise_ctlOnly r b k
  rw [e]; rfl
@[simp] theorem State.raise_cpu (s : State) (r b k : Nat) : (s.raise r b k).cpu = s.cpu := by
  obtain ⟨x, y, e⟩ := s.raise_ctlOnly r b k
  rw [e]; rfl
@[simp] theorem State.raise_host (s : State) (r b k : Nat) : (s.raise r b k).host = s.host := by
  obtain ⟨x, y, e⟩ := s.raise_ctlOnly r b k
  rw [e]; rfl
@[simp] theorem State.raise_mem (s : State) (r b k : Nat) : (s.raise r b k).mem = s.mem := by
  obtain ⟨x, y, e⟩ := s.raise_ctlOnly r b k
  rw [e]; rfl
@[simp] theorem State.raise_fab (s : State) (r b k : Nat) : (s.raise r b k).fab = s.fab := by
  obtain ⟨x, y, e⟩ := s.raise_ctlOnly r b k
  rw [e]; rfl
@[simp] theorem State.raise_img (s : State) (r b k : Nat) : (s.raise r b k).img = s.img := by
  obtain ⟨x, y, e⟩ := s.raise_ctlOnly r b k
  rw [e]; rfl
@[simp] theorem State.raise_therm (s : State) (r b k : Nat) : (s.raise r b k).therm = s.therm := by
  obtain ⟨x, y, e⟩ := s.raise_ctlOnly r b k
  rw [e]; rfl
@[simp] theorem State.raise_out (s : State) (r b k : Nat) : (s.raise r b k).out = s.out := by
  obtain ⟨x, y, e⟩ := s.raise_ctlOnly r b k
  rw [e]; rfl
@[simp] theorem State.raise_freeCtr (s : State) (r b k : Nat) : (s.raise r b k).freeCtr = s.freeCtr := by
  obtain ⟨x, y, e⟩ := s.raise_ctlOnly r b k
  rw [e]; rfl
@[simp] theorem State.raise_pending (s : State) (r b k : Nat) : (s.raise r b k).pending = s.pending := by
  obtain ⟨x, y, e⟩ := s.raise_ctlOnly r b k
  rw [e]; rfl
@[simp] theorem State.raiseIf_tabs (s : State) (c : Bool) (r b k : Nat) : (s.raiseIf c r b k).tabs = s.tabs := by
  cases c <;> simp [State.raiseIf]
@[simp] theorem State.raiseIf_time (s : State) (c : Bool) (r b k : Nat) : (s.raiseIf c r b k).time = s.time := by
  cases c <;> simp [State.raiseIf]
@[simp] theorem State.raiseIf_boot (s : State) (c : Bool) (r b k : Nat) : (s.raiseIf c r b k).boot = s.boot := by
  cases c <;> simp [State.raiseIf]
@[simp] theorem State.raiseIf_flt (s : State) (c : Bool) (r b k : Nat) : (s.raiseIf c r b k).flt = s.flt := by
  cases c <;> simp [State.raiseIf]
@[simp] theorem State.raiseIf_hbm (s : State) (c : Bool) (r b k : Nat) : (s.raiseIf c r b k).hbm = s.hbm := by
  cases c <;> simp [State.raiseIf]
@[simp] theorem State.raiseIf_flash (s : State) (c : Bool) (r b k : Nat) : (s.raiseIf c r b k).flash = s.flash := by
  cases c <;> simp [State.raiseIf]
@[simp] theorem State.raiseIf_line (s : State) (c : Bool) (r b k : Nat) : (s.raiseIf c r b k).line = s.line := by
  cases c <;> simp [State.raiseIf]
@[simp] theorem State.raiseIf_pipes (s : State) (c : Bool) (r b k : Nat) : (s.raiseIf c r b k).pipes = s.pipes := by
  cases c <;> simp [State.raiseIf]
@[simp] theorem State.raiseIf_fwd (s : State) (c : Bool) (r b k : Nat) : (s.raiseIf c r b k).fwd = s.fwd := by
  cases c <;> simp [State.raiseIf]
@[simp] theorem State.raiseIf_ver (s : State) (c : Bool) (r b k : Nat) : (s.raiseIf c r b k).ver = s.ver := by
  cases c <;> simp [State.raiseIf]
@[simp] theorem State.raiseIf_asc (s : State) (c : Bool) (r b k : Nat) : (s.raiseIf c r b k).asc = s.asc := by
  cases c <;> simp [State.raiseIf]
@[simp] theorem State.raiseIf_buf (s : State) (c : Bool) (r b k : Nat) : (s.raiseIf c r b k).buf = s.buf := by
  cases c <;> simp [State.raiseIf]
@[simp] theorem State.raiseIf_que (s : State) (c : Bool) (r b k : Nat) : (s.raiseIf c r b k).que = s.que := by
  cases c <;> simp [State.raiseIf]
@[simp] theorem State.raiseIf_sec (s : State) (c : Bool) (r b k : Nat) : (s.raiseIf c r b k).sec = s.sec := by
  cases c <;> simp [State.raiseIf]
@[simp] theorem State.raiseIf_cpu (s : State) (c : Bool) (r b k : Nat) : (s.raiseIf c r b k).cpu = s.cpu := by
  cases c <;> simp [State.raiseIf]
@[simp] theorem State.raiseIf_host (s : State) (c : Bool) (r b k : Nat) : (s.raiseIf c r b k).host = s.host := by
  cases c <;> simp [State.raiseIf]
@[simp] theorem State.raiseIf_mem (s : State) (c : Bool) (r b k : Nat) : (s.raiseIf c r b k).mem = s.mem := by
  cases c <;> simp [State.raiseIf]
@[simp] theorem State.raiseIf_fab (s : State) (c : Bool) (r b k : Nat) : (s.raiseIf c r b k).fab = s.fab := by
  cases c <;> simp [State.raiseIf]
@[simp] theorem State.raiseIf_img (s : State) (c : Bool) (r b k : Nat) : (s.raiseIf c r b k).img = s.img := by
  cases c <;> simp [State.raiseIf]
@[simp] theorem State.raiseIf_therm (s : State) (c : Bool) (r b k : Nat) : (s.raiseIf c r b k).therm = s.therm := by
  cases c <;> simp [State.raiseIf]
@[simp] theorem State.raiseIf_out (s : State) (c : Bool) (r b k : Nat) : (s.raiseIf c r b k).out = s.out := by
  cases c <;> simp [State.raiseIf]
@[simp] theorem State.raiseIf_freeCtr (s : State) (c : Bool) (r b k : Nat) : (s.raiseIf c r b k).freeCtr = s.freeCtr := by
  cases c <;> simp [State.raiseIf]
@[simp] theorem State.raiseIf_pending (s : State) (c : Bool) (r b k : Nat) : (s.raiseIf c r b k).pending = s.pending := by
  cases c <;> simp [State.raiseIf]
@[simp] theorem State.bump_tabs (s : State) (a n : Nat) : (s.bump a n).tabs = s.tabs := by
  unfold State.bump; split <;> rfl
@[simp] theorem State.bump_time (s : State) (a n : Nat) : (s.bump a n).time = s.time := by
  unfold State.bump; split <;> rfl
@[simp] theorem State.bump_ctl (s : State) (a n : Nat) : (s.bump a n).ctl = s.ctl := by
  unfold State.bump; split <;> rfl
@[simp] theorem State.bump_boot (s : State) (a n : Nat) : (s.bump a n).boot = s.boot := by
  unfold State.bump; split <;> rfl
@[simp] theorem State.bump_flt (s : State) (a n : Nat) : (s.bump a n).flt = s.flt := by
  unfold State.bump; split <;> rfl
@[simp] theorem State.bump_hbm (s : State) (a n : Nat) : (s.bump a n).hbm = s.hbm := by
  unfold State.bump; split <;> rfl
@[simp] theorem State.bump_flash (s : State) (a n : Nat) : (s.bump a n).flash = s.flash := by
  unfold State.bump; split <;> rfl
@[simp] theorem State.bump_line (s : State) (a n : Nat) : (s.bump a n).line = s.line := by
  unfold State.bump; split <;> rfl
@[simp] theorem State.bump_pipes (s : State) (a n : Nat) : (s.bump a n).pipes = s.pipes := by
  unfold State.bump; split <;> rfl
@[simp] theorem State.bump_fwd (s : State) (a n : Nat) : (s.bump a n).fwd = s.fwd := by
  unfold State.bump; split <;> rfl
@[simp] theorem State.bump_ver (s : State) (a n : Nat) : (s.bump a n).ver = s.ver := by
  unfold State.bump; split <;> rfl
@[simp] theorem State.bump_asc (s : State) (a n : Nat) : (s.bump a n).asc = s.asc := by
  unfold State.bump; split <;> rfl
@[simp] theorem State.bump_buf (s : State) (a n : Nat) : (s.bump a n).buf = s.buf := by
  unfold State.bump; split <;> rfl
@[simp] theorem State.bump_que (s : State) (a n : Nat) : (s.bump a n).que = s.que := by
  unfold State.bump; split <;> rfl
@[simp] theorem State.bump_sec (s : State) (a n : Nat) : (s.bump a n).sec = s.sec := by
  unfold State.bump; split <;> rfl
@[simp] theorem State.bump_cpu (s : State) (a n : Nat) : (s.bump a n).cpu = s.cpu := by
  unfold State.bump; split <;> rfl
@[simp] theorem State.bump_host (s : State) (a n : Nat) : (s.bump a n).host = s.host := by
  unfold State.bump; split <;> rfl
@[simp] theorem State.bump_mem (s : State) (a n : Nat) : (s.bump a n).mem = s.mem := by
  unfold State.bump; split <;> rfl
@[simp] theorem State.bump_fab (s : State) (a n : Nat) : (s.bump a n).fab = s.fab := by
  unfold State.bump; split <;> rfl
@[simp] theorem State.bump_img (s : State) (a n : Nat) : (s.bump a n).img = s.img := by
  unfold State.bump; split <;> rfl
@[simp] theorem State.bump_therm (s : State) (a n : Nat) : (s.bump a n).therm = s.therm := by
  unfold State.bump; split <;> rfl
@[simp] theorem State.bump_out (s : State) (a n : Nat) : (s.bump a n).out = s.out := by
  unfold State.bump; split <;> rfl
@[simp] theorem State.bump_freeCtr (s : State) (a n : Nat) : (s.bump a n).freeCtr = s.freeCtr := by
  unfold State.bump; split <;> rfl
@[simp] theorem State.bump_pending (s : State) (a n : Nat) : (s.bump a n).pending = s.pending := by
  unfold State.bump; split <;> rfl
@[simp] theorem State.raise_dom (s : State) (r b k : Nat) (d : Dom) : (s.raise r b k).dom d = s.dom d := by simp [State.dom]
@[simp] theorem State.bump64_tabs (s : State) (a n w : Nat) : (s.bump64 a n w).tabs = s.tabs := by
  unfold State.bump64
  by_cases h : s.ctl.snapFrozen = true
  · rw [if_pos h]
  · rw [if_neg h]; exact State.wr64_tabs _ _ _
@[simp] theorem State.bump64_time (s : State) (a n w : Nat) : (s.bump64 a n w).time = s.time := by
  unfold State.bump64
  by_cases h : s.ctl.snapFrozen = true
  · rw [if_pos h]
  · rw [if_neg h]; exact State.wr64_time _ _ _
@[simp] theorem State.bump64_ctl (s : State) (a n w : Nat) : (s.bump64 a n w).ctl = s.ctl := by
  unfold State.bump64
  by_cases h : s.ctl.snapFrozen = true
  · rw [if_pos h]
  · rw [if_neg h]; exact State.wr64_ctl _ _ _
@[simp] theorem State.bump64_boot (s : State) (a n w : Nat) : (s.bump64 a n w).boot = s.boot := by
  unfold State.bump64
  by_cases h : s.ctl.snapFrozen = true
  · rw [if_pos h]
  · rw [if_neg h]; exact State.wr64_boot _ _ _
@[simp] theorem State.bump64_flt (s : State) (a n w : Nat) : (s.bump64 a n w).flt = s.flt := by
  unfold State.bump64
  by_cases h : s.ctl.snapFrozen = true
  · rw [if_pos h]
  · rw [if_neg h]; exact State.wr64_flt _ _ _
@[simp] theorem State.bump64_hbm (s : State) (a n w : Nat) : (s.bump64 a n w).hbm = s.hbm := by
  unfold State.bump64
  by_cases h : s.ctl.snapFrozen = true
  · rw [if_pos h]
  · rw [if_neg h]; exact State.wr64_hbm _ _ _
@[simp] theorem State.bump64_flash (s : State) (a n w : Nat) : (s.bump64 a n w).flash = s.flash := by
  unfold State.bump64
  by_cases h : s.ctl.snapFrozen = true
  · rw [if_pos h]
  · rw [if_neg h]; exact State.wr64_flash _ _ _
@[simp] theorem State.bump64_line (s : State) (a n w : Nat) : (s.bump64 a n w).line = s.line := by
  unfold State.bump64
  by_cases h : s.ctl.snapFrozen = true
  · rw [if_pos h]
  · rw [if_neg h]; exact State.wr64_line _ _ _
@[simp] theorem State.bump64_pipes (s : State) (a n w : Nat) : (s.bump64 a n w).pipes = s.pipes := by
  unfold State.bump64
  by_cases h : s.ctl.snapFrozen = true
  · rw [if_pos h]
  · rw [if_neg h]; exact State.wr64_pipes _ _ _
@[simp] theorem State.bump64_fwd (s : State) (a n w : Nat) : (s.bump64 a n w).fwd = s.fwd := by
  unfold State.bump64
  by_cases h : s.ctl.snapFrozen = true
  · rw [if_pos h]
  · rw [if_neg h]; exact State.wr64_fwd _ _ _
@[simp] theorem State.bump64_ver (s : State) (a n w : Nat) : (s.bump64 a n w).ver = s.ver := by
  unfold State.bump64
  by_cases h : s.ctl.snapFrozen = true
  · rw [if_pos h]
  · rw [if_neg h]; exact State.wr64_ver _ _ _
@[simp] theorem State.bump64_asc (s : State) (a n w : Nat) : (s.bump64 a n w).asc = s.asc := by
  unfold State.bump64
  by_cases h : s.ctl.snapFrozen = true
  · rw [if_pos h]
  · rw [if_neg h]; exact State.wr64_asc _ _ _
@[simp] theorem State.bump64_buf (s : State) (a n w : Nat) : (s.bump64 a n w).buf = s.buf := by
  unfold State.bump64
  by_cases h : s.ctl.snapFrozen = true
  · rw [if_pos h]
  · rw [if_neg h]; exact State.wr64_buf _ _ _
@[simp] theorem State.bump64_que (s : State) (a n w : Nat) : (s.bump64 a n w).que = s.que := by
  unfold State.bump64
  by_cases h : s.ctl.snapFrozen = true
  · rw [if_pos h]
  · rw [if_neg h]; exact State.wr64_que _ _ _
@[simp] theorem State.bump64_sec (s : State) (a n w : Nat) : (s.bump64 a n w).sec = s.sec := by
  unfold State.bump64
  by_cases h : s.ctl.snapFrozen = true
  · rw [if_pos h]
  · rw [if_neg h]; exact State.wr64_sec _ _ _
@[simp] theorem State.bump64_cpu (s : State) (a n w : Nat) : (s.bump64 a n w).cpu = s.cpu := by
  unfold State.bump64
  by_cases h : s.ctl.snapFrozen = true
  · rw [if_pos h]
  · rw [if_neg h]; exact State.wr64_cpu _ _ _
@[simp] theorem State.bump64_host (s : State) (a n w : Nat) : (s.bump64 a n w).host = s.host := by
  unfold State.bump64
  by_cases h : s.ctl.snapFrozen = true
  · rw [if_pos h]
  · rw [if_neg h]; exact State.wr64_host _ _ _
@[simp] theorem State.bump64_mem (s : State) (a n w : Nat) : (s.bump64 a n w).mem = s.mem := by
  unfold State.bump64
  by_cases h : s.ctl.snapFrozen = true
  · rw [if_pos h]
  · rw [if_neg h]; exact State.wr64_mem _ _ _
@[simp] theorem State.bump64_fab (s : State) (a n w : Nat) : (s.bump64 a n w).fab = s.fab := by
  unfold State.bump64
  by_cases h : s.ctl.snapFrozen = true
  · rw [if_pos h]
  · rw [if_neg h]; exact State.wr64_fab _ _ _
@[simp] theorem State.bump64_img (s : State) (a n w : Nat) : (s.bump64 a n w).img = s.img := by
  unfold State.bump64
  by_cases h : s.ctl.snapFrozen = true
  · rw [if_pos h]
  · rw [if_neg h]; exact State.wr64_img _ _ _
@[simp] theorem State.bump64_therm (s : State) (a n w : Nat) : (s.bump64 a n w).therm = s.therm := by
  unfold State.bump64
  by_cases h : s.ctl.snapFrozen = true
  · rw [if_pos h]
  · rw [if_neg h]; exact State.wr64_therm _ _ _
@[simp] theorem State.bump64_out (s : State) (a n w : Nat) : (s.bump64 a n w).out = s.out := by
  unfold State.bump64
  by_cases h : s.ctl.snapFrozen = true
  · rw [if_pos h]
  · rw [if_neg h]; exact State.wr64_out _ _ _
@[simp] theorem State.bump64_freeCtr (s : State) (a n w : Nat) : (s.bump64 a n w).freeCtr = s.freeCtr := by
  unfold State.bump64
  by_cases h : s.ctl.snapFrozen = true
  · rw [if_pos h]
  · rw [if_neg h]; exact State.wr64_freeCtr _ _ _
@[simp] theorem State.bump64_pending (s : State) (a n w : Nat) : (s.bump64 a n w).pending = s.pending := by
  unfold State.bump64
  by_cases h : s.ctl.snapFrozen = true
  · rw [if_pos h]
  · rw [if_neg h]; exact State.wr64_pending _ _ _
@[simp] theorem State.cpStore_dom (m a v : Nat) (d : Dom) : (s.cpStore m a v).dom d = s.dom d := rfl
@[simp] theorem State.intgLog_time (k a m x y : Nat) : (s.intgLog k a m x y).time = s.time := by
  obtain ⟨r, c, e⟩ := s.intgLog_ctlOnly k a m x y
  rw [e]; rfl

end Sys2Proof.Machine
end

