-- ==== Sys2Proof/Laws/Access.lean ====
section
/-! SUPPORT. What an access of a master does once every check of R91 has passed. -/

namespace Sys2Proof.Machine

theorem State.storesWf_regs {s : State} (h : s.storesWf = true) : spWf regReset s.regs = true := by
  simp only [State.storesWf, Bool.and_eq_true] at h
  exact h.1.1

theorem State.storesWf_tabs {s : State} (h : s.storesWf = true) : spWf (fun _ => (0 : Entry)) s.tabs = true := by
  simp only [State.storesWf, Bool.and_eq_true] at h
  exact h.1.2

theorem State.asWrite_ok {s : State} {m : Master} {a : Nat} {f : State → State} (h : s.mayWrite m a) :
    s.asWrite m a f = f s := by
  unfold State.asWrite; rw [h]

theorem State.asRead_ok {s : State} {m : Master} {a : Nat} {f : State → Nat × State} (h : s.mayRead m a) :
    s.asRead m a f = (f s).2.emit (.reply m (f s).1) := by
  unfold State.asRead; rw [h]

/-- A whole pair reaches the register (R101). -/
theorem State.asCpWrite_ok {s : State} {m : Master} {a mask v : Nat} {f : Nat → State → State} (h : s.mayWriteCp m a)
    (hv : v < 2 ^ 32) (hm : mask < 2 ^ 32) (hw : v &&& mask = v) : s.asCpWrite m a mask (pairOf mask v) f = f v s := by
  have e : (pairOf mask v).toNat = v + (mask - v) * 2 ^ 32 := by
    simp only [pairOf, BitVec.toNat_ofNat]
    apply Nat.mod_eq_of_lt
    have : mask - v < 2 ^ 32 := by omega
    omega
  have e1 : (v + (mask - v) * 2 ^ 32) % 2 ^ 32 = v := by omega
  have e2 : (v + (mask - v) * 2 ^ 32) / 2 ^ 32 = mask - v := by omega
  unfold State.asCpWrite
  rw [h]
  dsimp only
  rw [e, e1, e2]
  simp [cpWhole, hw]

theorem and_mask32 {v : Nat} (h : v < 2 ^ 32) : v &&& 0xFFFFFFFF = v :=
  (Nat.and_two_pow_sub_one_eq_mod v 32).trans (Nat.mod_eq_of_lt h)

theorem State.asBusRead_ok {s : State} {x : Access} (h : s.busCheck x.master x.addr.toNat x.bytes x.partialBytes false = .ok) :
    s.asBusRead x = (s.busRead x.master x.addr.toNat x.bytes).2.emit
      (.reply x.master (s.busRead x.master x.addr.toNat x.bytes).1) := by
  unfold State.asBusRead; simp only [h]

/-- A read that neither a latch nor a queue answers: the view or the word of a log's head, the words it latches, and what it clears. -/
theorem State.readWord_view {s : State} {m : Master} {a : Nat} (h1 : (s.latch m a).take a = none) 
    (h2 : s.readTake (some m) a = none) :
    s.readWord m a = ((s.headWord m a).getD (s.view a), (if latchWords (addrRegion a) (addrBlock a) (addrOff a) = 0 then s
      else s.setLatch m a ⟨a, (List.range (latchWords (addrRegion a) (addrBlock a) (addrOff a))).map
        (fun i => BitVec.ofNat 32 (s.view (a + 4 * (i + 1))))⟩).readClear a) := by
  unfold State.readWord
  split
  · rename_i h; rw [h1] at h; cases h
  · split
    · rename_i h; rw [h2] at h; cases h
    · rfl

end Sys2Proof.Machine
end

