-- ==== Sys2Proof/Laws/Bits.lean ====
section
/-! SUPPORT. Laws of the bit fields of natural numbers. -/

namespace Sys2Proof

/-- Setting a bit that is 0 keeps every bit that is 1. -/
theorem natBit_setBit {n k i : Nat} (hk : natBit n k = false) (hi : natBit n i = true) :
    natBit (natSetField n k 1 1) i = true := by
  have hn : natSetField n k 1 1 = n + 2 ^ k := by
    simp only [natBit, beq_eq_false_iff_ne, ne_eq] at hk
    have : n / 2 ^ k % 2 = 0 := by omega
    simp [natSetField, natField, this]
  rw [hn]
  simp only [natBit, beq_iff_eq, beq_eq_false_iff_ne, ne_eq] at *
  have hne : i ≠ k := fun e => hk (e ▸ hi)
  rcases Nat.lt_or_gt_of_ne hne with h | h
  · obtain ⟨d, rfl⟩ : ∃ d, k = i + 1 + d := ⟨k - i - 1, by omega⟩
    have e : 2 ^ (i + 1 + d) = 2 ^ i * (2 * 2 ^ d) := by rw [Nat.pow_add, Nat.pow_add]; simp [Nat.mul_assoc]
    rw [e, Nat.add_mul_div_left _ _ (Nat.two_pow_pos _)]
    omega
  · obtain ⟨d, rfl⟩ : ∃ d, i = k + 1 + d := ⟨i - k - 1, by omega⟩
    have e : 2 ^ (k + 1 + d) = 2 ^ k * 2 * 2 ^ d := by rw [Nat.pow_add, Nat.pow_add]
    rw [e, ← Nat.div_div_eq_div_mul, ← Nat.div_div_eq_div_mul, Nat.add_div_right _ (Nat.two_pow_pos _)]
    rw [e, ← Nat.div_div_eq_div_mul, ← Nat.div_div_eq_div_mul] at hi
    have : (n / 2 ^ k + 1) / 2 = n / 2 ^ k / 2 := by omega
    rw [this]; exact hi

end Sys2Proof
end

