-- ==== Sys2Proof/Laws/Evolve.lean ====
section
/-! SUPPORT. What no operation of the model undoes: `Evolves s t` holds when the state goes from `s` to `t` by operations of the
device. It is a preorder, and the other files of `Laws` show of each operation that it only evolves the state. -/

namespace Sys2Proof.Machine

/-- The sparse stores keep their canonical form, the queue of commands is untouched, what has left the device stays out, free
values are not drawn twice, the tick count does not go back, and fuses stay blown. -/
structure Evolves (s t : State) : Prop where
  regs : spWf regReset s.regs = true → spWf regReset t.regs = true
  tabs : spWf (fun _ => (0 : Entry)) s.tabs = true → spWf (fun _ => (0 : Entry)) t.tabs = true
  hbm : spWf hbmEmpty s.hbm = true → spWf hbmEmpty t.hbm = true
  flash : spWf flashEmpty s.flash = true → spWf flashEmpty t.flash = true
  pending : t.pending = s.pending
  out : ∃ l, t.out = l ++ s.out
  freeCtr : s.freeCtr ≤ t.freeCtr
  ticks : s.time.ticks ≤ t.time.ticks
  h48 : t.boot.h48 = s.boot.h48
  secFuses : s.boot.secFuses ≤ t.boot.secFuses
  keyRevoked : ∀ i, natBit s.boot.keyRevoked i = true → natBit t.boot.keyRevoked i = true

variable {s0 s t u : State}

theorem Evolves.refl (s : State) : Evolves s s :=
  ⟨id, id, id, id, rfl, ⟨[], rfl⟩, Nat.le_refl _, Nat.le_refl _, rfl, Nat.le_refl _, fun _ h => h⟩

theorem Evolves.trans (h : Evolves s t) (g : Evolves t u) : Evolves s u where
  regs w := g.regs (h.regs w)
  tabs w := g.tabs (h.tabs w)
  hbm w := g.hbm (h.hbm w)
  flash w := g.flash (h.flash w)
  pending := g.pending.trans h.pending
  out := by
    obtain ⟨l, hl⟩ := h.out
    obtain ⟨m, hm⟩ := g.out
    exact ⟨m ++ l, by rw [hm, hl, List.append_assoc]⟩
  freeCtr := Nat.le_trans h.freeCtr g.freeCtr
  ticks := Nat.le_trans h.ticks g.ticks
  h48 := g.h48.trans h.h48
  secFuses := Nat.le_trans h.secFuses g.secFuses
  keyRevoked i w := g.keyRevoked i (h.keyRevoked i w)

/-- The fields `Evolves` speaks of. -/
def State.tracked (s : State) :=
  (s.regs, s.tabs, s.hbm, s.flash, s.pending, s.out, s.freeCtr, s.time.ticks, s.boot.h48, s.boot.secFuses, s.boot.keyRevoked)

/-- An update of other fields evolves the state. -/
theorem Evolves.frame (h : Evolves s0 s) (e : t.tracked = s.tracked) : Evolves s0 t := by
  simp only [State.tracked, Prod.mk.injEq] at e
  obtain ⟨e1, e2, e3, e4, e5, e6, e7, e8, e9, e10, e11⟩ := e
  refine h.trans ⟨?_, ?_, ?_, ?_, e5, ⟨[], e6⟩, ?_, ?_, e9, ?_, ?_⟩
  · rw [e1]; exact id
  · rw [e2]; exact id
  · rw [e3]; exact id
  · rw [e4]; exact id
  · omega
  · omega
  · omega
  · rw [e11]; exact fun _ h => h

/-- `Evolves` of what an operation answers beside other data. -/
theorem Evolves.of_snd {α : Type} {p : α × State} {x : α} (h : Evolves s0 p.2) (e : p = (x, t)) : Evolves s0 t := by
  subst e; exact h

theorem Evolves.of_fst {α : Type} {p : State × α} {x : α} (h : Evolves s0 p.1) (e : p = (t, x)) : Evolves s0 t := by
  subst e; exact h

theorem Evolves.of_snd_snd {α β : Type} {p : α × β × State} {x : α} {y : β} (h : Evolves s0 p.2.2) (e : p = (x, y, t)) :
    Evolves s0 t := by
  subst e; exact h

/-- Every value an optional answer may hold. -/
def OptAll {α : Type} (P : α → Prop) (o : Option α) : Prop := ∀ x, o = some x → P x

theorem OptAll.none {α : Type} {P : α → Prop} : OptAll P none := fun _ e => nomatch e
theorem OptAll.some {α : Type} {P : α → Prop} {x : α} (h : P x) : OptAll P (some x) := fun _ e => by cases e; exact h

theorem OptAll.map {α β : Type} {P : β → Prop} {o : Option α} {f : α → β} (h : OptAll (fun x => P (f x)) o) :
    OptAll P (o.map f) := by
  cases o with
  | none => exact OptAll.none
  | some x => exact OptAll.some (h x rfl)

theorem OptAll.bind {α β : Type} {Q : α → Prop} {P : β → Prop} {o : Option α} {f : α → Option β} (h : OptAll Q o)
    (hf : ∀ x, Q x → OptAll P (f x)) : OptAll P (o.bind f) := by
  cases o with
  | none => exact OptAll.none
  | some x => exact hf x (h x rfl)

/-- WRITE and CLEAR of a table, as a window sees it, evolve the state. -/
structure WinTable.Keeps (t : WinTable) : Prop where
  put : ∀ {s0 s : State} {i m v : Nat}, Evolves s0 s → Evolves s0 (t.put s i m v).2
  clear : ∀ {s0 s : State} {i m : Nat}, Evolves s0 s → Evolves s0 (t.clear s i m).2

/-- A command that answers a next state evolves the state. -/
def Ends (s0 : State) (o : Host.Outcome State Fault Refusal) : Prop := ∀ t, o = .next t → Evolves s0 t

theorem Ends.next (h : Evolves s0 t) : Ends s0 (.next t) := fun _ e => by cases e; exact h

/-- A fold of an operation that evolves the state. -/
theorem foldl_evolves {α : Type} {f : State → α → State} (l : List α) (hf : ∀ t x, Evolves s0 t → Evolves s0 (f t x))
    (h : Evolves s0 s) : Evolves s0 (l.foldl f s) := by
  induction l generalizing s with
  | nil => exact h
  | cons x r ih => exact ih (hf s x h)

/-! ## Updates of one field of the state -/

theorem ctlUpd_evolves {x : CtlSt} (h : Evolves s0 s) : Evolves s0 { s with ctl := x } := h.frame rfl
theorem fltUpd_evolves {x : FaultSt} (h : Evolves s0 s) : Evolves s0 { s with flt := x } := h.frame rfl
theorem lineUpd_evolves {x : LineSt} (h : Evolves s0 s) : Evolves s0 { s with line := x } := h.frame rfl
theorem pipesUpd_evolves {x : List (Nat × PipeSt)} (h : Evolves s0 s) : Evolves s0 { s with pipes := x } := h.frame rfl
theorem fwdUpd_evolves {x : FwdSt} (h : Evolves s0 s) : Evolves s0 { s with fwd := x } := h.frame rfl
theorem verUpd_evolves {x : VerSt} (h : Evolves s0 s) : Evolves s0 { s with ver := x } := h.frame rfl
theorem ascUpd_evolves {x : List (Nat × AscSt)} (h : Evolves s0 s) : Evolves s0 { s with asc := x } := h.frame rfl
theorem bufUpd_evolves {x : BufSt} (h : Evolves s0 s) : Evolves s0 { s with buf := x } := h.frame rfl
theorem queUpd_evolves {x : QueSt} (h : Evolves s0 s) : Evolves s0 { s with que := x } := h.frame rfl
theorem secUpd_evolves {x : SecSt} (h : Evolves s0 s) : Evolves s0 { s with sec := x } := h.frame rfl
theorem cpuUpd_evolves {x : CpuSt} (h : Evolves s0 s) : Evolves s0 { s with cpu := x } := h.frame rfl
theorem hostUpd_evolves {x : HostSt} (h : Evolves s0 s) : Evolves s0 { s with host := x } := h.frame rfl
theorem memUpd_evolves {x : HbmSt} (h : Evolves s0 s) : Evolves s0 { s with mem := x } := h.frame rfl
theorem fabUpd_evolves {x : FabSt} (h : Evolves s0 s) : Evolves s0 { s with fab := x } := h.frame rfl
theorem imgUpd_evolves {x : ImgSt} (h : Evolves s0 s) : Evolves s0 { s with img := x } := h.frame rfl
theorem thermUpd_evolves {x : ThermSt} (h : Evolves s0 s) : Evolves s0 { s with therm := x } := h.frame rfl

theorem timeUpd_evolves {x : TimeSt} (h : Evolves s0 s) (e : x.ticks = s.time.ticks) : Evolves s0 { s with time := x } :=
  h.trans ⟨id, id, id, id, rfl, ⟨[], rfl⟩, Nat.le_refl _, Nat.le_of_eq e.symm, rfl, Nat.le_refl _, fun _ h => h⟩

theorem bootUpd_evolves {x : BootSt} (h : Evolves s0 s) (e1 : x.h48 = s.boot.h48) (e2 : x.secFuses = s.boot.secFuses)
    (e3 : x.keyRevoked = s.boot.keyRevoked) : Evolves s0 { s with boot := x } :=
  h.trans ⟨id, id, id, id, rfl, ⟨[], rfl⟩, Nat.le_refl _, Nat.le_refl _, e1, Nat.le_of_eq e2.symm, fun _ g => e3 ▸ g⟩

/-! ## The primitive operations -/

theorem State.wr_evolves {a : Nat} {v : Word} (h : Evolves s0 s) : Evolves s0 (s.wr a v) :=
  h.trans ⟨fun w => spPut_wf w, id, id, id, rfl, ⟨[], rfl⟩, Nat.le_refl _, Nat.le_refl _, rfl, Nat.le_refl _, fun _ h => h⟩

theorem regsFilter_evolves {p : Nat × Word → Bool} (h : Evolves s0 s) : Evolves s0 { s with regs := s.regs.filter p } :=
  h.trans ⟨fun w => spFilter_wf p w, id, id, id, rfl, ⟨[], rfl⟩, Nat.le_refl _, Nat.le_refl _, rfl, Nat.le_refl _, fun _ h => h⟩

theorem State.setTab_evolves {r b n i : Nat} {e : Entry} (h : Evolves s0 s) : Evolves s0 (s.setTab r b n i e) :=
  h.trans ⟨id, fun w => spPut_wf w, id, id, rfl, ⟨[], rfl⟩, Nat.le_refl _, Nat.le_refl _, rfl, Nat.le_refl _, fun _ h => h⟩

theorem tabsFilter_evolves {p : Nat × Entry → Bool} (h : Evolves s0 s) : Evolves s0 { s with tabs := s.tabs.filter p } :=
  h.trans ⟨id, fun w => spFilter_wf p w, id, id, rfl, ⟨[], rfl⟩, Nat.le_refl _, Nat.le_refl _, rfl, Nat.le_refl _, fun _ h => h⟩

theorem memPutBytes_wf {d : Nat → Byte} {l : List Host.Cell} {a : Nat} {b : List Byte} (w : spWf d l = true) :
    spWf d (memPutBytes d l a b) = true := by
  induction b generalizing l a with
  | nil => exact w
  | cons x r ih => exact ih (spPut_wf w)

theorem State.hbmWrite_evolves {a : Nat} {b : List Byte} (h : Evolves s0 s) : Evolves s0 (s.hbmWrite a b) :=
  h.trans ⟨id, id, fun w => memPutBytes_wf w, id, rfl, ⟨[], rfl⟩, Nat.le_refl _, Nat.le_refl _, rfl, Nat.le_refl _, fun _ h => h⟩

theorem hbmFilter_evolves {p : Host.Cell → Bool} (h : Evolves s0 s) : Evolves s0 { s with hbm := s.hbm.filter p } :=
  h.trans ⟨id, id, fun w => spFilter_wf p w, id, rfl, ⟨[], rfl⟩, Nat.le_refl _, Nat.le_refl _, rfl, Nat.le_refl _, fun _ h => h⟩

theorem State.flashWrite_evolves {a : Nat} {b : List Byte} (h : Evolves s0 s) : Evolves s0 (s.flashWrite a b) :=
  h.trans ⟨id, id, id, fun w => memPutBytes_wf w, rfl, ⟨[], rfl⟩, Nat.le_refl _, Nat.le_refl _, rfl, Nat.le_refl _, fun _ h => h⟩

theorem flashFilter_evolves {p : Host.Cell → Bool} (h : Evolves s0 s) : Evolves s0 { s with flash := s.flash.filter p } :=
  h.trans ⟨id, id, id, fun w => spFilter_wf p w, rfl, ⟨[], rfl⟩, Nat.le_refl _, Nat.le_refl _, rfl, Nat.le_refl _, fun _ h => h⟩

theorem State.emit_evolves {o : Out} (h : Evolves s0 s) : Evolves s0 (s.emit o) :=
  h.trans ⟨id, id, id, id, rfl, ⟨[o], rfl⟩, Nat.le_refl _, Nat.le_refl _, rfl, Nat.le_refl _, fun _ h => h⟩

theorem State.drawn_evolves (h : Evolves s0 s) : Evolves s0 s.drawn :=
  h.trans ⟨id, id, id, id, rfl, ⟨[], rfl⟩, Nat.le_succ _, Nat.le_refl _, rfl, Nat.le_refl _, fun _ h => h⟩

end Sys2Proof.Machine
end

