-- ==== Sys2Proof/Laws/Stores.lean ====
section
/-! SUPPORT. What a record of a sparse store reads as after one was written: the one written, and every other as it was. -/

namespace Sys2Proof.Machine

variable {s : State}

@[simp] theorem State.context_setContext_self (k : Nat) (x : ContextSt) : (s.setContext k x).context k = x := spGet_spPut_self _ _ _
theorem State.context_setContext_ne {j k : Nat} (h : j ≠ k) (x : ContextSt) : (s.setContext k x).context j = s.context j := spGet_spPut_ne _ h _

@[simp] theorem State.source_setSource_self (k : Nat) (x : SourceSt) : (s.setSource k x).source k = x := spGet_spPut_self _ _ _
theorem State.source_setSource_ne {j k : Nat} (h : j ≠ k) (x : SourceSt) : (s.setSource k x).source j = s.source j := spGet_spPut_ne _ h _

@[simp] theorem State.arr_setArr_self (k : ArrayRef) (x : AscSt) : (s.setArr k x).arr k = x := spGet_spPut_self _ _ _

@[simp] theorem State.thr_setThr_self (k : Nat) (x : ThreadSt) : (s.setThr k x).thr k = x := spGet_spPut_self _ _ _
theorem State.thr_setThr_ne {j k : Nat} (h : j ≠ k) (x : ThreadSt) : (s.setThr k x).thr j = s.thr j := spGet_spPut_ne _ h _

@[simp] theorem State.declared_setDeclared_self (k : Nat) (x : Bool) : (s.setDeclared k x).declared k = x := spGet_spPut_self _ _ _
theorem State.declared_setDeclared_ne {j k : Nat} (h : j ≠ k) (x : Bool) : (s.setDeclared k x).declared j = s.declared j := spGet_spPut_ne _ h _

@[simp] theorem State.pmu_setPmu_self (k : Nat) (x : PmuSt) : (s.setPmu k x).pmu k = x := spGet_spPut_self _ _ _
theorem State.pmu_setPmu_ne {j k : Nat} (h : j ≠ k) (x : PmuSt) : (s.setPmu k x).pmu j = s.pmu j := spGet_spPut_ne _ h _

@[simp] theorem State.port_setPort_self (k : Nat) (x : PortSt) : (s.setPort k x).port k = x := spGet_spPut_self _ _ _
theorem State.port_setPort_ne {j k : Nat} (h : j ≠ k) (x : PortSt) : (s.setPort k x).port j = s.port j := spGet_spPut_ne _ h _

@[simp] theorem State.cage_setCage_self (k : Nat) (x : CageSt) : (s.setCage k x).cage k = x := spGet_spPut_self _ _ _
theorem State.cage_setCage_ne {j k : Nat} (h : j ≠ k) (x : CageSt) : (s.setCage k x).cage j = s.cage j := spGet_spPut_ne _ h _

@[simp] theorem State.lrn_setLrn_self (k : Nat) (x : LearnSt) : (s.setLrn k x).lrn k = x := spGet_spPut_self _ _ _
theorem State.lrn_setLrn_ne {j k : Nat} (h : j ≠ k) (x : LearnSt) : (s.setLrn k x).lrn j = s.lrn j := spGet_spPut_ne _ h _

@[simp] theorem State.lane_setLane_self (k : Nat) (x : FLaneSt) : (s.setLane k x).lane k = x := spGet_spPut_self _ _ _
theorem State.lane_setLane_ne {j k : Nat} (h : j ≠ k) (x : FLaneSt) : (s.setLane k x).lane j = s.lane j := spGet_spPut_ne _ h _

@[simp] theorem State.rst_setRst_self (k : Nat) (x : RegionSt) : (s.setRst k x).rst k = x := spGet_spPut_self _ _ _
theorem State.rst_setRst_ne {j k : Nat} (h : j ≠ k) (x : RegionSt) : (s.setRst k x).rst j = s.rst j := spGet_spPut_ne _ h _

@[simp] theorem State.slice_setSlice_self (k : Nat) (x : SliceSt) : (s.setSlice k x).slice k = x := spGet_spPut_self _ _ _
theorem State.slice_setSlice_ne {j k : Nat} (h : j ≠ k) (x : SliceSt) : (s.setSlice k x).slice j = s.slice j := spGet_spPut_ne _ h _

@[simp] theorem State.hlink_setHlink_self (k : Nat) (x : LinkSt) : (s.setHlink k x).hlink k = x := spGet_spPut_self _ _ _
theorem State.hlink_setHlink_ne {j k : Nat} (h : j ≠ k) (x : LinkSt) : (s.setHlink k x).hlink j = s.hlink j := spGet_spPut_ne _ h _

@[simp] theorem State.qp_setQp_self (k : Nat) (x : QpSt) : (s.setQp k x).qp k = x := spGet_spPut_self _ _ _
theorem State.qp_setQp_ne {j k : Nat} (h : j ≠ k) (x : QpSt) : (s.setQp k x).qp j = s.qp j := spGet_spPut_ne _ h _

@[simp] theorem State.shareRec_setShareRec_self (k : Nat) (x : ShareRec) : (s.setShareRec k x).shareRec k = x := spGet_spPut_self _ _ _
theorem State.shareRec_setShareRec_ne {j k : Nat} (h : j ≠ k) (x : ShareRec) : (s.setShareRec k x).shareRec j = s.shareRec j := spGet_spPut_ne _ h _

@[simp] theorem State.pool_setPool_self (k : Nat) (x : PoolSt) : (s.setPool k x).pool k = x := spGet_spPut_self _ _ _
theorem State.pool_setPool_ne {j k : Nat} (h : j ≠ k) (x : PoolSt) : (s.setPool k x).pool j = s.pool j := spGet_spPut_ne _ h _

@[simp] theorem State.stack_setStack_self (k : Nat) (x : MemSt) : (s.setStack k x).stack k = x := spGet_spPut_self _ _ _
theorem State.stack_setStack_ne {j k : Nat} (h : j ≠ k) (x : MemSt) : (s.setStack k x).stack j = s.stack j := spGet_spPut_ne _ h _

@[simp] theorem State.ovcPort_setOvc_self (k : Nat) (x : OvcSt) : (s.setOvc k x).ovcPort k = x := spGet_spPut_self _ _ _
theorem State.ovcPort_setOvc_ne {j k : Nat} (h : j ≠ k) (x : OvcSt) : (s.setOvc k x).ovcPort j = s.ovcPort j := spGet_spPut_ne _ h _

@[simp] theorem State.relayQ_setRelayQ_self (k : Nat) (x : List HeldCell) : (s.setRelayQ k x).relayQ k = x := spGet_spPut_self _ _ _
theorem State.relayQ_setRelayQ_ne {j k : Nat} (h : j ≠ k) (x : List HeldCell) : (s.setRelayQ k x).relayQ j = s.relayQ j := spGet_spPut_ne _ h _

@[simp] theorem State.grant_setGrant_self (k : Nat) (x : Grant) : (s.setGrant k x).grant k = x := spGet_spPut_self _ _ _
theorem State.grant_setGrant_ne {j k : Nat} (h : j ≠ k) (x : Grant) : (s.setGrant k x).grant j = s.grant j := spGet_spPut_ne _ h _

@[simp] theorem State.openCell_setOpen_self (k : Nat) (x : Option OpenCell) : (s.setOpen k x).openCell k = x := spGet_spPut_self _ _ _
theorem State.openCell_setOpen_ne {j k : Nat} (h : j ≠ k) (x : Option OpenCell) : (s.setOpen k x).openCell j = s.openCell j := spGet_spPut_ne _ h _

@[simp] theorem State.queue_setQueue_self (k : Nat) (x : QSt) : (s.setQueue k x).queue k = x := spGet_spPut_self _ _ _
theorem State.queue_setQueue_ne {j k : Nat} (h : j ≠ k) (x : QSt) : (s.setQueue k x).queue j = s.queue j := spGet_spPut_ne _ h _

@[simp] theorem State.chan_setChan_self (k : Nat) (x : ChanSt) : (s.setChan k x).chan k = x := spGet_spPut_self _ _ _
theorem State.chan_setChan_ne {j k : Nat} (h : j ≠ k) (x : ChanSt) : (s.setChan k x).chan j = s.chan j := spGet_spPut_ne _ h _

@[simp] theorem State.pipe_setPipe_self (k : Nat) (x : PipeSt) : (s.setPipe k x).pipe k = x := spGet_spPut_self _ _ _
theorem State.pipe_setPipe_ne {j k : Nat} (h : j ≠ k) (x : PipeSt) : (s.setPipe k x).pipe j = s.pipe j := spGet_spPut_ne _ h _

@[simp] theorem State.engine_setEngine_self (i e : Nat) (x : Engine) : (s.setEngine i e x).engine i e = x := by
  unfold State.engine State.setEngine
  rw [State.pipe_setPipe_self]
  exact spGet_spPut_self _ _ _

end Sys2Proof.Machine
end

