-- ==== Sys2Proof/Laws/Ops.lean ====
section
/-! SUPPORT. Every operation of `Sys2Proof/Machine/Ops.lean` only evolves the state (`Evolves`), one lemma per operation. -/

namespace Sys2Proof.Machine

theorem State.setFld_evolves {s0 : State} {s : State} {a : Nat} {lo : Nat} {w : Nat} {v : Nat} (h : Evolves s0 s) :
    Evolves s0 (State.setFld s a lo w v) := by
  unfold State.setFld
  exact (State.wr_evolves h)

theorem State.setRbit_evolves {s0 : State} {s : State} {a : Nat} {i : Nat} {b : Bool} (h : Evolves s0 s) :
    Evolves s0 (State.setRbit s a i b) := by
  unfold State.setRbit
  exact (State.setFld_evolves h)

theorem State.wr64_evolves {s0 : State} {s : State} {a : Nat} {v : Nat} (h : Evolves s0 s) :
    Evolves s0 (State.wr64 s a v) := by
  unfold State.wr64
  exact (State.wr_evolves (State.wr_evolves h))

theorem State.bump_evolves {s0 : State} {s : State} {a : Nat} {n : optParam Nat 1} (h : Evolves s0 s) :
    Evolves s0 (State.bump s a n) := by
  unfold State.bump
  split
  · exact h
  · exact (State.wr_evolves h)

theorem State.bump64_evolves {s0 : State} {s : State} {a : Nat} {n : optParam Nat 1} {w : optParam Nat 64} (h : Evolves s0 s) :
    Evolves s0 (State.bump64 s a n w) := by
  unfold State.bump64
  split
  · exact h
  · exact (State.wr64_evolves h)

theorem State.cpStore_evolves {s0 : State} {s : State} {mask : Nat} {a : Nat} {v : Nat} (h : Evolves s0 s) :
    Evolves s0 (State.cpStore s mask a v) := by
  unfold State.cpStore
  extract_lets x0 x1
  have k2 : Evolves s0 x0 := (State.wr_evolves (State.wr_evolves h))
  exact (ctlUpd_evolves k2)

theorem State.setTabN_evolves {s0 : State} {s : State} {region : Nat} {block : Nat} {table : Nat} {index : Nat} {v : Nat} (h : Evolves s0 s) :
    Evolves s0 (State.setTabN s region block table index v) := by
  unfold State.setTabN
  exact (State.setTab_evolves h)

theorem State.setDom_evolves {s0 : State} {s : State} {d : Dom} {x : Domain} (h : Evolves s0 s) :
    Evolves s0 (State.setDom s d x) := by
  cases d <;> exact h.frame rfl

theorem State.setRgnState_evolves {s0 : State} {s : State} {r : Nat} {x : RegionState} (h : Evolves s0 s) :
    Evolves s0 (State.setRgnState s r x) := by
  unfold State.setRgnState
  exact (State.setFld_evolves h)

theorem State.setRst_evolves {s0 : State} {s : State} {r : Nat} {x : RegionSt} (h : Evolves s0 s) :
    Evolves s0 (State.setRst s r x) := by
  unfold State.setRst
  extract_lets x0
  exact (fltUpd_evolves h)

theorem State.absentDrop_evolves {s0 : State} {s : State} {r : Nat} (h : Evolves s0 s) :
    Evolves s0 (State.absentDrop s r) := by
  unfold State.absentDrop
  exact (State.bump_evolves h)

end Sys2Proof.Machine
end

