-- ==== Sys2Proof/Laws/Flags.lean ====
section
/-! SUPPORT. Every operation of `Sys2Proof/Machine/Flags.lean` only evolves the state (`Evolves`), one lemma per operation. -/

namespace Sys2Proof.Machine

theorem State.setEvent_evolves {s0 : State} {s : State} {t : Nat} {i : Nat} (h : Evolves s0 s) :
    Evolves s0 (State.setEvent s t i) := by
  unfold State.setEvent
  exact (State.wr64_evolves h)

theorem State.setCause_evolves {s0 : State} {s : State} {region : Nat} {block : Nat} {k : Nat} (h : Evolves s0 s) :
    Evolves s0 (State.setCause s region block k) := by
  unfold State.setCause
  exact (State.setRbit_evolves h)

theorem deviceEventWith_evolves {s0 : State} {raise : Nat → Nat → Nat → State → State} {t : Nat} {i : Nat} {s : State} (h0 : ∀ b0 b1 b2 b3, Evolves s0 b3 → Evolves s0 (raise b0 b1 b2 b3)) (h1 : Evolves s0 s) :
    Evolves s0 (deviceEventWith raise t i s) := by
  unfold deviceEventWith
  split
  · exact (h0 _ _ _ _ (State.bump_evolves h1))
  · exact (State.setEvent_evolves h1)

theorem intgLogWith_evolves {s0 : State} {raise : Nat → Nat → Nat → State → State} {kind : Nat} {addr : Nat} {master : Nat} {src : Nat} {thread : Nat} {s : State} (h0 : ∀ b0 b1 b2 b3, Evolves s0 b3 → Evolves s0 (raise b0 b1 b2 b3)) (h1 : Evolves s0 s) :
    Evolves s0 (intgLogWith raise kind addr master src thread s) := by
  unfold intgLogWith
  extract_lets x0 x1 x2
  split
  · exact (h0 _ _ _ _ (ctlUpd_evolves h1))
  · exact (h0 _ _ _ _ (ctlUpd_evolves h1))

theorem routeWith_evolves {s0 : State} {raise : Nat → Nat → Nat → State → State} {region : Nat} {block : Nat} {k : Nat} {n : Nat} {s : State} (h0 : ∀ b0 b1 b2 b3, Evolves s0 b3 → Evolves s0 (raise b0 b1 b2 b3)) (h1 : Evolves s0 s) :
    Evolves s0 (routeWith raise region block k n s) := by
  unfold routeWith
  extract_lets x0 x1
  split
  · split
    · exact (intgLogWith_evolves (fun a4 a5 a6 a7 k8 => (h0 _ _ _ _ k8)) h1)
    · exact (deviceEventWith_evolves (fun a10 a11 a12 a13 k14 => (h0 _ _ _ _ k14)) h1)
  · exact h1

theorem raiseN_evolves {s0 : State} {f r b k : Nat} {s : State} (h : Evolves s0 s) : Evolves s0 (raiseN f r b k s) := by
  induction f generalizing r b k s with
  | zero => exact State.setCause_evolves h
  | succ n ih =>
    unfold raiseN
    split
    · exact h
    · exact routeWith_evolves (fun _ _ _ _ g => ih g) (routeWith_evolves (fun _ _ _ _ g => ih g) (State.setCause_evolves h))

theorem State.raise_evolves {s0 : State} {s : State} {region : Nat} {block : Nat} {k : Nat} (h : Evolves s0 s) :
    Evolves s0 (State.raise s region block k) := by
  unfold State.raise
  exact (raiseN_evolves h)

theorem State.raiseIf_evolves {s0 : State} {s : State} {c : Bool} {region : Nat} {block : Nat} {k : Nat} (h : Evolves s0 s) :
    Evolves s0 (State.raiseIf s c region block k) := by
  unfold State.raiseIf
  split
  · exact (State.raise_evolves h)
  · exact h

theorem State.intgLog_evolves {s0 : State} {s : State} {kind : Nat} {addr : Nat} {master : Nat} {src : Nat} {thread : Nat} (h : Evolves s0 s) :
    Evolves s0 (State.intgLog s kind addr master src thread) := by
  unfold State.intgLog
  exact (intgLogWith_evolves (fun a0 a1 a2 a3 k4 => (State.raise_evolves k4)) h)

theorem State.deviceEvent_evolves {s0 : State} {s : State} {t : Nat} {i : Nat} (h : Evolves s0 s) :
    Evolves s0 (State.deviceEvent s t i) := by
  unfold State.deviceEvent
  split
  · exact h
  · exact (deviceEventWith_evolves (fun a2 a3 a4 a5 k6 => (State.raise_evolves k6)) h)

theorem State.accessNoted_evolves {s0 : State} {s : State} {m : Master} {addr : Nat} {c : AccCode} (h : Evolves s0 s) :
    Evolves s0 (State.accessNoted s m addr c) := by
  unfold State.accessNoted
  extract_lets x0 x1
  split
  · exact (State.intgLog_evolves h)
  · exact (State.intgLog_evolves h)
  · exact (State.intgLog_evolves h)
  · exact (State.intgLog_evolves h)
  · split
    · exact (State.bump_evolves h)
    · exact h
  · exact h
  · exact h
  · exact h
  · exact h
  · exact h

theorem State.accessRefused_evolves {s0 : State} {s : State} {m : Master} {addr : Nat} {c : AccCode} (h : Evolves s0 s) :
    Evolves s0 (State.accessRefused s m addr c) := by
  unfold State.accessRefused
  extract_lets x0
  split
  · exact h
  · exact h
  · exact h
  · exact (State.accessNoted_evolves h)
  · exact (State.emit_evolves (State.accessNoted_evolves h))
  · exact (State.emit_evolves (State.accessNoted_evolves h))
  · exact (State.emit_evolves (State.accessNoted_evolves h))
  · exact (State.emit_evolves (State.accessNoted_evolves h))
  · exact (State.emit_evolves (State.accessNoted_evolves h))
  · exact (ctlUpd_evolves h)

theorem State.asWrite_evolves {s0 : State} {s : State} {m : Master} {addr : Nat} {f : State → State} (h0 : Evolves s0 s) (h1 : ∀ b0, Evolves s0 b0 → Evolves s0 (f b0)) :
    Evolves s0 (State.asWrite s m addr f) := by
  unfold State.asWrite
  split
  · exact (h1 _ h0)
  · exact (State.accessRefused_evolves h0)

theorem State.asRead_evolves {s0 : State} {s : State} {m : Master} {addr : Nat} {f : State → Nat × State} (h0 : Evolves s0 s) (h1 : ∀ b0, Evolves s0 b0 → Evolves s0 (f b0).2) :
    Evolves s0 (State.asRead s m addr f) := by
  unfold State.asRead
  extract_lets x0
  have k1 : Evolves s0 x0.2 := (h1 _ h0)
  split
  · exact (State.emit_evolves k1)
  · exact (State.accessRefused_evolves h0)

theorem State.asCpWrite_evolves {s0 : State} {s : State} {m : Master} {addr : Nat} {mask : Nat} {datum : BitVec 64} {f : Nat → State → State} (h0 : Evolves s0 s) (h1 : ∀ b0 b1, Evolves s0 b1 → Evolves s0 (f b0 b1)) :
    Evolves s0 (State.asCpWrite s m addr mask datum f) := by
  unfold State.asCpWrite
  extract_lets x0
  split
  · split
    · exact (h1 _ _ h0)
    · exact (State.intgLog_evolves h0)
  · exact (State.accessRefused_evolves h0)

theorem State.cpCheck_evolves {s0 : State} {s : State} {mask : Nat} {a : Nat} (h : Evolves s0 s) :
    Evolves s0 (State.cpCheck s mask a) := by
  unfold State.cpCheck
  split
  · exact h
  · exact (State.intgLog_evolves h)

theorem State.deviceIdRead_evolves {s0 : State} {s : State} (h : Evolves s0 s) :
    Evolves s0 (State.deviceIdRead s) := by
  unfold State.deviceIdRead
  exact (State.cpCheck_evolves h)

theorem State.lockedWrite_evolves {s0 : State} {s : State} {m : Option Master} {addr : Nat} (h : Evolves s0 s) :
    Evolves s0 (State.lockedWrite s m addr) := by
  unfold State.lockedWrite
  exact (State.intgLog_evolves h)

theorem State.cpRefused_evolves {s0 : State} {s : State} {m : Option Master} {addr : Nat} (h : Evolves s0 s) :
    Evolves s0 (State.cpRefused s m addr) := by
  unfold State.cpRefused
  exact (State.intgLog_evolves h)

end Sys2Proof.Machine
end

