-- ==== Sys2Proof/Laws/Control.lean ====
section
/-! SUPPORT. Every operation of `Sys2Proof/Machine/Control.lean` only evolves the state (`Evolves`), one lemma per operation. -/

namespace Sys2Proof.Machine

theorem State.intgHead_evolves {s0 : State} {s : State} {m : Option Master} (h : Evolves s0 s) :
    Evolves s0 (State.intgHead s m).2 := by
  unfold State.intgHead
  extract_lets x0 x1
  exact (ctlUpd_evolves h)

theorem State.intgPop_evolves {s0 : State} {s : State} {m : Option Master} (h : Evolves s0 s) :
    Evolves s0 (State.intgPop s m).2 := by
  unfold State.intgPop
  extract_lets x0 x1 x2
  split
  · exact (ctlUpd_evolves h)
  · exact (ctlUpd_evolves h)

theorem execIntgLogReadHead_evolves {s0 : State} {m : Master} {s : State} (h : Evolves s0 s) :
    Ends s0 (execIntgLogReadHead m s) := by
  unfold execIntgLogReadHead
  exact Ends.next (State.asRead_evolves h (fun a0 k1 => (State.intgHead_evolves k1)))

theorem execIntgLogReadPop_evolves {s0 : State} {m : Master} {s : State} (h : Evolves s0 s) :
    Ends s0 (execIntgLogReadPop m s) := by
  unfold execIntgLogReadPop
  exact Ends.next (State.asRead_evolves h (fun a0 k1 => (State.intgPop_evolves k1)))

theorem State.snapArm_evolves {s0 : State} {s : State} {c : SnapCmd} (h : Evolves s0 s) :
    Evolves s0 (State.snapArm s c) := by
  unfold State.snapArm
  extract_lets x0 x1
  split
  · exact (State.raise_evolves h)
  · exact (ctlUpd_evolves h)

theorem State.snapThawAt_evolves {s0 : State} {s : State} (h : Evolves s0 s) :
    Evolves s0 (State.snapThawAt s) := by
  unfold State.snapThawAt
  extract_lets x0 x1
  exact (ctlUpd_evolves h)

theorem State.snapThawNow_evolves {s0 : State} {s : State} (h : Evolves s0 s) :
    Evolves s0 (State.snapThawNow s) := by
  unfold State.snapThawNow
  extract_lets x0
  exact (ctlUpd_evolves h)

theorem State.snapDisarm_evolves {s0 : State} {s : State} (h : Evolves s0 s) :
    Evolves s0 (State.snapDisarm s) := by
  unfold State.snapDisarm
  extract_lets x0
  exact (ctlUpd_evolves h)

theorem State.snapCtrlWrite_evolves {s0 : State} {s : State} {cmd : Nat} (h : Evolves s0 s) :
    Evolves s0 (State.snapCtrlWrite s cmd) := by
  unfold State.snapCtrlWrite
  split
  · exact (State.snapArm_evolves h)
  · exact (State.snapArm_evolves h)
  · exact (State.snapThawAt_evolves h)
  · exact (State.snapThawNow_evolves h)
  · exact (State.snapDisarm_evolves h)
  · exact h

theorem execSnapCopyArm_evolves {s0 : State} {m : Master} {s : State} (h : Evolves s0 s) :
    Ends s0 (execSnapCopyArm m s) := by
  unfold execSnapCopyArm
  exact Ends.next (State.asWrite_evolves h (fun a0 k1 => (State.snapCtrlWrite_evolves k1)))

theorem execSnapFreezeArm_evolves {s0 : State} {m : Master} {s : State} (h : Evolves s0 s) :
    Ends s0 (execSnapFreezeArm m s) := by
  unfold execSnapFreezeArm
  exact Ends.next (State.asWrite_evolves h (fun a0 k1 => (State.snapCtrlWrite_evolves k1)))

theorem execSnapThawAt_evolves {s0 : State} {m : Master} {s : State} (h : Evolves s0 s) :
    Ends s0 (execSnapThawAt m s) := by
  unfold execSnapThawAt
  exact Ends.next (State.asWrite_evolves h (fun a0 k1 => (State.snapCtrlWrite_evolves k1)))

theorem execSnapThawNow_evolves {s0 : State} {m : Master} {s : State} (h : Evolves s0 s) :
    Ends s0 (execSnapThawNow m s) := by
  unfold execSnapThawNow
  exact Ends.next (State.asWrite_evolves h (fun a0 k1 => (State.snapCtrlWrite_evolves k1)))

theorem execSnapDisarm_evolves {s0 : State} {m : Master} {s : State} (h : Evolves s0 s) :
    Ends s0 (execSnapDisarm m s) := by
  unfold execSnapDisarm
  exact Ends.next (State.asWrite_evolves h (fun a0 k1 => (State.snapCtrlWrite_evolves k1)))

theorem State.snapThawDue_evolves {s0 : State} {s : State} (h : Evolves s0 s) :
    Evolves s0 (State.snapThawDue s) := by
  unfold State.snapThawDue
  split
  · split
    · exact (State.snapThawNow_evolves h)
    · exact h
  · exact h

theorem execSnapInstant_evolves {s0 : State} {s : State} (h : Evolves s0 s) :
    Ends s0 (execSnapInstant s) := by
  unfold execSnapInstant
  extract_lets x0
  split
  · split
    · split
      · exact Ends.next (ctlUpd_evolves h)
      · exact Ends.next (ctlUpd_evolves h)
    · exact Ends.next (State.snapThawDue_evolves h)
  · exact Ends.next (State.snapThawDue_evolves h)

end Sys2Proof.Machine
end

