-- ==== Sys2Proof/Laws/Versions.lean ====
section
/-! SUPPORT. Every operation of `Sys2Proof/Machine/Versions.lean` only evolves the state (`Evolves`), one lemma per operation. -/

namespace Sys2Proof.Machine

theorem State.setVerOther_evolves {s0 : State} {s : State} {v : Nat} (h : Evolves s0 s) :
    Evolves s0 (State.setVerOther s v) := by
  unfold State.setVerOther
  exact (State.setFld_evolves h)

theorem State.verRaise_evolves {s0 : State} {s : State} {k : Nat} (h : Evolves s0 s) :
    Evolves s0 (State.verRaise s k) := by
  unfold State.verRaise
  exact (State.raise_evolves h)

theorem State.meetPkt_evolves {s0 : State} {s : State} {k : Pkt} (h : Evolves s0 s) :
    Evolves s0 (State.meetPkt s k).2 := by
  unfold State.meetPkt
  split
  · dsimp only
    split
    · exact h
    · exact (State.verRaise_evolves (State.bump_evolves h))
  · exact h

theorem State.inflAdd_evolves {s0 : State} {s : State} {odd : Bool} {n : optParam Nat 1} (h : Evolves s0 s) :
    Evolves s0 (State.inflAdd s odd n) := by
  unfold State.inflAdd
  extract_lets x0
  exact (verUpd_evolves h)

theorem State.inflSub_evolves {s0 : State} {s : State} {odd : Bool} (h : Evolves s0 s) :
    Evolves s0 (State.inflSub s odd) := by
  unfold State.inflSub
  extract_lets x0
  exact (verUpd_evolves h)

theorem State.verProtect_evolves {s0 : State} {s : State} {a : Nat} (h : Evolves s0 s) :
    Evolves s0 (State.verProtect s a).2 := by
  unfold State.verProtect
  exact (State.verRaise_evolves (State.wr_evolves h))

theorem State.verRefused_evolves {s0 : State} {s : State} (h : Evolves s0 s) :
    Evolves s0 (State.verRefused s) := by
  unfold State.verRefused
  exact (State.verRaise_evolves h)

theorem State.verSeal_evolves {s0 : State} {s : State} {t : Nat} (h : Evolves s0 s) :
    Evolves s0 (State.verSeal s t) := by
  unfold State.verSeal
  extract_lets x0
  exact (State.setVerOther_evolves (verUpd_evolves h))

theorem State.verRetired_evolves {s0 : State} {s : State} {forced : Bool} (h : Evolves s0 s) :
    Evolves s0 (State.verRetired s forced) := by
  unfold State.verRetired
  exact (State.verRaise_evolves (State.wr_evolves (State.setRbit_evolves (State.setVerOther_evolves h))))

theorem State.verCtrl_evolves {s0 : State} {s : State} {cmd : Nat} (h : Evolves s0 s) :
    Evolves s0 (State.verCtrl s cmd) := by
  unfold State.verCtrl
  extract_lets x0 x1 x2 x3
  have k4 : Evolves s0 x2 := (State.verRetired_evolves h)
  split
  · split
    · exact (State.verRefused_evolves h)
    · exact (State.verSeal_evolves h)
  · split
    · exact (State.verRefused_evolves h)
    · exact (State.verSeal_evolves h)
  · split
    · split
      · exact (State.verRefused_evolves h)
      · exact (State.setVerOther_evolves (verUpd_evolves h))
    · exact (State.verRefused_evolves h)
  · split
    · exact (verUpd_evolves k4)
    · exact (State.verRefused_evolves h)
  · exact h

theorem execVerCommit_evolves {s0 : State} {m : Master} {s : State} (h : Evolves s0 s) :
    Ends s0 (execVerCommit m s) := by
  unfold execVerCommit
  exact Ends.next (State.asWrite_evolves h (fun a0 k1 => (State.verCtrl_evolves k1)))

theorem execVerArm_evolves {s0 : State} {m : Master} {s : State} (h : Evolves s0 s) :
    Ends s0 (execVerArm m s) := by
  unfold execVerArm
  exact Ends.next (State.asWrite_evolves h (fun a0 k1 => (State.verCtrl_evolves k1)))

theorem execVerDisarm_evolves {s0 : State} {m : Master} {s : State} (h : Evolves s0 s) :
    Ends s0 (execVerDisarm m s) := by
  unfold execVerDisarm
  exact Ends.next (State.asWrite_evolves h (fun a0 k1 => (State.verCtrl_evolves k1)))

theorem execForceRetire_evolves {s0 : State} {m : Master} {s : State} (h : Evolves s0 s) :
    Ends s0 (execForceRetire m s) := by
  unfold execForceRetire
  exact Ends.next (State.asWrite_evolves h (fun a0 k1 => (State.verCtrl_evolves k1)))

theorem State.verSeqWrite_evolves {s0 : State} {s : State} {v : Nat} (h : Evolves s0 s) :
    Evolves s0 (State.verSeqWrite s v) := by
  unfold State.verSeqWrite
  split
  · exact (State.setFld_evolves (State.wr_evolves h))
  · exact (State.verRefused_evolves h)

theorem execVerSeqWrite_evolves {s0 : State} {m : Master} {v : Word} {s : State} (h : Evolves s0 s) :
    Ends s0 (execVerSeqWrite m v s) := by
  unfold execVerSeqWrite
  exact Ends.next (State.asWrite_evolves h (fun a0 k1 => (State.verSeqWrite_evolves k1)))

theorem execRetireLate_evolves {s0 : State} {s : State} (h : Evolves s0 s) :
    Ends s0 (execRetireLate s) := by
  unfold execRetireLate
  extract_lets x0
  split
  · exact Ends.next (State.verRaise_evolves (verUpd_evolves h))
  · exact Ends.next h

end Sys2Proof.Machine
end

