-- ==== Sys2Proof/Laws/Window.lean ====
section
/-! SUPPORT. Every operation of `Sys2Proof/Machine/Window.lean` only evolves the state (`Evolves`), one lemma per operation. -/

namespace Sys2Proof.Machine

theorem State.setWinIndex_evolves {s0 : State} {s : State} {a : Nat} {v : Nat} (h : Evolves s0 s) :
    Evolves s0 (State.setWinIndex s a v) := by
  unfold State.setWinIndex
  exact (State.wr_evolves (State.wr_evolves h))

theorem State.setWinWord_evolves {s0 : State} {s : State} {a : Nat} {i : Nat} {v : Nat} (h : Evolves s0 s) :
    Evolves s0 (State.setWinWord s a i v) := by
  unfold State.setWinWord
  exact (State.wr_evolves h)

theorem State.setWinData_evolves {s0 : State} {s : State} {a : Nat} {y2 : Nat} {y3 : Nat} (h : Evolves s0 s) :
    Evolves s0 (State.setWinData s a y2 y3) := by
  fun_induction State.setWinData s a y2 y3
  · exact h
  · rename_i v1 v2 e3
    exact (State.setWinWord_evolves e3)

theorem State.winEnd_evolves {s0 : State} {s : State} {a : Nat} {err : Nat} {bytes : Nat} (h : Evolves s0 s) :
    Evolves s0 (State.winEnd s a err bytes) := by
  unfold State.winEnd
  extract_lets x0
  have k1 : Evolves s0 x0 := (State.wr_evolves h)
  split
  · exact (State.setWinIndex_evolves k1)
  · exact k1

theorem State.winQueue_evolves {s0 : State} {s : State} {a : Nat} {v : Nat} (h : Evolves s0 s) :
    Evolves s0 (State.winQueue s a v) := by
  unfold State.winQueue
  extract_lets x0 x1 x2 x3
  have k4 : Evolves s0 x0 := (State.wr_evolves h)
  have k5 : Evolves s0 x2 := (imgUpd_evolves k4)
  have k6 : Evolves s0 x3 := (State.setFld_evolves k5)
  split
  · exact (State.setFld_evolves h)
  · split
    · exact (State.setWinIndex_evolves k6)
    · exact k6

theorem State.winStart_evolves {s0 : State} {s : State} {a : Nat} {v : Nat} {run : State → State} (h0 : Evolves s0 s) (h1 : ∀ b0, Evolves s0 b0 → Evolves s0 (run b0)) :
    Evolves s0 (State.winStart s a v run) := by
  unfold State.winStart
  split
  · exact (State.setFld_evolves h0)
  · split
    · exact (State.winQueue_evolves h0)
    · exact (h1 _ (State.wr_evolves h0))

theorem State.winCmd_evolves {s0 : State} {s : State} {a : Nat} {v : Nat} {bytes : Nat} {run : State → Nat × State} (h0 : Evolves s0 s) (h1 : ∀ b0, Evolves s0 b0 → Evolves s0 (run b0).2) :
    Evolves s0 (State.winCmd s a v bytes run) := by
  unfold State.winCmd
  refine State.winStart_evolves ?_ ?_
  · exact h0
  · intro a2 k3
    extract_lets x4
    have k5 : Evolves s0 x4.2 := (h1 _ k3)
    exact (State.winEnd_evolves k5)

theorem plainTable_keeps {region : Nat} {block : Nat} {table : Nat} {bytes : Nat} {count : Nat} {ok : State → Nat → Nat → Bool} :
    WinTable.Keeps (plainTable region block table bytes count ok) := by
  unfold plainTable
  constructor
  · intro s0 s0 i1 m2 w3 k4
    dsimp only
    split
    · exact (State.setTabN_evolves k4)
    · exact k4
  · intro s0 s7 i8 m9 k11
    dsimp only
    split
    · exact (State.setTabN_evolves k11)
    · exact k11

theorem maskedTable_keeps {region : Nat} {block : Nat} {table : Nat} {bytes : Nat} {count : Nat} {mask : Nat} {ok : State → Nat → Nat → Bool} :
    WinTable.Keeps (maskedTable region block table bytes count mask ok) := by
  unfold maskedTable
  extract_lets x0
  have k1 : WinTable.Keeps x0 := plainTable_keeps
  constructor
  · intro s0 s2 i3 m4 w5 k6
    dsimp only
    split
    · exact (State.setTabN_evolves k6)
    · exact k6
  · intro s0 s9 i10 m11 k13
    dsimp only
    exact (k1.clear k13)

theorem copyTable_keeps {a : Nat} {region : Nat} {block : Nat} {table : Nat} {bytes : Nat} {count : Nat} {ok : Nat → Bool} :
    WinTable.Keeps (copyTable a region block table bytes count ok) := by
  unfold copyTable
  constructor
  · intro s0 s0 i1 m2 w3 k4
    dsimp only
    split
    · exact (State.verProtect_evolves k4)
    · split
      · exact (State.setTabN_evolves k4)
      · exact k4
  · intro s0 s9 i10 m11 k13
    dsimp only
    split
    · exact (State.verProtect_evolves k13)
    · exact (State.setTabN_evolves k13)

theorem State.winRun_evolves {s0 : State} {s : State} {a : Nat} {cmd : Nat} {t : WinTable} (h0 : Evolves s0 s) (h1 : WinTable.Keeps t) :
    Evolves s0 (State.winRun s a cmd t).2 := by
  unfold State.winRun
  extract_lets x0 x1 x2 x3
  have k4 : Evolves s0 x3.2 := by
    subst x3
    split
    · exact h0
    · exact (h1.clear h0)
  split
  · exact h0
  · split
    · split
      · exact (State.setWinData_evolves h0)
      · exact h0
    · exact (h1.put h0)
    · exact (h1.clear h0)
    · split
      · split
        · exact (State.setWinData_evolves k4)
        · exact h0
      · exact h0

end Sys2Proof.Machine
end

