-- ==== Sys2Proof/Laws/Hbm.lean ====
section
/-! SUPPORT. Every operation of `Sys2Proof/Machine/Hbm.lean` only evolves the state (`Evolves`), one lemma per operation. -/

namespace Sys2Proof.Machine

theorem State.setStack_evolves {s0 : State} {s : State} {n : Nat} {x : MemSt} (h : Evolves s0 s) :
    Evolves s0 (State.setStack s n x) := by
  unfold State.setStack
  extract_lets x0
  exact (memUpd_evolves h)

theorem State.memRaise_evolves {s0 : State} {s : State} {n : Nat} {k : Nat} (h : Evolves s0 s) :
    Evolves s0 (State.memRaise s n k) := by
  unfold State.memRaise
  exact (State.raise_evolves h)

theorem State.rasRaise_evolves {s0 : State} {s : State} {n : Nat} {k : Nat} (h : Evolves s0 s) :
    Evolves s0 (State.rasRaise s n k) := by
  unfold State.rasRaise
  exact (State.raise_evolves h)

theorem State.setPoison_evolves {s0 : State} {s : State} {n : Nat} {rank : Nat} {line : Nat} {b : Bool} (h : Evolves s0 s) :
    Evolves s0 (State.setPoison s n rank line b) := by
  unfold State.setPoison
  extract_lets x0
  exact (State.setStack_evolves h)

theorem State.rankCount_evolves {s0 : State} {s : State} {n : Nat} {rank : Nat} {c : Nat} (h : Evolves s0 s) :
    Evolves s0 (State.rankCount s n rank c) := by
  unfold State.rankCount
  extract_lets x0
  split
  · exact h
  · exact (State.setTabN_evolves h)

theorem State.migShow_evolves {s0 : State} {s : State} {n : Nat} (h : Evolves s0 s) :
    Evolves s0 (State.migShow s n) := by
  unfold State.migShow
  extract_lets x0 x1
  have k2 : Evolves s0 x1 := (State.setRbit_evolves (State.setFld_evolves h))
  exact (State.wr_evolves k2)

theorem State.rankOut_evolves {s0 : State} {s : State} {n : Nat} {l : Nat} (h : Evolves s0 s) :
    Evolves s0 (State.rankOut s n l) := by
  unfold State.rankOut
  extract_lets x0 x1
  split
  · split
    · exact h
    · exact (State.setStack_evolves h)
  · split
    · exact (State.rasRaise_evolves (State.setStack_evolves h))
    · extract_lets x15 x16 x17
      have k18 : Evolves s0 x15 := (State.setStack_evolves h)
      have k19 : Evolves s0 x16 := (State.rasRaise_evolves (State.setRbit_evolves k18))
      exact (State.migShow_evolves (memUpd_evolves k19))

theorem State.migDone_evolves {s0 : State} {s : State} {n : Nat} {m : Migration} (h : Evolves s0 s) :
    Evolves s0 (State.migDone s n m) := by
  unfold State.migDone
  extract_lets x0 x1 x2 x3
  have k4 : Evolves s0 x1 := (State.wr_evolves h)
  have k5 : Evolves s0 x2 := (State.setStack_evolves k4)
  have k6 : Evolves s0 x3 := (State.rasRaise_evolves (State.migShow_evolves k5))
  split
  · exact (State.rankOut_evolves k6)
  · exact k6

theorem State.rhLog_evolves {s0 : State} {s : State} {n : Nat} {e : RowLog} (h : Evolves s0 s) :
    Evolves s0 (State.rhLog s n e) := by
  unfold State.rhLog
  extract_lets x0
  split
  · exact (State.rasRaise_evolves (State.setStack_evolves h))
  · exact (State.setStack_evolves h)

theorem State.rhAct_evolves {s0 : State} {s : State} {n : Nat} {rank : Nat} {bank : Nat} {row : Nat} (h : Evolves s0 s) :
    Evolves s0 (State.rhAct s n rank bank row) := by
  unfold State.rhAct
  extract_lets x0 x1 x2
  split
  · exact h
  · extract_lets x8 x9 x10
    split
    · exact h
    · exact (State.rasRaise_evolves (State.rhLog_evolves (State.setStack_evolves h)))

theorem State.rowActivate_evolves {s0 : State} {s : State} {n : Nat} {tag : Nat} {rank : Nat} {bank : Nat} {row : Nat} (h : Evolves s0 s) :
    Evolves s0 (State.rowActivate s n tag rank bank row) := by
  unfold State.rowActivate
  extract_lets x0 x1 x2 x3
  split
  · exact (State.setStack_evolves h)
  · exact (State.rhAct_evolves (State.setStack_evolves h))

/-- A cause changes no stack. -/
@[simp] theorem State.raise_stack (s : State) (r b k n : Nat) : (s.raise r b k).stack n = s.stack n :=
  congrArg (fun m : HbmSt => spGet (fun _ => MemSt.reset) m.each n) (s.raise_mem r b k)

theorem State.rhLog_poison (s : State) (n : Nat) (e : RowLog) : ((s.rhLog n e).stack n).poison = (s.stack n).poison := by
  unfold State.rhLog State.rasRaise
  dsimp only
  split <;> simp

theorem State.rhAct_poison (s : State) (n rank bank row : Nat) : ((s.rhAct n rank bank row).stack n).poison = (s.stack n).poison := by
  unfold State.rhAct State.rasRaise
  dsimp only
  split
  · rfl
  · split
    · rfl
    · rw [State.raise_stack, State.rhLog_poison, State.stack_setStack_self]

/-- An activation changes no line's standing. -/
theorem State.rowActivate_poison (s : State) (n tag rank bank row : Nat) :
    ((s.rowActivate n tag rank bank row).stack n).poison = (s.stack n).poison := by
  unfold State.rowActivate
  dsimp only
  split
  · rw [State.stack_setStack_self]
  · rw [State.rhAct_poison, State.stack_setStack_self]

theorem State.maintain_evolves {s0 : State} {s : State} {n : Nat} {rank : Nat} {ofs : Nat} (h : Evolves s0 s) :
    Evolves s0 (State.maintain s n rank ofs) := by
  unfold State.maintain
  exact (State.rowActivate_evolves h)

theorem execMigrationCopyLine_evolves {s0 : State} {n : Fin 4} {bad : Bool} {s : State} (h : Evolves s0 s) :
    Ends s0 (execMigrationCopyLine n bad s) := by
  unfold execMigrationCopyLine
  split
  · exact Ends.next h
  · extract_lets x5 x6 x7 x8 x9 x10 x11
    have k12 : Evolves s0 x5 := (State.maintain_evolves (State.maintain_evolves h))
    have k13 : Evolves s0 x7 := by
      subst x7
      split
      · exact (State.rankCount_evolves k12)
      · exact k12
    have k16 : Evolves s0 x8 := (State.setPoison_evolves k13)
    have k17 : Evolves s0 x11 := (State.setStack_evolves k16)
    split
    · exact Ends.next h
    · refine Ends.next ?_
      split
      · exact (State.migDone_evolves k17)
      · exact (State.migShow_evolves k17)

theorem State.rhHead_evolves {s0 : State} {s : State} {n : Nat} {m : Option Master} (h : Evolves s0 s) :
    Evolves s0 (State.rhHead s n m).2 := by
  unfold State.rhHead
  extract_lets x0 x1
  exact (State.setStack_evolves h)

theorem State.rhPop_evolves {s0 : State} {s : State} {n : Nat} {m : Option Master} (h : Evolves s0 s) :
    Evolves s0 (State.rhPop s n m).2 := by
  unfold State.rhPop
  extract_lets x0 x1 x2
  split
  · exact (State.setStack_evolves h)
  · exact (State.setStack_evolves h)

theorem execRhLogReadHead_evolves {s0 : State} {m : Master} {n : Fin 4} {s : State} (h : Evolves s0 s) :
    Ends s0 (execRhLogReadHead m n s) := by
  unfold execRhLogReadHead
  exact Ends.next (State.asRead_evolves h (fun a0 k1 => (State.rhHead_evolves k1)))

theorem execRhLogReadPop_evolves {s0 : State} {m : Master} {n : Fin 4} {s : State} (h : Evolves s0 s) :
    Ends s0 (execRhLogReadPop m n s) := by
  unfold execRhLogReadPop
  exact Ends.next (State.asRead_evolves h (fun a0 k1 => (State.rhPop_evolves k1)))

theorem State.hbmAnswer_evolves {s0 : State} {s : State} {q : HbmReq} {d : Option (List Byte)} (h : Evolves s0 s) :
    Evolves s0 (State.hbmAnswer s q d) := by
  unfold State.hbmAnswer
  exact (State.emit_evolves h)

theorem State.hbmFailed_evolves {s0 : State} {s : State} {n : Nat} {q : HbmReq} (h : Evolves s0 s) :
    Evolves s0 (State.hbmFailed s n q) := by
  unfold State.hbmFailed
  extract_lets x0 x1
  have k2 : Evolves s0 x1 := by
    subst x1
    split
    · exact (State.bump_evolves h)
    · exact h
  exact (State.hbmAnswer_evolves k2)

theorem State.hbmUe_evolves {s0 : State} {s : State} {n : Nat} {l : Nat} {rank : Nat} {line : Nat} {q : HbmReq} (h : Evolves s0 s) :
    Evolves s0 (State.hbmUe s n l rank line q) := by
  unfold State.hbmUe
  exact (State.hbmFailed_evolves (State.rankOut_evolves (State.rasRaise_evolves (State.setPoison_evolves (State.rankCount_evolves h)))))

theorem State.lineUe_evolves {s0 : State} {s : State} {a : Nat} (h : Evolves s0 s) :
    Evolves s0 (State.lineUe s a) := by
  unfold State.lineUe
  split
  · exact (State.rankOut_evolves (State.rasRaise_evolves (State.rankCount_evolves h)))
  · exact h

theorem State.hbmUeRead_evolves {s0 : State} {s : State} {a : Nat} {n : Nat} (h : Evolves s0 s) :
    Evolves s0 (State.hbmUeRead s a n) := by
  unfold State.hbmUeRead
  split
  · exact (foldl_evolves _ (fun a1 a2 k3 => (State.lineUe_evolves k3)) h)
  · exact h

theorem State.ueDrop_evolves {s0 : State} {s : State} {a : Nat} (h : Evolves s0 s) :
    Evolves s0 (State.ueDrop s a) := by
  unfold State.ueDrop
  split
  · exact (State.bump_evolves h)
  · exact h

theorem State.hbmClean_evolves {s0 : State} {s : State} {a : Nat} {n : Nat} (h : Evolves s0 s) :
    Evolves s0 (State.hbmClean s a n) := by
  unfold State.hbmClean
  split
  · refine foldl_evolves _ ?_ ?_
    · intro a4 a5 k6
      split
      · exact (State.setPoison_evolves k6)
      · exact k6
    · exact h
  · exact h

theorem State.hbmStore_evolves {s0 : State} {s : State} {a : Nat} {b : List Byte} (h : Evolves s0 s) :
    Evolves s0 (State.hbmStore s a b) := by
  unfold State.hbmStore
  exact (State.hbmClean_evolves (State.hbmWrite_evolves h))

theorem State.addrErr_evolves {s0 : State} {s : State} {a : Nat} (h : Evolves s0 s) :
    Evolves s0 (State.addrErr s a) := by
  unfold State.addrErr
  exact (State.memRaise_evolves (State.bump_evolves h))

theorem State.addrRefuse_evolves {s0 : State} {s : State} {a : Nat} {n : Nat} (h : Evolves s0 s) :
    Evolves s0 (State.addrRefuse s a n) := by
  unfold State.addrRefuse
  split
  · exact (State.addrErr_evolves h)
  · exact h

theorem State.mergeUe_evolves {s0 : State} {s : State} {n : Nat} {l : Nat} {rank : Nat} (h : Evolves s0 s) :
    Evolves s0 (State.mergeUe s n l rank) := by
  unfold State.mergeUe
  exact (State.rankOut_evolves (State.rasRaise_evolves (State.rankCount_evolves h)))

theorem State.hbmServe_evolves {s0 : State} {s : State} {n : Nat} {p : Nat} {q : HbmReq} (h : Evolves s0 s) :
    Evolves s0 (State.hbmServe s n p q) := by
  unfold State.hbmServe
  extract_lets x0 x1 x2 x3 x4 x5 x6 x7 x8 x9 x10 x11 x12
  have k13 : Evolves s0 x6 := (State.rowActivate_evolves h)
  have k14 : Evolves s0 x8 := (State.setStack_evolves k13)
  have k15 : Evolves s0 x9 := by
    subst x9
    split
    · exact (State.rankOut_evolves (State.rasRaise_evolves (State.rankCount_evolves k14)))
    · exact k14
  have k18 : Evolves s0 x11 := (State.bump64_evolves k15)
  have k19 : Evolves s0 x12 := (State.bump64_evolves k15)
  split
  · split
    · exact (State.hbmUe_evolves k18)
    · refine State.hbmAnswer_evolves ?_
      · split
        · exact (State.rankCount_evolves k18)
        · exact k18
  · extract_lets x29 x30 x31 x32
    have k33 : Evolves s0 x30 := by
      subst x30
      split
      · exact (State.rankCount_evolves k19)
      · exact k19
    have k36 : Evolves s0 x31 := by
      subst x31
      split
      · exact (State.mergeUe_evolves k33)
      · exact k33
    have k39 : Evolves s0 x32 := (State.setPoison_evolves k36)
    split
    · exact (State.hbmAnswer_evolves (State.setPoison_evolves k19))
    · exact (State.hbmAnswer_evolves (State.hbmWrite_evolves k39))

theorem State.hbmTurn_evolves {s0 : State} {s : State} {n : Nat} (h : Evolves s0 s) :
    Evolves s0 (State.hbmTurn s n) := by
  unfold State.hbmTurn
  extract_lets x0 x1
  split
  · exact h
  · split
    · exact h
    · extract_lets x13
      have k14 : Evolves s0 x13 := (State.setStack_evolves h)
      split
      · exact (State.hbmServe_evolves k14)
      · exact k14

theorem State.hbmDrain_evolves {s0 : State} {s : State} {n : Nat} (h : Evolves s0 s) :
    Evolves s0 (State.hbmDrain s n) := by
  unfold State.hbmDrain
  split
  · exact h
  · exact (foldl_evolves _ (fun a2 a3 k4 => (State.hbmTurn_evolves k4)) h)

theorem execRhWindowStep_evolves {s0 : State} {n : Fin 4} {s : State} (h : Evolves s0 s) :
    Ends s0 (execRhWindowStep n s) := by
  unfold execRhWindowStep
  extract_lets x0 x1 x2 x3
  have k4 : Evolves s0 x3 := (State.setStack_evolves h)
  exact Ends.next (State.hbmDrain_evolves k4)

theorem execHbmAccess_evolves {s0 : State} {q : HbmReq} {s : State} (h : Evolves s0 s) :
    Ends s0 (execHbmAccess q s) := by
  unfold execHbmAccess
  split
  · exact Ends.next h
  · split
    · exact Ends.next (State.hbmFailed_evolves (State.addrErr_evolves h))
    · extract_lets x7 x8 x9
      have k10 : Evolves s0 x8 := (State.hbmDrain_evolves h)
      split
      · exact Ends.next (State.hbmAnswer_evolves (State.bump_evolves h))
      · split
        · exact Ends.next (State.setStack_evolves k10)
        · exact Ends.next (State.hbmServe_evolves k10)

theorem State.closeBank_evolves {s0 : State} {s : State} {n : Nat} {i : Nat} (h : Evolves s0 s) :
    Evolves s0 (State.closeBank s n i) := by
  unfold State.closeBank
  extract_lets x0 x1
  exact (State.setStack_evolves h)

theorem execPageIdlePrecharge_evolves {s0 : State} {n : Fin 4} {rank : Fin 96} {bank : Fin 64} {s : State} (h : Evolves s0 s) :
    Ends s0 (execPageIdlePrecharge n rank bank s) := by
  unfold execPageIdlePrecharge
  extract_lets x0
  split
  · exact Ends.next (State.closeBank_evolves h)
  · exact Ends.next h

theorem execRefresh_evolves {s0 : State} {n : Fin 4} {s : State} (h : Evolves s0 s) :
    Ends s0 (execRefresh n s) := by
  unfold execRefresh
  extract_lets x0 x1 x2
  have k3 : Evolves s0 x1 := (State.closeBank_evolves h)
  exact Ends.next (State.setStack_evolves k3)

theorem execPatrolScrub_evolves {s0 : State} {n : Fin 4} {err : HbmErr} {s : State} (h : Evolves s0 s) :
    Ends s0 (execPatrolScrub n err s) := by
  unfold execPatrolScrub
  extract_lets x0 x1 x2 x3 x4 x5 x6 x7
  have k8 : Evolves s0 x4 := (State.maintain_evolves h)
  have k9 : Evolves s0 x6 := (State.setStack_evolves k8)
  have k10 : Evolves s0 x7 := by
    subst x7
    split
    · exact (State.rankOut_evolves (State.rasRaise_evolves (State.rankCount_evolves k9)))
    · exact k9
  split
  · exact Ends.next h
  · split
    · exact Ends.next h
    · split
      · exact Ends.next (State.rankOut_evolves (State.rasRaise_evolves (State.setPoison_evolves (State.rankCount_evolves k10))))
      · refine Ends.next ?_
        split
        · exact (State.rankCount_evolves k10)
        · exact k10

theorem State.rasRefused_evolves {s0 : State} {s : State} {n : Nat} (h : Evolves s0 s) :
    Evolves s0 (State.rasRefused s n) := by
  unfold State.rasRefused
  exact (State.rasRaise_evolves (State.setRbit_evolves h))

theorem State.rasCmd_evolves {s0 : State} {s : State} {n : Nat} {v : Nat} (h : Evolves s0 s) :
    Evolves s0 (State.rasCmd s n v) := by
  unfold State.rasCmd
  extract_lets x0 x1 x2 x3 x4 x5
  have k6 : Evolves s0 x4 := (State.setRbit_evolves (State.setFld_evolves h))
  split
  · split
    · exact (State.rasRefused_evolves k6)
    · exact (State.rankOut_evolves k6)
  · split
    · exact (State.rasRefused_evolves k6)
    · exact (State.setStack_evolves (State.setRbit_evolves k6))
  · exact k6

theorem execRasRetire_evolves {s0 : State} {m : Master} {n : Fin 4} {v : Word} {s : State} (h : Evolves s0 s) :
    Ends s0 (execRasRetire m n v s) := by
  unfold execRasRetire
  exact Ends.next (State.asWrite_evolves h (fun a0 k1 => (State.rasCmd_evolves k1)))

theorem execRasVerify_evolves {s0 : State} {m : Master} {n : Fin 4} {v : Word} {s : State} (h : Evolves s0 s) :
    Ends s0 (execRasVerify m n v s) := by
  unfold execRasVerify
  exact Ends.next (State.asWrite_evolves h (fun a0 k1 => (State.rasCmd_evolves k1)))

theorem execVerifyDone_evolves {s0 : State} {n : Fin 4} {pass : Bool} {s : State} (h : Evolves s0 s) :
    Ends s0 (execVerifyDone n pass s) := by
  unfold execVerifyDone
  extract_lets x0 x1
  split
  · exact Ends.next h
  · extract_lets x7
    have k8 : Evolves s0 x7 := (State.setStack_evolves h)
    split
    · exact Ends.next h
    · exact Ends.next (State.rasRaise_evolves (State.migShow_evolves (State.setRbit_evolves (State.setRbit_evolves k8))))

theorem execRetirementRecordWrite_evolves {s0 : State} {s : State} (h : Evolves s0 s) :
    Ends s0 (execRetirementRecordWrite s) := by
  unfold execRetirementRecordWrite
  extract_lets x0 x1 x2 x3 x4
  have k5 : Evolves s0 x3 := (State.flashWrite_evolves (State.flashWrite_evolves h))
  split
  · exact Ends.next h
  · exact Ends.next (memUpd_evolves k5)

theorem execSelfRefreshEntry_evolves {s0 : State} {n : Fin 4} {abandon : Bool} {s : State} (h : Evolves s0 s) :
    Ends s0 (execSelfRefreshEntry n abandon s) := by
  unfold execSelfRefreshEntry
  extract_lets x0 x1 x2
  have k3 : Evolves s0 x2 := (State.setStack_evolves h)
  split
  · exact Ends.next h
  · refine Ends.next ?_
    split
    · exact (State.bump_evolves k3)
    · exact (State.bump_evolves (State.setRbit_evolves k3))

theorem execSelfRefreshExit_evolves {s0 : State} {n : Fin 4} {s : State} (h : Evolves s0 s) :
    Ends s0 (execSelfRefreshExit n s) := by
  unfold execSelfRefreshExit
  extract_lets x0 x1
  split
  · exact Ends.next h
  · exact Ends.next (State.hbmDrain_evolves (State.setRbit_evolves h))

theorem memTable_keeps {n : Nat} {block : Nat} {y2 : Nat} :
    OptAll WinTable.Keeps (memTable n block y2) := by
  unfold memTable
  extract_lets x0
  have k1 : WinTable.Keeps x0 := maskedTable_keeps
  split
  · split
    · refine OptAll.some ?_
      constructor
      · intro s0 s4 i5 m6 w7 k8
        dsimp only
        exact (k1.put k8)
      · intro s0 s9 i10 m11 k13
        dsimp only
        exact (k1.clear k13)
    · exact OptAll.none
  · split
    · refine OptAll.some ?_
      constructor
      · intro s0 s17 i18 m19 w20 k21
        dsimp only
        exact k21
      · intro s0 s22 i23 m24 k26
        dsimp only
        exact k26
    · exact OptAll.none
  · exact OptAll.none

end Sys2Proof.Machine
end

