-- ==== Sys2Proof/Laws/Buffer.lean ====
section
/-! SUPPORT. Every operation of `Sys2Proof/Machine/Buffer.lean` only evolves the state (`Evolves`), one lemma per operation. -/

namespace Sys2Proof.Machine

theorem State.cellFreeCount_evolves {s0 : State} {s : State} {area : Nat} {n : Nat} (h : Evolves s0 s) :
    Evolves s0 (State.cellFreeCount s area n) := by
  unfold State.cellFreeCount
  extract_lets x0
  have k1 : Evolves s0 x0 := (State.wr_evolves h)
  split
  · exact (State.wr_evolves k1)
  · exact k1

theorem State.setCell_evolves {s0 : State} {s : State} {ptr : Nat} {used : Bool} (h : Evolves s0 s) :
    Evolves s0 (State.setCell s ptr used) := by
  unfold State.setCell
  extract_lets x0 x1 x2
  exact (State.cellFreeCount_evolves (bufUpd_evolves h))

theorem allocGo_evolves {s0 : State} {area n bank : Nat} {s : State} (h : Evolves s0 s) :
    Evolves s0 (allocGo area n bank s).2 := by
  induction n generalizing bank s with
  | zero => exact h
  | succ n ih =>
    unfold allocGo
    split
    · exact h
    · exact ih (State.setCell_evolves h)

theorem State.allocUpTo_evolves {s0 : State} {s : State} {area : Nat} {n : Nat} (h : Evolves s0 s) :
    Evolves s0 (State.allocUpTo s area n).2 := by
  unfold State.allocUpTo
  extract_lets x0 x1 x2 x3
  have k4 : Evolves s0 x1.2 := (allocGo_evolves h)
  have k5 : Evolves s0 x2 := k4
  exact (bufUpd_evolves k5)

theorem State.allocCells_evolves {s0 : State} {s : State} {area : Nat} {n : Nat} (h : Evolves s0 s) :
    OptAll (fun p => Evolves s0 p.2) (State.allocCells s area n) := by
  unfold State.allocCells
  extract_lets x0
  have k1 : Evolves s0 x0.2 := (State.allocUpTo_evolves h)
  split
  · refine OptAll.some ?_
    exact k1
  · exact OptAll.none

theorem State.badFree_evolves {s0 : State} {s : State} {addr : Nat} {reason : Nat} {kind : Nat} {id : Nat} (h : Evolves s0 s) :
    Evolves s0 (State.badFree s addr reason kind id) := by
  unfold State.badFree
  extract_lets x0 x1
  split
  · exact (State.raise_evolves (bufUpd_evolves h))
  · exact (State.raise_evolves (bufUpd_evolves h))

theorem State.poolLogHead_evolves {s0 : State} {s : State} {m : Option Master} (h : Evolves s0 s) :
    Evolves s0 (State.poolLogHead s m).2 := by
  unfold State.poolLogHead
  extract_lets x0 x1
  exact (bufUpd_evolves h)

theorem State.poolLogPop_evolves {s0 : State} {s : State} {m : Option Master} (h : Evolves s0 s) :
    Evolves s0 (State.poolLogPop s m).2 := by
  unfold State.poolLogPop
  extract_lets x0 x1 x2
  split
  · exact (bufUpd_evolves h)
  · exact (bufUpd_evolves h)

theorem execPoolLogReadHead_evolves {s0 : State} {m : Master} {s : State} (h : Evolves s0 s) :
    Ends s0 (execPoolLogReadHead m s) := by
  unfold execPoolLogReadHead
  exact Ends.next (State.asRead_evolves h (fun a0 k1 => (State.poolLogHead_evolves k1)))

theorem execPoolLogReadPop_evolves {s0 : State} {m : Master} {s : State} (h : Evolves s0 s) :
    Ends s0 (execPoolLogReadPop m s) := by
  unfold execPoolLogReadPop
  exact Ends.next (State.asRead_evolves h (fun a0 k1 => (State.poolLogPop_evolves k1)))

theorem State.cellFree_evolves {s0 : State} {s : State} {ptr : Nat} (h : Evolves s0 s) :
    Evolves s0 (State.cellFree s ptr) := by
  unfold State.cellFree
  extract_lets x0
  split
  · exact (State.badFree_evolves (State.raise_evolves (State.bump_evolves h)))
  · split
    · exact (State.setCell_evolves h)
    · exact (State.badFree_evolves (State.raise_evolves (State.bump_evolves h)))

theorem State.freeCells_evolves {s0 : State} {s : State} {l : List Nat} (h : Evolves s0 s) :
    Evolves s0 (State.freeCells s l) := by
  unfold State.freeCells
  exact (foldl_evolves _ (fun a0 a1 k2 => (State.cellFree_evolves k2)) h)

theorem execCellFree_evolves {s0 : State} {ptr : Word} {s : State} (h : Evolves s0 s) :
    Ends s0 (execCellFree ptr s) := by
  unfold execCellFree
  split
  · exact Ends.next h
  · exact Ends.next (State.cellFree_evolves h)

theorem State.setShareRec_evolves {s0 : State} {s : State} {r : Nat} {x : ShareRec} (h : Evolves s0 s) :
    Evolves s0 (State.setShareRec s r x) := by
  unfold State.setShareRec
  extract_lets x0
  exact (bufUpd_evolves h)

theorem State.shareSettle_evolves {s0 : State} {s : State} {r : Nat} (h : Evolves s0 s) :
    Evolves s0 (State.shareSettle s r) := by
  unfold State.shareSettle
  extract_lets x0
  split
  · exact (State.setShareRec_evolves (State.freeCells_evolves h))
  · exact h

theorem State.shareRelease_evolves {s0 : State} {s : State} {r : Nat} {byOwner : Bool} (h : Evolves s0 s) :
    Evolves s0 (State.shareRelease s r byOwner) := by
  unfold State.shareRelease
  extract_lets x0
  split
  · exact (State.badFree_evolves h)
  · split
    · exact (State.badFree_evolves h)
    · exact (State.shareSettle_evolves (State.setShareRec_evolves h))

theorem State.shareFree_evolves {s0 : State} {s : State} {r : Nat} {byOwner : Bool} (h : Evolves s0 s) :
    Evolves s0 (State.shareFree s r byOwner) := by
  unfold State.shareFree
  extract_lets x0
  split
  · exact (State.badFree_evolves h)
  · split
    · exact (State.badFree_evolves h)
    · exact (State.shareSettle_evolves (State.setShareRec_evolves h))

theorem execSharedRelease_evolves {s0 : State} {rec : Fin 131072} {byOwner : Bool} {s : State} (h : Evolves s0 s) :
    Ends s0 (execSharedRelease rec byOwner s) := by
  unfold execSharedRelease
  split
  · exact Ends.next (State.shareRelease_evolves h)
  · exact Ends.next h

theorem execSharedFree_evolves {s0 : State} {rec : Fin 131072} {byOwner : Bool} {s : State} (h : Evolves s0 s) :
    Ends s0 (execSharedFree rec byOwner s) := by
  unfold execSharedFree
  split
  · exact Ends.next (State.shareFree_evolves h)
  · exact Ends.next h

theorem State.payloadDone_evolves {s0 : State} {s : State} {e : QEnt} (h : Evolves s0 s) :
    Evolves s0 (State.payloadDone s e) := by
  unfold State.payloadDone
  split
  · exact (State.freeCells_evolves h)
  · split
    · exact (State.shareFree_evolves h)
    · exact (State.shareRelease_evolves h)

theorem State.setPool_evolves {s0 : State} {s : State} {p : Nat} {x : PoolSt} (h : Evolves s0 s) :
    Evolves s0 (State.setPool s p x) := by
  unfold State.setPool
  extract_lets x0
  exact (bufUpd_evolves h)

theorem State.poolCount_evolves {s0 : State} {s : State} {p : Nat} {c : Nat} (h : Evolves s0 s) :
    Evolves s0 (State.poolCount s p c) := by
  unfold State.poolCount
  split
  · exact h
  · exact (State.setTabN_evolves h)

theorem State.ringUe_evolves {s0 : State} {s : State} {w : Nat} {l : List Nat} (h : Evolves s0 s) :
    Evolves s0 (State.ringUe s w l) := by
  unfold State.ringUe
  split
  · exact (foldl_evolves _ (fun a1 a2 k3 => (State.hbmUeRead_evolves k3)) h)
  · exact h

theorem State.poolRefill_evolves {s0 : State} {s : State} {p : Nat} (h : Evolves s0 s) :
    Evolves s0 (State.poolRefill s p) := by
  unfold State.poolRefill
  extract_lets x0 x1 x2 x3
  exact (State.ringUe_evolves (State.setPool_evolves h))

theorem State.poolDrainN_evolves {s0 : State} {s : State} {p : Nat} {n : Nat} (h : Evolves s0 s) :
    Evolves s0 (State.poolDrainN s p n) := by
  unfold State.poolDrainN
  extract_lets x0 x1 x2 x3
  have k4 : Evolves s0 x3 := (foldl_evolves _ (fun a5 a6 k7 => (State.hbmWrite_evolves k7)) h)
  exact (State.setPool_evolves k4)

theorem execPoolCacheRefill_evolves {s0 : State} {p : Fin 256} {s : State} (h : Evolves s0 s) :
    Ends s0 (execPoolCacheRefill p s) := by
  unfold execPoolCacheRefill
  split
  · exact Ends.next (State.poolRefill_evolves h)
  · exact Ends.next h

theorem execPoolCacheDrain_evolves {s0 : State} {p : Fin 256} {s : State} (h : Evolves s0 s) :
    Ends s0 (execPoolCacheDrain p s) := by
  unfold execPoolCacheDrain
  split
  · exact Ends.next (State.poolDrainN_evolves h)
  · exact Ends.next h

theorem State.poolTake_evolves {s0 : State} {s : State} {p : Nat} (h : Evolves s0 s) :
    OptAll (fun p => Evolves s0 p.2) (State.poolTake s p) := by
  unfold State.poolTake
  extract_lets x0 x1
  have k2 : Evolves s0 x0 := by
    subst x0
    split
    · exact (State.poolRefill_evolves h)
    · exact h
  split
  · exact OptAll.none
  · split
    · refine OptAll.some ?_
      exact (State.poolCount_evolves (State.setPool_evolves k2))
    · exact OptAll.none

theorem poolChain_evolves {s0 : State} {y0 : Nat} {y1 : Nat} {y2 : State} (h : Evolves s0 y2) :
    OptAll (fun p => Evolves s0 p.2.2) (poolChain y0 y1 y2) := by
  fun_induction poolChain y0 y1 y2
  · exact OptAll.none
  · rename_i v2 v3 v4 v5 e6
    have k7 : Evolves s0 v5.2 := (State.poolTake_evolves h) _ e6
    have k8 : Evolves s0 v5.2 := (State.poolTake_evolves h) _ e6
    refine OptAll.some ?_
    exact k7
  · rename_i v9 v10 v11 e12 e13 e14
    exact (e14 h)
  · exact OptAll.none

theorem State.poolAlloc_evolves {s0 : State} {s : State} {p : Nat} (h : Evolves s0 s) :
    Evolves s0 (State.poolAlloc s p).2 := by
  unfold State.poolAlloc
  split
  · rename_i v0 v1 v2 v3 e4
    have k5 : Evolves s0 v3 := (poolChain_evolves h) _ e4
    dsimp only
    split
    · exact k5
    · exact (State.poolCount_evolves k5)
  · exact (State.raise_evolves (State.poolCount_evolves h))

theorem State.poolReturn_evolves {s0 : State} {s : State} {p : Nat} {a : Nat} (h : Evolves s0 s) :
    Evolves s0 (State.poolReturn s p a) := by
  unfold State.poolReturn
  extract_lets x0 x1
  have k2 : Evolves s0 x0 := by
    subst x0
    split
    · exact (State.poolDrainN_evolves h)
    · exact h
  exact (State.poolCount_evolves (State.setPool_evolves k2))

theorem State.setPoolShare_evolves {s0 : State} {s : State} {a : Nat} {x : Option PoolShare} (h : Evolves s0 s) :
    Evolves s0 (State.setPoolShare s a x) := by
  unfold State.setPoolShare
  extract_lets x0 x1
  exact (bufUpd_evolves h)

theorem State.poolFree_evolves {s0 : State} {s : State} {a : Nat} {kind : Nat} {id : Nat} (h : Evolves s0 s) :
    Evolves s0 (State.poolFree s a kind id) := by
  unfold State.poolFree
  split
  · exact (State.badFree_evolves h)
  · split
    · exact (State.poolReturn_evolves h)
    · split
      · exact (State.badFree_evolves h)
      · split
        · exact (State.badFree_evolves h)
        · split
          · exact (State.poolReturn_evolves (State.setPoolShare_evolves h))
          · exact (State.setPoolShare_evolves h)

theorem State.poolRelease_evolves {s0 : State} {s : State} {a : Nat} {kind : Nat} {id : Nat} (h : Evolves s0 s) :
    Evolves s0 (State.poolRelease s a kind id) := by
  unfold State.poolRelease
  split
  · exact (State.badFree_evolves h)
  · split
    · exact (State.badFree_evolves h)
    · split
      · exact (State.badFree_evolves h)
      · split
        · exact (State.badFree_evolves h)
        · split
          · exact (State.poolReturn_evolves (State.setPoolShare_evolves h))
          · exact (State.setPoolShare_evolves h)

theorem State.poolShareOp_evolves {s0 : State} {s : State} {datum : Nat} {kind : Nat} {id : Nat} (h : Evolves s0 s) :
    Evolves s0 (State.poolShareOp s datum kind id) := by
  unfold State.poolShareOp
  extract_lets x0
  split
  · exact (State.raise_evolves h)
  · split
    · exact (State.raise_evolves h)
    · exact (State.setPoolShare_evolves h)

theorem State.asPort_evolves {s0 : State} {s : State} {m : Master} {addr : Nat} {bytes : Nat} {write : Bool} {f : Nat → State → State} (h0 : Evolves s0 s) (h1 : ∀ b0 b1, Evolves s0 b1 → Evolves s0 (f b0 b1)) :
    Evolves s0 (State.asPort s m addr bytes write f) := by
  unfold State.asPort
  split
  · split
    · exact (h1 _ _ h0)
    · exact (State.accessRefused_evolves h0)
  · exact (State.accessRefused_evolves h0)

theorem execPoolAlloc_evolves {s0 : State} {m : Master} {p : Fin 256} {wide : Bool} {s : State} (h : Evolves s0 s) :
    Ends s0 (execPoolAlloc m p wide s) := by
  unfold execPoolAlloc
  extract_lets x0 x1
  refine Ends.next ?_
  refine State.asPort_evolves ?_ ?_
  · exact h
  · intro a8 a9 k10
    extract_lets x11 x12 x13 x14
    have k15 : Evolves s0 x11.2 := (State.poolAlloc_evolves k10)
    have k16 : Evolves s0 x13 := k15
    split
    · exact (State.emit_evolves k15)
    · exact (State.emit_evolves (ctlUpd_evolves k16))

theorem execPoolShare_evolves {s0 : State} {m : Master} {datum : BitVec 64} {s : State} (h : Evolves s0 s) :
    Ends s0 (execPoolShare m datum s) := by
  unfold execPoolShare
  exact Ends.next (State.asPort_evolves h (fun a0 a1 k2 => (State.poolShareOp_evolves k2)))

theorem poolTable_keeps :
    WinTable.Keeps (poolTable) := by
  unfold poolTable
  extract_lets x0
  have k1 : WinTable.Keeps x0 := plainTable_keeps
  constructor
  · intro s0 s2 i3 m4 w5 k6
    dsimp only
    split
    · exact (State.setTabN_evolves k6)
    · exact k6
  · intro s0 s9 i10 m11 k13
    dsimp only
    split
    · exact (State.setTabN_evolves k13)
    · exact k13

theorem poolCounterTable_keeps :
    WinTable.Keeps (poolCounterTable) := by
  unfold poolCounterTable
  extract_lets x0
  have k1 : WinTable.Keeps x0 := plainTable_keeps
  constructor
  · intro s0 s2 i3 m4 w5 k6
    dsimp only
    exact (k1.put k6)
  · intro s0 s7 i8 m9 k11
    dsimp only
    exact (k1.clear k11)

theorem State.poolInit_evolves {s0 : State} {s : State} {p : Nat} (h : Evolves s0 s) :
    Evolves s0 (State.poolInit s p) := by
  unfold State.poolInit
  extract_lets x0 x1
  have k2 : Evolves s0 x1 := (foldl_evolves _ (fun a3 a4 k5 => (State.hbmWrite_evolves k5)) h)
  exact (State.setPool_evolves (State.hbmClean_evolves k2))

theorem State.poolInitRun_evolves {s0 : State} {s : State} (h : Evolves s0 s) :
    Evolves s0 (State.poolInitRun s).2 := by
  unfold State.poolInitRun
  split
  · exact h
  · exact (State.poolInit_evolves h)

theorem State.poolInitCmd_evolves {s0 : State} {s : State} {v : Nat} (h : Evolves s0 s) :
    Evolves s0 (State.poolInitCmd s v) := by
  unfold State.poolInitCmd
  exact (State.winCmd_evolves h (fun a0 k1 => (State.poolInitRun_evolves k1)))

theorem execPoolInit_evolves {s0 : State} {m : Master} {v : Word} {s : State} (h : Evolves s0 s) :
    Ends s0 (execPoolInit m v s) := by
  unfold execPoolInit
  exact Ends.next (State.asWrite_evolves h (fun a0 k1 => (State.poolInitCmd_evolves k1)))

theorem State.pageRefill_evolves {s0 : State} {s : State} (h : Evolves s0 s) :
    Evolves s0 (State.pageRefill s) := by
  unfold State.pageRefill
  extract_lets x0 x1 x2
  exact (State.ringUe_evolves (bufUpd_evolves h))

theorem State.pageDrain_evolves {s0 : State} {s : State} {n : Nat} (h : Evolves s0 s) :
    Evolves s0 (State.pageDrain s n) := by
  unfold State.pageDrain
  extract_lets x0 x1 x2
  have k3 : Evolves s0 x1 := (foldl_evolves _ (fun a4 a5 k6 => (State.hbmWrite_evolves k6)) h)
  exact (bufUpd_evolves k3)

theorem execSpillCacheRefill_evolves {s0 : State} {s : State} (h : Evolves s0 s) :
    Ends s0 (execSpillCacheRefill s) := by
  unfold execSpillCacheRefill
  split
  · exact Ends.next (State.pageRefill_evolves h)
  · exact Ends.next h

theorem execSpillCacheDrain_evolves {s0 : State} {s : State} (h : Evolves s0 s) :
    Ends s0 (execSpillCacheDrain s) := by
  unfold execSpillCacheDrain
  split
  · exact Ends.next (State.pageDrain_evolves h)
  · exact Ends.next h

theorem State.spillInit_evolves {s0 : State} {s : State} {v : Nat} (h : Evolves s0 s) :
    Evolves s0 (State.spillInit s v) := by
  unfold State.spillInit
  extract_lets x0
  split
  · exact (bufUpd_evolves h)
  · exact h

theorem execSpillInit_evolves {s0 : State} {m : Master} {v : Word} {s : State} (h : Evolves s0 s) :
    Ends s0 (execSpillInit m v s) := by
  unfold execSpillInit
  exact Ends.next (State.asWrite_evolves h (fun a0 k1 => (State.spillInit_evolves k1)))

theorem State.fillRing_evolves {s0 : State} {s : State} (h : Evolves s0 s) :
    Evolves s0 (State.fillRing s) := by
  unfold State.fillRing
  extract_lets x0 x1 x2
  have k3 : Evolves s0 x0 := (foldl_evolves _ (fun a4 a5 k6 => (State.hbmWrite_evolves k6)) h)
  have k7 : Evolves s0 x1 := (State.hbmClean_evolves k3)
  exact (bufUpd_evolves k7)

theorem State.ringRebuild_evolves {s0 : State} {s : State} (h : Evolves s0 s) :
    Evolves s0 (State.ringRebuild s) := by
  unfold State.ringRebuild
  extract_lets x0
  split
  · exact h
  · split
    · exact (State.fillRing_evolves h)
    · exact (bufUpd_evolves h)

theorem execInitDone_evolves {s0 : State} {s : State} (h : Evolves s0 s) :
    Ends s0 (execInitDone s) := by
  unfold execInitDone
  split
  · exact Ends.next (State.raise_evolves (State.fillRing_evolves h))
  · exact Ends.next h

theorem State.takePage_evolves {s0 : State} {s : State} (h : Evolves s0 s) :
    OptAll (fun p => Evolves s0 p.2) (State.takePage s) := by
  unfold State.takePage
  extract_lets x0 x1
  have k2 : Evolves s0 x0 := by
    subst x0
    split
    · exact (State.pageRefill_evolves h)
    · exact h
  split
  · exact OptAll.none
  · extract_lets x11
    have k12 : Evolves s0 x11 := (bufUpd_evolves k2)
    refine OptAll.some ?_
    exact (State.raiseIf_evolves k12)

theorem State.returnPage_evolves {s0 : State} {s : State} {n : Nat} (h : Evolves s0 s) :
    Evolves s0 (State.returnPage s n) := by
  unfold State.returnPage
  extract_lets x0 x1
  have k2 : Evolves s0 x0 := by
    subst x0
    split
    · exact (State.pageDrain_evolves h)
    · exact h
  exact (bufUpd_evolves k2)

theorem replTable_keeps {y0 : Nat} :
    OptAll WinTable.Keeps (replTable y0) := by
  unfold replTable
  extract_lets x0
  have k1 : WinTable.Keeps x0 := maskedTable_keeps
  split
  · refine OptAll.some ?_
    exact maskedTable_keeps
  · refine OptAll.some ?_
    exact plainTable_keeps
  · refine OptAll.some ?_
    constructor
    · intro s0 s5 i6 m7 w8 k9
      dsimp only
      exact (k1.put k9)
    · intro s0 s10 i11 m12 k14
      dsimp only
      exact (k1.clear k14)
  · exact OptAll.none

end Sys2Proof.Machine
end

