-- ==== Sys2Proof/Laws/ExactMatch.lean ====
section
/-! SUPPORT. Every operation of `Sys2Proof/Machine/ExactMatch.lean` only evolves the state (`Evolves`), one lemma per operation. -/

namespace Sys2Proof.Machine

theorem State.setEmHit_evolves {s0 : State} {s : State} {t : Nat} {loc : Nat} {b : Bool} (h : Evolves s0 s) :
    Evolves s0 (State.setEmHit s t loc b) := by
  unfold State.setEmHit
  exact (State.setTabN_evolves h)

theorem State.emStore_evolves {s0 : State} {s : State} {t : Nat} {loc : Nat} {e : Nat} (h : Evolves s0 s) :
    Evolves s0 (State.emStore s t loc e) := by
  unfold State.emStore
  extract_lets x0 x1 x2 x3
  have k4 : Evolves s0 x3 := (State.setTabN_evolves h)
  split
  · exact k4
  · split
    · exact (State.setFld_evolves k4)
    · exact (State.setFld_evolves k4)

theorem State.emPut_evolves {s0 : State} {s : State} {t : Nat} {loc : Nat} {e : Nat} (h : Evolves s0 s) :
    Evolves s0 (State.emPut s t loc e) := by
  unfold State.emPut
  extract_lets x0 x1 x2 x3
  have k4 : Evolves s0 x3 := (State.emStore_evolves h)
  exact (State.raiseIf_evolves k4)

theorem State.emFree_evolves {s0 : State} {s : State} {t : Nat} {loc : Nat} (h : Evolves s0 s) :
    Evolves s0 (State.emFree s t loc) := by
  unfold State.emFree
  exact (State.setEmHit_evolves (State.emStore_evolves h))

theorem State.emRefuse_evolves {s0 : State} {s : State} {reason : Nat} (h : Evolves s0 s) :
    Evolves s0 (State.emRefuse s reason).2 := by
  unfold State.emRefuse
  exact (State.setFld_evolves h)

theorem State.emMove_evolves {s0 : State} {s : State} {t : Nat} {p : Nat × Nat} (h : Evolves s0 s) :
    Evolves s0 (State.emMove s t p) := by
  unfold State.emMove
  extract_lets x0
  exact (State.emFree_evolves (State.setEmHit_evolves (State.emStore_evolves h)))

theorem State.emPlace_evolves {s0 : State} {s : State} {t : Nat} {p : Nat} {e : Nat} (h : Evolves s0 s) :
    Evolves s0 (State.emPlace s t p e) := by
  unfold State.emPlace
  exact (State.setWinIndex_evolves (State.setEmHit_evolves (State.emPut_evolves h)))

theorem State.emInsert_evolves {s0 : State} {s : State} {t : Nat} (h : Evolves s0 s) :
    Evolves s0 (State.emInsert s t).2 := by
  unfold State.emInsert
  extract_lets x0 x1 x2 x3 x4
  split
  · exact (State.verProtect_evolves h)
  · split
    · exact h
    · split
      · exact (State.emRefuse_evolves (State.raise_evolves h))
      · split
        · exact (State.emPlace_evolves h)
        · split
          · exact (State.emPlace_evolves (foldl_evolves _ (fun a21 a22 k23 => (State.emMove_evolves k23)) h))
          · exact (State.emRefuse_evolves (State.raise_evolves h))

theorem State.emDelete_evolves {s0 : State} {s : State} {t : Nat} (h : Evolves s0 s) :
    Evolves s0 (State.emDelete s t).2 := by
  unfold State.emDelete
  extract_lets x0
  split
  · exact (State.verProtect_evolves h)
  · split
    · exact (State.emRefuse_evolves h)
    · dsimp only
      refine foldl_evolves _ ?_ ?_
      · intro a13 a14 k15
        split
        · exact (State.emFree_evolves k15)
        · exact (State.emPut_evolves k15)
      · exact (State.setWinIndex_evolves h)

theorem State.emSearch_evolves {s0 : State} {s : State} {t : Nat} (h : Evolves s0 s) :
    Evolves s0 (State.emSearch s t).2 := by
  unfold State.emSearch
  split
  · exact (State.emRefuse_evolves h)
  · exact (State.setWinIndex_evolves (State.setWinData_evolves h))

theorem State.emUpdate_evolves {s0 : State} {s : State} {t : Nat} (h : Evolves s0 s) :
    Evolves s0 (State.emUpdate s t).2 := by
  unfold State.emUpdate
  extract_lets x0 x1
  split
  · exact (State.verProtect_evolves h)
  · split
    · exact (State.emRefuse_evolves h)
    · split
      · exact (State.verProtect_evolves h)
      · split
        · exact h
        · exact (foldl_evolves _ (fun a12 a13 k14 => (State.emPut_evolves k14)) h)

theorem emTable_keeps {t : Nat} {cfg : Nat} :
    WinTable.Keeps (emTable t cfg) := by
  unfold emTable
  constructor
  · intro s0 s0 i1 m2 w3 k4
    dsimp only
    split
    · exact (State.verProtect_evolves k4)
    · split
      · exact k4
      · exact (State.emPut_evolves k4)
  · intro s0 s9 i10 m11 k13
    dsimp only
    split
    · exact (State.verProtect_evolves k13)
    · exact (State.emFree_evolves k13)

theorem State.emCmd_evolves {s0 : State} {s : State} {v : Nat} {run : State → Nat → Nat × State} (h0 : Evolves s0 s) (h1 : ∀ b0 b1, Evolves s0 b0 → Evolves s0 (run b0 b1).2) :
    Evolves s0 (State.emCmd s v run) := by
  unfold State.emCmd
  extract_lets x0 x1
  refine State.winCmd_evolves ?_ ?_
  · exact h0
  · intro a4 k5
    split
    · exact k5
    · exact (h1 _ _ k5)

theorem execEmInsert_evolves {s0 : State} {m : Master} {v : Word} {s : State} (h : Evolves s0 s) :
    Ends s0 (execEmInsert m v s) := by
  unfold execEmInsert
  exact Ends.next (State.asWrite_evolves h (fun a0 k1 => (State.emCmd_evolves k1 (fun a2 a3 k4 => (State.emInsert_evolves k4)))))

theorem execEmDelete_evolves {s0 : State} {m : Master} {v : Word} {s : State} (h : Evolves s0 s) :
    Ends s0 (execEmDelete m v s) := by
  unfold execEmDelete
  exact Ends.next (State.asWrite_evolves h (fun a0 k1 => (State.emCmd_evolves k1 (fun a2 a3 k4 => (State.emDelete_evolves k4)))))

theorem execEmSearch_evolves {s0 : State} {m : Master} {v : Word} {s : State} (h : Evolves s0 s) :
    Ends s0 (execEmSearch m v s) := by
  unfold execEmSearch
  exact Ends.next (State.asWrite_evolves h (fun a0 k1 => (State.emCmd_evolves k1 (fun a2 a3 k4 => (State.emSearch_evolves k4)))))

theorem execEmUpdate_evolves {s0 : State} {m : Master} {v : Word} {s : State} (h : Evolves s0 s) :
    Ends s0 (execEmUpdate m v s) := by
  unfold execEmUpdate
  exact Ends.next (State.asWrite_evolves h (fun a0 k1 => (State.emCmd_evolves k1 (fun a2 a3 k4 => (State.emUpdate_evolves k4)))))

theorem State.emCfgWrite_evolves {s0 : State} {s : State} {t : Nat} {v : Nat} (h : Evolves s0 s) :
    Evolves s0 (State.emCfgWrite s t v) := by
  unfold State.emCfgWrite
  extract_lets x0 x1 x2 x3
  split
  · exact h
  · exact (State.wr_evolves h)

end Sys2Proof.Machine
end

