-- ==== Sys2Proof/Laws/Lpm.lean ====
section
/-! SUPPORT. Every operation of `Sys2Proof/Machine/Lpm.lean` only evolves the state (`Evolves`), one lemma per operation. -/

namespace Sys2Proof.Machine

theorem State.setBucket_evolves {s0 : State} {s : State} {far : Bool} {b : Nat} {v : Nat} (h : Evolves s0 s) :
    Evolves s0 (State.setBucket s far b v) := by
  unfold State.setBucket
  split
  · exact (State.hbmStore_evolves h)
  · exact (State.setTabN_evolves h)

theorem State.setSlot_evolves {s0 : State} {s : State} {far : Bool} {v6 : Bool} {len : Nat} {p : Nat} {v : Nat} (h : Evolves s0 s) :
    Evolves s0 (State.setSlot s far v6 len p v) := by
  unfold State.setSlot
  exact (State.setBucket_evolves h)

theorem State.filterSet_evolves {s0 : State} {s : State} {k : Route} (h : Evolves s0 s) :
    Evolves s0 (State.filterSet s k) := by
  unfold State.filterSet
  exact (State.setTabN_evolves h)

theorem State.lpmCount_evolves {s0 : State} {s : State} {far : Bool} {i : Nat} {up : Bool} (h : Evolves s0 s) :
    Evolves s0 (State.lpmCount s far i up) := by
  unfold State.lpmCount
  extract_lets x0 x1 x2 x3
  exact (State.wr_evolves (State.setTabN_evolves h))

theorem State.lpmRefuse_evolves {s0 : State} {s : State} {reason : Nat} (h : Evolves s0 s) :
    Evolves s0 (State.lpmRefuse s reason).2 := by
  unfold State.lpmRefuse
  exact (State.setFld_evolves h)

theorem State.lpmPlace_evolves {s0 : State} {s : State} {far : Bool} {k : Route} {p : Nat} {e : Nat} (h : Evolves s0 s) :
    Evolves s0 (State.lpmPlace s far k p e) := by
  unfold State.lpmPlace
  extract_lets x0 x1 x2
  have k3 : Evolves s0 x2 := (State.lpmCount_evolves (State.setSlot_evolves h))
  split
  · exact k3
  · exact (State.raiseIf_evolves (State.filterSet_evolves k3))

theorem State.lpmMove_evolves {s0 : State} {s : State} {k : Route} {p : Nat × Nat} (h : Evolves s0 s) :
    Evolves s0 (State.lpmMove s k p) := by
  unfold State.lpmMove
  exact (State.setSlot_evolves (State.setSlot_evolves h))

theorem State.lpmInsert_evolves {s0 : State} {s : State} (h : Evolves s0 s) :
    Evolves s0 (State.lpmInsert s).2 := by
  unfold State.lpmInsert
  extract_lets x0 x1 x2 x3 x4 x5 x6
  split
  · exact (State.verProtect_evolves h)
  · split
    · exact (State.lpmRefuse_evolves (State.raise_evolves h))
    · split
      · exact (State.lpmRefuse_evolves h)
      · split
        · exact (State.lpmRefuse_evolves h)
        · split
          · exact (State.lpmRefuse_evolves h)
          · split
            · split
              · exact (State.lpmRefuse_evolves (State.raise_evolves h))
              · exact (State.lpmPlace_evolves h)
            · split
              · exact (State.lpmRefuse_evolves (State.raise_evolves h))
              · split
                · dsimp only
                  exact (State.lpmPlace_evolves (foldl_evolves _ (fun a34 a35 k36 => (State.lpmMove_evolves k36)) h))
                · exact (State.lpmRefuse_evolves (State.raise_evolves h))

theorem State.lpmDelete_evolves {s0 : State} {s : State} (h : Evolves s0 s) :
    Evolves s0 (State.lpmDelete s).2 := by
  unfold State.lpmDelete
  extract_lets x0 x1 x2 x3
  split
  · exact (State.verProtect_evolves h)
  · split
    · exact (State.lpmRefuse_evolves h)
    · dsimp only
      refine foldl_evolves _ ?_ ?_
      · intro a16 a17 k18
        split
        · exact (State.lpmCount_evolves (State.setSlot_evolves k18))
        · exact (State.setSlot_evolves k18)
      · exact h

theorem State.lpmSearch_evolves {s0 : State} {s : State} (h : Evolves s0 s) : Evolves s0 (State.lpmSearch s).2 := by
  unfold State.lpmSearch
  extract_lets k m near far answer
  have ha (f : Bool) (p : Nat) : Evolves s0 (answer f p).2 :=
    State.setWinWord_evolves (State.setWinWord_evolves (State.setWinWord_evolves h))
  clear_value answer near far
  split
  · exact ha _ _
  · exact ha _ _
  · exact State.lpmRefuse_evolves h

theorem State.lpmUpdate_evolves {s0 : State} {s : State} (h : Evolves s0 s) :
    Evolves s0 (State.lpmUpdate s).2 := by
  unfold State.lpmUpdate
  extract_lets x0 x1 x2 x3
  split
  · exact (State.verProtect_evolves h)
  · split
    · exact (State.lpmRefuse_evolves h)
    · split
      · exact (State.verProtect_evolves h)
      · exact (foldl_evolves _ (fun a12 a13 k14 => (State.setSlot_evolves k14)) h)

theorem State.lpmRebuild_evolves {s0 : State} {s : State} (h : Evolves s0 s) :
    Evolves s0 (State.lpmRebuild s).2 := by
  unfold State.lpmRebuild
  extract_lets x0 x1
  split
  · exact h
  · split
    · exact (State.lpmRefuse_evolves h)
    · exact (State.setFld_evolves (fwdUpd_evolves h))

theorem State.filterZero_evolves {s0 : State} {s : State} {base : Nat} {words : Nat} (h : Evolves s0 s) :
    Evolves s0 (State.filterZero s base words) := by
  unfold State.filterZero
  exact (foldl_evolves _ (fun a0 a1 k2 => (State.setTabN_evolves k2)) h)

theorem execRebuildDone_evolves {s0 : State} {s : State} (h : Evolves s0 s) :
    Ends s0 (execRebuildDone s) := by
  unfold execRebuildDone
  split
  · extract_lets x3 x4 x5 x6 x7 x8 x9
    have k10 : Evolves s0 x7 := (foldl_evolves _ (fun a11 a12 k13 => (State.filterSet_evolves k13)) (State.filterZero_evolves h))
    have k14 : Evolves s0 x8 := (State.setTabN_evolves k10)
    exact Ends.next (State.raise_evolves (State.setFld_evolves (fwdUpd_evolves k14)))
  · exact Ends.next h

theorem descTable_keeps :
    WinTable.Keeps (descTable) := by
  unfold descTable
  extract_lets x0
  have k1 : WinTable.Keeps x0 := maskedTable_keeps
  constructor
  · intro s0 s2 i3 m4 w5 k6
    dsimp only
    exact (k1.put k6)
  · intro s0 s7 i8 m9 k11
    dsimp only
    exact (k1.clear k11)

theorem bitmapTable_keeps :
    WinTable.Keeps (bitmapTable) := by
  unfold bitmapTable
  exact plainTable_keeps

theorem State.lpmCmd_evolves {s0 : State} {s : State} {v : Nat} {table : Nat} {run : State → Nat × State} (h0 : Evolves s0 s) (h1 : ∀ b0, Evolves s0 b0 → Evolves s0 (run b0).2) :
    Evolves s0 (State.lpmCmd s v table run) := by
  unfold State.lpmCmd
  refine State.winCmd_evolves ?_ ?_
  · exact h0
  · intro a2 k3
    split
    · exact (h1 _ k3)
    · split
      · exact k3
      · exact k3

theorem execLpmInsert_evolves {s0 : State} {m : Master} {v : Word} {s : State} (h : Evolves s0 s) :
    Ends s0 (execLpmInsert m v s) := by
  unfold execLpmInsert
  exact Ends.next (State.asWrite_evolves h (fun a0 k1 => (State.lpmCmd_evolves k1 (fun a2 k3 => (State.lpmInsert_evolves k3)))))

theorem execLpmDelete_evolves {s0 : State} {m : Master} {v : Word} {s : State} (h : Evolves s0 s) :
    Ends s0 (execLpmDelete m v s) := by
  unfold execLpmDelete
  exact Ends.next (State.asWrite_evolves h (fun a0 k1 => (State.lpmCmd_evolves k1 (fun a2 k3 => (State.lpmDelete_evolves k3)))))

theorem execLpmSearch_evolves {s0 : State} {m : Master} {v : Word} {s : State} (h : Evolves s0 s) :
    Ends s0 (execLpmSearch m v s) := by
  unfold execLpmSearch
  exact Ends.next (State.asWrite_evolves h (fun a0 k1 => (State.lpmCmd_evolves k1 (fun a2 k3 => (State.lpmSearch_evolves k3)))))

theorem execLpmUpdate_evolves {s0 : State} {m : Master} {v : Word} {s : State} (h : Evolves s0 s) :
    Ends s0 (execLpmUpdate m v s) := by
  unfold execLpmUpdate
  exact Ends.next (State.asWrite_evolves h (fun a0 k1 => (State.lpmCmd_evolves k1 (fun a2 k3 => (State.lpmUpdate_evolves k3)))))

theorem execRebuild_evolves {s0 : State} {m : Master} {v : Word} {s : State} (h : Evolves s0 s) :
    Ends s0 (execRebuild m v s) := by
  unfold execRebuild
  exact Ends.next (State.asWrite_evolves h (fun a0 k1 => (State.lpmCmd_evolves k1 (fun a2 k3 => (State.lpmRebuild_evolves k3)))))

end Sys2Proof.Machine
end

