-- ==== Sys2Proof/Laws/Parse.lean ====
section
/-! SUPPORT. Every operation of `Sys2Proof/Machine/Parse.lean` only evolves the state (`Evolves`), one lemma per operation. -/

namespace Sys2Proof.Machine

theorem State.setPipe_evolves {s0 : State} {s : State} {i : Nat} {x : PipeSt} (h : Evolves s0 s) :
    Evolves s0 (State.setPipe s i x) := by
  unfold State.setPipe
  exact (pipesUpd_evolves h)

theorem State.setEngine_evolves {s0 : State} {s : State} {i : Nat} {e : Nat} {x : Engine} (h : Evolves s0 s) :
    Evolves s0 (State.setEngine s i e x) := by
  unfold State.setEngine
  extract_lets x0
  exact (State.setPipe_evolves h)

theorem execParseDispatch_evolves {s0 : State} {i : Fin 16} {s : State} (h : Evolves s0 s) :
    Ends s0 (execParseDispatch i s) := by
  unfold execParseDispatch
  split
  · extract_lets x7 x8 x9 x10 x11 x12 x13 x14
    have k15 : Evolves s0 x7.2 := (State.meetPkt_evolves h)
    have k16 : Evolves s0 x9 := k15
    split
    · exact Ends.next (State.setEngine_evolves (State.setPipe_evolves k16))
    · exact Ends.next h
  · exact Ends.next h

theorem State.excMeter_evolves {s0 : State} {s : State} {i : Nat} (h : Evolves s0 s) :
    Evolves s0 (State.excMeter s i).2 := by
  unfold State.excMeter
  extract_lets x0 x1 x2 x3
  split
  · exact h
  · exact (State.setPipe_evolves h)

theorem State.engineLeaves_evolves {s0 : State} {s : State} {i : Nat} {e : Nat} (h : Evolves s0 s) :
    Evolves s0 (State.engineLeaves s i e) := by
  unfold State.engineLeaves
  extract_lets x0
  exact (State.setEngine_evolves (State.setPipe_evolves h))

theorem State.parseCounts_evolves {s0 : State} {s : State} {i : Nat} {n : Nat} (h : Evolves s0 s) :
    Evolves s0 (State.parseCounts s i n) := by
  unfold State.parseCounts
  extract_lets x0
  have k1 : Evolves s0 x0 := (State.bump64_evolves h)
  split
  · exact (State.setFld_evolves k1)
  · exact k1

theorem State.takeExc_evolves {s0 : State} {s : State} {i : Nat} {e : Nat} {reason : Nat} (h : Evolves s0 s) :
    Evolves s0 (State.takeExc s i e reason) := by
  unfold State.takeExc
  extract_lets x0 x1 x2 x3 x4 x5 x6 x7 x8
  have k9 : Evolves s0 x5 := (State.parseCounts_evolves (State.engineLeaves_evolves h))
  have k10 : Evolves s0 x6 := (State.raise_evolves (State.bump_evolves k9))
  have k11 : Evolves s0 x7.2 := (State.excMeter_evolves k10)
  split
  · exact (State.setPipe_evolves k11)
  · exact (State.inflSub_evolves (State.raise_evolves (State.bump_evolves k11)))

theorem State.parseMeet_evolves {s0 : State} {s : State} {i : Nat} {e : Nat} (h : Evolves s0 s) :
    Evolves s0 (State.parseMeet s i e) := by
  unfold State.parseMeet
  extract_lets x0 x1
  have k2 : Evolves s0 x1.2 := (State.meetPkt_evolves h)
  split
  · exact (State.setEngine_evolves k2)
  · exact h

theorem State.parseStep_evolves {s0 : State} {s : State} {i : Nat} {e : Nat} {opc : Nat} {f : Nat → Engine → Option Engine} (h : Evolves s0 s) :
    Evolves s0 (State.parseStep s i e opc f) := by
  unfold State.parseStep
  extract_lets x0 x1 x2 x3
  have k4 : Evolves s0 x0 := (State.parseMeet_evolves h)
  split
  · exact k4
  · split
    · exact (State.takeExc_evolves k4)
    · split
      · exact (State.takeExc_evolves k4)
      · split
        · exact k4
        · split
          · exact (State.bump64_evolves (State.setEngine_evolves k4))
          · exact (State.takeExc_evolves k4)

theorem execParseNop_evolves {s0 : State} {i : Fin 16} {e : Fin 64} {s : State} (h : Evolves s0 s) :
    Ends s0 (execParseNop i e s) := by
  unfold execParseNop
  exact Ends.next (State.parseStep_evolves h)

theorem execParseExt_evolves {s0 : State} {i : Fin 16} {e : Fin 64} {s : State} (h : Evolves s0 s) :
    Ends s0 (execParseExt i e s) := by
  unfold execParseExt
  exact Ends.next (State.parseStep_evolves h)

theorem execParseHvx_evolves {s0 : State} {i : Fin 16} {e : Fin 64} {s : State} (h : Evolves s0 s) :
    Ends s0 (execParseHvx i e s) := by
  unfold execParseHvx
  exact Ends.next (State.parseStep_evolves h)

theorem execParseHvr_evolves {s0 : State} {i : Fin 16} {e : Fin 64} {s : State} (h : Evolves s0 s) :
    Ends s0 (execParseHvr i e s) := by
  unfold execParseHvr
  exact Ends.next (State.parseStep_evolves h)

theorem execParseLdi_evolves {s0 : State} {i : Fin 16} {e : Fin 64} {s : State} (h : Evolves s0 s) :
    Ends s0 (execParseLdi i e s) := by
  unfold execParseLdi
  exact Ends.next (State.parseStep_evolves h)

theorem execParseAlu_evolves {s0 : State} {i : Fin 16} {e : Fin 64} {s : State} (h : Evolves s0 s) :
    Ends s0 (execParseAlu i e s) := by
  unfold execParseAlu
  exact Ends.next (State.parseStep_evolves h)

theorem execParseCmp_evolves {s0 : State} {i : Fin 16} {e : Fin 64} {s : State} (h : Evolves s0 s) :
    Ends s0 (execParseCmp i e s) := by
  unfold execParseCmp
  exact Ends.next (State.parseStep_evolves h)

theorem execParseBr_evolves {s0 : State} {i : Fin 16} {e : Fin 64} {s : State} (h : Evolves s0 s) :
    Ends s0 (execParseBr i e s) := by
  unfold execParseBr
  exact Ends.next (State.parseStep_evolves h)

theorem execParseSwt_evolves {s0 : State} {i : Fin 16} {e : Fin 64} {s : State} (h : Evolves s0 s) :
    Ends s0 (execParseSwt i e s) := by
  unfold execParseSwt
  exact Ends.next (State.parseStep_evolves h)

theorem execParseAdv_evolves {s0 : State} {i : Fin 16} {e : Fin 64} {s : State} (h : Evolves s0 s) :
    Ends s0 (execParseAdv i e s) := by
  unfold execParseAdv
  exact Ends.next (State.parseStep_evolves h)

theorem execParseMark_evolves {s0 : State} {i : Fin 16} {e : Fin 64} {s : State} (h : Evolves s0 s) :
    Ends s0 (execParseMark i e s) := by
  unfold execParseMark
  exact Ends.next (State.parseStep_evolves h)

theorem execParseFlag_evolves {s0 : State} {i : Fin 16} {e : Fin 64} {s : State} (h : Evolves s0 s) :
    Ends s0 (execParseFlag i e s) := by
  unfold execParseFlag
  exact Ends.next (State.parseStep_evolves h)

theorem execParseHsel_evolves {s0 : State} {i : Fin 16} {e : Fin 64} {s : State} (h : Evolves s0 s) :
    Ends s0 (execParseHsel i e s) := by
  unfold execParseHsel
  exact Ends.next (State.parseStep_evolves h)

theorem execParseExc_evolves {s0 : State} {i : Fin 16} {e : Fin 64} {s : State} (h : Evolves s0 s) :
    Ends s0 (execParseExc i e s) := by
  unfold execParseExc
  extract_lets x0 x1 x2
  have k3 : Evolves s0 x0 := (State.parseMeet_evolves h)
  have k4 : Evolves s0 x2 := (State.parseStep_evolves k3)
  split
  · exact Ends.next (State.takeExc_evolves k4)
  · exact Ends.next k4

theorem State.parseDone_evolves {s0 : State} {s : State} {i : Nat} {e : Nat} {cls : Nat} (h : Evolves s0 s) :
    Evolves s0 (State.parseDone s i e cls) := by
  unfold State.parseDone
  extract_lets x0 x1 x2 x3 x4 x5 x6 x7 x8 x9 x10 x11
  have k12 : Evolves s0 x8 := (State.parseCounts_evolves h)
  have k13 : Evolves s0 x9 := by
    subst x9
    split
    · exact (State.bump_evolves k12)
    · exact k12
  have k16 : Evolves s0 x10 := by
    subst x10
    split
    · exact (State.bump_evolves k13)
    · exact k13
  exact (State.setEngine_evolves (State.setPipe_evolves k16))

theorem execParseDone_evolves {s0 : State} {i : Fin 16} {e : Fin 64} {s : State} (h : Evolves s0 s) :
    Ends s0 (execParseDone i e s) := by
  unfold execParseDone
  extract_lets x0 x1 x2
  have k3 : Evolves s0 x0 := (State.parseMeet_evolves h)
  have k4 : Evolves s0 x2 := (State.parseStep_evolves k3)
  split
  · exact Ends.next (State.parseDone_evolves k4)
  · exact Ends.next k4

end Sys2Proof.Machine
end

