-- ==== Sys2Proof/Laws/Tables.lean ====
section
/-! SUPPORT. Every operation of `Sys2Proof/Machine/Tables.lean` only evolves the state (`Evolves`), one lemma per operation. -/

namespace Sys2Proof.Machine

theorem directTable_keeps {a : Nat} {region : Nat} {block : Nat} {table : Nat} {bytes : Nat} {count : Nat} {bits : Nat} {ok : Nat → Bool} :
    WinTable.Keeps (directTable a region block table bytes count bits ok) := by
  unfold directTable
  extract_lets x0
  have k1 : WinTable.Keeps x0 := copyTable_keeps
  constructor
  · intro s0 s2 i3 m4 w5 k6
    dsimp only
    split
    · exact (k1.put k6)
    · exact (k1.put k6)
  · intro s0 s9 i10 m11 k13
    dsimp only
    exact (k1.clear k13)

theorem dirTable_keeps {t : Nat} : OptAll WinTable.Keeps (dirTable t) := by
  unfold dirTable
  cases dirSpec t with
  | none => exact OptAll.none
  | some d => exact OptAll.some directTable_keeps

theorem nhTable_keeps :
    WinTable.Keeps (nhTable) := by
  unfold nhTable
  constructor
  · intro s0 s0 i1 m2 w3 k4
    dsimp only
    split
    · exact (State.verProtect_evolves k4)
    · split
      · exact k4
      · exact (State.setTabN_evolves k4)
  · intro s0 s9 i10 m11 k13
    dsimp only
    split
    · exact (State.verProtect_evolves k13)
    · exact (State.setTabN_evolves k13)

theorem nextHopTable_keeps {y0 : Nat} :
    OptAll WinTable.Keeps (nextHopTable y0) := by
  unfold nextHopTable
  split
  · refine OptAll.some ?_
    exact nhTable_keeps
  · refine OptAll.some ?_
    exact directTable_keeps
  · refine OptAll.some ?_
    exact maskedTable_keeps
  · exact OptAll.none

theorem rwTable_keeps {y0 : Nat} :
    OptAll WinTable.Keeps (rwTable y0) := by
  unfold rwTable
  split
  · refine OptAll.some ?_
    exact plainTable_keeps
  · refine OptAll.some ?_
    exact maskedTable_keeps
  · refine OptAll.some ?_
    exact maskedTable_keeps
  · refine OptAll.some ?_
    exact plainTable_keeps
  · exact OptAll.none

theorem statTable_keeps :
    WinTable.Keeps (statTable) := by
  unfold statTable
  extract_lets x0
  have k1 : WinTable.Keeps x0 := plainTable_keeps
  constructor
  · intro s0 s2 i3 m4 w5 k6
    dsimp only
    exact (k1.put k6)
  · intro s0 s7 i8 m9 k11
    dsimp only
    exact (k1.clear k11)

theorem progTable_keeps {i table bytes count perBank mask : Nat} : WinTable.Keeps (progTable i table bytes count perBank mask) := by
  have hp {s0 s : State} {r b n v : Nat} (h : Evolves s0 s) : Evolves s0
      (if s.verLocked &&& verBit (decide (perBank ≤ n)) ≠ 0 then
        let x := s.verProtect (winA r b 0); (x.1, x.2.raise r b 2)
      else (0, s.setTabN r b table n (v &&& mask))).2 := by
    split
    · exact State.raise_evolves (State.verProtect_evolves h)
    · exact State.setTabN_evolves h
  exact ⟨fun h => hp h, fun h => hp h⟩

theorem ipTable_keeps {i : Nat} {y1 : Nat} :
    OptAll WinTable.Keeps (ipTable i y1) := by
  unfold ipTable
  split
  · refine OptAll.some ?_
    exact progTable_keeps
  · refine OptAll.some ?_
    exact progTable_keeps
  · refine OptAll.some ?_
    exact maskedTable_keeps
  · refine OptAll.some ?_
    exact maskedTable_keeps
  · refine OptAll.some ?_
    exact maskedTable_keeps
  · exact OptAll.none

theorem indTable_keeps {r : Nat} {y1 : Nat} :
    OptAll WinTable.Keeps (indTable r y1) := by
  unfold indTable
  split
  · refine OptAll.some ?_
    exact maskedTable_keeps
  · refine OptAll.some ?_
    exact plainTable_keeps
  · exact OptAll.none

theorem State.parseEntryWrite_evolves {s0 : State} {s : State} {i : Nat} {bank : Nat} {kind : Nat} {v : Nat} (h : Evolves s0 s) :
    Evolves s0 (State.parseEntryWrite s i bank kind v) := by
  unfold State.parseEntryWrite
  extract_lets x0
  split
  · exact (State.raise_evolves (State.verProtect_evolves h))
  · exact (State.wr_evolves h)

theorem State.pauseApply_evolves {s0 : State} {s : State} (h : Evolves s0 s) :
    Evolves s0 (State.pauseApply s) := by
  unfold State.pauseApply
  extract_lets x0 x1 x2
  split
  · exact (State.verRefused_evolves h)
  · split
    · exact (State.wr_evolves h)
    · exact (State.setRbit_evolves (State.wr_evolves (verUpd_evolves h)))

theorem execPauseApply_evolves {s0 : State} {m : Master} {s : State} (h : Evolves s0 s) :
    Ends s0 (execPauseApply m s) := by
  unfold execPauseApply
  exact Ends.next (State.asWrite_evolves h (fun a0 k1 => (State.pauseApply_evolves k1)))

theorem State.batchPut_evolves {s0 : State} {s : State} {b : BatchArgs} (h : Evolves s0 s) :
    Evolves s0 (State.batchPut s b) := by
  unfold State.batchPut
  extract_lets x0
  split
  · exact h
  · split
    · split
      · exact (State.emPut_evolves h)
      · exact (State.emFree_evolves h)
      · exact (State.emPut_evolves h)
    · split
      · exact (State.setTabN_evolves h)
      · exact (State.setTabN_evolves h)

theorem State.batchEnd_evolves {s0 : State} {s : State} {result : Nat} {t0 : Nat} (h : Evolves s0 s) :
    Evolves s0 (State.batchEnd s result t0) := by
  unfold State.batchEnd
  extract_lets x0
  exact (State.setRbit_evolves (State.wr_evolves (verUpd_evolves h)))

theorem execBatchWrite_evolves {s0 : State} {s : State} (h : Evolves s0 s) :
    Ends s0 (execBatchWrite s) := by
  unfold execBatchWrite
  split
  · extract_lets x5
    have k6 : Evolves s0 x5 := (foldl_evolves _ (fun a7 a8 k9 => (State.batchPut_evolves k9)) h)
    split
    · exact Ends.next h
    · exact Ends.next (State.verRaise_evolves (State.batchEnd_evolves k6))
  · exact Ends.next h

theorem execPauseAbort_evolves {s0 : State} {s : State} (h : Evolves s0 s) :
    Ends s0 (execPauseAbort s) := by
  unfold execPauseAbort
  split
  · split
    · exact Ends.next (State.verRaise_evolves (State.batchEnd_evolves h))
    · exact Ends.next h
  · exact Ends.next h

end Sys2Proof.Machine
end

