-- ==== Sys2Proof/Laws/Assoc.lean ====
section
/-! SUPPORT. Every operation of `Sys2Proof/Machine/Assoc.lean` only evolves the state (`Evolves`), one lemma per operation. -/

namespace Sys2Proof.Machine

theorem State.setArr_evolves {s0 : State} {s : State} {a : ArrayRef} {x : AscSt} (h : Evolves s0 s) :
    Evolves s0 (State.setArr s a x) := by
  unfold State.setArr
  exact (ascUpd_evolves h)

theorem State.setArrTab_evolves {s0 : State} {s : State} {a : ArrayRef} {table : Nat} {i : Nat} {v : Nat} (h : Evolves s0 s) :
    Evolves s0 (State.setArrTab s a table i v) := by
  unfold State.setArrTab
  exact (State.setTabN_evolves h)

theorem State.arrPut_evolves {s0 : State} {s : State} {a : ArrayRef} {i : Nat} {e : AscEnt} (h : Evolves s0 s) :
    Evolves s0 (State.arrPut s a i e) := by
  unfold State.arrPut
  extract_lets x0 x1 x2 x3
  have k4 : Evolves s0 x3 := (State.setArrTab_evolves (State.setArrTab_evolves (State.setArrTab_evolves h)))
  split
  · exact k4
  · split
    · exact (State.setFld_evolves k4)
    · exact (State.setFld_evolves k4)

theorem State.ascPut_evolves {s0 : State} {s : State} {a : ArrayRef} {i : Nat} {e : AscEnt} (h : Evolves s0 s) :
    Evolves s0 (State.ascPut s a i e) := by
  unfold State.ascPut
  exact (State.setArrTab_evolves (State.setArrTab_evolves (State.setArrTab_evolves (State.setArrTab_evolves (State.arrPut_evolves h)))))

theorem State.ascVmask_evolves {s0 : State} {s : State} {a : ArrayRef} {i : Nat} {v : Nat} (h : Evolves s0 s) :
    Evolves s0 (State.ascVmask s a i v) := by
  unfold State.ascVmask
  extract_lets x0 x1
  have k2 : Evolves s0 x1 := (State.arrPut_evolves h)
  exact (State.setArrTab_evolves k2)

theorem State.ascCopy_evolves {s0 : State} {s : State} {a : ArrayRef} {i : Nat} {j : Nat} {w : Nat} (h : Evolves s0 s) :
    Evolves s0 (State.ascCopy s a i j w) := by
  unfold State.ascCopy
  extract_lets x0 x1
  exact (State.setArrTab_evolves (State.setArrTab_evolves (State.setArrTab_evolves (State.setArrTab_evolves (State.arrPut_evolves h)))))

theorem State.ascSetWords_evolves {s0 : State} {s : State} {a : ArrayRef} {i : Nat} {w : Nat} (h : Evolves s0 s) :
    Evolves s0 (State.ascSetWords s a i w) := by
  unfold State.ascSetWords
  exact (State.setArrTab_evolves h)

theorem keyProfileTable_keeps {a : ArrayRef} :
    WinTable.Keeps (keyProfileTable a) := by
  unfold keyProfileTable
  exact maskedTable_keeps

theorem partTable_keeps {a : ArrayRef} :
    WinTable.Keeps (partTable a) := by
  unfold partTable
  exact maskedTable_keeps

theorem State.ascTie_evolves {s0 : State} {s : State} {a : ArrayRef} {w : Nat} {l : List Nat} (h : Evolves s0 s) :
    Evolves s0 (State.ascTie s a w l) := by
  unfold State.ascTie
  split
  · exact h
  · extract_lets x6
    have k7 : Evolves s0 x6 := (State.bump_evolves h)
    split
    · exact (State.raise_evolves (State.wr_evolves k7))
    · exact k7

theorem State.arrWait_evolves {s0 : State} {s : State} {a : ArrayRef} (h : Evolves s0 s) :
    Evolves s0 (State.arrWait s a) := by
  unfold State.arrWait
  extract_lets x0
  split
  · exact h
  · exact (State.setArr_evolves h)

theorem State.ascUse_evolves {s0 : State} {s : State} {a : ArrayRef} {n : Nat} (h : Evolves s0 s) :
    Evolves s0 (State.ascUse s a n) := by
  unfold State.ascUse
  extract_lets x0
  exact (State.setArr_evolves h)

theorem State.ascFalseHit_evolves {s0 : State} {s : State} {a : ArrayRef} {w : Nat} {parity : Bool} (h : Evolves s0 s) :
    Evolves s0 (State.ascFalseHit s a w parity) := by
  unfold State.ascFalseHit
  extract_lets x0 x1 x2 x3
  have k4 : Evolves s0 x0 := (State.bump_evolves (State.ascSetWords_evolves h))
  have k5 : Evolves s0 x1 := (State.raise_evolves k4)
  have k6 : Evolves s0 x2 := (State.arrWait_evolves k5)
  split
  · exact (State.raise_evolves (State.setRbit_evolves (State.wr_evolves k5)))
  · exact (State.setArr_evolves k6)

theorem ascSearchN_evolves {s0 : State} {a : ArrayRef} {p : Nat} {key : Nat} {odd : Bool} {y4 : Nat} {y5 : State} (h : Evolves s0 y5) :
    Evolves s0 (ascSearchN a p key odd y4 y5).2 := by
  fun_induction ascSearchN a p key odd y4 y5
  · exact (State.raise_evolves (State.bump_evolves h))
  · exact h
  · rename_i v5 v6 v7 v8 e9 v10 v11 e12 e13
    have k14 : Evolves s0 v10 := (State.ascTie_evolves h)
    apply e13
    · exact (State.ascFalseHit_evolves k14)
  · rename_i v15 v16 v17 v18 e19 v20 v21 e22 e23
    have k24 : Evolves s0 v20 := (State.ascTie_evolves h)
    exact k24
  · rename_i v25 v26 v27 v28 e29 v30 v31 e32 e33 e34
    have k35 : Evolves s0 v30 := (State.ascTie_evolves h)
    apply e34
    · exact (State.ascFalseHit_evolves k35)

theorem State.ascSearch_evolves {s0 : State} {s : State} {a : ArrayRef} {p : Nat} {key : Nat} {odd : Bool} (h : Evolves s0 s) :
    Evolves s0 (State.ascSearch s a p key odd).2 := by
  unfold State.ascSearch
  exact (ascSearchN_evolves h)

theorem State.ascPacket_evolves {s0 : State} {s : State} {a : ArrayRef} {n : Nat} {p : Nat} {key : Nat} {odd : Bool} (h : Evolves s0 s) :
    Evolves s0 (State.ascPacket s a n p key odd).2 := by
  unfold State.ascPacket
  extract_lets x0
  have k1 : Evolves s0 x0.2 := (State.ascSearch_evolves (State.ascUse_evolves (State.bump64_evolves h)))
  split
  · exact (State.bump64_evolves k1)
  · exact k1

theorem State.ascRefuse_evolves {s0 : State} {s : State} {a : ArrayRef} {reason : Nat} (h : Evolves s0 s) :
    Evolves s0 (State.ascRefuse s a reason).2 := by
  unfold State.ascRefuse
  exact (State.raise_evolves (State.setFld_evolves h))

theorem State.ascWrite_evolves {s0 : State} {s : State} {a : ArrayRef} {win : Nat} (h : Evolves s0 s) :
    Evolves s0 (State.ascWrite s a win).2 := by
  unfold State.ascWrite
  extract_lets x0 x1
  split
  · exact (State.ascRefuse_evolves h)
  · split
    · exact (State.verProtect_evolves h)
    · split
      · exact (State.ascRefuse_evolves h)
      · split
        · exact (State.ascRefuse_evolves h)
        · dsimp only
          split
          · exact h
          · exact (State.ascPut_evolves h)

theorem State.ascRead_evolves {s0 : State} {s : State} {a : ArrayRef} {win : Nat} (h : Evolves s0 s) :
    Evolves s0 (State.ascRead s a win).2 := by
  unfold State.ascRead
  extract_lets x0 x1 x2
  exact (foldl_evolves _ (fun a6 a7 k8 => (State.wr_evolves k8)) (foldl_evolves _ (fun a3 a4 k5 => (State.wr_evolves k5)) (State.setWinData_evolves h)))

theorem State.shadowBad_evolves {s0 : State} {s : State} {a : ArrayRef} (h : Evolves s0 s) :
    Evolves s0 (State.shadowBad s a) := by
  unfold State.shadowBad
  exact (State.setRbit_evolves h)

theorem State.ascClear_evolves {s0 : State} {s : State} {a : ArrayRef} {win : Nat} (h : Evolves s0 s) :
    Evolves s0 (State.ascClear s a win).2 := by
  unfold State.ascClear
  extract_lets x0
  split
  · exact (State.ascRefuse_evolves h)
  · split
    · exact (State.verProtect_evolves h)
    · exact (State.shadowBad_evolves (State.ascPut_evolves h))

theorem State.ascSetv_evolves {s0 : State} {s : State} {a : ArrayRef} {win : Nat} (h : Evolves s0 s) :
    Evolves s0 (State.ascSetv s a win).2 := by
  unfold State.ascSetv
  extract_lets x0 x1 x2
  split
  · exact (State.ascRefuse_evolves h)
  · split
    · exact (State.verProtect_evolves h)
    · split
      · exact (State.ascRefuse_evolves h)
      · exact (State.ascVmask_evolves h)

theorem State.ascDelete_evolves {s0 : State} {s : State} {a : ArrayRef} {win : Nat} (h : Evolves s0 s) :
    Evolves s0 (State.ascDelete s a win).2 := by
  unfold State.ascDelete
  extract_lets x0 x1 x2 x3
  split
  · exact (State.ascRefuse_evolves h)
  · split
    · exact (State.verProtect_evolves h)
    · split
      · exact (State.ascRefuse_evolves h)
      · dsimp only
        split
        · exact (State.shadowBad_evolves (State.ascPut_evolves h))
        · exact (State.ascVmask_evolves h)

theorem State.ascUpdate_evolves {s0 : State} {s : State} {a : ArrayRef} {win : Nat} (h : Evolves s0 s) :
    Evolves s0 (State.ascUpdate s a win).2 := by
  unfold State.ascUpdate
  extract_lets x0 x1 x2
  split
  · exact (State.ascRefuse_evolves h)
  · split
    · exact (State.verProtect_evolves h)
    · split
      · exact (State.ascRefuse_evolves h)
      · split
        · exact (State.ascRefuse_evolves h)
        · exact (State.ascSetWords_evolves h)

theorem State.ascSearchCmd_evolves {s0 : State} {s : State} {a : ArrayRef} {win : Nat} (h : Evolves s0 s) :
    Evolves s0 (State.ascSearchCmd s a win).2 := by
  unfold State.ascSearchCmd
  extract_lets x0 x1 x2
  have k3 : Evolves s0 x2.2 := (State.ascSearch_evolves h)
  split
  · exact (State.ascRefuse_evolves h)
  · split
    · exact (State.setWinIndex_evolves k3)
    · exact (State.ascRefuse_evolves k3)

theorem State.ascBusy_evolves {s0 : State} {s : State} {a : ArrayRef} {b : Bool} (h : Evolves s0 s) :
    Evolves s0 (State.ascBusy s a b) := by
  unfold State.ascBusy
  exact (State.setFld_evolves h)

theorem State.ascStart_evolves {s0 : State} {s : State} {a : ArrayRef} {m : AscMove} (h : Evolves s0 s) :
    Evolves s0 (State.ascStart s a m) := by
  unfold State.ascStart
  extract_lets x0 x1
  have k2 : Evolves s0 x0 := (State.arrWait_evolves h)
  exact (State.wr_evolves (State.ascBusy_evolves (State.setArr_evolves k2)))

theorem State.ascMoved_evolves {s0 : State} {s : State} {a : ArrayRef} (h : Evolves s0 s) :
    Evolves s0 (State.ascMoved s a) := by
  unfold State.ascMoved
  exact (State.setRbit_evolves h)

theorem State.ascInsertAt_evolves {s0 : State} {s : State} {a : ArrayRef} {win : Nat} {v : Nat} (h : Evolves s0 s) :
    Evolves s0 (State.ascInsertAt s a win v) := by
  unfold State.ascInsertAt
  refine State.winStart_evolves ?_ ?_
  · exact h
  · intro a2 k3
    extract_lets x4 x5 x6
    split
    · exact (State.winEnd_evolves k3)
    · split
      · exact (State.winEnd_evolves k3)
      · split
        · exact (State.winEnd_evolves (State.ascRefuse_evolves k3))
        · split
          · exact (State.winEnd_evolves (State.verProtect_evolves k3))
          · split
            · exact (State.winEnd_evolves (State.ascRefuse_evolves k3))
            · exact (State.winEnd_evolves (State.ascRefuse_evolves k3))
            · extract_lets x28
              split
              · exact (State.winEnd_evolves (State.ascRefuse_evolves k3))
              · split
                · exact (State.winEnd_evolves (State.ascMoved_evolves (State.ascPut_evolves k3)))
                · exact (State.ascStart_evolves k3)
              · split
                · exact (State.winEnd_evolves (State.ascMoved_evolves (State.setWinIndex_evolves (State.ascPut_evolves k3))))
                · exact (State.ascStart_evolves k3)

theorem State.ascMoveCmd_evolves {s0 : State} {s : State} {a : ArrayRef} {win : Nat} {v : Nat} (h : Evolves s0 s) :
    Evolves s0 (State.ascMoveCmd s a win v) := by
  unfold State.ascMoveCmd
  refine State.winStart_evolves ?_ ?_
  · exact h
  · intro a2 k3
    extract_lets x4 x5 x6 x7
    split
    · exact (State.winEnd_evolves k3)
    · split
      · exact (State.winEnd_evolves k3)
      · split
        · exact (State.winEnd_evolves (State.ascRefuse_evolves k3))
        · split
          · exact (State.winEnd_evolves (State.ascRefuse_evolves k3))
          · extract_lets x19 x20 x21
            split
            · exact (State.winEnd_evolves (State.ascRefuse_evolves k3))
            · exact (State.ascStart_evolves k3)

theorem State.ascRun_evolves {s0 : State} {s : State} {a : ArrayRef} {q : Nat × Nat} (h : Evolves s0 s) :
    Evolves s0 (State.ascRun s a q) := by
  unfold State.ascRun ascCommand
  split
  · rename_i run e
    refine State.winEnd_evolves ?_
    split at e <;> cases e
    · exact State.ascRead_evolves h
    · exact State.ascWrite_evolves h
    · exact State.ascClear_evolves h
    · exact State.ascSetv_evolves h
    · exact State.ascDelete_evolves h
    · exact State.ascUpdate_evolves h
    · exact State.ascSearchCmd_evolves h
  · exact h

theorem State.rewriteLine_evolves {s0 : State} {s : State} {a : ArrayRef} {line : Nat} {unmask : Bool} (h : Evolves s0 s) :
    Evolves s0 (State.rewriteLine s a line unmask) := by
  unfold State.rewriteLine
  refine foldl_evolves _ ?_ ?_
  · intro a3 a4 k5
    extract_lets x6 x7 x8 x9
    split
    · exact k5
    · exact (State.arrPut_evolves k5)
  · exact h

theorem State.rewriteNext_evolves {s0 : State} {s : State} {a : ArrayRef} (h : Evolves s0 s) :
    Evolves s0 (State.rewriteNext s a) := by
  unfold State.rewriteNext
  split
  · extract_lets x4
    exact (State.rewriteLine_evolves (State.setArr_evolves h))
  · exact h

theorem State.rewriteAll_evolves {s0 : State} {s : State} {a : ArrayRef} (h : Evolves s0 s) :
    Evolves s0 (State.rewriteAll s a) := by
  unfold State.rewriteAll
  exact (foldl_evolves _ (fun a0 a1 k2 => (State.rewriteNext_evolves k2)) h)

theorem State.ascNext_evolves {s0 : State} {s : State} {a : ArrayRef} (h : Evolves s0 s) :
    Evolves s0 (State.ascNext s a) := by
  unfold State.ascNext
  split
  · extract_lets x4
    exact (State.ascRun_evolves (State.setArr_evolves h))
  · exact h

theorem State.ascDrain_evolves {s0 : State} {s : State} {a : ArrayRef} (h : Evolves s0 s) :
    Evolves s0 (State.ascDrain s a) := by
  unfold State.ascDrain
  extract_lets x0
  have k1 : Evolves s0 x0 := (State.rewriteAll_evolves h)
  exact (foldl_evolves _ (fun a2 a3 k4 => (State.ascNext_evolves k4)) k1)

theorem State.ascClock_evolves {s0 : State} {s : State} {a : ArrayRef} (h : Evolves s0 s) :
    Evolves s0 (State.ascClock s a) := by
  unfold State.ascClock
  extract_lets x0 x1
  have k2 : Evolves s0 x0 := by
    subst x0
    split
    · exact h
    · exact (State.ascDrain_evolves h)
  split
  · exact (State.setArr_evolves k2)
  · exact h

theorem State.ascPend_evolves {s0 : State} {s : State} {a : ArrayRef} {win : Nat} {c : Nat} (h : Evolves s0 s) :
    Evolves s0 (State.ascPend s a win c) := by
  unfold State.ascPend
  extract_lets x0 x1
  have k2 : Evolves s0 x0 := (State.arrWait_evolves h)
  exact (State.wr_evolves (State.setArr_evolves k2))

theorem State.ascCmd_evolves {s0 : State} {s : State} {a : ArrayWin} {v : Nat} {run : State → ArrayRef → Nat → Nat × State} (h0 : Evolves s0 s) (h1 : ∀ b0 b1 b2, Evolves s0 b0 → Evolves s0 (run b0 b1 b2).2) :
    Evolves s0 (State.ascCmd s a v run) := by
  unfold State.ascCmd
  extract_lets x0
  refine State.winStart_evolves ?_ ?_
  · exact h0
  · intro a3 k4
    extract_lets x5 x6
    have k7 : Evolves s0 x5 := by
      subst x5
      split
      · exact k4
      · exact (State.ascDrain_evolves k4)
    have k10 : Evolves s0 x6.2 := (h1 _ _ _ k7)
    split
    · split
      · exact (State.winEnd_evolves k4)
      · exact (State.winEnd_evolves k4)
    · split
      · exact (State.winEnd_evolves k4)
      · split
        · exact (State.ascPend_evolves k4)
        · exact (State.winEnd_evolves k10)

theorem ascTable_keeps {a : ArrayRef} {y1 : Nat} :
    OptAll WinTable.Keeps (ascTable a y1) := by
  unfold ascTable
  split
  · refine OptAll.some ?_
    exact keyProfileTable_keeps
  · refine OptAll.some ?_
    exact partTable_keeps
  · exact OptAll.none

theorem execAscRead_evolves {s0 : State} {m : Master} {a : ArrayWin} {v : Word} {s : State} (h : Evolves s0 s) :
    Ends s0 (execAscRead m a v s) := by
  unfold execAscRead
  exact Ends.next (State.asWrite_evolves h (fun a0 k1 => (State.ascCmd_evolves k1 (fun a2 a3 a4 k5 => (State.ascRead_evolves k5)))))

theorem execAscWrite_evolves {s0 : State} {m : Master} {a : ArrayWin} {v : Word} {s : State} (h : Evolves s0 s) :
    Ends s0 (execAscWrite m a v s) := by
  unfold execAscWrite
  exact Ends.next (State.asWrite_evolves h (fun a0 k1 => (State.ascCmd_evolves k1 (fun a2 a3 a4 k5 => (State.ascWrite_evolves k5)))))

theorem execAscClear_evolves {s0 : State} {m : Master} {a : ArrayWin} {v : Word} {s : State} (h : Evolves s0 s) :
    Ends s0 (execAscClear m a v s) := by
  unfold execAscClear
  exact Ends.next (State.asWrite_evolves h (fun a0 k1 => (State.ascCmd_evolves k1 (fun a2 a3 a4 k5 => (State.ascClear_evolves k5)))))

theorem execInsertAt_evolves {s0 : State} {m : Master} {a : ArrayWin} {v : Word} {s : State} (h : Evolves s0 s) :
    Ends s0 (execInsertAt m a v s) := by
  unfold execInsertAt
  exact Ends.next (State.asWrite_evolves h (fun a0 k1 => (State.ascInsertAt_evolves k1)))

theorem execSetv_evolves {s0 : State} {m : Master} {a : ArrayWin} {v : Word} {s : State} (h : Evolves s0 s) :
    Ends s0 (execSetv m a v s) := by
  unfold execSetv
  exact Ends.next (State.asWrite_evolves h (fun a0 k1 => (State.ascCmd_evolves k1 (fun a2 a3 a4 k5 => (State.ascSetv_evolves k5)))))

theorem execAscDelete_evolves {s0 : State} {m : Master} {a : ArrayWin} {v : Word} {s : State} (h : Evolves s0 s) :
    Ends s0 (execAscDelete m a v s) := by
  unfold execAscDelete
  exact Ends.next (State.asWrite_evolves h (fun a0 k1 => (State.ascCmd_evolves k1 (fun a2 a3 a4 k5 => (State.ascDelete_evolves k5)))))

theorem execAscUpdate_evolves {s0 : State} {m : Master} {a : ArrayWin} {v : Word} {s : State} (h : Evolves s0 s) :
    Ends s0 (execAscUpdate m a v s) := by
  unfold execAscUpdate
  exact Ends.next (State.asWrite_evolves h (fun a0 k1 => (State.ascCmd_evolves k1 (fun a2 a3 a4 k5 => (State.ascUpdate_evolves k5)))))

theorem execAscMove_evolves {s0 : State} {m : Master} {a : ArrayWin} {v : Word} {s : State} (h : Evolves s0 s) :
    Ends s0 (execAscMove m a v s) := by
  unfold execAscMove
  exact Ends.next (State.asWrite_evolves h (fun a0 k1 => (State.ascMoveCmd_evolves k1)))

theorem execAscSearch_evolves {s0 : State} {m : Master} {a : ArrayWin} {v : Word} {s : State} (h : Evolves s0 s) :
    Ends s0 (execAscSearch m a v s) := by
  unfold execAscSearch
  exact Ends.next (State.asWrite_evolves h (fun a0 k1 => (State.ascCmd_evolves k1 (fun a2 a3 a4 k5 => (State.ascSearchCmd_evolves k5)))))

theorem State.clearMoving_evolves {s0 : State} {s : State} {a : ArrayRef} {l : List Nat} (h : Evolves s0 s) :
    Evolves s0 (State.clearMoving s a l) := by
  unfold State.clearMoving
  exact (foldl_evolves _ (fun a0 a1 k2 => (State.ascSetWords_evolves k2)) h)

theorem State.ascMoveEnd_evolves {s0 : State} {s : State} {a : ArrayRef} {m : AscMove} {place : Option Nat} (h : Evolves s0 s) :
    Evolves s0 (State.ascMoveEnd s a m place) := by
  unfold State.ascMoveEnd
  extract_lets x0 x1 x2
  have k3 : Evolves s0 x1 := (State.ascMoved_evolves (State.ascBusy_evolves (State.setArr_evolves h)))
  have k4 : Evolves s0 x2 := by
    subst x2
    split
    · exact (State.setWinIndex_evolves k3)
    · exact k3
  exact (State.raise_evolves (State.winEnd_evolves k4))

theorem State.moverSlot_evolves {s0 : State} {s : State} {a : ArrayRef} {m : AscMove} (h : Evolves s0 s) :
    Evolves s0 (State.moverSlot s a m) := by
  unfold State.moverSlot
  split
  · extract_lets x3 x4 x5 x6 x7 x8 x9
    have k10 : Evolves s0 x5 := (State.ascCopy_evolves h)
    have k11 : Evolves s0 x8 := (State.setArr_evolves k10)
    have k12 : Evolves s0 x9 := (State.clearMoving_evolves k11)
    split
    · split
      · exact k12
      · exact (State.ascMoveEnd_evolves (State.ascPut_evolves k12))
    · exact k11
  · split
    · exact (State.ascMoveEnd_evolves (State.ascPut_evolves h))
    · exact (State.ascMoveEnd_evolves h)

theorem execMoverCopy_evolves {s0 : State} {a : ArrayRef} {s : State} (h : Evolves s0 s) :
    Ends s0 (execMoverCopy a s) := by
  unfold execMoverCopy
  split
  · exact Ends.next (State.moverSlot_evolves h)
  · exact Ends.next h

theorem execScrubRewrite_evolves {s0 : State} {a : ArrayRef} {s : State} (h : Evolves s0 s) :
    Ends s0 (execScrubRewrite a s) := by
  unfold execScrubRewrite
  split
  · exact Ends.next (State.rewriteNext_evolves h)
  · exact Ends.next h

theorem execSlotSteal_evolves {s0 : State} {a : ArrayRef} {s : State} (h : Evolves s0 s) :
    Ends s0 (execSlotSteal a s) := by
  unfold execSlotSteal
  extract_lets x0 x1
  have k2 : Evolves s0 x1 := (State.bump_evolves (State.setArr_evolves h))
  split
  · split
    · exact Ends.next (State.rewriteNext_evolves k2)
    · exact Ends.next (State.ascNext_evolves k2)
    · exact Ends.next (State.moverSlot_evolves k2)
    · exact Ends.next k2
  · exact Ends.next h

theorem State.scrubParity_evolves {s0 : State} {s : State} {a : ArrayRef} {line : Nat} (h : Evolves s0 s) :
    Evolves s0 (State.scrubParity s a line) := by
  unfold State.scrubParity
  refine foldl_evolves _ ?_ ?_
  · intro a3 a4 k5
    extract_lets x6
    split
    · exact (State.raise_evolves (State.setRbit_evolves (State.wr_evolves (State.ascSetWords_evolves k5))))
    · exact k5
  · exact h

theorem execScrubLine_evolves {s0 : State} {a : ArrayRef} {s : State} (h : Evolves s0 s) :
    Ends s0 (execScrubLine a s) := by
  unfold execScrubLine
  extract_lets x0
  split
  · clear_value x0
    split
    · exact Ends.next h
    · extract_lets x5 x6 x7 x8 x9
      have k10 : Evolves s0 x5 := (State.scrubParity_evolves h)
      have k11 : Evolves s0 x6 := by
        subst x6
        split
        · exact (State.raise_evolves (State.bump_evolves (State.rewriteLine_evolves k10)))
        · exact k10
      have k14 : Evolves s0 x9 := (State.setArr_evolves k11)
      refine Ends.next ?_
      split
      · exact (State.wr_evolves k14)
      · exact k14
  · exact Ends.next h

end Sys2Proof.Machine
end

