-- ==== Sys2Proof/Laws/Learn.lean ====
section
/-! SUPPORT. Every operation of `Sys2Proof/Machine/Learn.lean` only evolves the state (`Evolves`), one lemma per operation. -/

namespace Sys2Proof.Machine

theorem State.setLrn_evolves {s0 : State} {s : State} {r : Nat} {x : LearnSt} (h : Evolves s0 s) :
    Evolves s0 (State.setLrn s r x) := by
  unfold State.setLrn
  extract_lets x0
  exact (fwdUpd_evolves h)

theorem State.lrnPut_evolves {s0 : State} {s : State} {r : Nat} {loc : Nat} {e : Nat} (h : Evolves s0 s) :
    Evolves s0 (State.lrnPut s r loc e) := by
  unfold State.lrnPut
  extract_lets x0 x1 x2
  have k3 : Evolves s0 x2 := (State.setTabN_evolves h)
  split
  · exact k3
  · split
    · exact (State.setFld_evolves k3)
    · exact (State.setFld_evolves k3)

theorem State.lrnPlace_evolves {s0 : State} {s : State} {r : Nat} {e : Nat} {p : Nat} {moves : List (Nat × Nat)} (h : Evolves s0 s) :
    Evolves s0 (State.lrnPlace s r e p moves) := by
  unfold State.lrnPlace
  exact (State.lrnPut_evolves (foldl_evolves _ (fun a0 a1 k2 => (State.lrnPut_evolves (State.lrnPut_evolves k2))) h))

theorem State.lrnNote_evolves {s0 : State} {s : State} {r : Nat} {type : Nat} {bd : Nat} {mac : Nat} {dest : Nat} {slice : Nat} (h : Evolves s0 s) :
    Evolves s0 (State.lrnNote s r type bd mac dest slice) := by
  unfold State.lrnNote
  extract_lets x0 x1
  split
  · exact (State.setLrn_evolves h)
  · exact h

theorem State.lrnDrop_evolves {s0 : State} {s : State} {r : Nat} {reason : Nat} (h : Evolves s0 s) :
    Evolves s0 (State.lrnDrop s r reason) := by
  unfold State.lrnDrop
  exact (State.bump_evolves h)

theorem State.lrnEvt_evolves {s0 : State} {s : State} {r : Nat} {e : Nat} (h : Evolves s0 s) :
    Evolves s0 (State.lrnEvt s r e) := by
  unfold State.lrnEvt
  exact (State.bump_evolves h)

theorem State.lrnRequest_evolves {s0 : State} {s : State} {r : Nat} {q : LrnReq} (h : Evolves s0 s) :
    Evolves s0 (State.lrnRequest s r q) := by
  unfold State.lrnRequest
  extract_lets x0
  split
  · exact (State.lrnDrop_evolves h)
  · split
    · exact (State.setLrn_evolves h)
    · split
      · exact (State.raise_evolves (State.lrnDrop_evolves h))
      · exact (State.setLrn_evolves h)

theorem State.lrnMoveAt_evolves {s0 : State} {s : State} {r : Nat} {p : Nat} {dest : Nat} {slice : Nat} (h : Evolves s0 s) :
    Evolves s0 (State.lrnMoveAt s r p dest slice) := by
  unfold State.lrnMoveAt
  extract_lets x0
  split
  · exact h
  · split
    · exact (State.lrnPut_evolves h)
    · split
      · exact (State.lrnNote_evolves (State.lrnEvt_evolves (State.lrnPut_evolves h)))
      · exact h

theorem State.lrnLearn_evolves {s0 : State} {s : State} {r : Nat} {bd : Nat} {mac : Nat} {dest : Nat} {slice : Nat} (h : Evolves s0 s) :
    Evolves s0 (State.lrnLearn s r bd mac dest slice) := by
  unfold State.lrnLearn
  split
  · exact (State.lrnMoveAt_evolves h)
  · split
    · exact (State.lrnNote_evolves (State.lrnEvt_evolves (State.lrnPlace_evolves h)))
    · exact (State.lrnNote_evolves (State.raise_evolves (State.lrnDrop_evolves h)))

theorem State.lrnRefuse_evolves {s0 : State} {s : State} {r : Nat} {reason : Nat} (h : Evolves s0 s) :
    Evolves s0 (State.lrnRefuse s r reason).2 := by
  unfold State.lrnRefuse
  exact (State.setFld_evolves h)

theorem State.lrnFwInsert_evolves {s0 : State} {s : State} {r : Nat} {e : Nat} (h : Evolves s0 s) :
    Evolves s0 (State.lrnFwInsert s r e).2 := by
  unfold State.lrnFwInsert
  split
  · exact (State.lrnRefuse_evolves h)
  · split
    · exact (State.setWinIndex_evolves (State.lrnPlace_evolves h))
    · exact (State.lrnRefuse_evolves (State.raise_evolves h))

theorem State.lrnFwDelete_evolves {s0 : State} {s : State} {r : Nat} {e : Nat} (h : Evolves s0 s) :
    Evolves s0 (State.lrnFwDelete s r e).2 := by
  unfold State.lrnFwDelete
  split
  · exact (State.setWinIndex_evolves (State.lrnPut_evolves h))
  · exact (State.lrnRefuse_evolves h)

theorem State.lrnFwSearch_evolves {s0 : State} {s : State} {r : Nat} {e : Nat} (h : Evolves s0 s) :
    Evolves s0 (State.lrnFwSearch s r e).2 := by
  unfold State.lrnFwSearch
  split
  · exact (State.setWinIndex_evolves (State.setWinData_evolves h))
  · exact (State.lrnRefuse_evolves h)

theorem execLearnEngine_evolves {s0 : State} {r : Fin 4} {s : State} (h : Evolves s0 s) :
    Ends s0 (execLearnEngine r s) := by
  unfold execLearnEngine
  extract_lets x0 x1
  split
  · split
    · exact Ends.next h
    · extract_lets x9
      have k10 : Evolves s0 x9 := (State.setLrn_evolves h)
      split
      · refine Ends.next ?_
        split
        · exact (State.lrnDrop_evolves k10)
        · exact (State.lrnLearn_evolves k10)
      · refine Ends.next ?_
        split
        · exact (State.lrnDrop_evolves k10)
        · exact (State.lrnLearn_evolves k10)
      · exact Ends.next (State.winEnd_evolves (State.lrnFwInsert_evolves k10))
      · exact Ends.next (State.winEnd_evolves (State.lrnFwDelete_evolves k10))
      · exact Ends.next (State.winEnd_evolves (State.lrnFwSearch_evolves k10))
      · split
        · exact Ends.next h
        · exact Ends.next (State.setRbit_evolves (State.winEnd_evolves (State.setLrn_evolves k10)))
  · exact Ends.next h

theorem State.lrnCmd_evolves {s0 : State} {s : State} {r : Nat} {v : Nat} {q : State → LrnReq} (h : Evolves s0 s) :
    Evolves s0 (State.lrnCmd s r v q) := by
  unfold State.lrnCmd
  extract_lets x0
  refine State.winStart_evolves ?_ ?_
  · exact h
  · intro a3 k4
    extract_lets x5
    split
    · exact (State.wr_evolves (State.setLrn_evolves k4))
    · exact (State.winEnd_evolves k4)

theorem execLrnInsert_evolves {s0 : State} {m : Master} {r : Fin 4} {v : Word} {s : State} (h : Evolves s0 s) :
    Ends s0 (execLrnInsert m r v s) := by
  unfold execLrnInsert
  exact Ends.next (State.asWrite_evolves h (fun a0 k1 => (State.lrnCmd_evolves k1)))

theorem execLrnDelete_evolves {s0 : State} {m : Master} {r : Fin 4} {v : Word} {s : State} (h : Evolves s0 s) :
    Ends s0 (execLrnDelete m r v s) := by
  unfold execLrnDelete
  exact Ends.next (State.asWrite_evolves h (fun a0 k1 => (State.lrnCmd_evolves k1)))

theorem execLrnSearch_evolves {s0 : State} {m : Master} {r : Fin 4} {v : Word} {s : State} (h : Evolves s0 s) :
    Ends s0 (execLrnSearch m r v s) := by
  unfold execLrnSearch
  exact Ends.next (State.asWrite_evolves h (fun a0 k1 => (State.lrnCmd_evolves k1)))

theorem execFlush_evolves {s0 : State} {m : Master} {r : Fin 4} {v : Word} {s : State} (h : Evolves s0 s) :
    Ends s0 (execFlush m r v s) := by
  unfold execFlush
  exact Ends.next (State.asWrite_evolves h (fun a0 k1 => (State.lrnCmd_evolves k1)))

theorem execFlushDone_evolves {s0 : State} {r : Fin 4} {s : State} (h : Evolves s0 s) :
    Ends s0 (execFlushDone r s) := by
  unfold execFlushDone
  split
  · extract_lets x5 x6 x7
    have k8 : Evolves s0 x6 := (foldl_evolves _ (fun a9 a10 k11 => (State.lrnPut_evolves k11)) h)
    exact Ends.next (State.raise_evolves (State.setRbit_evolves (State.setLrn_evolves k8)))
  · exact Ends.next h

theorem lrnTable_keeps {r : Nat} :
    WinTable.Keeps (lrnTable r) := by
  unfold lrnTable
  constructor
  · intro s0 s0 i1 m2 w3 k4
    dsimp only
    exact (State.lrnPut_evolves k4)
  · intro s0 s5 i6 m7 k9
    dsimp only
    exact (State.lrnPut_evolves k9)

theorem State.lrnCtrlWrite_evolves {s0 : State} {s : State} {r : Nat} {v : Nat} (h : Evolves s0 s) :
    Evolves s0 (State.lrnCtrlWrite s r v) := by
  unfold State.lrnCtrlWrite
  extract_lets x0 x1
  have k2 : Evolves s0 x0 := (State.setRbit_evolves (State.wr_evolves h))
  split
  · exact (fwdUpd_evolves k2)
  · exact k2

theorem State.ageSuspendWrite_evolves {s0 : State} {s : State} {v : Nat} (h : Evolves s0 s) :
    Evolves s0 (State.ageSuspendWrite s v) := by
  unfold State.ageSuspendWrite
  extract_lets x0 x1
  have k2 : Evolves s0 x0 := (State.wr_evolves h)
  split
  · exact (fwdUpd_evolves k2)
  · exact k2

theorem State.setSweep_evolves {s0 : State} {s : State} {t : AgeTable} {x : Option Sweep} (h : Evolves s0 s) :
    Evolves s0 (State.setSweep s t x) := by
  unfold State.setSweep
  extract_lets x0
  exact (fwdUpd_evolves h)

theorem execAgingSweepStart_evolves {s0 : State} {t : AgeTable} {s : State} (h : Evolves s0 s) :
    Ends s0 (execAgingSweepStart t s) := by
  unfold execAgingSweepStart
  extract_lets x0 x1 x2 x3
  have k4 : Evolves s0 x3 := (fwdUpd_evolves h)
  split
  · refine Ends.next ?_
    split
    · exact k4
    · exact (State.setSweep_evolves k4)
  · exact Ends.next h

theorem State.ageLearned_evolves {s0 : State} {s : State} {r : Nat} {loc : Nat} (h : Evolves s0 s) :
    Evolves s0 (State.ageLearned s r loc) := by
  unfold State.ageLearned
  extract_lets x0
  split
  · split
    · exact (State.lrnPut_evolves h)
    · exact (State.lrnNote_evolves (State.lrnEvt_evolves (State.lrnPut_evolves h)))
  · exact h

theorem State.ageEm_evolves {s0 : State} {s : State} {t : Nat} {loc : Nat} (h : Evolves s0 s) :
    Evolves s0 (State.ageEm s t loc) := by
  unfold State.ageEm
  split
  · split
    · exact (State.setEmHit_evolves h)
    · exact (State.bump_evolves (State.emFree_evolves h))
  · exact h

theorem execAgingVisit_evolves {s0 : State} {t : AgeTable} {s : State} (h : Evolves s0 s) :
    Ends s0 (execAgingVisit t s) := by
  unfold execAgingVisit
  split
  · extract_lets x3
    have k4 : Evolves s0 x3 := (State.setSweep_evolves h)
    split
    · exact Ends.next (State.setSweep_evolves h)
    · split
      · exact Ends.next (State.setSweep_evolves h)
      · split
        · split
          · exact Ends.next (State.ageLearned_evolves k4)
          · exact Ends.next (State.ageEm_evolves k4)
        · exact Ends.next h
  · exact Ends.next h

end Sys2Proof.Machine
end

