-- ==== Sys2Proof/Laws/Line.lean ====
section
/-! SUPPORT. Every operation of `Sys2Proof/Machine/Line.lean` only evolves the state (`Evolves`), one lemma per operation. -/

namespace Sys2Proof.Machine

theorem State.setPort_evolves {s0 : State} {s : State} {p : Nat} {x : PortSt} (h : Evolves s0 s) :
    Evolves s0 (State.setPort s p x) := by
  unfold State.setPort
  extract_lets x0
  exact (lineUpd_evolves h)

theorem State.setCage_evolves {s0 : State} {s : State} {c : Nat} {x : CageSt} (h : Evolves s0 s) :
    Evolves s0 (State.setCage s c x) := by
  unfold State.setCage
  extract_lets x0
  exact (lineUpd_evolves h)

theorem State.portDark_evolves {s0 : State} {s : State} {p : Nat} {bits : Nat} (h : Evolves s0 s) :
    Evolves s0 (State.portDark s p bits) := by
  unfold State.portDark
  extract_lets x0 x1
  have k2 : Evolves s0 x0 := (foldl_evolves _ (fun a3 a4 k5 => (State.setFld_evolves k5)) h)
  exact (State.setFld_evolves (State.setRbit_evolves k2))

theorem State.setPortState_evolves {s0 : State} {s : State} {p : Nat} {x : PortState} (h : Evolves s0 s) :
    Evolves s0 (State.setPortState s p x) := by
  unfold State.setPortState
  extract_lets x0 x1 x2 x3 x4 x5 x6
  have k7 : Evolves s0 x3 := (State.setFld_evolves h)
  have k8 : Evolves s0 x4 := by
    subst x4
    split
    · exact (State.portDark_evolves (State.setRbit_evolves (State.setFld_evolves k7)))
    · exact k7
  have k11 : Evolves s0 x5 := (State.setRbit_evolves k8)
  have k12 : Evolves s0 x6 := (State.setRbit_evolves k11)
  exact (State.raiseIf_evolves k12)

theorem State.portCount_evolves {s0 : State} {s : State} {p : Nat} {i : Nat} {n : Nat} (h : Evolves s0 s) :
    Evolves s0 (State.portCount s p i n) := by
  unfold State.portCount
  extract_lets x0 x1 x2 x3 x4
  have k5 : Evolves s0 x4 := (State.wr64_evolves h)
  split
  · exact h
  · split
    · exact (State.raise_evolves (State.setRbit_evolves k5))
    · exact k5

theorem State.toPipe_evolves {s0 : State} {s : State} {p : Nat} {k : Pkt} (h : Evolves s0 s) :
    Evolves s0 (State.toPipe s p k) := by
  unfold State.toPipe
  extract_lets x0 x1 x2 x3
  have k4 : Evolves s0 x2 := (State.setPort_evolves h)
  exact (pipesUpd_evolves k4)

theorem State.portDisable_evolves {s0 : State} {s : State} {p : Nat} {rx : Option RxPart} (h : Evolves s0 s) :
    Evolves s0 (State.portDisable s p rx) := by
  unfold State.portDisable
  extract_lets x0 x1 x2 x3 x4
  have k5 : Evolves s0 x0 := (State.portCount_evolves h)
  have k6 : Evolves s0 x2 := by
    subst x2
    split
    · split
      · exact (State.toPipe_evolves k5)
      · exact k5
    · exact h
  have k12 : Evolves s0 x4 := (State.setPort_evolves k6)
  exact (State.setPortState_evolves (State.setRbit_evolves k12))

theorem State.sleepWrite_evolves {s0 : State} {s : State} {p : Nat} (h : Evolves s0 s) :
    Evolves s0 (State.sleepWrite s p) := by
  unfold State.sleepWrite
  extract_lets x0
  split
  · exact (State.setPortState_evolves (State.setPort_evolves h))
  · exact (State.emit_evolves (State.setPortState_evolves (State.setPort_evolves h)))
  · exact (State.setPort_evolves h)
  · exact (State.setPort_evolves h)
  · exact h

theorem State.wakeWrite_evolves {s0 : State} {s : State} {p : Nat} (h : Evolves s0 s) :
    Evolves s0 (State.wakeWrite s p) := by
  unfold State.wakeWrite
  extract_lets x0
  split
  · exact (State.setPort_evolves h)
  · exact (State.setPort_evolves h)

theorem State.portStart_evolves {s0 : State} {s : State} {p : Nat} (h : Evolves s0 s) :
    Evolves s0 (State.portStart s p) := by
  unfold State.portStart
  extract_lets x0 x1
  have k2 : Evolves s0 x0 := (State.setFld_evolves h)
  split
  · exact (State.setPortState_evolves h)
  · split
    · exact (State.emit_evolves (State.setPortState_evolves (State.setPort_evolves k2)))
    · exact (State.emit_evolves (State.setPortState_evolves k2))

theorem State.portCfgWrite_evolves {s0 : State} {s : State} {p : Nat} {v : Nat} {rx : Option RxPart} (h : Evolves s0 s) :
    Evolves s0 (State.portCfgWrite s p v rx) := by
  unfold State.portCfgWrite
  extract_lets x0 x1 x2 x3
  have k4 : Evolves s0 x1 := by
    subst x1
    split
    · exact (State.portDisable_evolves h)
    · exact h
  have k7 : Evolves s0 x2 := (State.wr_evolves k4)
  have k8 : Evolves s0 x3 := by
    subst x3
    split
    · exact (State.sleepWrite_evolves k7)
    · exact (State.wakeWrite_evolves k7)
  split
  · split
    · exact (State.portStart_evolves k8)
    · exact k8
  · exact (State.raise_evolves h)

theorem execPortCfgWrite_evolves {s0 : State} {m : Master} {p : Fin 64} {v : Word} {s : State} (h : Evolves s0 s) :
    Ends s0 (execPortCfgWrite m p v s) := by
  unfold execPortCfgWrite
  exact Ends.next (State.asWrite_evolves h (fun a0 k1 => (State.portCfgWrite_evolves k1)))

theorem execPortDisable_evolves {s0 : State} {m : Master} {p : Fin 64} {v : Word} {rx : Option RxPart} {s : State} (h : Evolves s0 s) :
    Ends s0 (execPortDisable m p v rx s) := by
  unfold execPortDisable
  exact Ends.next (State.asWrite_evolves h (fun a0 k1 => (State.portCfgWrite_evolves k1)))

theorem execPortSleep_evolves {s0 : State} {m : Master} {p : Fin 64} {v : Word} {s : State} (h : Evolves s0 s) :
    Ends s0 (execPortSleep m p v s) := by
  unfold execPortSleep
  exact Ends.next (State.asWrite_evolves h (fun a0 k1 => (State.portCfgWrite_evolves k1)))

theorem execPortWakeWrite_evolves {s0 : State} {m : Master} {p : Fin 64} {v : Word} {s : State} (h : Evolves s0 s) :
    Ends s0 (execPortWakeWrite m p v s) := by
  unfold execPortWakeWrite
  exact Ends.next (State.asWrite_evolves h (fun a0 k1 => (State.portCfgWrite_evolves k1)))

theorem State.octRateWrite_evolves {s0 : State} {s : State} {o : Nat} {v : Nat} (h : Evolves s0 s) :
    Evolves s0 (State.octRateWrite s o v) := by
  unfold State.octRateWrite
  extract_lets x0
  split
  · exact (State.raise_evolves h)
  · exact (State.wr_evolves h)

theorem execOctRateWrite_evolves {s0 : State} {m : Master} {o : Fin 8} {v : Word} {s : State} (h : Evolves s0 s) :
    Ends s0 (execOctRateWrite m o v s) := by
  unfold execOctRateWrite
  exact Ends.next (State.asWrite_evolves h (fun a0 k1 => (State.octRateWrite_evolves k1)))

theorem State.maxlenWrite_evolves {s0 : State} {s : State} {p : Nat} {v : Nat} (h : Evolves s0 s) :
    Evolves s0 (State.maxlenWrite s p v) := by
  unfold State.maxlenWrite
  split
  · exact (State.wr_evolves h)
  · exact (State.raise_evolves h)

theorem execMaxlenWrite_evolves {s0 : State} {m : Master} {p : Fin 64} {v : Word} {s : State} (h : Evolves s0 s) :
    Ends s0 (execMaxlenWrite m p v s) := by
  unfold execMaxlenWrite
  exact Ends.next (State.asWrite_evolves h (fun a0 k1 => (State.maxlenWrite_evolves k1)))

theorem State.portAligned_evolves {s0 : State} {s : State} {p : Nat} (h : Evolves s0 s) :
    Evolves s0 (State.portAligned s p) := by
  unfold State.portAligned
  extract_lets x0 x1 x2 x3
  have k4 : Evolves s0 x2 := (foldl_evolves _ (fun a5 a6 k7 => (State.setFld_evolves k7)) h)
  exact (State.setFld_evolves (State.setRbit_evolves (State.setFld_evolves k4)))

theorem execPortUp_evolves {s0 : State} {p : Fin 64} {s : State} (h : Evolves s0 s) :
    Ends s0 (execPortUp p s) := by
  unfold execPortUp
  extract_lets x0
  split
  · exact Ends.next (State.setPortState_evolves (State.portAligned_evolves h))
  · exact Ends.next (State.setPort_evolves (State.portAligned_evolves h))
  · exact Ends.next h

theorem State.portLossBits_evolves {s0 : State} {s : State} {p : Nat} {why : PortLoss} (h : Evolves s0 s) :
    Evolves s0 (State.portLossBits s p why) := by
  unfold State.portLossBits
  extract_lets x0
  split
  · exact (State.setFld_evolves (State.portDark_evolves h))
  · exact (State.setFld_evolves (State.portAligned_evolves h))
  · exact (State.setFld_evolves (State.portAligned_evolves h))

theorem execPortDown_evolves {s0 : State} {p : Fin 64} {why : PortLoss} {s : State} (h : Evolves s0 s) :
    Ends s0 (execPortDown p why s) := by
  unfold execPortDown
  extract_lets x0 x1
  have k2 : Evolves s0 x0 := (State.portLossBits_evolves h)
  split
  · exact Ends.next (State.emit_evolves (State.setPortState_evolves (State.portLossBits_evolves h)))
  · exact Ends.next (State.emit_evolves (State.portLossBits_evolves h))
  · split
    · exact Ends.next k2
    · exact Ends.next (State.raise_evolves (State.setPort_evolves k2))
  · exact Ends.next h

theorem execAnFail_evolves {s0 : State} {p : Fin 64} {s : State} (h : Evolves s0 s) :
    Ends s0 (execAnFail p s) := by
  unfold execAnFail
  split
  · exact Ends.next (State.raise_evolves (State.setRbit_evolves h))
  · exact Ends.next h

theorem State.pausedBit_evolves {s0 : State} {s : State} {p : Nat} (h : Evolves s0 s) :
    Evolves s0 (State.pausedBit s p) := by
  unfold State.pausedBit
  exact (State.setRbit_evolves h)

theorem State.pauseSet_evolves {s0 : State} {s : State} {p : Nat} {i : Nat} {quanta : Nat} (h : Evolves s0 s) :
    Evolves s0 (State.pauseSet s p i quanta) := by
  unfold State.pauseSet
  extract_lets x0 x1
  exact (State.pausedBit_evolves (State.setPort_evolves h))

theorem execPauseExpiry_evolves {s0 : State} {p : Fin 64} {i : Fin 9} {s : State} (h : Evolves s0 s) :
    Ends s0 (execPauseExpiry p i s) := by
  unfold execPauseExpiry
  extract_lets x0
  split
  · split
    · exact Ends.next (State.pausedBit_evolves (State.setPort_evolves h))
    · exact Ends.next h
  · exact Ends.next h

theorem State.cntClear_evolves {s0 : State} {s : State} {p : Nat} (h : Evolves s0 s) :
    Evolves s0 (State.cntClear s p) := by
  unfold State.cntClear
  exact (foldl_evolves _ (fun a0 a1 k2 => (State.wr_evolves k2)) h)

theorem execPortCntClr_evolves {s0 : State} {m : Master} {p : Fin 64} {v : Word} {s : State} (h : Evolves s0 s) :
    Ends s0 (execPortCntClr m p v s) := by
  unfold execPortCntClr
  refine Ends.next ?_
  refine State.asWrite_evolves ?_ ?_
  · exact h
  · intro a4 k5
    split
    · exact (State.cntClear_evolves k5)
    · exact k5

theorem State.wakeCount_evolves {s0 : State} {s : State} {p : Nat} {half : Nat} (h : Evolves s0 s) :
    Evolves s0 (State.wakeCount s p half) := by
  unfold State.wakeCount
  split
  · exact h
  · exact (State.setFld_evolves h)

theorem execWakeMatch_evolves {s0 : State} {p : Fin 64} {frame : List Byte} {s : State} (h : Evolves s0 s) :
    Ends s0 (execWakeMatch p frame s) := by
  unfold execWakeMatch
  extract_lets x0
  split
  · exact Ends.next (State.wakeCount_evolves (State.setPort_evolves h))
  · exact Ends.next h

theorem execWakeComplete_evolves {s0 : State} {p : Fin 64} {s : State} (h : Evolves s0 s) :
    Ends s0 (execWakeComplete p s) := by
  unfold execWakeComplete
  extract_lets x0 x1
  have k2 : Evolves s0 x1 := (State.setPort_evolves h)
  split
  · exact Ends.next (State.raise_evolves (State.setPortState_evolves k2))
  · exact Ends.next h

theorem modEvt_evolves {s0 : State} {s : State} {c : Nat} (h : Evolves s0 s) :
    Evolves s0 (modEvt s c) := by
  unfold modEvt
  exact (State.setRbit_evolves h)

theorem State.cagePorts_evolves {s0 : State} {s : State} {c : Nat} (h : Evolves s0 s) :
    Evolves s0 (State.cagePorts s c) := by
  unfold State.cagePorts
  extract_lets x0 x1
  refine foldl_evolves _ ?_ ?_
  · intro a5 a6 k7
    extract_lets x8
    split
    · split
      · split
        · exact k7
        · exact (State.setPortState_evolves (State.setPort_evolves k7))
      · split
        · exact (State.portStart_evolves k7)
        · exact k7
    · exact k7
  · exact h

theorem State.cageHold_evolves {s0 : State} {s : State} {c : Nat} {held : Bool} (h : Evolves s0 s) :
    Evolves s0 (State.cageHold s c held) := by
  unfold State.cageHold
  extract_lets x0
  exact (State.cagePorts_evolves (State.setCage_evolves h))

theorem State.modFlags_evolves {s0 : State} {s : State} {c : Nat} {flags : Nat} (h : Evolves s0 s) :
    Evolves s0 (State.modFlags s c flags) := by
  unfold State.modFlags
  extract_lets x0 x1 x2
  split
  · exact h
  · exact (State.raise_evolves (modEvt_evolves (State.wr_evolves h)))

theorem State.modAccSelect_evolves {s0 : State} {s : State} {v : Nat} (h : Evolves s0 s) :
    Evolves s0 (State.modAccSelect s v) := by
  unfold State.modAccSelect
  extract_lets x0 x1
  split
  · exact (State.emit_evolves (State.emit_evolves h))
  · exact h

theorem State.modAccStart_evolves {s0 : State} {s : State} {v : Nat} {write : Bool} (h : Evolves s0 s) :
    Evolves s0 (State.modAccStart s v write) := by
  unfold State.modAccStart
  extract_lets x0 x1 x2
  have k3 : Evolves s0 x0 := (State.wr_evolves h)
  have k4 : Evolves s0 x1 := (State.setFld_evolves k3)
  split
  · exact (State.raise_evolves (State.setFld_evolves h))
  · split
    · exact (State.raise_evolves (State.setFld_evolves k4))
    · split
      · exact (State.raise_evolves (State.setFld_evolves k4))
      · exact (State.modAccSelect_evolves (State.setRbit_evolves (lineUpd_evolves k4)))

theorem execModAccRead_evolves {s0 : State} {m : Master} {v : Word} {s : State} (h : Evolves s0 s) :
    Ends s0 (execModAccRead m v s) := by
  unfold execModAccRead
  exact Ends.next (State.asWrite_evolves h (fun a0 k1 => (State.modAccStart_evolves k1)))

theorem State.modAccSend_evolves {s0 : State} {s : State} (h : Evolves s0 s) :
    Evolves s0 (State.modAccSend s) := by
  unfold State.modAccSend
  extract_lets x0
  exact (State.emit_evolves h)

theorem execModAccWrite_evolves {s0 : State} {m : Master} {v : Word} {s : State} (h : Evolves s0 s) :
    Ends s0 (execModAccWrite m v s) := by
  unfold execModAccWrite
  refine Ends.next ?_
  refine State.asWrite_evolves ?_ ?_
  · exact h
  · intro a4 k5
    extract_lets x6
    have k7 : Evolves s0 x6 := (State.modAccStart_evolves k5)
    split
    · exact (State.modAccSend_evolves k7)
    · exact k7

theorem State.putArray_evolves {s0 : State} {s : State} {a : Nat} {l : List Byte} (h : Evolves s0 s) :
    Evolves s0 (State.putArray s a l) := by
  unfold State.putArray
  exact (foldl_evolves _ (fun a0 a1 k2 => (State.setFld_evolves k2)) h)

end Sys2Proof.Machine
end

