-- ==== Sys2Proof/Laws/Forward.lean ====
section
/-! SUPPORT. Every operation of `Sys2Proof/Machine/Forward.lean` only evolves the state (`Evolves`), one lemma per operation. -/

namespace Sys2Proof.Machine

theorem State.dropPkt_evolves {s0 : State} {s : State} {k : Pkt} (h : Evolves s0 s) :
    Evolves s0 (State.dropPkt s k) := by
  unfold State.dropPkt
  exact (State.inflSub_evolves h)

theorem State.ingressTake_evolves {s0 : State} {s : State} {i : Nat} {k : Pkt} {stamp : Bool} (h : Evolves s0 s) :
    Evolves s0 (State.ingressTake s i k stamp) := by
  unfold State.ingressTake
  extract_lets x0 x1 x2
  have k3 : Evolves s0 x1.2 := by
    subst x1
    split
    · exact (State.inflAdd_evolves h)
    · exact (State.meetPkt_evolves h)
  exact (State.setPipe_evolves k3)

theorem execIngressAccept_evolves {s0 : State} {i : Fin 16} {s : State} (h : Evolves s0 s) :
    Ends s0 (execIngressAccept i s) := by
  unfold execIngressAccept
  extract_lets x0 x1
  split
  · split
    · extract_lets x7
      have k8 : Evolves s0 x7 := (State.setPipe_evolves h)
      split
      · exact Ends.next (State.raise_evolves (State.bump_evolves k8))
      · exact Ends.next (State.ingressTake_evolves k8)
    · split
      · exact Ends.next h
      · split
        · split
          · exact Ends.next (State.ingressTake_evolves (State.setPipe_evolves h))
          · exact Ends.next h
        · split
          · exact Ends.next (State.ingressTake_evolves (State.setPipe_evolves h))
          · exact Ends.next h
        · split
          · exact Ends.next (State.ingressTake_evolves (State.setPipe_evolves h))
          · exact Ends.next h
        · exact Ends.next h
  · exact Ends.next h

theorem State.statCount_evolves {s0 : State} {s : State} {k : Pkt} {idx : Nat} (h : Evolves s0 s) :
    Evolves s0 (State.statCount s k idx) := by
  unfold State.statCount
  extract_lets x0 x1 x2 x3
  split
  · exact h
  · exact (State.setTabN_evolves h)

theorem State.indRead_evolves {s0 : State} {s : State} {i : Nat} {k : Pkt} {n : Nat} {kind : Nat} (h : Evolves s0 s) :
    Evolves s0 (State.indRead s i k n kind).2 := by
  unfold State.indRead
  extract_lets x0
  split
  · exact h
  · exact (State.raise_evolves (State.bump_evolves h))

theorem State.sliceQp_evolves {s0 : State} {s : State} {i : Nat} {k : Pkt} {slice : Nat} (h : Evolves s0 s) :
    Evolves s0 (State.sliceQp s i k slice).2 := by
  unfold State.sliceQp
  extract_lets x0 x1 x2
  have k3 : Evolves s0 x2.2 := (State.indRead_evolves h)
  split
  · exact k3
  · exact h

theorem State.nhInvalid_evolves {s0 : State} {s : State} (h : Evolves s0 s) :
    Evolves s0 (State.nhInvalid s) := by
  unfold State.nhInvalid
  exact (State.raise_evolves (State.bump_evolves h))

theorem State.toSysPort_evolves {s0 : State} {s : State} {k : Pkt} {port : Nat} {tc : Nat} {rewrite : Nat} (h : Evolves s0 s) :
    Evolves s0 (State.toSysPort s k port tc rewrite).2 := by
  unfold State.toSysPort
  split
  · exact (State.nhInvalid_evolves h)
  · exact h

theorem State.toSlice_evolves {s0 : State} {s : State} {i : Nat} {k : Pkt} {slice : Nat} {tc : Nat} {rewrite : Nat} (h : Evolves s0 s) :
    Evolves s0 (State.toSlice s i k slice tc rewrite).2 := by
  unfold State.toSlice
  extract_lets x0
  have k1 : Evolves s0 x0.2 := (State.sliceQp_evolves h)
  exact k1

theorem State.useNextHop_evolves {s0 : State} {s : State} {i : Nat} {k : Pkt} {c : LookCtx} {n : Nat} (h : Evolves s0 s) :
    Evolves s0 (State.useNextHop s i k c n).2 := by
  unfold State.useNextHop
  extract_lets x0 x1 x2 x3 x4
  have k5 : Evolves s0 x1 := by
    subst x1
    split
    · exact (State.statCount_evolves h)
    · exact h
  split
  · exact (State.absentDrop_evolves h)
  · split
    · split
      · exact (State.nhInvalid_evolves h)
      · split
        · exact (State.toSysPort_evolves k5)
        · exact k5
        · exact k5
        · exact (State.toSlice_evolves k5)
        · exact k5
    · split
      · exact (State.nhInvalid_evolves h)
      · split
        · exact (State.toSysPort_evolves k5)
        · exact k5
        · exact k5
        · exact (State.toSlice_evolves k5)
        · exact k5

theorem State.ecmpMember_evolves {s0 : State} {s : State} {i : Nat} {k : Pkt} {g : Nat} (h : Evolves s0 s) :
    Evolves s0 (State.ecmpMember s i k g).2 := by
  unfold State.ecmpMember
  extract_lets x0 x1 x2 x3 x4 x5 x6 x7 x8
  have k9 : Evolves s0 x4.2 := (State.indRead_evolves h)
  have k10 : Evolves s0 x5.2 := by
    subst x5
    split
    · split
      · exact k9
      · exact k9
    · exact h
  have k18 : Evolves s0 x6 := k10
  have k19 : Evolves s0 x8.2 := (State.raise_evolves (State.bump_evolves k18))
  split
  · exact k19
  · split
    · exact k18
    · split
      · exact k18
      · exact k19

theorem State.carryOut_evolves {s0 : State} {s : State} {i : Nat} {k : Pkt} {c : LookCtx} {x : Choice} (h : Evolves s0 s) :
    Evolves s0 (State.carryOut s i k c x).2 := by
  unfold State.carryOut
  split
  · exact (State.useNextHop_evolves h)
  · extract_lets x4
    have k5 : Evolves s0 x4.2 := (State.ecmpMember_evolves h)
    split
    · exact (State.absentDrop_evolves h)
    · split
      · exact (State.useNextHop_evolves k5)
      · exact k5
  · exact h
  · exact h
  · extract_lets x18 x19
    have k20 : Evolves s0 x19.2 := (State.indRead_evolves h)
    split
    · exact (State.toSlice_evolves k20)
    · exact (State.toSlice_evolves h)
  · exact (State.toSysPort_evolves h)
  · exact h

theorem State.emPacket_evolves {s0 : State} {s : State} {i : Nat} {k : Pkt} {enBit : Nat} {tabBit : Nat} {maskBit : Nat} (h : Evolves s0 s) :
    Evolves s0 (State.emPacket s i k enBit tabBit maskBit).2 := by
  unfold State.emPacket
  extract_lets x0 x1 x2
  split
  · exact h
  · split
    · exact h
    · extract_lets x10 x11
      have k12 : Evolves s0 x11 := (State.setEmHit_evolves h)
      dsimp only
      split
      · exact (State.statCount_evolves k12)
      · exact k12

theorem State.lookStart_evolves {s0 : State} {s : State} {i : Nat} {k : Pkt} (h : Evolves s0 s) :
    Evolves s0 (State.lookStart s i k).2 := by
  unfold State.lookStart
  extract_lets x0 x1 x2 x3 x4 x5 x6 x7 x8 x9
  have k10 : Evolves s0 x3.2 := (State.emPacket_evolves h)
  have k11 : Evolves s0 x4.2 := (State.emPacket_evolves k10)
  exact k11

theorem State.bridgeSource_evolves {s0 : State} {s : State} {i : Nat} {k : Pkt} {bd : Nat} {learn : Bool} (h : Evolves s0 s) :
    Evolves s0 (State.bridgeSource s i k bd learn) := by
  unfold State.bridgeSource
  extract_lets x0 x1 x2 x3 x4
  split
  · extract_lets x8
    split
    · exact (State.lrnPut_evolves h)
    · split
      · exact (State.lrnRequest_evolves h)
      · exact h
  · split
    · exact (State.lrnRequest_evolves h)
    · exact h

theorem State.bridge_evolves {s0 : State} {s : State} {i : Nat} {k : Pkt} {c : LookCtx} (h : Evolves s0 s) :
    Evolves s0 (State.bridge s i k c).2 := by
  unfold State.bridge
  split
  · exact h
  · extract_lets x5 x6 x7 x8 x9
    have k10 : Evolves s0 x9.2 := by
      subst x9
      split
      · extract_lets x14
        exact h
      · dsimp only
        split
        · exact h
        · exact (State.bump_evolves h)
    split
    · exact h
    · exact (State.bridgeSource_evolves k10)

theorem State.ascIngress_evolves {s0 : State} {s : State} {i : Nat} {k : Pkt} (h : Evolves s0 s) :
    Evolves s0 (State.ascIngress s i k).2 := by
  unfold State.ascIngress
  extract_lets x0 x1 x2 x3
  have k4 : Evolves s0 x3.2 := (State.ascPacket_evolves h)
  split
  · exact h
  · split
    · extract_lets x10 x11
      have k12 : Evolves s0 x11 := by
        subst x11
        split
        · exact (State.statCount_evolves k4)
        · exact k4
      exact k12
    · exact k4
    · exact k4

theorem State.lookEnd_evolves {s0 : State} {s : State} {i : Nat} {k : Pkt} {c : LookCtx} {mode : Option Choice} (h : Evolves s0 s) :
    Evolves s0 (State.lookEnd s i k c mode).2 := by
  unfold State.lookEnd
  extract_lets x0 x1 x2 x3 x4 x5
  have k6 : Evolves s0 x0.2 := (State.ascIngress_evolves h)
  have k7 : Evolves s0 x1 := k6
  have k8 : Evolves s0 x5.2 := (State.carryOut_evolves k7)
  split
  · exact k8
  · exact (State.dropPkt_evolves k8)

theorem State.release_evolves {s0 : State} {s : State} {i : Nat} (h : Evolves s0 s) :
    Evolves s0 (State.release s i) := by
  unfold State.release
  extract_lets x0 x1
  exact (State.setPipe_evolves h)

theorem State.pushReady_evolves {s0 : State} {s : State} {i : Nat} {k : Option Pkt} (h : Evolves s0 s) :
    Evolves s0 (State.pushReady s i k) := by
  unfold State.pushReady
  split
  · extract_lets x2
    exact (State.release_evolves (State.setPipe_evolves h))
  · exact h

theorem State.probeCand_evolves {s0 : State} {s : State} {i : Nat} {v6 : Bool} {vrf : Nat} {addr : Nat} {odd : Bool} {c : Cand} (h : Evolves s0 s) :
    Evolves s0 (State.probeCand s i v6 vrf addr odd c).2 := by
  unfold State.probeCand
  extract_lets x0 x1 x2
  have k3 : Evolves s0 x2 := (State.bump64_evolves h)
  split
  · exact (State.bump64_evolves h)
  · dsimp only
    split
    · exact (State.bump_evolves k3)
    · exact k3

theorem probeCands_evolves {s0 : State} {i : Nat} {v6 : Bool} {vrf : Nat} {addr : Nat} {odd : Bool} {y5 : Nat} {y6 : List Cand} {y7 : State} (h : Evolves s0 y7) :
    Evolves s0 (probeCands i v6 vrf addr odd y5 y6 y7).2.2 := by
  fun_induction probeCands i v6 vrf addr odd y5 y6 y7
  · exact h
  · exact h
  · rename_i v4 v5 v6 v7 v8 v9 e10
    have k11 : Evolves s0 v8.2 := (State.probeCand_evolves h)
    exact k11
  · rename_i v12 v13 v14 v15 v16 e17 e18
    have k19 : Evolves s0 v16.2 := (State.probeCand_evolves h)
    exact (e18 k19)

theorem State.routeLook_evolves {s0 : State} {s : State} {i : Nat} {k : Pkt} {vrf : Nat} (h : Evolves s0 s) :
    Evolves s0 (State.routeLook s i k vrf).2 := by
  unfold State.routeLook
  extract_lets x0 x1 x2 x3 x4
  have k5 : Evolves s0 x0 := (State.bump64_evolves h)
  have k6 : Evolves s0 x4.2.2 := (probeCands_evolves k5)
  split
  · exact (State.bump_evolves k5)
  · split
    · exact k5
    · split
      · exact k6
      · exact k6
      · exact k6

theorem State.modeLook_evolves {s0 : State} {s : State} {i : Nat} {k : Pkt} {c : LookCtx} (h : Evolves s0 s) :
    Evolves s0 (State.modeLook s i k c).2 := by
  unfold State.modeLook
  extract_lets x0 x1 x2 x3
  have k4 : Evolves s0 x3.2 := (State.bridge_evolves h)
  split
  · exact (State.routeLook_evolves h)
  · exact (State.routeLook_evolves h)
  · exact h
  · exact k4
  · exact h

theorem execLookup_evolves {s0 : State} {i : Fin 16} {s : State} (h : Evolves s0 s) :
    Ends s0 (execLookup i s) := by
  unfold execLookup
  split
  · extract_lets x4 x5 x6 x7 x8 x9 x10
    have k11 : Evolves s0 x5 := (State.setPipe_evolves h)
    have k12 : Evolves s0 x6.2 := (State.meetPkt_evolves k11)
    have k13 : Evolves s0 x8.2 := (State.lookStart_evolves k12)
    have k14 : Evolves s0 x9.2 := (State.modeLook_evolves k13)
    split
    · exact Ends.next (State.dropPkt_evolves (State.absentDrop_evolves k11))
    · split
      · extract_lets x20
        have k21 : Evolves s0 x20.2 := (State.lookEnd_evolves k14)
        exact Ends.next (State.pushReady_evolves k21)
      · split
        · exact Ends.next h
        · exact Ends.next (State.raise_evolves (State.bump_evolves (State.setPipe_evolves k14)))
      · split
        · exact Ends.next (State.dropPkt_evolves (State.raise_evolves (State.bump_evolves k14)))
        · exact Ends.next (State.setPipe_evolves k14)
  · exact Ends.next h

theorem State.laneEnd_evolves {s0 : State} {s : State} {i : Nat} {y : LaneEnt} (h : Evolves s0 s) :
    Evolves s0 (State.laneEnd s i y).2 := by
  unfold State.laneEnd
  extract_lets x0 x1 x2 x3 x4 x5 x6
  have k7 : Evolves s0 x0.2 := (State.meetPkt_evolves h)
  have k8 : Evolves s0 x1 := k7
  have k9 : Evolves s0 x6.2.2 := (probeCands_evolves k8)
  split
  · exact (State.lookEnd_evolves k9)
  · exact (State.lookEnd_evolves (State.ueDrop_evolves (State.hbmUeRead_evolves (State.bump64_evolves k9))))
  · exact (State.lookEnd_evolves k9)

theorem execLongProbeLookup_evolves {s0 : State} {i : Fin 16} {s : State} (h : Evolves s0 s) :
    Ends s0 (execLongProbeLookup i s) := by
  unfold execLongProbeLookup
  split
  · extract_lets x5 x6 x7 x8
    have k9 : Evolves s0 x6.2 := (State.laneEnd_evolves (State.setPipe_evolves h))
    exact Ends.next (State.release_evolves (State.setPipe_evolves k9))
  · exact Ends.next h

theorem execFarLookup_evolves {s0 : State} {i : Fin 16} {n : Fin 256} {s : State} (h : Evolves s0 s) :
    Ends s0 (execFarLookup i n s) := by
  unfold execFarLookup
  extract_lets x0 x1
  have k2 : Evolves s0 x1 := (State.setPipe_evolves h)
  split
  · extract_lets x6 x7
    have k8 : Evolves s0 x6.2 := (State.laneEnd_evolves k2)
    split
    · exact Ends.next h
    · split
      · exact Ends.next (State.dropPkt_evolves (State.absentDrop_evolves k2))
      · split
        · exact Ends.next (State.setPipe_evolves k8)
        · exact Ends.next k8
  · exact Ends.next h

end Sys2Proof.Machine
end

