-- ==== Sys2Proof/Laws/Queues.lean ====
section
/-! SUPPORT. Every operation of `Sys2Proof/Machine/Queues.lean` only evolves the state (`Evolves`), one lemma per operation. -/

namespace Sys2Proof.Machine

theorem State.setQueue_evolves {s0 : State} {s : State} {key : Nat} {x : QSt} (h : Evolves s0 s) :
    Evolves s0 (State.setQueue s key x) := by
  unfold State.setQueue
  extract_lets x0
  exact (bufUpd_evolves h)

theorem State.qCount_evolves {s0 : State} {s : State} {key : Nat} {c : Nat} {n : Nat} (h : Evolves s0 s) :
    Evolves s0 (State.qCount s key c n) := by
  unfold State.qCount
  extract_lets x0 x1 x2
  split
  · exact h
  · exact (State.setTabN_evolves h)

theorem State.curveTest_evolves {s0 : State} {s : State} {key : Nat} {c : Nat} {x : Nat} (h : Evolves s0 s) :
    Evolves s0 (State.curveTest s key c x).2 := by
  unfold State.curveTest
  extract_lets x0
  exact (State.drawn_evolves h)

theorem State.fcAsk_evolves {s0 : State} {s : State} {p : Nat} {bit : Nat} {quanta : Nat} (h : Evolves s0 s) :
    Evolves s0 (State.fcAsk s p bit quanta) := by
  unfold State.fcAsk
  extract_lets x0 x1
  have k2 : Evolves s0 x0 := (State.bump_evolves h)
  exact (State.setPort_evolves k2)

theorem State.setPfcOn_evolves {s0 : State} {s : State} {i : Nat} {v : Nat} (h : Evolves s0 s) :
    Evolves s0 (State.setPfcOn s i v) := by
  unfold State.setPfcOn
  extract_lets x0
  exact (queUpd_evolves h)

theorem State.pfcMoved_evolves {s0 : State} {s : State} {p : Nat} {c : Nat} {old : Nat} (h : Evolves s0 s) :
    Evolves s0 (State.pfcMoved s p c old) := by
  unfold State.pfcMoved
  extract_lets x0 x1 x2 x3 x4
  have k5 : Evolves s0 x3 := (State.raise_evolves h)
  have k6 : Evolves s0 x4 := (State.setPfcOn_evolves h)
  split
  · split
    · exact (State.fcAsk_evolves (State.setPfcOn_evolves k5))
    · exact k5
  · split
    · split
      · split
        · split
          · exact k6
          · exact (State.fcAsk_evolves k6)
        · exact (State.fcAsk_evolves k6)
      · exact k6
    · exact h

theorem State.setQueueFor_evolves {s0 : State} {s : State} {key : Nat} {x : QSt} {k : Pkt} (h : Evolves s0 s) :
    Evolves s0 (State.setQueueFor s key x k) := by
  unfold State.setQueueFor
  extract_lets x0
  split
  · exact (State.pfcMoved_evolves (State.setQueue_evolves h))
  · exact (State.setQueue_evolves h)

theorem execPfcRefresh_evolves {s0 : State} {p : Fin 64} {c : Fin 8} {s : State} (h : Evolves s0 s) :
    Ends s0 (execPfcRefresh p c s) := by
  unfold execPfcRefresh
  extract_lets x0 x1
  split
  · split
    · exact Ends.next (State.fcAsk_evolves (State.setPfcOn_evolves h))
    · exact Ends.next h
  · exact Ends.next h

theorem State.admitTest_evolves {s0 : State} {s : State} {key : Nat} {n : Nat} {k : Pkt} (h : Evolves s0 s) :
    Evolves s0 (State.admitTest s key n k).2 := by
  unfold State.admitTest
  extract_lets x0 x1 x2 x3 x4 x5 x6
  have k7 : Evolves s0 x6.2 := by
    subst x6
    split
    · exact (State.curveTest_evolves h)
    · exact h
  split
  · exact h
  · split
    · split
      · exact h
      · split
        · exact h
        · exact h
    · split
      · exact h
      · split
        · exact k7
        · split
          · exact k7
          · exact k7

theorem State.admitDrop_evolves {s0 : State} {s : State} {key : Nat} {reason : Nat} {k : Pkt} (h : Evolves s0 s) :
    Evolves s0 (State.admitDrop s key reason k) := by
  unfold State.admitDrop
  extract_lets x0 x1
  have k2 : Evolves s0 x1 := (State.qCount_evolves (State.qCount_evolves (State.bump_evolves h)))
  exact (State.raiseIf_evolves k2)

theorem State.sharedLow_evolves {s0 : State} {s : State} {eq : Bool} (h : Evolves s0 s) :
    Evolves s0 (State.sharedLow s eq) := by
  unfold State.sharedLow
  exact (State.raiseIf_evolves h)

theorem State.enqueue_evolves {s0 : State} {s : State} {key : Nat} {e : QEnt} {stream : Bool} (h : Evolves s0 s) :
    Evolves s0 (State.enqueue s key e stream) := by
  unfold State.enqueue
  extract_lets x0 x1
  exact (State.sharedLow_evolves (State.setQueueFor_evolves h))

theorem State.noCell_evolves {s0 : State} {s : State} (h : Evolves s0 s) :
    Evolves s0 (State.noCell s) := by
  unfold State.noCell
  exact (State.raise_evolves (State.bump_evolves h))

theorem State.store_evolves {s0 : State} {s : State} {k : Pkt} {held : List Nat} {ct : Bool} (h : Evolves s0 s) :
    Evolves s0 (State.store s k held ct).2 := by
  unfold State.store
  extract_lets x0 x1
  have k2 : Evolves s0 x1.2 := (State.allocUpTo_evolves h)
  split
  · rename_i v3 v4 e5
    have k6 : Evolves s0 v4.2 := (State.allocCells_evolves h) _ e5
    exact k6
  · split
    · exact (State.noCell_evolves k2)
    · exact (State.noCell_evolves h)

theorem State.dropHeld_evolves {s0 : State} {s : State} {k : Pkt} {held : List Nat} (h : Evolves s0 s) :
    Evolves s0 (State.dropHeld s k held) := by
  unfold State.dropHeld
  exact (State.dropPkt_evolves (State.freeCells_evolves h))

theorem State.badDropped_evolves {s0 : State} {s : State} {k : Pkt} (h : Evolves s0 s) :
    Evolves s0 (State.badDropped s k) := by
  unfold State.badDropped
  exact (State.dropPkt_evolves (State.raise_evolves (State.bump_evolves h)))

theorem State.admitted_evolves {s0 : State} {s : State} {k : Pkt} {key : Nat} {ct : Bool} {held : List Nat} {stream : Bool} (h : Evolves s0 s) :
    Evolves s0 (State.admitted s k key ct held stream) := by
  unfold State.admitted
  split
  · rename_i v0 v1 v2 v3 e4
    have k5 : Evolves s0 v3 := Evolves.of_snd (State.store_evolves h) e4
    exact (State.enqueue_evolves k5)
  · rename_i v6 v7 e8
    have k9 : Evolves s0 v7 := Evolves.of_snd (State.store_evolves h) e8
    exact (State.dropHeld_evolves k9)

theorem State.admitUnicast_evolves {s0 : State} {s : State} {k : Pkt} {sysPort : Nat} {rewrite : Nat} {ct : Bool} {held : List Nat} (h : Evolves s0 s) :
    Evolves s0 (State.admitUnicast s k sysPort rewrite ct held) := by
  unfold State.admitUnicast
  extract_lets x0 x1 x2 x3
  have k4 : Evolves s0 x3.2 := (State.admitTest_evolves h)
  split
  · exact (State.dropHeld_evolves (State.bump_evolves h))
  · split
    · exact (State.dropHeld_evolves (State.absentDrop_evolves h))
    · split
      · exact (State.badDropped_evolves (State.freeCells_evolves h))
      · split
        · exact (State.dropHeld_evolves (State.admitDrop_evolves k4))
        · exact (State.admitted_evolves k4)
        · split
          · exact (State.badDropped_evolves (State.freeCells_evolves k4))
          · exact (State.admitted_evolves k4)

theorem State.joinRepl_evolves {s0 : State} {s : State} {k : Pkt} {group : Nat} {remote : Bool} {held : List Nat} (h : Evolves s0 s) :
    Evolves s0 (State.joinRepl s k group remote held) := by
  unfold State.joinRepl
  split
  · exact (State.dropHeld_evolves h)
  · split
    · exact (State.badDropped_evolves (State.freeCells_evolves h))
    · split
      · exact (State.dropHeld_evolves (State.raise_evolves (State.bump_evolves h)))
      · split
        · rename_i v6 v7 v8 v9 e10
          have k11 : Evolves s0 v9 := Evolves.of_snd (State.store_evolves h) e10
          extract_lets x12 x13
          exact (bufUpd_evolves k11)
        · rename_i v14 v15 e16
          have k17 : Evolves s0 v15 := Evolves.of_snd (State.store_evolves h) e16
          exact (State.dropHeld_evolves k17)

theorem execPacketAdmit_evolves {s0 : State} {i : Fin 16} {ct : Bool} {s : State} (h : Evolves s0 s) :
    Ends s0 (execPacketAdmit i ct s) := by
  unfold execPacketAdmit
  split
  · exact Ends.next h
  · extract_lets x6 x7
    have k8 : Evolves s0 x7 := (State.setPipe_evolves h)
    split
    · exact Ends.next h
    · split
      · exact Ends.next (State.dropPkt_evolves (State.absentDrop_evolves k8))
      · split
        · exact Ends.next (State.joinRepl_evolves k8)
        · split
          · refine Ends.next ?_
            split
            · exact (State.dropPkt_evolves (State.nhInvalid_evolves k8))
            · exact (State.admitUnicast_evolves k8)
          · exact Ends.next (State.dropPkt_evolves k8)

theorem State.copyRefused_evolves {s0 : State} {s : State} {entry : Nat} {e : QEnt} (h : Evolves s0 s) :
    Evolves s0 (State.copyRefused s entry e) := by
  unfold State.copyRefused
  extract_lets x0
  have k1 : Evolves s0 x0 := by
    subst x0
    split
    · exact h
    · exact (State.setTabN_evolves h)
  exact (State.payloadDone_evolves k1)

theorem State.makeCopy_evolves {s0 : State} {s : State} {o : QEnt} {group : Nat} {entry : Nat} {share : Option Nat} {owner : Bool} (h : Evolves s0 s) :
    Evolves s0 (State.makeCopy s o group entry share owner) := by
  unfold State.makeCopy
  extract_lets x0 x1 x2 x3 x4 x5 x6 x7 x8 x9 x10
  have k11 : Evolves s0 x10.2 := (State.admitTest_evolves h)
  split
  · exact (State.payloadDone_evolves h)
  · split
    · exact (State.payloadDone_evolves (State.raise_evolves (State.bump_evolves h)))
    · split
      · exact (State.copyRefused_evolves (State.nhInvalid_evolves h))
      · split
        · exact (State.copyRefused_evolves (State.bump_evolves h))
        · split
          · exact (State.copyRefused_evolves (State.absentDrop_evolves h))
          · split
            · exact (State.copyRefused_evolves (State.admitDrop_evolves k11))
            · exact (State.enqueue_evolves (State.inflAdd_evolves k11))
            · exact (State.enqueue_evolves (State.inflAdd_evolves k11))

theorem execReplExpand_evolves {s0 : State} {s : State} (h : Evolves s0 s) :
    Ends s0 (execReplExpand s) := by
  unfold execReplExpand
  split
  · exact Ends.next h
  · extract_lets x6 x7 x8 x9 x10
    have k11 : Evolves s0 x7 := (bufUpd_evolves h)
    split
    · refine Ends.next ?_
      refine State.dropPkt_evolves ?_
      · refine State.freeCells_evolves ?_
        · split
          · exact (State.bump_evolves k11)
          · exact k11
    · split
      · exact Ends.next (State.dropPkt_evolves (State.makeCopy_evolves k11))
      · split
        · exact Ends.next (State.dropPkt_evolves (State.freeCells_evolves (State.raise_evolves (State.bump_evolves k11))))
        · extract_lets x23
          have k24 : Evolves s0 x23 := (State.setShareRec_evolves k11)
          exact Ends.next (State.dropPkt_evolves (foldl_evolves _ (fun a25 a26 k27 => (State.makeCopy_evolves k27)) k24))

theorem State.ptabWrite_evolves {s0 : State} {s : State} {page : Nat} {next : Nat} (h : Evolves s0 s) :
    Evolves s0 (State.ptabWrite s page next) := by
  unfold State.ptabWrite
  exact (State.hbmWrite_evolves h)

theorem growPages_evolves {s0 : State} {n upto : Nat} {pages : List Nat} {s : State} (h : Evolves s0 s) :
    OptAll (fun p => Evolves s0 p.2) (growPages n upto pages s) := by
  induction n generalizing pages s with
  | zero =>
    unfold growPages
    split
    · exact OptAll.some h
    · exact OptAll.none
  | succ n ih =>
    unfold growPages
    split
    · exact OptAll.some h
    · split
      · exact OptAll.none
      · rename_i p t e
        have ht : Evolves s0 t := State.takePage_evolves h _ e
        refine ih (State.ptabWrite_evolves ?_)
        split
        · exact State.ptabWrite_evolves ht
        · exact ht

theorem State.streamWrite_evolves {s0 : State} {s : State} {pages : List Nat} {pos : Nat} {l : List Byte} (h : Evolves s0 s) :
    Evolves s0 (State.streamWrite s pages pos l) := by
  unfold State.streamWrite
  extract_lets x0
  have k1 : Evolves s0 x0 := (foldl_evolves _ (fun a2 a3 k4 => (State.hbmWrite_evolves k4)) h)
  exact (foldl_evolves _ (fun a5 a6 k7 => (State.hbmClean_evolves k7)) k1)

theorem State.spillDrop_evolves {s0 : State} {s : State} {e : QEnt} {r : Nat} (h : Evolves s0 s) :
    Evolves s0 (State.spillDrop s e r) := by
  unfold State.spillDrop
  exact (State.dropPkt_evolves (State.payloadDone_evolves (State.raise_evolves (State.bump_evolves h))))

theorem execSpillWrite_evolves {s0 : State} {q : QueueRef} {late : Bool} {s : State} (h : Evolves s0 s) :
    Ends s0 (execSpillWrite q late s) := by
  unfold execSpillWrite
  extract_lets x0 x1
  split
  · exact Ends.next h
  · extract_lets x8 x9
    have k10 : Evolves s0 x8 := (State.setQueueFor_evolves h)
    split
    · exact Ends.next h
    · split
      · exact Ends.next (State.spillDrop_evolves k10)
      · split
        · exact Ends.next h
        · split
          · exact Ends.next (State.spillDrop_evolves k10)
          · rename_i v19 v20 v21 e22
            have k23 : Evolves s0 v21 := (growPages_evolves h) _ e22
            extract_lets x24 x25
            have k26 : Evolves s0 x24 := (State.bump64_evolves (State.streamWrite_evolves k23))
            have k27 : Evolves s0 x25 := by
              subst x25
              split
              · exact k26
              · exact (State.freeCells_evolves k26)
            split
            · exact Ends.next (State.dropPkt_evolves (State.payloadDone_evolves (State.absentDrop_evolves k10)))
            · exact Ends.next (State.setQueueFor_evolves k27)

theorem State.streamTrim_evolves {s0 : State} {s : State} {key : Nat} (h : Evolves s0 s) :
    Evolves s0 (State.streamTrim s key) := by
  unfold State.streamTrim
  extract_lets x0 x1 x2
  have k3 : Evolves s0 x2 := (foldl_evolves _ (fun a4 a5 k6 => (State.returnPage_evolves k6)) h)
  split
  · exact (State.setQueue_evolves k3)
  · exact (State.setQueue_evolves (foldl_evolves _ (fun a9 a10 k11 => (State.returnPage_evolves k11)) h))

theorem execSpillReadback_evolves {s0 : State} {q : QueueRef} {s : State} (h : Evolves s0 s) :
    Ends s0 (execSpillReadback q s) := by
  unfold execSpillReadback
  extract_lets key x ahead
  clear_value x
  split
  · exact Ends.next h
  · rename_i e r _
    split
    · exact Ends.next h
    · split
      · extract_lets l t1
        have h1 : Evolves s0 t1 := foldl_evolves _ (fun _ _ g => State.hbmUeRead_evolves g) h
        clear_value t1
        refine Ends.next (State.streamTrim_evolves (State.dropPkt_evolves ?_))
        have h2 (p : Option (Nat × Nat)) : Evolves s0 (match p with | some p => t1.ueDrop p.1 | none => t1) := by
          cases p with
          | none => exact h1
          | some p => exact State.ueDrop_evolves h1
        split
        · exact State.payloadDone_evolves (State.setQueueFor_evolves (State.bump64_evolves (h2 _)))
        · exact State.setQueueFor_evolves (State.bump64_evolves (h2 _))
      · extract_lets got
        have hg : OptAll (fun p : List Nat × State => Evolves s0 p.2) got := by
          subst got
          split
          · exact OptAll.some h
          · exact State.allocCells_evolves h
        clear_value got
        split
        · exact Ends.next h
        · rename_i cells t
          have ht : Evolves s0 t := hg _ rfl
          exact Ends.next (State.streamTrim_evolves (State.sharedLow_evolves (State.setQueueFor_evolves (State.bump64_evolves ht))))

theorem State.setNode_evolves {s0 : State} {s : State} {level : Nat} {n : Nat} {x : NodeSt} (h : Evolves s0 s) :
    Evolves s0 (State.setNode s level n x) := by
  unfold State.setNode
  extract_lets x0
  exact (queUpd_evolves h)

theorem State.chooseChild_evolves {s0 : State} {s : State} {p : Nat} {level : Nat} {n : Nat} {f : Nat} (h : Evolves s0 s) :
    OptAll (fun p => Evolves s0 p.2.2) (State.chooseChild s p level n f) := by
  unfold State.chooseChild
  extract_lets x0 x1 x2 x3 x4 x5 x6 x7 x8 x9 x10 x11 x12
  have k13 : Evolves s0 x11 := by
    subst x11
    split
    · exact h
    · refine foldl_evolves _ ?_ ?_
      · intro a19 a20 k21
        extract_lets x22
        exact (State.setNode_evolves k21)
      · exact h
  split
  · exact OptAll.none
  · refine OptAll.some ?_
    exact (State.setNode_evolves k13)

theorem choosePath_evolves {s0 : State} {p : Nat} {y1 : Nat} {y2 : Nat} {y3 : Nat} {y4 : State} (h : Evolves s0 y4) :
    OptAll (fun p => Evolves s0 p.2.2) (choosePath p y1 y2 y3 y4) := by
  fun_induction choosePath p y1 y2 y3 y4
  · refine OptAll.some ?_
    exact h
  · exact OptAll.none
  · rename_i v8 v9 v10 v11 v12 v13 v14 e15 e16 e17
    have k18 : Evolves s0 v14 := (State.chooseChild_evolves h) _ e15
    have k19 : Evolves s0 v14 := (State.chooseChild_evolves h) _ e15
    exact OptAll.none
  · rename_i v20 v21 v22 v23 v24 v25 v26 e27 v28 v29 v30 e31 e32
    have k33 : Evolves s0 v26 := (State.chooseChild_evolves h) _ e27
    have k34 : Evolves s0 v30 := (e32 k33) _ e31
    have k35 : Evolves s0 v26 := (State.chooseChild_evolves h) _ e27
    have k36 : Evolves s0 v30 := (e32 k33) _ e31
    refine OptAll.some ?_
    exact k34

theorem State.chargeNode_evolves {s0 : State} {s : State} {level : Nat} {n : Nat} {c : Int} {pass : Option Bool} (h : Evolves s0 s) :
    Evolves s0 (State.chargeNode s level n c pass) := by
  unfold State.chargeNode
  extract_lets x0 x1 x2
  exact (State.setNode_evolves h)

theorem State.dequeue_evolves {s0 : State} {s : State} {key : Nat} {e : QEnt} {rest : List QEnt} (h : Evolves s0 s) :
    Evolves s0 (State.dequeue s key e rest) := by
  unfold State.dequeue
  extract_lets x0 x1
  have k2 : Evolves s0 x1 := (State.setQueueFor_evolves h)
  exact (State.payloadDone_evolves k2)

theorem State.ecnTest_evolves {s0 : State} {s : State} {key : Nat} {x : Nat} {k : Pkt} {counter : Nat} (h : Evolves s0 s) :
    Evolves s0 (State.ecnTest s key x k counter).2 := by
  unfold State.ecnTest
  extract_lets x0
  have k1 : Evolves s0 x0.2 := (State.curveTest_evolves h)
  split
  · split
    · exact (State.bump_evolves k1)
    · exact k1
  · exact h

theorem State.toEgress_evolves {s0 : State} {s : State} {p : Nat} {k : Pkt} (h : Evolves s0 s) :
    Evolves s0 (State.toEgress s p k) := by
  unfold State.toEgress
  extract_lets x0 x1 x2 x3 x4 x5
  have k6 : Evolves s0 x4 := by
    subst x4
    split
    · exact (State.setPort_evolves h)
    · exact h
  exact (queUpd_evolves k6)

theorem execEgressSelect_evolves {s0 : State} {p : Fin 70} {late : Bool} {s : State} (h : Evolves s0 s) :
    Ends s0 (execEgressSelect p late s) := by
  unfold execEgressSelect
  split
  · exact Ends.next h
  · split
    · exact Ends.next h
    · rename_i v4 v5 v6 v7 e8
      have k9 : Evolves s0 v7 := (choosePath_evolves h) _ e8
      split
      · exact Ends.next h
      · extract_lets x16 x17 x18 x19 x20 x21 x22
        have k23 : Evolves s0 x18 := (foldl_evolves _ (fun a24 a25 k26 => (State.chargeNode_evolves k26)) (State.chargeNode_evolves k9))
        have k27 : Evolves s0 x19.2 := (State.ecnTest_evolves k23)
        have k28 : Evolves s0 x20 := (State.qCount_evolves (State.qCount_evolves (State.dequeue_evolves k27)))
        have k29 : Evolves s0 x21 := (State.bump64_evolves k28)
        have k30 : Evolves s0 x22 := by
          subst x22
          split
          · exact (State.raise_evolves (State.bump_evolves k29))
          · exact k29
        split
        · exact Ends.next (State.badDropped_evolves (State.dequeue_evolves h))
        · exact Ends.next (State.toEgress_evolves k30)

theorem execShaperEpoch_evolves {s0 : State} {l : Fin 5} {s : State} (h : Evolves s0 s) :
    Ends s0 (execShaperEpoch l s) := by
  unfold execShaperEpoch
  split
  · exact Ends.next (foldl_evolves _ (fun a1 a2 k3 => (State.setNode_evolves k3)) h)
  · exact Ends.next h

theorem State.discardQueue_evolves {s0 : State} {s : State} {key : Nat} (h : Evolves s0 s) :
    Evolves s0 (State.discardQueue s key) := by
  unfold State.discardQueue
  extract_lets x0 x1 x2 x3 x4
  have k5 : Evolves s0 x2 := (foldl_evolves _ (fun a6 a7 k8 => (State.dropPkt_evolves (State.payloadDone_evolves k8))) h)
  have k9 : Evolves s0 x3 := by
    subst x3
    refine foldl_evolves _ ?_ ?_
    · intro a16 a17 k18
      refine State.dropPkt_evolves ?_
      · split
        · exact (State.payloadDone_evolves k18)
        · exact k18
    · exact k5
  have k21 : Evolves s0 x4 := (State.setQueue_evolves (foldl_evolves _ (fun a22 a23 k24 => (State.returnPage_evolves k24)) k9))
  exact (foldl_evolves _ (fun a25 a26 k27 => (State.pfcMoved_evolves k27)) k21)

theorem State.pfcRestart_evolves {s0 : State} {s : State} (h : Evolves s0 s) :
    Evolves s0 (State.pfcRestart s) := by
  unfold State.pfcRestart
  extract_lets x0 x1 x2
  exact (Evolves.frame h rfl)

theorem execStallFlush_evolves {s0 : State} {q : Fin 524288} {s : State} (h : Evolves s0 s) :
    Ends s0 (execStallFlush q s) := by
  unfold execStallFlush
  extract_lets x0 x1
  have k2 : Evolves s0 x1 := (foldl_evolves _ (fun a3 a4 k5 => (State.admitDrop_evolves k5)) h)
  split
  · exact Ends.next (State.raise_evolves (State.discardQueue_evolves k2))
  · exact Ends.next h

theorem admitTable_keeps {r : Nat} {w : WinTable} (h : WinTable.Keeps w) :
    WinTable.Keeps (admitTable r w) := by
  unfold admitTable
  constructor
  · intro s0 s0 i1 m2 w3 k4
    dsimp only
    split
    · exact (State.sharedLow_evolves (h.put k4))
    · exact (h.put k4)
  · intro s0 s7 i8 m9 k11
    dsimp only
    split
    · exact (State.sharedLow_evolves (h.clear k11))
    · exact (h.clear k11)

theorem cfgTable_keeps {r : Nat} {b : Nat} {table : Nat} {bytes : Nat} {count : Nat} {mask : Nat} {ok : State → Nat → Nat → Bool} :
    WinTable.Keeps (cfgTable r b table bytes count mask ok) := by
  unfold cfgTable
  extract_lets x0
  have k1 : WinTable.Keeps x0 := plainTable_keeps
  constructor
  · intro s0 s2 i3 m4 w5 k6
    dsimp only
    split
    · exact (State.setTabN_evolves k6)
    · exact (State.raise_evolves k6)
  · intro s0 s9 i10 m11 k13
    dsimp only
    split
    · exact (State.setTabN_evolves k13)
    · exact (State.raise_evolves k13)

theorem portTable_keeps :
    WinTable.Keeps (portTable) := by
  unfold portTable
  constructor
  · intro s0 s0 i1 m2 w3 k4
    dsimp only
    split
    · exact (State.setTabN_evolves k4)
    · exact (State.raise_evolves k4)
  · intro s0 s7 i8 m9 k11
    dsimp only
    exact (State.setTabN_evolves k11)

theorem pfcTable_keeps :
    WinTable.Keeps (pfcTable) := by
  unfold pfcTable
  constructor
  · intro s0 s0 i1 m2 w3 k4
    dsimp only
    split
    · exact (State.raise_evolves k4)
    · exact (State.setTabN_evolves k4)
  · intro s0 s7 i8 m9 k11
    dsimp only
    exact (State.setTabN_evolves k11)

theorem readOnlyTable_keeps {bytes : Nat} {count : Nat} {get : State → Nat → Nat} :
    WinTable.Keeps (readOnlyTable bytes count get) := by
  unfold readOnlyTable
  constructor
  · intro s0 s0 i1 m2 w3 k4
    dsimp only
    exact k4
  · intro s0 s5 i6 m7 k9
    dsimp only
    exact k9

theorem queTable_keeps {r : Nat} {b : Nat} {table : Nat} :
    OptAll WinTable.Keeps (queTable r b table) := by
  unfold queTable
  extract_lets x0 x1
  have k2 : WinTable.Keeps x0 := plainTable_keeps
  have k3 : WinTable.Keeps x1 := plainTable_keeps
  split
  · split
    · refine OptAll.some ?_
      exact (admitTable_keeps cfgTable_keeps)
    · refine OptAll.some ?_
      constructor
      · intro s0 s7 i8 m9 w10 k11
        dsimp only
        exact (k2.put k11)
      · intro s0 s12 i13 m14 k16
        dsimp only
        exact (k2.clear k16)
    · refine OptAll.some ?_
      exact readOnlyTable_keeps
    · refine OptAll.some ?_
      exact cfgTable_keeps
    · exact OptAll.none
  · split
    · split
      · refine OptAll.some ?_
        exact portTable_keeps
      · split
        · refine OptAll.some ?_
          exact cfgTable_keeps
        · exact OptAll.none
    · split
      · split
        · refine OptAll.some ?_
          exact cfgTable_keeps
        · exact OptAll.none
      · split
        · split
          · refine OptAll.some ?_
            exact pfcTable_keeps
          · exact OptAll.none
        · split
          · split
            · refine OptAll.some ?_
              exact (admitTable_keeps cfgTable_keeps)
            · refine OptAll.some ?_
              constructor
              · intro s0 s42 i43 m44 w45 k46
                dsimp only
                exact (k3.put k46)
              · intro s0 s47 i48 m49 k51
                dsimp only
                exact (k3.clear k51)
            · refine OptAll.some ?_
              exact readOnlyTable_keeps
            · exact OptAll.none
          · exact OptAll.none

end Sys2Proof.Machine
end

