-- ==== Sys2Proof/Laws/Time.lean ====
section
/-! SUPPORT. Every operation of `Sys2Proof/Machine/Time.lean` only evolves the state (`Evolves`), one lemma per operation. -/

namespace Sys2Proof.Machine

theorem State.domRaise_evolves {s0 : State} {s : State} {d : Dom} {k : Nat} (h : Evolves s0 s) :
    Evolves s0 (State.domRaise s d k) := by
  unfold State.domRaise
  exact (State.raise_evolves h)

theorem State.ppsArm_evolves {s0 : State} {s : State} {n : Nat} (h : Evolves s0 s) :
    Evolves s0 (State.ppsArm s n) := by
  unfold State.ppsArm
  extract_lets x0
  exact (timeUpd_evolves h rfl)

theorem State.ppsArmAll_evolves {s0 : State} {s : State} (h : Evolves s0 s) :
    Evolves s0 (State.ppsArmAll s) := by
  unfold State.ppsArmAll
  exact (State.ppsArm_evolves (State.ppsArm_evolves (State.ppsArm_evolves (State.ppsArm_evolves h))))

theorem State.ppsFollow_evolves {s0 : State} {s : State} {d : Dom} {n : Nat} (h : Evolves s0 s) :
    Evolves s0 (State.ppsFollow s d n) := by
  unfold State.ppsFollow
  extract_lets x0
  split
  · exact (State.ppsArm_evolves h)
  · exact h

theorem State.ppsFollowAll_evolves {s0 : State} {s : State} {d : Dom} (h : Evolves s0 s) :
    Evolves s0 (State.ppsFollowAll s d) := by
  unfold State.ppsFollowAll
  exact (State.ppsFollow_evolves (State.ppsFollow_evolves (State.ppsFollow_evolves (State.ppsFollow_evolves h))))

theorem State.setPps_evolves {s0 : State} {s : State} {n : Nat} {level : Bool} {at_ : Nat} (h : Evolves s0 s) :
    Evolves s0 (State.setPps s n level at_) := by
  unfold State.setPps
  extract_lets x0
  exact (State.emit_evolves (timeUpd_evolves h rfl))

theorem State.ppsSync_evolves {s0 : State} {s : State} {n : Nat} (h : Evolves s0 s) :
    Evolves s0 (State.ppsSync s n) := by
  unfold State.ppsSync
  extract_lets x0 x1
  have k2 : Evolves s0 x1 := by
    subst x1
    split
    · exact h
    · exact (timeUpd_evolves h rfl)
  split
  · exact k2
  · exact (State.setPps_evolves k2)

theorem State.ppsSyncAll_evolves {s0 : State} {s : State} (h : Evolves s0 s) :
    Evolves s0 (State.ppsSyncAll s) := by
  unfold State.ppsSyncAll
  exact (State.ppsSync_evolves (State.ppsSync_evolves (State.ppsSync_evolves (State.ppsSync_evolves h))))

theorem lineFabUpd_evolves {s0 s : State} {x : LineSt} {y : FabSt} (h : Evolves s0 s) : Evolves s0 { s with line := x, fab := y } :=
  fabUpd_evolves (s := { s with line := x }) (lineUpd_evolves h)

theorem State.secStart_evolves {s0 : State} {s : State} (h : Evolves s0 s) : Evolves s0 (State.secStart s) := by
  unfold State.secStart
  exact lineFabUpd_evolves h

theorem State.checkWtValid_evolves {s0 : State} {s : State} (h : Evolves s0 s) :
    Evolves s0 (State.checkWtValid s) := by
  unfold State.checkWtValid
  extract_lets x0 x1 x2 x3 x4
  have k5 : Evolves s0 x1 := (timeUpd_evolves h rfl)
  have k6 : Evolves s0 x4 := (timeUpd_evolves k5 rfl)
  split
  · exact (State.raise_evolves (State.ppsSyncAll_evolves (State.ppsArmAll_evolves (State.secStart_evolves k6))))
  · exact h

theorem State.setValid_evolves {s0 : State} {s : State} {d : Dom} (h : Evolves s0 s) :
    Evolves s0 (State.setValid s d) := by
  unfold State.setValid
  extract_lets x0
  split
  · exact (State.checkWtValid_evolves h)
  · exact (State.checkWtValid_evolves (State.domRaise_evolves (State.setDom_evolves h)))

theorem State.checkValid_evolves {s0 : State} {s : State} {d : Dom} (h : Evolves s0 s) :
    Evolves s0 (State.checkValid s d) := by
  unfold State.checkValid
  split
  · exact (State.setValid_evolves h)
  · exact h

theorem State.pushOffset_evolves {s0 : State} {s : State} {d : Dom} {theta : Int} (h : Evolves s0 s) :
    Evolves s0 (State.pushOffset s d theta) := by
  unfold State.pushOffset
  extract_lets x0
  split
  · exact (State.domRaise_evolves (State.bump_evolves h))
  · exact (State.setDom_evolves h)

theorem State.enterSnow_evolves {s0 : State} {s : State} {d : Dom} {target : Int} (h : Evolves s0 s) :
    Evolves s0 (State.enterSnow s d target) := by
  unfold State.enterSnow
  extract_lets x0 x1
  have k2 : Evolves s0 x1 := (State.setDom_evolves h)
  split
  · exact k2
  · exact (State.domRaise_evolves k2)

theorem State.servoAccept_evolves {s0 : State} {s : State} {d : Dom} {theta : Int} (h : Evolves s0 s) :
    Evolves s0 (State.servoAccept s d theta) := by
  unfold State.servoAccept
  extract_lets x0 x1 x2 x3
  have k4 : Evolves s0 x0 := (State.bump_evolves h)
  split
  · exact (State.checkValid_evolves (State.setDom_evolves k4))
  · split
    · exact (State.setDom_evolves k4)
    · split
      · exact (State.checkValid_evolves (State.domRaise_evolves (State.setDom_evolves k4)))
      · exact (State.setDom_evolves k4)
  · exact (State.setDom_evolves k4)

theorem State.servoReject_evolves {s0 : State} {s : State} {d : Dom} {theta : Int} (h : Evolves s0 s) :
    Evolves s0 (State.servoReject s d theta) := by
  unfold State.servoReject
  extract_lets x0 x1 x2 x3 x4 x5 x6
  have k7 : Evolves s0 x0 := (State.bump_evolves h)
  have k8 : Evolves s0 x6 := (State.setDom_evolves k7)
  split
  · exact (State.enterSnow_evolves k8)
  · exact k8

theorem State.servoTake_evolves {s0 : State} {s : State} {d : Dom} {theta : Int} (h : Evolves s0 s) :
    Evolves s0 (State.servoTake s d theta) := by
  unfold State.servoTake
  extract_lets x0 x1 x2 x3
  have k4 : Evolves s0 x1 := (State.bump_evolves h)
  split
  · split
    · exact (State.setDom_evolves k4)
    · exact (State.setDom_evolves k4)
  · split
    · exact (State.servoAccept_evolves h)
    · exact (State.servoReject_evolves h)

theorem State.jumpDom_evolves {s0 : State} {s : State} {d : Dom} {delta : Int} (h : Evolves s0 s) :
    Evolves s0 (State.jumpDom s d delta) := by
  unfold State.jumpDom
  extract_lets x0 x1 x2 x3
  have k4 : Evolves s0 x1 := (State.setDom_evolves h)
  have k5 : Evolves s0 x3 := by
    subst x3
    split
    · exact (timeUpd_evolves k4 rfl)
    · exact k4
  exact (State.ppsFollowAll_evolves k5)

theorem State.tickDom_evolves {s0 : State} {s : State} {d : Dom} (h : Evolves s0 s) :
    Evolves s0 (State.tickDom s d) := by
  unfold State.tickDom
  extract_lets x0 x1 x2 x3 x4 x5 x6 x7
  have k8 : Evolves s0 x7 := (State.setDom_evolves h)
  split
  · split
    · extract_lets x14 x15
      have k16 : Evolves s0 x14 := (State.jumpDom_evolves k8)
      refine State.checkValid_evolves ?_
      · split
        · exact (State.setDom_evolves k16)
        · exact k16
    · exact (State.checkValid_evolves k8)
  · exact k8

theorem State.tickCont_evolves {s0 : State} {s : State} (h : Evolves s0 s) :
    Evolves s0 (State.tickCont s) := by
  unfold State.tickCont
  extract_lets x0 x1
  split
  · exact h
  · exact (State.raiseIf_evolves (timeUpd_evolves h rfl))

theorem State.tickRef_evolves {s0 : State} {s : State} (h : Evolves s0 s) :
    Evolves s0 (State.tickRef s) := by
  unfold State.tickRef
  extract_lets x0
  split
  · exact (timeUpd_evolves h rfl)
  · exact h

theorem State.incrFrac_evolves {s0 : State} {s : State} {d : Dom} {v : Nat} (h : Evolves s0 s) :
    Evolves s0 (State.incrFrac s d v) := by
  unfold State.incrFrac
  extract_lets x0 x1 x2 x3
  have k4 : Evolves s0 x0 := (State.cpCheck_evolves h)
  have k5 : Evolves s0 x2 := (State.cpStore_evolves k4)
  split
  · exact (State.setDom_evolves k5)
  · exact (State.domRaise_evolves k4)

theorem execIncrFracWrite_evolves {s0 : State} {m : Master} {d : Dom} {datum : BitVec 64} {s : State} (h : Evolves s0 s) :
    Ends s0 (execIncrFracWrite m d datum s) := by
  unfold execIncrFracWrite
  exact Ends.next (State.asCpWrite_evolves h (fun a0 a1 k2 => (State.incrFrac_evolves k2)))

theorem State.ofsHi_evolves {s0 : State} {s : State} {d : Dom} {v : Word} (h : Evolves s0 s) :
    Evolves s0 (State.ofsHi s d v) := by
  unfold State.ofsHi
  split
  · exact (State.pushOffset_evolves h)
  · exact h

theorem execFirmwareOffsetPush_evolves {s0 : State} {m : Master} {d : Dom} {v : Word} {s : State} (h : Evolves s0 s) :
    Ends s0 (execFirmwareOffsetPush m d v s) := by
  unfold execFirmwareOffsetPush
  exact Ends.next (State.asWrite_evolves h (fun a0 k1 => (State.ofsHi_evolves k1)))

theorem execServoOffset_evolves {s0 : State} {d : Dom} {s : State} (h : Evolves s0 s) :
    Ends s0 (execServoOffset d s) := by
  unfold execServoOffset
  split
  · split
    · exact Ends.next h
    · extract_lets x7
      exact Ends.next (State.servoTake_evolves (State.setDom_evolves h))
  · exact Ends.next h

theorem execServoTimeout_evolves {s0 : State} {d : Dom} {s : State} (h : Evolves s0 s) :
    Ends s0 (execServoTimeout d s) := by
  unfold execServoTimeout
  split
  · exact Ends.next (State.enterSnow_evolves h)
  · exact Ends.next h

theorem State.domModeWrite_evolves {s0 : State} {s : State} {d : Dom} {v : Nat} (h : Evolves s0 s) :
    Evolves s0 (State.domModeWrite s d v) := by
  unfold State.domModeWrite
  extract_lets x0 x1 x2 x3 x4
  have k5 : Evolves s0 x3 := (State.wr_evolves h)
  split
  · exact (State.setDom_evolves k5)
  · exact (State.enterSnow_evolves (State.setDom_evolves k5))
  · exact k5

theorem execModeFree_evolves {s0 : State} {m : Master} {d : Dom} {v : Word} {s : State} (h : Evolves s0 s) :
    Ends s0 (execModeFree m d v s) := by
  unfold execModeFree
  exact Ends.next (State.asWrite_evolves h (fun a0 k1 => (State.domModeWrite_evolves k1)))

theorem execModeServo_evolves {s0 : State} {m : Master} {d : Dom} {v : Word} {s : State} (h : Evolves s0 s) :
    Ends s0 (execModeServo m d v s) := by
  unfold execModeServo
  exact Ends.next (State.asWrite_evolves h (fun a0 k1 => (State.domModeWrite_evolves k1)))

theorem execModeForceSnow_evolves {s0 : State} {m : Master} {d : Dom} {v : Word} {s : State} (h : Evolves s0 s) :
    Ends s0 (execModeForceSnow m d v s) := by
  unfold execModeForceSnow
  exact Ends.next (State.asWrite_evolves h (fun a0 k1 => (State.domModeWrite_evolves k1)))

theorem execRefHoldUpdate_evolves {s0 : State} {d : Dom} {f : Int} {s : State} (h : Evolves s0 s) :
    Ends s0 (execRefHoldUpdate d f s) := by
  unfold execRefHoldUpdate
  extract_lets x0
  split
  · exact Ends.next (State.setDom_evolves h)
  · exact Ends.next h

theorem State.domValidWrite_evolves {s0 : State} {s : State} {d : Dom} {v : Nat} (h : Evolves s0 s) :
    Evolves s0 (State.domValidWrite s d v) := by
  unfold State.domValidWrite
  extract_lets x0
  have k1 : Evolves s0 x0 := (State.wr_evolves h)
  split
  · exact (State.setValid_evolves k1)
  · exact (State.checkValid_evolves k1)

theorem execValidDeclare_evolves {s0 : State} {m : Master} {d : Dom} {v : Word} {s : State} (h : Evolves s0 s) :
    Ends s0 (execValidDeclare m d v s) := by
  unfold execValidDeclare
  exact Ends.next (State.asWrite_evolves h (fun a0 k1 => (State.domValidWrite_evolves k1)))

theorem State.stepHi_evolves {s0 : State} {s : State} {d : Dom} {v : Word} (h : Evolves s0 s) :
    Evolves s0 (State.stepHi s d v) := by
  unfold State.stepHi
  extract_lets x0
  exact (State.setDom_evolves h)

theorem execDomStep_evolves {s0 : State} {m : Master} {d : Dom} {v : Word} {s : State} (h : Evolves s0 s) :
    Ends s0 (execDomStep m d v s) := by
  unfold execDomStep
  exact Ends.next (State.asWrite_evolves h (fun a0 k1 => (State.stepHi_evolves k1)))

theorem State.setsecHi_evolves {s0 : State} {s : State} {d : Dom} {v : Nat} (h : Evolves s0 s) :
    Evolves s0 (State.setsecHi s d v) := by
  unfold State.setsecHi
  extract_lets x0 x1
  have k2 : Evolves s0 x0 := (State.wr_evolves h)
  split
  · exact (State.setDom_evolves k2)
  · exact k2

theorem execSetsecArm_evolves {s0 : State} {m : Master} {d : Dom} {v : Word} {s : State} (h : Evolves s0 s) :
    Ends s0 (execSetsecArm m d v s) := by
  unfold execSetsecArm
  exact Ends.next (State.asWrite_evolves h (fun a0 k1 => (State.setsecHi_evolves k1)))

theorem State.loadSec_evolves {s0 : State} {s : State} {d : Dom} {sec : Nat} (h : Evolves s0 s) :
    Evolves s0 (State.loadSec s d sec) := by
  unfold State.loadSec
  extract_lets x0 x1
  have k2 : Evolves s0 x1 := (State.setDom_evolves h)
  exact (State.jumpDom_evolves k2)

theorem execSetsecLoad_evolves {s0 : State} {d : Dom} {s : State} (h : Evolves s0 s) :
    Ends s0 (execSetsecLoad d s) := by
  unfold execSetsecLoad
  split
  · split
    · exact Ends.next (State.loadSec_evolves h)
    · exact Ends.next h
  · exact Ends.next h

theorem State.switchTo_evolves {s0 : State} {s : State} {d : Dom} (h : Evolves s0 s) :
    Evolves s0 (State.switchTo s d) := by
  unfold State.switchTo
  extract_lets x0 x1
  split
  · exact (State.raise_evolves h)
  · exact (State.raise_evolves (timeUpd_evolves h rfl))

theorem State.wtCtrlWrite_evolves {s0 : State} {s : State} {m : Option Master} {v : Nat} (h : Evolves s0 s) :
    Evolves s0 (State.wtCtrlWrite s m v) := by
  unfold State.wtCtrlWrite
  extract_lets x0 x1 x2 x3 x4 x5 x6 x7
  have k8 : Evolves s0 x2 := by
    subst x2
    split
    · exact h
    · exact (State.lockedWrite_evolves h)
  have k11 : Evolves s0 x3 := (State.wr_evolves k8)
  have k12 : Evolves s0 x5 := by
    subst x5
    split
    · exact k11
    · exact (timeUpd_evolves k11 rfl)
  split
  · exact (State.raise_evolves h)
  · split
    · exact (timeUpd_evolves k12 rfl)
    · exact (timeUpd_evolves k12 rfl)
    · exact (timeUpd_evolves k12 rfl)
    · exact k12

theorem execSwitchNextSlot_evolves {s0 : State} {m : Master} {v : Word} {s : State} (h : Evolves s0 s) :
    Ends s0 (execSwitchNextSlot m v s) := by
  unfold execSwitchNextSlot
  exact Ends.next (State.asWrite_evolves h (fun a0 k1 => (State.wtCtrlWrite_evolves k1)))

theorem execSwitchTimedArm_evolves {s0 : State} {m : Master} {v : Word} {s : State} (h : Evolves s0 s) :
    Ends s0 (execSwitchTimedArm m v s) := by
  unfold execSwitchTimedArm
  exact Ends.next (State.asWrite_evolves h (fun a0 k1 => (State.wtCtrlWrite_evolves k1)))

theorem execSwitchDisarm_evolves {s0 : State} {m : Master} {v : Word} {s : State} (h : Evolves s0 s) :
    Ends s0 (execSwitchDisarm m v s) := by
  unfold execSwitchDisarm
  exact Ends.next (State.asWrite_evolves h (fun a0 k1 => (State.wtCtrlWrite_evolves k1)))

theorem execActiveSwitch_evolves {s0 : State} {s : State} (h : Evolves s0 s) :
    Ends s0 (execActiveSwitch s) := by
  unfold execActiveSwitch
  extract_lets x0 x1 x2
  have k3 : Evolves s0 x2 := by
    subst x2
    split
    · exact (timeUpd_evolves h rfl)
    · exact (timeUpd_evolves h rfl)
  split
  · exact Ends.next (State.switchTo_evolves k3)
  · exact Ends.next h

theorem execRevertWtrExpiry_evolves {s0 : State} {s : State} (h : Evolves s0 s) :
    Ends s0 (execRevertWtrExpiry s) := by
  unfold execRevertWtrExpiry
  split
  · split
    · exact Ends.next (State.switchTo_evolves h)
    · exact Ends.next h
  · exact Ends.next h

theorem State.cycleQuality_evolves {s0 : State} {s : State} {d : Dom} {k : Nat} (h : Evolves s0 s) :
    Evolves s0 (State.cycleQuality s d k) := by
  unfold State.cycleQuality
  extract_lets x0 x1
  split
  · split
    · extract_lets x7
      split
      · exact (State.setDom_evolves h)
      · exact h
    · split
      · exact h
      · exact (State.setDom_evolves h)
  · exact (State.setDom_evolves h)

theorem State.qualityApply_evolves {s0 : State} {s : State} {k : Nat} (h : Evolves s0 s) :
    Evolves s0 (State.qualityApply s k) := by
  unfold State.qualityApply
  extract_lets x0 x1 x2 x3 x4 x5 x6
  have k7 : Evolves s0 x3 := (State.cycleQuality_evolves (State.cycleQuality_evolves h))
  have k8 : Evolves s0 x6 := (timeUpd_evolves k7 rfl)
  split
  · exact (State.switchTo_evolves k8)
  · exact k8

theorem State.diffUpdate_evolves {s0 : State} {s : State} (h : Evolves s0 s) :
    Evolves s0 (State.diffUpdate s) := by
  unfold State.diffUpdate
  extract_lets x0 x1 x2 x3 x4
  have k5 : Evolves s0 x3 := (State.wr_evolves h)
  exact (State.raiseIf_evolves (timeUpd_evolves k5 rfl))

theorem State.fabricPush_evolves {s0 : State} {s : State} {d : Dom} (h : Evolves s0 s) :
    Evolves s0 (State.fabricPush s d) := by
  unfold State.fabricPush
  extract_lets x0 x1
  have k2 : Evolves s0 x1 := (State.setDom_evolves h)
  split
  · split
    · exact (State.pushOffset_evolves k2)
    · exact k2
  · exact h

theorem State.joinCycleStart_evolves {s0 : State} {s : State} (h : Evolves s0 s) :
    Evolves s0 (State.joinCycleStart s) := by
  unfold State.joinCycleStart
  extract_lets x0 x1 x2
  have k3 : Evolves s0 x2 := (timeUpd_evolves h rfl)
  split
  · exact (State.fabricPush_evolves (State.fabricPush_evolves k3))
  · exact h

theorem State.cycleTime_evolves {s0 : State} {s : State} {k : Nat} (h : Evolves s0 s) :
    Evolves s0 (State.cycleTime s k) := by
  unfold State.cycleTime
  split
  · exact (State.diffUpdate_evolves (State.qualityApply_evolves (State.fabricPush_evolves (State.fabricPush_evolves h))))
  · exact h

theorem State.tsqAppend_evolves {s0 : State} {s : State} {p : Nat} {tag : Nat} {stamp : Nat} (h : Evolves s0 s) :
    Evolves s0 (State.tsqAppend s p tag stamp) := by
  unfold State.tsqAppend
  extract_lets x0 x1 x2 x3 x4
  have k5 : Evolves s0 x1 := (State.raise_evolves (State.bump_evolves h))
  have k6 : Evolves s0 x4 := (timeUpd_evolves h rfl)
  split
  · split
    · exact (State.raise_evolves (timeUpd_evolves k5 rfl))
    · exact (timeUpd_evolves k5 rfl)
  · exact (State.raiseIf_evolves k6)

theorem State.tsqHead_evolves {s0 : State} {s : State} {m : Option Master} (h : Evolves s0 s) :
    Evolves s0 (State.tsqHead s m).2 := by
  unfold State.tsqHead
  extract_lets x0 x1
  exact (timeUpd_evolves h rfl)

theorem State.tsqPop_evolves {s0 : State} {s : State} {m : Option Master} (h : Evolves s0 s) :
    Evolves s0 (State.tsqPop s m).2 := by
  unfold State.tsqPop
  extract_lets x0 x1 x2 x3 x4
  clear_value x1 x2
  split
  · exact (timeUpd_evolves h rfl)
  · exact (timeUpd_evolves h rfl)

theorem execTsqReadHead_evolves {s0 : State} {m : Master} {s : State} (h : Evolves s0 s) :
    Ends s0 (execTsqReadHead m s) := by
  unfold execTsqReadHead
  exact Ends.next (State.asRead_evolves h (fun a0 k1 => (State.tsqHead_evolves k1)))

theorem execTsqReadPop_evolves {s0 : State} {m : Master} {s : State} (h : Evolves s0 s) :
    Ends s0 (execTsqReadPop m s) := by
  unfold execTsqReadPop
  exact Ends.next (State.asRead_evolves h (fun a0 k1 => (State.tsqPop_evolves k1)))

theorem State.lossHead_evolves {s0 : State} {s : State} {m : Option Master} (h : Evolves s0 s) :
    Evolves s0 (State.lossHead s m).2 := by
  unfold State.lossHead
  extract_lets x0 x1
  exact (timeUpd_evolves h rfl)

theorem State.lossPop_evolves {s0 : State} {s : State} {m : Option Master} (h : Evolves s0 s) :
    Evolves s0 (State.lossPop s m).2 := by
  unfold State.lossPop
  extract_lets x0 x1 x2
  split
  · exact (timeUpd_evolves h rfl)
  · exact (timeUpd_evolves h rfl)

theorem execLossReadHead_evolves {s0 : State} {m : Master} {s : State} (h : Evolves s0 s) :
    Ends s0 (execLossReadHead m s) := by
  unfold execLossReadHead
  exact Ends.next (State.asRead_evolves h (fun a0 k1 => (State.lossHead_evolves k1)))

theorem execLossReadPop_evolves {s0 : State} {m : Master} {s : State} (h : Evolves s0 s) :
    Ends s0 (execLossReadPop m s) := by
  unfold execLossReadPop
  exact Ends.next (State.asRead_evolves h (fun a0 k1 => (State.lossPop_evolves k1)))

theorem execPpsOutEdge_evolves {s0 : State} {n : Fin 4} {s : State} (h : Evolves s0 s) :
    Ends s0 (execPpsOutEdge n s) := by
  unfold execPpsOutEdge
  extract_lets x0 x1 x2 x3 x4
  have k5 : Evolves s0 x2 := (State.setPps_evolves h)
  have k6 : Evolves s0 x4 := (timeUpd_evolves k5 rfl)
  split
  · exact Ends.next k6
  · exact Ends.next h

theorem execPpsOutPulseEnd_evolves {s0 : State} {n : Fin 4} {s : State} (h : Evolves s0 s) :
    Ends s0 (execPpsOutPulseEnd n s) := by
  unfold execPpsOutPulseEnd
  extract_lets x0 x1 x2
  have k3 : Evolves s0 x2 := (timeUpd_evolves h rfl)
  split
  · split
    · exact Ends.next (State.setPps_evolves k3)
    · exact Ends.next h
  · exact Ends.next h

theorem State.ppsInDom_evolves {s0 : State} {s : State} {d : Dom} {n : Nat} {phase : Nat} (h : Evolves s0 s) :
    Evolves s0 (State.ppsInDom s d n phase) := by
  unfold State.ppsInDom
  extract_lets x0 x1 x2 x3
  have k4 : Evolves s0 x3 := (State.setDom_evolves h)
  split
  · exact (State.pushOffset_evolves k4)
  · exact k4

theorem execPpsInEdge_evolves {s0 : State} {n : Fin 2} {phase : Fin 64} {s : State} (h : Evolves s0 s) :
    Ends s0 (execPpsInEdge n phase s) := by
  unfold execPpsInEdge
  extract_lets x0 x1
  have k2 : Evolves s0 x0 := (State.ppsInDom_evolves (State.ppsInDom_evolves h))
  split
  · exact Ends.next (timeUpd_evolves k2 rfl)
  · exact Ends.next h

theorem execPpsinLoss_evolves {s0 : State} {n : Fin 2} {s : State} (h : Evolves s0 s) :
    Ends s0 (execPpsinLoss n s) := by
  unfold execPpsinLoss
  extract_lets x0
  split
  · exact Ends.next (State.raise_evolves (timeUpd_evolves h rfl))
  · exact Ends.next h

theorem State.todDom_evolves {s0 : State} {s : State} {d : Dom} {sec : Nat} (h : Evolves s0 s) :
    Evolves s0 (State.todDom s d sec) := by
  unfold State.todDom
  extract_lets x0
  split
  · split
    · extract_lets x7
      split
      · split
        · exact h
        · exact (State.domRaise_evolves h)
      · split
        · exact (State.jumpDom_evolves (State.setDom_evolves h))
        · exact h
    · exact h
  · exact h

theorem execTodRxMessage_evolves {s0 : State} {msg : TodMessage} {s : State} (h : Evolves s0 s) :
    Ends s0 (execTodRxMessage msg s) := by
  unfold execTodRxMessage
  extract_lets x0 x1
  have k2 : Evolves s0 x1 := (timeUpd_evolves h rfl)
  split
  · split
    · split
      · exact Ends.next (State.todDom_evolves (State.todDom_evolves k2))
      · exact Ends.next k2
    · exact Ends.next (State.raise_evolves h)
  · exact Ends.next h

theorem State.todRead_evolves {s0 : State} {s : State} (h : Evolves s0 s) :
    Evolves s0 (State.todRead s).2 := by
  unfold State.todRead
  split
  · exact h
  · extract_lets x6
    exact (timeUpd_evolves h rfl)

theorem execTodRxdataRead_evolves {s0 : State} {m : Master} {s : State} (h : Evolves s0 s) :
    Ends s0 (execTodRxdataRead m s) := by
  unfold execTodRxdataRead
  exact Ends.next (State.asRead_evolves h (fun a0 k1 => (State.todRead_evolves k1)))

theorem execTodTxMessage_evolves {s0 : State} {s : State} (h : Evolves s0 s) :
    Ends s0 (execTodTxMessage s) := by
  unfold execTodTxMessage
  extract_lets x0
  split
  · split
    · exact Ends.next (State.emit_evolves (timeUpd_evolves h rfl))
    · exact Ends.next h
  · exact Ends.next h

theorem execRefQualify_evolves {s0 : State} {ofs : Word} {s : State} (h : Evolves s0 s) :
    Ends s0 (execRefQualify ofs s) := by
  unfold execRefQualify
  extract_lets x0 x1
  have k2 : Evolves s0 x0 := (State.setRbit_evolves (State.wr_evolves h))
  split
  · exact Ends.next (State.raise_evolves (timeUpd_evolves k2 rfl))
  · exact Ends.next h

theorem execRefLoss_evolves {s0 : State} {s : State} (h : Evolves s0 s) :
    Ends s0 (execRefLoss s) := by
  unfold execRefLoss
  extract_lets x0 x1
  have k2 : Evolves s0 x0 := (State.setRbit_evolves h)
  split
  · exact Ends.next (State.raise_evolves (timeUpd_evolves k2 rfl))
  · exact Ends.next h

theorem execPtmDialog_evolves {s0 : State} {l : Fin 4} {times : Option PtmTimes} {s : State} (h : Evolves s0 s) :
    Ends s0 (execPtmDialog l times s) := by
  unfold execPtmDialog
  split
  · split
    · exact Ends.next (State.raise_evolves h)
    · extract_lets x4 x5 x6 x7 x8 x9 x10 x11 x12 x13
      have k14 : Evolves s0 x6 := (State.setFld_evolves h)
      have k15 : Evolves s0 x12 := (State.emit_evolves (State.emit_evolves (State.emit_evolves k14)))
      split
      · exact Ends.next k14
      · exact Ends.next (timeUpd_evolves k15 rfl)
  · exact Ends.next h

end Sys2Proof.Machine
end

