-- ==== Sys2Proof/Laws/Fabric.lean ====
section
/-! SUPPORT. Every operation of `Sys2Proof/Machine/Fabric.lean` only evolves the state (`Evolves`), one lemma per operation. -/

namespace Sys2Proof.Machine

theorem State.setPisteFound_evolves {s0 : State} {s : State} {f : Nat} {i : Nat} {v : Option (BitVec 64)} (h : Evolves s0 s) :
    Evolves s0 (State.setPisteFound s f i v) := by
  unfold State.setPisteFound
  extract_lets x0
  exact (fabUpd_evolves h)

theorem State.pistePut_evolves {s0 : State} {f : Nat} {s : State} {i _m v : Nat} (h : Evolves s0 s) :
    Evolves s0 (State.pistePut f s i _m v).2 := by
  unfold State.pistePut
  cases pistePair v with
  | false => simpa using State.intgLog_evolves h
  | true =>
    cases hc : (!s.bankWritable (i / 576) || !s.pisteEntryOk (i / 576) (v % 2 ^ 32)) with
    | true => simpa [hc] using h
    | false => simpa [hc] using State.setPisteFound_evolves (State.setTabN_evolves h)

theorem State.pisteClear_evolves {s0 : State} {f : Nat} {s : State} {i : Nat} {_m : Nat} (h : Evolves s0 s) :
    Evolves s0 (State.pisteClear f s i _m).2 := by
  unfold State.pisteClear
  split
  · exact (State.setPisteFound_evolves (State.setTabN_evolves h))
  · exact h

theorem State.pisteUpset_evolves {s0 : State} {s : State} {f : Nat} {i : Nat} {v : Nat} (h : Evolves s0 s) :
    Evolves s0 (State.pisteUpset s f i v) := by
  unfold State.pisteUpset
  split
  · exact (State.setPisteFound_evolves (State.setTabN_evolves h))
  · exact (State.setPisteFound_evolves h)

theorem pisteTable_keeps {f : Nat} :
    WinTable.Keeps (pisteTable f) := by
  unfold pisteTable
  constructor
  · intro s0 s0 i1 m2 w3 k4
    dsimp only
    exact (State.pistePut_evolves k4)
  · intro s0 s5 i6 m7 k9
    dsimp only
    exact (State.pisteClear_evolves k9)

theorem State.pisteCfgWrite_evolves {s0 : State} {s : State} {b : Nat} {v : Nat} (h : Evolves s0 s) :
    Evolves s0 (State.pisteCfgWrite s b v) := by
  unfold State.pisteCfgWrite
  split
  · exact (State.wr_evolves h)
  · exact h

theorem State.setLane_evolves {s0 : State} {s : State} {l : Nat} {x : FLaneSt} (h : Evolves s0 s) :
    Evolves s0 (State.setLane s l x) := by
  unfold State.setLane
  extract_lets x0
  exact (fabUpd_evolves h)

theorem State.setLslot_evolves {s0 : State} {s : State} {l : Nat} {p : Nat} {x : LaneSlotSt} (h : Evolves s0 s) :
    Evolves s0 (State.setLslot s l p x) := by
  unfold State.setLslot
  extract_lets x0
  exact (fabUpd_evolves h)

theorem State.laneSlotSync_evolves {s0 : State} {s : State} {l : Nat} {p : Nat} (h : Evolves s0 s) :
    Evolves s0 (State.laneSlotSync s l p) := by
  unfold State.laneSlotSync
  extract_lets x0 x1 x2 x3 x4
  have k5 : Evolves s0 x1 := (State.setRbit_evolves (State.setRbit_evolves h))
  have k6 : Evolves s0 x4 := (State.setRbit_evolves k5)
  exact (State.raiseIf_evolves (State.raiseIf_evolves k6))

theorem State.laneSync_evolves {s0 : State} {s : State} {l : Nat} (h : Evolves s0 s) :
    Evolves s0 (State.laneSync s l) := by
  unfold State.laneSync
  exact (foldl_evolves _ (fun a0 a1 k2 => (State.laneSlotSync_evolves k2)) h)

theorem State.laneCtrlWrite_evolves {s0 : State} {s : State} {l : Nat} {v : Nat} (h : Evolves s0 s) :
    Evolves s0 (State.laneCtrlWrite s l v) := by
  unfold State.laneCtrlWrite
  exact (State.laneSync_evolves (State.wr_evolves h))

theorem State.lanesAligned_evolves {s0 : State} {s : State} (h : Evolves s0 s) :
    Evolves s0 (State.lanesAligned s).2 := by
  unfold State.lanesAligned
  extract_lets x0
  exact (State.wr_evolves (State.wr_evolves h))

theorem State.setPhase_evolves {s0 : State} {s : State} {p : Nat} {l : Nat} {v : Nat} (h : Evolves s0 s) :
    Evolves s0 (State.setPhase s p l v) := by
  unfold State.setPhase
  exact (State.setTabN_evolves h)

theorem State.phaseMeasured_evolves {s0 : State} {s : State} {p : Nat} {l : Nat} {ph : Nat} (h : Evolves s0 s) :
    Evolves s0 (State.phaseMeasured s p l ph) := by
  unfold State.phaseMeasured
  extract_lets x0 x1
  have k2 : Evolves s0 x1 := by
    subst x1
    split
    · exact (State.bump_evolves h)
    · exact h
  exact (State.setPhase_evolves k2)

theorem phaseTable_keeps {f : Nat} :
    WinTable.Keeps (phaseTable f) := by
  unfold phaseTable
  exact readOnlyTable_keeps

theorem State.pisteStat_evolves {s0 : State} {s : State} {lo : Nat} {w : Nat} {v : Nat} (h : Evolves s0 s) :
    Evolves s0 (State.pisteStat s lo w v) := by
  unfold State.pisteStat
  exact (State.setFld_evolves (State.setFld_evolves h))

theorem State.pisteArm_evolves {s0 : State} {s : State} (h : Evolves s0 s) :
    Evolves s0 (State.pisteArm s) := by
  unfold State.pisteArm
  extract_lets x0 x1
  split
  · exact (State.raise_evolves h)
  · exact (State.pisteStat_evolves (fabUpd_evolves h))

theorem State.pisteDisarm_evolves {s0 : State} {s : State} (h : Evolves s0 s) :
    Evolves s0 (State.pisteDisarm s) := by
  unfold State.pisteDisarm
  extract_lets x0
  exact (State.pisteStat_evolves (fabUpd_evolves h))

theorem State.pisteCtrlWrite_evolves {s0 : State} {s : State} {v : Nat} (h : Evolves s0 s) :
    Evolves s0 (State.pisteCtrlWrite s v) := by
  unfold State.pisteCtrlWrite
  split
  · exact (State.pisteArm_evolves h)
  · exact (State.pisteDisarm_evolves h)
  · exact h

theorem execPisteArm_evolves {s0 : State} {m : Master} {s : State} (h : Evolves s0 s) :
    Ends s0 (execPisteArm m s) := by
  unfold execPisteArm
  exact Ends.next (State.asWrite_evolves h (fun a0 k1 => (State.pisteCtrlWrite_evolves k1)))

theorem execPisteDisarm_evolves {s0 : State} {m : Master} {s : State} (h : Evolves s0 s) :
    Ends s0 (execPisteDisarm m s) := by
  unfold execPisteDisarm
  exact Ends.next (State.asWrite_evolves h (fun a0 k1 => (State.pisteCtrlWrite_evolves k1)))

theorem State.cond2Sync_evolves {s0 : State} {s : State} (h : Evolves s0 s) :
    Evolves s0 (State.cond2Sync s) := by
  unfold State.cond2Sync
  extract_lets x0
  split
  · split
    · split
      · exact h
      · exact (verUpd_evolves h)
    · exact (verUpd_evolves h)
  · exact h

theorem State.swapPhases_evolves {s0 : State} {s : State} {old : Nat} {new : Nat} (h : Evolves s0 s) :
    Evolves s0 (State.swapPhases s old new) := by
  unfold State.swapPhases
  refine foldl_evolves _ ?_ ?_
  · intro a6 a7 k8
    refine foldl_evolves _ ?_ ?_
    · intro a12 a13 k14
      split
      · exact k14
      · exact (State.setPhase_evolves k14)
    · exact k8
  · exact h

theorem State.activate_evolves {s0 : State} {s : State} {b : Nat} (h : Evolves s0 s) :
    Evolves s0 (State.activate s b) := by
  unfold State.activate
  extract_lets x0 x1 x2
  have k3 : Evolves s0 x1 := (State.pisteStat_evolves (State.swapPhases_evolves h))
  have k4 : Evolves s0 x2 := (State.pisteStat_evolves k3)
  exact (State.cond2Sync_evolves (foldl_evolves _ (fun a5 a6 k7 => (State.laneSync_evolves k7)) k4))

theorem execPisteSwap_evolves {s0 : State} {s : State} (h : Evolves s0 s) :
    Ends s0 (execPisteSwap s) := by
  unfold execPisteSwap
  extract_lets x0 x1 x2 x3
  have k4 : Evolves s0 x1 := (State.pisteStat_evolves (fabUpd_evolves h))
  have k5 : Evolves s0 x2 := (State.activate_evolves k4)
  split
  · split
    · exact Ends.next (State.raise_evolves (State.pisteStat_evolves k5))
    · exact Ends.next h
  · exact Ends.next h

end Sys2Proof.Machine
end

