-- ==== Sys2Proof/Laws/Allowance.lean ====
section
/-! SUPPORT. Every operation of `Sys2Proof/Machine/Allowance.lean` only evolves the state (`Evolves`), one lemma per operation. -/

namespace Sys2Proof.Machine

theorem State.setGrant_evolves {s0 : State} {s : State} {i : Nat} {g : Grant} (h : Evolves s0 s) :
    Evolves s0 (State.setGrant s i g) := by
  unfold State.setGrant
  extract_lets x0
  exact (queUpd_evolves h)

theorem State.met_evolves {s0 : State} {s : State} {d : Nat} (h : Evolves s0 s) :
    Evolves s0 (State.met s d) := by
  unfold State.met
  extract_lets x0
  exact (queUpd_evolves h)

theorem State.alwCycle_evolves {s0 : State} {s : State} {t : Nat} (h : Evolves s0 s) :
    Evolves s0 (State.alwCycle s t) := by
  unfold State.alwCycle
  extract_lets x0 x1 x2 x3 x4 x5 x6
  have k7 : Evolves s0 x3 := (queUpd_evolves h)
  have k8 : Evolves s0 x4 := (State.raiseIf_evolves k7)
  exact (queUpd_evolves k8)

theorem State.takeAllowance_evolves {s0 : State} {s : State} {d : Nat} {w : Nat} {r : Nat} (h : Evolves s0 s) :
    Evolves s0 (State.takeAllowance s d w r) := by
  unfold State.takeAllowance
  extract_lets x0 x1 x2 x3
  have k4 : Evolves s0 x2 := (State.setGrant_evolves h)
  split
  · exact h
  · split
    · exact (State.bump_evolves h)
    · exact (State.bump64_evolves (queUpd_evolves k4))

theorem State.takeDemand_evolves {s0 : State} {s : State} {d : Nat} {r : Nat} (h : Evolves s0 s) :
    Evolves s0 (State.takeDemand s d r) := by
  unfold State.takeDemand
  extract_lets x0 x1
  split
  · exact h
  · split
    · exact (State.bump_evolves h)
    · exact (queUpd_evolves h)

theorem State.grantCycle_evolves {s0 : State} {s : State} {a : Nat} (h : Evolves s0 s) :
    Evolves s0 (State.grantCycle s a) := by
  unfold State.grantCycle
  extract_lets x0 x1 x2 x3 x4 x5 x6 x7
  have k8 : Evolves s0 x2 := (State.wr_evolves h)
  have k9 : Evolves s0 x3 := (State.raiseIf_evolves k8)
  have k10 : Evolves s0 x6 := by
    subst x6
    split
    · exact (queUpd_evolves k9)
    · exact k9
  exact (queUpd_evolves k10)

theorem State.alwRecords_evolves {s0 : State} {s : State} {d : Nat} (h : Evolves s0 s) :
    Evolves s0 (State.alwRecords s d).2 := by
  unfold State.alwRecords
  extract_lets x0 x1 x2
  have k3 : Evolves s0 x2 := (queUpd_evolves h)
  split
  · exact h
  · exact (State.bump64_evolves k3)

theorem State.demRecords_evolves {s0 : State} {s : State} {d : Nat} (h : Evolves s0 s) :
    Evolves s0 (State.demRecords s d).2 := by
  unfold State.demRecords
  extract_lets x0 x1 x2 x3 x4
  have k5 : Evolves s0 x4 := (queUpd_evolves h)
  split
  · exact h
  · exact k5

theorem State.setOpen_evolves {s0 : State} {s : State} {k : Nat} {c : Option OpenCell} (h : Evolves s0 s) :
    Evolves s0 (State.setOpen s k c) := by
  unfold State.setOpen
  extract_lets x0
  exact (fabUpd_evolves h)

theorem State.closeCell_evolves {s0 : State} {s : State} {k : Nat} (h : Evolves s0 s) :
    Evolves s0 (State.closeCell s k) := by
  unfold State.closeCell
  split
  · exact h
  · extract_lets x5 x6 x7
    have k8 : Evolves s0 x6 := (State.setOpen_evolves h)
    exact (fabUpd_evolves k8)

theorem State.closeBefore_evolves {s0 : State} {s : State} {k : Nat} {odd : Bool} (h : Evolves s0 s) :
    Evolves s0 (State.closeBefore s k odd) := by
  unfold State.closeBefore
  split
  · split
    · exact (State.closeCell_evolves h)
    · exact h
  · exact h

theorem packGo_evolves {s0 : State} {k : Nat} {all : List Byte} {odd : Bool} {ce : Bool} {bad : Bool} {y5 : Nat} {y6 : Nat} {y7 : Nat} {y8 : State} (h : Evolves s0 y8) :
    Evolves s0 (packGo k all odd ce bad y5 y6 y7 y8).2 := by
  fun_induction packGo k all odd ce bad y5 y6 y7 y8
  · exact h
  · exact h
  · rename_i v8 v9 v10 v11 e12 v13 v14 v15 v16 v17 v18 v19 e20
    have k21 : Evolves s0 v18 := (State.setOpen_evolves h)
    have k22 : Evolves s0 v19 := by
      subst v19
      split
      · exact (State.closeCell_evolves k21)
      · exact k21
    exact (e20 k22)

theorem State.setVoqDeficit_evolves {s0 : State} {s : State} {i : Nat} {c : Nat} {d : Int} (h : Evolves s0 s) :
    Evolves s0 (State.setVoqDeficit s i c d) := by
  unfold State.setVoqDeficit
  extract_lets x0
  exact (queUpd_evolves h)

theorem State.voqClass_evolves {s0 : State} {s : State} {i : Nat} (h : Evolves s0 s) :
    OptAll (fun p => Evolves s0 p.2) (State.voqClass s i) := by
  unfold State.voqClass
  extract_lets cs rounds t
  have ht : Evolves s0 t := by
    subst t
    split
    · exact h
    · exact foldl_evolves _ (fun _ _ g => State.setVoqDeficit_evolves g) h
  clear_value t
  split
  · exact OptAll.some h
  · split
    · exact OptAll.some h
    · exact OptAll.map (fun _ _ => ht)

theorem State.voqTurn_evolves {s0 : State} {s : State} {i : Nat} {high : Bool} (h : Evolves s0 s) :
    Evolves s0 (State.voqTurn s i high) := by
  unfold State.voqTurn
  extract_lets x0
  exact (queUpd_evolves h)

theorem State.voqSend_evolves {s0 : State} {s : State} {i : Nat} {c : Nat} {e : QEnt} {rest : List QEnt} (h : Evolves s0 s) :
    Evolves s0 (State.voqSend s i c e rest) := by
  unfold State.voqSend
  extract_lets x0 x1 x2 x3 x4 x5 x6 x7 x8 x9 x10 x11 x12 x13
  have k14 : Evolves s0 x3 := (State.closeBefore_evolves h)
  have k15 : Evolves s0 x4.2 := by
    subst x4
    split
    · exact (State.ecnTest_evolves k14)
    · exact k14
  have k18 : Evolves s0 x8.2 := (packGo_evolves k15)
  have k19 : Evolves s0 x10 := (State.setGrant_evolves k18)
  have k20 : Evolves s0 x11 := by
    subst x11
    split
    · exact k19
    · exact (State.setVoqDeficit_evolves k19)
  have k23 : Evolves s0 x12 := (State.qCount_evolves (State.qCount_evolves (State.dequeue_evolves k20)))
  split
  · split
    · exact (State.raise_evolves (State.bump_evolves k23))
    · exact k23
  · split
    · exact k20
    · exact (State.setQueue_evolves k20)

theorem execVoqRelease_evolves {s0 : State} {late : Bool} {s : State} (h : Evolves s0 s) :
    Ends s0 (execVoqRelease late s) := by
  unfold execVoqRelease
  split
  · exact Ends.next h
  · split
    · exact Ends.next h
    · split
      · exact Ends.next h
      · rename_i v10 v11 v12 e13
        have k14 : Evolves s0 v12 := (State.voqClass_evolves h) _ e13
        split
        · exact Ends.next h
        · extract_lets x21
          have k22 : Evolves s0 x21 := (State.voqTurn_evolves k14)
          split
          · exact Ends.next (State.badDropped_evolves (State.dequeue_evolves k22))
          · exact Ends.next (State.voqSend_evolves k22)

theorem State.closeAll_evolves {s0 : State} {s : State} (h : Evolves s0 s) :
    Evolves s0 (State.closeAll s) := by
  unfold State.closeAll
  exact (foldl_evolves _ (fun a0 a1 k2 => (State.closeCell_evolves k2)) h)

end Sys2Proof.Machine
end

