-- ==== Sys2Proof/Laws/Threads.lean ====
section
/-! SUPPORT. Every operation of `Sys2Proof/Machine/Threads.lean` only evolves the state (`Evolves`), one lemma per operation. -/

namespace Sys2Proof.Machine

theorem State.setThr_evolves {s0 : State} {s : State} {t : Nat} {x : ThreadSt} (h : Evolves s0 s) :
    Evolves s0 (State.setThr s t x) := by
  unfold State.setThr
  extract_lets x0
  exact (cpuUpd_evolves h)

theorem State.setDeclared_evolves {s0 : State} {s : State} {cl : Nat} {b : Bool} (h : Evolves s0 s) :
    Evolves s0 (State.setDeclared s cl b) := by
  unfold State.setDeclared
  extract_lets x0
  exact (cpuUpd_evolves h)

theorem State.stopWait_evolves {s0 : State} {s : State} {t : Nat} (h : Evolves s0 s) :
    Evolves s0 (State.stopWait s t) := by
  unfold State.stopWait
  split
  · exact (State.setDeclared_evolves h)
  · exact h

theorem State.setPmu_evolves {s0 : State} {s : State} {r : Nat} {x : PmuSt} (h : Evolves s0 s) :
    Evolves s0 (State.setPmu s r x) := by
  unfold State.setPmu
  extract_lets x0
  exact (cpuUpd_evolves h)

theorem State.thrTo_evolves {s0 : State} {s : State} {t : Nat} {st : ThrState} (h : Evolves s0 s) :
    Evolves s0 (State.thrTo s t st) := by
  unfold State.thrTo
  extract_lets x0 x1
  exact (State.setThr_evolves (State.stopWait_evolves h))

theorem State.pmuCount_evolves {s0 : State} {s : State} {t : Nat} {e : Nat} (h : Evolves s0 s) :
    Evolves s0 (State.pmuCount s t e) := by
  unfold State.pmuCount
  extract_lets x0
  split
  · exact h
  · exact (State.setTabN_evolves h)

theorem State.pmuStat_evolves {s0 : State} {s : State} {r : Nat} (h : Evolves s0 s) :
    Evolves s0 (State.pmuStat s r) := by
  unfold State.pmuStat
  extract_lets x0
  exact (State.wr_evolves h)

theorem State.pmuAccrue_evolves {s0 : State} {s : State} {r : Nat} (h : Evolves s0 s) :
    Evolves s0 (State.pmuAccrue s r) := by
  unfold State.pmuAccrue
  refine foldl_evolves _ ?_ ?_
  · intro a3 a4 k5
    extract_lets x6 x7
    exact (State.setThr_evolves k5)
  · exact h

theorem State.pmuThaw_evolves {s0 : State} {s : State} {r : Nat} (h : Evolves s0 s) :
    Evolves s0 (State.pmuThaw s r) := by
  unfold State.pmuThaw
  extract_lets x0 x1
  have k2 : Evolves s0 x1 := by
    subst x1
    split
    · exact (State.pmuAccrue_evolves h)
    · exact h
  exact (State.pmuStat_evolves (State.setPmu_evolves k2))

theorem State.pmuCtrl_evolves {s0 : State} {s : State} {r : Nat} {cmd : Nat} (h : Evolves s0 s) :
    Evolves s0 (State.pmuCtrl s r cmd) := by
  unfold State.pmuCtrl
  extract_lets x0 x1 x2
  split
  · split
    · exact (State.raise_evolves h)
    · exact (State.pmuStat_evolves (State.setPmu_evolves h))
  · exact (State.pmuStat_evolves (State.setPmu_evolves h))
  · exact (State.pmuThaw_evolves h)
  · exact (State.pmuStat_evolves (State.setPmu_evolves h))
  · exact h

theorem State.pmuCmd_evolves {s0 : State} {s : State} {m : Master} {r : Nat} {cmd : Nat} (h : Evolves s0 s) :
    Evolves s0 (State.pmuCmd s m r cmd) := by
  unfold State.pmuCmd
  exact (State.asWrite_evolves h (fun a0 k1 => (State.pmuCtrl_evolves k1)))

theorem execPmuFreeze_evolves {s0 : State} {m : Master} {r : Fin 3} {s : State} (h : Evolves s0 s) :
    Ends s0 (execPmuFreeze m r s) := by
  unfold execPmuFreeze
  exact Ends.next (State.pmuCmd_evolves h)

theorem execPmuThawAt_evolves {s0 : State} {m : Master} {r : Fin 3} {s : State} (h : Evolves s0 s) :
    Ends s0 (execPmuThawAt m r s) := by
  unfold execPmuThawAt
  exact Ends.next (State.pmuCmd_evolves h)

theorem execPmuThawNow_evolves {s0 : State} {m : Master} {r : Fin 3} {s : State} (h : Evolves s0 s) :
    Ends s0 (execPmuThawNow m r s) := by
  unfold execPmuThawNow
  exact Ends.next (State.pmuCmd_evolves h)

theorem execPmuDisarm_evolves {s0 : State} {m : Master} {r : Fin 3} {s : State} (h : Evolves s0 s) :
    Ends s0 (execPmuDisarm m r s) := by
  unfold execPmuDisarm
  exact Ends.next (State.pmuCmd_evolves h)

theorem execPmuInstant_evolves {s0 : State} {r : Fin 3} {s : State} (h : Evolves s0 s) :
    Ends s0 (execPmuInstant r s) := by
  unfold execPmuInstant
  extract_lets x0
  split
  · split
    · exact Ends.next (State.pmuStat_evolves (State.setPmu_evolves (State.pmuAccrue_evolves h)))
    · exact Ends.next h
  · split
    · exact Ends.next (State.pmuThaw_evolves h)
    · exact Ends.next h
  · exact Ends.next h

theorem execSamplerOverflow_evolves {s0 : State} {t : Fin 384} {evt : Fin 32} {pc : BitVec 64} {s : State} (h : Evolves s0 s) :
    Ends s0 (execSamplerOverflow t evt pc s) := by
  unfold execSamplerOverflow
  extract_lets x0
  split
  · exact Ends.next h
  · exact Ends.next (State.setThr_evolves h)

theorem State.thrRun_evolves {s0 : State} {s : State} {t : Nat} (h : Evolves s0 s) :
    Evolves s0 (State.thrRun s t) := by
  unfold State.thrRun
  extract_lets x0 x1
  have k2 : Evolves s0 x0 := (State.thrTo_evolves h)
  exact (cpuUpd_evolves k2)

theorem State.thrWake_evolves {s0 : State} {s : State} {t : Nat} (h : Evolves s0 s) :
    Evolves s0 (State.thrWake s t) := by
  unfold State.thrWake
  extract_lets x0 x1
  have k2 : Evolves s0 x0 := by
    subst x0
    split
    · exact (State.thrTo_evolves h)
    · exact (State.thrRun_evolves h)
  exact (State.setThr_evolves k2)

theorem State.setX_evolves {s0 : State} {s : State} {t : Nat} {rd : Nat} {v : BitVec 64} (h : Evolves s0 s) :
    Evolves s0 (State.setX s t rd v) := by
  unfold State.setX
  extract_lets x0
  split
  · exact h
  · exact (State.setThr_evolves h)

theorem execThreadSwitch_evolves {s0 : State} {core : Fin 96} {why : SwitchWhy} {s : State} (h : Evolves s0 s) :
    Ends s0 (execThreadSwitch core why s) := by
  unfold execThreadSwitch
  extract_lets running leave
  have hl (t e : Nat) : Evolves s0 (leave t e) := by
    subst leave
    dsimp only
    split
    · exact State.thrRun_evolves (State.pmuCount_evolves (State.pmuCount_evolves (State.thrTo_evolves h)))
    · exact State.pmuCount_evolves (State.thrTo_evolves h)
  clear_value running leave
  split
  · exact Ends.next (hl _ _)
  · exact Ends.next (hl _ _)
  · split
    · refine Ends.next (State.thrRun_evolves ?_)
      split
      · exact h
      · exact State.pmuCount_evolves h
    · exact Ends.next h
  · dsimp only
    split
    · exact Ends.next (State.thrWake_evolves h)
    · exact Ends.next h
  · exact Ends.next h

theorem State.takeEvents_evolves {s0 : State} {s : State} {t : Nat} {rd : Nat} {v : Nat} {clear : Nat} (h : Evolves s0 s) :
    Evolves s0 (State.takeEvents s t rd v clear) := by
  unfold State.takeEvents
  exact (State.setX_evolves (State.wr64_evolves h))

theorem execEvWait_evolves {s0 : State} {t : Fin 384} {rd : Fin 32} {mask : BitVec 64} {timeout : BitVec 64} {s : State} (h : Evolves s0 s) :
    Ends s0 (execEvWait t rd mask timeout s) := by
  unfold execEvWait
  extract_lets x0 x1 x2 x3
  have k4 : Evolves s0 x2 := (State.thrTo_evolves (State.pmuCount_evolves h))
  split
  · split
    · exact Ends.next (State.takeEvents_evolves h)
    · exact Ends.next (State.setThr_evolves k4)
  · exact Ends.next h

theorem execEvPoll_evolves {s0 : State} {t : Fin 384} {rd : Fin 32} {mask : BitVec 64} {s : State} (h : Evolves s0 s) :
    Ends s0 (execEvPoll t rd mask s) := by
  unfold execEvPoll
  extract_lets x0
  split
  · exact Ends.next (State.takeEvents_evolves h)
  · exact Ends.next h

theorem execEvWaitWake_evolves {s0 : State} {t : Fin 384} {s : State} (h : Evolves s0 s) :
    Ends s0 (execEvWaitWake t s) := by
  unfold execEvWaitWake
  split
  · extract_lets x7
    split
    · exact Ends.next (State.thrWake_evolves (State.takeEvents_evolves h))
    · exact Ends.next h
  · exact Ends.next h

theorem execEvWaitTimeout_evolves {s0 : State} {t : Fin 384} {s : State} (h : Evolves s0 s) :
    Ends s0 (execEvWaitTimeout t s) := by
  unfold execEvWaitTimeout
  split
  · split
    · exact Ends.next (State.thrWake_evolves (State.setX_evolves h))
    · exact Ends.next h
  · exact Ends.next h

theorem State.miskind_evolves {s0 : State} {s : State} {t : Nat} (h : Evolves s0 s) :
    Evolves s0 (State.miskind s t) := by
  unfold State.miskind
  exact (State.raise_evolves (State.bump_evolves h))

theorem State.threadEvent_evolves {s0 : State} {s : State} {t : Nat} {i : Nat} (h : Evolves s0 s) :
    Evolves s0 (State.threadEvent s t i) := by
  unfold State.threadEvent
  split
  · exact h
  · split
    · exact (State.setEvent_evolves h)
    · exact (State.miskind_evolves h)

theorem execEvSend_evolves {s0 : State} {t : Fin 384} {rd : Fin 32} {target : BitVec 64} {input : BitVec 64} {s : State} (h : Evolves s0 s) :
    Ends s0 (execEvSend t rd target input s) := by
  unfold execEvSend
  extract_lets x0 x1
  split
  · split
    · exact Ends.next (State.setX_evolves h)
    · split
      · exact Ends.next (State.setX_evolves h)
      · split
        · exact Ends.next (State.setX_evolves (State.miskind_evolves h))
        · refine Ends.next ?_
          refine State.setX_evolves ?_
          · split
            · exact h
            · exact (State.pmuCount_evolves (State.setEvent_evolves h))
  · exact Ends.next h

theorem execInterruptFileWrite_evolves {s0 : State} {m : Master} {t : Fin 384} {v : Word} {s : State} (h : Evolves s0 s) :
    Ends s0 (execInterruptFileWrite m t v s) := by
  unfold execInterruptFileWrite
  extract_lets x0 x1
  split
  · exact Ends.next (State.setThr_evolves h)
  · exact Ends.next h

theorem execTimerInterrupt_evolves {s0 : State} {t : Fin 384} {s : State} (h : Evolves s0 s) :
    Ends s0 (execTimerInterrupt t s) := by
  unfold execTimerInterrupt
  extract_lets x0
  split
  · exact Ends.next (State.setThr_evolves h)
  · exact Ends.next h

theorem State.timerLevel_evolves {s0 : State} {s : State} {t : Nat} (h : Evolves s0 s) :
    Evolves s0 (State.timerLevel s t) := by
  unfold State.timerLevel
  extract_lets x0
  split
  · exact h
  · exact (State.setThr_evolves h)

end Sys2Proof.Machine
end

