-- ==== Sys2Proof/Laws/Channels.lean ====
section
/-! SUPPORT. Every operation of `Sys2Proof/Machine/Channels.lean` only evolves the state (`Evolves`), one lemma per operation. -/

namespace Sys2Proof.Machine

theorem State.setChan_evolves {s0 : State} {s : State} {c : Nat} {x : ChanSt} (h : Evolves s0 s) :
    Evolves s0 (State.setChan s c x) := by
  unfold State.setChan
  extract_lets x0
  exact (cpuUpd_evolves h)

theorem State.chCount_evolves {s0 : State} {s : State} {c : Nat} {lo : Nat} {w : Nat} (h : Evolves s0 s) :
    Evolves s0 (State.chCount s c lo w) := by
  unfold State.chCount
  extract_lets x0 x1
  split
  · exact h
  · exact (State.setTabN_evolves h)

theorem State.chDrop_evolves {s0 : State} {s : State} {c : Nat} {lo : Nat} (h : Evolves s0 s) :
    Evolves s0 (State.chDrop s c lo) := by
  unfold State.chDrop
  exact (State.raise_evolves (State.chCount_evolves h))

theorem chanTable_keeps {r : Nat} :
    WinTable.Keeps (chanTable r) := by
  unfold chanTable
  constructor
  · intro s0 s0 i1 m2 w3 k4
    dsimp only
    split
    · exact (State.wr_evolves (State.setTabN_evolves k4))
    · exact (State.raise_evolves k4)
  · intro s0 s7 i8 m9 k11
    dsimp only
    split
    · exact (State.raise_evolves k11)
    · exact (State.setTabN_evolves k11)

theorem chanCounters_keeps {r : Nat} :
    WinTable.Keeps (chanCounters r) := by
  unfold chanCounters
  constructor
  · intro s0 s0 i1 m2 w3 k4
    dsimp only
    exact (State.setTabN_evolves k4)
  · intro s0 s5 i6 m7 k9
    dsimp only
    exact (State.setTabN_evolves k9)

theorem cpuChnTable_keeps {r : Nat} {y1 : Nat} :
    OptAll WinTable.Keeps (cpuChnTable r y1) := by
  unfold cpuChnTable
  split
  · refine OptAll.some ?_
    exact chanTable_keeps
  · refine OptAll.some ?_
    exact chanCounters_keeps
  · exact OptAll.none

theorem State.chAppend_evolves {s0 : State} {s : State} {c : Nat} {desc : List Byte} (h : Evolves s0 s) :
    Evolves s0 (State.chAppend s c desc) := by
  unfold State.chAppend
  extract_lets x0 x1 x2 x3
  have k4 : Evolves s0 x2 := (State.hbmStore_evolves h)
  have k5 : Evolves s0 x3 := (State.chCount_evolves (State.setChan_evolves k4))
  split
  · split
    · exact (State.threadEvent_evolves k5)
    · exact (State.deviceEvent_evolves k5)
  · exact k5

theorem State.chTake_evolves {s0 : State} {s : State} {c : Nat} (h : Evolves s0 s) :
    Evolves s0 (State.chTake s c).2 := by
  unfold State.chTake
  extract_lets x0 x1
  exact (State.chCount_evolves (State.setChan_evolves h))

theorem State.chDevice_evolves {s0 : State} {s : State} {c : Nat} {kind : Nat} {desc : List Byte} (h : Evolves s0 s) :
    Evolves s0 (State.chDevice s c kind desc).2 := by
  unfold State.chDevice
  extract_lets x0
  split
  · exact h
  · split
    · exact (State.chDrop_evolves h)
    · exact (State.chAppend_evolves (State.setChan_evolves h))

theorem State.acquire_evolves {s0 : State} {s : State} {t : Nat} {c : Nat} (h : Evolves s0 s) :
    OptAll (fun p => Evolves s0 p.2) (State.acquire s t c) := by
  unfold State.acquire
  extract_lets x0 x1
  split
  · refine OptAll.some ?_
    exact h
  · split
    · refine OptAll.some ?_
      exact h
    · split
      · refine OptAll.some ?_
        exact h
      · split
        · refine OptAll.some ?_
          exact h
        · split
          · refine OptAll.some ?_
            exact (State.setChan_evolves (State.setThr_evolves h))
          · exact OptAll.none

theorem execChAcq_evolves {s0 : State} {t : Fin 384} {rd : Fin 32} {ch : BitVec 64} {s : State} (h : Evolves s0 s) :
    Ends s0 (execChAcq t rd ch s) := by
  unfold execChAcq
  extract_lets x0 x1
  have k2 : Evolves s0 x0 := (State.thrTo_evolves (State.pmuCount_evolves h))
  split
  · split
    · rename_i v4 v5 v6 e7
      have k8 : Evolves s0 v6 := (State.acquire_evolves h) _ e7
      exact Ends.next (State.setX_evolves k8)
    · exact Ends.next (State.setThr_evolves k2)
  · exact Ends.next h

theorem execChAcqWake_evolves {s0 : State} {t : Fin 384} {s : State} (h : Evolves s0 s) :
    Ends s0 (execChAcqWake t s) := by
  unfold execChAcqWake
  split
  · split
    · rename_i v6 v7 v8 e9
      have k10 : Evolves s0 v8 := (State.acquire_evolves h) _ e9
      exact Ends.next (State.thrWake_evolves (State.setX_evolves k10))
    · exact Ends.next h
  · exact Ends.next h

theorem execChTryacq_evolves {s0 : State} {t : Fin 384} {rd : Fin 32} {ch : BitVec 64} {s : State} (h : Evolves s0 s) :
    Ends s0 (execChTryacq t rd ch s) := by
  unfold execChTryacq
  split
  · split
    · rename_i v1 v2 v3 e4
      have k5 : Evolves s0 v3 := (State.acquire_evolves h) _ e4
      exact Ends.next (State.setX_evolves k5)
    · exact Ends.next (State.setX_evolves h)
  · exact Ends.next h

theorem State.stageFree_evolves {s0 : State} {s : State} {t : Nat} {i : Nat} {x : StageSlot} (h : Evolves s0 s) :
    Evolves s0 (State.stageFree s t i x) := by
  unfold State.stageFree
  extract_lets x0 x1 x2
  have k3 : Evolves s0 x1 := (State.setThr_evolves h)
  split
  · exact (State.setChan_evolves k3)
  · exact k3

theorem execChPost_evolves {s0 : State} {t : Fin 384} {rd : Fin 32} {slot : BitVec 64} {data : BitVec 512} {s : State} (h : Evolves s0 s) :
    Ends s0 (execChPost t rd slot data s) := by
  unfold execChPost
  split
  · split
    · exact Ends.next (State.setX_evolves h)
    · split
      · exact Ends.next (State.setX_evolves h)
      · split
        · exact Ends.next (State.setX_evolves h)
        · exact Ends.next (State.setX_evolves (State.pmuCount_evolves (State.chAppend_evolves (State.stageFree_evolves h))))
  · exact Ends.next h

theorem State.stageDrop_evolves {s0 : State} {s : State} {t : Nat} {i : Nat} {x : StageSlot} (h : Evolves s0 s) :
    Evolves s0 (State.stageDrop s t i x) := by
  unfold State.stageDrop
  extract_lets x0 x1
  have k2 : Evolves s0 x0 := (State.stageFree_evolves h)
  exact (State.setChan_evolves k2)

theorem execChDrop_evolves {s0 : State} {t : Fin 384} {rd : Fin 32} {slot : BitVec 64} {s : State} (h : Evolves s0 s) :
    Ends s0 (execChDrop t rd slot s) := by
  unfold execChDrop
  split
  · split
    · exact Ends.next (State.setX_evolves h)
    · exact Ends.next (State.setX_evolves (State.stageDrop_evolves h))
  · exact Ends.next h

theorem State.receive_evolves {s0 : State} {s : State} {t : Nat} {c : Nat} (h : Evolves s0 s) :
    OptAll (fun p => Evolves s0 p.2) (State.receive s t c) := by
  unfold State.receive
  extract_lets x0 x1 x2
  have k3 : Evolves s0 x1.2 := (State.chTake_evolves h)
  split
  · refine OptAll.some ?_
    exact h
  · split
    · refine OptAll.some ?_
      exact h
    · split
      · refine OptAll.some ?_
        exact h
      · split
        · refine OptAll.some ?_
          exact h
        · split
          · exact OptAll.none
          · refine OptAll.some ?_
            exact (State.pmuCount_evolves (State.setThr_evolves k3))

theorem execChRecv_evolves {s0 : State} {t : Fin 384} {rd : Fin 32} {ch : BitVec 64} {s : State} (h : Evolves s0 s) :
    Ends s0 (execChRecv t rd ch s) := by
  unfold execChRecv
  extract_lets x0 x1
  have k2 : Evolves s0 x0 := (State.thrTo_evolves (State.pmuCount_evolves h))
  split
  · split
    · rename_i v4 v5 v6 e7
      have k8 : Evolves s0 v6 := (State.receive_evolves h) _ e7
      exact Ends.next (State.setX_evolves k8)
    · exact Ends.next (State.setThr_evolves k2)
  · exact Ends.next h

theorem execChRecvWake_evolves {s0 : State} {t : Fin 384} {s : State} (h : Evolves s0 s) :
    Ends s0 (execChRecvWake t s) := by
  unfold execChRecvWake
  split
  · split
    · rename_i v6 v7 v8 e9
      have k10 : Evolves s0 v8 := (State.receive_evolves h) _ e9
      exact Ends.next (State.thrWake_evolves (State.setX_evolves k10))
    · exact Ends.next h
  · exact Ends.next h

theorem execChTryrecv_evolves {s0 : State} {t : Fin 384} {rd : Fin 32} {ch : BitVec 64} {s : State} (h : Evolves s0 s) :
    Ends s0 (execChTryrecv t rd ch s) := by
  unfold execChTryrecv
  split
  · split
    · rename_i v1 v2 v3 e4
      have k5 : Evolves s0 v3 := (State.receive_evolves h) _ e4
      exact Ends.next (State.setX_evolves k5)
    · exact Ends.next (State.setX_evolves h)
  · exact Ends.next h

theorem execChFree_evolves {s0 : State} {t : Fin 384} {rd : Fin 32} {slot : BitVec 64} {s : State} (h : Evolves s0 s) :
    Ends s0 (execChFree t rd slot s) := by
  unfold execChFree
  split
  · split
    · exact Ends.next (State.setX_evolves h)
    · extract_lets x6
      exact Ends.next (State.setX_evolves (State.setThr_evolves h))
  · exact Ends.next h

theorem State.thrHold_evolves {s0 : State} {s : State} {t : Nat} (h : Evolves s0 s) :
    Evolves s0 (State.thrHold s t) := by
  unfold State.thrHold
  extract_lets x0 x1 x2
  have k3 : Evolves s0 x0 := by
    subst x0
    refine foldl_evolves _ ?_ ?_
    · intro a10 a11 k12
      split
      · exact (State.stageDrop_evolves k12)
      · exact k12
    · exact h
  have k18 : Evolves s0 x1 := by
    subst x1
    refine foldl_evolves _ ?_ ?_
    · intro a25 a26 k27
      split
      · exact (State.chDrop_evolves k27)
      · exact k27
    · exact k3
  exact (State.setThr_evolves (State.wr64_evolves (State.wr64_evolves (State.stopWait_evolves k18))))

theorem State.slotsReturn_evolves {s0 : State} {s : State} {r : Nat} (h : Evolves s0 s) :
    Evolves s0 (State.slotsReturn s r) := by
  unfold State.slotsReturn
  refine foldl_evolves _ ?_ ?_
  · intro a6 a7 k8
    refine foldl_evolves _ ?_ ?_
    · intro a12 a13 k14
      split
      · split
        · exact (State.stageDrop_evolves k14)
        · exact k14
      · exact k14
    · exact k8
  · exact h

theorem State.thrStart_evolves {s0 : State} {s : State} {t : Nat} (h : Evolves s0 s) :
    Evolves s0 (State.thrStart s t) := by
  unfold State.thrStart
  extract_lets x0 x1
  have k2 : Evolves s0 x0 := (foldl_evolves _ (fun a3 a4 k5 => (State.setTabN_evolves k5)) h)
  exact (State.setThr_evolves k2)

theorem State.masterStart_evolves {s0 : State} {s : State} {r : Nat} (h : Evolves s0 s) :
    Evolves s0 (State.masterStart s r) := by
  unfold State.masterStart
  extract_lets x0 x1 x2 x3
  have k4 : Evolves s0 x1 := (State.thrStart_evolves h)
  exact (State.setThr_evolves k4)

theorem State.ctxWrite_evolves {s0 : State} {s : State} {m : Master} {r : Nat} {off : Nat} {f : State → State} (h0 : Evolves s0 s) (h1 : ∀ b0, Evolves s0 b0 → Evolves s0 (f b0)) :
    Evolves s0 (State.ctxWrite s m r off f) := by
  unfold State.ctxWrite
  refine State.asWrite_evolves ?_ ?_
  · exact h0
  · intro a2 k3
    split
    · exact (h1 _ k3)
    · exact (State.accessRefused_evolves k3)

theorem State.ctxErr_evolves {s0 : State} {s : State} {r : Nat} {e : Nat} (h : Evolves s0 s) :
    Evolves s0 (State.ctxErr s r e) := by
  unfold State.ctxErr
  exact (State.wr_evolves h)

theorem State.ctxCmd_evolves {s0 : State} {s : State} {r : Nat} {cmd : Nat} (h : Evolves s0 s) :
    Evolves s0 (State.ctxCmd s r cmd) := by
  unfold State.ctxCmd
  extract_lets x0 x1 x2 x3 x4 x5 x6
  split
  · exact (State.ctxErr_evolves h)
  · split
    · exact (State.ctxErr_evolves (State.setThr_evolves h))
    · exact (State.ctxErr_evolves (State.wr64_evolves h))
    · exact (State.ctxErr_evolves (State.thrStart_evolves h))
    · exact (State.ctxErr_evolves (State.thrHold_evolves h))
    · exact h

theorem State.ctxRun_evolves {s0 : State} {s : State} {m : Master} {r : Nat} {cmd : Nat} (h : Evolves s0 s) :
    Evolves s0 (State.ctxRun s m r cmd) := by
  unfold State.ctxRun
  exact (State.ctxWrite_evolves h (fun a0 k1 => (State.ctxCmd_evolves k1)))

theorem execCtxWrite_evolves {s0 : State} {m : Master} {r : Fin 3} {s : State} (h : Evolves s0 s) :
    Ends s0 (execCtxWrite m r s) := by
  unfold execCtxWrite
  exact Ends.next (State.ctxRun_evolves h)

theorem execCtxRead_evolves {s0 : State} {m : Master} {r : Fin 3} {s : State} (h : Evolves s0 s) :
    Ends s0 (execCtxRead m r s) := by
  unfold execCtxRead
  exact Ends.next (State.ctxRun_evolves h)

theorem execCtxRelease_evolves {s0 : State} {m : Master} {r : Fin 3} {s : State} (h : Evolves s0 s) :
    Ends s0 (execCtxRelease m r s) := by
  unfold execCtxRelease
  exact Ends.next (State.ctxRun_evolves h)

theorem execCtxReset_evolves {s0 : State} {m : Master} {r : Fin 3} {s : State} (h : Evolves s0 s) :
    Ends s0 (execCtxReset m r s) := by
  unfold execCtxReset
  exact Ends.next (State.ctxRun_evolves h)

theorem State.slotHeld_evolves {s0 : State} {s : State} {t : Nat} {i : Nat} {x : StageSlot} (h : Evolves s0 s) :
    Evolves s0 (State.slotHeld s t i x) := by
  unfold State.slotHeld
  extract_lets x0 x1 x2 x3
  have k4 : Evolves s0 x2 := by
    subst x2
    split
    · exact h
    · exact (State.setChan_evolves (State.setThr_evolves h))
  have k7 : Evolves s0 x3 := (State.wr_evolves k4)
  exact (State.raise_evolves k7)

theorem State.debugHalt_evolves {s0 : State} {s : State} {t : Nat} (h : Evolves s0 s) :
    Evolves s0 (State.debugHalt s t) := by
  unfold State.debugHalt
  extract_lets x0
  split
  · exact h
  · refine foldl_evolves _ ?_ ?_
    · intro a6 a7 k8
      split
      · exact (State.slotHeld_evolves k8)
      · exact k8
    · exact (State.thrTo_evolves h)

theorem State.debugResume_evolves {s0 : State} {s : State} {t : Nat} (h : Evolves s0 s) :
    Evolves s0 (State.debugResume s t) := by
  unfold State.debugResume
  split
  · exact (State.thrTo_evolves h)
  · exact h

theorem execDebugHalt_evolves {s0 : State} {t : Fin 384} {s : State} (h : Evolves s0 s) :
    Ends s0 (execDebugHalt t s) := by
  unfold execDebugHalt
  exact Ends.next (State.debugHalt_evolves h)

theorem execDebugResume_evolves {s0 : State} {t : Fin 384} {s : State} (h : Evolves s0 s) :
    Ends s0 (execDebugResume t s) := by
  unfold execDebugResume
  exact Ends.next (State.debugResume_evolves h)

theorem State.masterWoken_evolves {s0 : State} {s : State} {t : Nat} (h : Evolves s0 s) :
    Evolves s0 (State.masterWoken s t) := by
  unfold State.masterWoken
  extract_lets x0
  split
  · exact h
  · split
    · extract_lets x8
      exact (State.thrWake_evolves (State.takeEvents_evolves h))
    · exact (State.thrWake_evolves (State.setX_evolves h))
    · exact (State.thrWake_evolves (State.setX_evolves h))
    · exact h

theorem execDeadlock_evolves {s0 : State} {cl : Fin 12} {s : State} (h : Evolves s0 s) :
    Ends s0 (execDeadlock cl s) := by
  unfold execDeadlock
  extract_lets x0 x1 x2 x3 x4 x5
  have k6 : Evolves s0 x4 := (State.bump_evolves (State.wr_evolves (State.setDeclared_evolves h)))
  have k7 : Evolves s0 x5 := by
    subst x5
    split
    · exact k6
    · exact (State.setEvent_evolves k6)
  split
  · exact Ends.next h
  · exact Ends.next (State.raise_evolves (State.masterWoken_evolves k7))

end Sys2Proof.Machine
end

