-- ==== Sys2Proof/Laws/Debug.lean ====
section
/-! SUPPORT. Every operation of `Sys2Proof/Machine/Debug.lean` only evolves the state (`Evolves`), one lemma per operation. -/

namespace Sys2Proof.Machine

theorem State.dmControl_evolves {s0 : State} {s : State} {r : Nat} {v : Nat} (h : Evolves s0 s) :
    Evolves s0 (State.dmControl s r v) := by
  unfold State.dmControl
  extract_lets x0 x1
  have k2 : Evolves s0 x1 := (State.wr_evolves h)
  split
  · exact (State.wr_evolves h)
  · split
    · exact (State.wr_evolves h)
    · split
      · exact (State.debugHalt_evolves k2)
      · split
        · exact (State.debugResume_evolves k2)
        · exact k2

theorem State.abstractCsWrite_evolves {s0 : State} {s : State} {r : Nat} {v : Nat} (h : Evolves s0 s) :
    Evolves s0 (State.abstractCsWrite s r v) := by
  unfold State.abstractCsWrite
  extract_lets x0
  exact (State.setFld_evolves h)

theorem State.cmdErr_evolves {s0 : State} {s : State} {r : Nat} {e : Nat} (h : Evolves s0 s) :
    Evolves s0 (State.cmdErr s r e) := by
  unfold State.cmdErr
  exact (State.setFld_evolves h)

theorem State.accessRegister_evolves {s0 : State} {s : State} {r : Nat} {v : Nat} (h : Evolves s0 s) :
    Evolves s0 (State.accessRegister s r v) := by
  unfold State.accessRegister
  extract_lets x0 x1 x2 x3 x4
  split
  · exact (State.cmdErr_evolves h)
  · extract_lets x10
    split
    · split
      · exact h
      · exact (State.wr64_evolves h)
    · split
      · exact (State.setThr_evolves h)
      · split
        · exact (State.wr64_evolves h)
        · exact (State.wr_evolves h)

theorem State.abstractCommand_evolves {s0 : State} {s : State} {r : Nat} {v : Nat} (h : Evolves s0 s) :
    Evolves s0 (State.abstractCommand s r v) := by
  unfold State.abstractCommand
  split
  · exact h
  · split
    · exact (State.cmdErr_evolves h)
    · split
      · exact (State.cmdErr_evolves h)
      · split
        · exact (State.accessRegister_evolves h)
        · exact h

theorem State.dmiWrite_evolves {s0 : State} {s : State} {r : Nat} {off : Nat} {v : Nat} {store : State} (h0 : Evolves s0 s) (h1 : Evolves s0 store) :
    Evolves s0 (State.dmiWrite s r off v store) := by
  unfold State.dmiWrite
  split
  · exact (State.dmControl_evolves h0)
  · split
    · exact h0
    · split
      · exact (State.abstractCsWrite_evolves h0)
      · split
        · exact (State.abstractCommand_evolves h0)
        · exact h1

end Sys2Proof.Machine
end

