-- ==== Sys2Proof/Laws/Spread.lean ====
section
/-! SUPPORT. Every operation of `Sys2Proof/Machine/Spread.lean` only evolves the state (`Evolves`), one lemma per operation. -/

namespace Sys2Proof.Machine

theorem State.setOvc_evolves {s0 : State} {s : State} {n : Nat} {x : OvcSt} (h : Evolves s0 s) :
    Evolves s0 (State.setOvc s n x) := by
  unfold State.setOvc
  extract_lets x0
  exact (fabUpd_evolves h)

theorem State.ovcTake_evolves {s0 : State} {s : State} {l : Nat} {p : Nat} (h : Evolves s0 s) :
    Evolves s0 (State.ovcTake s l p).2 := by
  unfold State.ovcTake
  split
  · extract_lets x3
    exact (State.setOvc_evolves h)
  · exact h

theorem State.setRelayQ_evolves {s0 : State} {s : State} {d : Nat} {l : List HeldCell} (h : Evolves s0 s) :
    Evolves s0 (State.setRelayQ s d l) := by
  unfold State.setRelayQ
  extract_lets x0
  exact (fabUpd_evolves h)

theorem relayGo_evolves {s0 : State} {y0 : List (Nat × Nat)} {y1 : State} {y2 : List (Nat × Cell)} (h : Evolves s0 y1) :
    Evolves s0 (relayGo y0 y1 y2).2.2 := by
  fun_induction relayGo y0 y1 y2
  · exact h
  · rename_i v2 v3 v4 v5 v6 v7 v8 v9 v10 e11
    have k12 : Evolves s0 v8 := (State.setRelayQ_evolves (State.freeCells_evolves h))
    have k13 : Evolves s0 v9 := (State.bump64_evolves k12)
    have k14 : Evolves s0 v10.2.2 := (e11 k13)
    exact k14

theorem State.takeSeq_evolves {s0 : State} {s : State} {d : Nat} (h : Evolves s0 s) :
    Evolves s0 (State.takeSeq s d).2 := by
  unfold State.takeSeq
  extract_lets x0 x1
  exact (fabUpd_evolves h)

theorem inflLeave_evolves {s0 : State} {odd : Bool} {y1 : Nat} {y2 : State} (h : Evolves s0 y2) :
    Evolves s0 (inflLeave odd y1 y2) := by
  fun_induction inflLeave odd y1 y2
  · exact h
  · rename_i v1 v2 e3
    apply e3
    · exact (State.inflSub_evolves h)

theorem spreadGo_evolves {s0 : State} {y0 : Nat} {y1 : List (Nat × Nat)} {y2 : State} {y3 : List (Nat × Cell)} (h : Evolves s0 y2) :
    Evolves s0 (spreadGo y0 y1 y2 y3).2 := by
  fun_induction spreadGo y0 y1 y2 y3
  · exact h
  · exact h
  · exact h
  · rename_i v13 v14 v15 v16 v17 v18 v19 e20 e21
    exact (e21 h)
  · rename_i v22 v23 v24 v25 v26 v27 v28 v29 e30 e31 v32 v33 e34
    have k35 : Evolves s0 v32 := (fabUpd_evolves h)
    have k36 : Evolves s0 v33.2 := (State.takeSeq_evolves k35)
    extract_lets x37
    apply e34
    · exact (inflLeave_evolves k36)

theorem State.laneHeader_evolves {s0 : State} {s : State} {k : Nat} {l : Nat} {p : Nat} {peer : Nat} {used : Bool} (h : Evolves s0 s) :
    Evolves s0 (State.laneHeader s k l p peer used).2 := by
  unfold State.laneHeader
  extract_lets x0 x1 x2 x3 x4 x5 x6 x7 x8 x9 x10
  have k11 : Evolves s0 x4.2 := by
    subst x4
    split
    · exact (State.alwRecords_evolves h)
    · exact h
  have k14 : Evolves s0 x5.2 := by
    subst x5
    split
    · exact (State.demRecords_evolves k11)
    · exact k11
  have k17 : Evolves s0 x6.2 := by
    subst x6
    split
    · exact (State.ovcTake_evolves k14)
    · exact k14
  exact (State.setLane_evolves k17)

theorem State.laneSend_evolves {s0 : State} {s : State} {k : Nat} {b : Nat} {p : Nat} {l : Nat} {cells : List (Nat × Cell)} (h : Evolves s0 s) :
    Evolves s0 (State.laneSend s k b p l cells) := by
  unfold State.laneSend
  extract_lets x0 x1 x2 x3
  have k4 : Evolves s0 x1.2 := (State.laneHeader_evolves h)
  have k5 : Evolves s0 x3 := (State.bump64_evolves k4)
  exact (State.emit_evolves k5)

theorem State.pisteRead_evolves {s0 : State} {s : State} {b : Nat} {p : Nat} {l : Nat} (h : Evolves s0 s) :
    Evolves s0 (State.pisteRead s b p l) := by
  unfold State.pisteRead
  split
  · exact (State.intgLog_evolves h)
  · exact h

theorem State.latchAdv_evolves {s0 : State} {s : State} (h : Evolves s0 s) :
    Evolves s0 (State.latchAdv s) := by
  unfold State.latchAdv
  exact (foldl_evolves _ (fun a0 a1 k2 => (State.setLane_evolves k2)) h)

theorem State.fillSlot_evolves {s0 : State} {s : State} {k : Nat} (h : Evolves s0 s) : Evolves s0 (State.fillSlot s k) := by
  unfold State.fillSlot
  extract_lets b p t lanes u down r start order v
  have ht : Evolves s0 t := foldl_evolves _ (fun _ _ g => State.pisteRead_evolves g) (State.latchAdv_evolves (State.deviceIdRead_evolves h))
  clear_value t
  have hr : Evolves s0 r.2.2 := by
    subst r
    split
    · exact ht
    · exact relayGo_evolves ht
  clear_value r
  have hv : Evolves s0 v.2 := by
    subst v
    split
    · exact hr
    · exact spreadGo_evolves hr
  clear_value v
  exact foldl_evolves _ (fun _ _ g => State.laneSend_evolves g) hv

theorem execSlotFill_evolves {s0 : State} {s : State} (h : Evolves s0 s) :
    Ends s0 (execSlotFill s) := by
  unfold execSlotFill
  extract_lets x0 x1 x2
  have k3 : Evolves s0 x1 := (State.fillSlot_evolves h)
  split
  · exact Ends.next (fabUpd_evolves k3)
  · exact Ends.next h

theorem execSlotStart_evolves {s0 : State} {s : State} (h : Evolves s0 s) :
    Ends s0 (execSlotStart s) := by
  unfold execSlotStart
  extract_lets x0
  split
  · exact Ends.next (State.latchAdv_evolves (timeUpd_evolves h rfl))
  · exact Ends.next h

theorem execCycleStart_evolves {s0 : State} {s : State} (h : Evolves s0 s) :
    Ends s0 (execCycleStart s) := by
  unfold execCycleStart
  extract_lets x0 x1 x2 x3 x4 x5
  have k6 : Evolves s0 x2 := (fabUpd_evolves h)
  have k7 : Evolves s0 x3 := (State.cycleTime_evolves k6)
  have k8 : Evolves s0 x4.2 := (State.lanesAligned_evolves k7)
  have k9 : Evolves s0 x5 := (State.closeAll_evolves k8)
  split
  · exact Ends.next (State.joinCycleStart_evolves h)
  · split
    · split
      · exact Ends.next (State.grantCycle_evolves (State.alwCycle_evolves k9))
      · exact Ends.next k9
    · exact Ends.next h

end Sys2Proof.Machine
end

