-- ==== Sys2Proof/Laws/Deliver.lean ====
section
/-! SUPPORT. Every operation of `Sys2Proof/Machine/Deliver.lean` only evolves the state (`Evolves`), one lemma per operation. -/

namespace Sys2Proof.Machine

theorem State.takeVersion_evolves {s0 : State} {s : State} {peer : Nat} {h' : SlotHeader} (h : Evolves s0 s) :
    Evolves s0 (State.takeVersion s peer h') := by
  unfold State.takeVersion
  extract_lets x0 x1 x2 x3 x4
  have k5 : Evolves s0 x2 := (verUpd_evolves h)
  have k6 : Evolves s0 x4 := by
    subst x4
    split
    · exact (State.verRaise_evolves (State.bump_evolves (verUpd_evolves k5)))
    · exact k5
  split
  · exact h
  · exact (State.cond2Sync_evolves k6)

theorem State.takeTimeq_evolves {s0 : State} {s : State} {d : Dom} {h' : SlotHeader} (h : Evolves s0 s) :
    Evolves s0 (State.takeTimeq s d h') := by
  unfold State.takeTimeq
  extract_lets x0 x1 x2 x3 x4
  split
  · exact h
  · split
    · exact (State.setDom_evolves h)
    · split
      · exact h
      · exact (State.setDom_evolves h)

theorem State.takeOffset_evolves {s0 : State} {s : State} {l : Nat} {d : Dom} {h' : SlotHeader} {t4 : Nat} (h : Evolves s0 s) :
    Evolves s0 (State.takeOffset s l d h' t4) := by
  unfold State.takeOffset
  extract_lets x0 x1 x2 x3 x4 x5 x6 x7
  split
  · exact h
  · clear_value x3
    split
    · extract_lets x12 x13
      split
      · exact h
      · split
        · exact (State.setDom_evolves h)
        · exact h
    · split
      · exact h
      · exact (State.setDom_evolves h)

theorem State.ovcGive_evolves {s0 : State} {s : State} {l : Nat} {p : Nat} {b : List Byte} (h : Evolves s0 s) :
    Evolves s0 (State.ovcGive s l p b) := by
  unfold State.ovcGive
  split
  · extract_lets x3
    exact (State.setOvc_evolves h)
  · exact h

theorem State.takeHeader_evolves {s0 : State} {s : State} {l : Nat} {p : Nat} {w : Nat} {h' : SlotHeader} (h : Evolves s0 s) :
    Evolves s0 (State.takeHeader s l p w h') := by
  unfold State.takeHeader
  extract_lets x0 x1
  have k2 : Evolves s0 x0 := by
    subst x0
    split
    · exact (foldl_evolves _ (fun a7 a8 k9 => (State.takeDemand_evolves k9)) (foldl_evolves _ (fun a4 a5 k6 => (State.takeAllowance_evolves k6)) (State.met_evolves h)))
    · exact h
  have k11 : Evolves s0 x1 := by
    subst x1
    split
    · exact (State.takeTimeq_evolves (State.takeTimeq_evolves k2))
    · exact k2
  exact (State.ovcGive_evolves (State.takeVersion_evolves k11))

theorem State.takeMarker_evolves {s0 : State} {s : State} {l : Nat} {p : Nat} {age : Nat} {h' : SlotHeader} (h : Evolves s0 s) :
    Evolves s0 (State.takeMarker s l p age h') := by
  unfold State.takeMarker
  extract_lets x0 x1 x2 x3 x4
  have k5 : Evolves s0 x3 := (State.setLane_evolves h)
  have k6 : Evolves s0 x4 := by
    subst x4
    split
    · exact (State.takeOffset_evolves (State.takeOffset_evolves k5))
    · exact k5
  split
  · exact (State.phaseMeasured_evolves k6)
  · exact k6

theorem State.laneSec_evolves {s0 : State} {s : State} {l : Nat} {i : Nat} {n : Nat} (h : Evolves s0 s) :
    Evolves s0 (State.laneSec s l i n) := by
  unfold State.laneSec
  extract_lets x0
  exact (State.setLane_evolves h)

theorem State.searchSlot_evolves {s0 : State} {s : State} {x : RxSlot} {h' : SlotHeader} {p : Nat} (h : Evolves s0 s) :
    Evolves s0 (State.searchSlot s x h' p) := by
  unfold State.searchSlot
  extract_lets x0 x1 x2
  split
  · exact (State.setLslot_evolves h)
  · exact (State.setLslot_evolves h)

theorem State.confirmSlot_evolves {s0 : State} {s : State} {x : RxSlot} {h' : Option SlotHeader} {n : Nat} {last : Nat} (h : Evolves s0 s) :
    Evolves s0 (State.confirmSlot s x h' n last) := by
  unfold State.confirmSlot
  extract_lets x0 x1 x2
  split
  · extract_lets x5
    have k6 : Evolves s0 x5 := (State.takeMarker_evolves h)
    split
    · split
      · exact (State.cond2Sync_evolves (State.setLslot_evolves k6))
      · exact (State.setLslot_evolves k6)
    · exact (State.searchSlot_evolves h)
  · exact (State.setLslot_evolves h)

theorem State.loseAlign_evolves {s0 : State} {s : State} {l : Nat} {p : Nat} (h : Evolves s0 s) :
    Evolves s0 (State.loseAlign s l p) := by
  unfold State.loseAlign
  exact (State.cond2Sync_evolves (State.bump_evolves (State.setLslot_evolves h)))

theorem State.slip_evolves {s0 : State} {s : State} {l : Nat} {level : Nat} {centre : Nat} (h : Evolves s0 s) :
    Evolves s0 (State.slip s l level centre) := by
  unfold State.slip
  split
  · exact (State.laneSec_evolves (State.bump_evolves h))
  · split
    · exact (State.laneSec_evolves (State.bump_evolves h))
    · exact h

theorem State.alignedSlot_evolves {s0 : State} {s : State} {x : RxSlot} {h' : Option SlotHeader} {base : Bool} (h : Evolves s0 s) :
    Evolves s0 (State.alignedSlot s x h' base) := by
  unfold State.alignedSlot
  extract_lets x0 x1 x2 x3 x4 x5 x6 x7 x8 x9 x10 x11 x12 x13 x14 x15 x16 x17 x18 x19 x20 x21
  have k22 : Evolves s0 x4 := (State.laneSec_evolves (State.laneSec_evolves (State.laneSec_evolves h)))
  have k23 : Evolves s0 x5 := (State.bump64_evolves (State.bump64_evolves k22))
  have k24 : Evolves s0 x6 := by
    subst x6
    split
    · exact (State.laneSec_evolves k23)
    · exact k23
  have k27 : Evolves s0 x10 := by
    subst x10
    split
    · exact (State.raise_evolves (State.bump_evolves k24))
    · exact k24
  have k30 : Evolves s0 x11 := by
    subst x11
    split
    · split
      · exact k27
      · exact (State.slip_evolves k27)
    · exact k27
  have k38 : Evolves s0 x12 := by
    subst x12
    split
    · split
      · exact (State.takeHeader_evolves (State.setLslot_evolves k30))
      · exact k30
    · exact k30
  have k44 : Evolves s0 x16 := by
    subst x16
    split
    · exact (State.setLslot_evolves k38)
    · exact (State.laneSec_evolves (State.setLslot_evolves k38))
  have k47 : Evolves s0 x17 := by
    subst x17
    split
    · split
      · exact (State.takeMarker_evolves k44)
      · exact k44
    · exact k44
  have k53 : Evolves s0 x18 := by
    subst x18
    split
    · exact (State.loseAlign_evolves k47)
    · exact k47
  exact (fabUpd_evolves k53)

theorem execSlotRx_evolves {s0 : State} {x : RxSlot} {s : State} (h : Evolves s0 s) :
    Ends s0 (execSlotRx x s) := by
  unfold execSlotRx
  extract_lets x0 x1 x2 x3 x4 x5 x6 x7 x8 x9 x10 x11 x12 x13
  have k14 : Evolves s0 x3 := (State.setRbit_evolves (State.setRbit_evolves h))
  have k15 : Evolves s0 x10 := by
    subst x10
    split
    · exact (State.raise_evolves (State.bump_evolves k14))
    · exact k14
  have k18 : Evolves s0 x13 := by
    subst x13
    split
    · exact (State.alignedSlot_evolves k15)
    · split
      · exact (State.confirmSlot_evolves k15)
      · clear_value x4
        split
        · split
          · exact (State.searchSlot_evolves k15)
          · exact k15
        · exact k15
  split
  · exact Ends.next h
  · split
    · exact Ends.next k14
    · exact Ends.next (State.laneSlotSync_evolves k18)

theorem State.setContext_evolves {s0 : State} {s : State} {k : Nat} {x : ContextSt} (h : Evolves s0 s) :
    Evolves s0 (State.setContext s k x) := by
  unfold State.setContext
  extract_lets x0
  exact (fabUpd_evolves h)

theorem State.reassembled_evolves {s0 : State} {s : State} {src : Nat} {dport : Nat} {b : List Byte} {ce : Bool} {bad : Bool} {odd : Bool} {cells : List Nat} (h : Evolves s0 s) :
    Evolves s0 (State.reassembled s src dport b ce bad odd cells) := by
  unfold State.reassembled
  extract_lets x0 x1 x2
  have k3 : Evolves s0 x1 := (State.inflAdd_evolves h)
  split
  · exact (State.dropHeld_evolves (State.absentDrop_evolves k3))
  · split
    · exact (State.dropHeld_evolves (State.nhInvalid_evolves k3))
    · split
      · exact (State.joinRepl_evolves k3)
      · exact (State.admitUnicast_evolves k3)

theorem State.cutShort_evolves {s0 : State} {s : State} {src : Nat} {dport : Nat} {b : List Byte} {ce : Bool} {odd : Bool} {cells : List Nat} (h : Evolves s0 s) :
    Evolves s0 (State.cutShort s src dport b ce odd cells) := by
  unfold State.cutShort
  extract_lets x0
  split
  · exact (State.reassembled_evolves h)
  · exact (State.freeCells_evolves h)

theorem State.growCells_evolves {s0 : State} {s : State} {room : Bool} {n : Nat} {cells : List Nat} (h : Evolves s0 s) :
    Evolves s0 (State.growCells s room n cells).2 := by
  unfold State.growCells
  split
  · exact h
  · split
    · rename_i v2 v3 e4
      have k5 : Evolves s0 v3.2 := (State.allocCells_evolves h) _ e4
      exact k5
    · exact h

theorem State.packetEnds_evolves {s0 : State} {s : State} {c : Cell} {room : Bool} {b : List Byte} {ce : Bool} {bad : Bool} {cells : List Nat} {lost : Bool} (h : Evolves s0 s) :
    Evolves s0 (State.packetEnds s c room b ce bad cells lost) := by
  unfold State.packetEnds
  split
  · exact h
  · split
    · rename_i v2 v3 v4 e5
      have k6 : Evolves s0 v4 := Evolves.of_snd (State.growCells_evolves h) e5
      exact (State.reassembled_evolves k6)
    · rename_i v7 v8 e9
      have k10 : Evolves s0 v8 := Evolves.of_snd (State.growCells_evolves h) e9
      exact (State.cutShort_evolves (State.noCell_evolves k10))

theorem State.packetGrows_evolves {s0 : State} {s : State} {k : Nat} {c : Cell} {room : Bool} (h : Evolves s0 s) :
    Evolves s0 (State.packetGrows s k c room) := by
  unfold State.packetGrows
  extract_lets x0
  split
  · exact h
  · split
    · rename_i v3 v4 v5 e6
      have k7 : Evolves s0 v5 := Evolves.of_snd (State.growCells_evolves h) e6
      exact (State.setContext_evolves k7)
    · rename_i v8 v9 e10
      have k11 : Evolves s0 v9 := Evolves.of_snd (State.growCells_evolves h) e10
      exact (State.cutShort_evolves (State.setContext_evolves (State.noCell_evolves k11)))

theorem State.deliverCell_evolves {s0 : State} {s : State} {c : Cell} (h : Evolves s0 s) :
    Evolves s0 (State.deliverCell s c) := by
  unfold State.deliverCell
  extract_lets x0 x1 x2 x3 x4 x5 x6 x7 x8 x9 x10
  have k11 : Evolves s0 x5.2 := (State.allocUpTo_evolves h)
  have k12 : Evolves s0 x9 := by
    subst x9
    split
    · exact (State.setContext_evolves k11)
    · exact (State.setContext_evolves k11)
  have k15 : Evolves s0 x10 := (foldl_evolves _ (fun a16 a17 k18 => (State.packetEnds_evolves k18)) k12)
  split
  · exact h
  · exact (State.freeCells_evolves (State.packetGrows_evolves k15))

theorem State.breakContext_evolves {s0 : State} {s : State} {k : Nat} (h : Evolves s0 s) :
    Evolves s0 (State.breakContext s k) := by
  unfold State.breakContext
  extract_lets x0 x1
  have k2 : Evolves s0 x1 := (State.setContext_evolves h)
  split
  · exact k2
  · exact (State.raise_evolves (State.bump_evolves (State.cutShort_evolves k2)))

theorem State.setSource_evolves {s0 : State} {s : State} {n : Nat} {x : SourceSt} (h : Evolves s0 s) :
    Evolves s0 (State.setSource s n x) := by
  unfold State.setSource
  extract_lets x0
  exact (fabUpd_evolves h)

theorem deliverHeld_evolves {s0 : State} {n : Nat} {y1 : Nat} {y2 : State} (h : Evolves s0 y2) :
    Evolves s0 (deliverHeld n y1 y2) := by
  fun_induction deliverHeld n y1 y2
  · exact h
  · exact h
  · rename_i v5 v6 v7 v8 e9 v10 e11 v12 e13
    have k14 : Evolves s0 v12 := (State.freeCells_evolves (State.setSource_evolves h))
    apply e13
    · exact (State.deliverCell_evolves k14)
  · exact (State.setSource_evolves h)

theorem State.cellsLost_evolves {s0 : State} {s : State} {n : Nat} {c : Nat} (h : Evolves s0 s) :
    Evolves s0 (State.cellsLost s n c) := by
  unfold State.cellsLost
  extract_lets x0 x1
  have k2 : Evolves s0 x0 := (State.bump64_evolves h)
  have k3 : Evolves s0 x1 := by
    subst x1
    split
    · exact k2
    · exact (State.setTabN_evolves k2)
  exact (State.raise_evolves k3)

theorem State.gapExpire_evolves {s0 : State} {s : State} {n : Nat} (h : Evolves s0 s) :
    Evolves s0 (State.gapExpire s n) := by
  unfold State.gapExpire
  extract_lets x0 x1 x2 x3
  have k4 : Evolves s0 x2 := by
    subst x2
    split
    · extract_lets x8
      have k9 : Evolves s0 x8 := (State.cellsLost_evolves h)
      exact (foldl_evolves _ (fun a10 a11 k12 => (State.breakContext_evolves k12)) k9)
    · exact h
  exact (deliverHeld_evolves (State.setSource_evolves k4))

theorem State.holdCell_evolves {s0 : State} {s : State} {n : Nat} {slot : Nat} {c : Cell} (h : Evolves s0 s) :
    Evolves s0 (State.holdCell s n slot c) := by
  unfold State.holdCell
  split
  · rename_i v0 v1 v2 e3
    have k4 : Evolves s0 v2 := (State.allocCells_evolves h) _ e3
    extract_lets x5
    exact (State.setSource_evolves k4)
  · exact h

theorem State.resequence_evolves {s0 : State} {s : State} {slot : Nat} {c : Cell} (h : Evolves s0 s) :
    Evolves s0 (State.resequence s slot c) := by
  unfold State.resequence
  extract_lets x0 x1 x2 x3 x4 x5 x6
  have k7 : Evolves s0 x2 := (State.setSource_evolves h)
  have k8 : Evolves s0 x5 := (State.raise_evolves (State.bump_evolves k7))
  have k9 : Evolves s0 x6 := by
    subst x6
    split
    · split
      · exact (State.gapExpire_evolves k8)
      · exact k8
    · exact k7
  split
  · exact (State.holdCell_evolves k7)
  · extract_lets x22
    split
    · exact (State.bump_evolves k7)
    · split
      · exact (deliverHeld_evolves (State.deliverCell_evolves (State.setSource_evolves k7)))
      · split
        · exact (State.bump_evolves k7)
        · exact (State.holdCell_evolves k9)

theorem State.relayCell_evolves {s0 : State} {s : State} {slot : Nat} {c : Cell} (h : Evolves s0 s) :
    Evolves s0 (State.relayCell s slot c) := by
  unfold State.relayCell
  split
  · exact (State.absentDrop_evolves h)
  · split
    · rename_i v2 v3 v4 e5
      have k6 : Evolves s0 v4 := (State.allocCells_evolves h) _ e5
      exact (State.setRelayQ_evolves k6)
    · exact (State.raise_evolves (State.bump_evolves h))

theorem State.cellIn_evolves {s0 : State} {s : State} {l : Nat} {slot : Nat} {b : List Byte} (h : Evolves s0 s) :
    Evolves s0 (State.cellIn s l slot b) := by
  unfold State.cellIn
  extract_lets x0 x1 x2 x3
  have k4 : Evolves s0 x2 := (State.bump64_evolves h)
  split
  · exact (State.bump_evolves h)
  · split
    · exact h
    · split
      · exact (State.raise_evolves (State.bump_evolves k4))
      · split
        · split
          · exact k4
          · exact (State.resequence_evolves k4)
        · split
          · exact (State.raise_evolves (State.bump_evolves k4))
          · split
            · exact k4
            · exact (State.relayCell_evolves k4)

theorem execCellRx_evolves {s0 : State} {s : State} (h : Evolves s0 s) :
    Ends s0 (execCellRx s) := by
  unfold execCellRx
  split
  · exact Ends.next h
  · extract_lets x8
    exact Ends.next (State.cellIn_evolves (fabUpd_evolves h))

theorem execRelayAged_evolves {s0 : State} {d : Fin 1024} {s : State} (h : Evolves s0 s) :
    Ends s0 (execRelayAged d s) := by
  unfold execRelayAged
  split
  · exact Ends.next h
  · split
    · exact Ends.next (State.raise_evolves (State.bump_evolves (State.freeCells_evolves (State.setRelayQ_evolves h))))
    · exact Ends.next h

theorem execGapTimerExpiry_evolves {s0 : State} {n : Fin 1024} {s : State} (h : Evolves s0 s) :
    Ends s0 (execGapTimerExpiry n s) := by
  unfold execGapTimerExpiry
  split
  · split
    · exact Ends.next (State.gapExpire_evolves h)
    · exact Ends.next h
  · exact Ends.next h

theorem execExpUnset_evolves {s0 : State} {n : Fin 1024} {s : State} (h : Evolves s0 s) :
    Ends s0 (execExpUnset n s) := by
  unfold execExpUnset
  extract_lets x0
  split
  · exact Ends.next (State.setSource_evolves h)
  · exact Ends.next h

theorem relayTable_keeps :
    WinTable.Keeps (relayTable) := by
  unfold relayTable
  exact readOnlyTable_keeps

theorem sourceTable_keeps :
    WinTable.Keeps (sourceTable) := by
  unfold sourceTable
  constructor
  · intro s0 s0 i1 m2 w3 k4
    dsimp only
    exact k4
  · intro s0 s5 i6 m7 k9
    dsimp only
    exact (State.setTabN_evolves k9)

theorem fabTable_keeps {r : Nat} {b : Nat} {table : Nat} :
    OptAll WinTable.Keeps (fabTable r b table) := by
  unfold fabTable
  split
  · split
    · refine OptAll.some ?_
      exact pisteTable_keeps
    · split
      · refine OptAll.some ?_
        exact phaseTable_keeps
      · exact OptAll.none
  · split
    · refine OptAll.some ?_
      exact relayTable_keeps
    · split
      · refine OptAll.some ?_
        exact sourceTable_keeps
      · exact OptAll.none

theorem alwTable_keeps {y0 : Nat} :
    OptAll WinTable.Keeps (alwTable y0) := by
  unfold alwTable
  split
  · refine OptAll.some ?_
    exact readOnlyTable_keeps
  · refine OptAll.some ?_
    exact readOnlyTable_keeps
  · refine OptAll.some ?_
    exact cfgTable_keeps
  · refine OptAll.some ?_
    exact cfgTable_keeps
  · exact OptAll.none

theorem State.dropBegun_evolves {s0 : State} {s : State} {key : Nat} (h : Evolves s0 s) :
    Evolves s0 (State.dropBegun s key) := by
  unfold State.dropBegun
  split
  · split
    · exact (State.dropPkt_evolves (State.dequeue_evolves h))
    · exact h
  · exact h

theorem State.fabDiscard_evolves {s0 : State} {s : State} (h : Evolves s0 s) :
    Evolves s0 (State.fabDiscard s) := by
  unfold State.fabDiscard
  extract_lets x0 x1 x2 x3 x4 x5 x6
  have k7 : Evolves s0 x0 := by
    subst x0
    refine foldl_evolves _ ?_ ?_
    · intro a14 a15 k16
      split
      · exact (inflLeave_evolves k16)
      · exact k16
    · exact h
  have k22 : Evolves s0 x1 := (foldl_evolves _ (fun a23 a24 k25 => (inflLeave_evolves k25)) k7)
  have k26 : Evolves s0 x2 := (foldl_evolves _ (fun a27 a28 k29 => (State.dropBegun_evolves k29)) k22)
  have k30 : Evolves s0 x3 := (State.freeCells_evolves k26)
  have k31 : Evolves s0 x4 := (State.freeCells_evolves k30)
  have k32 : Evolves s0 x5 := (State.freeCells_evolves k31)
  exact (fabUpd_evolves k32)

theorem State.laneReset_evolves {s0 : State} {f : Nat} {s : State} {j : Nat} (h : Evolves s0 s) :
    Evolves s0 (State.laneReset f s j) := by
  unfold State.laneReset
  exact State.setLane_evolves (foldl_evolves _ (fun _ _ k => State.wr_evolves k) (State.wr_evolves
    (foldl_evolves _ (fun _ _ k => State.laneSlotSync_evolves (State.setLslot_evolves k)) h)))

theorem State.ovcCutShort_evolves {s0 : State} {s : State} (h : Evolves s0 s) :
    Evolves s0 (State.ovcCutShort s) := by
  unfold State.ovcCutShort
  exact (foldl_evolves _ (fun a0 a1 k2 => (State.setOvc_evolves k2)) h)

theorem State.degClear_evolves {s0 : State} {f : Nat} {s : State} {w : Nat} (h : Evolves s0 s) :
    Evolves s0 (State.degClear f s w) := by
  unfold State.degClear
  exact (State.wr_evolves h)

theorem State.fabForget_evolves {s0 : State} {s : State} (h : Evolves s0 s) : Evolves s0 (State.fabForget s) :=
  h.frame rfl

theorem State.fabReset_evolves {s0 : State} {s : State} {f : Nat} (h : Evolves s0 s) : Evolves s0 (State.fabReset s f) := by
  unfold State.fabReset
  exact State.cond2Sync_evolves (State.fabForget_evolves (foldl_evolves _ (fun _ _ k => State.degClear_evolves k)
    (foldl_evolves _ (fun _ _ k => State.laneReset_evolves k) (State.ovcCutShort_evolves (State.fabDiscard_evolves h)))))

end Sys2Proof.Machine
end

