-- ==== Sys2Proof/Laws/Flash.lean ====
section
/-! SUPPORT. Every operation of `Sys2Proof/Machine/Flash.lean` only evolves the state (`Evolves`), one lemma per operation. -/

namespace Sys2Proof.Machine

theorem State.flashErase_evolves {s0 : State} {s : State} {a : Nat} {n : Nat} (h : Evolves s0 s) :
    Evolves s0 (State.flashErase s a n) := by
  unfold State.flashErase
  exact (flashFilter_evolves h)

theorem State.brecPut_evolves {s0 : State} {s : State} {r : BootRec} (h : Evolves s0 s) :
    Evolves s0 (State.brecPut s r) := by
  unfold State.brecPut
  extract_lets x0 x1
  exact (State.flashWrite_evolves (State.flashErase_evolves h))

theorem State.setBootedSlot_evolves {s0 : State} {s : State} {n : Nat} (h : Evolves s0 s) :
    Evolves s0 (State.setBootedSlot s n) := by
  unfold State.setBootedSlot
  extract_lets x0 x1
  have k2 : Evolves s0 x0 := (State.setFld_evolves h)
  exact (bootUpd_evolves k2 rfl rfl rfl)

theorem State.bootFail_evolves {s0 : State} {s : State} {code : Nat} (h : Evolves s0 s) :
    Evolves s0 (State.bootFail s code) := by
  unfold State.bootFail
  exact (State.wr_evolves h)

theorem State.bootRaise_evolves {s0 : State} {s : State} {k : Nat} (h : Evolves s0 s) :
    Evolves s0 (State.bootRaise s k) := by
  unfold State.bootRaise
  exact (State.raise_evolves h)

theorem State.imgRaise_evolves {s0 : State} {s : State} {k : Nat} (h : Evolves s0 s) :
    Evolves s0 (State.imgRaise s k) := by
  unfold State.imgRaise
  exact (State.raise_evolves h)

theorem State.mbxEnd_evolves {s0 : State} {s : State} {p : Nat → Bool} (h : Evolves s0 s) :
    Evolves s0 (State.mbxEnd s p) := by
  unfold State.mbxEnd
  extract_lets x0
  split
  · split
    · exact (imgUpd_evolves h)
    · exact h
  · exact h

theorem State.sessionOpen_evolves {s0 : State} {s : State} {svc : Bool} {link : Nat} {slot : Nat} (h : Evolves s0 s) :
    Evolves s0 (State.sessionOpen s svc link slot) := by
  unfold State.sessionOpen
  extract_lets x0 x1 x2 x3
  have k4 : Evolves s0 x0 := (State.flashErase_evolves h)
  have k5 : Evolves s0 x2 := (State.brecPut_evolves k4)
  exact (imgUpd_evolves k5)

theorem State.sessionClose_evolves {s0 : State} {s : State} {x : SessionSt} (h : Evolves s0 s) :
    Evolves s0 (State.sessionClose s x) := by
  unfold State.sessionClose
  extract_lets x0 x1 x2 x3
  have k4 : Evolves s0 x2 := (State.brecPut_evolves h)
  exact (imgUpd_evolves k4)

theorem State.sessionEnd_evolves {s0 : State} {s : State} (h : Evolves s0 s) :
    Evolves s0 (State.sessionEnd s) := by
  unfold State.sessionEnd
  extract_lets x0
  exact (imgUpd_evolves h)

theorem State.faultWrite_evolves {s0 : State} {s : State} {code : Nat} {sec : Nat} {ns : Nat} {gstat : Nat} {fatal : Nat} (h : Evolves s0 s) :
    Evolves s0 (State.faultWrite s code sec ns gstat fatal) := by
  unfold State.faultWrite
  extract_lets x0 x1 x2 x3
  exact (State.setFld_evolves (State.flashWrite_evolves (State.flashErase_evolves h)))

theorem State.faultLoad_evolves {s0 : State} {s : State} {x : BootReads} (h : Evolves s0 s) : Evolves s0 (State.faultLoad s x) := by
  unfold State.faultLoad
  generalize s.newestFault (x.faults.map (·.val)) 256 = q
  split
  · exact h
  · extract_lets t seen b
    clear_value seen b
    split
    · exact State.setFld_evolves h
    · exact State.raise_evolves (State.flashWrite_evolves (State.flashErase_evolves (State.setFld_evolves h)))

end Sys2Proof.Machine
end

