-- ==== Sys2Proof/Laws/HostMem.lean ====
section
/-! SUPPORT. Every operation of `Sys2Proof/Machine/HostMem.lean` only evolves the state (`Evolves`), one lemma per operation. -/

namespace Sys2Proof.Machine

theorem State.setSlice_evolves {s0 : State} {s : State} {n : Nat} {x : SliceSt} (h : Evolves s0 s) :
    Evolves s0 (State.setSlice s n x) := by
  unfold State.setSlice
  extract_lets x0
  exact (hostUpd_evolves h)

theorem State.setHlink_evolves {s0 : State} {s : State} {n : Nat} {x : LinkSt} (h : Evolves s0 s) :
    Evolves s0 (State.setHlink s n x) := by
  unfold State.setHlink
  extract_lets x0
  exact (hostUpd_evolves h)

theorem State.dirtyFlush_evolves {s0 : State} {s : State} {w : DirtyWord} (h : Evolves s0 s) :
    Evolves s0 (State.dirtyFlush s w) := by
  unfold State.dirtyFlush
  extract_lets x0
  exact (State.emit_evolves (hostUpd_evolves h))

theorem State.dirtyFlushAll_evolves {s0 : State} {s : State} {p : DirtyWord → Bool} (h : Evolves s0 s) :
    Evolves s0 (State.dirtyFlushAll s p) := by
  unfold State.dirtyFlushAll
  exact (foldl_evolves _ (fun a0 a1 k2 => (State.dirtyFlush_evolves k2)) h)

theorem State.dirtyFlushSlice_evolves {s0 : State} {s : State} {slice : Nat} (h : Evolves s0 s) :
    Evolves s0 (State.dirtyFlushSlice s slice) := by
  unfold State.dirtyFlushSlice
  exact (State.dirtyFlushAll_evolves h)

theorem State.dirtyMark_evolves {s0 : State} {s : State} {slice : Nat} {page : Nat} (h : Evolves s0 s) :
    Evolves s0 (State.dirtyMark s slice page) := by
  unfold State.dirtyMark
  extract_lets x0 x1 x2 x3 x4 x5
  have k6 : Evolves s0 x4 := by
    subst x4
    split
    · split
      · exact (State.dirtyFlush_evolves h)
      · exact h
    · exact h
  split
  · exact (hostUpd_evolves h)
  · exact (hostUpd_evolves k6)

theorem dirtyPages_evolves {s0 : State} {slice : Nat} {base : Nat} {count : Nat} {y3 : Nat} {y4 : Nat} {y5 : State} (h : Evolves s0 y5) :
    Evolves s0 (dirtyPages slice base count y3 y4 y5) := by
  fun_induction dirtyPages slice base count y3 y4 y5
  · exact h
  · rename_i v2 v3 v4 e5
    apply e5
    · split
      · exact (State.dirtyMark_evolves h)
      · exact h

theorem State.dirtyLog_evolves {s0 : State} {s : State} {slice : Nat} {addr : Nat} {n : Nat} (h : Evolves s0 s) :
    Evolves s0 (State.dirtyLog s slice addr n) := by
  unfold State.dirtyLog
  extract_lets x0 x1 x2 x3 x4 x5
  have k6 : Evolves s0 x5 := (dirtyPages_evolves h)
  split
  · split
    · exact (State.raise_evolves (State.bump_evolves k6))
    · exact k6
  · exact h

theorem State.dmaWrite_evolves {s0 : State} {s : State} {slice : Nat} {addr : Nat} {b : List Byte} (h : Evolves s0 s) :
    Evolves s0 (State.dmaWrite s slice addr b) := by
  unfold State.dmaWrite
  extract_lets x0
  split
  · exact h
  · exact (State.dirtyLog_evolves (State.emit_evolves h))

theorem State.sendMsix_evolves {s0 : State} {s : State} {link : Nat} {fn : Nat} {vec : Nat} (h : Evolves s0 s) :
    Evolves s0 (State.sendMsix s link fn vec) := by
  unfold State.sendMsix
  exact (State.emit_evolves h)

end Sys2Proof.Machine
end

