-- ==== Sys2Proof/Laws/Keys.lean ====
section
/-! SUPPORT. Every operation of `Sys2Proof/Machine/Keys.lean` only evolves the state (`Evolves`), one lemma per operation. -/

namespace Sys2Proof.Machine

theorem State.setKeySlot_evolves {s0 : State} {s : State} {i : Nat} {attr : Nat} {key : Nat} (h : Evolves s0 s) :
    Evolves s0 (State.setKeySlot s i attr key) := by
  unfold State.setKeySlot
  extract_lets x0
  exact (State.wr_evolves (State.setTabN_evolves h))

theorem State.keyRefBad_evolves {s0 : State} {s : State} (h : Evolves s0 s) :
    Evolves s0 (State.keyRefBad s) := by
  unfold State.keyRefBad
  exact (State.raise_evolves (State.bump_evolves h))

theorem State.keyRefuse_evolves {s0 : State} {s : State} {reason : Nat} (h : Evolves s0 s) :
    Evolves s0 (State.keyRefuse s reason).2 := by
  unfold State.keyRefuse
  exact (State.raise_evolves (State.wr_evolves h))

theorem State.keyLoadPlain_evolves {s0 : State} {s : State} {m : Master} {i : Nat} (h : Evolves s0 s) :
    Evolves s0 (State.keyLoadPlain s m i).2 := by
  unfold State.keyLoadPlain
  extract_lets x0
  split
  · exact (State.keyRefuse_evolves h)
  · split
    · exact (State.keyRefuse_evolves h)
    · split
      · exact (State.keyRefuse_evolves h)
      · split
        · exact (State.keyRefuse_evolves h)
        · exact (State.setWinData_evolves (State.setKeySlot_evolves h))

theorem State.keyTake_evolves {s0 : State} {s : State} {i : Nat} {y2 : Option (List Byte)} (h : Evolves s0 s) :
    Evolves s0 (State.keyTake s i y2).2 := by
  unfold State.keyTake
  split
  · exact (State.keyRefuse_evolves h)
  · exact (State.setKeySlot_evolves h)

theorem State.keyLoadWrapped_evolves {s0 : State} {s : State} {i : Nat} (h : Evolves s0 s) :
    Evolves s0 (State.keyLoadWrapped s i).2 := by
  unfold State.keyLoadWrapped
  cases s.sec.dk with
  | none => exact State.keyRefuse_evolves h
  | some dk => exact State.keyTake_evolves h

theorem State.keyExportCmd_evolves {s0 : State} {s : State} {m : Master} {i : Nat} (h : Evolves s0 s) :
    Evolves s0 (State.keyExportCmd s m i).2 := by
  unfold State.keyExportCmd
  extract_lets x0 x1 x2
  split
  · exact (State.keyRefuse_evolves h)
  · split
    · exact (State.keyRefuse_evolves h)
    · split
      · exact (State.keyRefuse_evolves h)
      · split
        · exact (State.keyRefuse_evolves h)
        · split
          · exact (State.keyRefuse_evolves h)
          · extract_lets x16
            exact (State.setWinData_evolves (State.drawn_evolves h))

theorem State.keyZeroise_evolves {s0 : State} {s : State} {i : Nat} (h : Evolves s0 s) :
    Evolves s0 (State.keyZeroise s i).2 := by
  unfold State.keyZeroise
  exact (State.setKeySlot_evolves h)

theorem State.keyReadCmd_evolves {s0 : State} {s : State} {i : Nat} (h : Evolves s0 s) :
    Evolves s0 (State.keyReadCmd s i).2 := by
  unfold State.keyReadCmd
  exact (State.setWinWord_evolves h)

theorem State.keyCmd_evolves {s0 : State} {s : State} {v : Nat} {run : State → Nat → Nat × State} (h0 : Evolves s0 s) (h1 : ∀ b0 b1, Evolves s0 b0 → Evolves s0 (run b0 b1).2) :
    Evolves s0 (State.keyCmd s v run) := by
  unfold State.keyCmd
  refine State.winCmd_evolves ?_ ?_
  · exact h0
  · intro a2 k3
    split
    · exact k3
    · split
      · exact k3
      · exact (h1 _ _ k3)

theorem execKeyRead_evolves {s0 : State} {m : Master} {v : Word} {s : State} (h : Evolves s0 s) :
    Ends s0 (execKeyRead m v s) := by
  unfold execKeyRead
  exact Ends.next (State.asWrite_evolves h (fun a0 k1 => (State.keyCmd_evolves k1 (fun a2 a3 k4 => (State.keyReadCmd_evolves k4)))))

theorem execLoadPlain_evolves {s0 : State} {m : Master} {v : Word} {s : State} (h : Evolves s0 s) :
    Ends s0 (execLoadPlain m v s) := by
  unfold execLoadPlain
  exact Ends.next (State.asWrite_evolves h (fun a0 k1 => (State.keyCmd_evolves k1 (fun a2 a3 k4 => (State.keyLoadPlain_evolves k4)))))

theorem execLoadWrapped_evolves {s0 : State} {m : Master} {v : Word} {s : State} (h : Evolves s0 s) :
    Ends s0 (execLoadWrapped m v s) := by
  unfold execLoadWrapped
  exact Ends.next (State.asWrite_evolves h (fun a0 k1 => (State.keyCmd_evolves k1 (fun a2 a3 k4 => (State.keyLoadWrapped_evolves k4)))))

theorem execKeyExport_evolves {s0 : State} {m : Master} {v : Word} {s : State} (h : Evolves s0 s) :
    Ends s0 (execKeyExport m v s) := by
  unfold execKeyExport
  exact Ends.next (State.asWrite_evolves h (fun a0 k1 => (State.keyCmd_evolves k1 (fun a2 a3 k4 => (State.keyExportCmd_evolves k4)))))

theorem execZeroise_evolves {s0 : State} {m : Master} {v : Word} {s : State} (h : Evolves s0 s) :
    Ends s0 (execZeroise m v s) := by
  unfold execZeroise
  exact Ends.next (State.asWrite_evolves h (fun a0 k1 => (State.keyCmd_evolves k1 (fun a2 a3 k4 => (State.keyZeroise_evolves k4)))))

theorem execRngFail_evolves {s0 : State} {s : State} (h : Evolves s0 s) :
    Ends s0 (execRngFail s) := by
  unfold execRngFail
  split
  · exact Ends.next (State.raise_evolves (State.setRbit_evolves h))
  · exact Ends.next h

theorem execRngRecover_evolves {s0 : State} {s : State} (h : Evolves s0 s) :
    Ends s0 (execRngRecover s) := by
  unfold execRngRecover
  split
  · exact Ends.next (State.setRbit_evolves h)
  · exact Ends.next h

theorem State.saPut_evolves {s0 : State} {s : State} {region block table code i v ref use : Nat} (h : Evolves s0 s) :
    Evolves s0 (State.saPut s region block table code i v ref use).2 := by
  unfold State.saPut
  extract_lets k soft
  have hs {t : State} (g : Evolves s0 t) : Evolves s0 (soft t) := g.frame rfl
  clear_value soft
  split
  · split
    · exact hs (State.setTabN_evolves (State.setTabN_evolves h))
    · dsimp only
      split
      · exact State.keyRefBad_evolves h
      · exact h
  · exact hs (State.setTabN_evolves (State.setTabN_evolves h))

theorem State.pnSoft_evolves {s0 : State} {s : State} {region : Nat} {block : Nat} {table : Nat} {i : Nat} (h : Evolves s0 s) :
    Evolves s0 (State.pnSoft s region block table i) := by
  unfold State.pnSoft
  extract_lets x0 x1
  split
  · exact h
  · exact (State.raise_evolves (secUpd_evolves h))

end Sys2Proof.Machine
end

