-- ==== Sys2Proof/Laws/Lookaside.lean ====
section
/-! SUPPORT. Every operation of `Sys2Proof/Machine/Lookaside.lean` only evolves the state (`Evolves`), one lemma per operation. -/

namespace Sys2Proof.Machine

theorem ringTable_keeps :
    WinTable.Keeps (ringTable) := by
  unfold ringTable
  exact maskedTable_keeps

theorem State.lkaPiWrite_evolves {s0 : State} {s : State} {r : Nat} {v : Nat} (h : Evolves s0 s) :
    Evolves s0 (State.lkaPiWrite s r v) := by
  unfold State.lkaPiWrite
  exact (State.wr_evolves h)

theorem execLkaProducerWrite_evolves {s0 : State} {m : Master} {r : Fin 256} {v : Word} {s : State} (h : Evolves s0 s) :
    Ends s0 (execLkaProducerWrite m r v s) := by
  unfold execLkaProducerWrite
  exact Ends.next (State.asWrite_evolves h (fun a0 k1 => (State.lkaPiWrite_evolves k1)))

theorem State.lkaWrite_evolves {s0 : State} {s : State} {ring : Nat} {addr : Nat} {b : List Byte} (h : Evolves s0 s) :
    Evolves s0 (State.lkaWrite s ring addr b) := by
  unfold State.lkaWrite
  split
  · exact (State.dmaWrite_evolves h)
  · exact (State.hbmStore_evolves h)

theorem State.lkaFaultShow_evolves {s0 : State} {s : State} {q : LkaReq} (h : Evolves s0 s) :
    Evolves s0 (State.lkaFaultShow s q) := by
  unfold State.lkaFaultShow
  extract_lets x0
  have k1 : Evolves s0 x0 := (foldl_evolves _ (fun a2 a3 k4 => (State.addrRefuse_evolves k4)) h)
  exact (foldl_evolves _ (fun a5 a6 k7 => (State.hbmUeRead_evolves k7)) k1)

theorem State.freeBytes_evolves {s0 : State} {s : State} {n : Nat} (h : Evolves s0 s) :
    Evolves s0 (State.freeBytes s n).2 := by
  induction n generalizing s with
  | zero => exact h
  | succ n ih => exact ih (State.drawn_evolves h)

theorem State.lkaProcess_evolves {s0 : State} {s : State} {ring : Nat} {q : LkaReq} {x : LkaIo} (h : Evolves s0 s) :
    Evolves s0 (State.lkaProcess s ring q x).2.2 := by
  unfold State.lkaProcess
  split
  · exact h
  · split
    · exact (State.keyRefBad_evolves h)
    · extract_lets x7 x8 x9 x10
      have k11 : Evolves s0 x7 := (State.raiseIf_evolves h)
      have k12 : Evolves s0 x9.2 := (State.freeBytes_evolves k11)
      split
      · exact k11
      · split
        · exact k11
        · split
          · exact k11
          · split
            · exact (State.lkaFaultShow_evolves k11)
            · split
              · exact (State.lkaWrite_evolves k12)
              · exact (State.lkaWrite_evolves k11)

theorem State.lkaComplete_evolves {s0 : State} {s : State} {r : Nat} {e : Nat} {q : LkaReq} {status : Nat} {done : Nat} (h : Evolves s0 s) :
    Evolves s0 (State.lkaComplete s r e q status done) := by
  unfold State.lkaComplete
  extract_lets x0 x1 x2 x3 x4 x5 x6 x7 x8 x9 x10 x11 x12 x13 x14 x15 x16
  have k17 : Evolves s0 x5 := by
    subst x5
    split
    · exact (State.dirtyFlushSlice_evolves h)
    · exact h
  have k20 : Evolves s0 x6 := (State.lkaWrite_evolves k17)
  have k21 : Evolves s0 x7 := (State.lkaWrite_evolves k20)
  have k22 : Evolves s0 x8 := (State.lkaWrite_evolves k21)
  have k23 : Evolves s0 x10 := (secUpd_evolves k22)
  have k24 : Evolves s0 x12 := (State.wr_evolves k23)
  have k25 : Evolves s0 x14 := by
    subst x14
    split
    · exact (secUpd_evolves k24)
    · exact k24
  have k28 : Evolves s0 x15 := by
    subst x15
    split
    · exact k25
    · exact (State.bump_evolves k25)
  have k31 : Evolves s0 x16 := (State.raiseIf_evolves (State.raiseIf_evolves k28))
  split
  · split
    · exact (State.sendMsix_evolves k31)
    · exact (State.deviceEvent_evolves k31)
  · exact k31

theorem State.lkaRun_evolves {s0 : State} {s : State} {op : Nat} {r : Nat} {e : Nat} {x : LkaIo} (h : Evolves s0 s) :
    Evolves s0 (State.lkaRun s op r e x) := by
  unfold State.lkaRun
  extract_lets x0 x1 x2 x3 x4 x5
  have k6 : Evolves s0 x4.2 := (State.freeBytes_evolves h)
  have k7 : Evolves s0 x5.2.2 := (State.lkaProcess_evolves h)
  split
  · exact h
  · split
    · exact (State.lkaComplete_evolves (State.hbmUeRead_evolves k6))
    · split
      · exact h
      · exact (State.lkaComplete_evolves k7)

theorem execGcmEnc_evolves {s0 : State} {r : Fin 256} {e : Fin 32} {x : LkaIo} {s : State} (h : Evolves s0 s) :
    Ends s0 (execGcmEnc r e x s) := by
  unfold execGcmEnc
  exact Ends.next (State.lkaRun_evolves h)

theorem execGcmDec_evolves {s0 : State} {r : Fin 256} {e : Fin 32} {x : LkaIo} {s : State} (h : Evolves s0 s) :
    Ends s0 (execGcmDec r e x s) := by
  unfold execGcmDec
  exact Ends.next (State.lkaRun_evolves h)

theorem execXtsEnc_evolves {s0 : State} {r : Fin 256} {e : Fin 32} {x : LkaIo} {s : State} (h : Evolves s0 s) :
    Ends s0 (execXtsEnc r e x s) := by
  unfold execXtsEnc
  exact Ends.next (State.lkaRun_evolves h)

theorem execXtsDec_evolves {s0 : State} {r : Fin 256} {e : Fin 32} {x : LkaIo} {s : State} (h : Evolves s0 s) :
    Ends s0 (execXtsDec r e x s) := by
  unfold execXtsDec
  exact Ends.next (State.lkaRun_evolves h)

theorem execKmac_evolves {s0 : State} {r : Fin 256} {e : Fin 32} {x : LkaIo} {s : State} (h : Evolves s0 s) :
    Ends s0 (execKmac r e x s) := by
  unfold execKmac
  exact Ends.next (State.lkaRun_evolves h)

theorem execKmacVerify_evolves {s0 : State} {r : Fin 256} {e : Fin 32} {x : LkaIo} {s : State} (h : Evolves s0 s) :
    Ends s0 (execKmacVerify r e x s) := by
  unfold execKmacVerify
  exact Ends.next (State.lkaRun_evolves h)

end Sys2Proof.Machine
end

