-- ==== Sys2Proof/Laws/HostQueues.lean ====
section
/-! SUPPORT. Every operation of `Sys2Proof/Machine/HostQueues.lean` only evolves the state (`Evolves`), one lemma per operation. -/

namespace Sys2Proof.Machine

theorem State.setQp_evolves {s0 : State} {s : State} {q : Nat} {x : QpSt} (h : Evolves s0 s) :
    Evolves s0 (State.setQp s q x) := by
  unfold State.setQp
  extract_lets x0
  exact (hostUpd_evolves h)

theorem qpTable_keeps :
    WinTable.Keeps (qpTable) := by
  unfold qpTable
  constructor
  · intro s0 s0 i1 m2 w3 k4
    dsimp only
    split
    · exact (State.setQp_evolves (State.setTabN_evolves k4))
    · exact k4
  · intro s0 s7 i8 m9 k11
    dsimp only
    split
    · exact (State.setQp_evolves (State.setTabN_evolves k11))
    · exact k11

theorem qpCounterTable_keeps :
    WinTable.Keeps (qpCounterTable) := by
  unfold qpCounterTable
  extract_lets x0
  have k1 : WinTable.Keeps x0 := plainTable_keeps
  constructor
  · intro s0 s2 i3 m4 w5 k6
    dsimp only
    exact (k1.put k6)
  · intro s0 s7 i8 m9 k11
    dsimp only
    exact (k1.clear k11)

theorem State.qpCount_evolves {s0 : State} {s : State} {q : Nat} {c : Nat} {n : Nat} (h : Evolves s0 s) :
    Evolves s0 (State.qpCount s q c n) := by
  unfold State.qpCount
  extract_lets x0
  split
  · exact h
  · exact (State.setTabN_evolves h)

theorem sliceTable_keeps :
    WinTable.Keeps (sliceTable) := by
  unfold sliceTable
  constructor
  · intro s0 s0 i1 m2 w3 k4
    dsimp only
    split
    · exact (State.setTabN_evolves k4)
    · exact (State.raise_evolves k4)
  · intro s0 s7 i8 m9 k11
    dsimp only
    split
    · exact (State.setTabN_evolves k11)
    · exact (State.raise_evolves k11)

theorem dlogTable_keeps :
    WinTable.Keeps (dlogTable) := by
  unfold dlogTable
  constructor
  · intro s0 s0 i1 m2 w3 k4
    dsimp only
    split
    · exact (State.setTabN_evolves k4)
    · exact (State.raise_evolves k4)
  · intro s0 s7 i8 m9 k11
    dsimp only
    exact (State.setTabN_evolves k11)

theorem State.qpSignal_evolves {s0 : State} {s : State} {q : Nat} (h : Evolves s0 s) :
    Evolves s0 (State.qpSignal s q) := by
  unfold State.qpSignal
  extract_lets x0 x1
  split
  · split
    · exact (State.sendMsix_evolves (State.setQp_evolves h))
    · exact h
  · exact h

theorem execMsixModeration_evolves {s0 : State} {q : Fin 65536} {s : State} (h : Evolves s0 s) :
    Ends s0 (execMsixModeration q s) := by
  unfold execMsixModeration
  refine Ends.next ?_
  split
  · exact (State.qpSignal_evolves h)
  · exact h

theorem State.qpComplete_evolves {s0 : State} {s : State} {n : Nat} {q : Nat} {b : List Byte} (h : Evolves s0 s) :
    Evolves s0 (State.qpComplete s n q b) := by
  unfold State.qpComplete
  extract_lets x0 x1 x2 x3 x4 x5 x6 x7 x8 x9
  have k10 : Evolves s0 x4 := (State.dirtyFlushSlice_evolves h)
  have k11 : Evolves s0 x5 := (State.dmaWrite_evolves (State.dmaWrite_evolves k10))
  have k12 : Evolves s0 x6 := (State.dmaWrite_evolves k11)
  exact (State.qpSignal_evolves (State.setQp_evolves k12))

theorem State.qpFault_evolves {s0 : State} {s : State} {q : Nat} (h : Evolves s0 s) :
    Evolves s0 (State.qpFault s q) := by
  unfold State.qpFault
  extract_lets x0
  exact (State.raise_evolves (State.setQp_evolves h))

theorem State.dbDrop_evolves {s0 : State} {s : State} (h : Evolves s0 s) :
    Evolves s0 (State.dbDrop s) := by
  unfold State.dbDrop
  exact (State.bump_evolves h)

theorem State.doorbell_evolves {s0 : State} {s : State} {l : Nat} {q : Nat} {f : QpSt → QpSt} (h : Evolves s0 s) :
    Evolves s0 (State.doorbell s l q f) := by
  unfold State.doorbell
  split
  · exact h
  · split
    · extract_lets x5
      split
      · exact (State.setQp_evolves h)
      · exact (State.dbDrop_evolves h)
    · exact (State.dbDrop_evolves h)

theorem execDoorbellTxTail_evolves {s0 : State} {l : Fin 4} {q : Fin 65536} {v : Word} {s : State} (h : Evolves s0 s) :
    Ends s0 (execDoorbellTxTail l q v s) := by
  unfold execDoorbellTxTail
  exact Ends.next (State.doorbell_evolves h)

theorem execDoorbellRxTail_evolves {s0 : State} {l : Fin 4} {q : Fin 65536} {v : Word} {s : State} (h : Evolves s0 s) :
    Ends s0 (execDoorbellRxTail l q v s) := by
  unfold execDoorbellRxTail
  exact Ends.next (State.doorbell_evolves h)

theorem execDoorbellCqHead_evolves {s0 : State} {l : Fin 4} {q : Fin 65536} {v : Word} {s : State} (h : Evolves s0 s) :
    Ends s0 (execDoorbellCqHead l q v s) := by
  unfold execDoorbellCqHead
  split
  · exact Ends.next (State.qpSignal_evolves (State.doorbell_evolves h))
  · exact Ends.next h

theorem execLkaHostDoorbell_evolves {s0 : State} {l : Fin 4} {r : Fin 256} {v : Word} {s : State} (h : Evolves s0 s) :
    Ends s0 (execLkaHostDoorbell l r v s) := by
  unfold execLkaHostDoorbell
  extract_lets x0 x1
  split
  · exact Ends.next h
  · split
    · exact Ends.next (State.lkaPiWrite_evolves h)
    · exact Ends.next (State.dbDrop_evolves h)

theorem State.chooseSlice_evolves {s0 : State} {s : State} {l : Nat} (h : Evolves s0 s) :
    OptAll (fun p => Evolves s0 p.2) (State.chooseSlice s l) := by
  unfold State.chooseSlice
  extract_lets x0 x1 x2 x3 x4 x5
  have k6 : Evolves s0 x4 := by
    subst x4
    split
    · exact h
    · exact (foldl_evolves _ (fun a9 a10 k11 => (State.setSlice_evolves k11)) h)
  split
  · exact OptAll.none
  · refine OptAll.some ?_
    exact (hostUpd_evolves k6)

theorem State.sliceCharge_evolves {s0 : State} {s : State} {n : Nat} {c : Nat} (h : Evolves s0 s) :
    Evolves s0 (State.sliceCharge s n c) := by
  unfold State.sliceCharge
  extract_lets x0 x1 x2
  exact (State.setSlice_evolves h)

theorem State.txFetch_evolves {s0 : State} {s : State} {l : Nat} {n : Nat} {q : Nat} {x : TxFetch} (h : Evolves s0 s) :
    Evolves s0 (State.txFetch s l n q x) := by
  unfold State.txFetch
  extract_lets x0 x1 x2 x3 x4 x5
  split
  · exact (State.qpFault_evolves h)
  · split
    · exact h
    · extract_lets x13 x14 x15 x16
      have k17 : Evolves s0 x15 := (State.setSlice_evolves (State.setQp_evolves h))
      split
      · exact (State.qpComplete_evolves k17)
      · extract_lets x23 x24 x25
        have k26 : Evolves s0 x25 := (State.setPipe_evolves k17)
        split
        · exact (State.qpComplete_evolves (State.qpFault_evolves k17))
        · exact (State.qpComplete_evolves (State.qpCount_evolves (State.qpCount_evolves (State.sliceCharge_evolves k26))))

theorem execHostTxFetch_evolves {s0 : State} {l : Fin 4} {x : TxFetch} {s : State} (h : Evolves s0 s) :
    Ends s0 (execHostTxFetch l x s) := by
  unfold execHostTxFetch
  split
  · exact Ends.next h
  · split
    · exact Ends.next h
    · rename_i v4 v5 v6 e7
      have k8 : Evolves s0 v6 := (State.chooseSlice_evolves h) _ e7
      split
      · exact Ends.next (State.txFetch_evolves k8)
      · exact Ends.next h

theorem State.rxData_evolves {s0 : State} {s : State} {n : Nat} {size : Nat} {ring : List Byte} {y4 : Nat} {y5 : Nat} {y6 : List Byte} (h : Evolves s0 s) :
    Evolves s0 (State.rxData s n size ring y4 y5 y6) := by
  fun_induction State.rxData s n size ring y4 y5 y6
  · exact h
  · rename_i v3 v4 v5 v6 e7
    apply e7
    · exact (State.dmaWrite_evolves h)

theorem State.rxWrite_evolves {s0 : State} {s : State} {l : Nat} {k : Pkt} {x : RxHost} (h : Evolves s0 s) :
    Evolves s0 (State.rxWrite s l k x) := by
  unfold State.rxWrite
  extract_lets x0 x1 x2 x3 x4 x5 x6 x7
  have k8 : Evolves s0 x7 := (State.setQp_evolves h)
  split
  · exact (State.bump_evolves h)
  · extract_lets x14 x15
    have k16 : Evolves s0 x15 := (State.rxData_evolves k8)
    split
    · exact (State.bump_evolves h)
    · split
      · exact (State.bump_evolves h)
      · split
        · exact (State.bump_evolves h)
        · split
          · exact (State.bump_evolves (State.qpFault_evolves h))
          · split
            · exact (State.qpComplete_evolves (State.qpFault_evolves k8))
            · exact (State.qpComplete_evolves (State.qpCount_evolves (State.qpCount_evolves k16)))

theorem execHostRxWrite_evolves {s0 : State} {x : RxHost} {s : State} (h : Evolves s0 s) :
    Ends s0 (execHostRxWrite x s) := by
  unfold execHostRxWrite
  split
  · exact Ends.next h
  · extract_lets x6
    split
    · exact Ends.next h
    · exact Ends.next (State.rxWrite_evolves (queUpd_evolves h))

theorem execDlogFlush_evolves {s0 : State} {i : Fin 1024} {s : State} (h : Evolves s0 s) :
    Ends s0 (execDlogFlush i s) := by
  unfold execDlogFlush
  split
  · refine Ends.next ?_
    split
    · exact (State.dirtyFlush_evolves h)
    · exact h
  · exact Ends.next h

theorem State.dlogSwap_evolves {s0 : State} {s : State} {l : Nat} {n : Nat} (h : Evolves s0 s) :
    Evolves s0 (State.dlogSwap s l n) := by
  unfold State.dlogSwap
  extract_lets x0 x1
  split
  · exact (State.setHlink_evolves h)
  · exact (State.setHlink_evolves (State.setSlice_evolves h))

theorem execDlogSwap_evolves {s0 : State} {src : SwapFrom} {v : Word} {s : State} (h : Evolves s0 s) :
    Ends s0 (execDlogSwap src v s) := by
  unfold execDlogSwap
  extract_lets x0
  split
  · refine Ends.next ?_
    split
    · exact (State.dlogSwap_evolves h)
    · exact h
  · exact Ends.next (State.asWrite_evolves h (fun a7 k8 => (State.dlogSwap_evolves k8)))

theorem execDlogSwapDone_evolves {s0 : State} {n : Fin 4096} {s : State} (h : Evolves s0 s) :
    Ends s0 (execDlogSwapDone n s) := by
  unfold execDlogSwapDone
  extract_lets x0 x1 x2 x3 x4 x5
  have k6 : Evolves s0 x1 := (State.dirtyFlushAll_evolves h)
  have k7 : Evolves s0 x3 := (State.setSlice_evolves k6)
  split
  · exact Ends.next (State.sendMsix_evolves (State.raise_evolves (State.setHlink_evolves k7)))
  · exact Ends.next h

end Sys2Proof.Machine
end

