-- ==== Sys2Proof/Laws/HostBlock.lean ====
section
/-! SUPPORT. Every operation of `Sys2Proof/Machine/HostBlock.lean` only evolves the state (`Evolves`), one lemma per operation. -/

namespace Sys2Proof.Machine

theorem blkTable_keeps {y0 : Nat} :
    OptAll WinTable.Keeps (blkTable y0) := by
  unfold blkTable
  split
  · refine OptAll.some ?_
    exact maskedTable_keeps
  · refine OptAll.some ?_
    exact maskedTable_keeps
  · exact OptAll.none

theorem State.rdyFalls_evolves {s0 : State} {s : State} {l : Nat} (h : Evolves s0 s) :
    Evolves s0 (State.rdyFalls s l) := by
  unfold State.rdyFalls
  extract_lets x0
  split
  · exact (State.setHlink_evolves h)
  · exact h

theorem State.nvmePost_evolves {s0 : State} {s : State} {l : Nat} {y : Nat} {cid : Nat} {dw0 : Nat} {st : Nat} (h : Evolves s0 s) :
    Evolves s0 (State.nvmePost s l y cid dw0 st) := by
  unfold State.nvmePost
  extract_lets x0
  have k1 : Evolves s0 x0 := by
    subst x0
    split
    · exact (State.dirtyFlushSlice_evolves h)
    · exact h
  exact (State.sendMsix_evolves (State.emit_evolves k1))

theorem State.blkFree_evolves {s0 : State} {s : State} {n : Nat} {a : Nat} (h : Evolves s0 s) :
    Evolves s0 (State.blkFree s n a) := by
  unfold State.blkFree
  extract_lets x0
  exact (State.setSlice_evolves (State.poolFree_evolves h))

theorem State.blkFreeAll_evolves {s0 : State} {s : State} {n : Nat} {c : NvmeCmd} (h : Evolves s0 s) :
    Evolves s0 (State.blkFreeAll s n c) := by
  unfold State.blkFreeAll
  exact (foldl_evolves _ (fun a0 a1 k2 => (State.blkFree_evolves k2)) h)

theorem State.blkAlloc_evolves {s0 : State} {s : State} {n : Nat} {pool : Nat} (h : Evolves s0 s) :
    Evolves s0 (State.blkAlloc s n pool).2 := by
  unfold State.blkAlloc
  extract_lets x0 x1 x2
  have k3 : Evolves s0 x1.2 := (State.poolAlloc_evolves h)
  split
  · exact (State.bump_evolves h)
  · split
    · exact k3
    · exact (State.setSlice_evolves k3)

theorem blkAllocN_evolves {s0 : State} {n : Nat} {pool : Nat} {y2 : Nat} {y3 : State} (h : Evolves s0 y3) :
    Evolves s0 (blkAllocN n pool y2 y3).2 := by
  fun_induction blkAllocN n pool y2 y3
  · exact h
  · rename_i v1 v2 v3 e4
    have k5 : Evolves s0 v3 := Evolves.of_snd (State.blkAlloc_evolves h) e4
    have k6 : Evolves s0 v3 := Evolves.of_snd (State.blkAlloc_evolves h) e4
    exact k5
  · rename_i v7 v8 v9 v10 e11 v12 v13 e14 e15
    have k16 : Evolves s0 v10 := Evolves.of_snd (State.blkAlloc_evolves h) e11
    have k17 : Evolves s0 v13 := Evolves.of_snd (e15 k16) e14
    have k18 : Evolves s0 v10 := Evolves.of_snd (State.blkAlloc_evolves h) e11
    have k19 : Evolves s0 v13 := Evolves.of_snd (e15 k16) e14
    exact k17
  · rename_i v20 v21 v22 v23 e24 v25 e26 e27
    have k28 : Evolves s0 v23 := Evolves.of_snd (State.blkAlloc_evolves h) e24
    have k29 : Evolves s0 v25 := Evolves.of_snd (e27 k28) e26
    have k30 : Evolves s0 v23 := Evolves.of_snd (State.blkAlloc_evolves h) e24
    have k31 : Evolves s0 v25 := Evolves.of_snd (e27 k28) e26
    exact (State.blkFree_evolves k29)

theorem State.bufsWrite_evolves {s0 : State} {s : State} {y1 : List Nat} {y2 : List Byte} (h : Evolves s0 s) :
    Evolves s0 (State.bufsWrite s y1 y2) := by
  fun_induction State.bufsWrite s y1 y2
  · exact h
  · rename_i v2 v3 v4 v5 e6
    apply e6
    · exact (State.hbmStore_evolves h)

theorem State.bufsUe_evolves {s0 : State} {s : State} {bufs : List Nat} {n : Nat} (h : Evolves s0 s) :
    Evolves s0 (State.bufsUe s bufs n) := by
  unfold State.bufsUe
  exact (foldl_evolves _ (fun a0 a1 k2 => (State.hbmUeRead_evolves k2)) h)

theorem State.segsWrite_evolves {s0 : State} {s : State} {l : Nat} {slice : Option Nat} {y3 : List (Nat × Nat)} {y4 : List Byte} (h : Evolves s0 s) :
    Evolves s0 (State.segsWrite s l slice y3 y4) := by
  fun_induction State.segsWrite s l slice y3 y4
  · exact h
  · rename_i v2 v3 v4 v5 v6 v7 e8
    have k9 : Evolves s0 v7 := by
      subst v7
      split
      · exact (State.dmaWrite_evolves h)
      · split
        · exact h
        · exact (State.emit_evolves h)
    exact (e8 k9)

theorem State.nsRefCount_evolves {s0 : State} {s : State} {ns : Nat} (h : Evolves s0 s) :
    Evolves s0 (State.nsRefCount s ns) := by
  unfold State.nsRefCount
  split
  · exact (State.keyRefBad_evolves h)
  · exact h

theorem State.nvmeEnd_evolves {s0 : State} {s : State} {c : NvmeCmd} {dw0 : Nat} {st : Nat} (h : Evolves s0 s) :
    Evolves s0 (State.nvmeEnd s c dw0 st) := by
  unfold State.nvmeEnd
  extract_lets x0 x1 x2
  have k3 : Evolves s0 x2 := (hostUpd_evolves h)
  exact (State.rdyFalls_evolves (State.nvmePost_evolves (State.blkFreeAll_evolves k3)))

theorem State.blkTry_evolves {s0 : State} {s : State} {c : NvmeCmd} (h : Evolves s0 s) :
    Evolves s0 (State.blkTry s c) := by
  unfold State.blkTry
  extract_lets x0 x1 x2 x3
  split
  · exact h
  · split
    · exact (State.nvmeEnd_evolves (State.nsRefCount_evolves h))
    · split
      · rename_i v8 v9 e10
        have k11 : Evolves s0 v9 := Evolves.of_snd (blkAllocN_evolves h) e10
        exact k11
      · rename_i v12 v13 v14 e15
        have k16 : Evolves s0 v14 := Evolves.of_snd (blkAllocN_evolves h) e15
        split
        · rename_i v17 v18 e19
          have k20 : Evolves s0 v18 := Evolves.of_snd (State.blkAlloc_evolves k16) e19
          exact (foldl_evolves _ (fun a21 a22 k23 => (State.blkFree_evolves k23)) k20)
        · rename_i v24 v25 v26 e27
          have k28 : Evolves s0 v26 := Evolves.of_snd (State.blkAlloc_evolves k16) e27
          extract_lets x29 x30 x31 x32 x33 x34 x35
          have k36 : Evolves s0 x30 := (State.bufsWrite_evolves k28)
          have k37 : Evolves s0 x31 := (State.hbmStore_evolves k36)
          have k38 : Evolves s0 x35 := (hostUpd_evolves k37)
          exact (State.chDevice_evolves k38)

theorem State.nvmeTake_evolves {s0 : State} {s : State} {l : Nat} {x : NvmeIn} (h : Evolves s0 s) :
    Evolves s0 (State.nvmeTake s l x) := by
  unfold State.nvmeTake
  extract_lets x0 x1 x2 x3 x4 x5 x6 x7 x8
  split
  · exact (State.nvmePost_evolves h)
  · exact (State.blkTry_evolves (hostUpd_evolves h))

theorem execNvmeDoorbell_evolves {s0 : State} {l : Fin 4} {x : NvmeIn} {s : State} (h : Evolves s0 s) :
    Ends s0 (execNvmeDoorbell l x s) := by
  unfold execNvmeDoorbell
  extract_lets x0 x1
  split
  · exact Ends.next h
  · refine Ends.next ?_
    split
    · exact (State.dbDrop_evolves h)
    · exact (State.nvmeTake_evolves h)

theorem State.nvmeResult_evolves {s0 : State} {s : State} {c : NvmeCmd} {dw0 : Nat} {st : Nat} (h : Evolves s0 s) :
    Evolves s0 (State.nvmeResult s c dw0 st) := by
  unfold State.nvmeResult
  extract_lets x0 x1 x2
  split
  · exact (State.nvmeEnd_evolves h)
  · split
    · exact (State.nvmeEnd_evolves (State.bufsUe_evolves h))
    · split
      · split
        · exact (State.nvmeEnd_evolves (State.nsRefCount_evolves h))
        · exact (State.nvmeEnd_evolves (State.segsWrite_evolves h))
      · exact (State.nvmeEnd_evolves (State.segsWrite_evolves h))

theorem State.blkRetry_evolves {s0 : State} {s : State} (h : Evolves s0 s) :
    Evolves s0 (State.blkRetry s) := by
  unfold State.blkRetry
  refine foldl_evolves _ ?_ ?_
  · intro a3 a4 k5
    split
    · split
      · exact k5
      · exact (State.nvmeResult_evolves k5)
    · exact (State.blkTry_evolves k5)
  · exact h

theorem State.blkDone_evolves {s0 : State} {s : State} (h : Evolves s0 s) :
    Evolves s0 (State.blkDone s) := by
  unfold State.blkDone
  split
  · exact (State.bump_evolves h)
  · extract_lets x5 x6 x7
    split
    · exact (hostUpd_evolves h)
    · exact (State.blkRetry_evolves (State.nvmeResult_evolves h))

theorem execNvmeDone_evolves {s0 : State} {m : Master} {v : Word} {s : State} (h : Evolves s0 s) :
    Ends s0 (execNvmeDone m v s) := by
  unfold execNvmeDone
  extract_lets x0
  exact Ends.next (State.asWrite_evolves h (fun a1 k2 => (State.blkDone_evolves (State.wr_evolves k2))))

theorem execNvmeTimeout_evolves {s0 : State} {i : Fin 65536} {s : State} (h : Evolves s0 s) :
    Ends s0 (execNvmeTimeout i s) := by
  unfold execNvmeTimeout
  split
  · exact Ends.next h
  · split
    · exact Ends.next (State.blkRetry_evolves (State.raise_evolves (State.nvmeEnd_evolves h)))
    · exact Ends.next h

theorem execNvmeCcDisable_evolves {s0 : State} {l : Fin 4} {s : State} (h : Evolves s0 s) :
    Ends s0 (execNvmeCcDisable l s) := by
  unfold execNvmeCcDisable
  extract_lets x0
  split
  · exact Ends.next (State.rdyFalls_evolves (State.setHlink_evolves h))
  · exact Ends.next h

theorem execNvmeControllerEnable_evolves {s0 : State} {l : Fin 4} {s : State} (h : Evolves s0 s) :
    Ends s0 (execNvmeControllerEnable l s) := by
  unfold execNvmeControllerEnable
  extract_lets x0
  split
  · exact Ends.next (State.setHlink_evolves h)
  · exact Ends.next h

theorem State.blkTmoWrite_evolves {s0 : State} {s : State} {v : Nat} (h : Evolves s0 s) :
    Evolves s0 (State.blkTmoWrite s v) := by
  unfold State.blkTmoWrite
  split
  · exact (State.wr_evolves h)
  · exact (State.raise_evolves h)

theorem execPoolFree_evolves {s0 : State} {m : Master} {datum : BitVec 64} {s : State} (h : Evolves s0 s) :
    Ends s0 (execPoolFree m datum s) := by
  unfold execPoolFree
  exact Ends.next (State.asPort_evolves h (fun a0 a1 k2 => (State.blkRetry_evolves (State.poolFree_evolves k2))))

theorem execPoolRelease_evolves {s0 : State} {m : Master} {datum : BitVec 64} {s : State} (h : Evolves s0 s) :
    Ends s0 (execPoolRelease m datum s) := by
  unfold execPoolRelease
  exact Ends.next (State.asPort_evolves h (fun a0 a1 k2 => (State.blkRetry_evolves (State.poolRelease_evolves k2))))

end Sys2Proof.Machine
end

