-- ==== Sys2Proof/Laws/Macsec.lean ====
section
/-! SUPPORT. Every operation of `Sys2Proof/Machine/Macsec.lean` only evolves the state (`Evolves`), one lemma per operation. -/

namespace Sys2Proof.Machine

theorem saTable_keeps {o : Nat} {table : Nat} {code : Nat} {count : Nat} :
    WinTable.Keeps (saTable o table code count) := by
  unfold saTable
  constructor
  · intro s0 s0 i1 m2 w3 k4
    dsimp only
    exact (State.saPut_evolves k4)
  · intro s0 s5 i6 m7 k9
    dsimp only
    exact (State.saPut_evolves k9)

theorem msecTable_keeps {o : Nat} {y1 : Nat} :
    OptAll WinTable.Keeps (msecTable o y1) := by
  unfold msecTable
  extract_lets x0
  have k1 : WinTable.Keeps x0 := plainTable_keeps
  split
  · refine OptAll.some ?_
    exact maskedTable_keeps
  · refine OptAll.some ?_
    exact saTable_keeps
  · refine OptAll.some ?_
    exact maskedTable_keeps
  · refine OptAll.some ?_
    exact saTable_keeps
  · refine OptAll.some ?_
    constructor
    · intro s0 s7 i8 m9 w10 k11
      dsimp only
      exact (k1.put k11)
    · intro s0 s12 i13 m14 k16
      dsimp only
      exact (k1.clear k16)
  · exact OptAll.none

theorem State.msCount_evolves {s0 : State} {s : State} {p : Nat} {i : Nat} {n : Nat} (h : Evolves s0 s) :
    Evolves s0 (State.msCount s p i n) := by
  unfold State.msCount
  extract_lets x0
  split
  · exact h
  · exact (State.setTabN_evolves h)

theorem State.msTransmit_evolves {s0 : State} {s : State} {p : Nat} {f : List Byte} (h : Evolves s0 s) :
    Evolves s0 (State.msTransmit s p f).2 := by
  unfold State.msTransmit
  extract_lets x0 x1 x2 x3 x4 x5 x6 x7 x8 x9 x10 x11 x12 x13 x14
  have k15 : Evolves s0 x12 := (State.setTabN_evolves h)
  have k16 : Evolves s0 x13 := by
    subst x13
    split
    · exact (State.pnSoft_evolves k15)
    · exact k15
  have k19 : Evolves s0 x14 := (State.msCount_evolves (State.msCount_evolves k16))
  split
  · exact h
  · split
    · exact (State.msCount_evolves h)
    · split
      · exact (State.msCount_evolves h)
      · exact k19

theorem State.msDrop_evolves {s0 : State} {s : State} {p : Nat} {i : Nat} (h : Evolves s0 s) :
    Evolves s0 (State.msDrop s p i).2 := by
  unfold State.msDrop
  exact (State.raise_evolves (State.msCount_evolves h))

theorem State.msReceive_evolves {s0 : State} {s : State} {p : Nat} {f : List Byte} (h : Evolves s0 s) :
    Evolves s0 (State.msReceive s p f).2 := by
  unfold State.msReceive
  extract_lets x0 x1 x2 x3
  split
  · exact h
  · split
    · exact h
    · split
      · split
        · exact (State.msDrop_evolves h)
        · exact (State.msCount_evolves h)
      · split
        · split
          · exact h
          · exact (State.msDrop_evolves h)
        · extract_lets x19 x20
          split
          · subst x20
            split
            · exact h
            · split
              · exact (State.msDrop_evolves h)
              · exact (State.msCount_evolves h)
          · extract_lets x30 x31 x32 x33 x34 x35 x36
            have k37 : Evolves s0 x36 := (State.setTabN_evolves h)
            split
            · subst x20
              split
              · exact h
              · split
                · exact (State.msDrop_evolves h)
                · exact (State.msCount_evolves h)
            · split
              · subst x20
                split
                · exact (State.keyRefBad_evolves h)
                · split
                  · exact (State.msDrop_evolves (State.keyRefBad_evolves h))
                  · exact (State.msCount_evolves (State.keyRefBad_evolves h))
              · split
                · exact h
                · split
                  · exact (State.msDrop_evolves h)
                  · clear_value x35
                    split
                    · exact (State.msCount_evolves (State.msCount_evolves k37))
                    · split
                      · exact (State.msDrop_evolves h)
                      · exact (State.msCount_evolves h)

end Sys2Proof.Machine
end

