-- ==== Sys2Proof/Laws/LineFrames.lean ====
section
/-! SUPPORT. Every operation of `Sys2Proof/Machine/LineFrames.lean` only evolves the state (`Evolves`), one lemma per operation. -/

namespace Sys2Proof.Machine

theorem State.goodFrame_evolves {s0 : State} {s : State} {p : Nat} {f : List Byte} {n : Nat} {oct : Nat} {pkt : Nat} {cast : Nat} {size : Nat} (h : Evolves s0 s) :
    Evolves s0 (State.goodFrame s p f n oct pkt cast size) := by
  unfold State.goodFrame
  exact (State.portCount_evolves (State.portCount_evolves (State.portCount_evolves (State.portCount_evolves h))))

theorem State.rxBad_evolves {s0 : State} {s : State} {p : Nat} {x : RxLine} {b : List Byte} (h : Evolves s0 s) :
    Evolves s0 (State.rxBad s p x b) := by
  unfold State.rxBad
  extract_lets x0
  split
  · exact (State.toPipe_evolves h)
  · exact h

theorem State.pfcRx_evolves {s0 : State} {s : State} {p : Nat} {f : List Byte} {y3 : Nat} (h : Evolves s0 s) :
    Evolves s0 (State.pfcRx s p f y3) := by
  fun_induction State.pfcRx s p f y3
  · exact h
  · rename_i v0 v1 v2 v3 e4 e5
    have k6 : Evolves s0 v1 := e5
    have k7 : Evolves s0 v3 := by
      subst v3
      split
      · exact (State.portCount_evolves k6)
      · exact k6
    exact (State.pauseSet_evolves k7)
  · rename_i v10 v11 v12 v13 e14 e15
    have k16 : Evolves s0 v11 := e15
    have k17 : Evolves s0 v13 := by
      subst v13
      split
      · exact (State.portCount_evolves k16)
      · exact k16
    exact k17

theorem State.macControl_evolves {s0 : State} {s : State} {p : Nat} {f : List Byte} (h : Evolves s0 s) :
    Evolves s0 (State.macControl s p f) := by
  unfold State.macControl
  extract_lets x0 x1
  have k2 : Evolves s0 x1 := (State.portCount_evolves h)
  split
  · split
    · exact (State.pauseSet_evolves k2)
    · exact k2
  · split
    · exact (State.pfcRx_evolves h)
    · exact (State.portCount_evolves h)

theorem State.rxPass_evolves {s0 : State} {s : State} {p : Nat} {x : RxLine} {f : List Byte} (h : Evolves s0 s) :
    Evolves s0 (State.rxPass s p x f) := by
  unfold State.rxPass
  extract_lets x0 x1 x2
  split
  · exact (State.portCount_evolves h)
  · split
    · rename_i v5 v6 v7 e8
      have k9 : Evolves s0 v7 := Evolves.of_snd (State.msReceive_evolves h) e8
      exact (State.toPipe_evolves k9)
    · rename_i v10 v11 e12
      have k13 : Evolves s0 v11 := Evolves.of_snd (State.msReceive_evolves h) e12
      exact (State.rxBad_evolves k13)

theorem State.fecCount_evolves {s0 : State} {s : State} {p : Nat} {x : RxLine} (h : Evolves s0 s) :
    Evolves s0 (State.fecCount s p x) := by
  unfold State.fecCount
  extract_lets x0
  have k1 : Evolves s0 x0 := (State.bump64_evolves (State.bump64_evolves h))
  refine foldl_evolves _ ?_ ?_
  · intro a5 a6 k7
    split
    · exact (State.bump64_evolves k7)
    · exact k7
  · exact k1

theorem State.rxCheck_evolves {s0 : State} {s : State} {p : Nat} {x : RxLine} (h : Evolves s0 s) :
    Evolves s0 (State.rxCheck s p x) := by
  unfold State.rxCheck
  extract_lets x0 x1 x2 x3 x4
  have k5 : Evolves s0 x4 := (State.goodFrame_evolves h)
  split
  · exact (State.portCount_evolves h)
  · split
    · exact (State.rxBad_evolves (State.portCount_evolves h))
    · split
      · exact (State.rxBad_evolves (State.portCount_evolves h))
      · split
        · exact (State.rxBad_evolves (State.portCount_evolves h))
        · split
          · exact (State.rxBad_evolves (State.portCount_evolves h))
          · split
            · exact (State.macControl_evolves k5)
            · exact (State.rxPass_evolves k5)

theorem State.rxFrame_evolves {s0 : State} {s : State} {p : Nat} {x : RxLine} (h : Evolves s0 s) :
    Evolves s0 (State.rxFrame s p x) := by
  unfold State.rxFrame
  extract_lets x0
  split
  · exact h
  · split
    · exact (State.rxCheck_evolves (State.portCount_evolves (State.portCount_evolves (State.fecCount_evolves h))))
    · exact (State.portCount_evolves (State.portCount_evolves (State.portCount_evolves (State.fecCount_evolves h))))
    · split
      · exact (State.wakeCount_evolves (State.portCount_evolves (State.portCount_evolves (State.portCount_evolves (State.fecCount_evolves h)))))
      · exact h
    · exact h

theorem execRxFrame_evolves {s0 : State} {p : Fin 64} {x : RxLine} {s : State} (h : Evolves s0 s) :
    Ends s0 (execRxFrame p x s) := by
  unfold execRxFrame
  exact Ends.next (State.rxFrame_evolves h)

theorem State.lineSend_evolves {s0 : State} {s : State} {p : Nat} {f : List Byte} {bad : Bool} (h : Evolves s0 s) :
    Evolves s0 (State.lineSend s p f bad) := by
  unfold State.lineSend
  extract_lets x0 x1 x2
  have k3 : Evolves s0 x1 := (State.portCount_evolves (State.portCount_evolves h))
  have k4 : Evolves s0 x2 := by
    subst x2
    split
    · exact (State.portCount_evolves k3)
    · exact (State.goodFrame_evolves k3)
  split
  · exact (State.rxFrame_evolves k4)
  · exact (State.emit_evolves k4)

theorem State.sendFc_evolves {s0 : State} {s : State} {p : Nat} {bit : Nat} {quanta : Nat} (h : Evolves s0 s) :
    Evolves s0 (State.sendFc s p bit quanta) := by
  unfold State.sendFc
  extract_lets x0 x1 x2 x3
  exact (State.lineSend_evolves (State.portCount_evolves (State.drawn_evolves h)))

theorem State.txStamp_evolves {s0 : State} {s : State} {p : Nat} {tag : Nat} {c : Capture} (h : Evolves s0 s) :
    Evolves s0 (State.txStamp s p tag c) := by
  unfold State.txStamp
  extract_lets x0 x1
  split
  · exact (State.tsqAppend_evolves h)
  · exact h

theorem State.macSend_evolves {s0 : State} {s : State} {p : Nat} {k : Pkt} {x : TxLine} (h : Evolves s0 s) :
    Evolves s0 (State.macSend s p k x) := by
  unfold State.macSend
  extract_lets x0 x1 x2 x3 x4
  have k5 : Evolves s0 x2 := by
    subst x2
    split
    · exact (State.portCount_evolves h)
    · exact h
  split
  · exact (State.portCount_evolves h)
  · split
    · exact (State.portCount_evolves k5)
    · split
      · rename_i v12 v13 e14
        have k15 : Evolves s0 v13 := Evolves.of_snd (State.msTransmit_evolves k5) e14
        exact k15
      · rename_i v16 v17 v18 e19
        have k20 : Evolves s0 v18 := Evolves.of_snd (State.msTransmit_evolves k5) e19
        extract_lets x21
        have k22 : Evolves s0 x21 := (State.lineSend_evolves k20)
        split
        · exact (State.txStamp_evolves k22)
        · exact k22

theorem execTxFrame_evolves {s0 : State} {p : Fin 64} {x : TxLine} {s : State} (h : Evolves s0 s) :
    Ends s0 (execTxFrame p x s) := by
  unfold execTxFrame
  extract_lets x0
  split
  · exact Ends.next h
  · split
    · split
      · exact Ends.next (State.setPort_evolves h)
      · split
        · exact Ends.next h
        · exact Ends.next (State.sendFc_evolves (State.setPort_evolves h))
    · extract_lets x18
      have k19 : Evolves s0 x18 := (State.setPort_evolves h)
      split
      · refine Ends.next ?_
        split
        · exact k19
        · exact (State.portCount_evolves k19)
      · split
        · exact Ends.next h
        · exact Ends.next (State.macSend_evolves (State.setPort_evolves h))
    · exact Ends.next h

theorem execOnestepDepart_evolves {s0 : State} {p : Fin 64} {late : Bool} {s : State} (h : Evolves s0 s) :
    Ends s0 (execOnestepDepart p late s) := by
  unfold execOnestepDepart
  split
  · exact Ends.next h
  · rename_i o _
    split
    · exact Ends.next h
    · have hx : Evolves s0 { s with time := { s.time with oneStep := s.time.oneStep.erase o } } := h.frame rfl
      revert hx
      generalize ({ s with time := { s.time with oneStep := s.time.oneStep.erase o } } : State) = x
      intro hx
      dsimp only
      split
      · refine Ends.next ?_
        split
        · exact hx
        · exact State.portCount_evolves hx
      · split
        · exact Ends.next (State.raise_evolves (State.bump_evolves hx))
        · exact Ends.next (State.macSend_evolves hx)

end Sys2Proof.Machine
end

