-- ==== Sys2Proof/Laws/RegionReset.lean ====
section
/-! SUPPORT. Every operation of `Sys2Proof/Machine/RegionReset.lean` only evolves the state (`Evolves`), one lemma per operation. -/

namespace Sys2Proof.Machine

theorem State.regsReset_evolves {s0 : State} {s : State} {r : Nat} (h : Evolves s0 s) : Evolves s0 (State.regsReset s r) :=
  (regsFilter_evolves (p := fun p => addrRegion p.1 != r || keptReg r (addrBlock p.1) (addrOff p.1) || winCut p) h).frame rfl

theorem State.blockReset_evolves {s0 : State} {s : State} {r b : Nat} (h : Evolves s0 s) :
    Evolves s0 (State.blockReset s r b) :=
  (regsFilter_evolves (p := fun p => addrRegion p.1 != r || addrBlock p.1 != b || decide (addrOff p.1 < 0x40) ||
    keptReg r b (addrOff p.1) || winCut p) h).frame rfl

theorem State.dropAll_evolves {s0 : State} {s : State} {l : List Pkt} (h : Evolves s0 s) :
    Evolves s0 (State.dropAll s l) := by
  unfold State.dropAll
  exact (foldl_evolves _ (fun a0 a1 k2 => (State.dropPkt_evolves k2)) h)

theorem State.pipeDown_evolves {s0 : State} {s : State} {i : Nat} (h : Evolves s0 s) :
    Evolves s0 (State.pipeDown s i) := by
  unfold State.pipeDown
  extract_lets x0 x1 x2
  have k3 : Evolves s0 x0 := (State.setPipe_evolves (State.dropAll_evolves h))
  have k4 : Evolves s0 x1 := (State.dropAll_evolves k3)
  exact (queUpd_evolves k4)

theorem State.arrDown_evolves {s0 : State} {s : State} {q : Nat} {e : Bool} (h : Evolves s0 s) :
    Evolves s0 (State.arrDown s q e) := by
  unfold State.arrDown
  extract_lets a x t u
  have ht : Evolves s0 t := foldl_evolves _ (fun _ _ k => State.winEnd_evolves k) h
  clear_value t
  have hu : Evolves s0 u := by
    subst u
    split
    · exact State.winEnd_evolves ht
    · exact ht
  exact State.setArr_evolves hu

theorem State.sweepsDown_evolves {s0 : State} {s : State} {q : Nat} (h : Evolves s0 s) :
    Evolves s0 (State.sweepsDown s q) :=
  h.frame rfl

theorem State.lrnDown_evolves {s0 : State} {s : State} {q : Nat} (h : Evolves s0 s) :
    Evolves s0 (State.lrnDown s q) := by
  unfold State.lrnDown
  extract_lets x0
  have k1 : Evolves s0 x0 := by
    subst x0
    split
    · exact (State.winEnd_evolves h)
    · exact h
  exact (State.setLrn_evolves k1)

theorem State.pipesDown_evolves {s0 : State} {s : State} {q : Nat} (h : Evolves s0 s) : Evolves s0 (State.pipesDown s q) :=
  State.sweepsDown_evolves (State.arrDown_evolves (State.arrDown_evolves (State.lrnDown_evolves
    (foldl_evolves _ (fun _ _ k => State.pipeDown_evolves k) h))))

theorem State.tblDown_evolves {s0 : State} {s : State} (h : Evolves s0 s) :
    Evolves s0 (State.tblDown s) := by
  unfold State.tblDown
  extract_lets x0
  exact (fwdUpd_evolves h)

theorem State.lineDown_evolves {s0 : State} {s : State} (h : Evolves s0 s) :
    Evolves s0 (State.lineDown s) := by
  unfold State.lineDown
  extract_lets x0 x1
  exact (Evolves.frame h rfl)

theorem State.secDown_evolves {s0 : State} {s : State} (h : Evolves s0 s) :
    Evolves s0 (State.secDown s) := by
  unfold State.secDown
  extract_lets x0
  exact (tabsFilter_evolves h)

theorem State.cpuForget_evolves {s0 : State} {s : State} {c : Nat} (h : Evolves s0 s) : Evolves s0 (State.cpuForget s c) :=
  h.frame rfl

theorem State.cpuDown_evolves {s0 : State} {s : State} {c : Nat} (h : Evolves s0 s) : Evolves s0 (State.cpuDown s c) := by
  unfold State.cpuDown
  exact foldl_evolves _ (fun _ _ k => State.nvmeEnd_evolves k) (State.cpuForget_evolves (State.slotsReturn_evolves
    (foldl_evolves _ (fun _ _ k => State.thrHold_evolves k) h)))

theorem State.qpOff_evolves {s0 : State} {s : State} {q : Nat} (h : Evolves s0 s) :
    Evolves s0 (State.qpOff s q) := by
  unfold State.qpOff
  exact (State.setQp_evolves (State.setTabN_evolves h))

theorem State.hostForget_evolves {s0 : State} {s : State} (h : Evolves s0 s) : Evolves s0 (State.hostForget s) :=
  h.frame rfl

theorem State.hostDown_evolves {s0 : State} {s : State} (h : Evolves s0 s) :
    Evolves s0 (State.hostDown s) := by
  unfold State.hostDown
  extract_lets x0
  have k1 : Evolves s0 x0 := (State.hostForget_evolves h)
  exact (State.mbxEnd_evolves k1)

theorem State.queDown_evolves {s0 : State} {s : State} {eq : Bool} (h : Evolves s0 s) :
    Evolves s0 (State.queDown s eq) := by
  unfold State.queDown
  extract_lets x0 x1 x2 x3
  have k4 : Evolves s0 x0 := (foldl_evolves _ (fun a5 a6 k7 => (State.discardQueue_evolves k7)) h)
  have k8 : Evolves s0 x1 := (State.pfcRestart_evolves k4)
  split
  · exact (queUpd_evolves k8)
  · exact (queUpd_evolves k4)

theorem State.bufDown_evolves {s0 : State} {s : State} {fatal : Bool} (h : Evolves s0 s) :
    Evolves s0 (State.bufDown s fatal) := by
  unfold State.bufDown
  extract_lets x0 x1 x2 x3 x4 x5 x6
  have k7 : Evolves s0 x0 := by
    subst x0
    refine foldl_evolves _ ?_ ?_
    · intro a14 a15 k16
      extract_lets x17
      split
      · exact (State.poolDrainN_evolves k16)
      · exact (State.setPool_evolves k16)
    · exact h
  have k20 : Evolves s0 x1 := by
    subst x1
    split
    · exact (State.pageDrain_evolves k7)
    · exact k7
  have k23 : Evolves s0 x2 := (foldl_evolves _ (fun a24 a25 k26 => (State.discardQueue_evolves k26)) k20)
  have k27 : Evolves s0 x3 := (State.dropAll_evolves k23)
  have k28 : Evolves s0 x4 := (foldl_evolves _ (fun a29 a30 k31 => (State.breakContext_evolves k31)) k27)
  exact (Evolves.frame k28 rfl)

theorem State.memDown_evolves {s0 : State} {s : State} {n : Nat} {fatal : Bool} (h : Evolves s0 s) :
    Evolves s0 (State.memDown s n fatal) := by
  unfold State.memDown
  extract_lets x0 x1
  have k2 : Evolves s0 x0 := by
    subst x0
    refine foldl_evolves _ ?_ ?_
    · intro a9 a10 k11
      split
      · exact (State.hbmServe_evolves k11)
      · exact (State.hbmAnswer_evolves k11)
    · exact h
  exact (State.setStack_evolves k2)

theorem State.regionLoses_evolves {s0 : State} {s : State} {r : Nat} {fatal : Bool} (h : Evolves s0 s) :
    Evolves s0 (State.regionLoses s r fatal) := by
  unfold State.regionLoses
  split
  · exact (State.lineDown_evolves h)
  · exact (State.pipesDown_evolves h)
  · exact (State.pipesDown_evolves h)
  · exact (State.pipesDown_evolves h)
  · exact (State.pipesDown_evolves h)
  · exact (State.tblDown_evolves h)
  · exact (State.secDown_evolves h)
  · exact (State.cpuDown_evolves h)
  · exact (State.cpuDown_evolves h)
  · exact (State.cpuDown_evolves h)
  · exact (State.hostDown_evolves h)
  · exact (State.queDown_evolves h)
  · exact (State.queDown_evolves h)
  · exact (State.bufDown_evolves h)
  · exact (State.fabReset_evolves h)
  · exact (State.fabReset_evolves h)
  · exact (State.memDown_evolves h)
  · exact (State.memDown_evolves h)
  · exact (State.memDown_evolves h)
  · exact (State.memDown_evolves h)
  · exact h

theorem State.regionReset_evolves {s0 : State} {s : State} {r : Nat} {fatal : Bool} (h : Evolves s0 s) :
    Evolves s0 (State.regionReset s r fatal) := by
  unfold State.regionReset
  extract_lets x0 x1
  have k2 : Evolves s0 x0 := (State.regsReset_evolves (State.regionLoses_evolves h))
  exact (fltUpd_evolves k2)

theorem State.powerOff_evolves {s0 : State} {s : State} {r : Nat} (h : Evolves s0 s) :
    Evolves s0 (State.powerOff s r) := by
  unfold State.powerOff
  extract_lets x0 x1 x2 x3 x4 x5
  have k6 : Evolves s0 x0 := (tabsFilter_evolves h)
  have k7 : Evolves s0 x1 := (regsFilter_evolves k6)
  have k8 : Evolves s0 x3 := (hbmFilter_evolves k7)
  split
  · exact h
  · split
    · exact (State.setStack_evolves k8)
    · split
      · exact (cpuUpd_evolves k7)
      · split
        · exact (bufUpd_evolves k7)
        · split
          · exact (ascUpd_evolves k7)
          · exact k7

theorem State.timeUp_evolves {s0 : State} {s : State} (h : Evolves s0 s) :
    Evolves s0 (State.timeUp s) := by
  unfold State.timeUp
  extract_lets x0
  exact (timeUpd_evolves h rfl)

theorem State.ascAborted_evolves {s0 : State} {s : State} {a : ArrayRef} (h : Evolves s0 s) :
    Evolves s0 (State.ascAborted s a) := by
  unfold State.ascAborted
  split
  · exact h
  · extract_lets x5 x6 x7
    have k8 : Evolves s0 x5 := (State.clearMoving_evolves h)
    have k9 : Evolves s0 x7 := (State.wr_evolves (State.setArr_evolves k8))
    exact (State.raise_evolves (State.setFld_evolves k9))

theorem State.regionUp_evolves {s0 : State} {s : State} {r : Nat} (h : Evolves s0 s) :
    Evolves s0 (State.regionUp s r) := by
  unfold State.regionUp
  extract_lets x0
  split
  · exact (State.timeUp_evolves h)
  · exact (State.ascAborted_evolves (State.ascAborted_evolves h))
  · exact (State.ascAborted_evolves (State.ascAborted_evolves h))
  · exact (State.ascAborted_evolves (State.ascAborted_evolves h))
  · exact (State.ascAborted_evolves (State.ascAborted_evolves h))
  · exact (State.ringRebuild_evolves h)
  · exact (State.setRbit_evolves h)
  · exact (State.setRbit_evolves h)
  · exact (State.setRbit_evolves h)
  · exact (State.setRbit_evolves h)
  · exact h

theorem State.hostReady_evolves {s0 : State} {s : State} (h : Evolves s0 s) :
    Evolves s0 (State.hostReady s) := by
  unfold State.hostReady
  extract_lets x0 x1 x2
  have k3 : Evolves s0 x0 := (foldl_evolves _ (fun a4 a5 k6 => (State.qpOff_evolves k6)) h)
  have k7 : Evolves s0 x2 := (hostUpd_evolves k3)
  refine foldl_evolves _ ?_ ?_
  · intro a11 a12 k13
    extract_lets x14 x15
    have k16 : Evolves s0 x15 := (State.setHlink_evolves k13)
    split
    · exact (State.sendMsix_evolves k16)
    · exact k16
  · exact k7

theorem State.regionReadyFx_evolves {s0 : State} {s : State} {r : Nat} (h : Evolves s0 s) :
    Evolves s0 (State.regionReadyFx s r) := by
  unfold State.regionReadyFx
  extract_lets x0
  have k1 : Evolves s0 x0 := by
    subst x0
    split
    · split
      · exact (State.masterStart_evolves h)
      · exact h
    · split
      · exact (State.masterStart_evolves h)
      · exact h
    · split
      · exact (State.masterStart_evolves h)
      · exact h
    · exact (State.hostReady_evolves h)
    · split
      · exact (State.ringRebuild_evolves h)
      · exact h
    · split
      · exact (State.ringRebuild_evolves h)
      · exact h
    · split
      · exact (State.ringRebuild_evolves h)
      · exact h
    · split
      · exact (State.ringRebuild_evolves h)
      · exact h
    · exact h
  exact (State.blkRetry_evolves k1)

theorem State.chipClear_evolves {s0 : State} {s : State} (h : Evolves s0 s) : Evolves s0 (State.chipClear s) :=
  h.trans ⟨fun _ => rfl, fun _ => rfl, fun _ => rfl, id, rfl, ⟨[], rfl⟩, Nat.le_refl _, Nat.le_refl _, rfl, Nat.le_refl _,
    fun _ h => h⟩

theorem State.settle_evolves {s0 : State} {s : State} (h : Evolves s0 s) :
    Evolves s0 (State.settle s) := by
  unfold State.settle
  extract_lets x0
  exact (bootUpd_evolves h rfl rfl rfl)

theorem State.chipReset_evolves {s0 : State} {s : State} (h : Evolves s0 s) :
    Evolves s0 (State.chipReset s) := by
  unfold State.chipReset
  exact (State.settle_evolves (State.chipClear_evolves h))

end Sys2Proof.Machine
end

