-- ==== Sys2Proof/Laws/HostLinks.lean ====
section
/-! SUPPORT. Every operation of `Sys2Proof/Machine/HostLinks.lean` only evolves the state (`Evolves`), one lemma per operation. -/

namespace Sys2Proof.Machine

theorem State.linkChange_evolves {s0 : State} {s : State} {l : Nat} (h : Evolves s0 s) :
    Evolves s0 (State.linkChange s l) := by
  unfold State.linkChange
  exact (State.raiseIf_evolves h)

theorem execHostLinkUp_evolves {s0 : State} {l : Fin 4} {rate : Fin 6} {width : Fin 64} {flit : Bool} {s : State} (h : Evolves s0 s) :
    Ends s0 (execHostLinkUp l rate width flit s) := by
  unfold execHostLinkUp
  split
  · exact Ends.next (State.linkChange_evolves (State.wr_evolves h))
  · exact Ends.next h

theorem State.mbxRaise_evolves {s0 : State} {s : State} (h : Evolves s0 s) :
    Evolves s0 (State.mbxRaise s) := by
  unfold State.mbxRaise
  exact (State.raise_evolves h)

theorem State.mbxDrop_evolves {s0 : State} {s : State} {l : Nat} (h : Evolves s0 s) :
    Evolves s0 (State.mbxDrop s l) := by
  unfold State.mbxDrop
  split
  · exact (State.mbxRaise_evolves (State.sessionEnd_evolves h))
  · exact h

theorem State.linkQpsOff_evolves {s0 : State} {s : State} {l : Nat} (h : Evolves s0 s) :
    Evolves s0 (State.linkQpsOff s l) := by
  unfold State.linkQpsOff
  refine foldl_evolves _ ?_ ?_
  · intro a3 a4 k5
    split
    · split
      · exact (State.qpOff_evolves k5)
      · exact k5
    · exact k5
  · exact h

theorem State.controllerReset_evolves {s0 : State} {s : State} {l : Nat} (h : Evolves s0 s) :
    Evolves s0 (State.controllerReset s l) := by
  unfold State.controllerReset
  extract_lets x0 x1 x2 x3 x4
  have k5 : Evolves s0 x1 := by
    subst x1
    refine foldl_evolves _ ?_ ?_
    · intro a12 a13 k14
      extract_lets x15
      exact (State.blkFreeAll_evolves k14)
    · exact h
  have k16 : Evolves s0 x3 := (hostUpd_evolves k5)
  exact (State.setHlink_evolves k16)

theorem State.linkDown_evolves {s0 : State} {s : State} {l : Nat} (h : Evolves s0 s) :
    Evolves s0 (State.linkDown s l) := by
  unfold State.linkDown
  split
  · exact (State.mbxDrop_evolves (State.controllerReset_evolves (State.linkQpsOff_evolves (State.linkChange_evolves (State.wr_evolves h)))))
  · exact h

theorem execHostLinkDown_evolves {s0 : State} {l : Fin 4} {s : State} (h : Evolves s0 s) :
    Ends s0 (execHostLinkDown l s) := by
  unfold execHostLinkDown
  exact Ends.next (State.linkDown_evolves h)

theorem execHostPerstAssert_evolves {s0 : State} {l : Fin 4} {s : State} (h : Evolves s0 s) :
    Ends s0 (execHostPerstAssert l s) := by
  unfold execHostPerstAssert
  extract_lets x0 x1
  have k2 : Evolves s0 x0 := (State.linkDown_evolves h)
  exact Ends.next (State.setHlink_evolves k2)

theorem execHostPerstRelease_evolves {s0 : State} {l : Fin 4} {s : State} (h : Evolves s0 s) :
    Ends s0 (execHostPerstRelease l s) := by
  unfold execHostPerstRelease
  extract_lets x0
  exact Ends.next (State.setHlink_evolves h)

theorem execFunctionLevelReset_evolves {s0 : State} {l : Fin 4} {what : LinkReset} {s : State} (h : Evolves s0 s) :
    Ends s0 (execFunctionLevelReset l what s) := by
  unfold execFunctionLevelReset
  split
  · split
    · exact Ends.next (State.mbxDrop_evolves (State.controllerReset_evolves (State.linkQpsOff_evolves h)))
    · split
      · exact Ends.next (State.mbxDrop_evolves h)
      · split
        · exact Ends.next (State.linkQpsOff_evolves h)
        · exact Ends.next (State.controllerReset_evolves h)
  · exact Ends.next h

theorem execConfigurationRequest_evolves {s0 : State} {l : Fin 4} {fn : Fin 3} {s : State} (h : Evolves s0 s) :
    Ends s0 (execConfigurationRequest l fn s) := by
  unfold execConfigurationRequest
  split
  · exact Ends.next h
  · exact Ends.next (State.emit_evolves h)

theorem State.mbxDone_evolves {s0 : State} {s : State} {l : Nat} {st : Nat} (h : Evolves s0 s) :
    Evolves s0 (State.mbxDone s l st) := by
  unfold State.mbxDone
  extract_lets x0
  exact (State.sendMsix_evolves (State.setHlink_evolves h))

theorem State.mbxCmd_evolves {s0 : State} {s : State} {l : Nat} {f : State → Nat × State} (h0 : Evolves s0 s) (h1 : ∀ b0, Evolves s0 b0 → Evolves s0 (f b0).2) :
    Evolves s0 (State.mbxCmd s l f) := by
  unfold State.mbxCmd
  extract_lets x0
  have k1 : Evolves s0 x0.2 := (h1 _ h0)
  split
  · split
    · exact (State.mbxDone_evolves k1)
    · exact (State.mbxDone_evolves h0)
  · exact h0

theorem execMbxOpen_evolves {s0 : State} {l : Fin 4} {ok : Bool} {s : State} (h : Evolves s0 s) :
    Ends s0 (execMbxOpen l ok s) := by
  unfold execMbxOpen
  refine Ends.next ?_
  refine State.mbxCmd_evolves ?_ ?_
  · exact h
  · intro a4 k5
    extract_lets x6
    have k7 : Evolves s0 x6 := (State.mbxRaise_evolves (State.sessionOpen_evolves k5))
    split
    · split
      · exact k5
      · split
        · exact k7
        · exact (State.mbxRaise_evolves (State.sessionEnd_evolves k7))
    · split
      · exact k7
      · exact (State.mbxRaise_evolves (State.sessionEnd_evolves k7))

theorem execMbxWrite_evolves {s0 : State} {l : Fin 4} {block : Fin 131072} {len : Fin 8192} {data : List Byte} {ok : Bool} {s : State} (h : Evolves s0 s) :
    Ends s0 (execMbxWrite l block len data ok s) := by
  unfold execMbxWrite
  refine Ends.next ?_
  refine State.mbxCmd_evolves ?_ ?_
  · exact h
  · intro a4 k5
    split
    · exact k5
    · extract_lets x11 x12
      have k13 : Evolves s0 x11 := (State.flashWrite_evolves k5)
      split
      · exact k5
      · split
        · exact k5
        · split
          · exact (State.mbxRaise_evolves (State.sessionEnd_evolves k5))
          · exact (imgUpd_evolves k13)

theorem execMbxClose_evolves {s0 : State} {l : Fin 4} {ok : Bool} {s : State} (h : Evolves s0 s) :
    Ends s0 (execMbxClose l ok s) := by
  unfold execMbxClose
  refine Ends.next ?_
  refine State.mbxCmd_evolves ?_ ?_
  · exact h
  · intro a4 k5
    split
    · exact k5
    · split
      · exact (State.mbxRaise_evolves (State.sessionClose_evolves k5))
      · exact (State.mbxRaise_evolves (State.sessionEnd_evolves k5))

theorem execMbxAbort_evolves {s0 : State} {l : Fin 4} {s : State} (h : Evolves s0 s) :
    Ends s0 (execMbxAbort l s) := by
  unfold execMbxAbort
  exact Ends.next (State.mbxCmd_evolves h (fun a0 k1 => (State.mbxDrop_evolves k1)))

end Sys2Proof.Machine
end

