-- ==== Sys2Proof/Laws/Image.lean ====
section
/-! SUPPORT. Every operation of `Sys2Proof/Machine/Image.lean` only evolves the state (`Evolves`), one lemma per operation. -/

namespace Sys2Proof.Machine

theorem State.imageLoad_evolves {s0 : State} {s : State} {n : Nat} {second : Bool} (h : Evolves s0 s) :
    Evolves s0 (State.imageLoad s n second).1 := by
  unfold State.imageLoad
  extract_lets x0 x1
  have k2 : Evolves s0 x1 := (State.hbmStore_evolves h)
  exact k2

theorem State.measure_evolves {s0 : State} {s : State} {b : List Byte} {glide : Bool} (h : Evolves s0 s) :
    Evolves s0 (State.measure s b glide) := by
  unfold State.measure
  extract_lets x0 x1
  exact (imgUpd_evolves h)

theorem State.segLoad_evolves {s0 : State} {s : State} {x : Segment} (h : Evolves s0 s) :
    Evolves s0 (State.segLoad s x) := by
  unfold State.segLoad
  exact (State.hbmStore_evolves h)

theorem State.fwLoad_evolves {s0 : State} {s : State} {b : List Byte} (h : Evolves s0 s) :
    OptAll (Evolves s0) (State.fwLoad s b) := by
  unfold State.fwLoad
  refine OptAll.map (fun f _ => ?_)
  dsimp only
  refine foldl_evolves _ (fun _ _ k => State.masterStart_evolves k) ?_
  exact (foldl_evolves f (fun _ _ k => foldl_evolves _ (fun _ _ k => State.segLoad_evolves k) k) h).frame rfl

theorem State.identTake_evolves {s0 : State} {s : State} {b : List Byte} {k : Option (List Byte)} (h : Evolves s0 s) :
    Evolves s0 (State.identTake s b k) := by
  cases k with
  | none => exact State.bootRaise_evolves (State.bootFail_evolves h)
  | some k => exact h.frame rfl

theorem State.identLoad_evolves {s0 : State} {s : State} {readErr : Bool} (h : Evolves s0 s) :
    Evolves s0 (State.identLoad s readErr) := State.identTake_evolves h

end Sys2Proof.Machine
end

