-- ==== Sys2Proof/Laws/Esp.lean ====
section
/-! SUPPORT. Every operation of `Sys2Proof/Machine/Esp.lean` only evolves the state (`Evolves`), one lemma per operation. -/

namespace Sys2Proof.Machine

theorem espSaTable_keeps {table : Nat} {code : Nat} {bytes : Nat} {mask : Nat} {ok : Nat → Bool} :
    WinTable.Keeps (espSaTable table code bytes mask ok) := by
  unfold espSaTable
  constructor
  · intro s0 s0 i1 m2 w3 k4
    dsimp only
    split
    · exact (State.saPut_evolves k4)
    · exact k4
  · intro s0 s7 i8 m9 k11
    dsimp only
    exact (State.saPut_evolves k11)

theorem espTable_keeps {y0 : Nat} :
    OptAll WinTable.Keeps (espTable y0) := by
  unfold espTable
  extract_lets x0
  have k1 : WinTable.Keeps x0 := plainTable_keeps
  split
  · refine OptAll.some ?_
    exact espSaTable_keeps
  · refine OptAll.some ?_
    exact espSaTable_keeps
  · refine OptAll.some ?_
    exact maskedTable_keeps
  · refine OptAll.some ?_
    constructor
    · intro s0 s6 i7 m8 w9 k10
      dsimp only
      exact (k1.put k10)
    · intro s0 s11 i12 m13 k15
      dsimp only
      exact (k1.clear k15)
  · exact OptAll.none

theorem State.espCount_evolves {s0 : State} {s : State} {sa : Nat} {c : Nat} {n : Nat} (h : Evolves s0 s) :
    Evolves s0 (State.espCount s sa c n) := by
  unfold State.espCount
  split
  · exact h
  · exact (State.setTabN_evolves h)

theorem State.espDrop_evolves {s0 : State} {s : State} {reason : Nat} {sa : Nat} (h : Evolves s0 s) :
    Evolves s0 (State.espDrop s reason sa) := by
  unfold State.espDrop
  exact (State.raise_evolves (State.espCount_evolves (State.bump_evolves h)))

theorem State.espInbound_evolves {s0 : State} {s : State} {i : Nat} {k : Pkt} (h : Evolves s0 s) :
    Evolves s0 (State.espInbound s i k) := by
  unfold State.espInbound
  extract_lets x0 x1 x2 x3 x4 x5 x6 x7 x8 x9 x10 x11 x12
  have k13 : Evolves s0 x9 := (State.setTabN_evolves h)
  have k14 : Evolves s0 x10 := (State.espCount_evolves (State.espCount_evolves k13))
  split
  · exact (State.dropPkt_evolves (State.espDrop_evolves h))
  · split
    · exact (State.dropPkt_evolves (State.espDrop_evolves h))
    · split
      · exact (State.dropPkt_evolves (State.espDrop_evolves (State.keyRefBad_evolves h)))
      · split
        · exact (State.dropPkt_evolves (State.espDrop_evolves h))
        · split
          · exact (State.dropPkt_evolves (State.espCount_evolves (State.espDrop_evolves h)))
          · split
            · exact (State.dropPkt_evolves (State.espDrop_evolves k14))
            · extract_lets x33
              exact (State.setPipe_evolves k14)

theorem execEspInbound_evolves {s0 : State} {i : Fin 16} {s : State} (h : Evolves s0 s) :
    Ends s0 (execEspInbound i s) := by
  unfold execEspInbound
  split
  · exact Ends.next h
  · extract_lets x6 x7
    have k8 : Evolves s0 x7 := (State.setPipe_evolves h)
    split
    · exact Ends.next h
    · split
      · exact Ends.next (State.dropPkt_evolves (State.absentDrop_evolves k8))
      · split
        · exact Ends.next (State.dropPkt_evolves (State.espDrop_evolves k8))
        · exact Ends.next (State.espInbound_evolves k8)

theorem State.espOutbound_evolves {s0 : State} {s : State} {n : Nat} {port : Nat} {f : List Byte} {l2 : Nat} (h : Evolves s0 s) :
    Evolves s0 (State.espOutbound s n port f l2).2 := by
  unfold State.espOutbound
  extract_lets x0 x1 x2 x3 x4 x5 x6
  have k7 : Evolves s0 x5 := (State.setTabN_evolves h)
  have k8 : Evolves s0 x6 := by
    subst x6
    split
    · exact (State.pnSoft_evolves k7)
    · exact k7
  split
  · exact (State.espDrop_evolves (State.keyRefBad_evolves h))
  · split
    · split
      · exact (State.espDrop_evolves h)
      · split
        · exact (State.espDrop_evolves h)
        · exact (State.espCount_evolves (State.espCount_evolves k8))
    · split
      · exact (State.espDrop_evolves h)
      · split
        · exact (State.espDrop_evolves h)
        · exact (State.espCount_evolves (State.espCount_evolves k8))

end Sys2Proof.Machine
end

