-- ==== Sys2Proof/Laws/Rewrite.lean ====
section
/-! SUPPORT. Every operation of `Sys2Proof/Machine/Rewrite.lean` only evolves the state (`Evolves`), one lemma per operation. -/

namespace Sys2Proof.Machine

theorem State.egressSearch_evolves {s0 : State} {s : State} {i : Nat} {p : Nat} {k : Pkt} (h : Evolves s0 s) :
    Evolves s0 (State.egressSearch s i p k).2 := by
  unfold State.egressSearch
  extract_lets x0 x1 x2 x3
  have k4 : Evolves s0 x3.2 := (State.ascPacket_evolves h)
  split
  · exact h
  · split
    · extract_lets x10 x11
      have k12 : Evolves s0 x11 := by
        subst x11
        split
        · exact (State.statCount_evolves k4)
        · exact k4
      dsimp only
      split
      · exact (State.bump_evolves k12)
      · exact k12
    · exact k4
    · exact k4

theorem State.toProc_evolves {s0 : State} {s : State} {i : Nat} {k : Pkt} {channel : Nat} (h : Evolves s0 s) :
    Evolves s0 (State.toProc s i k channel) := by
  unfold State.toProc
  extract_lets x0
  exact (queUpd_evolves h)

theorem State.rwExc_evolves {s0 : State} {s : State} {i : Nat} {k : Pkt} {prof : Nat} {cause : Nat} {counter : Nat} (h : Evolves s0 s) :
    Evolves s0 (State.rwExc s i k prof cause counter) := by
  unfold State.rwExc
  extract_lets x0
  have k1 : Evolves s0 x0 := (State.raise_evolves (State.bump_evolves h))
  split
  · exact (State.toProc_evolves k1)
  · exact (State.dropPkt_evolves k1)

theorem State.toMac_evolves {s0 : State} {s : State} {i : Nat} {p : Nat} {k : Pkt} {f : List Byte} {shift : Int} (h : Evolves s0 s) :
    Evolves s0 (State.toMac s i p k f shift) := by
  unfold State.toMac
  extract_lets x0 x1 x2 x3 x4 x5 x6 x7
  have k8 : Evolves s0 x0 := (State.dropPkt_evolves h)
  split
  · exact (State.dropPkt_evolves (State.absentDrop_evolves h))
  · split
    · split
      · exact k8
      · exact (State.portCount_evolves k8)
    · split
      · exact (timeUpd_evolves k8 rfl)
      · exact (State.setPort_evolves k8)

theorem State.handOver_evolves {s0 : State} {s : State} {i : Nat} {p : Nat} {k : Pkt} {f : List Byte} {shift : Int} (h : Evolves s0 s) :
    Evolves s0 (State.handOver s i p k f shift) := by
  unfold State.handOver
  extract_lets x0 x1 x2 x3 x4
  have k5 : Evolves s0 x0 := (State.dropPkt_evolves h)
  split
  · exact (State.toMac_evolves h)
  · split
    · split
      · exact (State.dropPkt_evolves (State.absentDrop_evolves h))
      · exact (queUpd_evolves k5)
    · split
      · exact (State.toProc_evolves h)
      · exact (State.setPipe_evolves h)

theorem State.sendEdited_evolves {s0 : State} {s : State} {i : Nat} {p : Nat} {r : Nat} {k : Pkt} {e : Edit} (h : Evolves s0 s) :
    Evolves s0 (State.sendEdited s i p r k e) := by
  unfold State.sendEdited
  split
  · exact (State.handOver_evolves h)
  · extract_lets x5
    split
    · exact (State.dropPkt_evolves (State.absentDrop_evolves h))
    · split
      · rename_i v8 v9 v10 e11
        have k12 : Evolves s0 v10 := Evolves.of_snd (State.espOutbound_evolves h) e11
        exact (State.handOver_evolves k12)
      · rename_i v13 v14 e15
        have k16 : Evolves s0 v14 := Evolves.of_snd (State.espOutbound_evolves h) e15
        exact (State.dropPkt_evolves k16)

theorem State.rewriteSend_evolves {s0 : State} {s : State} {i : Nat} {p : Nat} {r : Nat} {k : Pkt} (h : Evolves s0 s) :
    Evolves s0 (State.rewriteSend s i p r k) := by
  unfold State.rewriteSend
  extract_lets x0
  split
  · exact (State.sendEdited_evolves h)
  · split
    · exact (State.dropPkt_evolves (State.absentDrop_evolves h))
    · split
      · exact (State.sendEdited_evolves h)
      · exact (State.rwExc_evolves h)
      · exact (State.rwExc_evolves h)

theorem execEgressRewrite_evolves {s0 : State} {i : Fin 16} {s : State} (h : Evolves s0 s) :
    Ends s0 (execEgressRewrite i s) := by
  unfold execEgressRewrite
  split
  · exact Ends.next h
  · extract_lets x6 x7 x8 x9 x10
    have k11 : Evolves s0 x7 := (queUpd_evolves h)
    have k12 : Evolves s0 x8.2 := (State.meetPkt_evolves k11)
    have k13 : Evolves s0 x10 := k12
    split
    · exact Ends.next h
    · split
      · exact Ends.next (State.dropPkt_evolves (State.absentDrop_evolves k13))
      · split
        · rename_i v18 v19 e20
          have k21 : Evolves s0 v19 := Evolves.of_snd (State.egressSearch_evolves k13) e20
          exact Ends.next (State.dropPkt_evolves k21)
        · rename_i v22 v23 v24 e25
          have k26 : Evolves s0 v24 := Evolves.of_snd (State.egressSearch_evolves k13) e25
          exact Ends.next (State.toProc_evolves k26)
        · rename_i v27 v28 v29 e30
          have k31 : Evolves s0 v29 := Evolves.of_snd (State.egressSearch_evolves k13) e30
          exact Ends.next (State.rewriteSend_evolves k31)

end Sys2Proof.Machine
end

