-- ==== Sys2Proof/Laws/Windows.lean ====
section
/-! SUPPORT. Every operation of `Sys2Proof/Machine/Windows.lean` only evolves the state (`Evolves`), one lemma per operation. -/

namespace Sys2Proof.Machine

theorem pmuTable_keeps {region : Nat} {block : Nat} :
    WinTable.Keeps (pmuTable region block) := by
  unfold pmuTable
  exact readOnlyTable_keeps

theorem State.tableOf_keeps {s : State} {region : Nat} {block : Nat} {table : Nat} :
    OptAll WinTable.Keeps (State.tableOf s region block table) := by
  unfold State.tableOf
  split
  · exact msecTable_keeps
  · split
    · exact ipTable_keeps
    · split
      · exact indTable_keeps
      · split
        · split
          · refine OptAll.some ?_
            exact lrnTable_keeps
          · exact OptAll.none
        · exact ascTable_keeps
  · split
    · exact ipTable_keeps
    · split
      · exact indTable_keeps
      · split
        · split
          · refine OptAll.some ?_
            exact lrnTable_keeps
          · exact OptAll.none
        · exact ascTable_keeps
  · split
    · exact ipTable_keeps
    · split
      · exact indTable_keeps
      · split
        · split
          · refine OptAll.some ?_
            exact lrnTable_keeps
          · exact OptAll.none
        · exact ascTable_keeps
  · split
    · exact ipTable_keeps
    · split
      · exact indTable_keeps
      · split
        · split
          · refine OptAll.some ?_
            exact lrnTable_keeps
          · exact OptAll.none
        · exact ascTable_keeps
  · split
    · split
      · refine OptAll.some ?_
        exact descTable_keeps
      · split
        · refine OptAll.some ?_
          exact bitmapTable_keeps
        · exact OptAll.none
    · split
      · refine OptAll.some ?_
        exact emTable_keeps
      · exact OptAll.none
    · exact dirTable_keeps
    · exact nextHopTable_keeps
    · split
      · refine OptAll.some ?_
        exact statTable_keeps
      · exact OptAll.none
    · exact rwTable_keeps
    · exact OptAll.none
  · split
    · exact espTable_keeps
    · split
      · refine OptAll.some ?_
        exact ringTable_keeps
      · exact OptAll.none
  · split
    · exact cpuChnTable_keeps
    · split
      · refine OptAll.some ?_
        exact pmuTable_keeps
      · exact OptAll.none
  · split
    · exact cpuChnTable_keeps
    · split
      · refine OptAll.some ?_
        exact pmuTable_keeps
      · exact OptAll.none
  · split
    · exact cpuChnTable_keeps
    · split
      · refine OptAll.some ?_
        exact pmuTable_keeps
      · exact OptAll.none
  · split
    · split
      · refine OptAll.some ?_
        exact sliceTable_keeps
      · split
        · refine OptAll.some ?_
          exact dlogTable_keeps
        · exact OptAll.none
    · split
      · refine OptAll.some ?_
        exact qpTable_keeps
      · split
        · refine OptAll.some ?_
          exact qpCounterTable_keeps
        · exact OptAll.none
    · exact blkTable_keeps
    · exact OptAll.none
  · split
    · exact alwTable_keeps
    · exact queTable_keeps
  · exact queTable_keeps
  · split
    · exact replTable_keeps
    · split
      · refine OptAll.some ?_
        exact poolTable_keeps
      · split
        · refine OptAll.some ?_
          exact poolCounterTable_keeps
        · exact OptAll.none
  · exact fabTable_keeps
  · exact fabTable_keeps
  · exact memTable_keeps
  · exact memTable_keeps
  · exact memTable_keeps
  · exact memTable_keeps
  · exact OptAll.none

theorem State.winPlain_evolves {s0 : State} {s : State} {region : Nat} {block : Nat} {w : Nat} {v : Nat} (h : Evolves s0 s) :
    Evolves s0 (State.winPlain s region block w v) := by
  unfold State.winPlain
  extract_lets x0 x1 x2
  split
  · exact (State.winCmd_evolves h (fun a5 k6 => k6))
  · rename_i v7 v8 e9
    have k10 : WinTable.Keeps v8 := State.tableOf_keeps _ e9
    refine State.winCmd_evolves ?_ ?_
    · exact h
    · intro a13 k14
      split
      · exact (State.winRun_evolves k14 k10)
      · exact k14

theorem emCommand_evolves {c : Nat} {f : State → Nat → Nat × State} (e : emCommand c = some f) {s0 s : State} {i : Nat}
    (h : Evolves s0 s) : Evolves s0 (f s i).2 := by
  unfold emCommand at e
  split at e <;> cases e
  · exact State.emInsert_evolves h
  · exact State.emDelete_evolves h
  · exact State.emSearch_evolves h
  · exact State.emUpdate_evolves h

theorem lpmCommand_evolves {c : Nat} {f : Nat × (State → Nat × State)} (e : lpmCommand c = some f) {s0 s : State}
    (h : Evolves s0 s) : Evolves s0 (f.2 s).2 := by
  unfold lpmCommand at e
  split at e <;> cases e
  · exact State.lpmInsert_evolves h
  · exact State.lpmDelete_evolves h
  · exact State.lpmSearch_evolves h
  · exact State.lpmUpdate_evolves h
  · exact State.lpmRebuild_evolves h

theorem ascCommand_evolves {c : Nat} {f : State → ArrayRef → Nat → Nat × State} (e : ascCommand c = some f) {s0 s : State}
    {a : ArrayRef} {i : Nat} (h : Evolves s0 s) : Evolves s0 (f s a i).2 := by
  unfold ascCommand at e
  split at e <;> cases e
  · exact State.ascRead_evolves h
  · exact State.ascWrite_evolves h
  · exact State.ascClear_evolves h
  · exact State.ascSetv_evolves h
  · exact State.ascDelete_evolves h
  · exact State.ascUpdate_evolves h
  · exact State.ascSearchCmd_evolves h

theorem keyCommand_evolves {m : Master} {c : Nat} {f : State → Nat → Nat × State} (e : keyCommand m c = some f) {s0 s : State}
    {i : Nat} (h : Evolves s0 s) : Evolves s0 (f s i).2 := by
  unfold keyCommand at e
  split at e <;> cases e
  · exact State.keyReadCmd_evolves h
  · exact State.keyLoadPlain_evolves h
  · exact State.keyLoadWrapped_evolves h
  · exact State.keyExportCmd_evolves h
  · exact State.keyZeroise_evolves h

theorem State.winCtrl_evolves {s0 : State} {s : State} {m : Master} {region block w v : Nat} (h : Evolves s0 s) :
    Evolves s0 (State.winCtrl s m region block w v) := by
  unfold State.winCtrl
  extract_lets a c table plain x
  have hp : Evolves s0 plain := State.winPlain_evolves h
  clear_value plain
  split
  · split
    · exact State.setFld_evolves h
    · exact State.wr_evolves h
  · split
    · split
      · exact State.emCmd_evolves h (fun _ _ k => emCommand_evolves ‹_› k)
      · exact hp
    · split
      · split
        · exact State.lpmCmd_evolves h (fun _ k => lpmCommand_evolves ‹_› k)
        · exact hp
      · split
        · split
          · exact State.lrnCmd_evolves h
          · exact hp
        · split
          · split
            · exact State.ascCmd_evolves h (fun _ _ _ k => ascCommand_evolves ‹_› k)
            · split
              · exact State.ascInsertAt_evolves h
              · split
                · exact State.ascMoveCmd_evolves h
                · exact State.winCmd_evolves h (fun _ k => k)
          · split
            · exact State.poolInitCmd_evolves h
            · split
              · split
                · exact State.keyCmd_evolves h (fun _ _ k => keyCommand_evolves ‹_› k)
                · exact hp
              · exact hp

theorem State.winWordWrite_evolves {s0 : State} {s : State} {a : Nat} {off : Nat} {v : Word} (h : Evolves s0 s) :
    Evolves s0 (State.winWordWrite s a off v) := by
  unfold State.winWordWrite
  split
  · split
    · exact (State.setFld_evolves h)
    · exact (State.wr_evolves h)
  · exact h

theorem afterStep_evolves {s0 : State} {s : State} {o : Host.Outcome State Fault Refusal} (h : Evolves s0 s) (ho : Ends s0 o) :
    Evolves s0 (afterStep s o) := by
  cases o with
  | next t => exact ho t rfl
  | fault _ => exact h
  | refused _ => exact h

theorem State.winSettle_evolves {s0 : State} {s : State} {a : Nat} (h : Evolves s0 s) :
    Evolves s0 (State.winSettle s a) := by
  unfold State.winSettle
  extract_lets x0 x1 x2 x3
  have k4 : Evolves s0 x3 := (State.ascDrain_evolves h)
  split
  · split
    · exact (foldl_evolves _ (fun a7 a8 k9 => (afterStep_evolves k9 (execLearnEngine_evolves k9))) h)
    · split
      · refine foldl_evolves _ ?_ ?_
        · intro a17 a18 k19
          split
          · exact (State.moverSlot_evolves k19)
          · exact k19
        · exact k4
      · exact k4
  · exact h

theorem State.queuedRun_evolves {s0 : State} {s : State} {q : QueuedCmd} (h : Evolves s0 s) :
    Evolves s0 (State.queuedRun s q) := by
  unfold State.queuedRun
  extract_lets x0 x1 x2 x3 x4 x5 x6 x7 x8 x9
  have k10 : Evolves s0 x5 := (State.setFld_evolves (State.setWinData_evolves (State.setWinIndex_evolves h)))
  have k11 : Evolves s0 x6 := (foldl_evolves _ (fun a12 a13 k14 => (State.wr_evolves k14)) k10)
  have k15 : Evolves s0 x7 := by
    subst x7
    split
    · exact (State.setFld_evolves k11)
    · exact (State.winSettle_evolves (State.winCtrl_evolves k11))
  have k18 : Evolves s0 x9 := (foldl_evolves _ (fun a19 a20 k21 => (State.wr_evolves k21)) k15)
  split
  · exact (State.raise_evolves (State.bump_evolves k18))
  · exact k18

theorem State.queueApply_evolves {s0 : State} {s : State} (h : Evolves s0 s) :
    Evolves s0 (State.queueApply s) := by
  unfold State.queueApply
  extract_lets x0 x1
  exact (foldl_evolves _ (fun a2 a3 k4 => (State.queuedRun_evolves k4)) (imgUpd_evolves h))

end Sys2Proof.Machine
end

