-- ==== Sys2Proof/Laws/Images.lean ====
section
/-! SUPPORT. Every operation of `Sys2Proof/Machine/Images.lean` only evolves the state (`Evolves`), one lemma per operation. -/

namespace Sys2Proof.Machine

theorem State.setGlidePhase_evolves {s0 : State} {s : State} {p : Nat} (h : Evolves s0 s) :
    Evolves s0 (State.setGlidePhase s p) := by
  unfold State.setGlidePhase
  exact (State.setFld_evolves h)

theorem State.setHealth_evolves {s0 : State} {s : State} {b : Bool} (h : Evolves s0 s) :
    Evolves s0 (State.setHealth s b) := by
  unfold State.setHealth
  extract_lets x0
  exact (bootUpd_evolves h rfl rfl rfl)

theorem State.setDev_evolves {s0 : State} {s : State} {d : DevState} (h : Evolves s0 s) :
    Evolves s0 (State.setDev s d) := by
  unfold State.setDev
  extract_lets x0
  exact (bootUpd_evolves h rfl rfl rfl)

theorem State.fallbackReq_evolves {s0 : State} {s : State} {code : Nat} (h : Evolves s0 s) :
    Evolves s0 (State.fallbackReq s code) := by
  unfold State.fallbackReq
  extract_lets x0
  exact (State.bootFail_evolves (State.brecPut_evolves h))

theorem State.setShow_evolves {s0 : State} {s : State} (h : Evolves s0 s) :
    Evolves s0 (State.setShow s) := by
  unfold State.setShow
  extract_lets x0
  have k1 : Evolves s0 x0 := (State.wr_evolves (State.setFld_evolves h))
  split
  · exact (State.wr64_evolves (State.wr_evolves (State.wr64_evolves k1)))
  · extract_lets x8 x9 x10
    have k11 : Evolves s0 x8 := (State.setFld_evolves (State.setFld_evolves h))
    have k12 : Evolves s0 x9 := (State.wr64_evolves (State.wr_evolves k11))
    have k13 : Evolves s0 x10 := (State.wr64_evolves (State.wr_evolves k12))
    exact (State.hbmStore_evolves k13)

theorem State.setBoot_evolves {s0 : State} {s : State} (h : Evolves s0 s) :
    Evolves s0 (State.setBoot s) := by
  unfold State.setBoot
  extract_lets x0 x1 x2 x3
  have k4 : Evolves s0 x0 := (State.flashErase_evolves (State.flashErase_evolves h))
  have k5 : Evolves s0 x2 := by
    subst x2
    split
    · exact (imgUpd_evolves k4)
    · exact h
  have k8 : Evolves s0 x3 := (State.setShow_evolves k5)
  split
  · exact (State.imgRaise_evolves k8)
  · exact k8

theorem State.setCmd_evolves {s0 : State} {s : State} {v : Nat} (h : Evolves s0 s) :
    Evolves s0 (State.setCmd s v) := by
  unfold State.setCmd
  extract_lets x0 x1 x2 x3 x4
  have k5 : Evolves s0 x3 := (State.setRbit_evolves (State.flashErase_evolves h))
  split
  · exact (imgUpd_evolves k5)
  · exact h

theorem execSetWrite_evolves {s0 : State} {m : Master} {v : Word} {s : State} (h : Evolves s0 s) :
    Ends s0 (execSetWrite m v s) := by
  unfold execSetWrite
  exact Ends.next (State.asWrite_evolves h (fun a0 k1 => (State.setCmd_evolves k1)))

theorem execSetDone_evolves {s0 : State} {err : Bool} {s : State} (h : Evolves s0 s) :
    Ends s0 (execSetDone err s) := by
  unfold execSetDone
  extract_lets x0 x1 x2
  have k3 : Evolves s0 x1 := (imgUpd_evolves h)
  split
  · exact Ends.next h
  · extract_lets x11 x12
    have k13 : Evolves s0 x12 := (bootUpd_evolves k3 rfl rfl rfl)
    split
    · exact Ends.next (State.imgRaise_evolves (State.setRbit_evolves k3))
    · exact Ends.next (State.imgRaise_evolves (State.setShow_evolves (State.flashWrite_evolves (State.flashWrite_evolves k13))))

theorem State.glideSuspend_evolves {s0 : State} {s : State} {on : Bool} (h : Evolves s0 s) :
    Evolves s0 (State.glideSuspend s on) := by
  unfold State.glideSuspend
  extract_lets x0 x1
  have k2 : Evolves s0 x1 := by
    subst x1
    refine foldl_evolves _ ?_ ?_
    · intro a9 a10 k11
      split
      · exact k11
      · exact (State.lrnCtrlWrite_evolves k11)
    · exact h
  split
  · exact k2
  · exact (State.ageSuspendWrite_evolves k2)

theorem State.glideDone_evolves {s0 : State} {s : State} (h : Evolves s0 s) :
    Evolves s0 (State.glideDone s) := by
  unfold State.glideDone
  extract_lets x0
  exact (State.imgRaise_evolves (State.wr_evolves (State.setGlidePhase_evolves (State.setDev_evolves h))))

theorem State.glideCheck_evolves {s0 : State} {s : State} (h : Evolves s0 s) :
    Evolves s0 (State.glideCheck s) := by
  unfold State.glideCheck
  split
  · exact (State.glideDone_evolves h)
  · exact h

theorem State.gapEnd_evolves {s0 : State} {s : State} (h : Evolves s0 s) :
    Evolves s0 (State.gapEnd s) := by
  unfold State.gapEnd
  extract_lets x0 x1
  have k2 : Evolves s0 x0 := (State.glideSuspend_evolves (State.queueApply_evolves (State.setGlidePhase_evolves h)))
  exact (State.glideCheck_evolves (imgUpd_evolves k2))

theorem State.fallbackGlide_evolves {s0 : State} {s : State} {code : Nat} (h : Evolves s0 s) :
    Evolves s0 (State.fallbackGlide s code) := by
  unfold State.fallbackGlide
  extract_lets x0 x1 x2
  have k3 : Evolves s0 x0 := (State.bootRaise_evolves (State.bootFail_evolves (State.brecPut_evolves h)))
  have k4 : Evolves s0 x1 := (State.glideSuspend_evolves (State.setGlidePhase_evolves (State.setRbit_evolves (State.setHealth_evolves k3))))
  exact (imgUpd_evolves k4)

theorem State.gapImage_evolves {s0 : State} {s : State} {b : List Byte} (h : Evolves s0 s) :
    Evolves s0 (State.gapImage s b) :=
  (regsFilter_evolves (p := fun p => decide (p.1 < A.rgn 0x300) || decide (A.rgn 0x300 + 8 * 26 ≤ p.1)) h).frame rfl

theorem State.glideEnter_evolves {s0 : State} {s : State} {n : Nat} {b : List Byte} (h : Evolves s0 s) :
    Evolves s0 (State.glideEnter s n b) := by
  unfold State.glideEnter
  extract_lets s1 src s2 s3 s4
  have h1 : Evolves s0 s1 := State.cpuDown_evolves (State.cpuDown_evolves (State.cpuDown_evolves h))
  have h2 : Evolves s0 s2 := State.setBootedSlot_evolves (State.setGlidePhase_evolves (imgUpd_evolves h1))
  clear_value s2 src s1
  have h3 : Evolves s0 s3 := State.setRbit_evolves h2
  clear_value s3
  have h4 : Evolves s0 s4 := State.measure_evolves (State.gapImage_evolves h3)
  clear_value s4
  split
  · exact State.setHealth_evolves (State.fwLoad_evolves (State.setBoot_evolves h4) _ ‹_›)
  · exact State.chipReset_evolves (State.bootFail_evolves (State.brecPut_evolves h4))

theorem State.glideFail_evolves {s0 : State} {s : State} {n : Nat} (h : Evolves s0 s) :
    Evolves s0 (State.glideFail s n) := by
  unfold State.glideFail
  extract_lets x0 x1 x2
  have k3 : Evolves s0 x2 := (State.bootFail_evolves (State.brecPut_evolves h))
  exact (State.imgRaise_evolves (State.setDev_evolves (State.glideSuspend_evolves (State.queueApply_evolves (State.setGlidePhase_evolves k3)))))

theorem execGlideImageVerified_evolves {s0 : State} {readErr : Bool} {s : State} (h : Evolves s0 s) :
    Ends s0 (execGlideImageVerified readErr s) := by
  unfold execGlideImageVerified
  extract_lets x0 x1 x2
  have k3 : Evolves s0 x2.1 := (State.imageLoad_evolves h)
  split
  · split
    · exact Ends.next (State.glideFail_evolves h)
    · split
      · exact Ends.next (State.glideEnter_evolves k3)
      · exact Ends.next (State.glideFail_evolves k3)
  · exact Ends.next h

theorem execGapTimeout_evolves {s0 : State} {s : State} (h : Evolves s0 s) :
    Ends s0 (execGapTimeout s) := by
  unfold execGapTimeout
  split
  · exact Ends.next (State.gapEnd_evolves (State.imgRaise_evolves h))
  · exact Ends.next h

theorem execGlideWatchdog_evolves {s0 : State} {s : State} (h : Evolves s0 s) :
    Ends s0 (execGlideWatchdog s) := by
  unfold execGlideWatchdog
  split
  · refine Ends.next ?_
    refine State.chipReset_evolves ?_
    · split
      · exact (State.fallbackReq_evolves h)
      · exact h
  · exact Ends.next h

theorem execHealthTimeout_evolves {s0 : State} {s : State} (h : Evolves s0 s) :
    Ends s0 (execHealthTimeout s) := by
  unfold execHealthTimeout
  extract_lets x0
  have k1 : Evolves s0 x0 := (State.bootRaise_evolves (State.setHealth_evolves h))
  split
  · split
    · exact Ends.next (State.fallbackGlide_evolves k1)
    · exact Ends.next (State.fallbackReq_evolves k1)
  · exact Ends.next h

theorem State.imgActivate_evolves {s0 : State} {s : State} {v : Nat} (h : Evolves s0 s) :
    Evolves s0 (State.imgActivate s v).2 := by
  unfold State.imgActivate
  extract_lets x0 x1 x2 x3 x4 x5 x6
  have k7 : Evolves s0 x5 := (State.brecPut_evolves h)
  split
  · exact h
  · split
    · exact h
    · split
      · exact h
      · split
        · exact h
        · exact (imgUpd_evolves k7)

theorem State.imgConfirm_evolves {s0 : State} {s : State} (h : Evolves s0 s) :
    Evolves s0 (State.imgConfirm s).2 := by
  unfold State.imgConfirm
  extract_lets x0 x1 x2
  have k3 : Evolves s0 x2 := (State.brecPut_evolves h)
  split
  · exact h
  · split
    · exact h
    · exact (State.glideCheck_evolves (State.imgRaise_evolves (State.setHealth_evolves k3)))

theorem State.imgFallback_evolves {s0 : State} {s : State} {v : Nat} (h : Evolves s0 s) :
    Evolves s0 (State.imgFallback s v).2 := by
  unfold State.imgFallback
  extract_lets x0 x1
  have k2 : Evolves s0 x1 := (State.fallbackReq_evolves h)
  split
  · exact h
  · split
    · exact h
    · split
      · exact (State.fallbackGlide_evolves h)
      · dsimp only
        split
        · exact (State.chipReset_evolves k2)
        · exact k2

theorem State.imgGlide_evolves {s0 : State} {s : State} (h : Evolves s0 s) :
    Evolves s0 (State.imgGlide s).2 := by
  unfold State.imgGlide
  extract_lets x0 x1 x2 x3
  have k4 : Evolves s0 x1 := by
    subst x1
    split
    · exact (State.brecPut_evolves h)
    · exact h
  have k7 : Evolves s0 x2 := (State.glideSuspend_evolves (State.setGlidePhase_evolves (State.setDev_evolves k4)))
  split
  · exact h
  · split
    · exact h
    · split
      · exact h
      · split
        · exact h
        · exact (imgUpd_evolves k7)

theorem State.imgResume_evolves {s0 : State} {s : State} (h : Evolves s0 s) :
    Evolves s0 (State.imgResume s).2 := by
  unfold State.imgResume
  split
  · exact (State.gapEnd_evolves h)
  · exact h

theorem State.imgRecovery_evolves {s0 : State} {s : State} {v : Nat} (h : Evolves s0 s) :
    Evolves s0 (State.imgRecovery s v).2 := by
  unfold State.imgRecovery
  extract_lets x0
  have k1 : Evolves s0 x0 := (State.brecPut_evolves h)
  dsimp only
  split
  · exact (State.chipReset_evolves k1)
  · exact k1

theorem State.imgFuseSec_evolves {s0 : State} {s : State} (h : Evolves s0 s) : Evolves s0 (State.imgFuseSec s).2 := by
  unfold State.imgFuseSec
  extract_lets want
  split
  · exact h
  · exact h.trans ⟨id, id, id, id, rfl, ⟨[], rfl⟩, Nat.le_refl _, Nat.le_refl _, rfl,
      show s.boot.secFuses ≤ want by simp only [not_or] at *; omega, fun _ h => h⟩

theorem State.imgRevoke_evolves {s0 : State} {s : State} {v : Nat} (h : Evolves s0 s) : Evolves s0 (State.imgRevoke s v).2 := by
  unfold State.imgRevoke
  extract_lets k
  split
  · exact h
  · rename_i hn
    refine h.trans ⟨id, id, id, id, rfl, ⟨[], rfl⟩, Nat.le_refl _, Nat.le_refl _, rfl, Nat.le_refl _, fun i hi => ?_⟩
    exact natBit_setBit (by simpa using fun e => hn (Or.inr e)) hi

theorem State.imgRun_evolves {s0 : State} {s : State} {v : Nat} (h : Evolves s0 s) :
    Evolves s0 (State.imgRun s v).2 := by
  unfold State.imgRun
  split
  · exact (State.imgActivate_evolves h)
  · exact (State.imgConfirm_evolves h)
  · exact (State.imgFallback_evolves h)
  · exact (State.imgGlide_evolves h)
  · exact (State.imgResume_evolves h)
  · exact (State.imgRecovery_evolves h)
  · exact (State.imgFuseSec_evolves h)
  · exact (State.imgRevoke_evolves h)
  · exact h

theorem State.imgEnd_evolves {s0 : State} {q : Nat × State} (h : Evolves s0 q.2) :
    Evolves s0 (State.imgEnd q) := by
  unfold State.imgEnd
  split
  · exact h
  · exact (State.imgRaise_evolves (State.setFld_evolves h))

theorem State.imgCtrl_evolves {s0 : State} {s : State} {v : Nat} (h : Evolves s0 s) :
    Evolves s0 (State.imgCtrl s v) := by
  unfold State.imgCtrl
  exact (State.imgEnd_evolves (State.imgRun_evolves (State.wr_evolves h)))

theorem State.asImg_evolves {s0 : State} {s : State} {m : Master} {v : Word} {c : Nat} (h : Evolves s0 s) :
    Evolves s0 (State.asImg s m v c) := by
  unfold State.asImg
  exact (State.asWrite_evolves h (fun a0 k1 => (State.imgCtrl_evolves k1)))

theorem execActivate_evolves {s0 : State} {m : Master} {v : Word} {s : State} (h : Evolves s0 s) :
    Ends s0 (execActivate m v s) := by
  unfold execActivate
  exact Ends.next (State.asImg_evolves h)

theorem execConfirm_evolves {s0 : State} {m : Master} {v : Word} {s : State} (h : Evolves s0 s) :
    Ends s0 (execConfirm m v s) := by
  unfold execConfirm
  exact Ends.next (State.asImg_evolves h)

theorem execFallback_evolves {s0 : State} {m : Master} {v : Word} {s : State} (h : Evolves s0 s) :
    Ends s0 (execFallback m v s) := by
  unfold execFallback
  exact Ends.next (State.asImg_evolves h)

theorem execGlide_evolves {s0 : State} {m : Master} {v : Word} {s : State} (h : Evolves s0 s) :
    Ends s0 (execGlide m v s) := by
  unfold execGlide
  exact Ends.next (State.asImg_evolves h)

theorem execResume_evolves {s0 : State} {m : Master} {v : Word} {s : State} (h : Evolves s0 s) :
    Ends s0 (execResume m v s) := by
  unfold execResume
  exact Ends.next (State.asImg_evolves h)

theorem execImgRecovery_evolves {s0 : State} {m : Master} {v : Word} {s : State} (h : Evolves s0 s) :
    Ends s0 (execImgRecovery m v s) := by
  unfold execImgRecovery
  exact Ends.next (State.asImg_evolves h)

theorem execFuseSec_evolves {s0 : State} {m : Master} {v : Word} {s : State} (h : Evolves s0 s) :
    Ends s0 (execFuseSec m v s) := by
  unfold execFuseSec
  exact Ends.next (State.asImg_evolves h)

theorem execRevokeKey_evolves {s0 : State} {m : Master} {v : Word} {s : State} (h : Evolves s0 s) :
    Ends s0 (execRevokeKey m v s) := by
  unfold execRevokeKey
  exact Ends.next (State.asImg_evolves h)

theorem State.reportMake_evolves {s0 : State} {s : State} {nonce : List Byte} (h : Evolves s0 s) :
    Evolves s0 (State.reportMake s nonce).1 := by
  unfold State.reportMake
  extract_lets x0 x1 x2 x3 x4
  exact (State.drawn_evolves (imgUpd_evolves h))

theorem State.attCmd_evolves {s0 : State} {s : State} {v : Nat} (h : Evolves s0 s) :
    Evolves s0 (State.attCmd s v) := by
  unfold State.attCmd
  extract_lets x0 x1 x2
  have k3 : Evolves s0 x0 := (State.setFld_evolves h)
  split
  · split
    · exact (State.raise_evolves (State.setFld_evolves h))
    · split
      · exact h
      · exact (imgUpd_evolves k3)
  · exact (imgUpd_evolves h)
  · exact h

theorem execAttReport_evolves {s0 : State} {m : Master} {s : State} (h : Evolves s0 s) :
    Ends s0 (execAttReport m s) := by
  unfold execAttReport
  exact Ends.next (State.asWrite_evolves h (fun a0 k1 => (State.attCmd_evolves k1)))

theorem execAttExtend_evolves {s0 : State} {m : Master} {s : State} (h : Evolves s0 s) :
    Ends s0 (execAttExtend m s) := by
  unfold execAttExtend
  exact Ends.next (State.asWrite_evolves h (fun a0 k1 => (State.attCmd_evolves k1)))

theorem execAttDone_evolves {s0 : State} {s : State} (h : Evolves s0 s) :
    Ends s0 (execAttDone s) := by
  unfold execAttDone
  extract_lets x0
  split
  · exact Ends.next h
  · extract_lets x6 x7 x8
    have k9 : Evolves s0 x6.1 := (State.reportMake_evolves (imgUpd_evolves h))
    have k10 : Evolves s0 x7 := k9
    have k11 : Evolves s0 x8 := by
      subst x8
      split
      · exact (State.hbmStore_evolves k10)
      · exact k10
    exact Ends.next (State.raise_evolves (State.wr_evolves k11))

end Sys2Proof.Machine
end

