-- ==== Sys2Proof/Laws/Ovc.lean ====
section
/-! SUPPORT. Every operation of `Sys2Proof/Machine/Ovc.lean` only evolves the state (`Evolves`), one lemma per operation. -/

namespace Sys2Proof.Machine

theorem State.ovcBad_evolves {s0 : State} {s : State} {n : Nat} (h : Evolves s0 s) :
    Evolves s0 (State.ovcBad s n) := by
  unfold State.ovcBad
  exact (State.raise_evolves (State.bump_evolves h))

theorem State.ovcDrop_evolves {s0 : State} {s : State} {n : Nat} (h : Evolves s0 s) :
    Evolves s0 (State.ovcDrop s n) := by
  unfold State.ovcDrop
  exact (State.raise_evolves (State.bump_evolves h))

theorem execOvcPinFrameRx_evolves {s0 : State} {n : Fin 4} {frame : List Byte} {aborted : Bool} {s : State} (h : Evolves s0 s) :
    Ends s0 (execOvcPinFrameRx n frame aborted s) := by
  unfold execOvcPinFrameRx
  split
  · exact Ends.next h
  · split
    · exact Ends.next (State.ovcBad_evolves h)
    · extract_lets x7 x8
      have k9 : Evolves s0 x7 := (State.bump_evolves h)
      split
      · exact Ends.next (State.ovcDrop_evolves k9)
      · exact Ends.next (State.raiseIf_evolves (State.setOvc_evolves k9))

theorem execOvcChannelFrameRx_evolves {s0 : State} {n : Fin 4} {s : State} (h : Evolves s0 s) :
    Ends s0 (execOvcChannelFrameRx n s) := by
  unfold execOvcChannelFrameRx
  extract_lets x0 x1 x2 x3
  have k4 : Evolves s0 x2 := (State.setOvc_evolves h)
  split
  · split
    · exact Ends.next (State.ovcBad_evolves k4)
    · split
      · exact Ends.next (State.ovcDrop_evolves k4)
      · exact Ends.next (State.setOvc_evolves k4)
  · exact Ends.next h

theorem execOvcPinFrameTx_evolves {s0 : State} {n : Fin 4} {s : State} (h : Evolves s0 s) :
    Ends s0 (execOvcPinFrameTx n s) := by
  unfold execOvcPinFrameTx
  extract_lets x0
  split
  · exact Ends.next h
  · split
    · exact Ends.next h
    · exact Ends.next (State.emit_evolves (State.bump_evolves (State.setOvc_evolves h)))

theorem execOvcChannelFrameTx_evolves {s0 : State} {n : Fin 4} {s : State} (h : Evolves s0 s) :
    Ends s0 (execOvcChannelFrameTx n s) := by
  unfold execOvcChannelFrameTx
  extract_lets x0
  split
  · exact Ends.next h
  · split
    · exact Ends.next (State.setOvc_evolves h)
    · exact Ends.next h

theorem State.ovcTxQueue_evolves {s0 : State} {s : State} {n : Nat} {v : Nat} (h : Evolves s0 s) :
    Evolves s0 (State.ovcTxQueue s n v) := by
  unfold State.ovcTxQueue
  extract_lets x0 x1 x2
  split
  · exact (State.raise_evolves h)
  · exact (State.setOvc_evolves h)

theorem execOvcTxQueue_evolves {s0 : State} {m : Master} {n : Fin 4} {v : Word} {s : State} (h : Evolves s0 s) :
    Ends s0 (execOvcTxQueue m n v s) := by
  unfold execOvcTxQueue
  exact Ends.next (State.asWrite_evolves h (fun a0 k1 => (State.ovcTxQueue_evolves k1)))

theorem State.ovcRxPop_evolves {s0 : State} {s : State} {n : Nat} {v : Nat} (h : Evolves s0 s) :
    Evolves s0 (State.ovcRxPop s n v) := by
  unfold State.ovcRxPop
  extract_lets x0
  split
  · exact (State.setOvc_evolves h)
  · exact h

theorem execOvcRxPop_evolves {s0 : State} {m : Master} {n : Fin 4} {v : Word} {s : State} (h : Evolves s0 s) :
    Ends s0 (execOvcRxPop m n v s) := by
  unfold execOvcRxPop
  exact Ends.next (State.asWrite_evolves h (fun a0 k1 => (State.ovcRxPop_evolves k1)))

theorem State.ovcCtrlWrite_evolves {s0 : State} {s : State} {n : Nat} {v : Nat} (h : Evolves s0 s) :
    Evolves s0 (State.ovcCtrlWrite s n v) := by
  unfold State.ovcCtrlWrite
  extract_lets x0 x1
  split
  · exact (State.setOvc_evolves (State.bump_evolves (State.wr_evolves h)))
  · exact (State.raise_evolves h)

theorem execOvcCtrlWrite_evolves {s0 : State} {m : Master} {n : Fin 4} {v : Word} {s : State} (h : Evolves s0 s) :
    Ends s0 (execOvcCtrlWrite m n v s) := by
  unfold execOvcCtrlWrite
  exact Ends.next (State.asWrite_evolves h (fun a0 k1 => (State.ovcCtrlWrite_evolves k1)))

end Sys2Proof.Machine
end

