-- ==== Sys2Proof/Laws/Regions.lean ====
section
/-! SUPPORT. Every operation of `Sys2Proof/Machine/Regions.lean` only evolves the state (`Evolves`), one lemma per operation. -/

namespace Sys2Proof.Machine

theorem State.txDisable_evolves {s0 : State} {s : State} {c : Nat} (h : Evolves s0 s) :
    Evolves s0 (State.txDisable s c) := by
  unfold State.txDisable
  split
  · exact (State.emit_evolves h)
  · exact h

theorem State.failsafeEnter_evolves {s0 : State} {s : State} {code : Nat} {w : Nat} {g : Nat} {f : Nat} (h : Evolves s0 s) :
    Evolves s0 (State.failsafeEnter s code w g f) := by
  unfold State.failsafeEnter
  extract_lets x0
  exact (fltUpd_evolves h)

theorem State.ppsLow_evolves {s0 : State} {s : State} {n : Nat} (h : Evolves s0 s) :
    Evolves s0 (State.ppsLow s n) := by
  unfold State.ppsLow
  split
  · exact (State.setPps_evolves h)
  · exact h

theorem State.tripAssert_evolves {s0 : State} {s : State} (h : Evolves s0 s) :
    Evolves s0 (State.tripAssert s) := by
  unfold State.tripAssert
  extract_lets x0
  exact (thermUpd_evolves h)

theorem State.chipFatal_evolves {s0 : State} {s : State} {code : Nat} (h : Evolves s0 s) :
    Evolves s0 (State.chipFatal s code) := by
  unfold State.chipFatal
  extract_lets x0 x1 x2 x3 x4 x5 x6
  have k7 : Evolves s0 x3 := (State.failsafeEnter_evolves h)
  have k8 : Evolves s0 x4 := (foldl_evolves _ (fun a9 a10 k11 => (State.ppsLow_evolves k11)) k7)
  have k12 : Evolves s0 x5 := (foldl_evolves _ (fun a13 a14 k15 => (State.txDisable_evolves k15)) k8)
  have k16 : Evolves s0 x6 := (State.setRbit_evolves (State.faultWrite_evolves k12))
  split
  · exact h
  · split
    · exact (State.tripAssert_evolves k16)
    · exact k16

theorem execChipFatal_evolves {s0 : State} {c : ChipCause} {s : State} (h : Evolves s0 s) :
    Ends s0 (execChipFatal c s) := by
  unfold execChipFatal
  extract_lets x0
  split
  · exact Ends.next (State.chipFatal_evolves h)
  · exact Ends.next h

theorem execFailsafeAutoReset_evolves {s0 : State} {s : State} (h : Evolves s0 s) :
    Ends s0 (execFailsafeAutoReset s) := by
  unfold execFailsafeAutoReset
  split
  · exact Ends.next (State.chipReset_evolves h)
  · exact Ends.next h

theorem execD2dModuleFail_evolves {s0 : State} {s : State} (h : Evolves s0 s) :
    Ends s0 (execD2dModuleFail s) := by
  unfold execD2dModuleFail
  extract_lets x0
  exact Ends.next (fltUpd_evolves h)

theorem State.heldAnswer_evolves {s0 : State} {s : State} {r : Nat} (h : Evolves s0 s) :
    Evolves s0 (State.heldAnswer s r) := by
  unfold State.heldAnswer
  extract_lets x0 x1 x2
  have k3 : Evolves s0 x2 := (ctlUpd_evolves h)
  exact (foldl_evolves _ (fun a4 a5 k6 => (State.accessRefused_evolves k6)) k3)

theorem State.regionPowerOff_evolves {s0 : State} {s : State} {r : Nat} (h : Evolves s0 s) :
    Evolves s0 (State.regionPowerOff s r) := by
  unfold State.regionPowerOff
  extract_lets x0 x1
  have k2 : Evolves s0 x0 := (State.setRgnState_evolves (State.powerOff_evolves h))
  exact (State.setRst_evolves k2)

theorem State.enterAbsent_evolves {s0 : State} {s : State} {r : Nat} {fatal : Bool} {power : Bool} (h : Evolves s0 s) :
    Evolves s0 (State.enterAbsent s r fatal power) := by
  unfold State.enterAbsent
  extract_lets x0 x1 x2 x3
  have k4 : Evolves s0 x0 := (State.setRgnState_evolves (State.regionReset_evolves h))
  have k5 : Evolves s0 x1 := (State.setFld_evolves (State.setFld_evolves k4))
  have k6 : Evolves s0 x3 := (State.heldAnswer_evolves (State.setRst_evolves k5))
  split
  · exact (State.regionPowerOff_evolves k6)
  · exact k6

theorem State.leaveRun_evolves {s0 : State} {s : State} {r : Nat} {power : Bool} (h : Evolves s0 s) :
    Evolves s0 (State.leaveRun s r power) := by
  unfold State.leaveRun
  extract_lets x0
  exact (State.setRgnState_evolves (State.setRst_evolves h))

theorem State.againAbsent_evolves {s0 : State} {s : State} {r : Nat} {power : Bool} (h : Evolves s0 s) :
    Evolves s0 (State.againAbsent s r power) := by
  unfold State.againAbsent
  extract_lets x0
  exact (State.enterAbsent_evolves (State.setRst_evolves h))

theorem State.regionRun_evolves {s0 : State} {s : State} {r : Nat} (h : Evolves s0 s) :
    Evolves s0 (State.regionRun s r) := by
  unfold State.regionRun
  extract_lets x0 x1 x2
  have k3 : Evolves s0 x1 := (State.setRst_evolves h)
  have k4 : Evolves s0 x2 := (State.raise_evolves (State.setRbit_evolves (State.setRgnState_evolves k3)))
  exact (State.regionReadyFx_evolves k4)

theorem State.rgnRunCmd_evolves {s0 : State} {s : State} {r : Nat} (h : Evolves s0 s) :
    Evolves s0 (State.rgnRunCmd s r) := by
  unfold State.rgnRunCmd
  extract_lets x0
  split
  · exact (State.regionRun_evolves h)
  · exact (State.setFld_evolves (State.setRst_evolves h))
  · exact (State.setFld_evolves (State.setRst_evolves h))
  · exact (State.setFld_evolves (State.setRst_evolves h))
  · exact h
  · exact h

theorem State.rgnResetCmd_evolves {s0 : State} {s : State} {r : Nat} (h : Evolves s0 s) :
    Evolves s0 (State.rgnResetCmd s r) := by
  unfold State.rgnResetCmd
  extract_lets x0
  split
  · exact (State.leaveRun_evolves h)
  · exact (State.setRst_evolves h)
  · exact (State.setRgnState_evolves (State.setRst_evolves h))
  · exact (State.againAbsent_evolves h)
  · exact (State.againAbsent_evolves h)
  · exact h

theorem State.rgnPowerCmd_evolves {s0 : State} {s : State} {r : Nat} (h : Evolves s0 s) :
    Evolves s0 (State.rgnPowerCmd s r) := by
  unfold State.rgnPowerCmd
  extract_lets x0
  split
  · exact (State.leaveRun_evolves h)
  · exact (State.setRst_evolves h)
  · exact (State.regionPowerOff_evolves (State.setRst_evolves h))
  · exact (State.againAbsent_evolves h)
  · exact (State.againAbsent_evolves h)
  · exact h

theorem State.rgnCmd_evolves {s0 : State} {s : State} {r : Nat} {v : Nat} (h : Evolves s0 s) :
    Evolves s0 (State.rgnCmd s r v) := by
  unfold State.rgnCmd
  extract_lets x0
  have k1 : Evolves s0 x0 := (State.cpStore_evolves h)
  split
  · exact k1
  · split
    · exact (State.rgnRunCmd_evolves k1)
    · split
      · exact (State.rgnResetCmd_evolves k1)
      · exact (State.rgnPowerCmd_evolves k1)

theorem State.rgnResetWrite_evolves {s0 : State} {s : State} {r : Nat} {v : Nat} (h : Evolves s0 s) :
    Evolves s0 (State.rgnResetWrite s r v) := by
  unfold State.rgnResetWrite
  split
  · exact h
  · exact (State.rgnCmd_evolves h)

theorem State.asRgnReset_evolves {s0 : State} {s : State} {m : Master} {r : Nat} {v : Nat} (h : Evolves s0 s) :
    Evolves s0 (State.asRgnReset s m r v) := by
  unfold State.asRgnReset
  exact (State.asCpWrite_evolves h (fun a0 a1 k2 => (State.rgnResetWrite_evolves k2)))

theorem execRgnRun_evolves {s0 : State} {m : Master} {r : Fin 26} {s : State} (h : Evolves s0 s) :
    Ends s0 (execRgnRun m r s) := by
  unfold execRgnRun
  exact Ends.next (State.asRgnReset_evolves h)

theorem execRgnReset_evolves {s0 : State} {m : Master} {r : Fin 26} {s : State} (h : Evolves s0 s) :
    Ends s0 (execRgnReset m r s) := by
  unfold execRgnReset
  exact Ends.next (State.asRgnReset_evolves h)

theorem execRgnPowerDown_evolves {s0 : State} {m : Master} {r : Fin 26} {s : State} (h : Evolves s0 s) :
    Ends s0 (execRgnPowerDown m r s) := by
  unfold execRgnPowerDown
  exact Ends.next (State.asRgnReset_evolves h)

theorem execRegionAbsent_evolves {s0 : State} {r : Fin 26} {s : State} (h : Evolves s0 s) :
    Ends s0 (execRegionAbsent r s) := by
  unfold execRegionAbsent
  split
  · exact Ends.next (State.enterAbsent_evolves h)
  · exact Ends.next h

theorem execRegionRelease_evolves {s0 : State} {r : Fin 26} {s : State} (h : Evolves s0 s) :
    Ends s0 (execRegionRelease r s) := by
  unfold execRegionRelease
  extract_lets x0
  split
  · split
    · exact Ends.next (State.regionUp_evolves (State.setRgnState_evolves (State.setFld_evolves (State.setRst_evolves h))))
    · split
      · exact Ends.next h
      · exact Ends.next (State.raise_evolves (State.setFld_evolves h))
  · exact Ends.next h

theorem State.fatalInfo_evolves {s0 : State} {s : State} {r : Nat} {block : Nat} {cls : Nat} (h : Evolves s0 s) :
    Evolves s0 (State.fatalInfo s r block cls) := by
  unfold State.fatalInfo
  exact (State.wr_evolves h)

theorem State.regionFatal_evolves {s0 : State} {s : State} {r : Nat} {block : Nat} {cls : Nat} (h : Evolves s0 s) :
    Evolves s0 (State.regionFatal s r block cls) := by
  unfold State.regionFatal
  extract_lets x0 x1 x2 x3 x4 x5
  have k6 : Evolves s0 x0 := (State.raise_evolves (State.fatalInfo_evolves h))
  have k7 : Evolves s0 x1 := (State.raise_evolves (State.setRbit_evolves k6))
  have k8 : Evolves s0 x4 := (State.setRst_evolves k7)
  have k9 : Evolves s0 x5 := by
    subst x5
    split
    · exact (State.raise_evolves (State.setFld_evolves k8))
    · exact k8
  split
  · exact (State.chipFatal_evolves k6)
  · split
    · exact k9
    · exact k9
    · exact (State.enterAbsent_evolves k9)

theorem execRegionFatal_evolves {s0 : State} {r : Fin 26} {b : Fin 64} {s : State} (h : Evolves s0 s) :
    Ends s0 (execRegionFatal r b s) := by
  unfold execRegionFatal
  split
  · exact Ends.next (State.regionFatal_evolves h)
  · exact Ends.next h

theorem State.blockCut_evolves {s0 : State} {s : State} {r : Nat} {b : Nat} (h : Evolves s0 s) :
    Evolves s0 (State.blockCut s r b) := by
  unfold State.blockCut
  split
  · split
    · exact (State.lrnDown_evolves h)
    · split
      · exact (State.arrDown_evolves h)
      · exact h
  · exact h

theorem State.blockInit_evolves {s0 : State} {s : State} {r : Nat} {b : Nat} (h : Evolves s0 s) :
    Evolves s0 (State.blockInit s r b) := by
  unfold State.blockInit
  extract_lets x0 x1 x2 x3 x4 x5 x6 x7
  have k8 : Evolves s0 x0 := (State.blockReset_evolves h)
  have k9 : Evolves s0 x5 := (foldl_evolves _ (fun a10 a11 k12 => (State.thrHold_evolves k12)) k8)
  split
  · split
    · exact (ctlUpd_evolves k8)
    · split
      · exact (ctlUpd_evolves k8)
      · split
        · exact (verUpd_evolves k8)
        · split
          · exact (fabUpd_evolves k8)
          · exact k8
  · split
    · exact (timeUpd_evolves k8 rfl)
    · exact k8
  · split
    · exact (State.pipeDown_evolves k8)
    · split
      · exact (State.setLrn_evolves k8)
      · split
        · exact (State.ascAborted_evolves k8)
        · exact k8
  · split
    · exact (State.pipeDown_evolves k8)
    · split
      · exact (State.setLrn_evolves k8)
      · split
        · exact (State.ascAborted_evolves k8)
        · exact k8
  · split
    · exact (State.pipeDown_evolves k8)
    · split
      · exact (State.setLrn_evolves k8)
      · split
        · exact (State.ascAborted_evolves k8)
        · exact k8
  · split
    · exact (State.pipeDown_evolves k8)
    · split
      · exact (State.setLrn_evolves k8)
      · split
        · exact (State.ascAborted_evolves k8)
        · exact k8
  · split
    · exact (State.secDown_evolves k8)
    · exact k8
  · split
    · split
      · exact (State.masterStart_evolves k9)
      · exact k9
    · exact k8
  · split
    · split
      · exact (State.masterStart_evolves k9)
      · exact k9
    · exact k8
  · split
    · split
      · exact (State.masterStart_evolves k9)
      · exact k9
    · exact k8
  · split
    · exact (foldl_evolves _ (fun a73 a74 k75 => (State.qpOff_evolves k75)) k8)
    · exact k8
  · split
    · exact (State.queDown_evolves k8)
    · exact k8
  · split
    · exact (foldl_evolves _ (fun a82 a83 k84 => (State.discardQueue_evolves k84)) k8)
    · split
      · exact (queUpd_evolves k8)
      · split
        · exact (State.pfcRestart_evolves k8)
        · exact k8
  · split
    · exact (State.bufDown_evolves k8)
    · split
      · exact (State.ringRebuild_evolves k8)
      · split
        · exact (bufUpd_evolves k8)
        · exact k8
  · exact (State.fabReset_evolves k8)
  · exact (State.fabReset_evolves k8)
  · split
    · exact (State.memDown_evolves k8)
    · exact k8
  · split
    · exact (State.memDown_evolves k8)
    · exact k8
  · split
    · exact (State.memDown_evolves k8)
    · exact k8
  · split
    · exact (State.memDown_evolves k8)
    · exact k8
  · exact k8

theorem State.blockEpoch_evolves {s0 : State} {s : State} {r : Nat} {b : Nat} (h : Evolves s0 s) :
    Evolves s0 (State.blockEpoch s r b) := by
  unfold State.blockEpoch
  extract_lets x0
  exact (State.setFld_evolves h)

theorem State.blockHold_evolves {s0 : State} {s : State} {r : Nat} {b : Nat} (h : Evolves s0 s) :
    Evolves s0 (State.blockHold s r b) := by
  unfold State.blockHold
  extract_lets x0 x1
  have k2 : Evolves s0 x0 := (State.raise_evolves (State.fatalInfo_evolves h))
  have k3 : Evolves s0 x1 := by
    subst x1
    split
    · exact k2
    · exact (State.blockCut_evolves k2)
  exact (State.setRbit_evolves k3)

theorem State.blockStrike_evolves {s0 : State} {s : State} {r : Nat} {b : Nat} (h : Evolves s0 s) :
    Evolves s0 (State.blockStrike s r b) := by
  unfold State.blockStrike
  extract_lets x0 x1 x2 x3 x4
  have k5 : Evolves s0 x3 := (fltUpd_evolves h)
  split
  · exact (State.regionFatal_evolves k5)
  · split
    · exact (fltUpd_evolves k5)
    · exact k5

theorem State.blockFatal_evolves {s0 : State} {s : State} {r : Nat} {b : Nat} (h : Evolves s0 s) :
    Evolves s0 (State.blockFatal s r b) := by
  unfold State.blockFatal
  exact (State.blockStrike_evolves (State.blockHold_evolves h))

theorem execBlockFatal_evolves {s0 : State} {r : Fin 26} {b : Fin 64} {s : State} (h : Evolves s0 s) :
    Ends s0 (execBlockFatal r b s) := by
  unfold execBlockFatal
  split
  · exact Ends.next h
  · split
    · exact Ends.next (State.regionFatal_evolves h)
    · exact Ends.next (State.blockFatal_evolves h)

theorem execBlockAutoRelease_evolves {s0 : State} {r : Fin 26} {b : Fin 64} {s : State} (h : Evolves s0 s) :
    Ends s0 (execBlockAutoRelease r b s) := by
  unfold execBlockAutoRelease
  extract_lets x0 x1 x2 x3 x4
  have k5 : Evolves s0 x3 := (fltUpd_evolves h)
  have k6 : Evolves s0 x4 := (State.setRbit_evolves k5)
  split
  · exact Ends.next (State.blockInit_evolves (State.blockEpoch_evolves k6))
  · exact Ends.next h

theorem execReplyTimeout_evolves {s0 : State} {r : Fin 26} {s : State} (h : Evolves s0 s) :
    Ends s0 (execReplyTimeout r s) := by
  unfold execReplyTimeout
  split
  · exact Ends.next (State.raise_evolves (State.bump_evolves h))
  · exact Ends.next h

theorem execEpochDiscard_evolves {s0 : State} {r : Fin 26} {s : State} (h : Evolves s0 s) :
    Ends s0 (execEpochDiscard r s) := by
  unfold execEpochDiscard
  split
  · exact Ends.next (State.raise_evolves (State.bump_evolves h))
  · exact Ends.next h

end Sys2Proof.Machine
end

