-- ==== Sys2Proof/Laws/Thermal.lean ====
section
/-! SUPPORT. Every operation of `Sys2Proof/Machine/Thermal.lean` only evolves the state (`Evolves`), one lemma per operation. -/

namespace Sys2Proof.Machine

theorem State.showHottest_evolves {s0 : State} {s : State} {lo : Nat} {t : Option Int} (h : Evolves s0 s) :
    Evolves s0 (State.showHottest s lo t) := by
  unfold State.showHottest
  split
  · exact (State.setFld_evolves h)
  · exact (State.drawn_evolves (State.setFld_evolves h))

theorem State.throttleSet_evolves {s0 : State} {s : State} {on : Bool} (h : Evolves s0 s) :
    Evolves s0 (State.throttleSet s on) := by
  unfold State.throttleSet
  exact (State.setRbit_evolves (State.pmuAccrue_evolves (State.pmuAccrue_evolves (State.pmuAccrue_evolves h))))

theorem State.warnEval_evolves {s0 : State} {s : State} (h : Evolves s0 s) :
    Evolves s0 (State.warnEval s) := by
  unfold State.warnEval
  split
  · extract_lets x3
    exact (State.raiseIf_evolves (State.setRbit_evolves h))
  · exact h

theorem State.throttleEval_evolves {s0 : State} {s : State} (h : Evolves s0 s) :
    Evolves s0 (State.throttleEval s) := by
  unfold State.throttleEval
  extract_lets x0 x1 x2 x3 x4 x5
  split
  · exact (State.raise_evolves (State.bump_evolves (State.throttleSet_evolves h)))
  · split
    · exact (State.raise_evolves (State.throttleSet_evolves h))
    · exact h

theorem State.thermEval_evolves {s0 : State} {s : State} (h : Evolves s0 s) :
    Evolves s0 (State.thermEval s) := by
  unfold State.thermEval
  exact (State.throttleEval_evolves (State.warnEval_evolves h))

theorem State.sensorTake_evolves {s0 : State} {s : State} {n : Nat} {v : Option (BitVec 8)} (h : Evolves s0 s) :
    Evolves s0 (State.sensorTake s n v) := by
  unfold State.sensorTake
  split
  · exact (State.wr_evolves h)
  · exact (State.setRbit_evolves h)

theorem execThermSample_evolves {s0 : State} {sensors : List (Option (BitVec 8))} {s : State} (h : Evolves s0 s) :
    Ends s0 (execThermSample sensors s) := by
  unfold execThermSample
  extract_lets x0 x1 x2 x3 x4 x5 x6 x7 x8 x9 x10 x11 x12
  have k13 : Evolves s0 x0 := (foldl_evolves _ (fun a14 a15 k16 => (State.sensorTake_evolves k16)) h)
  have k17 : Evolves s0 x1 := (State.raiseIf_evolves k13)
  have k18 : Evolves s0 x4 := (State.setFld_evolves (State.showHottest_evolves (State.showHottest_evolves k17)))
  have k19 : Evolves s0 x10 := (thermUpd_evolves k18)
  have k20 : Evolves s0 x11 := by
    subst x11
    split
    · exact (State.setRbit_evolves k19)
    · exact k19
  have k23 : Evolves s0 x12 := (State.warnEval_evolves k20)
  split
  · exact Ends.next h
  · split
    · exact Ends.next (State.chipFatal_evolves k23)
    · exact Ends.next (State.throttleEval_evolves k23)

theorem execTempReadout_evolves {s0 : State} {n : Fin 4} {t : Option (Fin 256)} {s : State} (h : Evolves s0 s) :
    Ends s0 (execTempReadout n t s) := by
  unfold execTempReadout
  extract_lets x0 x1 x2 x3 x4
  have k5 : Evolves s0 x3 := (State.setStack_evolves h)
  have k6 : Evolves s0 x4 := by
    subst x4
    split
    · exact k5
    · exact (State.memRaise_evolves (State.setRbit_evolves k5))
  split
  · extract_lets x11 x12 x13 x14
    have k15 : Evolves s0 x12 := (State.setStack_evolves (State.setFld_evolves h))
    have k16 : Evolves s0 x13 := by
      subst x13
      split
      · split
        · exact k15
        · exact (State.memRaise_evolves (State.setRbit_evolves k15))
      · split
        · exact (State.setRbit_evolves k15)
        · exact k15
    have k23 : Evolves s0 x14 := (State.setFld_evolves k16)
    split
    · exact Ends.next (State.chipFatal_evolves k23)
    · exact Ends.next (State.throttleEval_evolves k23)
  · exact Ends.next (State.raiseIf_evolves k6)

theorem execSupplyStatusUpdate_evolves {s0 : State} {x : SupplyStat} {s : State} (h : Evolves s0 s) :
    Ends s0 (execSupplyStatusUpdate x s) := by
  unfold execSupplyStatusUpdate
  extract_lets x0
  split
  · exact Ends.next h
  · exact Ends.next (State.wr_evolves (State.wr_evolves h))

end Sys2Proof.Machine
end

