-- ==== Sys2Proof/Laws/Bus.lean ====
section
/-! SUPPORT. Every operation of `Sys2Proof/Machine/Bus.lean` only evolves the state (`Evolves`), one lemma per operation. -/

namespace Sys2Proof.Machine

theorem State.bcauseClear_evolves {s0 : State} {s : State} {r : Nat} {b : Nat} {v : Nat} (h : Evolves s0 s) :
    Evolves s0 (State.bcauseClear s r b v) := by
  unfold State.bcauseClear
  extract_lets x0 x1
  have k2 : Evolves s0 x1 := (State.wr_evolves h)
  split
  · exact (State.wr_evolves k2)
  · exact k2

theorem State.bcauseSet_evolves {s0 : State} {s : State} {r : Nat} {b : Nat} {v : Nat} (h : Evolves s0 s) :
    Evolves s0 (State.bcauseSet s r b v) := by
  unfold State.bcauseSet
  refine foldl_evolves _ ?_ ?_
  · intro a3 a4 k5
    split
    · exact (State.raise_evolves k5)
    · exact k5
  · exact h

theorem State.bresetWrite_evolves {s0 : State} {s : State} {r : Nat} {b : Nat} {v : Nat} (h : Evolves s0 s) :
    Evolves s0 (State.bresetWrite s r b v) := by
  unfold State.bresetWrite
  extract_lets x0 x1 x2 x3
  have k4 : Evolves s0 x1 := (State.cpStore_evolves h)
  have k5 : Evolves s0 x3 := (fltUpd_evolves k4)
  split
  · exact (State.blockInit_evolves (State.blockEpoch_evolves (State.setRbit_evolves k5)))
  · split
    · exact (State.blockCut_evolves k4)
    · exact k4

theorem State.setLatch_evolves {s0 : State} {s : State} {m : Master} {a : Nat} {x : Latch} (h : Evolves s0 s) :
    Evolves s0 (State.setLatch s m a x) := by
  unfold State.setLatch
  extract_lets x0
  exact (ctlUpd_evolves h)

theorem State.readClear_evolves {s0 : State} {s : State} {a : Nat} (h : Evolves s0 s) :
    Evolves s0 (State.readClear s a) := by
  unfold State.readClear
  split
  · split
    · split
      · exact (State.wr_evolves h)
      · split
        · exact (State.wr64_evolves h)
        · split
          · exact (State.wr_evolves h)
          · exact h
    · exact h
  · exact h

theorem State.readTake_evolves {s0 : State} {s : State} {m : Option Master} {a : Nat} (h : Evolves s0 s) :
    OptAll (fun p => Evolves s0 p.2) (State.readTake s m a) := by
  unfold State.readTake
  extract_lets x0 x1 x2
  clear_value x0
  split
  · split
    · refine OptAll.some ?_
      exact (State.intgHead_evolves h)
    · split
      · refine OptAll.some ?_
        exact (State.intgPop_evolves h)
      · exact OptAll.none
  · split
    · refine OptAll.some ?_
      exact (State.todRead_evolves h)
    · split
      · refine OptAll.some ?_
        exact (State.tsqHead_evolves h)
      · split
        · refine OptAll.some ?_
          exact (State.tsqPop_evolves h)
        · split
          · refine OptAll.some ?_
            exact (State.lossHead_evolves h)
          · split
            · refine OptAll.some ?_
              exact (State.lossPop_evolves h)
            · exact OptAll.none
  · split
    · refine OptAll.some ?_
      exact (State.poolLogHead_evolves h)
    · split
      · refine OptAll.some ?_
        exact (State.poolLogPop_evolves h)
      · split
        · refine OptAll.some ?_
          exact (State.poolAlloc_evolves h)
        · exact OptAll.none
  · split
    · refine OptAll.some ?_
      exact (State.rhHead_evolves h)
    · split
      · refine OptAll.some ?_
        exact (State.rhPop_evolves h)
      · exact OptAll.none
  · split
    · refine OptAll.some ?_
      exact (State.rhHead_evolves h)
    · split
      · refine OptAll.some ?_
        exact (State.rhPop_evolves h)
      · exact OptAll.none
  · split
    · refine OptAll.some ?_
      exact (State.rhHead_evolves h)
    · split
      · refine OptAll.some ?_
        exact (State.rhPop_evolves h)
      · exact OptAll.none
  · split
    · refine OptAll.some ?_
      exact (State.rhHead_evolves h)
    · split
      · refine OptAll.some ?_
        exact (State.rhPop_evolves h)
      · exact OptAll.none
  · exact OptAll.none

theorem State.readWord_evolves {s0 : State} {s : State} {m : Master} {a : Nat} (h : Evolves s0 s) :
    Evolves s0 (State.readWord s m a).2 := by
  unfold State.readWord
  extract_lets x0 x1 x2
  have k3 : Evolves s0 x2 := by
    subst x2
    split
    · exact h
    · exact (State.setLatch_evolves h)
  split
  · exact (State.setLatch_evolves h)
  · split
    · rename_i v12 v13 v14 e15
      have k16 : Evolves s0 v14 := (State.readTake_evolves h) _ e15
      split
      · exact (State.setLatch_evolves k16)
      · exact k16
    · exact (State.readClear_evolves k3)

theorem wide_snd (lo n : Nat) (t : State) : (wide lo (n, t)).2 = t := rfl

theorem wide_evolves {s0 : State} {lo : Nat} {hi : Nat × State} (h : Evolves s0 hi.2) : Evolves s0 (wide lo hi).2 := by
  obtain ⟨n, t⟩ := hi
  rw [wide_snd]
  exact h

theorem State.readWideTake_evolves {s0 s : State} {m : Master} {a : Nat} {o : Option (Nat × State)}
    (ho : ∀ x, o = some x → Evolves s0 x.2) (h : Evolves s0 s) : Evolves s0 (State.readWideTake s m a o).2 := by
  cases o with
  | none =>
    rw [State.readWideTake]
    exact wide_evolves (State.readWord_evolves (State.readWord_evolves h))
  | some x =>
    rw [State.readWideTake]
    split
    · exact ho x rfl
    · exact wide_evolves (State.readWord_evolves (ho x rfl))

theorem State.readWide_evolves {s0 s : State} {m : Master} {a : Nat} (h : Evolves s0 s) :
    Evolves s0 (State.readWide s m a).2 := by
  unfold State.readWide
  split
  · simpa only using State.readClear_evolves h
  · exact State.readWideTake_evolves (fun x e => State.readTake_evolves h _ e) h

theorem State.busRead_evolves {s0 : State} {s : State} {m : Master} {a : Nat} {bytes : Nat} (h : Evolves s0 s) :
    Evolves s0 (State.busRead s m a bytes).2 := by
  unfold State.busRead
  split
  · exact (State.readWide_evolves h)
  · exact (State.readWord_evolves h)

theorem State.cpAccept_evolves {s0 : State} {s : State} {a : Nat} {v : Nat} (h : Evolves s0 s) :
    Evolves s0 (State.cpAccept s a v) := by
  unfold State.cpAccept
  extract_lets x0 x1 x2 x3
  split
  · exact (State.bresetWrite_evolves h)
  · split
    · split
      · exact h
      · exact (State.cpStore_evolves h)
    · split
      · split
        · exact (State.chipReset_evolves h)
        · exact h
      · split
        · exact (State.rgnResetWrite_evolves h)
        · split
          · exact (State.cpStore_evolves h)
          · exact (State.incrFrac_evolves h)

theorem State.cpWrite_evolves {s0 : State} {s : State} {m : Option Master} {a : Nat} {mask : Nat} {datum : Nat} (h : Evolves s0 s) :
    Evolves s0 (State.cpWrite s m a mask datum) := by
  unfold State.cpWrite
  split
  · exact (State.cpAccept_evolves h)
  · exact (State.cpRefused_evolves h)

theorem State.rangeRefused_evolves {s0 : State} {s : State} {r : Nat} {b : Nat} (h : Evolves s0 s) :
    Evolves s0 (State.rangeRefused s r b) := by
  unfold State.rangeRefused
  exact (State.raiseIf_evolves h)

theorem State.sharedSizeWrite_evolves {s0 : State} {s : State} {eq : Bool} {a : Nat} {v : Nat} (h : Evolves s0 s) :
    Evolves s0 (State.sharedSizeWrite s eq a v) := by
  unfold State.sharedSizeWrite
  split
  · exact (State.raise_evolves h)
  · exact (State.sharedLow_evolves (State.wr_evolves h))

theorem State.storeWord_evolves {s0 : State} {s : State} {m : Option Master} {a : Nat} {v : Nat} {row : RegRow} (h : Evolves s0 s) :
    Evolves s0 (State.storeWord s m a v row) := by
  unfold State.storeWord
  extract_lets x0 x1 x2
  have k3 : Evolves s0 x2 := by
    subst x2
    split
    · exact h
    · exact (State.lockedWrite_evolves h)
  split
  · exact (State.wr_evolves k3)
  · exact (State.wr_evolves h)

theorem State.timeHook_evolves {s0 : State} {s : State} {m : Option Master} {b : Nat} {a : Nat} {row : RegRow} {i : Nat} {v : Nat} {store : State} (h0 : Evolves s0 s) (h1 : Evolves s0 store) :
    Evolves s0 (State.timeHook s m b a row i v store) := by
  unfold State.timeHook
  extract_lets x0 x1
  split
  · split
    · exact (State.wtCtrlWrite_evolves h0)
    · exact h1
  · split
    · exact (State.domModeWrite_evolves h0)
    · split
      · split
        · exact h0
        · exact h1
      · split
        · exact (State.domValidWrite_evolves h0)
        · split
          · split
            · exact (State.wr_evolves h0)
            · exact h0
          · split
            · exact (State.ofsHi_evolves h0)
            · split
              · exact (State.setsecHi_evolves h0)
              · split
                · exact (State.stepHi_evolves h0)
                · exact h1
  · split
    · exact (State.domModeWrite_evolves h0)
    · split
      · split
        · exact h0
        · exact h1
      · split
        · exact (State.domValidWrite_evolves h0)
        · split
          · split
            · exact (State.wr_evolves h0)
            · exact h0
          · split
            · exact (State.ofsHi_evolves h0)
            · split
              · exact (State.setsecHi_evolves h0)
              · split
                · exact (State.stepHi_evolves h0)
                · exact h1
  · split
    · split
      · exact h0
      · exact (State.ppsSync_evolves (State.ppsArm_evolves h1))
    · split
      · exact (State.ppsArm_evolves h1)
      · split
        · exact (timeUpd_evolves h1 rfl)
        · exact h1
  · split
    · exact h0
    · exact h1
  · exact h1

theorem State.sysHook_evolves {s0 : State} {s : State} {b : Nat} {row : RegRow} {i : Nat} {v : Nat} {store : State} (h0 : Evolves s0 s) (h1 : Evolves s0 store) :
    Evolves s0 (State.sysHook s b row i v store) := by
  unfold State.sysHook
  extract_lets x0
  have k1 : Evolves s0 x0 := (State.modAccStart_evolves h0)
  split
  · split
    · exact (State.snapCtrlWrite_evolves h0)
    · exact h1
  · split
    · exact (State.setRbit_evolves h1)
    · exact h1
  · split
    · split
      · exact (State.modAccStart_evolves h0)
      · split
        · exact (State.modAccSend_evolves k1)
        · exact k1
      · exact h1
    · exact h1
  · split
    · split
      · exact (State.pauseApply_evolves h0)
      · exact (State.verCtrl_evolves h0)
    · split
      · exact (State.verSeqWrite_evolves h0)
      · exact h1
  · split
    · exact (State.ovcCtrlWrite_evolves h0)
    · split
      · exact (State.ovcTxQueue_evolves h0)
      · split
        · exact (State.ovcRxPop_evolves h0)
        · exact h1
  · split
    · exact (State.imgCtrl_evolves h0)
    · split
      · exact (State.setCmd_evolves h0)
      · exact h1
  · split
    · exact (State.attCmd_evolves h0)
    · exact h1
  · split
    · split
      · exact h0
      · exact (State.thermEval_evolves h1)
    · split
      · split
        · exact h0
        · exact (State.thermEval_evolves h1)
      · exact h1
  · exact h1

theorem State.lineHook_evolves {s0 : State} {s : State} {b : Nat} {row : RegRow} {i : Nat} {v : Nat} {store : State} (h0 : Evolves s0 s) (h1 : Evolves s0 store) :
    Evolves s0 (State.lineHook s b row i v store) := by
  unfold State.lineHook
  split
  · split
    · exact (State.octRateWrite_evolves h0)
    · split
      · exact (State.portCfgWrite_evolves h0)
      · split
        · exact (State.maxlenWrite_evolves h0)
        · split
          · split
            · exact (State.cntClear_evolves h0)
            · exact h0
          · exact h1
  · split
    · exact h0
    · exact h1

theorem State.pipeHook_evolves {s0 : State} {s : State} {r : Nat} {b : Nat} {row : RegRow} {i : Nat} {v : Nat} {store : State} (h0 : Evolves s0 s) (h1 : Evolves s0 store) :
    Evolves s0 (State.pipeHook s r b row i v store) := by
  unfold State.pipeHook
  split
  · exact (State.parseEntryWrite_evolves h0)
  · split
    · exact (State.lrnCtrlWrite_evolves h0)
    · exact h1

theorem State.tblHook_evolves {s0 : State} {s : State} {b : Nat} {row : RegRow} {i : Nat} {v : Nat} {store : State} (h0 : Evolves s0 s) (h1 : Evolves s0 store) :
    Evolves s0 (State.tblHook s b row i v store) := by
  unfold State.tblHook
  split
  · exact (State.ageSuspendWrite_evolves h0)
  · split
    · exact (State.emCfgWrite_evolves h0)
    · exact h1

theorem State.cpuHook_evolves {s0 : State} {s : State} {r : Nat} {b : Nat} {row : RegRow} {i : Nat} {v : Nat} {store : State} (h0 : Evolves s0 s) (h1 : Evolves s0 store) :
    Evolves s0 (State.cpuHook s r b row i v store) := by
  unfold State.cpuHook
  split
  · exact (State.timerLevel_evolves h1)
  · split
    · exact (State.ctxCmd_evolves h0)
    · split
      · exact (State.dmiWrite_evolves h0 h1)
      · split
        · exact (State.pmuCtrl_evolves h0)
        · exact h1

theorem State.hostHook_evolves {s0 : State} {s : State} {b : Nat} {row : RegRow} {i : Nat} {v : Nat} {store : State} (h0 : Evolves s0 s) (h1 : Evolves s0 store) :
    Evolves s0 (State.hostHook s b row i v store) := by
  unfold State.hostHook
  split
  · split
    · exact h0
    · exact h1
  · split
    · exact (State.dlogSwap_evolves h0)
    · exact h1
  · split
    · exact (State.blkDone_evolves h1)
    · split
      · exact (State.blkTmoWrite_evolves h0)
      · exact h1
  · exact h1

theorem State.bufHook_evolves {s0 : State} {s : State} {b : Nat} {row : RegRow} {v : Nat} {store : State} (h0 : Evolves s0 s) (h1 : Evolves s0 store) :
    Evolves s0 (State.bufHook s b row v store) := by
  unfold State.bufHook
  split
  · split
    · exact (State.spillInit_evolves h0)
    · split
      · split
        · exact h0
        · exact h1
      · split
        · exact h0
        · exact h1
  · exact h0
  · exact h1

theorem State.fabHook_evolves {s0 : State} {s : State} {r : Nat} {b : Nat} {row : RegRow} {i : Nat} {v : Nat} {store : State} (h0 : Evolves s0 s) (h1 : Evolves s0 store) :
    Evolves s0 (State.fabHook s r b row i v store) := by
  unfold State.fabHook
  split
  · exact (State.pisteCtrlWrite_evolves h0)
  · split
    · exact (State.pisteCfgWrite_evolves h0)
    · split
      · exact (State.laneCtrlWrite_evolves h0)
      · split
        · split
          · exact h1
          · exact h0
        · split
          · split
            · exact h1
            · exact h0
          · exact h1

theorem State.regHook_evolves {s0 : State} {s : State} {m : Option Master} {a : Nat} {row : RegRow} {i : Nat} {v : Nat} (h : Evolves s0 s) :
    Evolves s0 (State.regHook s m a row i v) := by
  unfold State.regHook
  extract_lets x0 x1 x2
  have k3 : Evolves s0 x2 := (State.storeWord_evolves h)
  clear_value x0
  split
  · exact (State.sysHook_evolves h k3)
  · exact (State.timeHook_evolves h k3)
  · exact (State.lineHook_evolves h k3)
  · exact (State.pipeHook_evolves h k3)
  · exact (State.pipeHook_evolves h k3)
  · exact (State.pipeHook_evolves h k3)
  · exact (State.pipeHook_evolves h k3)
  · exact (State.tblHook_evolves h k3)
  · split
    · exact (State.lkaPiWrite_evolves h)
    · exact k3
  · exact (State.cpuHook_evolves h k3)
  · exact (State.cpuHook_evolves h k3)
  · exact (State.cpuHook_evolves h k3)
  · exact (State.hostHook_evolves h k3)
  · split
    · exact (State.sharedSizeWrite_evolves h)
    · exact k3
  · split
    · exact (State.sharedSizeWrite_evolves h)
    · exact k3
  · exact (State.bufHook_evolves h k3)
  · exact (State.fabHook_evolves h k3)
  · exact (State.fabHook_evolves h k3)
  · split
    · exact (State.rasCmd_evolves h)
    · exact k3
  · split
    · exact (State.rasCmd_evolves h)
    · exact k3
  · split
    · exact (State.rasCmd_evolves h)
    · exact k3
  · split
    · exact (State.rasCmd_evolves h)
    · exact k3
  · exact k3

theorem State.rowWrite_evolves {s0 : State} {s : State} {m : Option Master} {a : Nat} {row : RegRow} {i : Nat} {v : Nat} (h : Evolves s0 s) :
    Evolves s0 (State.rowWrite s m a row i v) := by
  unfold State.rowWrite
  split
  · exact h
  · exact h
  · exact (State.wr_evolves h)
  · exact (State.cpRefused_evolves h)
  · split
    · exact (State.lockedWrite_evolves h)
    · split
      · exact h
      · exact (State.regHook_evolves h)
  · split
    · exact (State.rangeRefused_evolves h)
    · exact (State.regHook_evolves h)
  · split
    · exact (State.rangeRefused_evolves h)
    · exact (State.regHook_evolves h)

theorem State.headerWrite_evolves {s0 : State} {s : State} {m : Option Master} {a : Nat} {v : Nat} (h : Evolves s0 s) :
    Evolves s0 (State.headerWrite s m a v) := by
  unfold State.headerWrite
  extract_lets x0 x1 x2
  split
  · exact (State.bcauseClear_evolves h)
  · split
    · exact (State.wr_evolves h)
    · split
      · exact (State.cpRefused_evolves h)
      · split
        · exact (State.wr_evolves h)
        · split
          · exact (State.bcauseSet_evolves h)
          · exact h

theorem State.writeWord_evolves {s0 : State} {s : State} {m : Option Master} {a : Nat} {v : Nat} (h : Evolves s0 s) :
    Evolves s0 (State.writeWord s m a v) := by
  unfold State.writeWord
  extract_lets x0 x1 x2 x3
  split
  · exact (State.headerWrite_evolves h)
  · split
    · split
      · exact (State.winCtrl_evolves h)
      · exact (State.winWordWrite_evolves h)
    · split
      · exact h
      · exact (State.rowWrite_evolves h)

theorem State.portWrite_evolves {s0 : State} {s : State} {t : Nat} {off : Nat} {datum : Nat} (h : Evolves s0 s) :
    Evolves s0 (State.portWrite s t off datum) := by
  unfold State.portWrite
  split
  · exact (State.blkRetry_evolves (State.poolFree_evolves h))
  · split
    · exact (State.blkRetry_evolves (State.poolRelease_evolves h))
    · split
      · exact (State.poolShareOp_evolves h)
      · exact h

theorem State.writeWide_evolves {s0 : State} {s : State} {m : Option Master} {a : Nat} {datum : Nat} (h : Evolves s0 s) :
    Evolves s0 (State.writeWide s m a datum) := by
  unfold State.writeWide
  split
  · exact (State.cpWrite_evolves h)
  · split
    · split
      · exact (State.portWrite_evolves h)
      · exact h
    · exact (State.writeWord_evolves (State.writeWord_evolves h))

theorem State.busWrite_evolves {s0 : State} {s : State} {m : Option Master} {a : Nat} {bytes : Nat} {datum : Nat} (h : Evolves s0 s) :
    Evolves s0 (State.busWrite s m a bytes datum) := by
  unfold State.busWrite
  split
  · exact (State.writeWide_evolves h)
  · exact (State.writeWord_evolves h)

theorem execRegisterWrite_evolves {s0 : State} {x : Access} {datum : BitVec 64} {transit : Bool} {s : State} (h : Evolves s0 s) :
    Ends s0 (execRegisterWrite x datum transit s) := by
  unfold execRegisterWrite
  extract_lets x0
  split
  · split
    · exact Ends.next (State.intgLog_evolves h)
    · exact Ends.next (State.busWrite_evolves h)
  · exact Ends.next (State.accessRefused_evolves h)

theorem State.asBusRead_evolves {s0 : State} {s : State} {x : Access} (h : Evolves s0 s) :
    Evolves s0 (State.asBusRead s x) := by
  unfold State.asBusRead
  extract_lets x0 x1
  have k2 : Evolves s0 x1.2 := (State.busRead_evolves h)
  split
  · exact (State.emit_evolves k2)
  · exact (State.accessRefused_evolves h)

theorem execLatchWordRead_evolves {s0 : State} {x : Access} {s : State} (h : Evolves s0 s) :
    Ends s0 (execLatchWordRead x s) := by
  unfold execLatchWordRead
  exact Ends.next (State.asBusRead_evolves h)

theorem execCounterReadClear_evolves {s0 : State} {x : Access} {s : State} (h : Evolves s0 s) :
    Ends s0 (execCounterReadClear x s) := by
  unfold execCounterReadClear
  exact Ends.next (State.asBusRead_evolves h)

theorem State.asWin_evolves {s0 : State} {s : State} {m : Master} {x : WinRef} {v : Word} {c : Nat} (h : Evolves s0 s) :
    Evolves s0 (State.asWin s m x v c) := by
  unfold State.asWin
  refine State.asWrite_evolves ?_ ?_
  · exact h
  · intro a2 k3
    split
    · exact (State.winCtrl_evolves k3)
    · exact k3

theorem execWinRead_evolves {s0 : State} {m : Master} {x : WinRef} {v : Word} {s : State} (h : Evolves s0 s) :
    Ends s0 (execWinRead m x v s) := by
  unfold execWinRead
  exact Ends.next (State.asWin_evolves h)

theorem execWinWrite_evolves {s0 : State} {m : Master} {x : WinRef} {v : Word} {s : State} (h : Evolves s0 s) :
    Ends s0 (execWinWrite m x v s) := by
  unfold execWinWrite
  exact Ends.next (State.asWin_evolves h)

theorem execWinClear_evolves {s0 : State} {m : Master} {x : WinRef} {v : Word} {s : State} (h : Evolves s0 s) :
    Ends s0 (execWinClear m x v s) := by
  unfold execWinClear
  exact Ends.next (State.asWin_evolves h)

theorem execWinReadClear_evolves {s0 : State} {m : Master} {x : WinRef} {v : Word} {s : State} (h : Evolves s0 s) :
    Ends s0 (execWinReadClear m x v s) := by
  unfold execWinReadClear
  exact Ends.next (State.asWin_evolves h)

theorem execBcauseClear_evolves {s0 : State} {m : Master} {x : BlockRef} {v : Word} {s : State} (h : Evolves s0 s) :
    Ends s0 (execBcauseClear m x v s) := by
  unfold execBcauseClear
  exact Ends.next (State.asWrite_evolves h (fun a0 k1 => (State.bcauseClear_evolves k1)))

theorem execBcauseSet_evolves {s0 : State} {m : Master} {x : BlockRef} {v : Word} {s : State} (h : Evolves s0 s) :
    Ends s0 (execBcauseSet m x v s) := by
  unfold execBcauseSet
  exact Ends.next (State.asWrite_evolves h (fun a0 k1 => (State.bcauseSet_evolves k1)))

theorem execBresetHold_evolves {s0 : State} {m : Master} {x : BlockRef} {s : State} (h : Evolves s0 s) :
    Ends s0 (execBresetHold m x s) := by
  unfold execBresetHold
  exact Ends.next (State.asCpWrite_evolves h (fun a0 a1 k2 => (State.bresetWrite_evolves k2)))

theorem execBresetRelease_evolves {s0 : State} {m : Master} {x : BlockRef} {s : State} (h : Evolves s0 s) :
    Ends s0 (execBresetRelease m x s) := by
  unfold execBresetRelease
  exact Ends.next (State.asCpWrite_evolves h (fun a0 a1 k2 => (State.bresetWrite_evolves k2)))

theorem execChipResetWrite_evolves {s0 : State} {m : Master} {datum : BitVec 64} {s : State} (h : Evolves s0 s) :
    Ends s0 (execChipResetWrite m datum s) := by
  unfold execChipResetWrite
  extract_lets x0
  exact Ends.next (State.asCpWrite_evolves h (fun a1 a2 k3 => (State.cpAccept_evolves k3)))

theorem execCpScrub_evolves {s0 : State} {upset : Option CpUpset} {s : State} (h : Evolves s0 s) :
    Ends s0 (execCpScrub upset s) := by
  unfold execCpScrub
  extract_lets x0 x1
  have k2 : Evolves s0 x0 := by
    subst x0
    split
    · extract_lets x5
      split
      · split
        · exact (State.pisteUpset_evolves h)
        · split
          · exact (State.pisteUpset_evolves h)
          · exact h
      · split
        · exact (State.wr64_evolves h)
        · exact h
    · exact h
  exact Ends.next (foldl_evolves _ (fun a18 a19 k20 => (State.intgLog_evolves k20)) k2)

end Sys2Proof.Machine
end

