-- ==== Sys2Proof/Laws/Cause.lean ====
section
/-! SUPPORT. What raising a cause does to the cause bits: it sets its own and clears none. -/

namespace Sys2Proof.Machine

theorem natBit_eq_testBit (n i : Nat) : natBit n i = n.testBit i := by
  unfold natBit
  rw [Nat.testBit_eq_decide_div_mod_eq]
  by_cases h : n / 2 ^ i % 2 = 1 <;> simp [h]

theorem natSetBit_self {n k : Nat} (h : natBit n k = true) : natSetField n k 1 1 = n := by
  have hh : n / 2 ^ k % 2 = 1 := by simpa [natBit] using h
  unfold natSetField natField
  simp only [Nat.pow_one, hh]
  have : 2 ^ k ≤ n := by
    rcases Nat.lt_or_ge n (2 ^ k) with g | g
    · rw [Nat.div_eq_of_lt g] at hh; omega
    · exact g
  omega

theorem natSetBit_new {n k : Nat} (h : natBit n k = false) : natSetField n k 1 1 = n + 2 ^ k := by
  have hh : n / 2 ^ k % 2 = 0 := by
    have : ¬n / 2 ^ k % 2 = 1 := by simpa [natBit] using h
    omega
  unfold natSetField natField
  simp only [Nat.pow_one, hh]
  omega

/-- Bits of a number in which bit `k` has been set. -/
theorem natBit_setOne (n k i : Nat) : natBit (natSetField n k 1 1) i = (natBit n i || i == k) := by
  cases hk : natBit n k with
  | true =>
    rw [natSetBit_self hk]
    rcases Nat.decEq i k with h | h
    · simp [h]
    · subst h; simp [hk]
  | false =>
    rcases Nat.decEq i k with h | h
    · cases hi : natBit n i with
      | true => rw [natBit_setBit hk hi]; rfl
      | false =>
        have hg : natBit (n + 2 ^ k) i = false := by
          rcases Nat.lt_trichotomy i k with g | g | g
          · rw [natBit_eq_testBit, Nat.add_comm, Nat.testBit_two_pow_add_gt g, ← natBit_eq_testBit]; exact hi
          · exact absurd g h
          · unfold natBit at hk hi ⊢
            have hh : n / 2 ^ k % 2 = 0 := by
              have : ¬n / 2 ^ k % 2 = 1 := by simpa using hk
              omega
            obtain ⟨d, rfl⟩ : ∃ d, i = k + 1 + d := ⟨i - k - 1, by omega⟩
            have e : 2 ^ (k + 1 + d) = 2 ^ k * 2 * 2 ^ d := by rw [Nat.pow_add, Nat.pow_add]
            rw [e, ← Nat.div_div_eq_div_mul, ← Nat.div_div_eq_div_mul] at hi ⊢
            rw [Nat.add_div_right _ (Nat.two_pow_pos _)]
            have h2 : (n / 2 ^ k + 1) / 2 = n / 2 ^ k / 2 := by omega
            rw [h2]; exact hi
        rw [natSetBit_new hk, hg]
        simp [h]
    · subst h
      rw [natSetBit_new hk, natBit_eq_testBit, Nat.add_comm, Nat.testBit_two_pow_add_eq, ← natBit_eq_testBit, hk]
      simp

theorem natBit_mod {n i : Nat} (h : i < 32) : natBit (n % 2 ^ 32) i = natBit n i := by
  rw [natBit_eq_testBit, natBit_eq_testBit, Nat.testBit_mod_two_pow]; simp [h]

variable {s t : State}

/-- A bit of a register in which a bit has been set. -/
theorem State.rbit_setRbit {a k i : Nat} (hi : i < 32) :
    (s.setRbit a k true).rbit a i = (s.rbit a i || i == k) := by
  unfold State.setRbit State.setFld State.rbit
  rw [State.rd_wr_self, BitVec.toNat_ofNat, natBit_mod hi]
  simp only [if_true]
  exact natBit_setOne _ _ _

theorem State.rbit_wr_ne {a b : Nat} (n : b ≠ a) (v : Word) (i : Nat) :
    (s.wr a v).rbit b i = s.rbit b i := by
  unfold State.rbit; rw [State.rd_wr_ne n]

/-- Every cause bit that is set stays set. -/
def CauseUp (s t : State) : Prop := ∀ r b k, r < 64 → b < 64 → k < 32 → s.cause r b k = true → t.cause r b k = true

theorem CauseUp.refl (s : State) : CauseUp s s := fun _ _ _ _ _ _ g => g

theorem CauseUp.trans {u : State} (h : CauseUp s t) (g : CauseUp t u) : CauseUp s u :=
  fun r b k hr hb hk c => g r b k hr hb hk (h r b k hr hb hk c)

/-- A write of a register that is no BCAUSE. -/
theorem CauseUp.wr (s : State) {a : Nat} (v : Word) (h : a % 0x4000 ≠ 8) : CauseUp s (s.wr a v) := fun r b k _ _ _ g => by
  unfold State.cause at *
  rw [State.rbit_wr_ne _ v k]; exact g
  intro e; apply h; unfold regAddr at e; omega

theorem CauseUp.regs (e : t.regs = s.regs) : CauseUp s t := fun r b k _ _ _ g => by
  unfold State.cause State.rbit at *; rw [State.rd_congr e]; exact g

theorem setCause_up (s : State) (r b k : Nat) : CauseUp s (s.setCause r b k) := fun r' b' k' _ _ hk' g => by
  unfold State.cause State.setCause at *
  by_cases e : regAddr r' b' 8 = regAddr r b 8
  · rw [e] at g ⊢; rw [State.rbit_setRbit hk', g]; rfl
  · unfold State.setRbit State.setFld; rw [State.rbit_wr_ne e]; exact g

theorem bump_up (s : State) {a : Nat} (n : Nat) (h : a % 0x4000 ≠ 8) : CauseUp s (s.bump a n) := by
  unfold State.bump
  split
  · exact CauseUp.refl _
  · exact CauseUp.wr _ _ h

theorem setEvent_up (s : State) (n i : Nat) : CauseUp s (s.setEvent n i) := by
  unfold State.setEvent State.wr64
  have h : evPendA n % 0x4000 = 0x400 + 8 * (n % 32) ∨ evPendA n % 0x4000 = 0x400 + 8 * (n % 128 % 32) := by
    unfold evPendA A.cl regAddr thrRegion thrCluster thrIndex
    simp only [R.CPU_EVPEND]
    omega
  exact (CauseUp.wr _ _ (by omega)).trans (CauseUp.wr _ _ (by omega))

section
variable {f : Nat → Nat → Nat → State → State} (hf : ∀ r b k s, CauseUp s (f r b k s))
include hf

theorem intgLogWith_up (a b c d e : Nat) (s : State) : CauseUp s (intgLogWith f a b c d e s) := by
  unfold intgLogWith
  split
  · exact (CauseUp.regs (t := { s with ctl := { s.ctl with intgOvf := s.ovfNext s.ctl.intgOvf } }) rfl).trans (hf _ _ _ _)
  · extract_lets w x
    exact (CauseUp.regs (t := { s with ctl := { s.ctl with intg := s.ctl.intg ++ [x] } }) rfl).trans (hf _ _ _ _)

theorem deviceEventWith_up (n i : Nat) (s : State) : CauseUp s (deviceEventWith f n i s) := by
  unfold deviceEventWith
  split
  · refine (bump_up _ _ ?_).trans (hf _ _ _ _)
    unfold A.cl regAddr
    simp only [R.CPU_EV_MISKIND]
    omega
  · exact setEvent_up _ _ _

theorem routeWith_up (r b k n : Nat) (s : State) : CauseUp s (routeWith f r b k n s) := by
  unfold routeWith
  dsimp only
  split
  · split
    · exact intgLogWith_up hf _ _ _ _ _ _
    · exact deviceEventWith_up hf _ _ _
  · exact CauseUp.refl _
end

theorem raiseN_up (n r b k : Nat) (s : State) : CauseUp s (raiseN n r b k s) := by
  induction n generalizing r b k s with
  | zero => exact setCause_up _ _ _ _
  | succ n ih =>
    unfold raiseN
    split
    · exact CauseUp.refl _
    · exact (setCause_up _ _ _ _).trans ((routeWith_up (fun r b k s => ih r b k s) _ _ _ _ _).trans
        (routeWith_up (fun r b k s => ih r b k s) _ _ _ _ _))

/-- Raising a cause clears no cause. -/
theorem State.raise_up (s : State) (r b k : Nat) : CauseUp s (s.raise r b k) := raiseN_up 16 r b k s

/-- Raising a cause sets it. -/
theorem State.cause_raise {r b k : Nat} (hr : r < 64) (hb : b < 64) (hk : k < 32) :
    (s.raise r b k).cause r b k = true := by
  unfold State.raise raiseN
  split
  · assumption
  · have e : (s.setCause r b k).cause r b k = true := by
      unfold State.setCause State.cause; rw [State.rbit_setRbit hk]; simp
    exact ((routeWith_up (fun r b k s => raiseN_up 15 r b k s) _ _ _ _ _).trans
      (routeWith_up (fun r b k s => raiseN_up 15 r b k s) _ _ _ _ _)) r b k hr hb hk e

/-- An event whose cause is set already changes nothing. -/
theorem State.raise_of_cause {r b k : Nat} (h : s.cause r b k = true) : s.raise r b k = s := by
  unfold State.raise raiseN
  rw [if_pos]
  exact h

/-! ## Registers that raising a cause leaves alone -/

/-- The register at `a` keeps its value. -/
def RegKept (a : Nat) (s t : State) : Prop := t.rd a = s.rd a

theorem RegKept.refl (a : Nat) (s : State) : RegKept a s s := rfl

theorem RegKept.trans {a : Nat} {u : State} (h : RegKept a s t) (g : RegKept a t u) : RegKept a s u := Eq.trans g h

theorem RegKept.wr {a b : Nat} (s : State) (v : Word) (h : a ≠ b) : RegKept a s (s.wr b v) := State.rd_wr_ne h v

theorem RegKept.regs {a : Nat} (e : t.regs = s.regs) : RegKept a s t := State.rd_congr e a

section
variable {a : Nat} {f : Nat → Nat → Nat → State → State} (ha : a % 0x4000 ≠ 8) (hc : a / 0x100000 < 9 ∨ 13 ≤ a / 0x100000)
  (hf : ∀ r b k s, RegKept a s (f r b k s))
include hf

theorem intgLogWith_kept (b c d e g : Nat) (s : State) : RegKept a s (intgLogWith f b c d e g s) := by
  unfold intgLogWith
  split
  · exact (RegKept.regs (t := { s with ctl := { s.ctl with intgOvf := s.ovfNext s.ctl.intgOvf } }) rfl).trans (hf _ _ _ _)
  · extract_lets w x
    exact (RegKept.regs (t := { s with ctl := { s.ctl with intg := s.ctl.intg ++ [x] } }) rfl).trans (hf _ _ _ _)

include hc

theorem deviceEventWith_kept {n : Nat} (hn : n < 512) (i : Nat) (s : State) : RegKept a s (deviceEventWith f n i s) := by
  unfold deviceEventWith
  split
  · refine RegKept.trans ?_ (hf _ _ _ _)
    unfold State.bump
    split
    · exact RegKept.refl _ _
    · refine RegKept.wr _ _ fun e => ?_
      subst e
      unfold A.cl regAddr thrRegion thrCluster at hc
      simp only [R.CPU_EV_MISKIND] at hc
      omega
  · unfold State.setEvent State.wr64
    have h : 9 ≤ evPendA n / 0x100000 ∧ evPendA n / 0x100000 < 13 ∧ (evPendA n + 4) / 0x100000 < 13 := by
      unfold evPendA A.cl regAddr thrRegion thrCluster thrIndex
      simp only [R.CPU_EVPEND]
      omega
    exact (RegKept.wr _ _ (by intro e; subst e; omega)).trans (RegKept.wr _ _ (by intro e; subst e; omega))

theorem routeWith_kept (r b k n : Nat) (s : State) : RegKept a s (routeWith f r b k n s) := by
  unfold routeWith
  dsimp only
  split
  · split
    · exact intgLogWith_kept hf _ _ _ _ _ _
    · refine deviceEventWith_kept hc hf ?_ _ _
      unfold State.fld natField
      exact Nat.mod_lt _ (by decide)
  · exact RegKept.refl _ _
end

theorem setCause_kept {a : Nat} (ha : a % 0x4000 ≠ 8) (s : State) (r b k : Nat) : RegKept a s (s.setCause r b k) := by
  unfold State.setCause State.setRbit State.setFld
  refine RegKept.wr _ _ fun e => ?_
  subst e
  unfold regAddr at ha
  omega

theorem raiseN_kept {a : Nat} (ha : a % 0x4000 ≠ 8) (hc : a / 0x100000 < 9 ∨ 13 ≤ a / 0x100000) (n r b k : Nat) (s : State) :
    RegKept a s (raiseN n r b k s) := by
  induction n generalizing r b k s with
  | zero => exact setCause_kept ha _ _ _ _
  | succ n ih =>
    unfold raiseN
    split
    · exact RegKept.refl _ _
    · exact (setCause_kept ha _ _ _ _).trans ((routeWith_kept hc (fun r b k s => ih r b k s) _ _ _ _ _).trans
        (routeWith_kept hc (fun r b k s => ih r b k s) _ _ _ _ _))

/-- Outside the processor regions, raising a cause changes no register but BCAUSE words. -/
theorem State.rd_raise {a : Nat} (ha : a % 0x4000 ≠ 8)
    (hc : a / 0x100000 < 9 ∨ 13 ≤ a / 0x100000) (r b k : Nat) : (s.raise r b k).rd a = s.rd a :=
  raiseN_kept ha hc 16 r b k s

end Sys2Proof.Machine
end

