-- ==== Sys2Proof/Laws/Clock.lean ====
section
/-! SUPPORT. Every operation of `Sys2Proof/Machine/Clock.lean` only evolves the state (`Evolves`), one lemma per operation. -/

namespace Sys2Proof.Machine

theorem State.stacksClock_evolves {s0 : State} {s : State} (h : Evolves s0 s) :
    Evolves s0 (State.stacksClock s) := by
  unfold State.stacksClock
  refine foldl_evolves _ ?_ ?_
  · intro a3 a4 k5
    split
    · exact (State.hbmDrain_evolves k5)
    · exact k5
  · exact h

theorem State.arraysClock_evolves {s0 : State} {s : State} (h : Evolves s0 s) :
    Evolves s0 (State.arraysClock s) := by
  unfold State.arraysClock
  refine foldl_evolves _ ?_ ?_
  · intro a3 a4 k5
    split
    · exact (State.ascClock_evolves k5)
    · exact k5
  · exact h

theorem tickOne_evolves {s0 s : State} (h : Evolves s0 s) :
    Evolves s0 { s with time := { s.time with ticks := s.time.ticks + 1 } } :=
  h.trans ⟨id, id, id, id, rfl, ⟨[], rfl⟩, Nat.le_refl _, Nat.le_succ _, rfl, Nat.le_refl _, fun _ h => h⟩

theorem execClockTick_evolves {s0 : State} {s : State} (h : Evolves s0 s) : Ends s0 (execClockTick s) := by
  unfold execClockTick
  split
  · exact Ends.next h
  · extract_lets s1 src s2 x
    have hx : Evolves s0 x := State.stacksClock_evolves (tickOne_evolves (State.arraysClock_evolves h))
    clear_value x
    split
    · exact Ends.next (State.checkWtValid_evolves (State.tickRef_evolves (State.tickCont_evolves
        (State.tickDom_evolves (State.tickDom_evolves hx)))))
    · exact Ends.next hx

end Sys2Proof.Machine
end

