-- ==== Sys2Proof/Laws/Loader.lean ====
section
/-! SUPPORT. Every operation of `Sys2Proof/Machine/Loader.lean` only evolves the state (`Evolves`), one lemma per operation. -/

namespace Sys2Proof.Machine

theorem State.loaderRead_evolves {s0 : State} {s : State} {a : Nat} (h : Evolves s0 s) :
    Evolves s0 (State.loaderRead s a).2 := by
  unfold State.loaderRead
  split
  · rename_i v0 v1 v2 e3
    have k4 : Evolves s0 v2 := (State.readTake_evolves h) _ e3
    exact k4
  · exact (State.readClear_evolves h)

theorem State.preEntry_evolves {s0 : State} {s : State} {a : Nat} {table : Nat} {index : Nat} {e : List Byte} (h : Evolves s0 s) :
    OptAll (Evolves s0) (State.preEntry s a table index e) := by
  unfold State.preEntry
  extract_lets x0 x1 x2 x3 x4 x5
  have k6 : Evolves s0 x3 := (foldl_evolves _ (fun a7 a8 k9 => (State.winWordWrite_evolves k9)) h)
  have k10 : Evolves s0 x4 := (State.winWordWrite_evolves (State.winWordWrite_evolves k6))
  have k11 : Evolves s0 x5 := (State.winSettle_evolves (State.winCtrl_evolves k10))
  split
  · refine OptAll.some ?_
    exact k11
  · exact OptAll.none

theorem State.preEntries_evolves {s0 : State} {s : State} {a table size first : Nat} {b : List Byte} {n : Nat}
    (h : Evolves s0 s) : OptAll (Evolves s0) (State.preEntries s a table size first b n) := by
  induction n generalizing s with
  | zero => exact OptAll.some h
  | succ n ih =>
    unfold State.preEntries
    exact OptAll.bind (ih h) (fun _ k => State.preEntry_evolves k)

theorem State.preRecords_evolves {s0 : State} {s : State} {b : List Byte} {want : Nat → Bool} {n o : Nat} (h : Evolves s0 s) :
    OptAll (Evolves s0) (State.preRecords s b want n o) := by
  induction n generalizing s o with
  | zero => exact OptAll.some h
  | succ n ih =>
    unfold State.preRecords
    dsimp only
    split
    · exact OptAll.some h
    · split
      · exact ih h
      · split
        · exact OptAll.none
        · exact OptAll.bind (State.preEntries_evolves h) (fun _ k => ih k)

theorem State.preload_evolves {s0 : State} {s : State} {img : List Byte} {want : Nat → Bool} (h : Evolves s0 s) :
    OptAll (Evolves s0) (State.preload s img want) := by
  unfold State.preload
  generalize (sections img).filter (fun x => x.type == 2) = l
  have key : ∀ o : Option State, OptAll (Evolves s0) o → OptAll (Evolves s0) (l.foldl (fun (o : Option State) x =>
      let b := sectionBytes img x
      o.bind (fun t => t.preRecords b want (b.length / 32 + 1) 0)) o) := by
    induction l with
    | nil => exact fun o h => h
    | cons x r ih => exact fun o h => ih _ (OptAll.bind h (fun _ k => State.preRecords_evolves k))
  exact key _ (OptAll.some h)

theorem State.parseRecord_evolves {s0 : State} {s : State} {i : Nat} {b : List Byte} (h : Evolves s0 s) :
    OptAll (Evolves s0) (State.parseRecord s i b) := by
  unfold State.parseRecord
  refine OptAll.map (fun t e => ?_)
  refine foldl_evolves _ (fun _ _ k => State.parseEntryWrite_evolves k) ?_
  exact OptAll.bind (State.preEntries_evolves h) (fun _ k => State.preEntries_evolves k) t e

theorem State.parseRecords_evolves {s0 : State} {s : State} {b : List Byte} {n : Nat} (h : Evolves s0 s) :
    OptAll (fun p => Evolves s0 p.1) (State.parseRecords s b n) := by
  induction n with
  | zero => exact OptAll.some h
  | succ n ih =>
    unfold State.parseRecords
    refine OptAll.bind ih (fun q k => ?_)
    split
    · dsimp only
      split
      · exact OptAll.none
      · exact OptAll.map (State.parseRecord_evolves k)
    · exact OptAll.some k

theorem State.parsePreload_evolves {s0 : State} {s : State} {img : List Byte} (h : Evolves s0 s) :
    OptAll (Evolves s0) (State.parsePreload s img) := by
  unfold State.parsePreload
  split
  · exact OptAll.map (State.parseRecords_evolves h)
  · exact OptAll.some h

/-- The state of an answer of the list loader evolves from `s0`. -/
def ListStep.Keeps (s0 : State) : ListStep → Prop
  | .go _ t => Evolves s0 t
  | .ended _ t => Evolves s0 t
  | .wait _ _ t => Evolves s0 t
  | .fail _ t => Evolves s0 t

theorem State.listEntry_keeps {s0 : State} {s : State} {r pos : Nat} {since : Option Nat} {e : List Byte}
    (h : Evolves s0 s) : ListStep.Keeps s0 (State.listEntry s r pos since e) := by
  unfold State.listEntry
  dsimp only
  split
  · unfold State.listWrite
    dsimp only
    split
    · exact h
    · exact State.busWrite_evolves h
  · unfold State.listWriteCp
    split
    · exact h
    · split
      · exact State.busWrite_evolves h
      · exact State.busWrite_evolves h
  · unfold State.listPoll
    dsimp only
    split
    · exact h
    · split
      · exact State.loaderRead_evolves h
      · split
        · exact State.loaderRead_evolves h
        · exact State.loaderRead_evolves h
  · split
    · exact h
    · exact h
  · exact h
  · exact h
  · exact h

theorem listGo_keeps {s0 : State} {ent : Nat → Option (List Byte)} {r n pos : Nat} {since : Option Nat} {s : State}
    (h : Evolves s0 s) : ListStep.Keeps s0 (listGo ent r n pos since s) := by
  induction n generalizing pos since s with
  | zero => exact h
  | succ n ih =>
    unfold listGo
    split
    · exact h
    · rename_i e _
      have k := State.listEntry_keeps (r := r) (pos := pos) (since := since) (e := e) h
      revert k
      generalize s.listEntry r pos since e = x
      intro k
      cases x with
      | go p t => exact ih k
      | ended _ _ => exact k
      | wait _ _ _ => exact k
      | fail _ _ => exact k

theorem State.planCheck_evolves {s0 : State} {s : State} (h : Evolves s0 s) :
    Evolves s0 (State.planCheck s) := by
  unfold State.planCheck
  extract_lets x0 x1 x2
  have k3 : Evolves s0 x0 := (State.bootRaise_evolves (State.bootFail_evolves h))
  split
  · exact h
  · exact (bootUpd_evolves k3 rfl rfl rfl)

theorem State.domProgram_evolves {s0 : State} {s : State} {d : Dom} {src : Nat} {anchor : Nat} {pdly : Nat} (h : Evolves s0 s) :
    Evolves s0 (State.domProgram s d src anchor pdly) := by
  unfold State.domProgram
  extract_lets x0 x1
  have k2 : Evolves s0 x1 := (State.domModeWrite_evolves h)
  exact (State.wr_evolves k2)

theorem State.timeApply_evolves {s0 : State} {s : State} {b : List Byte} (h : Evolves s0 s) :
    OptAll (Evolves s0) (State.timeApply s b) := by
  unfold State.timeApply
  extract_lets x0 x1 x2 x3 x4 x5 x6 x7 x8 x9
  have k10 : Evolves s0 x4 := (State.domProgram_evolves h)
  have k11 : Evolves s0 x5 := (State.domProgram_evolves k10)
  have k12 : Evolves s0 x7 := (State.wtCtrlWrite_evolves k11)
  split
  · refine OptAll.some ?_
    exact (Evolves.frame k12 rfl)
  · exact OptAll.none

theorem State.pisteApply_evolves {s0 : State} {s : State} {b : List Byte} (h : Evolves s0 s) :
    OptAll (Evolves s0) (State.pisteApply s b) := by
  unfold State.pisteApply
  extract_lets x0 x1 x2 x3 x4 x5 x6
  have k7 : Evolves s0 x2 := (State.wr_evolves h)
  have k8 : Evolves s0 x3 := (foldl_evolves _ (fun a9 a10 k11 => (foldl_evolves _ (fun a12 a13 k14 => (State.setPisteFound_evolves (State.setTabN_evolves k14))) k11)) k7)
  have k15 : Evolves s0 x4 := (foldl_evolves _ (fun a16 a17 k18 => (State.wr_evolves k18)) k8)
  have k19 : Evolves s0 x5 := (State.pisteStat_evolves (State.pisteStat_evolves k15))
  split
  · exact OptAll.none
  · split
    · refine OptAll.some ?_
      refine foldl_evolves _ ?_ ?_
      · intro a26 a27 k28
        split
        · exact (State.laneCtrlWrite_evolves k28)
        · exact k28
      · exact k19
    · exact OptAll.none

theorem State.modxLoad_evolves {s0 : State} {s : State} (h : Evolves s0 s) :
    Evolves s0 (State.modxLoad s) := by
  unfold State.modxLoad
  extract_lets x0
  exact (foldl_evolves _ (fun a1 a2 k3 => (State.setCage_evolves k3)) h)

end Sys2Proof.Machine
end

