-- ==== Sys2Proof/Laws/Startup.lean ====
section
/-! SUPPORT. Every operation of `Sys2Proof/Machine/Startup.lean` only evolves the state (`Evolves`), one lemma per operation. -/

namespace Sys2Proof.Machine

theorem execVsb33Rise_evolves {s0 : State} {s : State} (h : Evolves s0 s) :
    Ends s0 (execVsb33Rise s) := by
  unfold execVsb33Rise
  extract_lets x0
  exact Ends.next (bootUpd_evolves h rfl rfl rfl)

theorem execVsb33Present_evolves {s0 : State} {s : State} (h : Evolves s0 s) :
    Ends s0 (execVsb33Present s) := by
  unfold execVsb33Present
  extract_lets x0 x1
  have k2 : Evolves s0 x1 := (bootUpd_evolves h rfl rfl rfl)
  split
  · refine Ends.next ?_
    split
    · exact (State.settle_evolves k2)
    · exact k2
  · exact Ends.next h

theorem execVin12Valid_evolves {s0 : State} {s : State} (h : Evolves s0 s) :
    Ends s0 (execVin12Valid s) := by
  unfold execVin12Valid
  extract_lets x0
  exact Ends.next (bootUpd_evolves h rfl rfl rfl)

theorem execRailsInTolerance_evolves {s0 : State} {s : State} (h : Evolves s0 s) :
    Ends s0 (execRailsInTolerance s) := by
  unfold execRailsInTolerance
  extract_lets x0 x1
  have k2 : Evolves s0 x1 := (bootUpd_evolves h rfl rfl rfl)
  split
  · refine Ends.next ?_
    split
    · exact (State.settle_evolves k2)
    · exact k2
  · exact Ends.next h

theorem execResetNFall_evolves {s0 : State} {s : State} (h : Evolves s0 s) :
    Ends s0 (execResetNFall s) := by
  unfold execResetNFall
  extract_lets x0
  split
  · exact Ends.next (State.chipReset_evolves (bootUpd_evolves h rfl rfl rfl))
  · exact Ends.next h

theorem execResetNRise_evolves {s0 : State} {s : State} (h : Evolves s0 s) :
    Ends s0 (execResetNRise s) := by
  unfold execResetNRise
  extract_lets x0 x1
  have k2 : Evolves s0 x1 := (bootUpd_evolves h rfl rfl rfl)
  split
  · exact Ends.next h
  · refine Ends.next ?_
    split
    · exact (State.settle_evolves k2)
    · exact k2

theorem execVin12Loss_evolves {s0 : State} {s : State} (h : Evolves s0 s) :
    Ends s0 (execVin12Loss s) := by
  unfold execVin12Loss
  extract_lets x0 x1 x2
  have k3 : Evolves s0 x2 := (bootUpd_evolves h rfl rfl rfl)
  refine Ends.next ?_
  split
  · exact (State.chipReset_evolves k3)
  · exact k3

theorem execVin12Low_evolves {s0 : State} {s : State} (h : Evolves s0 s) :
    Ends s0 (execVin12Low s) := by
  unfold execVin12Low
  extract_lets x0
  split
  · exact Ends.next (State.raiseIf_evolves h)
  · exact Ends.next (bootUpd_evolves h rfl rfl rfl)

theorem execVsb33Loss_evolves {s0 : State} {s : State} (h : Evolves s0 s) :
    Ends s0 (execVsb33Loss s) := by
  unfold execVsb33Loss
  extract_lets x0
  exact Ends.next (State.chipReset_evolves (bootUpd_evolves h rfl rfl rfl))

theorem State.toRecovery_evolves {s0 : State} {s : State} {code : Nat} (h : Evolves s0 s) :
    Evolves s0 (State.toRecovery s code) := by
  unfold State.toRecovery
  extract_lets x0 x1
  have k2 : Evolves s0 x0 := (State.blockReset_evolves (State.bootFail_evolves (State.setBootedSlot_evolves h)))
  exact (bootUpd_evolves k2 rfl rfl rfl)

theorem State.appFail_evolves {s0 : State} {s : State} (h : Evolves s0 s) :
    Evolves s0 (State.appFail s) := by
  unfold State.appFail
  exact (State.chipReset_evolves (State.bootFail_evolves (State.brecPut_evolves h)))

theorem State.fallbackTaken_evolves {s0 : State} {s : State} (h : Evolves s0 s) :
    Evolves s0 (State.fallbackTaken s) := by
  unfold State.fallbackTaken
  exact (State.setRbit_evolves (State.bootRaise_evolves h))

theorem State.failOver_evolves {s0 : State} {s : State} {code : Nat} (h : Evolves s0 s) :
    Evolves s0 (State.failOver s code) := by
  unfold State.failOver
  extract_lets x0 x1 x2 x3 x4
  have k5 : Evolves s0 x2 := (State.fallbackTaken_evolves (State.bootFail_evolves (State.brecPut_evolves h)))
  have k6 : Evolves s0 x4 := (bootUpd_evolves k5 rfl rfl rfl)
  split
  · exact (State.toRecovery_evolves (State.brecPut_evolves h))
  · split
    · exact (State.toRecovery_evolves k6)
    · exact k6

theorem State.bootStep3_evolves {s0 : State} {s : State} (h : Evolves s0 s) :
    Evolves s0 (State.bootStep3 s) := by
  unfold State.bootStep3
  extract_lets x0 x1 x2 x3
  have k4 : Evolves s0 x3 := (bootUpd_evolves h rfl rfl rfl)
  split
  · exact (State.failOver_evolves k4)
  · split
    · exact (State.brecPut_evolves k4)
    · exact k4

theorem State.selectSlot_evolves {s0 : State} {s : State} (h : Evolves s0 s) :
    Evolves s0 (State.selectSlot s) := by
  unfold State.selectSlot
  extract_lets x0 x1 x2 x3
  have k4 : Evolves s0 x2 := (State.fallbackTaken_evolves (State.bootFail_evolves (State.brecPut_evolves h)))
  split
  · exact (State.toRecovery_evolves h)
  · split
    · split
      · exact (State.bootStep3_evolves (State.brecPut_evolves h))
      · exact (bootUpd_evolves k4 rfl rfl rfl)
    · exact (State.bootStep3_evolves h)

theorem State.calLoad_evolves {s0 : State} {s : State} {x : BootReads} (h : Evolves s0 s) :
    Evolves s0 (State.calLoad s x) := by
  unfold State.calLoad
  extract_lets x0 x1 x2 x3 x4
  have k5 : Evolves s0 x2 := (State.bootRaise_evolves h)
  have k6 : Evolves s0 x3 := (State.bootFail_evolves k5)
  split
  · exact h
  · split
    · exact (bootUpd_evolves k6 rfl rfl rfl)
    · exact (State.toRecovery_evolves k5)

theorem State.setLive_evolves {s0 : State} {s : State} {r : Nat} (h : Evolves s0 s) :
    Evolves s0 (State.setLive s r) := by
  unfold State.setLive
  extract_lets x0
  exact (bootUpd_evolves h rfl rfl rfl)

theorem State.setBase_evolves {s0 : State} {s : State} {d : Dom} {b : Nat} (h : Evolves s0 s) :
    Evolves s0 (State.setBase s d b) := by
  unfold State.setBase
  extract_lets x0 x1
  have k2 : Evolves s0 x0 := (State.cpStore_evolves (State.cpStore_evolves h))
  exact (State.setDom_evolves k2)

theorem State.timeStart_evolves {s0 : State} {s : State} (h : Evolves s0 s) :
    Evolves s0 (State.timeStart s) := by
  unfold State.timeStart
  extract_lets x0 x1
  have k2 : Evolves s0 x1 := (State.regionUp_evolves (State.setLive_evolves h))
  split
  · exact (State.setBase_evolves (State.setBase_evolves k2))
  · exact k2

theorem State.brecUnread_evolves {s0 : State} {s : State} {x : BootReads} (h : Evolves s0 s) :
    Evolves s0 (State.brecUnread s x) := by
  unfold State.brecUnread
  extract_lets x0
  have k1 : Evolves s0 x0 := by
    subst x0
    split
    · exact (State.flashErase_evolves h)
    · exact h
  split
  · exact (State.flashErase_evolves k1)
  · exact k1

theorem State.bootStart_evolves {s0 : State} {s : State} {x : BootReads} (h : Evolves s0 s) :
    Evolves s0 (State.bootStart s x) := by
  unfold State.bootStart
  extract_lets x0 x1 x2 x3 x4 x5 x6 x7 x8
  have k9 : Evolves s0 x0 := (State.setRbit_evolves h)
  have k10 : Evolves s0 x2 := (bootUpd_evolves k9 rfl rfl rfl)
  have k11 : Evolves s0 x3 := (State.brecUnread_evolves (State.faultLoad_evolves k10))
  have k12 : Evolves s0 x4 := by
    subst x4
    split
    · exact (State.bootRaise_evolves (State.bootFail_evolves k11))
    · exact k11
  have k15 : Evolves s0 x5 := (State.selectSlot_evolves (State.identLoad_evolves k12))
  have k16 : Evolves s0 x7 := (bootUpd_evolves k15 rfl rfl rfl)
  have k17 : Evolves s0 x8 := (State.calLoad_evolves k16)
  split
  · exact k15
  · split
    · exact k17
    · exact (State.timeStart_evolves k17)

theorem execBootStart_evolves {s0 : State} {x : BootReads} {s : State} (h : Evolves s0 s) :
    Ends s0 (execBootStart x s) := by
  unfold execBootStart
  split
  · exact Ends.next h
  · split
    · exact Ends.next (State.setRbit_evolves h)
    · exact Ends.next (State.bootStart_evolves h)

theorem State.setD2dDone_evolves {s0 : State} {s : State} (h : Evolves s0 s) :
    Evolves s0 (State.setD2dDone s) := by
  unfold State.setD2dDone
  extract_lets x0
  exact (bootUpd_evolves h rfl rfl rfl)

theorem execDieToDieLinkUp_evolves {s0 : State} {modules : Fin 17} {s : State} (h : Evolves s0 s) :
    Ends s0 (execDieToDieLinkUp modules s) := by
  unfold execDieToDieLinkUp
  extract_lets x0 x1
  have k2 : Evolves s0 x1 := (fltUpd_evolves h)
  split
  · split
    · exact Ends.next (State.toRecovery_evolves k2)
    · exact Ends.next (State.setD2dDone_evolves (State.setLive_evolves (State.setLive_evolves k2)))
  · exact Ends.next h

theorem execBidReadDone_evolves {s0 : State} {b : Option (List Byte)} {s : State} (h : Evolves s0 s) :
    Ends s0 (execBidReadDone b s) := by
  unfold execBidReadDone
  extract_lets x0 x1 x2 x3 x4 x5
  have k6 : Evolves s0 x1 := (bootUpd_evolves h rfl rfl rfl)
  have k7 : Evolves s0 x2 := (State.bootRaise_evolves (State.bootFail_evolves k6))
  have k8 : Evolves s0 x4 := (bootUpd_evolves k7 rfl rfl rfl)
  split
  · split
    · extract_lets x12 x13 x14
      have k15 : Evolves s0 x12 := (bootUpd_evolves k6 rfl rfl rfl)
      have k16 : Evolves s0 x13 := (State.wr_evolves k15)
      have k17 : Evolves s0 x14 := (State.wr_evolves k16)
      split
      · exact Ends.next (State.cpStore_evolves k17)
      · exact Ends.next k8
    · exact Ends.next k8
  · exact Ends.next h

theorem State.sparesIn_evolves {s0 : State} {s : State} {n : Nat} {y2 : List Nat} {y3 : List Nat} (h : Evolves s0 s) :
    Evolves s0 (State.sparesIn s n y2 y3) := by
  fun_induction State.sparesIn s n y2 y3
  · rename_i v0 v1 v2 v3 v4 e5
    apply e5
    · exact (State.wr_evolves h)
  · exact h

theorem State.stackUp_evolves {s0 : State} {s : State} {n : Nat} {bad : List Nat} {x : StackCheck} (h : Evolves s0 s) :
    Evolves s0 (State.stackUp s n bad x) := by
  unfold State.stackUp
  extract_lets x0 x1 x2 x3 x4 x5
  have k6 : Evolves s0 x2 := (State.sparesIn_evolves (State.setLive_evolves h))
  have k7 : Evolves s0 x4 := (State.setStack_evolves k6)
  have k8 : Evolves s0 x5 := (State.setRbit_evolves (State.setFld_evolves (State.migShow_evolves k7)))
  split
  · exact k8
  · exact (State.bootRaise_evolves (State.bootFail_evolves k8))

theorem execHbmVerifyDone_evolves {s0 : State} {x0 : StackCheck} {x1 : StackCheck} {x2 : StackCheck} {x3 : StackCheck} {rec0 : Bool} {rec1 : Bool} {s : State} (h : Evolves s0 s) :
    Ends s0 (execHbmVerifyDone x0 x1 x2 x3 rec0 rec1 s) := by
  unfold execHbmVerifyDone
  extract_lets x0 x1 x2 x3 x4 x5
  have k6 : Evolves s0 x0 := by
    subst x0
    split
    · exact (State.flashErase_evolves h)
    · exact h
  have k9 : Evolves s0 x1 := by
    subst x1
    split
    · exact (State.flashErase_evolves k6)
    · exact k6
  have k12 : Evolves s0 x4 := (foldl_evolves _ (fun a13 a14 k15 => (State.stackUp_evolves k15)) k9)
  split
  · split
    · exact Ends.next (State.toRecovery_evolves k9)
    · exact Ends.next (bootUpd_evolves k12 rfl rfl rfl)
  · exact Ends.next h

theorem execImageVerifyDone_evolves {s0 : State} {readErr ue : Bool} {s : State} (h : Evolves s0 s) :
    Ends s0 (execImageVerifyDone readErr ue s) := by
  unfold execImageVerifyDone
  split
  · split
    · exact Ends.next (State.appFail_evolves h)
    · have hq : Evolves s0 (s.imageLoad s.boot.slot false).1 := State.imageLoad_evolves h
      revert hq
      generalize s.imageLoad s.boot.slot false = q
      intro hq
      dsimp only
      split
      · split
        · exact Ends.next (State.failOver_evolves hq)
        · have hm := State.measure_evolves (glide := false) (b := ‹List Byte›)
            (State.setBootedSlot_evolves (n := q.1.boot.slot) hq)
          exact Ends.next (hm.frame rfl)
      · exact Ends.next (State.failOver_evolves hq)
  · exact Ends.next h

theorem State.beforeList_evolves {s0 : State} {s : State} {r : Nat} (h : Evolves s0 s) :
    Evolves s0 (State.beforeList s r) := by
  unfold State.beforeList
  split
  · exact (State.planCheck_evolves h)
  · exact (State.modxLoad_evolves h)
  · exact h

theorem State.afterList_evolves {s0 : State} {s : State} {r : Nat} (h : Evolves s0 s) :
    OptAll (Evolves s0) (State.afterList s r) := by
  unfold State.afterList
  extract_lets x0
  split
  · split
    · refine OptAll.some ?_
      exact h
    · split
      · exact (State.timeApply_evolves h)
      · refine OptAll.some ?_
        exact h
  · split
    · refine OptAll.some ?_
      exact h
    · exact OptAll.none
  · refine OptAll.some ?_
    exact (hostUpd_evolves h)
  · split
    · exact (State.pisteApply_evolves h)
    · refine OptAll.some ?_
      exact h
  · refine OptAll.some ?_
    exact h

theorem State.listDone_evolves {s0 : State} {s : State} (h : Evolves s0 s) :
    Evolves s0 (State.listDone s) := by
  unfold State.listDone
  extract_lets x0
  exact (bootUpd_evolves h rfl rfl rfl)

theorem State.regionList_evolves {s0 : State} {s : State} {r : Nat} (h : Evolves s0 s) : Evolves s0 (State.regionList s r) := by
  unfold State.regionList
  extract_lets t u
  have ht : Evolves s0 t := by
    subst t
    split
    · exact State.beforeList_evolves h
    · exact h
  clear_value t
  split
  · exact State.listDone_evolves ht
  · have hu : Evolves s0 u := State.setLive_evolves ht
    clear_value u
    have k : ListStep.Keeps s0 (u.sectionRun u.boot.image r u.boot.listPos u.boot.pollTick) := listGo_keeps hu
    revert k
    generalize u.sectionRun u.boot.image r u.boot.listPos u.boot.pollTick = x
    intro k
    cases x with
    | ended n v =>
      dsimp only
      split
      · exact k
      · split
        · exact State.listDone_evolves (State.afterList_evolves k _ ‹_›)
        · exact State.appFail_evolves k
    | wait p since v => exact Evolves.frame (s := v) k rfl
    | fail b v => exact State.appFail_evolves k
    | go p v => exact k

theorem State.preloads_evolves {s0 : State} {s : State} (h : Evolves s0 s) : Evolves s0 (State.preloads s) := by
  unfold State.preloads
  split
  · rename_i t e
    exact State.listDone_evolves (OptAll.bind (State.preload_evolves h) (fun _ k => State.parsePreload_evolves k) t e)
  · exact State.appFail_evolves h

theorem execWriteListApply_evolves {s0 : State} {s : State} (h : Evolves s0 s) :
    Ends s0 (execWriteListApply s) := by
  unfold execWriteListApply
  extract_lets x0
  split
  · split
    · exact Ends.next (State.preloads_evolves h)
    · exact Ends.next (State.regionList_evolves h)
  · exact Ends.next h

theorem State.leaveDown_evolves {s0 : State} {s : State} {r : Nat} (h : Evolves s0 s) :
    Evolves s0 (State.leaveDown s r) := by
  unfold State.leaveDown
  extract_lets x0 x1
  have k2 : Evolves s0 x0 := (State.setRgnState_evolves (State.setLive_evolves h))
  split
  · exact (State.setRst_evolves k2)
  · exact h

theorem execFwLoadRelease_evolves {s0 : State} {s : State} (h : Evolves s0 s) :
    Ends s0 (execFwLoadRelease s) := by
  unfold execFwLoadRelease
  split
  · split
    · exact Ends.next (State.appFail_evolves h)
    · rename_i v3 v4 e5
      have k6 : Evolves s0 v4 := (State.fwLoad_evolves (State.setBoot_evolves h)) _ e5
      extract_lets x7 x8
      have k9 : Evolves s0 x7 := (State.leaveDown_evolves (State.leaveDown_evolves (State.leaveDown_evolves k6)))
      exact Ends.next (bootUpd_evolves k9 rfl rfl rfl)
  · exact Ends.next h

theorem execFwdReady_evolves {s0 : State} {s : State} (h : Evolves s0 s) :
    Ends s0 (execFwdReady s) := by
  unfold execFwdReady
  extract_lets x0
  split
  · exact Ends.next (State.bootRaise_evolves (State.wr_evolves (State.setRbit_evolves h)))
  · exact Ends.next h

theorem execFwdWaitExpiry_evolves {s0 : State} {x : FwdWait} {s : State} (h : Evolves s0 s) :
    Ends s0 (execFwdWaitExpiry x s) := by
  unfold execFwdWaitExpiry
  split
  · split
    · extract_lets x3
      refine Ends.next ?_
      split
      · exact h
      · exact (bootUpd_evolves h rfl rfl rfl)
    · refine Ends.next ?_
      split
      · exact h
      · exact (State.setRbit_evolves h)
  · exact Ends.next h

theorem execWtLate_evolves {s0 : State} {s : State} (h : Evolves s0 s) :
    Ends s0 (execWtLate s) := by
  unfold execWtLate
  extract_lets x0 x1
  have k2 : Evolves s0 x0 := (State.bootRaise_evolves (State.bootFail_evolves h))
  split
  · exact Ends.next (bootUpd_evolves k2 rfl rfl rfl)
  · exact Ends.next h

theorem execDeclareFirst_evolves {s0 : State} {d : Dom} {s : State} (h : Evolves s0 s) :
    Ends s0 (execDeclareFirst d s) := by
  unfold execDeclareFirst
  extract_lets x0 x1 x2
  have k3 : Evolves s0 x2 := by
    subst x2
    split
    · exact (bootUpd_evolves h rfl rfl rfl)
    · exact (bootUpd_evolves h rfl rfl rfl)
  split
  · exact Ends.next (State.setValid_evolves k3)
  · exact Ends.next h

end Sys2Proof.Machine
end

