-- ==== Sys2Proof/Laws/Release.lean ====
section
/-! SUPPORT. Every operation of `Sys2Proof/Machine/Release.lean` only evolves the state (`Evolves`), one lemma per operation. -/

namespace Sys2Proof.Machine

theorem State.extendList_evolves {s0 : State} {s : State} {l : List Byte} (h : Evolves s0 s) :
    Evolves s0 (State.extendList s l) := by
  unfold State.extendList
  extract_lets x0
  split
  · exact h
  · exact (imgUpd_evolves h)

theorem State.listFails_evolves {s0 : State} {s : State} {r : Nat} {block : Nat} (h : Evolves s0 s) :
    Evolves s0 (State.listFails s r block) := by
  unfold State.listFails
  exact (State.setRbit_evolves (State.regionFatal_evolves h))

theorem State.rgnPreload_evolves {s0 : State} {s : State} {r : Nat} (h : Evolves s0 s) :
    OptAll (Evolves s0) (State.rgnPreload s r) := by
  unfold State.rgnPreload
  split
  · exact OptAll.map (fun t e => State.setDev_evolves (State.preload_evolves (State.setDev_evolves h) t e))
  · exact OptAll.some h

theorem State.listEnds_evolves {s0 : State} {s : State} {r : Nat} {l : List Byte} (h : Evolves s0 s) :
    Evolves s0 (State.listEnds s r l) := by
  unfold State.listEnds
  extract_lets x0 x1
  have k2 : Evolves s0 x1 := (State.setRst_evolves h)
  split
  · exact (State.listFails_evolves k2)
  · split
    · exact (State.listFails_evolves k2)
    · rename_i v7 v8 e9
      have k10 : Evolves s0 v8 := (State.rgnPreload_evolves (State.extendList_evolves k2)) _ e9
      split
      · exact (State.setRgnState_evolves k10)
      · exact (State.regionRun_evolves k10)

theorem State.listRun_evolves {s0 : State} {s : State} {r : Nat} {q : (Nat → Option (List Byte)) × Nat} {t : RegionSt}
    (h : Evolves s0 s) : Evolves s0 (s.listRun r q t) := by
  unfold State.listRun
  have k : ListStep.Keeps s0 (listGo q.1 r q.2 t.listPos t.pollTick s) := listGo_keeps h
  revert k
  generalize listGo q.1 r q.2 t.listPos t.pollTick s = x
  intro k
  cases x with
  | ended n t => exact State.listEnds_evolves k
  | wait p since t => exact State.setRst_evolves k
  | fail b t => exact State.listFails_evolves (State.setRst_evolves k)
  | go p t => exact k

theorem execRegionReady_evolves {s0 : State} {r : Fin 26} {s : State} (h : Evolves s0 s) : Ends s0 (execRegionReady r s) := by
  unfold execRegionReady
  split
  · exact Ends.next (State.listRun_evolves h)
  · exact Ends.next h

end Sys2Proof.Machine
end

