-- ==== Sys2Proof/Laws/Service.lean ====
section
/-! SUPPORT. Every operation of `Sys2Proof/Machine/Service.lean` only evolves the state (`Evolves`), one lemma per operation. -/

namespace Sys2Proof.Machine

theorem State.svcAnswer_evolves {s0 : State} {s : State} {type : Nat} {h' : SvcHead} {st : Nat} {body : List Byte} (h : Evolves s0 s) :
    Evolves s0 (State.svcAnswer s type h' st body) := by
  unfold State.svcAnswer
  extract_lets x0 x1
  have k2 : Evolves s0 x0 := (State.bump_evolves h)
  have k3 : Evolves s0 x1 := by
    subst x1
    split
    · exact (State.bump_evolves k2)
    · exact k2
  exact (State.emit_evolves k3)

theorem State.svcMsg_evolves {s0 : State} {s : State} {type : Nat} {h' : SvcHead} {body : List Byte} {lengthOk : Bool} {inSession : Bool} {f : State → State} (h0 : Evolves s0 s) (h1 : ∀ b0, Evolves s0 b0 → Evolves s0 (f b0)) :
    Evolves s0 (State.svcMsg s type h' body lengthOk inSession f) := by
  unfold State.svcMsg
  extract_lets x0
  have k1 : Evolves s0 x0 := (State.bump_evolves h0)
  split
  · split
    · exact (State.svcAnswer_evolves k1)
    · exact (h1 _ k1)
  · exact h0

theorem execSvcStatus_evolves {s0 : State} {h' : SvcHead} {body : List Byte} {s : State} (h : Evolves s0 s) :
    Ends s0 (execSvcStatus h' body s) := by
  unfold execSvcStatus
  exact Ends.next (State.svcMsg_evolves h (fun a0 k1 => (State.svcAnswer_evolves k1)))

theorem State.svcRefused_evolves {s0 : State} {s : State} {type : Nat} {h' : SvcHead} {a : Nat} {c : AccCode} (h : Evolves s0 s) :
    Evolves s0 (State.svcRefused s type h' a c) := by
  unfold State.svcRefused
  split
  · exact (State.accessRefused_evolves h)
  · exact (State.svcAnswer_evolves (State.accessNoted_evolves h))
  · exact (State.emit_evolves (State.bump_evolves (State.accessNoted_evolves h)))

theorem execSvcRegRead_evolves {s0 : State} {h' : SvcHead} {body : List Byte} {s : State} (h : Evolves s0 s) :
    Ends s0 (execSvcRegRead h' body s) := by
  unfold execSvcRegRead
  refine Ends.next ?_
  refine State.svcMsg_evolves ?_ ?_
  · exact h
  · intro a4 k5
    split
    · extract_lets x10
      have k11 : Evolves s0 x10.2 := (State.busRead_evolves k5)
      split
      · exact (State.svcAnswer_evolves k11)
      · exact (State.svcRefused_evolves k5)
    · exact k5

theorem execSvcRegWrite_evolves {s0 : State} {h' : SvcHead} {body : List Byte} {s : State} (h : Evolves s0 s) :
    Ends s0 (execSvcRegWrite h' body s) := by
  unfold execSvcRegWrite
  refine Ends.next ?_
  refine State.svcMsg_evolves ?_ ?_
  · exact h
  · intro a4 k5
    split
    · split
      · exact (State.busWrite_evolves (State.svcAnswer_evolves k5))
      · exact (State.svcRefused_evolves k5)
    · exact k5

theorem State.setSession_evolves {s0 : State} {s : State} {x : SessionSt} (h : Evolves s0 s) :
    Evolves s0 (State.setSession s x) := by
  unfold State.setSession
  extract_lets x0
  exact (imgUpd_evolves h)

theorem State.sessAnswer_evolves {s0 : State} {s : State} {type : Nat} {h' : SvcHead} {st : Nat} {body : List Byte} (h : Evolves s0 s) :
    Evolves s0 (State.sessAnswer s type h' st body) := by
  unfold State.sessAnswer
  extract_lets x0
  have k1 : Evolves s0 x0 := by
    subst x0
    split
    · exact (State.setSession_evolves h)
    · exact h
  exact (State.svcAnswer_evolves k1)

theorem State.sessMsg_evolves {s0 : State} {s : State} {type : Nat} {h' : SvcHead} {f : State → SessionSt → State} (h0 : Evolves s0 s) (h1 : ∀ b0 b1, Evolves s0 b0 → Evolves s0 (f b0 b1)) :
    Evolves s0 (State.sessMsg s type h' f) := by
  unfold State.sessMsg
  split
  · exact (State.svcAnswer_evolves h0)
  · split
    · exact (State.svcAnswer_evolves h0)
    · split
      · exact (State.svcAnswer_evolves (State.setSession_evolves h0))
      · exact (h1 _ _ h0)

theorem execSvcOpen_evolves {s0 : State} {h' : SvcHead} {body : List Byte} {ok : Bool} {s : State} (h : Evolves s0 s) :
    Ends s0 (execSvcOpen h' body ok s) := by
  unfold execSvcOpen
  refine Ends.next ?_
  refine State.svcMsg_evolves ?_ ?_
  · exact h
  · intro a4 k5
    split
    · split
      · exact (State.svcAnswer_evolves (State.setSession_evolves k5))
      · exact (State.svcAnswer_evolves k5)
    · split
      · exact (State.svcAnswer_evolves k5)
      · extract_lets x18 x19
        have k20 : Evolves s0 x19 := (State.sessionOpen_evolves k5)
        split
        · exact (State.sessAnswer_evolves k20)
        · exact (State.svcAnswer_evolves (State.sessionEnd_evolves k20))

theorem execSvcWrite_evolves {s0 : State} {h' : SvcHead} {body : List Byte} {ok : Bool} {s : State} (h : Evolves s0 s) :
    Ends s0 (execSvcWrite h' body ok s) := by
  unfold execSvcWrite
  refine Ends.next ?_
  refine State.svcMsg_evolves ?_ ?_
  · exact h
  · intro a10 k11
    refine State.sessMsg_evolves ?_ ?_
    · exact k11
    · intro a15 a16 k17
      extract_lets x18 x19 x20 x21
      have k22 : Evolves s0 x20 := (State.flashWrite_evolves k17)
      have k23 : Evolves s0 x21 := (State.setSession_evolves k22)
      split
      · exact (State.sessAnswer_evolves k17)
      · split
        · exact (State.svcAnswer_evolves (State.sessionEnd_evolves k17))
        · exact (State.sessAnswer_evolves k23)

theorem execSvcClose_evolves {s0 : State} {h' : SvcHead} {body : List Byte} {ok : Bool} {s : State} (h : Evolves s0 s) :
    Ends s0 (execSvcClose h' body ok s) := by
  unfold execSvcClose
  refine Ends.next ?_
  refine State.svcMsg_evolves ?_ ?_
  · exact h
  · intro a10 k11
    refine State.sessMsg_evolves ?_ ?_
    · exact k11
    · intro a15 a16 k17
      extract_lets x18
      split
      · exact (State.sessAnswer_evolves k17)
      · split
        · exact (State.svcAnswer_evolves (State.sessionClose_evolves k17))
        · exact (State.svcAnswer_evolves (State.sessionEnd_evolves k17))

theorem execSvcAbort_evolves {s0 : State} {h' : SvcHead} {body : List Byte} {s : State} (h : Evolves s0 s) :
    Ends s0 (execSvcAbort h' body s) := by
  unfold execSvcAbort
  exact Ends.next (State.svcMsg_evolves h (fun a0 k1 => (State.sessMsg_evolves k1 (fun a2 a3 k4 => (State.svcAnswer_evolves (State.sessionEnd_evolves k4))))))

theorem execSessionTimeout_evolves {s0 : State} {s : State} (h : Evolves s0 s) :
    Ends s0 (execSessionTimeout s) := by
  unfold execSessionTimeout
  split
  · split
    · exact Ends.next (State.sessionEnd_evolves h)
    · exact Ends.next h
  · exact Ends.next h

theorem execSvcActivate_evolves {s0 : State} {h' : SvcHead} {body : List Byte} {s : State} (h : Evolves s0 s) :
    Ends s0 (execSvcActivate h' body s) := by
  unfold execSvcActivate
  refine Ends.next ?_
  refine State.svcMsg_evolves ?_ ?_
  · exact h
  · intro a4 k5
    extract_lets x6 x7
    have k8 : Evolves s0 x7.2 := (State.imgRun_evolves (State.wr_evolves k5))
    split
    · exact (State.svcAnswer_evolves (State.imgEnd_evolves k8))
    · exact (State.svcAnswer_evolves k5)

theorem execSvcReset_evolves {s0 : State} {h' : SvcHead} {body : List Byte} {s : State} (h : Evolves s0 s) :
    Ends s0 (execSvcReset h' body s) := by
  unfold execSvcReset
  exact Ends.next (State.svcMsg_evolves h (fun a0 k1 => (State.chipReset_evolves (State.svcAnswer_evolves k1))))

theorem execSvcRecovery_evolves {s0 : State} {h' : SvcHead} {body : List Byte} {s : State} (h : Evolves s0 s) :
    Ends s0 (execSvcRecovery h' body s) := by
  unfold execSvcRecovery
  refine Ends.next ?_
  refine State.svcMsg_evolves ?_ ?_
  · exact h
  · intro a4 k5
    extract_lets x6
    have k7 : Evolves s0 x6 := (State.svcAnswer_evolves k5)
    split
    · exact (State.svcAnswer_evolves k5)
    · split
      · exact (State.chipReset_evolves (State.brecPut_evolves k7))
      · exact (State.svcAnswer_evolves k5)

theorem State.attestReply_evolves {s0 : State} {s : State} {h' : SvcHead} {part : Nat} {b : List Byte} (h : Evolves s0 s) :
    Evolves s0 (State.attestReply s h' part b) := by
  unfold State.attestReply
  exact (State.svcAnswer_evolves h)

theorem execSvcAttest_evolves {s0 : State} {h' : SvcHead} {body : List Byte} {s : State} (h : Evolves s0 s) :
    Ends s0 (execSvcAttest h' body s) := by
  unfold execSvcAttest
  refine Ends.next ?_
  refine State.svcMsg_evolves ?_ ?_
  · exact h
  · intro a4 k5
    extract_lets x6 x7 x8
    have k9 : Evolves s0 x8.1 := (State.reportMake_evolves k5)
    split
    · exact (State.svcAnswer_evolves (State.raise_evolves k5))
    · split
      · exact (State.svcAnswer_evolves k5)
      · split
        · exact (State.attestReply_evolves k5)
        · exact (State.attestReply_evolves k9)

theorem execNeighbourDiscoveryOrArp_evolves {s0 : State} {f : SvcFrame} {s : State} (h : Evolves s0 s) :
    Ends s0 (execNeighbourDiscoveryOrArp f s) := by
  unfold execNeighbourDiscoveryOrArp
  extract_lets x0
  have k1 : Evolves s0 x0 := (State.bump_evolves h)
  split
  · split
    · refine Ends.next ?_
      split
      · exact (State.emit_evolves h)
      · exact k1
    · extract_lets x9
      refine Ends.next ?_
      split
      · exact (State.emit_evolves h)
      · exact k1
    · exact Ends.next (State.svcAnswer_evolves (State.bump_evolves h))
    · exact Ends.next k1
  · exact Ends.next h

end Sys2Proof.Machine
end

