-- ==== Sys2Proof/Laws/Commands.lean ====
section
/-! SUPPORT. What a command comes to once its checks have passed, one lemma for each shared operation, and the fields an operation leaves
as they are: the lemmas a proof about a command cites before it looks at the command's own effect. -/

namespace Sys2Proof.Machine

set_option maxRecDepth 4000

/-! ## Time -/

theorem State.wt_of_time {s t : State} (h : t.time = s.time) : t.wt = s.wt := by
  simp [State.wt, State.dom, h]

theorem State.switchTo_ok {s : State} {d : Dom} (h1 : (s.wt : Int) - (s.dom d).value ≤ lsbSec) (h2 : -(lsbSec : Int) ≤ (s.wt : Int) - (s.dom d).value) :
    (s.switchTo d).time.active = d ∧ (s.switchTo d).wt = s.wt ∧ (∀ e, (s.switchTo d).dom e = s.dom e) ∧ (s.switchTo d).tabs = s.tabs ∧
    (s.switchTo d).hbm = s.hbm ∧ (s.switchTo d).flash = s.flash := by
  unfold State.switchTo
  dsimp only
  rw [if_neg (by omega)]
  refine ⟨by simp, ?_, fun e => by cases e <;> simp [State.dom, TimeSt.dom], by simp, by simp, by simp⟩
  rw [State.wt_of_time (State.raise_time _ _ _ _)]
  cases d <;> simp [State.wt, State.dom, TimeSt.dom] <;> omega

theorem State.wtCtrlWrite_cmd (s : State) (m : Master) (v k : Nat) (k13 : 1 ≤ k ∧ k ≤ 3) (hk : natField v 0 2 = k) (h1 : ¬(k = 1 ∧ s.time.wtValid = false))
    (hw : s.time.wtValid = true) (hv : natField v 16 1 = s.fld (A.wt R.TIME_WT_CTRL) 16 1) :
    let w := BitVec.ofNat 32 (natField v 2 14 * 4 + natField v 16 1 * 65536)
    s.wtCtrlWrite (some m) v = (match k with
    | 1 => { s.wr (A.wt R.TIME_WT_CTRL) w with time := { s.time with switchSlot := some s.time.nextSlot } }
    | 2 => { s.wr (A.wt R.TIME_WT_CTRL) w with time := { s.time with switchAt := some (tvOf
        (((s.wr (A.wt R.TIME_WT_CTRL) w).rd (A.wt R.TIME_WT_SWAT_SEC_LO)).toNat +
          (s.wr (A.wt R.TIME_WT_CTRL) w).fld (A.wt R.TIME_WT_SWAT_SEC_HI) 0 16 * 2 ^ 32)
        ((s.wr (A.wt R.TIME_WT_CTRL) w).rd (A.wt R.TIME_WT_SWAT_NS)).toNat), switchFrom := s.time.nextSlot } }
    | 3 => { s.wr (A.wt R.TIME_WT_CTRL) w with time := { s.time with switchSlot := none, switchAt := none } }
    | _ => s.wr (A.wt R.TIME_WT_CTRL) w) := by
  intro w
  unfold State.wtCtrlWrite
  simp only [hk]
  rw [if_neg h1]
  have e : (if s.rwlLocked = true then s.fld (A.wt R.TIME_WT_CTRL) 16 1 else natField v 16 1) = natField v 16 1 := by
    rw [hv]; simp
  simp only [e, if_true, State.wr_time, hw]
  by_cases k1 : k = 1
  · subst k1; rfl
  by_cases k2 : k = 2
  · subst k2; rfl
  by_cases k3 : k = 3
  · subst k3; rfl
  omega

theorem tvMod_pos : (0 : Int) < tvMod := by decide

theorem State.tickDom_value {s : State} {d : Dom} (hr : s.rgnRuns 1 = true) (h1 : (s.dom d).stepNext = none) (h2 : (s.dom d).freeNext = false) :
    ∃ x : Domain, s.tickDom d = (s.setDom d x).checkValid d ∧ (x.value : Int) = ((s.dom d).value + (s.dom d).base + (match (s.dom d).state with
          | .free => 0
          | .lock => (s.dom d).freq
          | .snow => (snowStep (s.dom d).iHold (s.dom d).target (s.flim d)
              (rateLsb (s.domF d R.TIME_DOM_SNOW 0 18) (s.dom d).base)).1)) % tvMod := by
  have hp := tvMod_pos
  unfold State.tickDom
  simp only [hr, h2, Bool.and_false, Bool.false_eq_true, if_false, if_true, Bool.not_true]
  cases hx : (s.dom d).state <;> simp only [h1] <;> refine ⟨_, rfl, ?_⟩ <;> simp only <;> rw [Int.toNat_of_nonneg (Int.emod_nonneg _ (by omega))]

theorem State.raiseIf_ctlOnly (s : State) (c : Bool) (r b k : Nat) : CtlOnly s (s.raiseIf c r b k) := by
  unfold State.raiseIf
  split
  · exact State.raise_ctlOnly _ _ _ _
  · exact CtlOnly.refl _

theorem State.tickCont_frame (s : State) : ∃ c, CtlOnly { s with time := { s.time with cont := c } } s.tickCont := by
  unfold State.tickCont
  split
  · exact ⟨s.time.cont, CtlOnly.refl _⟩
  · exact ⟨_, State.raiseIf_ctlOnly _ _ _ _ _⟩

/-- Nothing but the pins, their schedule and what they emitted differs. -/
def PinsOnly (s t : State) : Prop :=
  ∃ a b c o, t = { s with time := { s.time with ppsNext := a, ppsPin := b, ppsPulse := c }, out := o }

theorem PinsOnly.refl (s : State) : PinsOnly s s := ⟨s.time.ppsNext, s.time.ppsPin, s.time.ppsPulse, s.out, rfl⟩

theorem PinsOnly.trans {s t u : State} (h : PinsOnly s t) (g : PinsOnly t u) : PinsOnly s u := by
  obtain ⟨a, b, c, o, rfl⟩ := h
  obtain ⟨a', b', c', o', rfl⟩ := g
  exact ⟨a', b', c', o', rfl⟩

theorem State.ppsArm_pins (s : State) (n : Nat) : PinsOnly s (s.ppsArm n) := ⟨_, s.time.ppsPin, s.time.ppsPulse, s.out, rfl⟩

theorem State.setPps_pins (s : State) (n : Nat) (v : Bool) (w : Nat) : PinsOnly s (s.setPps n v w) :=
  ⟨s.time.ppsNext, _, s.time.ppsPulse, _, rfl⟩

theorem State.ppsSync_pins (s : State) (n : Nat) : PinsOnly s (s.ppsSync n) := by
  have key (u : State) (h : PinsOnly s u) :
      PinsOnly s (if u.time.ppsPin.getD n false = u.ppsLevel n then u
        else u.setPps n (u.ppsLevel n) (u.srcTime (u.fld (ppsCtrlA n) 2 2))) := by
    split
    · exact h
    · exact h.trans (State.setPps_pins _ _ _ _)
  refine key _ ?_
  split
  · exact PinsOnly.refl s
  · exact ⟨s.time.ppsNext, s.time.ppsPin, _, s.out, rfl⟩

theorem State.ppsArmAll_pins (s : State) : PinsOnly s s.ppsArmAll :=
  (((s.ppsArm_pins 0).trans (State.ppsArm_pins _ 1)).trans (State.ppsArm_pins _ 2)).trans (State.ppsArm_pins _ 3)

theorem State.ppsSyncAll_pins (s : State) : PinsOnly s s.ppsSyncAll :=
  (((s.ppsSync_pins 0).trans (State.ppsSync_pins _ 1)).trans (State.ppsSync_pins _ 2)).trans (State.ppsSync_pins _ 3)

theorem State.secStart_frame (s : State) : ∃ l f, s.secStart = { s with line := l, fab := f } := ⟨_, _, rfl⟩

/-- WT_VALID changes working time, the bases of the per-second counts, the pins and the causes, and no domain. -/
theorem State.checkWtValid_frame (s : State) : ∃ t l f o, t.ticks = s.time.ticks ∧ t.cobalt = s.time.cobalt ∧ t.umber = s.time.umber ∧
    CtlOnly { s with time := t, line := l, fab := f, out := o } s.checkWtValid := by
  unfold State.checkWtValid
  split
  · dsimp only
    generalize hv : ({ s with time := _ } : State) = v
    have e0 : ∃ t : TimeSt, v = { s with time := t } ∧ t.ticks = s.time.ticks ∧ t.cobalt = s.time.cobalt ∧ t.umber = s.time.umber :=
      ⟨_, hv.symm, rfl, rfl, rfl⟩
    clear hv
    obtain ⟨t, rfl, h1, h2, h3⟩ := e0
    obtain ⟨l, f, e⟩ := State.secStart_frame { s with time := t }
    obtain ⟨a, b, c, o, e1⟩ := (State.ppsArmAll_pins (State.secStart { s with time := t })).trans (State.ppsSyncAll_pins _)
    obtain ⟨r, k, e2⟩ := State.raise_ctlOnly (State.secStart { s with time := t }).ppsArmAll.ppsSyncAll 1 0 4
    rw [e2, e1, e]
    exact ⟨{ t with ppsNext := a, ppsPin := b, ppsPulse := c }, l, f, o, h1, h2, h3, r, k, rfl⟩
  · exact ⟨s.time, s.line, s.fab, s.out, rfl, rfl, rfl, CtlOnly.refl _⟩

theorem State.setValid_frame (s : State) (d : Dom) : ∃ t l f o, t.ticks = s.time.ticks ∧
    (∃ v, t.dom d = { s.dom d with valid := v }) ∧ (∀ e, e ≠ d → t.dom e = s.dom e) ∧
    CtlOnly { s with time := t, line := l, fab := f, out := o } (s.setValid d) := by
  unfold State.setValid
  split
  · obtain ⟨t, l, f, o, a, b, c, e⟩ := State.checkWtValid_frame s
    exact ⟨t, l, f, o, a, ⟨(s.dom d).valid, by cases d <;> simp [TimeSt.dom, State.dom, b, c]⟩,
      fun e' _ => by cases e' <;> simp [TimeSt.dom, State.dom, b, c], e⟩
  · obtain ⟨t, l, f, o, a, b, c, e⟩ := State.checkWtValid_frame ((s.setDom d { s.dom d with valid := true }).domRaise d 2)
    unfold State.domRaise at *
    simp at a b c
    refine ⟨t, l, f, o, a, ⟨true, by cases d <;> simp [TimeSt.dom, State.dom, b, c, State.setDom, TimeSt.setDom]⟩,
      fun e' h => by cases e' <;> cases d <;> simp_all [TimeSt.dom, State.dom, State.setDom, TimeSt.setDom], ?_⟩
    refine CtlOnly.trans ?_ e
    obtain ⟨r, k, e2⟩ := State.raise_ctlOnly (s.setDom d { s.dom d with valid := true }) 1 (domBlock d) 2
    rw [e2]
    exact ⟨r, k, rfl⟩

/-- Looking whether a domain has become VALID touches no domain's value. -/
theorem State.checkValid_frame (s : State) (d : Dom) : ∃ t l f o, t.ticks = s.time.ticks ∧
    (∃ v, t.dom d = { s.dom d with valid := v }) ∧ (∀ e, e ≠ d → t.dom e = s.dom e) ∧
    CtlOnly { s with time := t, line := l, fab := f, out := o } (s.checkValid d) := by
  unfold State.checkValid
  split
  · exact s.setValid_frame d
  · exact ⟨s.time, s.line, s.fab, s.out, rfl, ⟨(s.dom d).valid, rfl⟩, fun _ _ => rfl, CtlOnly.refl _⟩

theorem State.tickRef_frame (s : State) : ∃ r, s.tickRef = { s with time := { s.time with refTick := r } } := by
  unfold State.tickRef
  split
  · exact ⟨_, rfl⟩
  · exact ⟨s.time.refTick, rfl⟩

theorem State.domF_bump {s : State} (d : Dom) (off lo w a n : Nat) (hne : domA d off ≠ a) :
    (s.bump a n).domF d off lo w = s.domF d off lo w := by
  unfold State.bump
  split
  · rfl
  · unfold State.domF State.fld
    rw [State.rd_wr_ne hne]

/-! ## The register window, complement pairs and table windows -/

theorem State.winPlain_eq {s u : State} {r b w v : Nat} {table : WinTable} (ht : s.tableOf r b (natField v 4 8) = some table)
    (h1 : s.rbit (winA r b w + 12) 0 = false) (h2 : s.glideQueues = false) (hu : u = s.wr (winA r b w) (BitVec.ofNat 32 (natField v 4 11 * 16)))
    (hc : v % 16 = 1 ∨ v % 16 = 2 ∨ v % 16 = 3 ∨ v % 16 = 8) :
    s.winPlain r b w v = (u.winRun (winA r b w) (v % 16) table).2.winEnd (winA r b w) (u.winRun (winA r b w) (v % 16) table).1 table.bytes := by
  unfold State.winPlain
  simp only [ht]
  unfold State.winCmd State.winStart
  simp only [h1, h2, Bool.false_and, Bool.false_eq_true, if_false]
  rw [if_pos hc, ← hu]

theorem withCmd_mod (v : Word) (c : Nat) (h : c < 16) : withCmd v c % 16 = c := by unfold withCmd; omega

theorem natField_withCmd (v : Word) (c : Nat) (h : c < 16) (w : Nat) (lo : Nat) (hl : 4 ≤ lo) : natField (withCmd v c) lo w = natField v.toNat lo w := by
  unfold withCmd natField
  have : (v.toNat / 16 * 16 + c) / 2 ^ lo = v.toNat / 2 ^ lo := by
    obtain ⟨k, rfl⟩ : ∃ k, lo = 4 + k := ⟨lo - 4, by omega⟩
    rw [Nat.pow_add, ← Nat.div_div_eq_div_mul, ← Nat.div_div_eq_div_mul]
    congr 1
    omega
  rw [this]

theorem State.winCmd_eq {s u : State} {a b : Nat} (v : Word) (c : Nat) {run} (hc : c < 16) (h1 : s.rbit (a + 12) 0 = false) (h2 : s.glideQueues = false)
    (hu : u = s.wr a (BitVec.ofNat 32 (natField v.toNat 4 11 * 16))) : s.winCmd a (withCmd v c) b run = (run u).2.winEnd a (run u).1 b := by
  unfold State.winCmd State.winStart
  simp only [h1, h2, Bool.false_and, Bool.false_eq_true, if_false]
  rw [natField_withCmd v c hc 11 4 (by omega), ← hu]

theorem State.winStart_eq {s u : State} {a : Nat} (v : Word) (c : Nat) {run} (hc : c < 16) (h1 : s.rbit (a + 12) 0 = false) (h2 : s.glideQueues = false)
    (hu : u = s.wr a (BitVec.ofNat 32 (natField v.toNat 4 11 * 16))) : s.winStart a (withCmd v c) run = run u := by
  unfold State.winStart
  simp only [h1, h2, Bool.false_and, Bool.false_eq_true, if_false]
  rw [natField_withCmd v c hc 11 4 (by omega), ← hu]

theorem State.snapPut_frame (t : State) (base d o : Nat) (l : List SnapSection) : ∃ m, t.snapPut base d o l = { t with hbm := m } := by
  have key (f : Nat → Nat) (a n : Nat) (t : State) : ∃ m, putCounts f a n t = { t with hbm := m } := by
    induction n generalizing t with
    | zero => exact ⟨t.hbm, rfl⟩
    | succ n ih => obtain ⟨m, e⟩ := ih (t.hbmWrite (a + 8 * n) (leBytes 8 (f n))); exact ⟨m, e⟩
  induction l generalizing t d o with
  | nil => exact ⟨t.hbm, rfl⟩
  | cons x l ih =>
    unfold State.snapPut
    obtain ⟨m, e⟩ := key (t.snapValue x) (base + o) (t.snapCount x) (t.hbmWrite (base + d) (t.snapEntry x o))
    obtain ⟨m', e'⟩ := ih (putCounts (t.snapValue x) (base + o) (t.snapCount x) (t.hbmWrite (base + d) (t.snapEntry x o))) (d + 32) (o + 8 * t.snapCount x)
    dsimp only
    rw [e', e]; exact ⟨m', rfl⟩

theorem State.emCfg_wr_win {s u : State} {t : Nat} {x : Word} (ht : t < 64) (hu : u = s.wr emWinA x) : u.emCfg t = s.emCfg t := by
  subst hu
  unfold State.emCfg
  have : emA (R.TBL_EM_CFG + 4 * t) ≠ emWinA := by
    unfold emA emWinA winA regAddr R.TBL_EM_CFG; omega
  unfold State.rd State.wr
  rw [spGet_spPut_ne _ this]

/-! ## Line ports and the service port -/

theorem State.portState_wr {s : State} (p : Fin 64) (v : Word) :
    (s.wr (portA p R.LINE_PORT_CFG) v).portState p = s.portState p := by
  unfold State.portState State.fld
  rw [State.rd_wr_ne]
  unfold portA A.oct regAddr; simp only [R.LINE_PORT_CFG, R.LINE_PORT_STAT]; omega

theorem State.foldWr_zero {s : State} (f : Nat → Nat) (n : Nat) :
    let t := (List.range n).foldl (fun s i => s.wr (f i) 0) s
    (∀ i, i < n → t.rd (f i) = 0) ∧ ∃ l, t = { s with regs := l } := by
  intro t
  induction n with
  | zero => exact ⟨fun i h => absurd h (Nat.not_lt_zero _), s.regs, rfl⟩
  | succ n ih =>
    obtain ⟨z, l, e⟩ := ih
    have e' : t = ((List.range n).foldl (fun s i => s.wr (f i) 0) s).wr (f n) 0 := by
      simp only [t, List.range_succ, List.foldl_append]; rfl
    rw [e']
    refine ⟨fun i hi => ?_, ?_⟩
    · rw [State.rd_wr]
      split
      · rfl
      · rename_i hne
        have : i ≠ n := fun h => hne (by rw [h])
        exact z i (by omega)
    · rw [e]; exact ⟨_, rfl⟩

theorem State.wr_port (s : State) (a v p) : (s.wr a v).port p = s.port p := rfl

/-! ## Pipelines -/

theorem State.parseMeet_of_own {s : State} {i e : Nat} (h : s.foreign (s.engine i e).pkt = false) : s.parseMeet i e = s := by
  unfold State.parseMeet
  simp [h]

theorem State.peStep_ok {s u : State} {i e opc : Nat} {f} {x y : Engine} {w : Nat} (hu : u = s.parseMeet i e) (hx : x = u.engine i e)
    (h1 : x.busy = true) (h2 : u.rgnRuns (pipeRegion i) = true) (h3 : x.count < 96) (hw : w = u.parseWord i e) (h4 : natField w 27 5 = opc)
    (h5 : opc < 0x0F) (h6 : f w { x with pc := (x.pc + 1) % 2048 } = some y) :
    s.parseStep i e opc f = (u.setEngine i e { y with count := x.count + 1 }).bump64 (A.ip i R.PIPE_PARSE_INSTR) := by
  unfold State.parseStep
  dsimp only
  rw [← hu, ← hx, ← hw]
  rw [if_neg (by simp [h1, h2]), if_neg (by omega), if_neg (by omega), if_neg (by simp [h4]), h6]

theorem State.peStep_bad {s u : State} {i e opc : Nat} {f} {x : Engine} {w : Nat} (hu : u = s.parseMeet i e) (hx : x = u.engine i e)
    (h1 : x.busy = true) (h2 : u.rgnRuns (pipeRegion i) = true) (h3 : x.count < 96) (hw : w = u.parseWord i e) (h4 : natField w 27 5 = opc)
    (h5 : opc < 0x0F) (h6 : f w { x with pc := (x.pc + 1) % 2048 } = none) :
    s.parseStep i e opc f = u.takeExc i e 2 := by
  unfold State.parseStep
  dsimp only
  rw [← hu, ← hx, ← hw]
  rw [if_neg (by simp [h1, h2]), if_neg (by omega), if_neg (by omega), if_neg (by simp [h4]), h6]

theorem State.bump64_engine (s : State) (a n i e) : (s.bump64 a n).engine i e = s.engine i e := by
  unfold State.engine State.pipe; rw [State.bump64_pipes]

/-! ## Sparse stores, table listings and the search of an associative array -/

theorem spWfFrom_rising {α} [DecidableEq α] {d : Nat → α} : ∀ {l : List (Nat × α)} {lo}, spWfFrom d lo l = true → (∀ p ∈ l, lo ≤ p.1) ∧ l.Pairwise (fun p q => p.1 < q.1)
  | [], _, _ => ⟨by simp, List.Pairwise.nil⟩
  | (k, v) :: r, lo, h => by
    simp only [spWfFrom, Bool.and_eq_true, decide_eq_true_eq] at h
    have := spWfFrom_rising h.2
    refine ⟨?_, List.Pairwise.cons (fun q hq => by have := this.1 q hq; omega) this.2⟩
    intro p hp
    rcases List.mem_cons.1 hp with rfl | hp
    · exact h.1.1
    · have := this.1 p hp; omega

theorem mem_of_spGet {α} [DecidableEq α] {d : Nat → α} : ∀ {l : List (Nat × α)} {lo k}, spWfFrom d lo l = true → (spGet d l k ≠ d k) → (k, spGet d l k) ∈ l
  | [], _, _, _, h => by simp [spGet] at h
  | (j, v) :: r, lo, k, h, hn => by
    simp only [spWfFrom, Bool.and_eq_true, decide_eq_true_eq] at h
    unfold spGet at hn ⊢
    by_cases e : k = j
    · subst e; simp
    · simp only [e, if_false] at hn ⊢
      exact List.mem_cons_of_mem _ (mem_of_spGet h.2 (by simpa using hn))

theorem spGet_of_mem {α} [DecidableEq α] {d : Nat → α} : ∀ {l : List (Nat × α)} {lo k v}, spWfFrom d lo l = true → (k, v) ∈ l → spGet d l k = v
  | (j, w) :: r, lo, k, v, h, hm => by
    have hp := (spWfFrom_rising h).2
    simp only [spWfFrom, Bool.and_eq_true, decide_eq_true_eq] at h
    rcases List.mem_cons.1 hm with e | e
    · cases e; unfold spGet; simp
    · have := (List.pairwise_cons.1 hp).1 _ e
      unfold spGet
      rw [if_neg (by omega)]
      exact spGet_of_mem h.2 e

theorem tabKey_add {r b t i : Nat} : tabKey r b t 0 + i = tabKey r b t i := by unfold tabKey; omega

theorem State.mem_tabListed {s : State} (h : s.storesWf = true) {r b t i : Nat} (hi : i < 2 ^ 40) (hn : s.tabN r b t i ≠ 0) :
    ∃ e, (i, e) ∈ s.tabListed r b t := by
  have hw := State.storesWf_tabs h
  refine ⟨spGet (fun _ => 0) s.tabs (tabKey r b t i), ?_⟩
  unfold State.tabListed
  dsimp only
  have hm := mem_of_spGet (k := tabKey r b t i) hw (by
    intro e; apply hn; unfold State.tabN State.tab; rw [e]; rfl)
  refine List.mem_map.2 ⟨(tabKey r b t i, _), List.mem_filter.2 ⟨hm, ?_⟩, ?_⟩
  · simp only [Bool.and_eq_true, decide_eq_true_eq]
    have := @tabKey_add r b t i; omega
  · simp only [Prod.mk.injEq, and_true]; have := @tabKey_add r b t i; omega

theorem State.tabListed_rising {s : State} (h : s.storesWf = true) (r b t : Nat) : (s.tabListed r b t).Pairwise (fun p q => p.1 < q.1) := by
  have hw := (spWfFrom_rising (State.storesWf_tabs h)).2
  unfold State.tabListed
  dsimp only
  rw [List.pairwise_map]
  have h2 := hw.filter (fun p => decide (tabKey r b t 0 ≤ p.1) && decide (p.1 < tabKey r b t 0 + 2 ^ 40))
  refine List.Pairwise.imp_of_mem ?_ h2
  intro p q hp hq hlt
  have := (List.mem_filter.1 hp).2
  simp only [Bool.and_eq_true, decide_eq_true_eq] at this
  show p.1 - _ < q.1 - _
  omega

theorem State.partEntries_rising {s : State} (h : s.storesWf = true) (a : ArrayRef) (p : Nat) : (s.partEntries a p).Pairwise (· < ·) := by
  unfold State.partEntries
  rw [List.pairwise_map]
  exact (State.tabListed_rising h _ _ _).filter _

theorem State.ascBest_spec {s : State} {a : ArrayRef} : ∀ {l : List Nat}, l.Pairwise (· < ·) → ∀ w, s.ascBest a l = some w →
    w ∈ l ∧ ∀ i ∈ l, s.ascPrio a i < s.ascPrio a w ∨ (s.ascPrio a i = s.ascPrio a w ∧ w ≤ i)
  | [], _, w, h => by simp [State.ascBest] at h
  | i :: r, hp, w, h => by
    have hr := List.pairwise_cons.1 hp
    unfold State.ascBest at h
    cases hb : s.ascBest a r with
    | none =>
      rw [hb] at h
      have : r = [] := by
        cases r with
        | nil => rfl
        | cons j q => unfold State.ascBest at hb; split at hb <;> (try split at hb) <;> cases hb
      simp at h; subst h; subst this; simp
    | some j =>
      rw [hb] at h
      have hj := State.ascBest_spec hr.2 j hb
      dsimp only at h
      split at h
      · cases h
        refine ⟨List.mem_cons_of_mem _ hj.1, fun k hk => ?_⟩
        rcases List.mem_cons.1 hk with rfl | hk
        · left; assumption
        · exact hj.2 k hk
      · cases h
        refine ⟨by simp, fun k hk => ?_⟩
        rcases List.mem_cons.1 hk with rfl | hk
        · right; simp
        · have := hr.1 k hk
          have := hj.2 k hk
          omega

theorem State.ascBest_some {s : State} {a : ArrayRef} {l : List Nat} {w} (h : w ∈ l) : ∃ j, s.ascBest a l = some j := by
  cases l with
  | nil => simp at h
  | cons i r => unfold State.ascBest; split <;> (try split) <;> exact ⟨_, rfl⟩

theorem and_mask_iff {key k m : Nat} (h : k &&& m = k) : (key &&& m) = k ↔ ∀ b, m.testBit b = true → key.testBit b = k.testBit b := by
  constructor
  · intro e b hb
    rw [← e, Nat.testBit_and, hb, Bool.and_true]
  · intro f
    apply Nat.eq_of_testBit_eq
    intro b
    have hk : k.testBit b = (k.testBit b && m.testBit b) := by rw [← Nat.testBit_and, h]
    rw [Nat.testBit_and]
    cases hb : m.testBit b
    · rw [hk, hb]; simp
    · rw [f b hb]; simp

theorem State.arrTab_of_tabs {s u : State} (h : u.tabs = s.tabs) (a t i) : u.arrTab a t i = s.arrTab a t i := by
  unfold State.arrTab State.tabN State.tab; rw [h]

theorem State.ascTie_tabs (s : State) (a : ArrayRef) (w : Nat) (l) : (s.ascTie a w l).tabs = s.tabs := by
    unfold State.ascTie
    split
    · rfl
    · dsimp only; split
      · rw [State.raise_tabs, State.wr_tabs, State.bump_tabs]
      · rw [State.bump_tabs]

/-! ## Versions -/

theorem State.verOther_lt (s : State) : s.verOther < 4 := by
  unfold State.verOther State.fld natField; exact Nat.mod_lt _ (by decide)

theorem State.verNoSeal_true {s : State} (h : s.time.wtValid = false ∨ s.verOther = 1 ∨ s.verOther = 2) : s.verNoSeal = true := by
  unfold State.verNoSeal; rcases h with h | h | h <;> simp [h]

theorem State.verNoSeal_false {s : State} (h : s.time.wtValid = true) (h2 : s.verOther = 0) : s.verNoSeal = false := by
  unfold State.verNoSeal; simp [h, h2]

theorem State.verLocked_sealed {s : State} (h : s.devRunning = true) (h2 : s.verOther = 1) : s.verLocked = 3 := by
  unfold State.verLocked; rw [if_pos h, h2, if_neg (by decide)]; unfold verBit; cases s.verOdd <;> rfl

theorem lt_next_slot (w : Nat) : w < (slotOf w + 1) * lsbSlot := by
  unfold slotOf
  have h : 0 < lsbSlot := by unfold lsbSlot; omega
  have := Nat.mod_lt w h
  have := Nat.div_add_mod w lsbSlot
  rw [Nat.add_mul, Nat.mul_comm]; omega

theorem verStat_fields (n b v : Nat) (hn : n < 2 ^ 32) (hb : b < 2) : ∃ x y z : Nat, x = natSetField n 0 1 b % 2 ^ 32 ∧ y = natSetField x 1 2 2 % 2 ^ 32 ∧
    z = natSetField y 16 16 v % 2 ^ 32 ∧ z % 2 = b ∧ z / 2 % 4 = 2 := by
  refine ⟨_, _, _, rfl, rfl, rfl, ?_, ?_⟩ <;> (unfold natSetField natField; omega)

theorem State.verStat_after {s : State} (b : Bool) (v : Nat) :
    ((((s.setRbit verStatA 0 b).setVerOther 2).setFld verStatA 16 16 v).rbit verStatA 0 = b) ∧
    (((s.setRbit verStatA 0 b).setVerOther 2).setFld verStatA 16 16 v).verOther = 2 := by
  obtain ⟨x, y, z, hx, hy, hz, h1, h2⟩ := verStat_fields (s.rd verStatA).toNat (if b then 1 else 0) v (s.rd verStatA).isLt (by cases b <;> decide)
  have e1 : ((s.setRbit verStatA 0 b).rd verStatA).toNat = x := by
    unfold State.setRbit State.setFld; rw [State.rd_wr_self, BitVec.toNat_ofNat, hx]
  have e2 : (((s.setRbit verStatA 0 b).setVerOther 2).rd verStatA).toNat = y := by
    unfold State.setVerOther State.setFld; rw [State.rd_wr_self, BitVec.toNat_ofNat, e1, hy]
  have e3 : ((((s.setRbit verStatA 0 b).setVerOther 2).setFld verStatA 16 16 v).rd verStatA).toNat = z := by
    unfold State.setFld; rw [State.rd_wr_self, BitVec.toNat_ofNat, e2, hz]
  constructor
  · unfold State.rbit; rw [e3]; unfold natBit; rw [Nat.pow_zero, Nat.div_one, h1]; cases b <;> rfl
  · unfold State.verOther State.fld; rw [e3]; unfold natField; rw [Nat.pow_one]; exact h2

theorem State.verStat_raise {s : State} (b : Bool) (v : Nat) (w : Word) (u : State)
    (hu : u.regs = ((((s.setRbit verStatA 0 b).setVerOther 2).setFld verStatA 16 16 v).wr (A.ver R.SYS_VER_SEQ) w).regs) :
    (u.verRaise 0).verOdd = b ∧ (u.verRaise 0).verOther = 2 := by
  have er : (u.verRaise 0).rd verStatA = ((((s.setRbit verStatA 0 b).setVerOther 2).setFld verStatA 16 16 v)).rd verStatA := by
    unfold State.verRaise
    rw [State.rd_raise (by decide) (by decide), State.rd_congr hu, State.rd_wr_ne (by decide)]
  have := State.verStat_after (s := s) b v
  constructor
  · unfold State.verOdd State.rbit; rw [er]; exact this.1
  · unfold State.verOther State.fld; rw [er]; exact this.2

/-! ## Buffer, ciphers, threads, HBM -/

theorem State.asPort_core {s : State} {t : Fin 384} {a n w f} (h : s.accessCheck (.core t) a n false w = .ok) : s.asPort (.core t) a n w f = f t.val s := by
  unfold State.asPort; rw [h]

theorem memBytes_length (d) (m : List Host.Cell) (a n : Nat) : (memBytes d m a n).length = n := by
  induction n generalizing a with
  | zero => rfl
  | succ n ih => simp [memBytes, ih]

theorem State.hbmBytes_length (s : State) (a n : Nat) : (s.hbmBytes a n).length = n := by
  unfold State.hbmBytes; exact memBytes_length _ _ _ _

theorem State.pmuCmd_ok {s : State} {m : Master} {r : Nat} (c : Nat) (h : s.mayWrite m (pmuA r R.CPU_PMU_CTRL)) : s.pmuCmd m r c = s.pmuCtrl r c := by
  unfold State.pmuCmd; rw [State.asWrite_ok h]

theorem State.rd64_wr64 {s : State} (a v : Nat) (hv : v < 2 ^ 64) : (s.wr64 a v).rd64 a = v := by
  unfold State.wr64 State.rd64
  rw [State.rd_wr_ne (by omega), State.rd_wr_self, State.rd_wr_self, BitVec.toNat_ofNat, BitVec.toNat_ofNat]
  omega

theorem State.setX_regs (s : State) (t rd : Nat) (v) : (s.setX t rd v).regs = s.regs := by
  unfold State.setX; split <;> rfl

theorem State.pmuCount_regs (s : State) (t e : Nat) : (s.pmuCount t e).regs = s.regs := by
  unfold State.pmuCount; split <;> rfl

theorem State.evPend_of_regs {s u : State} (t : Nat) (h : s.regs = u.regs) : s.evPend t = u.evPend t := by
  unfold State.evPend State.rd64 State.rd; rw [h]

theorem State.ctxRun_ok {s : State} {m : Master} {r : Nat} (c : Nat) (h : s.mayWrite m (ctxA r R.CPU_CTX_CMD)) :
    s.ctxRun m r c = if ctxMay m r then s.ctxCmd r c else s.accessRefused m (ctxA r R.CPU_CTX_CMD) .denied := by
  unfold State.ctxRun State.ctxWrite; rw [State.asWrite_ok h]

theorem thrHold_fold (s : State) (t : Nat) (l : List Nat) (f : State → Nat → StageSlot → State) (h : ∀ i ∈ l, (s.thr t).stage.getD i none = none) :
    l.foldl (fun s i => match (s.thr t).stage.getD i none with | some x => f s i x | none => s) s = s := by
  induction l with
  | nil => rfl
  | cons i l ih =>
    simp only [List.foldl_cons, h i (List.mem_cons_self ..)]
    exact ih (fun j hj => h j (List.mem_cons_of_mem _ hj))

theorem rasCmd_rank (v c : Nat) (h : c < 4) : natField (natSetField v 0 2 c) 8 7 = natField v 8 7 := by
  unfold natSetField natField
  simp only [Nat.pow_zero, Nat.div_one, Nat.mul_one]
  have : c % 2 ^ 2 = c := by omega
  rw [this, show (v - v % 2 ^ 2 + c) / 2 ^ 8 = v / 2 ^ 8 by omega]

theorem rasCmd_code (v c : Nat) (h : c < 4) : natSetField v 0 2 c % 4 = c := by
  unfold natSetField natField
  simp only [Nat.pow_zero, Nat.div_one, Nat.mul_one]
  omega

/-! ## Regions and the fail-safe -/

theorem State.asRgnReset_ok {s : State} {m : Master} {r v : Nat} (h : s.mayWriteCp m (rgnResetA r)) (hv : v < 4) :
    s.asRgnReset m r v = if s.rgnCmdRefused r v then s else s.rgnCmd r v := by
  unfold State.asRgnReset
  rw [State.asCpWrite_ok h (by omega) (by omega) (by rcases (show v = 0 ∨ v = 1 ∨ v = 2 ∨ v = 3 by omega) with h | h | h | h <;> subst h <;> rfl)]
  unfold State.rgnResetWrite
  rfl

theorem State.ppsLow_flt (s : State) (n : Nat) : (s.ppsLow n).flt = s.flt := by unfold State.ppsLow; split <;> rfl

theorem State.txDisable_flt (s : State) (n : Nat) : (s.txDisable n).flt = s.flt := by unfold State.txDisable; split <;> rfl

theorem foldl_flt (f : State → Nat → State) (h : ∀ s n, (f s n).flt = s.flt) (l : List Nat) (s : State) : (l.foldl f s).flt = s.flt := by
  induction l generalizing s with
  | nil => rfl
  | cons a l ih => rw [List.foldl_cons, ih, h]

theorem State.flashErase_flt (s : State) (a n : Nat) : (s.flashErase a n).flt = s.flt := rfl

theorem State.faultWrite_flt (s : State) (a b c d e : Nat) : (s.faultWrite a b c d e).flt = s.flt := rfl

theorem State.tripAssert_flt (s : State) : s.tripAssert.flt = s.flt := rfl

theorem State.chipFatal_failsafe {s : State} (h : s.flt.failsafe = none) (code : Nat) : (s.chipFatal code).flt.failsafe =
    some (code, if s.time.wtValid then s.wt else 0, s.gstat, (s.rd (A.rgn R.SYS_RGN_FATAL)).toNat) := by
  unfold State.chipFatal
  rw [h]
  dsimp only
  rw [if_neg (by simp)]
  have key (x : State) : (if code = 4 then x.tripAssert else x).flt = x.flt := by split <;> rfl
  rw [key]
  rw [show ∀ (x : State) a b c, (x.setRbit a b c).flt = x.flt from fun _ _ _ _ => rfl, State.faultWrite_flt, foldl_flt _ State.txDisable_flt, foldl_flt _ State.ppsLow_flt]
  rfl

theorem State.chipFatal_trip {s : State} (h : s.flt.failsafe = none) : (s.chipFatal (chipCode .thermalTrip)).therm.tripLow = true := by
  unfold State.chipFatal
  rw [h]
  dsimp only
  rw [if_neg (by simp), if_pos (by rfl)]
  rfl

theorem State.blockStrike_eq {u : State} {r b k : Nat} {old : List (Nat × Nat)} (hk : k = r * 64 + b)
    (ho : old = u.flt.blockFatals.filter (fun p => decide (u.time.ticks < p.2 + ticksPerSec))) :
    u.blockStrike r b = if 2 ≤ (old.filter (fun p => p.1 == k)).length then
      State.regionFatal { u with flt := { u.flt with blockFatals := (k, u.time.ticks) :: old } } r b 2
    else if r = 0 ∨ u.rbit (policyA r) 2 = true then { u with flt := { u.flt with
      blockFatals := (k, u.time.ticks) :: old
      blockAuto := if u.flt.blockAuto.contains k then u.flt.blockAuto else u.flt.blockAuto ++ [k] } }
    else { u with flt := { u.flt with blockFatals := (k, u.time.ticks) :: old } } := by
  subst hk
  unfold State.blockStrike
  generalize ticksPerSec = z at *
  extract_lets k2 old2 f3 s3
  have e : old = old2 := ho
  subst e
  by_cases c : 2 ≤ (old2.filter (fun p => p.1 == r * 64 + b)).length
  · exact (if_pos c).trans (if_pos c).symm
  · refine (if_neg c).trans ((?_ : _ = _).trans (if_neg c).symm)
    by_cases d : r = 0 ∨ u.rbit (policyA r) 2 = true
    · exact (if_pos d).trans (if_pos d).symm
    · exact (if_neg d).trans (if_neg d).symm

end Sys2Proof.Machine
end

