-- ==== Sys2Proof/Laws/Modules.lean ====
section
/-! SUPPORT. Every operation of `Sys2Proof/Machine/Modules.lean` only evolves the state (`Evolves`), one lemma per operation. -/

namespace Sys2Proof.Machine

theorem State.cageLanes_evolves {s0 : State} {s : State} {c : Nat} (h : Evolves s0 s) :
    Evolves s0 (State.cageLanes s c) := by
  unfold State.cageLanes
  extract_lets x0
  split
  · refine foldl_evolves _ ?_ ?_
    · intro a5 a6 k7
      split
      · exact (State.laneSync_evolves k7)
      · exact k7
    · exact h
  · exact h

theorem State.cageCheck_evolves {s0 : State} {s : State} {c : Nat} {x : CageRead} (h : Evolves s0 s) :
    Evolves s0 (State.cageCheck s c x) := by
  unfold State.cageCheck
  extract_lets x0 x1 x2 x3 x4 x5 x6
  have k7 : Evolves s0 x2 := (State.setCage_evolves h)
  have k8 : Evolves s0 x4 := (State.wr_evolves k7)
  have k9 : Evolves s0 x5 := by
    subst x5
    split
    · exact (State.emit_evolves k8)
    · exact k8
  have k12 : Evolves s0 x6 := (State.cageLanes_evolves (State.cageHold_evolves k9))
  split
  · exact k12
  · exact (State.bootRaise_evolves (State.bootFail_evolves k12))

theorem execCmisSweep_evolves {s0 : State} {checks : List CageCheck} {s : State} (h : Evolves s0 s) :
    Ends s0 (execCmisSweep checks s) := by
  unfold execCmisSweep
  extract_lets x0 x1 x2 x3
  have k4 : Evolves s0 x0 := by
    subst x0
    split
    · exact (State.modxLoad_evolves h)
    · exact h
  have k7 : Evolves s0 x2 := (foldl_evolves _ (fun a8 a9 k10 => (State.cageCheck_evolves k10)) k4)
  split
  · exact Ends.next h
  · split
    · refine Ends.next ?_
      refine foldl_evolves _ ?_ ?_
      · intro a20 a21 k22
        split
        · exact (State.cageCheck_evolves k22)
        · exact k22
      · exact h
    · exact Ends.next (bootUpd_evolves k7 rfl rfl rfl)

theorem State.modFault_evolves {s0 : State} {s : State} {c : Nat} {fault : Bool} (h : Evolves s0 s) :
    Evolves s0 (State.modFault s c fault) := by
  unfold State.modFault
  extract_lets x0 x1 x2
  have k3 : Evolves s0 x2 := (State.setCage_evolves h)
  split
  · exact (State.raise_evolves (State.cageLanes_evolves (State.cageHold_evolves (modEvt_evolves k3))))
  · exact k3

theorem State.pollCage_evolves {s0 : State} {s : State} {q : ModPoll} (h : Evolves s0 s) :
    Evolves s0 (State.pollCage s q) := by
  unfold State.pollCage
  extract_lets x0 x1 x2
  have k3 : Evolves s0 x2 := by
    subst x2
    split
    · exact (State.setCage_evolves h)
    · exact (State.raise_evolves (modEvt_evolves (State.setCage_evolves h)))
  split
  · exact (State.modFault_evolves (State.modFlags_evolves k3))
  · split
    · exact (State.cageCheck_evolves (State.raise_evolves (modEvt_evolves (State.setCage_evolves h))))
    · exact (State.setCage_evolves h)

theorem execModPoll_evolves {s0 : State} {polls : List ModPoll} {s : State} (h : Evolves s0 s) :
    Ends s0 (execModPoll polls s) := by
  unfold execModPoll
  exact Ends.next (foldl_evolves _ (fun a0 a1 k2 => (State.pollCage_evolves k2)) h)

theorem State.modAccTake_evolves {s0 : State} {s : State} {r : ModReply} (h : Evolves s0 s) :
    Evolves s0 (State.modAccTake s r) := by
  unfold State.modAccTake
  extract_lets x0 x1
  have k2 : Evolves s0 x1 := (State.modFlags_evolves (State.putArray_evolves h))
  split
  · exact (State.modFault_evolves k2)
  · exact k2

theorem execModAccDone_evolves {s0 : State} {r : ModReply} {s : State} (h : Evolves s0 s) :
    Ends s0 (execModAccDone r s) := by
  unfold execModAccDone
  extract_lets x0 x1
  have k2 : Evolves s0 x1 := (State.setRbit_evolves (lineUpd_evolves h))
  split
  · split
    · refine Ends.next ?_
      refine State.raise_evolves ?_
      · split
        · exact k2
        · exact (State.modAccTake_evolves k2)
    · exact Ends.next (State.raise_evolves (State.setFld_evolves k2))
  · exact Ends.next h

end Sys2Proof.Machine
end

