-- ==== Sys2Proof/Laws/Processor.lean ====
section
/-! SUPPORT. Every operation of `Sys2Proof/Machine/Processor.lean` only evolves the state (`Evolves`), one lemma per operation. -/

namespace Sys2Proof.Machine

theorem State.procAbsent_evolves {s0 : State} {s : State} {k : Pkt} {i : Nat} (h : Evolves s0 s) :
    Evolves s0 (State.procAbsent s k i) := by
  unfold State.procAbsent
  split
  · exact (State.raise_evolves (State.bump_evolves h))
  · exact (State.absentDrop_evolves h)

theorem State.portRx_evolves {s0 : State} {s : State} {k : Pkt} {i : Nat} {c : Nat} (h : Evolves s0 s) :
    Evolves s0 (State.portRx s k i c) := by
  unfold State.portRx
  extract_lets x0 x1 x2 x3
  have k4 : Evolves s0 x1.2 := (State.poolAlloc_evolves h)
  have k5 : Evolves s0 x3 := (State.hbmStore_evolves k4)
  split
  · exact (State.procAbsent_evolves h)
  · split
    · exact (State.chDrop_evolves h)
    · split
      · exact k4
      · split
        · exact (State.chDrop_evolves (State.poolFree_evolves k4))
        · split
          · exact (State.absentDrop_evolves (State.poolFree_evolves k4))
          · exact (State.chDevice_evolves k5)

theorem execDeviceChannelWrite_evolves {s0 : State} {s : State} (h : Evolves s0 s) :
    Ends s0 (execDeviceChannelWrite s) := by
  unfold execDeviceChannelWrite
  split
  · exact Ends.next h
  · extract_lets x6 x7 x8
    have k9 : Evolves s0 x7 := (queUpd_evolves h)
    exact Ends.next (State.dropPkt_evolves (State.portRx_evolves k9))

theorem State.portTxFree_evolves {s0 : State} {s : State} {d : List Byte} (h : Evolves s0 s) :
    Evolves s0 (State.portTxFree s d) := by
  unfold State.portTxFree
  split
  · exact (State.poolFree_evolves h)
  · exact h

theorem State.portTx_evolves {s0 : State} {s : State} {c : Nat} {d : List Byte} (h : Evolves s0 s) :
    Evolves s0 (State.portTx s c d) := by
  unfold State.portTx
  extract_lets x0 x1 x2 x3 x4 x5 x6 x7 x8 x9 x10
  split
  · exact (State.chDrop_evolves (State.portTxFree_evolves h))
  · split
    · exact (State.absentDrop_evolves (State.portTxFree_evolves h))
    · split
      · exact (State.portTxFree_evolves (State.setPipe_evolves h))
      · exact (State.portTxFree_evolves (State.inflAdd_evolves (State.setPipe_evolves h)))

theorem execPortTxProcess_evolves {s0 : State} {c : Fin 49152} {s : State} (h : Evolves s0 s) :
    Ends s0 (execPortTxProcess c s) := by
  unfold execPortTxProcess
  extract_lets x0 x1
  have k2 : Evolves s0 x1.2 := (State.chTake_evolves h)
  split
  · exact Ends.next h
  · exact Ends.next (State.portTx_evolves k2)

theorem execNotePost_evolves {s0 : State} {r : Fin 4} {s : State} (h : Evolves s0 s) :
    Ends s0 (execNotePost r s) := by
  unfold execNotePost
  extract_lets x0 x1 x2 x3
  have k4 : Evolves s0 x2 := (State.setLrn_evolves h)
  have k5 : Evolves s0 x3.2 := (State.chDevice_evolves k4)
  split
  · exact Ends.next h
  · split
    · exact Ends.next k5
    · exact Ends.next (State.raise_evolves (foldl_evolves _ (fun a12 a13 k14 => (State.lrnDrop_evolves k14)) k5))

end Sys2Proof.Machine
end

