-- ==== Sys2Proof/Laws/Retire.lean ====
section
/-! SUPPORT. Every operation of `Sys2Proof/Machine/Retire.lean` only evolves the state (`Evolves`), one lemma per operation. -/

namespace Sys2Proof.Machine

theorem State.commitNow_evolves {s0 : State} {s : State} {t : Nat} (h : Evolves s0 s) : Evolves s0 (State.commitNow s t) := by
  unfold State.commitNow
  extract_lets n s1 s2 src s3 src2 s4
  have h1 : Evolves s0 s1 := State.setFld_evolves (State.setVerOther_evolves (State.setRbit_evolves h))
  clear_value s1
  have h2 : Evolves s0 s2 := State.wr_evolves h1
  clear_value s2
  have h3 : Evolves s0 s3 := h2.frame rfl
  clear_value s3
  have h4 : Evolves s0 s4 := by
    subst s4
    split
    · exact h3.frame rfl
    · exact h3
  exact State.verRaise_evolves h4

theorem execCommitInstant_evolves {s0 : State} {s : State} (h : Evolves s0 s) :
    Ends s0 (execCommitInstant s) := by
  unfold execCommitInstant
  split
  · split
    · exact Ends.next (State.commitNow_evolves h)
    · exact Ends.next h
  · exact Ends.next h

theorem execRetire_evolves {s0 : State} {s : State} (h : Evolves s0 s) :
    Ends s0 (execRetire s) := by
  unfold execRetire
  split
  · exact Ends.next (State.verRetired_evolves h)
  · exact Ends.next h

end Sys2Proof.Machine
end

