-- ==== Sys2Proof/Laws/Seconds.lean ====
section
/-! SUPPORT. Every operation of `Sys2Proof/Machine/Seconds.lean` only evolves the state (`Evolves`), one lemma per operation. -/

namespace Sys2Proof.Machine

theorem State.secLatch_evolves {s0 : State} {s : State} {live : Nat} {dst : Nat} (h : Evolves s0 s) :
    Evolves s0 (State.secLatch s live dst) := by
  unfold State.secLatch
  extract_lets x0 x1 x2 x3
  have k4 : Evolves s0 x3 := (lineUpd_evolves h)
  exact (State.wr_evolves k4)

theorem State.portSecond_evolves {s0 : State} {s : State} {p : Nat} (h : Evolves s0 s) :
    Evolves s0 (State.portSecond s p) := by
  unfold State.portSecond
  exact (State.secLatch_evolves (State.secLatch_evolves (State.secLatch_evolves h)))

theorem State.setDeg_evolves {s0 : State} {s : State} {l : Nat} {on : Bool} (h : Evolves s0 s) :
    Evolves s0 (State.setDeg s l on) := by
  unfold State.setDeg
  extract_lets x0 x1 x2
  have k3 : Evolves s0 x2 := (State.setRbit_evolves (State.setRbit_evolves h))
  exact (State.raise_evolves (State.laneSync_evolves k3))

theorem State.degEval_evolves {s0 : State} {s : State} {l : Nat} (h : Evolves s0 s) :
    Evolves s0 (State.degEval s l) := by
  unfold State.degEval
  extract_lets x0 x1 x2 x3 x4
  split
  · exact (State.setDeg_evolves (State.setLane_evolves h))
  · exact (State.setLane_evolves h)

theorem State.laneSecond_evolves {s0 : State} {s : State} {l : Nat} (h : Evolves s0 s) :
    Evolves s0 (State.laneSecond s l) := by
  unfold State.laneSecond
  extract_lets x0 x1 x2 x3
  have k4 : Evolves s0 x1 := (foldl_evolves _ (fun a5 a6 k7 => (State.wr_evolves k7)) h)
  have k8 : Evolves s0 x2 := by
    subst x2
    split
    · exact (State.degEval_evolves k4)
    · exact k4
  exact (State.setLane_evolves k8)

theorem execPerSecondLatch_evolves {s0 : State} {s : State} (h : Evolves s0 s) :
    Ends s0 (execPerSecondLatch s) := by
  unfold execPerSecondLatch
  extract_lets x0 x1 x2
  have k3 : Evolves s0 x1 := (timeUpd_evolves h rfl)
  have k4 : Evolves s0 x2 := by
    subst x2
    split
    · exact k3
    · exact (foldl_evolves _ (fun a7 a8 k9 => (State.portSecond_evolves k9)) k3)
  split
  · refine Ends.next ?_
    refine foldl_evolves _ ?_ ?_
    · intro a17 a18 k19
      split
      · exact k19
      · exact (State.laneSecond_evolves k19)
    · exact k4
  · exact Ends.next h

end Sys2Proof.Machine
end

