-- ==== Sys2Proof/Laws/Snapshot.lean ====
section
/-! SUPPORT. Every operation of `Sys2Proof/Machine/Snapshot.lean` only evolves the state (`Evolves`), one lemma per operation. -/

namespace Sys2Proof.Machine

theorem putCounts_evolves {s0 : State} {f : Nat → Nat} {a : Nat} {y2 : Nat} {y3 : State} (h : Evolves s0 y3) :
    Evolves s0 (putCounts f a y2 y3) := by
  fun_induction putCounts f a y2 y3
  · exact h
  · rename_i v1 v2 e3
    apply e3
    · exact (State.hbmWrite_evolves h)

theorem State.snapPut_evolves {s0 : State} {s : State} {base : Nat} {y2 : Nat} {y3 : Nat} {y4 : List SnapSection} (h : Evolves s0 s) :
    Evolves s0 (State.snapPut s base y2 y3 y4) := by
  fun_induction State.snapPut s base y2 y3 y4
  · exact h
  · rename_i v3 v4 v5 v6 v7 v8 e9
    have k10 : Evolves s0 v8 := (State.hbmWrite_evolves h)
    apply e9
    · exact (putCounts_evolves k10)

theorem execSnapDone_evolves {s0 : State} {s : State} (h : Evolves s0 s) : Ends s0 (execSnapDone s) := by
  unfold execSnapDone
  split
  · exact Ends.next h
  · generalize snapSections = l
    extract_lets base t1 t2 t3 c t4
    have h1 : Evolves s0 t1 := State.hbmWrite_evolves h
    clear_value t1
    have h2 : Evolves s0 t2 := State.snapPut_evolves h1
    clear_value t2
    have h3 : Evolves s0 t3 := State.hbmWrite_evolves h2
    clear_value t3
    have h4 : Evolves s0 t4 := h3.frame rfl
    clear_value t4
    exact Ends.next (State.raise_evolves h4)

end Sys2Proof.Machine
end

