-- ==== Sys2Proof/Laws/Exec.lean ====
section
/-! SUPPORT. What no command undoes: the laws of the meanings, put together over `exec`. -/

namespace Sys2Proof.Machine

variable {s : State}
theorem exec_clockTick_ends : Ends s (exec .clockTick s) := execClockTick_evolves (Evolves.refl s)
theorem exec_incrFracWrite_ends {x0 x1 x2} : Ends s (exec (.incrFracWrite x0 x1 x2) s) := execIncrFracWrite_evolves (Evolves.refl s)
theorem exec_firmwareOffsetPush_ends {x0 x1 x2} : Ends s (exec (.firmwareOffsetPush x0 x1 x2) s) := execFirmwareOffsetPush_evolves (Evolves.refl s)
theorem exec_servoOffset_ends {x0} : Ends s (exec (.servoOffset x0) s) := execServoOffset_evolves (Evolves.refl s)
theorem exec_servoTimeout_ends {x0} : Ends s (exec (.servoTimeout x0) s) := execServoTimeout_evolves (Evolves.refl s)
theorem exec_modeFree_ends {x0 x1 x2} : Ends s (exec (.modeFree x0 x1 x2) s) := execModeFree_evolves (Evolves.refl s)
theorem exec_modeServo_ends {x0 x1 x2} : Ends s (exec (.modeServo x0 x1 x2) s) := execModeServo_evolves (Evolves.refl s)
theorem exec_modeForceSnow_ends {x0 x1 x2} : Ends s (exec (.modeForceSnow x0 x1 x2) s) := execModeForceSnow_evolves (Evolves.refl s)
theorem exec_refHoldUpdate_ends {x0 x1} : Ends s (exec (.refHoldUpdate x0 x1) s) := execRefHoldUpdate_evolves (Evolves.refl s)
theorem exec_validDeclare_ends {x0 x1 x2} : Ends s (exec (.validDeclare x0 x1 x2) s) := execValidDeclare_evolves (Evolves.refl s)
theorem exec_domStep_ends {x0 x1 x2} : Ends s (exec (.domStep x0 x1 x2) s) := execDomStep_evolves (Evolves.refl s)
theorem exec_setsecArm_ends {x0 x1 x2} : Ends s (exec (.setsecArm x0 x1 x2) s) := execSetsecArm_evolves (Evolves.refl s)
theorem exec_setsecLoad_ends {x0} : Ends s (exec (.setsecLoad x0) s) := execSetsecLoad_evolves (Evolves.refl s)
theorem exec_switchNextSlot_ends {x0 x1} : Ends s (exec (.switchNextSlot x0 x1) s) := execSwitchNextSlot_evolves (Evolves.refl s)
theorem exec_switchTimedArm_ends {x0 x1} : Ends s (exec (.switchTimedArm x0 x1) s) := execSwitchTimedArm_evolves (Evolves.refl s)
theorem exec_switchDisarm_ends {x0 x1} : Ends s (exec (.switchDisarm x0 x1) s) := execSwitchDisarm_evolves (Evolves.refl s)
theorem exec_activeSwitch_ends : Ends s (exec .activeSwitch s) := execActiveSwitch_evolves (Evolves.refl s)
theorem exec_revertWtrExpiry_ends : Ends s (exec .revertWtrExpiry s) := execRevertWtrExpiry_evolves (Evolves.refl s)
theorem exec_slotStart_ends : Ends s (exec .slotStart s) := execSlotStart_evolves (Evolves.refl s)
theorem exec_cycleStart_ends : Ends s (exec .cycleStart s) := execCycleStart_evolves (Evolves.refl s)
theorem exec_perSecondLatch_ends : Ends s (exec .perSecondLatch s) := execPerSecondLatch_evolves (Evolves.refl s)
theorem exec_onestepDepart_ends {x0 x1} : Ends s (exec (.onestepDepart x0 x1) s) := execOnestepDepart_evolves (Evolves.refl s)
theorem exec_tsqReadHead_ends {x0} : Ends s (exec (.tsqReadHead x0) s) := execTsqReadHead_evolves (Evolves.refl s)
theorem exec_tsqReadPop_ends {x0} : Ends s (exec (.tsqReadPop x0) s) := execTsqReadPop_evolves (Evolves.refl s)
theorem exec_lossReadHead_ends {x0} : Ends s (exec (.lossReadHead x0) s) := execLossReadHead_evolves (Evolves.refl s)
theorem exec_lossReadPop_ends {x0} : Ends s (exec (.lossReadPop x0) s) := execLossReadPop_evolves (Evolves.refl s)
theorem exec_ppsOutEdge_ends {x0} : Ends s (exec (.ppsOutEdge x0) s) := execPpsOutEdge_evolves (Evolves.refl s)
theorem exec_ppsInEdge_ends {x0 x1} : Ends s (exec (.ppsInEdge x0 x1) s) := execPpsInEdge_evolves (Evolves.refl s)
theorem exec_ppsinLoss_ends {x0} : Ends s (exec (.ppsinLoss x0) s) := execPpsinLoss_evolves (Evolves.refl s)
theorem exec_todRxMessage_ends {x0} : Ends s (exec (.todRxMessage x0) s) := execTodRxMessage_evolves (Evolves.refl s)
theorem exec_todRxdataRead_ends {x0} : Ends s (exec (.todRxdataRead x0) s) := execTodRxdataRead_evolves (Evolves.refl s)
theorem exec_todTxMessage_ends : Ends s (exec .todTxMessage s) := execTodTxMessage_evolves (Evolves.refl s)
theorem exec_refQualify_ends {x0} : Ends s (exec (.refQualify x0) s) := execRefQualify_evolves (Evolves.refl s)
theorem exec_refLoss_ends : Ends s (exec .refLoss s) := execRefLoss_evolves (Evolves.refl s)
theorem exec_ptmDialog_ends {x0 x1} : Ends s (exec (.ptmDialog x0 x1) s) := execPtmDialog_evolves (Evolves.refl s)
theorem exec_vsb33Rise_ends : Ends s (exec .vsb33Rise s) := execVsb33Rise_evolves (Evolves.refl s)
theorem exec_vsb33Present_ends : Ends s (exec .vsb33Present s) := execVsb33Present_evolves (Evolves.refl s)
theorem exec_vin12Valid_ends : Ends s (exec .vin12Valid s) := execVin12Valid_evolves (Evolves.refl s)
theorem exec_railsInTolerance_ends : Ends s (exec .railsInTolerance s) := execRailsInTolerance_evolves (Evolves.refl s)
theorem exec_resetNFall_ends : Ends s (exec .resetNFall s) := execResetNFall_evolves (Evolves.refl s)
theorem exec_resetNRise_ends : Ends s (exec .resetNRise s) := execResetNRise_evolves (Evolves.refl s)
theorem exec_chipResetWrite_ends {x0 x1} : Ends s (exec (.chipResetWrite x0 x1) s) := execChipResetWrite_evolves (Evolves.refl s)
theorem exec_vin12Loss_ends : Ends s (exec .vin12Loss s) := execVin12Loss_evolves (Evolves.refl s)
theorem exec_vin12Low_ends : Ends s (exec .vin12Low s) := execVin12Low_evolves (Evolves.refl s)
theorem exec_vsb33Loss_ends : Ends s (exec .vsb33Loss s) := execVsb33Loss_evolves (Evolves.refl s)
theorem exec_bootStart_ends {x0} : Ends s (exec (.bootStart x0) s) := execBootStart_evolves (Evolves.refl s)
theorem exec_bidReadDone_ends {x0} : Ends s (exec (.bidReadDone x0) s) := execBidReadDone_evolves (Evolves.refl s)
theorem exec_hbmVerifyDone_ends {x0 x1 x2 x3 x4 x5} : Ends s (exec (.hbmVerifyDone x0 x1 x2 x3 x4 x5) s) := execHbmVerifyDone_evolves (Evolves.refl s)
theorem exec_imageVerifyDone_ends {x0 x1} : Ends s (exec (.imageVerifyDone x0 x1) s) := by
  unfold exec
  exact execImageVerifyDone_evolves (Evolves.refl s)
theorem exec_writeListApply_ends : Ends s (exec .writeListApply s) := execWriteListApply_evolves (Evolves.refl s)
theorem exec_fwLoadRelease_ends : Ends s (exec .fwLoadRelease s) := execFwLoadRelease_evolves (Evolves.refl s)
theorem exec_cmisSweep_ends {x0} : Ends s (exec (.cmisSweep x0) s) := execCmisSweep_evolves (Evolves.refl s)
theorem exec_fwdReady_ends : Ends s (exec .fwdReady s) := execFwdReady_evolves (Evolves.refl s)
theorem exec_fwdWaitExpiry_ends {x0} : Ends s (exec (.fwdWaitExpiry x0) s) := execFwdWaitExpiry_evolves (Evolves.refl s)
theorem exec_healthTimeout_ends : Ends s (exec .healthTimeout s) := execHealthTimeout_evolves (Evolves.refl s)
theorem exec_wtLate_ends : Ends s (exec .wtLate s) := execWtLate_evolves (Evolves.refl s)
theorem exec_declareFirst_ends {x0} : Ends s (exec (.declareFirst x0) s) := execDeclareFirst_evolves (Evolves.refl s)
theorem exec_registerWrite_ends {x0 x1 x2} : Ends s (exec (.registerWrite x0 x1 x2) s) := execRegisterWrite_evolves (Evolves.refl s)
theorem exec_latchWordRead_ends {x0} : Ends s (exec (.latchWordRead x0) s) := execLatchWordRead_evolves (Evolves.refl s)
theorem exec_counterReadClear_ends {x0} : Ends s (exec (.counterReadClear x0) s) := execCounterReadClear_evolves (Evolves.refl s)
theorem exec_cpScrub_ends {x0} : Ends s (exec (.cpScrub x0) s) := execCpScrub_evolves (Evolves.refl s)
theorem exec_winRead_ends {x0 x1 x2} : Ends s (exec (.winRead x0 x1 x2) s) := execWinRead_evolves (Evolves.refl s)
theorem exec_winWrite_ends {x0 x1 x2} : Ends s (exec (.winWrite x0 x1 x2) s) := execWinWrite_evolves (Evolves.refl s)
theorem exec_winClear_ends {x0 x1 x2} : Ends s (exec (.winClear x0 x1 x2) s) := execWinClear_evolves (Evolves.refl s)
theorem exec_winReadClear_ends {x0 x1 x2} : Ends s (exec (.winReadClear x0 x1 x2) s) := execWinReadClear_evolves (Evolves.refl s)
theorem exec_bcauseClear_ends {x0 x1 x2} : Ends s (exec (.bcauseClear x0 x1 x2) s) := execBcauseClear_evolves (Evolves.refl s)
theorem exec_bcauseSet_ends {x0 x1 x2} : Ends s (exec (.bcauseSet x0 x1 x2) s) := execBcauseSet_evolves (Evolves.refl s)
theorem exec_bresetHold_ends {x0 x1} : Ends s (exec (.bresetHold x0 x1) s) := execBresetHold_evolves (Evolves.refl s)
theorem exec_bresetRelease_ends {x0 x1} : Ends s (exec (.bresetRelease x0 x1) s) := execBresetRelease_evolves (Evolves.refl s)
theorem exec_intgLogReadHead_ends {x0} : Ends s (exec (.intgLogReadHead x0) s) := execIntgLogReadHead_evolves (Evolves.refl s)
theorem exec_intgLogReadPop_ends {x0} : Ends s (exec (.intgLogReadPop x0) s) := execIntgLogReadPop_evolves (Evolves.refl s)
theorem exec_snapCopyArm_ends {x0} : Ends s (exec (.snapCopyArm x0) s) := execSnapCopyArm_evolves (Evolves.refl s)
theorem exec_snapFreezeArm_ends {x0} : Ends s (exec (.snapFreezeArm x0) s) := execSnapFreezeArm_evolves (Evolves.refl s)
theorem exec_snapThawAt_ends {x0} : Ends s (exec (.snapThawAt x0) s) := execSnapThawAt_evolves (Evolves.refl s)
theorem exec_snapThawNow_ends {x0} : Ends s (exec (.snapThawNow x0) s) := execSnapThawNow_evolves (Evolves.refl s)
theorem exec_snapDisarm_ends {x0} : Ends s (exec (.snapDisarm x0) s) := execSnapDisarm_evolves (Evolves.refl s)
theorem exec_snapInstant_ends : Ends s (exec .snapInstant s) := execSnapInstant_evolves (Evolves.refl s)
theorem exec_snapDone_ends : Ends s (exec .snapDone s) := execSnapDone_evolves (Evolves.refl s)
theorem exec_portCfgWrite_ends {x0 x1 x2} : Ends s (exec (.portCfgWrite x0 x1 x2) s) := execPortCfgWrite_evolves (Evolves.refl s)
theorem exec_portDisable_ends {x0 x1 x2 x3} : Ends s (exec (.portDisable x0 x1 x2 x3) s) := execPortDisable_evolves (Evolves.refl s)
theorem exec_octRateWrite_ends {x0 x1 x2} : Ends s (exec (.octRateWrite x0 x1 x2) s) := execOctRateWrite_evolves (Evolves.refl s)
theorem exec_maxlenWrite_ends {x0 x1 x2} : Ends s (exec (.maxlenWrite x0 x1 x2) s) := execMaxlenWrite_evolves (Evolves.refl s)
theorem exec_portUp_ends {x0} : Ends s (exec (.portUp x0) s) := execPortUp_evolves (Evolves.refl s)
theorem exec_portDown_ends {x0 x1} : Ends s (exec (.portDown x0 x1) s) := execPortDown_evolves (Evolves.refl s)
theorem exec_anFail_ends {x0} : Ends s (exec (.anFail x0) s) := execAnFail_evolves (Evolves.refl s)
theorem exec_rxFrame_ends {x0 x1} : Ends s (exec (.rxFrame x0 x1) s) := execRxFrame_evolves (Evolves.refl s)
theorem exec_pauseExpiry_ends {x0 x1} : Ends s (exec (.pauseExpiry x0 x1) s) := execPauseExpiry_evolves (Evolves.refl s)
theorem exec_txFrame_ends {x0 x1} : Ends s (exec (.txFrame x0 x1) s) := execTxFrame_evolves (Evolves.refl s)
theorem exec_portCntClr_ends {x0 x1 x2} : Ends s (exec (.portCntClr x0 x1 x2) s) := execPortCntClr_evolves (Evolves.refl s)
theorem exec_portSleep_ends {x0 x1 x2} : Ends s (exec (.portSleep x0 x1 x2) s) := execPortSleep_evolves (Evolves.refl s)
theorem exec_portWakeWrite_ends {x0 x1 x2} : Ends s (exec (.portWakeWrite x0 x1 x2) s) := execPortWakeWrite_evolves (Evolves.refl s)
theorem exec_wakeMatch_ends {x0 x1} : Ends s (exec (.wakeMatch x0 x1) s) := execWakeMatch_evolves (Evolves.refl s)
theorem exec_wakeComplete_ends {x0} : Ends s (exec (.wakeComplete x0) s) := execWakeComplete_evolves (Evolves.refl s)
theorem exec_modPoll_ends {x0} : Ends s (exec (.modPoll x0) s) := execModPoll_evolves (Evolves.refl s)
theorem exec_modAccRead_ends {x0 x1} : Ends s (exec (.modAccRead x0 x1) s) := execModAccRead_evolves (Evolves.refl s)
theorem exec_modAccWrite_ends {x0 x1} : Ends s (exec (.modAccWrite x0 x1) s) := execModAccWrite_evolves (Evolves.refl s)
theorem exec_modAccDone_ends {x0} : Ends s (exec (.modAccDone x0) s) := execModAccDone_evolves (Evolves.refl s)
theorem exec_ingressAccept_ends {x0} : Ends s (exec (.ingressAccept x0) s) := execIngressAccept_evolves (Evolves.refl s)
theorem exec_parseDispatch_ends {x0} : Ends s (exec (.parseDispatch x0) s) := execParseDispatch_evolves (Evolves.refl s)
theorem exec_parseNop_ends {x0 x1} : Ends s (exec (.parseNop x0 x1) s) := execParseNop_evolves (Evolves.refl s)
theorem exec_parseExt_ends {x0 x1} : Ends s (exec (.parseExt x0 x1) s) := execParseExt_evolves (Evolves.refl s)
theorem exec_parseHvx_ends {x0 x1} : Ends s (exec (.parseHvx x0 x1) s) := execParseHvx_evolves (Evolves.refl s)
theorem exec_parseHvr_ends {x0 x1} : Ends s (exec (.parseHvr x0 x1) s) := execParseHvr_evolves (Evolves.refl s)
theorem exec_parseLdi_ends {x0 x1} : Ends s (exec (.parseLdi x0 x1) s) := execParseLdi_evolves (Evolves.refl s)
theorem exec_parseAlu_ends {x0 x1} : Ends s (exec (.parseAlu x0 x1) s) := execParseAlu_evolves (Evolves.refl s)
theorem exec_parseCmp_ends {x0 x1} : Ends s (exec (.parseCmp x0 x1) s) := execParseCmp_evolves (Evolves.refl s)
theorem exec_parseBr_ends {x0 x1} : Ends s (exec (.parseBr x0 x1) s) := execParseBr_evolves (Evolves.refl s)
theorem exec_parseSwt_ends {x0 x1} : Ends s (exec (.parseSwt x0 x1) s) := execParseSwt_evolves (Evolves.refl s)
theorem exec_parseAdv_ends {x0 x1} : Ends s (exec (.parseAdv x0 x1) s) := execParseAdv_evolves (Evolves.refl s)
theorem exec_parseMark_ends {x0 x1} : Ends s (exec (.parseMark x0 x1) s) := execParseMark_evolves (Evolves.refl s)
theorem exec_parseFlag_ends {x0 x1} : Ends s (exec (.parseFlag x0 x1) s) := execParseFlag_evolves (Evolves.refl s)
theorem exec_parseHsel_ends {x0 x1} : Ends s (exec (.parseHsel x0 x1) s) := execParseHsel_evolves (Evolves.refl s)
theorem exec_parseExc_ends {x0 x1} : Ends s (exec (.parseExc x0 x1) s) := execParseExc_evolves (Evolves.refl s)
theorem exec_parseDone_ends {x0 x1} : Ends s (exec (.parseDone x0 x1) s) := execParseDone_evolves (Evolves.refl s)
theorem exec_lookup_ends {x0} : Ends s (exec (.lookup x0) s) := execLookup_evolves (Evolves.refl s)
theorem exec_longProbeLookup_ends {x0} : Ends s (exec (.longProbeLookup x0) s) := execLongProbeLookup_evolves (Evolves.refl s)
theorem exec_farLookup_ends {x0 x1} : Ends s (exec (.farLookup x0 x1) s) := execFarLookup_evolves (Evolves.refl s)
theorem exec_emInsert_ends {x0 x1} : Ends s (exec (.emInsert x0 x1) s) := execEmInsert_evolves (Evolves.refl s)
theorem exec_emDelete_ends {x0 x1} : Ends s (exec (.emDelete x0 x1) s) := execEmDelete_evolves (Evolves.refl s)
theorem exec_emSearch_ends {x0 x1} : Ends s (exec (.emSearch x0 x1) s) := execEmSearch_evolves (Evolves.refl s)
theorem exec_emUpdate_ends {x0 x1} : Ends s (exec (.emUpdate x0 x1) s) := execEmUpdate_evolves (Evolves.refl s)
theorem exec_lpmInsert_ends {x0 x1} : Ends s (exec (.lpmInsert x0 x1) s) := execLpmInsert_evolves (Evolves.refl s)
theorem exec_lpmDelete_ends {x0 x1} : Ends s (exec (.lpmDelete x0 x1) s) := execLpmDelete_evolves (Evolves.refl s)
theorem exec_lpmSearch_ends {x0 x1} : Ends s (exec (.lpmSearch x0 x1) s) := execLpmSearch_evolves (Evolves.refl s)
theorem exec_lpmUpdate_ends {x0 x1} : Ends s (exec (.lpmUpdate x0 x1) s) := execLpmUpdate_evolves (Evolves.refl s)
theorem exec_rebuild_ends {x0 x1} : Ends s (exec (.rebuild x0 x1) s) := execRebuild_evolves (Evolves.refl s)
theorem exec_rebuildDone_ends : Ends s (exec .rebuildDone s) := execRebuildDone_evolves (Evolves.refl s)
theorem exec_egressRewrite_ends {x0} : Ends s (exec (.egressRewrite x0) s) := execEgressRewrite_evolves (Evolves.refl s)
theorem exec_learnEngine_ends {x0} : Ends s (exec (.learnEngine x0) s) := execLearnEngine_evolves (Evolves.refl s)
theorem exec_lrnInsert_ends {x0 x1 x2} : Ends s (exec (.lrnInsert x0 x1 x2) s) := execLrnInsert_evolves (Evolves.refl s)
theorem exec_lrnDelete_ends {x0 x1 x2} : Ends s (exec (.lrnDelete x0 x1 x2) s) := execLrnDelete_evolves (Evolves.refl s)
theorem exec_lrnSearch_ends {x0 x1 x2} : Ends s (exec (.lrnSearch x0 x1 x2) s) := execLrnSearch_evolves (Evolves.refl s)
theorem exec_flush_ends {x0 x1 x2} : Ends s (exec (.flush x0 x1 x2) s) := execFlush_evolves (Evolves.refl s)
theorem exec_flushDone_ends {x0} : Ends s (exec (.flushDone x0) s) := execFlushDone_evolves (Evolves.refl s)
theorem exec_notePost_ends {x0} : Ends s (exec (.notePost x0) s) := execNotePost_evolves (Evolves.refl s)
theorem exec_agingSweepStart_ends {x0} : Ends s (exec (.agingSweepStart x0) s) := execAgingSweepStart_evolves (Evolves.refl s)
theorem exec_agingVisit_ends {x0} : Ends s (exec (.agingVisit x0) s) := execAgingVisit_evolves (Evolves.refl s)
theorem exec_ascRead_ends {x0 x1 x2} : Ends s (exec (.ascRead x0 x1 x2) s) := execAscRead_evolves (Evolves.refl s)
theorem exec_ascWrite_ends {x0 x1 x2} : Ends s (exec (.ascWrite x0 x1 x2) s) := execAscWrite_evolves (Evolves.refl s)
theorem exec_ascClear_ends {x0 x1 x2} : Ends s (exec (.ascClear x0 x1 x2) s) := execAscClear_evolves (Evolves.refl s)
theorem exec_insertAt_ends {x0 x1 x2} : Ends s (exec (.insertAt x0 x1 x2) s) := execInsertAt_evolves (Evolves.refl s)
theorem exec_setv_ends {x0 x1 x2} : Ends s (exec (.setv x0 x1 x2) s) := execSetv_evolves (Evolves.refl s)
theorem exec_ascDelete_ends {x0 x1 x2} : Ends s (exec (.ascDelete x0 x1 x2) s) := execAscDelete_evolves (Evolves.refl s)
theorem exec_ascUpdate_ends {x0 x1 x2} : Ends s (exec (.ascUpdate x0 x1 x2) s) := execAscUpdate_evolves (Evolves.refl s)
theorem exec_ascMove_ends {x0 x1 x2} : Ends s (exec (.ascMove x0 x1 x2) s) := execAscMove_evolves (Evolves.refl s)
theorem exec_ascSearch_ends {x0 x1 x2} : Ends s (exec (.ascSearch x0 x1 x2) s) := execAscSearch_evolves (Evolves.refl s)
theorem exec_moverCopy_ends {x0} : Ends s (exec (.moverCopy x0) s) := execMoverCopy_evolves (Evolves.refl s)
theorem exec_slotSteal_ends {x0} : Ends s (exec (.slotSteal x0) s) := execSlotSteal_evolves (Evolves.refl s)
theorem exec_scrubRewrite_ends {x0} : Ends s (exec (.scrubRewrite x0) s) := execScrubRewrite_evolves (Evolves.refl s)
theorem exec_scrubLine_ends {x0} : Ends s (exec (.scrubLine x0) s) := execScrubLine_evolves (Evolves.refl s)
theorem exec_verCommit_ends {x0} : Ends s (exec (.verCommit x0) s) := execVerCommit_evolves (Evolves.refl s)
theorem exec_verArm_ends {x0} : Ends s (exec (.verArm x0) s) := execVerArm_evolves (Evolves.refl s)
theorem exec_verDisarm_ends {x0} : Ends s (exec (.verDisarm x0) s) := execVerDisarm_evolves (Evolves.refl s)
theorem exec_forceRetire_ends {x0} : Ends s (exec (.forceRetire x0) s) := execForceRetire_evolves (Evolves.refl s)
theorem exec_pauseApply_ends {x0} : Ends s (exec (.pauseApply x0) s) := execPauseApply_evolves (Evolves.refl s)
theorem exec_verSeqWrite_ends {x0 x1} : Ends s (exec (.verSeqWrite x0 x1) s) := execVerSeqWrite_evolves (Evolves.refl s)
theorem exec_commitInstant_ends : Ends s (exec .commitInstant s) := execCommitInstant_evolves (Evolves.refl s)
theorem exec_retire_ends : Ends s (exec .retire s) := execRetire_evolves (Evolves.refl s)
theorem exec_retireLate_ends : Ends s (exec .retireLate s) := execRetireLate_evolves (Evolves.refl s)
theorem exec_batchWrite_ends : Ends s (exec .batchWrite s) := execBatchWrite_evolves (Evolves.refl s)
theorem exec_pauseAbort_ends : Ends s (exec .pauseAbort s) := execPauseAbort_evolves (Evolves.refl s)
theorem exec_packetAdmit_ends {x0 x1} : Ends s (exec (.packetAdmit x0 x1) s) := execPacketAdmit_evolves (Evolves.refl s)
theorem exec_cellFree_ends {x0} : Ends s (exec (.cellFree x0) s) := execCellFree_evolves (Evolves.refl s)
theorem exec_spillWrite_ends {x0 x1} : Ends s (exec (.spillWrite x0 x1) s) := execSpillWrite_evolves (Evolves.refl s)
theorem exec_spillReadback_ends {x0} : Ends s (exec (.spillReadback x0) s) := execSpillReadback_evolves (Evolves.refl s)
theorem exec_spillCacheRefill_ends : Ends s (exec .spillCacheRefill s) := execSpillCacheRefill_evolves (Evolves.refl s)
theorem exec_spillCacheDrain_ends : Ends s (exec .spillCacheDrain s) := execSpillCacheDrain_evolves (Evolves.refl s)
theorem exec_spillInit_ends {x0 x1} : Ends s (exec (.spillInit x0 x1) s) := execSpillInit_evolves (Evolves.refl s)
theorem exec_initDone_ends : Ends s (exec .initDone s) := execInitDone_evolves (Evolves.refl s)
theorem exec_replExpand_ends : Ends s (exec .replExpand s) := execReplExpand_evolves (Evolves.refl s)
theorem exec_sharedRelease_ends {x0 x1} : Ends s (exec (.sharedRelease x0 x1) s) := execSharedRelease_evolves (Evolves.refl s)
theorem exec_sharedFree_ends {x0 x1} : Ends s (exec (.sharedFree x0 x1) s) := execSharedFree_evolves (Evolves.refl s)
theorem exec_poolAlloc_ends {x0 x1 x2} : Ends s (exec (.poolAlloc x0 x1 x2) s) := execPoolAlloc_evolves (Evolves.refl s)
theorem exec_poolFree_ends {x0 x1} : Ends s (exec (.poolFree x0 x1) s) := execPoolFree_evolves (Evolves.refl s)
theorem exec_poolRelease_ends {x0 x1} : Ends s (exec (.poolRelease x0 x1) s) := execPoolRelease_evolves (Evolves.refl s)
theorem exec_poolShare_ends {x0 x1} : Ends s (exec (.poolShare x0 x1) s) := execPoolShare_evolves (Evolves.refl s)
theorem exec_poolInit_ends {x0 x1} : Ends s (exec (.poolInit x0 x1) s) := execPoolInit_evolves (Evolves.refl s)
theorem exec_poolLogReadHead_ends {x0} : Ends s (exec (.poolLogReadHead x0) s) := execPoolLogReadHead_evolves (Evolves.refl s)
theorem exec_poolLogReadPop_ends {x0} : Ends s (exec (.poolLogReadPop x0) s) := execPoolLogReadPop_evolves (Evolves.refl s)
theorem exec_voqRelease_ends {x0} : Ends s (exec (.voqRelease x0) s) := execVoqRelease_evolves (Evolves.refl s)
theorem exec_stallFlush_ends {x0} : Ends s (exec (.stallFlush x0) s) := execStallFlush_evolves (Evolves.refl s)
theorem exec_egressSelect_ends {x0 x1} : Ends s (exec (.egressSelect x0 x1) s) := execEgressSelect_evolves (Evolves.refl s)
theorem exec_shaperEpoch_ends {x0} : Ends s (exec (.shaperEpoch x0) s) := execShaperEpoch_evolves (Evolves.refl s)
theorem exec_pfcRefresh_ends {x0 x1} : Ends s (exec (.pfcRefresh x0 x1) s) := execPfcRefresh_evolves (Evolves.refl s)
theorem exec_pisteArm_ends {x0} : Ends s (exec (.pisteArm x0) s) := execPisteArm_evolves (Evolves.refl s)
theorem exec_pisteDisarm_ends {x0} : Ends s (exec (.pisteDisarm x0) s) := execPisteDisarm_evolves (Evolves.refl s)
theorem exec_pisteSwap_ends : Ends s (exec .pisteSwap s) := execPisteSwap_evolves (Evolves.refl s)
theorem exec_slotFill_ends : Ends s (exec .slotFill s) := execSlotFill_evolves (Evolves.refl s)
theorem exec_slotRx_ends {x0} : Ends s (exec (.slotRx x0) s) := execSlotRx_evolves (Evolves.refl s)
theorem exec_cellRx_ends : Ends s (exec .cellRx s) := execCellRx_evolves (Evolves.refl s)
theorem exec_relayAged_ends {x0} : Ends s (exec (.relayAged x0) s) := execRelayAged_evolves (Evolves.refl s)
theorem exec_gapTimerExpiry_ends {x0} : Ends s (exec (.gapTimerExpiry x0) s) := execGapTimerExpiry_evolves (Evolves.refl s)
theorem exec_expUnset_ends {x0} : Ends s (exec (.expUnset x0) s) := execExpUnset_evolves (Evolves.refl s)
theorem exec_ovcPinFrameRx_ends {x0 x1 x2} : Ends s (exec (.ovcPinFrameRx x0 x1 x2) s) := execOvcPinFrameRx_evolves (Evolves.refl s)
theorem exec_ovcChannelFrameRx_ends {x0} : Ends s (exec (.ovcChannelFrameRx x0) s) := execOvcChannelFrameRx_evolves (Evolves.refl s)
theorem exec_ovcPinFrameTx_ends {x0} : Ends s (exec (.ovcPinFrameTx x0) s) := execOvcPinFrameTx_evolves (Evolves.refl s)
theorem exec_ovcChannelFrameTx_ends {x0} : Ends s (exec (.ovcChannelFrameTx x0) s) := execOvcChannelFrameTx_evolves (Evolves.refl s)
theorem exec_ovcTxQueue_ends {x0 x1 x2} : Ends s (exec (.ovcTxQueue x0 x1 x2) s) := execOvcTxQueue_evolves (Evolves.refl s)
theorem exec_ovcRxPop_ends {x0 x1 x2} : Ends s (exec (.ovcRxPop x0 x1 x2) s) := execOvcRxPop_evolves (Evolves.refl s)
theorem exec_ovcCtrlWrite_ends {x0 x1 x2} : Ends s (exec (.ovcCtrlWrite x0 x1 x2) s) := execOvcCtrlWrite_evolves (Evolves.refl s)
theorem exec_keyRead_ends {x0 x1} : Ends s (exec (.keyRead x0 x1) s) := execKeyRead_evolves (Evolves.refl s)
theorem exec_loadPlain_ends {x0 x1} : Ends s (exec (.loadPlain x0 x1) s) := execLoadPlain_evolves (Evolves.refl s)
theorem exec_loadWrapped_ends {x0 x1} : Ends s (exec (.loadWrapped x0 x1) s) := execLoadWrapped_evolves (Evolves.refl s)
theorem exec_keyExport_ends {x0 x1} : Ends s (exec (.keyExport x0 x1) s) := execKeyExport_evolves (Evolves.refl s)
theorem exec_zeroise_ends {x0 x1} : Ends s (exec (.zeroise x0 x1) s) := execZeroise_evolves (Evolves.refl s)
theorem exec_rngFail_ends : Ends s (exec .rngFail s) := execRngFail_evolves (Evolves.refl s)
theorem exec_rngRecover_ends : Ends s (exec .rngRecover s) := execRngRecover_evolves (Evolves.refl s)
theorem exec_espInbound_ends {x0} : Ends s (exec (.espInbound x0) s) := execEspInbound_evolves (Evolves.refl s)
theorem exec_lkaProducerWrite_ends {x0 x1 x2} : Ends s (exec (.lkaProducerWrite x0 x1 x2) s) := execLkaProducerWrite_evolves (Evolves.refl s)
theorem exec_gcmEnc_ends {x0 x1 x2} : Ends s (exec (.gcmEnc x0 x1 x2) s) := execGcmEnc_evolves (Evolves.refl s)
theorem exec_gcmDec_ends {x0 x1 x2} : Ends s (exec (.gcmDec x0 x1 x2) s) := execGcmDec_evolves (Evolves.refl s)
theorem exec_xtsEnc_ends {x0 x1 x2} : Ends s (exec (.xtsEnc x0 x1 x2) s) := execXtsEnc_evolves (Evolves.refl s)
theorem exec_xtsDec_ends {x0 x1 x2} : Ends s (exec (.xtsDec x0 x1 x2) s) := execXtsDec_evolves (Evolves.refl s)
theorem exec_kmac_ends {x0 x1 x2} : Ends s (exec (.kmac x0 x1 x2) s) := execKmac_evolves (Evolves.refl s)
theorem exec_kmacVerify_ends {x0 x1 x2} : Ends s (exec (.kmacVerify x0 x1 x2) s) := execKmacVerify_evolves (Evolves.refl s)
theorem exec_chAcq_ends {x0 x1 x2} : Ends s (exec (.chAcq x0 x1 x2) s) := execChAcq_evolves (Evolves.refl s)
theorem exec_chAcqWake_ends {x0} : Ends s (exec (.chAcqWake x0) s) := execChAcqWake_evolves (Evolves.refl s)
theorem exec_chTryacq_ends {x0 x1 x2} : Ends s (exec (.chTryacq x0 x1 x2) s) := execChTryacq_evolves (Evolves.refl s)
theorem exec_chPost_ends {x0 x1 x2 x3} : Ends s (exec (.chPost x0 x1 x2 x3) s) := execChPost_evolves (Evolves.refl s)
theorem exec_chDrop_ends {x0 x1 x2} : Ends s (exec (.chDrop x0 x1 x2) s) := execChDrop_evolves (Evolves.refl s)
theorem exec_chRecv_ends {x0 x1 x2} : Ends s (exec (.chRecv x0 x1 x2) s) := execChRecv_evolves (Evolves.refl s)
theorem exec_chRecvWake_ends {x0} : Ends s (exec (.chRecvWake x0) s) := execChRecvWake_evolves (Evolves.refl s)
theorem exec_chTryrecv_ends {x0 x1 x2} : Ends s (exec (.chTryrecv x0 x1 x2) s) := execChTryrecv_evolves (Evolves.refl s)
theorem exec_chFree_ends {x0 x1 x2} : Ends s (exec (.chFree x0 x1 x2) s) := execChFree_evolves (Evolves.refl s)
theorem exec_evWait_ends {x0 x1 x2 x3} : Ends s (exec (.evWait x0 x1 x2 x3) s) := execEvWait_evolves (Evolves.refl s)
theorem exec_evWaitWake_ends {x0} : Ends s (exec (.evWaitWake x0) s) := execEvWaitWake_evolves (Evolves.refl s)
theorem exec_evWaitTimeout_ends {x0} : Ends s (exec (.evWaitTimeout x0) s) := execEvWaitTimeout_evolves (Evolves.refl s)
theorem exec_evPoll_ends {x0 x1 x2} : Ends s (exec (.evPoll x0 x1 x2) s) := execEvPoll_evolves (Evolves.refl s)
theorem exec_evSend_ends {x0 x1 x2 x3} : Ends s (exec (.evSend x0 x1 x2 x3) s) := execEvSend_evolves (Evolves.refl s)
theorem exec_threadSwitch_ends {x0 x1} : Ends s (exec (.threadSwitch x0 x1) s) := execThreadSwitch_evolves (Evolves.refl s)
theorem exec_ctxWrite_ends {x0 x1} : Ends s (exec (.ctxWrite x0 x1) s) := execCtxWrite_evolves (Evolves.refl s)
theorem exec_ctxRead_ends {x0 x1} : Ends s (exec (.ctxRead x0 x1) s) := execCtxRead_evolves (Evolves.refl s)
theorem exec_ctxRelease_ends {x0 x1} : Ends s (exec (.ctxRelease x0 x1) s) := execCtxRelease_evolves (Evolves.refl s)
theorem exec_ctxReset_ends {x0 x1} : Ends s (exec (.ctxReset x0 x1) s) := execCtxReset_evolves (Evolves.refl s)
theorem exec_interruptFileWrite_ends {x0 x1 x2} : Ends s (exec (.interruptFileWrite x0 x1 x2) s) := execInterruptFileWrite_evolves (Evolves.refl s)
theorem exec_timerInterrupt_ends {x0} : Ends s (exec (.timerInterrupt x0) s) := execTimerInterrupt_evolves (Evolves.refl s)
theorem exec_deviceChannelWrite_ends : Ends s (exec .deviceChannelWrite s) := execDeviceChannelWrite_evolves (Evolves.refl s)
theorem exec_portTxProcess_ends {x0} : Ends s (exec (.portTxProcess x0) s) := execPortTxProcess_evolves (Evolves.refl s)
theorem exec_debugHalt_ends {x0} : Ends s (exec (.debugHalt x0) s) := execDebugHalt_evolves (Evolves.refl s)
theorem exec_debugResume_ends {x0} : Ends s (exec (.debugResume x0) s) := execDebugResume_evolves (Evolves.refl s)
theorem exec_deadlock_ends {x0} : Ends s (exec (.deadlock x0) s) := execDeadlock_evolves (Evolves.refl s)
theorem exec_pmuFreeze_ends {x0 x1} : Ends s (exec (.pmuFreeze x0 x1) s) := execPmuFreeze_evolves (Evolves.refl s)
theorem exec_pmuThawAt_ends {x0 x1} : Ends s (exec (.pmuThawAt x0 x1) s) := execPmuThawAt_evolves (Evolves.refl s)
theorem exec_pmuThawNow_ends {x0 x1} : Ends s (exec (.pmuThawNow x0 x1) s) := execPmuThawNow_evolves (Evolves.refl s)
theorem exec_pmuDisarm_ends {x0 x1} : Ends s (exec (.pmuDisarm x0 x1) s) := execPmuDisarm_evolves (Evolves.refl s)
theorem exec_pmuInstant_ends {x0} : Ends s (exec (.pmuInstant x0) s) := execPmuInstant_evolves (Evolves.refl s)
theorem exec_samplerOverflow_ends {x0 x1 x2} : Ends s (exec (.samplerOverflow x0 x1 x2) s) := execSamplerOverflow_evolves (Evolves.refl s)
theorem exec_hostLinkUp_ends {x0 x1 x2 x3} : Ends s (exec (.hostLinkUp x0 x1 x2 x3) s) := execHostLinkUp_evolves (Evolves.refl s)
theorem exec_hostLinkDown_ends {x0} : Ends s (exec (.hostLinkDown x0) s) := execHostLinkDown_evolves (Evolves.refl s)
theorem exec_hostPerstAssert_ends {x0} : Ends s (exec (.hostPerstAssert x0) s) := execHostPerstAssert_evolves (Evolves.refl s)
theorem exec_hostPerstRelease_ends {x0} : Ends s (exec (.hostPerstRelease x0) s) := execHostPerstRelease_evolves (Evolves.refl s)
theorem exec_functionLevelReset_ends {x0 x1} : Ends s (exec (.functionLevelReset x0 x1) s) := execFunctionLevelReset_evolves (Evolves.refl s)
theorem exec_doorbellTxTail_ends {x0 x1 x2} : Ends s (exec (.doorbellTxTail x0 x1 x2) s) := execDoorbellTxTail_evolves (Evolves.refl s)
theorem exec_doorbellRxTail_ends {x0 x1 x2} : Ends s (exec (.doorbellRxTail x0 x1 x2) s) := execDoorbellRxTail_evolves (Evolves.refl s)
theorem exec_doorbellCqHead_ends {x0 x1 x2} : Ends s (exec (.doorbellCqHead x0 x1 x2) s) := execDoorbellCqHead_evolves (Evolves.refl s)
theorem exec_hostTxFetch_ends {x0 x1} : Ends s (exec (.hostTxFetch x0 x1) s) := execHostTxFetch_evolves (Evolves.refl s)
theorem exec_hostRxWrite_ends {x0} : Ends s (exec (.hostRxWrite x0) s) := execHostRxWrite_evolves (Evolves.refl s)
theorem exec_msixModeration_ends {x0} : Ends s (exec (.msixModeration x0) s) := execMsixModeration_evolves (Evolves.refl s)
theorem exec_lkaHostDoorbell_ends {x0 x1 x2} : Ends s (exec (.lkaHostDoorbell x0 x1 x2) s) := execLkaHostDoorbell_evolves (Evolves.refl s)
theorem exec_dlogFlush_ends {x0} : Ends s (exec (.dlogFlush x0) s) := execDlogFlush_evolves (Evolves.refl s)
theorem exec_dlogSwap_ends {x0 x1} : Ends s (exec (.dlogSwap x0 x1) s) := execDlogSwap_evolves (Evolves.refl s)
theorem exec_dlogSwapDone_ends {x0} : Ends s (exec (.dlogSwapDone x0) s) := execDlogSwapDone_evolves (Evolves.refl s)
theorem exec_mbxOpen_ends {x0 x1} : Ends s (exec (.mbxOpen x0 x1) s) := execMbxOpen_evolves (Evolves.refl s)
theorem exec_mbxWrite_ends {x0 x1 x2 x3 x4} : Ends s (exec (.mbxWrite x0 x1 x2 x3 x4) s) := execMbxWrite_evolves (Evolves.refl s)
theorem exec_mbxClose_ends {x0 x1} : Ends s (exec (.mbxClose x0 x1) s) := execMbxClose_evolves (Evolves.refl s)
theorem exec_mbxAbort_ends {x0} : Ends s (exec (.mbxAbort x0) s) := execMbxAbort_evolves (Evolves.refl s)
theorem exec_nvmeDoorbell_ends {x0 x1} : Ends s (exec (.nvmeDoorbell x0 x1) s) := execNvmeDoorbell_evolves (Evolves.refl s)
theorem exec_nvmeDone_ends {x0 x1} : Ends s (exec (.nvmeDone x0 x1) s) := execNvmeDone_evolves (Evolves.refl s)
theorem exec_nvmeTimeout_ends {x0} : Ends s (exec (.nvmeTimeout x0) s) := execNvmeTimeout_evolves (Evolves.refl s)
theorem exec_nvmeCcDisable_ends {x0} : Ends s (exec (.nvmeCcDisable x0) s) := execNvmeCcDisable_evolves (Evolves.refl s)
theorem exec_hbmAccess_ends {x0} : Ends s (exec (.hbmAccess x0) s) := execHbmAccess_evolves (Evolves.refl s)
theorem exec_rhWindowStep_ends {x0} : Ends s (exec (.rhWindowStep x0) s) := execRhWindowStep_evolves (Evolves.refl s)
theorem exec_rhLogReadHead_ends {x0 x1} : Ends s (exec (.rhLogReadHead x0 x1) s) := execRhLogReadHead_evolves (Evolves.refl s)
theorem exec_rhLogReadPop_ends {x0 x1} : Ends s (exec (.rhLogReadPop x0 x1) s) := execRhLogReadPop_evolves (Evolves.refl s)
theorem exec_pageIdlePrecharge_ends {x0 x1 x2} : Ends s (exec (.pageIdlePrecharge x0 x1 x2) s) := execPageIdlePrecharge_evolves (Evolves.refl s)
theorem exec_tempReadout_ends {x0 x1} : Ends s (exec (.tempReadout x0 x1) s) := execTempReadout_evolves (Evolves.refl s)
theorem exec_refresh_ends {x0} : Ends s (exec (.refresh x0) s) := execRefresh_evolves (Evolves.refl s)
theorem exec_patrolScrub_ends {x0 x1} : Ends s (exec (.patrolScrub x0 x1) s) := execPatrolScrub_evolves (Evolves.refl s)
theorem exec_rasRetire_ends {x0 x1 x2} : Ends s (exec (.rasRetire x0 x1 x2) s) := execRasRetire_evolves (Evolves.refl s)
theorem exec_rasVerify_ends {x0 x1 x2} : Ends s (exec (.rasVerify x0 x1 x2) s) := execRasVerify_evolves (Evolves.refl s)
theorem exec_verifyDone_ends {x0 x1} : Ends s (exec (.verifyDone x0 x1) s) := execVerifyDone_evolves (Evolves.refl s)
theorem exec_migrationCopyLine_ends {x0 x1} : Ends s (exec (.migrationCopyLine x0 x1) s) := execMigrationCopyLine_evolves (Evolves.refl s)
theorem exec_retirementRecordWrite_ends : Ends s (exec .retirementRecordWrite s) := execRetirementRecordWrite_evolves (Evolves.refl s)
theorem exec_selfRefreshEntry_ends {x0 x1} : Ends s (exec (.selfRefreshEntry x0 x1) s) := execSelfRefreshEntry_evolves (Evolves.refl s)
theorem exec_selfRefreshExit_ends {x0} : Ends s (exec (.selfRefreshExit x0) s) := execSelfRefreshExit_evolves (Evolves.refl s)
theorem exec_blockFatal_ends {x0 x1} : Ends s (exec (.blockFatal x0 x1) s) := execBlockFatal_evolves (Evolves.refl s)
theorem exec_blockAutoRelease_ends {x0 x1} : Ends s (exec (.blockAutoRelease x0 x1) s) := execBlockAutoRelease_evolves (Evolves.refl s)
theorem exec_regionFatal_ends {x0 x1} : Ends s (exec (.regionFatal x0 x1) s) := execRegionFatal_evolves (Evolves.refl s)
theorem exec_rgnRun_ends {x0 x1} : Ends s (exec (.rgnRun x0 x1) s) := execRgnRun_evolves (Evolves.refl s)
theorem exec_rgnReset_ends {x0 x1} : Ends s (exec (.rgnReset x0 x1) s) := execRgnReset_evolves (Evolves.refl s)
theorem exec_rgnPowerDown_ends {x0 x1} : Ends s (exec (.rgnPowerDown x0 x1) s) := execRgnPowerDown_evolves (Evolves.refl s)
theorem exec_regionAbsent_ends {x0} : Ends s (exec (.regionAbsent x0) s) := execRegionAbsent_evolves (Evolves.refl s)
theorem exec_regionRelease_ends {x0} : Ends s (exec (.regionRelease x0) s) := execRegionRelease_evolves (Evolves.refl s)
theorem exec_regionReady_ends {x0} : Ends s (exec (.regionReady x0) s) := execRegionReady_evolves (Evolves.refl s)
theorem exec_replyTimeout_ends {x0} : Ends s (exec (.replyTimeout x0) s) := execReplyTimeout_evolves (Evolves.refl s)
theorem exec_epochDiscard_ends {x0} : Ends s (exec (.epochDiscard x0) s) := execEpochDiscard_evolves (Evolves.refl s)
theorem exec_d2dModuleFail_ends : Ends s (exec .d2dModuleFail s) := execD2dModuleFail_evolves (Evolves.refl s)
theorem exec_chipFatal_ends {x0} : Ends s (exec (.chipFatal x0) s) := execChipFatal_evolves (Evolves.refl s)
theorem exec_failsafeAutoReset_ends : Ends s (exec .failsafeAutoReset s) := execFailsafeAutoReset_evolves (Evolves.refl s)
theorem exec_svcStatus_ends {x0 x1} : Ends s (exec (.svcStatus x0 x1) s) := execSvcStatus_evolves (Evolves.refl s)
theorem exec_svcRegRead_ends {x0 x1} : Ends s (exec (.svcRegRead x0 x1) s) := execSvcRegRead_evolves (Evolves.refl s)
theorem exec_svcRegWrite_ends {x0 x1} : Ends s (exec (.svcRegWrite x0 x1) s) := execSvcRegWrite_evolves (Evolves.refl s)
theorem exec_svcOpen_ends {x0 x1 x2} : Ends s (exec (.svcOpen x0 x1 x2) s) := execSvcOpen_evolves (Evolves.refl s)
theorem exec_svcWrite_ends {x0 x1 x2} : Ends s (exec (.svcWrite x0 x1 x2) s) := execSvcWrite_evolves (Evolves.refl s)
theorem exec_svcClose_ends {x0 x1 x2} : Ends s (exec (.svcClose x0 x1 x2) s) := execSvcClose_evolves (Evolves.refl s)
theorem exec_svcAbort_ends {x0 x1} : Ends s (exec (.svcAbort x0 x1) s) := execSvcAbort_evolves (Evolves.refl s)
theorem exec_svcActivate_ends {x0 x1} : Ends s (exec (.svcActivate x0 x1) s) := execSvcActivate_evolves (Evolves.refl s)
theorem exec_svcReset_ends {x0 x1} : Ends s (exec (.svcReset x0 x1) s) := execSvcReset_evolves (Evolves.refl s)
theorem exec_svcRecovery_ends {x0 x1} : Ends s (exec (.svcRecovery x0 x1) s) := execSvcRecovery_evolves (Evolves.refl s)
theorem exec_svcAttest_ends {x0 x1} : Ends s (exec (.svcAttest x0 x1) s) := execSvcAttest_evolves (Evolves.refl s)
theorem exec_sessionTimeout_ends : Ends s (exec .sessionTimeout s) := execSessionTimeout_evolves (Evolves.refl s)
theorem exec_activate_ends {x0 x1} : Ends s (exec (.activate x0 x1) s) := execActivate_evolves (Evolves.refl s)
theorem exec_confirm_ends {x0 x1} : Ends s (exec (.confirm x0 x1) s) := execConfirm_evolves (Evolves.refl s)
theorem exec_fallback_ends {x0 x1} : Ends s (exec (.fallback x0 x1) s) := execFallback_evolves (Evolves.refl s)
theorem exec_glide_ends {x0 x1} : Ends s (exec (.glide x0 x1) s) := execGlide_evolves (Evolves.refl s)
theorem exec_resume_ends {x0 x1} : Ends s (exec (.resume x0 x1) s) := execResume_evolves (Evolves.refl s)
theorem exec_imgRecovery_ends {x0 x1} : Ends s (exec (.imgRecovery x0 x1) s) := execImgRecovery_evolves (Evolves.refl s)
theorem exec_fuseSec_ends {x0 x1} : Ends s (exec (.fuseSec x0 x1) s) := execFuseSec_evolves (Evolves.refl s)
theorem exec_revokeKey_ends {x0 x1} : Ends s (exec (.revokeKey x0 x1) s) := execRevokeKey_evolves (Evolves.refl s)
theorem exec_glideImageVerified_ends {x0} : Ends s (exec (.glideImageVerified x0) s) := execGlideImageVerified_evolves (Evolves.refl s)
theorem exec_gapTimeout_ends : Ends s (exec .gapTimeout s) := execGapTimeout_evolves (Evolves.refl s)
theorem exec_glideWatchdog_ends : Ends s (exec .glideWatchdog s) := execGlideWatchdog_evolves (Evolves.refl s)
theorem exec_setWrite_ends {x0 x1} : Ends s (exec (.setWrite x0 x1) s) := execSetWrite_evolves (Evolves.refl s)
theorem exec_setDone_ends {x0} : Ends s (exec (.setDone x0) s) := execSetDone_evolves (Evolves.refl s)
theorem exec_attReport_ends {x0} : Ends s (exec (.attReport x0) s) := execAttReport_evolves (Evolves.refl s)
theorem exec_attExtend_ends {x0} : Ends s (exec (.attExtend x0) s) := execAttExtend_evolves (Evolves.refl s)
theorem exec_attDone_ends : Ends s (exec .attDone s) := execAttDone_evolves (Evolves.refl s)
theorem exec_thermSample_ends {x0} : Ends s (exec (.thermSample x0) s) := execThermSample_evolves (Evolves.refl s)
theorem exec_dieToDieLinkUp_ends {x0} : Ends s (exec (.dieToDieLinkUp x0) s) := execDieToDieLinkUp_evolves (Evolves.refl s)
theorem exec_poolCacheRefill_ends {x0} : Ends s (exec (.poolCacheRefill x0) s) := execPoolCacheRefill_evolves (Evolves.refl s)
theorem exec_poolCacheDrain_ends {x0} : Ends s (exec (.poolCacheDrain x0) s) := execPoolCacheDrain_evolves (Evolves.refl s)
theorem exec_configurationRequest_ends {x0 x1} : Ends s (exec (.configurationRequest x0 x1) s) := execConfigurationRequest_evolves (Evolves.refl s)
theorem exec_nvmeControllerEnable_ends {x0} : Ends s (exec (.nvmeControllerEnable x0) s) := execNvmeControllerEnable_evolves (Evolves.refl s)
theorem exec_ppsOutPulseEnd_ends {x0} : Ends s (exec (.ppsOutPulseEnd x0) s) := execPpsOutPulseEnd_evolves (Evolves.refl s)
theorem exec_supplyStatusUpdate_ends {x0} : Ends s (exec (.supplyStatusUpdate x0) s) := execSupplyStatusUpdate_evolves (Evolves.refl s)
theorem exec_neighbourDiscoveryOrArp_ends {x0} : Ends s (exec (.neighbourDiscoveryOrArp x0) s) := execNeighbourDiscoveryOrArp_evolves (Evolves.refl s)

/-- A command that answers a next state evolves the state. -/
theorem exec_ends (c : Instr) (s : State) : Ends s (exec c s) := by
  cases c
  case clockTick => exact exec_clockTick_ends
  case incrFracWrite => exact exec_incrFracWrite_ends
  case firmwareOffsetPush => exact exec_firmwareOffsetPush_ends
  case servoOffset => exact exec_servoOffset_ends
  case servoTimeout => exact exec_servoTimeout_ends
  case modeFree => exact exec_modeFree_ends
  case modeServo => exact exec_modeServo_ends
  case modeForceSnow => exact exec_modeForceSnow_ends
  case refHoldUpdate => exact exec_refHoldUpdate_ends
  case validDeclare => exact exec_validDeclare_ends
  case domStep => exact exec_domStep_ends
  case setsecArm => exact exec_setsecArm_ends
  case setsecLoad => exact exec_setsecLoad_ends
  case switchNextSlot => exact exec_switchNextSlot_ends
  case switchTimedArm => exact exec_switchTimedArm_ends
  case switchDisarm => exact exec_switchDisarm_ends
  case activeSwitch => exact exec_activeSwitch_ends
  case revertWtrExpiry => exact exec_revertWtrExpiry_ends
  case slotStart => exact exec_slotStart_ends
  case cycleStart => exact exec_cycleStart_ends
  case perSecondLatch => exact exec_perSecondLatch_ends
  case onestepDepart => exact exec_onestepDepart_ends
  case tsqReadHead => exact exec_tsqReadHead_ends
  case tsqReadPop => exact exec_tsqReadPop_ends
  case lossReadHead => exact exec_lossReadHead_ends
  case lossReadPop => exact exec_lossReadPop_ends
  case ppsOutEdge => exact exec_ppsOutEdge_ends
  case ppsInEdge => exact exec_ppsInEdge_ends
  case ppsinLoss => exact exec_ppsinLoss_ends
  case todRxMessage => exact exec_todRxMessage_ends
  case todRxdataRead => exact exec_todRxdataRead_ends
  case todTxMessage => exact exec_todTxMessage_ends
  case refQualify => exact exec_refQualify_ends
  case refLoss => exact exec_refLoss_ends
  case ptmDialog => exact exec_ptmDialog_ends
  case vsb33Rise => exact exec_vsb33Rise_ends
  case vsb33Present => exact exec_vsb33Present_ends
  case vin12Valid => exact exec_vin12Valid_ends
  case railsInTolerance => exact exec_railsInTolerance_ends
  case resetNFall => exact exec_resetNFall_ends
  case resetNRise => exact exec_resetNRise_ends
  case chipResetWrite => exact exec_chipResetWrite_ends
  case vin12Loss => exact exec_vin12Loss_ends
  case vin12Low => exact exec_vin12Low_ends
  case vsb33Loss => exact exec_vsb33Loss_ends
  case bootStart => exact exec_bootStart_ends
  case bidReadDone => exact exec_bidReadDone_ends
  case hbmVerifyDone => exact exec_hbmVerifyDone_ends
  case imageVerifyDone => exact exec_imageVerifyDone_ends
  case writeListApply => exact exec_writeListApply_ends
  case fwLoadRelease => exact exec_fwLoadRelease_ends
  case cmisSweep => exact exec_cmisSweep_ends
  case fwdReady => exact exec_fwdReady_ends
  case fwdWaitExpiry => exact exec_fwdWaitExpiry_ends
  case healthTimeout => exact exec_healthTimeout_ends
  case wtLate => exact exec_wtLate_ends
  case declareFirst => exact exec_declareFirst_ends
  case registerWrite => exact exec_registerWrite_ends
  case latchWordRead => exact exec_latchWordRead_ends
  case counterReadClear => exact exec_counterReadClear_ends
  case cpScrub => exact exec_cpScrub_ends
  case winRead => exact exec_winRead_ends
  case winWrite => exact exec_winWrite_ends
  case winClear => exact exec_winClear_ends
  case winReadClear => exact exec_winReadClear_ends
  case bcauseClear => exact exec_bcauseClear_ends
  case bcauseSet => exact exec_bcauseSet_ends
  case bresetHold => exact exec_bresetHold_ends
  case bresetRelease => exact exec_bresetRelease_ends
  case intgLogReadHead => exact exec_intgLogReadHead_ends
  case intgLogReadPop => exact exec_intgLogReadPop_ends
  case snapCopyArm => exact exec_snapCopyArm_ends
  case snapFreezeArm => exact exec_snapFreezeArm_ends
  case snapThawAt => exact exec_snapThawAt_ends
  case snapThawNow => exact exec_snapThawNow_ends
  case snapDisarm => exact exec_snapDisarm_ends
  case snapInstant => exact exec_snapInstant_ends
  case snapDone => exact exec_snapDone_ends
  case portCfgWrite => exact exec_portCfgWrite_ends
  case portDisable => exact exec_portDisable_ends
  case octRateWrite => exact exec_octRateWrite_ends
  case maxlenWrite => exact exec_maxlenWrite_ends
  case portUp => exact exec_portUp_ends
  case portDown => exact exec_portDown_ends
  case anFail => exact exec_anFail_ends
  case rxFrame => exact exec_rxFrame_ends
  case pauseExpiry => exact exec_pauseExpiry_ends
  case txFrame => exact exec_txFrame_ends
  case portCntClr => exact exec_portCntClr_ends
  case portSleep => exact exec_portSleep_ends
  case portWakeWrite => exact exec_portWakeWrite_ends
  case wakeMatch => exact exec_wakeMatch_ends
  case wakeComplete => exact exec_wakeComplete_ends
  case modPoll => exact exec_modPoll_ends
  case modAccRead => exact exec_modAccRead_ends
  case modAccWrite => exact exec_modAccWrite_ends
  case modAccDone => exact exec_modAccDone_ends
  case ingressAccept => exact exec_ingressAccept_ends
  case parseDispatch => exact exec_parseDispatch_ends
  case parseNop => exact exec_parseNop_ends
  case parseExt => exact exec_parseExt_ends
  case parseHvx => exact exec_parseHvx_ends
  case parseHvr => exact exec_parseHvr_ends
  case parseLdi => exact exec_parseLdi_ends
  case parseAlu => exact exec_parseAlu_ends
  case parseCmp => exact exec_parseCmp_ends
  case parseBr => exact exec_parseBr_ends
  case parseSwt => exact exec_parseSwt_ends
  case parseAdv => exact exec_parseAdv_ends
  case parseMark => exact exec_parseMark_ends
  case parseFlag => exact exec_parseFlag_ends
  case parseHsel => exact exec_parseHsel_ends
  case parseExc => exact exec_parseExc_ends
  case parseDone => exact exec_parseDone_ends
  case lookup => exact exec_lookup_ends
  case longProbeLookup => exact exec_longProbeLookup_ends
  case farLookup => exact exec_farLookup_ends
  case emInsert => exact exec_emInsert_ends
  case emDelete => exact exec_emDelete_ends
  case emSearch => exact exec_emSearch_ends
  case emUpdate => exact exec_emUpdate_ends
  case lpmInsert => exact exec_lpmInsert_ends
  case lpmDelete => exact exec_lpmDelete_ends
  case lpmSearch => exact exec_lpmSearch_ends
  case lpmUpdate => exact exec_lpmUpdate_ends
  case rebuild => exact exec_rebuild_ends
  case rebuildDone => exact exec_rebuildDone_ends
  case egressRewrite => exact exec_egressRewrite_ends
  case learnEngine => exact exec_learnEngine_ends
  case lrnInsert => exact exec_lrnInsert_ends
  case lrnDelete => exact exec_lrnDelete_ends
  case lrnSearch => exact exec_lrnSearch_ends
  case flush => exact exec_flush_ends
  case flushDone => exact exec_flushDone_ends
  case notePost => exact exec_notePost_ends
  case agingSweepStart => exact exec_agingSweepStart_ends
  case agingVisit => exact exec_agingVisit_ends
  case ascRead => exact exec_ascRead_ends
  case ascWrite => exact exec_ascWrite_ends
  case ascClear => exact exec_ascClear_ends
  case insertAt => exact exec_insertAt_ends
  case setv => exact exec_setv_ends
  case ascDelete => exact exec_ascDelete_ends
  case ascUpdate => exact exec_ascUpdate_ends
  case ascMove => exact exec_ascMove_ends
  case ascSearch => exact exec_ascSearch_ends
  case moverCopy => exact exec_moverCopy_ends
  case slotSteal => exact exec_slotSteal_ends
  case scrubRewrite => exact exec_scrubRewrite_ends
  case scrubLine => exact exec_scrubLine_ends
  case verCommit => exact exec_verCommit_ends
  case verArm => exact exec_verArm_ends
  case verDisarm => exact exec_verDisarm_ends
  case forceRetire => exact exec_forceRetire_ends
  case pauseApply => exact exec_pauseApply_ends
  case verSeqWrite => exact exec_verSeqWrite_ends
  case commitInstant => exact exec_commitInstant_ends
  case retire => exact exec_retire_ends
  case retireLate => exact exec_retireLate_ends
  case batchWrite => exact exec_batchWrite_ends
  case pauseAbort => exact exec_pauseAbort_ends
  case packetAdmit => exact exec_packetAdmit_ends
  case cellFree => exact exec_cellFree_ends
  case spillWrite => exact exec_spillWrite_ends
  case spillReadback => exact exec_spillReadback_ends
  case spillCacheRefill => exact exec_spillCacheRefill_ends
  case spillCacheDrain => exact exec_spillCacheDrain_ends
  case spillInit => exact exec_spillInit_ends
  case initDone => exact exec_initDone_ends
  case replExpand => exact exec_replExpand_ends
  case sharedRelease => exact exec_sharedRelease_ends
  case sharedFree => exact exec_sharedFree_ends
  case poolAlloc => exact exec_poolAlloc_ends
  case poolFree => exact exec_poolFree_ends
  case poolRelease => exact exec_poolRelease_ends
  case poolShare => exact exec_poolShare_ends
  case poolInit => exact exec_poolInit_ends
  case poolLogReadHead => exact exec_poolLogReadHead_ends
  case poolLogReadPop => exact exec_poolLogReadPop_ends
  case voqRelease => exact exec_voqRelease_ends
  case stallFlush => exact exec_stallFlush_ends
  case egressSelect => exact exec_egressSelect_ends
  case shaperEpoch => exact exec_shaperEpoch_ends
  case pfcRefresh => exact exec_pfcRefresh_ends
  case pisteArm => exact exec_pisteArm_ends
  case pisteDisarm => exact exec_pisteDisarm_ends
  case pisteSwap => exact exec_pisteSwap_ends
  case slotFill => exact exec_slotFill_ends
  case slotRx => exact exec_slotRx_ends
  case cellRx => exact exec_cellRx_ends
  case relayAged => exact exec_relayAged_ends
  case gapTimerExpiry => exact exec_gapTimerExpiry_ends
  case expUnset => exact exec_expUnset_ends
  case ovcPinFrameRx => exact exec_ovcPinFrameRx_ends
  case ovcChannelFrameRx => exact exec_ovcChannelFrameRx_ends
  case ovcPinFrameTx => exact exec_ovcPinFrameTx_ends
  case ovcChannelFrameTx => exact exec_ovcChannelFrameTx_ends
  case ovcTxQueue => exact exec_ovcTxQueue_ends
  case ovcRxPop => exact exec_ovcRxPop_ends
  case ovcCtrlWrite => exact exec_ovcCtrlWrite_ends
  case keyRead => exact exec_keyRead_ends
  case loadPlain => exact exec_loadPlain_ends
  case loadWrapped => exact exec_loadWrapped_ends
  case keyExport => exact exec_keyExport_ends
  case zeroise => exact exec_zeroise_ends
  case rngFail => exact exec_rngFail_ends
  case rngRecover => exact exec_rngRecover_ends
  case espInbound => exact exec_espInbound_ends
  case lkaProducerWrite => exact exec_lkaProducerWrite_ends
  case gcmEnc => exact exec_gcmEnc_ends
  case gcmDec => exact exec_gcmDec_ends
  case xtsEnc => exact exec_xtsEnc_ends
  case xtsDec => exact exec_xtsDec_ends
  case kmac => exact exec_kmac_ends
  case kmacVerify => exact exec_kmacVerify_ends
  case chAcq => exact exec_chAcq_ends
  case chAcqWake => exact exec_chAcqWake_ends
  case chTryacq => exact exec_chTryacq_ends
  case chPost => exact exec_chPost_ends
  case chDrop => exact exec_chDrop_ends
  case chRecv => exact exec_chRecv_ends
  case chRecvWake => exact exec_chRecvWake_ends
  case chTryrecv => exact exec_chTryrecv_ends
  case chFree => exact exec_chFree_ends
  case evWait => exact exec_evWait_ends
  case evWaitWake => exact exec_evWaitWake_ends
  case evWaitTimeout => exact exec_evWaitTimeout_ends
  case evPoll => exact exec_evPoll_ends
  case evSend => exact exec_evSend_ends
  case threadSwitch => exact exec_threadSwitch_ends
  case ctxWrite => exact exec_ctxWrite_ends
  case ctxRead => exact exec_ctxRead_ends
  case ctxRelease => exact exec_ctxRelease_ends
  case ctxReset => exact exec_ctxReset_ends
  case interruptFileWrite => exact exec_interruptFileWrite_ends
  case timerInterrupt => exact exec_timerInterrupt_ends
  case deviceChannelWrite => exact exec_deviceChannelWrite_ends
  case portTxProcess => exact exec_portTxProcess_ends
  case debugHalt => exact exec_debugHalt_ends
  case debugResume => exact exec_debugResume_ends
  case deadlock => exact exec_deadlock_ends
  case pmuFreeze => exact exec_pmuFreeze_ends
  case pmuThawAt => exact exec_pmuThawAt_ends
  case pmuThawNow => exact exec_pmuThawNow_ends
  case pmuDisarm => exact exec_pmuDisarm_ends
  case pmuInstant => exact exec_pmuInstant_ends
  case samplerOverflow => exact exec_samplerOverflow_ends
  case hostLinkUp => exact exec_hostLinkUp_ends
  case hostLinkDown => exact exec_hostLinkDown_ends
  case hostPerstAssert => exact exec_hostPerstAssert_ends
  case hostPerstRelease => exact exec_hostPerstRelease_ends
  case functionLevelReset => exact exec_functionLevelReset_ends
  case doorbellTxTail => exact exec_doorbellTxTail_ends
  case doorbellRxTail => exact exec_doorbellRxTail_ends
  case doorbellCqHead => exact exec_doorbellCqHead_ends
  case hostTxFetch => exact exec_hostTxFetch_ends
  case hostRxWrite => exact exec_hostRxWrite_ends
  case msixModeration => exact exec_msixModeration_ends
  case lkaHostDoorbell => exact exec_lkaHostDoorbell_ends
  case dlogFlush => exact exec_dlogFlush_ends
  case dlogSwap => exact exec_dlogSwap_ends
  case dlogSwapDone => exact exec_dlogSwapDone_ends
  case mbxOpen => exact exec_mbxOpen_ends
  case mbxWrite => exact exec_mbxWrite_ends
  case mbxClose => exact exec_mbxClose_ends
  case mbxAbort => exact exec_mbxAbort_ends
  case nvmeDoorbell => exact exec_nvmeDoorbell_ends
  case nvmeDone => exact exec_nvmeDone_ends
  case nvmeTimeout => exact exec_nvmeTimeout_ends
  case nvmeCcDisable => exact exec_nvmeCcDisable_ends
  case hbmAccess => exact exec_hbmAccess_ends
  case rhWindowStep => exact exec_rhWindowStep_ends
  case rhLogReadHead => exact exec_rhLogReadHead_ends
  case rhLogReadPop => exact exec_rhLogReadPop_ends
  case pageIdlePrecharge => exact exec_pageIdlePrecharge_ends
  case tempReadout => exact exec_tempReadout_ends
  case refresh => exact exec_refresh_ends
  case patrolScrub => exact exec_patrolScrub_ends
  case rasRetire => exact exec_rasRetire_ends
  case rasVerify => exact exec_rasVerify_ends
  case verifyDone => exact exec_verifyDone_ends
  case migrationCopyLine => exact exec_migrationCopyLine_ends
  case retirementRecordWrite => exact exec_retirementRecordWrite_ends
  case selfRefreshEntry => exact exec_selfRefreshEntry_ends
  case selfRefreshExit => exact exec_selfRefreshExit_ends
  case blockFatal => exact exec_blockFatal_ends
  case blockAutoRelease => exact exec_blockAutoRelease_ends
  case regionFatal => exact exec_regionFatal_ends
  case rgnRun => exact exec_rgnRun_ends
  case rgnReset => exact exec_rgnReset_ends
  case rgnPowerDown => exact exec_rgnPowerDown_ends
  case regionAbsent => exact exec_regionAbsent_ends
  case regionRelease => exact exec_regionRelease_ends
  case regionReady => exact exec_regionReady_ends
  case replyTimeout => exact exec_replyTimeout_ends
  case epochDiscard => exact exec_epochDiscard_ends
  case d2dModuleFail => exact exec_d2dModuleFail_ends
  case chipFatal => exact exec_chipFatal_ends
  case failsafeAutoReset => exact exec_failsafeAutoReset_ends
  case svcStatus => exact exec_svcStatus_ends
  case svcRegRead => exact exec_svcRegRead_ends
  case svcRegWrite => exact exec_svcRegWrite_ends
  case svcOpen => exact exec_svcOpen_ends
  case svcWrite => exact exec_svcWrite_ends
  case svcClose => exact exec_svcClose_ends
  case svcAbort => exact exec_svcAbort_ends
  case svcActivate => exact exec_svcActivate_ends
  case svcReset => exact exec_svcReset_ends
  case svcRecovery => exact exec_svcRecovery_ends
  case svcAttest => exact exec_svcAttest_ends
  case sessionTimeout => exact exec_sessionTimeout_ends
  case activate => exact exec_activate_ends
  case confirm => exact exec_confirm_ends
  case fallback => exact exec_fallback_ends
  case glide => exact exec_glide_ends
  case resume => exact exec_resume_ends
  case imgRecovery => exact exec_imgRecovery_ends
  case fuseSec => exact exec_fuseSec_ends
  case revokeKey => exact exec_revokeKey_ends
  case glideImageVerified => exact exec_glideImageVerified_ends
  case gapTimeout => exact exec_gapTimeout_ends
  case glideWatchdog => exact exec_glideWatchdog_ends
  case setWrite => exact exec_setWrite_ends
  case setDone => exact exec_setDone_ends
  case attReport => exact exec_attReport_ends
  case attExtend => exact exec_attExtend_ends
  case attDone => exact exec_attDone_ends
  case thermSample => exact exec_thermSample_ends
  case dieToDieLinkUp => exact exec_dieToDieLinkUp_ends
  case poolCacheRefill => exact exec_poolCacheRefill_ends
  case poolCacheDrain => exact exec_poolCacheDrain_ends
  case configurationRequest => exact exec_configurationRequest_ends
  case nvmeControllerEnable => exact exec_nvmeControllerEnable_ends
  case ppsOutPulseEnd => exact exec_ppsOutPulseEnd_ends
  case supplyStatusUpdate => exact exec_supplyStatusUpdate_ends
  case neighbourDiscoveryOrArp => exact exec_neighbourDiscoveryOrArp_ends

end Sys2Proof.Machine
end

