-- ==== Sys2Proof/WellFormed.lean ====
section
/-! DEFINITION. Which commands the outside can give the device: the bounds of their operands that the operand types do not carry.
Every meaning is total, on an ill-formed command too; no statement about a meaning needs a bound that it does not name. -/

namespace Sys2Proof

/-- A register access has a width (R94). -/
def Access.wf (x : Access) : Bool := decide (0 < x.bytes)

/-- A message has at least one byte (R59). -/
def TodMessage.wf (x : TodMessage) : Bool := !x.bytes.isEmpty

/-- A frame has at least one byte, and at most eight lanes carry it (R114, R121). -/
def RxLine.wf (x : RxLine) : Bool := !x.frame.isEmpty && decide (x.symbols.length ≤ 8)

/-- No cage is named twice. -/
def cagesOnce (l : List (Fin 64)) : Bool := l.eraseDups.length == l.length

/-- An access reads 1 to 128 bytes (R134). -/
def ModReply.wf (x : ModReply) : Bool := decide (x.data.length ≤ 128)

/-- A cage read is a single module; its CMIS memory advertises at most 15 applications (R84). -/
def CageRead.wf : CageRead → Bool
  | .module_ _ apps _ _ => decide (apps.length ≤ 15)
  | _ => true

/-- A failing rank is named once (R443). -/
def StackCheck.wf (x : StackCheck) : Bool := x.failed.eraseDups.length == x.failed.length

/-- A lookaside request of a HOST ring is 64 bytes (R370). -/
def LkaIo.wf (x : LkaIo) : Bool := x.req.isEmpty || x.req.length == 64

/-- Transmit descriptors are 32 bytes each (R413). -/
def TxFetch.wf (x : TxFetch) : Bool := x.ring.length % 32 == 0

/-- Receive descriptors are 16 bytes each (R414). -/
def RxHost.wf (x : RxHost) : Bool := x.ring.length % 16 == 0

/-- A submission entry is 64 bytes (R426), and the data pieces hold as many bytes as they say. -/
def NvmeIn.wf (x : NvmeIn) : Bool :=
  x.entry.length == 64 && (x.data.isEmpty || x.data.length == (x.segs.map (·.2)).foldl (· + ·) 0)

/-- A request to a controller lies within one 64-byte line, and writes as many bytes as it names (R433). -/
def HbmReq.wf (x : HbmReq) : Bool :=
  decide (0 < x.len) && decide (x.addr.toNat % 64 + x.len ≤ 64) &&
  (match x.write with
  | some d => d.length == x.len
  | none => true)

/-- A slot holds 91 cells (R327). -/
def RxSlot.wf (x : RxSlot) : Bool :=
  match x.overrun with
  | some n => decide (n ≤ 91)
  | none => true

/-- TYPEs of service messages (R472). -/
def svcTypes : List Nat := [0x01, 0x02, 0x03, 0x10, 0x11, 0x12, 0x13, 0x20, 0x21, 0x22, 0x30]

/-- A message of a known TYPE has a row of its own. -/
def SvcFrame.wf : SvcFrame → Bool
  | .unknown t _ => !svcTypes.contains t.toNat
  | _ => true

/-- The board identity memory holds 2,048 bytes (R81). -/
def bidWf : Option (List Byte) → Bool
  | some b => b.length == 2048
  | none => true

/-- A command that the outside can give. -/
def Instr.wf : Instr → Bool
  | .todRxMessage x => x.wf
  | .registerWrite x _ _ | .latchWordRead x | .counterReadClear x => x.wf
  | .rxFrame _ x => x.wf
  | .wakeMatch _ frame => !frame.isEmpty
  | .modPoll polls => cagesOnce (polls.map (·.cage))
  | .modAccDone r => r.wf
  | .cmisSweep checks => cagesOnce (checks.map (·.cage)) && checks.all (fun x => x.read.wf)
  | .bidReadDone b => bidWf b
  | .hbmVerifyDone a b c d _ _ => a.wf && b.wf && c.wf && d.wf
  | .gcmEnc _ _ x | .gcmDec _ _ x | .xtsEnc _ _ x | .xtsDec _ _ x | .kmac _ _ x | .kmacVerify _ _ x => x.wf
  | .hostLinkUp _ _ width _ => [1, 2, 4, 8, 16, 32].contains width.val
  | .hostTxFetch _ x => x.wf
  | .hostRxWrite x => x.wf
  | .mbxWrite _ _ len data _ => data.length == len.val
  | .nvmeDoorbell _ x => x.wf
  | .hbmAccess q => q.wf
  | .neighbourDiscoveryOrArp f => f.wf
  | .slotRx x => x.wf
  | .thermSample sensors => sensors.length == 48
  | _ => true

end Sys2Proof
end

