-- ==== Sys2Proof/Tests/Slice0.lean ====
section
/-! SUPPORT. Tests of this model: an ill-formed operand for each check of WellFormed, worked examples of the spec, and for each statement of
Obligations states and operands that meet its hypotheses (`test_met_…`), clause by clause. -/

namespace Sys2Proof.Tests

set_option Elab.async false

open Sys2Proof Sys2Proof.Machine

/-- A running device, every region out of reset. -/
def up : State := { State.reset with boot := { State.reset.boot with dev := .running, live := 2 ^ 26 - 1 } }

/-- Register words set. -/
def poke (s : State) (l : List (Nat × Nat)) : State := l.foldl (fun s p => s.wr p.1 (BitVec.ofNat 32 p.2)) s

/-- A domain replaced. -/
def withDom (s : State) (d : Dom) (f : Domain → Domain) : State := s.setDom d (f (s.dom d))

/-! ## Well-formedness: an ill-formed operand for each check -/

def noLka (req : List Byte) : LkaIo := ⟨req, [], [], [], .ok, false⟩
def okCheck : StackCheck := ⟨true, 40, []⟩

theorem test_wf_refuses_time_and_access :
    Instr.wf (.todRxMessage ⟨[], true, none⟩) = false ∧ Instr.wf (.registerWrite ⟨.jtag, 0, 0, false⟩ 0 false) = false ∧
    Instr.wf (.latchWordRead ⟨.jtag, 0, 0, false⟩) = false ∧ Instr.wf (.counterReadClear ⟨.jtag, 0, 0, false⟩) = false ∧
    Instr.wf (.todRxMessage ⟨[1], true, none⟩) = true ∧ Instr.wf (.latchWordRead ⟨.jtag, 0, 4, false⟩) = true := by
  decide +kernel

theorem test_wf_refuses_line_and_modules :
    Instr.wf (.rxFrame 0 ⟨[], false, true, ⟨0, 0, 0, 0⟩, 0, 0, []⟩) = false ∧
    Instr.wf (.rxFrame 0 ⟨[1], false, true, ⟨0, 0, 0, 0⟩, 0, 0, [0, 0, 0, 0, 0, 0, 0, 0, 0]⟩) = false ∧ Instr.wf (.wakeMatch 0 []) = false ∧
    Instr.wf (.modPoll [⟨3, true, 0, false⟩, ⟨3, true, 0, false⟩]) = false ∧
    Instr.wf (.modAccDone ⟨true, List.replicate 129 0, 0, none⟩) = false ∧ Instr.wf (.cmisSweep [⟨3, .absent⟩, ⟨3, .absent⟩]) = false ∧
    Instr.wf (.cmisSweep [⟨3, .module_ 24 (List.replicate 16 ⟨1, 1, 1⟩) 1 0⟩]) = false ∧
    Instr.wf (.bidReadDone (some [])) = false ∧ Instr.wf (.hbmVerifyDone ⟨true, 40, [3, 3]⟩ okCheck okCheck okCheck true true) = false ∧
    Instr.wf (.modPoll [⟨3, true, 0, false⟩, ⟨4, true, 0, false⟩]) = true ∧ Instr.wf (.modAccDone ⟨true, List.replicate 128 0, 0, none⟩) = true := by
  decide +kernel

theorem test_wf_refuses_cipher_and_host :
    (∀ f ∈ [Instr.gcmEnc, .gcmDec, .xtsEnc, .xtsDec, .kmac, .kmacVerify],
      Instr.wf (f 0 0 (noLka [1])) = false ∧ Instr.wf (f 0 0 (noLka [])) = true) ∧
    Instr.wf (.hostLinkUp 0 5 12 true) = false ∧ Instr.wf (.hostTxFetch 0 ⟨[1], [], .ok⟩) = false ∧
    Instr.wf (.hostRxWrite ⟨[1], .ok⟩) = false ∧ Instr.wf (.mbxWrite 0 0 2 [1] true) = false ∧
    Instr.wf (.nvmeDoorbell 0 ⟨1, [], [], []⟩) = false ∧
    Instr.wf (.nvmeDoorbell 0 ⟨1, List.replicate 64 0, [(0, 2)], [1]⟩) = false ∧ Instr.wf (.hostLinkUp 0 5 32 true) = true := by
  decide +kernel

theorem test_wf_refuses_memory_fabric_and_sensors :
    Instr.wf (.hbmAccess ⟨5, 0, 0, none, .ok⟩) = false ∧ Instr.wf (.hbmAccess ⟨5, 63, 2, none, .ok⟩) = false ∧
    Instr.wf (.hbmAccess ⟨5, 0, 2, some [1], .ok⟩) = false ∧ Instr.wf (.hbmAccess ⟨5, 62, 2, some [1, 2], .ok⟩) = true ∧
    Instr.wf (.slotRx ⟨0, 0, true, true, true, 0, 0, 0, some 92⟩) = false ∧ Instr.wf (.slotRx ⟨0, 0, true, true, true, 0, 0, 0, some 91⟩) = true ∧
    Instr.wf (.neighbourDiscoveryOrArp (.unknown 0x30 ⟨0, 0, 0⟩)) = false ∧
    Instr.wf (.neighbourDiscoveryOrArp (.unknown 0x31 ⟨0, 0, 0⟩)) = true ∧
    Instr.wf (.thermSample (List.replicate 47 none)) = false ∧ Instr.wf (.thermSample (List.replicate 48 none)) = true := by
  decide +kernel
/-! ## Statements: time (`storesWf` holds in every state here) -/

theorem test_stores : up.storesWf = true ∧ (poke up [(A.wt R.TIME_WT_CTRL, 8)]).storesWf = true := by decide +kernel

theorem test_met_StepRunsTheFrontCommand : ({ up with pending := [.clockTick] } : State).pending = .clockTick :: [] ∧ up.pending = [] := by
  decide +kernel

theorem test_met_IntegrityEntriesSetTheirCause :
    up.ctl.intg.length < 16 ∧ up.mayWrite .jtag (regAddr 0 4 0x008) ∧
    16 ≤ ({ up with ctl := { up.ctl with intg := List.replicate 16 ⟨1, 2, 3, 4⟩ } } : State).ctl.intg.length := by
  decide +kernel

theorem test_met_TimeDomainWritesTakeEffect :
    up.mayWriteCp .jtag (domA .cobalt R.TIME_DOM_INCR_FRAC) ∧
    (let u := up.cpCheck 0xFF (domA .cobalt R.TIME_DOM_INCR_INT)
     baseInRange (u.newBase .cobalt (u.rd (domA .cobalt R.TIME_DOM_INCR_FRAC)).toNat) = true ∧ baseInRange (u.newBase .cobalt 0) = false) ∧
    cpWhole 0xFFFFFFFF ((5 : BitVec 64).toNat % 2 ^ 32) ((5 : BitVec 64).toNat / 2 ^ 32) = false ∧
    (let s := withDom up .umber (fun d => { d with fifo := List.replicate 16 0 })
     s.storesWf = true ∧ s.mayWrite .jtag (domA .umber R.TIME_DOM_OFS_HI) ∧ s.domSrc .umber = 0 ∧ 16 ≤ (s.dom .umber).fifo.length) ∧
    (let s := poke up [(domA .umber R.TIME_DOM_MODE, 4)]
     s.storesWf = true ∧ s.mayWrite .jtag (domA .umber R.TIME_DOM_OFS_HI) ∧ s.domSrc .umber ≠ 0) ∧
    (let s := withDom up .cobalt (fun d => { d with valid := true })
     s.mayWrite .jtag (domA .cobalt R.TIME_DOM_VALID) ∧ (s.dom .cobalt).valid = true) ∧
    up.mayWrite .jtag (domA .umber R.TIME_DOM_OFS_HI) ∧ up.domSrc .umber = 0 ∧ (up.dom .umber).fifo.length < 16 ∧
    up.mayWrite .jtag (domA .cobalt R.TIME_DOM_MODE) ∧ up.mayWrite .jtag (domA .cobalt R.TIME_DOM_VALID) ∧
    (up.dom .cobalt).valid = false ∧ up.mayWrite .jtag (domA .cobalt R.TIME_DOM_STEP_HI) ∧
    up.mayWrite .jtag (domA .cobalt R.TIME_DOM_SETSEC_HI) := by
  decide +kernel

/-- Working time valid, Umber active, both domains at 100 s. -/
def timed : State :=
  let s := withDom (withDom up .cobalt (fun d => { d with value := 100 * lsbSec })) .umber (fun d => { d with value := 100 * lsbSec })
  { s with time := { s.time with wtValid := true, active := .umber } }

theorem test_met_SwitchingKeepsWorkingTime :
    timed.mayWrite .jtag (A.wt R.TIME_WT_CTRL) ∧ timed.time.wtValid = true ∧
    up.mayWrite .jtag (A.wt R.TIME_WT_CTRL) ∧ up.time.wtValid = false ∧ timed.storesWf = true ∧ timed.rwlLocked = false ∧
    (let s : State := { timed with boot := { timed.boot with imageLoaded := true } }
     s.rwlLocked = true ∧ s.mayWrite .jtag (A.wt R.TIME_WT_CTRL) ∧ s.fld (A.wt R.TIME_WT_CTRL) 16 1 ≠ natField 0x10000 16 1) ∧
    ({ timed with time := { timed.time with switchAt := some 1, nextSlot := 2 } } : State).switchDue = true ∧
    (timed.wt : Int) - (timed.dom (otherDom timed.time.active)).value ≤ lsbSec ∧
    -(lsbSec : Int) ≤ (timed.wt : Int) - (timed.dom (otherDom timed.time.active)).value := by
  decide +kernel

/-- The same with REVERT set, Cobalt good since 10 s, at a cycle start. -/
def reverting : State :=
  let s := poke timed [(A.wt R.TIME_WT_CTRL, 8)]
  { s with time := { s.time with cobaltGoodSince := some 0, nextSlot := 1 } }

theorem test_met_SwitchingKeepsWorkingTime_revert :
    reverting.time.wtValid = true ∧ reverting.rbit (A.wt R.TIME_WT_CTRL) 3 = true ∧ reverting.time.active = .umber ∧
    reverting.atCycleStart = true ∧ reverting.time.cobaltGoodSince = some 0 ∧
    0 + reverting.fld (A.wt R.TIME_WT_CTRL) 4 12 * lsbSec ≤ (reverting.time.nextSlot - 1) * lsbSlot := by
  decide +kernel

theorem test_met_DomainsTickServoAndLoadSeconds :
    up.boot.dev ≠ .off ∧ up.boot.dev ≠ .reset ∧ up.live 1 = true ∧ up.rgnRuns 1 = true ∧
    up.asc = [] ∧ up.mem.each = [] ∧
    (let u := State.stacksClock { up.arraysClock with time := { up.arraysClock.time with ticks := up.arraysClock.time.ticks + 1 } }
     u.live 1 = true ∧ u.rgnRuns 1 = true ∧ (u.dom .cobalt).freeNext = false ∧ (u.dom .umber).freeNext = false) := by
  decide +kernel

/-- Cobalt in LOCK with an offset at the edge of CAPTURE, or past its timeout; in Snowplough under REF_HOLD; with seconds armed. -/
def locked : State := withDom (poke up [(domA .cobalt R.TIME_DOM_CAPTURE, 1000)]) .cobalt
  (fun d => { d with state := .lock, fifo := [1000 * 65536, 5], secArm := some 7, rolled := true })
def holding : State :=
  let s := withDom (poke up [(domA .cobalt R.TIME_DOM_MODE, 64)]) .cobalt (fun d => { d with state := .snow })
  { s with time := { s.time with refQualified := true } }

theorem test_met_DomainsTickServoAndLoadSeconds_servo :
    (locked.dom .cobalt).fifo = 1000 * 65536 :: [5] ∧ (locked.dom .cobalt).state = .lock ∧
    -((locked.domF .cobalt R.TIME_DOM_CAPTURE 0 20 : Int) * 65536) ≤ 1000 * 65536 ∧
    1000 * 65536 ≤ (locked.domF .cobalt R.TIME_DOM_CAPTURE 0 20 : Int) * 65536 ∧
    (let s : State := { locked with time := { locked.time with ticks := 2 ^ 40 } }
     s.domF .cobalt R.TIME_DOM_TIMEOUT 0 24 * ticksPerUs < s.time.ticks - (s.dom .cobalt).lastAccept) ∧
    holding.domF .cobalt R.TIME_DOM_MODE 6 1 = 1 ∧ holding.time.refQualified = true ∧ (holding.dom .cobalt).state = .snow ∧
    (locked.dom .cobalt).secArm = some 7 ∧ (locked.dom .cobalt).rolled = true ∧
    (locked.storesWf = true ∧ holding.storesWf = true ∧ locked.rgnRuns 1 = true ∧ holding.rgnRuns 1 = true) := by
  decide +kernel

/-- At a cycle start and a second, with a one-step frame due, PPS output 0 live with a pulse to end, PPS input 0 enabled. -/
def instants : State :=
  let s := poke timed [(ppsCtrlA 0, 1), (ppsInCtrlA 0, 1), (portA 3 R.LINE_PORT_STAT, PortState.up.code)]
  { s with time := { s.time with
    ticks := 2 ^ 40
    nextSlot := 1
    nextSecond := 100
    oneStep := [⟨3, 50, [], false⟩]
    ppsPulse := [some 0, none, none, none] } }

theorem test_met_TimedInstantsFireWhenDue :
    instants.instantDue (instants.time.nextSlot * lsbSlot) = true ∧ instants.time.wtValid = true ∧ instants.atCycleStart = true ∧
    instants.fab.cycleRun ≤ instants.time.nextSlot - 1 ∧ instants.time.nextSecond * lsbSec ≤ instants.wt ∧
    instants.rgnAbsent 2 = false ∧ instants.time.oneStep.find? (fun o => o.port == 3) = some ⟨3, 50, [], false⟩ ∧ 50 ≤ instants.wt ∧
    instants.rgnWorks 2 = true ∧ instants.flt.failsafe = none ∧ instants.portState 3 = .up ∧
    (poke instants [(portA 3 R.LINE_PORT_STAT, 0)]).portState 3 ≠ .up ∧
    up.time.wtValid = false ∧ up.rgnRuns 1 = true ∧ up.time.joinCycle ≠ slotOf up.wt / max 1 up.cycleLen + 1 ∧
    (let s : State := { instants with fab := { instants.fab with cycleRun := instants.time.nextSlot } }
     (State.cycleTime s (instants.time.nextSlot - 1)).lanesAligned.2.closeAll.rgnWorks 0x11 = true) := by
  decide +kernel

theorem test_met_TimedInstantsFireWhenDue_pps :
    instants.ppsLive 0 = true ∧ 0 ≤ (instants.ppsTime 0 : Int) - instants.ppsOfs 0 ∧
    instants.time.ppsNext.getD 0 0 ≤ (((instants.ppsTime 0 : Int) - instants.ppsOfs 0) / (lsbSec : Int)).toNat ∧
    instants.time.ppsPulse.getD 0 none = some 0 ∧
    0 + (instants.rd (A.tio (R.TIME_PPSOUT_WIDTH + 16 * 0))).toNat * lsbUs ≤ instants.ppsTime 0 ∧
    instants.rgnRuns 1 = true ∧ instants.rbit (ppsInCtrlA 0) 0 = true ∧ instants.time.ppsInLost.getD 0 false = false ∧
    1500000 * ticksPerUs ≤ instants.time.ticks - instants.time.ppsInTick.getD 0 0 := by
  decide +kernel

/-- A timestamp, a loss, ToD input and output, a qualified and an unqualified reference, a PTM link. -/
def todState : State :=
  let s := poke timed [(A.tio R.TIME_TOD_CTRL, 24), (A.tio R.TIME_REF_CTRL, 1), (ptmA R.TIME_PTM_CTRL 2, 1)]
  { s with time := { s.time with
    cobalt := { s.time.cobalt with state := .lock }
    loss := [⟨3, 1, 2⟩]
    todRx := [65]
    todDue := some 5 } }

theorem test_met_TimestampTodReferenceAndPtmResults :
    up.mayRead .jtag (A.tsu R.TIME_TSQ_DATA) ∧ up.mayRead .jtag (A.tsu (R.TIME_TSQ_DATA + 12)) ∧
    up.mayRead .jtag (A.tsu R.TIME_LOSS_DATA) ∧ todState.mayRead .jtag (A.tsu (R.TIME_LOSS_DATA + 4)) ∧
    todState.time.loss = ⟨3, 1, 2⟩ :: [] ∧ up.time.loss = [] ∧ todState.mayRead .jtag (A.tio R.TIME_TOD_RXDATA) ∧
    todState.time.todRx = 65 :: [] ∧ todState.rgnRuns 1 = true ∧ todState.rbit (A.tio R.TIME_TOD_CTRL) 4 = true ∧
    todState.time.todDue = some 5 ∧ todState.rbit (A.tio R.TIME_TOD_CTRL) 3 = true ∧
    ((5 * lsbSec : Nat) : Int) + todState.ppsOfs 0 + (todState.fld (A.tio R.TIME_TOD_CTRL) 16 9 * 1000 * lsbUs : Nat) ≤
      todState.ppsTime 0 ∧
    todState.rbit (A.tio R.TIME_REF_CTRL) 0 = true ∧ todState.time.refQualified = false ∧ todState.time.cobalt.state = .lock ∧
    holding.time.refQualified = true ∧ todState.ptmRuns 2 = true ∧ todState.ptmOn 2 = true ∧ todState.storesWf = true ∧
    up.time.todRx = [] ∧ up.tsqOf up.tsqPort = [] ∧ (⟨[65], true, none⟩ : TodMessage).checksumOk = true ∧
    (let s : State := { up with time := { up.time with tsq := [[⟨7, 5⟩]] } }
     s.mayRead .jtag (A.tsu (R.TIME_TSQ_DATA + 12)) ∧ s.tsqOf s.tsqPort = ⟨7, 5⟩ :: []) := by
  decide +kernel
/-! ## Statements: start-up -/

/-- `State.reset` with other supplies and pins. -/
def withBoot (s : State) (f : BootSt → BootSt) : State := { s with boot := f s.boot }

theorem test_met_SuppliesAndResetNMoveTheDevice :
    (let s := withBoot State.reset (fun b => { b with vsb := true, vsbPresent := false, dev := .off })
     s.boot.vsb = true ∧ s.boot.vsbPresent = false ∧ s.boot.dev = .off) ∧
    (let s := withBoot State.reset (fun b => { b with vin12 := true, rails := false })
     s.boot.vin12 = true ∧ s.boot.vsb = true ∧ s.boot.vsbPresent = true ∧ s.boot.rails = false ∧ s.boot.dev = .standby ∧
       s.boot.resetN = true) ∧
    (let s := withBoot State.reset (fun b => { b with resetN := false, dev := .reset })
     s.boot.resetN = false ∧ s.boot.dev = .reset ∧ s.boot.vsb = true ∧ s.boot.vsbPresent = true) ∧
    (let s := withBoot up (fun b => { b with rails := true })
     s.boot.resetN = true ∧ s.boot.vsb = true ∧ s.boot.vsbPresent = true ∧ s.boot.rails = true ∧ s.awake = true) := by
  decide +kernel

/-- A board identity memory for device 3 of a system of 8, its zeros in pieces. -/
def boardHead : List Byte :=
  leBytes 4 0x44425A51 ++ leBytes 4 0 ++ leBytes 4 (3 + 1020 * 65536) ++ leBytes 4 0 ++ leBytes 2 0 ++ leBytes 2 8 ++
    List.replicate 104 0
def zeroPiece (l : List Byte) : List Byte := List.replicate 128 0 ++ l
def zeroPieces : List Byte := zeroPiece (zeroPiece (zeroPiece (zeroPiece (zeroPiece (zeroPiece (zeroPiece (zeroPiece (
  zeroPiece (zeroPiece (zeroPiece (zeroPiece (zeroPiece (zeroPiece (zeroPiece []))))))))))))))
def boardMemory : List Byte := (boardHead ++ zeroPieces) ++ leBytes 4 3240454464

theorem test_crc_chunks : boardHead.foldl crc32Byte 0xFFFFFFFF = 5595192 ∧
    (List.replicate 128 0).foldl crc32Byte 5595192 = 1078714630 ∧
    (List.replicate 128 0).foldl crc32Byte 1078714630 = 1892799424 ∧
    (List.replicate 128 0).foldl crc32Byte 1892799424 = 3759341443 ∧
    (List.replicate 128 0).foldl crc32Byte 3759341443 = 3333689674 ∧
    (List.replicate 128 0).foldl crc32Byte 3333689674 = 1602978871 ∧
    (List.replicate 128 0).foldl crc32Byte 1602978871 = 134317448 ∧
    (List.replicate 128 0).foldl crc32Byte 134317448 = 554648140 ∧
    (List.replicate 128 0).foldl crc32Byte 554648140 = 3184201267 ∧
    (List.replicate 128 0).foldl crc32Byte 3184201267 = 1131444772 ∧
    (List.replicate 128 0).foldl crc32Byte 1131444772 = 4040528752 ∧
    (List.replicate 128 0).foldl crc32Byte 4040528752 = 4111010467 ∧
    (List.replicate 128 0).foldl crc32Byte 4111010467 = 4114903903 ∧
    (List.replicate 128 0).foldl crc32Byte 4114903903 = 3927011964 ∧
    (List.replicate 128 0).foldl crc32Byte 3927011964 = 2258192122 ∧
    (List.replicate 128 0).foldl crc32Byte 2258192122 = 1054512831 := by
  decide +kernel

theorem zeroPiece_crc (l : List Byte) {c d : Nat} (h : (List.replicate 128 0).foldl crc32Byte c = d) :
    (zeroPiece l).foldl crc32Byte c = l.foldl crc32Byte d := by
  rw [zeroPiece, List.foldl_append, h]

theorem zeroPieces_crc_all : zeroPieces.foldl crc32Byte 5595192 = 1054512831 := by
  obtain ⟨-, h1, h2, h3, h4, h5, h6, h7, h8, h9, h10, h11, h12, h13, h14, h15⟩ := test_crc_chunks
  unfold zeroPieces
  rw [zeroPiece_crc _ h1, zeroPiece_crc _ h2, zeroPiece_crc _ h3, zeroPiece_crc _ h4, zeroPiece_crc _ h5, zeroPiece_crc _ h6, zeroPiece_crc _ h7, zeroPiece_crc _ h8, zeroPiece_crc _ h9, zeroPiece_crc _ h10, zeroPiece_crc _ h11, zeroPiece_crc _ h12, zeroPiece_crc _ h13, zeroPiece_crc _ h14, zeroPiece_crc _ h15, List.foldl_nil]

theorem crc32Std_of {l : List Byte} {d : Nat} (h : l.foldl crc32Byte 0xFFFFFFFF = d) : crc32Std l = d ^^^ 0xFFFFFFFF := by
  rw [← h]
  rfl

theorem test_boardMemory : bidOk boardMemory = true := by
  have h1 : boardHead.length = 124 := by decide +kernel
  have hl : (boardHead ++ zeroPieces).length = 0x7FC := by
    simp only [zeroPieces, zeroPiece, List.length_append, List.length_replicate, List.length_nil, h1]
  have h2 : boardMemory.length = 2048 := by
    unfold boardMemory
    rw [List.length_append, hl]
    decide +kernel
  have hc : crc32Std (boardHead ++ zeroPieces) = 1054512831 ^^^ 0xFFFFFFFF :=
    crc32Std_of (by rw [List.foldl_append, test_crc_chunks.1, zeroPieces_crc_all])
  have h3 : leAt boardMemory 0x7FC 4 = 3240454464 := by
    unfold leAt boardMemory
    rw [List.drop_left' hl]
    decide +kernel
  have h4 : leAt boardMemory 0 4 = 0x44425A51 ∧ leAt boardMemory 8 4 = 3 + 1020 * 65536 ∧ bidSize boardMemory = 8 := by decide +kernel
  unfold bidOk
  rw [show boardMemory.take 0x7FC = boardHead ++ zeroPieces from List.take_left' hl, hc, h2, h3, h4.1, h4.2.1, h4.2.2]
  decide +kernel

/-- BOOT after its start: before the die-to-die check, after it, after HBM. -/
def boot0 : State := withBoot State.reset (fun b => { b with dev := .boot, started := true, vin12 := true, rails := true })
def boot1 : State := withBoot boot0 (fun b => { b with d2dDone := true })
def boot2 : State := withBoot boot1 (fun b => { b with hbmDone := true, slot := 1 })
def boot3 (n : Nat) : State := withBoot boot2 (fun b => { b with bidDone := true, image := List.replicate 1024 0, applied := n })

/-- An image of one section: a region's write list. -/
def listImage (r : Nat) (l : List Byte) : List Byte :=
  List.replicate 6 0 ++ [1, 0] ++ List.replicate 56 0 ++ leBytes 2 1 ++ leBytes 2 r ++ leBytes 4 0 ++ leBytes 8 96 ++ leBytes 8 l.length ++
    leBytes 8 0 ++ l
/-- A list entry. -/
def entry (op a d0 d1 param : Nat) : List Byte := leBytes 4 (op * 2 ^ 28 + a) ++ leBytes 4 d0 ++ leBytes 4 d1 ++ leBytes 4 param
/-- Where a list leaves the loader: its kind and place. -/
def listPlace : ListStep → Nat × Nat
  | .go p _ => (0, p)
  | .ended n _ => (1, n)
  | .wait p _ _ => (2, p)
  | .fail b _ => (3, b)

theorem test_met_BootStepsRunInTheirOrder :
    (let s := withBoot boot0 (fun b => { b with started := false })
     s.boot.dev = .boot ∧ s.boot.started = false ∧ s.bootHold = false ∧ (poke s [(sensorA 0, 0xFF)]).bootHold = true) ∧
    boot0.booting = true ∧ boot0.boot.d2dDone = false ∧ boot0.boot.bidDone = false ∧ boot1.booting = true ∧
    boot1.boot.d2dDone = true ∧ boot1.boot.hbmDone = false ∧
    (badRanks (natField boot1.recordBits 0 96) ⟨true, 25, [3, 94]⟩).length ≤ 2 ∧
    boot2.booting = true ∧ boot2.boot.hbmDone = true ∧ boot2.boot.image = [] ∧
    (boot2.imageLoad boot2.boot.slot false).2 = none ∧ (boot3 0).booting = true ∧ (boot3 0).boot.image ≠ [] ∧
    (boot3 0).boot.bidDone = true ∧ (boot3 21).boot.applied = 21 ∧
    ((boot3 21).preload (boot3 21).boot.image (fun r => !(boot3 21).staysDown r)).isSome = true ∧ (boot3 25).boot.applied = 25 ∧
    (boot3 25).boot.released = false ∧ ((boot3 25).setBoot.fwLoad (boot3 25).boot.image).isSome = true := by
  decide +kernel

/-- The first list, of SYS, from an image with it. -/
def bootListRun (l : List Byte) : ListStep :=
  let s := withBoot (boot3 0) (fun b => { b with image := listImage 0 l })
  ((s.beforeList 0).setLive 0).sectionRun s.boot.image 0 0 none

theorem test_met_BootStepsRunInTheirOrder_list :
    (boot3 0).boot.listPos = 0 ∧ (boot3 0).boot.pollTick = none ∧ ((boot3 0).beforeList 0).staysDown 0 = false ∧
    (withBoot (boot3 20) (fun b => { b with haltDue := true })).staysDown 2 = true ∧
    (match bootListRun [] with | .ended p t => some (p, t.boot.started, (t.afterList 0).isSome) | _ => none) = some (0, true, true) ∧
    listPlace (bootListRun (entry 3 (A.boot R.SYS_BOARD) 1 1 100)) = (2, 0) ∧ (listPlace (bootListRun (entry 9 0 0 0 0))).1 = 3 ∧
    listPlace (bootListRun (entry 15 0 0 0 0)) = (1, 1) := by
  decide +kernel

/-- Whether an image verifies rests on the signature scheme, which the model leaves to `Config`: an image that verifies is taken. -/
theorem test_met_BootStepsRunInTheirOrder_verified (s : State) (n : Nat)
    (h : State.imageOk (s.hbmStore (Config.imageArea false).toNat (s.slotImage n)) (s.slotImage n) = true) :
    (s.imageLoad n false).2 = some (s.slotImage n) := by
  unfold State.imageLoad
  dsimp only
  rw [if_pos h]

def sweptBoot : State := withBoot up (fun b => { b with
  swept := true, released := true, wtLimit := 5, declCobalt := true, declUmber := true })
def swept : State := { sweptBoot with time := { timed.time with
    cobalt := { timed.time.cobalt with tookOffset := true, secLoaded := true }
    umber := { timed.time.umber with tookOffset := true, secLoaded := true } } }

/-- Port 3 enabled and DOWN with its cage matched, F-lane 0 fitted and used but not aligned. -/
def oneLate : State :=
  let s := poke sweptBoot [(portA 3 R.LINE_PORT_CFG, 17), (portA 3 R.LINE_PORT_STAT, PortState.down.code)]
  let s := poke s [(schF 0 R.FAB_PISTE_CFG, 1)]
  let s := withBoot s (fun b => { b with bid := List.replicate 0x15 0 ++ [128] })
  let s := s.setTabN 0x14 0 0xA0 0 1024
  s.setCage 5 { s.cage 5 with expect := { (s.cage 5).expect with role := 1, firstLane := 3, lanes := 1 } }

theorem test_met_SweepAndForwardingReady :
    (let s := withBoot up (fun b => { b with released := true })
     s.boot.released = true ∧ s.boot.swept = false ∧ s.boot.haltDue = false) ∧
    swept.boot.released = true ∧ swept.boot.swept = true ∧ swept.boot.dev = .running ∧ swept.time.wtValid = true ∧
    swept.rbit bootStatA 7 = false ∧ (List.range 144).all (fun l => !swept.laneFitted l) = true ∧
    (List.range 64).all swept.portReady = true ∧
    (withBoot oneLate (fun b => { b with lanesLate := [0] })).boot.lanesLate.contains 0 = true ∧
    oneLate.laneFitted 0 = true ∧ oneLate.laneReady 0 = false ∧ oneLate.boot.lanesLate.contains 0 = false ∧ oneLate.laneReady 1 = true ∧
    oneLate.boot.dev = .running ∧ oneLate.boot.swept = true ∧ oneLate.rbit bootStatA 7 = false ∧ oneLate.lanesReady = false ∧
    oneLate.portReady 3 = false ∧
    (let s : State := { swept with time := up.time }
     s.boot.dev = .running ∧ s.time.wtValid = false ∧ s.boot.wtLate = false ∧ s.boot.wtLimit ≠ 0) ∧
    swept.boot.declCobalt = true ∧ swept.time.cobalt.tookOffset = true ∧ swept.time.cobalt.secLoaded = true ∧
    swept.boot.declUmber = true ∧ swept.time.umber.tookOffset = true ∧ swept.time.umber.secLoaded = true := by
  decide +kernel
/-! ## Statements: register window and table windows -/

/-- MEM_SR_CNT and BUF-independent counters: a read-to-clear word, a W1C word, a latching pair, a CP pair, at JTAG. -/
theorem test_met_RegisterWindowFollowsRegisterTypes :
    up.busCheck .jtag (memA 0 R.MEM_SR_ABANDON) 4 false true = .ok ∧ 0x40 ≤ addrOff (memA 0 R.MEM_SR_ABANDON) ∧
    winCount (addrRegion (memA 0 R.MEM_SR_ABANDON)) (addrBlock (memA 0 R.MEM_SR_ABANDON)) = 0 ∧
    ((findRow (blockRows 0x16 0) R.MEM_SR_ABANDON).map (fun x => (x.1.type, x.1.w, x.2))) = some (.rc, 1, 0, 0) ∧
    up.busCheck .jtag (A.rgn R.SYS_RGN_FATAL) 4 false true = .ok ∧ winCount 0 6 = 0 ∧
    ((findRow (blockRows 0 6) R.SYS_RGN_FATAL).map (fun x => x.1.type)) = some .w1c ∧
    up.busCheck .jtag (regAddr 0x16 0 0x00C) 4 false true = .ok ∧ addrOff (regAddr 0x16 0 0x00C) = 0x00C ∧
    up.busCheck .jtag (memA 0 R.MEM_SR_ABANDON) 4 false false = .ok ∧
    (up.latch .jtag (memA 0 R.MEM_SR_ABANDON)).take (memA 0 R.MEM_SR_ABANDON) = none ∧
    (up.readTake (some .jtag) (memA 0 R.MEM_SR_ABANDON)).isNone = true ∧ up.headWord .jtag (memA 0 R.MEM_SR_ABANDON) = none ∧
    latchWords 0x16 0 R.MEM_SR_ABANDON = 0 ∧ up.ctl.snapFrozen = false ∧
    up.mayWrite .jtag (regAddr 9 5 0x008) ∧ up.mayWrite .jtag (regAddr 9 5 0x030) ∧ up.mayWriteCp .jtag (regAddr 9 5 0x018) ∧
    (up.cpStore 1 (regAddr 9 5 0x018) 1).blkHeld 9 5 = true ∧ up.mayWriteCp .jtag (A.rgn R.SYS_CHIP_RESET) ∧ up.cpTouched = [] := by
  decide +kernel

theorem test_met_RegisterWindowFollowsRegisterTypes_latch :
    up.busCheck .jtag (memA 0 R.MEM_RD_BYTES) 4 false false = .ok ∧ latchWords 0x16 0 R.MEM_RD_BYTES ≠ 0 ∧
    (up.readTake (some .jtag) (memA 0 R.MEM_RD_BYTES)).isNone = true ∧ up.headWord .jtag (memA 0 R.MEM_RD_BYTES) = none ∧
    (up.latch .jtag (memA 0 R.MEM_RD_BYTES)).take (memA 0 R.MEM_RD_BYTES) = none := by
  decide +kernel

/-- A read-only, a CP, a locked RWL, an RW register with a range, at the range's ends and outside it; a CP pair that disagrees. -/
theorem test_met_RegisterWindowFollowsRegisterTypes_rows :
    up.busCheck .jtag (memA 0 R.MEM_STAT) 4 false true = .ok ∧
    ((findRow (blockRows 0x16 0) R.MEM_STAT).map (fun x => x.1.type)) = some .ro ∧
    up.busCheck .jtag (rgnResetA 5) 4 false true = .ok ∧ ((findRow (blockRows 0 6) (addrOff (rgnResetA 5))).map (fun x => x.1.type)) = some .cp ∧
    up.busCheck .jtag (regAddr 0 5 0x58) 4 false true = .ok ∧ winCount 0 5 = 0 ∧
    ((findRow (blockRows 0 5) 0x58).map (fun x => x.1.type)) = some .rwl ∧
    up.busCheck .jtag (memA 0 R.MEM_ARB_W) 4 false true = .ok ∧
    ((findRow (blockRows 0x16 0) R.MEM_ARB_W).map (fun x => (x.1.type, x.1.mask, x.1.lo, x.1.hi))) = some (.rw, 0xFF, 1, 255) ∧
    up.busCheck .jtag (A.snap R.SYS_SNAP_AT_NS) 4 false true = .ok ∧
    ((findRow (blockRows 0 5) R.SYS_SNAP_AT_NS).map (fun x => (x.1.type, x.1.hi == 0))) = some (.rw, true) ∧
    cpWhole 0xFFFFFFFF ((0xA5C3 : BitVec 64).toNat % 2 ^ 32) ((0xA5C3 : BitVec 64).toNat / 2 ^ 32) = false ∧
    (∀ q ∈ up.cpTouched, cpWhole q.2 (up.rd q.1).toNat (up.rd (q.1 + 4)).toNat = true) := by
  decide +kernel

/-- The channel counters of CPU0 (TABLE 0xE1), entry 0. -/
theorem test_met_WindowCommandsActOnTheEntry :
    up.mayWrite .jtag (winA 9 5 0) ∧ 0 < winCount 9 5 ∧ up.rbit (winA 9 5 0 + 12) 0 = false ∧
    (up.glideQueues && glideRegion (addrRegion (winA 9 5 0))) = false ∧ (up.setFld (winA 9 5 0 + 12) 0 1 1).rbit (winA 9 5 0 + 12) 0 = true ∧
    (let s := poke up [(A.img R.SYS_IMG_STAT, 16)]
     s.mayWrite .jtag (winA 0x11 0 0) ∧ 0 < winCount 0x11 0 ∧ s.rbit (winA 0x11 0 0 + 12) 0 = false ∧
       (s.glideQueues && glideRegion (addrRegion (winA 0x11 0 0))) = true) ∧
    (up.tableOf 9 5 1).isNone = true ∧ ownTable 9 5 1 = false ∧
    ((up.tableOf 9 5 0xE1).map (fun t => (t.count up, t.readClear))) = some (16384, true) ∧
    (let s := up.setWinIndex (winA 9 5 0) 16384; s.winIndex (winA 9 5 0) = 16384) ∧
    ((up.tableOf 2 0x10 0xC0).map (fun t => t.readClear)) = some false ∧
    (up.tableOf 9 5 (natField 0xE10 4 8)).isSome = true ∧ (chanCounters 0).readClear = true ∧
    (up.wr (winA 9 5 0) (BitVec.ofNat 32 (natField 0xE10 4 11 * 16))).winIndex (winA 9 5 0) < 16384 ∧
    ((chanCounters 0).get up 0 0).isSome = true := by
  decide +kernel

theorem test_met_IntegrityLogAndSnapshot :
    up.mayRead .jtag (A.intg R.SYS_INTG_LOG) ∧ up.mayRead .jtag (A.intg (R.SYS_INTG_LOG + 12)) ∧
    ({ up with ctl := { up.ctl with intg := [⟨1, 2, 3, 4⟩] } } : State).ctl.intg = ⟨1, 2, 3, 4⟩ :: [] ∧ up.ctl.intg = [] ∧
    ({ timed with ctl := { timed.ctl with snapArmed := some (.freeze, 5) } } : State).ctl.snapArmed = some (.freeze, 5) ∧
    up.mayWrite .jtag (A.snap R.SYS_SNAP_CTRL) ∧ up.snapBusy = false ∧
    ({ up with ctl := { up.ctl with snapFrozen := true } } : State).snapBusy = true ∧ timed.instantDue 5 = true ∧
    ({ timed with ctl := { timed.ctl with snapArmed := some (.copy, 5) } } : State).ctl.snapArmed = some (.copy, 5) ∧
    ({ timed with ctl := { timed.ctl with snapThaw := some 5 } } : State).ctl.snapArmed = none ∧
    ({ timed with ctl := { timed.ctl with snapCopy := some 5 } } : State).ctl.snapCopy = some 5 := by
  decide +kernel
/-! ## Statements: line ports -/

/-- A good frame of `n` bytes and its FCS. -/
def goodFrame (n : Nat) (etype : Nat) : List Byte :=
  let f := List.replicate 12 0 ++ beBytes 2 etype ++ List.replicate (n - 14) 0
  f ++ leBytes 4 (crc32Std f)

/-- Port 3 in a state, with one lane and EN. -/
def portIn (x : PortState) : State := poke up [(A.oct 0 R.LINE_OCT_RATE, 3), (portA 3 R.LINE_PORT_CFG, 24), (portA 3 R.LINE_PORT_STAT, x.code)]

theorem test_met_PortSettingsTakeEffect :
    up.mayWrite .jtag (portA 3 R.LINE_PORT_CFG) ∧ up.portCfgOk 3 16 = false ∧ (poke up [(A.oct 0 R.LINE_OCT_RATE, 3)]).portCfgOk 3 24 = true ∧ up.portEn 3 = false ∧
    up.portState 3 = .disabled ∧ natBit 24 4 = true ∧ natBit 24 11 = false ∧ (portIn .up).portEn 3 = true ∧
    (portIn .up).mayWrite .jtag (portA 3 R.LINE_PORT_CFG) ∧ (portIn .up).portCfgOk 3 (natSetField 24 11 1 1) = true ∧
    natBit (natSetField 24 11 1 1) 4 = true ∧ (portIn .up).portState 3 = .up ∧
    (portIn .down).portCfgOk 3 (natSetField 24 11 1 1) = true ∧ (portIn .down).portState 3 = .down ∧
    (portIn .sleep).portCfgOk 3 (natSetField 24 11 1 0) = true ∧ (portIn .sleep).portState 3 = .sleep ∧
    (portIn .held).portEn 3 = true ∧ (portIn .held).portState 3 = .held ∧ (portIn .up).storesWf = true ∧
    up.portHeld 3 = false ∧
    (up.setCage 5 { up.cage 5 with expect := { (up.cage 5).expect with role := 1, firstLane := 3, lanes := 1 }, held := true }).portHeld 3 = true ∧
    up.mayWrite .jtag (A.oct 0 R.LINE_OCT_RATE) ∧ up.quadBusy 0 0 = false ∧ up.quadBusy 0 1 = false ∧
    (portIn .up).quadBusy 0 0 = true ∧ natField 1 0 2 ≠ (portIn .up).fld (A.oct 0 R.LINE_OCT_RATE) 0 2 ∧
    up.mayWrite .jtag (portA 3 R.LINE_PORT_MAXLEN) ∧ up.mayWrite .jtag (portA 3 R.LINE_PORT_CNT_CLR) := by
  decide +kernel

theorem test_met_LinksChangeStateByTheRules :
    (portIn .down).portState 3 = .down ∧ (portIn .up).portState 3 = .up ∧ (portIn .sleep).portState 3 = .sleep ∧
    ((portIn .sleep).port 3).linkLost = false ∧ ((portIn .sleep).port 3).waking = false ∧
    (((portIn .sleep).setPort 3 { up.port 3 with linkLost := true }).port 3).linkLost = true ∧ (portIn .held).portState 3 = .held ∧
    (let s := poke (portIn .down) [(portA 3 R.LINE_PORT_CFG, 24 + 64)]
     s.portEn 3 = true ∧ natBit (s.portCfg 3) 6 = true ∧ s.portState 3 = .down) ∧
    (let s := up.setPort 3 { up.port 3 with stopUntil := [some 0, some 5] }
     (s.port 3).stopUntil.getD 0 none = some 0 ∧ 0 ≤ s.time.ticks ∧ (s.port 3).stopUntil.getD 1 none = some 5 ∧ s.time.ticks < 5) ∧
    64 ≤ (goodFrame 60 0x800).length ∧ fcsGood (goodFrame 60 0x800) = true ∧
    (portIn .sleep).wakeMatches 3 (goodFrame 60 0x800) = true ∧
    (let s := (portIn .sleep).setPort 3 { up.port 3 with waking := true }
     s.portState 3 = .sleep ∧ (s.port 3).waking = true) := by
  decide +kernel

/-- Cage 5 with its module in place. -/
def caged : State := up.setCage 5 { up.cage 5 with present := true }

theorem test_met_ModulesArePolledAndAccessed :
    (caged.cage 5).present = true ∧ (up.cage 5).present = false ∧ (caged.cage 5).missed < 2 ∧
    (let s := caged.setCage 5 { caged.cage 5 with missed := 2 }; (s.cage 5).present = true ∧ 2 ≤ (s.cage 5).missed) ∧
    (caged.cage 5).faulty = false ∧ ((caged.setCage 5 { caged.cage 5 with faulty := true }).cage 5).faulty = true ∧
    caged.mayWrite .jtag (A.modm R.SYS_MOD_ACC_CTRL) ∧ caged.line.modAcc = none ∧
    natField 5 24 8 + caged.fld (A.modm R.SYS_MOD_ACC_LEN) 0 8 ≤ 256 ∧ natField 5 0 6 = 5 ∧
    ({ caged with line := { caged.line with modAcc := some true } } : State).line.modAcc = some true ∧
    ({ caged with line := { caged.line with modAcc := some false } } : State).mayWrite .jtag (A.modm R.SYS_MOD_ACC_CTRL) := by
  decide +kernel

theorem test_met_ReceivedFramesAreClassified :
    (portIn .up).rgnWorks 2 = true ∧ (portIn .up).blkHeld 2 0 = false ∧ (portIn .up).portState 3 = .up ∧
    (portIn .sleep).portState 3 = .sleep ∧ (((portIn .sleep).setPort 3 { up.port 3 with waking := true }).port 3).waking = true ∧
    (goodFrame 56 0x800).length < 64 ∧ fcsGood (goodFrame 56 0x800) = true ∧ fcsGood (List.replicate 20 1) = false ∧
    64 ≤ (goodFrame 60 0x800).length ∧ (poke (portIn .up) [(portA 3 R.LINE_PORT_MAXLEN, 64)]).fld (portA 3 R.LINE_PORT_MAXLEN) 0 15 = 64 ∧
    (goodFrame 60 0x800).length = 64 ∧ (goodFrame 61 0x800).length = 65 ∧ fcsGood (List.replicate 64 1) = false ∧
    lenBad (goodFrame 60 0x2F) = true ∧ lenBad (goodFrame 60 0x2E) = false ∧ lenBad (goodFrame 60 0x800) = false ∧
    etypeOf (goodFrame 60 0x8808) = 0x8808 ∧ etypeOf (goodFrame 60 0x800) ≠ 0x8808 ∧
    natBit ((poke (portIn .up) [(portA 3 R.LINE_PORT_CFG, 24 + 128)]).portCfg 3) 7 = true ∧
    (portIn .down).portState 3 = .down ∧ (portIn .disabled).portState 3 = .disabled ∧ (portIn .held).portState 3 = .held := by
  decide +kernel

/-- Port 3 with a packet of `n` bytes in its queue. -/
def sending (x : PortState) (n : Nat) : State :=
  (portIn x).setPort 3 { up.port 3 with txq := [{ Pkt.empty with bytes := List.replicate n 0 }] }

theorem test_met_TheMacSendsByItsRules :
    (portIn .up).rgnWorks 2 = true ∧ (portIn .up).blkHeld 2 0 = false ∧ (portIn .up).flt.failsafe = none ∧
    (let s := (portIn .up).setPort 3 { up.port 3 with fcReq := [(256, 9)] }
     (s.port 3).fcReq = (256, 9) :: [] ∧ s.portState 3 = .up) ∧
    ((sending .up 60).port 3).fcReq = [] ∧ (sending .up 60).portState 3 = .up ∧ (sending .up 60).oneStepWaits 3 60 = false ∧
    (sending .up 60).oneStepWaits 3 ((sending .up 60).lineBytes 3 (List.replicate 60 0)) = false ∧
    (sending .sleep 60).portState 3 = .sleep ∧
    (sending .down 60).portState 3 ≠ .up ∧ (sending .down 60).portState 3 ≠ .sleep ∧
    (let s : State := { sending .up 60 with time := { up.time with oneStep := [⟨3, 0, [], false⟩] } }
     s.oneStepWaits 3 60 = true ∧ s.oneStepWaits 3 (s.lineBytes 3 (List.replicate 60 0)) = true) ∧
    60 + (sending .up 60).msExpansion 3 (List.replicate 60 0) + 4 ≤ (sending .up 60).fld (portA 3 R.LINE_PORT_MAXLEN) 0 15 ∧
    (let s := poke (sending .up 61) [(portA 3 R.LINE_PORT_MAXLEN, 64)]
     s.fld (portA 3 R.LINE_PORT_MAXLEN) 0 15 < 61 + s.msExpansion 3 (List.replicate 61 0) + 4) ∧
    ((sending .up 60).msTransmit 3 (List.replicate 60 0)).1 = some (List.replicate 60 0) ∧ Pkt.empty.tag = none ∧
    (let s := (poke (sending .up 60) [(portA 3 R.LINE_PORT_CFG, 24 + 4096)]).setTabN 2 (msecBlock 0) 0xC0 3 (2 ^ 64)
     (s.msTransmit 3 (List.replicate 60 0)).1 = none) := by
  decide +kernel
/-! ## Statements: images, settings, attestation -/

/-- Slot A booted, with a boot record. -/
def recorded (r : BootRec) : State := (up.brecPut r).setBootedSlot 1
/-- Both slots with a state, FLAGS and PREV_SLOT given, SLOT_SEL A. -/
def slots (a b flags prev : Nat) : State := recorded ⟨0, 1, prev, flags, 0, ⟨1, a, 0⟩, ⟨2, b, 0⟩⟩
/-- At a tick of the device's clock. -/
def atTick (t : Nat) (s : State) : State := { s with time := { s.time with ticks := t } }
/-- In a Glide at a phase. -/
def gliding (s : State) (p : Nat) : State := (s.setDev .glide).setGlidePhase p

theorem test_met_ImageCommandsActOrAreRefused :
    up.mayWrite .jtag (A.img R.SYS_IMG_CTRL) ∧ natField (withCmd 0 1) 4 2 = 0 ∧
    (∀ s ∈ [slots 3 1 0 0, slots 3 3 0 0, slots 3 1 2 0], s.boot.dev ≠ .recovery ∧ s.boot.dev ≠ .glide ∧ s.inactiveSlot = 2 ∧
      s.inactiveSlot ≠ 0 ∧ s.inactiveSlot ≠ s.bootedSlot ∧
      ((s.brec.slot s.inactiveSlot).st = 1 ∨ (s.brec.slot s.inactiveSlot).st = 3)) ∧
    (slots 3 1 0 0).brec.healthPending = false ∧ (slots 3 1 0 0).img.session = none ∧ (slots 3 1 2 0).brec.healthPending = true ∧
    ((slots 3 1 2 0).setHealth true).brec.healthPending = true ∧ ((slots 3 1 2 0).setHealth true).boot.health = true ∧
    (slots 3 1 2 0).boot.health = false ∧ (slots 3 1 2 2).brec.healthPending = true ∧ (slots 3 1 2 2).brec.prev ≠ 0 ∧
    (gliding (slots 3 1 2 2) 3).boot.dev = .glide ∧ (gliding (slots 3 1 2 2) 3).brec.prev ≠ 0 ∧
    (gliding (slots 3 1 2 2) 3).brec.healthPending = true ∧ (slots 3 1 2 0).brec.prev = 0 ∧
    ((slots 3 1 2 0).setHealth true).healthOver = false ∧ (atTick (121 * ticksPerSec) ((slots 3 1 2 0).setHealth true)).healthOver = true ∧
    natField (withCmd 16 1) 4 2 = 1 ∧ ((slots 3 1 0 0).setDev .recovery).boot.dev = .recovery ∧
    (((slots 3 1 0 0).setDev .recovery).brec.slot 1).st = 3 ∧ ((slots 3 1 0 0).setDev .recovery).brec.healthPending = false ∧
    ((slots 3 1 0 0).setSession ⟨true, 0, 2, 9, [], none, (0, []), 0⟩).img.session ≠ none ∧
    (gliding (slots 3 1 0 0) 3).boot.dev = .glide ∧ (gliding (slots 3 1 0 0) 3).brec.healthPending = false := by
  decide +kernel

/-- B is activated, and not yet entered. -/
def activated : State := recorded ⟨0, 2, 1, 0, 0, ⟨1, 3, 0⟩, ⟨2, 1, 0⟩⟩

theorem test_met_ImageCommandsActOrAreRefused_glide :
    activated.boot.dev = .running ∧ activated.brec.healthPending = false ∧ activated.brec.sel ≠ activated.bootedSlot ∧
    activated.img.setWrite = none ∧ activated.img.session = none ∧ (activated.setDev .halt).boot.dev ≠ .running ∧
    (slots 3 1 2 0).boot.dev = .running ∧ (slots 3 1 0 0).brec.sel = (slots 3 1 0 0).bootedSlot ∧
    ({ activated with img := { activated.img with setWrite := some (0, 1, []) } } : State).img.setWrite ≠ none ∧
    (gliding activated 2).glidePhase = 2 ∧ (gliding activated 1).glidePhase ≠ 2 ∧
    (let s : State := { activated with img := { activated.img with head := List.replicate 128 5 } }
     (s.brec.slot s.bootedSlot).st = 3 ∧ s.bootedSlot ≠ 0 ∧ s.boot.dev = .running ∧ s.boot.secFuses < imgSecVersion s.img.head) ∧
    imgSecVersion activated.img.head ≤ activated.boot.secFuses := by
  decide +kernel

/-- Whichever key signed the image, another one may be revoked. -/
theorem test_met_ImageCommandsActOrAreRefused_revoke : ∃ v : Word,
    signerOf up.img.m4 ≠ some (natField (withCmd v 8) 8 2) ∧ natBit up.boot.keyRevoked (natField (withCmd v 8) 8 2) = false := by
  by_cases h : signerOf up.img.m4 = some 0
  · exact ⟨256, by rw [h]; decide +kernel, by decide +kernel⟩
  · exact ⟨0, h, by decide +kernel⟩

theorem test_met_GlideAndHealthTimersAct :
    (let s := atTick (120 * ticksPerSec) ((slots 3 1 2 2).setHealth true)
     s.boot.health = true ∧ s.boot.healthTick + 120 * ticksPerSec ≤ s.time.ticks ∧ ((s.setHealth false).bootRaise 9).boot.dev ≠ .glide) ∧
    (let s := atTick (120 * ticksPerSec) ((gliding (slots 3 1 2 2) 3).setHealth true)
     s.boot.health = true ∧ s.boot.healthTick + 120 * ticksPerSec ≤ s.time.ticks ∧
       ((s.setHealth false).bootRaise 9).boot.dev = .glide ∧ ((s.setHealth false).bootRaise 9).brec.prev ≠ 0) ∧
    (let s := atTick (180 * ticksPerSec) (gliding (slots 3 1 2 2) 2)
     s.img.gapTick + 30 * ticksPerSec ≤ s.time.ticks ∧ s.img.glideTick + 180 * ticksPerSec ≤ s.time.ticks ∧ s.glidePhase = 2 ∧
       s.brec.healthPending = true) ∧
    (let s := atTick (180 * ticksPerSec) (gliding activated 2)
     s.img.glideTick + 180 * ticksPerSec ≤ s.time.ticks ∧ s.boot.dev = .glide ∧ s.brec.healthPending = false) ∧
    (let s := gliding (recorded ⟨0, 2, 1, 0, 0, ⟨1, 3, 0⟩, ⟨2, 4, 0⟩⟩) 1
     s.boot.dev = .glide ∧ s.glidePhase = 1 ∧ s.brec.sel = 2 ∧ (s.brec.slot 2).st = 4) ∧
    up.boot.health = false ∧ (gliding activated 1).boot.dev = .glide ∧ (gliding activated 1).glidePhase = 1 ∧
    (gliding activated 4).glidePhase = 4 ∧ (gliding activated 1).brec.sel = 2 ∧
    ((gliding activated 1).brec.slot 2).st ≠ 4 ∧ ((gliding activated 1).imageLoad 2 (gliding activated 1).img.area1).2 = none ∧
    (gliding activated 2).glidePhase = 2 ∧ (gliding (slots 3 1 2 2) 3).brec.healthPending = true ∧
    (gliding activated 2).brec.healthPending = false ∧ up.boot.dev ≠ .glide := by
  decide +kernel

/-- A settings copy 0 in use whose body is empty. -/
def settled : State := up.flashWrite (setCopyA 0) (setHeader 1 7 0 0 (shake256 [] 64))
/-- The identity record is good. -/
def known : State := withBoot up (fun b => { b with identOk := true })

theorem test_met_SettingsAndReportsAreWritten :
    up.mayWrite .jtag (A.img R.SYS_SET_CMD) ∧ natBit (1 : Word).toNat 0 = true ∧ (slots 3 1 0 0).brec.healthPending = false ∧
    (slots 3 1 0 0).img.setWrite = none ∧ (slots 3 1 0 0).setInUse = none ∧ (slots 3 1 2 0).brec.healthPending = true ∧
    ({ up with img := { up.img with setWrite := some (1, 8, [1, 2]) } } : State).img.setWrite = some (1, 8, [1, 2]) ∧
    up.mayWrite .jtag (A.att R.SYS_ATT_CMD) ∧ known.boot.identOk = true ∧ known.img.attBusy = none ∧ up.boot.identOk = false ∧
    ({ known with img := { known.img with attBusy := some ⟨[], none⟩ } } : State).boot.identOk = true ∧
    ({ known with img := { known.img with attBusy := some ⟨[], none⟩ } } : State).img.attBusy ≠ none ∧
    ({ up with img := { up.img with attBusy := some ⟨[], some 4096⟩ } } : State).img.attBusy = some ⟨[], some 4096⟩ := by
  decide +kernel

theorem test_met_SettingsAndReportsAreWritten_inUse :
    settled.setInUse = some (0, ⟨1, 7, 0⟩) ∧ settled.brec.healthPending = false ∧ settled.img.setWrite = none := by
  decide +kernel
/-! ## Statements: the service port -/

/-- The service port on, the identity record good. -/
def served : State := withBoot (poke up [(regAddr 0 12 R.SYS_SVC_CTRL, 1)]) (fun b => { b with identOk := true })
/-- With an update session of the port on slot B. -/
def inSession (last : Option Nat) (blocks : List (Nat × Nat)) : State := served.setSession ⟨true, 0, 2, 9, blocks, last, (0, [1]), 0⟩
/-- A register request of a word. -/
def regReq (a : Nat) : List Byte := beBytes 4 a ++ [4]

theorem test_met_ServiceMessagesAreAnswered :
    up.svcUp = true ∧ (poke up [(regAddr 0 12 R.SYS_SVC_CTRL, 0)]).svcUp = false ∧ served.svcUp = true ∧
    (regReq (A.img R.SYS_IMG_STAT)).length = 5 ∧ svcAddr (regReq (A.img R.SYS_IMG_STAT)) = some (A.img R.SYS_IMG_STAT, 4) ∧
    served.busCheck .service (A.img R.SYS_IMG_STAT) 4 false false = .ok ∧
    (poke served [(A.acc (0x40 + 8 * masterCode .service), 1)]).busCheck .service (regAddr 9 5 8) 4 false false = .denied ∧
    (svcAddr (regReq (A.img R.SYS_IMG_CTRL) ++ List.replicate 8 0)) = some (A.img R.SYS_IMG_CTRL, 4) ∧
    served.busCheck .service (A.img R.SYS_IMG_CTRL) 4 false true = .ok ∧ leAt [1] 0 1 % 16 = 1 ∧ served.svcMayCtrl = true ∧
    served.boot.dev ≠ .recovery ∧ served.boot.identOk = true ∧ served.img.attBusy = none ∧
    (served.setDev .recovery).boot.dev = .recovery ∧ (served.setDev .recovery).svcUp = true ∧ up.boot.identOk = false ∧
    ({ served with img := { served.img with attBusy := some ⟨[], none⟩ } } : State).img.attBusy ≠ none ∧
    (served.setRgnState 0x18 .absent).busCheck .service (memA 2 R.MEM_STAT) 4 false false = .absent ∧
    (served.setRgnState 0x18 .fencing).busCheck .service (memA 2 R.MEM_STAT) 4 false false = .fenced ∧ svcAddr [0, 0, 0, 0, 3] = none ∧
    served.reportHeld (List.replicate 32 7) = none ∧
    ({ served with img := { served.img with report := some (List.replicate 32 7, [1], 0) } } : State).reportHeld (List.replicate 32 7) =
      some [1] ∧ (BitVec.ofNat 128 served.linkLocal).toNat = served.linkLocal := by
  decide +kernel

theorem test_met_ServiceSessionsUpdateASlot :
    served.svcUp = true ∧ served.img.session = none ∧ served.openSlot (leAt [0] 0 1) = some 2 ∧ served.openSlot (leAt [1] 0 1) = none ∧
    (served.setSession ⟨false, 1, 2, 9, [], none, (0, []), 0⟩).img.session = some ⟨false, 1, 2, 9, [], none, (0, []), 0⟩ ∧
    served.svcSession = none ∧
    (inSession (some 5) []).svcSession = some ⟨true, 0, 2, 9, [], some 5, (0, [1]), 0⟩ ∧
    9 = (9 : BitVec 32).toNat ∧ 9 ≠ (8 : BitVec 32).toNat ∧
    some 5 = some (5 : BitVec 32).toNat ∧ some 5 ≠ some (6 : BitVec 32).toNat ∧
    writeFits ⟨true, 0, 2, 9, [], none, (0, [1]), 0⟩ (beNat [0, 0, 4, 0]) 1 = true ∧
    writeFits ⟨true, 0, 2, 9, [], none, (0, [1]), 0⟩ (beNat [0, 0, 4, 1]) 1 = false ∧
    beNat [0, 0, 4, 1] ≤ slotLen ∧ blocksWhole [(0, 1024), (1, 1)] 1024 1025 ((1025 + 1023) / 1024) = true ∧ beNat [0, 0, 4, 1] = 1025 ∧
    (let s : State := { inSession none [] with time := { up.time with ticks := 60 * ticksPerSec } }
     s.svcSession = some ⟨true, 0, 2, 9, [], none, (0, [1]), 0⟩ ∧ 0 + 60 * ticksPerSec ≤ s.time.ticks) ∧
    (inSession none []).time.ticks < 0 + 60 * ticksPerSec := by
  decide +kernel
/-! ## Statements: parsing, lookups, egress -/

def busyEngine : Engine := { Engine.idle with busy := true, pc := 5, pkt := hvStart { Pkt.empty with bytes := List.replicate 60 1 } }
/-- Engine 2 of pipeline 1 as given, at the instruction word `w`. -/
def parsing (w : Nat) (x : Engine) : State := (up.setEngine 1 2 x).setTabN 3 1 0x01 5 w
def op (n rest : Nat) : Nat := n * 2 ^ 27 + rest

theorem test_met_ParseInstructionsExecute :
    (∀ w ∈ [op 0 0, op 1 (2 ^ 24 + 3 * 2 ^ 16 + 31 * 64), op 2 (56 * 2 ^ 20 + 4 * 2 ^ 12 + 15 * 256), op 3 (124 * 2 ^ 20 + 3 * 2 ^ 15),
        op 4 (2 ^ 23 + 7), op 5 (2 ^ 17 + 9), op 5 9, op 6 (2 ^ 20 + 4), op 7 (2 ^ 24 + 3), op 8 (2 ^ 16 + 3), op 9 (2 ^ 23 + 2 ^ 21 + 4),
        op 10 (2 ^ 24 + 8), op 11 (2 ^ 26 + 16), op 12 (2 ^ 26 + 5)],
      ((parsing w busyEngine).parseMeet 1 2).engine 1 2 = busyEngine ∧ ((parsing w busyEngine).parseMeet 1 2).parseWord 1 2 = w) ∧
    busyEngine.busy = true ∧ ((parsing 0 busyEngine).parseMeet 1 2).rgnRuns (pipeRegion 1) = true ∧
    up.rgnRuns (pipeRegion 1) = true ∧ busyEngine.count < 96 ∧ busyEngine.cursor ≤ 255 ∧
    (let w := op 1 (2 ^ 24 + 3 * 2 ^ 16 + 31 * 64); natField w 27 5 = 1 ∧ natField w 0 6 = 0) ∧
    (let w := op 2 (56 * 2 ^ 20 + 4 * 2 ^ 12 + 15 * 256)
     natField w 27 5 = 2 ∧ natField w 0 8 = 0 ∧ hvWritable (natField w 20 7) (natField w 8 4 + 1) = true) ∧
    (let w := op 3 (124 * 2 ^ 20 + 3 * 2 ^ 15)
     natField w 27 5 = 3 ∧ natField w 0 15 = 0 ∧ hvWritable (natField w 20 7) (natField w 15 2 + 1) = true) ∧
    (let w := op 4 (2 ^ 23 + 7); natField w 27 5 = 4 ∧ natField w 16 7 = 0) ∧
    (let w := op 5 (2 ^ 17 + 9); natField w 27 5 = 5 ∧ natBit w 17 = true ∧ natField w 14 3 = 0) ∧ natBit (op 5 9) 17 = false ∧
    (let w := op 6 (2 ^ 20 + 4); natField w 27 5 = 6 ∧ natField w 16 4 = 0 ∧ natBit w 20 = true) ∧
    (let w := op 7 (2 ^ 24 + 3); natField w 27 5 = 7 ∧ natField w 24 3 ≠ 7 ∧ natField w 11 13 = 0) ∧
    (let w := op 8 (2 ^ 16 + 3); natField w 27 5 = 8 ∧ natField w 11 5 = 0 ∧ (parsing w busyEngine).swtFind 1 false 1 0 = none) ∧
    (let w := op 9 (2 ^ 23 + 2 ^ 21 + 4); natField w 27 5 = 9 ∧ natField w 8 13 = 0) ∧
    (let w := op 10 (2 ^ 24 + 8)
     natField w 27 5 = 10 ∧ natField w 8 16 = 0 ∧ natBit busyEngine.marked (natField w 24 3) = false) ∧
    (let w := op 11 (2 ^ 26 + 16); natField w 27 5 = 11 ∧ natField w 16 10 = 0 ∧ natField w 0 4 = 0) ∧
    (let w := op 12 (2 ^ 26 + 5); natField w 27 5 = 12 ∧ natField w 6 20 = 0) := by
  decide +kernel

/-- A word of each opcode, NOP to HSEL, that is illegal: a reserved bit set, bytes that are not writable, condition 7. -/
theorem test_met_ParseInstructionsExecute_illegal :
    (∀ w ∈ [op 0 1, op 1 1, op 2 1, op 3 1, op 4 (2 ^ 16), op 5 (2 ^ 17 + 2 ^ 14), op 6 (2 ^ 16), op 7 (7 * 2 ^ 24), op 8 (2 ^ 11), op 9 (2 ^ 8),
        op 10 (2 ^ 8), op 11 1, op 12 (2 ^ 6)], ((parsing w busyEngine).parseMeet 1 2).parseWord 1 2 = w) ∧
    natField (op 2 1) 0 8 ≠ 0 ∧ hvWritable 0 1 = false ∧ natField (op 3 1) 0 15 ≠ 0 ∧ natField (op 4 (2 ^ 16)) 16 7 ≠ 0 ∧
    natBit (op 5 (2 ^ 17 + 2 ^ 14)) 17 = true ∧ natField (op 5 (2 ^ 17 + 2 ^ 14)) 14 3 ≠ 0 ∧ natField (op 6 (2 ^ 16)) 16 4 ≠ 0 ∧
    natBit (op 6 1) 20 = false ∧ natField (op 6 1) 0 16 ≠ 0 ∧ natField (op 7 (7 * 2 ^ 24)) 24 3 = 7 ∧ natField (op 8 (2 ^ 11)) 11 5 ≠ 0 ∧
    natField (op 9 (2 ^ 8)) 8 13 ≠ 0 ∧ natField (op 10 (2 ^ 8)) 8 16 ≠ 0 ∧ natField (op 11 1) 0 4 ≠ 0 ∧ natField (op 12 (2 ^ 6)) 6 20 ≠ 0 := by
  decide +kernel

/-- The state entry 511 of the even bank answers for STATE 1 and the value 0. -/
theorem test_met_ParseInstructionsExecute_swt :
    ((parsing (op 8 (2 ^ 16 + 3)) busyEngine).setTabN 3 1 0x02 511 (2 ^ 63 + 2 ^ 55 + 7)).swtFind 1 false 1 0 = some (2 ^ 63 + 2 ^ 55 + 7) := by
  decide +kernel

theorem test_met_ParsesStartAndEnd :
    (let s := up.setPipe 1 { up.pipe 1 with fifo := [Pkt.empty] }
     (s.pipe 1).fifo = Pkt.empty :: [] ∧ (List.range 64).find? (fun e => !(s.engine 1 e).busy) = some 0 ∧
       (s.meetPkt Pkt.empty).1 = Pkt.empty) ∧
    (up.pipe 1).fifo = [] ∧ (up.setRgnState 3 .absent).rgnRuns (pipeRegion 1) = false ∧
    (let s := parsing 0 Engine.idle; (s.engine 1 2).busy = false ∧ s.rgnRuns (pipeRegion 1) = true) ∧
    (let s := parsing 0 { busyEngine with count := 96 }; (s.engine 1 2).busy = true ∧ 96 ≤ (s.engine 1 2).count) ∧
    0x0F ≤ natField ((parsing (op 15 0) busyEngine).parseWord 1 2) 27 5 ∧ natField ((parsing (op 0 1) busyEngine).parseWord 1 2) 27 5 = 0 ∧
    natField ((parsing (op 0 1) busyEngine).parseWord 1 2) 0 27 ≠ 0 ∧
    (let s := parsing (op 10 (2 ^ 24)) { busyEngine with marked := 2 }
     natField (s.parseWord 1 2) 27 5 = 10 ∧ natBit (s.engine 1 2).marked (natField (s.parseWord 1 2) 24 3) = true) ∧
    (let w := op 13 0x10; natField w 27 5 = 13 ∧ 0x10 ≤ natField w 0 8 ∧ natField w 8 19 = 0) ∧
    (let w := op 14 3; natField w 27 5 = 14 ∧ natField w 8 19 = 0) ∧
    natField (op 13 0xF) 0 8 < 0x10 ∧ natField (op 14 (2 ^ 8)) 8 19 ≠ 0 := by
  decide +kernel

/-- A class whose profile looks nothing up. -/
def plainPkt : Pkt := { hvStart { Pkt.empty with bytes := List.replicate 60 1 } with ipLoc := 0 }
def withPipe (f : PipeSt → PipeSt) : State := up.setPipe 1 (f (up.pipe 1))

theorem test_met_PacketsAreAcceptedAndDecided :
    up.rgnRuns (pipeRegion 1) = true ∧ up.blkHeld (pipeRegion 1) (1 % 4) = false ∧
    (let s := withPipe (fun p => { p with lineIn := [plainPkt] })
     (s.pipe 1).lineIn = plainPkt :: [] ∧ (s.pipe 1).fifo.length < 512) ∧
    (let s := withPipe (fun p => { p with lineIn := [plainPkt], fifo := List.replicate 512 Pkt.empty })
     (s.pipe 1).lineIn = plainPkt :: [] ∧ 512 ≤ (s.pipe 1).fifo.length) ∧
    (let s := withPipe (fun p => { p with hostIn := [plainPkt] })
     (s.pipe 1).lineIn = [] ∧ (s.pipe 1).nextInput = some 1 ∧ (s.pipe 1).hostIn = plainPkt :: []) ∧
    (let s := withPipe (fun p => { p with recircIn := [plainPkt] })
     (s.pipe 1).nextInput = some 0 ∧ (s.pipe 1).recircIn = plainPkt :: []) ∧
    (let s := withPipe (fun p => { p with procIn := [plainPkt] })
     (s.pipe 1).nextInput = some 2 ∧ (s.pipe 1).procIn = plainPkt :: []) ∧
    (up.pipe 1).nextInput = none ∧ (up.pipe 1).lineIn = [] ∧ (withPipe (fun p => { p with fifo := List.replicate 512 Pkt.empty })).rgnRuns 3 = true ∧
    (let s := withPipe (fun p => { p with order := [.parsed plainPkt] })
     (s.pipe 1).order = .parsed plainPkt :: [] ∧ s.lookAbsent 1 plainPkt = false ∧ (s.meetPkt plainPkt).1 = plainPkt ∧
       ((s.setPipe 1 { s.pipe 1 with order := [] }).lookStart 1 plainPkt).2.modeLook 1 plainPkt
         ((s.setPipe 1 { s.pipe 1 with order := [] }).lookStart 1 plainPkt).1 =
         (.done none, ((s.setPipe 1 { s.pipe 1 with order := [] }).lookStart 1 plainPkt).2) ∧
       (s.cpStore 1 (regAddr 7 4 0x018) 1).lookAbsent 1 plainPkt = true) ∧
    (let x : LaneEnt := ⟨plainPkt, ⟨none, none, 0, 0, none, false⟩, [⟨24, false⟩]⟩
     let s := withPipe (fun p => { p with longLane := [(4, x)] })
     (s.pipe 1).longLane = (4, x) :: [] ∧ ((s.setPipe 1 { s.pipe 1 with longLane := [] }).laneEnd 1 x).1 = none ∧
     (let s := withPipe (fun p => { p with farLane := [x] })
      (s.pipe 1).farLane[0]? = some x ∧ s.behindFar 1 0 x = false ∧ s.farAbsent 1 x = false ∧ (s.pipe 1).farLane[1]? = none ∧
        (s.cpStore 1 (regAddr 7 7 0x018) 1).farAbsent 1 x = true ∧
        (withPipe (fun p => { p with farLane := [x, x] })).behindFar 1 1 x = true ∧
        ((s.setPipe 1 { s.pipe 1 with farLane := [] }).laneEnd 1 x).1 = none)) := by
  decide +kernel

/-- Class 0 routes IPv4 from header-vector byte 0; VRF 0 is enabled with far, its default the processor; a far part of length 24. -/
def routed : State :=
  let e := 2 ^ 22 + 2 ^ 23 + 3
  (((up.setTabN 3 1 0x05 0 1).setTabN 7 4 0x33 0 e).setTabN 7 1 0x11 0 (2 ^ 183)).setTabN 7 1 0x10 24 2
def routedLook : State × LookCtx := ((routed.lookStart 1 plainPkt).2, (routed.lookStart 1 plainPkt).1)

theorem test_met_PacketsAreAcceptedAndDecided_far :
    (routedLook.1.modeLook 1 plainPkt routedLook.2).1 = .far [⟨24, true⟩] ∧
    ((routedLook.1.modeLook 1 plainPkt routedLook.2).2.pipe 1).farLane.length < 256 ∧
    (routed.laneEnd 1 ⟨plainPkt, routedLook.2, [⟨24, true⟩]⟩).1.isSome = true ∧
    (routed.laneEnd 1 ⟨plainPkt, routedLook.2, []⟩).1.isSome = true := by
  decide +kernel

/-- A packet waiting in egress pipeline 1, and an egress profile whose search drops what misses. -/
def leaving : State := { up with que := { up.que with egress := [(1, [⟨plainPkt, 3⟩])] } }

theorem test_met_PacketsAreAcceptedAndDecided_egress :
    spGet (fun _ => []) leaving.que.egress 1 = ⟨plainPkt, 3⟩ :: [] ∧ leaving.rgnRuns (pipeRegion 1) = true ∧
    leaving.egressBehind 1 ⟨plainPkt, 3⟩ = false ∧
    (let u := State.meetPkt { leaving with que := { leaving.que with egress := [] } } plainPkt
     u.1 = plainPkt ∧ u.2.meets (pipeRegion 1) 11 = false ∧ (u.2.egressSearch 1 3 plainPkt).1 = .go 0) ∧
    (let u := (up.cpStore 1 (regAddr 3 11 0x018) 1).setTabN 3 11 0x60 (pktClass plainPkt) 1
     u.meets (pipeRegion 1) 11 = true ∧ natBit (u.tabN (pipeRegion 1) 11 0x60 (pktClass plainPkt)) 0 = true) := by
  decide +kernel

/-- In egress, a packet of port 3 whose search hits an entry of KIND DROP. -/
theorem test_met_PacketsAreAcceptedAndDecided_egressDrop :
    (let e : ArrayRef := ⟨0, true⟩
     let s := ((up.setTabN 3 11 0x61 0 (1 + 2 * 2 ^ 16)).setTabN 3 11 0x60 0 1).ascPut e 2 ⟨3 + 2 ^ 32, 0, 0⟩
     (s.egressSearch 1 3 plainPkt).1 = .drop) := by
  decide +kernel
/-! ## Statements: exact-match, route and learned tables -/

/-- Exact-match table 0 with four tiles of short entries; in its window VMASK 2 (the version in BUILD), the key 0 and a free VMASK `m`. -/
def emS (m : Nat) (l : List (Nat × Nat)) : State :=
  poke up ([(emA R.TBL_EM_CFG, 1 + 4 * 2 ^ 15), (emWinA, m * 4096), (emWinA + 0x80, m)] ++ l)
def emCfg0 : Nat := 1 + 4 * 2 ^ 15
/-- Entries of the same key and of `k` at the places of key 0, VMASK 1. -/
def emFull (k : Nat) : State := (emKeyPlaces emCfg0 0).foldl (fun s p => s.setTabN 7 3 0 p (1 + k * 2 ^ 128)) (emS 2 [])
def emFree0 (s : State) (b : Nat) : Option Nat := (emPlaces b).find? (fun p => entVmask (s.emEntry 0 p) == 0)
def emAlts0 (s : State) (p : Nat) : List Nat :=
  ((List.range 4).map (emBucket emCfg0 (emKey emCfg0 (s.emEntry 0 p)))).filter (fun b => b != p / 4 * 4)

theorem movePath_closed {β : Type} {slots : β → List Nat} {free : β → Option Nat} {alts : Nat → List β} (B : List β)
    (h : ∀ b ∈ B, ∀ p ∈ slots b, ∀ c ∈ alts p, c ∈ B ∧ free c = none) :
    ∀ n, ∀ b ∈ B, movePath slots free alts n b = none := by
  intro n
  induction n with
  | zero => intro b _; rfl
  | succ n ih =>
    intro b hb
    rw [movePath, List.findSome?_eq_none_iff]
    intro p hp
    rw [List.findSome?_eq_none_iff]
    intro c hc
    have hcB := h b hb p hp c hc
    cases n with
    | zero => simp only [hcB.2, Option.map_none]
    | succ n => simp only [ih c hcB.1]

theorem shortestPath_closed {β : Type} {slots : β → List Nat} {free : β → Option Nat} {alts : Nat → List β} (B : List β) (n : Nat)
    (h : ∀ b ∈ B, ∀ p ∈ slots b, ∀ c ∈ alts p, c ∈ B ∧ free c = none) : shortestPath slots free alts B n = none := by
  rw [shortestPath, List.findSome?_eq_none_iff]
  intro k _
  rw [List.findSome?_eq_none_iff]
  intro b hb
  exact movePath_closed B h k b hb

theorem test_met_ExactMatchCommandsAct :
    (emS 2 []).mayWrite .jtag emWinA ∧ (emS 2 []).rbit (emWinA + 12) 0 = false ∧ (emS 2 []).glideQueues = false ∧
    natField (BitVec.toNat (8192 : Word)) 4 8 = 0 ∧ (emS 2 []).wr emWinA (BitVec.ofNat 32 (natField 8192 4 11 * 16)) = emS 2 [] ∧
    (emS 2 []).emCfg 0 = emCfg0 ∧ emLocations emCfg0 ≠ 0 ∧ entVmask (emClean ((emS 1 []).winDataN emWinA 8)) = 1 ∧
    (emS 1 []).verLocked &&& 1 ≠ 0 ∧ (emS 2 []).verLocked &&& 2 = 0 ∧
    7 ≤ natField (emClean ((emS 2 [(emWinA + 0x88, 7)]).winDataN emWinA 8)) 64 4 ∧
    natField (emClean ((emS 2 []).winDataN emWinA 8)) 64 4 < 7 ∧ emKey emCfg0 (emClean ((emS 2 []).winDataN emWinA 8)) = 0 ∧
    (emS 2 []).emFind 0 0 2 = [] ∧
    (let p := (emKeyPlaces emCfg0 0).headD 0
     ((emS 2 []).setTabN 7 3 0 p 2).emFind 0 0 2 = [p] ∧
     ((emS 2 []).setTabN 7 3 0 p 2).verLocked &&& entVmask (((emS 2 []).setTabN 7 3 0 p 2).emEntry 0 p) = 0 ∧
     (emKeyPlaces emCfg0 0).find? (fun p => entVmask ((emS 2 []).emEntry 0 p) == 0) = some p) ∧
    (emFull 0).emFind 0 0 2 = [] ∧ (emKeyPlaces emCfg0 0).find? (fun p => entVmask ((emFull 0).emEntry 0 p) == 0) = none ∧
    (emS 1 []).winVmask emWinA = 1 ∧ (emS 2 []).winVmask emWinA = 2 := by
  decide +kernel

theorem test_met_ExactMatchCommandsAct_full :
    shortestPath emPlaces (emFree0 (emFull 0)) (emAlts0 (emFull 0)) ((List.range 4).map (emBucket emCfg0 0)) 4 = none :=
  shortestPath_closed _ 4 (by decide +kernel)

theorem test_met_ExactMatchCommandsAct_moves :
    (shortestPath emPlaces (emFree0 (emFull 1)) (emAlts0 (emFull 1)) ((List.range 4).map (emBucket emCfg0 0)) 4).isSome = true ∧
    (emKeyPlaces emCfg0 0).find? (fun p => entVmask ((emFull 1).emEntry 0 p) == 0) = none ∧ (emFull 1).emFind 0 0 2 = [] := by
  decide +kernel

/-- A Glide's queue is open; a window is busy. -/
def glideOpen (s : State) : State := poke s [(A.img R.SYS_IMG_STAT, 16)]
def busyWin (s : State) (a : Nat) : State := s.setFld (a + 12) 0 1 1

theorem test_met_ExactMatchCommandsAct_window :
    (busyWin (emS 2 []) emWinA).rbit (emWinA + 12) 0 = true ∧ (glideOpen (emS 2 [])).glideQueues = true ∧
    (glideOpen (emS 2 [])).rbit (emWinA + 12) 0 = false ∧ (glideOpen (emS 2 [])).mayWrite .jtag emWinA ∧
    natField (BitVec.toNat (0x400 : Word)) 4 8 = 64 ∧ natField (BitVec.toNat (0x10 : Word)) 4 8 = 1 ∧ emLocations ((emS 2 []).emCfg 1) = 0 ∧
    (let p := (emKeyPlaces emCfg0 0).headD 0
     ((emS 2 []).setTabN 7 3 0 p 3).emFind 0 0 2 = [p] ∧
       ((emS 2 []).setTabN 7 3 0 p 3).verLocked &&& entVmask (((emS 2 []).setTabN 7 3 0 p 3).emEntry 0 p) ≠ 0) := by
  decide +kernel

/-- Window of routes: VMASK `m`, 10.0.0.0/24 of VRF 0, near or far, prefix bits `pre`; near table of 4 buckets and far table of 4. -/
def lpmS (m far pre : Nat) (desc : Nat) : State :=
  (poke up [(lpmWinA, 0x120 + m * 4096), (lpmWinA + 0x80, 24 * 2 ^ 14 + far * 2 ^ 23), (lpmWinA + 0x90, pre)]).setTabN 7 1 0x10 24 desc
def lpmDesc0 : Nat := 3 + 4 * 2 ^ 64 + 4 * 2 ^ 192
def ten : Route := ⟨false, 24, 0, 10 * 2 ^ 24⟩
def lpmNear : State := lpmS 2 0 (10 * 2 ^ 24) lpmDesc0
def lpmFar : State := lpmS 2 1 (10 * 2 ^ 24) lpmDesc0
def tenPlace : Nat := (lpmNear.nearBuckets ten).headD 0 * 8
def lpmHas (v : Nat) : State := lpmNear.setSlot false false 24 tenPlace (slotOf_ ten v 0 7)
def slots0 (s : State) (far : Bool) (b : Nat) : Option Nat := (slotPlaces false 24 b).find? (fun p => slotVmask (s.slot far false 24 p) == 0)
/-- The far bucket holds seven routes of VRF 5. -/
def lpmFarFull : State :=
  (List.range 7).foldl (fun s j => s.setSlot true false 24 (s.farBucket ten * 8 + j) (2 + 5 * 2 ^ 24 + j * 2 ^ 46)) lpmFar

theorem test_met_RouteCommandsAct :
    lpmNear.mayWrite .jtag lpmWinA ∧ lpmNear.rbit (lpmWinA + 12) 0 = false ∧ lpmNear.glideQueues = false ∧
    natField (BitVec.toNat (0x2120 : Word)) 4 8 = 0x12 ∧ lpmNear.wr lpmWinA (BitVec.ofNat 32 (natField 0x2120 4 11 * 16)) = lpmNear ∧
    lpmNear.lpmArgs = (ten, false, 10 * 2 ^ 24) ∧ lpmFar.lpmArgs = (ten, true, 10 * 2 ^ 24) ∧ lpmNear.winVmask lpmWinA = 2 ∧
    (lpmS 1 0 0 0).verLocked &&& (lpmS 1 0 0 0).winVmask lpmWinA ≠ 0 ∧ lpmNear.verLocked &&& 2 = 0 ∧ ten.valid = true ∧
    (lpmHas 2).routeFind false ten 2 = [tenPlace] ∧ lpmNear.routeFind false ten 2 = [] ∧ lpmNear.routeFind true ten 2 = [] ∧
    (lpmS 2 0 (10 * 2 ^ 24 + 1) lpmDesc0).lpmArgs = (ten, false, 10 * 2 ^ 24 + 1) ∧ (lpmS 2 0 (10 * 2 ^ 24) 0).partOn false ten = false ∧
    lpmNear.partOn false ten = true ∧ lpmFar.partOn true ten = true ∧
    (lpmNear.routeBuckets false ten).findSome? (slots0 lpmNear false) = some tenPlace ∧
    ((lpmFar.routeBuckets true ten).findSome? (slots0 lpmFar true)).isSome = true ∧
    lpmFar.fld (regAddr 7 7 R.TBL_FAR_ENTRIES) 0 27 < 67108864 ∧
    (lpmHas 2).verLocked &&& slotVmask ((lpmHas 2).slot false false 24 tenPlace) = 0 ∧
    natField (BitVec.toNat (0x100 : Word)) 4 8 = 0x10 ∧ lpmValidIndex 0 = false ∧ lpmValidIndex 33 = false ∧ lpmValidIndex 32 = true ∧
    lpmValidIndex 128 = false ∧ lpmValidIndex 256 = true ∧ up.fwd.rebuild = none ∧
    ({ up with fwd := { up.fwd with rebuild := some 24 } } : State).fwd.rebuild ≠ none := by
  decide +kernel

theorem test_met_RouteCommandsAct_farFull :
    (lpmFarFull.routeBuckets true ten).findSome? (slots0 lpmFarFull true) = none ∧ lpmFarFull.routeFind true ten 2 = [] ∧
    lpmFarFull.routeFind false ten 2 = [] ∧ lpmFarFull.partOn true ten = true ∧ lpmFarFull.lpmArgs = (ten, true, 10 * 2 ^ 24) := by
  decide +kernel

theorem test_met_RouteCommandsAct_window :
    (busyWin lpmNear lpmWinA).rbit (lpmWinA + 12) 0 = true ∧ (glideOpen lpmNear).glideQueues = true ∧
    (glideOpen lpmNear).rbit (lpmWinA + 12) 0 = false ∧ (glideOpen lpmNear).mayWrite .jtag lpmWinA ∧ famBits false < 33 ∧
    ((poke lpmNear [(lpmWinA + 0x80, 33 * 2 ^ 14)]).lpmArgs.1).len = 33 ∧
    (lpmHas 3).routeFind false ten 2 = [tenPlace] ∧ (lpmHas 3).verLocked &&& slotVmask ((lpmHas 3).slot false false 24 tenPlace) ≠ 0 ∧
    natField (BitVec.toNat (0x110 : Word)) 4 8 = 0x11 ∧ natField (BitVec.toNat (0x130 : Word)) 4 8 = 0x13 := by
  decide +kernel

/-- Learned table 1 with a request; STATIC entries of another key at the places of key (7, 9); an entry of that key. -/
def lrnS (q : LrnReq) : State := up.setLrn 1 { up.lrn 1 with fifo := [q] }
def lrnFull : State := (lrnPlaces 7 9).foldl (fun s p => s.setTabN 4 9 0x50 p 3) (lrnS (.learn 7 9 1 0))
def lrnHas : State := (lrnS (.learn 7 9 1 0)).setTabN 4 9 0x50 ((lrnPlaces 7 9).headD 0) (leOf 7 9 1 0)

theorem test_met_LearningActsByTheRules :
    up.mayWrite .jtag (lrnWinA 1) ∧ up.rbit (lrnWinA 1 + 12) 0 = false ∧ up.glideQueues = false ∧
    natField (BitVec.toNat (0x500 : Word)) 4 8 = 0x50 ∧ up.rgnRuns 4 = true ∧ up.blkHeld 4 9 = false ∧
    ((lrnS (.insert 5)).lrn 1).fifo = .insert 5 :: [] ∧ lrnHas.lrnFind 1 7 9 = some ((lrnPlaces 7 9).headD 0) ∧
    (lrnS (.learn 7 9 1 0)).lrnFind 1 7 9 = none ∧ ((lrnS (.learn 7 9 1 0)).lrnRoom 1 7 9).isSome = true ∧
    lrnFull.lrnFind 1 7 9 = none ∧ lrnFull.lrnRoom 1 7 9 = none ∧ ((lrnS (.flush 1 7 0)).lrn 1).flush = none ∧
    ((up.setLrn 1 { up.lrn 1 with flush := some (1, 7, 0) }).lrn 1).flush = some (1, 7, 0) ∧
    leBd (leOf 7 9 1 0) = 7 ∧ leMac (leOf 7 9 1 0) = 9 ∧ (up.lrn 1).fifo = [] ∧ (up.lrn 1).flush = none ∧
    (busyWin up (lrnWinA 1)).rbit (lrnWinA 1 + 12) 0 = true ∧ (glideOpen up).mayWrite .jtag (lrnWinA 1) ∧
    (poke (lrnS (.learn 7 9 1 0)) [(lrnA 1 R.PIPE_LRN_CTRL, 8)]).rbit (lrnA 1 R.PIPE_LRN_CTRL) 3 = true ∧
    (let s := up.setLrn 1 { up.lrn 1 with fifo := [.flush 1 7 0], flush := some (0, 0, 0) }
     (s.lrn 1).fifo = .flush 1 7 0 :: [] ∧ (s.lrn 1).flush ≠ none) := by
  decide +kernel

/-- Processor channel 0 enabled, KIND 3, four places. -/
def chanOpen : State := up.setTabN 9 5 0xE0 0 (2 ^ 64 + 3 * 2 ^ 65 + 2 * 2 ^ 72)

theorem test_met_LearningActsByTheRules_aging :
    (let x : LearnSt := { up.lrn 1 with notes := [[1], [2], [3], [4]] }; 4 ≤ x.notes.length) ∧
    (let x : LearnSt := { up.lrn 1 with notes := [[1]] }; x.notes ≠ [] ∧ x.noteTick + 10 * ticksPerUs ≤ 10 * ticksPerUs) ∧
    (up.chDevice 0 3 []).1 ≠ .posted ∧ (chanOpen.chDevice 0 3 (List.replicate 64 1)).1 = .posted ∧
    (let s := poke timed [(lrnA 1 R.PIPE_LRN_AGE, 10), (emA R.TBL_EM_AGE, 20)]
     s.time.wtValid = true ∧ s.agePeriod (.learned 1) ≠ 0 ∧ tvSec s.wt % s.agePeriod (.learned 1) = 0 ∧ s.agePeriod (.em 0) ≠ 0 ∧
       tvSec s.wt % s.agePeriod (.em 0) = 0 ∧ spGet (fun _ => 0) s.fwd.lastSweep (ageIndex (.em 0)) ≠ tvSec s.wt + 1 ∧
       s.rgnRuns (ageRegion (.learned 1)) = true ∧ s.rgnRuns (ageRegion (.em 0)) = true) ∧
    (let s := (up.setSweep (.learned 1) (some ⟨0, 0⟩))
     s.sweep (.learned 1) = some ⟨0, 0⟩ ∧ s.ageSuspended (.learned 1) = false ∧ 0 < s.ageLocations (.learned 1) ∧
       0 + 0 * ageSpacing (.learned 1) * lsbNs ≤ s.wt ∧ leValid (s.lrnEntry 1 0) = false) ∧
    (poke (up.setSweep (.learned 1) (some ⟨0, 0⟩)) [(lrnA 1 R.PIPE_LRN_CTRL, 8)]).ageSuspended (.learned 1) = true ∧
    up.sweep (.em 0) = none ∧ (up.setSweep (.learned 1) (some ⟨1, 0⟩)).wt < 1 + 0 * ageSpacing (.learned 1) * lsbNs ∧
    leValid 5 = true ∧ leStatic 5 = false ∧ leHit 5 = true ∧ leStatic 3 = true ∧ leValid 1 = true ∧ leHit 1 = false ∧
    (let s := ((emS 2 []).setTabN 7 3 0 0 2).setSweep (.em 0) (some ⟨0, 0⟩)
     s.sweep (.em 0) = some ⟨0, 0⟩ ∧ s.ageSuspended (.em 0) = false ∧ 0 < s.ageLocations (.em 0) ∧
       0 + 0 * ageSpacing (.em 0) * lsbNs ≤ s.wt ∧ entVmask (s.emEntry 0 0) ≠ 0 ∧ s.emHit 0 0 = false ∧
       (s.setEmHit 0 0 true).emHit 0 0 = true) := by
  decide +kernel
/-! ## Statements: associative arrays, versions -/

def arr0 : ArrayRef := ⟨1, false⟩
def win0 : ArrayWin := ⟨arr0, 0⟩
/-- Partition 0 of an array: rows 0 to 7, single width; entry 5 for keys that end in 11, entry 6 for those that end in 1, one priority. -/
def asc0 : State :=
  ((up.setTabN 4 10 0x61 0 (1 + 2 * 2 ^ 16)).ascPut arr0 5 ⟨2 + 9 * 2 ^ 16, 3, 3⟩).ascPut arr0 6 ⟨2 + 9 * 2 ^ 16, 1, 1⟩
def part0 : Nat := asc0.part arr0 0

theorem test_asc0_keys : ∀ i, i < partEnd part0 →
    (asc0.ascEnt arr0 i).key &&& (asc0.ascEnt arr0 i).mask = (asc0.ascEnt arr0 i).key := by
  have h : partEnd part0 = 8 := by decide +kernel
  rw [h]
  decide +kernel

theorem test_met_SearchWinnerHasHighestPriorityLowestIndex :
    asc0.storesWf = true ∧ asc0.ascMatches arr0 part0 3 true = [5, 6] ∧ asc0.ascBest arr0 [5, 6] = some 5 ∧
    asc0.arrTab arr0 shBadCode 5 = 0 ∧ 3 &&& asc0.arrTab arr0 shMaskCode 5 = asc0.arrTab arr0 shKeyCode 5 ∧
    asc0.ascMatches arr0 part0 2 true = [] ∧ asc0.ascMatches arr0 part0 3 false = [] := by
  decide +kernel

/-- The window of that array at INDEX `i`, VMASK `m`, priority 4 in WIN_DATA. -/
def ascW (i m : Nat) : State :=
  poke asc0 [(arrWin win0, 0x620 + m * 4096), (arrWin win0 + 4, i), (arrWin win0 + 0x80, 4 * 65536), (arrA arr0 R.PIPE_ASC_KEY, 3)]
def moving (x : AscMove) : State := (ascW 5 2).setArr arr0 { AscSt.reset with move := some x }
def run0 : AscMove := ⟨arrWin win0, 5, 6, 1, false, 6, 2, [], none⟩
/-- Every port's slot of the clock is taken. -/
def taken (s : State) : State := s.setArr arr0 { s.arr arr0 with searched := [1, 1, 1, 1] }

theorem test_met_AssociativeCommandsAct :
    (ascW 4 2).mayWrite .jtag (arrWin win0) ∧ (ascW 4 2).rbit (arrWin win0 + 12) 0 = false ∧ (ascW 4 2).glideQueues = false ∧
    natField (BitVec.toNat (0x2620 : Word)) 4 8 = 0x62 ∧
    (ascW 4 2).wr (arrWin win0) (BitVec.ofNat 32 (natField 0x2620 4 11 * 16)) = ascW 4 2 ∧ (ascW 4 2).winIndex (arrWin win0) = 4 ∧
    (ascW 4 2).winVmask (arrWin win0) = 2 ∧ (moving run0).ascInMove arr0 5 = true ∧ (ascW 4 2).ascInMove arr0 4 = false ∧
    (ascW 4 2).ascDrain arr0 = ascW 4 2 ∧ (moving run0).ascDrain arr0 = moving run0 ∧ (ascW 4 2).ascSpare arr0 = true ∧
    (moving run0).ascSpare arr0 = true ∧ (taken (ascW 4 2)).ascSpare arr0 = false ∧
    (let s := (ascW 4 2).setFld (arrWin win0 + 12) 0 1 1; s.rbit (arrWin win0 + 12) 0 = true ∧ s.mayWrite .jtag (arrWin win0)) ∧
    (let s := poke (ascW 4 2) [(A.img R.SYS_IMG_STAT, 16)]; s.glideQueues = true ∧ s.rbit (arrWin win0 + 12) 0 = false) ∧
    natField (BitVec.toNat (0x2600 : Word)) 4 8 = 0x60 ∧ natField (BitVec.toNat (0x2610 : Word)) 4 8 = 0x61 ∧
    (ascW 32768 2).winIndex (arrWin win0) = 32768 ∧ ascKindOk false (7 * 2 ^ 32) = false ∧
    (let s := (ascW 5 2).ascPut arr0 5 ⟨3, 0, 0⟩; awVmask (s.ascEnt arr0 5).words &&& (3 - 2) ≠ 0 ∧ s.verLocked &&& 2 = 0) ∧
    (ascW 4 1).verLocked &&& awVmask ((ascW 4 1).ascNew arr0 (arrWin win0)).words ≠ 0 ∧
    (ascW 4 2).verLocked &&& awVmask ((ascW 4 2).ascNew arr0 (arrWin win0)).words = 0 ∧
    awVmask ((ascW 5 2).ascEnt arr0 5).words ≠ 0 ∧ awVmask ((ascW 4 2).ascEnt arr0 4).words = 0 ∧
    (ascW 8 2).ascNewBad arr0 8 ((ascW 8 2).ascNew arr0 (arrWin win0)).words = some 3 ∧
    (ascW 4 2).ascNewBad arr0 4 ((ascW 4 2).ascNew arr0 (arrWin win0)).words = none ∧
    awVmask ((ascW 4 2).ascNew arr0 (arrWin win0)).words ≠ 0 ∧
    ((ascW 5 2).ascPut arr0 5 ⟨3, 0, 0⟩).verLocked &&& awVmask (((ascW 5 2).ascPut arr0 5 ⟨3, 0, 0⟩).ascEnt arr0 5).words ≠ 0 ∧
    (ascW 5 2).verLocked &&& (2 ||| awVmask ((ascW 5 2).ascEnt arr0 5).words) = 0 ∧ (ascW 5 2).verLocked &&& 2 = 0 ∧
    ascKindOk false (natSetField (awClean ((ascW 5 2).winDataN (arrWin win0) 3)) 0 32
      (natField ((ascW 5 2).ascEnt arr0 5).words 0 32)) = true ∧
    (ascW 4 2).part arr0 (natField ((ascW 4 2).winWord (arrWin win0) 0) 0 4) = part0 ∧ partEn part0 = true ∧
    (ascW 4 2).staged arr0 R.PIPE_ASC_KEY (widthBytes (partWidth part0)) = 3 ∧
    ((ascW 4 2).ascSearch arr0 part0 3 true).1 = .hit 5 ∧ ((ascW 4 1).ascSearch arr0 part0 3 false).1 = .miss := by
  decide +kernel

/-- The word at INDEX 4 is free, and rows 0 to 3 with it; with every row in use none is. -/
def ascFull : State := (List.range 8).foldl (fun s i => s.ascPut arr0 i ⟨2, 0, 0⟩) (ascW 5 2)

theorem test_met_MoverAndScrubberKeepTheArray :
    (ascW 5 2).partOf arr0 5 = some part0 ∧ widthRows (partWidth part0) = 1 ∧ ((moving run0).arr arr0).move ≠ none ∧
    ((ascW 5 2).arr arr0).move = none ∧ (ascW 5 2).ascNewBad arr0 5 ((ascW 5 2).ascNew arr0 (arrWin win0)).words = none ∧
    ascFull.ascFree arr0 part0 5 = none ∧ (ascW 4 2).ascFree arr0 part0 4 = some (4, false) ∧
    ((ascW 5 2).ascPut arr0 4 ⟨2, 0, 0⟩).ascFree arr0 part0 5 = some (7, false) ∧
    (let s := poke (ascW 5 2) [(arrWin win0 + 0x80, 6)]
     natField (s.winWord (arrWin win0) 0) 0 15 = 6 ∧ natBit (s.winWord (arrWin win0) 0) 31 = false ∧ 6 + 1 < partEnd part0 ∧
       awVmask (s.ascWords arr0 (6 + 1)) = 0) ∧
    run0.left = 1 + 1 ∧ run0.down = false ∧ ((moving run0).arr arr0).rewrite = [] ∧ (moving run0).arrWorks arr0 = true ∧
    (moving run0).ascSpare arr0 = true ∧ (moving run0).verLocked &&& awVmask ((moving run0).ascNew arr0 (arrWin win0)).words = 0 ∧
    ((ascW 5 1).verLocked &&& awVmask ((ascW 5 1).ascNew arr0 (arrWin win0)).words) ≠ 0 ∧
    ((ascW 8 2).ascNewBad arr0 8 ((ascW 8 2).ascNew arr0 (arrWin win0)).words).isSome = true ∧ (ascW 8 2).partOf arr0 8 = none ∧
    (let s := ((ascW 6 2).ascPut arr0 6 ⟨2, 0, 0⟩).ascPut arr0 7 ⟨2, 0, 0⟩; s.ascFree arr0 part0 6 = some (4, true)) ∧
    (let s := (((ascW 6 2).ascPut arr0 6 ⟨2, 0, 0⟩).ascPut arr0 7 ⟨2, 0, 0⟩).ascPut arr0 5 freeEnt; s.ascFree arr0 part0 6 = some (5, true)) ∧
    (let s := (ascW 5 2).setArr arr0 { (ascW 5 2).arr arr0 with cmds := [(arrWin win0, 2)] }
     (s.arr arr0).rewrite = [] ∧ (s.arr arr0).cmds ≠ []) ∧
    (poke (ascW 5 2) [(arrWin win0 + 0x80, 4)]).winWord (arrWin win0) 0 = 4 ∧
    (taken asc0).ascSpare arr0 = false ∧ (asc0.cpStore 1 (regAddr 4 10 0x018) 1).arrWorks arr0 = false ∧
    (let s := asc0.setArr arr0 { AscSt.reset with rewrite := [1], waitTick := 0 }
     (s.arr arr0).rewrite = 1 :: [] ∧ 0 + 64 ≤ ({ s with time := { s.time with ticks := 64 } } : State).time.ticks ∧
       (s.arr arr0).move = none) ∧
    (let s := poke asc0 [(arrA arr0 R.PIPE_ASC_CTRL, 1)]
     s.rbit (arrA arr0 R.PIPE_ASC_CTRL) 0 = true ∧ (s.arr arr0).rewrite = [] ∧ s.scrubNext arr0 (s.arr arr0).scrub = some 0 ∧
       s.lineDiffers arr0 0 = false ∧ (s.setArrTab arr0 keyCode 2 9).lineDiffers arr0 0 = true ∧
       ((s.scrubParity arr0 0).scrubNext arr0 (0 + 1)).isNone = false) := by
  decide +kernel
/-- The other version in a state; working time 100 s where `timed`. -/
def verS (other : Nat) : State := timed.setVerOther other
def armed (t : Nat) : State := { verS 1 with ver := { timed.ver with commitAt := some t } }
/-- VER_AT at a slot start, 102 s, and between slots. -/
def atInstant (ns : Nat) : State := poke (verS 0) [(A.ver R.SYS_VER_AT_NS, ns), (A.ver R.SYS_VER_AT_NS + 4, 102)]

theorem test_met_VersionCommandsActOrAreRefused :
    up.mayWrite .jtag verCtrlA ∧ up.time.wtValid = false ∧ (verS 1).verOther = 1 ∧ (verS 2).verOther = 2 ∧ timed.time.wtValid = true ∧
    (verS 0).verOther = 0 ∧ timed.devRunning = true ∧ timed.wt = 100 * lsbSec ∧
    (atInstant 0).instant (A.ver R.SYS_VER_AT_NS) % lsbSlot = 0 ∧ (atInstant 0).wt < (atInstant 0).instant (A.ver R.SYS_VER_AT_NS) ∧
    (atInstant 1).instant (A.ver R.SYS_VER_AT_NS) % lsbSlot ≠ 0 ∧ (verS 0).instant (A.ver R.SYS_VER_AT_NS) ≤ (verS 0).wt ∧
    (verS 0).ver.commitAt = none ∧ (armed 5).ver.commitAt = some 5 ∧ 5 ≤ (armed 5).wt ∧ (armed (200 * lsbSec)).wt < 200 * lsbSec ∧
    ({ up with ver := { up.ver with batch := some (0, 3, 1) } } : State).ver.batch ≠ none ∧ up.ver.batch = none ∧
    (let s := poke up [(A.ver R.SYS_VER_PAUSE, 65536)]
     (List.range s.batchCount).find? (fun n => !s.batchOk (batchArgs (s.batchEntry n))) = some 0) ∧
    (List.range up.batchCount).find? (fun n => !up.batchOk (batchArgs (up.batchEntry n))) = none := by
  decide +kernel

theorem test_met_CommitsAndRetirementFollowTheirConditions :
    up.mayWrite .jtag (A.ver R.SYS_VER_SEQ) ∧ (armed 5).instantDue 5 = true ∧ (armed (200 * lsbSec)).instantDue (200 * lsbSec) = false ∧
    (armed 5).storesWf = true ∧
    (let s : State := { withBoot (verS 2) (fun b => { b with isolated := true }) with ver := { timed.ver with lastT := 0 } }
     s.verOther = 2 ∧ s.infl (!s.verOdd) = 0 ∧ s.peersDrained = true ∧ s.ver.lateRaised = false ∧
       s.ver.lastT + s.fld (A.ver R.SYS_VER_RETIRE_LIMIT) 0 16 * 1000 * lsbUs ≤ s.wt) ∧
    (verS 2).peersDrained = false ∧
    (let s : State := { withPipe (fun p => { p with fifo := [{ Pkt.empty with kind := 1, slice := 3 }] }) with
       ver := { up.ver with batch := some (0, 3, 1) } }
     s.ver.batch = some (0, 3, 1) ∧ s.sliceAhead 3 = true ∧ s.sliceAhead 4 = false ∧ s.wt < 0 + lsbUs ∧
       0 + lsbUs ≤ ({ s with time := timed.time } : State).wt ∧ ({ s with time := timed.time } : State).sliceAhead 3 = true) := by
  decide +kernel
/-! ## Statements: buffer and queues -/

def poolBase : Nat := 0x0400000000
/-- Pool 1: four buffers of 256 bytes, its cache, and the pools' share table. -/
def poolS (cache : List Nat) (shares : List (Nat × PoolShare)) : State :=
  let s := (up.setTabN 0x13 3 0x70 1 (poolBase + 0x0500000000 * 2 ^ 64 + 4 * 2 ^ 128 + 2 ^ 160)).setPool 1 ⟨cache, 0, 0, 0⟩
  { s with buf := { s.buf with poolShares := shares } }
/-- What the share table says of a buffer. -/
def shared (x : PoolShare) : Option PoolShare := (poolS [] [(poolBase, x)]).poolShare poolBase

def checked : Except Nat Nat → Bool × Nat
  | .error r => (false, r)
  | .ok p => (true, p)

theorem test_met_PoolsHandOutAndTakeBack :
    up.accessCheck (.core 5) (bportA (R.BUF_POOL_ALLOC + 8 * 1)) 8 false false = .ok ∧
    pdEn ((poolS [poolBase] []).poolDesc 1) = true ∧ ((poolS [poolBase] []).pool 1).cache = poolBase :: [] ∧
    pdEn (up.poolDesc 1) = false ∧ pdFbEn (up.poolDesc 1) = false ∧
    up.accessCheck .jtag (bportA (R.BUF_POOL_ALLOC + 8 * 1)) 8 false false = .ok ∧
    up.accessCheck (.core 5) (bportA R.BUF_POOL_FREE) 8 false true = .ok ∧
    up.accessCheck (.core 5) (bportA R.BUF_POOL_RELEASE) 8 false true = .ok ∧
    up.accessCheck (.core 5) (bportA R.BUF_POOL_SHARE) 8 false true = .ok ∧
    checked ((poolS [] []).poolCheck 7) = (false, 1) ∧
    checked ((poolS [] []).poolCheck (poolBase + 1)) = (false, 2) ∧
    checked ((poolS [] []).poolCheck poolBase) = (true, 1) ∧
    (poolS [] []).poolShare poolBase = none ∧ shared ⟨0, 5, 0, false⟩ = some ⟨0, 5, 0, false⟩ ∧
    shared ⟨0, 6, 1, true⟩ = some ⟨0, 6, 1, true⟩ ∧ ¬(0 = 0 ∧ 6 = (5 : Fin 384).val) ∧ up.mayWrite .jtag poolWinA ∧
    up.rbit (poolWinA + 12) 0 = false ∧ up.glideQueues = false ∧
    (up.wr poolWinA (BitVec.ofNat 32 (natField (natSetField (withCmd 0 8) 4 8 0x70) 4 11 * 16))).winIndex poolWinA < 256 ∧
    up.mayRead .jtag (poolA R.BUF_POOL_LOG) ∧ up.mayRead .jtag (poolA (R.BUF_POOL_LOG + 12)) ∧
    ({ up with buf := { up.buf with log := [⟨1, 2, 0, 5, 0, 0⟩] } } : State).buf.log = ⟨1, 2, 0, 5, 0, 0⟩ :: [] ∧
    (poolS [] []).poolRingUp 1 = true ∧ up.rgnWorks 0x13 = true ∧ pdEn ((poolS [] []).poolDesc 1) = true ∧
    (poolChain 4 1 (poolS [] [])).isNone = true ∧ ((poolChain 4 1 (poolS [poolBase] [])).map (fun r => (r.1, r.2.1))) = some (poolBase, 1) ∧
    up.accessCheck (.core 5) (bportA (R.BUF_POOL_ALLOC + 8 * 1)) 4 false false = .ok ∧
    up.accessCheck .jtag (bportA R.BUF_POOL_FREE) 8 false true = .ok ∧ up.accessCheck .jtag (bportA R.BUF_POOL_SHARE) 8 false true = .ok ∧
    up.accessCheck .jtag (bportA R.BUF_POOL_RELEASE) 8 false true = .ok ∧
    (up.setFld (poolWinA + 12) 0 1 1).rbit (poolWinA + 12) 0 = true ∧ (poke up [(A.img R.SYS_IMG_STAT, 16)]).glideQueues = true ∧
    (poolS [] []).poolShare (poolBase / 256 * 256) = none ∧ (poolS [] []).buf.poolShares.length < 65536 ∧ up.buf.log = [] ∧
    shared ⟨0, 5, 1, true⟩ = some ⟨0, 5, 1, true⟩ := by
  decide +kernel

theorem test_met_PoolsHandOutAndTakeBack_cache :
    ((poolS (List.replicate 256 0) []).pool 1).cache.length = 256 ∧ ((poolS (List.replicate 257 0) []).pool 1).cache.length = 257 ∧
    ((poolS (List.replicate 768 0) []).pool 1).cache.length = 768 ∧ ((poolS (List.replicate 767 0) []).pool 1).cache.length = 767 := by
  decide +kernel

/-- Spill pages and their ring in system memory. -/
def spillOn : State := poke up [(spillA (R.BUF_SPILL_BASE_LO + 4), 8), (spillA (R.BUF_SPILL_RING_LO + 4), 8), (spillA (R.BUF_SPILL_PTAB_LO + 4), 8)]
/-- A queue entry of `n` bytes, a queue with it in a part, and cell 7 in use. -/
def qent (n : Nat) : QEnt := ⟨{ Pkt.empty with bytes := List.replicate n 0 }, [7], none, true, false, false, false, 0, false⟩
def queued (key : Nat) (x : QSt) : State := spillOn.setQueue key x
def cellIn : State := up.setCell 7 true

theorem test_met_CellsSharesAndSpillPages :
    up.meets 0x13 0 = false ∧ 655360 ≤ (655360 : Word).toNat % 2 ^ 20 ∧ cellIn.cellUsed 7 = true ∧ up.cellUsed 655359 = false ∧
    (cellIn.setShareRec 3 ⟨1, true, [7]⟩).shareRec 3 = ⟨1, true, [7]⟩ ∧ (ShareRec.mk 1 true [7]).cells ≠ [] ∧
    (cellIn.shareRec 3).cells = [] ∧ (cellIn.setShareRec 3 ⟨0, false, [7]⟩).shareRec 3 = ⟨0, false, [7]⟩ ∧
    (up.cpStore 1 (regAddr 0x13 0 0x018) 1).meets 0x13 0 = true ∧ spillOn.rgnWorks 0x13 = true ∧ up.blkHeld 0x13 1 = false ∧
    (queued 3 ⟨[], [qent 60], [], [], 0, 0, 0⟩).pagesWait ((0 + (qent 60).recordBytes + 4095) / 4096 - 0) = false ∧
    (let s := spillOn.setRgnState 0x16 .absent
     let t : State := { s with buf := { s.buf with ringCount := 5 } }
     t.spillUp = false ∧ t.pagesWait 1 = true) ∧
    up.mayWrite .jtag (spillA R.BUF_SPILL_INIT) ∧ natBit (1 : Word).toNat 0 = true ∧ up.buf.initBusy = false ∧
    ({ up with buf := { up.buf with initBusy := true } } : State).buf.initBusy = true ∧ spillOn.spillUp = true ∧ up.rgnRuns 0x13 = true ∧
    up.meets 0x13 1 = false ∧ ((queued 3 ⟨[], [qent 60], [], [], 0, 0, 0⟩).queue 3).toSpill = qent 60 :: [] ∧
    growPages ((qent 60).recordBytes / 4096 + 2) (0 + (qent 60).recordBytes) []
      ((queued 3 ⟨[], [qent 60], [], [], 0, 0, 0⟩).setQueueFor 3 ⟨[], [], [], [], 0, 0, 0⟩ (qent 60).pkt) = none ∧
    (qent 60).share = none := by
  decide +kernel

/-- Page 5 in the cache; a record in the stream. -/
def paged : State :=
  { queued 3 ⟨[], [qent 60], [], [], 0, 0, 0⟩ with buf := { (queued 3 ⟨[], [qent 60], [], [], 0, 0, 0⟩).buf with pageCache := [5] } }
def streamed : State := queued 3 ⟨[], [], [qent 60], [5], 112, 0, 0⟩

theorem test_met_CellsSharesAndSpillPages_stream :
    (growPages ((qent 60).recordBytes / 4096 + 2) (0 + (qent 60).recordBytes) []
      (paged.setQueueFor 3 ⟨[], [], [], [], 0, 0, 0⟩ (qent 60).pkt)).map (·.1) = some [5] ∧
    (growPages ((qent 60).recordBytes / 4096 + 2) (0 + (qent 60).recordBytes) []
      (paged.setQueueFor 3 ⟨[], [], [], [], 0, 0, 0⟩ (qent 60).pkt)).all (fun r => !r.2.hbmDown (r.2.spillPage 5)) = true ∧
    (streamed.queue 3).stream = qent 60 :: [] ∧
    natSum ([].map (fun e : QEnt => e.pkt.bytes.length)) + (qent 60).pkt.bytes.length ≤ streamed.fld (spillA R.BUF_SPILL_AHEAD) 0 7 * 1024 ∧
    streamed.hbmDown (streamed.spillPage 5) = false ∧ (streamed.allocCells 0 (qent 60).cellCount).isSome = true ∧
    (streamed.anyPoison && (streamed.streamPieces [5] 0 (qent 60).recordBytes).any (fun p => streamed.hbmMeets p.1 p.2)) = false ∧
    (let a := streamed.spillPage 5
     let s := (streamed.lineOf a).elim streamed (fun q => streamed.setPoison q.1 q.2.2.1 q.2.2.2 true)
     (s.anyPoison && (s.streamPieces [5] 0 (qent 60).recordBytes).any (fun p => s.hbmMeets p.1 p.2)) = true) := by
  decide +kernel

theorem test_met_CellsSharesAndSpillPages_caches :
    ({ up with buf := { up.buf with pageCache := List.replicate 768 0 } } : State).buf.pageCache.length = 768 ∧
    ({ up with buf := { up.buf with pageCache := List.replicate 256 0 } } : State).buf.pageCache.length ≤ 256 := by
  decide +kernel

def bound (d : Dest) : Pkt := { Pkt.empty with bytes := List.replicate 60 0, dest := d }
def admitting (d : Dest) : State := withPipe (fun p => { p with toBuf := [bound d] })
/-- Group 9 with entries 4 to 4 + n − 1, its packet in the replication FIFO. -/
def replicating (n : Nat) : State :=
  { up.setTabN 0x13 2 0x50 9 (1 + 4 * 2 + n * 2 ^ 19) with
    buf := { up.buf with repl := [⟨bound (.multicast 9), [7], none, true, false, false, false, 0, false⟩] } }

theorem test_met_QueuesAdmitReplicateAndSend :
    ((admitting (.unicast 3)).pipe 1).toBuf = bound (.unicast 3) :: [] ∧ (admitting (.unicast 3)).behindPair 1 (bound (.unicast 3)) = false ∧
    (admitting (.unicast 3)).espTakes (bound (.unicast 3)) = false ∧
    (up.rgnDown 0x0D || up.rgnDown 0x10 || up.meets 0x13 0) = false ∧
    (let s := withBoot up (fun b => { b with live := b.live - 2 ^ 0x10 }); (s.rgnDown 0x0D || s.rgnDown 0x10 || s.meets 0x13 0) = true) ∧
    up.destOf (bound (.unicast 3)) = some (3, 0) ∧ up.destOf (bound .drop) = none ∧ (bound (.multicast 9)).dest = .multicast 9 ∧
    up.destOf (bound (.unicast 69)) = some (69, 0) ∧ up.destOf (bound (.unicast 70)) = some (70, 0) ∧
    natBit (up.tabN 0x13 2 0x50 9) 0 = false ∧ natBit ((replicating 1).tabN 0x13 2 0x50 9) 0 = true ∧
    natField ((replicating 1).tabN 0x13 2 0x50 9) 19 11 = 1 ∧ natField ((replicating 3).tabN 0x13 2 0x50 9) 19 11 = 3 ∧
    (replicating 3).freeShare 131072 0 = some 0 := by
  decide +kernel

/-- Every share record in use. -/
def noShares : State := { replicating 3 with
  buf := { (replicating 3).buf with shares := (List.range' 0 131072).map (fun r => (r, ⟨1, false, [7]⟩)) } }

theorem spGet_range' {α : Type} (d : Nat → α) (v : α) (k : Nat) :
    ∀ n a, a ≤ k → k < a + n → spGet d ((List.range' a n).map (fun r => (r, v))) k = v := by
  intro n
  induction n with
  | zero => intro a h1 h2; omega
  | succ n ih =>
    intro a h1 h2
    rw [List.range'_succ, List.map_cons, spGet]
    split
    · rfl
    · exact ih (a + 1) (by omega) (by omega)

theorem freeShare_none {s : State} : ∀ n r, (∀ j, j < r + n → s.shareInUse j = true) → s.freeShare n r = none := by
  intro n
  induction n with
  | zero => intro r _; rfl
  | succ n ih =>
    intro r h
    rw [State.freeShare, h r (by omega), if_pos rfl]
    exact ih (r + 1) (fun j hj => h j (by omega))

theorem test_met_QueuesAdmitReplicateAndSend_noShare : noShares.freeShare 131072 0 = none := by
  refine freeShare_none _ _ (fun j hj => ?_)
  have h : noShares.shareRec j = ⟨1, false, [7]⟩ := spGet_range' _ _ j 131072 0 (Nat.zero_le j) hj
  rw [State.shareInUse, h]
  rfl

/-- Virtual output queue (destination 70, class 2) with a packet and a grant. -/
def granted (bad : Bool) : State :=
  let s := queued (voqKey 70 2) ⟨[{ qent 60 with pkt := { (qent 60).pkt with bad := bad } }], [], [], [], 0, 0, 0⟩
  let s := poke s [(voqA (R.QUE0_CLASS_CFG + 8), 16)]
  { s with que := { s.que with grants := [(70, ⟨4, [], 500⟩)] } }

theorem test_met_QueuesAdmitReplicateAndSend_voq :
    (up.meets 0x11 0 || up.rgnDown 0x14 || up.meets 0x13 0 || up.rgnDown 0x10) = false ∧ up.voqPort = none ∧
    (granted false).voqPort = some (70, false) ∧ ((granted false).voqClass 70).map (·.1) = some 2 ∧
    ((granted true).voqClass 70).map (fun r => (r.2.queue (voqKey 70 2)).items.map (fun e => (e.pkt.bad, e.released))) = some [(true, 0)] ∧
    ((granted false).queue 562).holds = true ∧ (granted false).rgnWorks 0x11 = true ∧
    (granted false).time.ticks < 0 + (granted false).fld (voqA R.QUE0_VOQ_STALL) 0 20 * ticksPerUs ∧
    (let s : State := { granted false with time := { up.time with ticks := 2 ^ 40 } }
     0 + s.fld (voqA R.QUE0_VOQ_STALL) 0 20 * ticksPerUs ≤ s.time.ticks) ∧
    timed.time.wtValid = true ∧ timed.rgnWorks 0x12 = true ∧ up.time.wtValid = false := by
  decide +kernel

/-- Port 3 UP over one node of each level, its queue 5 with a packet. -/
def scheduled : State :=
  let e (parent : Nat) : Nat := 1 + 4 * 2 ^ 4 + parent * 2 ^ 32
  let s := (((((portIn .up).setTabN 0x12 1 0x90 3 1).setTabN 0x12 1 0x91 8 (e 3)).setTabN 0x12 1 0x92 9 (e 8)).setTabN 0x12 1 0x93 10
    (e 9)).setTabN 0x12 1 0x94 5 (e 10)
  s.setQueue (eqKey 5) ⟨[qent 60], [], [], [], 0, 0, 0⟩

theorem test_met_QueuesAdmitReplicateAndSend_egress :
    (scheduled.meets 0x12 1 || scheduled.meets 0x12 0 || scheduled.meets 0x13 0 || scheduled.rgnDown 0x10 || scheduled.rgnDown 0x0D ||
      scheduled.portStopped 3) = false ∧ (portIn .up).eligible 3 4 0 3 = false ∧ scheduled.eligible 3 4 0 3 = true ∧
    (choosePath 3 4 0 3 scheduled).map (fun r => (r.1.map (fun n => (n.1, n.2.1)), r.2.1)) =
      some ([(1, 8), (2, 9), (3, 10), (4, 5)], 5) ∧
    ((choosePath 3 4 0 3 scheduled).map (fun r => (r.2.2.queue (eqKey 5)).items)) = some [qent 60] ∧
    (let s : State := { poke up [(pfcA (R.QUE1_PFC_CTRL + 12), 4), (portA 3 R.LINE_PORT_CFG, 512)] with
       que := { up.que with pfcOn := [(26, 1)] }, time := { up.time with ticks := 2 ^ 40 } }
     spGet (fun _ => 0) s.que.pfcOn (3 * 8 + 2) = 1 ∧ pfcXon (s.pfcEntry 3 2) ≤ s.pfcCount 3 2 ∧ s.fcBit 3 2 = some 4 ∧
       1 - 1 + s.pauseTicks 3 (s.txQuanta 3) / 2 ≤ s.time.ticks) ∧ spGet (fun _ => 0) up.que.pfcOn (3 * 8 + 2) = 0 := by
  decide +kernel
/-! ## Statements: fabric, OVC ports -/

/-- A system of 2, lane 0 fitted; in bank `b` lane 0 leads to device 1. -/
def fabricS (b : Nat) (s : State) : State :=
  let s := withBoot s (fun x => { x with bid := List.replicate 0x15 0 ++ [128] })
  (poke s [(schF 0 (R.FAB_PISTE_CFG + 4 * b), 1 + 2 * 65536), (schF 0 R.FAB_PISTE_STAT, 4)]).setTabN 0x14 0 0xA0 (b * 576) (1 + 1024)
/-- SYS_PISTE instant 112 s, a start of 8 slots. -/
def arming : State := poke (fabricS 1 timed) [(schF 0 (R.FAB_PISTE_AT_NS + 4), 112)]
def swapping (t : Nat) : State := { arming with fab := { arming.fab with swapAt := some t } }

theorem test_met_PisteSwapsAndSlotFilling :
    arming.mayWrite .jtag (schF 0 R.FAB_PISTE_CTRL) ∧ arming.time.wtValid = true ∧ arming.fab.swapAt = none ∧
    arming.instant (schF 0 R.FAB_PISTE_AT_NS) % (8 * lsbSlot) = 0 ∧ arming.wt < arming.instant (schF 0 R.FAB_PISTE_AT_NS) ∧
    arming.bankOk (1 - arming.activeBank) = true ∧ (fabricS 1 timed).instant (schF 0 R.FAB_PISTE_AT_NS) ≤ (fabricS 1 timed).wt ∧
    (poke arming [(schF 0 (R.FAB_PISTE_CFG + 4), 1 + 3 * 65536)]).bankOk 1 = false ∧ arming.activeBank = 0 ∧ up.time.wtValid = false ∧ (swapping 5).fab.swapAt = some 5 ∧
    (swapping 5).instantDue 5 = true ∧ (swapping (200 * lsbSec)).instantDue (200 * lsbSec) = false ∧ timed.fabricRuns = true ∧
    timed.fab.filled ≤ timed.time.nextSlot ∧
    ({ timed with fab := { timed.fab with filled := 1 } } : State).time.nextSlot < 1 ∧
    (withBoot up (fun b => { b with live := b.live - 2 ^ 0x14 })).fabricRuns = false := by
  decide +kernel

/-- Device 1's slot header, and a received slot with it on lane 0. -/
def header1 : SlotHeader := ⟨1, true, false, false, false, 0, 0, 0, 0, 0, 0, 0, 0, 0, 0, [0, 0, 0, 0], [0, 0], [0x7E, 0x7E, 0x7E, 0x7E]⟩
def line1 : BitVec 212160 :=
  BitVec.ofNat 212160 (grayPairs 106080 (rsEncode (bitSlice (scramblePayload
    (bytesRun (markerBytes ++ slotHeaderBytes header1) <<< (200460 - 640))) 200460 0 5140) <<< (38 * 5440)))
def slot1 : RxSlot := ⟨0, 0, true, true, true, line1, 0, 0, none⟩

theorem test_slot_line :
    slot1.cw0 = true ∧ slot1.head = markerBytes ++ slotHeaderBytes header1 := by
  decide +kernel
def laneS (b : Nat) : State :=
  (poke (fabricS b up) [(laneCtrlA 0, 1)]).setLslot 0 0 { LaneSlotSt.reset with aligned := true }

theorem test_met_SlotsAndCellsAreTaken :
    up.laneEn 0 = false ∧ (laneS 0).laneEn 0 = true ∧ (laneS 0).rgnWorks 0x14 = true ∧ (laneS 0).blkHeld 0x14 0 = false ∧
    (laneS 0).blkHeld 0x14 3 = false ∧ (laneS 0).flaneHeld 0 = false ∧ ((laneS 0).lslot 0 0).aligned = true ∧
    pisUsed ((laneS 0).piste (laneS 0).activeBank 0 0) = true ∧ 0 < (laneS 0).cycleLen ∧
    slotHeaderOf ((markerBytes ++ slotHeaderBytes header1).drop 16) = some header1 ∧
    header1.sender = pisPeer ((laneS 0).piste (laneS 0).activeBank 0 0) ∧
    (let s := (laneS 0).setLslot 0 0 LaneSlotSt.reset; (s.lslot 0 0).aligned = false ∧ (s.lslot 0 0).cand = none) ∧
    (let s := (laneS 0).setLslot 0 0 { LaneSlotSt.reset with cand := some (1, 5) }
     (s.lslot 0 0).aligned = false ∧ (s.lslot 0 0).cand = some (1, 5)) ∧
    (up.cpStore 1 (regAddr 0x14 0 0x018) 1).blkHeld 0x14 0 = true ∧ pisUsed ((laneS 1).piste (laneS 1).activeBank 0 0) = false ∧ up.fab.rx = [] := by
  decide +kernel

/-- A cell received, from `src` for `dst`. -/
def cell (src dst : Nat) (hop idle : Bool) : Cell := ⟨src, dst, 7, 3, false, false, hop, idle, 0x1FF, 0, 0, 0, [1, 2]⟩
def received (c : Cell) : State := { fabricS 0 up with fab := { (fabricS 0 up).fab with rx := [(0, 5, cellBytes c)] } }
/-- Device 1's source entry. -/
def fromOne (x : SourceSt) : State := (received (cell 1 0 false false)).setSource 1 x

theorem test_met_SlotsAndCellsAreTaken_cells :
    (received (cell 1 0 false false)).fab.rx = (0, 5, cellBytes (cell 1 0 false false)) :: [] ∧ cellOf (List.replicate 272 1) = none ∧
    (∀ c ∈ [cell 1 0 false false, cell 1 0 false true, cell 0 1 false false, cell 2 1 false false, cell 1 1 true false,
      cell 1 1 false false], cellOf (cellBytes c) = some c) ∧
    (received (cell 1 0 false false)).deviceId = 0 ∧ (received (cell 1 0 false false)).systemSize = 2 ∧
    (fabricS 0 up).rgnDown 0x14 = false ∧ (fabricS 0 up).blkHeld 0x14 1 = false ∧ (fabricS 0 up).rgnDown 0x15 = false ∧
    (fabricS 0 up).blkHeld 0x15 2 = false ∧ (up.source 1).exp = none ∧ ((fromOne ⟨some 7, [], none, 0⟩).source 1).exp = some 7 ∧
    seqDist 7 7 = 0 ∧ 2 ^ 19 ≤ seqDist 8 7 ∧ 0 < seqDist 6 7 ∧ seqDist 6 7 < 2 ^ 19 ∧
    ((fromOne ⟨some 6, [⟨cell 1 0 false false, 4, 5⟩], none, 0⟩).source 1).held.any (fun h => h.cell.seq == 7) = true ∧
    ((fromOne ⟨some 6, [], none, 0⟩).source 1).held.any (fun h => h.cell.seq == 7) = false ∧ up.freeCell 2 0 ≠ none := by
  decide +kernel

theorem test_met_SlotsAndCellsAreTaken_times :
    (let s := fabricS 0 ((timed).setRelayQ 1 [⟨cell 1 1 false false, 4, 5⟩])
     s.relayQ 1 = ⟨cell 1 1 false false, 4, 5⟩ :: [] ∧ s.time.nextSlot ≤ 5 + 2 * s.cycleLen ∧
       5 + 2 * s.cycleLen < ({ s with time := { s.time with nextSlot := 100 } } : State).time.nextSlot) ∧
    (let s := timed.setSource 1 ⟨some 7, [], some 5, 0⟩
     (s.source 1).timer = some 5 ∧ s.instantDue 5 = true ∧ (s.source 1).exp ≠ none ∧ (s.source 1).held = [] ∧
       s.time.nextSlot ≤ (s.source 1).lastSlot + 64 * s.cycleLen ∧
       (s.source 1).lastSlot + 64 * s.cycleLen < ({ s with time := { s.time with nextSlot := 10000 } } : State).time.nextSlot) ∧
    up.instantDue 5 = false := by
  decide +kernel

/-- OVC port 1 in a mode, with what it holds; on lane-slot (0, 0). -/
def ovcS (mode : Nat) (x : OvcSt) : State := (poke (fabricS 0 timed) [(ovcCtrlA 1, mode)]).setOvc 1 x
def ovcFull : OvcSt := ⟨List.replicate 8 [1], List.replicate 8 (0, [1]), [], []⟩

theorem test_met_OvcPortsCarryFrames :
    (ovcS 0 OvcSt.reset).ovcMode 1 = 0 ∧ (ovcS 1 OvcSt.reset).ovcMode 1 = 1 ∧ (ovcS 2 OvcSt.reset).ovcMode 1 = 2 ∧
    goodHdlc [1, 2, 3] = none ∧ goodHdlc (withFcs [1, 2, 3]) = some [1, 2, 3] ∧
    ((ovcS 1 ovcFull).ovcPort 1).fromPins.length = 8 ∧ ((ovcS 1 OvcSt.reset).ovcPort 1).fromPins.length < 8 ∧
    ((ovcS 2 ⟨[], [], [], withFcs [1] ++ [0x7E]⟩).ovcPort 1).chanIn.contains 0x7E = true ∧
    (unstuff ((withFcs [1] ++ [0x7E]).takeWhile (fun b => b != 0x7E))).bind goodHdlc = some [1] ∧
    (unstuff (([1, 0x7E] : List Byte).takeWhile (fun b => b != 0x7E))).bind goodHdlc = none ∧
    ((ovcS 2 ovcFull).ovcPort 1).toPins.length = 8 ∧
    (let s := ovcS 2 ⟨[], [(0, [1])], [], []⟩
     (s.ovcPort 1).fromPins = (0, [1]) :: [] ∧ (s.ovcPort 1).sending = [] ∧ s.time.wtValid = true ∧
       s.fld (ovcCtrlA 1) 12 3 < s.cycleLen ∧ 0 + lsbUs ≤ s.wt ∧ up.wt < 0 + lsbUs) ∧
    up.mayWrite .jtag (A.ovc (R.SYS_OVC_TXLEN + 16 * 1)) ∧ up.mayWrite .jtag (A.ovc (R.SYS_OVC_RXPOP + 4 * 1)) ∧
    up.mayWrite .jtag (ovcCtrlA 1) ∧ (1024 : Word).toNat % 2048 = 1024 ∧ natBit (1 : Word).toNat 0 = true ∧
    up.ovcCtrlOk 1 0x8F2 = true ∧ up.ovcCtrlOk 1 0x902 = false ∧ up.ovcCtrlOk 1 3 = false := by
  decide +kernel
/-! ## Statements: keys, ESP, lookaside -/

/-- A device key, entropy, and slot 6 with an attribute word and key 5. -/
def keyed (attr : Nat) : State :=
  let s : State := { up with sec := { up.sec with dk := some 77 } }
  (poke s [(keyWinA, 0xB00), (keyWinA + 4, 6), (keyA R.SEC_KEY_STAT, 2)]).setKeySlot 6 attr 5
/-- Attribute word in WIN_DATA8; a blob of key 5 under DK in WIN_DATA. -/
def loading (attr : Nat) : State := poke (keyed 0) [(keyWinA + 0xA0, attr)]
def blob : List Byte :=
  let a := leBytes 4 17
  List.replicate 12 9 ++ a ++ (gcmEnc 77 (beNat (List.replicate 12 9)) a (beBytes 32 5)).1 ++
    (gcmEnc 77 (beNat (List.replicate 12 9)) a (beBytes 32 5)).2
def wrapped : State := (keyed 0).setWinData keyWinA 16 (leNat blob)

theorem test_met_KeyCommandsActOrAreRefused :
    (keyed 0).mayWrite (.core 5) keyWinA ∧ (keyed 0).mayWrite .jtag keyWinA ∧ (keyed 0).rbit (keyWinA + 12) 0 = false ∧
    ((keyed 0).setFld (keyWinA + 12) 0 1 1).rbit (keyWinA + 12) 0 = true ∧ ((keyed 0).setFld (keyWinA + 12) 0 1 1).mayWrite (.core 5) keyWinA ∧
    natField (BitVec.toNat (0xB00 : Word)) 4 8 = 0xB0 ∧ natField (BitVec.toNat (0xB10 : Word)) 4 8 ≠ 0xB0 ∧
    (poke (keyed 0) [(keyWinA + 4, 131072)]).winIndex keyWinA = 131072 ∧
    (keyed 0).wr keyWinA (BitVec.ofNat 32 (natField 0xB00 4 11 * 16)) = keyed 0 ∧ (keyed 0).winIndex keyWinA = 6 ∧ up.sec.dk = none ∧
    (keyed 0).sec.dk = some 77 ∧ isCore .jtag = false ∧ isCore (.core 5) = true ∧
    natBit ((loading 4).winWord keyWinA 8 &&& attrMask) 0 = false ∧ natField ((loading 1).winWord keyWinA 8 &&& attrMask) 2 5 = 0 ∧
    natBit ((loading 17).winWord keyWinA 8 &&& attrMask) 0 = true ∧ natField ((loading 17).winWord keyWinA 8 &&& attrMask) 2 5 ≠ 0 ∧
    (loading 17).rngOk = true ∧ (poke (loading 17) [(keyA R.SEC_KEY_STAT, 0)]).rngOk = false ∧ blobOpen 77 (keyed 0).keyBlob = none ∧
    blobOpen 77 wrapped.keyBlob = some (beBytes 32 5) ∧ ksValid ((keyed 0).keySlot 6) = false ∧ ksValid ((keyed 1).keySlot 6) = true ∧
    natBit ((keyed 1).keySlot 6) 1 = false ∧ ksValid ((keyed 3).keySlot 6) = true ∧ natBit ((keyed 3).keySlot 6) 1 = true ∧
    (poke (keyed 3) [(keyA R.SEC_KEY_STAT, 0)]).rngOk = false ∧ natBit ((poke (keyed 3) [(keyA R.SEC_KEY_STAT, 0)]).keySlot 6) 1 = true ∧
    (keyed 3).rngOk = true ∧
    (let s : State := { keyed 3 with sec := { (keyed 3).sec with dk := none } }
     s.sec.dk = none ∧ s.rngOk = true ∧ natBit (s.keySlot 6) 1 = true ∧ ksValid (s.keySlot 6) = true) ∧
    up.rgnRuns 8 = true ∧ (withBoot up (fun b => { b with live := b.live - 2 ^ 8 })).rgnRuns 8 = false := by
  decide +kernel

/-- Association 5 with SPI 5, a key reference, its sequence window on, key 5. -/
def espSa (ref : Nat) : State :=
  ((up.setTabN 8 1 0xD0 5 (1 + 4 + 5 * 2 ^ 32 + ref * 2 ^ 64)).setTabN 8 1 inKeyCode 5 5).setTabN 8 1 0xD2 0 1
def espRef : Nat := 131071 * 2 ^ 32
/-- An ESP packet of sequence number `seq` over a trailer's NEXT HEADER `nh`. -/
def espBytes (seq nh : Nat) : List Byte :=
  let head := beBytes 4 5 ++ beBytes 4 seq
  let c := gcmEnc 5 (beNat (List.replicate 4 0 ++ List.replicate 8 0)) head (List.replicate 18 0x45 ++ [0, BitVec.ofNat 8 nh])
  List.replicate 14 0 ++ head ++ List.replicate 8 0 ++ c.1 ++ c.2
def espPkt (bytes : List Byte) (ofs : Nat) : Pkt :=
  hvSet (hvSet (hvStart { Pkt.empty with bytes := bytes }) 48 ofs) 49 50
def espIn (s : State) (k : Pkt) : State := s.setPipe 1 { s.pipe 1 with toBuf := [k] }

theorem test_met_InboundEspPacketsAreVerified :
    (let s := espIn (espSa espRef) (espPkt (espBytes 1 4) 14)
     (s.pipe 1).toBuf = espPkt (espBytes 1 4) 14 :: [] ∧ s.espTakes (espPkt (espBytes 1 4) 14) = true ∧
       s.behindPair 1 (espPkt (espBytes 1 4) 14) = false) ∧ (up.pipe 1).toBuf = [] ∧
    up.espTakes (espPkt (espBytes 1 4) 14) = false ∧ ({ espPkt (espBytes 1 4) 14 with bad := true } : Pkt).bad = true ∧ (espSa espRef).meets 8 1 = false ∧
    ((espSa espRef).cpStore 1 (regAddr 8 1 0x018) 1).meets 8 1 = true ∧ (espPkt (espBytes 1 4) 14).bad = false ∧
    (espPkt (espBytes 1 4) 14).bytes.drop (hvLayerOfs (espPkt (espBytes 1 4) 14) 4) = (espBytes 1 4).drop 14 ∧
    beNat (((espBytes 1 4).drop 14).take 4) = 5 ∧ hvLayerMarked (espPkt (espBytes 1 4) 14) 4 = true ∧
    hvLayerMarked Pkt.empty 4 = false ∧ hvLayerOfs (espPkt (espBytes 1 4) 255) 4 = 255 ∧ ((espBytes 1 4).drop 40).length < 32 ∧ ((espBytes 1 4).drop 14).length = 52 ∧
    natBit (up.espTab 0xD0 5) 0 = false ∧ natField ((espSa espRef).espTab 0xD0 5) 32 32 = 5 ∧
    keyRef (natField ((espSa 3).espTab 0xD0 5) 64 64) = none ∧ keyRef (natField ((espSa espRef).espTab 0xD0 5) 64 64) ≠ none ∧
    natBit ((espSa espRef).espTab 0xD0 5) 2 = true ∧ natBit (((espSa espRef).setTabN 8 1 0xD0 5 (1 + 5 * 2 ^ 32)).espTab 0xD0 5) 2 = false ∧ espSeq false 0 (beNat ((((espBytes 1 4).drop 14).drop 4).take 4)) = 1 ∧
    espReplay 0 0 1 = false ∧ espReplay 1 1 1 = true := by
  decide +kernel

/-- What association 5 makes of a packet's bytes from the SPI on. -/
def espPlain (b : List Byte) : Option (List Byte) :=
  gcmDec ((espSa espRef).espTab inKeyCode 5)
    (beNat ((List.range 4).map (fun j => entByteAt ((espSa espRef).espTab 0xD0 5) (16 + j)) ++ (b.drop 8).take 8))
    (b.take 4 ++ beBytes 4 1) ((b.drop 16).take (b.length - 32)) (b.drop (b.length - 16))

theorem test_met_InboundEspPacketsAreVerified_plain :
    espPlain ((espBytes 1 4).drop 14) = some (List.replicate 18 0x45 ++ [0, 4]) ∧ espPlain ((espBytes 2 4).drop 14) = none ∧
    (espInner (espPkt (espBytes 1 4) 14) (List.replicate 18 0x45 ++ [0, 4])).isSome = true ∧
    espInner (espPkt (espBytes 1 6) 14) (List.replicate 18 0x45 ++ [0, 6]) = none := by
  decide +kernel

/-- A lookaside request over slot 0, 16 bytes of text in HBM. -/
def request (op flags len outLen : Nat) (tail : List Byte) : List Byte :=
  leBytes 1 op ++ leBytes 1 flags ++ leBytes 2 0 ++ leBytes 4 7 ++ leBytes 8 espRef ++ leBytes 8 0x0800002000 ++ leBytes 8 0x0800003000 ++
    leBytes 4 len ++ leBytes 2 0 ++ leBytes 2 outLen ++ leBytes 8 0x0800004000 ++ tail
def gcmTail : List Byte := List.replicate 16 0
/-- Ring 3, of 16 requests in HBM, with this one pending; slots 0 and 1 for every use. -/
def ringS (b : List Byte) : State :=
  let s : State := { up with sec := { up.sec with dk := some 77 } }
  let s := (s.setKeySlot 0 0x7D 5).setKeySlot 1 0x7D 6
  (poke (s.setTabN 8 2 0xB8 3 (0x0800000000 + 0x0800001000 * 2 ^ 64 + 4 * 2 ^ 128 + 2 ^ 136)) [(lkaA (R.SEC_LKA_PI + 24), 1)]).hbmWrite
    0x0800000000 b
/-- The line of an address stands poisoned. -/
def poisonAt (s : State) (a : Nat) : State :=
  match s.lineOf a with
  | some (n, _, rank, line) => s.setPoison n rank line true
  | none => s
/-- The same ring in the memory of host slice 3. -/
def hostRing : State := (ringS []).setTabN 8 2 0xB8 3 (0x1000 + 0x2000 * 2 ^ 64 + 4 * 2 ^ 128 + 3 * 2 ^ 136)
def noIo : LkaIo := ⟨[], [], [], [], .ok, false⟩

theorem test_met_LookasideRequestsRun :
    up.mayWrite .jtag (lkaA (R.SEC_LKA_PI + 8 * 3)) ∧ up.lkaTurn 3 = false ∧
    (∀ b ∈ [request 1 0 16 0 gcmTail, request 2 0 16 0 gcmTail, request 3 0 16 0 gcmTail, request 4 0 16 0 gcmTail,
        request 5 0 16 32 gcmTail, request 6 0 16 32 gcmTail],
      rgHost ((ringS b).ring 3) = false ∧ (ringS b).lkaTurn 3 = true ∧ (ringS b).meets 8 2 = false ∧
      rgReq ((ringS b).ring 3) + 64 * ((ringS b).lkaCi 3 % rgSize ((ringS b).ring 3)) = 0x0800000000 ∧
      (ringS b).hbmMeets 0x0800000000 64 = false ∧ (ringS b).lkaUe (lkaReq b) = false ∧ (ringS b).hbmBytes 0x0800000000 64 = b ∧ lkaReserved (lkaReq b) = true ∧
      keyRef (lkaReq b).ref = some 0 ∧ (ringS b).lkaSlot ((ringS b).ring 3) (lkaReq b) 0 false = 0 ∧ lkaLen (lkaReq b) = 0 ∧
      (ringS b).lkaHbmFault (lkaReq b) = false) ∧
    (lkaReq (request 1 0 16 0 gcmTail)).op = 1 ∧ (lkaReq (request 2 0 16 0 gcmTail)).op = 2 ∧ (lkaReq (request 3 0 16 0 gcmTail)).op = 3 ∧
    (lkaReq (request 4 0 16 0 gcmTail)).op = 4 ∧ (lkaReq (request 5 0 16 0 gcmTail)).op = 5 ∧ (lkaReq (request 6 0 16 0 gcmTail)).op = 6 ∧
    (lkaReq (request 7 0 16 0 gcmTail)).op = 7 ∧ lkaReserved (lkaReq (request 1 2 16 0 gcmTail)) = false ∧
    keyRef 0 = none ∧ (ringS []).lkaSlot ((ringS []).ring 3) (lkaReq (request 1 0 16 0 gcmTail)) 9 false = 7 ∧
    lkaLen (lkaReq (request 1 0 0 0 gcmTail)) = 2 ∧
    (withBoot (ringS []) (fun b => { b with live := 2 ^ 8 })).lkaHbmFault (lkaReq (request 1 0 16 0 gcmTail)) = true := by
  decide +kernel

/-- A poisoned request or text; a host ring whose request comes whole, with other lengths, cut short, or with a fault. -/
theorem test_met_LookasideRequestsRun_faults :
    (let b := request 1 0 16 0 gcmTail
     let q := lkaReq b
     (poisonAt (ringS b) 0x0800000000).lkaTurn 3 = true ∧ (poisonAt (ringS b) 0x0800000000).meets 8 2 = false ∧
       (poisonAt (ringS b) 0x0800000000).hbmMeets 0x0800000000 64 = true ∧
       (poisonAt (ringS b) 0x0800002000).lkaUe q = true ∧ (poisonAt (ringS b) 0x0800002000).lkaSlot ((ringS b).ring 3) q 0 false = 0 ∧
       (poisonAt (ringS b) 0x0800002000).hbmMeets 0x0800000000 64 = false ∧
       rgHost (hostRing.ring 3) = true ∧ hostRing.lkaTurn 3 = true ∧ hostRing.meets 8 2 = false ∧
       hostRing.lkaSlot (hostRing.ring 3) q 0 false = 0 ∧ lkaLen q = 0 ∧ keyRef q.ref = some 0 ∧
       lkaInFits q ⟨b, [], List.replicate 16 0, [], .ok, false⟩ = true ∧ lkaInFits q ⟨b, [], [], [], .ok, false⟩ = false ∧
       (⟨b, [], [], [], .atCheck, false⟩ : LkaIo).fault = .atCheck ∧ (⟨b, [], [], [], .later, false⟩ : LkaIo).fault = .later ∧
       ([] : List Byte).length ≠ 64 ∧ b.length = 64 ∧ (lkaReq (request 0 0 16 0 gcmTail)).op = 0) := by
  decide +kernel

/-- The text and tag in HBM are zeros, which do not verify under key 5. -/
theorem test_met_AuthFailZeroesTheDestinationFirst :
    (let s := ringS (request 2 0 16 0 gcmTail)
     let q := lkaReq (request 2 0 16 0 gcmTail)
     rgHost (s.ring 3) = false ∧ s.lkaTurn 3 = true ∧ s.hbmMeets 0x0800000000 64 = false ∧ s.lkaHbmFault q = false ∧ s.lkaUe q = false ∧ q.op = 2 ∧ s.raiseIf false 8 0 1 = s ∧ (request 2 0 16 0 gcmTail).length = 64 ∧
       gcmDec (ksKey (s.keySlot 0)) (beNat (q.tail.take 12)) (s.lkaIn (s.ring 3) q noIo).aad
         ((s.lkaIn (s.ring 3) q noIo).src.take q.len) ((s.lkaIn (s.ring 3) q noIo).src.drop q.len) = none) := by
  decide +kernel

/-- The same on the ring of a host slice, whose bytes come with the command. -/
theorem test_met_AuthFailZeroesTheDestinationFirst_host :
    (let b := request 2 0 16 0 gcmTail
     let q := lkaReq b
     let x : LkaIo := ⟨b, [], List.replicate 32 0, [], .ok, false⟩
     let s := hostRing
     rgHost (s.ring 3) = true ∧ s.meets 8 2 = false ∧ s.lkaTurn 3 = true ∧ x.req.length = 64 ∧ x.fault = .ok ∧ lkaInFits q x = true ∧
       s.lkaSlot (s.ring 3) q 0 false = 0 ∧
       gcmDec (ksKey (s.keySlot 0)) (beNat (q.tail.take 12)) (s.lkaIn (s.ring 3) q x).aad ((s.lkaIn (s.ring 3) q x).src.take q.len)
         ((s.lkaIn (s.ring 3) q x).src.drop q.len) = none) := by
  decide +kernel

/-! ## Statements: processor clusters -/

/-- A thread in a state. -/
def withThr (s : State) (t : Nat) (st : ThrState) (w : ThrWait) : State := s.setThr t { s.thr t with state := st, wait := w }
/-- Thread 1 running. -/
def running1 : State := withThr up 1 .running .none_
/-- A channel's entry: enabled, a KIND, four places, READER thread 1, ring at the start of processor memory. -/
def chanE (kind : Nat) : Nat := 0x0400000000 + 2 ^ 64 + kind * 2 ^ 65 + 2 * 2 ^ 72 + 1 * 2 ^ 80
def withChan (s : State) (kind : Nat) (x : ChanSt) : State := (s.setTabN 9 5 0xE0 0 (chanE kind)).setChan 0 x
/-- Thread `t` holds staging slot 0 of channel 0 and receive slot 2. -/
def slotted (s : State) (t : Nat) : State :=
  s.setThr t { s.thr t with stage := [some ⟨0, false⟩, none, none, none], recv := [none, none, some ⟨0, []⟩, none] }
def slotsFull (s : State) (t : Nat) : State := s.setThr t { s.thr t with stage := List.replicate 4 (some ⟨0, false⟩) }

theorem test_met_ChannelInstructionsExecute :
    (∀ kind ∈ [0, 2], let s := withChan running1 kind ⟨0, 1, 3, 0⟩
      s.issues 1 = true ∧ s.chAbsent 0 = false ∧ chEn (s.chEntry 0) = true ∧ chKind (s.chEntry 0) = kind ∧
        freeIndex (s.thr 1).stage = some 0 ∧ s.creditFree 0 = true ∧ freeIndex ((slotsFull s 1).thr 1).stage = none ∧
        (withChan running1 kind ⟨0, 4, 4, 0⟩).creditFree 0 = false) ∧
    (let s := withChan running1 0 ⟨0, 1, 3, 0⟩
     s.issues 1 = true ∧ chKind (s.chEntry 0) ≠ 2 ∧ chReader (s.chEntry 0) = 1 ∧ freeIndex (s.thr 1).recv = some 0 ∧
       (s.chan 0).fill ≠ 0 ∧ ((withChan running1 0 ⟨0, 0, 0, 0⟩).chan 0).fill = 0) ∧
    (let s := withChan (withThr up 2 .running .none_) 0 ⟨0, 1, 3, 0⟩; s.issues 2 = true ∧ chReader (s.chEntry 0) ≠ 2) ∧
    49152 ≤ (49152 : BitVec 64).toNat := by
  decide +kernel

theorem test_met_ChannelInstructionsExecute_slots :
    (let s := slotted (withChan running1 0 ⟨0, 0, 1, 0⟩) 1
     s.issues 1 = true ∧ s.stageAt 1 0 = none ∧ s.stageAt 1 (stageAddr 1 0) = some (0, ⟨0, false⟩) ∧ s.chAbsent 0 = false ∧
       chEn (s.chEntry 0) = true ∧ s.recvAt 1 0 = none ∧ s.recvAt 1 (recvAddr 1 2) = some 2) ∧
    (let s := withBoot (slotted (withThr up 129 .running .none_) 129) (fun b => { b with live := b.live - 2 ^ 9 })
     s.issues 129 = true ∧ s.stageAt 129 (stageAddr 129 0) = some (0, ⟨0, false⟩) ∧ s.chAbsent 0 = true) ∧
    (let s := withChan (withThr up 1 .waiting (.acq 0 5)) 0 ⟨0, 1, 3, 0⟩
     (s.thr 1).state = .waiting ∧ (s.thr 1).wait = .acq 0 5 ∧ (s.acquire 1 0).isSome = true) ∧
    (withChan (withThr up 1 .waiting (.acq 0 5)) 0 ⟨0, 4, 4, 0⟩).acquire 1 0 = none ∧
    (let s := withChan (withThr up 1 .waiting (.recv 0 5)) 0 ⟨0, 1, 3, 0⟩
     (s.thr 1).state = .waiting ∧ (s.thr 1).wait = .recv 0 5 ∧ (s.receive 1 0).isSome = true) ∧
    (withChan (withThr up 1 .waiting (.recv 0 5)) 0 ⟨0, 0, 0, 0⟩).receive 1 0 = none := by
  decide +kernel

/-- Bits of a thread's EVPEND set; input kinds. -/
def pend (s : State) (t v : Nat) : State := s.wr64 (evPendA t) v
def kinds (s : State) (t v : Nat) : State := s.wr64 (evKindA t) v
def evWaiting (tmo : Option Nat) : State := withThr up 1 .waiting (.ev 6 5 tmo)

theorem test_met_EventsTimersAndCounters :
    running1.issues 1 = true ∧ running1.evPend 1 &&& (6 : BitVec 64).toNat = 0 ∧ (pend running1 1 2).evPend 1 &&& (6 : BitVec 64).toNat ≠ 0 ∧
    (pend running1 1 2).issues 1 = true ∧
    (∀ tmo ∈ [none, some 0, some 7], ((evWaiting tmo).thr 1).state = .waiting ∧ ((evWaiting tmo).thr 1).wait = .ev 6 5 tmo ∧
      (pend (evWaiting tmo) 1 4).evPend 1 &&& 6 ≠ 0 ∧ (evWaiting tmo).evPend 1 &&& 6 = 0) ∧
    0 ≤ up.time.ticks ∧ up.time.ticks < 7 ∧
    natBit (up.rights (masterCode .jtag) true) (9 + thrRegion 300) = true ∧ up.rgnAbsent (9 + thrRegion 300) = false ∧
    1 ≤ (255 : Word).toNat ∧ (255 : Word).toNat ≤ 255 ∧ (0 : Word).toNat = 0 ∧ 255 < (256 : Word).toNat ∧
    (running1.wr64 (timeCmpA 1) 0).timerDue 1 = true ∧ ((running1.wr64 (timeCmpA 1) 0).thr 1).state ≠ .held ∧
    (up.wr64 (timeCmpA 1) (2 ^ 64 - 1)).timerDue 1 = false ∧ up.mayWrite .jtag (pmuA 2 R.CPU_PMU_CTRL) ∧ (up.pmu 2).frozen = false ∧
    (up.pmu 2).freezeAt = none ∧ (up.setPmu 2 ⟨none, none, true, false⟩).mayWrite .jtag (pmuA 2 R.CPU_PMU_CTRL) ∧
    ((up.setPmu 2 ⟨none, none, true, false⟩).pmu 2).frozen = true ∧ ((up.setPmu 2 ⟨some 5, none, false, false⟩).pmu 2).freezeAt ≠ none ∧
    (let s := timed.setPmu 2 ⟨some 5, none, false, false⟩; (s.pmu 2).freezeAt = some 5 ∧ s.instantDue 5 = true) ∧
    (let s := timed.setPmu 2 ⟨some (200 * lsbSec), none, false, false⟩
     (s.pmu 2).freezeAt = some (200 * lsbSec) ∧ s.instantDue (200 * lsbSec) = false) ∧
    (let s := timed.setPmu 2 ⟨none, some 5, true, false⟩; (s.pmu 2).freezeAt = none ∧ (s.pmu 2).thawAt = some 5 ∧ s.instantDue 5 = true) ∧
    (up.pmu 2).thawAt = none ∧ (running1.thr 1).state ≠ .held ∧ (running1.thr 1).state ≠ .halted ∧
    (running1.pmu (thrRegion 1)).frozen = false ∧ (up.thr 1).state = .held := by
  decide +kernel

theorem test_met_EvSendSetsTheInputOrAnswersKind :
    (let s := kinds (withThr running1 383 .ready .none_) 383 (2 ^ 63)
     s.issues 1 = true ∧ (383 : BitVec 64).toNat < 384 ∧ (63 : BitVec 64).toNat < 64 ∧ s.rgnAbsent (9 + thrRegion 383) = false ∧
       s.evThreadSourced 383 63 = true ∧ s.coreInReset 383 = false ∧ s.storesWf = true ∧ s.evThreadSourced 383 62 = false) := by
  decide +kernel

/-- The context window of region CPU0 selecting a thread and index. -/
def ctxSel (s : State) (t i : Nat) : State := poke s [(ctxA 0 R.CPU_CTX_SEL, t), (ctxA 0 R.CPU_CTX_IDX, i)]

theorem test_met_ThreadsAndPortsAreServed :
    (coreThreads 0).find? (fun t => (running1.thr t).state == .running) = some 1 ∧
    (let x := (running1.thrTo 1 .stalled).pmuCount 1 11; x.nextReady 0 1 = none) ∧
    (let s := withThr running1 3 .ready .none_; let x := (s.thrTo 1 .stalled).pmuCount 1 11
     (coreThreads 0).find? (fun t => (s.thr t).state == .running) = some 1 ∧ x.nextReady 0 1 = some 3) ∧
    ((withThr up 383 .stalled .none_).thr 383).state = .stalled ∧ (ctxSel up 1 68).mayWrite .jtag (ctxA 0 R.CPU_CTX_CMD) ∧
    (ctxSel up 1 68).fld (ctxA 0 R.CPU_CTX_SEL) 0 9 = 1 ∧ (ctxSel up 1 68).fld (ctxA 0 R.CPU_CTX_IDX) 0 7 = 68 ∧
    ctxMay .jtag 0 = true ∧ ctxMay (.core 0) 0 = true ∧ ctxMay (.core 1) 0 = false ∧ up.mayWrite (.core 1) (ctxA 0 R.CPU_CTX_CMD) ∧
    ((ctxSel up 1 68).thr 1).state = .held ∧ 1 / 128 = (0 : Fin 3).val ∧ 1 ≠ 128 * (0 : Fin 3).val ∧
    (ctxSel up 0 0).fld (ctxA 0 R.CPU_CTX_SEL) 0 9 = 128 * (0 : Fin 3).val ∧ ((ctxSel up 0 0).thr 0).state = .held ∧
    (ctxSel up 0 0).mayWrite .jtag (ctxA 0 R.CPU_CTX_CMD) ∧ ((ctxSel running1 1 0).thr 1).state ≠ .held ∧
    (ctxSel running1 1 0).mayWrite .jtag (ctxA 0 R.CPU_CTX_CMD) := by
  decide +kernel

theorem test_met_ThreadsAndPortsAreServed_halt :
    (up.thr 1).state = .held ∧ (running1.thr 1).state ≠ .held ∧ (running1.thr 1).state ≠ .halted ∧
    running1.rgnRuns (9 + thrRegion 1) = true ∧ (∀ i < 4, ((running1.thrTo 1 .halted).thr 1).stage.getD i none = none) ∧
    ((withThr up 1 .halted .none_).thr 1).state = .halted ∧ ((withThr up 1 .halted .none_).thr 1).wait = .none_ ∧
    ((withThr up 1 .halted (.acq 0 5)).thr 1).wait ≠ .none_ ∧ up.clusterDead 11 = false ∧
    (let s := (withChan (withThr up 1 .waiting (.acq 0 5)) 0 ⟨0, 4, 4, 0⟩).wr (A.cl 0 0 R.CPU_DLK_CTRL) 1
     s.clusterDead 0 = true ∧ s.declared 0 = false ∧ (s.setDeclared 0 true).declared 0 = true ∧ (s.setDeclared 0 true).clusterDead 0 = true ∧
       s.rbit (A.cl 0 0 R.CPU_DLK_CTRL) 0 = true ∧ s.rgnRuns 9 = true) ∧
    (let s := (withThr up 0 .waiting (.ev 1 5 none)) |> fun s => (kinds s 0 1).wr (A.cl 0 0 R.CPU_DLK_CTRL) 1
     s.clusterDead 0 = true ∧ s.declared 0 = false ∧ s.coreInReset 0 = false) ∧
    (let s : State := { up with que := { up.que with procOut := [⟨{ plainPkt with dest := .processor 0 }, 2⟩] } }
     s.que.procOut = ⟨{ plainPkt with dest := .processor 0 }, 2⟩ :: []) ∧ up.que.procOut = [] ∧ (up.chan 49151).fill = 0 ∧
    (let s := withChan up 2 ⟨0, 1, 1, 0⟩
     s.chAbsent 0 = false ∧ chEn (s.chEntry 0) = true ∧ chKind (s.chEntry 0) = 2 ∧ (s.chan 0).fill ≠ 0 ∧
       s.hbmRangeDown (chBase (s.chEntry 0)) (64 * chSize (s.chEntry 0)) = false) := by
  decide +kernel

/-- Forms turned away, each by its own condition. -/
theorem test_met_ChannelInstructionsExecute_refused :
    up.issues 1 = false ∧ (up.thr 1).state ≠ .waiting ∧ chEn (running1.chEntry 0) = false ∧ running1.chAbsent 0 = false ∧
    chKind ((withChan running1 1 ⟨0, 1, 3, 0⟩).chEntry 0) = 1 ∧
    freeIndex ((running1.setThr 1 { running1.thr 1 with recv := List.replicate 4 (some ⟨0, []⟩) }).thr 1).recv = none ∧
    (let s := slotted running1 1; s.issues 1 = true ∧ s.stageAt 1 (stageAddr 1 0) = some (0, ⟨0, false⟩) ∧ chEn (s.chEntry 0) = false) ∧
    ((withThr up 1 .waiting (.ev 6 5 none)).thr 1).wait = .ev 6 5 none := by
  decide +kernel

theorem test_met_EventsTimersAndCounters_not :
    (withBoot running1 (fun b => { b with live := b.live - 2 ^ 9 })).issues 1 = false ∧ (up.thr 1).state ≠ .waiting ∧
    natBit (up.rights 0xFFFFF true) (9 + thrRegion 300) = false ∧
    (withBoot up (fun b => { b with live := b.live - 2 ^ 11 })).rgnAbsent (9 + thrRegion 300) = true ∧
    (let s := timed.setPmu 2 ⟨none, some (200 * lsbSec), true, false⟩; (s.pmu 2).thawAt = some (200 * lsbSec) ∧ s.instantDue (200 * lsbSec) = false) ∧
    ((withThr up 1 .halted .none_).thr 1).state = .halted ∧ ((up.setPmu 0 ⟨none, none, true, false⟩).pmu (thrRegion 1)).frozen = true ∧
    up.issues 1 = false ∧ 384 ≤ (384 : BitVec 64).toNat ∧ 64 ≤ (64 : BitVec 64).toNat ∧ up.evThreadSourced 383 0 = false ∧
    (kinds up 383 1).evThreadSourced 383 0 = true ∧ (kinds up 383 1).coreInReset 383 = true := by
  decide +kernel

theorem test_met_ThreadsAndPortsAreServed_threads :
    (coreThreads 0).find? (fun t => (up.thr t).state == .running) = none ∧ up.nextReady 0 (spGet (fun _ => 0) up.cpu.lastRun 0) = none ∧
    (withThr up 3 .ready .none_).nextReady 0 0 = some 3 ∧ (coreThreads 0).find? (fun t => ((withThr up 3 .ready .none_).thr t).state == .running) = none ∧
    (up.thr 3).state ≠ .stalled ∧ (ctxSel up 384 0).fld (ctxA 0 R.CPU_CTX_SEL) 0 9 = 384 ∧ (ctxSel up 384 0).mayWrite .jtag (ctxA 0 R.CPU_CTX_CMD) ∧
    (ctxSel up 129 0).fld (ctxA 0 R.CPU_CTX_SEL) 0 9 = 129 ∧ 129 / 128 ≠ (0 : Fin 3).val ∧ (up.thr 129).state = .held ∧
    (ctxSel up 129 0).mayWrite .jtag (ctxA 0 R.CPU_CTX_CMD) ∧ (ctxSel up 1 69).fld (ctxA 0 R.CPU_CTX_IDX) 0 7 = 69 ∧
    ((withThr up 129 .ready .none_).thr 129).state ≠ .held ∧ ((withThr up 0 .running .none_).thr 0).state ≠ .held ∧
    (withBoot running1 (fun b => { b with live := b.live - 2 ^ 9 })).rgnWorks (9 + thrRegion 1) = false ∧
    running1.blkHeld (9 + thrRegion 1) 6 = false ∧ (poke running1 [(regAddr 9 6 0x010, 2)]).blkHeld (9 + thrRegion 1) 6 = true := by
  decide +kernel

/-- A packet for channel 0, of KIND 1 and pool 5; an empty and a stocked pool of 256- or 2048-byte buffers. -/
def toChan (n : Nat) (s : State) : State :=
  { s with que := { s.que with procOut := [⟨{ Pkt.empty with bytes := List.replicate n 0, dest := .processor 0 }, 2⟩] } }
def poolChan (size : Nat) (cache : List Nat) (x : ChanSt) : State :=
  ((up.setTabN 9 5 0xE0 0 (chanE 1 + 5 * 2 ^ 96)).setChan 0 x).setTabN 0x13 3 0x70 5
    (poolBase + (0x0500000000 * 2 ^ 64) + 16 * 2 ^ 128 + 2 ^ 160 + size * 2 ^ 161) |> fun s => s.setPool 5 { PoolSt.reset with cache := cache }

theorem test_met_ThreadsAndPortsAreServed_write :
    (toChan 60 up).que.procOut ≠ [] ∧ chEn (up.chEntry 0) = false ∧
    (∀ x ∈ [⟨0, 1, 1, 0⟩, ⟨0, 4, 4, 0⟩], (poolChan 1 [poolBase] x).chAbsent 0 = false ∧ chEn ((poolChan 1 [poolBase] x).chEntry 0) = true ∧
      chKind ((poolChan 1 [poolBase] x).chEntry 0) = 1 ∧ ((poolChan 1 [poolBase] x).creditFree 0 = true ↔ x = ⟨0, 1, 1, 0⟩)) ∧
    chPool ((poolChan 1 [] ⟨0, 1, 1, 0⟩).chEntry 0) = 5 ∧ ((poolChan 1 [] ⟨0, 1, 1, 0⟩).poolAlloc 5).1 = 0 ∧
    (∀ z ∈ [0, 1], let w := ((poolChan z [poolBase] ⟨0, 1, 1, 0⟩).poolAlloc 5).2
      ((poolChan z [poolBase] ⟨0, 1, 1, 0⟩).poolAlloc 5).1 = poolBase ∧ w.hbmRangeDown poolBase 188 = false ∧
        (w.poolOf poolBase).elim 0 (fun p => pdSize (w.poolDesc p)) = if z = 0 then 256 else 2048) ∧
    256 < 128 + 129 ∧ 128 + 60 ≤ 256 ∧
    (let s := withBoot (poolChan 1 [poolBase] ⟨0, 1, 1, 0⟩) (fun b => { b with live := b.live - 2 ^ 0x16 })
     s.chAbsent 0 = false ∧ (s.poolAlloc 5).1 = poolBase ∧ (s.poolAlloc 5).2.hbmRangeDown poolBase 188 = true) := by
  decide +kernel

/-- A PORT_TX descriptor at the head of channel 0: TYPE, length, buffer. -/
def txChan (type n a : Nat) : State :=
  (withChan up 2 ⟨0, 1, 1, 0⟩).hbmWrite 0x0400000000 (leBytes 1 type ++ [0] ++ leBytes 2 n ++ leBytes 4 0 ++ leBytes 8 a ++ List.replicate 48 0)

theorem test_met_ThreadsAndPortsAreServed_send :
    (∀ q ∈ [(2, 60, 0x0400001000), (3, 60, 0x0400001000), (9, 60, 0x0400001000), (2, 13, 0x0400001000), (2, 16381, 0x0400001000), (2, 60, 0x40)],
      let s := txChan q.1 q.2.1 q.2.2
      let d := (s.chTake 0).1
      s.chAbsent 0 = false ∧ s.meets (pipeRegion 0) 0 = false ∧ chEn (s.chEntry 0) = true ∧ chKind (s.chEntry 0) = 2 ∧ (s.chan 0).fill ≠ 0 ∧
        s.hbmRangeDown (chBase (s.chEntry 0)) (64 * chSize (s.chEntry 0)) = false ∧ (d.getD 0 0).toNat = q.1 ∧
        leNat ((d.drop 2).take 2) = q.2.1 ∧ leNat ((d.drop 8).take 8) = q.2.2) ∧
    poolMemory 0x0400001000 60 = true ∧ poolMemory 0x40 60 = false ∧
    (txChan 2 60 0x0400001000).hbmRangeDown 0x0400001000 60 = false ∧
    (let s := withBoot (withChan up 2 ⟨0, 1, 1, 0⟩) (fun b => { b with live := b.live - 2 ^ 0x17 })
     s.hbmRangeDown 0x0400001000 60 = true ∧ s.hbmRangeDown 0x0400000000 256 = false) := by
  decide +kernel

theorem test_met_ThreadsAndPortsAreServed_write_other (c : Nat) : Dest.undecided ≠ .processor c := nofun

/-! ## Statements: host -/

/-- The host region with its links formed and its write list applied; link 0 out of PERST. -/
def formed : State :=
  let s : State := { up with host := { up.host with listApplied := true } }
  (poke s [(regAddr 0xC 0 R.HOST_LINK_CFG, 2 + 5 * 4)]).setHlink 0 { LinkSt.reset with perst := false }
/-- Link 0 up. -/
def linked : State := formed.wr (linkStatA 0) 512
def mboxed : State := poke linked [(regAddr 0xC 4 R.HOST_MBX_EN, 1)]
def mbxIn (svc : Bool) (blocks : List (Nat × Nat)) : State := mboxed.setSession ⟨svc, 0, 2, 9, blocks, none, (0, []), 0⟩

theorem test_met_HostLinksAndMailboxAct :
    formed.host.listApplied = true ∧ formed.linkFormed 0 = true ∧ (formed.hlink 0).perst = false ∧ formed.flt.failsafe = none ∧
    formed.linkIsUp 0 = false ∧ 5 ≤ formed.fld (regAddr 0xC 0 R.HOST_LINK_CFG) 2 3 ∧ [1, 2, 4, 8, 16, 32].contains 8 = true ∧
    8 ≤ formed.linkLanes ∧ linked.linkIsUp 0 = true ∧ formed.boot.dev ≠ .off ∧ formed.boot.dev ≠ .reset ∧ linked.hostUp = true ∧
    (let s := poke linked [(regAddr 0xC 4 R.HOST_MBX_EN, 0)]
     s.rbit (regAddr 0xC 4 R.HOST_MBX_EN) 0 = false ∧ s.hostUp = true ∧ s.linkIsUp 0 = true) ∧ mboxed.hostUp = true ∧ mboxed.linkIsUp 0 = true ∧
    mboxed.rbit (regAddr 0xC 4 R.HOST_MBX_EN) 0 = true ∧ mboxed.img.session = none ∧ (mbxIn true []).hostUp = true ∧
    (mbxIn true []).img.session = some ⟨true, 0, 2, 9, [], none, (0, []), 0⟩ ∧
    (mbxIn true []).rbit (regAddr 0xC 4 R.HOST_MBX_EN) 0 = true ∧
    (∀ l ∈ [[], [(0, 4096)], [(0, 5)]], (mbxIn false l).mbxSession 0 = some ⟨false, 0, 2, 9, l, none, (0, []), 0⟩ ∧
      (mbxIn false l).hostUp = true ∧ (mbxIn false l).linkIsUp 0 = true ∧ (mbxIn false l).rbit (regAddr 0xC 4 R.HOST_MBX_EN) 0 = true) ∧
    ([(0, 4096)].any (fun p => decide ((p.2 : Nat) < 4096))) = false ∧ 114687 < (114688 : Fin 131072).val := by
  decide +kernel

/-- Slice 3 on link 0: valid, network and block, queue pairs 0 to 15; `stop` stops it; weight 1. Queue pair 2 enabled with its interrupt,
rings of 128, buffers of 2048. -/
def slice3 (stop : Bool) : Nat := 1 + 8 + 16 + (if stop then 32 else 0) + 16 * 2 ^ 80 + 2 ^ 176
def pairs (stop : Bool) (x : QpSt) : State :=
  ((linked.setTabN 0xC 1 0xF0 3 (slice3 stop)).setTabN 0xC 2 0xF1 2 (2 ^ 192 + 7 * 2 ^ 200 + 7 * 2 ^ 208 + 7 * 2 ^ 216 + 2 ^ 239 +
    5 * 2 ^ 256)).setQp 2 x
def posted (n : Nat) : State := pairs false { QpSt.reset with txTail := n }

theorem test_met_HostQueuesRun_doorbells :
    (pairs false QpSt.reset).hostUp = true ∧ (pairs true QpSt.reset).hostUp = true ∧ (pairs false QpSt.reset).qpSlice 2 = some 3 ∧
    qpEn ((pairs false QpSt.reset).qpEntry 2) = true ∧ slLink ((pairs false QpSt.reset).sliceEntry 3) = 0 ∧
    slStop ((pairs false QpSt.reset).sliceEntry 3) = false ∧ (pairs false QpSt.reset).qpSlice 16 = none ∧
    (pairs false QpSt.reset).qpSlice 3 = some 3 ∧ qpEn ((pairs false QpSt.reset).qpEntry 3) = false ∧
    (pairs true QpSt.reset).qpSlice 2 = some 3 ∧ slStop ((pairs true QpSt.reset).sliceEntry 3) = true ∧
    (let s := (pairs false QpSt.reset).setTabN 8 2 0xB8 3 (2 ^ 137 + 3 * 2 ^ 144)
     s.hostUp = true ∧ rgHost (s.ring 3) = true ∧ slValid (s.sliceEntry (rgSlice (s.ring 3))) = true ∧
       slLink (s.sliceEntry (rgSlice (s.ring 3))) = 0 ∧ rgHost (s.ring 4) = false) ∧
    (let s := (pairs false { QpSt.reset with arm := true, unsig := 5 })
     s.hostUp = true ∧ s.qpSlice 2 = some 3 ∧ qpIrqEn (s.qpEntry 2) = true ∧ (s.qp 2).arm = true ∧ 0 < (s.qp 2).unsig ∧
       qpModCount (s.qpEntry 2) ≤ (s.qp 2).unsig) ∧
    ((pairs false { QpSt.reset with arm := true }).qp 2).unsig = 0 ∧
    ((pairs false { QpSt.reset with arm := true }).qp 2).arm = true := by
  decide +kernel

/-- A transmit descriptor: 16 bytes at address 0, flags; and its packet. -/
def txd (flags : BitVec 8) : List Byte := List.replicate 8 0 ++ [16, 0, flags, 0] ++ List.replicate 20 0

theorem test_met_HostQueuesRun_transmit :
    (posted 0).rbit (lnkA (R.HOST_LINK_STAT + 16 * 0)) 9 = true ∧ (posted 0).chooseSlice 0 = none ∧ (posted 1).hostUp = true ∧
    (posted 1).rbit (lnkA (R.HOST_LINK_STAT + 16 * 0)) 9 = true ∧
    (match (posted 1).chooseSlice 0 with
     | some (n, t) => decide (n = 3) && rotateFrom (t.slice n).nextQp (t.sliceReadyQps n) == [2] &&
        txDescs (t.txPosted 2) (txd 0) == none && txDescs (t.txPosted 2) (txd 1) == some [txd 1] &&
        txDescs (t.txPosted 2) (txd 9) == some [txd 9] && qpTxSize (t.qpEntry 2) == 128
     | none => false) = true ∧
    txLength [txd 1] = some 16 ∧ txLength [txd 9] = none := by
  decide +kernel

/-- A packet on its way to queue pair 2 by link 0. -/
def toHost (s : State) : State :=
  { s with que := { s.que with hostOut := [⟨{ plainPkt with bytes := List.replicate 64 0, rewrite := 2 }, 64⟩] } }

theorem test_met_HostQueuesRun_receive :
    linked.que.hostOut = [] ∧
    (∀ stop ∈ [false, true], let s := toHost (pairs stop QpSt.reset)
      s.hostUp = true ∧ s.que.hostOut = ⟨{ plainPkt with bytes := List.replicate 64 0, rewrite := 2 }, 64⟩ :: [] ∧
        qpEn (s.qpEntry 2) = true ∧ s.qpSlice 2 = some 3 ∧ slLink (s.sliceEntry 3) = 64 - 64 ∧ slStop (s.sliceEntry 3) = stop ∧
        qpRxSize (s.qpEntry 2) = 128 ∧ (64 + qpBufSize (s.qpEntry 2) - 1) / qpBufSize (s.qpEntry 2) = 1) ∧
    ((((toHost (pairs false QpSt.reset)).qp 2).rxTail % 128 + 128 - 0) % 128 < 1) ∧
    (let s := toHost (pairs false { QpSt.reset with rxTail := 1 })
     s.hostUp = true ∧ s.qpSlice 2 = some 3 ∧ 1 ≤ ((s.qp 2).rxTail % 128 + 128 - (s.qp 2).rxHead % 128) % 128 ∧ (s.qp 2).error = false) ∧
    (let s := toHost ((pairs false QpSt.reset).setTabN 0xC 2 0xF1 2 0); s.hostUp = true ∧ s.qpSlice 2 = some 3 ∧ qpEn (s.qpEntry 2) = false) := by
  decide +kernel

theorem test_met_HostQueuesRun_logs :
    (let s : State := { linked with host := { linked.host with dirty := [⟨0, 4096, 2, 3, false, 0⟩] } }
     s.hostUp = true ∧ s.host.dirty[0]? = some ⟨0, 4096, 2, 3, false, 0⟩ ∧ s.host.dirty[1]? = none) ∧
    (linked.slice 4095).swapBusy = false ∧ ((linked.setSlice 4095 { SliceSt.reset with swapBusy := true }).slice 4095).swapBusy = true ∧
    (linked.setSlice 4095 { SliceSt.reset with swapBusy := true }).hostUp = true ∧ (0xFFFFF : Word).toNat % 4096 = 4095 := by
  decide +kernel

/-- The block controller of link 0 enabled; I/O queue 1 bound to slice 3; namespace 1 of 8 blocks; commands held. -/
def blocks (stop : Bool) (l : List NvmeCmd) : State :=
  let s := ((pairs stop QpSt.reset).setTabN 0xC 3 0xF4 1 (3 + 2 ^ 12)).setTabN 0xC 3 0xF3 0 (1 + 8 * 2 ^ 32)
  let s := s.setHlink 0 { s.hlink 0 with ccEn := true, rdy := true }
  { s with host := { s.host with nvme := l } }
/-- A submission entry: an opcode, NSID 1, SLBA, one block. -/
def nvmeEntry (op slba : BitVec 8) : List Byte :=
  [op, 0, 7, 0, 1, 0, 0, 0] ++ List.replicate 32 0 ++ [slba] ++ List.replicate 23 0
/-- A Read handed to its storage application with HANDLE 5. -/
def handedCmd : NvmeCmd := ⟨true, 5, 0, 1, 7, 2, 1, 0, 512, nvmeEntry 2 0, [], [], [], 0, none, 0⟩

theorem test_met_BlockCommandsRun :
    linked.hostUp = true ∧ (linked.hlink 0).ccEn = false ∧
    (∀ stop ∈ [false, true], (blocks stop []).hostUp = true ∧ ((blocks stop []).hlink 0).ccEn = true ∧
      ((blocks stop []).hlink 0).rdy = true ∧ (blocks stop []).queueSlice 0 1 = some 3 ∧ slStop ((blocks stop []).sliceEntry 3) = stop) ∧
    slBlk ((blocks false []).sliceEntry 3) = true ∧ slLink ((blocks false []).sliceEntry 3) = 0 ∧ (nvmeEntry 2 0).length = 64 ∧
    (blocks false []).cmdStatus 0 2 1 (nvmeEntry 2 7) = 0 ∧ (blocks false []).cmdStatus 0 2 1 (nvmeEntry 2 8) = 0x80 ∧
    ((nvmeEntry 2 7).getD 0 0).toNat = 2 ∧ entLe (nvmeEntry 2 7) 4 4 = 1 ∧ ((blocks false []).namespace_ 0 1).isSome = true ∧
    (blocks false []).mayWrite .jtag (blkA (R.HOST_BLK_DONE + 12)) ∧
    ((blocks false []).wr (blkA (R.HOST_BLK_DONE + 12)) 1).host.nvme.find? (fun c => c.handed) = none ∧
    (let s := poke (blocks false [handedCmd]) [(blkA R.HOST_BLK_DONE, 5)]
     s.hostUp = true ∧ s.mayWrite .jtag (blkA (R.HOST_BLK_DONE + 12)) ∧
     (let u := s.wr (blkA (R.HOST_BLK_DONE + 12)) 1
      u.host.nvme.find? (fun c => c.handed && c.result.isNone && c.handle == (u.rd (blkA R.HOST_BLK_DONE)).toNat) = some handedCmd ∧
        u.resultWaits handedCmd = false)) ∧
    (blocks false [handedCmd]).hostUp = true ∧ (blocks false [handedCmd]).host.nvme[0]? = some handedCmd ∧
    (blocks false [handedCmd]).host.nvme[1]? = none ∧
    handedCmd.tick + (poke (blocks false [handedCmd]) [(blkA R.HOST_BLK_TMO, 0)]).fld (blkA R.HOST_BLK_TMO) 0 17 * 1000 * ticksPerUs ≤ 0 ∧
    (blocks false [handedCmd]).time.ticks = 0 ∧
    (poke (blocks false [handedCmd]) [(blkA R.HOST_BLK_TMO, 30000)]).time.ticks <
      handedCmd.tick + (poke (blocks false [handedCmd]) [(blkA R.HOST_BLK_TMO, 30000)]).fld (blkA R.HOST_BLK_TMO) 0 17 * 1000 * ticksPerUs ∧
    linked.rbit (lnkA (R.HOST_LINK_STAT + 16 * 0)) 9 = true ∧ linked.rbit (lnkA (R.HOST_LINK_STAT + 16 * 1)) 9 = false := by
  decide +kernel

/-- What turns a link's requests away, and a mailbox session that stands otherwise. -/
theorem test_met_HostLinksAndMailboxAct_not :
    (poke formed [(regAddr 0xC 0 R.HOST_LINK_CFG, 0)]).fld (regAddr 0xC 0 R.HOST_LINK_CFG) 2 3 < (5 : Fin 6).val ∧
    (up.hlink 0).perst = true ∧ (withBoot up (fun b => { b with dev := .off })).boot.dev = .off ∧ (withBoot up (fun b => { b with dev := .reset })).boot.dev = .reset ∧
    (withBoot linked (fun b => { b with live := b.live - 2 ^ 0xC })).hostUp = false ∧ (linked.failsafeEnter 2 0 0 0).hostUp = false ∧
    mboxed.mbxSession 0 = none ∧ ([(0, 4096)].all (fun p => decide (4096 ≤ (p.2 : Nat)))) = true ∧
    ([(0, 5)].all (fun p => decide (4096 ≤ (p.2 : Nat)))) = false ∧ (mbxIn false []).inactiveSlot = mboxed.inactiveSlot := by
  decide +kernel

theorem test_met_HostQueuesRun_other :
    (pairs false QpSt.reset).hostUp = true ∧ (withBoot (pairs false QpSt.reset) (fun b => { b with live := b.live - 2 ^ 0xC })).hostUp = false ∧
    slLink ((pairs false QpSt.reset).sliceEntry 3) ≠ (1 : Fin 4).val ∧ slValid ((pairs false QpSt.reset).sliceEntry 4) = false ∧
    (let s := (linked.setTabN 0xC 1 0xF0 3 (slice3 false)).setTabN 8 2 0xB8 3 (2 ^ 137 + 4 * 2 ^ 144)
     s.hostUp = true ∧ rgHost (s.ring 3) = true ∧ rgSlice (s.ring 3) = 4) ∧
    (let s := toHost (pairs false { QpSt.reset with rxTail := 1, error := true })
     s.hostUp = true ∧ (s.qp 2).error = true) ∧ (65 : Nat) - 64 ≠ slLink ((pairs false QpSt.reset).sliceEntry 3) ∧
    (let s := (pairs false { QpSt.reset with arm := true, unsig := 5 }).setTabN 0xC 2 0xF1 2 (2 ^ 239 + (2 ^ 32 - 1) * 2 ^ 240)
     s.hostUp = true ∧ s.qpSlice 2 = some 3 ∧ qpIrqEn (s.qpEntry 2) = true ∧ (s.qp 2).unsig < qpModCount (s.qpEntry 2) ∧
       s.time.ticks < (s.qp 2).unsigTick + qpModUs (s.qpEntry 2) * ticksPerUs ∧
       (let t := atTick (70000 * ticksPerUs) s; (t.qp 2).unsigTick + qpModUs (t.qpEntry 2) * ticksPerUs ≤ t.time.ticks ∧
         t.qpSlice 2 = some 3 ∧ (t.qp 2).unsig < qpModCount (t.qpEntry 2))) ∧
    linked.mayWrite .jtag (slcA R.HOST_DLOG_SWAP) := by
  decide +kernel

/-- Slice 3's buffer quota; namespace 1 with more bits; pool 1 of four buffers. -/
def stocked (quota ns : Nat) : State :=
  let s := (blocks false []).setTabN 0xC 1 0xF0 3 (slice3 false + quota * 2 ^ 192)
  let s := (s.setTabN 0xC 3 0xF3 0 (1 + 8 * 2 ^ 32 + 3 * 2 ^ 176 + 2 ^ 192 + ns)).setTabN 0x13 3 0x70 1
    (poolBase + 0x0500000000 * 2 ^ 64 + 4 * 2 ^ 128 + 2 ^ 160)
  s.setPool 1 ⟨[poolBase, poolBase + 256], 0, 0, 0⟩
/-- Keys in slots 0 and 1. -/
def withKeys (s : State) : State :=
  let s : State := { s with sec := { s.sec with dk := some 77 } }
  (s.setKeySlot 0 0x7D 5).setKeySlot 1 0x7D 6
def wideEntry (op nlb : BitVec 8) : List Byte := [op, 0, 7, 0, 1, 0, 0, 0] ++ List.replicate 40 0 ++ [nlb, 255] ++ List.replicate 14 0

theorem test_met_BlockCommandsRun_checks :
    (withBoot (stocked 0 0) (fun b => { b with live := b.live - 2 ^ 0xC })).hostUp = false ∧
    (let s := (stocked 0 0).setTabN 0xC 3 0xF4 1 (4 + 2 ^ 12); s.queueSlice 0 1 = some 4 ∧ slBlk (s.sliceEntry 4) = false) ∧
    3 ∉ [0, 1, 2, 8, 9] ∧ (stocked 0 0).cmdStatus 0 3 1 (nvmeEntry 3 0) = 1 ∧ (stocked 0 0).namespace_ 0 2 = none ∧
    ((stocked 0 0).namespace_ 0 1).isSome = true ∧ 1048576 < cmdBytes ((stocked 0 0).tabN 0xC 3 0xF3 0) 2 (wideEntry 2 0) ∧
    cmdBytes ((stocked 0 0).tabN 0xC 3 0xF3 0) 2 (nvmeEntry 2 0) ≤ 1048576 ∧ (stocked 0 8).cmdStatus 0 1 1 (nvmeEntry 1 0) = 0x20 ∧
    nsProt ((stocked 0 8).tabN 0xC 3 0xF3 0) = true ∧ nsProt ((stocked 0 0).tabN 0xC 3 0xF3 0) = false ∧
    (stocked 0 0).cmdStatus 0 1 1 (nvmeEntry 1 0) = 0 := by
  decide +kernel

/-- A command of a queue, with the 512 bytes it moves. -/
def blkCmd (queue op : Nat) (e : List Byte) : NvmeCmd := ⟨false, 0, 0, queue, 7, op, 1, 0, 512, e, [], [], [], 0, none, 0⟩
/-- Buffers or none, and how many are left. -/
def gets (r : Option (List Nat) × State) : Option (List Nat) × Bool := (r.1, (r.2.blkAlloc 3 r.2.listPool).1.isSome)

theorem test_met_BlockCommandsRun_buffers :
    (∀ q ∈ [0, 1], ∀ ns ∈ [0, 4], let s := stocked 4 ns; let c := blkCmd q 1 (nvmeEntry 1 0)
      let w : State := { s with host := { s.host with nvme := s.host.nvme ++ [c] } }
      w.blkMay (s.tabN 0xC 3 0xF3 0) c = true ∧ (nsXts (s.tabN 0xC 3 0xF3 0) = true ↔ ns = 4) ∧ w.nsKeys (s.tabN 0xC 3 0xF3 0) = none) ∧
    (withBoot (stocked 4 0) (fun b => { b with live := b.live - 2 ^ 9 })).blkMay ((stocked 4 0).tabN 0xC 3 0xF3 0) (blkCmd 1 1 []) = false ∧
    ((withKeys (stocked 4 (4 + espRef * 2 ^ 96))).nsKeys ((stocked 4 (4 + espRef * 2 ^ 96)).tabN 0xC 3 0xF3 0)) = some (5, 6) ∧
    nsSlice ((stocked 4 0).tabN 0xC 3 0xF3 0) = 3 ∧ nsPool ((stocked 4 0).tabN 0xC 3 0xF3 0) = 1 ∧ (stocked 4 0).listPool = 1 ∧
    gets (blkAllocN 3 1 1 (stocked 0 0)) = (none, false) ∧ gets (blkAllocN 3 1 1 (stocked 1 0)) = (some [poolBase], false) ∧
    gets (blkAllocN 3 1 1 (stocked 4 0)) = (some [poolBase], true) := by
  decide +kernel

/-- A command handed off, its buffer at the pool's base, HANDLE 5 and a result for it. -/
def handed (op ns : Nat) (queue : Nat) : State × NvmeCmd :=
  let c : NvmeCmd := ⟨true, 5, 0, queue, 7, op, 1, 0, 512, nvmeEntry (BitVec.ofNat 8 op) 0, [], [], [poolBase], 0, none, 0⟩
  let s := poke (stocked 4 ns) [(blkA R.HOST_BLK_DONE, 5)]
  ({ s with host := { s.host with nvme := [c] } }, c)
def doneGets (s : State) : Option NvmeCmd :=
  (s.wr (blkA (R.HOST_BLK_DONE + 12)) 1).host.nvme.find? (fun c => c.handed && c.result.isNone &&
    c.handle == ((s.wr (blkA (R.HOST_BLK_DONE + 12)) 1).rd (blkA R.HOST_BLK_DONE)).toNat)

theorem test_met_BlockCommandsRun_done :
    (∀ x ∈ [handed 1 0 1, handed 2 0 1, handed 2 4 1, handed 2 0 0], doneGets x.1 = some x.2 ∧ x.1.resultWaits x.2 = false ∧
      x.1.bufsMeet x.2.bufs x.2.bytes = false) ∧
    (let x := handed 2 4 1
     (withBoot x.1 (fun b => { b with live := b.live - 2 ^ 8 })).resultWaits x.2 = true ∧ x.1.nsKeys (x.1.tabN 0xC 3 0xF3 0) = none ∧
       (poisonAt x.1 poolBase).bufsMeet x.2.bufs x.2.bytes = true) ∧
    (let x := handed 2 (4 + espRef * 2 ^ 96) 1
     doneGets (withKeys x.1) = some x.2 ∧ (withKeys x.1).resultWaits x.2 = false ∧
       (withKeys x.1).nsKeys (x.1.tabN 0xC 3 0xF3 0) = some (5, 6)) ∧
    (blocks false []).hostUp = true := by
  decide +kernel

/-! ## Statements: HBM -/

def hbmReq (a : BitVec 40) (w : Option (List Byte)) : HbmReq := ⟨5, a, 64, w, .ok⟩
/-- Stack 0 in self-refresh since tick 0; a request held. -/
def resting (l : List HbmReq) : State := (up.setRbit (memA 0 R.MEM_STAT) 1 true).setStack 0 { up.stack 0 with held := l }
def stacked (f : MemSt → MemSt) : State := up.setStack 0 (f (up.stack 0))
def logRow : RowLog := ⟨5, 1, 2, 1, 3, 4, 6⟩

theorem test_met_HbmRequestsAndUpkeep :
    hbmReqOk (hbmReq 0x0800000000 none) = true ∧ hbmReqOk (hbmReq 0x0880000000 none) = true ∧
    hbmPacked up.boot.h48 (0x0880000000 : BitVec 40).toNat = none ∧
    hbmPacked up.boot.h48 (0x0800000000 : BitVec 40).toNat = some 0x400000000 ∧ up.hbmDown 0x0800000000 = false ∧
    (withBoot up (fun b => { b with live := b.live - 2 ^ 0x16 })).hbmDown 0x0800000000 = true ∧
    (resting []).hbmDown 0x0800000000 = false ∧ (resting []).rbit (memA 0 R.MEM_STAT) 1 = true ∧ up.rbit (memA 0 R.MEM_STAT) 1 = false ∧
    (List.replicate 64 (7 : Byte)).length = 64 ∧
    (let s := stacked (fun x => { x with banks := [(64 * 95 + 63, ⟨some 5, 0, []⟩)] })
     let b := spGet (fun _ => BankSt.reset) (s.stack 0).banks (95 * 64 + 63)
     b.open_ ≠ none ∧ b.tick * 10 + (poke s [(memA 0 R.MEM_PAGE_IDLE, 0)]).fld (memA 0 R.MEM_PAGE_IDLE) 0 11 * 7 ≤ s.time.ticks * 10) ∧
    (spGet (fun _ => BankSt.reset) (up.stack 0).banks 5).open_ = none ∧
    up.mayRead .jtag (rasA 0 R.MEM_RH_LOG) ∧ up.mayRead .jtag (rasA 0 (R.MEM_RH_LOG + 12)) ∧
    (let s := stacked (fun x => { x with log := [logRow], logLatch := headPut [] (some .jtag) (some logRow) })
     s.mayRead .jtag (rasA 0 R.MEM_RH_LOG) ∧ s.mayRead .jtag (rasA 0 (R.MEM_RH_LOG + 12)) ∧ (s.stack 0).log = logRow :: [] ∧
       headOf (s.stack 0).logLatch (some .jtag) = some logRow) ∧
    (up.stack 0).log = [] ∧ (104 : Fin 256).val < 105 ∧
    (up.setRbit (memA 0 R.MEM_STAT) 2 true).rbit (memA 0 R.MEM_STAT) 2 = true ∧
    up.rgnDown (0x16 + 0) = false ∧ (poke up [(rasA 0 R.MEM_SCRUB_HOURS, 0)]).fld (rasA 0 R.MEM_SCRUB_HOURS) 0 8 = 0 ∧
    (poke up [(rasA 0 R.MEM_SCRUB_HOURS, 24)]).fld (rasA 0 R.MEM_SCRUB_HOURS) 0 8 ≠ 0 ∧ up.poisoned 0 0 0 = false ∧
    (up.stack 0).scrub = 0 := by
  decide +kernel

/-- Whatever row and bank an address has, its requester may be throttled there, or not; and no line is poisoned at the start. -/
theorem test_met_HbmRequestsAndUpkeep_rows (rank bank row line : Nat) :
    (stacked (fun x => { x with throttled := [⟨5, rank, bank, row, 0⟩] })).rhWaits 0 5 rank bank row = true ∧
    up.rhWaits 0 5 rank bank row = false ∧ up.poisoned 0 rank line = false := by
  refine ⟨?_, rfl, rfl⟩
  have h : (stacked (fun x => { x with throttled := [⟨5, rank, bank, row, 0⟩] })).rhWaits 0 5 rank bank row =
      ((rank == rank) && (bank == bank) && nearRow row row) := by
    simp only [beq_self_eq_true, Bool.and_self, Bool.true_and]
    show ((((5 == 5) && (rank == rank) && (bank == bank) && nearRow row row) &&
      decide (up.time.ticks < 0 + nsTicks (up.fld (rasA 0 R.MEM_RH_GAP) 0 17))) || false) = nearRow row row
    rw [show decide (up.time.ticks < 0 + nsTicks (up.fld (rasA 0 R.MEM_RH_GAP) 0 17)) = true by decide +kernel]
    simp
  rw [h]
  simp [nearRow]

theorem test_met_RanksRetireAndStacksRest :
    up.mayWrite .jtag (rasA 0 R.MEM_RAS_CMD) ∧ natField (93 * 256 : Word).toNat 8 7 = 93 ∧ (up.stack 0).migration = none ∧
    93 ∉ (up.stack 0).waiting ∧ natField (94 * 256 : Word).toNat 8 7 = 94 ∧
    up.rbit (rasA 0 R.MEM_RAS_STAT) 0 = false ∧ (up.setRbit (rasA 0 R.MEM_RAS_STAT) 0 true).rbit (rasA 0 R.MEM_RAS_STAT) 0 = true ∧
    (let st := rasA 0 R.MEM_RAS_STAT; ((up.setFld st 3 7 95).setRbit st 1 false).rankServes 0 95 = false) ∧
    (let st := rasA 0 R.MEM_RAS_STAT; ((up.setFld st 3 7 5).setRbit st 1 false).rankServes 0 5 = true) ∧
    ((stacked (fun x => { x with migration := some ⟨5, 5, 94, 0⟩ })).stack 0).migration = some ⟨5, 5, 94, 0⟩ ∧
    (stacked (fun x => { x with migration := some ⟨5, 5, 94, 0⟩ })).rgnDown (0x16 + 0) = false ∧ 0 + 1 < up.rankLines ∧
    up.rankLines ≤ 4194303 + 1 ∧ (up.stack 0).verify = none ∧ ((stacked (fun x => { x with verify := some 95 })).stack 0).verify = some 95 ∧
    up.mem.recordDue = false ∧ ({ up with mem := { up.mem with recordDue := true } } : State).mem.recordDue = true := by
  decide +kernel

theorem test_met_RanksRetireAndStacksRest_rest :
    (∀ t ∈ [0, 14000000], let s : State := { poke up [(memA 0 R.MEM_SR_CTRL, 1)] with time := { up.time with ticks := t } }
      s.rbit (memA 0 R.MEM_SR_CTRL) 0 = true ∧ s.rbit (memA 0 R.MEM_STAT) 1 = false ∧ s.rgnDown (0x16 + 0) = false ∧
        ((s.stack 0).lastReq + 10000 * ticksPerUs ≤ s.time.ticks ↔ t = 14000000)) ∧
    (resting []).rbit (memA 0 R.MEM_STAT) 1 = true ∧ ((resting []).stack 0).held = [] ∧
    (let s := { resting [hbmReq 0x0800000000 none] with time := { up.time with ticks := 1400 } }
     s.rbit (memA 0 R.MEM_STAT) 1 = true ∧ (s.stack 0).held = [hbmReq 0x0800000000 none] ∧
       hbmPacked s.boot.h48 (hbmReq 0x0800000000 none).addr.toNat = some 0x400000000 ∧ (s.stack 0).srTick + ticksPerUs ≤ s.time.ticks) := by
  decide +kernel

/-- Requests refused, dropped or failing, a drained controller, a poisoned line, a trip, and maintenance that is not throttled. -/
theorem test_met_HbmRequestsAndUpkeep_outcomes :
    hbmReqOk ⟨5, 63, 2, none, .ok⟩ = false ∧ tagKind (hbmReq 0x0800000000 none).tag.toNat = 5 ∧
    tagKind ({ hbmReq 0x1000000000 none with tag := 3 } : HbmReq).tag.toNat = 3 ∧ 0x1000000000 ≤ (0x1000000000 : BitVec 40).toNat ∧
    tagKind ({ hbmReq 0x1000000000 none with tag := 1 } : HbmReq).tag.toNat = 1 ∧ hbmReqOk (hbmReq 0x0800000000 (some (List.replicate 64 7))) = true ∧
    hbmReqOk ⟨5, 0x0800000000, 2, some [1, 2], .parityTwice⟩ = true ∧ (⟨5, 0x0800000000, 2, some [1, 2], .parityTwice⟩ : HbmReq).err = .parityTwice ∧
    (up.hbmDrain 0).rbit (memA 0 R.MEM_STAT) 1 = false ∧ ((up.hbmDrain 0).stack 0).held = [] ∧
    ((resting []).hbmDrain 0).rbit (memA 0 R.MEM_STAT) 1 = true ∧ (up.setPoison 0 5 6 true).poisoned 0 5 6 = true ∧
    (let s := stacked (fun x => { x with hot := 2 })
     3 ≤ (s.stack 0).hot + 1 ∧ 105 ≤ (105 : Fin 256).val ∧ s.awake = true) ∧
    (withBoot up (fun b => { b with dev := .off })).awake = false ∧
    (withBoot up (fun b => { b with live := b.live - 2 ^ 0x16 })).rgnDown (0x16 + 0) = true := by
  decide +kernel

theorem test_met_HbmRequestsAndUpkeep_maintenance (rank ofs tag bank row line : Nat) :
    up.maintWaits 0 rank ofs = false ∧ (up.hbmDrain 0).rhWaits 0 tag rank bank row = false ∧
    (stacked (fun x => { x with migration := some ⟨5, 5, 94, 0⟩ })).maintWaits 0 rank ofs = false ∧
    (up.maintain 0 rank ofs).poisoned 0 rank line = false := by
  refine ⟨rfl, rfl, rfl, ?_⟩
  simp only [State.poisoned, State.maintain, State.rowActivate_poison]
  rfl

/-! ## Statements: regions, errors, the fail-safe, temperatures -/

/-- MEM2 (region 0x18) in a state; its record and policy. -/
def inState (s : State) (r : Nat) (x : RegionState) : State := s.setRgnState r x
/-- Region 1 (TIME) with its policy word. -/
def policied (s : State) (r v : Nat) : State := poke s [(policyA r, v)]

theorem test_met_RegionCommandsRunTheFence :
    up.mayWriteCp .jtag (rgnResetA 0) ∧ up.mayWriteCp .jtag (rgnResetA 0x18) ∧
    (up.setRbit (rgnStatA 0x18) 13 true).rbit (rgnStatA 0x18) 13 = true ∧
    (up.setRbit (rgnStatA 0x18) 13 true).mayWriteCp .jtag (rgnResetA 0x18) ∧
    (∀ x ∈ [RegionState.restore, .absent, .poweredDown, .fencing, .run, .releasing], ∀ v ∈ [0, 1, 2],
      let s := inState up 0x18 x; let u := s.cpStore 3 (rgnResetA 0x18) v
      s.mayWriteCp .jtag (rgnResetA 0x18) ∧ s.rbit (rgnStatA 0x18) 13 = false ∧ u.live 0x18 = true ∧ u.rgnState 0x18 = x) := by
  decide +kernel

/-- A region awaiting its release, in ABSENT since tick 0, at 10 µs. -/
def awaiting (r : Nat) : State :=
  let s : State := { inState up r .absent with time := { up.time with ticks := 14000 } }
  s.setRst r { RegionSt.reset with runDue := true }

theorem test_met_RegionCommandsRunTheFence_drain :
    (let s := inState up 0x18 .fencing
     s.live 0x18 = true ∧ s.rgnState 0x18 = .fencing ∧ (s.rst 0x18).toPower = false ∧
       ((s.setRst 0x18 { s.rst 0x18 with toPower := true }).rst 0x18).toPower = true) ∧
    up.rgnState 0x18 ≠ .fencing ∧ up.releaseDue 0x18 = false ∧ (awaiting 0x18).live 0x18 = true ∧ (awaiting 0x18).releaseDue 0x18 = true ∧
    (rgnDepends 0x18).all (awaiting 0x18).rgnRuns = true ∧
    (let s := inState (awaiting 0x18) 0x10 .absent
     s.live 0x18 = true ∧ s.releaseDue 0x18 = true ∧ (rgnDepends 0x18).all s.rgnRuns = false ∧ s.rbit (rgnStatA 0x18) 3 = false ∧
       (s.setFld (rgnStatA 0x18) 3 1 1).rbit (rgnStatA 0x18) 3 = true ∧ (s.setFld (rgnStatA 0x18) 3 1 1).releaseDue 0x18 = true ∧
       (rgnDepends 0x18).all (s.setFld (rgnStatA 0x18) 3 1 1).rgnRuns = false) ∧
    up.rgnState 0x18 ≠ .releasing := by
  decide +kernel

/-- MEM2 in RELEASING with a list. -/
def releasing (l : List Byte) : State := withBoot (inState up 0x18 .releasing) (fun b => { b with image := listImage 0x18 l })
def runList (s : State) : ListStep := listGo (s.rgnList 0x18).1 0x18 (s.rgnList 0x18).2 (s.rst 0x18).listPos (s.rst 0x18).pollTick s
/-- RESTORE_WAIT as it stands once the list has ended and the region's preloads are done. -/
def afterList (s : State) : Option Bool :=
  match runList s with
  | .ended n t =>
    let u := t.setRst 0x18 { t.rst 0x18 with listPos := 0, pollTick := none }
    ((u.extendList (listBytes (s.rgnList 0x18).1 n)).rgnPreload 0x18).map (fun w => w.rbit (policyA 0x18) 1)
  | _ => none

theorem test_met_RegionCommandsRunTheFence_list :
    (∀ l ∈ [entry 1 (regAddr 0x18 0 R.MEM_PAGE_IDLE) 100 0 0 ++ entry 15 0 0 0 0, entry 3 (memA 2 R.MEM_STAT) 0xFFFF 0xFFFF 5, entry 9 0 0 0 0],
      (releasing l).live 0x18 = true ∧ (releasing l).rgnState 0x18 = .releasing) ∧
    listPlace (runList (releasing (entry 1 (regAddr 0x18 0 R.MEM_PAGE_IDLE) 100 0 0 ++ entry 15 0 0 0 0))) = (1, 2) ∧
    listPlace (runList (releasing (entry 3 (memA 2 R.MEM_STAT) 0xFFFF 0xFFFF 5))) = (2, 0) ∧
    listPlace (runList (releasing (entry 9 0 0 0 0))) = (3, 0x3F) ∧
    afterList (policied (releasing []) 0x18 0) = some false ∧ afterList (policied (releasing []) 0x18 2) = some true := by
  decide +kernel

/-- Block 1 of MEM2 fatal at ticks, its release awaited. -/
def fatals (l : List (Nat × Nat)) (auto : List Nat) : State := { up with flt := { up.flt with blockFatals := l, blockAuto := auto } }
/-- The state that a block's fatal error leaves before it is counted. -/
def shown (s : State) : State := ((s.fatalInfo 0x18 1 1).raise 0x18 0x3F 0).setRbit (regAddr 0x18 1 0x010) 1 true
def failed (ctrl : Nat) : State := (poke up [(A.rgn R.SYS_FAILSAFE_CTRL, ctrl)]).failsafeEnter 2 0 0 0

theorem test_met_ErrorsEscalateToTheFailSafe :
    up.awake = true ∧ up.live 0x18 = true ∧ blockExists 0x18 0x3F = true ∧ blockExists 0x18 1 = true ∧ (1 : Fin 64).val ≠ 0x3F ∧
    (let k := 0x18 * 64 + 1
     let old (s : State) := ((shown s).flt.blockFatals.filter (fun p => decide ((shown s).time.ticks < p.2 + ticksPerSec))).filter
       (fun p => p.1 == k)
     2 ≤ (old (fatals [(k, 0), (k, 0)] [])).length ∧ (old up).length < 2 ∧ (shown (policied up 0x18 0)).rbit (policyA 0x18) 2 = false ∧
       (old (policied up 0x18 0)).length < 2 ∧ (shown (policied up 0x18 4)).rbit (policyA 0x18) 2 = true ∧
       (old (policied up 0x18 4)).length < 2 ∧ (shown (policied up 0x18 4)).flt.blockAuto.contains k = false ∧
       (fatals [(k, 0)] [k]).flt.blockAuto.contains k = true ∧ (fatals [(k, 0)] [k]).awake = true ∧ (fatals [(k, 0)] [k]).live 0x18 = true ∧
       (fatals [(k, 0)] [k]).flt.blockFatals.find? (fun p => p.1 == k) = some (k, 0) ∧
       (fatals [(k, 0)] [k]).time.ticks < 0 + 10 * ticksPerUs ∧
       0 + 10 * ticksPerUs ≤ ({ fatals [(k, 0)] [k] with time := { up.time with ticks := 14000 } } : State).time.ticks ∧
       up.flt.blockAuto.contains k = false) ∧
    up.live 0 = true ∧ blockExists 0 1 = true ∧
    (let v := State.raise (State.setRbit ((up.fatalInfo 0x18 1 2).raise 0x18 0x3F 1) (A.rgn R.SYS_RGN_FATAL) 0x18 true) 0 6 0
     let l := v.time.ticks :: v.within (60 * ticksPerSec) (v.rst 0x18).fatalTicks
     (v.setRst 0x18 { v.rst 0x18 with fatalTicks := l, auto := true }).rgnState 0x18 = .run ∧ l.length < 3) := by
  decide +kernel

/-- Sensors: every one at a level, or sensor 0 failed. -/
def sensed (s : State) (l : List (Option (BitVec 8))) : State :=
  State.raiseIf ((l.zipIdx).foldl (fun (s : State) p => s.sensorTake p.2 p.1) s) (l.any (·.isNone)) 0 13 3
def shownTemps (s : State) : State := (s.showHottest 0 (hottest s.fdie)).showHottest 8 (hottest s.tdie)

theorem test_met_ErrorsEscalateToTheFailSafe_chip :
    up.flt.failsafe = none ∧ ({ up with flt := { up.flt with d2dModules := 3 } } : State).flt.d2dModules < 4 ∧
    ({ up with flt := { up.flt with d2dModules := 3 } } : State).awake = true ∧
    (let s := withBoot up (fun b => { b with vin12 := true, rails := true, resetN := true })
     s.awake = true ∧ s.flt.failsafe = none ∧ s.boot.vin12 = true ∧ s.boot.rails = true ∧ s.boot.resetN = true) ∧
    (failed 1).flt.failsafe ≠ none ∧ (failed 1).rbit (A.rgn R.SYS_FAILSAFE_CTRL) 0 = true ∧
    (failed 0).rbit (A.rgn R.SYS_FAILSAFE_CTRL) 0 = false ∧ regionExists 0x18 = true ∧ up.rgnRuns 0x18 = true ∧
    (∀ v ∈ [20, 120], let l : List (Option (BitVec 8)) := List.replicate 48 (some (BitVec.ofNat 8 v)); let t := sensed up l; let u := shownTemps t
      l.length = 48 ∧ (hottest t.fdie).isSome = true ∧ (hottest t.tdie).isSome = true ∧ ¬(u.boot.dev = .boot ∧ u.boot.started = false)) ∧
    (match hottest (sensed up (List.replicate 48 (some 120))).fdie with | some f => decide (115 ≤ f) | none => false) = true ∧
    (withBoot up (fun b => { b with dev := .off })).awake = false := by
  decide +kernel

/-- A list that ends in a region whose preload or tiles are bad; regions not out of reset; an error in an absent region; failed sensors. -/
theorem test_met_RegionCommandsRunTheFence_bad :
    (withBoot up (fun b => { b with live := b.live - 2 ^ 0x18 })).live 0x18 = false ∧
    (let s := (releasing []).setRst 0x18 { (releasing []).rst 0x18 with fromPower := true }
     let img := (listImage 0xFF (leBytes 4 (memA 2 0) ++ List.replicate 12 0 ++ leBytes 8 1 ++ List.replicate 8 0)).set 64 2
     let t := withBoot s (fun b => { b with image := img })
     listPlace (runList s) = (1, 0) ∧ afterList t = none) ∧
    (let s := inState up 7 .releasing; s.live 7 = true ∧ s.rgnState 7 = .releasing ∧ s.tilesOk = true ∧
       (poke s [(regAddr 7 0 (R.TBL_TILE_FN + 4 * 95), 3)]).tilesOk = false) ∧
    regionExists 0x0E = false ∧ blockExists 0x18 9 = false ∧
    (∀ x ∈ [RegionState.absent, .poweredDown, .fencing],
      let s := inState up 0x18 x
      let v := State.raise (State.setRbit ((s.fatalInfo 0x18 1 2).raise 0x18 0x3F 1) (A.rgn R.SYS_RGN_FATAL) 0x18 true) 0 6 0
      s.awake = true ∧ s.live 0x18 = true ∧ v.rgnState 0x18 = x) ∧
    (let l : List (Option (BitVec 8)) := List.replicate 48 none; l.length = 48 ∧ hottest (sensed up l).fdie = none) ∧
    (withBoot up (fun b => { b with vin12 := true, rails := true, resetN := false })).boot.resetN = false := by
  decide +kernel

/-! ## Worked examples: of the spec, and of the standards it names -/

/-- The state a command ends in. -/
def next (c : Instr) (s : State) : State :=
  match exec c s with
  | .next t => t
  | _ => s

/-- R27: one tick adds the nominal increment, 0x00_B6DB_6DB7 (00_scope, worked example). -/
theorem test_clock_tick_adds_increment : ((next .clockTick up).dom .cobalt).value = 3067833783 := by
  decide +kernel

/-- R103 with the example of 04: the pair of TIME_DOM_INCR_FRAC is taken as one 64-bit store; a 32-bit store is refused and logged. -/
theorem test_increment_pair_and_lone_half :
    ((next .clockTick (next (.registerWrite ⟨.jtag, 0x104050, 8, false⟩ 0x492495E0B6DB6A1F false) up)).dom .cobalt).value = 0xB6DB6A1F ∧
    ((next (.registerWrite ⟨.jtag, 0x104050, 4, false⟩ 0xB6DB6A1F false) up).ctl.intg).map (fun e => e.w0.toNat % 2 ^ 26) = [0x104050] := by
  decide +kernel

/-- The example of 04: a lost stamp shows in RCAUSE bit 4 and SYS_GSTAT bit 1, unmasked. -/
theorem test_lost_stamp_summary :
    let s := (poke up [(regAddr 1 4 0x00C, 0), (A.gw 1 R.RMASK_LO, 0)]).raise 1 4 1
    s.rcause 1 = 2 ^ 4 ∧ s.gstat = 2 := by
  decide +kernel

/-- The example of 14 (R359). -/
theorem test_key_reference : keyRef 0x0000EE8F00011170 = some 70000 ∧ keyRef 0x0000EE8F00011171 = none := by
  decide +kernel

/-- The example of 17 (R432). -/
theorem test_hbm_place : (up.hbmStack 0x0401234567 = some 0) ∧
    (hbmPacked false 0x0401234567).map hbmPlace = some (33, 50791) := by
  decide +kernel

/-- The example of 16 (R420): pages 48 and 49 of word 0. -/
theorem test_dirty_word :
    let s := (pairs false QpSt.reset).setTabN 0xC 1 0xF2 3 (0x1000 + 0x1000000000 * 2 ^ 128 + 16777216 * 2 ^ 192 + 2 ^ 224)
    ((s.dirtyLog 3 0x1000030F80 1500).host.dirty).map (fun w => (w.addr, w.bits)) = [(0x1000, 0x0003000000000000)] := by
  decide +kernel

/-- The example of 11 (R287): the bands of 1,100 cells, and the grants in the record format. -/
theorem test_grant_bands :
    bandShares [(455, 200)] 1100 = ([(455, 200)], 900) ∧
    bandShares [(17, 1216), (300, 288), (455, 696)] 900 = ([(17, 306), (300, 288), (455, 306)], 0) ∧
    ([306, 288, 506].map (fun n => recVal (recFloor n))) = [304, 288, 504] := by
  decide +kernel

/-- The example of 11: a shaper of 2.5 Gbit/s and 1 MiB. -/
theorem test_shaper_format : rateOf (2441 + 10 * 4096) = 2499584 ∧ burstOf (255 + 6 * 256) = 1048576 := by
  decide +kernel

/-- FIPS 197, C.3. -/
theorem test_aes256 :
    let ks := roundKeys 0x000102030405060708090a0b0c0d0e0f101112131415161718191a1b1c1d1e1f
    aesEnc ks 0x00112233445566778899aabbccddeeff = 0x8ea2b7ca516745bfeafc49904b496089 ∧
    aesDec ks 0x8ea2b7ca516745bfeafc49904b496089 = 0x00112233445566778899aabbccddeeff := by
  decide +kernel

/-- GCM specification, test cases 13 and 14. -/
theorem test_gcm :
    (gcmEnc 0 0 [] []).2 = beBytes 16 0x530f8afbc74536b9a963b4f1c4cb738b ∧
    gcmEnc 0 0 [] (List.replicate 16 0) =
      (beBytes 16 0xcea7403d4d606b6e074ec5d3baf39d18, beBytes 16 0xd0d1c8a799996bf0265b98b5d48ab919) := by
  decide +kernel

/-- SHAKE256 of the empty message; CRC-32 and CRC-16 of the digits. -/
theorem test_digests :
    shake256 [] 32 = beBytes 32 0x46b9dd2b0ba88d13233b3feb743eeb243fcd52ea62b81b82b50c27646ed5762f ∧
    crc32Std (ascii "123456789") = 0xCBF43926 ∧ crc16 0xFFFF (ascii "123456789") = 0x29B1 := by
  decide +kernel

/-- No row of the table gives a command bits. -/
theorem test_no_word_spells_a_command : decodeTableWord 32 5 = none ∧ up.withFetchWord 32 5 = up := by
  decide +kernel

theorem test_met_StepsKeepStoresCanonical :
    let s : State := { up with pending := [.clockTick] }
    s.storesWf = true ∧ (match step s with | .next _ => true | _ => false) = true := by
  decide +kernel

theorem test_met_StepsTakeNothingBack :
    let s : State := withBoot { up with pending := [.clockTick] } (fun b => { b with keyRevoked := 4 })
    natBit s.boot.keyRevoked 2 = true ∧ (match step s with | .next _ => true | _ => false) = true := by
  decide +kernel

theorem test_met_RaisingACauseIsRecorded :
    up.storesWf = true ∧ (up.raise 63 63 31).storesWf = true ∧ (up.raise 63 63 31).cause 63 63 31 = true := by
  decide +kernel

end Sys2Proof.Tests
end

section
/-! PROOF. Working-time switches (R39, R40, R510): what a write of TIME_WT_CTRL stores, what each SWITCH command adds, and what a switch
instant leaves as it was. -/

namespace Sys2Proof.Machine

/-! ## Bit fields beside the low one -/

/-- Replacing the lowest `k` bits leaves what lies above them. -/
theorem natSetField_low_div (v k c : Nat) : natSetField v 0 k c / 2 ^ k = v / 2 ^ k := by
  have hv : v - v % 2 ^ k = 2 ^ k * (v / 2 ^ k) := by have := Nat.div_add_mod v (2 ^ k); omega
  simp only [natSetField, natField, Nat.pow_zero, Nat.div_one, Nat.mul_one]
  rw [hv, Nat.mul_add_div (Nat.two_pow_pos k), Nat.div_eq_of_lt (Nat.mod_lt _ (Nat.two_pow_pos k)), Nat.add_zero]

/-- A field above the replaced low bits keeps its value. -/
theorem natField_setField_low {v k c lo : Nat} (w : Nat) (h : k ≤ lo) :
    natField (natSetField v 0 k c) lo w = natField v lo w := by
  obtain ⟨d, rfl⟩ := Nat.exists_eq_add_of_le h
  simp only [natField, Nat.pow_add, ← Nat.div_div_eq_div_mul, natSetField_low_div]

/-- The replaced low bits read as what was put there. -/
theorem natField_setField_low_self {v k c : Nat} (h : c < 2 ^ k) : natField (natSetField v 0 k c) 0 k = c := by
  have hv : v - v % 2 ^ k = 2 ^ k * (v / 2 ^ k) := by have := Nat.div_add_mod v (2 ^ k); omega
  simp only [natSetField, natField, Nat.pow_zero, Nat.div_one, Nat.mul_one]
  rw [hv, Nat.mul_add_mod, Nat.mod_mod, Nat.mod_eq_of_lt h]

/-! ## The write of TIME_WT_CTRL -/

@[simp] theorem State.lockedWrite_time (s : State) (m : Option Master) (a : Nat) : (s.lockedWrite m a).time = s.time :=
  s.intgLog_time 7 a (whoCode m) 0 (whoThread m)

/-- What SWITCH = `c` does once the register's fields are stored (R40). -/
def State.switchCmd (s : State) (c : Nat) : State :=
  match c with
  | 1 => { s with time := { s.time with switchSlot := some s.time.nextSlot } }
  | 2 => { s with time := { s.time with switchFrom := s.time.nextSlot, switchAt := some (tvOf
      ((s.rd (A.wt R.TIME_WT_SWAT_SEC_LO)).toNat + s.fld (A.wt R.TIME_WT_SWAT_SEC_HI) 0 16 * 2 ^ 32)
      (s.rd (A.wt R.TIME_WT_SWAT_NS)).toNat) } }
  | 3 => { s with time := { s.time with switchSlot := none, switchAt := none } }
  | _ => s

section
variable {s u x y : State} {m : Master} {v start : Nat}
  (hstart : start = if s.rwlLocked then s.fld (A.wt R.TIME_WT_CTRL) 16 1 else natField v 16 1)
  (hu : u = if start = natField v 16 1 then s else s.lockedWrite (some m) (A.wt R.TIME_WT_CTRL))
  (hx : x = u.wr (A.wt R.TIME_WT_CTRL) (BitVec.ofNat 32 (natField v 2 14 * 4 + start * 65536)))
  (hy : y = { x with time := { x.time with active := if x.time.wtValid then x.time.active else x.startDom } })
include hu hx hy

/-- Storing the register's fields does not move on to another slot. -/
theorem State.wtCtrlStored_nextSlot : y.time.nextSlot = s.time.nextSlot := by
  have htime : u.time = s.time := by
    rw [hu]
    split
    · rfl
    · exact s.lockedWrite_time _ _
  rw [hy, hx]
  show u.time.nextSlot = s.time.nextSlot
  rw [htime]

include hstart

/-- A SWITCH command that is not refused stores the fields, START_DOM as the lock lets it, and then acts (R40, R510). -/
theorem State.wtCtrlWrite_eq_switchCmd {c : Nat} (hc : c < 4) (hok : ¬(c = 1 ∧ s.time.wtValid = false)) :
    s.wtCtrlWrite (some m) (natSetField v 0 2 c) = y.switchCmd c := by
  have hcmd : natField (natSetField v 0 2 c) 0 2 = c := natField_setField_low_self hc
  have hactive : y = if x.time.wtValid then x else { x with time := { x.time with active := x.startDom } } := by
    rw [hy]
    split <;> rfl
  unfold State.wtCtrlWrite
  simp only [hcmd, natField_setField_low _ (Nat.le_refl 2), natField_setField_low _ (show 2 ≤ 16 by decide), ← hstart, ← hu, ← hx,
    ← hactive, if_neg hok]
  rfl
end

/-- SWITCH_NEXT_SLOT before WT_VALID is refused (R40). -/
theorem State.wtCtrlWrite_refused {s : State} (m : Option Master) (v : Nat) (h : s.time.wtValid = false) :
    s.wtCtrlWrite m (natSetField v 0 2 1) = s.raise 1 0 2 := by
  unfold State.wtCtrlWrite
  rw [if_pos ⟨natField_setField_low_self (by decide), h⟩]

theorem exec_switchNextSlot {s : State} {m : Master} {v : Word} (h : s.mayWrite m (A.wt R.TIME_WT_CTRL)) :
    exec (.switchNextSlot m v) s = .next (s.wtCtrlWrite (some m) (natSetField v.toNat 0 2 1)) :=
  congrArg Host.Outcome.next (State.asWrite_ok h)

theorem exec_switchTimedArm {s : State} {m : Master} {v : Word} (h : s.mayWrite m (A.wt R.TIME_WT_CTRL)) :
    exec (.switchTimedArm m v) s = .next (s.wtCtrlWrite (some m) (natSetField v.toNat 0 2 2)) :=
  congrArg Host.Outcome.next (State.asWrite_ok h)

theorem exec_switchDisarm {s : State} {m : Master} {v : Word} (h : s.mayWrite m (A.wt R.TIME_WT_CTRL)) :
    exec (.switchDisarm m v) s = .next (s.wtCtrlWrite (some m) (natSetField v.toNat 0 2 3)) :=
  congrArg Host.Outcome.next (State.asWrite_ok h)

/-! ## The switch instant -/

/-- What `t` has in common with `s`, and which domain it runs on, when `s` met a switch instant for domain `d` (R39). -/
def SwitchedTo (s t : State) (d : Dom) : Prop :=
  t.wt = s.wt ∧ (∀ e, t.dom e = s.dom e) ∧ t.tabs = s.tabs ∧ t.hbm = s.hbm ∧ t.flash = s.flash ∧
  t.time.active = (if ((s.wt : Int) - (s.dom d).value).natAbs ≤ lsbSec then d else s.time.active) ∧
  t.cause 1 0 (if ((s.wt : Int) - (s.dom d).value).natAbs ≤ lsbSec then 0 else 2) = true

/-- Within 1 s the switch is made, beyond it is refused; working time is the same either way (R39). -/
theorem State.switchTo_switched (s : State) (d : Dom) : SwitchedTo s (s.switchTo d) d := by
  by_cases near : ((s.wt : Int) - (s.dom d).value).natAbs ≤ lsbSec
  · obtain ⟨hactive, hwt, hdom, htabs, hhbm, hflash⟩ := State.switchTo_ok (s := s) (d := d) (by omega) (by omega)
    refine ⟨hwt, hdom, htabs, hhbm, hflash, ?_, ?_⟩
    · rw [if_pos near, hactive]
    · rw [if_pos near]
      unfold State.switchTo
      rw [if_neg (by omega)]
      exact State.cause_raise (by decide) (by decide) (by decide)
  · have refused : s.switchTo d = s.raise 1 0 2 := if_pos (by omega)
    rw [refused]
    refine ⟨State.wt_of_time (s.raise_time 1 0 2), s.raise_dom 1 0 2, s.raise_tabs 1 0 2, s.raise_hbm 1 0 2, s.raise_flash 1 0 2, ?_, ?_⟩
    · rw [if_neg near, State.raise_time]
    · rw [if_neg near]
      exact State.cause_raise (by decide) (by decide) (by decide)

/-- A due switch drops its trigger and meets its instant (R39, R40). -/
theorem exec_activeSwitch_switched {s : State} (h : s.switchDue = true) :
    ∃ t, exec .activeSwitch s = .next t ∧ SwitchedTo s t (otherDom s.time.active) := by
  show ∃ t, execActiveSwitch s = .next t ∧ _
  unfold execActiveSwitch
  rw [if_pos h]
  extract_lets due _ dropped
  have hdropped : ∃ slot instant, dropped = { s with time := { s.time with switchSlot := slot, switchAt := instant } } := by
    unfold dropped
    split
    · exact ⟨_, _, rfl⟩
    · exact ⟨_, _, rfl⟩
  clear_value dropped
  obtain ⟨slot, instant, rfl⟩ := hdropped
  exact ⟨_, rfl, State.switchTo_switched { s with time := { s.time with switchSlot := slot, switchAt := instant } } _⟩

/-- The return to Cobalt, WTR after its quality became good, at a cycle start (R40). -/
theorem exec_revertWtrExpiry_due {s : State} {g : Nat} (hg : s.time.cobaltGoodSince = some g)
    (h : s.time.wtValid ∧ s.rbit (A.wt R.TIME_WT_CTRL) 3 = true ∧ s.time.active = .umber ∧ s.atCycleStart = true ∧
      g + s.fld (A.wt R.TIME_WT_CTRL) 4 12 * lsbSec ≤ (s.time.nextSlot - 1) * lsbSlot) :
    exec .revertWtrExpiry s = .next (s.switchTo .cobalt) := by
  show execRevertWtrExpiry s = _
  unfold execRevertWtrExpiry
  simp only [hg]
  exact if_pos h

/-- Settles O9: the SWITCH commands by `wtCtrlWrite_eq_switchCmd`, the two switch instants by `switchTo_switched`. -/
theorem switchingKeepsWorkingTime : Obligations.SwitchingKeepsWorkingTime := by
  intro s m v _
  refine ⟨fun hw start u x y hstart hu hx hy => ⟨fun hvalid => ?_, fun hnot => ?_, ?_, ?_⟩, exec_activeSwitch_switched, ?_⟩
  · have hslot := State.wtCtrlStored_nextSlot hu hx hy
    rw [exec_switchNextSlot hw, State.wtCtrlWrite_eq_switchCmd hstart hu hx hy (by decide) (by simp [hvalid]), ← hslot]
    rfl
  · rw [exec_switchNextSlot hw, State.wtCtrlWrite_refused _ _ hnot]
  · have hslot := State.wtCtrlStored_nextSlot hu hx hy
    rw [exec_switchTimedArm hw, State.wtCtrlWrite_eq_switchCmd hstart hu hx hy (by decide) (by simp), ← hslot]
    rfl
  · rw [exec_switchDisarm hw, State.wtCtrlWrite_eq_switchCmd hstart hu hx hy (by decide) (by simp)]
    rfl
  · intro g hvalid hrevert hactive hstart hg hwtr
    obtain ⟨hwt, hdom, htabs, hhbm, hflash, hnow, hcause⟩ := s.switchTo_switched .cobalt
    rw [hactive] at hnow
    exact ⟨_, exec_revertWtrExpiry_due hg ⟨hvalid, hrevert, hactive, hstart, hwtr⟩, hwt, hdom, htabs, hhbm, hflash, hnow, hcause⟩

end Sys2Proof.Machine
end

section
/-! PROOF. The register window (R5, R91 to R103): what a 32-bit write does at each type of register, what a 32-bit read clears or latches,
the block header's BCAUSE, BCAUSE_SET and BRESET, SYS_CHIP_RESET, and the scrubber's pass. -/

namespace Sys2Proof.Machine

variable {s : State} {m : Master} {a : Nat}

/-! ## 32-bit writes -/

/-- A 32-bit write that passes the checks writes its low word (R94). -/
theorem exec_registerWrite_word {x : BitVec 26} {v : BitVec 64} (h : s.busCheck m x.toNat 4 false true = .ok) :
    exec (.registerWrite ⟨m, x, 4, false⟩ v false) s = .next (s.writeWord (some m) x.toNat (v.toNat % 2 ^ 32)) := by
  show execRegisterWrite _ _ _ _ = _
  unfold execRegisterWrite
  simp only [h]
  rfl

/-- Beyond the header, in a block without windows, a write goes to the row that holds the offset. -/
theorem State.writeWord_row {who : Option Master} {w i k : Nat} {row : RegRow} (hoff : 0x40 ≤ addrOff a)
    (hwin : winCount (addrRegion a) (addrBlock a) = 0)
    (hrow : findRow (blockRows (addrRegion a) (addrBlock a)) (addrOff a) = some (row, i, k)) :
    s.writeWord who a w = s.rowWrite who a row i w := by
  unfold State.writeWord
  simp only [hrow]
  rw [if_neg (by omega), if_neg (by omega)]

/-- BMASK is stored as written (R95). -/
theorem State.writeWord_bmask {who : Option Master} {w : Nat} (hoff : addrOff a = 0x00C) :
    s.writeWord who a w = s.wr a (BitVec.ofNat 32 w) := by
  unfold State.writeWord State.headerWrite
  simp [hoff]

section
variable {who : Option Master} {row : RegRow} {i w : Nat}

theorem State.rowWrite_readOnly (h : row.type = .ro ∨ row.type = .rc) : s.rowWrite who a row i w = s := by
  unfold State.rowWrite
  rcases h with h | h <;> simp only [h]

theorem State.rowWrite_w1c (h : row.type = .w1c) : s.rowWrite who a row i w = s.wr a (s.rd a &&& ~~~ BitVec.ofNat 32 w) := by
  unfold State.rowWrite
  simp only [h]

theorem State.rowWrite_cp (h : row.type = .cp) : s.rowWrite who a row i w = s.cpRefused who a := by
  unfold State.rowWrite
  simp only [h]

theorem State.rowWrite_locked (h : row.type = .rwl) (hlock : s.rwlLocked = true) : s.rowWrite who a row i w = s.lockedWrite who a := by
  unfold State.rowWrite
  simp only [h, hlock, if_true]

/-- A value an RW or WO register's range admits has the register's own effect. -/
theorem State.rowWrite_inRange (h : row.type = .rw ∨ row.type = .wo)
    (hin : row.hi = 0 ∨ (row.lo ≤ w &&& row.mask ∧ w &&& row.mask ≤ row.hi)) : s.rowWrite who a row i w = s.regHook who a row i w := by
  have admitted : ¬(row.hi ≠ 0 ∧ (w &&& row.mask < row.lo ∨ row.hi < w &&& row.mask) ∧
      ¬(row.off = R.LINE_PORT_MAXLEN ∧ addrRegion a = 2) ∧ ¬(row.off = R.HOST_BLK_TMO ∧ addrRegion a = 12)) := by omega
  unfold State.rowWrite
  rcases h with h | h <;> (simp only [h]; exact if_neg admitted)

/-- A value outside the range is refused; LINE and HOST have registers that answer such a value themselves. -/
theorem State.rowWrite_outOfRange (h : row.type = .rw ∨ row.type = .wo) (hhi : row.hi ≠ 0)
    (hout : w &&& row.mask < row.lo ∨ row.hi < w &&& row.mask) (hline : addrRegion a ≠ 2) (hhost : addrRegion a ≠ 12) :
    s.rowWrite who a row i w = s.rangeRefused (addrRegion a) (addrBlock a) := by
  have refused : row.hi ≠ 0 ∧ (w &&& row.mask < row.lo ∨ row.hi < w &&& row.mask) ∧
      ¬(row.off = R.LINE_PORT_MAXLEN ∧ addrRegion a = 2) ∧ ¬(row.off = R.HOST_BLK_TMO ∧ addrRegion a = 12) :=
    ⟨hhi, hout, fun h => hline h.2, fun h => hhost h.2⟩
  unfold State.rowWrite
  rcases h with h | h <;> (simp only [h]; exact if_pos refused)
end

/-! ## 32-bit reads -/

/-- A 32-bit read of a word that no latch and no queue answers: its view, what it latches, and what it clears (R5, R96). -/
theorem State.asBusRead_view {x : BitVec 26} (hcheck : s.busCheck m x.toNat 4 false false = .ok)
    (hlatch : (s.latch m x.toNat).take x.toNat = none) (htake : s.readTake (some m) x.toNat = none)
    (hhead : s.headWord m x.toNat = none) :
    s.asBusRead ⟨m, x, 4, false⟩ =
      ((if latchWords (addrRegion x.toNat) (addrBlock x.toNat) (addrOff x.toNat) = 0 then s
        else s.setLatch m x.toNat ⟨x.toNat, (List.range (latchWords (addrRegion x.toNat) (addrBlock x.toNat) (addrOff x.toNat))).map
          (fun i => BitVec.ofNat 32 (s.view (x.toNat + 4 * (i + 1))))⟩).readClear x.toNat).emit (.reply m (s.view x.toNat)) := by
  have hread : s.busRead m x.toNat 4 = s.readWord m x.toNat := if_neg (by decide)
  rw [State.asBusRead_ok hcheck]
  dsimp only
  rw [hread, State.readWord_view hlatch htake, hhead]
  rfl

/-- The read of a one-word RC register that does not stand frozen clears it; BUF's minimum counters start elsewhere (R5, R109). -/
theorem State.readClear_word {row : RegRow} {i : Nat}
    (hrow : findRow (blockRows (addrRegion a) (addrBlock a)) (addrOff a) = some (row, i, 0)) (htype : row.type = .rc) (hw : row.w = 1)
    (hi : i < 4096) (hbuf : addrRegion a ≠ 0x13) (hthaw : (row.cnt && s.ctl.snapFrozen) = false) : s.readClear a = s.wr a 0 := by
  unfold State.readClear
  simp [hrow, htype, hw, hi, hbuf, hthaw]

/-! ## The block header -/

theorem exec_bcauseClear {x : BlockRef} {v : Word} (h : s.mayWrite m (regAddr x.region x.block 0x008)) :
    exec (.bcauseClear m x v) s = .next (s.bcauseClear x.region x.block v.toNat) :=
  congrArg Host.Outcome.next (State.asWrite_ok h)

theorem exec_bcauseSet {x : BlockRef} {v : Word} (h : s.mayWrite m (regAddr x.region x.block 0x030)) :
    exec (.bcauseSet m x v) s = .next (s.bcauseSet x.region x.block v.toNat) :=
  congrArg Host.Outcome.next (State.asWrite_ok h)

theorem exec_bresetHold {x : BlockRef} (h : s.mayWriteCp m (regAddr x.region x.block 0x018)) :
    exec (.bresetHold m x) s = .next (s.bresetWrite x.region x.block 1) :=
  congrArg Host.Outcome.next (State.asCpWrite_ok h (by decide) (by decide) rfl)

theorem exec_bresetRelease {x : BlockRef} (h : s.mayWriteCp m (regAddr x.region x.block 0x018)) :
    exec (.bresetRelease m x) s = .next (s.bresetWrite x.region x.block 0) :=
  congrArg Host.Outcome.next (State.asCpWrite_ok h (by decide) (by decide) rfl)

/-- HOLD stored in BRESET holds the block (R95, R102). -/
theorem State.blkHeld_cpStore_hold (s : State) (r b : Nat) : (s.cpStore 1 (regAddr r b 0x018) 1).blkHeld r b = true := by
  unfold State.blkHeld
  rw [State.cpValue_cpStore (by decide) (by decide) rfl]
  rfl

theorem State.bresetWrite_hold (s : State) (r b : Nat) :
    s.bresetWrite r b 1 =
      if s.blkHeld r b then s.cpStore 1 (regAddr r b 0x018) 1 else (s.cpStore 1 (regAddr r b 0x018) 1).blockCut r b := by
  unfold State.bresetWrite
  cases s.blkHeld r b
  · simp only [Nat.one_ne_zero, false_and, true_and, Bool.false_eq_true, if_true, if_false]
  · simp only [Nat.one_ne_zero, false_and, Bool.true_eq_false, and_false, if_true, if_false]

/-- The release of a held block counts an epoch and initialises the block; any other only stores the pair (R95, R451). -/
theorem State.bresetWrite_release {u : State} {r b : Nat} (hu : u = s.cpStore 1 (regAddr r b 0x018) 0) :
    s.bresetWrite r b 0 = if s.blkHeld r b then
      ((State.setRbit { u with flt := { u.flt with blockAuto := u.flt.blockAuto.filter (fun y => y != r * 64 + b) } }
        (regAddr r b 0x010) 1 false).blockEpoch r b).blockInit r b else u := by
  subst hu
  unfold State.bresetWrite
  cases s.blkHeld r b
  · simp only [Nat.zero_ne_one, Bool.false_eq_true, and_false, false_and, if_false]
  · simp only [true_and, if_true]

/-! ## CP writes -/

/-- A pair that is not whole is refused and logged (R101). -/
theorem State.asCpWrite_broken {mask : Nat} {q : BitVec 64} {f : Nat → State → State} (h : s.mayWriteCp m a)
    (hq : cpWhole mask (q.toNat % 2 ^ 32) (q.toNat / 2 ^ 32) = false) : s.asCpWrite m a mask q f = s.cpRefused (some m) a := by
  unfold State.asCpWrite
  rw [h]
  dsimp only
  rw [hq]
  rfl

theorem exec_chipResetWrite {q : BitVec 64} : exec (.chipResetWrite m q) s =
    .next (s.asCpWrite m (A.rgn R.SYS_CHIP_RESET) 0xFFFFFFFF q (fun v s => s.cpAccept (A.rgn R.SYS_CHIP_RESET) v)) := rfl

/-- Of the well-formed pairs only 0xA5C3 resets the chip (R103). -/
theorem State.cpAccept_chipReset (s : State) (v : Nat) : s.cpAccept (A.rgn R.SYS_CHIP_RESET) v = if v = 0xA5C3 then s.chipReset else s := rfl

theorem exec_chipResetWrite_pair {v : Nat} (h : s.mayWriteCp m (A.rgn R.SYS_CHIP_RESET)) (hv : v < 2 ^ 32) :
    exec (.chipResetWrite m (pairOf 0xFFFFFFFF v)) s = .next (if v = 0xA5C3 then s.chipReset else s) := by
  rw [exec_chipResetWrite, State.asCpWrite_ok h hv (by decide) (and_mask32 hv), State.cpAccept_chipReset]

/-! ## The scrubber -/

theorem exec_cpScrub_none (s : State) : exec (.cpScrub none) s = .next ((s.cpTouched.filter
    (fun q => !cpWhole q.2 (s.rd q.1).toNat (s.rd (q.1 + 4)).toNat)).eraseDups.foldl (fun t q => t.intgLog 2 q.1 4 0 0) s) := rfl

/-- A pass over pairs that all agree logs nothing (R102). -/
theorem exec_cpScrub_whole (h : ∀ q ∈ s.cpTouched, cpWhole q.2 (s.rd q.1).toNat (s.rd (q.1 + 4)).toNat = true) :
    exec (.cpScrub none) s = .next s := by
  have none_bad : s.cpTouched.filter (fun q => !cpWhole q.2 (s.rd q.1).toNat (s.rd (q.1 + 4)).toNat) = [] :=
    List.filter_eq_nil_iff.2 fun q hq => by simp [h q hq]
  rw [exec_cpScrub_none, none_bad]
  rfl

/-- Settles O16: each kind of access by the lemma about its register type. -/
theorem registerWindowFollowsRegisterTypes : Obligations.RegisterWindowFollowsRegisterTypes := by
  intro s m a _
  refine ⟨fun v row i k w hcheck hoff hwin hw hrow => ?_, fun v hcheck hoff => ?_, ?_, ?_, ?_, ?_, ?_, ?_, exec_cpScrub_none s,
    exec_cpScrub_whole⟩
  · have hwrite : exec (.registerWrite ⟨m, a, 4, false⟩ v false) s = .next (s.rowWrite (some m) a.toNat row i w) := by
      rw [exec_registerWrite_word hcheck, State.writeWord_row hoff hwin hrow, hw]
    rw [hwrite]
    refine ⟨fun h => ?_, fun h => ?_, fun h => ?_, fun h hloaded => ?_, fun h hin => ?_, fun h hhi hout hline hhost => ?_⟩
    · rw [State.rowWrite_readOnly h]
    · rw [State.rowWrite_w1c h]
      exact ⟨_, rfl, State.rd_wr_self _ _, fun b hb => State.rd_wr_ne hb _, rfl, rfl, rfl, rfl⟩
    · rw [State.rowWrite_cp h]
    · rw [State.rowWrite_locked h hloaded]
    · rw [State.rowWrite_inRange h hin]
    · rw [State.rowWrite_outOfRange h hhi hout hline hhost]
  · rw [exec_registerWrite_word hcheck, State.writeWord_bmask hoff]
  · intro row i hcheck hlatch htake hhead hwords hrow htype hw hi hbuf hthaw
    have hread : exec (.counterReadClear ⟨m, a, 4, false⟩) s = .next ((s.wr a.toNat 0).emit (.reply m (s.view a.toNat))) := by
      show Host.Outcome.next (s.asBusRead ⟨m, a, 4, false⟩) = _
      rw [State.asBusRead_view hcheck hlatch htake hhead, if_pos hwords, State.readClear_word hrow htype hw hi hbuf hthaw]
    exact ⟨_, hread, rfl, State.rd_wr_self _ _, fun b hb => State.rd_wr_ne hb _, rfl, rfl, rfl⟩
  · intro hcheck hlatch htake hhead hwords
    show Host.Outcome.next (s.asBusRead ⟨m, a, 4, false⟩) = _
    rw [State.asBusRead_view hcheck hlatch htake hhead, if_neg hwords]
  · intro x v h
    refine ⟨_, rfl, ?_⟩
    rw [exec_bcauseClear h, State.bcauseClear, BitVec.ofNat_toNat, BitVec.setWidth_eq]
  · intro x v h
    rw [exec_bcauseSet h]
    rfl
  · intro x r b h hr hb
    subst hr hb
    refine ⟨fun u hu => ?_, fun u hu => ?_⟩
    · subst hu
      exact ⟨s.blkHeld_cpStore_hold _ _, by rw [exec_bresetHold h, State.bresetWrite_hold]⟩
    · rw [exec_bresetRelease h, State.bresetWrite_release hu]
  · intro h
    refine ⟨?_, fun v hv hne => ?_, fun q hq => ?_⟩
    · rw [exec_chipResetWrite_pair h (by decide), if_pos rfl]
    · rw [exec_chipResetWrite_pair h hv, if_neg hne]
    · rw [exec_chipResetWrite, State.asCpWrite_broken h hq]

end Sys2Proof.Machine
end

section
/-! PROOF. Writes of a time domain's registers (R28, R30, R31, R34 to R36): what each stores, and what it does to the domain at once. -/

namespace Sys2Proof.Machine

open R

variable {s : State} {m : Master} {d : Dom} {v : Word}

/-! ## Bit fields below a bit that is set -/

/-- A low field that ends at or below a bit keeps its value when the bit is set. -/
theorem natField_setBit_low {n k w : Nat} (h : w ≤ k) : natField (natSetField n k 1 1) 0 w = natField n 0 w := by
  cases hk : natBit n k with
  | true => rw [natSetBit_self hk]
  | false =>
    rw [natSetBit_new hk]
    obtain ⟨e, rfl⟩ := Nat.exists_eq_add_of_le h
    simp only [natField, Nat.pow_zero, Nat.div_one, Nat.pow_add, Nat.add_mul_mod_self_left]

theorem natBit_setOne_self (n k : Nat) : natBit (natSetField n k 1 1) k = true := by simp [natBit_setOne]

/-! ## TIME_DOM_INCR_FRAC (R28) -/

/-- A whole pair that passes the checks reaches the base increment (R101). -/
theorem exec_incrFracWrite_pair {w : Nat} (h : s.mayWriteCp m (domA d TIME_DOM_INCR_FRAC)) (hw : w < 2 ^ 32) :
    exec (.incrFracWrite m d (pairOf 0xFFFFFFFF w)) s = .next (s.incrFrac d w) :=
  congrArg Host.Outcome.next (State.asCpWrite_ok h hw (by decide) (and_mask32 hw))

theorem exec_incrFracWrite_broken {q : BitVec 64} (h : s.mayWriteCp m (domA d TIME_DOM_INCR_FRAC))
    (hq : cpWhole 0xFFFFFFFF (q.toNat % 2 ^ 32) (q.toNat / 2 ^ 32) = false) :
    exec (.incrFracWrite m d q) s = .next (s.cpRefused (some m) (domA d TIME_DOM_INCR_FRAC)) :=
  congrArg Host.Outcome.next (State.asCpWrite_broken h hq)

/-- A base within 1,000 ppm is stored and put in force. -/
theorem State.incrFrac_inRange {w : Nat} (h : baseInRange ((s.cpCheck 0xFF (domA d TIME_DOM_INCR_INT)).newBase d w) = true) :
    s.incrFrac d w = ((s.cpCheck 0xFF (domA d TIME_DOM_INCR_INT)).cpStore 0xFFFFFFFF (domA d TIME_DOM_INCR_FRAC) w).setDom d
      { (s.cpCheck 0xFF (domA d TIME_DOM_INCR_INT)).dom d with base := (s.cpCheck 0xFF (domA d TIME_DOM_INCR_INT)).newBase d w } :=
  if_pos h

/-- A base beyond 1,000 ppm only raises INCR_REFUSED. -/
theorem State.incrFrac_outOfRange {w : Nat} (h : baseInRange ((s.cpCheck 0xFF (domA d TIME_DOM_INCR_INT)).newBase d w) = false) :
    s.incrFrac d w = (s.cpCheck 0xFF (domA d TIME_DOM_INCR_INT)).raise 1 (domBlock d) 4 :=
  if_neg (by simp [h])

/-! ## TIME_DOM_OFS_HI (R30) -/

theorem exec_firmwareOffsetPush (h : s.mayWrite m (domA d TIME_DOM_OFS_HI)) :
    exec (.firmwareOffsetPush m d v) s = .next (s.ofsHi d v) :=
  congrArg Host.Outcome.next (State.asWrite_ok h)

theorem State.pushOffset_room {theta : Int} (h : (s.dom d).fifo.length < 16) :
    s.pushOffset d theta = s.setDom d { s.dom d with fifo := (s.dom d).fifo ++ [theta] } :=
  if_neg (Nat.not_le.2 h)

theorem State.pushOffset_full {theta : Int} (h : 16 ≤ (s.dom d).fifo.length) :
    s.pushOffset d theta = (s.bump (domA d TIME_DOM_CNT_REJ)).raise 1 (domBlock d) 3 :=
  if_pos h

/-! ## TIME_DOM_MODE (R31, R34) -/

theorem exec_modeFree (h : s.mayWrite m (domA d TIME_DOM_MODE)) :
    exec (.modeFree m d v) s = .next (s.domModeWrite d (natSetField v.toNat 0 2 0)) :=
  congrArg Host.Outcome.next (State.asWrite_ok h)

theorem exec_modeServo (h : s.mayWrite m (domA d TIME_DOM_MODE)) :
    exec (.modeServo m d v) s = .next (s.domModeWrite d (natSetField v.toNat 0 2 1)) :=
  congrArg Host.Outcome.next (State.asWrite_ok h)

theorem exec_modeForceSnow (h : s.mayWrite m (domA d TIME_DOM_MODE)) :
    exec (.modeForceSnow m d v) s = .next (s.domModeWrite d (natSetField v.toNat 0 2 2)) :=
  congrArg Host.Outcome.next (State.asWrite_ok h)

/-- What MODE = `k` does to the domain once the register's fields are stored (R31, R34). -/
def State.modeCmd (s : State) (d : Dom) (k : Nat) : State :=
  match k with
  | 0 => s.setDom d { (s.dom d).dropLock with freeNext := true }
  | 2 => (s.setDom d { (s.dom d).dropLock with freeNext := false }).enterSnow d 0
  | _ => s

/-- The word a MODE write with mode `k` stores: an undefined SRC leaves the stored one (R31). -/
def State.modeWord (s : State) (d : Dom) (v k : Nat) : Word :=
  BitVec.ofNat 32 (k + (if 3 < natField v 2 3 then s.domSrc d else natField v 2 3) * 4 + natField v 5 2 * 32 + natField v 16 10 * 65536)

/-- A write of a defined mode stores the fields and then acts. -/
theorem State.domModeWrite_eq_modeCmd (s : State) (d : Dom) (v : Nat) {k : Nat} (hk : k < 3) :
    s.domModeWrite d (natSetField v 0 2 k) = (s.wr (domA d TIME_DOM_MODE) (s.modeWord d v k)).modeCmd d k := by
  have hmode : natField (natSetField v 0 2 k) 0 2 = k := natField_setField_low_self (by omega)
  unfold State.domModeWrite
  simp only [hmode, natField_setField_low _ (show 2 ≤ 2 by decide), natField_setField_low _ (show 2 ≤ 5 by decide),
    natField_setField_low _ (show 2 ≤ 16 by decide), if_neg (show ¬k = 3 by omega)]
  rfl

/-- Snowplough is entered with the given target, and SNOW_ENTER is raised where the domain was not there yet (R33). -/
theorem State.enterSnow_eq_raiseIf (s : State) (d : Dom) (target : Int) :
    s.enterSnow d target = (s.setDom d { s.dom d with state := .snow, iHold := (s.dom d).iTerm, target := target }).raiseIf
      (decide ((s.dom d).state ≠ .snow)) 1 (domBlock d) 0 := by
  unfold State.enterSnow State.raiseIf
  by_cases h : (s.dom d).state = .snow
  · simp [h]
  · simp [h, State.domRaise]

/-! ## TIME_DOM_VALID (R35) -/

theorem exec_validDeclare (h : s.mayWrite m (domA d TIME_DOM_VALID)) :
    exec (.validDeclare m d v) s = .next (s.domValidWrite d (natSetField v.toNat 31 1 1)) :=
  congrArg Host.Outcome.next (State.asWrite_ok h)

/-- With DECLARE the window and the count are stored and the domain becomes VALID. -/
theorem State.domValidWrite_declare (s : State) (d : Dom) (v : Nat) :
    s.domValidWrite d (natSetField v 31 1 1) = (s.wr (domA d TIME_DOM_VALID) (BitVec.ofNat 32 (natField v 0 24))).setValid d := by
  unfold State.domValidWrite
  rw [natField_setBit_low (by decide), if_pos (natBit_setOne_self v 31)]

theorem State.setValid_of_not_valid (h : (s.dom d).valid = false) :
    s.setValid d = ((s.setDom d { s.dom d with valid := true }).raise 1 (domBlock d) 2).checkWtValid :=
  if_neg (by simp [h])

theorem State.setValid_of_valid (h : (s.dom d).valid = true) : s.setValid d = s.checkWtValid := if_pos h

/-! ## TIME_DOM_STEP_HI and TIME_DOM_SETSEC_HI (R36) -/

/-- A step joins the one that waits, whose LOCK stays with it. -/
theorem Domain.addStep_unlocked (x : Domain) (theta : Int) : x.addStep theta false = { x with
    stepNext := match x.stepNext with
      | none => some (theta, false)
      | some (q, lock) => some (q + theta, lock) } := by
  unfold Domain.addStep
  cases x.stepNext with
  | none => rfl
  | some p => simp

theorem exec_domStep (h : s.mayWrite m (domA d TIME_DOM_STEP_HI)) : exec (.domStep m d v) s = .next (s.stepHi d v) :=
  congrArg Host.Outcome.next (State.asWrite_ok h)

theorem exec_setsecArm (h : s.mayWrite m (domA d TIME_DOM_SETSEC_HI)) :
    exec (.setsecArm m d v) s = .next (s.setsecHi d (natSetField v.toNat 31 1 1)) :=
  congrArg Host.Outcome.next (State.asWrite_ok h)

/-- With ARM the upper seconds are stored and the load is armed, never for a rollover of this tick. -/
theorem State.setsecHi_arm (s : State) (d : Dom) (v : Nat) : s.setsecHi d (natSetField v 31 1 1) =
    (s.wr (domA d TIME_DOM_SETSEC_HI) (BitVec.ofNat 32 (natField v 0 16))).setDom d { s.dom d with
      secArm := some (natField v 0 16 * 2 ^ 32 + (s.rd (domA d TIME_DOM_SETSEC_LO)).toNat), rolled := false } := by
  have hlo : domA d TIME_DOM_SETSEC_LO ≠ domA d TIME_DOM_SETSEC_HI := by cases d <;> decide
  unfold State.setsecHi
  simp only [natField_setBit_low (show 16 ≤ 31 by decide), natBit_setOne_self, if_true, State.rd_wr_ne hlo, State.wr_dom]

/-- Settles O8: each register's write by the lemma about it. -/
theorem timeDomainWritesTakeEffect : Obligations.TimeDomainWritesTakeEffect := by
  intro s m d v _
  refine ⟨fun h => ⟨_, rfl, fun w hw hin => ?_, fun w hw hout => ?_, fun q hq => exec_incrFracWrite_broken h hq⟩,
    fun h => ⟨fun hsrc hroom => ?_, fun hsrc hfull => ?_, fun hsrc => ?_⟩, fun h w x hw hx => ⟨?_, ?_, ?_⟩,
    fun h => ⟨_, rfl, fun hnot => ?_, fun hvalid => ?_⟩, fun h theta htheta => ?_, fun h => ?_⟩
  · rw [exec_incrFracWrite_pair h hw, State.incrFrac_inRange hin]
  · rw [exec_incrFracWrite_pair h hw, State.incrFrac_outOfRange hout]
  · rw [exec_firmwareOffsetPush h, State.ofsHi, if_pos hsrc, State.pushOffset_room hroom]
  · rw [exec_firmwareOffsetPush h, State.ofsHi, if_pos hsrc, State.pushOffset_full hfull]
  · rw [exec_firmwareOffsetPush h, State.ofsHi, if_neg hsrc]
  · rw [exec_modeFree h, State.domModeWrite_eq_modeCmd _ _ _ (by decide), hw, hx]
    rfl
  · rw [exec_modeServo h, State.domModeWrite_eq_modeCmd _ _ _ (by decide), hw]
    rfl
  · rw [exec_modeForceSnow h, State.domModeWrite_eq_modeCmd _ _ _ (by decide), hw, hx, State.modeCmd, State.enterSnow_eq_raiseIf,
      State.setDom_setDom, State.dom_setDom]
    rfl
  · rw [exec_validDeclare h, State.domValidWrite_declare, State.setValid_of_not_valid (by exact hnot)]
    rfl
  · rw [exec_validDeclare h, State.domValidWrite_declare, State.setValid_of_valid (by exact hvalid)]
  · subst htheta
    exact (exec_domStep h).trans (congrArg (fun x => Host.Outcome.next (s.setDom d x)) (Domain.addStep_unlocked _ _))
  · rw [exec_setsecArm h, State.setsecHi_arm]

end Sys2Proof.Machine
end

section
/-! PROOF. Ticks, servo offsets, timeouts, reference holds and seconds loads of the time domains (R27, R31, R33, R34, R36, R37). -/

namespace Sys2Proof.Machine

open R

/-! ## What a tick leaves as it was -/

/-- Nothing but time, what leaves the device, registers, the control surface and the bases of the per-second counts differs, and no tick
has passed. -/
def ClockFrame (s t : State) : Prop :=
  ∃ x l f o, x.ticks = s.time.ticks ∧ CtlOnly { s with time := x, line := l, fab := f, out := o } t

section
variable {s t u : State}

theorem ClockFrame.of_time (x : TimeSt) (h : x.ticks = s.time.ticks) : ClockFrame s { s with time := x } :=
  ⟨x, s.line, s.fab, s.out, h, CtlOnly.refl _⟩

theorem ClockFrame.trans (h : ClockFrame s t) (g : ClockFrame t u) : ClockFrame s u := by
  obtain ⟨x, l, f, o, hx, r, c, rfl⟩ := h
  obtain ⟨y, l', f', o', hy, r', c', rfl⟩ := g
  exact ⟨y, l', f', o', hy.trans hx, r', c', rfl⟩

theorem ClockFrame.same (h : ClockFrame s t) : t.time.ticks = s.time.ticks ∧ t.tabs = s.tabs ∧ t.hbm = s.hbm ∧ t.flash = s.flash ∧
    t.boot = s.boot ∧ t.pipes = s.pipes ∧ t.que = s.que := by
  obtain ⟨x, l, f, o, hx, r, c, rfl⟩ := h
  exact ⟨hx, rfl, rfl, rfl, rfl, rfl, rfl⟩

theorem ClockFrame.boot (h : ClockFrame s t) : t.boot = s.boot := by
  obtain ⟨_, _, _, _, hboot, _⟩ := h.same
  exact hboot
end

/-- Registers that no raised cause writes: outside the processor regions, no BCAUSE. -/
def PlainReg (a : Nat) : Prop := a % 0x4000 ≠ 8 ∧ a / 0x100000 < 9

/-- The plain registers read as before. -/
def PlainKept (s t : State) : Prop := ∀ a, PlainReg a → t.rd a = s.rd a

theorem PlainKept.of_regs {s t : State} (h : t.regs = s.regs) : PlainKept s t := fun a _ => State.rd_congr h a

theorem PlainKept.trans {s t u : State} (h : PlainKept s t) (g : PlainKept t u) : PlainKept s u :=
  fun a ha => (g a ha).trans (h a ha)

theorem State.raise_plainKept (s : State) (r b k : Nat) : PlainKept s (s.raise r b k) := fun _ ha => State.rd_raise ha.1 (.inl ha.2) r b k

theorem PinsOnly.regs {s t : State} (h : PinsOnly s t) : t.regs = s.regs := by
  obtain ⟨_, _, _, _, rfl⟩ := h
  rfl

theorem State.checkWtValid_plainKept (s : State) : PlainKept s s.checkWtValid := by
  unfold State.checkWtValid
  split
  · refine PlainKept.trans (.of_regs ?_) (State.raise_plainKept _ _ _ _)
    exact (State.ppsSyncAll_pins _).regs.trans (State.ppsArmAll_pins _).regs
  · exact .of_regs rfl

theorem State.checkValid_plainKept (s : State) (d : Dom) : PlainKept s (s.checkValid d) := by
  unfold State.checkValid State.setValid
  split
  · split
    · exact s.checkWtValid_plainKept
    · exact (State.raise_plainKept (s.setDom d { s.dom d with valid := true }) _ _ _).trans (State.checkWtValid_plainKept _)
  · exact .of_regs rfl

/-! ## Looking at validity touches nothing else of a domain -/

theorem CtlOnly.dom {s t : State} (h : CtlOnly s t) (e : Dom) : t.dom e = s.dom e := by
  obtain ⟨_, _, rfl⟩ := h
  rfl

theorem State.checkWtValid_dom (s : State) (e : Dom) : s.checkWtValid.dom e = s.dom e := by
  obtain ⟨_, _, _, _, _, hcobalt, humber, hctl⟩ := s.checkWtValid_frame
  rw [hctl.dom e]
  cases e
  · exact hcobalt
  · exact humber

theorem State.checkWtValid_clockFrame (s : State) : ClockFrame s s.checkWtValid := by
  obtain ⟨x, l, f, o, hticks, _, _, hctl⟩ := s.checkWtValid_frame
  exact ⟨x, l, f, o, hticks, hctl⟩

theorem State.checkValid_dom (s : State) (d : Dom) : ∃ v, (s.checkValid d).dom d = { s.dom d with valid := v } := by
  obtain ⟨_, _, _, _, _, ⟨v, hd⟩, _, hctl⟩ := s.checkValid_frame d
  exact ⟨v, (hctl.dom d).trans hd⟩

theorem State.checkValid_dom_ne (s : State) {d e : Dom} (h : e ≠ d) : (s.checkValid d).dom e = s.dom e := by
  obtain ⟨_, _, _, _, _, _, hne, hctl⟩ := s.checkValid_frame d
  exact (hctl.dom e).trans (hne e h)

theorem State.checkValid_clockFrame (s : State) (d : Dom) : ClockFrame s (s.checkValid d) := by
  obtain ⟨x, l, f, o, hticks, _, _, hctl⟩ := s.checkValid_frame d
  exact ⟨x, l, f, o, hticks, hctl⟩

/-! ## A jump of a domain (R36) -/

theorem State.ppsFollow_next (s : State) (d : Dom) (n : Nat) :
    ∃ l, s.ppsFollow d n = { s with time := { s.time with ppsNext := l } } := by
  unfold State.ppsFollow
  dsimp only
  split
  · exact ⟨_, rfl⟩
  · exact ⟨s.time.ppsNext, rfl⟩

theorem State.ppsFollowAll_next (s : State) (d : Dom) : ∃ l, s.ppsFollowAll d = { s with time := { s.time with ppsNext := l } } := by
  unfold State.ppsFollowAll
  obtain ⟨l0, h0⟩ := s.ppsFollow_next d 0
  obtain ⟨l1, h1⟩ := (s.ppsFollow d 0).ppsFollow_next d 1
  obtain ⟨l2, h2⟩ := ((s.ppsFollow d 0).ppsFollow d 1).ppsFollow_next d 2
  obtain ⟨l3, h3⟩ := (((s.ppsFollow d 0).ppsFollow d 1).ppsFollow d 2).ppsFollow_next d 3
  exact ⟨l3, by rw [h3, h2, h1, h0]⟩

/-- A remainder modulo 2^48 s is a time value. -/
theorem toNat_mod_tvMod (v : Int) : ((v % tvMod).toNat : Int) = v % tvMod := Int.toNat_of_nonneg (Int.emod_nonneg _ (Int.ne_of_gt tvMod_pos))

/-- The domain after a jump: its value moves, and its stamps of PPS edges with it (R36, R59). -/
def Domain.jumped (x : Domain) (delta : Int) : Domain :=
  { x with value := (((x.value : Int) + delta) % tvMod).toNat, ppsEdge := x.ppsEdge.map (Option.map (· + delta)) }

/-- The continuity offset takes the opposite of a jump of the active domain (R36). -/
def State.jumpCont (s : State) (d : Dom) (delta : Int) : Int :=
  if s.time.wtValid && s.time.active == d then s.time.cont - delta else s.time.cont

/-- A jump changes the domain, the continuity offset and the seconds the PPS outputs mark next. -/
theorem State.jumpDom_eq (s : State) (d : Dom) (delta : Int) : ∃ l, s.jumpDom d delta =
    { s with time := { s.time.setDom d ((s.dom d).jumped delta) with cont := s.jumpCont d delta, ppsNext := l } } := by
  obtain ⟨l, hl⟩ := State.ppsFollowAll_next
    { s with time := { s.time.setDom d ((s.dom d).jumped delta) with cont := s.jumpCont d delta } } d
  refine ⟨l, Eq.trans (congrArg (State.ppsFollowAll · d) ?_) hl⟩
  simp only [State.setDom_wtValid, State.setDom_active, State.jumpCont]
  split
  · cases d <;> rfl
  · cases d <;> rfl

theorem State.jumpDom_dom (s : State) (d : Dom) (delta : Int) : (s.jumpDom d delta).dom d = (s.dom d).jumped delta := by
  obtain ⟨l, h⟩ := s.jumpDom_eq d delta
  rw [h]
  cases d <;> rfl

theorem State.jumpDom_dom_ne (s : State) {d e : Dom} (he : e ≠ d) (delta : Int) : (s.jumpDom d delta).dom e = s.dom e := by
  obtain ⟨l, h⟩ := s.jumpDom_eq d delta
  rw [h]
  exact State.dom_setDom_ne s he _

/-- Only time differs, and no tick has passed. -/
def TimeOnly (s t : State) : Prop := ∃ x : TimeSt, x.ticks = s.time.ticks ∧ t = { s with time := x }

theorem TimeOnly.trans {s t u : State} (h : TimeOnly s t) (g : TimeOnly t u) : TimeOnly s u := by
  obtain ⟨x, hx, rfl⟩ := h
  obtain ⟨y, hy, rfl⟩ := g
  exact ⟨y, hy.trans hx, rfl⟩

theorem State.setDom_timeOnly (s : State) (d : Dom) (x : Domain) : TimeOnly s (s.setDom d x) := ⟨_, s.setDom_ticks d x, rfl⟩

theorem State.jumpDom_timeOnly (s : State) (d : Dom) (delta : Int) : TimeOnly s (s.jumpDom d delta) := by
  obtain ⟨l, h⟩ := s.jumpDom_eq d delta
  refine ⟨_, ?_, h⟩
  exact s.setDom_ticks d _

/-! ## A domain's tick (R27, R33, R36) -/

/-- The frequency word a domain adds on a tick (R27, R33). -/
def State.tickFreq (s : State) (d : Dom) : Int :=
  match (s.dom d).state with
  | .free => 0
  | .lock => (s.dom d).freq
  | .snow => (snowStep (s.dom d).iHold (s.dom d).target (s.flim d) (rateLsb (s.domF d TIME_DOM_SNOW 0 18) (s.dom d).base)).1

/-- The step that waits for a tick moves the domain, and LOCK may come with it (R31, R36). -/
def State.takeStep (s : State) (d : Dom) : Option (Int × Bool) → State
  | none => s
  | some (delta, false) => s.jumpDom d delta
  | some (delta, true) => (s.jumpDom d delta).setDom d { (s.jumpDom d delta).dom d with state := .lock, iTerm := 0, freq := 0 }

/-- The length of the step that waits. -/
def stepDelta : Option (Int × Bool) → Int
  | none => 0
  | some p => p.1

/-- A tick of a running TIME increments the domain, takes the step that waits and looks at the domain's validity. -/
theorem State.tickDom_eq {s : State} {d : Dom} (hrun : s.rgnRuns 1 = true) (hfree : (s.dom d).freeNext = false) :
    ∃ x : Domain, s.tickDom d = ((s.setDom d x).takeStep d (s.dom d).stepNext).checkValid d ∧
      (x.value : Int) = ((s.dom d).value + (s.dom d).base + s.tickFreq d) % tvMod ∧ x.base = (s.dom d).base ∧ x.stepNext = none := by
  unfold State.tickDom State.tickFreq
  simp only [hrun, hfree, Bool.and_false, Bool.false_eq_true, if_false, if_true, Bool.not_true]
  cases (s.dom d).state
  all_goals
    dsimp only
    rcases (s.dom d).stepNext with _ | ⟨delta, _ | _⟩
    all_goals exact ⟨_, rfl, by simp only [toNat_mod_tvMod], rfl, rfl⟩

/-- `y` is the domain `x` after a tick that adds `f`: base increment, frequency word and step, and no step waits. -/
def Domain.TickedBy (x y : Domain) (f : Int) : Prop :=
  (y.value : Int) = ((x.value + x.base + f) % tvMod + stepDelta x.stepNext) % tvMod ∧ y.base = x.base ∧ y.stepNext = none

theorem Domain.jumped_value (x : Domain) (delta : Int) : ((x.jumped delta).value : Int) = (x.value + delta) % tvMod :=
  toNat_mod_tvMod _

theorem Domain.jumped_to (x : Domain) {v : Nat} (hv : (v : Int) < tvMod) : (x.jumped ((v : Int) - x.value)).value = v := by
  have h := x.jumped_value ((v : Int) - x.value)
  rw [Int.add_comm, Int.sub_add_cancel, Int.emod_eq_of_lt (Int.natCast_nonneg v) hv] at h
  exact Int.natCast_inj.1 h

theorem State.takeStep_timeOnly (s : State) (d : Dom) (p : Option (Int × Bool)) : TimeOnly s (s.takeStep d p) := by
  rcases p with _ | ⟨delta, _ | _⟩
  · exact ⟨s.time, rfl, rfl⟩
  · exact s.jumpDom_timeOnly d delta
  · exact (s.jumpDom_timeOnly d delta).trans (State.setDom_timeOnly _ d _)

theorem State.takeStep_dom_ne (s : State) {d e : Dom} (he : e ≠ d) (p : Option (Int × Bool)) : (s.takeStep d p).dom e = s.dom e := by
  rcases p with _ | ⟨delta, _ | _⟩
  · rfl
  · exact s.jumpDom_dom_ne he delta
  · exact (State.dom_setDom_ne _ he _).trans (s.jumpDom_dom_ne he delta)

/-- A step moves the value and leaves the base increment and what waits. -/
theorem State.takeStep_dom (s : State) (d : Dom) (p : Option (Int × Bool)) (hmod : ((s.dom d).value : Int) < tvMod) :
    (((s.takeStep d p).dom d).value : Int) = ((s.dom d).value + stepDelta p) % tvMod ∧
    ((s.takeStep d p).dom d).base = (s.dom d).base ∧ ((s.takeStep d p).dom d).stepNext = (s.dom d).stepNext := by
  rcases p with _ | ⟨delta, _ | _⟩
  · refine ⟨?_, rfl, rfl⟩
    rw [stepDelta, Int.add_zero, Int.emod_eq_of_lt (Int.natCast_nonneg _) hmod]
    rfl
  · rw [State.takeStep, State.jumpDom_dom]
    exact ⟨(s.dom d).jumped_value delta, rfl, rfl⟩
  · rw [State.takeStep, State.dom_setDom, State.jumpDom_dom]
    exact ⟨(s.dom d).jumped_value delta, rfl, rfl⟩

section
variable {s : State} {d : Dom} (hrun : s.rgnRuns 1 = true) (hfree : (s.dom d).freeNext = false)
include hrun hfree

theorem State.tickDom_ticked : (s.dom d).TickedBy ((s.tickDom d).dom d) (s.tickFreq d) := by
  obtain ⟨x, heq, hvalue, hbase, hstep⟩ := State.tickDom_eq hrun hfree
  obtain ⟨v, hv⟩ := ((s.setDom d x).takeStep d (s.dom d).stepNext).checkValid_dom d
  have hmod : (((s.setDom d x).dom d).value : Int) < tvMod := by
    rw [State.dom_setDom, hvalue]
    exact Int.emod_lt_of_pos _ tvMod_pos
  obtain ⟨hval, hb, hs⟩ := (s.setDom d x).takeStep_dom d (s.dom d).stepNext hmod
  rw [State.dom_setDom] at hval hb hs
  rw [heq, hv]
  exact ⟨hval.trans (by rw [hvalue]), hb.trans hbase, hs.trans hstep⟩

theorem State.tickDom_dom_ne {e : Dom} (he : e ≠ d) : (s.tickDom d).dom e = s.dom e := by
  obtain ⟨x, heq, _⟩ := State.tickDom_eq hrun hfree
  rw [heq, State.checkValid_dom_ne _ he, State.takeStep_dom_ne _ he, State.dom_setDom_ne _ he]

theorem State.tickDom_frames : ClockFrame s (s.tickDom d) ∧ PlainKept s (s.tickDom d) := by
  obtain ⟨x, heq, _⟩ := State.tickDom_eq hrun hfree
  obtain ⟨time, hticks, htime⟩ := (s.setDom_timeOnly d x).trans ((s.setDom d x).takeStep_timeOnly d (s.dom d).stepNext)
  rw [heq, htime]
  exact ⟨(ClockFrame.of_time time hticks).trans (State.checkValid_clockFrame _ d), State.checkValid_plainKept _ d⟩
end

/-! ## What a domain's tick reads of the registers -/

theorem domA_plainReg (d : Dom) {off : Nat} (h8 : off ≠ 8) (h : off < 0x4000) : PlainReg (domA d off) := by
  unfold PlainReg domA regAddr
  cases d
  all_goals
    simp only [domBlock]
    omega

theorem PlainKept.domF {s t : State} (h : PlainKept s t) (d : Dom) {off : Nat} (h8 : off ≠ 8) (hoff : off < 0x4000) (lo w : Nat) :
    t.domF d off lo w = s.domF d off lo w := by
  unfold State.domF State.fld
  rw [h _ (domA_plainReg d h8 hoff)]

theorem PlainKept.tickFreq {s t : State} (h : PlainKept s t) {d : Dom} (hd : t.dom d = s.dom d) : t.tickFreq d = s.tickFreq d := by
  unfold State.tickFreq State.flim
  rw [hd, h.domF d (by decide) (by decide), h.domF d (by decide) (by decide)]

/-- Whether TIME runs is read from a plain register and from what is out of reset. -/
theorem PlainKept.rgnRuns_time {s t : State} (h : PlainKept s t) (hboot : t.boot = s.boot) : t.rgnRuns 1 = s.rgnRuns 1 := by
  unfold State.rgnRuns State.live State.rgnState State.fld
  rw [hboot, h (rgnStatA 1) (by unfold PlainReg; decide)]

/-! ## The whole tick (R27, R37, R38) -/

theorem exec_clockTick_live {s u : State} (hoff : s.boot.dev ≠ .off) (hreset : s.boot.dev ≠ .reset)
    (hu : u = State.stacksClock { s.arraysClock with time := { s.arraysClock.time with ticks := s.arraysClock.time.ticks + 1 } })
    (hlive : u.live 1 = true) : exec .clockTick s = .next ((u.tickDom .cobalt).tickDom .umber).tickCont.tickRef.checkWtValid := by
  subst hu
  show execClockTick s = _
  unfold execClockTick
  rw [if_neg (not_or.2 ⟨hoff, hreset⟩)]
  exact if_pos hlive

/-- With nothing waiting at the arrays and the controllers, the clock only counts. -/
theorem State.stacksClock_idle {s : State} (harr : s.asc = []) (hmem : s.mem.each = []) :
    State.stacksClock { s.arraysClock with time := { s.arraysClock.time with ticks := s.arraysClock.time.ticks + 1 } } =
      { s with time := { s.time with ticks := s.time.ticks + 1 } } := by
  have harrays : s.arraysClock = s := by rw [State.arraysClock, harr]; rfl
  rw [harrays, State.stacksClock, hmem]
  rfl

theorem State.tickCont_dom (s : State) (e : Dom) : s.tickCont.dom e = s.dom e := by
  obtain ⟨c, h⟩ := s.tickCont_frame
  rw [h.dom e]
  cases e <;> rfl

theorem State.tickRef_dom (s : State) (e : Dom) : s.tickRef.dom e = s.dom e := by
  obtain ⟨r, h⟩ := s.tickRef_frame
  rw [h]
  cases e <;> rfl

theorem State.tickCont_clockFrame (s : State) : ClockFrame s s.tickCont := by
  obtain ⟨c, h⟩ := s.tickCont_frame
  exact ⟨{ s.time with cont := c }, s.line, s.fab, s.out, rfl, h⟩

theorem State.tickRef_clockFrame (s : State) : ClockFrame s s.tickRef := by
  obtain ⟨r, h⟩ := s.tickRef_frame
  rw [h]
  exact ClockFrame.of_time _ rfl

section
variable {u : State} (hrun : u.rgnRuns 1 = true) (hfree : ∀ e, (u.dom e).freeNext = false)
include hrun hfree

/-- Each of the two ticks sees its own domain and its own registers as they were before the other. -/
theorem State.tickDoms_ticked : ClockFrame u ((u.tickDom .cobalt).tickDom .umber) ∧
    ∀ e, (u.dom e).TickedBy (((u.tickDom .cobalt).tickDom .umber).dom e) (u.tickFreq e) := by
  obtain ⟨hframe, hkept⟩ := State.tickDom_frames hrun (hfree .cobalt)
  have humber : (u.tickDom .cobalt).dom .umber = u.dom .umber := State.tickDom_dom_ne hrun (hfree .cobalt) (by decide)
  have hrun' : (u.tickDom .cobalt).rgnRuns 1 = true := (hkept.rgnRuns_time hframe.boot).trans hrun
  have hfree' : ((u.tickDom .cobalt).dom .umber).freeNext = false := by rw [humber, hfree]
  refine ⟨hframe.trans (State.tickDom_frames hrun' hfree').1, fun e => ?_⟩
  cases e with
  | cobalt =>
    rw [State.tickDom_dom_ne hrun' hfree' (by decide)]
    exact State.tickDom_ticked hrun (hfree .cobalt)
  | umber =>
    have hticked := State.tickDom_ticked hrun' hfree'
    rwa [humber, hkept.tickFreq humber] at hticked

/-- The decay of the continuity offset, the reference and WT_VALID change no domain. -/
theorem State.tick_ticked : ClockFrame u ((u.tickDom .cobalt).tickDom .umber).tickCont.tickRef.checkWtValid ∧
    ∀ e, (u.dom e).TickedBy (((u.tickDom .cobalt).tickDom .umber).tickCont.tickRef.checkWtValid.dom e) (u.tickFreq e) := by
  obtain ⟨hframe, hticked⟩ := State.tickDoms_ticked hrun hfree
  refine ⟨?_, fun e => ?_⟩
  · exact ((hframe.trans (State.tickCont_clockFrame _)).trans (State.tickRef_clockFrame _)).trans (State.checkWtValid_clockFrame _)
  · rw [State.checkWtValid_dom, State.tickRef_dom, State.tickCont_dom]
    exact hticked e
end

/-! ## The servo (R31 to R34) -/

theorem domA_ne (d : Dom) {a b : Nat} (h : a ≠ b) : domA d a ≠ domA d b := by
  unfold domA regAddr
  omega

theorem State.bump_setDom (s : State) (d : Dom) (x : Domain) (a : Nat) : (s.setDom d x).bump a = (s.bump a).setDom d x := by
  unfold State.bump
  by_cases h : s.ctl.snapFrozen = true
  · rw [State.setDom_ctl, if_pos h, if_pos h]
  · rw [State.setDom_ctl, if_neg h, if_neg h]
    rfl

theorem State.bump_dom (s : State) (a n : Nat) (e : Dom) : (s.bump a n).dom e = s.dom e := by
  unfold State.dom
  rw [State.bump_time]

section
variable {s : State} {d : Dom} {theta : Int}

theorem exec_servoOffset {r : List Int} (hrun : s.rgnRuns 1 = true) (h : (s.dom d).fifo = theta :: r) :
    exec (.servoOffset d) s = .next ((s.setDom d { s.dom d with fifo := r }).servoTake d theta) := by
  show execServoOffset d s = _
  unfold execServoOffset
  rw [if_pos hrun, h]

/-- The counter of accepted offsets is none of the servo's parameters. -/
theorem State.domF_accepted {off : Nat} (h : off ≠ TIME_DOM_CNT_ACC) (lo w : Nat) :
    (s.bump (domA d TIME_DOM_CNT_ACC)).domF d off lo w = s.domF d off lo w := State.domF_bump d off lo w _ 1 (domA_ne d h)

/-- Outside FREE an offset within CAPTURE is accepted (R31). -/
theorem State.servoTake_accept (hstate : (s.dom d).state ≠ .free)
    (hlo : -((s.domF d TIME_DOM_CAPTURE 0 20 : Int) * 65536) ≤ theta) (hhi : theta ≤ (s.domF d TIME_DOM_CAPTURE 0 20 : Int) * 65536) :
    s.servoTake d theta = s.servoAccept d theta := by
  unfold State.servoTake
  dsimp only
  cases h : (s.dom d).state with
  | free => exact absurd h hstate
  | lock => exact if_pos ⟨hlo, hhi⟩
  | snow => exact if_pos ⟨hlo, hhi⟩

/-- In LOCK an accepted offset updates I and F (R31, R32). -/
theorem State.servoAccept_lock (h : (s.dom d).state = .lock) :
    ∃ y : Domain, s.servoAccept d theta = ((s.bump (domA d TIME_DOM_CNT_ACC)).setDom d y).checkValid d ∧ y.fifo = (s.dom d).fifo ∧
      y.state = .lock ∧ y.lastOffset = theta ∧
      y.iTerm = clampTo ((s.dom d).iTerm + s.gain d TIME_DOM_KI theta) (s.domF d TIME_DOM_ILIM 0 20) ∧
      y.freq = clampTo (s.gain d TIME_DOM_KP theta + y.iTerm) (s.flim d) := by
  unfold State.servoAccept
  simp only [State.bump_dom, h, State.gain, State.flim, State.domF_accepted (show TIME_DOM_KI ≠ TIME_DOM_CNT_ACC by decide),
    State.domF_accepted (show TIME_DOM_KP ≠ TIME_DOM_CNT_ACC by decide),
    State.domF_accepted (show TIME_DOM_ILIM ≠ TIME_DOM_CNT_ACC by decide),
    State.domF_accepted (show TIME_DOM_FLIM ≠ TIME_DOM_CNT_ACC by decide)]
  exact ⟨_, rfl, rfl, rfl, rfl, rfl, rfl⟩

/-- An offset taken in FREE under MODE = SERVO arms its own step, which brings LOCK with it (R31). -/
theorem State.servoTake_free (hstate : (s.dom d).state = .free) (hmode : s.domMode d = 1) (hstep : (s.dom d).stepNext = none) :
    s.servoTake d theta = (s.bump (domA d TIME_DOM_CNT_ACC)).setDom d { s.dom d with
      lastOffset := theta, rejects := 0, rejected := [], exits := 0, lastAccept := s.time.ticks, tookOffset := true
      stepNext := some (theta * 65536, true) } := by
  have hmode' : (s.bump (domA d TIME_DOM_CNT_ACC)).domMode d = 1 := (State.domF_accepted (by decide) 0 2).trans hmode
  unfold State.servoTake
  simp only [hstate, hmode', if_true, State.bump_dom, State.bump_time, Domain.addStep, hstep]

theorem exec_servoOffset_free {r : List Int} (hrun : s.rgnRuns 1 = true) (hfifo : (s.dom d).fifo = theta :: r)
    (hstate : (s.dom d).state = .free) (hmode : s.domMode d = 1) (hstep : (s.dom d).stepNext = none) :
    exec (.servoOffset d) s = .next ((s.bump (domA d TIME_DOM_CNT_ACC)).setDom d { s.dom d with
      fifo := r, lastOffset := theta, rejects := 0, rejected := [], exits := 0, lastAccept := s.time.ticks, tookOffset := true
      stepNext := some (theta * 65536, true) }) := by
  have htaken := s.dom_setDom d { s.dom d with fifo := r }
  rw [exec_servoOffset hrun hfifo, State.servoTake_free ((congrArg Domain.state htaken).trans hstate) hmode
    ((congrArg Domain.stepNext htaken).trans hstep), State.bump_setDom, State.setDom_setDom, htaken, State.setDom_ticks]

/-- The state an offset within CAPTURE leaves, taken in LOCK (R31, R32). -/
theorem exec_servoOffset_lock {r : List Int} (hrun : s.rgnRuns 1 = true) (hfifo : (s.dom d).fifo = theta :: r)
    (hstate : (s.dom d).state = .lock) (hlo : -((s.domF d TIME_DOM_CAPTURE 0 20 : Int) * 65536) ≤ theta)
    (hhi : theta ≤ (s.domF d TIME_DOM_CAPTURE 0 20 : Int) * 65536) :
    ∃ y : Domain, exec (.servoOffset d) s = .next (((s.bump (domA d TIME_DOM_CNT_ACC)).setDom d y).checkValid d) ∧ y.fifo = r ∧
      y.state = .lock ∧ y.lastOffset = theta ∧
      y.iTerm = clampTo ((s.dom d).iTerm + s.gain d TIME_DOM_KI theta) (s.domF d TIME_DOM_ILIM 0 20) ∧
      y.freq = clampTo (s.gain d TIME_DOM_KP theta + y.iTerm) (s.flim d) := by
  have htaken := s.dom_setDom d { s.dom d with fifo := r }
  have hlock : ((s.setDom d { s.dom d with fifo := r }).dom d).state = .lock := (congrArg Domain.state htaken).trans hstate
  obtain ⟨y, heq, hy⟩ := State.servoAccept_lock (theta := theta) hlock
  rw [State.bump_setDom, State.setDom_setDom] at heq
  rw [htaken] at hy
  have haccept := State.servoTake_accept (s := s.setDom d { s.dom d with fifo := r }) (by rw [hlock]; decide) hlo hhi
  exact ⟨y, (exec_servoOffset hrun hfifo).trans (congrArg _ (haccept.trans heq)), hy⟩

theorem exec_servoTimeout_due (hrun : s.rgnRuns 1 = true) (hstate : (s.dom d).state = .lock)
    (hlate : s.domF d TIME_DOM_TIMEOUT 0 24 * ticksPerUs < s.time.ticks - (s.dom d).lastAccept) :
    exec (.servoTimeout d) s = .next (s.enterSnow d 0) := if_pos ⟨hrun, hstate, hlate⟩

theorem exec_refHoldUpdate_qualified {f : Int} (hrun : s.rgnRuns 1 = true) (hhold : s.domF d TIME_DOM_MODE 6 1 = 1)
    (hq : s.time.refQualified = true) (hstate : (s.dom d).state = .snow) :
    exec (.refHoldUpdate d f) s = .next (s.setDom d { s.dom d with iHold := f }) := if_pos ⟨hrun, hhold, hq, hstate⟩

/-! ## The seconds load (R36) -/

theorem exec_setsecLoad_due {sec : Nat} (harm : (s.dom d).secArm = some sec) (hrolled : (s.dom d).rolled = true) :
    exec (.setsecLoad d) s = .next (s.loadSec d sec) := by
  show execSetsecLoad d s = _
  unfold execSetsecLoad
  simp only [harm]
  exact if_pos hrolled

theorem State.wt_setDom_value {x : Domain} (h : x.value = (s.dom d).value) : (s.setDom d x).wt = s.wt := by
  unfold State.wt
  rw [State.setDom_active, State.setDom_cont]
  by_cases hd : s.time.active = d
  · rw [hd, State.dom_setDom, h]
  · rw [State.dom_setDom_ne _ hd]

/-- A jump of the active domain to a time value leaves working time where it was (R36, assumption 7). -/
theorem State.jumpDom_wt {x v : Nat} (hvalid : s.time.wtValid = true) (hactive : s.time.active = d) (hx : (s.dom d).value = x)
    (hv : (v : Int) < tvMod) : (s.jumpDom d ((v : Int) - x)).wt = s.wt := by
  subst hx
  obtain ⟨l, h⟩ := s.jumpDom_eq d ((v : Int) - (s.dom d).value)
  have hactive' : (s.jumpDom d ((v : Int) - (s.dom d).value)).time.active = d := by
    rw [h]
    exact (State.setDom_active s d _).trans hactive
  have hcont : (s.jumpDom d ((v : Int) - (s.dom d).value)).time.cont = s.time.cont - ((v : Int) - (s.dom d).value) := by
    rw [h]
    exact if_pos (by simp [hvalid, hactive])
  unfold State.wt
  rw [hactive', hcont, hactive, State.jumpDom_dom, Domain.jumped_to _ hv]
  congr 1
  omega

/-- The loaded seconds with the kept NS and FRAC are a time value. -/
theorem loadedValue_lt_tvMod {sec : Nat} (h : sec < 2 ^ 48) (v : Nat) : ((sec * lsbSec + v % lsbSec : Nat) : Int) < tvMod := by
  have hfrac : v % lsbSec < lsbSec := Nat.mod_lt _ (by decide)
  have hsec : (sec + 1) * lsbSec ≤ 2 ^ 48 * lsbSec := Nat.mul_le_mul_right _ h
  exact Int.ofNat_lt.2 (by rw [Nat.succ_mul] at hsec; omega)

/-- A seconds load replaces SEC, disarms itself, and moves nothing else but the continuity offset (R36). -/
theorem State.loadSec_dom (s : State) (d : Dom) {sec : Nat} (h : sec < 2 ^ 48) :
    ((s.loadSec d sec).dom d).value = sec * lsbSec + (s.dom d).value % lsbSec ∧ ((s.loadSec d sec).dom d).secArm = none ∧
    ((s.loadSec d sec).dom d).secLoaded = true := by
  unfold State.loadSec
  dsimp only
  rw [State.jumpDom_dom, State.dom_setDom]
  exact ⟨Domain.jumped_to { s.dom d with secArm := none, secLoaded := true } (loadedValue_lt_tvMod h _), rfl, rfl⟩

theorem State.loadSec_dom_ne (s : State) {d e : Dom} (he : e ≠ d) (sec : Nat) : (s.loadSec d sec).dom e = s.dom e :=
  (State.jumpDom_dom_ne _ he _).trans (s.dom_setDom_ne he _)

theorem State.loadSec_timeOnly (s : State) (d : Dom) (sec : Nat) : TimeOnly s (s.loadSec d sec) :=
  (s.setDom_timeOnly d _).trans (State.jumpDom_timeOnly _ d _)

theorem State.loadSec_wt {sec : Nat} (hsec : sec < 2 ^ 48) (hvalid : s.time.wtValid = true) (hactive : s.time.active = d) :
    (s.loadSec d sec).wt = s.wt := by
  have hkept := State.wt_setDom_value (s := s) (d := d) (x := { s.dom d with secArm := none, secLoaded := true }) rfl
  refine Eq.trans (State.jumpDom_wt ?_ ?_ ?_ (loadedValue_lt_tvMod hsec _)) hkept
  · exact (s.setDom_wtValid d _).trans hvalid
  · exact (s.setDom_active d _).trans hactive
  · rw [State.dom_setDom]

end

/-- Settles O10: the tick by `tick_ticked`, the servo by `exec_servoOffset_lock` and `exec_servoOffset_free`, the seconds load by
`loadSec_dom` and `loadSec_wt`. -/
theorem domainsTickServoAndLoadSeconds : Obligations.DomainsTickServoAndLoadSeconds := by
  intro s d _ hoff hreset hlive hrun
  refine ⟨fun u hu => ⟨fun harr hmem => hu.trans (State.stacksClock_idle harr hmem), fun hlive' hrun' hfree => ?_⟩,
    fun theta r hfifo hstate hlo hhi => ?_, fun theta r hfifo hstate hmode hstep => exec_servoOffset_free hrun hfifo hstate hmode hstep,
    fun hstate hlate => ?_, fun f hhold hq hstate => exec_refHoldUpdate_qualified hrun hhold hq hstate, fun sec harm hrolled hsec => ?_⟩
  · obtain ⟨hframe, hticked⟩ := State.tick_ticked hrun' hfree
    obtain ⟨hticks, htabs, hhbm, hflash, hboot, hpipes, hque⟩ := hframe.same
    exact ⟨_, exec_clockTick_live hoff hreset hu hlive', hticks, fun e => (hticked e).1, fun e => (hticked e).2, htabs, hhbm, hflash,
      hboot, hpipes, hque⟩
  · obtain ⟨y, hexec, hfifo', hstate', hofs, hiTerm, hfreq⟩ := exec_servoOffset_lock hrun hfifo hstate hlo hhi
    obtain ⟨v, hv⟩ := ((s.bump (domA d TIME_DOM_CNT_ACC)).setDom d y).checkValid_dom d
    obtain ⟨_, htabs, hhbm, hflash, _⟩ := (((s.bump (domA d TIME_DOM_CNT_ACC)).setDom d y).checkValid_clockFrame d).same
    rw [State.dom_setDom] at hv
    refine ⟨_, hexec, ?_⟩
    rw [hv]
    exact ⟨hfifo', hstate', hofs, hiTerm, hfreq, htabs.trans (s.bump_tabs _ 1), hhbm.trans (s.bump_hbm _ 1),
      hflash.trans (s.bump_flash _ 1)⟩
  · rw [exec_servoTimeout_due hrun hstate hlate, State.enterSnow_eq_raiseIf, hstate]
    rfl
  · obtain ⟨hvalue, harm', hloaded⟩ := s.loadSec_dom d hsec
    obtain ⟨x, _, htime⟩ := s.loadSec_timeOnly d sec
    refine ⟨_, exec_setsecLoad_due harm hrolled, hvalue, harm', hloaded, fun e he => s.loadSec_dom_ne he sec,
      fun hvalid hactive => State.loadSec_wt hsec hvalid hactive, ?_⟩
    rw [htime]
    exact ⟨rfl, rfl, rfl⟩

end Sys2Proof.Machine
end

section
/-! PROOF. What a step never takes back (R27, R76, R430, R474), from `exec_ends`. -/

namespace Sys2Proof.Machine

/-- A step evolves the state that its command leaves in the queue behind it; an idle step leaves a queue with nothing to remove. -/
theorem step_evolves {s t : State} (h : step s = .next t) : Evolves { s with pending := s.pending.tail } t := by
  cases hq : s.pending with
  | nil =>
    have idle : step s = .next s := by unfold step; rw [hq]
    have same : s = t := Host.Outcome.next.inj (idle.symm.trans h)
    subst same
    have untouched : { s with pending := [] } = s := by rw [← hq]
    exact untouched.symm ▸ Evolves.refl s
  | cons c rest =>
    have front : step s = exec c { s with pending := rest } := by unfold step; rw [hq]
    exact exec_ends c _ t (front.symm.trans h)

/-- Settles O5: each part is a field of `Evolves`, which every step keeps (`step_evolves`). -/
theorem stepsTakeNothingBack : Obligations.StepsTakeNothingBack := by
  intro s t h
  have kept := step_evolves h
  exact ⟨kept.pending, kept.out, kept.ticks, kept.secFuses, kept.keyRevoked, kept.h48, kept.freeCtr⟩

end Sys2Proof.Machine
end

section
/-! PROOF. Supplies and RESET_N (R68, R69, R79, R447, R499, R500): where the pins bring the device, and what a chip reset keeps. -/

namespace Sys2Proof.Machine

variable {s : State}

/-! ## Where the device stands -/

/-- With VSB33 present, RESET_N, VIN12 and the rails decide (R68, R69). -/
theorem BootSt.settled_vsbPresent {b : BootSt} (hvsb : b.vsb = true) (hpresent : b.vsbPresent = true) :
    b.settled = if b.resetN then (if b.vin12 && b.rails then .boot else .standby) else .reset := by
  unfold BootSt.settled
  cases b.resetN <;> simp [hvsb, hpresent]

theorem BootSt.settled_boot {b : BootSt} (hvsb : b.vsb = true) (hpresent : b.vsbPresent = true) (hreset : b.resetN = true)
    (hvin : b.vin12 = true) (hrails : b.rails = true) : b.settled = .boot := by
  rw [BootSt.settled_vsbPresent hvsb hpresent, if_pos hreset, hvin, hrails]
  rfl

theorem BootSt.settled_standby {b : BootSt} (hvsb : b.vsb = true) (hpresent : b.vsbPresent = true) (hreset : b.resetN = true)
    (hrails : b.rails = false) : b.settled = .standby := by
  rw [BootSt.settled_vsbPresent hvsb hpresent, if_pos hreset, hrails, Bool.and_false, if_neg Bool.false_ne_true]

theorem BootSt.settled_off {b : BootSt} (hvsb : b.vsb = false) : b.settled = .off := by
  unfold BootSt.settled
  simp [hvsb]

theorem State.settle_dev (s : State) : s.settle.boot.dev = s.boot.settled := rfl

/-! ## The chip reset -/

/-- What a chip reset leaves of `s` in `t`: registers and tables at reset, HBM lost; flash, fuses and what has left the device kept. -/
def ChipCleared (s t : State) : Prop :=
  (∀ a, t.rd a = regReset a) ∧ (∀ r b n i, t.tab r b n i = 0) ∧ t.hbm = [] ∧ t.flash = s.flash ∧ t.out = s.out ∧
  t.boot.secFuses = s.boot.secFuses ∧ t.boot.keyRevoked = s.boot.keyRevoked

theorem State.chipReset_cleared (s : State) : ChipCleared s s.chipReset :=
  ⟨fun _ => rfl, fun _ _ _ _ => rfl, rfl, rfl, rfl, rfl, rfl⟩

/-- The pins and supplies outlast a chip reset, and decide where it ends. -/
theorem State.chipReset_dev (s : State) : s.chipReset.boot.dev = s.boot.settled := rfl

/-! ## The commands -/

theorem exec_vsb33Present_off (hvsb : s.boot.vsb = true) (hfirst : s.boot.vsbPresent = false) (hoff : s.boot.dev = .off) :
    exec .vsb33Present s = .next (s.setBootSt { s.boot with vsbPresent := true }).settle := by
  show execVsb33Present s = _
  unfold execVsb33Present
  rw [hvsb, hfirst, if_pos (by decide)]
  exact congrArg _ (if_pos hoff)

theorem exec_railsInTolerance_standby (hvin : s.boot.vin12 = true) (hvsb : s.boot.vsb = true) (hpresent : s.boot.vsbPresent = true)
    (hrails : s.boot.rails = false) (hdev : s.boot.dev = .standby) (hreset : s.boot.resetN = true) :
    exec .railsInTolerance s = .next (s.setBootSt { s.boot with rails := true }).settle := by
  show execRailsInTolerance s = _
  unfold execRailsInTolerance
  rw [hvin, hvsb, hpresent, hrails, if_pos (by decide)]
  exact congrArg _ (if_pos ⟨hdev, hreset⟩)

theorem exec_resetNRise_low (hlow : s.boot.resetN = false) (hdev : s.boot.dev = .reset) :
    exec .resetNRise s = .next (s.setBootSt { s.boot with resetN := true }).settle := by
  show execResetNRise s = _
  unfold execResetNRise
  rw [hlow, if_neg (by decide)]
  exact congrArg _ (if_pos hdev)

theorem exec_resetNFall_high (hhigh : s.boot.resetN = true) :
    exec .resetNFall s = .next (s.setBootSt { s.boot with resetN := false }).chipReset := by
  show execResetNFall s = _
  unfold execResetNFall
  rw [if_pos hhigh]

theorem exec_vin12Loss_rails (hrails : s.boot.rails = true) :
    exec .vin12Loss s = .next (s.setBootSt { s.boot with vin12 := false, rails := false }).chipReset := by
  show execVin12Loss s = _
  unfold execVin12Loss
  simp only [hrails, if_true]

theorem exec_vin12Low_awake (hrails : s.boot.rails = true) (hawake : s.awake = true) :
    exec .vin12Low s = .next (s.raise 0 13 4) := by
  show execVin12Low s = _
  unfold execVin12Low State.raiseIf
  rw [if_pos hrails, if_pos hawake]

/-- Settles O13: the edges that bring the device up by `settled_vsbPresent` and `settled_boot`, the three losses by `chipReset_cleared`. -/
theorem suppliesAndResetNMoveTheDevice : Obligations.SuppliesAndResetNMoveTheDevice := by
  intro s
  refine ⟨rfl, rfl, fun hvsb hfirst hoff => ?_, fun hvin hvsb hpresent hrails hdev hreset => ?_,
    fun hlow hdev hvsb hpresent => ?_, fun hhigh hvsb hpresent => ?_, fun hrails hvsb hpresent hreset => ?_,
    exec_vin12Low_awake, ?_⟩
  · exact ⟨_, exec_vsb33Present_off hvsb hfirst hoff, rfl, (State.settle_dev _).trans (BootSt.settled_vsbPresent hvsb rfl), rfl, rfl, rfl⟩
  · exact ⟨_, exec_railsInTolerance_standby hvin hvsb hpresent hrails hdev hreset, rfl,
      (State.settle_dev _).trans (BootSt.settled_boot hvsb hpresent hreset hvin rfl), rfl, rfl⟩
  · exact ⟨_, exec_resetNRise_low hlow hdev, rfl, (State.settle_dev _).trans (BootSt.settled_vsbPresent hvsb hpresent), rfl, rfl⟩
  · exact ⟨_, exec_resetNFall_high hhigh, (State.chipReset_dev _).trans (BootSt.settled_vsbPresent hvsb hpresent),
      State.chipReset_cleared _⟩
  · obtain ⟨hregs, htabs, hhbm, hflash, hout, _⟩ :=
      State.chipReset_cleared (s.setBootSt { s.boot with vin12 := false, rails := false })
    exact ⟨_, exec_vin12Loss_rails hrails, (State.chipReset_dev _).trans (BootSt.settled_standby hvsb hpresent hreset rfl), rfl, hregs,
      htabs, hhbm, hflash, hout⟩
  · obtain ⟨hregs, htabs, hhbm, hflash, hout, _⟩ :=
      State.chipReset_cleared (s.setBootSt { s.boot with vsb := false, vsbPresent := false, rails := false })
    exact ⟨_, rfl, (State.chipReset_dev _).trans (BootSt.settled_off rfl), hregs, htabs, hhbm, hflash, hout⟩

end Sys2Proof.Machine
end

section
/-! PROOF. What arrives from the fabric: slots taken by their lane-slot (R333 to R339), and received cells checked, relayed, resequenced
and delivered (R313 to R320, R332). -/

namespace Sys2Proof.Machine

variable {s t u v : State}

/-! ## A received slot -/

/-- What a used and present lane-slot does with a slot: `h` is its header, `base` says that marker and sender are right, and `q` is the
lane-slot as the slot found it. -/
def State.slotTaken (u : State) (y : RxSlot) (h : Option SlotHeader) (base : Bool) (q : LaneSlotSt) (p : Nat) : State :=
  if q.aligned then u.alignedSlot y h base
  else match q.cand with
    | some (n, last) => u.confirmSlot y (if base then h else none) n last
    | none => match h with
      | some h =>
        let z := u.lslot y.lane.val p
        if base && !z.aligned && z.cand.isNone then u.searchSlot y h p else u
      | none => u

section
variable {y : RxSlot} {h : Option SlotHeader} {base : Bool} {q : LaneSlotSt} {p : Nat}

theorem State.slotTaken_aligned (hq : q.aligned = true) : u.slotTaken y h base q p = u.alignedSlot y h base := if_pos hq

theorem State.slotTaken_candidate {n last : Nat} (hq : q.aligned = false) (hcand : q.cand = some (n, last)) :
    u.slotTaken y h base q p = u.confirmSlot y (if base then h else none) n last := by
  unfold State.slotTaken
  rw [hq, if_neg Bool.false_ne_true, hcand]

theorem State.slotTaken_search {k : SlotHeader} (hq : q.aligned = false) (hcand : q.cand = none)
    (halign : (u.lslot y.lane.val p).aligned = false) (hnone : (u.lslot y.lane.val p).cand = none) :
    u.slotTaken y (some k) true q p = u.searchSlot y k p := by
  unfold State.slotTaken
  rw [hq, if_neg Bool.false_ne_true, hcand]
  dsimp only
  rw [halign, hnone]
  exact if_pos (by decide)

/-- A slot without a good header, or at a position that is aligned or has its candidate, starts no search. -/
theorem State.slotTaken_none (hq : q.aligned = false) (hcand : q.cand = none)
    (hno : h = none ∨ base = false ∨ (u.lslot y.lane.val p).aligned = true ∨ (u.lslot y.lane.val p).cand ≠ none) :
    u.slotTaken y h base q p = u := by
  unfold State.slotTaken
  rw [hq, if_neg Bool.false_ne_true, hcand]
  cases h with
  | none => rfl
  | some k =>
    refine if_neg fun hstart => ?_
    simp only [Bool.and_eq_true, Bool.not_eq_true', Option.isNone_iff_eq_none] at hstart
    obtain ⟨⟨hbase, halign⟩, hnone⟩ := hstart
    rcases hno with hno | hno | hno | hno
    · cases hno
    · rw [hbase] at hno
      cases hno
    · rw [halign] at hno
      cases hno
    · exact hno hnone
end

section
variable {x y : RxSlot} {l f p e : Nat} {h : Option SlotHeader} {off mis base : Bool} {q : LaneSlotSt}
  (hl : l = x.lane.val) (hf : f = l / 72)
  (hoff : off = (!s.rgnWorks (0x14 + f) || s.blkHeld (0x14 + f) 0 || s.blkHeld (0x14 + f) 3))
  (hy : y = (if s.laneEn l = true ∧ s.flaneHeld l = false then x else RxSlot.dark x))
  (ht : t = (s.setRbit (lnkStatA l) 17 y.signal).setRbit (lnkStatA l) 18 y.settled)
  (hh : h = (if y.signal && y.cw0 then slotHeaderOf (y.head.drop 16) else none)) (hq : q = t.lslot l x.pos.val)
  (hp : p = (if q.aligned = true ∨ q.cand ≠ none then x.pos.val else (h.elim 0 (·.slot)) % t.cycleLen))
  (he : e = t.piste t.activeBank p l)
  (hmis : mis = h.elim false (fun g => g.sender != pisPeer e))
  (hbase : base = (h.isSome && !mis && y.head.take 16 == markerBytes))
  (hu : u = (if mis then (t.bump (schF f R.FAB_MISCONNECT) y.cells.length).raise (0x14 + f) 0 4 else t))

include hl hy in
/-- A slot that arrives dark still comes on its lane, at its position. -/
theorem slotArrived_place : y.lane.val = l ∧ y.pos = x.pos := by
  rw [hy, hl]
  split <;> exact ⟨rfl, rfl⟩

include hl hf hoff hy ht hh hq hp he hmis hbase hu in
/-- A slot passes the gate of its region and blocks, then that of its position, and only then is taken. -/
theorem exec_slotRx : exec (.slotRx x) s = .next (if off then s else if pisUsed e = false ∨ t.cycleLen ≤ p then t
    else (u.slotTaken y h base q p).laneSlotSync l p) := by
  obtain ⟨hlane, hpos⟩ := slotArrived_place hl hy
  show execSlotRx x s = _
  unfold execSlotRx State.slotTaken
  rw [hlane]
  extract_lets l' f' y' t' h' q' expected p' e' mis' u' base' z' taken'
  obtain rfl : l' = l := hl.symm
  obtain rfl : f' = f := hf.symm
  obtain rfl : y' = y := by simp only [y', hy, Bool.and_eq_true, Bool.not_eq_true']
  obtain rfl : t' = t := ht.symm
  obtain rfl : h' = h := hh.symm
  obtain rfl : q' = q := by rw [hq, ← hpos]
  obtain rfl : p' = p := by simp only [p', expected, hp, hpos, Bool.or_eq_true, Option.isSome_iff_ne_none]
  obtain rfl : e' = e := he.symm
  obtain rfl : mis' = mis := by
    rw [hmis]
    unfold mis'
    cases h' <;> rfl
  obtain rfl : u' = u := hu.symm
  obtain rfl : base' = base := hbase.symm
  clear_value y' t' h' q' p' e' mis' u' base'
  rw [← hoff]
  by_cases hdown : off = true
  · rw [if_pos hdown, if_pos hdown]
  · by_cases hplace : pisUsed e' = false ∨ t'.cycleLen ≤ p'
    · rw [if_neg hdown, if_neg hdown, if_pos hplace]
      exact if_pos (by simpa using hplace)
    · rw [if_neg hdown, if_neg hdown, if_neg hplace]
      exact if_neg (by simpa using hplace)
end

/-! ## A received cell -/

theorem exec_cellRx_empty (hrx : s.fab.rx = []) : exec .cellRx s = .next s := by
  show execCellRx s = _
  unfold execCellRx
  rw [hrx]

theorem exec_cellRx_cons {l slot : Nat} {b : List Byte} {r : List (Nat × Nat × List Byte)} (hrx : s.fab.rx = (l, slot, b) :: r) :
    exec .cellRx s = .next (State.cellIn { s with fab := { s.fab with rx := r } } l slot b) := by
  show execCellRx s = _
  unfold execCellRx
  rw [hrx]

section
variable {l slot : Nat} {b : List Byte} {c : Cell}

theorem State.cellIn_badHcrc (hc : cellOf b = none) : t.cellIn l slot b = t.bump (schF (l / 72) R.FAB_HCRC_ERR) := by
  unfold State.cellIn
  rw [hc]

theorem State.cellIn_idle (hc : cellOf b = some c) (hidle : c.idle = true) : t.cellIn l slot b = t := by
  unfold State.cellIn
  rw [hc]
  exact if_pos hidle

/-- A cell that is not idle is counted, and goes by its source and its destination (R313, R314). -/
theorem State.cellIn_live (hc : cellOf b = some c) (hidle : c.idle = false) (hu : u = t.bump64 (schF (l / 72) R.FAB_CELLS_RX)) :
    t.cellIn l slot b =
      if c.src = u.deviceId ∨ u.systemSize ≤ c.src ∨ u.systemSize ≤ c.dst then
        (u.bump (schF (l / 72) R.FAB_MISROUTE)).raise (0x14 + l / 72) 0 5
      else if c.dst = u.deviceId then (if u.rgnDown 0x15 || u.blkHeld 0x15 2 then u else u.resequence slot c)
      else if c.hop then (u.bump (schF (l / 72) R.FAB_MISROUTE)).raise (0x14 + l / 72) 0 5
      else if u.rgnDown 0x14 || u.blkHeld 0x14 1 then u
      else u.relayCell slot c := by
  unfold State.cellIn
  rw [hc, hu]
  dsimp only
  rw [hidle, if_neg Bool.false_ne_true]
end

/-! ## Resequencing (R315, R316) -/

/-- Without a free cell the earliest gap is given up (R316). -/
def State.gapForced (s : State) : State :=
  match ((s.bump (rsqA R.FAB_RSQ_FORCED)).raise 0x15 2 1).earliestTimer with
  | some m => ((s.bump (rsqA R.FAB_RSQ_FORCED)).raise 0x15 2 1).gapExpire m
  | none => (s.bump (rsqA R.FAB_RSQ_FORCED)).raise 0x15 2 1

section
variable {slot e : Nat} {c : Cell} {x : SourceSt}
  (hv : v = u.setSource c.src { u.source c.src with lastSlot := slot }) (hx : x = v.source c.src)
include hv hx

/-- While EXP is unset a cell is held. -/
theorem State.resequence_unset (hexp : x.exp = none) : u.resequence slot c = v.holdCell c.src slot c := by
  subst hv hx
  unfold State.resequence
  dsimp only
  rw [hexp]

/-- With EXP set, the distance from it tells a late cell, the expected one, a duplicate, and one to hold. -/
theorem State.resequence_set (hexp : x.exp = some e) : u.resequence slot c =
    if 2 ^ 19 ≤ seqDist e c.seq then v.bump (rsqA R.FAB_RSQ_LATE)
    else if seqDist e c.seq = 0 then deliverHeld c.src (x.held.length + 1)
      ((v.setSource c.src { x with exp := some ((e + 1) % 2 ^ 20) }).deliverCell c)
    else if x.held.any (fun h => h.cell.seq == c.seq) then v.bump (rsqA R.FAB_RSQ_DUP)
    else State.holdCell (if (v.freeCell 2 0).isNone then v.gapForced else v) c.src slot c := by
  unfold State.resequence
  extract_lets n _ v' x'
  obtain rfl : v' = v := hv.symm
  obtain rfl : x' = x := hx.symm
  rw [hexp]
  rfl
end

/-! ## Ages and deadlines (R315 to R317) -/

section
variable {d : Fin 1024} {k : HeldCell} {r : List HeldCell}

theorem exec_relayAged_empty (hempty : s.relayQ d = []) : exec (.relayAged d) s = .next s := by
  show execRelayAged d s = _
  unfold execRelayAged
  rw [hempty]

theorem exec_relayAged_cons (hqueue : s.relayQ d = k :: r) : exec (.relayAged d) s =
    if k.slot + 2 * s.cycleLen < s.time.nextSlot then
      .next ((((s.setRelayQ d r).freeCells [k.ptr]).bump (rlyA (R.FAB_RLY_DROP + 4))).raise 0x14 1 1)
    else .next s := by
  show execRelayAged d s = _
  unfold execRelayAged
  rw [hqueue]
end

section
variable {n : Fin 1024} {dl : Nat}

theorem exec_gapTimerExpiry_stopped (htimer : (s.source n).timer = none) : exec (.gapTimerExpiry n) s = .next s := by
  show execGapTimerExpiry n s = _
  unfold execGapTimerExpiry
  rw [htimer]

theorem exec_gapTimerExpiry_running (htimer : (s.source n).timer = some dl) : exec (.gapTimerExpiry n) s =
    if s.instantDue dl then .next (s.gapExpire n) else .next s := by
  show execGapTimerExpiry n s = _
  unfold execGapTimerExpiry
  rw [htimer]

/-- A source that holds a cell, or had one within 64 cycles, keeps EXP. -/
theorem exec_expUnset : exec (.expUnset n) s =
    if (s.source n).exp ≠ none ∧ (s.source n).held = [] ∧ (s.source n).lastSlot + 64 * s.cycleLen < s.time.nextSlot then
      .next (s.setSource n { s.source n with exp := none })
    else .next s := by
  show execExpUnset n s = _
  unfold execExpUnset
  simp only [Bool.and_eq_true, decide_eq_true_eq, List.isEmpty_iff, Option.isSome_iff_ne_none, and_assoc]
end

/-- Settles O44: a slot by `exec_slotRx` and the cases of `slotTaken`, a cell by `cellIn_live` and the cases of `resequence_set`. -/
theorem slotsAndCellsAreTaken : Obligations.SlotsAndCellsAreTaken := by
  intro s
  refine ⟨fun x y l f p e t u h off mis base q hl hf hoff hy ht hh hq hp he hmis hbase hu => ?_, exec_cellRx_empty,
    fun l slot b r t u lost hrx ht => ?_, fun d => exec_relayAged_empty, fun d k r hqueue => ?_,
    fun n => exec_gapTimerExpiry_stopped, fun n dl htimer => ?_, fun n => ?_⟩
  · have hmis' : mis = h.elim false (fun g => g.sender != pisPeer e) := by
      rw [hmis]
      cases h <;> rfl
    obtain ⟨hlane, _⟩ := slotArrived_place hl hy
    rw [exec_slotRx hl hf hoff hy ht hh hq hp he hmis' hbase hu]
    refine ⟨fun hdown => by rw [if_pos hdown], fun hup hgate => ?_, fun hup hused hin => ?_⟩
    · rw [hup, if_neg Bool.false_ne_true, if_pos hgate]
    · rw [hup, if_neg Bool.false_ne_true, if_neg (by simp [hused, hin])]
      refine ⟨fun halign => ?_, fun n last halign hcand => ?_, fun k halign hcand hk hgood hfree hnone => ?_,
        fun halign hcand hno => ?_⟩
      · rw [State.slotTaken_aligned halign]
      · rw [State.slotTaken_candidate halign hcand]
      · rw [hk, hgood, State.slotTaken_search halign hcand (hlane ▸ hfree) (hlane ▸ hnone)]
      · rw [State.slotTaken_none halign hcand (hlane ▸ hno)]
  · rw [exec_cellRx_cons hrx, ← ht]
    refine ⟨fun hc => by rw [State.cellIn_badHcrc hc], fun c hc => ⟨fun hidle => by rw [State.cellIn_idle hc hidle],
      fun hidle hu hlost => ?_⟩⟩
    rw [State.cellIn_live hc hidle hu, ← hlost]
    refine ⟨fun hwrong => by rw [if_pos hwrong], fun hsrc hsize hdst => ?_⟩
    rw [if_neg (by omega)]
    refine ⟨fun hother hhop => ?_, fun hother hhop => ?_, fun hhere hdown => ?_, fun hhere hup hheld v x hv hx => ?_⟩
    · rw [if_neg hother, if_pos hhop]
    · rw [if_neg hother, if_neg (by simp [hhop])]
      simp only [Bool.or_eq_true]
    · rw [if_pos hhere, if_pos (by simpa using hdown)]
    · rw [if_pos hhere, if_neg (by simp [hup, hheld])]
      refine ⟨fun hexp => by rw [State.resequence_unset hv hx hexp], fun e hexp => ?_⟩
      rw [State.resequence_set hv hx hexp]
      refine ⟨fun hlate => by rw [if_pos hlate], fun hnext => ?_, fun hahead hnear => ?_⟩
      · rw [if_neg (by omega), if_pos hnext]
      · rw [if_neg (by omega), if_neg (by omega)]
        refine ⟨fun hdup => by rw [if_pos hdup], fun hnew => ?_⟩
        rw [if_neg (by simp [hnew])]
        refine ⟨fun hroom => ?_, fun g hfull hg => ?_⟩
        · rw [if_neg (by simpa using hroom)]
        · rw [if_pos (by simp [hfull]), hg]
          rfl
  · rw [exec_relayAged_cons hqueue]
    exact ⟨fun hold => if_pos hold, fun hyoung => if_neg (by omega)⟩
  · rw [exec_gapTimerExpiry_running htimer]
    exact ⟨fun hdue => if_pos hdue, fun hearly => if_neg (by simp [hearly])⟩
  · rw [exec_expUnset]
    refine ⟨fun hexp hheld hidle => if_pos ⟨hexp, hheld, hidle⟩, fun hkeep => if_neg fun hall => ?_⟩
    obtain ⟨hexp, hheld, hidle⟩ := hall
    rcases hkeep with hkeep | hkeep | hkeep
    · exact hexp hkeep
    · exact hkeep hheld
    · omega

end Sys2Proof.Machine
end

section
/-! PROOF. The CMIS sweep, forwarding ready, late lanes and ports, WT_LATE and the first DECLARE (R80 to R85). -/

namespace Sys2Proof.Machine

variable {s : State}

/-! ## The CMIS sweep (R83 to R85) -/

/-- What the sweep found in cage `c`: a cage not listed is empty. -/
def cageFound (l : List CageCheck) (c : Nat) : CageRead :=
  match l.find? (fun x => x.cage.val == c) with
  | some x => x.read
  | none => .absent

theorem exec_cmisSweep_first {l : List CageCheck} (hreleased : s.boot.released = true) (hswept : s.boot.swept = false) {u : State}
    (hu : u = (List.range 64).foldl (fun u c => u.cageCheck c (cageFound l c)) (if s.boot.haltDue then s.modxLoad else s)) :
    exec (.cmisSweep l) s = .next (u.setBootSt { u.boot with swept := true }) := by
  show execCmisSweep l s = _
  unfold execCmisSweep
  rw [hreleased, hswept, if_neg (by decide), if_neg (by decide), hu]
  rfl

theorem exec_cmisSweep_later {l : List CageCheck} (hreleased : s.boot.released = true) (hswept : s.boot.swept = true) :
    exec (.cmisSweep l) s =
      .next (l.foldl (fun u x => if (u.cage x.cage).checkDue then u.cageCheck x.cage x.read else u) s) := by
  show execCmisSweep l s = _
  unfold execCmisSweep
  rw [hreleased, hswept, if_neg (by decide), if_pos rfl]

/-! ## Forwarding ready (R80, R82) -/

theorem State.lanesReady_iff : s.lanesReady = true ↔
    ∀ l, l < 144 → s.laneFitted l = true → s.laneReady l = true ∨ l ∈ s.boot.lanesLate := by
  simp only [State.lanesReady, List.all_eq_true, List.mem_range, Bool.or_eq_true, Bool.not_eq_true', List.contains_iff_mem]
  refine forall₂_congr fun l _ => ?_
  rw [or_assoc, ← Bool.not_eq_true, Decidable.imp_iff_not_or]

theorem exec_fwdReady_due (hdev : s.boot.dev = .running) (hvalid : s.time.wtValid = true) (hswept : s.boot.swept = true)
    (hnot : s.rbit bootStatA 7 = false) (hlanes : s.boot.isolated = true ∨ s.lanesReady = true)
    (hports : ∀ p, p < 64 → s.portReady p = true) :
    exec .fwdReady s = .next (((s.setRbit bootStatA 7 true).wr (A.boot R.SYS_BOOT_TIME)
      (BitVec.ofNat 32 (divFree (s.time.ticks - s.boot.startTick : Nat) (1000 * ticksPerUs)).toNat)).bootRaise 10) := by
  have all_ports : (List.range 64).all s.portReady = true := List.all_eq_true.2 fun p hp => hports p (List.mem_range.1 hp)
  show execFwdReady s = _
  unfold execFwdReady
  exact if_pos (by simp [hdev, hvalid, hswept, hnot, hlanes, all_ports])

section
variable (hdev : s.boot.dev = .running) (hswept : s.boot.swept = true) (hnot : s.rbit bootStatA 7 = false)
include hdev hswept hnot

/-- Only a fitted lane that is not ready becomes late, and only once. -/
theorem exec_fwdWaitExpiry_lane (l : Fin 144) : exec (.fwdWaitExpiry (.lane l)) s =
    .next (if s.laneFitted l = true ∧ s.laneReady l = false ∧ l.val ∉ s.boot.lanesLate then
      { s with boot := { s.boot with lanesLate := s.boot.lanesLate ++ [l.val] } } else s) := by
  show execFwdWaitExpiry (.lane l) s = _
  unfold execFwdWaitExpiry
  rw [if_pos (by simp [hdev, hswept, hnot])]
  by_cases hlate : s.laneFitted l = true ∧ s.laneReady l = false ∧ l.val ∉ s.boot.lanesLate
  · rw [if_pos hlate]
    exact congrArg _ (if_neg (by simp [hlate]))
  · rw [if_neg hlate]
    refine congrArg _ (if_pos ?_)
    simp only [Bool.or_eq_true, Bool.not_eq_true', List.contains_iff_mem]
    cases hfitted : s.laneFitted l with
    | false => exact .inl (.inl rfl)
    | true =>
      cases hready : s.laneReady l with
      | true => exact .inl (.inr rfl)
      | false => exact .inr (Decidable.not_not.1 fun hmem => hlate ⟨hfitted, hready, hmem⟩)

theorem exec_fwdWaitExpiry_port (p : Fin 64) : exec (.fwdWaitExpiry (.port p)) s =
    .next (if s.portReady p then s else s.setRbit (fwdLateA p) (p.val % 32) true) := by
  show execFwdWaitExpiry (.port p) s = _
  unfold execFwdWaitExpiry
  exact if_pos (by simp [hdev, hswept, hnot])
end

/-! ## WT_LATE and the first DECLARE (R82) -/

theorem exec_wtLate_due (hdev : s.boot.dev = .running) (hvalid : s.time.wtValid = false) (honce : s.boot.wtLate = false)
    (hlimit : s.boot.wtLimit ≠ 0) :
    exec .wtLate s = .next (((s.bootFail 0x23).bootRaise 8).setBootSt { ((s.bootFail 0x23).bootRaise 8).boot with wtLate := true }) := by
  show execWtLate s = _
  unfold execWtLate
  exact if_pos (by simp [hdev, hvalid, honce, hlimit])

theorem exec_declareFirst_cobalt (hdecl : s.boot.declCobalt = true) (htook : s.time.cobalt.tookOffset = true)
    (hsec : s.time.cobalt.secLoaded = true) :
    exec (.declareFirst .cobalt) s = .next ((s.setBootSt { s.boot with declCobalt := false }).setValid .cobalt) := by
  show execDeclareFirst .cobalt s = _
  unfold execDeclareFirst
  exact if_pos (by simp [State.dom, TimeSt.dom, hdecl, htook, hsec])

theorem exec_declareFirst_umber (hdecl : s.boot.declUmber = true) (htook : s.time.umber.tookOffset = true)
    (hsec : s.time.umber.secLoaded = true) :
    exec (.declareFirst .umber) s = .next ((s.setBootSt { s.boot with declUmber := false }).setValid .umber) := by
  show execDeclareFirst .umber s = _
  unfold execDeclareFirst
  exact if_pos (by simp [State.dom, TimeSt.dom, hdecl, htook, hsec])

/-- Settles O15: each part by the lemma about its command. -/
theorem sweepAndForwardingReady : Obligations.SweepAndForwardingReady := by
  intro s
  refine ⟨fun l hreleased hswept => ⟨_, rfl, exec_cmisSweep_first hreleased hswept rfl⟩,
    fun l hreleased hswept => exec_cmisSweep_later hreleased hswept, fun hdev hvalid hswept hnot hlanes hports => ?_,
    fun hdev hswept hnot => ⟨exec_fwdWaitExpiry_lane hdev hswept hnot, exec_fwdWaitExpiry_port hdev hswept hnot⟩,
    fun hdev hvalid honce hlimit => ⟨_, exec_wtLate_due hdev hvalid honce hlimit, rfl⟩, exec_declareFirst_cobalt,
    exec_declareFirst_umber⟩
  exact exec_fwdReady_due hdev hvalid hswept hnot (hlanes.imp_right State.lanesReady_iff.2) hports

end Sys2Proof.Machine
end

section
/-! PROOF. Modules (R84, R85, R132 to R134): what a poll makes of an answer and of silence, and how an access starts and ends. -/

namespace Sys2Proof.Machine

variable {s : State} {m : Master} {v : Word}

/-! ## Polls (R132, R133) -/

theorem exec_modPoll (l : List ModPoll) (s : State) : exec (.modPoll l) s = .next (l.foldl State.pollCage s) := rfl

theorem exec_modPoll_one (q : ModPoll) (s : State) : exec (.modPoll [q]) s = .next (s.pollCage q) := rfl

section
variable {q : ModPoll} {u : State} (hack : q.ack = true)
  (hu : u = State.modFlags (if (s.cage q.cage).present then s.setCage q.cage { s.cage q.cage with missed := 0 }
    else (modEvt (s.setCage q.cage { s.cage q.cage with present := true, missed := 0, checkDue := true }) q.cage).raise 0 7 0)
    q.cage q.flags)
include hack hu

/-- An answer clears the missed count or marks the module present, then shows its flags and its fault. -/
theorem State.pollCage_answered : s.pollCage q = u.modFault q.cage q.fault := by
  unfold State.pollCage
  rw [hu, hack]
  exact if_pos rfl
end

/-- A fault that is not new, or none, is only recorded. -/
theorem State.modFault_quiet {c : Nat} {fault : Bool} (h : fault = false ∨ (s.cage c).faulty = true) :
    s.modFault c fault = s.setCage c { s.cage c with faulty := fault } := by
  unfold State.modFault
  exact if_neg (by rcases h with h | h <;> simp [h])

/-- A fault not reported before holds the cage with its ports and F-lanes (R133). -/
theorem State.modFault_new {c : Nat} (h : (s.cage c).faulty = false) : s.modFault c true =
    (((modEvt (s.setCage c { s.cage c with faulty := true }) c).cageHold c true).cageLanes c).raise 0 7 3 := by
  unfold State.modFault
  exact if_pos (by simp [h])

section
variable {q : ModPoll} (hsilent : q.ack = false)
include hsilent

theorem State.pollCage_silent_empty (h : (s.cage q.cage).present = false) :
    s.pollCage q = s.setCage q.cage { s.cage q.cage with missed := 0 } := by
  unfold State.pollCage
  simp only [hsilent, h, Bool.false_and, Bool.false_eq_true, if_false]

theorem State.pollCage_silent_counted (h : (s.cage q.cage).present = true) (hmissed : (s.cage q.cage).missed < 2) :
    s.pollCage q = s.setCage q.cage { s.cage q.cage with missed := (s.cage q.cage).missed + 1 } := by
  unfold State.pollCage
  simp only [hsilent, h, decide_eq_false (Nat.not_le.2 hmissed), Bool.and_false, Bool.false_eq_true, if_false, if_true]

/-- The third silence in a row removes the module (R132). -/
theorem State.pollCage_silent_removed (h : (s.cage q.cage).present = true) (hmissed : 2 ≤ (s.cage q.cage).missed) :
    s.pollCage q = State.cageCheck
      ((modEvt (s.setCage q.cage { s.cage q.cage with missed := 0, faulty := false }) q.cage).raise 0 7 1) q.cage .absent := by
  unfold State.pollCage
  simp only [hsilent, h, decide_eq_true hmissed, Bool.and_true, Bool.false_eq_true, if_false, if_true]
end

/-! ## The access window (R134) -/

theorem exec_modAccRead (h : s.mayWrite m (A.modm R.SYS_MOD_ACC_CTRL)) :
    exec (.modAccRead m v) s = .next (s.modAccStart v.toNat false) :=
  congrArg Host.Outcome.next (State.asWrite_ok h)

/-- An access for a write that starts sends its bytes at once. -/
theorem exec_modAccWrite (h : s.mayWrite m (A.modm R.SYS_MOD_ACC_CTRL)) : exec (.modAccWrite m v) s =
    .next (if s.line.modAcc = none ∧ (s.modAccStart v.toNat true).line.modAcc = some true then (s.modAccStart v.toNat true).modAccSend
      else s.modAccStart v.toNat true) :=
  congrArg Host.Outcome.next (State.asWrite_ok h)

theorem State.modAccStart_running {n : Nat} {write : Bool} (h : s.line.modAcc ≠ none) :
    s.modAccStart n write = (s.setFld accStatA 1 3 4).raise 0 7 5 := by
  unfold State.modAccStart
  exact if_pos (Option.isSome_iff_ne_none.2 h)

theorem State.modAccSelect_line (s : State) (n : Nat) : (s.modAccSelect n).line = s.line := by
  unfold State.modAccSelect
  dsimp only
  split <;> rfl

section
variable {n : Nat} {write : Bool} {u : State} (hidle : s.line.modAcc = none)
  (hu : u = State.setFld (s.wr (A.modm R.SYS_MOD_ACC_CTRL) (BitVec.ofNat 32 (natSetField n 6 2 0))) accStatA 0 4 0)
include hidle hu

/-- With no access running, the range is tested first, then the cage; an access that passes both starts. -/
theorem State.modAccStart_idle : s.modAccStart n write =
    if 256 < natField n 24 8 + u.fld (A.modm R.SYS_MOD_ACC_LEN) 0 8 then (u.setFld accStatA 1 3 3).raise 0 7 5
    else if (u.cage (natField n 0 6)).present = false then (u.setFld accStatA 1 3 2).raise 0 7 5
    else State.modAccSelect (State.setRbit { u with line := { u.line with modAcc := some write } } accStatA 0 true) n := by
  subst hu
  unfold State.modAccStart
  rw [hidle, if_neg (by decide)]
  simp only [Bool.not_eq_true']

omit hu in
theorem exec_modAccWrite_started (h : s.mayWrite m (A.modm R.SYS_MOD_ACC_CTRL)) {t : State}
    (ht : s.modAccStart v.toNat true = t) (hbusy : t.line.modAcc = some true) : exec (.modAccWrite m v) s = .next t.modAccSend := by
  rw [exec_modAccWrite h, ht, if_pos ⟨hidle, hbusy⟩]

/-- An access that does not start leaves none running, so a write sends nothing. -/
theorem exec_modAccWrite_refused (h : s.mayWrite m (A.modm R.SYS_MOD_ACC_CTRL)) {t : State}
    (ht : s.modAccStart v.toNat true = t) (hnone : t.line = u.line) : exec (.modAccWrite m v) s = .next t := by
  have idle : u.line.modAcc = none := by rw [hu]; exact hidle
  rw [exec_modAccWrite h, ht, hnone, idle, if_neg (by simp)]
end

/-! ## The end of an access (R133, R134) -/

section
variable {r : ModReply} {write : Bool} {u : State} (hrun : s.line.modAcc = some write)
  (hu : u = State.setRbit { s with line := { s.line with modAcc := none } } accStatA 0 false)
include hrun hu

theorem exec_modAccDone : exec (.modAccDone r) s =
    if r.ack then .next ((if write then u else u.modAccTake r).raise 0 7 4) else .next ((u.setFld accStatA 1 3 1).raise 0 7 5) := by
  subst hu
  show execModAccDone r s = _
  unfold execModAccDone
  rw [hrun]
end

/-- Settles O21: polls by the lemmas about `pollCage` and `modFault`, accesses by `modAccStart_idle` and `exec_modAccDone`. -/
theorem modulesArePolledAndAccessed : Obligations.ModulesArePolledAndAccessed := by
  intro s m v
  refine ⟨fun q hack => ⟨_, rfl, fun hok => ?_, fun hfault hnew => ?_, fun hfault hold => ?_⟩,
    fun q hsilent => ⟨fun h => ?_, fun h hmissed => ?_, fun h hmissed => ?_⟩, fun c => rfl, fun l => exec_modPoll l s,
    fun hw hidle u hu => ⟨fun hrange hpresent => ⟨?_, ?_⟩, fun hrange => ⟨?_, ?_⟩, fun hrange hempty => ⟨?_, ?_⟩⟩,
    fun hw hrun => ⟨?_, ?_⟩, fun r write u hrun hu => ⟨fun hnack => ?_, fun hack hwrite => ?_, fun hack hread => ?_⟩⟩
  · rw [exec_modPoll_one, State.pollCage_answered hack rfl, hok, State.modFault_quiet (.inl rfl)]
  · rw [exec_modPoll_one, State.pollCage_answered hack rfl, hfault, State.modFault_new hnew]
  · rw [exec_modPoll_one, State.pollCage_answered hack rfl, hfault, State.modFault_quiet (.inr hold)]
  · rw [exec_modPoll_one, State.pollCage_silent_empty hsilent h]
  · rw [exec_modPoll_one, State.pollCage_silent_counted hsilent h hmissed]
  · rw [exec_modPoll_one, State.pollCage_silent_removed hsilent h hmissed]
  · rw [exec_modAccRead hw, State.modAccStart_idle hidle hu, if_neg (by omega), if_neg (by simp [hpresent])]
  · refine exec_modAccWrite_started hidle hw ((State.modAccStart_idle hidle hu).trans ((if_neg (by omega)).trans
      (if_neg (by simp [hpresent])))) ?_
    rw [State.modAccSelect_line]
    rfl
  · rw [exec_modAccRead hw, State.modAccStart_idle hidle hu, if_pos hrange]
  · exact exec_modAccWrite_refused hidle hu hw ((State.modAccStart_idle hidle hu).trans (if_pos hrange)) (by simp)
  · rw [exec_modAccRead hw, State.modAccStart_idle hidle hu, if_neg (by omega), if_pos hempty]
  · exact exec_modAccWrite_refused hidle hu hw
      ((State.modAccStart_idle hidle hu).trans ((if_neg (by omega)).trans (if_pos hempty))) (by simp)
  · rw [exec_modAccRead hw, State.modAccStart_running hrun]
  · rw [exec_modAccWrite hw, State.modAccStart_running hrun, if_neg fun h => hrun h.1]
  · rw [exec_modAccDone hrun hu, hnack, if_neg Bool.false_ne_true]
  · rw [exec_modAccDone hrun hu, hack, hwrite, if_pos rfl, if_pos rfl]
  · refine ⟨_, rfl, ?_⟩
    rw [exec_modAccDone hrun hu, hack, hread, if_pos rfl, if_neg Bool.false_ne_true]
    rfl

end Sys2Proof.Machine
end

section
/-! PROOF. The commands of SYS_IMG_CTRL (R74, R474, R475, R479 to R482, R488): what each changes, and why one is refused. -/

namespace Sys2Proof.Machine

variable {s t : State} {m : Master} {v : Word}

/-! ## The value of the register -/

theorem natBit_eq_natField (n i : Nat) : natBit n i = (natField n i 1 == 1) := by
  unfold natBit natField
  rw [Nat.pow_one]

/-- A bit above CMD keeps its value. -/
theorem natBit_withCmd (v : Word) {c i : Nat} (hc : c < 16) (hi : 4 ≤ i) : natBit (withCmd v c) i = natBit v.toNat i := by
  rw [natBit_eq_natField, natBit_eq_natField, natField_withCmd v c hc 1 i hi]

/-! ## A write of SYS_IMG_CTRL -/

/-- The state with the other fields of a SYS_IMG_CTRL value stored, where command `c` begins. -/
def State.imgStored (s : State) (v : Word) (c : Nat) : State := s.wr (A.img R.SYS_IMG_CTRL) (BitVec.ofNat 32 (withCmd v c &&& 0x3F0))

@[simp] theorem State.imgStored_boot (s : State) (v : Word) (c : Nat) : (s.imgStored v c).boot = s.boot := rfl
@[simp] theorem State.imgStored_img (s : State) (v : Word) (c : Nat) : (s.imgStored v c).img = s.img := rfl
@[simp] theorem State.imgStored_brec (s : State) (v : Word) (c : Nat) : (s.imgStored v c).brec = s.brec := rfl
theorem State.imgStored_pending {b : Bool} (h : s.brec.healthPending = b) (v : Word) (c : Nat) :
    (s.imgStored v c).brec.healthPending = b := by rw [State.imgStored_brec, h]

@[simp] theorem State.imgStored_healthOver (s : State) (v : Word) (c : Nat) : (s.imgStored v c).healthOver = s.healthOver := rfl

/-- A refusal shows its reason and raises IMG_REFUSED (R474). -/
def State.imgRefused (s : State) (r : Nat) : State := (s.setFld imgStatA 0 4 r).imgRaise 0

theorem State.imgEnd_done (t : State) : State.imgEnd (0, t) = t := if_pos rfl

theorem State.imgEnd_refused (t : State) {r : Nat} (hr : r ≠ 0) : State.imgEnd (r, t) = t.imgRefused r := if_neg hr

/-- A write that passes R91 stores the other fields and runs its command. -/
theorem State.asImg_ok (h : s.mayWrite m (A.img R.SYS_IMG_CTRL)) (c : Nat) :
    s.asImg m v c = State.imgEnd ((s.imgStored v c).imgRun (withCmd v c)) := State.asWrite_ok h

section
variable (h : s.mayWrite m (A.img R.SYS_IMG_CTRL))
include h

theorem exec_activate : exec (.activate m v) s = .next (State.imgEnd ((s.imgStored v 1).imgActivate (withCmd v 1))) := by
  show Host.Outcome.next (s.asImg m v 1) = _
  rw [State.asImg_ok h, State.imgRun, withCmd_mod v _ (by decide)]
  rfl

theorem exec_confirm : exec (.confirm m v) s = .next (State.imgEnd (s.imgStored v 2).imgConfirm) := by
  show Host.Outcome.next (s.asImg m v 2) = _
  rw [State.asImg_ok h, State.imgRun, withCmd_mod v _ (by decide)]
  rfl

theorem exec_fallback : exec (.fallback m v) s = .next (State.imgEnd ((s.imgStored v 3).imgFallback (withCmd v 3))) := by
  show Host.Outcome.next (s.asImg m v 3) = _
  rw [State.asImg_ok h, State.imgRun, withCmd_mod v _ (by decide)]
  rfl

theorem exec_glide : exec (.glide m v) s = .next (State.imgEnd (s.imgStored v 4).imgGlide) := by
  show Host.Outcome.next (s.asImg m v 4) = _
  rw [State.asImg_ok h, State.imgRun, withCmd_mod v _ (by decide)]
  rfl

theorem exec_resume : exec (.resume m v) s = .next (State.imgEnd (s.imgStored v 5).imgResume) := by
  show Host.Outcome.next (s.asImg m v 5) = _
  rw [State.asImg_ok h, State.imgRun, withCmd_mod v _ (by decide)]
  rfl

theorem exec_imgRecovery : exec (.imgRecovery m v) s = .next (State.imgEnd ((s.imgStored v 6).imgRecovery (withCmd v 6))) := by
  show Host.Outcome.next (s.asImg m v 6) = _
  rw [State.asImg_ok h, State.imgRun, withCmd_mod v _ (by decide)]
  rfl

theorem exec_fuseSec : exec (.fuseSec m v) s = .next (State.imgEnd (s.imgStored v 7).imgFuseSec) := by
  show Host.Outcome.next (s.asImg m v 7) = _
  rw [State.asImg_ok h, State.imgRun, withCmd_mod v _ (by decide)]
  rfl

theorem exec_revokeKey : exec (.revokeKey m v) s = .next (State.imgEnd ((s.imgStored v 8).imgRevoke (withCmd v 8))) := by
  show Host.Outcome.next (s.asImg m v 8) = _
  rw [State.asImg_ok h, State.imgRun, withCmd_mod v _ (by decide)]
  rfl
end

/-! ## ACTIVATE -/

/-- The target of an ACTIVATE may be booted next: outside RECOVERY it is not named, it is not the slot in use, and it holds an image. -/
def State.targetOk (t : State) (want tgt : Nat) : Prop :=
  (t.boot.dev ≠ .recovery → want = 0) ∧ tgt ≠ 0 ∧ tgt ≠ t.bootedSlot ∧ ((t.brec.slot tgt).st = 1 ∨ (t.brec.slot tgt).st = 3)

/-- An accepted ACTIVATE: the record names the target, and a fallback to `prev` (R474). -/
def State.imgActivated (t : State) (n tgt prev : Nat) : State :=
  let t := t.brecPut { t.brec with sel := tgt, prev := prev, attempts := 0, flags := 0 }
  { t with img := { t.img with erasePending := natBit n 6 } }

/-- The test of the target as ACTIVATE makes it. -/
theorem State.targetOk_iff (t : State) (want tgt : Nat) : t.targetOk want tgt ↔
    (!(t.boot.dev == .recovery) && want != 0 || tgt == 0 || tgt == t.bootedSlot ||
      !((t.brec.slot tgt).st == 1 || (t.brec.slot tgt).st == 3)) = false := by
  simp only [State.targetOk, Bool.or_eq_false_iff, Bool.and_eq_false_imp, Bool.not_eq_true', Bool.not_eq_false', beq_eq_false_iff_ne,
    bne_eq_false_iff_eq, Bool.or_eq_true, beq_iff_eq, and_assoc, ne_eq]

section
variable {n want tgt prev : Nat} (hwant : want = natField n 4 2)
  (htgt : tgt = (if t.boot.dev = .recovery then (if want = 1 ∨ want = 2 then want else 0) else t.inactiveSlot))
  (hprev : prev = (if t.boot.dev = .recovery then (if (t.brec.slot (3 - tgt)).st = 3 then 3 - tgt else 0) else t.bootedSlot))
include hwant htgt hprev

/-- The four refusals in their order; else the record is written for the target. -/
theorem State.imgActivate_eq : t.imgActivate n =
    if (!(t.boot.dev == .recovery) && want != 0 || tgt == 0 || tgt == t.bootedSlot ||
      !((t.brec.slot tgt).st == 1 || (t.brec.slot tgt).st == 3)) then (2, t)
    else if t.brec.healthPending then (3, t)
    else if t.img.session.isSome then (5, t)
    else if t.boot.dev = .glide then (1, t)
    else (0, t.imgActivated n tgt prev) := by
  unfold State.imgActivate
  extract_lets r inRecovery want' tgt' prev' _ _
  obtain rfl : want' = want := hwant.symm
  obtain rfl : tgt' = tgt := by simp only [tgt', inRecovery, htgt, beq_iff_eq]
  obtain rfl : prev' = prev := by simp only [prev', inRecovery, r, hprev, beq_iff_eq]
  rfl

theorem State.imgActivate_badTarget (h : ¬t.targetOk want tgt) : t.imgActivate n = (2, t) := by
  rw [State.imgActivate_eq hwant htgt hprev, if_pos]
  rwa [State.targetOk_iff, Bool.not_eq_false] at h

theorem State.imgActivate_goodTarget (h : t.targetOk want tgt) : t.imgActivate n =
    if t.brec.healthPending then (3, t)
    else if t.img.session.isSome then (5, t)
    else if t.boot.dev = .glide then (1, t)
    else (0, t.imgActivated n tgt prev) := by
  rw [State.imgActivate_eq hwant htgt hprev, if_neg]
  rw [(t.targetOk_iff want tgt).1 h]
  exact Bool.false_ne_true
end

/-! ## CONFIRM and FALLBACK -/

/-- CONFIRM ends the health window while it is open (R475). -/
theorem State.imgConfirm_eq (h : t.brec.healthPending = true) : t.imgConfirm =
    if !t.boot.health || t.healthOver then (6, t)
    else (0, (((t.brecPut { (t.brec.setFlag 1 false).mark t.bootedSlot 3 none with attempts := 0 }).setHealth false).imgRaise 8).glideCheck) :=
  if_neg (by simp [h])

theorem State.imgConfirm_confirmed (h : t.brec.healthPending = false) : t.imgConfirm = (3, t) :=
  if_pos (by simp [h])

/-- FALLBACK needs a previous slot; in a Glide it is a fallback Glide (R482). -/
theorem State.imgFallback_eq {n : Nat} (h : t.brec.healthPending = true) : t.imgFallback n =
    if t.brec.prev = 0 then (4, t)
    else if t.boot.dev = .glide then (0, t.fallbackGlide 0x13)
    else (0, if natBit n 7 then (t.fallbackReq 0x13).chipReset else t.fallbackReq 0x13) :=
  if_neg (by simp [h])

theorem State.imgFallback_confirmed {n : Nat} (h : t.brec.healthPending = false) : t.imgFallback n = (3, t) :=
  if_pos (by simp [h])

/-! ## GLIDE -/

/-- A Glide begins: the record counts the attempt, and the device suspends what a Glide suspends (R479, R480). -/
def State.glideBegun (t : State) : State :=
  let w := if t.brec.step3Due then t.brecPut t.brec.step3 else t
  let w := ((w.setDev .glide).setGlidePhase 1).glideSuspend true
  { w with img := { w.img with glideTick := w.time.ticks, gapOver := false, fallback := false } }

theorem State.imgGlide_notRunning (h : t.boot.dev ≠ .running) : t.imgGlide = (1, t) := if_pos h

theorem State.imgGlide_running (h : t.boot.dev = .running) : t.imgGlide =
    if t.brec.healthPending then (3, t)
    else if t.brec.sel = t.bootedSlot then (2, t)
    else if t.img.setWrite.isSome ∨ t.img.session.isSome then (7, t)
    else (0, t.glideBegun) := if_neg fun hne => hne h

/-! ## FUSE_SEC and REVOKE_KEY -/

theorem State.imgFuseSec_eq (t : State) : t.imgFuseSec =
    if (t.brec.slot t.bootedSlot).st ≠ 3 ∨ t.bootedSlot = 0 ∨ t.boot.dev ≠ .running ∨ imgSecVersion t.img.head ≤ t.boot.secFuses then
      (8, t)
    else (0, { t with boot := { t.boot with secFuses := imgSecVersion t.img.head } }) := rfl

theorem State.imgRevoke_eq {n k : Nat} (hk : k = natField n 8 2) : t.imgRevoke n =
    if signerOf t.img.m4 = some k ∨ natBit t.boot.keyRevoked k = true then (8, t)
    else (0, { t with boot := { t.boot with keyRevoked := natSetField t.boot.keyRevoked k 1 1 } }) := by
  subst hk
  rfl

/-- Settles O24: each command by the equation of its function, the refusals by `imgEnd_refused`. -/
theorem imageCommandsActOrAreRefused : Obligations.ImageCommandsActOrAreRefused := by
  intro s m v u no hw hu hno
  have stored : u = s.imgStored v := funext hu
  have refused : ∀ c r, no c r = .next ((s.imgStored v c).imgRefused r) := fun c r => by rw [hno, stored]; rfl
  subst stored
  refine ⟨fun want tgt prev ok hwant htgt hprev hok => ?_, fun hpend => ⟨?_, ?_⟩,
    fun hpend => ⟨fun hopen hover => ?_, fun hclosed => ?_, fun hprev => ?_, fun hprev hdev => ?_, fun hprev hdev => ?_⟩,
    fun hdev => ?_, fun hdev => ⟨fun hpend => ?_, fun hpend hsel => ?_, fun hpend hsel hbusy => ?_, fun hpend hsel hset hses => ?_⟩,
    fun hgap => ?_, fun hgap => ?_, ?_, fun ok hok => ⟨fun h => ?_, fun h => ?_⟩, fun k hk => ⟨fun hsig hrev => ?_, fun h => ?_⟩⟩
  · have hwant' : want = natField (withCmd v 1) 4 2 := by rw [hwant, natField_withCmd v 1 (by decide) 2 4 (by decide)]
    have target : ok ↔ (s.imgStored v 1).targetOk want tgt := by
      rw [hok, State.targetOk, State.imgStored_boot, State.imgStored_brec]
    have good := fun h : ok => State.imgActivate_goodTarget hwant' htgt hprev (target.1 h)
    refine ⟨fun h => ?_, fun h hpend => ?_, fun h hpend hses => ?_, fun h hpend hses hdev => ?_, fun h hpend hses hdev => ?_⟩
    · rw [exec_activate hw, State.imgActivate_badTarget hwant' htgt hprev (h ∘ target.2), State.imgEnd_refused _ (by decide), refused]
    · rw [exec_activate hw, good h, State.imgStored_brec, if_pos hpend, State.imgEnd_refused _ (by decide), refused]
    · rw [exec_activate hw, good h, State.imgStored_brec, hpend, if_neg Bool.false_ne_true, State.imgStored_img,
        if_pos (Option.isSome_iff_ne_none.2 hses), State.imgEnd_refused _ (by decide), refused]
    · rw [exec_activate hw, good h, State.imgStored_brec, hpend, if_neg Bool.false_ne_true, State.imgStored_img, hses,
        if_neg (by decide), State.imgStored_boot, if_pos hdev, State.imgEnd_refused _ (by decide), refused]
    · refine ⟨_, rfl, ?_⟩
      rw [exec_activate hw, good h, State.imgStored_brec, hpend, if_neg Bool.false_ne_true, State.imgStored_img, hses,
        if_neg (by decide), State.imgStored_boot, if_neg hdev, State.imgEnd_done, State.imgActivated, natBit_withCmd v (by decide) (by decide)]
      rfl
  · rw [exec_confirm hw, State.imgConfirm_confirmed (State.imgStored_pending hpend v 2), State.imgEnd_refused _ (by decide), refused]
  · rw [exec_fallback hw, State.imgFallback_confirmed (State.imgStored_pending hpend v 3), State.imgEnd_refused _ (by decide), refused]
  · rw [exec_confirm hw, State.imgConfirm_eq (State.imgStored_pending hpend v 2), if_neg (by simp [hopen, hover]), State.imgEnd_done,
      State.imgStored_brec]
  · rw [exec_confirm hw, State.imgConfirm_eq (State.imgStored_pending hpend v 2), if_pos (by simpa using hclosed),
      State.imgEnd_refused _ (by decide), refused]
  · rw [exec_fallback hw, State.imgFallback_eq (State.imgStored_pending hpend v 3), State.imgStored_brec, if_pos hprev,
      State.imgEnd_refused _ (by decide), refused]
  · rw [exec_fallback hw, State.imgFallback_eq (State.imgStored_pending hpend v 3), State.imgStored_brec, if_neg hprev,
      State.imgStored_boot, if_pos hdev, State.imgEnd_done]
  · rw [exec_fallback hw, State.imgFallback_eq (State.imgStored_pending hpend v 3), State.imgStored_brec, if_neg hprev,
      State.imgStored_boot, if_neg hdev, State.imgEnd_done,
      natBit_withCmd v (by decide) (by decide)]
  · rw [exec_glide hw, State.imgGlide_notRunning (t := s.imgStored v 4) hdev, State.imgEnd_refused _ (by decide), refused]
  · rw [exec_glide hw, State.imgGlide_running (t := s.imgStored v 4) hdev, State.imgStored_brec, if_pos hpend,
      State.imgEnd_refused _ (by decide), refused]
  · rw [exec_glide hw, State.imgGlide_running (t := s.imgStored v 4) hdev,
      State.imgStored_brec, hpend, if_neg Bool.false_ne_true, if_pos hsel,
      State.imgEnd_refused _ (by decide), refused]
  · rw [exec_glide hw, State.imgGlide_running (t := s.imgStored v 4) hdev,
      State.imgStored_brec, hpend, if_neg Bool.false_ne_true, if_neg hsel,
      State.imgStored_img, if_pos (by simpa [Option.isSome_iff_ne_none] using hbusy), State.imgEnd_refused _ (by decide), refused]
  · refine ⟨_, _, rfl, rfl, ?_⟩
    rw [exec_glide hw, State.imgGlide_running (t := s.imgStored v 4) hdev, State.imgStored_brec, hpend, if_neg Bool.false_ne_true, if_neg hsel,
      State.imgStored_img, if_neg (by simp [hset, hses]), State.imgEnd_done]
    rfl
  · rw [exec_resume hw, State.imgResume, if_pos hgap, State.imgEnd_done]
  · rw [exec_resume hw, State.imgResume, if_neg hgap, State.imgEnd_refused _ (by decide), refused]
  · rw [exec_imgRecovery hw, State.imgRecovery, State.imgEnd_done, natBit_withCmd v (by decide) (by decide), State.imgStored_brec]
  · obtain ⟨hst, hslot, hdev, hver⟩ := hok.1 h
    rw [exec_fuseSec hw, State.imgFuseSec_eq, if_neg (by simp [hst, hslot, hdev, hver]), State.imgEnd_done]
    rfl
  · rw [exec_fuseSec hw, State.imgFuseSec_eq, if_pos, State.imgEnd_refused _ (by decide), refused]
    refine Decidable.byContradiction fun hall => ?_
    simp only [not_or, Decidable.not_not, Nat.not_le, ne_eq] at hall
    exact h (hok.2 hall)
  · have hk' : k = natField (withCmd v 8) 8 2 := by rw [hk, natField_withCmd v 8 (by decide) 2 8 (by decide)]
    rw [exec_revokeKey hw, State.imgRevoke_eq hk', if_neg (by simp [hsig, hrev]), State.imgEnd_done]
    exact ⟨_, rfl, rfl, fun i => natBit_setOne _ _ _⟩
  · have hk' : k = natField (withCmd v 8) 8 2 := by rw [hk, natField_withCmd v 8 (by decide) 2 8 (by decide)]
    rw [exec_revokeKey hw, State.imgRevoke_eq hk', if_pos (by exact h), State.imgEnd_refused _ (by decide), refused]

end Sys2Proof.Machine
end

section
/-! PROOF. The timers of an image (R74, R480 to R483): the health timer, the check of a Glide's image, its gap and its watchdog. -/

namespace Sys2Proof.Machine

variable {s u : State}

/-! ## The health timer (R74, R482) -/

theorem State.healthOver_iff : s.healthOver = true ↔ s.boot.healthTick + 120 * ticksPerSec ≤ s.time.ticks := decide_eq_true_iff

theorem exec_healthTimeout_due (hrun : s.boot.health = true) (hover : s.healthOver = true) (hu : u = (s.setHealth false).bootRaise 9) :
    exec .healthTimeout s =
      if u.boot.dev = .glide ∧ u.brec.prev ≠ 0 then .next (u.fallbackGlide 0x12) else .next (u.fallbackReq 0x12) := by
  subst hu
  exact if_pos (by rw [hrun, hover]; rfl)

theorem exec_healthTimeout_idle (h : s.boot.health = false ∨ s.healthOver = false) : exec .healthTimeout s = .next s :=
  if_neg (by rcases h with h | h <;> simp [h])

/-! ## The image of a Glide (R480) -/

section
variable {n : Nat} {e : Bool} (hdev : s.boot.dev = .glide) (hphase : s.glidePhase = 1 ∨ s.glidePhase = 4)
  (hn : n = (if s.brec.sel = 2 then 2 else 1))
include hdev hphase hn

/-- An image that cannot be read, or whose slot is FAILED, fails the Glide. -/
theorem exec_glideImageVerified_unread (h : e = true ∨ (s.brec.slot n).st = 4) :
    exec (.glideImageVerified e) s = .next (s.glideFail n) := by
  subst hn
  exact (if_pos ⟨hdev, hphase⟩).trans (if_pos h)

/-- Any other image is entered where it passes its check, and fails the Glide where it does not. -/
theorem exec_glideImageVerified_read (hst : (s.brec.slot n).st ≠ 4) {t : State} {b : Option (List Byte)}
    (hload : s.imageLoad n s.img.area1 = (t, b)) :
    exec (.glideImageVerified false) s = .next (b.elim (t.glideFail n) (t.glideEnter n)) := by
  show execGlideImageVerified false s = _
  unfold execGlideImageVerified
  dsimp only
  rw [if_pos ⟨hdev, hphase⟩, ← hn, if_neg (by simp [hst]), hload]
  cases b with
  | none => rw [Option.elim_none]
  | some b => rw [Option.elim_some]
end

theorem exec_glideImageVerified_other (h : s.boot.dev ≠ .glide ∨ (s.glidePhase ≠ 1 ∧ s.glidePhase ≠ 4)) (e : Bool) :
    exec (.glideImageVerified e) s = .next s :=
  if_neg fun ⟨hdev, hphase⟩ => h.elim (· hdev) fun ⟨hload, hfall⟩ => hphase.elim hload hfall

/-! ## The gap and the watchdog (R481, R483) -/

theorem exec_gapTimeout (s : State) : exec .gapTimeout s =
    if s.boot.dev = .glide ∧ s.glidePhase = 2 ∧ s.img.gapTick + 30 * ticksPerSec ≤ s.time.ticks then .next (s.imgRaise 3).gapEnd
    else .next s := rfl

theorem exec_glideWatchdog (s : State) : exec .glideWatchdog s =
    if s.boot.dev = .glide ∧ s.img.glideTick + 180 * ticksPerSec ≤ s.time.ticks then
      .next (if s.brec.healthPending then s.fallbackReq 0x12 else s).chipReset
    else .next s := rfl

/-- Settles O25: each timer by the lemmas about its command. -/
theorem glideAndHealthTimersAct : Obligations.GlideAndHealthTimersAct := by
  intro s
  refine ⟨fun hrun hover u hu => ?_, fun h => exec_healthTimeout_idle (h.imp_right fun hearly => ?_),
    fun n hdev hphase hn => ⟨exec_glideImageVerified_unread hdev hphase hn (.inl rfl),
      fun hfailed => exec_glideImageVerified_unread hdev hphase hn (.inr hfailed),
      fun hst => ⟨fun t b hload => exec_glideImageVerified_read hdev hphase hn hst hload,
        fun t hload => exec_glideImageVerified_read hdev hphase hn hst hload⟩⟩,
    exec_glideImageVerified_other, fun hdev hgap hover => ?_, fun h => ?_, fun hdev hover => ?_, fun h => ?_⟩
  · rw [exec_healthTimeout_due hrun (State.healthOver_iff.2 hover) hu]
    exact ⟨fun h => if_neg fun ⟨hdev, hprev⟩ => h.elim (· hdev) hprev, fun hdev hprev => if_pos ⟨hdev, hprev⟩⟩
  · exact decide_eq_false (Nat.not_le.2 hearly)
  · rw [exec_gapTimeout, if_pos ⟨hdev, hgap, hover⟩]
  · rw [exec_gapTimeout, if_neg fun ⟨hdev, hgap, hover⟩ => h.elim (· hdev) (·.elim (· hgap) (Nat.not_lt.2 hover))]
  · rw [exec_glideWatchdog, if_pos ⟨hdev, hover⟩]
    exact ⟨fun hpend => by rw [if_pos hpend], fun hpend => by rw [if_neg (by simp [hpend])]⟩
  · rw [exec_glideWatchdog, if_neg fun ⟨hdev, hover⟩ => h.elim (· hdev) (Nat.not_lt.2 hover)]

end Sys2Proof.Machine
end

section
/-! PROOF. Settings of the line ports (R114, R115, R118, R121, R123, R128 to R130): what a write of LINE_PORT_CFG, LINE_OCT_RATE,
LINE_PORT_MAXLEN or LINE_PORT_CNT_CLR stores or refuses, and the state it brings the port to. -/

namespace Sys2Proof.Machine

variable {s : State} {m : Master} {p : Fin 64} {v : Word}

/-! ## A bit that is cleared -/

/-- Bits of a number in which bit `k` has been cleared. -/
theorem natBit_setZero (n k i : Nat) : natBit (natSetField n k 1 0) i = (natBit n i && i != k) := by
  cases hk : natBit n k with
  | false =>
    have field_zero : natField n k 1 = 0 := by
      have : ¬natField n k 1 = 1 := by simpa [natBit_eq_natField] using hk
      have : natField n k 1 < 2 := Nat.mod_lt _ (by decide)
      omega
    have unchanged : natSetField n k 1 0 = n := by simp [natSetField, field_zero]
    rw [unchanged]
    by_cases hi : i = k
    · simp [hi, hk]
    · simp [hi]
  | true =>
    have field_one : natField n k 1 = 1 := by simpa [natBit_eq_natField] using hk
    have restored : natSetField n k 1 0 + 2 ^ k = n := by
      have := natSetBit_self hk
      simpa [natSetField, field_one] using this
    have cleared : natBit (natSetField n k 1 0) k = false := by
      rw [← restored, natBit_eq_testBit, Nat.add_comm, Nat.testBit_two_pow_add_eq, ← natBit_eq_testBit] at hk
      simpa using hk
    have bits : natBit n i = (natBit (natSetField n k 1 0) i || i == k) := by
      have again : natSetField (natSetField n k 1 0) k 1 1 = n := (natSetBit_new cleared).trans restored
      rw [← natBit_setOne, again]
    rw [bits]
    by_cases hi : i = k
    · simp [hi, cleared]
    · simp only [bne, beq_false_of_ne hi, Bool.or_false, Bool.not_false, Bool.and_true]

theorem natBit_setZero_self (n k : Nat) : natBit (natSetField n k 1 0) k = false := by simp [natBit_setZero]

/-! ## SLEEP as written (R118, R129, R130) -/

theorem State.sleepWrite_up {n : Nat} (h : s.portState n = .up) :
    s.sleepWrite n = (s.setPort n { s.port n with linkLost := false, waking := false }).setPortState n .sleep := by
  unfold State.sleepWrite
  rw [h]

theorem State.sleepWrite_down {n : Nat} (h : s.portState n = .down) : s.sleepWrite n =
    ((s.setPort n { s.port n with linkLost := true, waking := false }).setPortState n .sleep).emit (.lineFault n false) := by
  unfold State.sleepWrite
  rw [h]

theorem State.sleepWrite_held {n : Nat} (h : s.portState n = .held) :
    s.sleepWrite n = s.setPort n { s.port n with sleepPend := true } := by
  unfold State.sleepWrite
  rw [h]

theorem State.sleepWrite_asleep {n : Nat} (h : s.portState n = .sleep) : s.sleepWrite n = s := by
  unfold State.sleepWrite
  rw [h]

theorem State.wakeWrite_eq (s : State) (n : Nat) : s.wakeWrite n =
    s.setPort n (if s.portState n = .sleep then { s.port n with waking := true } else { s.port n with sleepPend := false }) := by
  unfold State.wakeWrite
  cases s.portState n <;> rfl

/-! ## The state an enabled port starts in (R84, R118) -/

theorem State.portStart_held {n : Nat} (h : s.portHeld n = true) : s.portStart n = s.setPortState n .held := by
  unfold State.portStart
  exact if_pos h

theorem State.portStart_down {n : Nat} (hcage : s.portHeld n = false) (hsleep : (s.port n).sleepPend = false) : s.portStart n =
    ((s.setFld (portA n R.LINE_PORT_STAT) 3 1 1).setPortState n .down).emit (.lineFault n true) := by
  have awake : ((s.setFld (portA n R.LINE_PORT_STAT) 3 1 1).port n).sleepPend = false := hsleep
  unfold State.portStart
  rw [if_neg (by simp [hcage])]
  exact if_neg (by simp [awake])

/-! ## A write of LINE_PORT_CFG (R114, R115) -/

/-- The state with the fields of a LINE_PORT_CFG value stored. -/
def State.portCfgStored (s : State) (n w : Nat) : State := s.wr (portA n R.LINE_PORT_CFG) (BitVec.ofNat 32 (natField w 0 13))

theorem State.portCfgStored_portState (s : State) (p : Fin 64) (w : Nat) : (s.portCfgStored p w).portState p = s.portState p :=
  State.portState_wr p _

@[simp] theorem State.portCfgStored_port (s : State) (n k w : Nat) : (s.portCfgStored n w).port k = s.port k := rfl

theorem State.portCfgOk_disable {n w : Nat} (h : natBit w 4 = false) : s.portCfgOk n w = true := by
  unfold State.portCfgOk
  exact if_neg (by simp [h])

section
variable {n w : Nat} {rx : Option RxPart}

theorem State.portCfgWrite_refused (h : s.portCfgOk n w = false) : s.portCfgWrite n w rx = s.raise 2 (n / 8) 24 := by
  unfold State.portCfgWrite
  exact if_neg (by simp [h])

/-- An enabled port that stays enabled takes only the SLEEP written. -/
theorem State.portCfgWrite_kept (hok : s.portCfgOk n w = true) (hwas : s.portEn n = true) (hen : natBit w 4 = true) :
    s.portCfgWrite n w rx = if natBit w 11 then (s.portCfgStored n w).sleepWrite n else (s.portCfgStored n w).wakeWrite n := by
  unfold State.portCfgWrite
  rw [if_pos hok]
  simp only [hwas, hen, Bool.not_true, Bool.and_false, Bool.false_and, Bool.false_eq_true, if_false]
  rfl

/-- A disabled port that is enabled takes the SLEEP written, then starts. -/
theorem State.portCfgWrite_enabled (hok : s.portCfgOk n w = true) (hwas : s.portEn n = false) (hen : natBit w 4 = true) :
    s.portCfgWrite n w rx =
      (if natBit w 11 then (s.portCfgStored n w).sleepWrite n else (s.portCfgStored n w).wakeWrite n).portStart n := by
  unfold State.portCfgWrite
  rw [if_pos hok]
  simp only [hwas, hen, Bool.not_true, Bool.not_false, Bool.and_false, Bool.and_true, Bool.false_eq_true, if_false, if_true]
  rfl

/-- An enabled port is disabled before the rest of the value is stored. -/
theorem State.portCfgWrite_disabled (hwas : s.portEn n = true) (hen : natBit w 4 = false) :
    s.portCfgWrite n w rx = if natBit w 11 then ((s.portDisable n rx).portCfgStored n w).sleepWrite n
      else ((s.portDisable n rx).portCfgStored n w).wakeWrite n := by
  unfold State.portCfgWrite
  rw [if_pos (State.portCfgOk_disable hen)]
  simp only [hwas, hen, Bool.not_true, Bool.not_false, Bool.and_true, Bool.false_and, Bool.false_eq_true, if_false, if_true]
  rfl
end

/-- SLEEP = 0 written to a port that is awake. -/
theorem State.portCfgStored_wakeWrite_awake {w : Nat} (h : s.portState p ≠ .sleep) :
    (s.portCfgStored p w).wakeWrite p = (s.portCfgStored p w).setPort p { s.port p with sleepPend := false } := by
  rw [State.wakeWrite_eq, State.portCfgStored_portState, if_neg h, State.portCfgStored_port]

section
variable (hmay : s.mayWrite m (portA p R.LINE_PORT_CFG))
include hmay

theorem exec_portCfgWrite : exec (.portCfgWrite m p v) s = .next (s.portCfgWrite p v.toNat none) :=
  congrArg Host.Outcome.next (State.asWrite_ok hmay)

theorem exec_portDisable {rx : Option RxPart} :
    exec (.portDisable m p v rx) s = .next (s.portCfgWrite p (natSetField v.toNat 4 1 0) rx) :=
  congrArg Host.Outcome.next (State.asWrite_ok hmay)

theorem exec_portSleep : exec (.portSleep m p v) s = .next (s.portCfgWrite p (natSetField v.toNat 11 1 1) none) :=
  congrArg Host.Outcome.next (State.asWrite_ok hmay)

theorem exec_portWakeWrite : exec (.portWakeWrite m p v) s = .next (s.portCfgWrite p (natSetField v.toNat 11 1 0) none) :=
  congrArg Host.Outcome.next (State.asWrite_ok hmay)

/-- A disabled port enabled with SLEEP = 0 starts with no sleep waiting. -/
theorem exec_portCfgWrite_enabled (hok : s.portCfgOk p v.toNat = true) (hen : natBit v.toNat 4 = true)
    (hsleep : natBit v.toNat 11 = false) (hwas : s.portEn p = false) (hstate : s.portState p = .disabled) :
    exec (.portCfgWrite m p v) s =
      .next (((s.portCfgStored p v.toNat).setPort p { s.port p with sleepPend := false }).portStart p) := by
  rw [exec_portCfgWrite hmay, State.portCfgWrite_enabled hok hwas hen, if_neg (by simp [hsleep]),
    State.portCfgStored_wakeWrite_awake (by rw [hstate]; decide)]

theorem exec_portCfgWrite_kept (hok : s.portCfgOk p v.toNat = true) (hen : natBit v.toNat 4 = true)
    (hsleep : natBit v.toNat 11 = false) (hwas : s.portEn p = true) (hstate : s.portState p ≠ .sleep) :
    exec (.portCfgWrite m p v) s = .next ((s.portCfgStored p v.toNat).setPort p { s.port p with sleepPend := false }) := by
  rw [exec_portCfgWrite hmay, State.portCfgWrite_kept hok hwas hen, if_neg (by simp [hsleep]),
    State.portCfgStored_wakeWrite_awake hstate]

theorem exec_portDisable_enabled {rx : Option RxPart} (hwas : s.portEn p = true) (hsleep : natBit v.toNat 11 = false) :
    exec (.portDisable m p v rx) s =
      .next (((s.portDisable p rx).portCfgStored p (natSetField v.toNat 4 1 0)).wakeWrite p) := by
  rw [exec_portDisable hmay, State.portCfgWrite_disabled hwas (natBit_setZero_self _ _), if_neg (by simp [natBit_setZero, hsleep])]

section
variable {w : Nat} (hwas : s.portEn p = true) (hok : s.portCfgOk p w = true) (hen : natBit w 4 = true)
include hwas hok hen

theorem exec_portSleep_enabled (hw : w = natSetField v.toNat 11 1 1) :
    exec (.portSleep m p v) s = .next ((s.portCfgStored p w).sleepWrite p) := by
  have asleep : natBit w 11 = true := by rw [hw, natBit_setOne_self]
  rw [exec_portSleep hmay, ← hw, State.portCfgWrite_kept hok hwas hen, if_pos asleep]

theorem exec_portWakeWrite_enabled (hw : w = natSetField v.toNat 11 1 0) :
    exec (.portWakeWrite m p v) s = .next ((s.portCfgStored p w).setPort p
      (if s.portState p = .sleep then { s.port p with waking := true } else { s.port p with sleepPend := false })) := by
  have awake : natBit w 11 = false := by rw [hw, natBit_setZero_self]
  rw [exec_portWakeWrite hmay, ← hw, State.portCfgWrite_kept hok hwas hen, if_neg (by simp [awake]), State.wakeWrite_eq,
    State.portCfgStored_portState, State.portCfgStored_port]
end
end

/-! ## Writes of LINE_OCT_RATE, LINE_PORT_MAXLEN and LINE_PORT_CNT_CLR (R114, R123, R128) -/

theorem exec_octRateWrite {o : Fin 8} (h : s.mayWrite m (A.oct o R.LINE_OCT_RATE)) :
    exec (.octRateWrite m o v) s = .next (s.octRateWrite o v.toNat) :=
  congrArg Host.Outcome.next (State.asWrite_ok h)

theorem exec_maxlenWrite (h : s.mayWrite m (portA p R.LINE_PORT_MAXLEN)) :
    exec (.maxlenWrite m p v) s = .next (s.maxlenWrite p v.toNat) :=
  congrArg Host.Outcome.next (State.asWrite_ok h)

theorem State.maxlenWrite_stored {n : Nat} (hlo : 64 ≤ v.toNat) (hhi : v.toNat ≤ 16384) :
    s.maxlenWrite n v.toNat = s.wr (portA n R.LINE_PORT_MAXLEN) v := by
  unfold State.maxlenWrite
  rw [if_pos ⟨hlo, hhi⟩, BitVec.ofNat_toNat, BitVec.setWidth_eq]

theorem State.maxlenWrite_refused {n w : Nat} (h : w < 64 ∨ 16384 < w) : s.maxlenWrite n w = s.raise 2 (n / 8) 25 := by
  unfold State.maxlenWrite
  exact if_neg (by omega)

/-- Raising a cause leaves a port's MAXLEN as it was. -/
theorem State.rd_maxlen_raise (s : State) (p : Fin 64) (r b k : Nat) :
    (s.raise r b k).rd (portA p R.LINE_PORT_MAXLEN) = s.rd (portA p R.LINE_PORT_MAXLEN) := by
  have haddr : portA p R.LINE_PORT_MAXLEN = 0x200000 + p / 8 * 0x4000 + (0x104 + 64 * (p % 8)) := rfl
  exact State.rd_raise (by omega) (.inl (by omega)) r b k

theorem exec_portCntClr (h : s.mayWrite m (portA p R.LINE_PORT_CNT_CLR)) :
    exec (.portCntClr m p v) s = .next (if natBit v.toNat 0 then s.cntClear p else s) :=
  congrArg Host.Outcome.next (State.asWrite_ok h)

/-- Clearing a port's counters zeroes their words and writes nothing but registers. -/
theorem State.cntClear_zero (s : State) (n : Nat) :
    (∀ i, i < 128 → (s.cntClear n).rd (A.oct (n / 8) (R.LINE_PORT_CNT + 512 * (n % 8) + 4 * i)) = 0) ∧
    ∃ l, s.cntClear n = { s with regs := l } :=
  State.foldWr_zero _ 128

/-- Settles O19: each write by the lemma about its command, and what LINE_PORT_CFG brings the port to by those about `sleepWrite`,
`wakeWrite` and `portStart`. -/
theorem portSettingsTakeEffect : Obligations.PortSettingsTakeEffect := by
  intro s m p v _
  refine ⟨fun hmay => ⟨fun hrefused => ?_, fun u hok hen hsleep hu => ⟨fun hwas hstate => ⟨fun hheld => ?_, fun hheld => ?_⟩,
      fun hwas hstate => ?_⟩, fun rx hwas hsleep => exec_portDisable_enabled hmay hwas hsleep,
      fun w hw hok hwas hen u hu => ?_, fun w hw hok hwas hen => exec_portWakeWrite_enabled hmay hwas hok hen hw⟩,
    fun o hmay => exec_octRateWrite hmay,
    fun hmay => ⟨fun hlo hhi => ?_, fun hout => ⟨_, exec_maxlenWrite hmay, ?_⟩⟩,
    fun hmay => ⟨fun hclear => ?_, fun hclear => ?_⟩⟩
  · rw [exec_portCfgWrite hmay, State.portCfgWrite_refused hrefused]
  · subst hu
    exact (exec_portCfgWrite_enabled hmay hok hen hsleep hwas hstate).trans (congrArg _ (State.portStart_held hheld))
  · subst hu
    exact (exec_portCfgWrite_enabled hmay hok hen hsleep hwas hstate).trans
      (congrArg _ (State.portStart_down hheld (by simp)))
  · subst hu
    exact exec_portCfgWrite_kept hmay hok hen hsleep hwas hstate
  · have run := exec_portSleep_enabled hmay hwas hok hen hw
    have stored : s.portCfgStored p w = u := hu.symm
    have state : u.portState p = s.portState p := stored ▸ s.portCfgStored_portState p w
    have port : u.port p = s.port p := stored ▸ s.portCfgStored_port p p w
    rw [run, stored, ← state, ← port]
    exact ⟨fun h => by rw [State.sleepWrite_up h], fun h => by rw [State.sleepWrite_down h],
      fun h => by rw [State.sleepWrite_held h], fun h => by rw [State.sleepWrite_asleep h]⟩
  · rw [exec_maxlenWrite hmay, State.maxlenWrite_stored hlo hhi]
  · rw [State.maxlenWrite_refused hout]
    exact ⟨s.rd_maxlen_raise p _ _ _, State.cause_raise (by decide) (by omega) (by decide)⟩
  · obtain ⟨zero, l, regs⟩ := s.cntClear_zero p
    refine ⟨s.cntClear p, ?_, zero, ?_⟩
    · rw [exec_portCntClr hmay, if_pos hclear]
    · rw [regs]
      exact ⟨rfl, rfl, rfl, rfl, rfl⟩
  · rw [exec_portCntClr hmay, if_neg (by simp [hclear])]

end Sys2Proof.Machine
end

section
/-! PROOF. Link states of the line ports (R117, R118, R126, R129, R130): links that come up and go down, negotiation that fails, pauses
that end, and how a sleeping port wakes. -/

namespace Sys2Proof.Machine

variable {s : State} {p : Fin 64}

/-! ## Up and down (R117, R118) -/

theorem exec_portUp_down (h : s.portState p = .down) : exec (.portUp p) s = .next ((s.portAligned p).setPortState p .up) := by
  show execPortUp p s = _
  unfold execPortUp
  rw [h]

theorem exec_portUp_asleep (h : s.portState p = .sleep) :
    exec (.portUp p) s = .next ((s.portAligned p).setPort p { (s.portAligned p).port p with linkLost := false }) := by
  show execPortUp p s = _
  unfold execPortUp
  rw [h]

theorem exec_portUp_off (h : s.portState p = .disabled ∨ s.portState p = .held) : exec (.portUp p) s = .next s := by
  show execPortUp p s = _
  unfold execPortUp
  rcases h with h | h <;> rw [h]

/-- A remote fault is answered with idle, any other loss with remote fault. -/
theorem lossSends_eq (why : PortLoss) : lossSends why = if why = .remoteFault then false else true := by
  cases why <;> rfl

section
variable {why : PortLoss}

theorem exec_portDown_up (h : s.portState p = .up) : exec (.portDown p why) s =
    .next (((s.portLossBits p why).setPortState p .down).emit (.lineFault p (lossSends why))) := by
  show execPortDown p why s = _
  unfold execPortDown
  rw [h]

theorem exec_portDown_down (h : s.portState p = .down) :
    exec (.portDown p why) s = .next ((s.portLossBits p why).emit (.lineFault p (lossSends why))) := by
  show execPortDown p why s = _
  unfold execPortDown
  rw [h]

/-- A sleeping port notes the loss once. -/
theorem exec_portDown_asleep (h : s.portState p = .sleep) : exec (.portDown p why) s =
    if (s.port p).linkLost then .next (s.portLossBits p why)
    else .next (((s.portLossBits p why).setPort p { (s.portLossBits p why).port p with linkLost := true }).raise 2 (p.val / 8)
      (p.val % 8)) := by
  show execPortDown p why s = _
  unfold execPortDown
  rw [h]

theorem exec_portDown_off (h : s.portState p = .disabled ∨ s.portState p = .held) : exec (.portDown p why) s = .next s := by
  show execPortDown p why s = _
  unfold execPortDown
  rcases h with h | h <;> rw [h]
end

theorem exec_anFail_down (hen : s.portEn p = true) (han : natBit (s.portCfg p) 6 = true) (h : s.portState p = .down) :
    exec (.anFail p) s = .next ((s.setRbit (portA p R.LINE_PORT_STAT) 7 false).raise 2 (p.val / 8) 26) :=
  if_pos ⟨hen, han, h⟩

/-! ## The end of a pause (R126) -/

theorem exec_pauseExpiry_running {i : Fin 9} {e : Nat} (h : (s.port p).stopUntil.getD i none = some e) :
    exec (.pauseExpiry p i) s = if e ≤ s.time.ticks then
      .next ((s.setPort p { s.port p with stopUntil := (s.port p).stopUntil.set i none }).pausedBit p) else .next s := by
  show execPauseExpiry p i s = _
  unfold execPauseExpiry
  dsimp only
  rw [h]

/-! ## Waking (R129, R130) -/

theorem exec_wakeMatch_matched {frame : List Byte} (h : s.portState p = .sleep) (hwaking : (s.port p).waking = false)
    (hlink : (s.port p).linkLost = false) (hlen : 64 ≤ frame.length) (hfcs : fcsGood frame = true)
    (hmatch : s.wakeMatches p frame = true) :
    exec (.wakeMatch p frame) s = .next ((s.setPort p { s.port p with waking := true }).wakeCount p 0) :=
  if_pos ⟨h, hwaking, hlink, hlen, hfcs, hmatch⟩

theorem exec_wakeComplete_waking (h : s.portState p = .sleep) (hwaking : (s.port p).waking = true) :
    exec (.wakeComplete p) s = .next (((s.setPort p { s.port p with waking := false, linkLost := false }).setPortState p
      (if (s.port p).linkLost then .down else .up)).raise 2 (p.val / 8) (16 + p.val % 8)) :=
  if_pos ⟨h, hwaking⟩

/-- Settles O20: each part by the lemma about its command in the port's state. -/
theorem linksChangeStateByTheRules : Obligations.LinksChangeStateByTheRules := by
  intro s p
  refine ⟨exec_portUp_down, exec_portUp_asleep, fun why send hsend => ?_, exec_anFail_down,
    fun i e hrun => ⟨fun hdue => ?_, fun hearly => ?_⟩, fun frame => exec_wakeMatch_matched, exec_wakeComplete_waking⟩
  · obtain rfl : send = lossSends why := hsend.trans (lossSends_eq why).symm
    refine ⟨exec_portDown_up, exec_portDown_down, fun h hnew => ?_, fun h hnoted => ?_,
      fun h => ⟨exec_portUp_off h, exec_portDown_off h⟩⟩
    · rw [exec_portDown_asleep h, if_neg (by simp [hnew])]
    · rw [exec_portDown_asleep h, if_pos hnoted]
  · rw [exec_pauseExpiry_running hrun, if_pos hdue]
  · rw [exec_pauseExpiry_running hrun, if_neg (Nat.not_le.2 hearly)]

end Sys2Proof.Machine
end

section
/-! PROOF. Parse engines (R141, R148, R153, R230): a packet that has been met is foreign no more, the exception path frees the engine, and
what a command does with the word its engine stands at. -/

namespace Sys2Proof.Machine

/-! ## What an engine reads as -/

section
variable {s t : State} {i e : Nat}

/-- An engine is read from its pipeline's engines. -/
theorem State.engine_of_engines (h : (t.pipe i).engines = (s.pipe i).engines) : t.engine i e = s.engine i e := by
  unfold State.engine
  rw [h]

theorem State.engine_of_pipes (h : t.pipes = s.pipes) : t.engine i e = s.engine i e :=
  State.engine_of_engines (by unfold State.pipe; rw [h])

/-! ## Meeting a foreign packet (R230) -/

/-- Whether a packet is foreign is read from the packet and SYS_VER_STAT. -/
theorem State.foreign_of_verStat (h : t.rd verStatA = s.rd verStatA) (k : Pkt) : t.foreign k = s.foreign k := by
  unfold State.foreign State.verOdd State.verOther State.rbit State.fld
  rw [h]

theorem State.rd_verStat_meetPkt (s : State) (k : Pkt) : (s.meetPkt k).2.rd verStatA = s.rd verStatA := by
  have hraise : ∀ u : State, (u.verRaise 5).rd verStatA = u.rd verStatA := fun u => State.rd_raise (by decide) (by decide) _ _ _
  have hbump : (s.bump (A.ver R.SYS_VER_FOREIGN)).rd verStatA = s.rd verStatA := by
    unfold State.bump
    split
    · rfl
    · exact State.rd_wr_ne (by decide) _
  unfold State.meetPkt
  split
  · dsimp only
    split
    · rfl
    · rw [hraise, hbump]
  · rfl

/-- A packet that has been met is foreign no more: its version is the current one. -/
theorem State.foreign_meetPkt (s : State) (k : Pkt) : (s.meetPkt k).2.foreign (s.meetPkt k).1 = false := by
  rw [State.foreign_of_verStat (s.rd_verStat_meetPkt k)]
  by_cases h : s.foreign k = true
  · have current : (s.meetPkt k).1 = { k with proc := some s.verOdd } := congrArg Prod.fst (if_pos h)
    rw [current]
    simp [State.foreign, Pkt.ver]
  · have own : s.meetPkt k = (k, s) := if_neg h
    rw [own]
    exact Bool.eq_false_iff.2 h

theorem State.meetPkt_tabs (s : State) (k : Pkt) : (s.meetPkt k).2.tabs = s.tabs := by
  unfold State.meetPkt
  split
  · dsimp only
    split
    · rfl
    · exact (State.raise_tabs _ _ _ _).trans (State.bump_tabs _ _ _)
  · rfl

/-! ## Meeting the packet of a busy engine -/

theorem State.parseMeet_tabs (s : State) (i e : Nat) : (s.parseMeet i e).tabs = s.tabs := by
  unfold State.parseMeet
  dsimp only
  split
  · exact State.meetPkt_tabs _ _
  · rfl

/-- An engine whose packet has been met meets nothing more. -/
theorem State.parseMeet_parseMeet (s : State) (i e : Nat) : (s.parseMeet i e).parseMeet i e = s.parseMeet i e := by
  by_cases h : ((s.engine i e).busy && s.foreign (s.engine i e).pkt) = true
  · have met : s.parseMeet i e = (s.meetPkt (s.engine i e).pkt).2.setEngine i e
        { s.engine i e with pkt := (s.meetPkt (s.engine i e).pkt).1 } := if_pos h
    refine State.parseMeet_of_own ?_
    rw [met, State.engine_setEngine_self]
    exact s.foreign_meetPkt _
  · have own : s.parseMeet i e = s := if_neg h
    rw [own, own]

theorem State.parseStep_parseMeet (s : State) (i e opc : Nat) (f : Nat → Engine → Option Engine) :
    (s.parseMeet i e).parseStep i e opc f = s.parseStep i e opc f := by
  unfold State.parseStep
  rw [State.parseMeet_parseMeet]

/-! ## The exception path (R153) -/

theorem State.parseCounts_pipes (s : State) (i n : Nat) : (s.parseCounts i n).pipes = s.pipes := by
  unfold State.parseCounts
  dsimp only
  split
  · exact State.bump64_pipes _ _ _ _
  · exact State.bump64_pipes _ _ _ _

theorem State.excMeter_engine (s : State) (i e : Nat) : (s.excMeter i).2.engine i e = s.engine i e := by
  unfold State.excMeter
  dsimp only
  split
  · rfl
  · exact State.engine_of_engines (by rw [State.pipe_setPipe_self])

/-- A packet that takes the exception path leaves its engine idle. -/
theorem State.takeExc_engine (s : State) (i e reason : Nat) : (s.takeExc i e reason).engine i e = Engine.idle := by
  unfold State.takeExc
  extract_lets x k1 k2 k3 k left counted metered p
  have left_idle : left.engine i e = Engine.idle :=
    (State.engine_of_pipes (State.parseCounts_pipes _ _ _)).trans (State.engine_setEngine_self _ _ _)
  have counted_idle : counted.engine i e = Engine.idle :=
    (State.engine_of_pipes ((State.raise_pipes _ _ _ _).trans (State.bump_pipes _ _ _))).trans left_idle
  have metered_idle : metered.2.engine i e = Engine.idle := (State.excMeter_engine _ _ _).trans counted_idle
  split
  · exact (State.engine_of_engines (by rw [State.pipe_setPipe_self])).trans metered_idle
  · exact (State.engine_of_pipes ((State.raise_pipes _ _ _ _).trans (State.bump_pipes _ _ _))).trans metered_idle
end

/-! ## An engine with a fetched word (R141, R148) -/

/-- The engine, as it is once its packet is met, is busy, its pipeline runs, and its budget leaves room for the instruction fetched. -/
structure Fetched (s u : State) (i : Fin 16) (e : Fin 64) (x : Engine) (w : Nat) : Prop where
  met : u = s.parseMeet i e
  engine : x = u.engine i e
  busy : x.busy = true
  runs : u.rgnRuns (pipeRegion i) = true
  budget : x.count < 96
  word : w = u.parseWord i e

section
variable {s u : State} {i : Fin 16} {e : Fin 64} {x z : Engine} {w opc : Nat} {c : Instr} {f : Nat → Engine → Option Engine}

theorem Fetched.parseStep_legal (h : Fetched s u i e x w) (hop : natField w 27 5 = opc) (hlt : opc < 0x0F)
    (hf : f w { x with pc := (x.pc + 1) % 2048 } = some z) :
    s.parseStep i e opc f = (u.setEngine i e { z with count := x.count + 1 }).bump64 (A.ip i R.PIPE_PARSE_INSTR) :=
  State.peStep_ok h.met h.engine h.busy h.runs h.budget h.word hop hlt hf

theorem Fetched.parseStep_illegal (h : Fetched s u i e x w) (hop : natField w 27 5 = opc) (hlt : opc < 0x0F)
    (hf : f w { x with pc := (x.pc + 1) % 2048 } = none) : s.parseStep i e opc f = u.takeExc i e 2 :=
  State.peStep_bad h.met h.engine h.busy h.runs h.budget h.word hop hlt hf

/-- A legal instruction stores the engine it answers, its PC and count moved on, and is counted. -/
theorem Fetched.exec_legal (h : Fetched s u i e x w) {run : Engine → State}
    (hrun : ∀ z, run z = (u.setEngine i e z).bump64 (A.ip i R.PIPE_PARSE_INSTR)) (hop : natField w 27 5 = opc) (hlt : opc < 0x0F)
    (hf : f w { x with pc := (x.pc + 1) % 2048 } = some z) (hc : exec c s = .next (s.parseStep i e opc f)) :
    exec c s = .next (run { z with count := x.count + 1 }) := by
  rw [hc, h.parseStep_legal hop hlt hf, hrun]

theorem Fetched.exec_illegal (h : Fetched s u i e x w) {ill : Host.Outcome State Fault Refusal} (hill : ill = .next (u.takeExc i e 2))
    (hop : natField w 27 5 = opc) (hlt : opc < 0x0F) (hf : f w { x with pc := (x.pc + 1) % 2048 } = none)
    (hc : exec c s = .next (s.parseStep i e opc f)) : exec c s = ill := by
  rw [hc, h.parseStep_illegal hop hlt hf, hill]
end

/-! ## A command whose instruction is not executed -/

section
variable {s u : State} {i : Fin 16} {e : Fin 64} {x : Engine} {w opc : Nat} {f : Nat → Engine → Option Engine}

theorem State.parseStep_idle (hu : u = s.parseMeet i e) (h : (u.engine i e).busy = false ∨ u.rgnRuns (pipeRegion i) = false) :
    s.parseStep i e opc f = u := by
  unfold State.parseStep
  dsimp only
  rw [← hu]
  refine if_pos ?_
  rcases h with h | h
  · simp [h]
  · simp [h]

theorem State.parseStep_overBudget (hu : u = s.parseMeet i e) (hbusy : (u.engine i e).busy = true)
    (hruns : u.rgnRuns (pipeRegion i) = true) (h : 96 ≤ (u.engine i e).count) : s.parseStep i e opc f = u.takeExc i e 1 := by
  unfold State.parseStep
  dsimp only
  rw [← hu, if_neg (by simp [hbusy, hruns]), if_pos h]

/-- A fetched word of no instruction of this opcode: one of another's does nothing, one of none's is illegal. -/
theorem Fetched.parseStep_unlike (h : Fetched s u i e x w) (hop : 0x0F ≤ natField w 27 5 ∨ natField w 27 5 ≠ opc) :
    s.parseStep i e opc f = if 0x0F ≤ natField w 27 5 then u.takeExc i e 2 else u := by
  obtain ⟨hu, hx, hbusy, hruns, hbudget, hw⟩ := h
  unfold State.parseStep
  dsimp only
  rw [← hu, ← hx, ← hw, if_neg (by simp [hbusy, hruns]), if_neg (by omega)]
  split
  · rfl
  · rename_i hdefined
    exact if_pos (hop.resolve_left hdefined)
end

end Sys2Proof.Machine
end

section
/-! PROOF. The parse instructions NOP to HSEL (R147 to R152, R155): what each answers for a legal word and that it answers nothing for an
illegal one. -/

namespace Sys2Proof.Machine

@[simp] theorem zeroField_iff {w lo n : Nat} : zeroField w lo n = true ↔ natField w lo n = 0 := beq_iff_eq

@[simp] theorem zeroField_eq_false {w lo n : Nat} : zeroField w lo n = false ↔ natField w lo n ≠ 0 := beq_eq_false_iff_ne

section
variable {w : Nat} {x : Engine}

theorem parseNopF_legal (h : natField w 0 27 = 0) : parseNopF w x = some x := if_pos (zeroField_iff.2 h)

theorem parseNopF_illegal (h : natField w 0 27 ≠ 0) : parseNopF w x = none := if_neg (by simpa using h)

theorem parseExtF_legal (h : natField w 0 6 = 0) {r : List Byte × Nat} (hr : r = winBytes x.pkt (x.cursor + natField w 16 8) 4) :
    parseExtF w x = some (({ x with pkt := hvOrFlags x.pkt r.2 } : Engine).setReg (natField w 24 3)
      (beNat r.1 / 2 ^ natField w 11 5 % 2 ^ (natField w 6 5 + 1))) := hr ▸ if_pos (zeroField_iff.2 h)

theorem parseExtF_illegal (h : natField w 0 6 ≠ 0) : parseExtF w x = none := if_neg (by simpa using h)

theorem parseHvxF_legal (h : natField w 0 8 = 0) (hw : hvWritable (natField w 20 7) (natField w 8 4 + 1) = true) {r : List Byte × Nat}
    (hr : r = winBytes x.pkt (x.cursor + natField w 12 8) (natField w 8 4 + 1)) :
    parseHvxF w x = some { x with pkt := hvPut (hvOrFlags x.pkt r.2) (natField w 20 7) r.1 } := hr ▸ if_pos (by simp [h, hw])

theorem parseHvxF_illegal (h : natField w 0 8 ≠ 0 ∨ hvWritable (natField w 20 7) (natField w 8 4 + 1) = false) :
    parseHvxF w x = none := by
  refine if_neg ?_
  rcases h with h | h
  · simp [h]
  · simp [h]

theorem parseHvrF_legal (h : natField w 0 15 = 0) (hw : hvWritable (natField w 20 7) (natField w 15 2 + 1) = true) :
    parseHvrF w x = some { x with pkt := hvPut x.pkt (natField w 20 7) (beBytes (natField w 15 2 + 1) (x.reg (natField w 17 3))) } :=
  if_pos (by simp [h, hw])

theorem parseHvrF_illegal (h : natField w 0 15 ≠ 0 ∨ hvWritable (natField w 20 7) (natField w 15 2 + 1) = false) :
    parseHvrF w x = none := by
  refine if_neg ?_
  rcases h with h | h
  · simp [h]
  · simp [h]

theorem parseLdiF_legal (h : natField w 16 7 = 0) : parseLdiF w x = some (x.setReg (natField w 24 3)
    (if natBit w 23 then natField w 0 16 * 65536 + x.reg (natField w 24 3) % 65536 else natField w 0 16)) := if_pos (zeroField_iff.2 h)

theorem parseLdiF_illegal (h : natField w 16 7 ≠ 0) : parseLdiF w x = none := if_neg (by simpa using h)

theorem parseAluF_immediate (hi : natBit w 17 = true) (h : natField w 14 3 = 0) : parseAluF w x =
    some (x.setReg (natField w 24 3) (aluOp (natField w 18 3) (x.reg (natField w 21 3)) (natField w 0 14))) := by
  unfold parseAluF
  rw [if_neg (by simp [h]), if_pos hi]

theorem parseAluF_register (hi : natBit w 17 = false) : parseAluF w x =
    some (x.setReg (natField w 24 3) (aluOp (natField w 18 3) (x.reg (natField w 21 3)) (x.reg (natField w 14 3)))) := by
  unfold parseAluF
  rw [if_neg (by simp [hi]), if_neg (by simp [hi])]

theorem parseAluF_illegal (hi : natBit w 17 = true) (h : natField w 14 3 ≠ 0) : parseAluF w x = none := if_pos (by simp [hi, h])

theorem parseCmpF_legal (h : natField w 16 4 = 0) (hb : natBit w 20 = true ∨ natField w 0 16 = 0) {b : Nat}
    (hv : b = if natBit w 20 then natField w 0 16 else x.reg (natField w 21 3)) :
    parseCmpF w x = some { x with eq := x.reg (natField w 24 3) == b, lt := decide (x.reg (natField w 24 3) < b) } :=
  hv ▸ if_pos (by simp [h, hb])

theorem parseCmpF_illegal (h : natField w 16 4 ≠ 0 ∨ (natBit w 20 = false ∧ natField w 0 16 ≠ 0)) : parseCmpF w x = none := by
  refine if_neg ?_
  rcases h with h | ⟨hi, h⟩
  · simp [h]
  · simp [hi, h]

theorem parseBrF_taken (hcond : natField w 24 3 ≠ 7) (h : natField w 11 13 = 0) (ht : brTaken (natField w 24 3) x.eq x.lt = true) :
    parseBrF w x = some { x with pc := natField w 0 11 } := by
  unfold parseBrF
  rw [if_neg (by simp [hcond, h]), if_pos ht]

theorem parseBrF_passed (hcond : natField w 24 3 ≠ 7) (h : natField w 11 13 = 0) (ht : ¬ brTaken (natField w 24 3) x.eq x.lt = true) :
    parseBrF w x = some x := by
  unfold parseBrF
  rw [if_neg (by simp [hcond, h]), if_neg ht]

theorem parseBrF_illegal (h : natField w 24 3 = 7 ∨ natField w 11 13 ≠ 0) : parseBrF w x = none := if_pos (by simpa using h)

section
variable {s : State} {i : Nat}

theorem parseSwtF_found (h : natField w 11 5 = 0) {t : Nat}
    (ht : s.swtFind i x.pkt.ver (natField w 16 8) (x.reg (natField w 24 3) % 65536) = some t) :
    parseSwtF s i w x = some { x with cursor := cursorAdd x.cursor (natField t 4 8), pc := natField t 12 11 } := by
  unfold parseSwtF
  rw [if_pos (zeroField_iff.2 h), ht]

theorem parseSwtF_default (h : natField w 11 5 = 0)
    (ht : s.swtFind i x.pkt.ver (natField w 16 8) (x.reg (natField w 24 3) % 65536) = none) :
    parseSwtF s i w x = some { x with pc := natField w 0 11 } := by
  unfold parseSwtF
  rw [if_pos (zeroField_iff.2 h), ht]

theorem parseSwtF_illegal (h : natField w 11 5 ≠ 0) : parseSwtF s i w x = none := if_neg (by simpa using h)

/-- SWT reads nothing but a table memory, which meeting a packet leaves as it was. -/
theorem State.swtFind_parseMeet (s : State) (i e : Nat) : (s.parseMeet i e).swtFind i = s.swtFind i := by
  unfold State.swtFind State.ipTab State.tabN State.tab
  rw [State.parseMeet_tabs]
end

theorem parseAdvF_legal (h : natField w 8 13 = 0) : parseAdvF w x = some { x with
    cursor := cursorAdd x.cursor (natField w 0 8 + (if natBit w 23 then x.reg (natField w 24 3) * 2 ^ natField w 21 2 else 0)) } :=
  if_pos (zeroField_iff.2 h)

theorem parseAdvF_illegal (h : natField w 8 13 ≠ 0) : parseAdvF w x = none := if_neg (by simpa using h)

theorem parseMarkF_legal (h : natField w 8 16 = 0) (hm : natBit x.marked (natField w 24 3) = false) {k : Pkt}
    (hk : k = (if 255 < x.cursor then hvOrFlags x.pkt 2 else x.pkt)) :
    parseMarkF w x = some { x with
      marked := x.marked ||| 2 ^ natField w 24 3
      pkt := hvSet (hvSet k (40 + 2 * natField w 24 3) (min x.cursor 255)) (41 + 2 * natField w 24 3) (natField w 0 8) } :=
  hk ▸ if_pos (by simp [h, hm])

theorem parseMarkF_illegal (h : natField w 8 16 ≠ 0 ∨ natBit x.marked (natField w 24 3) = true) : parseMarkF w x = none := by
  refine if_neg ?_
  rcases h with h | h
  · simp [h]
  · simp [h]

theorem parseFlagF_legal (h : natField w 16 10 = 0) (h0 : natField w 0 4 = 0) : parseFlagF w x = some { x with
    pkt := hvSetFlags x.pkt (if natBit w 26 then hvFlags x.pkt &&& (65535 - natField w 4 12 * 16)
                             else hvFlags x.pkt ||| natField w 4 12 * 16) } := if_pos (by simp [h, h0])

theorem parseFlagF_illegal (h : natField w 16 10 ≠ 0 ∨ natField w 0 4 ≠ 0) : parseFlagF w x = none := by
  refine if_neg ?_
  rcases h with h | h
  · simp [h]
  · simp [h]

theorem parseHselF_hash0 (h : natField w 6 20 = 0) (hb : ¬ natBit w 26 = true) :
    parseHselF w x = some { x with hsel0 := some (natField w 0 6) } := by
  unfold parseHselF
  rw [if_pos (zeroField_iff.2 h), if_neg hb]

theorem parseHselF_hash1 (h : natField w 6 20 = 0) (hb : natBit w 26 = true) :
    parseHselF w x = some { x with hsel1 := some (natField w 0 6) } := by
  unfold parseHselF
  rw [if_pos (zeroField_iff.2 h), if_pos hb]

theorem parseHselF_illegal (h : natField w 6 20 ≠ 0) : parseHselF w x = none := if_neg (by simpa using h)
end

/-- Settles O29: a legal word by `Fetched.exec_legal`, an illegal one by `Fetched.exec_illegal`, with what each instruction answers. -/
theorem parseInstructionsExecute : Obligations.ParseInstructionsExecute := by
  intro s i e u x y w run ill hu hx hbusy hruns hbudget hw hy hrun hill
  subst hy
  have h : Fetched s u i e x w := ⟨hu, hx, hbusy, hruns, hbudget, hw⟩
  have table : u.swtFind i = s.swtFind i := hu ▸ State.swtFind_parseMeet s i e
  refine ⟨fun hop => ⟨fun hres => ?_, fun hbad => ?_⟩, fun hop => ⟨fun hres r hr => ?_, fun hbad => ?_⟩,
    fun hop => ⟨fun hres hfit r hr => ?_, fun hbad => ?_⟩, fun hop => ⟨fun hres hfit => ?_, fun hbad => ?_⟩,
    fun hop => ⟨fun hres => ?_, fun hbad => ?_⟩,
    fun hop => ⟨fun himm hres => ?_, fun himm hbad => ?_, fun hreg => ?_⟩,
    fun hop b hb => ⟨fun hres hform => ?_, fun hbad => ?_⟩, fun hop => ⟨fun hcond hres => ?_, fun hbad => ?_⟩,
    fun hop => ⟨fun hres => ⟨fun t ht => ?_, fun ht => ?_⟩, fun hbad => ?_⟩,
    fun hop => ⟨fun hres => ?_, fun hbad => ?_⟩, fun hop k hk => ⟨fun hres hnew => ?_, fun hbad => ?_⟩,
    fun hop => ⟨fun hres hres' => ?_, fun hbad => ?_⟩, fun hop => ⟨fun hres => ?_, fun hbad => ?_⟩⟩
  · exact h.exec_legal hrun hop (by decide) (parseNopF_legal hres) rfl
  · exact h.exec_illegal hill hop (by decide) (parseNopF_illegal hbad) rfl
  · exact h.exec_legal hrun hop (by decide) (parseExtF_legal hres hr) rfl
  · exact h.exec_illegal hill hop (by decide) (parseExtF_illegal hbad) rfl
  · exact h.exec_legal hrun hop (by decide) (parseHvxF_legal hres hfit hr) rfl
  · exact h.exec_illegal hill hop (by decide) (parseHvxF_illegal hbad) rfl
  · exact h.exec_legal hrun hop (by decide) (parseHvrF_legal hres hfit) rfl
  · exact h.exec_illegal hill hop (by decide) (parseHvrF_illegal hbad) rfl
  · exact h.exec_legal hrun hop (by decide) (parseLdiF_legal hres) rfl
  · exact h.exec_illegal hill hop (by decide) (parseLdiF_illegal hbad) rfl
  · exact h.exec_legal hrun hop (by decide) (parseAluF_immediate himm hres) rfl
  · exact h.exec_illegal hill hop (by decide) (parseAluF_illegal himm hbad) rfl
  · exact h.exec_legal hrun hop (by decide) (parseAluF_register hreg) rfl
  · exact h.exec_legal hrun hop (by decide) (parseCmpF_legal hres hform hb) rfl
  · exact h.exec_illegal hill hop (by decide) (parseCmpF_illegal hbad) rfl
  · split
    · rename_i htaken
      exact h.exec_legal hrun hop (by decide) (parseBrF_taken hcond hres htaken) rfl
    · rename_i hpassed
      exact h.exec_legal hrun hop (by decide) (parseBrF_passed hcond hres hpassed) rfl
  · exact h.exec_illegal hill hop (by decide) (parseBrF_illegal hbad) rfl
  · exact h.exec_legal hrun hop (by decide) (parseSwtF_found hres (table ▸ ht)) rfl
  · exact h.exec_legal hrun hop (by decide) (parseSwtF_default hres (table ▸ ht)) rfl
  · exact h.exec_illegal hill hop (by decide) (parseSwtF_illegal (s := s) (i := i) hbad) rfl
  · exact h.exec_legal hrun hop (by decide) (parseAdvF_legal hres) rfl
  · exact h.exec_illegal hill hop (by decide) (parseAdvF_illegal hbad) rfl
  · exact h.exec_legal hrun hop (by decide) (parseMarkF_legal (x := { x with pc := (x.pc + 1) % 2048 }) hres hnew hk) rfl
  · exact h.exec_illegal hill hop (by decide) (parseMarkF_illegal hbad) rfl
  · exact h.exec_legal hrun hop (by decide) (parseFlagF_legal hres hres') rfl
  · exact h.exec_illegal hill hop (by decide) (parseFlagF_illegal hbad) rfl
  · split
    · rename_i hsecond
      exact h.exec_legal hrun hop (by decide) (parseHselF_hash1 hres hsecond) rfl
    · rename_i hfirst
      exact h.exec_legal hrun hop (by decide) (parseHselF_hash0 hres hfirst) rfl
  · exact h.exec_illegal hill hop (by decide) (parseHselF_illegal hbad) rfl

end Sys2Proof.Machine
end

section
/-! PROOF. The start and the end of a parse (R140, R143, R144, R153, R154): dispatch, the commands EXC and DONE, and what all fifteen
commands have in common. -/

namespace Sys2Proof.Machine

section
variable {s u t : State} {i : Fin 16} {e : Fin 64} {x : Engine} {w : Nat}

/-! ## Dispatch (R140, R143, R144) -/

theorem exec_parseDispatch_waits
    (h : (s.pipe i).fifo = [] ∨ (∀ e, e < 64 → (s.engine i e).busy = true) ∨ s.rgnRuns (pipeRegion i) = false) :
    exec (.parseDispatch i) s = .next s := by
  show execParseDispatch i s = _
  unfold execParseDispatch
  split
  · rename_i k r n hfifo hfree
    have free : n < 64 ∧ (s.engine i n).busy = false := by
      have hmem := List.mem_of_find?_eq_some hfree
      have hpred := List.find?_some hfree
      simpa using And.intro hmem hpred
    have stopped : s.rgnRuns (pipeRegion i) = false := by
      rcases h with hempty | hbusy | hruns
      · simp [hempty] at hfifo
      · simp [hbusy n free.1] at free
      · exact hruns
    exact if_neg (by simp [stopped])
  · rfl

theorem exec_parseDispatch_taken {k k' : Pkt} {r : List Pkt} {n : Nat} (hfifo : (s.pipe i).fifo = k :: r)
    (hfree : (List.range 64).find? (fun e => !(s.engine i e).busy) = some n) (hruns : s.rgnRuns (pipeRegion i) = true)
    (hmeet : s.meetPkt k = (k', u)) :
    exec (.parseDispatch i) s = .next ((u.setPipe i { u.pipe i with fifo := r, order := (u.pipe i).order ++ [.running n] }).setEngine i n
      { Engine.idle with
        busy := true
        pkt := hvStart k'
        pc := u.fld (A.ip i (R.PIPE_PARSE_ENTRY + 16 * (if k'.ver then 1 else 0) + 4 * k'.kind)) 0 11
        g := [0, 0, 0, 0, 0, 0, 0, k'.bytes.length] }) := by
  show execParseDispatch i s = _
  unfold execParseDispatch
  rw [hfifo, hfree]
  dsimp only
  rw [if_pos hruns, hmeet]

/-! ## EXC and DONE (R153, R154) -/

/-- EXC is legal with a reason from 0x10 on, DONE with any classification. -/
def parseExcF (w : Nat) (x : Engine) : Option Engine := if zeroField w 8 19 && decide (0x10 ≤ natField w 0 8) then some x else none
def parseDoneF (w : Nat) (x : Engine) : Option Engine := if zeroField w 8 19 then some x else none

theorem parseExcF_legal (h : natField w 8 19 = 0) (hr : 0x10 ≤ natField w 0 8) : parseExcF w x = some x := if_pos (by simp [h, hr])

theorem parseExcF_illegal (h : natField w 8 19 ≠ 0 ∨ natField w 0 8 < 0x10) : parseExcF w x = none := by
  refine if_neg ?_
  rcases h with h | h
  · simp [h]
  · simp [Nat.not_le.2 h]

theorem parseDoneF_legal (h : natField w 8 19 = 0) : parseDoneF w x = some x := if_pos (zeroField_iff.2 h)

theorem parseDoneF_illegal (h : natField w 8 19 ≠ 0) : parseDoneF w x = none := if_neg (by simpa using h)

/-- After the step to `t` the engine is still busy and has executed one instruction more: the sign by which EXC and DONE take effect. -/
def ParseExecuted (s t : State) (i : Fin 16) (e : Fin 64) : Prop :=
  (t.engine i e).busy = true ∧ ((s.parseMeet i e).engine i e).count < (t.engine i e).count

theorem not_parseExecuted_parseMeet : ¬ ParseExecuted s (s.parseMeet i e) i e := fun ⟨_, hcount⟩ => Nat.lt_irrefl _ hcount

theorem not_parseExecuted_takeExc (u : State) (reason : Nat) : ¬ ParseExecuted s (u.takeExc i e reason) i e := by
  unfold ParseExecuted
  rw [State.takeExc_engine]
  exact fun ⟨hbusy, _⟩ => Bool.noConfusion hbusy

theorem Fetched.parseExecuted (h : Fetched s u i e x w)
    (ht : t = (u.setEngine i e { x with pc := (x.pc + 1) % 2048, count := x.count + 1 }).bump64 (A.ip i R.PIPE_PARSE_INSTR)) :
    ParseExecuted s t i e := by
  have moved : t.engine i e = { x with pc := (x.pc + 1) % 2048, count := x.count + 1 } := by
    rw [ht, State.bump64_engine, State.engine_setEngine_self]
  unfold ParseExecuted
  rw [moved, ← h.met, ← h.engine]
  exact ⟨h.busy, Nat.lt_succ_self _⟩

theorem exec_parseExc_executed (ht : s.parseStep i e 0x0D parseExcF = t) (h : ParseExecuted s t i e) :
    exec (.parseExc i e) s = .next (t.takeExc i e (natField ((s.parseMeet i e).parseWord i e) 0 8)) := by
  rw [← State.parseStep_parseMeet] at ht
  subst ht
  exact if_pos h

theorem exec_parseExc_stopped (ht : s.parseStep i e 0x0D parseExcF = t) (h : ¬ ParseExecuted s t i e) :
    exec (.parseExc i e) s = .next t := by
  rw [← State.parseStep_parseMeet] at ht
  subst ht
  exact if_neg h

theorem exec_parseDone_executed (ht : s.parseStep i e 0x0E parseDoneF = t) (h : ParseExecuted s t i e) :
    exec (.parseDone i e) s = .next (t.parseDone i e (natField ((s.parseMeet i e).parseWord i e) 0 8)) := by
  rw [← State.parseStep_parseMeet] at ht
  subst ht
  exact if_pos h

theorem exec_parseDone_stopped (ht : s.parseStep i e 0x0E parseDoneF = t) (h : ¬ ParseExecuted s t i e) :
    exec (.parseDone i e) s = .next t := by
  rw [← State.parseStep_parseMeet] at ht
  subst ht
  exact if_neg h

/-! ## The fifteen commands -/

/-- The commands of a parse engine with their opcodes. -/
def parseCommands (i : Fin 16) (e : Fin 64) : List (Nat × Instr) :=
  [(0, .parseNop i e), (1, .parseExt i e), (2, .parseHvx i e), (3, .parseHvr i e), (4, .parseLdi i e), (5, .parseAlu i e),
    (6, .parseCmp i e), (7, .parseBr i e), (8, .parseSwt i e), (9, .parseAdv i e), (10, .parseMark i e), (11, .parseFlag i e),
    (12, .parseHsel i e), (13, .parseExc i e), (14, .parseDone i e)]

/-- Where the step does not turn on what the instruction itself does, and executes nothing, the command does that step. -/
theorem exec_parseCommand {q : Nat × Instr} (hq : q ∈ parseCommands i e) (hstep : ∀ f, s.parseStep i e q.1 f = t)
    (h : ¬ ParseExecuted s t i e) : exec q.2 s = .next t := by
  revert q
  simp only [parseCommands, List.forall_mem_cons]
  refine ⟨fun hstep => congrArg _ (hstep _), fun hstep => congrArg _ (hstep _), fun hstep => congrArg _ (hstep _),
    fun hstep => congrArg _ (hstep _), fun hstep => congrArg _ (hstep _), fun hstep => congrArg _ (hstep _),
    fun hstep => congrArg _ (hstep _), fun hstep => congrArg _ (hstep _), fun hstep => congrArg _ (hstep _),
    fun hstep => congrArg _ (hstep _), fun hstep => congrArg _ (hstep _), fun hstep => congrArg _ (hstep _),
    fun hstep => congrArg _ (hstep _), fun hstep => exec_parseExc_stopped (hstep _) h,
    fun hstep => exec_parseDone_stopped (hstep _) h, by simp⟩
end

/-- Settles O30: dispatch from its definition, the fifteen commands by `exec_parseCommand`, EXC and DONE by the lemmas about them. -/
theorem parsesStartAndEnd : Obligations.ParsesStartAndEnd := by
  intro s i
  refine ⟨fun k r n hfifo hfree hruns k' u hmeet => ⟨_, rfl, exec_parseDispatch_taken hfifo hfree hruns hmeet⟩,
    exec_parseDispatch_waits, fun e u x w hu hx hw => ?_⟩
  have fetched : x.busy = true → u.rgnRuns (pipeRegion i) = true → x.count < 96 → Fetched s u i e x w :=
    fun hbusy hruns hbudget => ⟨hu, hx, hbusy, hruns, hbudget, hw⟩
  have quiet : ¬ ParseExecuted s u i e := hu ▸ not_parseExecuted_parseMeet
  have excepted : ∀ reason, ¬ ParseExecuted s (u.takeExc i e reason) i e := not_parseExecuted_takeExc u
  refine ⟨fun q hq => ?_, fun hbusy hruns hbudget y hy => ?_⟩
  · refine ⟨fun hidle => ?_, fun hbusy hruns => ⟨fun hover => ?_, fun hbudget hundef => ?_, fun hbudget hdef hother => ?_⟩⟩
    · exact exec_parseCommand hq (fun _ => State.parseStep_idle hu (hx ▸ hidle)) quiet
    · exact exec_parseCommand hq (fun _ => State.parseStep_overBudget hu (hx ▸ hbusy) hruns (hx ▸ hover)) (excepted _)
    · exact exec_parseCommand hq
        (fun _ => ((fetched hbusy hruns hbudget).parseStep_unlike (.inl hundef)).trans (if_pos hundef)) (excepted _)
    · exact exec_parseCommand hq
        (fun _ => ((fetched hbusy hruns hbudget).parseStep_unlike (.inr hother)).trans (if_neg (Nat.not_le.2 hdef))) quiet
  · have h := fetched hbusy hruns hbudget
    have executed : ParseExecuted s y i e := h.parseExecuted hy
    have word : (s.parseMeet i e).parseWord i e = w := by rw [hw, hu]
    refine ⟨fun hop => ⟨fun hres hreason => ?_, fun hbad => ?_⟩, fun hop => ⟨fun hres => ?_, fun hbad => ?_⟩⟩
    · rw [← word]
      exact exec_parseExc_executed ((h.parseStep_legal hop (by decide) (parseExcF_legal hres hreason)).trans hy.symm) executed
    · exact exec_parseExc_stopped (h.parseStep_illegal hop (by decide) (parseExcF_illegal hbad)) (excepted _)
    · rw [← word]
      exact exec_parseDone_executed ((h.parseStep_legal hop (by decide) (parseDoneF_legal hres)).trans hy.symm) executed
    · exact exec_parseDone_stopped (h.parseStep_illegal hop (by decide) (parseDoneF_illegal hbad)) (excepted _)

end Sys2Proof.Machine
end

section
/-! PROOF. The search of an associative array (R207, R213, R220): which entries take part, which of them wins, and what a search answers
whose winner the shadow confirms. -/

namespace Sys2Proof.Machine

/-! ## The places of a partition (R207) -/

/-- The fields of a partition word keep its places far below the range of one table. -/
theorem partEnd_lt (p : Nat) : partEnd p < 2 ^ 40 := by
  have hbase : partBase p < 2 ^ 13 := Nat.mod_lt _ (Nat.two_pow_pos _)
  have hcount : partCount p < 2 ^ 14 := Nat.mod_lt _ (Nat.two_pow_pos _)
  unfold partEnd
  omega

section
variable {s : State} {a : ArrayRef} {p key i w : Nat} {odd : Bool}

theorem State.mem_partEntries_iff : i ∈ s.partEntries a p ↔
    partFirst p ≤ i ∧ i < partEnd p ∧ ∃ e, (i, e) ∈ s.tabListed (arrRegion a) (arrBlock a) 0x62 := by
  simp only [State.partEntries, List.mem_map, List.mem_filter, Bool.and_eq_true, decide_eq_true_eq]
  constructor
  · rintro ⟨⟨i, e⟩, ⟨hlisted, hfirst, hend⟩, rfl⟩
    exact ⟨hfirst, hend, e, hlisted⟩
  · rintro ⟨hfirst, hend, e, hlisted⟩
    exact ⟨(i, e), ⟨hlisted, hfirst, hend⟩, rfl⟩

/-- In canonical stores a place of the partition is listed as soon as its words are not all 0. -/
theorem State.mem_partEntries (hs : s.storesWf = true) (hfirst : partFirst p ≤ i) (hend : i < partEnd p) (hw : s.ascWords a i ≠ 0) :
    i ∈ s.partEntries a p :=
  State.mem_partEntries_iff.2 ⟨hfirst, hend, State.mem_tabListed hs (Nat.lt_trans hend (partEnd_lt p)) hw⟩

/-! ## Which entries take part (R213) -/

theorem ne_zero_of_natBit {n k : Nat} (h : natBit n k = true) : n ≠ 0 := by
  rintro rfl
  simp [natBit] at h

/-- The VMASK bit of a version is the bit of the entry's words at the version's number. -/
theorem natBit_awVmask (n : Nat) (odd : Bool) :
    natBit (awVmask n) (if odd then 1 else 0) = natBit n (if odd then 1 else 0) := by
  have hlow : (if odd then 1 else 0) < 2 := by cases odd <;> decide
  rw [natBit_eq_testBit, natBit_eq_testBit, awVmask, show 4 = 2 ^ 2 from rfl, Nat.testBit_mod_two_pow, decide_eq_true hlow,
    Bool.true_and]

/-- For a key stored without bits outside its mask (R211), a match is agreement at every bit of the mask. -/
theorem ascTakesPart_iff {e : AscEnt} (hkey : e.key &&& e.mask = e.key) : ascTakesPart e key odd = true ↔
    natBit (awVmask e.words) (if odd then 1 else 0) = true ∧ awMasked e.words = false ∧
      ∀ b, e.mask.testBit b = true → key.testBit b = e.key.testBit b := by
  rw [natBit_awVmask, ← and_mask_iff hkey]
  simp only [ascTakesPart, Bool.and_eq_true, Bool.not_eq_true', beq_iff_eq, and_assoc]

/-- Only an entry with a VMASK bit takes part, so the search misses none by looking at listed places alone. -/
theorem State.mem_ascMatches_iff (hs : s.storesWf = true) : i ∈ s.ascMatches a p key odd ↔
    partFirst p ≤ i ∧ i < partEnd p ∧ ascTakesPart (s.ascEnt a i) key odd = true := by
  rw [State.ascMatches, List.mem_filter]
  constructor
  · rintro ⟨hmem, htakes⟩
    obtain ⟨hfirst, hend, -⟩ := State.mem_partEntries_iff.1 hmem
    exact ⟨hfirst, hend, htakes⟩
  · rintro ⟨hfirst, hend, htakes⟩
    have hvers : natBit (s.ascWords a i) (if odd then 1 else 0) = true := by
      simp only [ascTakesPart, Bool.and_eq_true] at htakes
      exact htakes.1.1
    exact ⟨State.mem_partEntries hs hfirst hend (ne_zero_of_natBit hvers), htakes⟩

theorem State.ascMatches_rising (hs : s.storesWf = true) : (s.ascMatches a p key odd).Pairwise (· < ·) :=
  (State.partEntries_rising hs a p).filter _

/-! ## The winner (R213) -/

/-- Two entries that each come before every other, by priority and then by index, are one: so the winner is the only such entry. -/
theorem State.ascBest_eq_some_iff {l : List Nat} (hl : l.Pairwise (· < ·)) : s.ascBest a l = some w ↔
    w ∈ l ∧ ∀ i ∈ l, s.ascPrio a i < s.ascPrio a w ∨ (s.ascPrio a i = s.ascPrio a w ∧ w ≤ i) := by
  refine ⟨State.ascBest_spec hl w, fun ⟨hw, hfirst⟩ => ?_⟩
  obtain ⟨j, hbest⟩ := State.ascBest_some (s := s) (a := a) hw
  obtain ⟨hj, hjfirst⟩ := State.ascBest_spec hl j hbest
  have hjw := hfirst j hj
  have hwj := hjfirst w hw
  rw [hbest, show j = w by omega]

/-! ## What a search answers (R220) -/

/-- Counting a tie changes no table, so the shadow confirms the winner as it stood before the search. -/
theorem ascSearchN_confirmed (n : Nat) (hw : s.ascBest a (s.ascMatches a p key odd) = some w) (hgood : s.arrTab a shBadCode w = 0)
    (hagrees : key &&& s.arrTab a shMaskCode w = s.arrTab a shKeyCode w) :
    ascSearchN a p key odd (n + 1) s = (.hit w, s.ascTie a w (s.ascMatches a p key odd)) := by
  have htabs := State.arrTab_of_tabs (State.ascTie_tabs s a w (s.ascMatches a p key odd)) a
  simp [ascSearchN, hw, htabs, hgood, hagrees]

theorem ascSearchN_miss (n : Nat) (h : s.ascMatches a p key odd = []) : ascSearchN a p key odd (n + 1) s = (.miss, s) := by
  simp [ascSearchN, h, State.ascBest]

end

/-- Settles O35: the entries by `mem_ascMatches_iff` and `ascTakesPart_iff`, the winner by `ascBest_eq_some_iff`, the answers by the two
lemmas about `ascSearchN`. -/
theorem searchWinnerHasHighestPriorityLowestIndex : Obligations.SearchWinnerHasHighestPriorityLowestIndex := by
  intro s a p key odd hs hkeys
  refine ⟨fun i => ?_, fun w => State.ascBest_eq_some_iff (State.ascMatches_rising hs), fun w => ascSearchN_confirmed 3,
    ascSearchN_miss 3⟩
  rw [State.mem_ascMatches_iff hs]
  exact and_congr_right fun _ => and_congr_right fun hend => ascTakesPart_iff (hkeys i hend)

end Sys2Proof.Machine
end

section
/-! PROOF. The commands of SYS_VER_CTRL (R231, R233, R241, R242): what each does where it is taken, and when it is refused. -/

namespace Sys2Proof.Machine

variable {s : State} {m : Master}

/-! ## Each command once the access checks have passed -/

theorem exec_verCommit (h : s.mayWrite m verCtrlA) : exec (.verCommit m) s = .next (s.verCtrl 1) :=
  congrArg Host.Outcome.next (State.asWrite_ok h)

theorem exec_verArm (h : s.mayWrite m verCtrlA) : exec (.verArm m) s = .next (s.verCtrl 2) :=
  congrArg Host.Outcome.next (State.asWrite_ok h)

theorem exec_verDisarm (h : s.mayWrite m verCtrlA) : exec (.verDisarm m) s = .next (s.verCtrl 3) :=
  congrArg Host.Outcome.next (State.asWrite_ok h)

theorem exec_forceRetire (h : s.mayWrite m verCtrlA) : exec (.forceRetire m) s = .next (s.verCtrl 4) :=
  congrArg Host.Outcome.next (State.asWrite_ok h)

theorem exec_pauseApply (h : s.mayWrite m verCtrlA) : exec (.pauseApply m) s = .next s.pauseApply :=
  congrArg Host.Outcome.next (State.asWrite_ok h)

/-! ## COMMIT and ARM -/

/-- Whatever state the other version is in but BUILD, nothing can be sealed. -/
theorem State.verNoSeal_iff : s.verNoSeal = true ↔ s.time.wtValid = false ∨ s.verOther ≠ 0 := by
  simp [State.verNoSeal]

theorem State.verCtrl_commit_refused (h : s.verNoSeal = true) : s.verCtrl 1 = s.verRefused := if_pos h

theorem State.verCtrl_commit_seals (h : s.verNoSeal = false) : s.verCtrl 1 = s.verSeal ((slotOf s.wt + 1) * lsbSlot) :=
  if_neg (by simp [h])

theorem State.verCtrl_arm_refused (h : s.verNoSeal = true ∨ s.instant (A.ver R.SYS_VER_AT_NS) % lsbSlot ≠ 0 ∨
    s.instant (A.ver R.SYS_VER_AT_NS) ≤ s.wt) : s.verCtrl 2 = s.verRefused :=
  if_pos (by simpa [or_assoc] using h)

theorem State.verCtrl_arm_seals (h : s.verNoSeal = false) (hstart : s.instant (A.ver R.SYS_VER_AT_NS) % lsbSlot = 0)
    (hlater : s.wt < s.instant (A.ver R.SYS_VER_AT_NS)) : s.verCtrl 2 = s.verSeal (s.instant (A.ver R.SYS_VER_AT_NS)) :=
  if_neg (by simp [h, hstart, hlater])

/-! ## DISARM and FORCE_RETIRE -/

theorem State.verCtrl_disarm_unarmed (h : s.ver.commitAt = none) : s.verCtrl 3 = s.verRefused := by
  simp only [State.verCtrl, h]

theorem State.verCtrl_disarm_late {t : Nat} (h : s.ver.commitAt = some t) (hpast : t ≤ s.wt) : s.verCtrl 3 = s.verRefused := by
  simp only [State.verCtrl, h, if_pos hpast]

theorem State.verCtrl_disarm_taken {t : Nat} (h : s.ver.commitAt = some t) (hahead : s.wt < t) :
    s.verCtrl 3 = State.setVerOther { s with ver := { s.ver with commitAt := none } } 0 := by
  simp only [State.verCtrl, h, if_neg (Nat.not_le.2 hahead)]

theorem State.verCtrl_forceRetire_refused (h : s.verOther ≠ 2) : s.verCtrl 4 = s.verRefused := if_neg h

/-- The count of the retired version, which is the one that is not current, restarts from 0 (R239). -/
theorem State.verCtrl_forceRetire_taken {t : State} (h : s.verOther = 2) (ht : t = s.verRetired true) : s.verCtrl 4 = { t with
    ver := if t.verOdd = true then { t.ver with inflEven := 0 } else { t.ver with inflOdd := 0 } } := by
  subst ht
  exact if_pos h

/-! ## PAUSE_APPLY -/

theorem State.pauseApply_running (h : s.ver.batch ≠ none) : s.pauseApply = s.verRefused :=
  if_pos (Option.isSome_iff_ne_none.2 h)

/-- The first entry that a check of R241 rejects is the one SYS_VER_PAUSE_STAT names. -/
theorem State.pauseApply_rejected {n : Nat} (h : s.ver.batch = none)
    (hbad : (List.range s.batchCount).find? (fun n => !s.batchOk (batchArgs (s.batchEntry n))) = some n) :
    s.pauseApply = s.wr (A.ver R.SYS_VER_PAUSE_STAT) (BitVec.ofNat 32 (4 + 16 * n)) := by
  simp [State.pauseApply, h, hbad]

theorem State.pauseApply_starts (h : s.ver.batch = none)
    (hgood : (List.range s.batchCount).find? (fun n => !s.batchOk (batchArgs (s.batchEntry n))) = none) :
    s.pauseApply = State.setRbit (State.wr { s with ver := { s.ver with
      batch := some (s.wt, s.fld (A.ver R.SYS_VER_PAUSE) 0 12, s.batchCount) } } (A.ver R.SYS_VER_PAUSE_STAT) 1) verStatA 3 true := by
  simp only [State.pauseApply, h, hgood]
  rfl

/-- Settles O38: each command by the lemmas about where it is taken and where it is refused. -/
theorem versionCommandsActOrAreRefused : Obligations.VersionCommandsActOrAreRefused := by
  intro s m hw
  rw [exec_verCommit hw, exec_verArm hw, exec_verDisarm hw, exec_forceRetire hw, exec_pauseApply hw]
  refine ⟨fun hclosed => ?_, fun hvalid hbuild => ?_, fun hnone => ?_, fun t harmed => ⟨fun hpast => ?_, fun hahead => ?_⟩,
    fun hother => ?_, fun hretiring t ht => ?_, fun hrunning => ?_, fun hidle => ⟨fun n hbad => ?_, fun hgood => ?_⟩⟩
  · have hno := State.verNoSeal_iff.2 hclosed
    rw [State.verCtrl_commit_refused hno, State.verCtrl_arm_refused (.inl hno)]
    exact ⟨rfl, rfl⟩
  · have hseal := State.verNoSeal_false hvalid hbuild
    refine ⟨⟨_, congrArg _ (State.verCtrl_commit_seals hseal), rfl,
      fun hrunning => State.verLocked_sealed (s := s.verSeal _) hrunning, lt_next_slot _⟩, ?_⟩
    rintro t rfl
    exact ⟨fun hbad => congrArg _ (State.verCtrl_arm_refused (.inr hbad)),
      fun hstart hlater => congrArg _ (State.verCtrl_arm_seals hseal hstart hlater)⟩
  · exact congrArg _ (State.verCtrl_disarm_unarmed hnone)
  · exact congrArg _ (State.verCtrl_disarm_late harmed hpast)
  · exact congrArg _ (State.verCtrl_disarm_taken harmed hahead)
  · exact congrArg _ (State.verCtrl_forceRetire_refused hother)
  · exact congrArg _ (State.verCtrl_forceRetire_taken hretiring ht)
  · exact congrArg _ (State.pauseApply_running hrunning)
  · exact congrArg _ (State.pauseApply_rejected hidle hbad)
  · exact congrArg _ (State.pauseApply_starts hidle hgood)

end Sys2Proof.Machine
end

section
/-! PROOF. Commits, retirement and host-slice batches (R228, R231, R234 to R242): when each takes place, and what it leaves. -/

namespace Sys2Proof.Machine

variable {s : State}

/-! ## SYS_VER_SEQ (R235) -/

theorem exec_verSeqWrite {m : Master} {v : Word} (h : s.mayWrite m (A.ver R.SYS_VER_SEQ)) :
    exec (.verSeqWrite m v) s = .next (s.verSeqWrite v.toNat) :=
  congrArg Host.Outcome.next (State.asWrite_ok h)

theorem State.verSeqWrite_build {v : Nat} (h : s.verOther = 0) :
    s.verSeqWrite v = (s.wr (A.ver R.SYS_VER_SEQ) (BitVec.ofNat 32 (v % 65536))).setFld verStatA 16 16 v := if_pos h

theorem State.verSeqWrite_refused {v : Nat} (h : s.verOther ≠ 0) : s.verSeqWrite v = s.verRefused := if_neg h

/-! ## The commit instant (R234) -/

/-- Nothing is armed after a commit, and every peer has yet to announce; only when condition 2 held depends on the state. -/
theorem State.commitNow_ver (s : State) (t : Nat) : ∃ c, (s.commitNow t).ver = { s.ver with
    commitAt := none, lastT := t, lateRaised := false, peers := [], skewed := [], cond2At := c } := by
  unfold State.commitNow
  extract_lets n stat seq _ cleared _ armed
  have harmed : ∃ c, armed.ver = { s.ver with
      commitAt := none, lastT := t, lateRaised := false, peers := [], skewed := [], cond2At := c } := by
    unfold armed
    split
    · exact ⟨some t, rfl⟩
    · exact ⟨none, rfl⟩
  rwa [State.verRaise, State.raise_ver]

/-- The versions change places, and the former current one retires (R231, R234). -/
theorem State.commitNow_current (s : State) (t : Nat) : (s.commitNow t).verOdd = (!s.verOdd) ∧ (s.commitNow t).verOther = 2 := by
  unfold State.commitNow
  extract_lets n stat seq _ cleared _ armed
  refine State.verStat_raise (s := s) (!s.verOdd) n (BitVec.ofNat 32 n) armed ?_
  unfold armed
  split <;> rfl

theorem exec_commitInstant_due {t : Nat} (h : s.ver.commitAt = some t) (hdue : s.instantDue t = true) :
    exec .commitInstant s = .next (s.commitNow t) := by
  show execCommitInstant s = _
  simp only [execCommitInstant, h, if_pos hdue]

theorem exec_commitInstant_early {t : Nat} (h : s.ver.commitAt = some t) (hearly : s.instantDue t = false) :
    exec .commitInstant s = .next s := by
  show execCommitInstant s = _
  simp [execCommitInstant, h, hearly]

theorem exec_commitInstant_unarmed (h : s.ver.commitAt = none) : exec .commitInstant s = .next s := by
  show execCommitInstant s = _
  simp only [execCommitInstant, h]

/-! ## Retirement (R238, R239) -/

theorem exec_retire_done (h : s.verOther = 2) (hinfl : s.infl (!s.verOdd) = 0) (hpeers : s.peersDrained = true) :
    exec .retire s = .next (s.verRetired false) := if_pos (by simp [h, hinfl, hpeers])

theorem exec_retire_waits (h : s.verOther ≠ 2 ∨ s.infl (!s.verOdd) ≠ 0 ∨ s.peersDrained = false) : exec .retire s = .next s := by
  refine if_neg fun hall => ?_
  simp only [Bool.and_eq_true, beq_iff_eq] at hall
  obtain ⟨⟨hother, hinfl⟩, hpeers⟩ := hall
  simp [hother, hinfl, hpeers] at h

theorem exec_retireLate_raises (h : s.verOther = 2) (honce : s.ver.lateRaised = false)
    (hlate : s.ver.lastT + s.fld (A.ver R.SYS_VER_RETIRE_LIMIT) 0 16 * 1000 * lsbUs ≤ s.wt) :
    exec .retireLate s = .next (State.verRaise { s with ver := { s.ver with lateRaised := true } } 2) := if_pos ⟨h, honce, hlate⟩

theorem exec_retireLate_waits (h : s.verOther ≠ 2 ∨ s.ver.lateRaised = true ∨
    s.wt < s.ver.lastT + s.fld (A.ver R.SYS_VER_RETIRE_LIMIT) 0 16 * 1000 * lsbUs) : exec .retireLate s = .next s := by
  refine if_neg fun ⟨hother, honce, hlate⟩ => ?_
  rcases h with h | h | h
  · exact h hother
  · simp [honce] at h
  · exact absurd hlate (Nat.not_le.2 h)

/-! ## Host-slice batches (R242) -/

section
variable {t0 slice n : Nat} (hbatch : s.ver.batch = some (t0, slice, n))
include hbatch

theorem exec_batchWrite_blocked (h : s.sliceAhead slice = true) : exec .batchWrite s = .next s := by
  show execBatchWrite s = _
  simp only [execBatchWrite, hbatch, if_pos h]

theorem exec_batchWrite_clear (h : s.sliceAhead slice = false) : exec .batchWrite s =
    .next ((((List.range n).foldl (fun x j => x.batchPut (batchArgs (x.batchEntry j))) s).batchEnd 0 t0).verRaise 7) := by
  show execBatchWrite s = _
  simp [execBatchWrite, hbatch, h]

theorem exec_pauseAbort_late (h : s.sliceAhead slice = true) (hlate : t0 + lsbUs ≤ s.wt) :
    exec .pauseAbort s = .next ((s.batchEnd 1 t0).verRaise 8) := by
  show execPauseAbort s = _
  simp only [execPauseAbort, hbatch, if_pos (And.intro h hlate)]

theorem exec_pauseAbort_waits (h : ¬ (s.sliceAhead slice = true ∧ t0 + lsbUs ≤ s.wt)) : exec .pauseAbort s = .next s := by
  show execPauseAbort s = _
  simp only [execPauseAbort, hbatch, if_neg h]
end

theorem exec_batchWrite_none (h : s.ver.batch = none) : exec .batchWrite s = .next s := by
  show execBatchWrite s = _
  simp only [execBatchWrite, h]

theorem exec_pauseAbort_none (h : s.ver.batch = none) : exec .pauseAbort s = .next s := by
  show execPauseAbort s = _
  simp only [execPauseAbort, h]

/-- Settles O39: a commit by `commitNow_ver` and `commitNow_current`, retirement and batches by the lemmas about their commands. -/
theorem commitsAndRetirementFollowTheirConditions : Obligations.CommitsAndRetirementFollowTheirConditions := by
  intro s
  refine ⟨fun m v hw => ?_, fun t harmed => ⟨fun hdue => ?_, exec_commitInstant_early harmed⟩, exec_commitInstant_unarmed,
    exec_retire_done, exec_retire_waits, exec_retireLate_raises, exec_retireLate_waits,
    fun t0 slice n hbatch => ⟨fun hahead => ?_, fun hclear => ?_⟩, fun hnone => ⟨exec_batchWrite_none hnone, exec_pauseAbort_none hnone⟩⟩
  · rw [exec_verSeqWrite hw]
    exact ⟨fun hbuild => congrArg _ (State.verSeqWrite_build hbuild), fun hother => congrArg _ (State.verSeqWrite_refused hother)⟩
  · obtain ⟨c, hver⟩ := s.commitNow_ver t
    exact ⟨_, exec_commitInstant_due harmed hdue, rfl, by rw [hver], by rw [hver], by rw [hver], by rw [hver],
      fun _ => s.commitNow_current t⟩
  · exact ⟨exec_batchWrite_blocked hbatch hahead, exec_pauseAbort_late hbatch hahead,
      fun hearly => exec_pauseAbort_waits hbatch fun ⟨_, hlate⟩ => absurd hlate (Nat.not_le.2 hearly)⟩
  · exact ⟨exec_pauseAbort_waits hbatch (by simp [hclear]), _, rfl, exec_batchWrite_clear hbatch hclear⟩

end Sys2Proof.Machine
end

section
/-! PROOF. The request a lookaside engine takes (R369 to R372): what it is processed with, and what GCM_DEC leaves where the tag fails. -/

namespace Sys2Proof.Machine

/-! ## A request that is read whole (R369, R370) -/

/-- The engine whose operation the request asks for processes it and posts the completion in the state that leaves. -/
theorem State.lkaRun_taken {s : State} {r ring : Nat} {x : LkaIo} {b : List Byte} {q : LkaReq} (op e : Nat)
    (hring : ring = s.ring r) (hturn : s.lkaTurn r = true) (hmeets : s.meets 8 2 = false)
    (hb : b = if rgHost ring = true then x.req else s.hbmBytes (rgReq ring + 64 * (s.lkaCi r % rgSize ring)) 64) (hlen : b.length = 64)
    (hread : rgHost ring = false → s.hbmMeets (rgReq ring + 64 * (s.lkaCi r % rgSize ring)) 64 = false) (hq : q = lkaReq b)
    (hop : q.op = op) (hfits : rgHost ring = true → x.fault = .ok → lkaInFits q x = true) :
    s.lkaRun op r e x = (s.lkaProcess ring q x).2.2.lkaComplete r e q (s.lkaProcess ring q x).1 (s.lkaProcess ring q x).2.1 := by
  subst hring
  have hclean : (!rgHost (s.ring r) && s.hbmMeets (rgReq (s.ring r) + 64 * (s.lkaCi r % rgSize (s.ring r))) 64) = false := by
    cases hhost : rgHost (s.ring r)
    · simp [hread hhost]
    · rfl
  have htaken : ¬ (b.length ≠ 64 ∨ ¬ (q.op = op ∨ q.op < 1 ∨ 6 < q.op) ∨
      (rgHost (s.ring r) && x.fault == .ok && !lkaInFits q x) = true) := by
    cases hhost : rgHost (s.ring r)
    · simp [hlen, hop]
    · simpa [hlen, hop] using hfits hhost
  simp only [State.lkaRun, hmeets, hturn, hclean, ← hb, ← hq, if_neg htaken, Bool.not_true, Bool.or_false, Bool.false_eq_true, if_false]

/-! ## A request that passes its checks (R371) -/

/-- What an engine computes from what it reads is written at DST. -/
theorem State.lkaProcess_computes {s t : State} {ring i : Nat} {x : LkaIo} {q : LkaReq} (hop : 1 ≤ q.op ∧ q.op ≤ 6)
    (hrsv : lkaReserved q = true) (hkey : keyRef q.ref = some i) (ht : t = s.raiseIf x.corrupt 8 0 1)
    (hslot : t.lkaSlot ring q i x.corrupt = 0) (hlen : lkaLen q = 0) (hhost : rgHost ring = true → x.fault = .ok)
    (hhbm : rgHost ring = false → t.lkaHbmFault q = false ∧ t.lkaUe q = false) :
    s.lkaProcess ring q x = ((t.lkaCompute q i (t.lkaIn ring q x)).1, q.len,
      t.lkaWrite ring q.dst (t.lkaCompute q i (t.lkaIn ring q x)).2) := by
  have hmeant : ¬ (q.op < 1 ∨ 6 < q.op ∨ lkaReserved q = false) := by
    rintro (hlow | hhigh | hnot)
    · omega
    · omega
    · simp [hrsv] at hnot
  simp only [State.lkaProcess, if_neg hmeant, hkey, ← ht, hslot, hlen, ne_eq, not_true_eq_false, if_false]
  cases h : rgHost ring
  · obtain ⟨hdown, hue⟩ := hhbm h
    simp [hdown, hue]
  · simp [hhost h]

/-! ## GCM_DEC whose tag fails (R372) -/

theorem State.lkaCompute_authFail {s : State} {q : LkaReq} {i : Nat} {d : LkaIn} (hop : q.op = 2)
    (hfail : gcmDec (ksKey (s.keySlot i)) (beNat (q.tail.take 12)) d.aad (d.src.take q.len) (d.src.drop q.len) = none) :
    s.lkaCompute q i d = (1, List.replicate q.len 0) := by
  simp only [State.lkaCompute, hop, hfail]

/-- Settles O49: the engine takes the request, its checks pass, and the LEN zeros of `lkaCompute_authFail` are what is written. -/
theorem authFailZeroesTheDestinationFirst : Obligations.AuthFailZeroesTheDestinationFirst := by
  intro s t r e x ring b q i d hring hturn hmeets hb hlen hread hq hop hrsv hkey ht hslot hlka hhost hhbm hd hfail
  have hrun := State.lkaRun_taken 2 e hring hturn hmeets hb hlen hread hq hop fun h _ => (hhost h).2
  rw [State.lkaProcess_computes (by omega) hrsv hkey ht hslot hlka (fun h => (hhost h).1) hhbm, ← hd,
    State.lkaCompute_authFail hop hfail] at hrun
  exact congrArg Host.Outcome.next hrun

end Sys2Proof.Machine
end

section
/-! PROOF. Inbound ESP (R366, R367, R456): which packets the engine takes, and what it makes of each. -/

namespace Sys2Proof.Machine

/-! ## What the engine makes of a packet whose bytes are good (R367) -/

/-- The plaintext of an inbound packet whose bytes from its SPI on are `b`, by association `n` with entry `e`; none where its tag fails. -/
def State.espOpen (s : State) (n e seq : Nat) (b : List Byte) : Option (List Byte) :=
  gcmDec (s.espTab inKeyCode n) (beNat ((List.range 4).map (fun j => entByteAt e (16 + j)) ++ (b.drop 8).take 8))
    (b.take 4 ++ beBytes (if natBit e 1 then 8 else 4) seq) ((b.drop 16).take (b.length - 32)) (b.drop (b.length - 16))

/-- Window and counters of association `n` after a packet of `len` bytes that verified. -/
def State.espVerified (s : State) (n e seq len : Nat) : State :=
  ((s.setTabN 8 1 0xD0 n (if natBit e 2 then espWindow e seq
    else natSetField e 160 64 (max seq (natField e 160 64)))).espCount n 0 1).espCount n 1 len

/-- A rebuilt frame goes back to pipeline `i` through local port 69 with the version of the packet it came in. -/
def State.espRecirc (s : State) (i : Nat) (k : Pkt) (f : List Byte) : State :=
  s.setPipe i { s.pipe i with
    recircIn := (s.pipe i).recircIn ++
      [{ Pkt.empty with bytes := f, port := 69, kind := 3, odd := k.odd, accepted := k.accepted, proc := k.proc }] }

/-- What becomes of a packet that `espOpen` has been tried on, in the state `u` where it verified. -/
def State.espFinish (s u : State) (i : Nat) (k : Pkt) (n : Nat) : Option (List Byte) → State
  | none => ((s.espDrop 2 n).espCount n 3 1).dropPkt k
  | some p =>
    match espInner k p with
    | none => (u.espDrop 3 n).dropPkt k
    | some f => u.espRecirc i k f

/-- The checks of an inbound packet in their order, by its bytes from the SPI on, its association's entry and its sequence number. -/
theorem State.espInbound_eq {s : State} {i spi n e seq : Nat} {k : Pkt} {b : List Byte} (hb : b = k.bytes.drop (hvLayerOfs k 4))
    (hspi : spi = beNat (b.take 4)) (hn : n = spi % 65536) (he : e = s.espTab 0xD0 n)
    (hseq : seq = espSeq (natBit e 1) (natField e 160 64) (beNat ((b.drop 4).take 4))) :
    s.espInbound i k =
      if hvLayerMarked k 4 = false ∨ hvLayerOfs k 4 = 255 ∨ b.length < 32 then (s.espDrop 3 n).dropPkt k
      else if natBit e 0 = false ∨ natField e 32 32 ≠ spi then (s.espDrop 0 n).dropPkt k
      else if keyRef (natField e 64 64) = none then (s.keyRefBad.espDrop 0 n).dropPkt k
      else if natBit e 2 = true ∧ espReplay (natField e 160 64) (natField e 256 256) seq = true then (s.espDrop 1 n).dropPkt k
      else s.espFinish (s.espVerified n e seq k.bytes.length) i k n (s.espOpen n e seq b) := by
  subst hb hspi hn he hseq
  refine ite_congr (propext ?header) (fun _ => rfl) fun _ => ite_congr (propext ?association) (fun _ => rfl) fun _ =>
    ite_congr (propext ?key) (fun _ => rfl) fun _ => ite_congr (propext ?replay) (fun _ => rfl) fun _ => rfl
  case header => rw [Bool.or_assoc, Bool.or_eq_true, Bool.or_eq_true, Bool.not_eq_true', beq_iff_eq, decide_eq_true_iff]
  case association => rw [Bool.or_eq_true, Bool.not_eq_true', bne_iff_ne]
  case key => rw [Option.isNone_iff_eq_none]
  case replay => rw [Bool.and_eq_true]

/-! ## The oldest decided packet of a pipeline (R366, R456) -/

theorem exec_espInbound_empty {s : State} {i : Fin 16} (h : (s.pipe i).toBuf = []) : exec (.espInbound i) s = .next s := by
  show execEspInbound i s = _
  simp only [execEspInbound, h]

section
variable {s t : State} {i : Fin 16} {k : Pkt} {r : List Pkt} (hbuf : (s.pipe i).toBuf = k :: r)
include hbuf

theorem exec_espInbound_waits (h : s.espTakes k = false ∨ s.behindPair i k = true) : exec (.espInbound i) s = .next s := by
  show execEspInbound i s = _
  simp only [execEspInbound, hbuf]
  exact if_pos (by simpa using h)

variable (ht : t = s.setPipe i { s.pipe i with toBuf := r }) (htakes : s.espTakes k = true) (hfree : s.behindPair i k = false)
include ht htakes hfree

/-- A packet that is taken leaves the pipeline; the engine works on what is left. -/
theorem exec_espInbound_takes : exec (.espInbound i) s =
    if t.meets 8 1 = true then .next ((t.absentDrop (pipeRegion i)).dropPkt k)
    else if k.bad = true then .next ((t.espDrop 2 (beNat ((k.bytes.drop (hvLayerOfs k 4)).take 4) % 65536)).dropPkt k)
    else .next (t.espInbound i k) := by
  subst ht
  show execEspInbound i s = _
  simp [execEspInbound, hbuf, htakes, hfree, natField]
end

/-- Settles O47: the packet is taken by `exec_espInbound_takes`, and each of its checks is a branch of `State.espInbound_eq`. -/
theorem inboundEspPacketsAreVerified : Obligations.InboundEspPacketsAreVerified := by
  intro s i
  refine ⟨exec_espInbound_empty, fun k r t hbuf ht => ⟨exec_espInbound_waits hbuf, fun htakes hfree => ?_⟩⟩
  rw [exec_espInbound_takes hbuf ht htakes hfree]
  refine ⟨fun habsent => if_pos habsent, fun hserves b spi n e hb hspi hn he => ?_⟩
  rw [if_neg (by simp [hserves]), ← hb, ← hspi, ← hn]
  refine ⟨fun hbad => if_pos hbad, fun hgood => ?_⟩
  rw [if_neg (by simp [hgood]), State.espInbound_eq hb hspi hn he rfl]
  refine ⟨fun hheader => by rw [if_pos hheader], fun hmark hofs hlen => ?_⟩
  rw [if_neg (by simp [hmark, hofs, hlen])]
  refine ⟨fun hnone => by rw [if_pos hnone], fun hvalid hmatch => ?_⟩
  rw [if_neg (by simp [hvalid, hmatch])]
  refine ⟨fun hbadKey => by rw [if_pos hbadKey], fun hkey seq hseq => ?_⟩
  rw [if_neg hkey, ← hseq]
  refine ⟨fun hon hseen => by rw [if_pos ⟨hon, hseen⟩], fun hnew plain hplain => ?_⟩
  have hopen : t.espOpen n e seq b = plain := hplain.symm
  rw [if_neg (by rcases hnew with h | h <;> simp [h]), hopen]
  refine ⟨fun hfail => by rw [hfail, State.espFinish], fun p u hok hu => ?_⟩
  have hverified : t.espVerified n e seq k.bytes.length = u := hu.symm
  rw [hok, hverified, State.espFinish]
  exact ⟨fun hbadInner => by rw [hbadInner], fun f hinner => by rw [hinner]; rfl⟩

end Sys2Proof.Machine
end

section
/-! PROOF. Events sent by threads (R388, R389, R391): which input an EV.SEND sets, and what it answers where it sets none. -/

namespace Sys2Proof.Machine

/-! ## The EVPEND register of a thread (R388) -/

theorem State.rd64_lt (s : State) (a : Nat) : s.rd64 a < 2 ^ 64 := by
  have hlow := (s.rd a).isLt
  have hhigh := (s.rd (a + 4)).isLt
  unfold State.rd64
  omega

@[simp] theorem State.setX_evPend (s : State) (t rd : Nat) (v : BitVec 64) (u : Nat) : (s.setX t rd v).evPend u = s.evPend u :=
  State.evPend_of_regs u (State.setX_regs s t rd v)

@[simp] theorem State.pmuCount_evPend (s : State) (t e u : Nat) : (s.pmuCount t e).evPend u = s.evPend u :=
  State.evPend_of_regs u (State.pmuCount_regs s t e)

theorem State.setEvent_evPend (s : State) (u : Nat) {i : Nat} (hi : i < 64) : (s.setEvent u i).evPend u = s.evPend u ||| 2 ^ i :=
  State.rd64_wr64 _ _ (Nat.or_lt_two_pow (s.rd64_lt _) (Nat.pow_lt_pow_right (by decide) hi))

/-- An event sets its own input's bit and leaves every other one. -/
theorem State.natBit_setEvent (s : State) (u j : Nat) {i : Nat} (hi : i < 64) :
    natBit ((s.setEvent u i).evPend u) j = (natBit (s.evPend u) j || decide (i = j)) := by
  rw [State.setEvent_evPend s u hi, natBit_eq_testBit, natBit_eq_testBit, Nat.testBit_or, Nat.testBit_two_pow]

/-! ## EV.SEND (R389, R391) -/

section
variable {s : State} {t : Fin 384} {rd : Fin 32} {target input : BitVec 64}

theorem exec_evSend_idle (h : s.issues t = false) : exec (.evSend t rd target input) s = .next s := if_neg (by simp [h])

variable (hi : s.issues t = true)
include hi

theorem exec_evSend_noInput (h : 384 ≤ target.toNat ∨ 64 ≤ input.toNat) :
    exec (.evSend t rd target input) s = .next (s.setX t rd (status 6)) :=
  (if_pos hi).trans (if_pos h)

variable (hu : target.toNat < 384) (hin : input.toNat < 64)
include hu hin

theorem exec_evSend_absent (h : s.rgnAbsent (9 + thrRegion target.toNat) = true) :
    exec (.evSend t rd target input) s = .next (s.setX t rd (status 7)) :=
  (if_pos hi).trans ((if_neg (by omega)).trans (if_pos h))

/-- A send at an input of a region that answers turns on the kind of the input alone. -/
theorem exec_evSend_present (h : s.rgnAbsent (9 + thrRegion target.toNat) = false) :
    exec (.evSend t rd target input) s =
      if s.evThreadSourced target.toNat input.toNat = false then .next ((s.miskind target.toNat).setX t rd (status 6))
      else .next ((if s.coreInReset target.toNat then s else (s.setEvent target.toNat input.toNat).pmuCount t 20).setX t rd 0) := by
  refine (if_pos hi).trans ((if_neg (by omega)).trans ((if_neg (by simp [h])).trans ?_))
  simp only [Bool.not_eq_true']
end

/-- Settles O52: `exec_evSend_present` splits on the input's kind, and a set input's bits are those of `State.natBit_setEvent`. -/
theorem evSendSetsTheInputOrAnswersKind : Obligations.EvSendSetsTheInputOrAnswersKind := by
  rintro s t rd target input u i rfl rfl
  refine ⟨exec_evSend_idle, fun hissues => ⟨exec_evSend_noInput hissues, exec_evSend_absent hissues, fun hu hin hpresent => ?_⟩⟩
  rw [exec_evSend_present hissues hu hin hpresent]
  refine ⟨fun hkind hreset => ?held, fun hkind htakes => ⟨_, ?delivered, rfl, fun _ => ?bits⟩, fun hkind => if_pos hkind⟩
  case held => rw [if_neg (by simp [hkind]), if_pos hreset]
  case delivered => rw [if_neg (by simp [hkind]), if_neg (by simp [htakes])]
  case bits =>
    simp only [State.setX_evPend, State.pmuCount_evPend, State.natBit_setEvent _ _ _ hin]
    exact ⟨by simp, fun j hj => by simp [hj]⟩

end Sys2Proof.Machine
end

section
/-! PROOF. Channel instructions (R389, R390, R392, R397, R456): what an acquire and a receive come to, how the instructions and the wakes
answer it, and what becomes of a slot that is posted, dropped or freed. -/

namespace Sys2Proof.Machine

/-! ## What an acquire comes to (R390, R392) -/

section
variable {s : State} {t c : Nat}

theorem State.acquire_noChannel (h : 49152 ≤ c) : s.acquire t c = some (status 1, s) := if_pos h

theorem State.receive_noChannel (h : 49152 ≤ c) : s.receive t c = some (status 1, s) := if_pos h

variable (hc : c < 49152)
include hc

theorem State.acquire_absent (h : s.chAbsent c = true) : s.acquire t c = some (status 7, s) :=
  (if_neg (by omega)).trans (if_pos h)

theorem State.receive_absent (h : s.chAbsent c = true) : s.receive t c = some (status 7, s) :=
  (if_neg (by omega)).trans (if_pos h)

variable (hp : s.chAbsent c = false)
include hp

theorem State.acquire_refused (h : chEn (s.chEntry c) = false ∨ (chKind (s.chEntry c) ≠ 0 ∧ chKind (s.chEntry c) ≠ 2)) :
    s.acquire t c = some (status 1, s) :=
  (if_neg (by omega)).trans ((if_neg (by simp [hp])).trans (if_pos (by simpa using h)))

theorem State.receive_refused (h : chEn (s.chEntry c) = false ∨ chKind (s.chEntry c) = 2 ∨ chReader (s.chEntry c) ≠ t) :
    s.receive t c = some (status 1, s) :=
  (if_neg (by omega)).trans ((if_neg (by simp [hp])).trans (if_pos (by simpa [or_assoc] using h)))

variable (hen : chEn (s.chEntry c) = true)
include hen

section
variable (hk : chKind (s.chEntry c) = 0 ∨ chKind (s.chEntry c) = 2)
include hk

/-- An acquire that the channel lets through turns on the thread's staging slots and on the credits. -/
theorem State.acquire_open : s.acquire t c =
    match freeIndex (s.thr t).stage with
    | none => some (status 4, s)
    | some i =>
      if s.creditFree c then
        some (stageAddr t i, (s.setThr t { s.thr t with stage := (s.thr t).stage.set i (some ⟨c, false⟩) }).setChan c
          { s.chan c with used := (s.chan c).used + 1 })
      else none :=
  (if_neg (by omega)).trans ((if_neg (by simp [hp])).trans (if_neg (by simpa [hen] using hk.resolve_left)))

theorem State.acquire_noSlot (h : freeIndex (s.thr t).stage = none) : s.acquire t c = some (status 4, s) := by
  rw [State.acquire_open hc hp hen hk, h]

variable {i : Nat} (hslot : freeIndex (s.thr t).stage = some i)
include hslot

theorem State.acquire_taken (h : s.creditFree c = true) : s.acquire t c =
    some (stageAddr t i, (s.setThr t { s.thr t with stage := (s.thr t).stage.set i (some ⟨c, false⟩) }).setChan c
      { s.chan c with used := (s.chan c).used + 1 }) := by
  rw [State.acquire_open hc hp hen hk, hslot]
  exact if_pos h

theorem State.acquire_noCredit (h : s.creditFree c = false) : s.acquire t c = none := by
  rw [State.acquire_open hc hp hen hk, hslot]
  exact if_neg (by simp [h])
end

section
variable (hk : chKind (s.chEntry c) ≠ 2) (hreader : chReader (s.chEntry c) = t)
include hk hreader

/-- A receive that the channel lets through turns on the thread's receive slots and on the ring. -/
theorem State.receive_open : s.receive t c =
    match freeIndex (s.thr t).recv with
    | none => some (status 4, s)
    | some i =>
      if (s.chan c).fill = 0 then none
      else some (recvAddr t i, ((s.chTake c).2.setThr t { (s.chTake c).2.thr t with
        recv := ((s.chTake c).2.thr t).recv.set i (some ⟨c, (s.chTake c).1⟩) }).pmuCount t 17) :=
  (if_neg (by omega)).trans ((if_neg (by simp [hp])).trans (if_neg (by simp [hen, hk, hreader])))

theorem State.receive_noSlot (h : freeIndex (s.thr t).recv = none) : s.receive t c = some (status 4, s) := by
  rw [State.receive_open hc hp hen hk hreader, h]

variable {i : Nat} (hslot : freeIndex (s.thr t).recv = some i)
include hslot

theorem State.receive_taken (h : (s.chan c).fill ≠ 0) : s.receive t c =
    some (recvAddr t i, ((s.chTake c).2.setThr t { (s.chTake c).2.thr t with
      recv := ((s.chTake c).2.thr t).recv.set i (some ⟨c, (s.chTake c).1⟩) }).pmuCount t 17) := by
  rw [State.receive_open hc hp hen hk hreader, hslot]
  exact if_neg h

theorem State.receive_empty (h : (s.chan c).fill = 0) : s.receive t c = none := by
  rw [State.receive_open hc hp hen hk hreader, hslot]
  exact if_pos h
end
end

/-! ## How the instructions and the wakes answer it (R389, R392) -/

section
variable {s : State} {t : Fin 384} {rd : Fin 32} {ch : BitVec 64} {c : Nat} {v : BitVec 64} {u : State}

/-- An acquire that comes to an answer gives it at once or at the wake. -/
theorem exec_acquire_served (hc : c = ch.toNat) (h : s.acquire t c = some (v, u)) :
    (s.issues t = true → exec (.chAcq t rd ch) s = .next (u.setX t rd v) ∧ exec (.chTryacq t rd ch) s = .next (u.setX t rd v)) ∧
    ((s.thr t).state = .waiting → (s.thr t).wait = .acq c rd → exec (.chAcqWake t) s = .next ((u.setX t rd v).thrWake t)) := by
  subst hc
  refine ⟨fun hi => ⟨(if_pos hi).trans ?_, (if_pos hi).trans ?_⟩, fun hstate hwait => ?_⟩
  · rw [h]
  · rw [h]
  · show execChAcqWake t s = _
    simp only [execChAcqWake, hstate, hwait, h]

/-- An acquire for which no credit is free waits, or answers EMPTY; a wait for it goes on. -/
theorem exec_acquire_waits (hc : c = ch.toNat) (h : s.acquire t c = none) :
    (∀ u, s.issues t = true → u = (s.pmuCount t 18).thrTo t .waiting →
      exec (.chAcq t rd ch) s = .next (u.setThr t { u.thr t with wait := .acq c rd }) ∧
      exec (.chTryacq t rd ch) s = .next (s.setX t rd (status 3))) ∧
    ((s.thr t).state = .waiting → (s.thr t).wait = .acq c rd → exec (.chAcqWake t) s = .next s) := by
  subst hc
  refine ⟨fun u hi hu => ⟨(if_pos hi).trans ?_, (if_pos hi).trans ?_⟩, fun hstate hwait => ?_⟩
  · rw [h, hu]
  · rw [h]
  · show execChAcqWake t s = _
    simp only [execChAcqWake, hstate, hwait, h]

/-- A receive that comes to an answer gives it at once or at the wake. -/
theorem exec_receive_served (hc : c = ch.toNat) (h : s.receive t c = some (v, u)) :
    (s.issues t = true → exec (.chRecv t rd ch) s = .next (u.setX t rd v) ∧ exec (.chTryrecv t rd ch) s = .next (u.setX t rd v)) ∧
    ((s.thr t).state = .waiting → (s.thr t).wait = .recv c rd → exec (.chRecvWake t) s = .next ((u.setX t rd v).thrWake t)) := by
  subst hc
  refine ⟨fun hi => ⟨(if_pos hi).trans ?_, (if_pos hi).trans ?_⟩, fun hstate hwait => ?_⟩
  · rw [h]
  · rw [h]
  · show execChRecvWake t s = _
    simp only [execChRecvWake, hstate, hwait, h]

/-- A receive from an empty ring waits, or answers EMPTY; a wait for it goes on. -/
theorem exec_receive_waits (hc : c = ch.toNat) (h : s.receive t c = none) :
    (∀ u, s.issues t = true → u = (s.pmuCount t 18).thrTo t .waiting →
      exec (.chRecv t rd ch) s = .next (u.setThr t { u.thr t with wait := .recv c rd }) ∧
      exec (.chTryrecv t rd ch) s = .next (s.setX t rd (status 3))) ∧
    ((s.thr t).state = .waiting → (s.thr t).wait = .recv c rd → exec (.chRecvWake t) s = .next s) := by
  subst hc
  refine ⟨fun u hi hu => ⟨(if_pos hi).trans ?_, (if_pos hi).trans ?_⟩, fun hstate hwait => ?_⟩
  · rw [h, hu]
  · rw [h]
  · show execChRecvWake t s = _
    simp only [execChRecvWake, hstate, hwait, h]

theorem exec_chAcqWake_idle (h : (s.thr t).state ≠ .waiting ∨ ∀ c k, (s.thr t).wait ≠ .acq c k) :
    exec (.chAcqWake t) s = .next s := by
  show execChAcqWake t s = _
  unfold execChAcqWake
  split
  next c k hstate hwait => exact (h.elim (· hstate) (· c k hwait)).elim
  next => rfl

theorem exec_chRecvWake_idle (h : (s.thr t).state ≠ .waiting ∨ ∀ c k, (s.thr t).wait ≠ .recv c k) :
    exec (.chRecvWake t) s = .next s := by
  show execChRecvWake t s = _
  unfold execChRecvWake
  split
  next c k hstate hwait => exact (h.elim (· hstate) (· c k hwait)).elim
  next => rfl
end

/-! ## Slots posted, dropped and freed (R392, R397, R456) -/

section
variable {s : State} {t : Fin 384} {rd : Fin 32} {a : BitVec 64} {data : BitVec 512}

/-- No channel instruction of a thread that does not issue does anything (R389). -/
theorem exec_channel_idle (h : s.issues t = false) (ch : BitVec 64) : ∀ c ∈ [Instr.chAcq t rd ch, .chTryacq t rd ch, .chRecv t rd ch,
    .chTryrecv t rd ch, .chPost t rd a data, .chDrop t rd a, .chFree t rd a], exec c s = .next s := by
  have hno : ¬ s.issues t = true := by simp [h]
  simp only [List.forall_mem_cons]
  exact ⟨if_neg hno, if_neg hno, if_neg hno, if_neg hno, if_neg hno, if_neg hno, if_neg hno, List.forall_mem_nil _⟩

variable (hi : s.issues t = true)
include hi

theorem exec_chPost_noSlot (h : s.stageAt t a = none) : exec (.chPost t rd a data) s = .next (s.setX t rd (status 5)) :=
  (if_pos hi).trans (by rw [h])

theorem exec_chDrop_noSlot (h : s.stageAt t a = none) : exec (.chDrop t rd a) s = .next (s.setX t rd (status 5)) :=
  (if_pos hi).trans (by rw [h])

theorem exec_chFree_noSlot (h : s.recvAt t a = none) : exec (.chFree t rd a) s = .next (s.setX t rd (status 5)) :=
  (if_pos hi).trans (by rw [h])

theorem exec_chFree_slot {i : Nat} (h : s.recvAt t a = some i) : exec (.chFree t rd a) s =
    .next ((s.setThr t { s.thr t with recv := (s.thr t).recv.set i none }).setX t rd 0) :=
  (if_pos hi).trans (by rw [h])

variable {i : Nat} {x : StageSlot} (hslot : s.stageAt t a = some (i, x))
include hslot

theorem exec_chDrop_slot : exec (.chDrop t rd a) s = .next ((s.stageDrop t i x).setX t rd 0) :=
  (if_pos hi).trans (by rw [hslot])

/-- A post from a slot in use turns on the slot's channel. -/
theorem exec_chPost_slot : exec (.chPost t rd a data) s =
    if s.chAbsent x.ch = true then .next (s.setX t rd (status 7))
    else if chEn (s.chEntry x.ch) = false then .next (s.setX t rd (status 1))
    else .next ((((s.stageFree t i x).chAppend x.ch (leBytes 64 data.toNat)).pmuCount t 16).setX t rd 0) :=
  (if_pos hi).trans (by simp only [hslot, Bool.not_eq_true'])
end

/-- Settles O50: each answer of an acquire or a receive reaches the thread by `exec_acquire_served` or `exec_receive_served`, and a wait by
`exec_acquire_waits` or `exec_receive_waits`; the slots' instructions have their lemmas above. -/
theorem channelInstructionsExecute : Obligations.ChannelInstructionsExecute := by
  intro s t rd
  refine ⟨fun hidle ch a data => exec_channel_idle hidle ch, fun ch c e acq rec hc he hacq hrec => ?ring, fun hissues a data => ?slots,
    exec_chAcqWake_idle, exec_chRecvWake_idle⟩
  case ring =>
    subst he
    have acquires {v u} (h : s.acquire t c = some (v, u)) : acq v u := (hacq v u).2 (exec_acquire_served hc h)
    have receives {v u} (h : s.receive t c = some (v, u)) : rec v u := (hrec v u).2 (exec_receive_served hc h)
    refine ⟨fun hc => ⟨acquires (State.acquire_noChannel hc), receives (State.receive_noChannel hc)⟩,
      fun hc hp => ⟨acquires (State.acquire_absent hc hp), receives (State.receive_absent hc hp)⟩,
      fun hc hp hen => ⟨acquires (State.acquire_refused hc hp (.inl hen)), receives (State.receive_refused hc hp (.inl hen))⟩,
      fun hlt hp hen => ⟨fun h0 h2 => acquires (State.acquire_refused hlt hp (.inr ⟨h0, h2⟩)), fun hk => ?acquire,
        fun hk => receives (State.receive_refused hlt hp (.inr hk)), fun hk hreader => ?receive⟩⟩
    case acquire => exact ⟨fun hfull => acquires (State.acquire_noSlot hlt hp hen hk hfull), fun i hslot =>
      ⟨fun hcredit => acquires (State.acquire_taken hlt hp hen hk hslot hcredit),
        fun hcredit => exec_acquire_waits hc (State.acquire_noCredit hlt hp hen hk hslot hcredit)⟩⟩
    case receive => exact ⟨fun hfull => receives (State.receive_noSlot hlt hp hen hk hreader hfull), fun i hslot =>
      ⟨fun r hfill hr => hr ▸ receives (State.receive_taken hlt hp hen hk hreader hslot hfill),
        fun hempty => exec_receive_waits hc (State.receive_empty hlt hp hen hk hreader hslot hempty)⟩⟩
  case slots =>
    refine ⟨fun hnone => ⟨exec_chPost_noSlot hissues hnone, exec_chDrop_noSlot hissues hnone⟩, fun i x hslot => ?_,
      exec_chFree_noSlot hissues, fun i => exec_chFree_slot hissues⟩
    rw [exec_chPost_slot hissues hslot]
    exact ⟨fun habsent => if_pos habsent, fun hp hoff => by rw [if_neg (by simp [hp]), if_pos hoff],
      fun hp hen => by rw [if_neg (by simp [hp]), if_neg (by simp [hen])], exec_chDrop_slot hissues hslot⟩

end Sys2Proof.Machine
end

section
/-! PROOF. The step (assumption 1): what stands at the front of the queue runs, and no word spells a command. -/

namespace Sys2Proof.Machine

variable {s : State}

theorem step_of_pending_cons {c : Instr} {rest : List Instr} (h : s.pending = c :: rest) :
    step s = exec c { s with pending := rest } := by
  simp only [step, h]

theorem step_of_pending_nil (h : s.pending = []) : step s = .next s := by
  simp only [step, h]

/-- The decoder answers none for every word, so a fetched word queues nothing. -/
theorem State.withFetchWord_eq (s : State) (nbits w : Nat) : s.withFetchWord nbits w = s := by
  have hnone : decodeTableWord nbits w = none := rfl
  simp only [State.withFetchWord, hnone]

/-- Settles O1: the queue's two cases, and words that spell nothing by `State.withFetchWord_eq`. -/
theorem stepRunsTheFrontCommand : Obligations.StepRunsTheFrontCommand := fun s =>
  ⟨fun _ _ => step_of_pending_cons, step_of_pending_nil, s.withFetchWord_eq⟩

end Sys2Proof.Machine
end

section
/-! PROOF. The update session of the service port (R470 to R473, R484): which messages reach it, and what each one does. -/

namespace Sys2Proof.Machine

/-! ## What every message passes (R472, R473) -/

section
variable {s : State} {type : Nat} {h : SvcHead} {body : List Byte} {lengthOk inSession : Bool} {f : State → State}

theorem State.svcMsg_off (hoff : s.svcUp = false) : s.svcMsg type h body lengthOk inSession f = s := by
  unfold State.svcMsg
  exact if_neg (by simp [hoff])

variable (hup : s.svcUp = true)
include hup

theorem State.svcMsg_bad (hbad : lengthOk = false ∨ h.reserved ≠ 0 ∨ (inSession = false ∧ h.session ≠ 0)) :
    s.svcMsg type h body lengthOk inSession f = (s.bump (svcCntA 0)).svcAnswer type h 2 [] := by
  refine (if_pos hup).trans (if_pos ?_)
  simp only [Bool.or_eq_true, Bool.and_eq_true, Bool.not_eq_true', bne_iff_ne]
  exact .inl (or_assoc.2 hbad)

theorem State.svcMsg_good (hlength : lengthOk = true) (hres : h.reserved = 0) (hsession : inSession = true ∨ h.session = 0)
    (hshort : body.length ≤ 1040) : s.svcMsg type h body lengthOk inSession f = f (s.bump (svcCntA 0)) := by
  refine (if_pos hup).trans (if_neg ?_)
  rcases hsession with h1 | h1 <;> simp [hlength, hres, h1, hshort]
end

/-! ## Messages of the session (R472) -/

@[simp] theorem State.bump_svcSession (s : State) (a n : Nat) : (s.bump a n).svcSession = s.svcSession := by
  simp only [State.svcSession, State.bump_img]

section
variable {s : State} {type : Nat} {h : SvcHead} {f : State → SessionSt → State}

theorem State.sessMsg_foreign (hnone : s.svcSession = none ∨ ∃ x, s.svcSession = some x ∧ x.number ≠ h.session.toNat) :
    s.sessMsg type h f = s.svcAnswer type h 3 [] := by
  unfold State.sessMsg
  rcases hnone with hnone | ⟨x, hx, hne⟩
  · rw [hnone]
  · rw [hx]
    exact if_pos hne

variable {x : SessionSt} (hx : s.svcSession = some x) (hnumber : x.number = h.session.toNat)
include hx hnumber

theorem State.sessMsg_repeated (hseq : x.lastSeq = some h.seq.toNat) :
    s.sessMsg type h f = (s.setSession { x with tick := s.time.ticks }).svcAnswer type h x.reply.1 x.reply.2 := by
  unfold State.sessMsg
  rw [hx]
  exact (if_neg (not_not.2 hnumber)).trans (if_pos hseq)

theorem State.sessMsg_new (hseq : x.lastSeq ≠ some h.seq.toNat) : s.sessMsg type h f = f s x := by
  unfold State.sessMsg
  rw [hx]
  exact (if_neg (not_not.2 hnumber)).trans (if_neg hseq)
end

/-! ## What WRITE and CLOSE do in their session (R470, R473) -/

/-- WRITE in its session, where the flash takes the data or does not. -/
def State.svcWriteBlock (h : SvcHead) (body : List Byte) (ok : Bool) (s : State) (x : SessionSt) : State :=
  let ofs := beNat (body.take 4)
  let data := body.drop 4
  if !writeFits x ofs data.length then s.sessAnswer 0x11 h 4 []
  else if !ok then s.sessionEnd.svcAnswer 0x11 h 6 []
  else State.sessAnswer (State.setSession (s.flashWrite (slotA x.slot + ofs) data)
    { x with blocks := spPut (fun _ => 0) x.blocks (ofs / 1024) data.length }) 0x11 h 0 []

/-- CLOSE in its session, where the boot record takes its write or does not. -/
def State.svcCloseImage (h : SvcHead) (body : List Byte) (ok : Bool) (s : State) (x : SessionSt) : State :=
  if slotLen < beNat body ∨ blocksWhole x.blocks 1024 (beNat body) ((beNat body + 1023) / 1024) = false then s.sessAnswer 0x12 h 5 []
  else if ok then (s.sessionClose x).svcAnswer 0x12 h 0 []
  else s.sessionEnd.svcAnswer 0x12 h 6 []

section
variable {s : State} {h : SvcHead} {body : List Byte} {ok : Bool} {x : SessionSt}

theorem State.svcWriteBlock_unfit (hfit : writeFits x (beNat (body.take 4)) (body.drop 4).length = false) :
    s.svcWriteBlock h body ok x = s.sessAnswer 0x11 h 4 [] := if_pos (by rw [hfit]; rfl)

theorem State.svcWriteBlock_fits (hfit : writeFits x (beNat (body.take 4)) (body.drop 4).length = true) :
    s.svcWriteBlock h body ok x =
      if ok then State.sessAnswer (State.setSession (s.flashWrite (slotA x.slot + beNat (body.take 4)) (body.drop 4))
        { x with blocks := spPut (fun _ => 0) x.blocks (beNat (body.take 4) / 1024) (body.drop 4).length }) 0x11 h 0 []
      else s.sessionEnd.svcAnswer 0x11 h 6 [] := by
  refine (if_neg (by rw [hfit]; decide)).trans ?_
  cases ok <;> rfl

/-- The image that CLOSE names is whole. -/
def svcWhole (x : SessionSt) (body : List Byte) : Prop :=
  beNat body ≤ slotLen ∧ blocksWhole x.blocks 1024 (beNat body) ((beNat body + 1023) / 1024) = true

theorem svcWhole_iff : svcWhole x body ↔
    ¬(slotLen < beNat body ∨ blocksWhole x.blocks 1024 (beNat body) ((beNat body + 1023) / 1024) = false) := by
  rw [svcWhole, not_or, Nat.not_lt, Bool.not_eq_false]

theorem State.svcCloseImage_partial (hpart : ¬svcWhole x body) : s.svcCloseImage h body ok x = s.sessAnswer 0x12 h 5 [] :=
  if_pos (not_not.1 (mt svcWhole_iff.2 hpart))

theorem State.svcCloseImage_whole (hwhole : svcWhole x body) : s.svcCloseImage h body ok x =
    if ok then (s.sessionClose x).svcAnswer 0x12 h 0 [] else s.sessionEnd.svcAnswer 0x12 h 6 [] :=
  if_neg (svcWhole_iff.1 hwhole)
end

/-! ## The messages -/

section
variable {s : State} {h : SvcHead} {body : List Byte} {ok : Bool}

theorem exec_svc_off (hoff : s.svcUp = false) :
    ∀ i ∈ [Instr.svcOpen h body ok, .svcWrite h body ok, .svcClose h body ok, .svcAbort h body], exec i s = .next s := by
  simp only [List.forall_mem_cons, List.not_mem_nil, false_imp_iff, implies_true, and_true]
  exact ⟨congrArg Host.Outcome.next (State.svcMsg_off hoff), congrArg Host.Outcome.next (State.svcMsg_off hoff),
    congrArg Host.Outcome.next (State.svcMsg_off hoff), congrArg Host.Outcome.next (State.svcMsg_off hoff)⟩

variable (hup : s.svcUp = true)
include hup

theorem exec_svcOpen_bad (hbad : h.reserved ≠ 0 ∨ h.session ≠ 0 ∨ body.length ≠ 1) :
    exec (.svcOpen h body ok) s = .next ((s.bump (svcCntA 0)).svcAnswer 0x10 h 2 []) := by
  refine congrArg Host.Outcome.next (State.svcMsg_bad hup ?_)
  rw [beq_eq_false_iff_ne]
  tauto

theorem exec_svcWrite_bad (hbad : h.reserved ≠ 0 ∨ body.length < 5 ∨ 1028 < body.length) :
    exec (.svcWrite h body ok) s = .next ((s.bump (svcCntA 0)).svcAnswer 0x11 h 2 []) := by
  refine congrArg Host.Outcome.next (State.svcMsg_bad hup ?_)
  rw [Bool.and_eq_false_iff, decide_eq_false_iff_not, decide_eq_false_iff_not, Nat.not_le, Nat.not_le]
  tauto

theorem exec_svcClose_bad (hbad : h.reserved ≠ 0 ∨ body.length ≠ 4) :
    exec (.svcClose h body ok) s = .next ((s.bump (svcCntA 0)).svcAnswer 0x12 h 2 []) := by
  refine congrArg Host.Outcome.next (State.svcMsg_bad hup ?_)
  rw [beq_eq_false_iff_ne]
  tauto

theorem exec_svcAbort_bad (hbad : h.reserved ≠ 0 ∨ body ≠ []) :
    exec (.svcAbort h body) s = .next ((s.bump (svcCntA 0)).svcAnswer 0x13 h 2 []) := by
  refine congrArg Host.Outcome.next (State.svcMsg_bad hup ?_)
  rw [← Bool.not_eq_true, List.isEmpty_iff]
  tauto

variable (hres : h.reserved = 0)
include hres

theorem exec_svcWrite_good (hlow : 5 ≤ body.length) (hhigh : body.length ≤ 1028) :
    exec (.svcWrite h body ok) s = .next ((s.bump (svcCntA 0)).sessMsg 0x11 h (State.svcWriteBlock h body ok)) :=
  congrArg Host.Outcome.next (State.svcMsg_good hup (by simp [hlow, hhigh]) hres (.inl rfl) (by omega))

theorem exec_svcClose_good (hlength : body.length = 4) :
    exec (.svcClose h body ok) s = .next ((s.bump (svcCntA 0)).sessMsg 0x12 h (State.svcCloseImage h body ok)) :=
  congrArg Host.Outcome.next (State.svcMsg_good hup (beq_iff_eq.2 hlength) hres (.inl rfl) (by omega))

theorem exec_svcAbort_good : exec (.svcAbort h []) s =
    .next ((s.bump (svcCntA 0)).sessMsg 0x13 h (fun u _ => u.sessionEnd.svcAnswer 0x13 h 0 [])) :=
  congrArg Host.Outcome.next (State.svcMsg_good hup rfl hres (.inl rfl) (by decide))

/-! ### OPEN -/

variable (hzero : h.session = 0) (hlength : body.length = 1)
include hzero hlength

theorem State.svcMsg_open {f : State → State} : s.svcMsg 0x10 h body (body.length == 1) false f = f (s.bump (svcCntA 0)) :=
  State.svcMsg_good hup (beq_iff_eq.2 hlength) hres (.inr hzero) (by omega)

/-- OPEN with a session open: a repeat of its own OPEN gets the reply kept, any other the error of a session in use. -/
theorem exec_svcOpen_inUse {x : SessionSt} (hx : s.img.session = some x) : exec (.svcOpen h body ok) s =
    .next (if x.svc = true ∧ x.lastSeq = some h.seq.toNat ∧ x.reply.2.length = 4 then
        State.svcAnswer ((s.bump (svcCntA 0)).setSession { x with tick := (s.bump (svcCntA 0)).time.ticks }) 0x10 h x.reply.1 x.reply.2
      else (s.bump (svcCntA 0)).svcAnswer 0x10 h 3 []) := by
  refine congrArg Host.Outcome.next ((State.svcMsg_open hup hres hzero hlength).trans ?_)
  simp only [State.bump_img, hx]

variable (hnone : s.img.session = none)
include hnone

theorem exec_svcOpen_badSlot (hslot : (s.bump (svcCntA 0)).openSlot (leAt body 0 1) = none) :
    exec (.svcOpen h body ok) s = .next ((s.bump (svcCntA 0)).svcAnswer 0x10 h 2 []) := by
  refine congrArg Host.Outcome.next ((State.svcMsg_open hup hres hzero hlength).trans ?_)
  simp only [State.bump_img, hnone, hslot]

theorem exec_svcOpen_opens {n : Nat} (hslot : (s.bump (svcCntA 0)).openSlot (leAt body 0 1) = some n) :
    exec (.svcOpen h body ok) s =
      .next (if ok then State.sessAnswer ((s.bump (svcCntA 0)).sessionOpen true 0 n) 0x10 h 0 (beBytes 4 s.img.nextSession)
        else State.svcAnswer ((s.bump (svcCntA 0)).sessionOpen true 0 n).sessionEnd 0x10 h 6 []) := by
  refine congrArg Host.Outcome.next ((State.svcMsg_open hup hres hzero hlength).trans ?_)
  simp only [State.bump_img, hnone, hslot]
end

/-! ## The timeout (R472) -/

section
variable {s : State}

theorem exec_sessionTimeout_due {x : SessionSt} (hx : s.svcSession = some x) (hdue : x.tick + 60 * ticksPerSec ≤ s.time.ticks) :
    exec .sessionTimeout s = .next s.sessionEnd := by
  show execSessionTimeout s = _
  simp only [execSessionTimeout, hx, if_pos hdue]

theorem exec_sessionTimeout_early
    (h : s.svcSession = none ∨ ∃ x, s.svcSession = some x ∧ s.time.ticks < x.tick + 60 * ticksPerSec) :
    exec .sessionTimeout s = .next s := by
  show execSessionTimeout s = _
  rcases h with hnone | ⟨x, hx, hearly⟩
  · simp only [execSessionTimeout, hnone]
  · simp only [execSessionTimeout, hx, if_neg (Nat.not_le.2 hearly)]
end

/-- Settles O28: what a message is refused for by the lemmas `exec_svc…_bad`, OPEN by its three cases, and WRITE, CLOSE and ABORT by the
three cases of `sessMsg`. -/
theorem serviceSessionsUpdateASlot : Obligations.ServiceSessionsUpdateASlot := by
  rintro s u h body ok rfl
  refine ⟨exec_svc_off, fun hup => ⟨exec_svcOpen_bad hup, exec_svcWrite_bad hup, exec_svcClose_bad hup, exec_svcAbort_bad hup⟩,
    fun hup hres hzero hlength => ⟨fun hnone => ?free, fun x hx again hagain => ?inUse⟩, fun hup hres => ⟨fun hforeign => ?foreign,
    fun x hx hnumber hseq w hw => ?repeated, fun x hx hnumber hseq => ?new⟩, fun x => exec_sessionTimeout_due,
    exec_sessionTimeout_early⟩
  case free =>
    refine ⟨fun n hslot => ?_, exec_svcOpen_badSlot hup hres hzero hlength hnone⟩
    have hopens (ok : Bool) := exec_svcOpen_opens (ok := ok) hup hres hzero hlength hnone hslot
    exact ⟨hopens true, hopens false⟩
  case inUse =>
    rw [exec_svcOpen_inUse hup hres hzero hlength hx, hagain]
    exact ⟨fun hyes => by rw [if_pos hyes], fun hno => by rw [if_neg hno]⟩
  case foreign =>
    rw [← State.bump_svcSession s (svcCntA 0) 1] at hforeign
    refine ⟨fun hlow hhigh => ?_, fun hlength => ?_, ?_⟩
    · rw [exec_svcWrite_good hup hres hlow hhigh, State.sessMsg_foreign hforeign]
    · rw [exec_svcClose_good hup hres hlength, State.sessMsg_foreign hforeign]
    · rw [exec_svcAbort_good hup hres, State.sessMsg_foreign hforeign]
  case repeated =>
    rw [← State.bump_svcSession s (svcCntA 0) 1] at hx
    subst hw
    refine ⟨fun hlow hhigh => ?_, fun hlength => ?_, ?_⟩
    · rw [exec_svcWrite_good hup hres hlow hhigh, State.sessMsg_repeated hx hnumber hseq]
    · rw [exec_svcClose_good hup hres hlength, State.sessMsg_repeated hx hnumber hseq]
    · rw [exec_svcAbort_good hup hres, State.sessMsg_repeated hx hnumber hseq]
  case new =>
    rw [← State.bump_svcSession s (svcCntA 0) 1] at hx
    refine ⟨?_, fun hlow hhigh => ⟨fun hfit => ?_, fun hfit => ⟨?_, ?_⟩⟩, fun hlength whole hwhole => ?_⟩
    · rw [exec_svcAbort_good hup hres, State.sessMsg_new hx hnumber hseq]
    · rw [exec_svcWrite_good hup hres hlow hhigh, State.sessMsg_new hx hnumber hseq, State.svcWriteBlock_unfit hfit]
    · rw [exec_svcWrite_good hup hres hlow hhigh, State.sessMsg_new hx hnumber hseq, State.svcWriteBlock_fits hfit]
      rfl
    · rw [exec_svcWrite_good hup hres hlow hhigh, State.sessMsg_new hx hnumber hseq, State.svcWriteBlock_fits hfit]
      rfl
    · simp only [exec_svcClose_good hup hres hlength, State.sessMsg_new hx hnumber hseq]
      refine ⟨fun hyes => ?_, fun hno => by rw [State.svcCloseImage_partial (mt hwhole.2 hno)]⟩
      rw [State.svcCloseImage_whole (hwhole.1 hyes), State.svcCloseImage_whole (hwhole.1 hyes)]
      exact ⟨rfl, rfl⟩

end Sys2Proof.Machine
end

section
/-! PROOF. Host links and the update mailbox (spec 16, R404, R405, R407, R422, R423, R427, R496): how a link comes and goes, what a reset
takes, and how a mailbox command ends. -/

namespace Sys2Proof.Machine

/-! ## Links (R404, R405, R427, R496) -/

section
variable {s : State} {l : Fin 4}

section
variable {rate : Fin 6} {width : Fin 64} {flit : Bool}

/-- A request to come up is granted: the link may train, and rate, width and FLIT mode are allowed. -/
def State.linkMayRise (s : State) (l : Fin 4) (rate : Fin 6) (width : Fin 64) (flit : Bool) : Prop :=
  s.host.listApplied = true ∧ s.linkFormed l.val = true ∧ (s.hlink l.val).perst = false ∧ s.flt.failsafe = none ∧
    s.linkIsUp l.val = false ∧ rate.val ≤ s.fld (regAddr 0xC 0 R.HOST_LINK_CFG) 2 3 ∧
    [1, 2, 4, 8, 16, 32].contains width.val = true ∧ width.val ≤ s.linkLanes ∧ (rate.val = 5 → flit = true)

theorem State.linkMayRise_iff : s.linkMayRise l rate width flit ↔
    (s.host.listApplied && s.linkFormed l && !(s.hlink l).perst && s.flt.failsafe.isNone && !s.linkIsUp l &&
      decide (rate.val ≤ s.fld (regAddr 0xC 0 R.HOST_LINK_CFG) 2 3) && [1, 2, 4, 8, 16, 32].contains width.val &&
      decide (width.val ≤ s.linkLanes) && (flit || rate.val != 5)) = true := by
  have hflit : (rate.val = 5 → flit = true) ↔ (flit || rate.val != 5) = true := by
    rw [Bool.or_eq_true, bne_iff_ne]
    tauto
  simp only [State.linkMayRise, hflit, Bool.and_eq_true, Bool.not_eq_true', Option.isNone_iff_eq_none, decide_eq_true_iff, and_assoc]

theorem exec_hostLinkUp_granted (h : s.linkMayRise l rate width flit) : exec (.hostLinkUp l rate width flit) s =
    .next ((s.wr (linkStatA l.val) (BitVec.ofNat 32 (rate.val + width.val * 8 + 512 + (if flit then 1024 else 0)))).linkChange l.val) :=
  if_pos (State.linkMayRise_iff.1 h)

theorem exec_hostLinkUp_ignored (h : ¬s.linkMayRise l rate width flit) : exec (.hostLinkUp l rate width flit) s = .next s :=
  if_neg (mt State.linkMayRise_iff.2 h)
end

theorem State.linkDown_down (hdown : s.linkIsUp l.val = false) : s.linkDown l.val = s := if_neg (by simp [hdown])

theorem State.linkDown_up (hup : s.linkIsUp l.val = true) : s.linkDown l.val =
    ((((s.wr (linkStatA l.val) 0).linkChange l.val).linkQpsOff l.val).controllerReset l.val).mbxDrop l.val := if_pos hup

theorem exec_hostLinkDown (l : Fin 4) (s : State) : exec (.hostLinkDown l) s = .next (s.linkDown l.val) := rfl

theorem exec_hostPerstAssert (l : Fin 4) (s : State) : exec (.hostPerstAssert l) s =
    .next ((s.linkDown l.val).setHlink l.val { (s.linkDown l.val).hlink l.val with perst := true }) := rfl

theorem exec_functionLevelReset_down (hdown : s.linkIsUp l.val = false) (what : LinkReset) :
    exec (.functionLevelReset l what) s = .next s := if_neg (by simp [hdown])

theorem exec_functionLevelReset_up (hup : s.linkIsUp l.val = true) :
    exec (.functionLevelReset l .hot) s = .next (((s.linkQpsOff l.val).controllerReset l.val).mbxDrop l.val) ∧
    exec (.functionLevelReset l (.flr 0)) s = .next (s.mbxDrop l.val) ∧
    exec (.functionLevelReset l (.flr 1)) s = .next (s.linkQpsOff l.val) ∧
    exec (.functionLevelReset l (.flr 2)) s = .next (s.controllerReset l.val) :=
  ⟨if_pos hup, if_pos hup, if_pos hup, if_pos hup⟩

/-- Configuration requests go unanswered where the device is off or in reset, or PERST holds the link (R407). -/
theorem exec_configurationRequest (fn : Fin 3) : exec (.configurationRequest l fn) s =
    if s.boot.dev = .off ∨ s.boot.dev = .reset ∨ (s.hlink l.val).perst = true then .next s
    else .next (s.emit (.cfgAnswer l fn (!s.host.listApplied))) := rfl
end

/-! ## Mailbox commands (R422, R423) -/

section
variable {s : State} {l : Fin 4} {b : Fin 131072} {n : Fin 8192} {d : List Byte} {ok : Bool}

section
variable {f : State → Nat × State}

theorem State.mbxCmd_down {l : Nat} (h : s.hostUp = false ∨ s.linkIsUp l = false) : s.mbxCmd l f = s :=
  if_neg (by rcases h with h | h <;> simp [h])

theorem State.mbxCmd_disabled {l : Nat} (hhost : s.hostUp = true) (hlink : s.linkIsUp l = true)
    (hen : s.rbit (regAddr 0xC 4 R.HOST_MBX_EN) 0 = false) : s.mbxCmd l f = s.mbxDone l 8 :=
  (if_pos (by simp [hhost, hlink])).trans (if_neg (by simp [hen]))

theorem State.mbxCmd_enabled {l : Nat} (hhost : s.hostUp = true) (hlink : s.linkIsUp l = true)
    (hen : s.rbit (regAddr 0xC 4 R.HOST_MBX_EN) 0 = true) : s.mbxCmd l f = (f s).2.mbxDone l (f s).1 :=
  (if_pos (by simp [hhost, hlink])).trans (if_pos hen)
end

/-- Each of the four commands passes the gate of `mbxCmd`. -/
theorem exec_mbx_eq_mbxCmd {c : Instr} (hc : c ∈ [Instr.mbxOpen l ok, .mbxWrite l b n d ok, .mbxClose l ok, .mbxAbort l]) :
    ∃ f, exec c s = .next (s.mbxCmd l.val f) := by
  simp only [List.mem_cons, List.not_mem_nil, or_false] at hc
  rcases hc with rfl | rfl | rfl | rfl
  · exact ⟨_, rfl⟩
  · exact ⟨_, rfl⟩
  · exact ⟨_, rfl⟩
  · exact ⟨_, rfl⟩

theorem exec_mbx_down (h : s.hostUp = false ∨ s.linkIsUp l.val = false) :
    ∀ c ∈ [Instr.mbxOpen l ok, .mbxWrite l b n d ok, .mbxClose l ok, .mbxAbort l], exec c s = .next s := by
  intro c hc
  obtain ⟨f, hf⟩ := exec_mbx_eq_mbxCmd hc
  rw [hf, State.mbxCmd_down h]

variable (hhost : s.hostUp = true) (hlink : s.linkIsUp l.val = true)
include hhost hlink

theorem exec_mbx_disabled (hen : s.rbit (regAddr 0xC 4 R.HOST_MBX_EN) 0 = false) :
    ∀ c ∈ [Instr.mbxOpen l ok, .mbxWrite l b n d ok, .mbxClose l ok, .mbxAbort l], exec c s = .next (s.mbxDone l.val 8) := by
  intro c hc
  obtain ⟨f, hf⟩ := exec_mbx_eq_mbxCmd hc
  rw [hf, State.mbxCmd_disabled hhost hlink hen]

variable (hen : s.rbit (regAddr 0xC 4 R.HOST_MBX_EN) 0 = true)
include hen

/-! ### OPEN -/

/-- OPEN is refused while another holds the session. -/
theorem exec_mbxOpen_refused {x : SessionSt} (hx : s.img.session = some x) (hother : x.svc = true ∨ x.link ≠ l.val) :
    exec (.mbxOpen l ok) s = .next (s.mbxDone l.val 5) := by
  refine congrArg Host.Outcome.next ((State.mbxCmd_enabled hhost hlink hen).trans ?_)
  simp only [hx]
  rw [if_pos (by simpa using hother)]

/-- OPEN with no session, or over the link's own, opens one; data that the flash does not take end it. -/
theorem exec_mbxOpen_opens {u : State} (hown : ∀ x, s.img.session = some x → x.svc = false ∧ x.link = l.val)
    (hu : u = (s.sessionOpen false l.val s.inactiveSlot).mbxRaise) :
    exec (.mbxOpen l ok) s = .next (if ok then u.mbxDone l.val 2 else u.sessionEnd.mbxRaise.mbxDone l.val 6) := by
  subst hu
  refine congrArg Host.Outcome.next ((State.mbxCmd_enabled hhost hlink hen).trans ?_)
  cases hx : s.img.session with
  | none => cases ok <;> rfl
  | some x =>
    dsimp only
    rw [if_neg (by simpa using hown x hx)]
    cases ok <;> rfl

/-! ### WRITE, CLOSE and ABORT -/

theorem exec_mbx_noSession (hnone : s.mbxSession l.val = none) :
    exec (.mbxWrite l b n d ok) s = .next (s.mbxDone l.val 7) ∧ exec (.mbxClose l ok) s = .next (s.mbxDone l.val 7) ∧
      exec (.mbxAbort l) s = .next (s.mbxDone l.val 2) := by
  refine ⟨congrArg Host.Outcome.next ((State.mbxCmd_enabled hhost hlink hen).trans ?_),
    congrArg Host.Outcome.next ((State.mbxCmd_enabled hhost hlink hen).trans ?_),
    congrArg Host.Outcome.next ((State.mbxCmd_enabled hhost hlink hen).trans ?_)⟩
  · simp only [hnone]
  · simp only [hnone]
  · simp only [State.mbxDrop, hnone]

variable {x : SessionSt} (hx : s.mbxSession l.val = some x)
include hx

theorem exec_mbxAbort_session : exec (.mbxAbort l) s = .next (s.sessionEnd.mbxRaise.mbxDone l.val 2) := by
  refine congrArg Host.Outcome.next ((State.mbxCmd_enabled hhost hlink hen).trans ?_)
  simp only [State.mbxDrop, hx]

theorem exec_mbxClose_session : exec (.mbxClose l ok) s =
    .next (if ok then (s.sessionClose x).mbxRaise.mbxDone l.val 2 else s.sessionEnd.mbxRaise.mbxDone l.val 6) := by
  refine congrArg Host.Outcome.next ((State.mbxCmd_enabled hhost hlink hen).trans ?_)
  simp only [hx]
  cases ok <;> rfl

theorem exec_mbxWrite_pastEnd (hpast : 114687 < b.val) : exec (.mbxWrite l b n d ok) s = .next (s.mbxDone l.val 4) := by
  refine congrArg Host.Outcome.next ((State.mbxCmd_enabled hhost hlink hen).trans ?_)
  simp only [hx, if_pos hpast]

omit hhost hlink hen hx in
/-- A block is turned away where it is out of order, empty, too long, or follows a short one. -/
theorem mbxBlock_bad_iff {b n : Nat} {blocks : List (Nat × Nat)} :
    (b ≠ blocks.length ∨ n = 0 ∨ 4096 < n ∨ blocks.any (fun p => decide (p.2 < 4096)) = true) ↔
      (b == blocks.length && decide (1 ≤ n) && decide (n ≤ 4096) && blocks.all (fun p => decide (4096 ≤ p.2))) = false := by
  simp only [Bool.and_eq_false_iff, beq_eq_false_iff_ne, decide_eq_false_iff_not, List.any_eq_true, List.all_eq_false,
    decide_eq_true_iff, Nat.not_le, Nat.lt_one_iff, or_assoc]

theorem exec_mbxWrite_block (hin : b.val ≤ 114687) {good : Bool}
    (hgood : good = (b.val == x.blocks.length && decide (1 ≤ n.val) && decide (n.val ≤ 4096) &&
      x.blocks.all (fun p => decide (4096 ≤ p.2)))) {u : State}
    (hu : u = s.flashWrite (slotA x.slot + 4096 * b.val) ((d ++ List.replicate 4096 0).take n.val)) :
    exec (.mbxWrite l b n d ok) s = .next (
      if good = false then s.mbxDone l.val 3
      else if ok = false then s.sessionEnd.mbxRaise.mbxDone l.val 6
      else State.mbxDone { u with img := { u.img with session := some { x with blocks := x.blocks ++ [(b.val, n.val)] } } } l.val 2) := by
  subst hu
  refine congrArg Host.Outcome.next ((State.mbxCmd_enabled hhost hlink hen).trans ?_)
  simp only [hx, if_neg (Nat.not_lt.2 hin), mbxBlock_bad_iff, ← hgood, Bool.not_eq_true']
  cases good <;> cases ok <;> rfl
end

/-- Settles O54: each command by the lemma about it; `fin` is `mbxDone`. -/
theorem hostLinksAndMailboxAct : Obligations.HostLinksAndMailboxAct := by
  intro s l
  refine ⟨fun rate width flit on hon => ?up, fun hdown => ?already, rfl,
    fun hup => ⟨?down, exec_functionLevelReset_up hup⟩, fun fn => ?config,
    fun b n d ok cmds hcmds => ⟨?gate, fun hhost hlink fin hfin => ?mailbox⟩⟩
  case up =>
    have hrise : on ↔ s.linkMayRise l rate width flit := hon
    rw [hrise]
    exact ⟨exec_hostLinkUp_granted, exec_hostLinkUp_ignored⟩
  case already =>
    rw [exec_hostLinkDown, exec_hostPerstAssert, State.linkDown_down hdown]
    exact ⟨rfl, exec_functionLevelReset_down hdown, rfl⟩
  case down =>
    rintro t rfl
    rw [exec_hostLinkDown, exec_hostPerstAssert, State.linkDown_up hup]
    exact ⟨rfl, rfl⟩
  case config =>
    exact ⟨fun hoff hreset hperst => by rw [exec_configurationRequest, if_neg (by simp [hoff, hreset, hperst])],
      fun hsilent => by rw [exec_configurationRequest, if_pos hsilent]⟩
  case gate => exact hcmds ▸ exec_mbx_down
  case mailbox =>
    obtain rfl : fin = fun st t => t.mbxDone l.val st := funext fun st => funext fun t => hfin st t
    refine ⟨hcmds ▸ exec_mbx_disabled hhost hlink, fun hen => ⟨fun x => exec_mbxOpen_refused hhost hlink hen,
      fun hown u => exec_mbxOpen_opens hhost hlink hen hown, exec_mbx_noSession hhost hlink hen, fun x hx =>
      ⟨exec_mbxAbort_session hhost hlink hen hx, exec_mbxClose_session hhost hlink hen hx, exec_mbxWrite_pastEnd hhost hlink hen hx,
        fun hin good hgood => ?block⟩⟩⟩
    have hwrite {u : State} := exec_mbxWrite_block (u := u) (d := d) (ok := ok) hhost hlink hen hx hin hgood
    refine ⟨fun hbad => ?_, fun hfit hfail => ?_, fun u hfit hok hu => ?_⟩
    · rw [hwrite rfl, if_pos hbad]
    · rw [hwrite rfl, if_neg (by simp [hfit]), if_pos hfail]
    · rw [hwrite hu, if_neg (by simp [hfit]), if_neg (by simp [hok])]

end Sys2Proof.Machine
end

section
/-! PROOF. HOST's queue pairs (R409 to R418): which doorbells act, when a vector is due, and what becomes of a transmit fetch and of a
receive write. -/

namespace Sys2Proof.Machine

/-! ## Doorbells (R409, R412, R418) -/

section
variable {s : State}

theorem State.doorbell_down {l q : Nat} {f : QpSt → QpSt} (hdown : s.hostUp = false) : s.doorbell l q f = s := if_pos (by simp [hdown])

variable (hhost : s.hostUp = true)
include hhost

/-- A doorbell acts on an enabled pair of a slice of its link that is not stopped. -/
theorem State.doorbell_served {l q n : Nat} {f : QpSt → QpSt} (hslice : s.qpSlice q = some n) (hen : qpEn (s.qpEntry q) = true)
    (hlink : slLink (s.sliceEntry n) = l) (hgo : slStop (s.sliceEntry n) = false) : s.doorbell l q f = s.setQp q (f (s.qp q)) := by
  refine (if_neg (by simp [hhost])).trans ?_
  rw [hslice]
  exact if_pos (by simp [hen, hlink, hgo])

theorem State.doorbell_dropped {l q : Nat} {f : QpSt → QpSt} (hno : s.qpSlice q = none ∨ qpEn (s.qpEntry q) = false ∨
    ∃ n, s.qpSlice q = some n ∧ (slLink (s.sliceEntry n) ≠ l ∨ slStop (s.sliceEntry n) = true)) :
    s.doorbell l q f = s.bump (lnkA R.HOST_DB_DROP) := by
  refine (if_neg (by simp [hhost])).trans ?_
  cases hslice : s.qpSlice q with
  | none => rfl
  | some n =>
    refine if_neg ?_
    rcases hno with hnone | hoff | ⟨m, hm, hother⟩
    · simp [hslice] at hnone
    · simp [hoff]
    · obtain rfl : n = m := Option.some.inj (hslice.symm.trans hm)
      rcases hother with h | h <;> simp [h]

theorem exec_doorbellCqHead (l : Fin 4) (q : Fin 65536) (v : Word) : exec (.doorbellCqHead l q v) s =
    .next ((s.doorbell l.val q.val (fun x => { x with cqHead := v.toNat % 65536, arm := x.arm || natBit v.toNat 31 })).qpSignal q.val) :=
  if_pos hhost

section
variable {l : Fin 4} {r : Fin 256} {v : Word} {e : Nat} (he : e = s.sliceEntry (rgSlice (s.ring r.val)))
include he

theorem exec_lkaHostDoorbell_served (hring : rgHost (s.ring r.val) = true) (hvalid : slValid e = true) (hlink : slLink e = l.val) :
    exec (.lkaHostDoorbell l r v) s =
      .next (s.wr (lkaA (R.SEC_LKA_PI + 8 * r.val)) (BitVec.ofNat 32 (v.toNat % 65536))) := by
  subst he
  exact (if_neg (by simp [hhost])).trans (if_pos (by simp [hring, hvalid, hlink]))

theorem exec_lkaHostDoorbell_dropped (hno : rgHost (s.ring r.val) = false ∨ slValid e = false ∨ slLink e ≠ l.val) :
    exec (.lkaHostDoorbell l r v) s = .next (s.bump (lnkA R.HOST_DB_DROP)) := by
  subst he
  exact (if_neg (by simp [hhost])).trans (if_neg (by rcases hno with h | h | h <;> simp [h]))
end
end

/-! ## Vectors (R417) -/

/-- The pair's vector is due: enabled and armed, with enough completions unsignalled or the oldest of them waiting long enough. -/
def State.vectorDue (s : State) (q : Nat) : Prop :=
  qpIrqEn (s.qpEntry q) = true ∧ (s.qp q).arm = true ∧ 0 < (s.qp q).unsig ∧ (qpModCount (s.qpEntry q) ≤ (s.qp q).unsig ∨
    (s.qp q).unsigTick + qpModUs (s.qpEntry q) * ticksPerUs ≤ s.time.ticks)

section
variable {s : State} {q : Nat}

theorem State.vectorDue_iff : s.vectorDue q ↔ (qpIrqEn (s.qpEntry q) && (s.qp q).arm && decide (0 < (s.qp q).unsig) &&
    (decide (qpModCount (s.qpEntry q) ≤ (s.qp q).unsig) ||
      decide ((s.qp q).unsigTick + qpModUs (s.qpEntry q) * ticksPerUs ≤ s.time.ticks))) = true := by
  simp only [State.vectorDue, Bool.and_eq_true, Bool.or_eq_true, decide_eq_true_iff, and_assoc]

theorem State.qpSignal_sent {n : Nat} (hdue : s.vectorDue q) (hslice : s.qpSlice q = some n) : s.qpSignal q =
    (s.setQp q { s.qp q with arm := false, unsig := 0 }).emit (.msix (slLink (s.sliceEntry n)) 1 (qpVector (s.qpEntry q))) := by
  refine (if_pos (State.vectorDue_iff.1 hdue)).trans ?_
  rw [hslice]
  rfl

theorem State.qpSignal_quiet (hno : ¬s.vectorDue q ∨ s.qpSlice q = none) : s.qpSignal q = s := by
  by_cases hdue : s.vectorDue q
  · refine (if_pos (State.vectorDue_iff.1 hdue)).trans ?_
    rw [hno.resolve_left (not_not.2 hdue)]
  · exact if_neg (mt State.vectorDue_iff.2 hdue)
end

theorem exec_msixModeration {s : State} (hhost : s.hostUp = true) (q : Fin 65536) :
    exec (.msixModeration q) s = .next (s.qpSignal q.val) := congrArg Host.Outcome.next (if_pos hhost)

/-! ## Transmit (R410, R413) -/

/-- A packet that a fetch by link `l` brought in for queue pair `q` of slice `n`, by its first descriptor and its length. -/
def txPacket (l n q : Nat) (d data : List Byte) (len : Nat) : Pkt :=
  { Pkt.empty with
    bytes := txData d (data.take len ++ List.replicate (len - data.length) 0)
    port := 64 + l
    kind := 1
    slice := n
    qp := q
    tag := if natBit (d.getD 10 0).toNat 2 then some (leNat ((d.drop 12).take 4)) else none }

/-- A packet enters its pipeline and is charged and counted. -/
def State.txEnter (s : State) (l n q : Nat) (d data : List Byte) (len : Nat) : State :=
  (((s.setPipe (q % 16) { s.pipe (q % 16) with
    hostIn := (s.pipe (q % 16)).hostIn ++ [txPacket l n q d data len] }).sliceCharge n len).qpCount q 0 1).qpCount q 1 len

/-- How a fetch whose descriptors `ds` are used up ends, by the packet's length where they are good. -/
def State.txFinish (s : State) (l n q : Nat) (x : TxFetch) (ds : List (List Byte)) (first : Nat) : Option Nat → State
  | none => s.qpComplete n q (txDone 1 ds.length first (ds.headD []))
  | some len =>
    if x.fault = .later then (s.qpFault q).qpComplete n q (txDone 2 ds.length first (ds.headD []))
    else (s.txEnter l n q (ds.headD []) x.data len).qpComplete n q (txDone 0 ds.length first (ds.headD []))

section
variable {s : State} {l n q : Nat} {x : TxFetch}

theorem State.txFetch_atCheck (hfault : x.fault = .atCheck) : s.txFetch l n q x = s.qpFault q := if_pos hfault

variable (hfault : x.fault ≠ .atCheck)
include hfault

theorem State.txFetch_waits (hds : txDescs (s.txPosted q) x.ring = none) : s.txFetch l n q x = s := by
  refine (if_neg hfault).trans ?_
  rw [hds]

/-- A packet whose descriptors are complete uses them, good or bad. -/
theorem State.txFetch_uses {ds : List (List Byte)} {size first : Nat} {u : State} (hds : txDescs (s.txPosted q) x.ring = some ds)
    (hsize : size = qpTxSize (s.qpEntry q)) (hfirst : first = (s.qp q).txHead % size)
    (hu : u = (s.setQp q { s.qp q with txHead := (first + ds.length) % size }).setSlice n { s.slice n with nextQp := q + 1 }) :
    s.txFetch l n q x = u.txFinish l n q x ds first (txLength ds) := by
  subst hu hfirst hsize
  refine (if_neg hfault).trans ?_
  rw [hds]
  dsimp only
  cases txLength ds <;> rfl
end

section
variable {s t : State} {l : Fin 4} {x : TxFetch}

theorem exec_hostTxFetch_idle (h : s.rbit (lnkA (R.HOST_LINK_STAT + 16 * l.val)) 9 = false ∨ s.chooseSlice l.val = none) :
    exec (.hostTxFetch l x) s = .next s := by
  show execHostTxFetch l x s = _
  rcases h with hdown | hnone
  · exact if_pos (by simp [hdown])
  · simp only [execHostTxFetch, hnone, ite_self]

/-- A fetch serves the slice whose turn it is, and of its pairs the one whose turn it is. -/
theorem exec_hostTxFetch_serves (hhost : s.hostUp = true) (hup : s.rbit (lnkA (R.HOST_LINK_STAT + 16 * l.val)) 9 = true) {n q : Nat}
    {r : List Nat} (hturn : s.chooseSlice l.val = some (n, t))
    (hpair : rotateFrom (t.slice n).nextQp (t.sliceReadyQps n) = q :: r) :
    exec (.hostTxFetch l x) s = .next (t.txFetch l.val n q x) := by
  refine (if_neg (by simp [hhost, hup])).trans ?_
  simp only [hturn, hpair]
end

/-! ## Receive (R414, R415) -/

theorem exec_hostRxWrite_empty {s : State} {x : RxHost} (h : s.que.hostOut = []) : exec (.hostRxWrite x) s = .next s := by
  show execHostRxWrite x s = _
  simp only [execHostRxWrite, h]

theorem exec_hostRxWrite_takes {s u : State} {x : RxHost} {y : EgPkt} {r : List EgPkt} (hhost : s.hostUp = true)
    (hout : s.que.hostOut = y :: r) (hu : u = { s with que := { s.que with hostOut := r } }) :
    exec (.hostRxWrite x) s = .next (u.rxWrite (y.port - 64) y.pkt x) := by
  subst hu
  show execHostRxWrite x s = _
  simp only [execHostRxWrite, hout]
  exact if_neg (by simp [hhost])

/-- How a receive write that its pair takes ends, in the state with its descriptors used: packet, slice, pair and buffer size. -/
def State.rxFinish (s : State) (k : Pkt) (n q size : Nat) (x : RxHost) (need first : Nat) : State :=
  if x.fault = .later then (s.qpFault q).qpComplete n q (rxDone k true need first)
  else (((s.rxData n size x.ring need 0 k.bytes).qpCount q 2 1).qpCount q 3 k.bytes.length).qpComplete n q (rxDone k false need first)

section
variable {s : State} {l q e : Nat} {k : Pkt} {x : RxHost} (hq : q = k.rewrite % 65536)
include hq

theorem State.rxWrite_noSlice (hslice : s.qpSlice q = none) : s.rxWrite l k x = s.bump (lnkA R.HOST_RX_NOQP) := by
  subst hq
  simp only [State.rxWrite, hslice]

/-- The reasons for which a packet is dropped, in their order; else its descriptors are used. -/
theorem State.rxWrite_eq {n sl size first posted need : Nat} (he : e = s.qpEntry q) (hslice : s.qpSlice q = some n)
    (hsl : sl = s.sliceEntry n) (hsize : size = qpRxSize e) (hfirst : first = (s.qp q).rxHead % size)
    (hposted : posted = ((s.qp q).rxTail % size + size - first) % size)
    (hneed : need = (k.bytes.length + qpBufSize e - 1) / qpBufSize e) : s.rxWrite l k x =
      if qpEn e = false ∨ slLink sl ≠ l then s.bump (lnkA R.HOST_RX_NOQP)
      else if slStop sl = true then s.bump (lnkA (R.HOST_RX_NOQP + 8))
      else if posted < need ∨ (s.qp q).error = true then s.bump (lnkA (R.HOST_RX_NOQP + 4))
      else if x.fault = .atCheck then (s.qpFault q).bump (lnkA (R.HOST_RX_NOQP + 4))
      else (s.setQp q { s.qp q with rxHead := (first + need) % size }).rxFinish k n q (qpBufSize e) x need first := by
  have henabled : (qpEn e = false ∨ slLink sl ≠ l) ↔ (!qpEn e || slLink sl != l) = true := by
    rw [Bool.or_eq_true, Bool.not_eq_true', bne_iff_ne]
  subst hneed hposted hfirst hsize hsl he hq
  unfold State.rxWrite
  simp only [hslice, henabled]
  rfl
end

end Sys2Proof.Machine
end

section
/-! PROOF. The dirty log (R420, R421): words flushed and bitmaps swapped; and HOST's queues and log while HOST is down (R463). -/

namespace Sys2Proof.Machine

section
variable {s : State}

theorem exec_dlogFlush_word {i : Fin 1024} {w : DirtyWord} (hhost : s.hostUp = true) (hw : s.host.dirty[i.val]? = some w) :
    exec (.dlogFlush i) s = .next (s.dirtyFlush w) := by
  show execDlogFlush i s = _
  simp only [execDlogFlush, hw, hhost, if_true]

theorem exec_dlogFlush_none {i : Fin 1024} (hw : s.host.dirty[i.val]? = none) : exec (.dlogFlush i) s = .next s := by
  show execDlogFlush i s = _
  simp only [execDlogFlush, hw]

theorem exec_dlogSwapDone_busy {n : Fin 4096} {u : State} {x : SliceSt} (hhost : s.hostUp = true) (hx : x = s.slice n.val)
    (hu : u = State.setSlice (s.dirtyFlushAll (fun w => w.slice == n.val && w.map1 != x.active1)) n.val
      { (s.dirtyFlushAll (fun w => w.slice == n.val && w.map1 != x.active1)).slice n.val with swapBusy := false })
    (hbusy : x.swapBusy = true) :
    exec (.dlogSwapDone n) s = .next (((u.setHlink x.swapLink { u.hlink x.swapLink with
      dlogDone := true
      event := (u.hlink x.swapLink).event ||| 2 }).raise 0xC 1 1).emit (.msix x.swapLink 0 1)) := by
  subst hu hx
  exact if_pos (by simp [hbusy, hhost])

theorem exec_dlogSwapDone_idle {n : Fin 4096} (hidle : (s.slice n.val).swapBusy = false) : exec (.dlogSwapDone n) s = .next s :=
  if_neg (by simp [hidle])

/-- A swap reaches a slice from a link's BAR while HOST is up, or from the register by a write that R91 lets through; the link that shows
it is the BAR's or the slice's. -/
theorem exec_dlogSwap_asked {src : SwapFrom} {v : Word} {n l : Nat} (hn : n = v.toNat % 4096)
    (hsrc : (s.hostUp = true ∧ ∃ b : Fin 4, src = .bar b ∧ l = b.val) ∨
      ∃ m, src = .reg m ∧ s.mayWrite m (slcA R.HOST_DLOG_SWAP) ∧ l = slLink (s.sliceEntry n)) :
    exec (.dlogSwap src v) s = .next (s.dlogSwap l n) := by
  subst hn
  rcases hsrc with ⟨hhost, b, rfl, rfl⟩ | ⟨m, rfl, hw, rfl⟩
  · exact congrArg Host.Outcome.next (if_pos hhost)
  · exact congrArg Host.Outcome.next (State.asWrite_ok hw)

theorem State.dlogSwap_busy {l n : Nat} (hbusy : (s.slice n).swapBusy = true) :
    s.dlogSwap l n = s.setHlink l { s.hlink l with dlogRefused := true } := if_pos hbusy

theorem State.dlogSwap_free {l n : Nat} (hfree : (s.slice n).swapBusy = false) : s.dlogSwap l n =
    (s.setSlice n { s.slice n with active1 := !(s.slice n).active1, swapBusy := true, swapLink := l }).setHlink l
      { s.hlink l with dlogDone := false, dlogRefused := false, dlogSlice := n } := if_neg (by simp [hfree])
end

/-- With HOST down a doorbell, a fetch, a receive write, a vector, a flushed word and the swaps of a link do nothing (R463). -/
theorem exec_hostQueues_down {s : State} (hdown : s.hostUp = false) (l : Fin 4) (q : Fin 65536) (v : Word) (r : Fin 256) (x : TxFetch)
    (y : RxHost) (i : Fin 1024) (n : Fin 4096) :
    ∀ c ∈ [Instr.doorbellTxTail l q v, .doorbellRxTail l q v, .doorbellCqHead l q v, .lkaHostDoorbell l r v, .hostTxFetch l x,
      .hostRxWrite y, .msixModeration q, .dlogFlush i, .dlogSwap (.bar l) v, .dlogSwapDone n], exec c s = .next s := by
  simp only [List.forall_mem_cons, List.not_mem_nil, false_imp_iff, implies_true, and_true]
  have hoff : ¬s.hostUp = true := by simp [hdown]
  refine ⟨congrArg Host.Outcome.next (State.doorbell_down hdown), congrArg Host.Outcome.next (State.doorbell_down hdown), if_neg hoff,
    if_pos (by simp [hdown]), if_pos (by simp [hdown]), ?receive, congrArg Host.Outcome.next (if_neg hoff), ?flush,
    congrArg Host.Outcome.next (if_neg hoff), if_neg (by simp [hdown])⟩
  case receive =>
    cases hout : s.que.hostOut with
    | nil => exact exec_hostRxWrite_empty hout
    | cons k r =>
      show execHostRxWrite _ s = _
      simp only [execHostRxWrite, hout]
      exact if_pos (by simp [hdown])
  case flush =>
    show execDlogFlush i s = _
    unfold execDlogFlush
    split
    · rw [if_neg hoff]
    · rfl

/-- Settles O55: each command by the lemmas about it. -/
theorem hostQueuesRun : Obligations.HostQueuesRun := by
  intro s
  refine ⟨exec_hostQueues_down, fun hhost => ⟨fun l q v => ⟨?rung, ?dropped⟩, fun l r v e he =>
    ⟨exec_lkaHostDoorbell_served hhost he, exec_lkaHostDoorbell_dropped hhost he⟩, fun l x up hup => ⟨?idle, ?transmit⟩,
    fun x => ⟨exec_hostRxWrite_empty, ?receive⟩, fun q due hdue => ?vector, fun i => ⟨fun w => exec_dlogFlush_word hhost,
    exec_dlogFlush_none⟩, fun n x u y hx hu hy => ?swapDone⟩, fun src v n l x hn hx hsrc => ?swap⟩
  case rung =>
    rintro n e hslice rfl hen hlink hgo
    rw [exec_doorbellCqHead hhost, State.doorbell_served hhost hslice hen hlink hgo]
    exact ⟨congrArg Host.Outcome.next (State.doorbell_served hhost hslice hen hlink hgo),
      congrArg Host.Outcome.next (State.doorbell_served hhost hslice hen hlink hgo), rfl⟩
  case dropped =>
    intro hno
    rw [exec_doorbellCqHead hhost, State.doorbell_dropped hhost hno]
    exact ⟨congrArg Host.Outcome.next (State.doorbell_dropped hhost hno),
      congrArg Host.Outcome.next (State.doorbell_dropped hhost hno), rfl⟩
  case idle => exact hup ▸ exec_hostTxFetch_idle
  case transmit =>
    intro n t hon hturn q r hpair
    rw [exec_hostTxFetch_serves hhost (hup.symm.trans hon) hturn hpair]
    refine ⟨fun hfault => by rw [State.txFetch_atCheck hfault], fun hfault hds => by rw [State.txFetch_waits hfault hds],
      fun ds d size first u hfault hds hd hsize hfirst hu => ?_⟩
    subst hd
    rw [State.txFetch_uses hfault hds hsize hfirst hu]
    refine ⟨fun hbad => by rw [hbad, State.txFinish], fun len hlen hlater => by rw [hlen, State.txFinish, if_pos hlater],
      fun len k p hlen hok hp hk => ?_⟩
    subst hp hk
    rw [hlen, State.txFinish, if_neg (by simp [hok])]
    rfl
  case receive =>
    intro y r k q e u hout hu hk hq he
    subst hk
    rw [exec_hostRxWrite_takes hhost hout hu]
    refine ⟨fun hnone => by rw [State.rxWrite_noSlice hq hnone],
      fun n sl size first posted need hslice hsl hsize hfirst hposted hneed => ?_⟩
    rw [State.rxWrite_eq hq he hslice hsl hsize hfirst hposted hneed]
    refine ⟨fun hno => by rw [if_pos hno], fun hen hlink => ?_⟩
    rw [if_neg (by simp [hen, hlink])]
    refine ⟨fun hstop => by rw [if_pos hstop], fun hgo hfew => ?_, fun hgo henough hgood w hw => ?_⟩
    · rw [if_neg (by simp [hgo]), if_pos hfew]
    · rw [if_neg (by simp [hgo]), if_neg (by simp [hgood, henough]), ← hw]
      refine ⟨fun hcheck => by rw [if_pos hcheck], fun hlater => ?_, fun hok => ?_⟩
      · rw [if_neg (by simp [hlater]), State.rxFinish, if_pos hlater]
      · rw [if_neg (by simp [hok]), State.rxFinish, if_neg (by simp [hok])]
  case vector =>
    have hdue : due ↔ s.vectorDue q.val := hdue
    rw [exec_msixModeration hhost, hdue]
    exact ⟨fun n hd hslice => by rw [State.qpSignal_sent hd hslice], fun hno => by rw [State.qpSignal_quiet hno]⟩
  case swapDone =>
    subst hy
    exact ⟨exec_dlogSwapDone_busy hhost hx hu, fun hidle => exec_dlogSwapDone_idle (hx ▸ hidle)⟩
  case swap =>
    subst hx
    rw [exec_dlogSwap_asked hn hsrc]
    exact ⟨fun hbusy => by rw [State.dlogSwap_busy hbusy], fun u hfree hu => by rw [hu, State.dlogSwap_free hfree]⟩

end Sys2Proof.Machine
end

section
/-! PROOF. The stores' canonical form (R70, R90, R97, R431): it holds at reset and every step keeps it. -/

namespace Sys2Proof.Machine

theorem State.storesWf_iff {s : State} : s.storesWf = true ↔ spWf regReset s.regs = true ∧
    spWf (fun _ => (0 : Entry)) s.tabs = true ∧ spWf hbmEmpty s.hbm = true ∧ spWf flashEmpty s.flash = true := by
  simp only [State.storesWf, Memory.wf, Bool.and_eq_true, and_assoc]

theorem Evolves.storesWf {s t : State} (h : Evolves s t) (hs : s.storesWf = true) : t.storesWf = true := by
  obtain ⟨hregs, htabs, hhbm, hflash⟩ := State.storesWf_iff.1 hs
  exact State.storesWf_iff.2 ⟨h.regs hregs, h.tabs htabs, h.hbm hhbm, h.flash hflash⟩

/-- Settles O3: a step evolves the state (`step_evolves`), and what evolves a state keeps its stores' form. -/
theorem stepsKeepStoresCanonical : Obligations.StepsKeepStoresCanonical := fun _ _ hs hstep =>
  (step_evolves hstep).storesWf hs

/-- Settles O4: at reset every store, the queue and the output are empty. -/
theorem resetStoresAreCanonical : Obligations.ResetStoresAreCanonical := ⟨State.storesWf_iff.2 ⟨rfl, rfl, rfl, rfl⟩, rfl, rfl⟩

end Sys2Proof.Machine
end

section
/-! PROOF. Causes and the integrity log (R95, R105, R108): what a raised cause and a logged entry leave behind. -/

namespace Sys2Proof.Machine

/-- Settles O6: from the laws of `State.raise`. -/
theorem raisingACauseIsRecorded : Obligations.RaisingACauseIsRecorded := by
  intro s r b k _ hr hb hk
  obtain ⟨regs, ctl, hframe⟩ := s.raise_ctlOnly r b k
  exact ⟨State.cause_raise hr hb hk, fun r' b' k' => s.raise_up r b k r' b' k', State.raise_of_cause, regs, ctl, hframe⟩

/-- The integrity log keeps its entries and takes new ones at its end. -/
def IntgGrows (s t : State) : Prop := s.ctl.intg <+: t.ctl.intg

theorem IntgGrows.refl (s : State) : IntgGrows s s := List.prefix_rfl

theorem IntgGrows.trans {s t u : State} (h : IntgGrows s t) (g : IntgGrows t u) : IntgGrows s u := List.IsPrefix.trans h g

theorem IntgGrows.of_intg {s t : State} (h : t.ctl.intg = s.ctl.intg) : IntgGrows s t := by rw [IntgGrows, h]

theorem IntgGrows.of_ctl {s t : State} (h : t.ctl = s.ctl) : IntgGrows s t := IntgGrows.of_intg (congrArg _ h)

section
variable {f : Nat → Nat → Nat → State → State} (hf : ∀ r b k s, IntgGrows s (f r b k s))
include hf

theorem intgLogWith_grows (k a m x y : Nat) (s : State) : IntgGrows s (intgLogWith f k a m x y s) := by
  unfold intgLogWith
  split
  · exact (IntgGrows.of_intg (s := s) (t := { s with ctl := { s.ctl with intgOvf := s.ovfNext s.ctl.intgOvf } }) rfl).trans (hf 0 4 8 _)
  · extract_lets w e
    exact (List.prefix_append s.ctl.intg [e]).trans (hf 0 4 (k - 1) { s with ctl := { s.ctl with intg := s.ctl.intg ++ [e] } })

theorem deviceEventWith_grows (n i : Nat) (s : State) : IntgGrows s (deviceEventWith f n i s) := by
  unfold deviceEventWith
  split
  · exact (IntgGrows.of_ctl (s.bump_ctl _ _)).trans (hf _ _ _ _)
  · exact IntgGrows.of_ctl (s.wr64_ctl _ _)

theorem routeWith_grows (r b k n : Nat) (s : State) : IntgGrows s (routeWith f r b k n s) := by
  unfold routeWith
  dsimp only
  split
  · split
    · exact intgLogWith_grows hf ..
    · exact deviceEventWith_grows hf ..
  · exact IntgGrows.refl s
end

theorem raiseN_grows (n r b k : Nat) (s : State) : IntgGrows s (raiseN n r b k s) := by
  induction n generalizing r b k s with
  | zero => exact IntgGrows.of_ctl rfl
  | succ n ih =>
    unfold raiseN
    split
    · exact IntgGrows.refl s
    · have hset : IntgGrows s (s.setCause r b k) := IntgGrows.of_ctl rfl
      exact hset.trans ((routeWith_grows ih r b k 0 _).trans (routeWith_grows ih r b k 1 _))

theorem State.raise_grows (s : State) (r b k : Nat) : IntgGrows s (s.raise r b k) := raiseN_grows 16 r b k s

/-- An entry of the integrity log as R108 lays it out. -/
def State.intgEntry (s : State) (k a m x y : Nat) : IntgEntry where
  w0 := BitVec.ofNat 32 (a % 2 ^ 26 + m * 2 ^ 26 + 2 ^ 31)
  w1 := BitVec.ofNat 32 (k + x * 2 ^ 8 + y * 2 ^ 16)
  w2 := BitVec.ofNat 32 (tvNs s.wt)
  w3 := BitVec.ofNat 32 (tvSec s.wt)

theorem State.intgEntry_kind (s : State) {k : Nat} (hk : k < 256) (a m x y : Nat) :
    natField (s.intgEntry k a m x y).w1.toNat 0 8 = k := by
  simp only [State.intgEntry, BitVec.toNat_ofNat, natField]
  omega

theorem State.intgLog_of_room {s : State} (h : s.ctl.intg.length < 16) (k a m x y : Nat) :
    s.intgLog k a m x y = State.raise { s with ctl := { s.ctl with intg := s.ctl.intg ++ [s.intgEntry k a m x y] } } 0 4 (k - 1) :=
  if_neg (Nat.not_le.2 h)

theorem State.intgLog_of_full {s : State} (h : 16 ≤ s.ctl.intg.length) (k a m x y : Nat) :
    s.intgLog k a m x y = State.raise { s with ctl := { s.ctl with intgOvf := s.ovfNext s.ctl.intgOvf } } 0 4 8 := if_pos h

theorem natBit_and_not {n v k : Nat} (hk : k < 32) (x : Word) (hx : x = BitVec.ofNat 32 n &&& ~~~ BitVec.ofNat 32 v) :
    natBit x.toNat k = (natBit n k && !natBit v k) := by
  subst hx
  simp only [natBit_eq_testBit, BitVec.testBit_toNat, BitVec.getLsbD_and, BitVec.getLsbD_not, BitVec.getLsbD_ofNat, hk,
    decide_true, Bool.true_and]

/-- A write of BCAUSE clears the bits that are 1 in it and no other bit of the register (R95). -/
theorem State.cause_bcauseClear (s : State) (r b v k : Nat) (hk : k < 32) :
    (s.bcauseClear r b v).cause r b k = (s.cause r b k && !natBit v k) := by
  have hclear : ((s.bcauseClear r b v).rd (regAddr r b 8)) = s.rd (regAddr r b 8) &&& ~~~ BitVec.ofNat 32 v := by
    unfold State.bcauseClear
    dsimp only
    split
    · rw [State.rd_wr_ne (by simp only [regAddr, R.PIPE_ASC_TIE_REC]; omega), State.rd_wr_self]
    · rw [State.rd_wr_self]
  refine natBit_and_not hk _ (hclear.trans ?_)
  rw [BitVec.ofNat_toNat, BitVec.setWidth_eq]

/-- Settles O7: a logged entry raises its cause after it has joined the log, a full log raises LOG_OVF, and a write clears by bit. -/
theorem integrityEntriesSetTheirCause : Obligations.IntegrityEntriesSetTheirCause := by
  intro s _
  refine ⟨fun k a m x y hk1 hk8 hroom => ?_, fun k a m x y hfull => ?_, fun m v hw => ?_⟩
  · rw [State.intgLog_of_room hroom]
    obtain ⟨l, hl⟩ := State.raise_grows { s with ctl := { s.ctl with intg := s.ctl.intg ++ [s.intgEntry k a m x y] } } 0 4 (k - 1)
    refine ⟨State.cause_raise (by decide) (by decide) (by omega), s.intgEntry k a m x y, ⟨l, ?_⟩,
      s.intgEntry_kind (by omega) a m x y⟩
    rw [← hl, List.append_assoc, List.singleton_append]
  · rw [State.intgLog_of_full hfull]
    obtain ⟨l, hl⟩ := State.raise_grows { s with ctl := { s.ctl with intgOvf := s.ovfNext s.ctl.intgOvf } } 0 4 8
    exact ⟨State.cause_raise (by decide) (by decide) (by decide), l, hl.symm⟩
  · exact ⟨_, exec_bcauseClear hw, fun k => s.cause_bcauseClear 0 4 v.toNat k⟩

end Sys2Proof.Machine
end

section
/-! PROOF. Totality (R91, R450, assumption 2): every meaning answers a next state on every path, so a step never stops the block. A meaning
whose guard fails leaves the state as it is; the lemmas follow the branches of the meanings. -/

namespace Sys2Proof.Machine

/-- The command answers a next state. -/
def Completes (o : Host.Outcome State Fault Refusal) : Prop := ∃ t, o = .next t

theorem Completes.next (t : State) : Completes (.next t) := ⟨t, rfl⟩

theorem Completes.ite {c : Prop} [Decidable c] {a b : Host.Outcome State Fault Refusal} (ha : Completes a) (hb : Completes b) :
    Completes (if c then a else b) := by
  split
  · exact ha
  · exact hb

variable {s : State}

theorem execClockTick_completes : Completes (execClockTick s) := .ite (.next _) (.ite (.next _) (.next _))
theorem execServoOffset_completes {d : Dom} : Completes (execServoOffset d s) := by
  unfold execServoOffset
  refine .ite ?_ (.next _)
  split <;> exact .next _
theorem execServoTimeout_completes {d : Dom} : Completes (execServoTimeout d s) := .ite (.next _) (.next _)
theorem execRefHoldUpdate_completes {d : Dom} {f : Int} : Completes (execRefHoldUpdate d f s) := .ite (.next _) (.next _)
theorem execSetsecLoad_completes {d : Dom} : Completes (execSetsecLoad d s) := by
  unfold execSetsecLoad
  split
  · exact .ite (.next _) (.next _)
  · exact .next _
theorem execActiveSwitch_completes : Completes (execActiveSwitch s) := .ite (.next _) (.next _)
theorem execRevertWtrExpiry_completes : Completes (execRevertWtrExpiry s) := by
  unfold execRevertWtrExpiry
  split
  · exact .ite (.next _) (.next _)
  · exact .next _
theorem execSlotStart_completes : Completes (execSlotStart s) := .ite (.next _) (.next _)
theorem execCycleStart_completes : Completes (execCycleStart s) := .ite (.next _) (.ite (.ite (.next _) (.next _)) (.next _))
theorem execPerSecondLatch_completes : Completes (execPerSecondLatch s) := .ite (.next _) (.next _)
theorem execOnestepDepart_completes {p : Fin 64} {late : Bool} : Completes (execOnestepDepart p late s) := by
  unfold execOnestepDepart
  split
  · exact .next _
  · exact .ite (.next _) (.ite (.next _) (.ite (.next _) (.next _)))
theorem execPpsOutEdge_completes {n : Fin 4} : Completes (execPpsOutEdge n s) := .ite (.next _) (.next _)
theorem execPpsInEdge_completes {n : Fin 2} {phase : Fin 64} : Completes (execPpsInEdge n phase s) := .ite (.next _) (.next _)
theorem execPpsinLoss_completes {n : Fin 2} : Completes (execPpsinLoss n s) := .ite (.next _) (.next _)
theorem execTodRxMessage_completes {msg : TodMessage} : Completes (execTodRxMessage msg s) := by
  unfold execTodRxMessage
  refine .ite (.ite ?_ (.next _)) (.next _)
  split <;> exact .next _
theorem execTodTxMessage_completes : Completes (execTodTxMessage s) := by
  unfold execTodTxMessage
  split
  · exact .ite (.next _) (.next _)
  · exact .next _
theorem execRefQualify_completes {ofs : Word} : Completes (execRefQualify ofs s) := .ite (.next _) (.next _)
theorem execRefLoss_completes : Completes (execRefLoss s) := .ite (.next _) (.next _)
theorem execPtmDialog_completes {l : Fin 4} {times : Option PtmTimes} : Completes (execPtmDialog l times s) := by
  unfold execPtmDialog
  refine .ite ?_ (.next _)
  split
  · exact .next _
  · exact .ite (.next _) (.next _)
theorem execVsb33Present_completes : Completes (execVsb33Present s) := .ite (.next _) (.next _)
theorem execRailsInTolerance_completes : Completes (execRailsInTolerance s) := .ite (.next _) (.next _)
theorem execResetNFall_completes : Completes (execResetNFall s) := .ite (.next _) (.next _)
theorem execResetNRise_completes : Completes (execResetNRise s) := .ite (.next _) (.next _)
theorem execVin12Low_completes : Completes (execVin12Low s) := .ite (.next _) (.next _)
theorem execBootStart_completes {x : BootReads} : Completes (execBootStart x s) := .ite (.next _) (.ite (.next _) (.next _))
theorem execBidReadDone_completes {b : Option (List Byte)} : Completes (execBidReadDone b s) := by
  unfold execBidReadDone
  refine .ite ?_ (.next _)
  split
  · exact .ite (.next _) (.next _)
  · exact .next _
theorem execHbmVerifyDone_completes {x0 x1 x2 x3 : StackCheck} {rec0 rec1 : Bool} : Completes (execHbmVerifyDone x0 x1 x2 x3 rec0 rec1 s) :=
  .ite (.ite (.next _) (.next _)) (.next _)
theorem execImageVerifyDone_completes {readErr ue : Bool} : Completes (execImageVerifyDone readErr ue s) := by
  unfold execImageVerifyDone
  refine .ite (.ite (.next _) ?_) (.next _)
  extract_lets q
  split
  · exact .ite (.next _) (.next _)
  · exact .next _
theorem execWriteListApply_completes : Completes (execWriteListApply s) := .ite (.ite (.next _) (.next _)) (.next _)
theorem execFwLoadRelease_completes : Completes (execFwLoadRelease s) := by
  unfold execFwLoadRelease
  refine .ite ?_ (.next _)
  split <;> exact .next _
theorem execCmisSweep_completes {checks : List CageCheck} : Completes (execCmisSweep checks s) := .ite (.next _) (.ite (.next _) (.next _))
theorem execFwdReady_completes : Completes (execFwdReady s) := .ite (.next _) (.next _)
theorem execFwdWaitExpiry_completes {x : FwdWait} : Completes (execFwdWaitExpiry x s) := by
  unfold execFwdWaitExpiry
  refine .ite ?_ (.next _)
  split <;> exact .next _
theorem execHealthTimeout_completes : Completes (execHealthTimeout s) := .ite (.ite (.next _) (.next _)) (.next _)
theorem execWtLate_completes : Completes (execWtLate s) := .ite (.next _) (.next _)
theorem execDeclareFirst_completes {d : Dom} : Completes (execDeclareFirst d s) := .ite (.next _) (.next _)
theorem execRegisterWrite_completes {x : Access} {datum : BitVec 64} {transit : Bool} : Completes (execRegisterWrite x datum transit s) := by
  unfold execRegisterWrite
  extract_lets x
  split
  · exact .ite (.next _) (.next _)
  · exact .next _
theorem execSnapInstant_completes : Completes (execSnapInstant s) := by
  unfold execSnapInstant
  split
  · refine .ite ?_ (.next _)
    split <;> exact .next _
  · exact .next _
theorem execSnapDone_completes : Completes (execSnapDone s) := by
  unfold execSnapDone
  split <;> exact .next _
theorem execPortUp_completes {p : Fin 64} : Completes (execPortUp p s) := by
  unfold execPortUp
  split <;> exact .next _
theorem execPortDown_completes {p : Fin 64} {why : PortLoss} : Completes (execPortDown p why s) := by
  unfold execPortDown
  split
  · exact .next _
  · exact .next _
  · exact .ite (.next _) (.next _)
  · exact .next _
theorem execAnFail_completes {p : Fin 64} : Completes (execAnFail p s) := .ite (.next _) (.next _)
theorem execPauseExpiry_completes {p : Fin 64} {i : Fin 9} : Completes (execPauseExpiry p i s) := by
  unfold execPauseExpiry
  extract_lets x
  split
  · exact .ite (.next _) (.next _)
  · exact .next _
theorem execTxFrame_completes {p : Fin 64} {x : TxLine} : Completes (execTxFrame p x s) := by
  unfold execTxFrame
  refine .ite (.next _) ?_
  extract_lets q
  split
  · exact .ite (.next _) (.ite (.next _) (.next _))
  · exact .ite (.next _) (.ite (.next _) (.next _))
  · exact .next _
theorem execWakeMatch_completes {p : Fin 64} {frame : List Byte} : Completes (execWakeMatch p frame s) := .ite (.next _) (.next _)
theorem execWakeComplete_completes {p : Fin 64} : Completes (execWakeComplete p s) := .ite (.next _) (.next _)
theorem execModAccDone_completes {r : ModReply} : Completes (execModAccDone r s) := by
  unfold execModAccDone
  split
  · exact .ite (.next _) (.next _)
  · exact .next _
theorem execIngressAccept_completes {i : Fin 16} : Completes (execIngressAccept i s) := by
  unfold execIngressAccept
  refine .ite ?_ (.next _)
  split
  · exact .ite (.next _) (.next _)
  · refine .ite (.next _) ?_
    split
    · split <;> exact .next _
    · split <;> exact .next _
    · split <;> exact .next _
    · exact .next _
theorem execParseDispatch_completes {i : Fin 16} : Completes (execParseDispatch i s) := by
  unfold execParseDispatch
  split
  · exact .ite (.next _) (.next _)
  · exact .next _
theorem execParseExc_completes {i : Fin 16} {e : Fin 64} : Completes (execParseExc i e s) := .ite (.next _) (.next _)
theorem execParseDone_completes {i : Fin 16} {e : Fin 64} : Completes (execParseDone i e s) := .ite (.next _) (.next _)
theorem execLookup_completes {i : Fin 16} : Completes (execLookup i s) := by
  unfold execLookup
  split
  · refine .ite (.next _) ?_
    extract_lets t m k a b
    split
    · exact .next _
    · exact .ite (.next _) (.next _)
    · exact .ite (.next _) (.next _)
  · exact .next _
theorem execLongProbeLookup_completes {i : Fin 16} : Completes (execLongProbeLookup i s) := by
  unfold execLongProbeLookup
  split <;> exact .next _
theorem execFarLookup_completes {i : Fin 16} {n : Fin 256} : Completes (execFarLookup i n s) := by
  unfold execFarLookup
  extract_lets p
  split
  · refine .ite (.next _) (.ite (.next _) ?_)
    extract_lets r
    split <;> exact .next _
  · exact .next _
theorem execRebuildDone_completes : Completes (execRebuildDone s) := by
  unfold execRebuildDone
  split <;> exact .next _
theorem execEgressRewrite_completes {i : Fin 16} : Completes (execEgressRewrite i s) := by
  unfold execEgressRewrite
  split
  · exact .next _
  · refine .ite (.next _) (.ite (.next _) ?_)
    split <;> exact .next _
theorem execLearnEngine_completes {r : Fin 4} : Completes (execLearnEngine r s) := by
  unfold execLearnEngine
  refine .ite ?_ (.next _)
  extract_lets x
  split
  · exact .next _
  · split
    case _ => exact .next _
    case _ => exact .next _
    case _ => exact .next _
    case _ => exact .next _
    case _ => exact .next _
    case _ => exact .ite (.next _) (.next _)
theorem execFlushDone_completes {r : Fin 4} : Completes (execFlushDone r s) := by
  unfold execFlushDone
  split <;> exact .next _
theorem execNotePost_completes {r : Fin 4} : Completes (execNotePost r s) := by
  unfold execNotePost
  refine .ite (.next _) ?_
  extract_lets l t p
  split <;> exact .next _
theorem execAgingSweepStart_completes {t : AgeTable} : Completes (execAgingSweepStart t s) := .ite (.next _) (.next _)
theorem execAgingVisit_completes {t : AgeTable} : Completes (execAgingVisit t s) := by
  unfold execAgingVisit
  split
  · refine .ite (.next _) (.ite (.next _) (.ite ?_ (.next _)))
    split
    · split <;> exact .next _
    · split <;> exact .next _
  · exact .next _
theorem execMoverCopy_completes {a : ArrayRef} : Completes (execMoverCopy a s) := by
  unfold execMoverCopy
  split <;> exact .next _
theorem execSlotSteal_completes {a : ArrayRef} : Completes (execSlotSteal a s) := by
  unfold execSlotSteal
  refine .ite ?_ (.next _)
  split <;> exact .next _
theorem execScrubRewrite_completes {a : ArrayRef} : Completes (execScrubRewrite a s) := .ite (.next _) (.next _)
theorem execScrubLine_completes {a : ArrayRef} : Completes (execScrubLine a s) := by
  unfold execScrubLine
  refine .ite ?_ (.next _)
  extract_lets next
  clear_value next
  cases next with
  | none => exact .next _
  | some line => exact .next _
theorem execCommitInstant_completes : Completes (execCommitInstant s) := by
  unfold execCommitInstant
  split
  · exact .ite (.next _) (.next _)
  · exact .next _
theorem execRetire_completes : Completes (execRetire s) := .ite (.next _) (.next _)
theorem execRetireLate_completes : Completes (execRetireLate s) := .ite (.next _) (.next _)
theorem execBatchWrite_completes : Completes (execBatchWrite s) := by
  unfold execBatchWrite
  split
  · exact .ite (.next _) (.next _)
  · exact .next _
theorem execPauseAbort_completes : Completes (execPauseAbort s) := by
  unfold execPauseAbort
  split
  · exact .ite (.next _) (.next _)
  · exact .next _
theorem execPacketAdmit_completes {i : Fin 16} {ct : Bool} : Completes (execPacketAdmit i ct s) := by
  unfold execPacketAdmit
  split
  · exact .next _
  · refine .ite (.next _) (.ite (.next _) ?_)
    split
    · exact .next _
    · split <;> exact .next _
theorem execCellFree_completes {ptr : Word} : Completes (execCellFree ptr s) := .ite (.next _) (.next _)
theorem execSpillWrite_completes {q : QueueRef} {late : Bool} : Completes (execSpillWrite q late s) := by
  unfold execSpillWrite
  extract_lets key x
  split
  · exact .next _
  · refine .ite (.next _) (.ite (.next _) (.ite (.next _) ?_))
    split
    · exact .next _
    · exact .ite (.next _) (.next _)
theorem execSpillReadback_completes {q : QueueRef} : Completes (execSpillReadback q s) := by
  unfold execSpillReadback
  extract_lets key x ahead
  split
  · exact .next _
  · refine .ite (.next _) (.ite (.next _) ?_)
    extract_lets got
    clear_value got
    cases got with
    | none => exact .next _
    | some p => exact .next _
theorem execSpillCacheRefill_completes : Completes (execSpillCacheRefill s) := .ite (.next _) (.next _)
theorem execSpillCacheDrain_completes : Completes (execSpillCacheDrain s) := .ite (.next _) (.next _)
theorem execInitDone_completes : Completes (execInitDone s) := .ite (.next _) (.next _)
theorem execReplExpand_completes : Completes (execReplExpand s) := by
  unfold execReplExpand
  split
  · exact .next _
  · refine .ite (.next _) (.ite (.next _) ?_)
    split <;> exact .next _
theorem execSharedRelease_completes {rec : Fin 131072} {byOwner : Bool} : Completes (execSharedRelease rec byOwner s) :=
  .ite (.next _) (.next _)
theorem execSharedFree_completes {rec : Fin 131072} {byOwner : Bool} : Completes (execSharedFree rec byOwner s) := .ite (.next _) (.next _)
theorem execVoqRelease_completes {late : Bool} : Completes (execVoqRelease late s) := by
  unfold execVoqRelease
  refine .ite (.next _) ?_
  split
  · exact .next _
  · split
    · exact .next _
    · split
      · exact .next _
      · exact .ite (.next _) (.next _)
theorem execStallFlush_completes {q : Fin 524288} : Completes (execStallFlush q s) := .ite (.next _) (.next _)
theorem execEgressSelect_completes {p : Fin 70} {late : Bool} : Completes (execEgressSelect p late s) := by
  unfold execEgressSelect
  refine .ite (.next _) ?_
  split
  · exact .next _
  · split
    · exact .next _
    · exact .ite (.next _) (.next _)
theorem execShaperEpoch_completes {l : Fin 5} : Completes (execShaperEpoch l s) := .ite (.next _) (.next _)
theorem execPfcRefresh_completes {p : Fin 64} {c : Fin 8} : Completes (execPfcRefresh p c s) := by
  unfold execPfcRefresh
  refine .ite ?_ (.next _)
  split <;> exact .next _
theorem execPisteSwap_completes : Completes (execPisteSwap s) := by
  unfold execPisteSwap
  split
  · exact .ite (.next _) (.next _)
  · exact .next _
theorem execSlotFill_completes : Completes (execSlotFill s) := .ite (.next _) (.next _)
theorem execSlotRx_completes {x : RxSlot} : Completes (execSlotRx x s) := .ite (.next _) (.ite (.next _) (.next _))
theorem execCellRx_completes : Completes (execCellRx s) := by
  unfold execCellRx
  split <;> exact .next _
theorem execRelayAged_completes {d : Fin 1024} : Completes (execRelayAged d s) := by
  unfold execRelayAged
  split
  · exact .next _
  · exact .ite (.next _) (.next _)
theorem execGapTimerExpiry_completes {n : Fin 1024} : Completes (execGapTimerExpiry n s) := by
  unfold execGapTimerExpiry
  split
  · exact .ite (.next _) (.next _)
  · exact .next _
theorem execExpUnset_completes {n : Fin 1024} : Completes (execExpUnset n s) := .ite (.next _) (.next _)
theorem execOvcPinFrameRx_completes {n : Fin 4} {frame : List Byte} {aborted : Bool} : Completes (execOvcPinFrameRx n frame aborted s) := by
  unfold execOvcPinFrameRx
  refine .ite (.next _) ?_
  split
  · exact .next _
  · exact .ite (.next _) (.next _)
theorem execOvcChannelFrameRx_completes {n : Fin 4} : Completes (execOvcChannelFrameRx n s) := by
  unfold execOvcChannelFrameRx
  refine .ite ?_ (.next _)
  extract_lets raw t
  split
  · exact .next _
  · exact .ite (.next _) (.next _)
theorem execOvcPinFrameTx_completes {n : Fin 4} : Completes (execOvcPinFrameTx n s) := by
  unfold execOvcPinFrameTx
  extract_lets x
  split
  · exact .next _
  · exact .ite (.next _) (.next _)
theorem execOvcChannelFrameTx_completes {n : Fin 4} : Completes (execOvcChannelFrameTx n s) := by
  unfold execOvcChannelFrameTx
  extract_lets x
  split
  · exact .next _
  · exact .ite (.next _) (.next _)
theorem execRngFail_completes : Completes (execRngFail s) := .ite (.next _) (.next _)
theorem execRngRecover_completes : Completes (execRngRecover s) := .ite (.next _) (.next _)
theorem execEspInbound_completes {i : Fin 16} : Completes (execEspInbound i s) := by
  unfold execEspInbound
  split
  · exact .next _
  · exact .ite (.next _) (.ite (.next _) (.ite (.next _) (.next _)))
theorem execChAcq_completes {t : Fin 384} {rd : Fin 32} {ch : BitVec 64} : Completes (execChAcq t rd ch s) := by
  unfold execChAcq
  refine .ite ?_ (.next _)
  split <;> exact .next _
theorem execChAcqWake_completes {t : Fin 384} : Completes (execChAcqWake t s) := by
  unfold execChAcqWake
  split
  · split <;> exact .next _
  · exact .next _
theorem execChTryacq_completes {t : Fin 384} {rd : Fin 32} {ch : BitVec 64} : Completes (execChTryacq t rd ch s) := by
  unfold execChTryacq
  refine .ite ?_ (.next _)
  split <;> exact .next _
theorem execChPost_completes {t : Fin 384} {rd : Fin 32} {slot : BitVec 64} {data : BitVec 512} : Completes (execChPost t rd slot data s) := by
  unfold execChPost
  refine .ite ?_ (.next _)
  split
  · exact .next _
  · exact .ite (.next _) (.ite (.next _) (.next _))
theorem execChDrop_completes {t : Fin 384} {rd : Fin 32} {slot : BitVec 64} : Completes (execChDrop t rd slot s) := by
  unfold execChDrop
  refine .ite ?_ (.next _)
  split <;> exact .next _
theorem execChRecv_completes {t : Fin 384} {rd : Fin 32} {ch : BitVec 64} : Completes (execChRecv t rd ch s) := by
  unfold execChRecv
  refine .ite ?_ (.next _)
  split <;> exact .next _
theorem execChRecvWake_completes {t : Fin 384} : Completes (execChRecvWake t s) := by
  unfold execChRecvWake
  split
  · split <;> exact .next _
  · exact .next _
theorem execChTryrecv_completes {t : Fin 384} {rd : Fin 32} {ch : BitVec 64} : Completes (execChTryrecv t rd ch s) := by
  unfold execChTryrecv
  refine .ite ?_ (.next _)
  split <;> exact .next _
theorem execChFree_completes {t : Fin 384} {rd : Fin 32} {slot : BitVec 64} : Completes (execChFree t rd slot s) := by
  unfold execChFree
  refine .ite ?_ (.next _)
  split <;> exact .next _
theorem execEvWait_completes {t : Fin 384} {rd : Fin 32} {mask timeout : BitVec 64} : Completes (execEvWait t rd mask timeout s) :=
  .ite (.ite (.next _) (.next _)) (.next _)
theorem execEvWaitWake_completes {t : Fin 384} : Completes (execEvWaitWake t s) := by
  unfold execEvWaitWake
  split
  · exact .ite (.next _) (.next _)
  · exact .next _
theorem execEvWaitTimeout_completes {t : Fin 384} : Completes (execEvWaitTimeout t s) := by
  unfold execEvWaitTimeout
  split
  · exact .ite (.next _) (.next _)
  · exact .next _
theorem execEvPoll_completes {t : Fin 384} {rd : Fin 32} {mask : BitVec 64} : Completes (execEvPoll t rd mask s) := .ite (.next _) (.next _)
theorem execEvSend_completes {t : Fin 384} {rd : Fin 32} {target input : BitVec 64} : Completes (execEvSend t rd target input s) :=
  .ite (.ite (.next _) (.ite (.next _) (.ite (.next _) (.next _)))) (.next _)
theorem execThreadSwitch_completes {core : Fin 96} {why : SwitchWhy} : Completes (execThreadSwitch core why s) := by
  unfold execThreadSwitch
  extract_lets running leave
  clear_value leave running
  match why, running with
  | .miss, some t => exact .next _
  | .device, some t => exact .next _
  | .idle, none =>
    dsimp only
    split <;> exact .next _
  | .served _, some _ => exact .ite (.next _) (.next _)
  | .served _, none => exact .ite (.next _) (.next _)
  | .miss, none => exact .next _
  | .device, none => exact .next _
  | .idle, some _ => exact .next _
theorem execInterruptFileWrite_completes {m : Master} {t : Fin 384} {v : Word} : Completes (execInterruptFileWrite m t v s) :=
  .ite (.next _) (.next _)
theorem execTimerInterrupt_completes {t : Fin 384} : Completes (execTimerInterrupt t s) := .ite (.next _) (.next _)
theorem execDeviceChannelWrite_completes : Completes (execDeviceChannelWrite s) := by
  unfold execDeviceChannelWrite
  split <;> exact .next _
theorem execPortTxProcess_completes {c : Fin 49152} : Completes (execPortTxProcess c s) := .ite (.next _) (.next _)
theorem execDeadlock_completes {cl : Fin 12} : Completes (execDeadlock cl s) := .ite (.next _) (.next _)
theorem execPmuInstant_completes {r : Fin 3} : Completes (execPmuInstant r s) := by
  unfold execPmuInstant
  extract_lets x
  split
  · exact .ite (.next _) (.next _)
  · exact .ite (.next _) (.next _)
  · exact .next _
theorem execSamplerOverflow_completes {t : Fin 384} {evt : Fin 32} {pc : BitVec 64} : Completes (execSamplerOverflow t evt pc s) :=
  .ite (.next _) (.next _)
theorem execHostLinkUp_completes {l : Fin 4} {rate : Fin 6} {width : Fin 64} {flit : Bool} : Completes (execHostLinkUp l rate width flit s) :=
  .ite (.next _) (.next _)
theorem execFunctionLevelReset_completes {l : Fin 4} {what : LinkReset} : Completes (execFunctionLevelReset l what s) := by
  unfold execFunctionLevelReset
  refine .ite ?_ (.next _)
  split
  · exact .next _
  · exact .ite (.next _) (.ite (.next _) (.next _))
theorem execDoorbellCqHead_completes {l : Fin 4} {q : Fin 65536} {v : Word} : Completes (execDoorbellCqHead l q v s) :=
  .ite (.next _) (.next _)
theorem execHostTxFetch_completes {l : Fin 4} {x : TxFetch} : Completes (execHostTxFetch l x s) := by
  unfold execHostTxFetch
  refine .ite (.next _) ?_
  split
  · exact .next _
  · split <;> exact .next _
theorem execHostRxWrite_completes {x : RxHost} : Completes (execHostRxWrite x s) := by
  unfold execHostRxWrite
  split
  · exact .next _
  · exact .ite (.next _) (.next _)
theorem execLkaHostDoorbell_completes {l : Fin 4} {r : Fin 256} {v : Word} : Completes (execLkaHostDoorbell l r v s) :=
  .ite (.next _) (.ite (.next _) (.next _))
theorem execDlogFlush_completes {i : Fin 1024} : Completes (execDlogFlush i s) := by
  unfold execDlogFlush
  split <;> exact .next _
theorem execDlogSwap_completes {src : SwapFrom} {v : Word} : Completes (execDlogSwap src v s) := by
  unfold execDlogSwap
  split <;> exact .next _
theorem execDlogSwapDone_completes {n : Fin 4096} : Completes (execDlogSwapDone n s) := .ite (.next _) (.next _)
theorem execNvmeDoorbell_completes {l : Fin 4} {x : NvmeIn} : Completes (execNvmeDoorbell l x s) := .ite (.next _) (.next _)
theorem execNvmeTimeout_completes {i : Fin 65536} : Completes (execNvmeTimeout i s) := by
  unfold execNvmeTimeout
  split
  · exact .next _
  · exact .ite (.next _) (.next _)
theorem execNvmeCcDisable_completes {l : Fin 4} : Completes (execNvmeCcDisable l s) := .ite (.next _) (.next _)
theorem execHbmAccess_completes {q : HbmReq} : Completes (execHbmAccess q s) := by
  unfold execHbmAccess
  refine .ite (.next _) ?_
  split
  · exact .next _
  · exact .ite (.next _) (.ite (.next _) (.next _))
theorem execPageIdlePrecharge_completes {n : Fin 4} {rank : Fin 96} {bank : Fin 64} : Completes (execPageIdlePrecharge n rank bank s) :=
  .ite (.next _) (.next _)
theorem execTempReadout_completes {n : Fin 4} {t : Option (Fin 256)} : Completes (execTempReadout n t s) := by
  unfold execTempReadout
  split
  · exact .ite (.next _) (.next _)
  · exact .next _
theorem execPatrolScrub_completes {n : Fin 4} {err : HbmErr} : Completes (execPatrolScrub n err s) :=
  .ite (.next _) (.ite (.next _) (.ite (.next _) (.next _)))
theorem execVerifyDone_completes {n : Fin 4} {pass : Bool} : Completes (execVerifyDone n pass s) := by
  unfold execVerifyDone
  extract_lets x
  split
  · exact .next _
  · exact .ite (.next _) (.next _)
theorem execMigrationCopyLine_completes {n : Fin 4} {bad : Bool} : Completes (execMigrationCopyLine n bad s) := by
  unfold execMigrationCopyLine
  split
  · exact .next _
  · exact .ite (.next _) (.next _)
theorem execRetirementRecordWrite_completes : Completes (execRetirementRecordWrite s) := .ite (.next _) (.next _)
theorem execSelfRefreshEntry_completes {n : Fin 4} {abandon : Bool} : Completes (execSelfRefreshEntry n abandon s) :=
  .ite (.next _) (.next _)
theorem execSelfRefreshExit_completes {n : Fin 4} : Completes (execSelfRefreshExit n s) := .ite (.next _) (.next _)
theorem execBlockFatal_completes {r : Fin 26} {b : Fin 64} : Completes (execBlockFatal r b s) := .ite (.next _) (.ite (.next _) (.next _))
theorem execBlockAutoRelease_completes {r : Fin 26} {b : Fin 64} : Completes (execBlockAutoRelease r b s) := .ite (.next _) (.next _)
theorem execRegionFatal_completes {r : Fin 26} {b : Fin 64} : Completes (execRegionFatal r b s) := .ite (.next _) (.next _)
theorem execRegionAbsent_completes {r : Fin 26} : Completes (execRegionAbsent r s) := .ite (.next _) (.next _)
theorem execRegionRelease_completes {r : Fin 26} : Completes (execRegionRelease r s) :=
  .ite (.ite (.next _) (.ite (.next _) (.next _))) (.next _)
theorem execRegionReady_completes {r : Fin 26} : Completes (execRegionReady r s) := .ite (.next _) (.next _)
theorem execReplyTimeout_completes {r : Fin 26} : Completes (execReplyTimeout r s) := .ite (.next _) (.next _)
theorem execEpochDiscard_completes {r : Fin 26} : Completes (execEpochDiscard r s) := .ite (.next _) (.next _)
theorem execChipFatal_completes {c : ChipCause} : Completes (execChipFatal c s) := .ite (.next _) (.next _)
theorem execFailsafeAutoReset_completes : Completes (execFailsafeAutoReset s) := .ite (.next _) (.next _)
theorem execSessionTimeout_completes : Completes (execSessionTimeout s) := by
  unfold execSessionTimeout
  split
  · exact .ite (.next _) (.next _)
  · exact .next _
theorem execGlideImageVerified_completes {readErr : Bool} : Completes (execGlideImageVerified readErr s) := by
  unfold execGlideImageVerified
  refine .ite ?_ (.next _)
  extract_lets r n
  refine .ite (.next _) ?_
  extract_lets
  split <;> exact .next _
theorem execGapTimeout_completes : Completes (execGapTimeout s) := .ite (.next _) (.next _)
theorem execGlideWatchdog_completes : Completes (execGlideWatchdog s) := .ite (.next _) (.next _)
theorem execSetDone_completes {err : Bool} : Completes (execSetDone err s) := by
  unfold execSetDone
  split
  · exact .next _
  · exact .ite (.next _) (.next _)
theorem execAttDone_completes : Completes (execAttDone s) := by
  unfold execAttDone
  split <;> exact .next _
theorem execThermSample_completes {sensors : List (Option Byte)} : Completes (execThermSample sensors s) :=
  .ite (.next _) (.ite (.next _) (.next _))
theorem execDieToDieLinkUp_completes {modules : Fin 17} : Completes (execDieToDieLinkUp modules s) :=
  .ite (.ite (.next _) (.next _)) (.next _)
theorem execPoolCacheRefill_completes {p : Fin 256} : Completes (execPoolCacheRefill p s) := .ite (.next _) (.next _)
theorem execPoolCacheDrain_completes {p : Fin 256} : Completes (execPoolCacheDrain p s) := .ite (.next _) (.next _)
theorem execConfigurationRequest_completes {l : Fin 4} {fn : Fin 3} : Completes (execConfigurationRequest l fn s) :=
  .ite (.next _) (.next _)
theorem execNvmeControllerEnable_completes {l : Fin 4} : Completes (execNvmeControllerEnable l s) := .ite (.next _) (.next _)
theorem execPpsOutPulseEnd_completes {n : Fin 4} : Completes (execPpsOutPulseEnd n s) := by
  unfold execPpsOutPulseEnd
  split
  · exact .ite (.next _) (.next _)
  · exact .next _
theorem execSupplyStatusUpdate_completes {x : SupplyStat} : Completes (execSupplyStatusUpdate x s) := .ite (.next _) (.next _)
theorem execNeighbourDiscoveryOrArp_completes {f : SvcFrame} : Completes (execNeighbourDiscoveryOrArp f s) := by
  unfold execNeighbourDiscoveryOrArp
  refine .ite ?_ (.next _)
  split <;> exact .next _

theorem exec_completes (c : Instr) (s : State) : Completes (exec c s) := by
  cases c with
  | clockTick => exact execClockTick_completes
  | servoOffset => exact execServoOffset_completes
  | servoTimeout => exact execServoTimeout_completes
  | refHoldUpdate => exact execRefHoldUpdate_completes
  | setsecLoad => exact execSetsecLoad_completes
  | activeSwitch => exact execActiveSwitch_completes
  | revertWtrExpiry => exact execRevertWtrExpiry_completes
  | slotStart => exact execSlotStart_completes
  | cycleStart => exact execCycleStart_completes
  | perSecondLatch => exact execPerSecondLatch_completes
  | onestepDepart => exact execOnestepDepart_completes
  | ppsOutEdge => exact execPpsOutEdge_completes
  | ppsInEdge => exact execPpsInEdge_completes
  | ppsinLoss => exact execPpsinLoss_completes
  | todRxMessage => exact execTodRxMessage_completes
  | todTxMessage => exact execTodTxMessage_completes
  | refQualify => exact execRefQualify_completes
  | refLoss => exact execRefLoss_completes
  | ptmDialog => exact execPtmDialog_completes
  | vsb33Present => exact execVsb33Present_completes
  | railsInTolerance => exact execRailsInTolerance_completes
  | resetNFall => exact execResetNFall_completes
  | resetNRise => exact execResetNRise_completes
  | vin12Low => exact execVin12Low_completes
  | bootStart => exact execBootStart_completes
  | bidReadDone => exact execBidReadDone_completes
  | hbmVerifyDone => exact execHbmVerifyDone_completes
  | imageVerifyDone =>
    unfold exec
    exact execImageVerifyDone_completes
  | writeListApply => exact execWriteListApply_completes
  | fwLoadRelease => exact execFwLoadRelease_completes
  | cmisSweep => exact execCmisSweep_completes
  | fwdReady => exact execFwdReady_completes
  | fwdWaitExpiry => exact execFwdWaitExpiry_completes
  | healthTimeout => exact execHealthTimeout_completes
  | wtLate => exact execWtLate_completes
  | declareFirst => exact execDeclareFirst_completes
  | registerWrite => exact execRegisterWrite_completes
  | snapInstant => exact execSnapInstant_completes
  | snapDone => exact execSnapDone_completes
  | portUp => exact execPortUp_completes
  | portDown => exact execPortDown_completes
  | anFail => exact execAnFail_completes
  | pauseExpiry => exact execPauseExpiry_completes
  | txFrame => exact execTxFrame_completes
  | wakeMatch => exact execWakeMatch_completes
  | wakeComplete => exact execWakeComplete_completes
  | modAccDone => exact execModAccDone_completes
  | ingressAccept => exact execIngressAccept_completes
  | parseDispatch => exact execParseDispatch_completes
  | parseExc => exact execParseExc_completes
  | parseDone => exact execParseDone_completes
  | lookup => exact execLookup_completes
  | longProbeLookup => exact execLongProbeLookup_completes
  | farLookup => exact execFarLookup_completes
  | rebuildDone => exact execRebuildDone_completes
  | egressRewrite => exact execEgressRewrite_completes
  | learnEngine => exact execLearnEngine_completes
  | flushDone => exact execFlushDone_completes
  | notePost => exact execNotePost_completes
  | agingSweepStart => exact execAgingSweepStart_completes
  | agingVisit => exact execAgingVisit_completes
  | moverCopy => exact execMoverCopy_completes
  | slotSteal => exact execSlotSteal_completes
  | scrubRewrite => exact execScrubRewrite_completes
  | scrubLine => exact execScrubLine_completes
  | commitInstant => exact execCommitInstant_completes
  | retire => exact execRetire_completes
  | retireLate => exact execRetireLate_completes
  | batchWrite => exact execBatchWrite_completes
  | pauseAbort => exact execPauseAbort_completes
  | packetAdmit => exact execPacketAdmit_completes
  | cellFree => exact execCellFree_completes
  | spillWrite => exact execSpillWrite_completes
  | spillReadback => exact execSpillReadback_completes
  | spillCacheRefill => exact execSpillCacheRefill_completes
  | spillCacheDrain => exact execSpillCacheDrain_completes
  | initDone => exact execInitDone_completes
  | replExpand => exact execReplExpand_completes
  | sharedRelease => exact execSharedRelease_completes
  | sharedFree => exact execSharedFree_completes
  | voqRelease => exact execVoqRelease_completes
  | stallFlush => exact execStallFlush_completes
  | egressSelect => exact execEgressSelect_completes
  | shaperEpoch => exact execShaperEpoch_completes
  | pfcRefresh => exact execPfcRefresh_completes
  | pisteSwap => exact execPisteSwap_completes
  | slotFill => exact execSlotFill_completes
  | slotRx => exact execSlotRx_completes
  | cellRx => exact execCellRx_completes
  | relayAged => exact execRelayAged_completes
  | gapTimerExpiry => exact execGapTimerExpiry_completes
  | expUnset => exact execExpUnset_completes
  | ovcPinFrameRx => exact execOvcPinFrameRx_completes
  | ovcChannelFrameRx => exact execOvcChannelFrameRx_completes
  | ovcPinFrameTx => exact execOvcPinFrameTx_completes
  | ovcChannelFrameTx => exact execOvcChannelFrameTx_completes
  | rngFail => exact execRngFail_completes
  | rngRecover => exact execRngRecover_completes
  | espInbound => exact execEspInbound_completes
  | chAcq => exact execChAcq_completes
  | chAcqWake => exact execChAcqWake_completes
  | chTryacq => exact execChTryacq_completes
  | chPost => exact execChPost_completes
  | chDrop => exact execChDrop_completes
  | chRecv => exact execChRecv_completes
  | chRecvWake => exact execChRecvWake_completes
  | chTryrecv => exact execChTryrecv_completes
  | chFree => exact execChFree_completes
  | evWait => exact execEvWait_completes
  | evWaitWake => exact execEvWaitWake_completes
  | evWaitTimeout => exact execEvWaitTimeout_completes
  | evPoll => exact execEvPoll_completes
  | evSend => exact execEvSend_completes
  | threadSwitch => exact execThreadSwitch_completes
  | interruptFileWrite => exact execInterruptFileWrite_completes
  | timerInterrupt => exact execTimerInterrupt_completes
  | deviceChannelWrite => exact execDeviceChannelWrite_completes
  | portTxProcess => exact execPortTxProcess_completes
  | deadlock => exact execDeadlock_completes
  | pmuInstant => exact execPmuInstant_completes
  | samplerOverflow => exact execSamplerOverflow_completes
  | hostLinkUp => exact execHostLinkUp_completes
  | functionLevelReset => exact execFunctionLevelReset_completes
  | doorbellCqHead => exact execDoorbellCqHead_completes
  | hostTxFetch => exact execHostTxFetch_completes
  | hostRxWrite => exact execHostRxWrite_completes
  | lkaHostDoorbell => exact execLkaHostDoorbell_completes
  | dlogFlush => exact execDlogFlush_completes
  | dlogSwap => exact execDlogSwap_completes
  | dlogSwapDone => exact execDlogSwapDone_completes
  | nvmeDoorbell => exact execNvmeDoorbell_completes
  | nvmeTimeout => exact execNvmeTimeout_completes
  | nvmeCcDisable => exact execNvmeCcDisable_completes
  | hbmAccess => exact execHbmAccess_completes
  | pageIdlePrecharge => exact execPageIdlePrecharge_completes
  | tempReadout => exact execTempReadout_completes
  | patrolScrub => exact execPatrolScrub_completes
  | verifyDone => exact execVerifyDone_completes
  | migrationCopyLine => exact execMigrationCopyLine_completes
  | retirementRecordWrite => exact execRetirementRecordWrite_completes
  | selfRefreshEntry => exact execSelfRefreshEntry_completes
  | selfRefreshExit => exact execSelfRefreshExit_completes
  | blockFatal => exact execBlockFatal_completes
  | blockAutoRelease => exact execBlockAutoRelease_completes
  | regionFatal => exact execRegionFatal_completes
  | regionAbsent => exact execRegionAbsent_completes
  | regionRelease => exact execRegionRelease_completes
  | regionReady => exact execRegionReady_completes
  | replyTimeout => exact execReplyTimeout_completes
  | epochDiscard => exact execEpochDiscard_completes
  | chipFatal => exact execChipFatal_completes
  | failsafeAutoReset => exact execFailsafeAutoReset_completes
  | sessionTimeout => exact execSessionTimeout_completes
  | glideImageVerified => exact execGlideImageVerified_completes
  | gapTimeout => exact execGapTimeout_completes
  | glideWatchdog => exact execGlideWatchdog_completes
  | setDone => exact execSetDone_completes
  | attDone => exact execAttDone_completes
  | thermSample => exact execThermSample_completes
  | dieToDieLinkUp => exact execDieToDieLinkUp_completes
  | poolCacheRefill => exact execPoolCacheRefill_completes
  | poolCacheDrain => exact execPoolCacheDrain_completes
  | configurationRequest => exact execConfigurationRequest_completes
  | nvmeControllerEnable => exact execNvmeControllerEnable_completes
  | ppsOutPulseEnd => exact execPpsOutPulseEnd_completes
  | supplyStatusUpdate => exact execSupplyStatusUpdate_completes
  | neighbourDiscoveryOrArp => exact execNeighbourDiscoveryOrArp_completes
  | _ => exact .next _

/-- A command leaves the queue behind it alone. -/
theorem exec_next_pending (c : Instr) (s : State) : ∃ t, exec c s = .next t ∧ t.pending = s.pending := by
  obtain ⟨t, ht⟩ := exec_completes c s
  exact ⟨t, ht, (exec_ends c s t ht).pending⟩

/-- As many steps as commands wait empty the queue. -/
theorem steps_empty_queue (l : List Instr) (s : State) (h : s.pending = l) :
    ∃ t, steps l.length s = .next t ∧ t.pending = [] := by
  induction l generalizing s with
  | nil => exact ⟨s, rfl, h⟩
  | cons c rest ih =>
    obtain ⟨t, ht, hpending⟩ := exec_next_pending c { s with pending := rest }
    obtain ⟨u, hu, hempty⟩ := ih t hpending
    refine ⟨u, ?_, hempty⟩
    rw [List.length_cons, steps, step_of_pending_cons h, ht]
    exact hu

/-- Settles O2: every meaning completes (`exec_completes`), and the queue shrinks by one command a step. -/
theorem everyCommandCompletes : Obligations.EveryCommandCompletes :=
  ⟨exec_next_pending, fun s => steps_empty_queue s.pending s rfl⟩

end Sys2Proof.Machine
end

section
/-! PROOF. Timed instants (R19, R20, R46, R52, R57, R58, R128): what each instant's command comes to once it is due. -/

namespace Sys2Proof.Machine

variable {s : State}

theorem exec_slotStart_due (h : s.instantDue (s.time.nextSlot * lsbSlot) = true) :
    exec .slotStart s = .next (State.latchAdv { s with time := { s.time with nextSlot := s.time.nextSlot + 1 } }) := if_pos h

theorem exec_cycleStart_due {k : Nat} {u w : State} (hvalid : s.time.wtValid = true) (hstart : s.atCycleStart = true)
    (hk : k = s.time.nextSlot - 1) (hrun : s.fab.cycleRun ≤ k)
    (hu : u = State.cycleTime { s with fab := { s.fab with cycleRun := k + 1 } } k) (hw : w = u.lanesAligned.2.closeAll) :
    exec .cycleStart s = .next (if w.rgnWorks 0x11 then (w.alwCycle (k * lsbSlot)).grantCycle u.lanesAligned.1 else w) := by
  subst hk hw hu
  show execCycleStart s = _
  unfold execCycleStart
  rw [if_neg (by simp [hvalid]), if_pos (by simp [hstart, hrun])]
  exact (apply_ite Host.Outcome.next ..).symm

theorem exec_cycleStart_beforeValid (hvalid : s.time.wtValid = false) (hruns : s.rgnRuns 1 = true)
    (hnew : s.time.joinCycle ≠ slotOf s.wt / max 1 s.cycleLen + 1) :
    exec .cycleStart s = .next ((State.fabricPush
      { s with time := { s.time with joinCycle := slotOf s.wt / max 1 s.cycleLen + 1 } } .cobalt).fabricPush .umber) := by
  show execCycleStart s = _
  unfold execCycleStart State.joinCycleStart
  rw [if_pos hvalid, if_pos (by simpa [hruns] using hnew)]

theorem exec_perSecondLatch_due (hvalid : s.time.wtValid = true) (hdue : s.time.nextSecond * lsbSec ≤ s.wt)
    (hline : s.rgnAbsent 2 = false) :
    exec .perSecondLatch s = .next ((List.range 144).foldl
      (fun t l => if t.rgnAbsent (0x14 + l / 72) then t else t.laneSecond l)
      ((List.range 64).foldl State.portSecond { s with time := { s.time with nextSecond := s.time.nextSecond + 1 } })) := by
  show execPerSecondLatch s = _
  unfold execPerSecondLatch
  have hline' : State.rgnAbsent { s with time := { s.time with nextSecond := s.time.nextSecond + 1 } } 2 = false := hline
  rw [if_pos ⟨hvalid, hdue⟩]
  simp only [hline', Bool.false_eq_true, if_false]

/-- The frame held for a port leaves at its instant: what a port that is UP, and one that is not, does with it (R52, R128). -/
theorem exec_onestepDepart_due {p : Fin 64} {late : Bool} {o : OneStep}
    (hheld : s.time.oneStep.find? (fun o => o.port == p.val) = some o) (hdue : o.td ≤ s.wt) (hworks : s.rgnWorks 2 = true)
    (hsafe : s.flt.failsafe = none) {u : State} (hu : u = { s with time := { s.time with oneStep := s.time.oneStep.erase o } }) :
    exec (.onestepDepart p late) s = .next (
      if s.portState p ≠ .up then (if s.portState p = .sleep then u else u.portCount p 62 1)
      else if late then (u.bump (A.tsu (R.TIME_PORT_ONESTEP_LATE + 32 * p))).raise 1 4 3
      else u.macSend p { Pkt.empty with bytes := o.bytes, bad := o.bad } ⟨false, none, ⟨0, 0, 0, 0⟩⟩) := by
  subst hu
  show execOnestepDepart p late s = _
  unfold execOnestepDepart
  rw [hheld]
  dsimp only
  rw [if_neg (by simp [hworks, hsafe, hdue])]
  simp only [apply_ite Host.Outcome.next]
  rfl

theorem exec_ppsOutEdge_due {n : Fin 4} {k : Nat} (hlive : s.ppsLive n = true) (hpos : 0 ≤ (s.ppsTime n : Int) - s.ppsOfs n)
    (hk : k = (((s.ppsTime n : Int) - s.ppsOfs n) / (lsbSec : Int)).toNat) (hnext : s.time.ppsNext.getD n 0 ≤ k)
    {edge : Int} (hedge : edge = ((k * lsbSec : Nat) : Int) + s.ppsOfs n) :
    exec (.ppsOutEdge n) s = .next { s with
      time := { s.time with
        ppsPin := s.time.ppsPin.set n (!s.ppsIdle n)
        ppsNext := s.time.ppsNext.set n (k + 1)
        ppsPulse := s.time.ppsPulse.set n (some edge.toNat)
        todDue := if n.val = 0 then some k else s.time.todDue }
      out := .pps n (!s.ppsIdle n) (s.ppsGrid n edge).toNat :: s.out } := by
  subst hk hedge
  exact if_pos ⟨hlive, hnext, hpos⟩

theorem exec_ppsOutPulseEnd_due {n : Fin 4} {edge : Nat} (hpulse : s.time.ppsPulse.getD n none = some edge)
    (hdue : edge + (s.rd (A.tio (R.TIME_PPSOUT_WIDTH + 16 * n))).toNat * lsbUs ≤ s.ppsTime n ∨ edge + lsbSec ≤ s.ppsTime n) :
    exec (.ppsOutPulseEnd n) s = .next { s with
      time := { s.time with ppsPulse := s.time.ppsPulse.set n none, ppsPin := s.time.ppsPin.set n (s.ppsLive n && s.ppsIdle n) }
      out := .pps n (s.ppsLive n && s.ppsIdle n) (s.ppsTime n) :: s.out } := by
  show execPpsOutPulseEnd n s = _
  unfold execPpsOutPulseEnd
  rw [hpulse]
  exact if_pos hdue

/-- Settles O11: each clause is the equation of its instant's command. -/
theorem timedInstantsFireWhenDue : Obligations.TimedInstantsFireWhenDue := by
  intro s
  refine ⟨exec_slotStart_due, fun k u w => exec_cycleStart_due, exec_cycleStart_beforeValid, exec_perSecondLatch_due, ?onestep, ?edge,
    ?pulse, ?inEdge, ?loss⟩
  case onestep =>
    intro p late o hheld hdue hworks hsafe
    refine ⟨_, rfl, fun hup => ?_, fun hnot => ?_⟩
    · rw [exec_onestepDepart_due hheld hdue hworks hsafe rfl, if_neg (by simp [hup])]
    · rw [exec_onestepDepart_due hheld hdue hworks hsafe rfl, if_pos hnot]
  case edge =>
    intro n k hlive hpos hk hnext
    exact ⟨_, _, rfl, exec_ppsOutEdge_due hlive hpos hk hnext rfl, rfl, rfl, rfl, rfl, rfl, rfl, rfl, rfl, rfl⟩
  case pulse =>
    intro n edge hpulse hdue
    exact ⟨_, exec_ppsOutPulseEnd_due hpulse hdue, rfl, rfl, rfl, rfl, rfl, rfl, rfl⟩
  case inEdge => exact fun n phase hruns hon => ⟨_, rfl, if_pos ⟨hruns, hon⟩⟩
  case loss => exact fun n hruns hon hfound hlate => if_pos ⟨hruns, hon, hfound, hlate⟩

end Sys2Proof.Machine
end

section
/-! PROOF. Table windows (R97, R98, R481): a command is refused by a busy window, joins an open Glide queue, or runs; then what the general
commands do to the entry at INDEX. -/

namespace Sys2Proof.Machine

/-! ## How a window starts a command -/

section
variable {s u : State} {a c : Nat} {v : Word} {run : State → State}

/-- A Glide's queue takes the window's commands. -/
def State.winQueues (s : State) (a : Nat) : Bool := s.glideQueues && glideRegion (addrRegion a)

theorem State.winStart_busy (hbusy : s.rbit (a + 12) 0 = true) (w : Nat) : s.winStart a w run = s.setFld (a + 12) 1 3 5 := by
  unfold State.winStart
  rw [if_pos hbusy]

theorem State.winStart_queued (hfree : s.rbit (a + 12) 0 = false) (hq : s.winQueues a = true) (hc : c < 16) (hread : c ≠ 1) :
    s.winStart a (withCmd v c) run = s.winQueue a (withCmd v c) := by
  unfold State.winQueues at hq
  unfold State.winStart
  rw [if_neg (by simp [hfree]), if_pos (by simp [hq, withCmd_mod v c hc, hread])]

/-- READ is never queued; any other command runs where no queue takes it. -/
theorem State.winStart_runs (hfree : s.rbit (a + 12) 0 = false) (hc : c < 16) (hq : c = 1 ∨ s.winQueues a = false)
    (hu : u = s.wr a (BitVec.ofNat 32 (natField v.toNat 4 11 * 16))) : s.winStart a (withCmd v c) run = run u := by
  have hnot : ¬((s.glideQueues && glideRegion (addrRegion a) && withCmd v c % 16 != 1) = true) := by
    rw [withCmd_mod v c hc]
    unfold State.winQueues at hq
    rcases hq with h | h <;> simp [h]
  unfold State.winStart
  rw [if_neg (by simp [hfree]), if_neg hnot, natField_withCmd v c hc 11 4 (by omega), hu]

variable {run : State → Nat × State} {n : Nat}

theorem State.winCmd_busy (hbusy : s.rbit (a + 12) 0 = true) (w : Nat) : s.winCmd a w n run = s.setFld (a + 12) 1 3 5 :=
  State.winStart_busy hbusy w

theorem State.winCmd_queued (hfree : s.rbit (a + 12) 0 = false) (hq : s.winQueues a = true) (hc : c < 16) (hread : c ≠ 1) :
    s.winCmd a (withCmd v c) n run = s.winQueue a (withCmd v c) :=
  State.winStart_queued hfree hq hc hread

theorem State.winCmd_runs (hfree : s.rbit (a + 12) 0 = false) (hc : c < 16) (hq : c = 1 ∨ s.winQueues a = false)
    (hu : u = s.wr a (BitVec.ofNat 32 (natField v.toNat 4 11 * 16))) :
    s.winCmd a (withCmd v c) n run = (run u).2.winEnd a (run u).1 n :=
  State.winStart_runs hfree hc hq hu
end

/-! ## The general commands -/

/-- Commands 1, 2, 3 and 8: those a table has unless it has commands of its own (R98). -/
def generalCmd (c : Nat) : Prop := c = 1 ∨ c = 2 ∨ c = 3 ∨ c = 8

theorem generalCmd.lt {c : Nat} (h : generalCmd c) : c < 16 := by unfold generalCmd at h; omega

section
variable {s u : State} {m : Master} {r b w : Nat} {v : Word} {c : Nat} {table : WinTable}

theorem State.winPlain_busy (hbusy : s.rbit (winA r b w + 12) 0 = true) (v : Nat) :
    s.winPlain r b w v = s.setFld (winA r b w + 12) 1 3 5 := by
  unfold State.winPlain
  dsimp only
  split
  · exact State.winCmd_busy hbusy _
  · exact State.winCmd_busy hbusy _

theorem State.winPlain_queued (hfree : s.rbit (winA r b w + 12) 0 = false) (hq : s.winQueues (winA r b w) = true) (hc : c < 16)
    (hread : c ≠ 1) : s.winPlain r b w (withCmd v c) = s.winQueue (winA r b w) (withCmd v c) := by
  unfold State.winPlain
  dsimp only
  split
  · exact State.winCmd_queued hfree hq hc hread
  · exact State.winCmd_queued hfree hq hc hread

section
variable (hfree : s.rbit (winA r b w + 12) 0 = false) (hq : c = 1 ∨ s.winQueues (winA r b w) = false)
  (hu : u = s.wr (winA r b w) (BitVec.ofNat 32 (natField v.toNat 4 11 * 16)))
include hfree hq hu

theorem State.winPlain_noTable (hc : c < 16) (ht : s.tableOf r b (natField v.toNat 4 8) = none)
    (hown : ownTable r b (natField v.toNat 4 8) = false) : s.winPlain r b w (withCmd v c) = u.winEnd (winA r b w) 2 0 := by
  unfold State.winPlain
  simp only [natField_withCmd v c hc 8 4 (by omega), ht]
  rw [State.winCmd_runs hfree hc hq hu, hown]
  rfl

theorem State.winPlain_table (hc : generalCmd c) (ht : s.tableOf r b (natField v.toNat 4 8) = some table) :
    s.winPlain r b w (withCmd v c) =
      (u.winRun (winA r b w) c table).2.winEnd (winA r b w) (u.winRun (winA r b w) c table).1 table.bytes := by
  unfold State.winPlain
  simp only [natField_withCmd v c hc.lt 8 4 (by omega), ht]
  rw [State.winCmd_runs hfree hc.lt hq hu]
  simp only [withCmd_mod v c hc.lt]
  have hgeneral : c = 1 ∨ c = 2 ∨ c = 3 ∨ c = 8 := hc
  rw [if_pos hgeneral]
end

/-- Outside the key slots and the arrays' entries, READ, WRITE and CLEAR are general commands of every window. -/
theorem State.winCtrl_general (hkey : ¬(r = 8 ∧ b = 0))
    (hasc : ¬(3 ≤ r ∧ r ≤ 6 ∧ (b = 10 ∨ b = 11) ∧ natField v.toNat 4 8 = 0x62)) (hc : c = 1 ∨ c = 2 ∨ c = 3) :
    s.winCtrl m r b w (withCmd v c) = s.winPlain r b w (withCmd v c) := by
  have hno : emCommand c = none ∧ lpmCommand c = none ∧ lrnCommand (r - 3) c = none := by
    rcases hc with rfl | rfl | rfl <;> exact ⟨rfl, rfl, rfl⟩
  obtain ⟨hem, hlpm, hlrn⟩ := hno
  unfold State.winCtrl
  simp only [natField_withCmd v c (by omega) 8 4 (by omega), withCmd_mod v c (by omega), hem, hlpm, hlrn]
  have hentry : ¬(3 ≤ r ∧ r ≤ 6 ∧ (b = 10 ∨ b = 11) ∧ (natField v.toNat 4 8 = 0x62 ∨ 8 ≤ c)) := by omega
  have hinit : ¬(r = 0x13 ∧ b = 3 ∧ c = 8 ∧ natField v.toNat 4 8 = 0x70) := by omega
  rw [if_neg (by omega), if_neg hentry, if_neg hinit, if_neg hkey, ite_self, ite_self, ite_self]

/-- READ_CLEAR is a general command where no block has a command 8 of its own. -/
theorem State.winCtrl_readClear (hkey : ¬(r = 8 ∧ b = 0)) (htbl : r ≠ 7) (hpipe : ¬(3 ≤ r ∧ r ≤ 6)) (hpool : natField v.toNat 4 8 ≠ 0x70) :
    s.winCtrl m r b w (withCmd v 8) = s.winPlain r b w (withCmd v 8) := by
  unfold State.winCtrl
  simp only [natField_withCmd v 8 (by omega) 8 4 (by omega), withCmd_mod v 8 (by omega)]
  rw [if_neg (by omega), if_neg (by omega), if_neg (by omega), if_neg (by omega), if_neg (by omega), if_neg (by omega), if_neg hkey]
end

/-! ## What a command does to the entry -/

section
variable {u : State} {a : Nat} {table : WinTable}

theorem State.winRun_beyond (h : table.count u ≤ u.winIndex a) (c : Nat) : u.winRun a c table = (1, u) := if_pos h

variable (hin : u.winIndex a < table.count u)
include hin

theorem State.winRun_read {e : Nat} (hget : table.get u (u.winIndex a) (u.winVmask a) = some e) :
    u.winRun a 1 table = (0, u.setWinData a (table.bytes / 4) e) := by
  unfold State.winRun
  dsimp only
  rw [if_neg (Nat.not_le.2 hin), hget]
  rfl

theorem State.winRun_unreadable (hget : table.get u (u.winIndex a) (u.winVmask a) = none) : u.winRun a 1 table = (3, u) := by
  unfold State.winRun
  dsimp only
  rw [if_neg (Nat.not_le.2 hin), hget]
  rfl

theorem State.winRun_write : u.winRun a 2 table =
    table.put u (u.winIndex a) (u.winVmask a) (u.winDataN a (table.bytes / 4)) := if_neg (Nat.not_le.2 hin)

theorem State.winRun_clear : u.winRun a 3 table = table.clear u (u.winIndex a) (u.winVmask a) := if_neg (Nat.not_le.2 hin)

theorem State.winRun_readClear {e : Nat} (hrc : table.readClear = true) (hget : table.get u (u.winIndex a) (u.winVmask a) = some e)
    {r : Nat × State} (hr : r = if u.ctl.snapFrozen then (0, u) else table.clear u (u.winIndex a) (u.winVmask a)) :
    u.winRun a 8 table = (r.1, r.2.setWinData a (table.bytes / 4) e) := by
  unfold State.winRun
  dsimp only
  rw [if_neg (Nat.not_le.2 hin), if_pos hrc, hget, hr]
  rfl

theorem State.winRun_noReadClear (hrc : table.readClear = false) : u.winRun a 8 table = (3, u) := by
  unfold State.winRun
  dsimp only
  rw [if_neg (Nat.not_le.2 hin), if_neg (by simp [hrc])]
  rfl
end

/-! ## The commands of the obligation -/

section
variable {s : State} {m : Master} {x : WinRef} {v : Word} (hw : s.mayWrite m (winA x.region x.block x.w))
  (hwin : x.w.val < winCount x.region x.block)
include hw hwin

theorem State.asWin_ok (c : Nat) : s.asWin m x v c = s.winCtrl m x.region x.block x.w (withCmd v c) := by
  unfold State.asWin
  rw [State.asWrite_ok hw, if_pos hwin]

variable (hkey : ¬(x.region.val = 8 ∧ x.block.val = 0))
include hkey

/-- READ, WRITE and CLEAR by a master that may, as the window itself carries them out. -/
theorem exec_winGeneral
    (hasc : ¬(3 ≤ x.region.val ∧ x.region.val ≤ 6 ∧ (x.block.val = 10 ∨ x.block.val = 11) ∧ natField v.toNat 4 8 = 0x62)) :
    exec (.winRead m x v) s = .next (s.winPlain x.region x.block x.w (withCmd v 1)) ∧
    exec (.winWrite m x v) s = .next (s.winPlain x.region x.block x.w (withCmd v 2)) ∧
    exec (.winClear m x v) s = .next (s.winPlain x.region x.block x.w (withCmd v 3)) := by
  have heq (c : Nat) (hc : c = 1 ∨ c = 2 ∨ c = 3) : s.asWin m x v c = s.winPlain x.region x.block x.w (withCmd v c) :=
    (State.asWin_ok hw hwin c).trans (State.winCtrl_general hkey hasc hc)
  exact ⟨congrArg _ (heq 1 (by decide)), congrArg _ (heq 2 (by decide)), congrArg _ (heq 3 (by decide))⟩

theorem exec_winReadClear (htbl : x.region.val ≠ 7) (hpipe : ¬(3 ≤ x.region.val ∧ x.region.val ≤ 6))
    (hpool : natField v.toNat 4 8 ≠ 0x70) :
    exec (.winReadClear m x v) s = .next (s.winPlain x.region x.block x.w (withCmd v 8)) :=
  congrArg _ ((State.asWin_ok hw hwin 8).trans (State.winCtrl_readClear hkey htbl hpipe hpool))
end

/-- Settles O17: the general commands reach `State.winPlain`, which starts, and `State.winRun`, which acts on the entry. -/
theorem windowCommandsActOnTheEntry : Obligations.WindowCommandsActOnTheEntry := by
  intro s u m x v a t queued ha hw hwin ht hkey hasc hqueued hu
  subst ha ht
  obtain ⟨hread, hwrite, hclear⟩ := exec_winGeneral hw hwin hkey hasc
  have hreadClear := exec_winReadClear (v := v) hw hwin hkey
  have hq : s.winQueues (winA x.region x.block x.w) = queued := hqueued.symm
  rw [hread, hwrite, hclear]
  refine ⟨fun hbusy => ?busy, fun hfree hopen => ?queued, fun hfree hnone hown => ?unknown, fun table hfree htable => ?known⟩
  case busy => simp only [State.winPlain_busy hbusy, and_self]
  case queued =>
    rw [hopen] at hq
    refine ⟨congrArg _ (State.winPlain_queued hfree hq (by decide) (by decide)),
      congrArg _ (State.winPlain_queued hfree hq (by decide) (by decide)), fun hregion hpool => ?_⟩
    rw [hreadClear (by omega) (by omega) hpool, State.winPlain_queued hfree hq (by decide) (by decide)]
  case unknown =>
    refine ⟨congrArg _ (State.winPlain_noTable hfree (.inl rfl) hu (by decide) hnone hown), fun hclosed => ?_⟩
    rw [hclosed] at hq
    exact ⟨congrArg _ (State.winPlain_noTable hfree (.inr hq) hu (by decide) hnone hown),
      congrArg _ (State.winPlain_noTable hfree (.inr hq) hu (by decide) hnone hown)⟩
  case known =>
    have hplain {c : Nat} (hc : generalCmd c) (hrun : c = 1 ∨ queued = false) := State.winPlain_table hfree (hq ▸ hrun) hu hc htable
    rw [hplain (.inl rfl) (.inl rfl)]
    refine ⟨fun hbeyond => ?_, fun hin => ⟨fun e hget => ?_, fun hget => ?_, fun hclosed => ?_⟩⟩
    · rw [State.winRun_beyond hbeyond]
      refine ⟨rfl, fun hclosed => ?_⟩
      rw [hplain (.inr (.inl rfl)) (.inr hclosed), hplain (.inr (.inr (.inl rfl))) (.inr hclosed), State.winRun_beyond hbeyond,
        State.winRun_beyond hbeyond]
      exact ⟨rfl, rfl⟩
    · rw [State.winRun_read hin hget]
    · rw [State.winRun_unreadable hin hget]
    · rw [hplain (.inr (.inl rfl)) (.inr hclosed), hplain (.inr (.inr (.inl rfl))) (.inr hclosed), State.winRun_write hin,
        State.winRun_clear hin]
      refine ⟨rfl, rfl, fun htbl hpipe hpool => ?_⟩
      rw [hreadClear htbl hpipe hpool, hplain (.inr (.inr (.inr rfl))) (.inr hclosed)]
      refine ⟨fun e hrc hget => ⟨fun hcounts => ?_, fun hfrozen => ?_⟩, fun hrc => ?_⟩
      · rw [State.winRun_readClear hin hrc hget rfl, if_neg (by simp [hcounts])]
      · rw [State.winRun_readClear hin hrc hget rfl, if_pos hfrozen]
      · rw [State.winRun_noReadClear hin hrc]

end Sys2Proof.Machine
end

section
/-! PROOF. The boot (R71 to R81, R383, R443, R480, R505): each step's command once it is due, and where its failure ends. -/

namespace Sys2Proof.Machine

/-! ## What the first steps leave of the start instant -/

/-- The boot that is under way in `s` is under way in `t`, and began at the same tick. -/
def SameStart (s t : State) : Prop := t.boot.started = s.boot.started ∧ t.boot.startTick = s.boot.startTick

theorem SameStart.of_boot {s t : State} (h : t.boot = s.boot) : SameStart s t := by simp [SameStart, h]

theorem SameStart.trans {s t u : State} (h : SameStart s t) (g : SameStart t u) : SameStart s u :=
  ⟨g.1.trans h.1, g.2.trans h.2⟩

theorem SameStart.ite {s t u : State} {c : Prop} [Decidable c] (h : SameStart s t) (g : SameStart s u) :
    SameStart s (if c then t else u) := by
  split
  · exact h
  · exact g

section
variable {s t : State} (h : SameStart s t)
include h

theorem SameStart.bootRaise (k : Nat) : SameStart s (t.bootRaise k) := h.trans (.of_boot (t.raise_boot 0 1 k))

theorem SameStart.bootFail (c : Nat) : SameStart s (t.bootFail c) := h

theorem SameStart.brecPut (r : BootRec) : SameStart s (t.brecPut r) := h

theorem SameStart.fallbackTaken : SameStart s t.fallbackTaken := h.bootRaise 0

theorem SameStart.toRecovery (c : Nat) : SameStart s (t.toRecovery c) := h

theorem SameStart.faultLoad (x : BootReads) : SameStart s (t.faultLoad x) := by
  unfold State.faultLoad
  split
  · exact h
  · extract_lets u seen b
    exact .ite h (h.trans (.of_boot (State.raise_boot _ 0 6 4)))

theorem SameStart.brecUnread (x : BootReads) : SameStart s (t.brecUnread x) := by
  unfold State.brecUnread
  extract_lets u
  have hu : SameStart s u := .ite h h
  exact .ite hu hu

theorem SameStart.identLoad (e : Bool) : SameStart s (t.identLoad e) := by
  unfold State.identLoad State.identTake
  split
  · exact h
  · exact (h.bootFail 4).bootRaise 3

theorem SameStart.failOver (c : Nat) : SameStart s (t.failOver c) :=
  have hstep := ((h.brecPut (t.brec.step4 t.boot.slot c)).bootFail c).fallbackTaken
  .ite ((h.brecPut _).toRecovery _) (.ite hstep hstep)

theorem SameStart.bootStep3 : SameStart s t.bootStep3 :=
  have hslot : SameStart s (t.setBootSt { t.boot with slot := if t.brec.sel = 2 then 2 else 1 }) := h
  .ite (hslot.failOver _) (.ite hslot h)

theorem SameStart.selectSlot : SameStart s t.selectSlot := by
  unfold State.selectSlot
  extract_lets r
  refine .ite (h.toRecovery _) (.ite (.ite (h.brecPut _).bootStep3 ?_) h.bootStep3)
  exact ((h.brecPut _).bootFail _).fallbackTaken

theorem SameStart.calLoad (x : BootReads) : SameStart s (t.calLoad x) :=
  .ite h (.ite ((h.bootRaise 2).bootFail 2) ((h.bootRaise 2).toRecovery 3))

theorem SameStart.timeStart : SameStart s t.timeStart := .ite h h
end

/-- A boot that starts counts from its own tick (R79). -/
theorem State.bootStart_start (s : State) (x : BootReads) :
    (s.bootStart x).boot.started = true ∧ (s.bootStart x).boot.startTick = s.time.ticks := by
  unfold State.bootStart
  extract_lets a b0 b c d e f0 f g
  have hstarted : b.boot.started = true := rfl
  have htick : b.boot.startTick = s.time.ticks := congrArg TimeSt.ticks (s.setRbit_time thermStatA 26 false)
  have hc : SameStart b c := (SameStart.faultLoad (.of_boot rfl) x).brecUnread x
  have hd : SameStart b d := .ite ((hc.bootFail 1).bootRaise 1) hc
  have he : SameStart b e := (hd.identLoad _).selectSlot
  have hf : SameStart b f := he
  have hg : SameStart b g := hf.calLoad x
  clear_value g f e b
  obtain ⟨hsame, hsameTick⟩ := SameStart.ite (c := e.boot.dev = .recovery) he
    (.ite (c := g.boot.dev = .recovery) hg hg.timeStart)
  exact ⟨hsame.trans hstarted, hsameTick.trans htick⟩

/-! ## The steps -/

section
variable {s : State}

theorem State.toRecovery_recovers (s : State) (c : Nat) : (s.toRecovery c).boot.dev = .recovery ∧ (s.toRecovery c).boot.live = 0 ∧
    (s.toRecovery c).boot.slot = 0 ∧ (s.toRecovery c).flt = s.flt := ⟨rfl, rfl, rfl, rfl⟩

theorem exec_bootStart_held {x : BootReads} (hdev : s.boot.dev = .boot) (hnew : s.boot.started = false) (hhold : s.bootHold = true) :
    exec (.bootStart x) s = .next (s.setRbit thermStatA 26 true) := by
  show execBootStart x s = _
  unfold execBootStart
  rw [if_neg (by simp [hdev, hnew]), if_pos hhold]

theorem exec_bootStart_due {x : BootReads} (hdev : s.boot.dev = .boot) (hnew : s.boot.started = false) (hhold : s.bootHold = false) :
    exec (.bootStart x) s = .next (s.bootStart x) := by
  show execBootStart x s = _
  unfold execBootStart
  rw [if_neg (by simp [hdev, hnew]), if_neg (by simp [hhold])]

theorem exec_imageVerifyDone (e ue : Bool) : exec (.imageVerifyDone e ue) s = execImageVerifyDone e ue s := rfl

variable (hboot : s.booting = true)
include hboot

theorem exec_dieToDieLinkUp_booting {n : Fin 17} (hnew : s.boot.d2dDone = false) {t : State}
    (ht : t = { s with flt := { s.flt with d2dModules := n, d2dCause := n < 16 } }) :
    exec (.dieToDieLinkUp n) s = .next (if n.val < 15 then t.toRecovery 5 else ((t.setLive 0x0D).setLive 0x10).setD2dDone) := by
  subst ht
  show execDieToDieLinkUp n s = _
  unfold execDieToDieLinkUp
  rw [if_pos (by simp [hboot, hnew])]
  exact (apply_ite Host.Outcome.next ..).symm

theorem exec_bidReadDone_good {b : List Byte} (hnew : s.boot.bidDone = false) (hok : bidOk b = true) :
    exec (.bidReadDone (some b)) s = .next ((((s.setBootSt { s.boot with bidDone := true, bid := b }).wr (A.boot R.SYS_BOARD)
      (BitVec.ofNat 32 (bidType b + bidMode b % 4 * 65536))).wr (A.boot R.SYS_PLAN) (BitVec.ofNat 32 (bidPlan b))).cpStore
        0x3FF (A.boot R.SYS_DEVICE_ID) (natField (leAt b 8 4) 0 10)) := by
  show execBidReadDone (some b) s = _
  unfold execBidReadDone
  rw [if_pos (by simp [hboot, hnew])]
  exact if_pos hok

theorem exec_bidReadDone_bad {q : Option (List Byte)} (hnew : s.boot.bidDone = false) (hbad : ∀ b, q = some b → bidOk b = false) :
    ∃ t, exec (.bidReadDone q) s = .next t ∧ t.boot.haltDue = true ∧ t.boot.bidDone = true := by
  have hdone (u : State) : (u.bootRaise 5).boot = u.boot := u.raise_boot 0 1 5
  refine ⟨State.setBootSt (((s.setBootSt { s.boot with bidDone := true }).bootFail 0x20).bootRaise 5)
    { (((s.setBootSt { s.boot with bidDone := true }).bootFail 0x20).bootRaise 5).boot with haltDue := true }, ?_, rfl,
    congrArg BootSt.bidDone (hdone ((s.setBootSt { s.boot with bidDone := true }).bootFail 0x20))⟩
  show execBidReadDone q s = _
  unfold execBidReadDone
  rw [if_pos (by simp [hboot, hnew])]
  cases q with
  | none => rfl
  | some b => exact if_neg (by simp [hbad b rfl])

/-- The stacks' checks, each with the ranks it must do without. -/
def State.stackChecks (s : State) (x0 x1 x2 x3 : StackCheck) : List (Nat × List Nat × StackCheck) :=
  [(0, x0), (1, x1), (2, x2), (3, x3)].map (fun p => (p.1, badRanks (natField s.recordBits (96 * p.1) 96) p.2, p.2))

theorem exec_hbmVerifyDone_booting {x0 x1 x2 x3 : StackCheck} (hd2d : s.boot.d2dDone = true) (hnew : s.boot.hbmDone = false) {u : State}
    (hu : u = (s.stackChecks x0 x1 x2 x3).foldl (fun u p => u.stackUp p.1 p.2.1 p.2.2) s) :
    exec (.hbmVerifyDone x0 x1 x2 x3 false false) s =
      .next (if (s.stackChecks x0 x1 x2 x3).any (fun p => !p.2.2.answers || decide (2 < p.2.1.length)) then s.toRecovery 7
        else u.setBootSt { u.boot with hbmDone := true }) := by
  subst hu
  show execHbmVerifyDone x0 x1 x2 x3 false false s = _
  unfold execHbmVerifyDone
  rw [if_pos (by simp [hboot, hd2d, hnew])]
  exact (apply_ite Host.Outcome.next ..).symm

section
variable (hhbm : s.boot.hbmDone = true) (himage : s.boot.image = [])
include hhbm himage

theorem exec_imageVerifyDone_uncorrectable : exec (.imageVerifyDone false true) s = .next s.appFail := by
  rw [exec_imageVerifyDone]
  unfold execImageVerifyDone
  rw [if_pos (by simp [hboot, hhbm, himage]), if_pos rfl]

theorem exec_imageVerifyDone_loaded {q : State × Option (List Byte)} (hq : s.imageLoad s.boot.slot false = q) :
    exec (.imageVerifyDone false false) s = .next (match q.2 with
      | some b => let t := (q.1.setBootedSlot q.1.boot.slot).measure b false
        t.setBootSt { t.boot with image := b, imageFlags := imgFlags b }
      | none => q.1.failOver 0x10) := by
  rw [exec_imageVerifyDone]
  unfold execImageVerifyDone
  rw [if_pos (by simp [hboot, hhbm, himage]), if_neg (by decide)]
  dsimp only
  rw [hq]
  cases q.2 with
  | none => rfl
  | some b => rfl
end

section
variable (himage : s.boot.image ≠ []) (hbid : s.boot.bidDone = true)
include himage hbid

theorem exec_writeListApply_list (hn : s.boot.applied < 25) (hnot : s.boot.applied ≠ 21) : exec .writeListApply s =
    .next (s.regionList (if s.boot.applied < 21 then listOrder.getD s.boot.applied 0 else 9 + (s.boot.applied - 22))) := by
  show execWriteListApply s = _
  unfold execWriteListApply
  rw [if_pos (by simp [hboot, himage, hbid, hn]), if_neg hnot]

theorem exec_writeListApply_preloads (hn : s.boot.applied = 21) : exec .writeListApply s = .next s.preloads := by
  show execWriteListApply s = _
  unfold execWriteListApply
  rw [if_pos (by simp [hboot, himage, hbid, hn]), if_pos hn]
end

theorem exec_fwLoadRelease_booting (hn : s.boot.applied = 25) (hnew : s.boot.released = false) :
    exec .fwLoadRelease s = (match s.setBoot.fwLoad s.boot.image with
      | none => .next s.appFail
      | some u => let w := ((u.leaveDown 2).leaveDown 0x14).leaveDown 0x15
        .next (w.setBootSt { w.boot with
          dev := if w.boot.haltDue then .halt else .running
          imageLoaded := true
          released := true
          health := w.brec.healthPending
          healthTick := w.time.ticks })) := by
  show execFwLoadRelease s = _
  unfold execFwLoadRelease
  rw [if_pos (by simp [hboot, hn, hnew])] <;> rfl
end

/-! ## One region's list -/

section
variable {s u : State} {r : Nat} (hu : u = (if s.boot.listPos = 0 ∧ s.boot.pollTick = none then s.beforeList r else s))
include hu

theorem State.regionList_down (hdown : u.staysDown r = true) : s.regionList r = u.listDone := by
  unfold State.regionList
  rw [← hu]
  exact if_pos hdown

variable (hup : u.staysDown r = false) {p : Nat} {t : State}
include hup

/-- What the loader comes to where the region is there to take its list. -/
theorem State.regionList_up : s.regionList r =
    match (u.setLive r).sectionRun u.boot.image r u.boot.listPos u.boot.pollTick with
    | .ended _ t => if !t.boot.started then t else (match t.afterList r with | some w => w.listDone | none => t.appFail)
    | .wait p since t => t.setBootSt { t.boot with listPos := p, pollTick := some since }
    | .fail _ t => t.appFail
    | .go _ t => t := by
  unfold State.regionList
  rw [← hu]
  exact (if_neg (by simp [hup])).trans rfl

theorem State.regionList_ended {w : State} (hrun : (u.setLive r).sectionRun u.boot.image r u.boot.listPos u.boot.pollTick = .ended p t)
    (hstarted : t.boot.started = true) (hafter : t.afterList r = some w) : s.regionList r = w.listDone := by
  rw [State.regionList_up hu hup, hrun]
  simp only [hstarted, hafter, Bool.not_true, Bool.false_eq_true, if_false]

theorem State.regionList_wait {since : Nat}
    (hrun : (u.setLive r).sectionRun u.boot.image r u.boot.listPos u.boot.pollTick = .wait p since t) :
    s.regionList r = t.setBootSt { t.boot with listPos := p, pollTick := some since } := by
  rw [State.regionList_up hu hup, hrun]

theorem State.regionList_fail (hrun : (u.setLive r).sectionRun u.boot.image r u.boot.listPos u.boot.pollTick = .fail p t) :
    s.regionList r = t.appFail := by
  rw [State.regionList_up hu hup, hrun]
end

/-- Settles O14: each clause is the equation of its step's command; the start instant by `State.bootStart_start`. -/
theorem bootStepsRunInTheirOrder : Obligations.BootStepsRunInTheirOrder := by
  intro s
  refine ⟨fun x hdev hnew => ⟨exec_bootStart_held hdev hnew, fun hhold => ?start⟩, fun hboot => ⟨fun n hnew => ?links,
    fun b => exec_bidReadDone_good hboot, fun hnew q => exec_bidReadDone_bad hboot hnew, fun x0 x1 x2 x3 hd2d hnew => ?ranks,
    fun b hhbm himage => ?image, fun himage hbid => ?lists, fun hn hnew => ?firmware⟩⟩
  case start =>
    obtain ⟨hstarted, htick⟩ := s.bootStart_start x
    exact ⟨_, exec_bootStart_due hdev hnew hhold, rfl, hstarted, htick⟩
  case links =>
    rw [exec_dieToDieLinkUp_booting hboot hnew rfl]
    refine ⟨fun hfew => ?_, fun hmany => by rw [if_neg (by omega)]⟩
    rw [if_pos hfew]
    exact ⟨_, rfl, rfl, rfl, rfl, rfl⟩
  case ranks =>
    rw [exec_hbmVerifyDone_booting hboot hd2d hnew rfl]
    refine ⟨fun hsilent => ?_, fun h0 h1 h2 h3 hranks => ⟨_, _, rfl, ?_, rfl⟩⟩
    · rw [if_pos]
      · exact ⟨_, rfl, rfl⟩
      · rcases hsilent with h | h | h | h <;> simp [State.stackChecks, h]
    · rw [if_neg]
      · rfl
      · have := hranks 0 x0 (by simp)
        have := hranks 1 x1 (by simp)
        have := hranks 2 x2 (by simp)
        have := hranks 3 x3 (by simp)
        simp only [State.stackChecks, List.map_cons, List.map_nil, List.any_cons, List.any_nil, h0, h1, h2, h3, Bool.not_true,
          Bool.false_or, Bool.or_false, Bool.or_eq_true, decide_eq_true_eq]
        omega
  case image =>
    refine ⟨fun hgood => ?_, fun hbad => ?_, exec_imageVerifyDone_uncorrectable hboot hhbm himage⟩
    · rw [exec_imageVerifyDone_loaded hboot hhbm himage rfl, hgood]
      exact ⟨_, rfl, rfl, rfl⟩
    · rw [exec_imageVerifyDone_loaded hboot hhbm himage rfl, hbad]
  case lists =>
    refine ⟨fun hn hnot r u hr hu => ?_, fun hn => ?_⟩
    · rw [exec_writeListApply_list hboot himage hbid hn hnot, ← hr]
      exact ⟨fun hdown => by rw [State.regionList_down hu hdown], fun hup =>
        ⟨fun p t w hrun hstarted hafter => by rw [State.regionList_ended hu hup hrun hstarted hafter],
        fun p since t hrun => by rw [State.regionList_wait hu hup hrun], fun p t hrun => by rw [State.regionList_fail hu hup hrun]⟩⟩
    · rw [exec_writeListApply_preloads hboot himage hbid hn]
      unfold State.preloads
      exact ⟨fun t ht => by rw [ht], fun hnone => by rw [hnone]⟩
  case firmware =>
    rw [exec_fwLoadRelease_booting hboot hn hnew]
    exact ⟨fun u hu => ⟨_, rfl, by rw [hu]⟩, fun hnone => by rw [hnone]⟩

end Sys2Proof.Machine
end

section
/-! PROOF. Frames of the line ports (R119 to R130): the row of the error table a received frame takes, and what the MAC sends. -/

namespace Sys2Proof.Machine

/-! ## Reception -/

section
variable {s u : State} {p : Fin 64} {x : RxLine} (hworks : s.rgnWorks 2 = true) (hfree : s.blkHeld 2 (p.val / 8) = false)
  (hu : u = ((s.fecCount p x).portCount p 1 x.frame.length).portCount p 3 1)
include hworks hfree hu

/-- Where LINE runs, the port's state decides what becomes of the counted frame (R119). -/
theorem exec_rxFrame_works : exec (.rxFrame p x) s = .next (match s.portState p with
    | .up => u.rxCheck p x
    | .down => u.portCount p 23 1
    | .sleep => if (s.port p).waking then (u.portCount p 23 1).wakeCount p 1 else s
    | _ => s) := by
  subst hu
  show Host.Outcome.next (s.rxFrame p x) = _
  unfold State.rxFrame
  rw [if_neg (by simp [hworks, hfree])] <;> rfl
end

section
variable {u : State} {p : Nat} {x : RxLine}

theorem State.rxCheck_short (h : x.frame.length < 64) :
    u.rxCheck p x = u.portCount p (if fcsGood x.frame then 18 else 19) 1 := if_pos h

variable (h64 : 64 ≤ x.frame.length)
include h64

theorem State.rxCheck_long (hmax : u.fld (portA p R.LINE_PORT_MAXLEN) 0 15 < x.frame.length) : u.rxCheck p x =
    (u.portCount p 20 1).rxBad p x (x.frame.take (u.fld (portA p R.LINE_PORT_MAXLEN) 0 15 + 1)) := by
  unfold State.rxCheck
  dsimp only
  rw [if_neg (by omega), if_pos hmax]

variable (hmax : x.frame.length ≤ u.fld (portA p R.LINE_PORT_MAXLEN) 0 15)
include hmax

theorem State.rxCheck_codeErr (hcode : x.codeErr = true) :
    u.rxCheck p x = (u.portCount p 21 1).rxBad p x (x.frame.take (x.frame.length - 4)) := by
  unfold State.rxCheck
  dsimp only
  rw [if_neg (by omega), if_neg (by omega), if_pos hcode]

variable (hcode : x.codeErr = false)
include hcode

theorem State.rxCheck_badFcs (hfcs : fcsGood x.frame = false) :
    u.rxCheck p x = (u.portCount p 17 1).rxBad p x (x.frame.take (x.frame.length - 4)) := by
  unfold State.rxCheck
  dsimp only
  rw [if_neg (by omega), if_neg (by omega), if_neg (by simp [hcode]), if_pos (by simp [hfcs])]

variable (hfcs : fcsGood x.frame = true)
include hfcs

theorem State.rxCheck_badLength (hcheck : natBit (u.portCfg p) 7 = true) (hlen : lenBad x.frame = true) :
    u.rxCheck p x = (u.portCount p 22 1).rxBad p x (x.frame.take (x.frame.length - 4)) := by
  unfold State.rxCheck
  dsimp only
  rw [if_neg (by omega), if_neg (by omega), if_neg (by simp [hcode]), if_neg (by simp [hfcs]), if_pos (by simp [hcheck, hlen])]

theorem State.rxCheck_good (hlen : natBit (u.portCfg p) 7 = false ∨ lenBad x.frame = false) : u.rxCheck p x =
    if etypeOf x.frame = 0x8808 then (u.goodFrame p x.frame x.frame.length 0 2 4 7).macControl p x.frame
    else (u.goodFrame p x.frame x.frame.length 0 2 4 7).rxPass p x (x.frame.take (x.frame.length - 4)) := by
  have hrow : ¬((natBit (u.portCfg p) 7 && lenBad x.frame) = true) := by rcases hlen with h | h <;> simp [h]
  unfold State.rxCheck
  dsimp only
  rw [if_neg (by omega), if_neg (by omega), if_neg (by simp [hcode]), if_neg (by simp [hfcs]), if_neg hrow]
end

/-- Settles O22: the port's state by `exec_rxFrame_works`, the error table's rows by the `State.rxCheck` lemmas. -/
theorem receivedFramesAreClassified : Obligations.ReceivedFramesAreClassified := by
  rintro s u p x f hworks hfree rfl hu
  rw [exec_rxFrame_works hworks hfree hu]
  refine ⟨fun hup => ?up, fun hdown => by rw [hdown], fun hsleep hwaking => by simp only [hsleep, hwaking, if_true],
    fun hsleep hasleep => by simp only [hsleep, hasleep, Bool.false_eq_true, if_false], ?off⟩
  case off => rintro (h | h) <;> rw [h]
  case up =>
    rw [hup]
    refine ⟨fun hshort hgood => ?_, fun hshort hbad => ?_, fun h64 hlong => ?_, fun h64 hmax => ⟨fun hcode => ?_, fun hcode hfcs => ?_,
      fun hcode hfcs hcheck hlen => ?_, fun hcode hfcs hlen => ?_⟩⟩
    · simp only [State.rxCheck_short hshort, hgood, if_true]
    · simp only [State.rxCheck_short hshort, hbad, Bool.false_eq_true, if_false]
    · simp only [State.rxCheck_long h64 hlong]
    · simp only [State.rxCheck_codeErr h64 hmax hcode]
    · simp only [State.rxCheck_badFcs h64 hmax hcode hfcs]
    · simp only [State.rxCheck_badLength h64 hmax hcode hfcs hcheck hlen]
    · simp only [State.rxCheck_good h64 hmax hcode hfcs hlen]
      exact ⟨fun hcontrol => by rw [if_pos hcontrol], fun hdata => by rw [if_neg hdata]⟩

/-! ## Transmission -/

section
variable {s : State} {p : Fin 64} {x : TxLine} (hworks : s.rgnWorks 2 = true) (hfree : s.blkHeld 2 (p.val / 8) = false)
  (hsafe : s.flt.failsafe = none)
include hworks hfree hsafe

theorem exec_txFrame_flowControl {r : Nat × Nat} {rest : List (Nat × Nat)} (hreq : (s.port p).fcReq = r :: rest) :
    exec (.txFrame p x) s = .next (if s.portState p ≠ .up then s.setPort p { s.port p with fcReq := rest }
      else if s.oneStepWaits p 60 then s else (s.setPort p { s.port p with fcReq := rest }).sendFc p r.1 r.2) := by
  show execTxFrame p x s = _
  unfold execTxFrame
  rw [if_neg (by simp [hworks, hfree, hsafe])]
  simp only [hreq, apply_ite Host.Outcome.next]

theorem exec_txFrame_packet {k : Pkt} {rest : List Pkt} {u : State} (hreq : (s.port p).fcReq = []) (hq : (s.port p).txq = k :: rest)
    (hu : u = s.setPort p { s.port p with txq := rest }) :
    exec (.txFrame p x) s = .next (if s.portState p ≠ .up then (if s.portState p = .sleep then u else u.portCount p 62 1)
      else if s.oneStepWaits p (s.lineBytes p k.bytes) then s else u.macSend p k x) := by
  subst hu
  show execTxFrame p x s = _
  unfold execTxFrame
  rw [if_neg (by simp [hworks, hfree, hsafe])]
  simp only [hreq, hq, apply_ite Host.Outcome.next]
  rfl
end

section
variable {u w : State} {p : Nat} {k : Pkt} {x : TxLine} {f : List Byte} {n : Nat} {long : Bool}

theorem State.macSend_runt (h : k.bytes.length < 14) : u.macSend p k x = u.portCount p 62 1 := if_pos h

/-- What a frame is that the MAC may send: padded to 60 bytes, and too long or not (R125, R126). -/
theorem State.macSend_padded (h14 : 14 ≤ k.bytes.length) (hf : f = k.bytes ++ List.replicate (60 - k.bytes.length) 0)
    (hw : w = if k.bytes.length < 60 then u.portCount p 57 1 else u) (hn : n = w.fld (portA p R.LINE_PORT_MAXLEN) 0 15)
    (hlong : long = decide (n < f.length + w.msExpansion p f + 4)) :
    u.macSend p k x = if long && !x.started then w.portCount p 59 1 else
      match w.msTransmit p f with
      | (none, y) => y
      | (some g, y) =>
        let y := y.lineSend p (txBytes g long n x) (long || k.bad || (x.started && x.underrun.isSome))
        match k.tag with
        | some tag => y.txStamp p tag x.capture
        | none => y := by
  subst hlong hn hw hf
  exact if_neg (by omega)
end

/-- Settles O23: what leaves by `exec_txFrame_flowControl` and `exec_txFrame_packet`, its form by `State.macSend_padded`. -/
theorem theMacSendsByItsRules : Obligations.TheMacSendsByItsRules := by
  intro s p x hworks hfree hsafe
  refine ⟨fun r rest hreq => ?control, fun k rest u hreq hq hu => ?packet⟩
  case control =>
    rw [exec_txFrame_flowControl hworks hfree hsafe hreq]
    refine ⟨fun hup hclear => ?_, fun hup hwaits => ?_, fun hnot => by rw [if_pos hnot]⟩
    · rw [if_neg (by simp [hup]), if_neg (by simp [hclear])]
    · rw [if_neg (by simp [hup]), if_pos hwaits]
  case packet =>
    rw [exec_txFrame_packet hworks hfree hsafe hreq hq hu]
    refine ⟨fun hnot => by rw [if_pos hnot], fun hup hwaits => ?_, fun hup hclear => ?_⟩
    · rw [if_neg (by simp [hup]), if_pos hwaits]
    · rw [if_neg (by simp [hup]), if_neg (by simp [hclear])]
      refine ⟨fun hrunt => by rw [State.macSend_runt hrunt], fun f w n long h14 hf hw hn hlong => ?_⟩
      rw [State.macSend_padded h14 hf hw hn hlong]
      have hsent (h : long = false ∨ x.started = true) : ¬((long && !x.started) = true) := by rcases h with h | h <;> simp [h]
      refine ⟨fun hl hnew => by rw [if_pos (by simp [hl, hnew])], fun h g y hms => ?_, fun h y hms => ?_⟩
      · rw [if_neg (hsent h), hms] <;> rfl
      · rw [if_neg (hsent h), hms]

end Sys2Proof.Machine
end

section
/-! PROOF. Settings and attestation (R477, R478, R485 to R488): SET_WRITE and its end, REPORT, EXTEND and a report's end. -/

namespace Sys2Proof.Machine

section
variable {s : State} {m : Master}

/-- The copy a settings write goes to, and its generation: the copy not in use, one generation on (R477). -/
def State.setTarget (s : State) : Nat × Nat :=
  match s.setInUse with
  | some q => (1 - q.1, q.2.gen + 1)
  | none => (0, 1)

theorem State.setTarget_eq {c gen : Nat} (hnone : s.setInUse = none → c = 0 ∧ gen = 1)
    (hsome : ∀ q, s.setInUse = some q → c = 1 - q.1 ∧ gen = q.2.gen + 1) : s.setTarget = (c, gen) := by
  unfold State.setTarget
  cases hq : s.setInUse with
  | none =>
    obtain ⟨rfl, rfl⟩ := hnone hq
    rfl
  | some q =>
    obtain ⟨rfl, rfl⟩ := hsome q hq
    rfl

theorem State.setCmd_starts {v c gen : Nat} (hgo : natBit v 0 = true) (hconfirmed : s.brec.healthPending = false)
    (hidle : s.img.setWrite = none) (hc : s.setTarget = (c, gen)) {t : State}
    (ht : t = (s.flashErase (setCopyA c) setCopyLen).setRbit (A.img R.SYS_SET_STAT) 4 false) :
    s.setCmd v = { t with img := { t.img with setWrite := some (c, gen % 2 ^ 64,
      s.hbmBytes (s.rd64 (A.img R.SYS_SET_WBASE_LO)) (s.rd (A.img R.SYS_SET_WLEN)).toNat) } } := by
  subst ht
  unfold State.setTarget at hc
  unfold State.setCmd
  rw [if_pos (by simp [hgo, hconfirmed, hidle])]
  cases hq : s.setInUse with
  | none =>
    rw [hq] at hc
    obtain ⟨rfl, rfl⟩ := Prod.mk.inj hc
    rfl
  | some q =>
    rw [hq] at hc
    obtain ⟨rfl, rfl⟩ := Prod.mk.inj hc
    rfl

theorem State.setCmd_nothing {v : Nat} (h : natBit v 0 = false ∨ s.brec.healthPending = true ∨ s.img.setWrite ≠ none) :
    s.setCmd v = s := by
  refine if_neg ?_
  rcases h with h | h | h
  · simp [h]
  · simp [h]
  · simp [Option.isNone_iff_eq_none, h]

theorem exec_setWrite {v : Word} (hw : s.mayWrite m (A.img R.SYS_SET_CMD)) : exec (.setWrite m v) s = .next (s.setCmd v.toNat) :=
  congrArg Host.Outcome.next (State.asWrite_ok hw)

theorem exec_setDone_busy {c gen : Nat} {body : List Byte} {e : Bool} (hq : s.img.setWrite = some (c, gen, body)) {u w : State}
    (hu : u = { s with img := { s.img with setWrite := none } })
    (hw : w = { u with boot := { u.boot with setUnread := u.boot.setUnread.filter (fun x => x != c) } }) :
    exec (.setDone e) s = .next (if e then (u.setRbit (A.img R.SYS_SET_STAT) 4 true).imgRaise 6
      else State.imgRaise (State.setShow ((w.flashWrite (setCopyA c + 128) body).flashWrite (setCopyA c)
        (setHeader (imgSchema s.img.head) gen body.length (imgVersion s.img.head) (shake256 body 64)))) 5) := by
  subst hw hu
  show execSetDone e s = _
  unfold execSetDone
  rw [hq]
  exact (apply_ite Host.Outcome.next ..).symm

theorem exec_setDone_idle {e : Bool} (hq : s.img.setWrite = none) : exec (.setDone e) s = .next s := by
  show execSetDone e s = _
  unfold execSetDone
  rw [hq]

section
variable (hw : s.mayWrite m (A.att R.SYS_ATT_CMD))
include hw

theorem exec_attReport : exec (.attReport m) s = .next (if !s.boot.identOk then (s.setFld attStatA 0 3 4).raise 0 0xB 1
    else if s.img.attBusy.isSome then s
    else
      let t := s.setFld attStatA 0 3 1
      { t with img := { t.img with attBusy := some ⟨t.regBytes (A.att R.SYS_ATT_NONCE) 8, some (t.rd64 (A.att R.SYS_ATT_DST_LO))⟩ } }) :=
  congrArg Host.Outcome.next (State.asWrite_ok hw)

theorem exec_attExtend : exec (.attExtend m) s =
    .next { s with img := { s.img with m6 := shake256 (s.img.m6 ++ s.regBytes (A.att R.SYS_ATT_EXT) 16) 64 } } :=
  congrArg Host.Outcome.next (State.asWrite_ok hw)
end

theorem exec_attDone_busy {q : AttReq} {t : State} {b : List Byte} (hq : s.img.attBusy = some q)
    (ht : State.reportMake { s with img := { s.img with attBusy := none } } q.nonce = (t, b)) :
    exec .attDone s = .next (State.raise (State.wr (match q.dst with | some a => t.hbmStore a b | none => t) attStatA
      (BitVec.ofNat 32 (2 + b.length % 2048 * 8))) 0 0xB 0) := by
  show execAttDone s = _
  unfold execAttDone
  rw [hq]
  simp only [ht] <;> rfl

theorem exec_attDone_idle (hq : s.img.attBusy = none) : exec .attDone s = .next s := by
  show execAttDone s = _
  unfold execAttDone
  rw [hq]
end

/-- Settles O26: each clause is the equation of its command, under its guard. -/
theorem settingsAndReportsAreWritten : Obligations.SettingsAndReportsAreWritten := by
  intro s m
  refine ⟨fun v hw => ?set, fun c gen body u w hq hu hw => ?done, fun hq e => exec_setDone_idle hq, fun hw => ?report,
    fun q t b hq ht => ?made, exec_attDone_idle⟩
  case set =>
    rw [exec_setWrite hw]
    refine ⟨fun hgo hconfirmed hidle c gen hnone hsome => ⟨_, rfl, ?_⟩, fun h => by rw [State.setCmd_nothing h]⟩
    rw [State.setCmd_starts hgo hconfirmed hidle (State.setTarget_eq hnone hsome) rfl]
  case done => exact ⟨exec_setDone_busy hq hu hw, exec_setDone_busy hq hu hw⟩
  case report =>
    rw [exec_attReport hw, exec_attExtend hw]
    refine ⟨fun hident hidle => ⟨_, rfl, ?_⟩, fun hident hbusy => ?_, fun hident => ?_, rfl⟩
    · rw [if_neg (by simp [hident]), if_neg (by simp [hidle])]
    · rw [if_neg (by simp [hident]), if_pos (Option.isSome_iff_ne_none.2 hbusy)]
    · rw [if_pos (by simp [hident])]
  case made =>
    rw [exec_attDone_busy hq ht]
    exact ⟨fun a hdst => by rw [hdst], fun hdst => by rw [hdst]⟩

end Sys2Proof.Machine
end

section
/-! PROOF. Service messages that belong to no session (R471 to R474, R484, R487): what each is refused for, and what it does. -/

namespace Sys2Proof.Machine

section
variable {s : State} {h : SvcHead} {body : List Byte}

theorem exec_svcPlain_off (hoff : s.svcUp = false) :
    ∀ i ∈ [Instr.svcStatus h body, .svcRegRead h body, .svcRegWrite h body, .svcActivate h body, .svcReset h body, .svcRecovery h body,
      .svcAttest h body], exec i s = .next s := by
  have hnothing {type lengthOk f} : Host.Outcome.next (s.svcMsg type h body lengthOk false f) =
      (.next s : Host.Outcome State Fault Refusal) := congrArg _ (State.svcMsg_off hoff)
  simp only [List.forall_mem_cons, List.not_mem_nil, false_imp_iff, implies_true, and_true]
  exact ⟨hnothing, hnothing, hnothing, hnothing, hnothing, hnothing, hnothing⟩

theorem exec_neighbour_off (hoff : s.svcUp = false) (f : SvcFrame) : exec (.neighbourDiscoveryOrArp f) s = .next s :=
  if_neg (by simp [hoff])

variable (hup : s.svcUp = true)
include hup

/-! ## Refused messages -/

theorem State.svcMsg_refused {type : Nat} {lengthOk : Bool} {f : State → State}
    (hbad : h.reserved ≠ 0 ∨ h.session ≠ 0 ∨ lengthOk = false) :
    (.next (s.svcMsg type h body lengthOk false f) : Host.Outcome State Fault Refusal) =
      .next ((s.bump (svcCntA 0)).svcAnswer type h 2 []) := by
  refine congrArg Host.Outcome.next (State.svcMsg_bad hup ?_)
  tauto

theorem exec_svcEmpty_bad (hbad : h.reserved ≠ 0 ∨ h.session ≠ 0 ∨ body ≠ []) :
    exec (.svcStatus h body) s = .next ((s.bump (svcCntA 0)).svcAnswer 0x01 h 2 []) ∧
    exec (.svcReset h body) s = .next ((s.bump (svcCntA 0)).svcAnswer 0x21 h 2 []) ∧
    exec (.svcRecovery h body) s = .next ((s.bump (svcCntA 0)).svcAnswer 0x22 h 2 []) := by
  have hlength : h.reserved ≠ 0 ∨ h.session ≠ 0 ∨ body.isEmpty = false := by
    rwa [← Bool.not_eq_true, List.isEmpty_iff]
  exact ⟨State.svcMsg_refused hup hlength, State.svcMsg_refused hup hlength, State.svcMsg_refused hup hlength⟩

theorem exec_svcRegRead_bad (hbad : h.reserved ≠ 0 ∨ h.session ≠ 0 ∨ body.length ≠ 5 ∨ svcAddr body = none) :
    exec (.svcRegRead h body) s = .next ((s.bump (svcCntA 0)).svcAnswer 0x02 h 2 []) := by
  refine State.svcMsg_refused hup ?_
  simpa [imp_iff_not_or] using hbad

theorem exec_svcRegWrite_bad (hbad : h.reserved ≠ 0 ∨ h.session ≠ 0 ∨ body.length ≠ 13 ∨ svcAddr body = none) :
    exec (.svcRegWrite h body) s = .next ((s.bump (svcCntA 0)).svcAnswer 0x03 h 2 []) := by
  refine State.svcMsg_refused hup ?_
  simpa [imp_iff_not_or] using hbad

theorem exec_svcActivate_bad (hbad : h.reserved ≠ 0 ∨ h.session ≠ 0 ∨ body.length ≠ 1 ∨ leAt body 0 1 % 16 ≠ 1) :
    exec (.svcActivate h body) s = .next ((s.bump (svcCntA 0)).svcAnswer 0x20 h 2 []) := by
  refine State.svcMsg_refused hup ?_
  simpa [imp_iff_not_or] using hbad

theorem exec_svcAttest_bad (hbad : h.reserved ≠ 0 ∨ h.session ≠ 0 ∨ body.length ≠ 33) :
    exec (.svcAttest h body) s = .next ((s.bump (svcCntA 0)).svcAnswer 0x30 h 2 []) := by
  refine State.svcMsg_refused hup ?_
  simpa using hbad

/-! ## Neighbour discovery, ARP and other frames (R471) -/

theorem exec_neighbour (a : BitVec 128) : exec (.neighbourDiscoveryOrArp (.neighbour a)) s =
    .next (if a.toNat = s.linkLocal then s.emit (.svcNeighbour true) else s.bump (svcCntA 2)) := if_pos hup

theorem exec_arp (a : BitVec 32) : exec (.neighbourDiscoveryOrArp (.arp a)) s =
    .next (if s.rbit (regAddr 0 12 R.SYS_SVC_CTRL) 2 = true ∧ a = s.rd (regAddr 0 12 R.SYS_SVC_IP4)
      then s.emit (.svcNeighbour false) else s.bump (svcCntA 2)) := by
  refine Eq.trans (if_pos hup) (congrArg Host.Outcome.next ?_)
  simp only [Bool.and_eq_true, beq_iff_eq]

theorem exec_unknownType (t : Byte) : exec (.neighbourDiscoveryOrArp (.unknown t h)) s =
    .next ((s.bump (svcCntA 0)).svcAnswer t.toNat h 2 []) := if_pos hup

theorem exec_otherFrame : exec (.neighbourDiscoveryOrArp .other) s = .next (s.bump (svcCntA 2)) := if_pos hup

/-! ## Messages that are carried out -/

variable (hres : h.reserved = 0) (hzero : h.session = 0)
include hres hzero

theorem State.svcMsg_taken {type : Nat} {lengthOk : Bool} {f : State → State} (hlength : lengthOk = true) (hshort : body.length ≤ 1040) :
    (.next (s.svcMsg type h body lengthOk false f) : Host.Outcome State Fault Refusal) = .next (f (s.bump (svcCntA 0))) :=
  congrArg Host.Outcome.next (State.svcMsg_good hup hlength hres (.inr hzero) hshort)

variable {u : State} (hu : u = s.bump (svcCntA 0))
include hu

theorem exec_svcStatus_good : exec (.svcStatus h []) s = .next (u.svcAnswer 0x01 h 0
    (beBytes 4 u.bootStat ++ beBytes 4 u.imgStat ++ slotBytes u.brec.a ++ slotBytes u.brec.b)) := by
  subst hu
  exact State.svcMsg_taken hup hres hzero rfl (by decide)

theorem exec_svcRegRead_good {a w : Nat} (hlength : body.length = 5) (haddr : svcAddr body = some (a, w)) :
    exec (.svcRegRead h body) s = .next (match u.busCheck .service a w false false with
      | .ok => (u.busRead .service a w).2.svcAnswer 0x02 h 0 (beBytes w (u.busRead .service a w).1)
      | c => u.svcRefused 0x02 h a c) := by
  subst hu
  refine (State.svcMsg_taken hup hres hzero (by simp [hlength, haddr]) (by omega)).trans ?_
  simp only [haddr] <;> rfl

theorem exec_svcRegWrite_good {a w : Nat} (hlength : body.length = 13) (haddr : svcAddr body = some (a, w)) :
    exec (.svcRegWrite h body) s = .next (match u.busCheck .service a w false true with
      | .ok => (u.svcAnswer 0x03 h 0 []).busWrite (some .service) a w (beNat ((body.drop 5).take 8))
      | c => u.svcRefused 0x03 h a c) := by
  subst hu
  refine (State.svcMsg_taken hup hres hzero (by simp [hlength, haddr]) (by omega)).trans ?_
  simp only [haddr] <;> rfl

theorem exec_svcActivate_good {q : Nat × State} (hlength : body.length = 1) (hcmd : leAt body 0 1 % 16 = 1)
    (hq : q = (u.wr (A.img R.SYS_IMG_CTRL) (BitVec.ofNat 32 (leAt body 0 1 &&& 0x3F0))).imgRun (leAt body 0 1)) :
    exec (.svcActivate h body) s =
      .next (if u.svcMayCtrl then (State.imgEnd q).svcAnswer 0x20 h (if q.1 = 0 then 0 else 7) [] else u.svcAnswer 0x20 h 8 []) := by
  subst hq hu
  exact State.svcMsg_taken hup hres hzero (by simp [hlength, hcmd]) (by omega)

theorem exec_svcReset_good : exec (.svcReset h []) s = .next (u.svcAnswer 0x21 h 0 []).chipReset := by
  subst hu
  exact State.svcMsg_taken hup hres hzero rfl (by decide)

theorem exec_svcRecovery_good : exec (.svcRecovery h []) s = .next (if u.boot.dev = .recovery then u.svcAnswer 0x22 h 2 []
    else if u.svcMayCtrl then State.chipReset ((u.svcAnswer 0x22 h 0 []).brecPut ((u.svcAnswer 0x22 h 0 []).brec.setFlag 2 true))
    else u.svcAnswer 0x22 h 8 []) := by
  subst hu
  exact State.svcMsg_taken hup hres hzero rfl (by decide)

theorem exec_svcAttest_good (hlength : body.length = 33) : exec (.svcAttest h body) s = .next (
    if !u.boot.identOk then (u.raise 0 0xB 1).svcAnswer 0x30 h 7 []
    else if u.img.attBusy.isSome then u.svcAnswer 0x30 h 1 []
    else match u.reportHeld (body.take 32) with
      | some b => u.attestReply h (leAt body 32 1) b
      | none => (u.reportMake (body.take 32)).1.attestReply h (leAt body 32 1) (u.reportMake (body.take 32)).2) := by
  subst hu
  exact State.svcMsg_taken hup hres hzero (by simp [hlength]) (by omega)
end

/-- Settles O27: refusals by `State.svcMsg_refused`, the rest by each message's own equation. -/
theorem serviceMessagesAreAnswered : Obligations.ServiceMessagesAreAnswered := by
  rintro s u h body hu
  refine ⟨exec_svcPlain_off, exec_neighbour_off, fun hup => ?bad, fun hup hres hzero => ⟨exec_svcStatus_good hup hres hzero hu,
    fun a w c hlength haddr hc => ?read, fun a w c hlength haddr hc => ?write, fun q => exec_svcActivate_good hup hres hzero hu,
    exec_svcReset_good hup hres hzero hu, fun hrec => ?inRecovery, fun hnot => ?recovery, fun hlength => ?attest⟩,
    fun hup => ⟨exec_neighbour hup, exec_arp hup, fun t => hu ▸ exec_unknownType hup t, exec_otherFrame hup⟩⟩
  case bad =>
    subst hu
    exact ⟨exec_svcEmpty_bad hup, exec_svcRegRead_bad hup, exec_svcRegWrite_bad hup, exec_svcActivate_bad hup, exec_svcAttest_bad hup⟩
  case read =>
    rw [exec_svcRegRead_good hup hres hzero hu hlength haddr, hc]
    cases c <;> rfl
  case write =>
    rw [exec_svcRegWrite_good hup hres hzero hu hlength haddr, hc]
    cases c <;> rfl
  case inRecovery => rw [exec_svcRecovery_good hup hres hzero hu, if_pos hrec]
  case recovery => rw [exec_svcRecovery_good hup hres hzero hu, if_neg hnot]
  case attest =>
    rw [exec_svcAttest_good hup hres hzero hu hlength]
    refine ⟨fun hident => ?_, fun hident hbusy => ?_, fun hident hidle => ?_⟩
    · rw [if_pos (by simp [hident])]
    · rw [if_neg (by simp [hident]), if_pos (Option.isSome_iff_ne_none.2 hbusy)]
    · rw [if_neg (by simp [hident]), if_neg (by simp [hidle])]
      exact ⟨fun b hheld => by rw [hheld], fun hnew => by rw [hnew]⟩

end Sys2Proof.Machine
end

section
/-! PROOF. Packets through a pipeline (R143, R170, R181, R187, R228, R236): acceptance, the lookup in dispatch order, the lanes, egress. -/

namespace Sys2Proof.Machine

variable {s : State} {i : Fin 16} {p : PipeSt} (hp : p = s.pipe i)
include hp

/-! ## Acceptance (R143) -/

omit hp in
theorem exec_ingressAccept_stopped (hoff : s.rgnRuns (pipeRegion i) = false ∨ s.blkHeld (pipeRegion i) (i.val % 4) = true) :
    exec (.ingressAccept i) s = .next s := by
  refine if_neg ?_
  rcases hoff with h | h <;> simp [h]

section
variable (hruns : s.rgnRuns (pipeRegion i) = true) (hfree : s.blkHeld (pipeRegion i) (i.val % 4) = false)
include hruns hfree

/-- A line packet goes before every other input; a full FIFO drops it. -/
theorem exec_ingressAccept_line {k : Pkt} {r : List Pkt} (hline : p.lineIn = k :: r) :
    exec (.ingressAccept i) s = .next (if 512 ≤ p.fifo.length then
        ((s.setPipe i { p with lineIn := r }).bump (A.ip i R.PIPE_PARSE_OVERRUN)).raise (pipeRegion i) (i.val % 4) 0
      else (s.setPipe i { p with lineIn := r }).ingressTake i k true) := by
  subst hp
  show execIngressAccept i s = _
  unfold execIngressAccept
  rw [if_pos (by simp [hruns, hfree])]
  simp only [hline, decide_eq_true_eq, apply_ite Host.Outcome.next]

theorem exec_ingressAccept_full (hline : p.lineIn = []) (hfull : 512 ≤ p.fifo.length) : exec (.ingressAccept i) s = .next s := by
  subst hp
  show execIngressAccept i s = _
  unfold execIngressAccept
  rw [if_pos (by simp [hruns, hfree])]
  simp only [hline, decide_eq_true_eq, if_pos hfull]

section
variable (hline : p.lineIn = []) (hroom : p.fifo.length < 512)
include hline hroom

/-- While there is room, the input whose turn it is gives its oldest packet. -/
theorem exec_ingressAccept_other : exec (.ingressAccept i) s = .next (match p.nextInput with
    | some 0 => match p.recircIn with
      | k :: r => (s.setPipe i { p with recircIn := r, rr := 1 }).ingressTake i { k with kind := 3 } false
      | [] => s
    | some 1 => match p.hostIn with
      | k :: r => (s.setPipe i { p with hostIn := r, rr := 2 }).ingressTake i k true
      | [] => s
    | some _ => match p.procIn with
      | k :: r => (s.setPipe i { p with procIn := r, rr := 0 }).ingressTake i k true
      | [] => s
    | none => s) := by
  subst hp
  show execIngressAccept i s = _
  unfold execIngressAccept
  rw [if_pos (by simp [hruns, hfree])]
  simp only [hline, decide_eq_true_eq, if_neg (Nat.not_le.2 hroom)]
  split
  · split <;> simp only [*]
  · split <;> simp only [*]
  · split <;> simp only [*]
  · simp only [*]
end
end

/-! ## The lookup (R170, R181) -/

theorem exec_lookup_waits (h : ∀ k rest, p.order ≠ .parsed k :: rest) : exec (.lookup i) s = .next s := by
  subst hp
  show execLookup i s = _
  unfold execLookup
  split
  · exact absurd ‹_› (h _ _)
  · rfl

section
variable {k : Pkt} {rest : List OrderEnt} {t : State} (horder : p.order = .parsed k :: rest) (ht : t = s.setPipe i { p with order := rest })
include horder ht

theorem exec_lookup_absent (habsent : s.lookAbsent i k = true) :
    exec (.lookup i) s = .next ((t.absentDrop (pipeRegion i)).dropPkt k) := by
  subst hp ht
  show execLookup i s = _
  unfold execLookup
  rw [horder]
  exact if_pos habsent

theorem exec_lookup_looks {m : Pkt × State} {c : LookCtx} {u v : State} {l : ModeOut} (hthere : s.lookAbsent i k = false)
    (hm : t.meetPkt k = m) (hc : m.2.lookStart i m.1 = (c, u)) (hl : u.modeLook i m.1 c = (l, v)) :
    exec (.lookup i) s = .next (match (generalizing := false) l with
      | .done x => (v.lookEnd i m.1 c x).2.pushReady i (v.lookEnd i m.1 c x).1
      | .long q => if 16 ≤ (v.pipe i).longLane.length then s else
        ((v.setPipe i { v.pipe i with
          longLane := (v.pipe i).longLane ++ [((v.pipe i).longNext, ⟨m.1, c, q⟩)]
          longNext := (v.pipe i).longNext + 1
          release := (v.pipe i).release ++ [.waiting (v.pipe i).longNext] }).bump (lpmA (R.TBL_LPM_LONG + 0x20 * i.val))).raise 7 1 2
      | .far q => if 256 ≤ (v.pipe i).farLane.length then ((v.bump (regAddr 7 7 R.TBL_FAR_DROP)).raise 7 7 1).dropPkt m.1
        else v.setPipe i { v.pipe i with farLane := (v.pipe i).farLane ++ [⟨m.1, c, q⟩] }) := by
  subst hp ht hm
  show execLookup i s = _
  unfold execLookup
  rw [horder]
  refine (if_neg (by simp [hthere])).trans ?_
  simp only [hc, hl]
  cases l with
  | done x => rfl
  | long q => exact (apply_ite Host.Outcome.next ..).symm
  | far q => exact (apply_ite Host.Outcome.next ..).symm
end

/-! ## The lanes (R181, R187) -/

theorem exec_longProbeLookup_head {id : Nat} {x : LaneEnt} {rest : List (Nat × LaneEnt)} {r : Option Pkt × State}
    (hlane : p.longLane = (id, x) :: rest) (hr : r = (s.setPipe i { p with longLane := rest }).laneEnd i x) :
    exec (.longProbeLookup i) s = .next (State.release (r.2.setPipe i { r.2.pipe i with release := match r.1 with
      | some k => (r.2.pipe i).release.map (fun e => if e = .waiting id then .ready k else e)
      | none => (r.2.pipe i).release.filter (fun e => e != .waiting id) }) i) := by
  subst hp hr
  show execLongProbeLookup i s = _
  unfold execLongProbeLookup
  rw [hlane] <;> rfl

theorem exec_longProbeLookup_empty (hlane : p.longLane = []) : exec (.longProbeLookup i) s = .next s := by
  subst hp
  show execLongProbeLookup i s = _
  unfold execLongProbeLookup
  rw [hlane]

section
variable {n : Fin 256}

theorem exec_farLookup_empty (hlane : p.farLane[n.val]? = none) : exec (.farLookup i n) s = .next s := by
  subst hp
  show execFarLookup i n s = _
  unfold execFarLookup
  simp only [hlane]

theorem exec_farLookup_entry {x : LaneEnt} {t : State} (hlane : p.farLane[n.val]? = some x)
    (ht : t = s.setPipe i { p with farLane := p.farLane.eraseIdx n.val }) :
    exec (.farLookup i n) s = .next (if s.behindFar i n.val x then s
      else if s.farAbsent i x then (t.absentDrop (pipeRegion i)).dropPkt x.pkt
      else match (t.laneEnd i x).1 with
        | some k => (t.laneEnd i x).2.setPipe i { (t.laneEnd i x).2.pipe i with toBuf := ((t.laneEnd i x).2.pipe i).toBuf ++ [k] }
        | none => (t.laneEnd i x).2) := by
  subst hp ht
  show execFarLookup i n s = _
  unfold execFarLookup
  simp only [hlane, apply_ite Host.Outcome.next]
  congr 2
  split <;> simp only [*]
end

/-! ## Egress (R193, R228) -/

omit hp in
theorem exec_egressRewrite_empty (hempty : spGet (fun _ => []) s.que.egress i.val = []) : exec (.egressRewrite i) s = .next s := by
  show execEgressRewrite i s = _
  unfold execEgressRewrite
  rw [hempty]

section
variable {x : EgPkt} {r : List EgPkt} (hq : spGet (fun _ => []) s.que.egress i.val = x :: r)
include hq

omit hp in
theorem exec_egressRewrite_waits (hwait : s.rgnRuns (pipeRegion i) = false ∨ s.egressBehind i x = true) :
    exec (.egressRewrite i) s = .next s := by
  show execEgressRewrite i s = _
  unfold execEgressRewrite
  rw [hq]
  refine if_pos ?_
  rcases hwait with h | h <;> simp [h]

omit hp in
/-- The oldest packet of the stage: dropped where its search is absent, else what the search says. -/
theorem exec_egressRewrite_head {k : Pkt} {u : State} (hruns : s.rgnRuns (pipeRegion i) = true) (hfirst : s.egressBehind i x = false)
    (hk : State.meetPkt { s with que := { s.que with egress := spPut (fun _ => []) s.que.egress i.val r } } x.pkt = (k, u)) :
    exec (.egressRewrite i) s = .next (
      if u.meets (pipeRegion i) 11 && natBit (u.tabN (pipeRegion i) 11 0x60 (pktClass k)) 0 then (u.absentDrop (pipeRegion i)).dropPkt k
      else match u.egressSearch i x.port k with
        | (.drop, v) => v.dropPkt k
        | (.processor c, v) => v.toProc i k c
        | (.go w, v) => v.rewriteSend i x.port w k) := by
  show execEgressRewrite i s = _
  unfold execEgressRewrite
  rw [hq]
  refine (if_neg (by simp [hruns, hfirst])).trans ?_
  dsimp only
  rw [hk]
  dsimp only
  rw [apply_ite Host.Outcome.next]
  congr 1
  generalize u.egressSearch i x.port k = q
  obtain ⟨o, v⟩ := q
  cases o <;> rfl
end

omit hp

/-- Settles O31: each clause is the equation of its command. -/
theorem packetsAreAcceptedAndDecided : Obligations.PacketsAreAcceptedAndDecided := by
  intro s i p hp
  refine ⟨fun hruns hfree => ⟨fun k r hline => ?line, fun hline hroom => ?other, exec_ingressAccept_full hp hruns hfree⟩,
    exec_ingressAccept_stopped, fun k rest t horder ht => ⟨exec_lookup_absent hp horder ht,
    fun m c u l v hthere hm hc hl => ?looks⟩, exec_lookup_waits hp, fun id x rest r hlane hr => ?long, exec_longProbeLookup_empty hp,
    fun n => exec_farLookup_empty hp, fun n x t hlane ht => ?far, fun x r hq => ⟨exec_egressRewrite_waits hq,
    fun k u none_ hruns hfirst hk hnone => ?egress⟩, exec_egressRewrite_empty⟩
  case line =>
    rw [exec_ingressAccept_line hp hruns hfree hline]
    exact ⟨fun hroom => by rw [if_neg (by omega)], fun hfull => by rw [if_pos hfull]⟩
  case other =>
    rw [exec_ingressAccept_other hp hruns hfree hline hroom]
    exact ⟨fun k r hnext hin => by simp only [hnext, hin], fun k r hnext hin => by simp only [hnext, hin],
      fun k r hnext hin => by simp only [hnext, hin], fun hnext => by simp only [hnext]⟩
  case looks =>
    rw [exec_lookup_looks hp horder ht hthere hm hc hl]
    refine ⟨fun x hx => by rw [hx], fun q hq => ⟨fun hfull => ?_, fun hroom => ⟨_, rfl, ?_⟩⟩, fun q hq => ⟨fun hfull => ?_, fun hroom => ?_⟩⟩
    · subst hq
      exact congrArg Host.Outcome.next (if_pos hfull)
    · subst hq
      exact congrArg Host.Outcome.next (if_neg (by omega))
    · subst hq
      exact congrArg Host.Outcome.next (if_pos hfull)
    · subst hq
      exact congrArg Host.Outcome.next (if_neg (by omega))
  case long =>
    rw [exec_longProbeLookup_head hp hlane hr]
    exact ⟨fun k hk => by rw [hk], fun hnone => by rw [hnone]⟩
  case far =>
    rw [exec_farLookup_entry hp hlane ht]
    refine ⟨fun hbehind => by rw [if_pos hbehind], fun hfirst habsent => ?_, ?_⟩
    · rw [if_neg (by simp [hfirst]), if_pos habsent]
    · rintro hfirst hthere r rfl
      rw [if_neg (by simp [hfirst]), if_neg (by simp [hthere])]
      exact ⟨fun k hk => by rw [hk], fun hnone => by rw [hnone]⟩
  case egress =>
    rw [exec_egressRewrite_head hq hruns hfirst hk, ← hnone]
    refine ⟨fun habsent => by rw [if_pos habsent], fun o v hthere ho => ?_⟩
    rw [if_neg (by simp [hthere]), ho]
    cases o <;> rfl

end Sys2Proof.Machine
end

section
/-! PROOF. The commands of the exact-match tables (R159 to R164): how the window of block EM starts one, and what each does to the table. -/

namespace Sys2Proof.Machine

/-! ## The window of block EM -/

theorem State.winQueues_em (s : State) : s.winQueues emWinA = s.glideQueues := by
  unfold State.winQueues
  rw [show glideRegion (addrRegion emWinA) = true by decide, Bool.and_true]

section
variable {s u : State} {v : Word} {c t n : Nat} {run : State → Nat → Nat × State}

theorem State.emCmd_busy (hbusy : s.rbit (emWinA + 12) 0 = true) (w : Nat) : s.emCmd w run = s.setFld (emWinA + 12) 1 3 5 :=
  State.winCmd_busy hbusy w

theorem State.emCmd_queued (hfree : s.rbit (emWinA + 12) 0 = false) (hq : s.glideQueues = true) (hc : c < 16) (hread : c ≠ 1) :
    s.emCmd (withCmd v c) run = s.winQueue emWinA (withCmd v c) :=
  State.winCmd_queued hfree (s.winQueues_em.trans hq) hc hread

/-- A command that the window runs, on the table that TABLE names or on none. -/
theorem State.emCmd_runs (hfree : s.rbit (emWinA + 12) 0 = false) (hq : s.glideQueues = false) (hc : c < 16)
    (hu : u = s.wr emWinA (BitVec.ofNat 32 (natField v.toNat 4 11 * 16))) (ht : t = natField v.toNat 4 8)
    (hn : n = if t < 64 then emLocations (s.emCfg t) else 0) {r : Nat × State} (hr : (if n = 0 then (2, u) else run u t) = r) :
    s.emCmd (withCmd v c) run = r.2.winEnd emWinA r.1 (if n = 0 then 0 else emBytes (emSize (s.emCfg t))) := by
  unfold State.emCmd
  rw [natField_withCmd v c hc 8 4 (by omega), ← ht]
  dsimp only
  rw [← hn, State.winCmd_runs hfree hc (.inr (s.winQueues_em.trans hq)) hu, hr]
end

section
variable {s : State} {m : Master} (hw : s.mayWrite m emWinA) (v : Word)
include hw

theorem exec_emInsert : exec (.emInsert m v) s = .next (s.emCmd (withCmd v 8) State.emInsert) :=
  congrArg Host.Outcome.next (State.asWrite_ok hw)

theorem exec_emDelete : exec (.emDelete m v) s = .next (s.emCmd (withCmd v 9) State.emDelete) :=
  congrArg Host.Outcome.next (State.asWrite_ok hw)

theorem exec_emSearch : exec (.emSearch m v) s = .next (s.emCmd (withCmd v 10) State.emSearch) :=
  congrArg Host.Outcome.next (State.asWrite_ok hw)

theorem exec_emUpdate : exec (.emUpdate m v) s = .next (s.emCmd (withCmd v 11) State.emUpdate) :=
  congrArg Host.Outcome.next (State.asWrite_ok hw)

/-- The four commands of the window start alike. -/
theorem exec_emAll : ∀ c ∈ [(8, Instr.emInsert m v), (9, .emDelete m v), (10, .emSearch m v), (11, .emUpdate m v)],
    c.1 < 16 ∧ c.1 ≠ 1 ∧ ∃ run, exec c.2 s = .next (s.emCmd (withCmd v c.1) run) := by
  simp only [List.forall_mem_cons, exec_emInsert hw, exec_emDelete hw, exec_emSearch hw, exec_emUpdate hw]
  exact ⟨⟨by decide, by decide, _, rfl⟩, ⟨by decide, by decide, _, rfl⟩, ⟨by decide, by decide, _, rfl⟩,
    ⟨by decide, by decide, _, rfl⟩, List.forall_mem_nil _⟩
end

/-! ## INSERT -/

section
variable {u : State} {t cfg d : Nat} (hcfg : u.emCfg t = cfg) (hd : d = emClean (u.winDataN emWinA (emBytes (emSize cfg) / 4)))
include hcfg hd

theorem State.emInsert_locked (hlock : u.verLocked &&& entVmask d ≠ 0) : u.emInsert t = u.verProtect emWinA := by
  subst hcfg hd
  exact if_pos hlock

variable (hopen : u.verLocked &&& entVmask d = 0)
include hopen

theorem State.emInsert_badType (htype : 7 ≤ natField d 64 4) : u.emInsert t = (4, u) := by
  subst hcfg hd
  exact (if_neg (not_not.2 hopen)).trans (if_pos htype)

variable (htype : natField d 64 4 < 7)
include htype

theorem State.emInsert_duplicate (hfound : u.emFind t (emKey cfg d) (entVmask d) ≠ []) : u.emInsert t = (u.raise 7 3 1).emRefuse 1 := by
  subst hcfg hd
  exact (if_neg (not_not.2 hopen)).trans ((if_neg (Nat.not_le.2 htype)).trans (if_pos hfound))

variable (hnew : u.emFind t (emKey cfg d) (entVmask d) = [])
include hnew

theorem State.emInsert_free {p : Nat}
    (hfree : (emKeyPlaces cfg (emKey cfg d)).find? (fun p => entVmask (u.emEntry t p) == 0) = some p) :
    u.emInsert t = (0, u.emPlace t p d) := by
  unfold State.emInsert
  simp only [hcfg, ← hd]
  rw [if_neg (not_not.2 hopen), if_neg (Nat.not_le.2 htype), if_neg (not_not.2 hnew), hfree]

/-- Without a free place among the key's own, the shortest path of moves decides. -/
theorem State.emInsert_moves (hfull : (emKeyPlaces cfg (emKey cfg d)).find? (fun p => entVmask (u.emEntry t p) == 0) = none)
    {path : Option (List (Nat × Nat))}
    (hpath : path = shortestPath emPlaces (fun b => (emPlaces b).find? (fun p => entVmask (u.emEntry t p) == 0))
      (fun p => ((List.range 4).map (emBucket cfg (emKey cfg (u.emEntry t p)))).filter (fun b => b != p / 4 * 4))
      ((List.range 4).map (emBucket cfg (emKey cfg d))) 4) :
    u.emInsert t = match (generalizing := false) path with
      | some ((p, q) :: rest) => (0, (((p, q) :: rest).reverse.foldl (fun x y => x.emMove t y) u).emPlace t p d)
      | _ => (u.raise 7 3 0).emRefuse 2 := by
  unfold State.emInsert
  simp only [hcfg, ← hd]
  rw [if_neg (not_not.2 hopen), if_neg (Nat.not_le.2 htype), if_neg (not_not.2 hnew), hfull, ← hpath] <;> rfl
end

/-! ## SEARCH, DELETE and UPDATE -/

section
variable {u : State} {t x : Nat} (hx : x = u.winVmask emWinA) (hlock : u.verLocked &&& x ≠ 0)
include hx hlock

theorem State.emDelete_locked : u.emDelete t = u.verProtect emWinA := by
  subst hx
  exact if_pos hlock

theorem State.emUpdate_locked : u.emUpdate t = u.verProtect emWinA := by
  subst hx
  exact if_pos hlock
end

section
variable {u : State} {t cfg w x : Nat} (hcfg : u.emCfg t = cfg) (hw : w = u.winDataN emWinA (emBytes (emSize cfg) / 4))
  (hx : x = u.winVmask emWinA)
include hcfg hw

theorem State.emWinKey_eq : u.emWinKey t = emKey cfg w := by
  subst hcfg hw
  rfl

include hx

theorem State.emSearch_eq : u.emSearch t = match u.emFind t (emKey cfg w) x with
    | [] => u.emRefuse 3
    | p :: _ => (0, (u.setWinData emWinA (emBytes (emSize cfg) / 4) (u.emEntry t p)).setWinIndex emWinA p) := by
  unfold State.emSearch
  rw [State.emWinKey_eq hcfg hw, ← hx, hcfg] <;> rfl

variable (hopen : u.verLocked &&& x = 0)
include hopen

theorem State.emDelete_none (hnone : u.emFind t (emKey cfg w) x = []) : u.emDelete t = u.emRefuse 3 := by
  unfold State.emDelete
  simp only [← hx, State.emWinKey_eq hcfg hw]
  rw [if_neg (not_not.2 hopen), hnone]

theorem State.emDelete_found {p : Nat} {l : List Nat} (hfound : u.emFind t (emKey cfg w) x = p :: l) :
    u.emDelete t = (0, (p :: l).foldl (fun y q =>
      if entVmask (y.emEntry t q) &&& (3 - x) = 0 then y.emFree t q
      else y.emPut t q (natSetField (y.emEntry t q) 0 2 (entVmask (y.emEntry t q) &&& (3 - x)))) (u.setWinIndex emWinA p)) := by
  unfold State.emDelete
  simp only [← hx, State.emWinKey_eq hcfg hw]
  rw [if_neg (not_not.2 hopen), hfound] <;> rfl

theorem State.emUpdate_none (hnone : u.emFind t (emKey cfg w) x = []) : u.emUpdate t = u.emRefuse 3 := by
  unfold State.emUpdate
  simp only [← hx, State.emWinKey_eq hcfg hw]
  rw [if_neg (not_not.2 hopen), hnone]

theorem State.emUpdate_found {p : Nat} {l : List Nat} (hfound : u.emFind t (emKey cfg w) x = p :: l) :
    u.emUpdate t = if ∃ q ∈ p :: l, u.verLocked &&& entVmask (u.emEntry t q) ≠ 0 then u.verProtect emWinA
      else if 7 ≤ natField w 64 4 then (4, u)
      else (0, (p :: l).foldl (fun y q => y.emPut t q (emResult (y.emEntry t q) w)) u) := by
  unfold State.emUpdate
  simp only [← hx, State.emWinKey_eq hcfg hw, hcfg, ← hw]
  rw [if_neg (not_not.2 hopen), hfound]
  simp only [List.any_eq_true, bne_iff_ne]
end

/-- Settles O32: `State.emCmd_runs` carries each command to the table's own function, whose cases are the lemmas above. -/
theorem exactMatchCommandsAct : Obligations.ExactMatchCommandsAct := by
  intro s u m v t cfg w d n fin all hm hu ht hcfg hn hw hd hall hfin
  subst hall
  have hrun {c : Nat} {run : State → Nat → Nat × State} (hfree : s.rbit (emWinA + 12) 0 = false) (hq : s.glideQueues = false)
      (hc : c < 16) {r : Nat × State} (hr : (if n = 0 then (2, u) else run u t) = r) : s.emCmd (withCmd v c) run = fin r := by
    rw [hfin, hcfg]
    exact State.emCmd_runs hfree hq hc hu ht (hcfg ▸ hn) hr
  refine ⟨fun hbusy c hc => ?busy, fun hfree hq c hc => ?queued, fun hfree hq h0 c hc => ?noTable, fun hfree hq h0 => ?table⟩
  case busy =>
    obtain ⟨-, -, run, hexec⟩ := exec_emAll hm v c hc
    rw [hexec, State.emCmd_busy hbusy]
  case queued =>
    obtain ⟨hlt, hread, run, hexec⟩ := exec_emAll hm v c hc
    rw [hexec, State.emCmd_queued hfree hq hlt hread]
  case noTable =>
    obtain ⟨hlt, -, run, hexec⟩ := exec_emAll hm v c hc
    rw [hexec, hrun hfree hq hlt (if_pos h0)]
  case table =>
    have hlt : t < 64 := by
      by_contra hge
      exact h0 (by rw [hn, if_neg hge])
    have hucfg : u.emCfg t = cfg := (State.emCfg_wr_win hlt hu).trans hcfg.symm
    have hgo {c : Nat} {run : State → Nat → Nat × State} (hc : c < 16) {r : Nat × State} (hr : run u t = r) :
        Host.Outcome.next (s.emCmd (withCmd v c) run) = (.next (fin r) : Host.Outcome State Fault Refusal) :=
      congrArg _ (hrun hfree hq hc ((if_neg h0).trans hr))
    have hdu : d = emClean (u.winDataN emWinA (emBytes (emSize cfg) / 4)) := hw ▸ hd
    rw [exec_emInsert hm, exec_emDelete hm, exec_emSearch hm, exec_emUpdate hm]
    refine ⟨fun hlock => hgo (by decide) (State.emInsert_locked hucfg hdu hlock), fun hopen =>
      ⟨fun hbad => hgo (by decide) (State.emInsert_badType hucfg hdu hopen hbad), fun htype =>
      ⟨fun hdup => hgo (by decide) (State.emInsert_duplicate hucfg hdu hopen htype hdup), fun hnew =>
      ⟨fun p hp => hgo (by decide) (State.emInsert_free hucfg hdu hopen htype hnew hp), fun hfull path hpath => ?moves⟩⟩⟩,
      fun x hx => ⟨fun hnone => ?_, fun p l hfound => ?_, fun hlock => ⟨hgo (by decide) (State.emDelete_locked hx hlock),
        hgo (by decide) (State.emUpdate_locked hx hlock)⟩, fun hopen =>
      ⟨fun hnone => ⟨hgo (by decide) (State.emDelete_none hucfg hw hx hopen hnone),
        hgo (by decide) (State.emUpdate_none hucfg hw hx hopen hnone)⟩, fun p l hfound =>
      ⟨hgo (by decide) (State.emDelete_found hucfg hw hx hopen hfound), ?update⟩⟩⟩⟩
    case moves =>
      have hmoves := State.emInsert_moves hucfg hdu hopen htype hnew hfull hpath
      refine ⟨fun hno => hgo (by decide) (hmoves.trans ?_), fun p q rest hsome => hgo (by decide) (hmoves.trans ?_)⟩
      · rcases hno with rfl | rfl <;> rfl
      · rw [hsome]
    · exact hgo (by decide) ((State.emSearch_eq hucfg hw hx).trans (by rw [hnone]))
    · exact hgo (by decide) ((State.emSearch_eq hucfg hw hx).trans (by rw [hfound]))
    case update =>
      have hupdate := State.emUpdate_found hucfg hw hx hopen hfound
      refine ⟨fun hlock => hgo (by decide) (hupdate.trans (if_pos hlock)), fun hall => ?_⟩
      have hfree : ¬∃ q ∈ p :: l, u.verLocked &&& entVmask (u.emEntry t q) ≠ 0 := by
        rintro ⟨q, hq, hlock⟩
        exact hlock (hall q hq)
      rw [if_neg hfree] at hupdate
      exact ⟨fun hbad => hgo (by decide) (hupdate.trans (if_pos hbad)),
        fun htype => hgo (by decide) (hupdate.trans (if_neg (Nat.not_le.2 htype)))⟩

end Sys2Proof.Machine
end

section
/-! PROOF. The commands of the route tables (R176 to R187): how the window of block LPM starts one, and what each does. -/

namespace Sys2Proof.Machine

/-! ## The window of block LPM -/

theorem State.winQueues_lpm (s : State) : s.winQueues lpmWinA = s.glideQueues := by
  unfold State.winQueues
  rw [show glideRegion (addrRegion lpmWinA) = true by decide, Bool.and_true]

section
variable {s u : State} {v : Word} {c t table : Nat} {run : State → Nat × State}

theorem State.lpmCmd_busy (hbusy : s.rbit (lpmWinA + 12) 0 = true) (w : Nat) :
    s.lpmCmd w table run = s.setFld (lpmWinA + 12) 1 3 5 :=
  State.winCmd_busy hbusy w

theorem State.lpmCmd_queued (hfree : s.rbit (lpmWinA + 12) 0 = false) (hq : s.glideQueues = true) (hc : c < 16) (hread : c ≠ 1) :
    s.lpmCmd (withCmd v c) table run = s.winQueue lpmWinA (withCmd v c) :=
  State.winCmd_queued hfree (s.winQueues_lpm.trans hq) hc hread

/-- A command that the window runs, on the table it acts on, on another of the block or on none. -/
theorem State.lpmCmd_runs (hfree : s.rbit (lpmWinA + 12) 0 = false) (hq : s.glideQueues = false) (hc : c < 16)
    (hu : u = s.wr lpmWinA (BitVec.ofNat 32 (natField v.toNat 4 11 * 16))) (ht : t = natField v.toNat 4 8) {r : Nat × State}
    (hr : (if t = table then run u else if 0x10 ≤ t ∧ t ≤ 0x12 then (3, u) else (2, u)) = r) :
    s.lpmCmd (withCmd v c) table run =
      r.2.winEnd lpmWinA r.1 (if t = 0x10 ∨ t = 0x12 then 32 else if t = 0x11 then 40 else 0) := by
  have hbytes : (if t = 0x10 then 32 else if t = 0x11 then 40 else if t = 0x12 then 32 else 0) =
      if t = 0x10 ∨ t = 0x12 then 32 else if t = 0x11 then 40 else 0 := by
    split_ifs <;> omega
  unfold State.lpmCmd
  rw [natField_withCmd v c hc 8 4 (by omega), ← ht, hbytes, State.winCmd_runs hfree hc (.inr (s.winQueues_lpm.trans hq)) hu, hr]
end

section
variable {s : State} {m : Master} (hw : s.mayWrite m lpmWinA) (v : Word)
include hw

theorem exec_lpmInsert : exec (.lpmInsert m v) s = .next (s.lpmCmd (withCmd v 8) 0x12 State.lpmInsert) :=
  congrArg Host.Outcome.next (State.asWrite_ok hw)

theorem exec_lpmDelete : exec (.lpmDelete m v) s = .next (s.lpmCmd (withCmd v 9) 0x12 State.lpmDelete) :=
  congrArg Host.Outcome.next (State.asWrite_ok hw)

theorem exec_lpmSearch : exec (.lpmSearch m v) s = .next (s.lpmCmd (withCmd v 10) 0x12 State.lpmSearch) :=
  congrArg Host.Outcome.next (State.asWrite_ok hw)

theorem exec_lpmUpdate : exec (.lpmUpdate m v) s = .next (s.lpmCmd (withCmd v 11) 0x12 State.lpmUpdate) :=
  congrArg Host.Outcome.next (State.asWrite_ok hw)

theorem exec_rebuild : exec (.rebuild m v) s = .next (s.lpmCmd (withCmd v 12) 0x10 State.lpmRebuild) :=
  congrArg Host.Outcome.next (State.asWrite_ok hw)

/-- The four commands on routes start alike. -/
theorem exec_lpmRoutes : ∀ c ∈ [(8, Instr.lpmInsert m v), (9, .lpmDelete m v), (10, .lpmSearch m v), (11, .lpmUpdate m v)],
    c.1 < 16 ∧ c.1 ≠ 1 ∧ ∃ run, exec c.2 s = .next (s.lpmCmd (withCmd v c.1) 0x12 run) := by
  simp only [List.forall_mem_cons, exec_lpmInsert hw, exec_lpmDelete hw, exec_lpmSearch hw, exec_lpmUpdate hw]
  exact ⟨⟨by decide, by decide, _, rfl⟩, ⟨by decide, by decide, _, rfl⟩, ⟨by decide, by decide, _, rfl⟩,
    ⟨by decide, by decide, _, rfl⟩, List.forall_mem_nil _⟩

theorem exec_lpmAll : ∀ c ∈ [(8, Instr.lpmInsert m v), (9, .lpmDelete m v), (10, .lpmSearch m v), (11, .lpmUpdate m v)] ++
      [(12, .rebuild m v)],
    c.1 < 16 ∧ c.1 ≠ 1 ∧ ∃ table run, (table = 0x10 ∨ table = 0x12) ∧ exec c.2 s = .next (s.lpmCmd (withCmd v c.1) table run) := by
  intro c hc
  rcases List.mem_append.1 hc with h | h
  · obtain ⟨hlt, hread, run, hrun⟩ := exec_lpmRoutes hw v c h
    exact ⟨hlt, hread, 0x12, run, .inr rfl, hrun⟩
  · rw [List.mem_singleton.1 h]
    exact ⟨show 12 < 16 by decide, show 12 ≠ 1 by decide, 0x10, _, .inl rfl, exec_rebuild hw v⟩
end

/-! ## REBUILD -/

section
variable {u : State} {i : Nat} (hi : i = u.winIndex lpmWinA)
include hi

theorem State.lpmRebuild_badIndex (hbad : lpmValidIndex i = false) : u.lpmRebuild = (1, u) := by
  subst hi
  exact if_pos (by rw [hbad]; rfl)

variable (hok : lpmValidIndex i = true)
include hok

theorem State.lpmRebuild_busy (hbusy : u.fwd.rebuild ≠ none) : u.lpmRebuild = u.lpmRefuse 6 := by
  subst hi
  exact (if_neg (by rw [hok]; decide)).trans (if_pos (Option.isSome_iff_ne_none.2 hbusy))

theorem State.lpmRebuild_starts (hfree : u.fwd.rebuild = none) : u.lpmRebuild =
    (0, State.setFld { u with fwd := { u.fwd with rebuild := some i } } (lpmA R.TBL_LPM_STAT) 3 10 (1 + 2 * i)) := by
  subst hi
  exact (if_neg (by rw [hok]; decide)).trans (if_neg (by rw [hfree]; decide))
end

theorem exec_rebuildDone_some {s : State} {i : Nat} (hi : s.fwd.rebuild = some i) {v6 : Bool} (hv6 : v6 = decide (128 < i))
    {len : Nat} (hlen : len = if v6 = true then i - 128 else i) {t x : State}
    (ht : t = (s.nearRoutes v6 len).foldl State.filterSet (s.filterZero (natField (s.lpmDesc i) 96 21) (natField (s.lpmDesc i) 128 21)))
    (hx : x = t.setTabN 7 1 0x10 i (natSetField (s.lpmDesc i) 2 1 1)) :
    exec .rebuildDone s = .next (State.raise (State.setFld { x with fwd := { x.fwd with rebuild := none } }
      (lpmA R.TBL_LPM_STAT) 3 1 0) 7 1 3) := by
  show execRebuildDone s = _
  unfold execRebuildDone
  rw [hi]
  subst hx ht hlen hv6
  rfl

theorem exec_rebuildDone_none {s : State} (hnone : s.fwd.rebuild = none) : exec .rebuildDone s = .next s := by
  show execRebuildDone s = _
  unfold execRebuildDone
  rw [hnone]

/-! ## INSERT -/

section
variable {u : State} {k : Route} {far : Bool} {pre x e : Nat} {slots : Nat → Option Nat}

/-- What WIN_DATA and VMASK name, as the obligation writes it. -/
structure RouteArgs (u : State) (k : Route) (far : Bool) (pre x e : Nat) (slots : Nat → Option Nat) : Prop where
  args : u.lpmArgs = (k, far, pre)
  vmask : x = u.winVmask lpmWinA
  entry : e = slotOf_ k x (natField (u.winWord lpmWinA 1) 0 2) (natField (u.winWord lpmWinA 1) 2 20)
  free : slots = fun b => (slotPlaces k.v6 k.len b).find? (fun p => slotVmask (u.slot far k.v6 k.len p) == 0)

variable (ha : RouteArgs u k far pre x e slots)
include ha

theorem State.lpmInsert_locked (hlock : u.verLocked &&& x ≠ 0) : u.lpmInsert = u.verProtect lpmWinA := by
  obtain ⟨-, rfl, -, -⟩ := ha
  exact if_pos hlock

theorem State.lpmDelete_locked (hlock : u.verLocked &&& x ≠ 0) : u.lpmDelete = u.verProtect lpmWinA := by
  obtain ⟨-, rfl, -, -⟩ := ha
  exact if_pos hlock

theorem State.lpmUpdate_locked (hlock : u.verLocked &&& x ≠ 0) : u.lpmUpdate = u.verProtect lpmWinA := by
  obtain ⟨-, rfl, -, -⟩ := ha
  exact if_pos hlock

/-- INSERT where no version is locked, as its list of tests. -/
theorem State.lpmInsert_open (hopen : u.verLocked &&& x = 0) : u.lpmInsert =
    if u.routeFind false k x != [] || u.routeFind true k x != [] then (u.raise 7 1 1).lpmRefuse 1
    else if !k.valid && k.len != 0 && decide (famBits k.v6 < k.len) then u.lpmRefuse 5
    else if k.pre ≠ pre then u.lpmRefuse 4
    else if !u.partOn far k then u.lpmRefuse 5
    else match (u.routeBuckets far k).findSome? slots with
      | some p =>
        if far && decide (67108864 ≤ u.fld (regAddr 7 7 R.TBL_FAR_ENTRIES) 0 27) then (u.raise 7 7 0).lpmRefuse 2
        else (0, u.lpmPlace far k p e)
      | none =>
        if far then (u.raise 7 7 0).lpmRefuse 2
        else match shortestPath (slotPlaces k.v6 k.len) slots
            (fun p => (u.nearBuckets (slotRoute k.v6 k.len (u.slot false k.v6 k.len p))).filter (fun b => b != p / 8))
            (u.nearBuckets k) 8 with
          | some ((p, q) :: rest) => (0, (((p, q) :: rest).reverse.foldl (fun y z => y.lpmMove k z) u).lpmPlace false k p e)
          | _ => (u.raise 7 1 0).lpmRefuse 2 := by
  obtain ⟨hargs, hx, he, hslots⟩ := ha
  unfold State.lpmInsert
  simp only [hargs, ← hx, ← he]
  rw [if_neg (not_not.2 hopen), ← hslots] <;> rfl

section
variable (hopen : u.verLocked &&& x = 0)
include hopen

theorem State.lpmInsert_duplicate (hdup : u.routeFind false k x ≠ [] ∨ u.routeFind true k x ≠ []) :
    u.lpmInsert = (u.raise 7 1 1).lpmRefuse 1 := by
  rw [State.lpmInsert_open ha hopen, if_pos (by simpa using hdup)]

variable (hnear : u.routeFind false k x = []) (hfar : u.routeFind true k x = [])
include hnear hfar

theorem State.lpmInsert_noLength (hlen : famBits k.v6 < k.len) : u.lpmInsert = u.lpmRefuse 5 := by
  have hbad : (!k.valid && k.len != 0 && decide (famBits k.v6 < k.len)) = true := by
    simp [Route.valid, hlen, Nat.ne_of_gt (Nat.zero_lt_of_lt hlen)]
  rw [State.lpmInsert_open ha hopen, if_neg (by simp [hnear, hfar]), if_pos hbad]

variable (hlen : k.len ≤ famBits k.v6)
include hlen

theorem State.lpmInsert_badKey (hpre : k.pre ≠ pre) : u.lpmInsert = u.lpmRefuse 4 := by
  rw [State.lpmInsert_open ha hopen, if_neg (by simp [hnear, hfar]), if_neg (by simp [hlen]), if_pos hpre]

variable (hpre : k.pre = pre)
include hpre

theorem State.lpmInsert_partOff (hoff : u.partOn far k = false) : u.lpmInsert = u.lpmRefuse 5 := by
  rw [State.lpmInsert_open ha hopen, if_neg (by simp [hnear, hfar]), if_neg (by simp [hlen]), if_neg (not_not.2 hpre),
    if_pos (by rw [hoff]; rfl)]

variable (hon : u.partOn far k = true)
include hon

theorem State.lpmInsert_free {p : Nat} (hp : (u.routeBuckets far k).findSome? slots = some p)
    (hroom : far = true → u.fld (regAddr 7 7 R.TBL_FAR_ENTRIES) 0 27 < 67108864) : u.lpmInsert = (0, u.lpmPlace far k p e) := by
  rw [State.lpmInsert_open ha hopen, if_neg (by simp [hnear, hfar]), if_neg (by simp [hlen]), if_neg (not_not.2 hpre),
    if_neg (by simp [hon]), hp]
  exact if_neg (by simpa using hroom)

theorem State.lpmInsert_farFull (hisFar : far = true) (hfull : (u.routeBuckets far k).findSome? slots = none ∨
      67108864 ≤ u.fld (regAddr 7 7 R.TBL_FAR_ENTRIES) 0 27) : u.lpmInsert = (u.raise 7 7 0).lpmRefuse 2 := by
  rw [State.lpmInsert_open ha hopen, if_neg (by simp [hnear, hfar]), if_neg (by simp [hlen]), if_neg (not_not.2 hpre),
    if_neg (by simp [hon])]
  cases hplace : (u.routeBuckets far k).findSome? slots with
  | none => exact if_pos hisFar
  | some p =>
    have hmax : 67108864 ≤ u.fld (regAddr 7 7 R.TBL_FAR_ENTRIES) 0 27 := hfull.resolve_left (by rw [hplace]; exact Option.some_ne_none p)
    exact if_pos (by simp [hisFar, hmax])

/-- Without a free slot in the near buckets, the shortest path of moves decides. -/
theorem State.lpmInsert_moves (hisNear : far = false) (hfull : (u.routeBuckets far k).findSome? slots = none)
    {path : Option (List (Nat × Nat))} (hpath : path = shortestPath (slotPlaces k.v6 k.len) slots
      (fun p => (u.nearBuckets (slotRoute k.v6 k.len (u.slot false k.v6 k.len p))).filter (fun b => b != p / 8))
      (u.nearBuckets k) 8) :
    u.lpmInsert = match (generalizing := false) path with
      | some ((p, q) :: rest) => (0, (((p, q) :: rest).reverse.foldl (fun y z => y.lpmMove k z) u).lpmPlace false k p e)
      | _ => (u.raise 7 1 0).lpmRefuse 2 := by
  rw [State.lpmInsert_open ha hopen, if_neg (by simp [hnear, hfar]), if_neg (by simp [hlen]), if_neg (not_not.2 hpre),
    if_neg (by simp [hon]), hfull, ← hpath]
  exact if_neg (by simp [hisNear])
end

/-! ## DELETE, UPDATE and SEARCH -/

section
variable (hopen : u.verLocked &&& x = 0)
include hopen

theorem State.lpmDelete_none (hnone : u.routeFind far k x = []) : u.lpmDelete = u.lpmRefuse 3 := by
  unfold State.lpmDelete
  simp only [ha.args, ← ha.vmask]
  rw [if_neg (not_not.2 hopen), hnone]

theorem State.lpmDelete_found {p : Nat} {l : List Nat} (hfound : u.routeFind far k x = p :: l) :
    u.lpmDelete = (0, (p :: l).foldl (fun y q =>
      if slotVmask (y.slot far k.v6 k.len q) &&& (3 - x) = 0
      then (y.setSlot far k.v6 k.len q 0).lpmCount far k.index false
      else y.setSlot far k.v6 k.len q (natSetField (y.slot far k.v6 k.len q) 0 2
        (slotVmask (y.slot far k.v6 k.len q) &&& (3 - x)))) u) := by
  unfold State.lpmDelete
  simp only [ha.args, ← ha.vmask]
  rw [if_neg (not_not.2 hopen), hfound]

theorem State.lpmUpdate_none (hnone : u.routeFind far k x = []) : u.lpmUpdate = u.lpmRefuse 3 := by
  unfold State.lpmUpdate
  simp only [ha.args, ← ha.vmask]
  rw [if_neg (not_not.2 hopen), hnone]

theorem State.lpmUpdate_found {p : Nat} {l : List Nat} (hfound : u.routeFind far k x = p :: l) :
    u.lpmUpdate = if ∃ q ∈ p :: l, u.verLocked &&& slotVmask (u.slot far k.v6 k.len q) ≠ 0 then u.verProtect lpmWinA
      else (0, (p :: l).foldl (fun y q => y.setSlot far k.v6 k.len q
        (slotOf_ k (slotVmask (y.slot far k.v6 k.len q)) (natField (y.winWord lpmWinA 1) 0 2)
          (natField (y.winWord lpmWinA 1) 2 20))) u) := by
  unfold State.lpmUpdate
  simp only [ha.args, ← ha.vmask]
  rw [if_neg (not_not.2 hopen), hfound]
  simp only [List.any_eq_true, bne_iff_ne]
end

theorem State.lpmSearch_none (hnear : u.routeFind false k x = []) (hfar : u.routeFind true k x = []) :
    u.lpmSearch = u.lpmRefuse 3 := by
  unfold State.lpmSearch
  simp only [ha.args, ← ha.vmask, hnear, hfar]

theorem State.lpmSearch_found {f : Bool} {p : Nat} {l : List Nat} (hfound : u.routeFind f k x = p :: l)
    (hfirst : f = false ∨ u.routeFind false k x = []) {o : Nat} (ho : o = u.slot f k.v6 k.len p) :
    u.lpmSearch = (0, ((u.setWinWord lpmWinA 0 (natSetField (u.winWord lpmWinA 0) 23 1 (if f then 1 else 0))).setWinWord lpmWinA 1
      (slotKind o + slotIndex o * 4)).setWinWord lpmWinA 2 (slotVmask o)) := by
  subst ho
  unfold State.lpmSearch
  simp only [ha.args, ← ha.vmask]
  cases f with
  | false => simp only [hfound]
  | true =>
    have hnear : u.routeFind false k x = [] := hfirst.resolve_left (by decide)
    simp only [hnear, hfound]
end

/-- Settles O33: `State.lpmCmd_runs` carries each command to the table's own function, whose cases are the lemmas above. -/
theorem routeCommandsAct : Obligations.RouteCommandsAct := by
  intro s
  refine ⟨fun m v u k far pre x e t fin slots all hm hu ht hall hfin hargs hx he hslots => ?commands,
    fun i len v6 t x hi hv6 hlen ht hx => exec_rebuildDone_some hi hv6 hlen ht hx, exec_rebuildDone_none⟩
  subst hall
  have ha : RouteArgs u k far pre x e slots := ⟨hargs, hx, he, hslots⟩
  refine ⟨fun hbusy c hc => ?busy, fun hfree hq c hc => ?queued, fun hfree hq => ?runs⟩
  case busy =>
    obtain ⟨-, -, table, run, -, hexec⟩ := exec_lpmAll hm v c hc
    rw [hexec, State.lpmCmd_busy hbusy]
  case queued =>
    obtain ⟨hlt, hread, table, run, -, hexec⟩ := exec_lpmAll hm v c hc
    rw [hexec, State.lpmCmd_queued hfree hq hlt hread]
  case runs =>
    have hrun {c table : Nat} {run : State → Nat × State} (hc : c < 16) {r : Nat × State}
        (hr : (if t = table then run u else if 0x10 ≤ t ∧ t ≤ 0x12 then (3, u) else (2, u)) = r) :
        Host.Outcome.next (s.lpmCmd (withCmd v c) table run) = (.next (fin r) : Host.Outcome State Fault Refusal) := by
      rw [hfin]
      exact congrArg _ (State.lpmCmd_runs hfree hq hc hu ht hr)
    refine ⟨fun hother c hc => ?_, fun hnone c hc => ?_, fun hother => ?_, fun ht10 i hi => ?_, fun ht12 => ?_⟩
    · obtain ⟨hlt, -, run, hexec⟩ := exec_lpmRoutes hm v c hc
      rw [hexec]
      exact hrun hlt ((if_neg (by omega)).trans (if_pos (by omega)))
    · obtain ⟨hlt, -, table, run, htable, hexec⟩ := exec_lpmAll hm v c hc
      rw [hexec]
      exact hrun hlt ((if_neg (by omega)).trans (if_neg (by omega)))
    · rw [exec_rebuild hm]
      exact hrun (by decide) ((if_neg (by omega)).trans (if_pos (by omega)))
    · have hgo {r : Nat × State} (hr : u.lpmRebuild = r) := hrun (c := 12) (run := State.lpmRebuild) (by decide) ((if_pos ht10).trans hr)
      rw [exec_rebuild hm]
      exact ⟨fun hbad => hgo (State.lpmRebuild_badIndex hi hbad), fun hok hbusy => hgo (State.lpmRebuild_busy hi hok hbusy),
        fun hok hidle => hgo (State.lpmRebuild_starts hi hok hidle)⟩
    · have hgo {c : Nat} {run : State → Nat × State} (hc : c < 16) {r : Nat × State} (hr : run u = r) :=
        hrun hc (run := run) ((if_pos ht12).trans hr)
      rw [exec_lpmInsert hm, exec_lpmDelete hm, exec_lpmSearch hm, exec_lpmUpdate hm]
      refine ⟨fun hlock => ⟨hgo (by decide) (State.lpmInsert_locked ha hlock), hgo (by decide) (State.lpmDelete_locked ha hlock),
          hgo (by decide) (State.lpmUpdate_locked ha hlock)⟩, fun hopen =>
        ⟨fun hdup => hgo (by decide) (State.lpmInsert_duplicate ha hopen hdup), fun hnear hfar => ?insert,
          fun hnone => ⟨hgo (by decide) (State.lpmDelete_none ha hopen hnone), hgo (by decide) (State.lpmUpdate_none ha hopen hnone)⟩,
          fun p l hfound => ⟨hgo (by decide) (State.lpmDelete_found ha hopen hfound), fun hlock => hgo (by decide)
            ((State.lpmUpdate_found ha hopen hfound).trans (if_pos hlock)), fun hfree => hgo (by decide)
            ((State.lpmUpdate_found ha hopen hfound).trans (if_neg ?update))⟩⟩,
        fun hnear hfar => hgo (by decide) (State.lpmSearch_none ha hnear hfar),
        fun f p l o hfound hfirst ho => hgo (by decide) (State.lpmSearch_found ha hfound hfirst ho)⟩
      case update =>
        rintro ⟨q, hq, hlock⟩
        exact hlock (hfree q hq)
      case insert =>
        refine ⟨fun hlen => hgo (by decide) (State.lpmInsert_noLength ha hopen hnear hfar hlen),
          fun hlen hpre => hgo (by decide) (State.lpmInsert_badKey ha hopen hnear hfar hlen hpre),
          fun hlen hpre hoff => hgo (by decide) (State.lpmInsert_partOff ha hopen hnear hfar hlen hpre hoff), fun hlen hpre hon =>
          ⟨fun p hp hroom => hgo (by decide) (State.lpmInsert_free ha hopen hnear hfar hlen hpre hon hp hroom),
            fun hisFar hfull => hgo (by decide) (State.lpmInsert_farFull ha hopen hnear hfar hlen hpre hon hisFar hfull),
            fun hisNear hfull path hpath => ?_⟩⟩
        have hmoves := State.lpmInsert_moves ha hopen hnear hfar hlen hpre hon hisNear hfull hpath
        refine ⟨fun hno => hgo (by decide) (hmoves.trans ?_), fun p q rest hsome => hgo (by decide) (hmoves.trans (by rw [hsome]))⟩
        rcases hno with rfl | rfl <;> rfl

end Sys2Proof.Machine
end

section
/-! PROOF. Learned tables (R196 to R202): commands join the engine's FIFO, the engine serves it, records leave, and sweeps age the entries. -/

namespace Sys2Proof.Machine

/-! ## Commands of a learn window -/

theorem State.winQueues_lrn (s : State) (r : Fin 4) : s.winQueues (lrnWinA r) = s.glideQueues := by
  have hglide : ∀ r : Fin 4, glideRegion (addrRegion (lrnWinA r)) = true := by decide
  unfold State.winQueues
  rw [hglide r, Bool.and_true]

section
variable {s u : State} {r : Fin 4} {v : Word} {c : Nat} {q : State → LrnReq}

theorem State.lrnCmd_busy (hbusy : s.rbit (lrnWinA r + 12) 0 = true) (w : Nat) : s.lrnCmd r w q = s.setFld (lrnWinA r + 12) 1 3 5 := by
  unfold State.lrnCmd
  exact State.winStart_busy hbusy w

variable (hfree : s.rbit (lrnWinA r + 12) 0 = false) (hc : c < 16)
include hfree hc

theorem State.lrnCmd_queued (hq : s.glideQueues = true) (hread : c ≠ 1) :
    s.lrnCmd r (withCmd v c) q = s.winQueue (lrnWinA r) (withCmd v c) := by
  unfold State.lrnCmd
  exact State.winStart_queued hfree ((s.winQueues_lrn r).trans hq) hc hread

/-- A command that runs joins the FIFO where TABLE names the learned table. -/
theorem State.lrnCmd_runs (hq : s.glideQueues = false) (hu : u = s.wr (lrnWinA r) (BitVec.ofNat 32 (natField v.toNat 4 11 * 16))) :
    s.lrnCmd r (withCmd v c) q = if natField v.toNat 4 8 = 0x50
      then (u.setLrn r { u.lrn r with fifo := (u.lrn r).fifo ++ [q u] }).wr (lrnWinA r + 12) 1 else u.winEnd (lrnWinA r) 2 0 := by
  unfold State.lrnCmd
  rw [State.winStart_runs hfree hc (.inr ((s.winQueues_lrn r).trans hq)) hu, natField_withCmd v c hc 8 4 (by omega)]
end

section
variable {s : State} {m : Master} {r : Fin 4} (hw : s.mayWrite m (lrnWinA r)) (v : Word)
include hw

theorem exec_lrnInsert : exec (.lrnInsert m r v) s = .next (s.lrnCmd r (withCmd v 8) (fun s => .insert (s.lrnWinEntry r))) :=
  congrArg Host.Outcome.next (State.asWrite_ok hw)

theorem exec_lrnDelete : exec (.lrnDelete m r v) s = .next (s.lrnCmd r (withCmd v 9) (fun s => .delete (s.lrnWinEntry r))) :=
  congrArg Host.Outcome.next (State.asWrite_ok hw)

theorem exec_lrnSearch : exec (.lrnSearch m r v) s = .next (s.lrnCmd r (withCmd v 10) (fun s => .search (s.lrnWinEntry r))) :=
  congrArg Host.Outcome.next (State.asWrite_ok hw)

theorem exec_flush : exec (.flush m r v) s = .next (s.lrnCmd r (withCmd v 12) (fun s =>
    .flush (s.winWord (lrnWinA r) 0) (natField (s.winWord (lrnWinA r) 1) 0 12) (natField (s.winWord (lrnWinA r) 2) 0 17))) :=
  congrArg Host.Outcome.next (State.asWrite_ok hw)

/-- The four commands of a learn window start alike. -/
theorem exec_lrnAll : ∀ c ∈ [((8 : Nat), Instr.lrnInsert m r v), (9, .lrnDelete m r v), (10, .lrnSearch m r v), (12, .flush m r v)],
    c.1 < 16 ∧ c.1 ≠ 1 ∧ ∃ q, exec c.2 s = .next (s.lrnCmd r (withCmd v c.1) q) := by
  simp only [List.forall_mem_cons, exec_lrnInsert hw, exec_lrnDelete hw, exec_lrnSearch hw, exec_flush hw]
  exact ⟨⟨by decide, by decide, _, rfl⟩, ⟨by decide, by decide, _, rfl⟩, ⟨by decide, by decide, _, rfl⟩,
    ⟨by decide, by decide, _, rfl⟩, List.forall_mem_nil _⟩
end

/-! ## The engine -/

theorem exec_learnEngine_idle {s : State} {r : Fin 4}
    (h : s.rgnRuns (3 + r.val) = false ∨ s.blkHeld (3 + r.val) 9 = true ∨ (s.lrn r).fifo = []) :
    exec (.learnEngine r) s = .next s := by
  show execLearnEngine r s = _
  unfold execLearnEngine
  by_cases hserves : (s.rgnRuns (3 + r.val) && !s.blkHeld (3 + r.val) 9) = true
  · rw [if_pos hserves]
    have hempty : (s.lrn r).fifo = [] := by
      rcases h with h | h | h
      · simp [h] at hserves
      · simp [h] at hserves
      · exact h
    simp only [hempty]
  · rw [if_neg hserves]

section
variable {s t : State} {r : Fin 4} {q : LrnReq} {rest : List LrnReq}

/-- The engine at work: its oldest request, and the state without it. -/
structure LrnServes (s t : State) (r : Fin 4) (q : LrnReq) (rest : List LrnReq) : Prop where
  runs : s.rgnRuns (3 + r.val) = true
  free : s.blkHeld (3 + r.val) 9 = false
  head : (s.lrn r).fifo = q :: rest
  after : t = s.setLrn r { s.lrn r with fifo := rest }

variable (h : LrnServes s t r q rest)
include h

/-- What serving each kind of request does. -/
theorem exec_learnEngine_serves : exec (.learnEngine r) s =
    match q with
    | .learn bd mac dest slice => .next (if s.rbit (lrnA r R.PIPE_LRN_CTRL) 3 then t.lrnDrop r 2 else t.lrnLearn r bd mac dest slice)
    | .move bd mac dest slice => .next (if s.rbit (lrnA r R.PIPE_LRN_CTRL) 3 then t.lrnDrop r 2 else t.lrnLearn r bd mac dest slice)
    | .insert e => .next ((t.lrnFwInsert r e).2.winEnd (lrnWinA r) (t.lrnFwInsert r e).1 16)
    | .delete e => .next ((t.lrnFwDelete r e).2.winEnd (lrnWinA r) (t.lrnFwDelete r e).1 16)
    | .search e => .next ((t.lrnFwSearch r e).2.winEnd (lrnWinA r) (t.lrnFwSearch r e).1 16)
    | .flush what bd dest =>
      if (s.lrn r).flush.isSome then .next s
      else .next (((t.setLrn r { s.lrn r with
        fifo := rest
        flush := some (what, bd, dest) }).winEnd (lrnWinA r) 0 16).setRbit (lrnA r R.PIPE_LRN_STAT) 2 true) := by
  obtain ⟨hruns, hfree, hhead, rfl⟩ := h
  show execLearnEngine r s = _
  unfold execLearnEngine
  rw [if_pos (by rw [hruns, hfree]; rfl)]
  simp only [hhead]
  cases q <;> rfl

section
variable {bd mac dest slice : Nat} (hq : q = .learn bd mac dest slice ∨ q = .move bd mac dest slice)
include hq

/-- A learn and a move are served alike. -/
theorem exec_learnEngine_learn : exec (.learnEngine r) s =
    .next (if s.rbit (lrnA r R.PIPE_LRN_CTRL) 3 then t.lrnDrop r 2 else t.lrnLearn r bd mac dest slice) := by
  rw [exec_learnEngine_serves h]
  rcases hq with rfl | rfl <;> rfl
end
end

section
variable {t : State} {r bd mac dest slice e : Nat}

theorem State.lrnLearn_stands {p : Nat} (hp : t.lrnFind r bd mac = some p) :
    t.lrnLearn r bd mac dest slice = t.lrnMoveAt r p dest slice := by
  unfold State.lrnLearn
  rw [hp]

theorem State.lrnLearn_new {p : Nat} {moves : List (Nat × Nat)} (hnew : t.lrnFind r bd mac = none)
    (hroom : t.lrnRoom r bd mac = some (p, moves)) : t.lrnLearn r bd mac dest slice =
      ((t.lrnPlace r (leOf bd mac dest slice) p moves).lrnEvt r 0).lrnNote r 1 bd mac dest slice := by
  unfold State.lrnLearn
  rw [hnew, hroom]

theorem State.lrnLearn_full (hnew : t.lrnFind r bd mac = none) (hfull : t.lrnRoom r bd mac = none) :
    t.lrnLearn r bd mac dest slice = ((t.lrnDrop r 0).raise (3 + r) 9 0).lrnNote r 4 bd mac dest slice := by
  unfold State.lrnLearn
  rw [hnew, hfull]

theorem State.lrnFwInsert_stands {p : Nat} (hp : t.lrnFind r (leBd e) (leMac e) = some p) : t.lrnFwInsert r e = t.lrnRefuse r 1 := by
  unfold State.lrnFwInsert
  rw [hp]

theorem State.lrnFwInsert_new {p : Nat} {moves : List (Nat × Nat)} (hnew : t.lrnFind r (leBd e) (leMac e) = none)
    (hroom : t.lrnRoom r (leBd e) (leMac e) = some (p, moves)) :
    t.lrnFwInsert r e = (0, (t.lrnPlace r (natSetField e 0 1 1) p moves).setWinIndex (lrnWinA r) p) := by
  unfold State.lrnFwInsert
  rw [hnew, hroom]

theorem State.lrnFwInsert_full (hnew : t.lrnFind r (leBd e) (leMac e) = none) (hfull : t.lrnRoom r (leBd e) (leMac e) = none) :
    t.lrnFwInsert r e = (t.raise (3 + r) 9 0).lrnRefuse r 2 := by
  unfold State.lrnFwInsert
  rw [hnew, hfull]

theorem State.lrnFwDelete_none (hnew : t.lrnFind r (leBd e) (leMac e) = none) : t.lrnFwDelete r e = t.lrnRefuse r 3 := by
  unfold State.lrnFwDelete
  rw [hnew]

theorem State.lrnFwDelete_found {p : Nat} (hp : t.lrnFind r (leBd e) (leMac e) = some p) :
    t.lrnFwDelete r e = (0, (t.lrnPut r p 0).setWinIndex (lrnWinA r) p) := by
  unfold State.lrnFwDelete
  rw [hp]

theorem State.lrnFwSearch_none (hnew : t.lrnFind r (leBd e) (leMac e) = none) : t.lrnFwSearch r e = t.lrnRefuse r 3 := by
  unfold State.lrnFwSearch
  rw [hnew]

theorem State.lrnFwSearch_found {p : Nat} (hp : t.lrnFind r (leBd e) (leMac e) = some p) :
    t.lrnFwSearch r e = (0, (t.setWinData (lrnWinA r) 4 (t.lrnEntry r p)).setWinIndex (lrnWinA r) p) := by
  unfold State.lrnFwSearch
  rw [hp]
end

/-! ## The end of a flush, and the records -/

section
variable {s : State} {r : Fin 4}

theorem exec_flushDone_some {what bd dest : Nat} (hf : (s.lrn r).flush = some (what, bd, dest)) {t : State}
    (ht : t = ((s.tabListed (3 + r.val) 9 0x50).filter (fun p => flushHits what bd dest p.2.toNat)).foldl (fun x p => x.lrnPut r p.1 0) s) :
    exec (.flushDone r) s = .next (((t.setLrn r { t.lrn r with flush := none }).setRbit (lrnA r R.PIPE_LRN_STAT) 2 false).raise
      (3 + r.val) 9 3) := by
  show execFlushDone r s = _
  unfold execFlushDone
  rw [hf]
  subst ht
  rfl

theorem exec_flushDone_none (hf : (s.lrn r).flush = none) : exec (.flushDone r) s = .next s := by
  show execFlushDone r s = _
  unfold execFlushDone
  rw [hf]

theorem exec_notePost_waits (h : (s.lrn r).notes = [] ∨
    ((s.lrn r).notes.length < 4 ∧ s.time.ticks < (s.lrn r).noteTick + 10 * ticksPerUs)) : exec (.notePost r) s = .next s :=
  if_pos (by simpa only [List.isEmpty_iff] using h)

section
variable (hdue : 4 ≤ (s.lrn r).notes.length ∨ ((s.lrn r).notes ≠ [] ∧ (s.lrn r).noteTick + 10 * ticksPerUs ≤ s.time.ticks))
  {p : ChPost × State} (hp : p = State.chDevice (s.setLrn r { s.lrn r with
    notes := (s.lrn r).notes.drop 4
    noteTick := s.time.ticks }) (s.fld (lrnA r R.PIPE_LRN_CTRL) 16 16) 3 (padTo 64 ((s.lrn r).notes.take 4).flatten))
include hdue hp

theorem exec_notePost_due : exec (.notePost r) s = match p.1 with
    | .posted => .next p.2
    | _ => .next ((((s.lrn r).notes.take 4).foldl (fun t _ => t.lrnDrop r 3) p.2).raise (3 + r.val) 9 2) := by
  have hgo : ¬((s.lrn r).notes.isEmpty ∨ ((s.lrn r).notes.length < 4 ∧ s.time.ticks < (s.lrn r).noteTick + 10 * ticksPerUs)) := by
    rw [List.isEmpty_iff]
    rcases hdue with h | ⟨hne, ht⟩
    · have hne : (s.lrn r).notes ≠ [] := by rintro h0; simp [h0] at h
      exact fun h' => h'.elim hne (fun h'' => by omega)
    · exact fun h' => h'.elim hne (fun h'' => by omega)
  subst hp
  exact if_neg hgo

theorem exec_notePost_posted (hok : p.1 = .posted) : exec (.notePost r) s = .next p.2 := by
  rw [exec_notePost_due hdue hp, hok]

theorem exec_notePost_lost (hno : p.1 ≠ .posted) : exec (.notePost r) s =
    .next ((((s.lrn r).notes.take 4).foldl (fun t _ => t.lrnDrop r 3) p.2).raise (3 + r.val) 9 2) := by
  rw [exec_notePost_due hdue hp]
  generalize p.1 = o at hno
  cases o with
  | posted => exact absurd rfl hno
  | _ => rfl
end
end

/-! ## Aging -/

section
variable {s u : State} {t : AgeTable}

theorem exec_agingSweepStart_due (h : s.time.wtValid = true ∧ s.agePeriod t ≠ 0 ∧ tvSec s.wt % s.agePeriod t = 0 ∧
      spGet (fun _ => 0) s.fwd.lastSweep (ageIndex t) ≠ tvSec s.wt + 1 ∧ s.rgnRuns (ageRegion t) = true)
    (hu : u = { s with fwd := { s.fwd with lastSweep := spPut (fun _ => 0) s.fwd.lastSweep (ageIndex t) (tvSec s.wt + 1) } }) :
    exec (.agingSweepStart t) s =
      .next (if s.ageSuspended t then u else u.setSweep t (some ⟨tvSec s.wt * lsbSec, 0⟩)) := by
  have hsusp : u.ageSuspended t = s.ageSuspended t := by
    subst hu
    cases t <;> rfl
  rw [← hsusp]
  subst hu
  exact if_pos h

theorem exec_agingSweepStart_idle (h : ¬(s.time.wtValid = true ∧ s.agePeriod t ≠ 0 ∧ tvSec s.wt % s.agePeriod t = 0 ∧
    spGet (fun _ => 0) s.fwd.lastSweep (ageIndex t) ≠ tvSec s.wt + 1 ∧ s.rgnRuns (ageRegion t) = true)) :
    exec (.agingSweepStart t) s = .next s := if_neg h

theorem exec_agingVisit_none (h : s.sweep t = none) : exec (.agingVisit t) s = .next s := by
  show execAgingVisit t s = _
  unfold execAgingVisit
  rw [h]

variable {w : Sweep} (hw : s.sweep t = some w)
include hw

theorem exec_agingVisit_stops (h : s.ageSuspended t = true ∨ s.ageLocations t ≤ w.next) :
    exec (.agingVisit t) s = .next (s.setSweep t none) := by
  show execAgingVisit t s = _
  unfold execAgingVisit
  simp only [hw]
  by_cases hsusp : s.ageSuspended t = true
  · rw [if_pos hsusp]
  · rw [if_neg hsusp, if_pos (h.resolve_left hsusp)]

variable (hgo : s.ageSuspended t = false) (hin : w.next < s.ageLocations t)
include hgo hin

theorem exec_agingVisit_early (h : s.wt < w.start + w.next * ageSpacing t * lsbNs) : exec (.agingVisit t) s = .next s := by
  show execAgingVisit t s = _
  unfold execAgingVisit
  simp only [hw]
  rw [if_neg (by simp [hgo]), if_neg (Nat.not_le.2 hin), if_neg (Nat.not_le.2 h)]

/-- A due visit, once the sweep has moved on. -/
theorem exec_agingVisit_due (h : w.start + w.next * ageSpacing t * lsbNs ≤ s.wt)
    (hu : u = s.setSweep t (if w.next + 1 < s.ageLocations t then some { w with next := w.next + 1 } else none)) :
    exec (.agingVisit t) s = .next (match (generalizing := false) t with
      | .learned r => u.ageLearned r w.next
      | .em n => u.ageEm n w.next) := by
  subst hu
  show execAgingVisit t s = _
  unfold execAgingVisit
  simp only [hw]
  rw [if_neg (by simp [hgo]), if_neg (Nat.not_le.2 hin), if_pos h]
  cases t <;> rfl
end

section
variable {u : State} {r loc e : Nat} (he : e = u.lrnEntry r loc)
include he

theorem State.ageLearned_leaves (h : leValid e = false ∨ leStatic e = true) : u.ageLearned r loc = u := by
  subst he
  exact if_neg (by rcases h with h | h <;> simp [h])

variable (hvalid : leValid e = true) (hstatic : leStatic e = false)
include hvalid hstatic

theorem State.ageLearned_clears (hhit : leHit e = true) : u.ageLearned r loc = u.lrnPut r loc (natSetField e 2 1 0) := by
  subst he
  exact (if_pos (by rw [hvalid, hstatic]; rfl)).trans (if_pos hhit)

theorem State.ageLearned_deletes (hhit : leHit e = false) : u.ageLearned r loc =
    ((u.lrnPut r loc 0).lrnEvt r 2).lrnNote r 3 (leBd e) (leMac e) (leDest e) (leSlice e) := by
  subst he
  exact (if_pos (by rw [hvalid, hstatic]; rfl)).trans (if_neg (by simp [hhit]))
end

section
variable {u : State} {n loc : Nat}

theorem State.ageEm_free (h : entVmask (u.emEntry n loc) = 0) : u.ageEm n loc = u := if_neg (not_not.2 h)

theorem State.ageEm_clears (h : entVmask (u.emEntry n loc) ≠ 0) (hhit : u.emHit n loc = true) :
    u.ageEm n loc = u.setEmHit n loc false := (if_pos h).trans (if_pos hhit)

theorem State.ageEm_deletes (h : entVmask (u.emEntry n loc) ≠ 0) (hhit : u.emHit n loc = false) :
    u.ageEm n loc = (u.emFree n loc).bump (emA (R.TBL_EM_AGED + 4 * n)) := (if_pos h).trans (if_neg (by simp [hhit]))
end

/-- Settles O34: the window by `State.lrnCmd_runs`, the engine by `exec_learnEngine_serves`, a sweep's visits by `exec_agingVisit_due`. -/
theorem learningActsByTheRules : Obligations.LearningActsByTheRules := by
  intro s
  refine ⟨fun m r v u hm hu => ⟨fun c hc => ?starts, fun hfree hq ht join hjoin => ?joins⟩, fun r h => exec_learnEngine_idle h,
    fun r q rest t fin hruns hfree hhead ht hfin => ?engine, fun r what bd dest t hf ht => exec_flushDone_some hf ht,
    fun r hf => exec_flushDone_none hf, fun r x hx => ?notes, fun t u due hu hdue => ?sweep, fun t h => exec_agingVisit_none h,
    fun t w hw => ⟨exec_agingVisit_stops hw, fun hgo hin => ⟨exec_agingVisit_early hw hgo hin, fun h u hu => ?visit⟩⟩⟩
  case starts =>
    obtain ⟨hlt, hread, q, hexec⟩ := exec_lrnAll hm v c hc
    rw [hexec]
    exact ⟨fun hbusy => by rw [State.lrnCmd_busy hbusy], fun hfree hq => by rw [State.lrnCmd_queued hfree hlt hq hread],
      fun hfree hq ht => by rw [State.lrnCmd_runs hfree hlt hq hu, if_neg ht]⟩
  case joins =>
    have hruns {c : Nat} (hc : c < 16) (q : State → LrnReq) : s.lrnCmd r (withCmd v c) q = join (q u) := by
      rw [State.lrnCmd_runs hfree hc hq hu, if_pos ht, hjoin]
    rw [exec_lrnInsert hm, exec_lrnDelete hm, exec_lrnSearch hm, exec_flush hm]
    exact ⟨congrArg _ (hruns (by decide) _), congrArg _ (hruns (by decide) _), congrArg _ (hruns (by decide) _),
      congrArg _ (hruns (by decide) _)⟩
  case engine =>
    have h : LrnServes s t r q rest := ⟨hruns, hfree, hhead, ht⟩
    refine ⟨fun bd mac dest slice hq => ⟨fun hsusp => ?_, fun hgo => ?_⟩, fun e hq => ?_, fun e hq hnone => ?_, fun e p hq hp => ?_,
      fun e p hq hp => ?_, fun what bd dest hq => ⟨fun hidle => ?_, fun hruns => ?_⟩⟩
    · rw [exec_learnEngine_learn h hq, if_pos hsusp]
    · rw [exec_learnEngine_learn h hq, if_neg (by simp [hgo])]
      exact ⟨fun p hp => by rw [State.lrnLearn_stands hp], fun p moves hnew hroom => by rw [State.lrnLearn_new hnew hroom],
        fun hnew hfull => by rw [State.lrnLearn_full hnew hfull]⟩
    · subst hq
      rw [exec_learnEngine_serves h]
      simp only [hfin]
      exact ⟨fun p hp => by rw [State.lrnFwInsert_stands hp], fun p moves hnew hroom => by rw [State.lrnFwInsert_new hnew hroom],
        fun hnew hfull => by rw [State.lrnFwInsert_full hnew hfull]⟩
    · rw [exec_learnEngine_serves h, hfin]
      rcases hq with rfl | rfl
      · simp only [State.lrnFwDelete_none hnone]
      · simp only [State.lrnFwSearch_none hnone]
    · subst hq
      rw [exec_learnEngine_serves h, hfin]
      simp only [State.lrnFwDelete_found hp]
    · subst hq
      rw [exec_learnEngine_serves h, hfin]
      simp only [State.lrnFwSearch_found hp]
    · subst hq
      rw [exec_learnEngine_serves h, hfin]
      exact if_neg (by simp [hidle])
    · subst hq
      rw [exec_learnEngine_serves h]
      exact if_pos (Option.isSome_iff_ne_none.2 hruns)
  case notes =>
    subst hx
    exact ⟨exec_notePost_waits, fun hdue p hp => ⟨exec_notePost_posted hdue hp, exec_notePost_lost hdue hp⟩⟩
  case sweep =>
    exact ⟨fun h => exec_agingSweepStart_due (hdue.1 h) hu, fun h => exec_agingSweepStart_idle (mt hdue.2 h)⟩
  case visit =>
    rw [exec_agingVisit_due hw hgo hin h hu]
    refine ⟨fun r e ht he => ?_, fun n ht => ?_⟩
    · subst ht
      exact ⟨fun hleaves => congrArg _ (State.ageLearned_leaves he hleaves),
        fun hvalid hstatic hhit => congrArg _ (State.ageLearned_clears he hvalid hstatic hhit),
        fun hvalid hstatic hhit => congrArg _ (State.ageLearned_deletes he hvalid hstatic hhit)⟩
    · subst ht
      exact ⟨fun hfree => congrArg _ (State.ageEm_free hfree), fun hused hhit => congrArg _ (State.ageEm_clears hused hhit),
        fun hused hhit => congrArg _ (State.ageEm_deletes hused hhit)⟩

end Sys2Proof.Machine
end

section
/-! PROOF. The commands of an associative array's window (R212 to R221): how the window starts one, when it waits for a slot, and what
each does to the entry at INDEX. -/

namespace Sys2Proof.Machine

/-! ## The window of an array -/

theorem State.winQueues_arr (s : State) (a : ArrayWin) : s.winQueues (arrWin a) = s.glideQueues := by
  have hglide : ∀ (r : Fin 4) (e : Bool) (w : Fin 2), glideRegion (addrRegion (arrWin ⟨⟨r, e⟩, w⟩)) = true := by decide
  unfold State.winQueues
  rw [hglide a.array.region a.array.egress a.w, Bool.and_true]

section
variable {s u : State} {a : ArrayWin} {v : Word} {c t : Nat} {run : State → ArrayRef → Nat → Nat × State}

theorem State.ascCmd_busy (hbusy : s.rbit (arrWin a + 12) 0 = true) (w : Nat) : s.ascCmd a w run = s.setFld (arrWin a + 12) 1 3 5 := by
  unfold State.ascCmd
  exact State.winStart_busy hbusy w

variable (hfree : s.rbit (arrWin a + 12) 0 = false) (hc : c < 16)
include hfree hc

theorem State.ascCmd_queued (hq : s.glideQueues = true) (hread : c ≠ 1) :
    s.ascCmd a (withCmd v c) run = s.winQueue (arrWin a) (withCmd v c) := by
  unfold State.ascCmd
  exact State.winStart_queued hfree ((s.winQueues_arr a).trans hq) hc hread

variable (hq : c = 1 ∨ s.glideQueues = false) (hu : u = s.wr (arrWin a) (BitVec.ofNat 32 (natField v.toNat 4 11 * 16)))
  (ht : t = natField v.toNat 4 8)
include hq hu ht

/-- A command that the window starts, by the table it names, the index, and the slots. -/
theorem State.ascCmd_runs : s.ascCmd a (withCmd v c) run =
    if t ≠ 0x62 then
      if 0x60 ≤ t ∧ t ≤ 0x61 then u.winEnd (arrWin a) 3 (if t = 0x60 then 32 else 8) else u.winEnd (arrWin a) 2 8
    else if 32768 ≤ u.winIndex (arrWin a) then u.winEnd (arrWin a) 1 12
    else if c ≠ 1 ∧ u.ascSpare a.array = false then u.ascPend a.array (arrWin a) c
    else
      (run (if c = 1 then u else u.ascDrain a.array) a.array (arrWin a)).2.winEnd (arrWin a)
        (run (if c = 1 then u else u.ascDrain a.array) a.array (arrWin a)).1 12 := by
  have hqueues : c = 1 ∨ s.winQueues (arrWin a) = false := hq.imp_right (s.winQueues_arr a).trans
  unfold State.ascCmd
  dsimp only
  rw [State.winStart_runs hfree hc hqueues hu]
  simp only [natField_withCmd v c hc 8 4 (by omega), withCmd_mod v c hc, ← ht]

theorem State.ascCmd_profiles (h : t = 0x60) : s.ascCmd a (withCmd v c) run = u.winEnd (arrWin a) 3 32 := by
  rw [State.ascCmd_runs hfree hc hq hu ht, if_pos (by omega), if_pos (by omega), if_pos h]

theorem State.ascCmd_partitions (h : t = 0x61) : s.ascCmd a (withCmd v c) run = u.winEnd (arrWin a) 3 8 := by
  rw [State.ascCmd_runs hfree hc hq hu ht, if_pos (by omega), if_pos (by omega), if_neg (by omega)]

theorem State.ascCmd_noTable (h : t < 0x60 ∨ 0x62 < t) : s.ascCmd a (withCmd v c) run = u.winEnd (arrWin a) 2 8 := by
  rw [State.ascCmd_runs hfree hc hq hu ht, if_pos (by omega), if_neg (by omega)]

theorem State.ascCmd_beyond (h : t = 0x62) (hin : 32768 ≤ u.winIndex (arrWin a)) :
    s.ascCmd a (withCmd v c) run = u.winEnd (arrWin a) 1 12 := by
  rw [State.ascCmd_runs hfree hc hq hu ht, if_neg (not_not.2 h), if_pos hin]

variable (ht62 : t = 0x62) (hin : u.winIndex (arrWin a) < 32768)
include ht62 hin

theorem State.ascCmd_waits (hcmd : c ≠ 1) (hslot : u.ascSpare a.array = false) :
    s.ascCmd a (withCmd v c) run = u.ascPend a.array (arrWin a) c := by
  rw [State.ascCmd_runs hfree hc hq hu ht, if_neg (not_not.2 ht62), if_neg (Nat.not_le.2 hin), if_pos ⟨hcmd, hslot⟩]

/-- READ takes no slot; any other command runs in a spare one, after what waits. -/
theorem State.ascCmd_acts (hslot : c = 1 ∨ u.ascSpare a.array = true) {d : State} (hd : d = if c = 1 then u else u.ascDrain a.array) :
    s.ascCmd a (withCmd v c) run =
      (run d a.array (arrWin a)).2.winEnd (arrWin a) (run d a.array (arrWin a)).1 12 := by
  rw [State.ascCmd_runs hfree hc hq hu ht, if_neg (not_not.2 ht62), if_neg (Nat.not_le.2 hin), if_neg, hd]
  rintro ⟨hcmd, hnone⟩
  exact absurd (hslot.resolve_left hcmd) (by simp [hnone])
end

section
variable {s : State} {m : Master} {a : ArrayWin} (hw : s.mayWrite m (arrWin a)) (v : Word)
include hw

theorem exec_ascRead : exec (.ascRead m a v) s = .next (s.ascCmd a (withCmd v 1) State.ascRead) :=
  congrArg Host.Outcome.next (State.asWrite_ok hw)

theorem exec_ascWrite : exec (.ascWrite m a v) s = .next (s.ascCmd a (withCmd v 2) State.ascWrite) :=
  congrArg Host.Outcome.next (State.asWrite_ok hw)

theorem exec_ascClear : exec (.ascClear m a v) s = .next (s.ascCmd a (withCmd v 3) State.ascClear) :=
  congrArg Host.Outcome.next (State.asWrite_ok hw)

theorem exec_setv : exec (.setv m a v) s = .next (s.ascCmd a (withCmd v 9) State.ascSetv) :=
  congrArg Host.Outcome.next (State.asWrite_ok hw)

theorem exec_ascDelete : exec (.ascDelete m a v) s = .next (s.ascCmd a (withCmd v 10) State.ascDelete) :=
  congrArg Host.Outcome.next (State.asWrite_ok hw)

theorem exec_ascUpdate : exec (.ascUpdate m a v) s = .next (s.ascCmd a (withCmd v 11) State.ascUpdate) :=
  congrArg Host.Outcome.next (State.asWrite_ok hw)

theorem exec_ascSearch : exec (.ascSearch m a v) s = .next (s.ascCmd a (withCmd v 13) State.ascSearchCmd) :=
  congrArg Host.Outcome.next (State.asWrite_ok hw)

/-- The commands that take a slot start alike. -/
theorem exec_ascAll : ∀ c ∈ [((2 : Nat), Instr.ascWrite m a v), (3, .ascClear m a v), (9, .setv m a v), (10, .ascDelete m a v),
      (11, .ascUpdate m a v), (13, .ascSearch m a v)],
    c.1 < 16 ∧ c.1 ≠ 1 ∧ ∃ run, exec c.2 s = .next (s.ascCmd a (withCmd v c.1) run) := by
  simp only [List.forall_mem_cons, exec_ascWrite hw, exec_ascClear hw, exec_setv hw, exec_ascDelete hw, exec_ascUpdate hw,
    exec_ascSearch hw]
  exact ⟨⟨by decide, by decide, _, rfl⟩, ⟨by decide, by decide, _, rfl⟩, ⟨by decide, by decide, _, rfl⟩,
    ⟨by decide, by decide, _, rfl⟩, ⟨by decide, by decide, _, rfl⟩, ⟨by decide, by decide, _, rfl⟩, List.forall_mem_nil _⟩
end

/-! ## What each command does -/

section
variable {d : State} {a : ArrayRef} {win i x : Nat} {e n : AscEnt} (hi : i = d.winIndex win)
include hi

/-- In the range of a running move the five commands that change an entry are refused. -/
theorem State.asc_inMove (hmove : d.ascInMove a i = true) :
    d.ascWrite a win = d.ascRefuse a 8 ∧ d.ascClear a win = d.ascRefuse a 8 ∧ d.ascSetv a win = d.ascRefuse a 8 ∧
      d.ascDelete a win = d.ascRefuse a 8 ∧ d.ascUpdate a win = d.ascRefuse a 8 := by
  subst hi
  exact ⟨if_pos hmove, if_pos hmove, if_pos hmove, if_pos hmove, if_pos hmove⟩

variable (hstill : d.ascInMove a i = false) (he : e = d.ascEnt a i)
include hstill he

theorem State.ascWrite_still (hn : n = d.ascNew a win) : d.ascWrite a win =
    if d.verLocked &&& awVmask n.words ≠ 0 then d.verProtect win
    else if awVmask e.words ≠ 0 then d.ascRefuse a 1
    else match d.ascNewBad a i n.words with
      | some r => d.ascRefuse a r
      | none => (0, if awVmask n.words = 0 then d else d.ascPut a i n) := by
  subst hn he hi
  exact if_neg (by simp [hstill])

theorem State.ascClear_still : d.ascClear a win =
    if d.verLocked &&& awVmask e.words ≠ 0 then d.verProtect win else (0, (d.ascPut a i freeEnt).shadowBad a) := by
  subst he hi
  exact if_neg (by simp [hstill])

theorem State.ascUpdate_still {w : Nat} (hw : w = natSetField (awClean (d.winDataN win 3)) 0 32 (natField e.words 0 32)) :
    d.ascUpdate a win =
      if d.verLocked &&& awVmask e.words ≠ 0 then d.verProtect win
      else if awVmask e.words = 0 then d.ascRefuse a 2
      else if !ascKindOk a.egress w then d.ascRefuse a 7
      else (0, d.ascSetWords a i w) := by
  subst hw he hi
  exact if_neg (by simp [hstill])

variable (hx : x = d.winVmask win)
include hx

theorem State.ascSetv_still : d.ascSetv a win =
    if d.verLocked &&& (x ||| awVmask e.words) ≠ 0 then d.verProtect win
    else if awVmask e.words = 0 then d.ascRefuse a 2
    else (0, d.ascVmask a i (awVmask e.words ||| x)) := by
  subst hx he hi
  exact if_neg (by simp [hstill])

theorem State.ascDelete_still : d.ascDelete a win =
    if d.verLocked &&& x ≠ 0 then d.verProtect win
    else if awVmask e.words = 0 then d.ascRefuse a 2
    else (0, if awVmask e.words &&& (3 - x) = 0 then (d.ascPut a i freeEnt).shadowBad a
      else d.ascVmask a i (awVmask e.words &&& (3 - x))) := by
  subst hx he hi
  exact if_neg (by simp [hstill])
end

section
variable {d : State} {a : ArrayRef} {win p x : Nat} (hp : p = d.part a (natField (d.winWord win 0) 0 4)) (hx : x = d.winVmask win)
include hp hx

theorem State.ascSearchCmd_refused (h : partEn p = false ∨ (x ≠ 1 ∧ x ≠ 2)) : d.ascSearchCmd a win = d.ascRefuse a 2 := by
  subst hp hx
  refine if_pos ?_
  rcases h with h | ⟨h1, h2⟩
  · simp [h]
  · simp [h1, h2]

theorem State.ascSearchCmd_searches (hen : partEn p = true) (hver : x = 1 ∨ x = 2) {r : AscResult × State}
    (hr : r = d.ascSearch a p (d.staged a R.PIPE_ASC_KEY (widthBytes (partWidth p))) (x == 2)) :
    d.ascSearchCmd a win = match (generalizing := false) r.1 with
      | .hit i => (0, r.2.setWinIndex win i)
      | _ => r.2.ascRefuse a 2 := by
  subst hr hp hx
  refine (if_neg ?_).trans rfl
  rcases hver with h | h <;> simp [hen, h]
end

/-- Settles O36: `State.ascCmd_runs` carries each command to the array's own function, whose cases are the lemmas above. -/
theorem associativeCommandsAct : Obligations.AssociativeCommandsAct := by
  intro s u d m a v win t i x e n fin refuse all hwin hm hu ht hall hd hi hx he hn hfin hrefuse
  subst hwin hall
  refine ⟨fun hbusy c hc => ?busy, fun hfree hq c hc => ?queued, fun hfree => ?read, fun hfree hq => ?runs⟩
  case busy =>
    rcases List.mem_cons.1 hc with rfl | hc
    · rw [exec_ascRead hm, State.ascCmd_busy hbusy]
    · obtain ⟨-, -, run, hexec⟩ := exec_ascAll hm v c hc
      rw [hexec, State.ascCmd_busy hbusy]
  case queued =>
    obtain ⟨hlt, hcmd, run, hexec⟩ := exec_ascAll hm v c hc
    rw [hexec, State.ascCmd_queued hfree hlt hq hcmd]
  case read =>
    rw [exec_ascRead hm]
    exact ⟨fun h => congrArg _ (State.ascCmd_profiles hfree (by decide) (.inl rfl) hu ht h),
      fun h => congrArg _ (State.ascCmd_partitions hfree (by decide) (.inl rfl) hu ht h),
      fun h => congrArg _ (State.ascCmd_noTable hfree (by decide) (.inl rfl) hu ht h),
      fun h hin => congrArg _ ((State.ascCmd_beyond hfree (by decide) (.inl rfl) hu ht h hin).trans (hfin (1, u)).symm),
      fun h hin => congrArg _ ((State.ascCmd_acts hfree (by decide) (.inl rfl) hu ht h hin (.inl rfl) rfl).trans (hfin _).symm)⟩
  case runs =>
    refine ⟨fun h c hc => ?_, fun h c hc => ?_, fun h c hc => ?_, fun h hin c hc => ?_, fun h hin hslot c hc => ?_, fun h hin hslot => ?_⟩
    · obtain ⟨hlt, -, run, hexec⟩ := exec_ascAll hm v c hc
      rw [hexec, State.ascCmd_profiles hfree hlt (.inr hq) hu ht h]
    · obtain ⟨hlt, -, run, hexec⟩ := exec_ascAll hm v c hc
      rw [hexec, State.ascCmd_partitions hfree hlt (.inr hq) hu ht h]
    · obtain ⟨hlt, -, run, hexec⟩ := exec_ascAll hm v c hc
      rw [hexec, State.ascCmd_noTable hfree hlt (.inr hq) hu ht h]
    · obtain ⟨hlt, -, run, hexec⟩ := exec_ascAll hm v c hc
      rw [hexec, State.ascCmd_beyond hfree hlt (.inr hq) hu ht h hin, hfin]
    · obtain ⟨hlt, hcmd, run, hexec⟩ := exec_ascAll hm v c hc
      rw [hexec, State.ascCmd_waits hfree hlt (.inr hq) hu ht h hin hcmd hslot]
    · have hacts {c : Nat} {run : State → ArrayRef → Nat → Nat × State} (hlt : c < 16) (hcmd : c ≠ 1) {r : Nat × State}
          (hr : run d a.array (arrWin a) = r) :
          Host.Outcome.next (s.ascCmd a (withCmd v c) run) = (.next (fin r) : Host.Outcome State Fault Refusal) := by
        rw [hfin, ← hr]
        exact congrArg _ (State.ascCmd_acts hfree hlt (.inr hq) hu ht h hin (.inr hslot) (hd.trans (if_neg hcmd).symm))
      simp only [exec_ascWrite hm, exec_ascClear hm, exec_setv hm, exec_ascDelete hm, exec_ascUpdate hm, exec_ascSearch hm, hrefuse]
      refine ⟨fun hmove => ?_, fun hstill => ?_, fun p hp => ⟨fun hno => hacts (by decide) (by decide)
        (State.ascSearchCmd_refused hp hx hno), fun hen hver r hr => ?_⟩⟩
      · obtain ⟨hwrite, hclear, hsetv, hdelete, hupdate⟩ := State.asc_inMove hi hmove
        exact ⟨hacts (by decide) (by decide) hwrite, hacts (by decide) (by decide) hclear, hacts (by decide) (by decide) hsetv,
          hacts (by decide) (by decide) hdelete, hacts (by decide) (by decide) hupdate⟩
      · have hwrite := State.ascWrite_still hi hstill he hn
        have hclear := State.ascClear_still hi hstill he
        have hupdate {w : Nat} := State.ascUpdate_still (w := w) hi hstill he
        have hsetv := State.ascSetv_still hi hstill he hx
        have hdelete := State.ascDelete_still hi hstill he hx
        refine ⟨fun hlock => ?_, fun hopen => ⟨fun hused => ?_, fun hempty => ⟨fun r hr => ?_, fun hr => ?_⟩⟩, fun hlock => ⟨?_, ?_⟩,
          fun hopen => ⟨?_, fun hempty => ?_, fun w hw hused => ⟨fun hkind => ?_, fun hkind => ?_⟩⟩, fun hlock => ?_,
          fun hopen => ⟨fun hempty => ?_, fun hused => ?_⟩, fun hlock => ?_, fun hopen => ⟨fun hempty => ?_, fun hused hnone => ?_,
          fun hleft => ?_⟩⟩
        · exact hacts (by decide) (by decide) (hwrite.trans (if_pos hlock))
        · exact hacts (by decide) (by decide) (hwrite.trans ((if_neg (not_not.2 hopen)).trans (if_pos hused)))
        · rw [if_neg (not_not.2 hopen), if_neg (not_not.2 hempty), hr] at hwrite
          exact hacts (by decide) (by decide) hwrite
        · rw [if_neg (not_not.2 hopen), if_neg (not_not.2 hempty), hr] at hwrite
          exact hacts (by decide) (by decide) hwrite
        · exact hacts (by decide) (by decide) (hclear.trans (if_pos hlock))
        · exact hacts (by decide) (by decide) ((hupdate rfl).trans (if_pos hlock))
        · exact hacts (by decide) (by decide) (hclear.trans (if_neg (not_not.2 hopen)))
        · exact hacts (by decide) (by decide) ((hupdate rfl).trans ((if_neg (not_not.2 hopen)).trans (if_pos hempty)))
        · exact hacts (by decide) (by decide) ((hupdate hw).trans
            ((if_neg (not_not.2 hopen)).trans ((if_neg hused).trans (if_neg (by simp [hkind])))))
        · exact hacts (by decide) (by decide) ((hupdate hw).trans
            ((if_neg (not_not.2 hopen)).trans ((if_neg hused).trans (if_pos (by rw [hkind]; rfl)))))
        · exact hacts (by decide) (by decide) (hsetv.trans (if_pos hlock))
        · exact hacts (by decide) (by decide) (hsetv.trans ((if_neg (not_not.2 hopen)).trans (if_pos hempty)))
        · exact hacts (by decide) (by decide) (hsetv.trans ((if_neg (not_not.2 hopen)).trans (if_neg hused)))
        · exact hacts (by decide) (by decide) (hdelete.trans (if_pos hlock))
        · exact hacts (by decide) (by decide) (hdelete.trans ((if_neg (not_not.2 hopen)).trans (if_pos hempty)))
        · rw [if_neg (not_not.2 hopen), if_neg hused, if_pos hnone] at hdelete
          exact hacts (by decide) (by decide) hdelete
        · have hused : awVmask e.words ≠ 0 := by
            intro h0
            exact hleft (by rw [h0, Nat.zero_and])
          rw [if_neg (not_not.2 hopen), if_neg hused, if_neg hleft] at hdelete
          exact hacts (by decide) (by decide) hdelete
      · have hsearch := State.ascSearchCmd_searches hp hx hen hver hr
        refine ⟨fun w hw => hacts (by decide) (by decide) (hsearch.trans (by rw [hw])), fun hno =>
          hacts (by decide) (by decide) (hsearch.trans ?_)⟩
        rcases hno with h | h <;> rw [h]

end Sys2Proof.Machine
end

section
/-! PROOF. The block mover and the scrubber of an array (R216 to R223): how INSERT_AT and MOVE start a run, what a slot of the mover does,
and who takes a slot. -/

namespace Sys2Proof.Machine

/-! ## INSERT_AT and MOVE -/

section
variable {s : State} {m : Master} {a : ArrayWin} (hw : s.mayWrite m (arrWin a)) (v : Word)
include hw

theorem exec_insertAt : exec (.insertAt m a v) s = .next (s.ascInsertAt a.array (arrWin a) (withCmd v 8)) :=
  congrArg Host.Outcome.next (State.asWrite_ok hw)

theorem exec_ascMove : exec (.ascMove m a v) s = .next (s.ascMoveCmd a.array (arrWin a) (withCmd v 12)) :=
  congrArg Host.Outcome.next (State.asWrite_ok hw)

section
variable (hbusy : s.rbit (arrWin a + 12) 0 = true)
include hbusy

theorem exec_insertAt_busy : exec (.insertAt m a v) s = .next (s.setFld (arrWin a + 12) 1 3 5) := by
  rw [exec_insertAt hw]
  exact congrArg _ (State.winStart_busy hbusy _)

theorem exec_ascMove_busy : exec (.ascMove m a v) s = .next (s.setFld (arrWin a + 12) 1 3 5) := by
  rw [exec_ascMove hw]
  exact congrArg _ (State.winStart_busy hbusy _)
end

variable (hfree : s.rbit (arrWin a + 12) 0 = false)
include hfree

section
variable (hq : s.glideQueues = true)
include hq

theorem exec_insertAt_queued : exec (.insertAt m a v) s = .next (s.winQueue (arrWin a) (withCmd v 8)) := by
  rw [exec_insertAt hw]
  exact congrArg _ (State.winStart_queued hfree ((s.winQueues_arr a).trans hq) (by decide) (by decide))

theorem exec_ascMove_queued : exec (.ascMove m a v) s = .next (s.winQueue (arrWin a) (withCmd v 12)) := by
  rw [exec_ascMove hw]
  exact congrArg _ (State.winStart_queued hfree ((s.winQueues_arr a).trans hq) (by decide) (by decide))
end

variable {u : State} {t i : Nat} (hq : s.glideQueues = false)
  (hu : u = s.wr (arrWin a) (BitVec.ofNat 32 (natField v.toNat 4 11 * 16))) (ht : t = natField v.toNat 4 8)
  (hi : i = u.winIndex (arrWin a))
include hq hu ht hi

/-- INSERT_AT as its list of tests; `fin` ends the command. -/
theorem exec_insertAt_runs {e : AscEnt} (he : e = u.ascNew a.array (arrWin a)) {fin : Nat × State → State}
    (hfin : fin = fun p => p.2.winEnd (arrWin a) p.1 12) : exec (.insertAt m a v) s = .next (
      if t ≠ 0x62 then u.winEnd (arrWin a) (if 0x60 ≤ t ∧ t ≤ 0x61 then 3 else 2) 0
      else if 32768 ≤ i then u.winEnd (arrWin a) 1 12
      else if (u.arr a.array).move.isSome then fin (u.ascRefuse a.array 8)
      else if u.verLocked &&& awVmask e.words ≠ 0 then fin (u.verProtect (arrWin a))
      else match u.ascNewBad a.array i e.words, u.partOf a.array i with
        | some r, _ => fin (u.ascRefuse a.array r)
        | none, none => fin (u.ascRefuse a.array 3)
        | none, some p =>
          match u.ascFree a.array p i with
          | none => fin (u.ascRefuse a.array 6)
          | some (f, false) =>
            if f = i ∧ u.ascSpare a.array = true then fin (0, (u.ascPut a.array i e).ascMoved a.array)
            else u.ascStart a.array ⟨arrWin a, i, f - widthRows (partWidth p), widthRows (partWidth p), false,
              f - widthRows (partWidth p), (f - i) / widthRows (partWidth p), [], some (e, i)⟩
          | some (f, true) =>
            if f + widthRows (partWidth p) = i ∧ u.ascSpare a.array = true then
              fin (0, ((u.ascPut a.array f e).setWinIndex (arrWin a) f).ascMoved a.array)
            else u.ascStart a.array ⟨arrWin a, f + widthRows (partWidth p), i - widthRows (partWidth p), widthRows (partWidth p), true,
              f + widthRows (partWidth p), (i - f) / widthRows (partWidth p) - 1, [], some (e, i - widthRows (partWidth p))⟩) := by
  rw [exec_insertAt hw]
  refine congrArg _ ?_
  unfold State.ascInsertAt
  rw [State.winStart_runs hfree (by decide) (.inr ((s.winQueues_arr a).trans hq)) hu]
  simp only [natField_withCmd v 8 (by decide) 8 4 (by omega), ← ht]
  subst hfin he hi
  rfl

/-- MOVE as its list of tests; the run starts where the block fits and the place beyond it is free. -/
theorem exec_ascMove_runs {fin : Nat × State → State} (hfin : fin = fun p => p.2.winEnd (arrWin a) p.1 12) {last : Nat} {down : Bool}
    (hlast : last = natField (u.winWord (arrWin a) 0) 0 15) (hdown : down = natBit (u.winWord (arrWin a) 0) 31) :
    exec (.ascMove m a v) s = .next (
      if t ≠ 0x62 then u.winEnd (arrWin a) (if 0x60 ≤ t ∧ t ≤ 0x61 then 3 else 2) 0
      else if 32768 ≤ i then u.winEnd (arrWin a) 1 12
      else if (u.arr a.array).move.isSome then fin (u.ascRefuse a.array 8)
      else match u.partOf a.array i with
        | none => fin (u.ascRefuse a.array 5)
        | some p =>
          if i ≤ last ∧ (last - i) % widthRows (partWidth p) = 0 ∧ i % widthRows (partWidth p) = 0 ∧
              (if down = true then partFirst p + widthRows (partWidth p) ≤ i ∧ last < partEnd p
                else last + widthRows (partWidth p) < partEnd p) ∧
              awVmask (u.ascWords a.array (if down = true then i - widthRows (partWidth p) else last + widthRows (partWidth p))) = 0 then
            u.ascStart a.array ⟨arrWin a, i, last, widthRows (partWidth p), down, if down = true then i else last,
              (last - i) / widthRows (partWidth p) + 1, [], none⟩
          else fin (u.ascRefuse a.array 5)) := by
  rw [exec_ascMove hw]
  refine congrArg _ ?_
  unfold State.ascMoveCmd
  rw [State.winStart_runs hfree (by decide) (.inr ((s.winQueues_arr a).trans hq)) hu]
  simp only [natField_withCmd v 12 (by decide) 8 4 (by omega), ← ht]
  subst hfin hi hlast hdown
  refine if_congr Iff.rfl rfl (if_congr Iff.rfl rfl (if_congr Iff.rfl rfl ?_))
  cases u.partOf a.array (u.winIndex (arrWin a)) with
  | none => rfl
  | some p =>
    dsimp only
    rw [← ite_not]
    refine if_congr ?_ rfl rfl
    cases natBit (u.winWord (arrWin a) 0) 31 <;> simp [and_assoc]
end

/-! ## A slot of the mover -/

section
variable {s : State} {a : ArrayRef}

theorem State.moverSlot_copies {y : AscMove} {k dst : Nat} {e : AscEnt} {t w : State} (hleft : y.left = k + 1)
    (hdst : dst = if y.down then y.next - y.stride else y.next + y.stride) (he : e = s.ascEnt a y.next)
    (ht : t = s.ascCopy a y.next dst (if awVmask e.words = 0 then e.words else natSetField e.words 2 1 1))
    (hw : w = t.setArr a { t.arr a with
      move := some { y with
        left := k
        copied := dst :: y.copied
        next := if y.down then y.next + y.stride else y.next - y.stride }
      waitTick := t.time.ticks }) :
    s.moverSlot a y = if k ≠ 0 then w else
      if y.new.isSome then w.clearMoving a (dst :: y.copied)
      else ((w.clearMoving a (dst :: y.copied)).ascPut a (if y.down then y.last else y.first) freeEnt).ascMoveEnd a y none := by
  unfold State.moverSlot
  rw [hleft]
  subst hw ht he hdst
  rw [ite_not]
  refine if_congr Iff.rfl ?_ rfl
  cases y.new <;> rfl

theorem State.moverSlot_writes {y : AscMove} {e : AscEnt} {i : Nat} (hleft : y.left = 0) (hnew : y.new = some (e, i)) :
    s.moverSlot a y = (s.ascPut a i e).ascMoveEnd a y (some i) := by
  unfold State.moverSlot
  rw [hleft, hnew]

/-! ## Who takes a slot -/

theorem exec_moverCopy_runs {y : AscMove} (hmove : (s.arr a).move = some y) (hworks : s.arrWorks a = true)
    (hslot : s.ascSpare a = true) (hno : (s.arr a).rewrite = []) : exec (.moverCopy a) s = .next (s.moverSlot a y) := by
  show execMoverCopy a s = _
  unfold execMoverCopy
  rw [hworks, hslot, hmove, hno] <;> rfl

theorem exec_moverCopy_idle (h : (s.arr a).move = none ∨ s.arrWorks a = false ∨ s.ascSpare a = false ∨ (s.arr a).rewrite ≠ []) :
    exec (.moverCopy a) s = .next s := by
  show execMoverCopy a s = _
  unfold execMoverCopy
  split
  next y hand hmove hno =>
    obtain ⟨hworks, hslot⟩ := Bool.and_eq_true_iff.1 hand
    simp [hmove, hworks, hslot, hno] at h
  next => rfl

theorem exec_scrubRewrite_runs (hworks : s.arrWorks a = true) (hslot : s.ascSpare a = true) :
    exec (.scrubRewrite a) s = .next (s.rewriteNext a) := if_pos (by rw [hworks, hslot]; rfl)

theorem State.rewriteNext_nil (h : (s.arr a).rewrite = []) : s.rewriteNext a = s := by
  unfold State.rewriteNext
  rw [h]

theorem State.rewriteNext_cons {line : Nat} {rest : List Nat} (h : (s.arr a).rewrite = line :: rest) :
    s.rewriteNext a = (s.setArr a { s.arr a with
      rewrite := rest
      waitTick := s.time.ticks }).rewriteLine a line true := by
  unfold State.rewriteNext
  rw [h]

theorem exec_scrubRewrite_idle (h : (s.arr a).rewrite = [] ∨ s.arrWorks a = false ∨ s.ascSpare a = false) :
    exec (.scrubRewrite a) s = .next s := by
  by_cases hgo : (s.arrWorks a && s.ascSpare a) = true
  · obtain ⟨hworks, hslot⟩ := Bool.and_eq_true_iff.1 hgo
    rw [exec_scrubRewrite_runs hworks hslot, State.rewriteNext_nil (h.resolve_right (by simp [hworks, hslot]))]
  · exact if_neg hgo

theorem exec_slotSteal_idle (h : s.arrWorks a = false ∨ s.time.ticks < (s.arr a).waitTick + 64 ∨
    ((s.arr a).rewrite = [] ∧ (s.arr a).cmds = [] ∧ (s.arr a).move = none)) : exec (.slotSteal a) s = .next s := by
  refine if_neg ?_
  rcases h with h | h | ⟨hrewrite, hcmds, hmove⟩
  · simp [h]
  · simp [Nat.not_le.2 h]
  · simp [AscSt.waits, hrewrite, hcmds, hmove]

section
variable {t : State} (hworks : s.arrWorks a = true) (hlate : (s.arr a).waitTick + 64 ≤ s.time.ticks)
  (ht : t = (s.setArr a { s.arr a with stealPort := ((s.arr a).stealPort + 1) % 4 }).bump (arrA a R.PIPE_ASC_STOLEN))
include hworks hlate ht

/-- After 64 clocks something that waits takes the next port's slot. -/
theorem exec_slotSteal_steals (hwaits : (s.arr a).waits = true) : exec (.slotSteal a) s =
    match (s.arr a).rewrite, (s.arr a).cmds, (s.arr a).move with
    | _ :: _, _, _ => .next (t.rewriteNext a)
    | [], _ :: _, _ => .next (t.ascNext a)
    | [], [], some m => .next (t.moverSlot a m)
    | [], [], none => .next t := by
  subst ht
  exact if_pos (by simp [hworks, hwaits, hlate])

theorem exec_slotSteal_rewrite (h : (s.arr a).rewrite ≠ []) : exec (.slotSteal a) s = .next (t.rewriteNext a) := by
  rw [exec_slotSteal_steals hworks hlate ht (by simp [AscSt.waits, h])]
  obtain ⟨line, rest, hr⟩ := List.exists_cons_of_ne_nil h
  rw [hr]

theorem exec_slotSteal_command (hno : (s.arr a).rewrite = []) (h : (s.arr a).cmds ≠ []) :
    exec (.slotSteal a) s = .next (t.ascNext a) := by
  rw [exec_slotSteal_steals hworks hlate ht (by simp [AscSt.waits, h])]
  obtain ⟨q, rest, hr⟩ := List.exists_cons_of_ne_nil h
  rw [hno, hr]

theorem exec_slotSteal_mover {y : AscMove} (hno : (s.arr a).rewrite = []) (hnone : (s.arr a).cmds = []) (h : (s.arr a).move = some y) :
    exec (.slotSteal a) s = .next (t.moverSlot a y) := by
  rw [exec_slotSteal_steals hworks hlate ht (by simp [AscSt.waits, h]), hno, hnone, h]
end

/-! ## The scrubber -/

/-- The scrubber may take a slot for a line. -/
def State.scrubReady (s : State) (a : ArrayRef) : Prop :=
  s.rbit (arrA a R.PIPE_ASC_CTRL) 0 = true ∧ (s.arr a).rewrite = [] ∧ s.arrWorks a = true ∧ s.ascSpare a = true

section
variable {next : Option Nat} (hnext : next = (s.scrubNext a (s.arr a).scrub).or (s.scrubNext a 0))
include hnext

theorem exec_scrubLine_idle (h : ¬ s.scrubReady a ∨ next = none) : exec (.scrubLine a) s = .next s := by
  by_cases hready : s.scrubReady a
  · have hnone := hnext.symm.trans (h.resolve_left (not_not.2 hready))
    obtain ⟨hon, hno, hworks, hslot⟩ := hready
    refine (if_pos (by simp [hon, hno, hworks, hslot])).trans ?_
    rw [Option.or_eq_none_iff] at hnone
    simp only [hnone]
  · refine if_neg fun hgo => hready ?_
    simpa [State.scrubReady, and_assoc] using hgo

/-- One line: its parity, its difference from the shadow, then the next line or the end of the pass. -/
theorem exec_scrubLine_line (hready : s.scrubReady a) {line : Nat} (hline : next = some line) {t u : State}
    (ht : t = s.scrubParity a line)
    (hu : u = if t.lineDiffers a line = true
      then ((t.rewriteLine a line false).bump (arrA a R.PIPE_ASC_SCRUB_FIX)).raise (arrRegion a) (arrBlock a) 7 else t)
    {w : State} (hw : w = u.setArr a { u.arr a with scrub := if (u.scrubNext a (line + 1)).isNone then 0 else line + 1 }) :
    exec (.scrubLine a) s = .next (if (u.scrubNext a (line + 1)).isNone
      then w.wr (arrA a R.PIPE_ASC_SCRUB_PASSES) (w.rd (arrA a R.PIPE_ASC_SCRUB_PASSES) + 1) else w) := by
  obtain ⟨hon, hno, hworks, hslot⟩ := hready
  refine (if_pos (by simp [hon, hno, hworks, hslot])).trans ?_
  have hfirst := hnext.symm.trans hline
  subst hw hu ht
  cases hs : s.scrubNext a (s.arr a).scrub with
  | some l =>
    rw [hs, Option.some_or] at hfirst
    rw [Option.some.inj hfirst]
  | none =>
    rw [hs, Option.none_or] at hfirst
    rw [hfirst]
end
end

/-- Settles O37: INSERT_AT and MOVE by their lists of tests, the mover's slot by `State.moverSlot`'s cases, the slots by their commands. -/
theorem moverAndScrubberKeepTheArray : Obligations.MoverAndScrubberKeepTheArray := by
  intro s
  refine ⟨fun u m a v win t i bad hwin hm hu ht hi hbad => ?commands, fun a x hx => ?array⟩
  case commands =>
    subst hwin
    have hins := fun hfree hq => exec_insertAt_runs hm v hfree hq hu ht hi rfl rfl
    have hmov := fun hfree hq => exec_ascMove_runs hm v hfree hq hu ht hi rfl rfl rfl
    refine ⟨?starts, fun hfree hq ht62 hin hidle => ⟨?insertAt, ?move⟩⟩
    case starts =>
      simp only [List.forall_mem_cons, hbad]
      refine ⟨⟨fun h => exec_insertAt_busy hm v h, fun hfree hq => exec_insertAt_queued hm v hfree hq, fun hfree hq => ?_⟩,
        ⟨fun h => exec_ascMove_busy hm v h, fun hfree hq => exec_ascMove_queued hm v hfree hq, fun hfree hq => ?_⟩,
        List.forall_mem_nil _⟩
      · rw [hins hfree hq]
        refine ⟨fun h => ?_, fun h => ?_, fun h hin => ?_, fun h hin hrun => ?_⟩
        · rw [if_pos (by omega), if_pos (by omega)]
        · rw [if_pos (by omega), if_neg (by omega)]
        · rw [if_neg (not_not.2 h), if_pos hin]
        · rw [if_neg (not_not.2 h), if_neg (Nat.not_le.2 hin), if_pos (Option.isSome_iff_ne_none.2 hrun)] <;> rfl
      · rw [hmov hfree hq]
        refine ⟨fun h => ?_, fun h => ?_, fun h hin => ?_, fun h hin hrun => ?_⟩
        · rw [if_pos (by omega), if_pos (by omega)]
        · rw [if_pos (by omega), if_neg (by omega)]
        · rw [if_neg (not_not.2 h), if_pos hin]
        · rw [if_neg (not_not.2 h), if_neg (Nat.not_le.2 hin), if_pos (Option.isSome_iff_ne_none.2 hrun)] <;> rfl
    case insertAt =>
      rintro e he
      subst he
      rw [hins hfree hq, if_neg (not_not.2 ht62), if_neg (Nat.not_le.2 hin), if_neg (by simp [hidle])]
      refine ⟨fun hlock => congrArg Host.Outcome.next (if_pos hlock), fun hopen => ?_⟩
      rw [if_neg (not_not.2 hopen)]
      refine ⟨fun r hr => by rw [hr, hbad]; rfl, fun p st hok hp hst => ?_⟩
      subst hst
      rw [hok, hp]
      refine ⟨fun hfull => by simp only [hfull, hbad]; rfl, fun f hf => ?_, fun f hf => ?_⟩
      · simp only [hf]
        exact ⟨fun hat hslot => by rw [if_pos ⟨hat, hslot⟩], fun hno => by rw [if_neg (by rcases hno with h | h <;> simp [h])]⟩
      · simp only [hf]
        exact ⟨fun hat hslot => by rw [if_pos ⟨hat, hslot⟩], fun hno => by rw [if_neg (by rcases hno with h | h <;> simp [h])]⟩
    case move =>
      rw [hmov hfree hq, if_neg (not_not.2 ht62), if_neg (Nat.not_le.2 hin), if_neg (by simp [hidle])]
      refine ⟨fun hnone => by rw [hnone, hbad]; rfl, fun p st last down ok hp hst hlast hdown hok => ?_⟩
      subst hst hlast hdown
      rw [hp]
      exact ⟨fun h => congrArg _ (if_pos (hok.1 h)), fun h => (congrArg _ (if_neg (mt hok.2 h))).trans (hbad 5).symm⟩
  case array =>
    subst hx
    refine ⟨fun y k dst e t hmove hleft hdst he ht => ⟨_, rfl, State.moverSlot_copies hleft hdst he ht rfl⟩,
      fun y e i hmove hleft hnew => State.moverSlot_writes hleft hnew, fun y hmove hworks hslot hno =>
      exec_moverCopy_runs hmove hworks hslot hno, exec_moverCopy_idle, fun line rest hline hworks hslot => ?_, exec_scrubRewrite_idle,
      fun t hworks hlate ht => ⟨exec_slotSteal_rewrite hworks hlate ht, exec_slotSteal_command hworks hlate ht,
        fun y => exec_slotSteal_mover hworks hlate ht⟩, exec_slotSteal_idle, fun ready next hready hnext =>
      ⟨fun h => exec_scrubLine_idle hnext (h.imp_left (mt hready.2)), fun line t u h hline ht hu => ?scrub⟩⟩
    · rw [exec_scrubRewrite_runs hworks hslot, State.rewriteNext_cons hline]
    case scrub =>
      have hscrub := exec_scrubLine_line hnext (hready.1 h) hline ht hu rfl
      refine ⟨fun hmore => ?_, fun hend => ⟨_, rfl, ?_⟩⟩
      · have hnot : ¬(u.scrubNext a (line + 1)).isNone = true := by simpa using hmore
        rw [hscrub, if_neg hnot, if_neg hnot]
      · have hyes : (u.scrubNext a (line + 1)).isNone = true := by simp [hend]
        rw [hscrub, if_pos hyes, if_pos hyes]

end Sys2Proof.Machine
end

section
/-! PROOF. Buffer pools (R266 to R269): ALLOC, FREE, RELEASE, SHARE, the bad-free log, INIT and the bursts of the caches. -/

namespace Sys2Proof.Machine

/-! ## ALLOC -/

section
variable {s : State} {p : Nat}

theorem State.poolTake_cached {a : Nat} {l : List Nat} (hen : pdEn (s.poolDesc p) = true) (hcache : (s.pool p).cache = a :: l) :
    s.poolTake p = some (a, (s.setPool p { s.pool p with
      cache := l
      allocated := (s.pool p).allocated + 1 }).poolCount p 0) := by
  unfold State.poolTake
  rw [if_neg (by simp [hen]), if_neg (by simp [hcache])]
  simp only [hcache]

theorem State.poolAlloc_cached {a : Nat} {l : List Nat} (hen : pdEn (s.poolDesc p) = true) (hcache : (s.pool p).cache = a :: l) :
    s.poolAlloc p = (a, (s.setPool p { s.pool p with
      cache := l
      allocated := (s.pool p).allocated + 1 }).poolCount p 0) := by
  unfold State.poolAlloc poolChain
  rw [State.poolTake_cached hen hcache]
  exact congrArg (Prod.mk a) (if_pos rfl)

theorem State.poolAlloc_empty (h : poolChain 4 p s = none) : s.poolAlloc p = (0, (s.poolCount p 3).raise 0x13 3 2) := by
  unfold State.poolAlloc
  rw [h]

theorem State.poolAlloc_chain {a q : Nat} {u : State} (h : poolChain 4 p s = some (a, q, u)) :
    s.poolAlloc p = (a, if q = p then u else u.poolCount p 2) := by
  unfold State.poolAlloc
  rw [h]
end

/-! ## Accesses of block PORT -/

theorem State.asPort_refused {s : State} {m : Master} (hm : ∀ t, m ≠ .core t) {a n : Nat} {w : Bool} {f : Nat → State → State}
    (h : s.accessCheck m a n false w = .ok) : s.asPort m a n w f = s.accessRefused m a .denied := by
  unfold State.asPort
  rw [h]
  cases m with
  | core t => exact absurd rfl (hm t)
  | _ => rfl

section
variable {s : State} {t : Fin 384}

theorem exec_poolAlloc_wide {p : Fin 256} {adr : Nat} (hadr : adr = bportA (R.BUF_POOL_ALLOC + 8 * p.val)) {r : Nat × State}
    (hr : r = s.poolAlloc p) (h : s.accessCheck (.core t) adr 8 false false = .ok) :
    exec (.poolAlloc (.core t) p true) s = .next (r.2.emit (.reply (.core t) r.1)) := by
  subst hr hadr
  exact congrArg Host.Outcome.next (State.asPort_core h)

/-- A 32-bit read answers the low word and latches the high one (R96). -/
theorem exec_poolAlloc_low {p : Fin 256} {adr : Nat} (hadr : adr = bportA (R.BUF_POOL_ALLOC + 8 * p.val)) {r : Nat × State}
    (hr : r = s.poolAlloc p) (h : s.accessCheck (.core t) adr 4 false false = .ok) {l : List (Nat × Latch)}
    (hl : l = spPut (fun _ => Latch.none_) r.2.ctl.latches (masterCode (.core t) + 4 * (0x13 * 64 + 4))
      ⟨adr, [BitVec.ofNat 32 (r.1 / 2 ^ 32)]⟩) :
    exec (.poolAlloc (.core t) p false) s =
      .next (State.emit { r.2 with ctl := { r.2.ctl with latches := l } } (.reply (.core t) (r.1 % 2 ^ 32))) := by
  subst hl hr hadr
  exact congrArg Host.Outcome.next (State.asPort_core h)

variable {d : BitVec 64} {a : Nat} (ha : a = d.toNat)
include ha

theorem exec_poolFree_core (h : s.accessCheck (.core t) (bportA R.BUF_POOL_FREE) 8 false true = .ok) :
    exec (.poolFree (.core t) d) s = .next (s.poolFree a 0 t.val).blkRetry := by
  subst ha
  exact congrArg Host.Outcome.next (State.asPort_core h)

theorem exec_poolRelease_core (h : s.accessCheck (.core t) (bportA R.BUF_POOL_RELEASE) 8 false true = .ok) :
    exec (.poolRelease (.core t) d) s = .next (s.poolRelease a 0 t.val).blkRetry := by
  subst ha
  exact congrArg Host.Outcome.next (State.asPort_core h)

theorem exec_poolShare_core (h : s.accessCheck (.core t) (bportA R.BUF_POOL_SHARE) 8 false true = .ok) :
    exec (.poolShare (.core t) d) s = .next (s.poolShareOp a 0 t.val) := by
  subst ha
  exact congrArg Host.Outcome.next (State.asPort_core h)
end

/-! ## FREE, RELEASE and SHARE -/

section
variable {s : State} {a p kind id : Nat}

theorem State.poolFree_badAddress {r : Nat} (h : s.poolCheck a = .error r) : s.poolFree a kind id = s.badFree a r kind id := by
  unfold State.poolFree
  rw [h]

theorem State.poolRelease_badAddress {r : Nat} (h : s.poolCheck a = .error r) : s.poolRelease a kind id = s.badFree a r kind id := by
  unfold State.poolRelease
  rw [h]

variable (hp : s.poolCheck a = .ok p)
include hp

theorem State.poolFree_unshared (h : s.poolShare a = none) : s.poolFree a kind id = s.poolReturn p a := by
  unfold State.poolFree
  rw [hp]
  simp only [h]

theorem State.poolFree_shared {x : PoolShare} (h : s.poolShare a = some x) : s.poolFree a kind id =
    if x.kind ≠ kind ∨ x.id ≠ id then s.badFree a 3 kind id
    else if x.freed then s.badFree a 4 kind id
    else if x.pending = 0 then (s.setPoolShare a none).poolReturn p a
    else s.setPoolShare a (some { x with freed := true }) := by
  unfold State.poolFree
  rw [hp]
  simp only [h]

theorem State.poolRelease_unshared (h : s.poolShare a = none) : s.poolRelease a kind id = s.badFree a 5 kind id := by
  unfold State.poolRelease
  rw [hp]
  simp only [h]

theorem State.poolRelease_shared {x : PoolShare} (h : s.poolShare a = some x) : s.poolRelease a kind id =
    if x.kind = kind ∧ x.id = id then s.badFree a 3 kind id
    else if x.pending = 0 then s.badFree a 6 kind id
    else if x.pending = 1 ∧ x.freed = true then (s.setPoolShare a none).poolReturn p a
    else s.setPoolShare a (some { x with pending := x.pending - 1 }) := by
  unfold State.poolRelease
  rw [hp]
  simp only [h]
end

section
variable {s : State} {a kind id : Nat}

theorem State.poolShareOp_twice (h : s.poolShare (a / 256 * 256) ≠ none) : s.poolShareOp a kind id = s.raise 0x13 3 4 :=
  if_pos (Option.isSome_iff_ne_none.2 h)

theorem State.poolShareOp_new (h : s.poolShare (a / 256 * 256) = none) : s.poolShareOp a kind id =
    if 65536 ≤ s.buf.poolShares.length then s.raise 0x13 3 3
    else s.setPoolShare (a / 256 * 256) (some ⟨kind, id, a % 256, false⟩) :=
  if_neg (by simp [h])
end

/-! ## INIT -/

section
variable {s u : State} {w : Nat}

/-- INIT names its own table; its CMD is 8. -/
theorem poolInit_cmd (v : Word) : natSetField (withCmd v 8) 4 8 0x70 % 16 = 8 := by
  have hcmd := withCmd_mod v 8 (by decide)
  unfold natSetField natField
  omega

theorem exec_poolInit {m : Master} (hw : s.mayWrite m poolWinA) (v : Word) :
    exec (.poolInit m v) s = .next (s.winCmd poolWinA (natSetField (withCmd v 8) 4 8 0x70) 32 State.poolInitRun) :=
  congrArg Host.Outcome.next (State.asWrite_ok hw)

theorem poolWin_glideRegion : glideRegion (addrRegion poolWinA) = true := by decide

variable (hfree : s.rbit (poolWinA + 12) 0 = false)
include hfree

theorem State.poolInitCmd_queued (hq : s.glideQueues = true) (hc : w % 16 = 8) :
    s.winCmd poolWinA w 32 State.poolInitRun = s.winQueue poolWinA w := by
  unfold State.winCmd State.winStart
  rw [if_neg (by simp [hfree]), if_pos (by simp [hq, poolWin_glideRegion, hc])]

theorem State.poolInitCmd_runs (hq : s.glideQueues = false) (hu : u = s.wr poolWinA (BitVec.ofNat 32 (natField w 4 11 * 16))) :
    s.winCmd poolWinA w 32 State.poolInitRun = u.poolInitRun.2.winEnd poolWinA u.poolInitRun.1 32 := by
  unfold State.winCmd State.winStart
  rw [if_neg (by simp [hfree]), if_neg (by simp [hq]), hu]
end

/-! ## The log and the bursts -/

section
variable {s : State} {m : Master}

theorem exec_poolLogReadHead (h : s.mayRead m (poolA R.BUF_POOL_LOG)) : exec (.poolLogReadHead m) s =
    .next (State.emit { s with buf := { s.buf with logLatch := headPut s.buf.logLatch (some m) s.buf.log.head? } }
      (.reply m (match s.buf.log.head? with | some e => badFreeWord e 0 | none => 0))) :=
  congrArg Host.Outcome.next ((State.asRead_ok h).trans rfl)

section
variable (h : s.mayRead m (poolA (R.BUF_POOL_LOG + 12)))
include h

theorem exec_poolLogReadPop : exec (.poolLogReadPop m) s =
    .next ((s.poolLogPop (some m)).2.emit (.reply m (s.poolLogPop (some m)).1)) :=
  congrArg Host.Outcome.next (State.asRead_ok h)

theorem exec_poolLogReadPop_empty (hlog : s.buf.log = []) : exec (.poolLogReadPop m) s = .next (State.emit
    { s with buf := { s.buf with logLatch := headPut s.buf.logLatch (some m) none } } (.reply m 0)) := by
  rw [exec_poolLogReadPop h]
  unfold State.poolLogPop
  simp only [hlog]

theorem exec_poolLogReadPop_entry {e : BadFree} {r : List BadFree} (hlog : s.buf.log = e :: r) : exec (.poolLogReadPop m) s =
    .next (State.emit { s with buf := { s.buf with
      logLatch := headPut s.buf.logLatch (some m) none
      log := r } } (.reply m (badFreeWord ((headOf s.buf.logLatch (some m)).getD e) 3))) := by
  rw [exec_poolLogReadPop h]
  unfold State.poolLogPop
  simp only [hlog, List.head?_cons]
  cases headOf s.buf.logLatch (some m) <;> rfl
end

section
variable {p : Fin 256} {up : Prop} (hup : up ↔ pdEn (s.poolDesc p) = true ∧ s.poolRingUp p = true ∧ s.rgnWorks 0x13 = true)
include hup

theorem exec_poolCacheRefill_takes (h : up) (hlow : (s.pool p).cache.length ≤ 256) :
    exec (.poolCacheRefill p) s = .next (s.poolRefill p) := by
  obtain ⟨hen, hring, hworks⟩ := hup.1 h
  exact if_pos ⟨hen, hlow, hring, hworks⟩

theorem exec_poolCacheRefill_idle (h : ¬ up ∨ 256 < (s.pool p).cache.length) : exec (.poolCacheRefill p) s = .next s := by
  refine if_neg ?_
  rintro ⟨hen, hlow, hring, hworks⟩
  exact h.elim (fun hno => hno (hup.2 ⟨hen, hring, hworks⟩)) (Nat.not_lt.2 hlow)

theorem exec_poolCacheDrain_gives (h : up) (hhigh : 768 ≤ (s.pool p).cache.length) :
    exec (.poolCacheDrain p) s = .next (s.poolDrainN p 256) := by
  obtain ⟨hen, hring, hworks⟩ := hup.1 h
  exact if_pos ⟨hen, hhigh, hring, hworks⟩

theorem exec_poolCacheDrain_idle (h : ¬ up ∨ (s.pool p).cache.length < 768) : exec (.poolCacheDrain p) s = .next s := by
  refine if_neg ?_
  rintro ⟨hen, hhigh, hring, hworks⟩
  exact h.elim (fun hno => hno (hup.2 ⟨hen, hring, hworks⟩)) (Nat.not_lt.2 hhigh)
end
end

/-- Settles O40: accesses by `State.asPort_core` and `State.asPort_refused`, and what each does by the lemmas about its function. -/
theorem poolsHandOutAndTakeBack : Obligations.PoolsHandOutAndTakeBack := by
  intro s
  refine ⟨fun p => ⟨fun a l => State.poolAlloc_cached, State.poolAlloc_empty, fun a q u => State.poolAlloc_chain⟩,
    fun t p adr r hadr hr => ⟨exec_poolAlloc_wide hadr hr, fun h l hl => exec_poolAlloc_low hadr hr h hl⟩,
    fun m hm => ⟨fun p wide adr hadr h => ?_, fun d => ⟨fun h => congrArg _ (State.asPort_refused hm h),
      fun h => congrArg _ (State.asPort_refused hm h), fun h => congrArg _ (State.asPort_refused hm h)⟩⟩,
    fun t d a ha => ⟨fun h => ?free, fun h => ?release, fun h => ?share⟩, fun m v u w hm hw hu => ?init,
    fun m => ⟨exec_poolLogReadHead, fun h => ⟨exec_poolLogReadPop_empty h, fun e r => exec_poolLogReadPop_entry h⟩⟩,
    fun p up hup => ⟨exec_poolCacheRefill_takes hup, exec_poolCacheRefill_idle hup, exec_poolCacheDrain_gives hup,
      exec_poolCacheDrain_idle hup⟩⟩
  · subst hadr
    exact congrArg Host.Outcome.next (State.asPort_refused hm h)
  case free =>
    rw [exec_poolFree_core ha h]
    refine ⟨fun r hr => by rw [State.poolFree_badAddress hr], fun p hp => ⟨fun hno => by rw [State.poolFree_unshared hp hno],
      fun x hx => ?_⟩⟩
    rw [State.poolFree_shared hp hx]
    refine ⟨fun hother => by rw [if_pos hother], fun hkind hid => ?_⟩
    rw [if_neg (by simp [hkind, hid])]
    exact ⟨fun hfreed => by rw [if_pos hfreed], fun hfreed hout => by rw [if_neg (by simp [hfreed]), if_neg (Nat.ne_of_gt hout)],
      fun hfreed hnone => by rw [if_neg (by simp [hfreed]), if_pos hnone]⟩
  case release =>
    rw [exec_poolRelease_core ha h]
    refine ⟨fun r hr => by rw [State.poolRelease_badAddress hr], fun p hp => ⟨fun hno => by rw [State.poolRelease_unshared hp hno],
      fun x hx => ?_⟩⟩
    rw [State.poolRelease_shared hp hx]
    refine ⟨fun hkind hid => by rw [if_pos ⟨hkind, hid⟩], fun hother => ?_⟩
    rw [if_neg (not_and_or.2 hother)]
    refine ⟨fun hnone => by rw [if_pos hnone], fun hlast hfreed => by rw [if_neg (by omega), if_pos ⟨hlast, hfreed⟩], fun hmore => ?_⟩
    have hpending : x.pending ≠ 0 := by omega
    have hnot : ¬(x.pending = 1 ∧ x.freed = true) := by
      rintro ⟨hone, hfreed⟩
      rcases hmore with hmore | ⟨-, hno⟩
      · omega
      · exact absurd hfreed (by simp [hno])
    rw [if_neg hpending, if_neg hnot]
  case share =>
    rw [exec_poolShare_core ha h]
    refine ⟨fun htwice => by rw [State.poolShareOp_twice htwice], fun hnew hfull => ?_, fun hnew hroom => ?_⟩
    · rw [State.poolShareOp_new hnew, if_pos hfull]
    · rw [State.poolShareOp_new hnew, if_neg (Nat.not_le.2 hroom)]
  case init =>
    have hc : w % 16 = 8 := hw ▸ poolInit_cmd v
    rw [exec_poolInit hm, ← hw]
    refine ⟨fun hbusy => congrArg _ (State.winCmd_busy hbusy _), fun hfree hq => congrArg _ (State.poolInitCmd_queued hfree hq hc),
      fun hfree hq => ?_⟩
    rw [State.poolInitCmd_runs hfree hq hu]
    exact ⟨fun hbeyond => by rw [State.poolInitRun, if_pos hbeyond], fun hin => by rw [State.poolInitRun, if_neg (Nat.not_le.2 hin)]⟩

end Sys2Proof.Machine
end

section
/-! PROOF. Cells, shared payloads and spill pages (R249 to R265): frees that are checked, records of copies, and the streams in HBM. -/

namespace Sys2Proof.Machine

/-! ## Cells -/

section
variable {s : State} {ptr : Word} {p : Nat}

theorem exec_cellFree_absent (h : s.meets 0x13 0 = true) : exec (.cellFree ptr) s = .next s := if_pos h

theorem exec_cellFree_works (hp : p = ptr.toNat % 2 ^ 20) (h : s.meets 0x13 0 = false) : exec (.cellFree ptr) s = .next (s.cellFree p) := by
  subst hp
  exact if_neg (by simp [h])
end

section
variable {s : State} {p : Nat}

theorem State.cellFree_beyond (h : 655360 ≤ p) :
    s.cellFree p = ((s.bump (cellA R.BUF_CELL_BADFREE)).raise 0x13 0 1).badFree p 1 3 0 := if_pos h

theorem State.cellFree_used (hin : p < 655360) (h : s.cellUsed p = true) : s.cellFree p = s.setCell p false :=
  (if_neg (Nat.not_le.2 hin)).trans (if_pos h)

theorem State.cellFree_twice (hin : p < 655360) (h : s.cellUsed p = false) :
    s.cellFree p = ((s.bump (cellA R.BUF_CELL_BADFREE)).raise 0x13 0 1).badFree p 4 3 0 :=
  (if_neg (Nat.not_le.2 hin)).trans (if_neg (by simp [h]))
end

/-! ## Share records -/

section
variable {s : State} {r : Nat} {x : ShareRec}

/-- A stored record that the owner has freed and no copy holds gives its cells back. -/
theorem State.shareSettle_returns (hfreed : x.freed = true) (hnone : x.pending = 0) :
    (s.setShareRec r x).shareSettle r = ((s.setShareRec r x).freeCells x.cells).setShareRec r noShare := by
  unfold State.shareSettle
  simp only [State.shareRec_setShareRec_self]
  rw [if_pos (by simp [hfreed, hnone])]

theorem State.shareSettle_stays (h : x.freed = false ∨ 0 < x.pending) :
    (s.setShareRec r x).shareSettle r = s.setShareRec r x := by
  unfold State.shareSettle
  simp only [State.shareRec_setShareRec_self]
  refine if_neg ?_
  rcases h with h | h
  · simp [h]
  · simp [Nat.ne_of_gt h]

variable (hx : x = s.shareRec r)
include hx

theorem State.shareRelease_owner : s.shareRelease r true = s.badFree (shareHead x) 3 3 0 := by
  subst hx
  rfl

theorem State.shareRelease_copy : s.shareRelease r false = if x.pending = 0 then s.badFree (shareHead x) 6 3 0
    else (s.setShareRec r { x with pending := x.pending - 1 }).shareSettle r := by
  subst hx
  rfl

theorem State.shareFree_copy : s.shareFree r false = s.badFree (shareHead x) 3 3 0 := by
  subst hx
  rfl

theorem State.shareFree_owner : s.shareFree r true = if x.freed then s.badFree (shareHead x) 4 3 0
    else (s.setShareRec r { x with freed := true }).shareSettle r := by
  subst hx
  rfl
end

section
variable {s : State} {r : Fin 131072} {x : ShareRec} (hx : x = s.shareRec r)
include hx

theorem exec_shared_unused (h : x.cells = []) (b : Bool) :
    exec (.sharedRelease r b) s = .next s ∧ exec (.sharedFree r b) s = .next s := by
  have hno : ¬s.shareInUse r = true := by simp [State.shareInUse, ← hx, h]
  exact ⟨if_neg hno, if_neg hno⟩

theorem exec_shared_used (h : x.cells ≠ []) (b : Bool) :
    exec (.sharedRelease r b) s = .next (s.shareRelease r b) ∧ exec (.sharedFree r b) s = .next (s.shareFree r b) := by
  have hin : s.shareInUse r = true := by simp [State.shareInUse, ← hx, h]
  exact ⟨if_pos hin, if_pos hin⟩
end

/-! ## The ring of spill pages -/

section
variable {s : State}

theorem exec_spillInit_ok {m : Master} (h : s.mayWrite m (spillA R.BUF_SPILL_INIT)) (v : Word) :
    exec (.spillInit m v) s = .next (s.spillInit v.toNat) := congrArg Host.Outcome.next (State.asWrite_ok h)

variable {up : Prop} (hup : up ↔ s.spillUp = true ∧ s.rgnWorks 0x13 = true)
include hup

theorem exec_spillCacheRefill_takes (h : up) (hlow : s.buf.pageCache.length ≤ 256) :
    exec .spillCacheRefill s = .next s.pageRefill := by
  obtain ⟨hring, hworks⟩ := hup.1 h
  exact if_pos ⟨hlow, hring, hworks⟩

theorem exec_spillCacheRefill_idle (h : ¬ up ∨ 256 < s.buf.pageCache.length) : exec .spillCacheRefill s = .next s := by
  refine if_neg ?_
  rintro ⟨hlow, hring, hworks⟩
  exact h.elim (fun hno => hno (hup.2 ⟨hring, hworks⟩)) (Nat.not_lt.2 hlow)

theorem exec_spillCacheDrain_gives (h : up) (hhigh : 768 ≤ s.buf.pageCache.length) :
    exec .spillCacheDrain s = .next (s.pageDrain 256) := by
  obtain ⟨hring, hworks⟩ := hup.1 h
  exact if_pos ⟨hhigh, hring, hworks⟩

theorem exec_spillCacheDrain_idle (h : ¬ up ∨ s.buf.pageCache.length < 768) : exec .spillCacheDrain s = .next s := by
  refine if_neg ?_
  rintro ⟨hhigh, hring, hworks⟩
  exact h.elim (fun hno => hno (hup.2 ⟨hring, hworks⟩)) (Nat.not_lt.2 hhigh)
end

/-- The model's test, where the obligation's `ready` fails. -/
theorem spillReadback_notReady {s : State} {x : QSt} {e : QEnt} {ready : Prop}
    (hready : ready ↔ s.rgnWorks 0x13 = true ∧ s.blkHeld 0x13 1 = false ∧
      natSum ((x.items.filter (·.readBack)).map (fun e => e.pkt.bytes.length)) + e.pkt.bytes.length ≤
        s.fld (spillA R.BUF_SPILL_AHEAD) 0 7 * 1024 ∧
      (recordPages x.pages x.rpos e.recordBytes).any (fun p => s.hbmDown (s.spillPage p)) = false) :
    (!s.rgnWorks 0x13 || s.blkHeld 0x13 1 || decide (s.fld (spillA R.BUF_SPILL_AHEAD) 0 7 * 1024 <
      natSum ((x.items.filter (·.readBack)).map (fun e => e.pkt.bytes.length)) + e.pkt.bytes.length) ||
    (recordPages x.pages x.rpos e.recordBytes).any (fun p => s.hbmDown (s.spillPage p))) = true ↔ ¬ ready := by
  rw [hready]
  generalize (recordPages x.pages x.rpos e.recordBytes).any (fun p => s.hbmDown (s.spillPage p)) = down
  cases s.rgnWorks 0x13 <;> cases s.blkHeld 0x13 1 <;> cases down <;> simp

/-! ## Spilling -/

section
variable {s t : State} {q : QueueRef} {key : Nat} {x : QSt} (hkey : key = queueKey q) (hx : x = s.queue key)
include hkey hx

theorem exec_spillWrite_idle (h : x.toSpill = [] ∨ s.rgnWorks 0x13 = false ∨ s.blkHeld 0x13 1 = true) (late : Bool) :
    exec (.spillWrite q late) s = .next s := by
  subst hx hkey
  show execSpillWrite q late s = _
  unfold execSpillWrite
  cases hwait : (s.queue (queueKey q)).toSpill with
  | nil => simp only [hwait]
  | cons e r =>
    have hdown : (!s.rgnWorks 0x13 || s.blkHeld 0x13 1) = true := by
      rcases h with h | h | h
      · simp [hwait] at h
      · simp [h]
      · simp [h]
    simp only [hwait]
    exact if_pos hdown

section
variable (hworks : s.rgnWorks 0x13 = true) (hfree : s.blkHeld 0x13 1 = false) {e : QEnt} {r : List QEnt} (hwait : x.toSpill = e :: r)
  (ht : t = s.setQueueFor key { x with toSpill := r } e.pkt)
include hworks hfree hwait ht

/-- What happens to the oldest packet that waits for its queue's stream. -/
theorem exec_spillWrite_head (late : Bool) : exec (.spillWrite q late) s =
    if late then .next (t.spillDrop e 1)
    else if s.pagesWait ((x.wpos + e.recordBytes + 4095) / 4096 - x.pages.length) then .next s
    else match growPages (e.recordBytes / 4096 + 2) (x.wpos + e.recordBytes) x.pages s with
      | none => .next (t.spillDrop e 0)
      | some (pages, u) =>
        if (recordPages pages x.wpos e.recordBytes).any (fun p => u.hbmDown (u.spillPage p)) then
          .next (((t.absentDrop 0x13).payloadDone e).dropPkt e.pkt)
        else
          .next (State.setQueueFor
            (if e.share.isSome then (u.streamWrite pages x.wpos (s.recordOf e)).bump64 (spillA R.BUF_SPILL_WR_BYTES) e.recordBytes
              else ((u.streamWrite pages x.wpos (s.recordOf e)).bump64 (spillA R.BUF_SPILL_WR_BYTES) e.recordBytes).freeCells e.cells)
            key { x with
              toSpill := r
              stream := x.stream ++ [if e.share.isSome then e else { e with cells := [] }]
              pages := pages
              wpos := x.wpos + e.recordBytes } e.pkt) := by
  subst ht hx hkey
  show execSpillWrite q late s = _
  unfold execSpillWrite
  simp only [hwait]
  exact if_neg (by simp [hworks, hfree])

variable {wait : Bool} (hpages : wait = s.pagesWait ((x.wpos + e.recordBytes + 4095) / 4096 - x.pages.length))
include hpages

theorem exec_spillWrite_pagesWait (h : wait = true) : exec (.spillWrite q false) s = .next s := by
  rw [exec_spillWrite_head hkey hx hworks hfree hwait ht, ← hpages]
  exact (if_neg (by decide)).trans (if_pos h)

theorem exec_spillWrite_grows (h : wait = false) {got : Option (List Nat × State)}
    (hgot : got = growPages (e.recordBytes / 4096 + 2) (x.wpos + e.recordBytes) x.pages s) : exec (.spillWrite q false) s =
    match (generalizing := false) got with
    | none => .next (t.spillDrop e 0)
    | some (pages, u) =>
      if (recordPages pages x.wpos e.recordBytes).any (fun p => u.hbmDown (u.spillPage p)) then
        .next (((t.absentDrop 0x13).payloadDone e).dropPkt e.pkt)
      else
        .next (State.setQueueFor
          (if e.share.isSome then (u.streamWrite pages x.wpos (s.recordOf e)).bump64 (spillA R.BUF_SPILL_WR_BYTES) e.recordBytes
            else ((u.streamWrite pages x.wpos (s.recordOf e)).bump64 (spillA R.BUF_SPILL_WR_BYTES) e.recordBytes).freeCells e.cells)
          key { x with
            toSpill := r
            stream := x.stream ++ [if e.share.isSome then e else { e with cells := [] }]
            pages := pages
            wpos := x.wpos + e.recordBytes } e.pkt) := by
  rw [exec_spillWrite_head hkey hx hworks hfree hwait ht, ← hpages, ← hgot]
  exact (if_neg (by decide)).trans ((if_neg (by simp [h])).trans (by cases got <;> rfl))
end

/-! ## Reading back -/

theorem exec_spillReadback_empty (h : x.stream = []) : exec (.spillReadback q) s = .next s := by
  subst hx hkey
  show execSpillReadback q s = _
  unfold execSpillReadback
  simp only [h]

section
variable {e : QEnt} {r : List QEnt} (hhead : x.stream = e :: r) {ready : Prop} {bad : Bool}
  (hready : ready ↔ s.rgnWorks 0x13 = true ∧ s.blkHeld 0x13 1 = false ∧
    natSum ((x.items.filter (·.readBack)).map (fun e => e.pkt.bytes.length)) + e.pkt.bytes.length ≤
      s.fld (spillA R.BUF_SPILL_AHEAD) 0 7 * 1024 ∧
    (recordPages x.pages x.rpos e.recordBytes).any (fun p => s.hbmDown (s.spillPage p)) = false)
  (hbad : bad = (s.anyPoison && (s.streamPieces x.pages x.rpos e.recordBytes).any (fun p => s.hbmMeets p.1 p.2)))
include hhead hready

theorem exec_spillReadback_waits (h : ¬ ready) : exec (.spillReadback q) s = .next s := by
  have hwaits := (spillReadback_notReady hready).2 h
  subst hx hkey
  show execSpillReadback q s = _
  unfold execSpillReadback
  simp only [hhead]
  exact if_pos hwaits

variable (h : ready)
include h hbad

/-- A record that meets an uncorrectable line is dropped and counted. -/
theorem exec_spillReadback_bad (hb : bad = true) {t w : State}
    (ht : t = (s.streamPieces x.pages x.rpos e.recordBytes).foldl (fun (s : State) (p : Nat × Nat) => s.hbmUeRead p.1 p.2) s)
    (hw : w = State.setQueueFor ((match (s.streamPieces x.pages x.rpos e.recordBytes).find?
          (fun (p : Nat × Nat) => s.hbmMeets p.1 p.2) with
        | some p => t.ueDrop p.1
        | none => t).bump64 (spillA R.BUF_SPILL_RD_BYTES) e.recordBytes) key { x with
          stream := r
          rpos := x.rpos + e.recordBytes } e.pkt) :
    exec (.spillReadback q) s = .next (((if e.share.isSome then w.payloadDone e else w).dropPkt e.pkt).streamTrim key) := by
  have hgo := not_not.2 h
  rw [← spillReadback_notReady hready] at hgo
  subst hw ht hx hkey
  show execSpillReadback q s = _
  unfold execSpillReadback
  simp only [hhead]
  exact (if_neg hgo).trans (if_pos (hbad.symm.trans hb))

/-- Any other record joins the on-chip part, with cells for it. -/
theorem exec_spillReadback_good (hb : bad = false) {got : Option (List Nat × State)}
    (hgot : got = if e.share.isSome then some (e.cells, s) else s.allocCells 0 e.cellCount) : exec (.spillReadback q) s =
    match (generalizing := false) got with
    | none => .next s
    | some (cells, t) => .next ((((t.bump64 (spillA R.BUF_SPILL_RD_BYTES) e.recordBytes).setQueueFor key { x with
        items := x.items ++ [{ e with
          cells := cells
          readBack := true }]
        stream := r
        rpos := x.rpos + e.recordBytes } e.pkt).sharedLow (isEq key)).streamTrim key) := by
  have hgo := not_not.2 h
  rw [← spillReadback_notReady hready] at hgo
  subst hx hkey
  show execSpillReadback q s = _
  unfold execSpillReadback
  simp only [hhead, ← hgot]
  exact (if_neg hgo).trans ((if_neg (fun hmeets => absurd (hbad.trans hmeets) (by simp [hb]))).trans (by cases got <;> rfl))
end
end

/-- Settles O41: cells and records by their functions' cases, the bursts, and the streams by `exec_spillWrite_head` and the three
`exec_spillReadback` cases. -/
theorem cellsSharesAndSpillPages : Obligations.CellsSharesAndSpillPages := by
  intro s
  refine ⟨fun ptr p hp => ⟨exec_cellFree_absent, fun hworks => ?cells⟩, fun r x hx => ⟨exec_shared_unused hx, fun hused => ?shares⟩,
    fun m v hm => ?init, fun h => if_pos h, fun h => if_neg (by simp [h]), fun up hup => ⟨exec_spillCacheRefill_takes hup,
      exec_spillCacheRefill_idle hup, exec_spillCacheDrain_gives hup, exec_spillCacheDrain_idle hup⟩,
    fun q key x hkey hx => ⟨exec_spillWrite_idle hkey hx, fun hworks hfree e r t wait hwait ht hpages =>
      ⟨exec_spillWrite_head hkey hx hworks hfree hwait ht true, exec_spillWrite_pagesWait hkey hx hworks hfree hwait ht hpages,
      fun h got hgot => ?spill⟩, exec_spillReadback_empty hkey hx, fun e r ready bad hhead hready hbad =>
      ⟨exec_spillReadback_waits hkey hx hhead hready, fun h hb t w ht hw =>
        exec_spillReadback_bad hkey hx hhead hready hbad h hb ht hw, fun h hb got hgot => ?read⟩⟩⟩
  case cells =>
    rw [exec_cellFree_works hp hworks]
    exact ⟨fun h => congrArg _ (State.cellFree_beyond h), fun hin h => congrArg _ (State.cellFree_used hin h),
      fun hin h => congrArg _ (State.cellFree_twice hin h)⟩
  case shares =>
    obtain ⟨hrelOwner, hfreeOwner⟩ := exec_shared_used hx hused true
    obtain ⟨hrelCopy, hfreeCopy⟩ := exec_shared_used hx hused false
    rw [hrelOwner, hfreeOwner, hrelCopy, hfreeCopy, State.shareRelease_owner hx, State.shareFree_copy hx, State.shareRelease_copy hx,
      State.shareFree_owner hx]
    refine ⟨rfl, fun hnone => by rw [if_pos hnone], fun hone hfreed => ?_, fun hmore => ?_, rfl, fun hfreed => by rw [if_pos hfreed],
      fun hfreed hnone => ?_, fun hfreed hout => ?_⟩
    · rw [if_neg (by omega), State.shareSettle_returns (x := { x with pending := x.pending - 1 }) hfreed (by simp [hone]), hone]
    · have hout : x.pending ≠ 0 := by omega
      rw [if_neg hout, State.shareSettle_stays (x := { x with pending := x.pending - 1 })]
      rcases hmore with h | ⟨-, h⟩
      · exact .inr (Nat.sub_pos_of_lt h)
      · exact .inl h
    · rw [if_neg (by simp [hfreed]), State.shareSettle_returns (x := { x with freed := true }) rfl hnone]
    · rw [if_neg (by simp [hfreed]), State.shareSettle_stays (x := { x with freed := true }) (.inr hout)]
  case init =>
    rw [exec_spillInit_ok hm]
    exact ⟨fun h => congrArg _ (if_pos h), fun h => congrArg _ (if_neg (by simp [h]))⟩
  case spill =>
    rw [exec_spillWrite_grows hkey hx hworks hfree hwait ht hpages h hgot]
    refine ⟨fun hno => by rw [hno], fun pages u hsome => ?_⟩
    simp only [hsome]
    refine ⟨fun hdown => if_pos hdown, ?_⟩
    rintro hup v f rfl rfl
    exact if_neg (by simp [hup])
  case read =>
    rw [exec_spillReadback_good hkey hx hhead hready hbad h hb hgot]
    exact ⟨fun hno => by rw [hno], fun cells t hsome => by rw [hsome]⟩

end Sys2Proof.Machine
end

section
/-! PROOF. Queues (R254 to R293): admission, replication, release toward the fabric, selection at egress, and what keeps queues alive. -/

namespace Sys2Proof.Machine

/-! ## Admission -/

section
variable {s : State} {i : Fin 16} {ct : Bool}

theorem exec_packetAdmit_empty (h : (s.pipe i).toBuf = []) : exec (.packetAdmit i ct) s = .next s := by
  show execPacketAdmit i ct s = _
  unfold execPacketAdmit
  simp only [h]

variable {k : Pkt} {r : List Pkt} {t : State} (hhead : (s.pipe i).toBuf = k :: r)
include hhead

theorem exec_packetAdmit_waits (h : s.behindPair i k = true ∨ s.espTakes k = true) : exec (.packetAdmit i ct) s = .next s := by
  show execPacketAdmit i ct s = _
  unfold execPacketAdmit
  simp only [hhead]
  exact if_pos (by simpa using h)

variable (ht : t = s.setPipe i { s.pipe i with toBuf := r }) (hfirst : s.behindPair i k = false) (hesp : s.espTakes k = false)
include ht hfirst hesp

/-- The packet that waits for nothing, by the buffer's memory and its destination. -/
theorem exec_packetAdmit_takes : exec (.packetAdmit i ct) s =
    if t.rgnDown 0x0D || t.rgnDown 0x10 || t.meets 0x13 0 then .next ((t.absentDrop (pipeRegion i)).dropPkt k)
    else match k.dest with
      | .multicast g => .next (t.joinRepl k g false [])
      | _ => match t.destOf k with
        | some (p, w) => .next (if 70 ≤ p % 128 then t.nhInvalid.dropPkt k else t.admitUnicast k p w ct [])
        | none => .next (t.dropPkt k) := by
  subst ht
  show execPacketAdmit i ct s = _
  unfold execPacketAdmit
  simp only [hhead]
  refine (if_neg (by simp [hfirst, hesp])).trans ?_
  cases k.dest <;> rfl

theorem exec_packetAdmit_absent (h : (t.rgnDown 0x0D || t.rgnDown 0x10 || t.meets 0x13 0) = true) :
    exec (.packetAdmit i ct) s = .next ((t.absentDrop (pipeRegion i)).dropPkt k) := by
  rw [exec_packetAdmit_takes hhead ht hfirst hesp, if_pos h]

variable (hup : (t.rgnDown 0x0D || t.rgnDown 0x10 || t.meets 0x13 0) = false)
include hup

theorem exec_packetAdmit_multicast {g : Nat} (hg : k.dest = .multicast g) :
    exec (.packetAdmit i ct) s = .next (t.joinRepl k g false []) := by
  rw [exec_packetAdmit_takes hhead ht hfirst hesp, if_neg (by simp [hup]), hg]

theorem exec_packetAdmit_single (hg : ∀ g, k.dest ≠ .multicast g) : exec (.packetAdmit i ct) s = match t.destOf k with
    | some (p, w) => .next (if 70 ≤ p % 128 then t.nhInvalid.dropPkt k else t.admitUnicast k p w ct [])
    | none => .next (t.dropPkt k) := by
  rw [exec_packetAdmit_takes hhead ht hfirst hesp, if_neg (by simp [hup])]
  generalize k.dest = d at hg
  cases d with
  | multicast g => exact absurd rfl (hg g)
  | _ => rfl
end

/-! ## Replication -/

section
variable {s : State}

theorem exec_replExpand_empty (h : s.buf.repl = []) : exec .replExpand s = .next s := by
  show execReplExpand s = _
  unfold execReplExpand
  simp only [h]

variable {o : QEnt} {rest : List QEnt} {g x : Nat} {t : State} (hhead : s.buf.repl = o :: rest) (hg : o.pkt.dest = .multicast g)
  (hx : x = s.tabN 0x13 2 0x50 g) (ht : t = { s with buf := { s.buf with repl := rest } })
include hhead hg hx ht

/-- The oldest packet of the FIFO, by its group's entry. -/
theorem exec_replExpand_head : exec .replExpand s =
    if !natBit x 0 then .next (((if o.remote then t.bump (replA R.BUF_REPL_NOSHARE) else t).freeCells o.cells).dropPkt o.pkt)
    else if natField x 19 11 = 1 then .next ((t.makeCopy o g (natField x 1 18) none true).dropPkt o.pkt)
    else match t.freeShare 131072 0 with
      | none => .next ((((t.bump (replA R.BUF_REPL_NOSHARE)).raise 0x13 2 1).freeCells o.cells).dropPkt o.pkt)
      | some r => .next (((List.range (natField x 19 11)).foldl
          (fun u j => u.makeCopy o g (natField x 1 18 + j) (some r) (j + 1 == natField x 19 11))
          (t.setShareRec r ⟨natField x 19 11 - 1, false, o.cells⟩)).dropPkt o.pkt) := by
  subst ht hx
  show execReplExpand s = _
  unfold execReplExpand
  simp only [hhead, hg] <;> rfl

theorem exec_replExpand_off (h : natBit x 0 = false) : exec .replExpand s =
    .next (((if o.remote then t.bump (replA R.BUF_REPL_NOSHARE) else t).freeCells o.cells).dropPkt o.pkt) := by
  rw [exec_replExpand_head hhead hg hx ht, if_pos (by rw [h]; rfl)]

variable (hon : natBit x 0 = true)
include hon

theorem exec_replExpand_one (h : natField x 19 11 = 1) :
    exec .replExpand s = .next ((t.makeCopy o g (natField x 1 18) none true).dropPkt o.pkt) := by
  rw [exec_replExpand_head hhead hg hx ht, if_neg (by simp [hon]), if_pos h]

theorem exec_replExpand_noShare (h : natField x 19 11 ≠ 1) (hr : t.freeShare 131072 0 = none) : exec .replExpand s =
    .next ((((t.bump (replA R.BUF_REPL_NOSHARE)).raise 0x13 2 1).freeCells o.cells).dropPkt o.pkt) := by
  rw [exec_replExpand_head hhead hg hx ht, if_neg (by simp [hon]), if_neg h, hr]

theorem exec_replExpand_copies (h : natField x 19 11 ≠ 1) {r : Nat} (hr : t.freeShare 131072 0 = some r) :
    exec .replExpand s = .next (((List.range (natField x 19 11)).foldl
      (fun u j => u.makeCopy o g (natField x 1 18 + j) (some r) (j + 1 == natField x 19 11))
      (t.setShareRec r ⟨natField x 19 11 - 1, false, o.cells⟩)).dropPkt o.pkt) := by
  rw [exec_replExpand_head hhead hg hx ht, if_neg (by simp [hon]), if_neg h, hr]
end

/-! ## Release toward the fabric -/

section
variable {s : State} {late : Bool}

theorem exec_voqRelease_idle (h : (s.meets 0x11 0 || s.rgnDown 0x14 || s.meets 0x13 0 || s.rgnDown 0x10) = true ∨ s.voqPort = none) :
    exec (.voqRelease late) s = .next s := by
  show execVoqRelease late s = _
  unfold execVoqRelease
  by_cases hdown : (s.meets 0x11 0 || s.rgnDown 0x14 || s.meets 0x13 0 || s.rgnDown 0x10) = true
  · exact if_pos hdown
  · rw [if_neg hdown, h.resolve_left hdown]

section
variable (hup : (s.meets 0x11 0 || s.rgnDown 0x14 || s.meets 0x13 0 || s.rgnDown 0x10) = false) {i : Nat} {high : Bool}
  (hport : s.voqPort = some (i, high))
include hup hport

theorem exec_voqRelease_noClass (h : s.voqClass i = none) : exec (.voqRelease late) s = .next s := by
  show execVoqRelease late s = _
  unfold execVoqRelease
  rw [if_neg (by simp [hup]), hport]
  simp only [h]

variable {c : Nat} {t : State} (hclass : s.voqClass i = some (c, t))
include hclass

theorem exec_voqRelease_noPacket (h : (t.queue (voqKey i c)).items = []) : exec (.voqRelease late) s = .next s := by
  show execVoqRelease late s = _
  unfold execVoqRelease
  rw [if_neg (by simp [hup]), hport]
  simp only [hclass, h]

/-- The head of the chosen queue has its turn. -/
theorem exec_voqRelease_head {e : QEnt} {rest : List QEnt} {u : State} (hhead : (t.queue (voqKey i c)).items = e :: rest)
    (hu : u = t.voqTurn i high) : exec (.voqRelease late) s =
      if e.pkt.bad && !late && e.released == 0 then .next ((u.dequeue (voqKey i c) e rest).badDropped e.pkt)
      else .next (u.voqSend i c e rest) := by
  subst hu
  show execVoqRelease late s = _
  unfold execVoqRelease
  rw [if_neg (by simp [hup]), hport]
  simp only [hclass, hhead]
end
end

/-! ## Selection at egress -/

section
variable {s : State} {p : Fin 70} {late : Bool} {idle : Prop} (hidle : idle ↔ (s.meets 0x12 1 || s.meets 0x12 0 || s.meets 0x13 0 ||
  s.rgnDown 0x10 || s.rgnDown 0x0D || s.portStopped p) = true ∨ s.eligible p 4 0 p = false ∨ choosePath p 4 0 p s = none)
include hidle

theorem exec_egressSelect_idle (h : idle) : exec (.egressSelect p late) s = .next s := by
  show execEgressSelect p late s = _
  unfold execEgressSelect
  by_cases hdown : (s.meets 0x12 1 || s.meets 0x12 0 || s.meets 0x13 0 || s.rgnDown 0x10 || s.rgnDown 0x0D || s.portStopped p ||
      !s.eligible p 4 0 p) = true
  · exact if_pos hdown
  · rw [if_neg hdown]
    have hnone : choosePath p 4 0 p s = none := by
      rcases hidle.1 h with hstop | hno | hnone
      · exact absurd (by rw [hstop]; rfl) hdown
      · exact absurd (by simp [hno]) hdown
      · exact hnone
    simp only [hnone]

variable (h : ¬ idle)
include h

theorem egressSelect_selects : ¬(s.meets 0x12 1 || s.meets 0x12 0 || s.meets 0x13 0 || s.rgnDown 0x10 || s.rgnDown 0x0D ||
    s.portStopped p || !s.eligible p 4 0 p) = true := by
  intro hdown
  rcases Bool.or_eq_true_iff.1 hdown with hstop | hno
  · exact h (hidle.2 (.inl hstop))
  · exact h (hidle.2 (.inr (.inl (by simpa using hno))))

variable {path : List (Nat × Nat × Bool)} {q : Nat} {t : State} (hpath : choosePath p 4 0 p s = some (path, q, t))
include hpath

theorem exec_egressSelect_empty (hempty : (t.queue (eqKey q)).items = []) : exec (.egressSelect p late) s = .next s := by
  show execEgressSelect p late s = _
  unfold execEgressSelect
  rw [if_neg (egressSelect_selects hidle h)]
  simp only [hpath, hempty]

section
variable {e : QEnt} {rest : List QEnt} (hhead : (t.queue (eqKey q)).items = e :: rest)
include hhead

theorem exec_egressSelect_bad (hbad : e.pkt.bad = true) (hlate : late = false) :
    exec (.egressSelect p late) s = .next ((s.dequeue (eqKey q) e rest).badDropped e.pkt) := by
  subst hlate
  show execEgressSelect p false s = _
  unfold execEgressSelect
  rw [if_neg (egressSelect_selects hidle h)]
  simp only [hpath, hhead]
  exact if_pos (by rw [hbad]; rfl)

/-- The head leaves: its path is charged, its mark set, its queue counts it. -/
theorem exec_egressSelect_sends (hgood : e.pkt.bad = false ∨ late = true) {c : Int} {u : State} {y : Pkt × State} {w : State}
    (hc : c = t.chargeBytes p e.pkt.bytes.length)
    (hu : u = path.foldl (fun s n => s.chargeNode n.1 n.2.1 c (some n.2.2)) (t.chargeNode 0 p c none))
    (hy : y = u.ecnTest (eqKey q) (t.queue (eqKey q)).length e.pkt (eqA R.QUE1_CE_MARKED))
    (hw : w = (((y.2.dequeue (eqKey q) e rest).qCount (eqKey q) 0 1).qCount (eqKey q) 1 e.pkt.bytes.length).bump64
      (schA R.QUE1_SELECTS)) :
    exec (.egressSelect p late) s = .next ((if e.pkt.bad then (w.bump (cellA (if e.pkt.srcDev = 0 then R.BUF_BAD_SENT
      else R.BUF_BAD_RX_END))).raise 0x13 0 2 else w).toEgress p y.1) := by
  have hkeeps : ¬(e.pkt.bad && !late) = true := by
    rcases hgood with hgood | hgood <;> simp [hgood]
  subst hw hy hu hc
  show execEgressSelect p late s = _
  unfold execEgressSelect
  rw [if_neg (egressSelect_selects hidle h)]
  simp only [hpath, hhead]
  exact if_neg hkeeps
end
end

/-- Settles O42: each clause is the equation of its command. -/
theorem queuesAdmitReplicateAndSend : Obligations.QueuesAdmitReplicateAndSend := by
  intro s
  refine ⟨fun i ct => ⟨exec_packetAdmit_empty, fun k r t hhead ht => ⟨exec_packetAdmit_waits hhead, fun hfirst hesp =>
      ⟨exec_packetAdmit_absent hhead ht hfirst hesp, fun hup => ⟨fun g hg => exec_packetAdmit_multicast hhead ht hfirst hesp hup hg,
        fun hg => ?single⟩⟩⟩⟩,
    exec_replExpand_empty, fun o rest g x t hhead hg hx ht => ⟨exec_replExpand_off hhead hg hx ht, fun hon =>
      ⟨exec_replExpand_one hhead hg hx ht hon, fun hmany => ⟨exec_replExpand_noShare hhead hg hx ht hon hmany,
        fun r => exec_replExpand_copies hhead hg hx ht hon hmany⟩⟩⟩,
    fun late => ⟨exec_voqRelease_idle, fun hup i high hport => ⟨exec_voqRelease_noClass hup hport, fun c t hclass =>
      ⟨exec_voqRelease_noPacket hup hport hclass, fun e rest u hhead hu => ?release⟩⟩⟩,
    fun p late idle hidle => ⟨exec_egressSelect_idle hidle, fun path q t hgo hpath => ⟨exec_egressSelect_empty hidle hgo hpath,
      fun e rest hhead => ⟨exec_egressSelect_bad hidle hgo hpath hhead, fun hgood c u y w =>
        exec_egressSelect_sends hidle hgo hpath hhead hgood⟩⟩⟩,
    fun q x due hx hdue => ?stall, fun l => ⟨fun hvalid hworks => if_pos ⟨hvalid, hworks⟩, fun h => if_neg ?epoch⟩,
    fun p c last due hlast hdue => ?pause⟩
  case single =>
    rw [exec_packetAdmit_single hhead ht hfirst hesp hup hg]
    exact ⟨fun p w hd => by rw [hd], fun hd => by rw [hd]⟩
  case release =>
    rw [exec_voqRelease_head hup hport hclass hhead hu]
    refine ⟨fun h => if_neg ?_, fun hbad hlate hnone => if_pos (by simp [hbad, hlate, hnone])⟩
    rcases h with h | h | h <;> simp [h]
  case stall =>
    subst hx
    exact ⟨fun h => if_pos (hdue.1 h), fun h => if_neg (mt hdue.2 h)⟩
  case epoch =>
    rintro ⟨hvalid, hworks⟩
    rcases h with h | h
    · simp [hvalid] at h
    · simp [hworks] at h
  case pause =>
    subst hlast
    refine ⟨fun h => ?_, fun b h hb => (if_pos (hdue.1 h)).trans (by rw [hb])⟩
    by_cases hd : due
    · exact (if_pos (hdue.1 hd)).trans (by rw [h.resolve_left (not_not.2 hd)])
    · exact if_neg (mt hdue.2 hd)

end Sys2Proof.Machine
end

section
/-! PROOF. Swaps of the piste table (R302 to R308) and the filling of slots (R324). -/

namespace Sys2Proof.Machine

section
variable {s : State} {m : Master} (hm : s.mayWrite m (schF 0 R.FAB_PISTE_CTRL))
include hm

theorem exec_pisteArm : exec (.pisteArm m) s = .next s.pisteArm := congrArg Host.Outcome.next (State.asWrite_ok hm)

theorem exec_pisteDisarm : exec (.pisteDisarm m) s = .next s.pisteDisarm := congrArg Host.Outcome.next (State.asWrite_ok hm)
end

section
variable {s : State} {t : Nat} (ht : t = s.instant (schF 0 R.FAB_PISTE_AT_NS))
include ht

/-- ARM's test, as the obligation's list of reasons. -/
theorem State.pisteArm_refused (h : s.time.wtValid = false ∨ s.fab.swapAt ≠ none ∨ t % (8 * lsbSlot) ≠ 0 ∨ t ≤ s.wt ∨
    s.bankOk (1 - s.activeBank) = false) : s.pisteArm = s.raise 0x14 0 3 := by
  subst ht
  refine if_pos ?_
  simp only [Bool.or_eq_true, Bool.not_eq_true', bne_iff_ne, decide_eq_true_eq, Option.isSome_iff_ne_none]
  tauto

theorem State.pisteArm_arms (hvalid : s.time.wtValid = true) (hnone : s.fab.swapAt = none) (hstart : t % (8 * lsbSlot) = 0)
    (hlater : s.wt < t) (hbank : s.bankOk (1 - s.activeBank) = true) :
    s.pisteArm = State.pisteStat { s with fab := { s.fab with swapAt := some t } } 1 1 1 := by
  subst ht
  exact if_neg (by simp [hvalid, hnone, hstart, hlater, hbank])
end

section
variable {s : State}

theorem exec_pisteSwap_none (h : s.fab.swapAt = none) : exec .pisteSwap s = .next s := by
  show execPisteSwap s = _
  unfold execPisteSwap
  rw [h]

variable {t : Nat} (h : s.fab.swapAt = some t)
include h

theorem exec_pisteSwap_early (hdue : s.instantDue t = false) : exec .pisteSwap s = .next s := by
  show execPisteSwap s = _
  unfold execPisteSwap
  rw [h]
  exact if_neg (by simp [hdue])

theorem exec_pisteSwap_due {u v : State} (hdue : s.instantDue t = true)
    (hu : u = State.pisteStat { s with fab := { s.fab with swapAt := none } } 1 1 0) (hv : v = u.activate (1 - u.activeBank)) :
    exec .pisteSwap s = .next ((v.pisteStat 8 8 (v.fld (schF 0 R.FAB_PISTE_STAT) 8 8 + 1)).raise 0x14 0 2) := by
  subst hv hu
  show execPisteSwap s = _
  unfold execPisteSwap
  rw [h]
  exact if_pos hdue
end

section
variable {s : State}

theorem exec_slotFill_fills (hvalid : s.time.wtValid = true) (hruns : s.fabricRuns = true) (hnext : s.fab.filled ≤ s.time.nextSlot)
    {t : State} (ht : t = s.fillSlot s.time.nextSlot) :
    exec .slotFill s = .next { t with fab := { t.fab with filled := s.time.nextSlot + 1 } } := by
  subst ht
  exact if_pos (by simp [hvalid, hruns, hnext])

theorem exec_slotFill_idle (h : s.time.wtValid = false ∨ s.fabricRuns = false ∨ s.time.nextSlot < s.fab.filled) :
    exec .slotFill s = .next s := by
  refine if_neg ?_
  rcases h with h | h | h
  · simp [h]
  · simp [h]
  · simp [Nat.not_le.2 h]
end

/-- Settles O43: ARM by its list of reasons, the swap at its instant, a slot filled once. -/
theorem pisteSwapsAndSlotFilling : Obligations.PisteSwapsAndSlotFilling := by
  intro s
  refine ⟨fun m t hm ht => ?_, fun t h => ⟨exec_pisteSwap_early h, fun u v hdue hu hv => exec_pisteSwap_due h hdue hu hv⟩,
    exec_pisteSwap_none, fun hvalid hruns hnext t => exec_slotFill_fills hvalid hruns hnext, exec_slotFill_idle⟩
  rw [exec_pisteArm hm, exec_pisteDisarm hm]
  exact ⟨fun h => congrArg _ (State.pisteArm_refused ht h),
    fun hvalid hnone hstart hlater hbank => congrArg _ (State.pisteArm_arms ht hvalid hnone hstart hlater hbank), rfl⟩

end Sys2Proof.Machine
end

section
/-! PROOF. The OVC serial ports (R345 to R352): frames on the pins, in the channel and from firmware. -/

namespace Sys2Proof.Machine

section
variable {s : State} {n : Fin 4} {x : OvcSt} {on : Prop} (hx : x = s.ovcPort n)
  (hon : on ↔ s.ovcMode n ≠ 0 ∧ s.blkHeld 0 9 = false)

/-! ## Frames on the pins -/

section
variable {b : List Byte} {aborted : Bool}
include hon

theorem ovcPort_off (h : ¬ on) : s.ovcMode n = 0 ∨ s.blkHeld 0 9 = true := by
  rw [hon, not_and_or, not_not, Bool.not_eq_false] at h
  exact h

theorem ovcPort_on (h : on) : ¬(s.ovcMode n = 0 ∨ s.blkHeld 0 9 = true) := by
  obtain ⟨hmode, hfree⟩ := hon.1 h
  rintro (h | h)
  · exact hmode h
  · simp [hfree] at h

theorem exec_ovcPinFrameRx_off (h : ¬ on) : exec (.ovcPinFrameRx n b aborted) s = .next s := if_pos (ovcPort_off hon h)

theorem exec_ovcPinFrameRx_bad (h : on) (hbad : aborted = true ∨ goodHdlc b = none) :
    exec (.ovcPinFrameRx n b aborted) s = .next (s.ovcBad n) := by
  have hnone : (if aborted then none else goodHdlc b) = none := by
    rcases hbad with hbad | hbad
    · rw [if_pos hbad]
    · rw [hbad, ite_self]
  show execOvcPinFrameRx n b aborted s = _
  unfold execOvcPinFrameRx
  rw [if_neg (ovcPort_on hon h), hnone]

theorem exec_ovcPinFrameRx_good {f : List Byte} {t : State} {y : OvcSt} (h : on) (hgood : goodHdlc b = some f)
    (ht : t = s.bump (ovcCntA n 1)) (hy : y = t.ovcPort n) : exec (.ovcPinFrameRx n b false) s =
      if 8 ≤ y.fromPins.length then .next (t.ovcDrop n)
      else .next ((t.setOvc n { y with fromPins := y.fromPins ++ [(t.wt, f)] }).raiseIf (t.ovcMode n == 1) 0 9 n) := by
  subst hy ht
  show execOvcPinFrameRx n b false s = _
  unfold execOvcPinFrameRx
  rw [if_neg (ovcPort_on hon h), if_neg (by decide), hgood]

include hx

theorem exec_ovcPinFrameTx_idle (h : x.toPins = [] ∨ ¬ on) : exec (.ovcPinFrameTx n) s = .next s := by
  subst hx
  show execOvcPinFrameTx n s = _
  unfold execOvcPinFrameTx
  cases hq : (s.ovcPort n).toPins with
  | nil => simp only [hq]
  | cons f r =>
    simp only [hq]
    exact if_pos (ovcPort_off hon (h.resolve_left (by simp [hq])))

theorem exec_ovcPinFrameTx_sends {f : List Byte} {r : List (List Byte)} (hq : x.toPins = f :: r) (h : on) :
    exec (.ovcPinFrameTx n) s = .next (State.emit ((s.setOvc n { x with toPins := r }).bump (ovcCntA n 0)) (.ovcTx n f)) := by
  subst hx
  show execOvcPinFrameTx n s = _
  unfold execOvcPinFrameTx
  simp only [hq]
  exact if_neg (ovcPort_on hon h)
end

/-! ## The channel of a bridged port -/

section
include hx

theorem exec_ovcChannelFrameRx_idle (h : s.ovcMode n ≠ 2 ∨ s.blkHeld 0 9 = true ∨ x.chanIn.contains 0x7E = false) :
    exec (.ovcChannelFrameRx n) s = .next s := by
  subst hx
  refine if_neg ?_
  rintro ⟨hmode, hfree, hflag⟩
  rcases h with h | h | h
  · exact h hmode
  · simp [hfree] at h
  · rw [hflag] at h
    exact absurd h (by decide)

/-- The first frame among the channel bytes is taken out of them. -/
theorem exec_ovcChannelFrameRx_takes {raw : List Byte} {t : State} (hmode : s.ovcMode n = 2) (hfree : s.blkHeld 0 9 = false)
    (hflag : x.chanIn.contains 0x7E = true) (hraw : raw = x.chanIn.takeWhile (fun b => b != 0x7E))
    (ht : t = s.setOvc n { x with chanIn := (x.chanIn.drop raw.length).dropWhile (fun b => b == 0x7E) }) :
    exec (.ovcChannelFrameRx n) s = match (unstuff raw).bind goodHdlc with
      | none => .next (t.ovcBad n)
      | some f =>
        if 8 ≤ (t.ovcPort n).toPins.length then .next (t.ovcDrop n)
        else .next (t.setOvc n { t.ovcPort n with toPins := (t.ovcPort n).toPins ++ [f] }) := by
  subst ht hraw hx
  exact if_pos ⟨hmode, hfree, hflag⟩

theorem exec_ovcChannelFrameTx_empty (h : x.fromPins = []) : exec (.ovcChannelFrameTx n) s = .next s := by
  subst hx
  show execOvcChannelFrameTx n s = _
  unfold execOvcChannelFrameTx
  simp only [h]

section
variable {w : Nat} {f : List Byte} {r : List (Nat × List Byte)} {due : Prop} (hq : x.fromPins = (w, f) :: r)
  (hdue : due ↔ s.ovcMode n = 2 ∧ s.blkHeld 0 9 = false ∧ x.sending = [] ∧ s.time.wtValid = true ∧
    s.fld (ovcCtrlA n) 12 3 < s.cycleLen ∧ w + lsbUs ≤ s.wt)
include hq hdue

theorem exec_ovcChannelFrameTx_due (h : due) : exec (.ovcChannelFrameTx n) s = .next (s.setOvc n { x with
    fromPins := r
    sending := (0x7E : Byte) :: stuff (withFcs f) ++ [0x7E] }) := by
  subst hx
  show execOvcChannelFrameTx n s = _
  unfold execOvcChannelFrameTx
  simp only [hq]
  exact if_pos (hdue.1 h)

theorem exec_ovcChannelFrameTx_waits (h : ¬ due) : exec (.ovcChannelFrameTx n) s = .next s := by
  subst hx
  show execOvcChannelFrameTx n s = _
  unfold execOvcChannelFrameTx
  simp only [hq]
  exact if_neg (mt hdue.2 h)
end
end

/-! ## Firmware's registers -/

section
variable {m : Master} (v : Word)

theorem exec_ovcTxQueue (h : s.mayWrite m (A.ovc (R.SYS_OVC_TXLEN + 16 * n))) :
    exec (.ovcTxQueue m n v) s = .next (s.ovcTxQueue n v.toNat) := congrArg Host.Outcome.next (State.asWrite_ok h)

theorem exec_ovcRxPop (h : s.mayWrite m (A.ovc (R.SYS_OVC_RXPOP + 4 * n))) :
    exec (.ovcRxPop m n v) s = .next (s.ovcRxPop n v.toNat) := congrArg Host.Outcome.next (State.asWrite_ok h)

theorem exec_ovcCtrlWrite (h : s.mayWrite m (ovcCtrlA n)) :
    exec (.ovcCtrlWrite m n v) s = .next (s.ovcCtrlWrite n v.toNat) := congrArg Host.Outcome.next (State.asWrite_ok h)

include hx

theorem State.ovcTxQueue_refused {len : Nat} (hlen : len = v.toNat % 2048)
    (h : s.ovcMode n ≠ 1 ∨ 8 ≤ x.toPins.length ∨ len = 0 ∨ 1024 < len) : s.ovcTxQueue n v.toNat = s.raise 0 9 (12 + n) := by
  subst hlen hx
  exact if_pos h

theorem State.ovcTxQueue_queues {len : Nat} (hlen : len = v.toNat % 2048) (hmode : s.ovcMode n = 1) (hroom : x.toPins.length < 8)
    (hpos : 0 < len) (hmax : len ≤ 1024) : s.ovcTxQueue n v.toNat = s.setOvc n { x with toPins := x.toPins ++
      [(List.range len).map (fun j => BitVec.ofNat 8 (s.arrayByte (A.ovc (R.SYS_OVC_TXBUF + 1024 * n)) j))] } := by
  subst hlen hx
  exact if_neg (by omega)

theorem State.ovcRxPop_pops (hbit : natBit v.toNat 0 = true) (hmode : s.ovcMode n = 1) :
    s.ovcRxPop n v.toNat = s.setOvc n { x with fromPins := x.fromPins.drop 1 } := by
  subst hx
  exact if_pos (by simp [hbit, hmode])

theorem State.ovcCtrlWrite_ok (h : s.ovcCtrlOk n v.toNat = true) : s.ovcCtrlWrite n v.toNat = State.setOvc
    ((s.wr (ovcCtrlA n) (BitVec.ofNat 32 (v.toNat &&& 0x7FF3))).bump (ovcCntA n 2) (x.toPins.length + x.fromPins.length))
    n OvcSt.reset := by
  subst hx
  exact if_pos h

omit hx

theorem State.ovcRxPop_ignored (h : natBit v.toNat 0 = false ∨ s.ovcMode n ≠ 1) : s.ovcRxPop n v.toNat = s :=
  if_neg (by rcases h with h | h <;> simp [h])

theorem State.ovcCtrlWrite_refused (h : s.ovcCtrlOk n v.toNat = false) : s.ovcCtrlWrite n v.toNat = s.raise 0 9 16 :=
  if_neg (by simp [h])
end
end

/-- Settles O45: each clause is the equation of its command, in its mode and with its FIFO. -/
theorem ovcPortsCarryFrames : Obligations.OvcPortsCarryFrames := by
  intro s n x on hx hon
  refine ⟨fun b aborted => ⟨exec_ovcPinFrameRx_off hon, fun h => exec_ovcPinFrameRx_bad hon h (.inl rfl),
      fun h hbad => exec_ovcPinFrameRx_bad hon h (.inr hbad), fun f t y h hgood ht hy => ?pins⟩,
    exec_ovcChannelFrameRx_idle hx, fun raw t hmode hfree hflag hraw ht => ?channel, exec_ovcPinFrameTx_idle hx hon,
    fun f r => exec_ovcPinFrameTx_sends hx hon, exec_ovcChannelFrameTx_empty hx, fun w f r due hq hdue =>
      ⟨exec_ovcChannelFrameTx_due hx hq hdue, exec_ovcChannelFrameTx_waits hx hq hdue⟩,
    fun m v => ⟨fun len hlen hm => ?send, fun hm => ?pop, fun hm => ?control⟩⟩
  case pins =>
    rw [exec_ovcPinFrameRx_good hon h hgood ht hy]
    exact ⟨fun hfull => if_pos hfull, fun hroom => if_neg (Nat.not_le.2 hroom)⟩
  case channel =>
    rw [exec_ovcChannelFrameRx_takes hx hmode hfree hflag hraw ht]
    refine ⟨fun hbad => by rw [hbad], fun f hf => ?_⟩
    rw [hf]
    exact ⟨fun hfull => if_pos hfull, fun hroom => if_neg (Nat.not_le.2 hroom)⟩
  case send =>
    rw [exec_ovcTxQueue v hm]
    exact ⟨fun h => congrArg _ (State.ovcTxQueue_refused hx v hlen h),
      fun hmode hroom hpos hmax => congrArg _ (State.ovcTxQueue_queues hx v hlen hmode hroom hpos hmax)⟩
  case pop =>
    rw [exec_ovcRxPop v hm]
    exact ⟨fun hbit hmode => congrArg _ (State.ovcRxPop_pops hx v hbit hmode), fun h => congrArg _ (State.ovcRxPop_ignored v h)⟩
  case control =>
    rw [exec_ovcCtrlWrite v hm]
    exact ⟨fun h => congrArg _ (State.ovcCtrlWrite_ok hx v h), fun h => congrArg _ (State.ovcCtrlWrite_refused v h)⟩

end Sys2Proof.Machine
end

section
/-! PROOF. The key commands (R354 to R361): how the window of block KEY starts one, and what each does to the slot at INDEX. -/

namespace Sys2Proof.Machine

/-! ## The window of block KEY -/

/-- A Glide's queue takes no command of SEC. -/
theorem State.winQueues_key (s : State) : s.winQueues keyWinA = false := by
  unfold State.winQueues
  rw [show glideRegion (addrRegion keyWinA) = false by decide, Bool.and_false]

section
variable {s u : State} {v : Word} {c i : Nat} {run : State → Nat → Nat × State}

theorem State.keyCmd_busy (hbusy : s.rbit (keyWinA + 12) 0 = true) (w : Nat) : s.keyCmd w run = s.setFld (keyWinA + 12) 1 3 5 := by
  unfold State.keyCmd
  exact State.winCmd_busy hbusy w

/-- A command that the window starts, by the table it names and the index. -/
theorem State.keyCmd_runs (hfree : s.rbit (keyWinA + 12) 0 = false) (hc : c < 16)
    (hu : u = s.wr keyWinA (BitVec.ofNat 32 (natField v.toNat 4 11 * 16))) (hi : i = u.winIndex keyWinA) {r : Nat × State}
    (hr : (if natField v.toNat 4 8 ≠ 0xB0 then (2, u) else if 131072 ≤ i then (1, u) else run u i) = r) :
    s.keyCmd (withCmd v c) run = r.2.winEnd keyWinA r.1 (if natField v.toNat 4 8 = 0xB0 then 4 else 0) := by
  subst hi hr
  unfold State.keyCmd
  rw [State.winCmd_runs hfree hc (.inr s.winQueues_key) hu, natField_withCmd v c hc 8 4 (by omega)]
end

section
variable {s : State} {m : Master} (hw : s.mayWrite m keyWinA) (v : Word)
include hw

theorem exec_keyRead : exec (.keyRead m v) s = .next (s.keyCmd (withCmd v 1) State.keyReadCmd) :=
  congrArg Host.Outcome.next (State.asWrite_ok hw)

theorem exec_loadPlain : exec (.loadPlain m v) s = .next (s.keyCmd (withCmd v 8) (fun s i => s.keyLoadPlain m i)) :=
  congrArg Host.Outcome.next (State.asWrite_ok hw)

theorem exec_loadWrapped : exec (.loadWrapped m v) s = .next (s.keyCmd (withCmd v 9) State.keyLoadWrapped) :=
  congrArg Host.Outcome.next (State.asWrite_ok hw)

theorem exec_keyExport : exec (.keyExport m v) s = .next (s.keyCmd (withCmd v 10) (fun s i => s.keyExportCmd m i)) :=
  congrArg Host.Outcome.next (State.asWrite_ok hw)

theorem exec_zeroise : exec (.zeroise m v) s = .next (s.keyCmd (withCmd v 11) State.keyZeroise) :=
  congrArg Host.Outcome.next (State.asWrite_ok hw)

/-- The five commands of the window start alike. -/
theorem exec_keyAll : ∀ c ∈ [((1 : Nat), Instr.keyRead m v), (8, .loadPlain m v), (9, .loadWrapped m v), (10, .keyExport m v),
      (11, .zeroise m v)], c.1 < 16 ∧ ∃ run, exec c.2 s = .next (s.keyCmd (withCmd v c.1) run) := by
  simp only [List.forall_mem_cons, exec_keyRead hw, exec_loadPlain hw, exec_loadWrapped hw, exec_keyExport hw, exec_zeroise hw]
  exact ⟨⟨by decide, _, rfl⟩, ⟨by decide, _, rfl⟩, ⟨by decide, _, rfl⟩, ⟨by decide, _, rfl⟩, ⟨by decide, _, rfl⟩,
    List.forall_mem_nil _⟩
end

/-! ## LOAD_PLAIN -/

section
variable {u : State} {m : Master} {i a dk : Nat}

theorem State.keyLoadPlain_noKey (h : u.sec.dk = none) : u.keyLoadPlain m i = u.keyRefuse 1 := if_pos (by simp [h])

variable (hdk : u.sec.dk = some dk)
include hdk

theorem State.keyLoadPlain_notCore (h : isCore m = false) : u.keyLoadPlain m i = u.keyRefuse 4 :=
  (if_neg (by simp [hdk])).trans (if_pos (by simp [h]))

variable (hcore : isCore m = true) (ha : a = u.winWord keyWinA 8 &&& attrMask)
include hcore ha

/-- With a device key and from a core thread, by the attributes and the entropy source. -/
theorem State.keyLoadPlain_attributes : u.keyLoadPlain m i =
    if !natBit a 0 || natField a 2 5 == 0 then u.keyRefuse 5
    else if !u.rngOk then u.keyRefuse 7
    else (0, (u.setKeySlot i a u.winKey).setWinData keyWinA 8 0) := by
  subst ha
  exact (if_neg (by simp [hdk])).trans (if_neg (by simp [hcore]))
end

/-! ## LOAD_WRAPPED -/

section
variable {u : State} {i : Nat}

theorem State.keyLoadWrapped_noKey (h : u.sec.dk = none) : u.keyLoadWrapped i = u.keyRefuse 1 := by
  unfold State.keyLoadWrapped
  rw [h]

theorem State.keyLoadWrapped_takes {dk : Nat} (h : u.sec.dk = some dk) : u.keyLoadWrapped i = u.keyTake i (blobOpen dk u.keyBlob) := by
  unfold State.keyLoadWrapped
  rw [h]
end

/-! ## EXPORT -/

section
variable {u : State} {m : Master} {i e : Nat} (he : e = u.keySlot i)
include he

theorem State.keyExportCmd_empty (h : ksValid e = false) : u.keyExportCmd m i = u.keyRefuse 6 := by
  subst he
  exact if_pos (by simp [h])

variable (hvalid : ksValid e = true)
include hvalid

theorem State.keyExportCmd_notExportable (h : natBit e 1 = false) : u.keyExportCmd m i = u.keyRefuse 3 := by
  subst he
  exact (if_neg (by simp [hvalid])).trans (if_pos (by simp [h]))

variable (hexport : natBit e 1 = true)
include hexport

theorem State.keyExportCmd_notCore (h : isCore m = false) : u.keyExportCmd m i = u.keyRefuse 4 := by
  subst he
  exact (if_neg (by simp [hvalid])).trans ((if_neg (by simp [hexport])).trans (if_pos (by simp [h])))

variable (hcore : isCore m = true)
include hcore

theorem State.keyExportCmd_noEntropy (h : u.rngOk = false) : u.keyExportCmd m i = u.keyRefuse 7 := by
  subst he
  exact (if_neg (by simp [hvalid])).trans ((if_neg (by simp [hexport])).trans ((if_neg (by simp [hcore])).trans (if_pos (by simp [h]))))

variable (hrng : u.rngOk = true)
include hrng

theorem State.keyExportCmd_key : u.keyExportCmd m i = match u.sec.dk with
    | none => u.keyRefuse 1
    | some dk => (0, u.drawn.setWinData keyWinA 16 (leNat (beBytes 12 (u.freeVal 96).toNat ++ leBytes 4 (ksAttr e) ++
        (gcmEnc dk (u.freeVal 96).toNat (leBytes 4 (ksAttr e)) (beBytes 32 (ksKey e))).1 ++
        (gcmEnc dk (u.freeVal 96).toNat (leBytes 4 (ksAttr e)) (beBytes 32 (ksKey e))).2))) := by
  subst he
  refine (if_neg (by simp [hvalid])).trans ((if_neg (by simp [hexport])).trans ((if_neg (by simp [hcore])).trans
    ((if_neg (by simp [hrng])).trans ?_)))
  cases u.sec.dk <;> rfl
end

/-! ## The entropy source -/

theorem exec_rng_runs {s : State} (h : s.rgnRuns 8 = true) :
    exec .rngFail s = .next ((s.setRbit (keyA R.SEC_KEY_STAT) 1 false).raise 8 0 2) ∧
      exec .rngRecover s = .next (s.setRbit (keyA R.SEC_KEY_STAT) 1 true) := ⟨if_pos h, if_pos h⟩

theorem exec_rng_stopped {s : State} (h : s.rgnRuns 8 = false) : exec .rngFail s = .next s ∧ exec .rngRecover s = .next s :=
  ⟨if_neg (by simp [h]), if_neg (by simp [h])⟩

/-- Settles O46: `State.keyCmd_runs` carries each command to its own function, whose cases are the lemmas above. -/
theorem keyCommandsActOrAreRefused : Obligations.KeyCommandsActOrAreRefused := by
  intro s
  refine ⟨fun u m v i a e fin all hm hu hi ha he hfin hall => ?commands, exec_rng_runs, exec_rng_stopped⟩
  subst hall
  have hrun {c : Nat} {run : State → Nat → Nat × State} (hfree : s.rbit (keyWinA + 12) 0 = false) (hc : c < 16) {r : Nat × State}
      (hr : (if natField v.toNat 4 8 ≠ 0xB0 then (2, u) else if 131072 ≤ i then (1, u) else run u i) = r) :
      Host.Outcome.next (s.keyCmd (withCmd v c) run) = (.next (fin r) : Host.Outcome State Fault Refusal) := by
    rw [hfin]
    exact congrArg _ (State.keyCmd_runs hfree hc hu hi hr)
  refine ⟨fun hbusy c hc => ?_, fun hfree ht c hc => ?_, fun hfree ht hbeyond c hc => ?_, fun hfree ht hin => ?acts⟩
  · obtain ⟨-, run, hexec⟩ := exec_keyAll hm v c hc
    rw [hexec, State.keyCmd_busy hbusy]
  · obtain ⟨hlt, run, hexec⟩ := exec_keyAll hm v c hc
    rw [hexec]
    exact hrun hfree hlt (if_pos ht)
  · obtain ⟨hlt, run, hexec⟩ := exec_keyAll hm v c hc
    rw [hexec]
    exact hrun hfree hlt ((if_neg (not_not.2 ht)).trans (if_pos hbeyond))
  case acts =>
    have hgo {c : Nat} {run : State → Nat → Nat × State} (hc : c < 16) {r : Nat × State} (hr : run u i = r) :=
      hrun hfree hc (run := run) ((if_neg (not_not.2 ht)).trans ((if_neg (Nat.not_le.2 hin)).trans hr))
    rw [exec_keyRead hm, exec_loadPlain hm, exec_loadWrapped hm, exec_keyExport hm, exec_zeroise hm]
    refine ⟨hgo (by decide) (by rw [he]; rfl), hgo (by decide) rfl, fun hno => ⟨hgo (by decide) (State.keyLoadPlain_noKey hno),
      hgo (by decide) (State.keyLoadWrapped_noKey hno)⟩, fun dk hdk => ⟨fun hmaster => hgo (by decide)
        (State.keyLoadPlain_notCore hdk hmaster), fun hcore => ?plain, fun hbad => hgo (by decide)
        ((State.keyLoadWrapped_takes hdk).trans (by rw [hbad]; rfl)), fun k hk => hgo (by decide)
        ((State.keyLoadWrapped_takes hdk).trans (by rw [hk]; rfl))⟩,
      fun hempty => hgo (by decide) (State.keyExportCmd_empty he hempty), fun hvalid =>
      ⟨fun hexport => hgo (by decide) (State.keyExportCmd_notExportable he hvalid hexport), fun hexport hmaster => hgo (by decide)
        (State.keyExportCmd_notCore he hvalid hexport hmaster), fun hexport hcore hrng => hgo (by decide)
        (State.keyExportCmd_noEntropy he hvalid hexport hcore hrng), fun hexport hcore hrng hdk => hgo (by decide)
        ((State.keyExportCmd_key he hvalid hexport hcore hrng).trans (by rw [hdk])), fun dk nonce c hexport hcore hrng hdk hnonce hc =>
        hgo (by decide) ((State.keyExportCmd_key he hvalid hexport hcore hrng).trans (by rw [hdk, hc, hnonce]))⟩⟩
    case plain =>
      have hplain := State.keyLoadPlain_attributes (i := i) hdk hcore ha
      refine ⟨fun hbad => hgo (by decide) (hplain.trans (if_pos ?_)), fun h0 huse hrng => hgo (by decide) (hplain.trans ?_),
        fun h0 huse hrng => hgo (by decide) (hplain.trans ?_)⟩
      · rcases hbad with h | h <;> simp [h]
      · rw [if_neg (by simp [h0, huse]), if_pos (by simp [hrng])]
      · rw [if_neg (by simp [h0, huse]), if_neg (by simp [hrng])]

end Sys2Proof.Machine
end

section
/-! PROOF. Lookaside requests (R369 to R373, R439): which request an engine takes, and what processing it gives. -/

namespace Sys2Proof.Machine

/-! ## The operations -/

section
variable {s : State} {r : Fin 256} (e : Fin 32) (x : LkaIo)

theorem exec_lkaAll : ∀ c ∈ [((1 : Nat), Instr.gcmEnc r e x), (2, .gcmDec r e x), (3, .xtsEnc r e x), (4, .xtsDec r e x), (5, .kmac r e x),
    (6, .kmacVerify r e x)], exec c.2 s = .next (s.lkaRun c.1 r e x) := by
  simp only [List.forall_mem_cons]
  exact ⟨rfl, rfl, rfl, rfl, rfl, rfl, List.forall_mem_nil _⟩

theorem exec_lkaProducerWrite_ok {m : Master} (v : Word) (h : s.mayWrite m (lkaA (R.SEC_LKA_PI + 8 * r.val))) :
    exec (.lkaProducerWrite m r v) s = .next (s.wr (lkaA (R.SEC_LKA_PI + 8 * r.val)) (BitVec.ofNat 32 (v.toNat % 65536))) :=
  congrArg Host.Outcome.next (State.asWrite_ok h)
end

/-! ## The request that is taken -/

section
variable {s : State} {op r e : Nat} {x : LkaIo}

theorem State.lkaRun_idle (h : s.meets 8 2 = true ∨ s.lkaTurn r = false) : s.lkaRun op r e x = s := by
  refine if_pos ?_
  rcases h with h | h <;> simp [h]

variable {ring at_ : Nat} {host : Bool} {b : List Byte} {q : LkaReq}

/-- The ring has its turn; its next request, where it stands and what it says. -/
structure LkaTurn (s : State) (r : Nat) (x : LkaIo) (ring at_ : Nat) (host : Bool) (b : List Byte) (q : LkaReq) : Prop where
  serves : s.meets 8 2 = false
  turn : s.lkaTurn r = true
  ring_eq : ring = s.ring r
  host_eq : host = rgHost ring
  place : at_ = rgReq ring + 64 * (s.lkaCi r % rgSize ring)
  bytes : b = if host = true then x.req else s.hbmBytes at_ 64
  request : q = lkaReq b

variable (h : LkaTurn s r x ring at_ host b q)
include h

theorem State.lkaRun_turn : s.lkaRun op r e x =
    if !host && s.hbmMeets at_ 64 then
      ((s.freeBytes 4).2.hbmUeRead at_ 64).lkaComplete r e { q with
        tag := (s.freeBytes 4).1
        flags := 0 } 10 0
    else if b.length ≠ 64 ∨ ¬(q.op = op ∨ q.op < 1 ∨ 6 < q.op) ∨ (host && x.fault == .ok && !lkaInFits q x) = true then s
    else (s.lkaProcess ring q x).2.2.lkaComplete r e q (s.lkaProcess ring q x).1 (s.lkaProcess ring q x).2.1 := by
  obtain ⟨hserves, hturn, rfl, rfl, rfl, rfl, rfl⟩ := h
  exact if_neg (by simp [hserves, hturn])

theorem State.lkaRun_unreadable (hhost : host = false) (hmeets : s.hbmMeets at_ 64 = true) {d : List Byte × State}
    (hd : d = s.freeBytes 4) : s.lkaRun op r e x = (d.2.hbmUeRead at_ 64).lkaComplete r e { q with
      tag := d.1
      flags := 0 } 10 0 := by
  subst hd
  rw [State.lkaRun_turn h, if_pos (by rw [hhost, hmeets]; rfl)]

variable (hread : host = true ∨ s.hbmMeets at_ 64 = false)
include hread

theorem State.lkaRun_read : s.lkaRun op r e x =
    if b.length ≠ 64 ∨ ¬(q.op = op ∨ q.op < 1 ∨ 6 < q.op) ∨ (host && x.fault == .ok && !lkaInFits q x) = true then s
    else (s.lkaProcess ring q x).2.2.lkaComplete r e q (s.lkaProcess ring q x).1 (s.lkaProcess ring q x).2.1 := by
  rw [State.lkaRun_turn h, if_neg]
  rcases hread with hread | hread <;> simp [hread]

theorem State.lkaRun_undelivered (hbad : b.length ≠ 64 ∨ (host = true ∧ x.fault = .ok ∧ lkaInFits q x = false)) :
    s.lkaRun op r e x = s := by
  rw [State.lkaRun_read h hread]
  refine if_pos ?_
  rcases hbad with hlen | ⟨hhost, hok, hfits⟩
  · exact .inl hlen
  · exact .inr (.inr (by simp [hhost, hok, hfits]))

theorem State.lkaRun_otherOp (hlow : 1 ≤ q.op) (hhigh : q.op ≤ 6) (hop : op ≠ q.op) : s.lkaRun op r e x = s := by
  rw [State.lkaRun_read h hread]
  exact if_pos (.inr (.inl (by omega)))

/-- The engine of the request's operation, or any engine where OP is none, completes the request. -/
theorem State.lkaRun_completes (hlen : b.length = 64) (hfits : host = false ∨ x.fault ≠ .ok ∨ lkaInFits q x = true)
    {st done : Nat} {u : State} (hproc : s.lkaProcess ring q x = (st, done, u)) (hop : q.op = op ∨ q.op < 1 ∨ 6 < q.op) :
    s.lkaRun op r e x = u.lkaComplete r e q st done := by
  rw [State.lkaRun_read h hread, hproc, if_neg]
  rintro (hbad | hbad | hbad)
  · exact hbad hlen
  · exact hbad hop
  · rcases hfits with hfits | hfits | hfits <;> simp [hfits] at hbad
end

/-! ## Processing -/

section
variable {s : State} {ring : Nat} {q : LkaReq} {x : LkaIo}

theorem State.lkaProcess_badOp (h : q.op < 1 ∨ 6 < q.op ∨ lkaReserved q = false) : s.lkaProcess ring q x = (9, 0, s) := if_pos h

variable (hmeant : ¬(q.op < 1 ∨ 6 < q.op ∨ lkaReserved q = false))
include hmeant

theorem State.lkaProcess_badRef (h : keyRef q.ref = none) : s.lkaProcess ring q x = (6, 0, s.keyRefBad) := by
  unfold State.lkaProcess
  rw [if_neg hmeant, h]

variable {i c : Nat} {t : State} (hkey : keyRef q.ref = some i) (ht : t = s.raiseIf x.corrupt 8 0 1)
  (hslot : c = t.lkaSlot ring q i x.corrupt)
include hkey ht hslot

/-- Of a reference that matches: the slot's checks, the length checks, faults, and the operation, in that order. -/
theorem State.lkaProcess_key : s.lkaProcess ring q x =
    if c ≠ 0 then (c, 0, t)
    else if lkaLen q ≠ 0 then (lkaLen q, 0, t)
    else if rgHost ring && x.fault == .atCheck then (10, 0, t)
    else if !rgHost ring && (t.lkaHbmFault q || t.lkaUe q) then (10, 0, t.lkaFaultShow q)
    else if rgHost ring && x.fault == .later then
      (10, 0, (t.freeBytes (if q.op = 6 then 0 else lkaDstLen q)).2.lkaWrite ring q.dst
        (t.freeBytes (if q.op = 6 then 0 else lkaDstLen q)).1)
    else ((t.lkaCompute q i (t.lkaIn ring q x)).1, q.len, t.lkaWrite ring q.dst (t.lkaCompute q i (t.lkaIn ring q x)).2) := by
  subst hslot ht
  unfold State.lkaProcess
  rw [if_neg hmeant, hkey]

theorem State.lkaProcess_badSlot (h : c ≠ 0) : s.lkaProcess ring q x = (c, 0, t) :=
  (State.lkaProcess_key hmeant hkey ht hslot).trans (if_pos h)

variable (hok : c = 0)
include hok

theorem State.lkaProcess_badLength (h : lkaLen q ≠ 0) : s.lkaProcess ring q x = (lkaLen q, 0, t) := by
  rw [State.lkaProcess_key hmeant hkey ht hslot, if_neg (not_not.2 hok), if_pos h]

variable (hlen : lkaLen q = 0)
include hlen

theorem State.lkaProcess_faultAtCheck (hhost : rgHost ring = true) (h : x.fault = .atCheck) : s.lkaProcess ring q x = (10, 0, t) := by
  rw [State.lkaProcess_key hmeant hkey ht hslot, if_neg (not_not.2 hok), if_neg (not_not.2 hlen), if_pos (by simp [hhost, h])]

theorem State.lkaProcess_hbmFault (hhost : rgHost ring = false) (h : t.lkaHbmFault q = true ∨ t.lkaUe q = true) :
    s.lkaProcess ring q x = (10, 0, t.lkaFaultShow q) := by
  rw [State.lkaProcess_key hmeant hkey ht hslot, if_neg (not_not.2 hok), if_neg (not_not.2 hlen), if_neg (by simp [hhost]),
    if_pos (by simpa [hhost] using h)]

theorem State.lkaProcess_laterFault (hhost : rgHost ring = true) (h : x.fault = .later) {f : List Byte × State}
    (hf : f = t.freeBytes (if q.op = 6 then 0 else lkaDstLen q)) :
    s.lkaProcess ring q x = (10, 0, f.2.lkaWrite ring q.dst f.1) := by
  rw [State.lkaProcess_key hmeant hkey ht hslot, if_neg (not_not.2 hok), if_neg (not_not.2 hlen), if_neg (by simp [h]),
    if_neg (by simp [hhost]), if_pos (by simp [hhost, h]), hf]
end

/-- Settles O48: which request is taken by the `State.lkaRun` lemmas, what processing gives by the `State.lkaProcess` lemmas. -/
theorem lookasideRequestsRun : Obligations.LookasideRequestsRun := by
  intro s r
  refine ⟨fun m v hm => exec_lkaProducerWrite_ok v hm, fun e x ops hops => ?_⟩
  subst hops
  refine ⟨fun hidle c hc => ?idle, fun hserves hturn ring at_ host b q hring hhost hat hb hq => ?turn⟩
  case idle => rw [exec_lkaAll e x c hc, State.lkaRun_idle hidle]
  case turn =>
    have h : LkaTurn s r x ring at_ host b q := ⟨hserves, hturn, hring, hhost, hat, hb, hq⟩
    refine ⟨fun hdev hmeets d hd c hc => ?_, fun hread => ⟨fun hbad c hc => ?_, fun hlow hhigh c hc hop => ?_,
      fun hlen hfits st done u hproc => ?_⟩⟩
    · rw [exec_lkaAll e x c hc, State.lkaRun_unreadable h hdev hmeets hd]
    · rw [exec_lkaAll e x c hc, State.lkaRun_undelivered h hread hbad]
    · rw [exec_lkaAll e x c hc, State.lkaRun_otherOp h hread hlow hhigh hop]
    · have hrun {op : Nat} (hop : q.op = op ∨ q.op < 1 ∨ 6 < q.op) : s.lkaRun op r e x = u.lkaComplete r e q st done :=
        State.lkaRun_completes h hread hlen hfits hproc hop
      have hresult {a k : Nat} {w : State} (hw : s.lkaProcess ring q x = (a, k, w)) : st = a ∧ done = k ∧ u = w := by
        rw [hproc] at hw
        simpa using hw
      refine ⟨fun hop => congrArg _ (hrun (.inl hop)), fun hop => congrArg _ (hrun (.inl hop)), fun hop => congrArg _ (hrun (.inl hop)),
        fun hop => congrArg _ (hrun (.inl hop)), fun hop => congrArg _ (hrun (.inl hop)), fun hop => congrArg _ (hrun (.inl hop)),
        fun hnone => ?_, fun hlow hhigh => ⟨fun hrsv => hresult (State.lkaProcess_badOp (.inr (.inr hrsv))), fun hrsv => ?_⟩⟩
      · have hno : q.op < 1 ∨ 6 < q.op := hnone.imp_left Nat.lt_one_iff.2
        obtain ⟨hst, hdone, hu⟩ := hresult (State.lkaProcess_badOp (hno.imp_right .inl))
        exact ⟨hst, hdone, hu, fun c hc => by rw [exec_lkaAll e x c hc, hrun (.inr hno)]⟩
      · have hmeant : ¬(q.op < 1 ∨ 6 < q.op ∨ lkaReserved q = false) := by
          rintro (hbad | hbad | hbad)
          · omega
          · omega
          · simp [hrsv] at hbad
        rw [hhost]
        refine ⟨fun hno => hresult (State.lkaProcess_badRef hmeant hno), fun i t c hkey ht hc =>
          ⟨fun hbad => hresult (State.lkaProcess_badSlot hmeant hkey ht hc hbad), fun hok hbad =>
            hresult (State.lkaProcess_badLength hmeant hkey ht hc hok hbad), fun hok hlka => ⟨fun hh hf =>
            hresult (State.lkaProcess_faultAtCheck hmeant hkey ht hc hok hlka hh hf), fun hh hf =>
            hresult (State.lkaProcess_hbmFault hmeant hkey ht hc hok hlka hh hf), fun hh hf f hfree =>
            hresult (State.lkaProcess_laterFault hmeant hkey ht hc hok hlka hh hf hfree), fun hgood y hy => ?_⟩⟩⟩
        subst hy
        refine hresult (State.lkaProcess_computes ⟨hlow, hhigh⟩ hrsv hkey ht (hc ▸ hok) hlka (fun hh => ?_) (fun hh => ?_))
        · rcases hgood with ⟨-, hf⟩ | ⟨hdev, -⟩
          · exact hf
          · simp [hh] at hdev
        · rcases hgood with ⟨hh', -⟩ | ⟨-, hdown, hue⟩
          · simp [hh] at hh'
          · exact ⟨hdown, hue⟩

end Sys2Proof.Machine
end

section
/-! PROOF. Events, interrupts and timers (R386 to R391), the performance counters and the sampler (R399 to R401). -/

namespace Sys2Proof.Machine

/-! ## EV.POLL and EV.WAIT -/

section
variable {s : State} {t : Fin 384} {rd : Fin 32} {mask tmo : BitVec 64} {v : Nat}

theorem exec_ev_notIssuing (h : s.issues t = false) : exec (.evPoll t rd mask) s = .next s ∧ exec (.evWait t rd mask tmo) s = .next s :=
  ⟨if_neg (by simp [h]), if_neg (by simp [h])⟩

variable (hv : v = s.evPend t &&& mask.toNat) (h : s.issues t = true)
include hv h

theorem exec_evPoll_takes : exec (.evPoll t rd mask) s = .next (s.takeEvents t rd v v) := by
  subst hv
  exact if_pos h

theorem exec_evWait_takes (hpend : v ≠ 0) : exec (.evWait t rd mask tmo) s = .next (s.takeEvents t rd v v) := by
  subst hv
  exact (if_pos h).trans (if_pos hpend)

theorem exec_evWait_waits {u : State} {w : Option Nat} (hnone : v = 0) (hu : u = (s.pmuCount t 19).thrTo t .waiting)
    (hw : w = if tmo = 0 then none else some (s.time.ticks + (tmo.toNat * 7 + 11) / 12)) :
    exec (.evWait t rd mask tmo) s = .next (u.setThr t { u.thr t with wait := .ev mask.toNat rd w }) := by
  subst hw hu hv
  exact (if_pos h).trans (if_neg (not_not.2 hnone))
end

/-! ## The end of a wait -/

section
variable {s : State} {t : Fin 384}

theorem exec_evWake_notWaiting (h : (s.thr t).state ≠ .waiting ∨ (∀ mask rd u, (s.thr t).wait ≠ .ev mask rd u)) :
    exec (.evWaitWake t) s = .next s ∧ exec (.evWaitTimeout t) s = .next s := by
  constructor
  · show execEvWaitWake t s = _
    unfold execEvWaitWake
    split
    next mask rd u hstate hwait => exact absurd h (by simp [hstate, hwait])
    next => rfl
  · show execEvWaitTimeout t s = _
    unfold execEvWaitTimeout
    split
    next mask rd u hstate hwait => exact absurd h (by simp [hstate, hwait])
    next => rfl

section
variable {mask rd : Nat} {u : Option Nat} {v : Nat} (hstate : (s.thr t).state = .waiting) (hwait : (s.thr t).wait = .ev mask rd u)
include hstate hwait

theorem exec_evWaitWake_waiting (hv : v = s.evPend t &&& mask) : exec (.evWaitWake t) s =
    if v ≠ 0 then .next ((s.takeEvents t rd v v).thrWake t) else .next s := by
  subst hv
  show execEvWaitWake t s = _
  unfold execEvWaitWake
  rw [hstate, hwait]

theorem exec_evWaitTimeout_waiting : exec (.evWaitTimeout t) s = match (generalizing := false) u with
    | some n => if n ≤ s.time.ticks then .next ((s.setX t rd 0).thrWake t) else .next s
    | none => .next s := by
  show execEvWaitTimeout t s = _
  unfold execEvWaitTimeout
  rw [hstate, hwait]
  cases u <;> rfl
end

/-! ## Interrupts and timers -/

theorem exec_interruptFileWrite_pends {m : Master} {v : Word} (hright : natBit (s.rights (masterCode m) true) (9 + thrRegion t) = true)
    (hthere : s.rgnAbsent (9 + thrRegion t) = false) (hlow : 1 ≤ v.toNat) (hhigh : v.toNat ≤ 255) :
    exec (.interruptFileWrite m t v) s =
      .next (s.setThr t { s.thr t with intr := spPut (fun _ => false) (s.thr t).intr v.toNat true }) :=
  if_pos ⟨hright, hthere, hlow, hhigh⟩

theorem exec_interruptFileWrite_ignored {m : Master} {v : Word} (h : natBit (s.rights (masterCode m) true) (9 + thrRegion t) = false ∨
    s.rgnAbsent (9 + thrRegion t) = true ∨ v.toNat = 0 ∨ 255 < v.toNat) : exec (.interruptFileWrite m t v) s = .next s := by
  refine if_neg ?_
  rintro ⟨hright, hthere, hlow, hhigh⟩
  rcases h with h | h | h | h
  · simp [hright] at h
  · simp [hthere] at h
  · omega
  · omega

theorem exec_samplerOverflow_records {e : Fin 32} {pc : BitVec 64} (hheld : (s.thr t).state ≠ .held)
    (hhalted : (s.thr t).state ≠ .halted) (hcounts : (s.pmu (thrRegion t)).frozen = false) :
    exec (.samplerOverflow t e pc) s = .next (s.setThr t { s.thr t with
      smpEvt := BitVec.ofNat 64 (e.val + 2 ^ 63)
      smpCnt := 0
      smpPc := pc
      overflowIrq := true }) :=
  if_neg (by simp [hheld, hhalted, hcounts])
end

/-! ## The performance counters -/

section
variable {s : State} {m : Master} {r : Fin 3} (hm : s.mayWrite m (pmuA r R.CPU_PMU_CTRL))
include hm

theorem exec_pmu_commands : exec (.pmuFreeze m r) s = .next (s.pmuCtrl r 2) ∧ exec (.pmuThawAt m r) s = .next (s.pmuCtrl r 3) ∧
    exec (.pmuThawNow m r) s = .next (s.pmuCtrl r 4) ∧ exec (.pmuDisarm m r) s = .next (s.pmuCtrl r 5) :=
  ⟨congrArg _ (State.pmuCmd_ok 2 hm), congrArg _ (State.pmuCmd_ok 3 hm), congrArg _ (State.pmuCmd_ok 4 hm),
    congrArg _ (State.pmuCmd_ok 5 hm)⟩
end

section
variable {s : State} {r : Nat} {x : PmuSt} {at_ : Nat} {late : Bool} (hx : x = s.pmu r)
include hx

theorem State.pmuCtrl_freezeRefused (h : x.frozen = true ∨ x.freezeAt ≠ none) : s.pmuCtrl r 2 = s.raise (9 + r) 7 0 := by
  subst hx
  exact if_pos (by simpa [Option.isSome_iff_ne_none] using h)

theorem State.pmuCtrl_disarm : s.pmuCtrl r 5 = (s.setPmu r { x with
    freezeAt := none
    thawAt := none }).pmuStat r := by
  subst hx
  rfl

variable (hat : at_ = s.pmuInstant r) (hlate : late = (s.time.wtValid && decide (at_ < s.wt)))
include hat hlate

theorem State.pmuCtrl_freezeArms (hruns : x.frozen = false) (hno : x.freezeAt = none) : s.pmuCtrl r 2 = (s.setPmu r { x with
    freezeAt := some at_
    late := late }).pmuStat r := by
  subst hlate hat hx
  exact if_neg (by simp [hruns, hno])

theorem State.pmuCtrl_thawAt : s.pmuCtrl r 3 = (s.setPmu r { x with
    thawAt := some at_
    late := late }).pmuStat r := by
  subst hlate hat hx
  rfl
end

section
variable {s : State} {r : Fin 3}

/-- An armed freeze goes before an armed thaw. -/
theorem exec_pmuInstant_freeze {n : Nat} (h : (s.pmu r).freezeAt = some n) : exec (.pmuInstant r) s =
    if s.instantDue n then .next (((s.pmuAccrue r).setPmu r { s.pmu r with
      freezeAt := none
      frozen := true }).pmuStat r)
    else .next s := by
  show execPmuInstant r s = _
  unfold execPmuInstant
  simp only [h]

theorem exec_pmuInstant_thaw {n : Nat} (hno : (s.pmu r).freezeAt = none) (h : (s.pmu r).thawAt = some n) : exec (.pmuInstant r) s =
    if s.instantDue n then .next (s.pmuThaw r) else .next s := by
  show execPmuInstant r s = _
  unfold execPmuInstant
  simp only [hno, h]

theorem exec_pmuInstant_none (hno : (s.pmu r).freezeAt = none) (h : (s.pmu r).thawAt = none) : exec (.pmuInstant r) s = .next s := by
  show execPmuInstant r s = _
  unfold execPmuInstant
  simp only [hno, h]
end

/-- Settles O51: each clause is the equation of its instruction or command. -/
theorem eventsTimersAndCounters : Obligations.EventsTimersAndCounters := by
  intro s
  refine ⟨fun t rd mask tmo v hv => ⟨exec_ev_notIssuing, fun h => ⟨exec_evPoll_takes hv h, exec_evWait_takes hv h,
      fun u w => exec_evWait_waits hv h⟩⟩,
    fun t => ⟨exec_evWake_notWaiting, fun mask rd u v hstate hwait hv => ?wake⟩,
    fun m t v => ⟨exec_interruptFileWrite_pends, exec_interruptFileWrite_ignored⟩,
    fun t => ⟨fun h => if_pos h, fun h => if_neg (not_not.2 h)⟩, fun m r x at_ late hm hx hat hlate => ?commands,
    fun r => ⟨fun n h => ?freeze, fun hno => ⟨fun n h => ?thaw, exec_pmuInstant_none hno⟩⟩,
    fun t e pc => ⟨exec_samplerOverflow_records, fun h => if_pos h⟩⟩
  case wake =>
    rw [exec_evWaitWake_waiting hstate hwait hv, exec_evWaitTimeout_waiting hstate hwait]
    refine ⟨fun hpend => if_pos hpend, fun hnone => if_neg (not_not.2 hnone), fun n hn hpast => ?_, fun n hn hearly => ?_, fun hn => ?_⟩
    · rw [hn]
      exact if_pos hpast
    · rw [hn]
      exact if_neg (Nat.not_le.2 hearly)
    · rw [hn]
  case commands =>
    obtain ⟨hfreeze, hthawAt, hthawNow, hdisarm⟩ := exec_pmu_commands hm
    rw [hfreeze, hthawAt, hthawNow, hdisarm]
    exact ⟨fun h => congrArg _ (State.pmuCtrl_freezeRefused hx h),
      fun hruns hno => congrArg _ (State.pmuCtrl_freezeArms hx hat hlate hruns hno), congrArg _ (State.pmuCtrl_thawAt hx hat hlate), rfl,
      congrArg _ (State.pmuCtrl_disarm hx)⟩
  case freeze =>
    rw [exec_pmuInstant_freeze h]
    exact ⟨fun hdue => if_pos hdue, fun hdue => if_neg (by simp [hdue])⟩
  case thaw =>
    rw [exec_pmuInstant_thaw hno h]
    exact ⟨fun hdue => if_pos hdue, fun hdue => if_neg (by simp [hdue])⟩

end Sys2Proof.Machine
end

section
/-! Threads, the context window, the debugger, deadlock, and the two processor ports. -/

namespace Sys2Proof.Machine

section
variable {s : State} {core : Fin 96}

/-- The running thread of a core leaves it stalled, its event `e` counted: the next READY thread runs, if any. -/
theorem exec_threadSwitch_stalls {t u e : Nat} {why : SwitchWhy} (hrun : some t = (coreThreads core).find? (fun t => (s.thr t).state == .running))
    {x : State} (hx : x = (s.thrTo t .stalled).pmuCount t e) (hwhy : why = .miss ∧ e = 11 ∨ why = .device ∧ e = 13)
    (hu : x.nextReady core (t % 4) = some u) : exec (.threadSwitch core why) s = .next ((x.pmuCount t 7).thrRun u) := by
  subst hx
  show execThreadSwitch core why s = _
  unfold execThreadSwitch
  rcases hwhy with ⟨rfl, rfl⟩ | ⟨rfl, rfl⟩
  · simp only [← hrun, hu]
  · simp only [← hrun, hu]

theorem exec_threadSwitch_stalls_none {t e : Nat} {why : SwitchWhy}
    (hrun : some t = (coreThreads core).find? (fun t => (s.thr t).state == .running))
    {x : State} (hx : x = (s.thrTo t .stalled).pmuCount t e) (hwhy : why = .miss ∧ e = 11 ∨ why = .device ∧ e = 13)
    (hu : x.nextReady core (t % 4) = none) : exec (.threadSwitch core why) s = .next x := by
  subst hx
  show execThreadSwitch core why s = _
  unfold execThreadSwitch
  rcases hwhy with ⟨rfl, rfl⟩ | ⟨rfl, rfl⟩
  · simp only [← hrun, hu]
  · simp only [← hrun, hu]

/-- Without a running thread there is nothing to stall; with one the core is not idle. -/
theorem exec_threadSwitch_noneRuns (hrun : none = (coreThreads core).find? (fun t => (s.thr t).state == .running)) :
    exec (.threadSwitch core .miss) s = .next s ∧ exec (.threadSwitch core .device) s = .next s := by
  show execThreadSwitch core .miss s = _ ∧ execThreadSwitch core .device s = _
  unfold execThreadSwitch
  simp only [← hrun]
  exact ⟨trivial, trivial⟩

theorem exec_threadSwitch_notIdle {t : Nat} (hrun : some t = (coreThreads core).find? (fun t => (s.thr t).state == .running)) :
    exec (.threadSwitch core .idle) s = .next s := by
  show execThreadSwitch core .idle s = _
  unfold execThreadSwitch
  simp only [← hrun]

theorem exec_threadSwitch_idle (hrun : none = (coreThreads core).find? (fun t => (s.thr t).state == .running)) {h : Nat}
    (hh : h = spGet (fun _ => 0) s.cpu.lastRun core.val) :
    (s.nextReady core h = none → exec (.threadSwitch core .idle) s = .next s) ∧
    (∀ u, s.nextReady core h = some u → exec (.threadSwitch core .idle) s =
      .next ((if u = 4 * core.val + h ∨ (s.thr (4 * core.val + h)).state = .held then s
        else s.pmuCount (4 * core.val + h) 7).thrRun u)) := by
  subst hh
  show (_ → execThreadSwitch core .idle s = _) ∧ ∀ u, _ → execThreadSwitch core .idle s = _
  unfold execThreadSwitch
  refine ⟨fun hnone => ?_, fun u hu => ?_⟩
  · simp only [← hrun, hnone]
  · simp only [← hrun, hu]
end

/-- A CTX command finds its thread HELD where the selected number is no thread's or its thread is HELD. -/
def State.ctxHeld (s : State) (t : Nat) : Bool := decide (384 ≤ t) || (s.thr t).state == .held

theorem State.ctxHeld_iff {s : State} {t : Nat} : s.ctxHeld t = true ↔ 384 ≤ t ∨ (s.thr t).state = .held := by
  simp [State.ctxHeld]

theorem State.not_lt_and_ctxHeld {s : State} {t : Nat} (hfree : 384 ≤ t ∨ s.ctxHeld t = false) :
    (decide (t < 384) && (decide (384 ≤ t) || (s.thr t).state == .held)) = false := by
  rcases hfree with hbig | hheld
  · simp [Nat.not_lt.2 hbig]
  · exact Bool.and_eq_false_imp.2 fun _ => hheld

section
variable {s : State} {r t i : Nat} (ht : t = s.fld (ctxA r R.CPU_CTX_SEL) 0 9)
include ht

theorem State.ctxCmd_notHeld (hheld : s.ctxHeld t = false) {c : Nat} (hc : c = 1 ∨ c = 2 ∨ c = 3) : s.ctxCmd r c = s.ctxErr r 1 := by
  unfold State.ctxHeld at hheld
  unfold State.ctxCmd
  simp only [← ht, hheld]
  rcases hc with rfl | rfl | rfl <;> rfl

section
variable (hheld : s.ctxHeld t = true)
include hheld

theorem State.ctxCmd_otherRegion (hother : t / 128 ≠ r) {c : Nat} (hc : c = 1 ∨ c = 2 ∨ c = 3) : s.ctxCmd r c = s.ctxErr r 2 := by
  unfold State.ctxHeld at hheld
  unfold State.ctxCmd
  simp only [← ht, hheld, bne_iff_ne.2 hother]
  rcases hc with rfl | rfl | rfl <;> rfl

theorem State.ctxCmd_release (hown : t / 128 = r) : s.ctxCmd r 3 = (s.thrStart t).ctxErr r 0 := by
  unfold State.ctxHeld at hheld
  unfold State.ctxCmd
  simp [← ht, hheld, hown]

theorem State.ctxCmd_master (hmaster : t = 128 * r) {c : Nat} (hc : c = 1 ∨ c = 2) : s.ctxCmd r c = s.ctxErr r 3 := by
  have hown : t / 128 = r := by omega
  unfold State.ctxHeld at hheld
  unfold State.ctxCmd
  simp only [← ht, hheld, hown, bne_self_eq_false, if_pos hmaster]
  rcases hc with rfl | rfl <;> rfl

section
variable (hi : i = s.fld (ctxA r R.CPU_CTX_IDX) 0 7) (hown : t / 128 = r) (hmaster : t ≠ 128 * r)
include hi hown hmaster

theorem State.ctxCmd_noRegister (hbig : 68 < i) {c : Nat} (hc : c = 1 ∨ c = 2) : s.ctxCmd r c = s.ctxErr r 4 := by
  unfold State.ctxHeld at hheld
  unfold State.ctxCmd
  simp only [← ht, ← hi, hheld, hown, bne_self_eq_false, if_neg hmaster, if_pos hbig]
  rcases hc with rfl | rfl <;> rfl

theorem State.ctxCmd_write (hreg : i ≤ 68) : s.ctxCmd r 1 = (s.setThr t { s.thr t with
    regs := spPut (fun _ => 0) (s.thr t).regs i (BitVec.ofNat 64 (s.rd64 (ctxA r R.CPU_CTX_DATA_LO))) }).ctxErr r 0 := by
  unfold State.ctxHeld at hheld
  unfold State.ctxCmd
  simp [← ht, ← hi, hheld, hown, hmaster, hreg]

theorem State.ctxCmd_read (hreg : i ≤ 68) : s.ctxCmd r 2 =
    (s.wr64 (ctxA r R.CPU_CTX_DATA_LO) (spGet (fun _ => (0 : BitVec 64)) (s.thr t).regs i).toNat).ctxErr r 0 := by
  unfold State.ctxHeld at hheld
  unfold State.ctxCmd
  simp [← ht, ← hi, hheld, hown, hmaster, hreg]
end

theorem State.ctxCmd_reset_held (hlt : t < 384) : s.ctxCmd r 4 = s.ctxErr r 5 := by
  unfold State.ctxHeld at hheld
  unfold State.ctxCmd
  simp [← ht, hheld, hlt]
end

section
variable (hfree : 384 ≤ t ∨ s.ctxHeld t = false)
include hfree

theorem State.ctxCmd_reset_otherRegion (hother : t / 128 ≠ r) : s.ctxCmd r 4 = s.ctxErr r 2 := by
  unfold State.ctxCmd
  simp only [← ht, State.not_lt_and_ctxHeld hfree, bne_iff_ne.2 hother] <;> rfl

theorem State.ctxCmd_reset_master (hmaster : t = 128 * r) : s.ctxCmd r 4 = s.ctxErr r 3 := by
  have hown : t / 128 = r := by omega
  unfold State.ctxCmd
  simp only [← ht, State.not_lt_and_ctxHeld hfree, hown, bne_self_eq_false, if_pos hmaster] <;> rfl

theorem State.ctxCmd_reset_holds (hown : t / 128 = r) (hmaster : t ≠ 128 * r) : s.ctxCmd r 4 = (s.thrHold t).ctxErr r 0 := by
  unfold State.ctxCmd
  simp only [← ht, State.not_lt_and_ctxHeld hfree, hown, bne_self_eq_false, if_neg hmaster] <;> rfl
end
end

/-- The four commands of the context window, once their write passes R91. -/
theorem exec_ctx_commands {s : State} {m : Master} {r : Fin 3} (hw : s.mayWrite m (ctxA r R.CPU_CTX_CMD)) :
    (ctxMay m r = false → ∀ c ∈ [Instr.ctxWrite m r, .ctxRead m r, .ctxRelease m r, .ctxReset m r],
      exec c s = .next (s.accessRefused m (ctxA r R.CPU_CTX_CMD) .denied)) ∧
    (ctxMay m r = true → exec (.ctxWrite m r) s = .next (s.ctxCmd r 1) ∧ exec (.ctxRead m r) s = .next (s.ctxCmd r 2) ∧
      exec (.ctxRelease m r) s = .next (s.ctxCmd r 3) ∧ exec (.ctxReset m r) s = .next (s.ctxCmd r 4)) := by
  have hrefused (c : Nat) (hno : ctxMay m r = false) : s.ctxRun m r c = s.accessRefused m (ctxA r R.CPU_CTX_CMD) .denied :=
    (State.ctxRun_ok c hw).trans (if_neg (by simp [hno]))
  have hruns (c : Nat) (hmay : ctxMay m r = true) : s.ctxRun m r c = s.ctxCmd r c := (State.ctxRun_ok c hw).trans (if_pos hmay)
  refine ⟨fun hno c hc => ?_, fun hmay => ⟨congrArg _ (hruns 1 hmay), congrArg _ (hruns 2 hmay), congrArg _ (hruns 3 hmay),
    congrArg _ (hruns 4 hmay)⟩⟩
  simp only [List.mem_cons, List.not_mem_nil, or_false] at hc
  rcases hc with rfl | rfl | rfl | rfl
  · exact congrArg _ (hrefused 1 hno)
  · exact congrArg _ (hrefused 2 hno)
  · exact congrArg _ (hrefused 3 hno)
  · exact congrArg _ (hrefused 4 hno)

section
variable {s : State} {t : Fin 384}

theorem exec_debugHalt_ignored (h : (s.thr t).state = .held ∨ (s.thr t).state = .halted ∨ s.rgnWorks (9 + thrRegion t) = false ∨
    s.blkHeld (9 + thrRegion t) 6 = true) : exec (.debugHalt t) s = .next s :=
  congrArg _ (if_pos h)

/-- What a halt does with the thread's four staging slots. -/
theorem State.debugHalt_halts {t : Nat} (hheld : (s.thr t).state ≠ .held) (hhalted : (s.thr t).state ≠ .halted)
    (hworks : s.rgnWorks (9 + thrRegion t) = true) (hblk : s.blkHeld (9 + thrRegion t) 6 = false) : s.debugHalt t =
      (List.range 4).foldl (fun (u : State) i => ((u.thr t).stage.getD i none).elim u (u.slotHeld t i)) (s.thrTo t .halted) := by
  unfold State.debugHalt
  refine (if_neg (by simp [hheld, hhalted, hworks, hblk])).trans (List.foldl_ext _ _ _ fun u i _ => ?_)
  cases (u.thr t).stage.getD i none with
  | none => exact (Option.elim_none u (u.slotHeld t i)).symm
  | some x => exact (Option.elim_some u (u.slotHeld t i) x).symm

theorem exec_debugHalt_halts (hheld : (s.thr t).state ≠ .held) (hhalted : (s.thr t).state ≠ .halted)
    (hworks : s.rgnWorks (9 + thrRegion t) = true) (hblk : s.blkHeld (9 + thrRegion t) 6 = false) : exec (.debugHalt t) s =
      .next ((List.range 4).foldl (fun (u : State) i => ((u.thr t).stage.getD i none).elim u (u.slotHeld t i)) (s.thrTo t .halted)) :=
  congrArg Host.Outcome.next (State.debugHalt_halts hheld hhalted hworks hblk)

theorem exec_debugResume_halted (h : (s.thr t).state = .halted) {st : ThrState} (hst : st = if (s.thr t).wait = .none_ then .ready else .waiting) :
    exec (.debugResume t) s = .next (s.thrTo t st) := by
  subst hst
  exact congrArg _ (if_pos h)
end

section
variable {s : State} {cl : Fin 12}

theorem exec_deadlock_no (h : ¬ (s.clusterDead cl = true ∧ s.declared cl = false ∧
    s.rbit (A.cl (cl.val / 4) (cl.val % 4) R.CPU_DLK_CTRL) 0 = true ∧ s.rgnWorks (9 + cl.val / 4) = true)) :
    exec (.deadlock cl) s = .next s :=
  if_pos (by simpa [Classical.not_and_iff_not_or_not, or_assoc, -not_and] using h)

theorem exec_deadlock_declares {u : State} (h : s.clusterDead cl = true ∧ s.declared cl = false ∧
    s.rbit (A.cl (cl.val / 4) (cl.val % 4) R.CPU_DLK_CTRL) 0 = true ∧ s.rgnWorks (9 + cl.val / 4) = true)
    (hu : u = ((s.setDeclared cl true).wr (A.cl (cl.val / 4) (cl.val % 4) R.CPU_DLK_MASK)
      (BitVec.ofNat 32 (bitsWhere (fun j => s.onThreads (32 * cl.val + j)) 32))).bump (A.cl (cl.val / 4) (cl.val % 4) R.CPU_DLK_CNT)) :
    exec (.deadlock cl) s = .next (((if u.coreInReset (32 * cl.val) then u else u.setEvent (32 * cl.val) 63).masterWoken
      (32 * cl.val)).raise (9 + cl.val / 4) (cl.val % 4) 0) := by
  subst hu
  obtain ⟨hdead, hdecl, hon, hworks⟩ := h
  exact if_neg (by simp [hdead, hdecl, hon, hworks])
end

section
variable {u : State} {k : Pkt} {i c e : Nat} (he : e = u.chEntry c)
include he

theorem State.portRx_noChannel (h : 49152 ≤ c ∨ u.chAbsent c = true ∨ chEn e = false ∨ chKind e ≠ 1) : u.portRx k i c = u.procAbsent k i := by
  subst he
  exact if_pos h

section
variable (hc : c < 49152) (habsent : u.chAbsent c = false) (hen : chEn e = true) (hkind : chKind e = 1)
include hc habsent hen hkind

theorem State.portRx_noCredit (hcredit : u.creditFree c = false) : u.portRx k i c = u.chDrop c 128 := by
  subst he
  exact (if_neg (by simp [Nat.not_le.2 hc, habsent, hen, hkind])).trans (if_pos (by simp [hcredit]))

section
variable {b n : Nat} {w : State} (hcredit : u.creditFree c = true) (halloc : u.poolAlloc (chPool e) = (b, w))
  (hn : n = 128 + k.bytes.length)
include hcredit halloc

/-- With a credit it is the buffer that decides. -/
theorem State.portRx_alloc : u.portRx k i c = if b = 0 then w else
    if (match w.poolOf b with | some p => pdSize (w.poolDesc p) | none => 0) < 128 + k.bytes.length then (w.poolFree b 4 0).chDrop c 144
    else if w.hbmRangeDown b (128 + k.bytes.length) then (w.poolFree b 4 0).absentDrop (9 + chRegion c)
    else ((w.hbmStore b (padTo 128 (k.hv.take 128) ++ k.bytes)).chDevice c 1
      ((w.hbmStore b (padTo 128 (k.hv.take 128) ++ k.bytes)).portRxDesc k i b)).2 := by
  subst he
  refine (if_neg (by simp [Nat.not_le.2 hc, habsent, hen, hkind])).trans ((if_neg (by simp [hcredit])).trans ?_)
  simp only [halloc] <;> rfl

theorem State.portRx_emptyPool (hb : b = 0) : u.portRx k i c = w :=
  (State.portRx_alloc he hc habsent hen hkind hcredit halloc).trans (if_pos hb)

variable {size : Nat} (hb : b ≠ 0) (hsize : size = (w.poolOf b).elim 0 (fun p => pdSize (w.poolDesc p)))
include hb hsize hn

theorem State.portRx_small (hfit : size < n) : u.portRx k i c = (w.poolFree b 4 0).chDrop c 144 := by
  subst hn hsize
  rw [State.portRx_alloc he hc habsent hen hkind hcredit halloc, if_neg hb]
  cases hp : w.poolOf b
  all_goals rw [hp] at hfit; exact if_pos hfit

theorem State.portRx_fits (hfit : n ≤ size) : u.portRx k i c = if w.hbmRangeDown b n then (w.poolFree b 4 0).absentDrop (9 + chRegion c)
    else ((w.hbmStore b (padTo 128 (k.hv.take 128) ++ k.bytes)).chDevice c 1
      ((w.hbmStore b (padTo 128 (k.hv.take 128) ++ k.bytes)).portRxDesc k i b)).2 := by
  subst hn hsize
  rw [State.portRx_alloc he hc habsent hen hkind hcredit halloc, if_neg hb]
  cases hp : w.poolOf b
  all_goals rw [hp] at hfit; exact if_neg (Nat.not_lt.2 hfit)
end
end
end

/-- The packet for the processor port leaves its queue for its channel. -/
theorem exec_deviceChannelWrite_takes {s u : State} {x : EgPkt} {r : List EgPkt} {c : Nat} (hq : s.que.procOut = x :: r)
    (hc : x.pkt.dest = .processor c ∨ (c = 0 ∧ ∀ d, x.pkt.dest ≠ .processor d))
    (hu : u = { s with que := { s.que with procOut := r } }) :
    exec .deviceChannelWrite s = .next ((u.portRx x.pkt x.port c).dropPkt x.pkt) := by
  subst hu
  have hdest : (match x.pkt.dest with | .processor c => c | _ => 0) = c := by
    rcases hc with hc | ⟨rfl, hno⟩
    · rw [hc]
    · generalize x.pkt.dest = d at hno
      cases d
      case processor d => exact absurd rfl (hno d)
      all_goals rfl
  subst hdest
  show execDeviceChannelWrite s = _
  unfold execDeviceChannelWrite
  rw [hq] <;> rfl

section
variable {s : State} {c e i : Nat} {d : List Byte}

/-- The descriptor's fields name no packet the port can send (R395). -/
def ptxMalformed (d : List Byte) : Prop :=
  ¬((d.getD 0 0).toNat = 2 ∨ (d.getD 0 0).toNat = 3) ∨ leNat ((d.drop 2).take 2) < 14 ∨ 16380 < leNat ((d.drop 2).take 2) ∨
    poolMemory (leNat ((d.drop 8).take 8)) (leNat ((d.drop 2).take 2)) = false

theorem State.portTx_malformed (h : ptxMalformed d) : s.portTx c d = (s.portTxFree d).chDrop c 160 := if_pos h

theorem State.portTx_absent (h : ¬ ptxMalformed d) (hdown : s.hbmRangeDown (leNat ((d.drop 8).take 8)) (leNat ((d.drop 2).take 2)) = true) :
    s.portTx c d = (s.portTxFree d).absentDrop (9 + chRegion c) :=
  (if_neg h).trans (if_pos hdown)

section
variable {n a : Nat} (hwell : ¬ ptxMalformed d) (hn : n = leNat ((d.drop 2).take 2)) (ha : a = leNat ((d.drop 8).take 8))
  (hi : i = c % 16) (hup : s.hbmRangeDown a n = false) {k : Pkt}
  (hk : k = { Pkt.empty with
    bytes := s.hbmBytes a n
    port := 68
    kind := 2
    qp := c
    tag := if natBit (d.getD 1 0).toNat 1 then some (leNat ((d.drop 4).take 4)) else none })
include hwell hn ha hi hup hk

theorem State.portTx_ingress (htype : (d.getD 0 0).toNat = 2) : s.portTx c d =
    (s.setPipe i { s.pipe i with procIn := (s.pipe i).procIn ++ [k] }).portTxFree d := by
  subst hn ha hi hk
  exact (if_neg hwell).trans ((if_neg (by simp [hup])).trans (if_pos htype))

theorem State.portTx_direct (htype : (d.getD 0 0).toNat = 3) {w : Nat} (hw : w = leNat ((d.drop 16).take 4)) : s.portTx c d =
    ((s.setPipe i { s.pipe i with toBuf := (s.pipe i).toBuf ++ [{ k with
      odd := s.verOdd
      accepted := s.wt
      dest := .unicast (natField w 0 17)
      tc := natField w 17 3
      rewrite := natField (leNat ((d.drop 20).take 3)) 0 20 }] }).inflAdd s.verOdd).portTxFree d := by
  subst hn ha hi hk hw
  exact (if_neg hwell).trans ((if_neg (by simp [hup])).trans (if_neg (fun h => absurd (htype.symm.trans h) (by decide))))
end
end

section
variable {s : State} {c : Fin 49152} {e i : Nat} (he : e = s.chEntry c.val) (hi : i = c.val % 16)
include he hi

theorem exec_portTxProcess_idle (h : ¬ (s.chAbsent c.val = false ∧ s.meets (pipeRegion i) (i % 4) = false ∧ chEn e = true ∧
    chKind e = 2 ∧ (s.chan c.val).fill ≠ 0 ∧ s.hbmRangeDown (chBase e) (64 * chSize e) = false)) : exec (.portTxProcess c) s = .next s := by
  subst he hi
  exact if_pos (by simpa [Classical.not_and_iff_not_or_not, -not_and] using h)

theorem exec_portTxProcess_takes {d : List Byte} {u : State} (h : s.chAbsent c.val = false ∧ s.meets (pipeRegion i) (i % 4) = false ∧
    chEn e = true ∧ chKind e = 2 ∧ (s.chan c.val).fill ≠ 0 ∧ s.hbmRangeDown (chBase e) (64 * chSize e) = false)
    (htake : s.chTake c.val = (d, u)) : exec (.portTxProcess c) s = .next (u.portTx c.val d) := by
  subst he hi
  obtain ⟨habsent, hpipe, hen, hkind, hfill, hup⟩ := h
  refine (if_neg ?_).trans (by rw [htake])
  simp only [habsent, hpipe, hen, hkind, hfill, hup]
  decide
end

/-- Settles O53: each clause is the equation of its operation. -/
theorem threadsAndPortsAreServed : Obligations.ThreadsAndPortsAreServed := by
  intro s
  refine ⟨fun core run hrun => ⟨fun hnone => exec_threadSwitch_noneRuns (hnone ▸ hrun), fun t ht => ?stalls,
      fun hnone h hh => exec_threadSwitch_idle (hnone ▸ hrun) hh, fun h => ⟨fun hst => if_pos hst, fun hst => if_neg hst⟩⟩,
    fun m r t i held hw ht hi hheld => ?context,
    fun t => ⟨exec_debugHalt_ignored, exec_debugHalt_halts, fun h hwait => exec_debugResume_halted h (if_pos hwait).symm,
      fun h hwait => exec_debugResume_halted h (if_neg hwait).symm, fun h => congrArg _ (if_neg h)⟩,
    fun cl on hon => ⟨fun hno => exec_deadlock_no (fun h => hno (hon.2 h)), fun u h hu => exec_deadlock_declares (hon.1 h) hu⟩,
    fun hq => ?portIdle, fun x r c u e hq hc hu he => ?port, fun c e i on he hi hon => ⟨fun hno =>
      exec_portTxProcess_idle he hi (fun h => hno (hon.2 h)), fun h d u type n a k w htake htype hn ha hw hk => ?portTx⟩⟩
  case stalls =>
    subst ht
    refine ⟨exec_threadSwitch_notIdle hrun, fun c hc x hx => ?_⟩
    simp only [List.mem_cons, List.not_mem_nil, or_false] at hc
    rcases hc with rfl | rfl
    · exact ⟨fun u hu => exec_threadSwitch_stalls hrun hx (.inl ⟨rfl, rfl⟩) hu, fun hu =>
        exec_threadSwitch_stalls_none hrun hx (.inl ⟨rfl, rfl⟩) hu⟩
    · exact ⟨fun u hu => exec_threadSwitch_stalls hrun hx (.inr ⟨rfl, rfl⟩) hu, fun hu =>
        exec_threadSwitch_stalls_none hrun hx (.inr ⟨rfl, rfl⟩) hu⟩
  case context =>
    obtain ⟨hrefused, hruns⟩ := exec_ctx_commands (r := r) hw
    refine ⟨hrefused, fun hmay => ?_⟩
    obtain ⟨hwrite, hread, hrelease, hreset⟩ := hruns hmay
    have hyes (h : held) : s.ctxHeld t = true := State.ctxHeld_iff.2 (hheld.1 h)
    have hno (h : ¬ held) : s.ctxHeld t = false := Bool.eq_false_iff.2 fun hh => h (hheld.2 (State.ctxHeld_iff.1 hh))
    have hthree {x : State} (hx : ∀ {c : Nat}, c = 1 ∨ c = 2 ∨ c = 3 → s.ctxCmd r c = x) :
        ∀ c ∈ [Instr.ctxWrite m r, .ctxRead m r, .ctxRelease m r], exec c s = .next x := by
      rw [List.forall_mem_cons, List.forall_mem_cons, List.forall_mem_singleton, hwrite, hread, hrelease, hx (.inl rfl),
        hx (.inr (.inl rfl)), hx (.inr (.inr rfl))]
      exact ⟨rfl, rfl, rfl⟩
    refine ⟨fun h => hthree (State.ctxCmd_notHeld ht (hno h)), fun h hother => hthree (State.ctxCmd_otherRegion ht (hyes h) hother),
      fun h hown => ⟨?_, fun hm => ⟨?_, ?_⟩, fun hm hbig => ⟨?_, ?_⟩, fun hm hreg => ⟨fun y hy => ?_, ?_⟩⟩,
      fun hlt h => ?_, fun hfree => ⟨fun hother => ?_, fun hm => ?_, fun hown hm => ?_⟩⟩
    · exact hrelease.trans (congrArg _ (State.ctxCmd_release ht (hyes h) hown))
    · exact hwrite.trans (congrArg _ (State.ctxCmd_master ht (hyes h) hm (.inl rfl)))
    · exact hread.trans (congrArg _ (State.ctxCmd_master ht (hyes h) hm (.inr rfl)))
    · exact hwrite.trans (congrArg _ (State.ctxCmd_noRegister ht (hyes h) hi hown hm hbig (.inl rfl)))
    · exact hread.trans (congrArg _ (State.ctxCmd_noRegister ht (hyes h) hi hown hm hbig (.inr rfl)))
    · exact hwrite.trans (congrArg _ (hy ▸ State.ctxCmd_write ht (hyes h) hi hown hm hreg))
    · exact hread.trans (congrArg _ (State.ctxCmd_read ht (hyes h) hi hown hm hreg))
    · exact hreset.trans (congrArg _ (State.ctxCmd_reset_held ht (hyes h) hlt))
    · exact hreset.trans (congrArg _ (State.ctxCmd_reset_otherRegion ht (hfree.imp_right hno) hother))
    · exact hreset.trans (congrArg _ (State.ctxCmd_reset_master ht (hfree.imp_right hno) hm))
    · exact hreset.trans (congrArg _ (State.ctxCmd_reset_holds ht (hfree.imp_right hno) hown hm))
  case portIdle =>
    show execDeviceChannelWrite s = _
    unfold execDeviceChannelWrite
    rw [hq]
  case port =>
    rw [exec_deviceChannelWrite_takes hq hc hu]
    refine ⟨fun hno => by rw [State.portRx_noChannel he hno], fun hlt habsent hen hkind => ⟨fun hcredit => by
      rw [State.portRx_noCredit he hlt habsent hen hkind hcredit], fun b n w hcredit halloc hn => ⟨fun hb => by
        rw [State.portRx_emptyPool he hlt habsent hen hkind hcredit halloc hb], fun hb size hsize => ⟨fun hfit => by
          rw [State.portRx_small he hlt habsent hen hkind hcredit halloc hn hb hsize hfit], fun hfit hdown => ?_,
          fun hfit hup y hy => ?_⟩⟩⟩⟩
    · rw [State.portRx_fits he hlt habsent hen hkind hcredit halloc hn hb hsize hfit, if_pos hdown]
    · subst hy
      rw [State.portRx_fits he hlt habsent hen hkind hcredit halloc hn hb hsize hfit, if_neg (by simp [hup])]
  case portTx =>
    rw [exec_portTxProcess_takes he hi (hon.1 h) htake]
    have hnot (htypes : type = 2 ∨ type = 3) (hmin : 14 ≤ n) (hmax : n ≤ 16380) (hmem : poolMemory a n = true) : ¬ ptxMalformed d := by
      subst htype hn ha
      exact fun hbad => hbad.elim (absurd htypes) (fun hbad => hbad.elim (Nat.not_lt.2 hmin) (fun hbad => hbad.elim (Nat.not_lt.2 hmax)
        (fun hbad => by simp [hmem] at hbad)))
    refine ⟨fun hbad => ?_, fun htypes hmin hmax hmem => ⟨fun hdown => ?_, fun hup => ⟨fun ht => ?_, fun ht => ?_⟩⟩⟩
    · subst htype hn ha
      rw [State.portTx_malformed hbad]
    · have hwell := hnot htypes hmin hmax hmem
      subst hn ha
      exact congrArg _ (State.portTx_absent hwell hdown)
    · rw [State.portTx_ingress (hnot htypes hmin hmax hmem) hn ha hi hup hk (htype ▸ ht)]
    · rw [State.portTx_direct (hnot htypes hmin hmax hmem) hn ha hi hup hk (htype ▸ ht) hw]

end Sys2Proof.Machine
end

section
/-! NVMe commands of HOST's block function, from their doorbell to their completion (R424 to R427). -/

namespace Sys2Proof.Machine

section
variable {s : State} {l op nsid : Nat} {e : List Byte}

theorem State.cmdStatus_unknown (h : op ∉ [0, 1, 2, 8, 9]) : s.cmdStatus l op nsid e = 0x01 :=
  if_pos (by simpa [opFlush, opWrite, opRead, opZeroes, opDataset] using h)

theorem State.cmdStatus_known (h : op ∈ [0, 1, 2, 8, 9]) : s.cmdStatus l op nsid e = match s.namespace_ l nsid with
    | none => 0x0B
    | some ns =>
      if 1048576 < cmdBytes ns op e then 0x02
      else if opRanged op && decide (nsSize ns < entLe e 40 8 + entLe e 48 2 + 1) then 0x80
      else if nsProt ns && (op == 1 || op == 8 || op == 9) then 0x20
      else 0 :=
  if_neg (not_not.2 (by simpa [opFlush, opWrite, opRead, opZeroes, opDataset] using h))

theorem State.cmdStatus_noNamespace (h : op ∈ [0, 1, 2, 8, 9]) (hno : s.namespace_ l nsid = none) : s.cmdStatus l op nsid e = 0x0B := by
  rw [State.cmdStatus_known h, hno]

section
variable {ns : Nat} (h : op ∈ [0, 1, 2, 8, 9]) (hns : s.namespace_ l nsid = some ns)
include h hns

theorem State.cmdStatus_tooLong (hlong : 1048576 < cmdBytes ns op e) : s.cmdStatus l op nsid e = 0x02 := by
  rw [State.cmdStatus_known h, hns]
  exact if_pos hlong

variable (hfits : cmdBytes ns op e ≤ 1048576) {beyond : Bool}
  (hbeyond : beyond = (opRanged op && decide (nsSize ns < entLe e 40 8 + entLe e 48 2 + 1)))
include hfits hbeyond

theorem State.cmdStatus_beyond (hb : beyond = true) : s.cmdStatus l op nsid e = 0x80 := by
  rw [State.cmdStatus_known h, hns]
  exact (if_neg (Nat.not_lt.2 hfits)).trans (if_pos (hbeyond ▸ hb))

theorem State.cmdStatus_protected (hb : beyond = false) (hprot : nsProt ns = true) (hwrites : op ∈ [1, 8, 9]) :
    s.cmdStatus l op nsid e = 0x20 := by
  rw [State.cmdStatus_known h, hns]
  refine (if_neg (Nat.not_lt.2 hfits)).trans ((if_neg (Bool.eq_false_iff.1 (hbeyond.symm.trans hb))).trans (if_pos ?_))
  simpa [hprot, or_assoc] using hwrites

theorem State.cmdStatus_passes (hb : beyond = false) (hprot : nsProt ns = false ∨ op ∉ [1, 8, 9]) : s.cmdStatus l op nsid e = 0 := by
  rw [State.cmdStatus_known h, hns]
  refine (if_neg (Nat.not_lt.2 hfits)).trans ((if_neg (Bool.eq_false_iff.1 (hbeyond.symm.trans hb))).trans (if_neg ?_))
  rcases hprot with hprot | hop
  · simp [hprot]
  · simp_all
end
end

/-- The keys of an XTS write are there, or none are needed. -/
theorem State.xtsKeys_found {w : State} {c : NvmeCmd} {ns : Nat} {xts : Bool} (hxts : xts = (c.queue != 0 && nsXts ns && c.opcode == 1))
    (hgo : xts = false ∨ w.nsKeys ns ≠ none) : (!(c.queue == 0) && nsXts ns && c.opcode == opWrite && (w.nsKeys ns).isNone) ≠ true := by
  show ¬ ((c.queue != 0 && nsXts ns && c.opcode == 1) && (w.nsKeys ns).isNone) = true
  rw [← hxts]
  rcases hgo with hno | hkeys
  · simp [hno]
  · simp [hkeys]

section
variable {w : State} {c : NvmeCmd} {ns : Nat} {xts : Bool}
  (hns : ns = (w.namespace_ c.link c.nsid).getD (w.tabN 0xC 3 0xF3 (c.link * 256))) (hfree : c.handed = false)
  (hxts : xts = (c.queue != 0 && nsXts ns && c.opcode == 1))
include hns

theorem State.blkTry_waits (hmay : w.blkMay ns c = false) : w.blkTry c = w := by
  subst hns
  exact if_pos (by simp [hmay])

variable (hmay : w.blkMay ns c = true)
include hfree hmay hxts

theorem State.blkTry_noKeys (hx : xts = true) (hkeys : w.nsKeys ns = none) : w.blkTry c = (w.nsRefCount ns).nvmeEnd c 0 0x06 := by
  subst hns hxts
  refine (if_neg (by simp [hfree, hmay])).trans (if_pos ?_)
  rw [hkeys, ← hx]
  exact Bool.and_true _

section
variable (hgo : xts = false ∨ w.nsKeys ns ≠ none) {bufs : Option (List Nat)} {t u : State}
  (hbufs : blkAllocN (nsSlice ns) (nsPool ns) ((c.bytes + 65535) / 65536) w = (bufs, t))
include hgo hbufs

theorem State.blkTry_noBuffers (hnone : bufs = none) : w.blkTry c = t := by
  have hk := State.xtsKeys_found hxts hgo
  subst hns hnone
  refine (if_neg (by simp [hfree, hmay])).trans ((if_neg hk).trans ?_)
  rw [hbufs]

variable {bl : List Nat} (hbl : bufs = some bl)
include hbl

theorem State.blkTry_noList (hlist : t.blkAlloc (nsSlice ns) t.listPool = (none, u)) :
    w.blkTry c = bl.foldl (fun (s : State) a => s.blkFree (nsSlice ns) a) u := by
  have hk := State.xtsKeys_found hxts hgo
  subst hns hbl
  refine (if_neg (by simp [hfree, hmay])).trans ((if_neg hk).trans ?_)
  simp only [hbufs, hlist]

theorem State.blkTry_handsOff {list : Nat} (hlist : t.blkAlloc (nsSlice ns) t.listPool = (some list, u)) {data : List Byte} {v : State}
    {d : NvmeCmd} (hdata : data = if c.queue ≠ 0 ∧ (c.opcode = 1 ∨ c.opcode = 9) then
      c.data.take c.bytes ++ List.replicate (c.bytes - c.data.length) 0 else [])
    (hv : v = (u.bufsWrite bl (if xts then (u.nsKeys ns).elim data
      (fun k => xtsUnits true k.1 k.2 (nsLba ns) data.length c.slba data) else data)).hbmStore list (c.entry ++ bl.flatMap (leBytes 8)))
    (hd : d = { c with
      handed := true
      handle := v.freeHandle
      bufs := bl
      listBuf := list
      data := [] }) :
    w.blkTry c = (State.chDevice { v with host := { v.host with
      nvme := v.host.nvme.map (fun x => if x = c then d else x) } } (nsChannel ns) 3
        (handOffDesc (c.queue == 0) d v.freeHandle list)).2 := by
  have hk := State.xtsKeys_found hxts hgo
  subst hns hbl hv hd
  refine (if_neg (by simp [hfree, hmay])).trans ((if_neg hk).trans ?_)
  have hfromHost : (!(c.queue == 0) && opFromHost c.opcode) = decide (c.queue ≠ 0 ∧ (c.opcode = 1 ∨ c.opcode = 9)) := by
    simp [opFromHost, opWrite, opDataset, Bool.beq_eq_decide_eq]
  have hsecret : (!(c.queue == 0) && nsXts ((w.namespace_ c.link c.nsid).getD (w.tabN 0xC 3 0xF3 (c.link * 256))) &&
    c.opcode == opWrite) = xts := hxts.symm
  simp only [hbufs, hlist, hfromHost, decide_eq_true_eq, ← hdata, hsecret]
  cases xts with
  | false => rfl
  | true =>
    cases u.nsKeys ((w.namespace_ c.link c.nsid).getD (w.tabN 0xC 3 0xF3 (c.link * 256))) with
    | none => rfl
    | some k => rfl
end
end

section
variable {s : State} {l : Nat} {x : NvmeIn} {e : List Byte} {op nsid cid ns : Nat}
  (he : e = (x.entry ++ List.replicate (64 - x.entry.length) 0).take 64) (hop : op = (e.getD 0 0).toNat) (hnsid : nsid = entLe e 4 4)
  (hcid : cid = entLe e 2 2)
include he hop hnsid hcid

/-- An I/O command that a check refuses completes at once. -/
theorem State.nvmeTake_fails (hq : x.queue.val ≠ 0) {st : Nat} (hst : st = s.cmdStatus l op nsid e) (hbad : st ≠ 0) {fail : State}
    (hfail : fail = (match s.queueSlice l x.queue.val with
      | some n => s.dirtyFlushSlice n
      | none => s).emit (.nvmeDone l x.queue.val cid 0 st)) : s.nvmeTake l x = fail.emit (.msix l 2 x.queue.val) := by
  subst he hop hnsid hcid hst hfail
  unfold State.nvmeTake
  simp only [if_neg hq]
  exact if_pos hbad

/-- Any other command joins the list and is tried. -/
theorem State.nvmeTake_joins (hns : ns = (s.namespace_ l nsid).getD (s.tabN 0xC 3 0xF3 (l * 256)))
    (hgood : x.queue.val = 0 ∨ s.cmdStatus l op nsid e = 0) {c : NvmeCmd} {w : State}
    (hc : c = ⟨false, 0, l, x.queue, cid, op, nsid, entLe e 40 8,
      if x.queue.val = 0 then natSum (x.segs.map (·.2)) else cmdBytes ns op e, e, x.segs, x.data, [], 0, none, s.time.ticks⟩)
    (hw : w = { s with host := { s.host with nvme := s.host.nvme ++ [c] } }) : s.nvmeTake l x = w.blkTry c := by
  subst he hop hnsid hcid hns hc hw
  refine if_neg (not_not.2 ?_)
  rcases hgood with hq | hst
  · exact if_pos hq
  · exact ite_eq_left_iff.2 fun _ => hst
end

section
variable {s : State} {l : Fin 4} {x : NvmeIn}

theorem exec_nvmeDoorbell_notReady (h : (s.hlink l.val).ccEn = false ∨ (s.hlink l.val).rdy = false) : exec (.nvmeDoorbell l x) s = .next s := by
  refine if_pos ?_
  rcases h with h | h
  · simp [h]
  · simp [h]

/-- The queue's slice takes no block doorbell of the link. -/
def State.badDoorbell (s : State) (l y : Nat) : Prop := ∃ n, s.queueSlice l y = some n ∧
  (slStop (s.sliceEntry n) = true ∨ slBlk (s.sliceEntry n) = false ∨ slLink (s.sliceEntry n) ≠ l)

variable (hup : s.hostUp = true) (hen : (s.hlink l.val).ccEn = true) (hrdy : (s.hlink l.val).rdy = true)
include hup hen hrdy

theorem exec_nvmeDoorbell_bad (hbad : s.badDoorbell l.val x.queue.val) : exec (.nvmeDoorbell l x) s = .next (s.bump (lnkA R.HOST_DB_DROP)) := by
  obtain ⟨n, hn, hslice⟩ := hbad
  refine (if_neg (by simp [hup, hen, hrdy])).trans (congrArg _ (if_pos ?_))
  rw [hn]
  simpa [or_assoc] using hslice

theorem exec_nvmeDoorbell_takes (hgood : ¬ s.badDoorbell l.val x.queue.val) : exec (.nvmeDoorbell l x) s = .next (s.nvmeTake l.val x) := by
  refine (if_neg (by simp [hup, hen, hrdy])).trans (congrArg _ (if_neg ?_))
  cases hn : s.queueSlice l.val x.queue.val with
  | none => exact Bool.false_ne_true
  | some n => exact fun h => hgood ⟨n, hn, by simpa [or_assoc] using h⟩
end

section
variable {u : State} {c : NvmeCmd} {dw0 st ns : Nat} (hns : ns = (u.namespace_ c.link c.nsid).getD (u.tabN 0xC 3 0xF3 (c.link * 256)))
  {read : Bool} (hread : read = ((c.queue != 0 && c.opcode == 2) || (c.queue == 0 && !c.bufs.isEmpty && natBit c.opcode 1)))
include hns hread

omit hns in
theorem State.nvmeResult_noData (h : read = false) : u.nvmeResult c dw0 st = u.nvmeEnd c dw0 st := by
  exact if_pos (congrArg not (hread.symm.trans h))

variable (h : read = true)
include h

theorem State.nvmeResult_data : u.nvmeResult c dw0 st =
    if u.bufsMeet c.bufs c.bytes then (u.bufsUe c.bufs c.bytes).nvmeEnd c 0 0x06
    else if c.queue != 0 && nsXts ns then
      match u.nsKeys ns with
      | none => (u.nsRefCount ns).nvmeEnd c 0 0x06
      | some k => (u.segsWrite c.link (u.queueSlice c.link c.queue) c.segs
          (xtsUnits false k.1 k.2 (nsLba ns) (u.bufsRead c.bufs c.bytes).length c.slba (u.bufsRead c.bufs c.bytes))).nvmeEnd c dw0 st
    else (u.segsWrite c.link (u.queueSlice c.link c.queue) c.segs (u.bufsRead c.bufs c.bytes)).nvmeEnd c dw0 st := by
  subst hns
  exact if_neg (ne_true_of_eq_false (congrArg not (hread.symm.trans h)))

theorem State.nvmeResult_ue (hmeet : u.bufsMeet c.bufs c.bytes = true) :
    u.nvmeResult c dw0 st = (u.bufsUe c.bufs c.bytes).nvmeEnd c 0 0x06 :=
  (State.nvmeResult_data hns hread h).trans (if_pos hmeet)

variable (hmeet : u.bufsMeet c.bufs c.bytes = false) {data : List Byte} (hdata : data = u.bufsRead c.bufs c.bytes)
include hmeet hdata

theorem State.nvmeResult_plain (hplain : c.queue = 0 ∨ nsXts ns = false) : u.nvmeResult c dw0 st =
    (u.segsWrite c.link (u.queueSlice c.link c.queue) c.segs data).nvmeEnd c dw0 st := by
  subst hdata
  refine (State.nvmeResult_data hns hread h).trans ((if_neg (by simp [hmeet])).trans (if_neg ?_))
  rcases hplain with hq | hx
  · simp [hq]
  · simp [hx]

variable (hq : c.queue ≠ 0) (hx : nsXts ns = true)
include hq hx

omit hdata in
theorem State.nvmeResult_noKeys (hkeys : u.nsKeys ns = none) : u.nvmeResult c dw0 st = (u.nsRefCount ns).nvmeEnd c 0 0x06 := by
  refine (State.nvmeResult_data hns hread h).trans ((if_neg (by simp [hmeet])).trans ((if_pos (by simp [hq, hx])).trans ?_))
  rw [hkeys]

theorem State.nvmeResult_decrypts {k : Nat × Nat} (hkeys : u.nsKeys ns = some k) : u.nvmeResult c dw0 st =
    (u.segsWrite c.link (u.queueSlice c.link c.queue) c.segs (xtsUnits false k.1 k.2 (nsLba ns) data.length c.slba data)).nvmeEnd c dw0 st := by
  subst hdata
  refine (State.nvmeResult_data hns hread h).trans ((if_neg (by simp [hmeet])).trans ((if_pos (by simp [hq, hx])).trans ?_))
  rw [hkeys]
end

section
variable {s u : State} {m : Master} {v : Word} (hw : s.mayWrite m (blkA (R.HOST_BLK_DONE + 12)))
  (hu : u = s.wr (blkA (R.HOST_BLK_DONE + 12)) v) {got : Option NvmeCmd}
  (hgot : got = u.host.nvme.find? (fun c => c.handed && c.result.isNone && c.handle == (u.rd (blkA R.HOST_BLK_DONE)).toNat))
include hw hu hgot

theorem exec_nvmeDone_late (h : got = none) : exec (.nvmeDone m v) s = .next (u.bump (blkA R.HOST_BLK_LATE)) := by
  subst hu
  refine congrArg Host.Outcome.next ((State.asWrite_ok hw).trans ?_)
  unfold State.blkDone
  rw [← hgot, h]

variable {c : NvmeCmd} {dw0 st : Nat} (h : got = some c) (hdw0 : dw0 = (u.rd (blkA (R.HOST_BLK_DONE + 8))).toNat)
  (hst : st = u.fld (blkA (R.HOST_BLK_DONE + 4)) 0 16)
include h hdw0 hst

theorem exec_nvmeDone_found : exec (.nvmeDone m v) s = .next (if u.resultWaits c then
      { u with host := { u.host with nvme := u.host.nvme.map (fun x => if x = c then { c with result := some (dw0, st) } else x) } }
    else (u.nvmeResult c dw0 st).blkRetry) := by
  subst hu hdw0 hst
  refine congrArg Host.Outcome.next ((State.asWrite_ok hw).trans ?_)
  unfold State.blkDone
  rw [← hgot, h]
end

section
variable {s : State} {i : Fin 65536}

theorem exec_nvmeTimeout_none (h : s.host.nvme[i.val]? = none) : exec (.nvmeTimeout i) s = .next s := by
  show execNvmeTimeout i s = _
  unfold execNvmeTimeout
  rw [h]

theorem exec_nvmeTimeout_some {c : NvmeCmd} (h : s.host.nvme[i.val]? = some c) : exec (.nvmeTimeout i) s =
    if s.hostUp && decide (c.tick + s.fld (blkA R.HOST_BLK_TMO) 0 17 * 1000 * ticksPerUs ≤ s.time.ticks) then
      .next (((s.nvmeEnd c 0 0x22).raise 0xC 3 0).blkRetry)
    else .next s := by
  show execNvmeTimeout i s = _
  unfold execNvmeTimeout
  rw [h]
end

theorem exec_nvmeTimeout_hostDown {s : State} {i : Fin 65536} (hdown : s.hostUp = false) : exec (.nvmeTimeout i) s = .next s := by
  cases h : s.host.nvme[i.val]? with
  | none => exact exec_nvmeTimeout_none h
  | some c => exact (exec_nvmeTimeout_some h).trans (if_neg (by simp [hdown]))

theorem exec_nvmeCcDisable_up {s u : State} {l : Fin 4} (hup : s.hostUp = true)
    (hu : u = s.setHlink l.val { s.hlink l.val with ccEn := false }) : exec (.nvmeCcDisable l) s =
      .next (if (u.hlink l.val).rdy && !u.host.nvme.any (fun c => c.link == l.val) && !(u.hlink l.val).ccEn then
        u.setHlink l.val { u.hlink l.val with rdy := false } else u) := by
  subst hu
  refine (if_pos hup).trans (congrArg Host.Outcome.next (if_congr ?_ rfl rfl))
  simp only [Bool.and_eq_true]
  tauto

/-- Settles O56: each clause is the equation of its instruction, the checks those of `State.cmdStatus`. -/
theorem blockCommandsRun : Obligations.BlockCommandsRun := by
  intro s
  refine ⟨fun hdown l x i => ?down, fun hup l x y bad hy hbad => ⟨exec_nvmeDoorbell_notReady, fun hen hrdy => ⟨fun hb =>
      exec_nvmeDoorbell_bad hup hen hrdy ((hy ▸ hbad).1 hb), fun hb e op nsid cid ns he hop hnsid hcid hns => ?doorbell⟩⟩,
    fun m v u got hw hu hgot => ⟨exec_nvmeDone_late hw hu hgot, fun c dw0 st ns read h hdw0 hst hns hread => ?done⟩,
    fun hup => ⟨fun i => ⟨exec_nvmeTimeout_none, fun c h => ?timeout⟩, fun l => ⟨fun u hu => exec_nvmeCcDisable_up hup hu,
      fun hlink => if_pos (by simp [hup, hlink]), fun hlink => if_neg (by simp [hlink])⟩⟩⟩
  case down =>
    intro c hc
    simp only [List.mem_cons, List.not_mem_nil, or_false] at hc
    rcases hc with rfl | rfl | rfl | rfl
    · exact if_pos (by simp [hdown])
    · exact exec_nvmeTimeout_hostDown hdown
    · exact if_neg (by simp [hdown])
    · exact if_neg (by simp [hdown])
  case doorbell =>
    subst hy
    have htake := exec_nvmeDoorbell_takes hup hen hrdy (fun h => hb (hbad.2 h))
    refine ⟨fun hq st fail hst hfail => ⟨fun hno => hst.trans (State.cmdStatus_unknown hno), fun hknown => ⟨fun hnone =>
      hst.trans (State.cmdStatus_noNamespace hknown hnone), fun hsome => ?status⟩, fun hne =>
        htake.trans (congrArg _ (State.nvmeTake_fails he hop hnsid hcid hq hst hne hfail))⟩,
      fun hgood n xts c w hn hxts hc hw => ?joins⟩
    case status =>
      obtain ⟨d, hd⟩ := Option.ne_none_iff_exists'.1 hsome
      obtain rfl : ns = d := by rw [hns, hd, Option.getD_some]
      subst hst
      exact ⟨State.cmdStatus_tooLong hknown hd, fun hfits beyond hbeyond => ⟨State.cmdStatus_beyond hknown hd hfits hbeyond,
        State.cmdStatus_protected hknown hd hfits hbeyond, State.cmdStatus_passes hknown hd hfits hbeyond⟩⟩
    case joins =>
      have hjoins := htake.trans (congrArg _ (State.nvmeTake_joins he hop hnsid hcid hns hgood hc hw))
      rw [hjoins]
      subst hn
      subst hc
      have hns' : ns = (w.namespace_ l.val nsid).getD (w.tabN 0xC 3 0xF3 (l.val * 256)) := by
        subst hw
        exact hns
      refine ⟨fun hmay => congrArg _ (State.blkTry_waits hns' hmay), fun hmay hx hkeys => congrArg _
        (State.blkTry_noKeys hns' rfl hxts hmay hx hkeys), fun hmay hgo bufs t hbufs => ⟨fun hnone => congrArg _
        (State.blkTry_noBuffers hns' rfl hxts hmay hgo hbufs hnone), fun bl u hbl hlist => congrArg _
        (State.blkTry_noList hns' rfl hxts hmay hgo hbufs hbl hlist), fun bl list u data v d hbl hlist hdata hv hd => congrArg _
        (State.blkTry_handsOff hns' rfl hxts hmay hgo hbufs hbl hlist hdata hv hd)⟩⟩
  case done =>
    rw [exec_nvmeDone_found hw hu hgot h hdw0 hst]
    refine ⟨fun hwaits => congrArg _ (if_pos hwaits), fun hposts => ?_⟩
    rw [if_neg (by simp [hposts])]
    refine ⟨fun hno => ?_, fun hyes hmeet => ?_, fun hyes hmeet data seg hdata hseg => ⟨fun hplain => ?_, fun hq hx => ⟨fun hkeys => ?_,
      fun k hkeys => ?_⟩⟩⟩
    · rw [State.nvmeResult_noData hread hno]
    · rw [State.nvmeResult_ue hns hread hyes hmeet]
    · rw [State.nvmeResult_plain hns hread hyes hmeet hdata hplain, hseg]
    · rw [State.nvmeResult_noKeys hns hread hyes hmeet hq hx hkeys]
    · rw [State.nvmeResult_decrypts hns hread hyes hmeet hdata hq hx hkeys, hseg]
  case timeout =>
    rw [exec_nvmeTimeout_some h]
    exact ⟨fun hpast => if_pos (by simp [hup, hpast]), fun hearly => if_neg (by simp [Nat.not_le.2 hearly])⟩

end Sys2Proof.Machine
end

section
/-! Requests to the HBM stacks, and the upkeep of their pages, rows, temperatures and lines (R431 to R439). -/

namespace Sys2Proof.Machine

section
variable {s : State} {q : HbmReq}

theorem exec_hbmAccess_notOk (h : hbmReqOk q = false) : exec (.hbmAccess q) s = .next s := if_pos (by simp [h])

variable (hok : hbmReqOk q = true) {a : Nat} (ha : a = q.addr.toNat)
include hok ha

theorem exec_hbmAccess_noRange (hnone : hbmPacked s.boot.h48 a = none) :
    exec (.hbmAccess q) s = .next ((s.addrErr a).hbmFailed (a / 4096 % 4) q) := by
  subst ha
  refine (if_neg (by simp [hok])).trans ?_
  rw [hnone]

variable {p n : Nat} (hp : hbmPacked s.boot.h48 a = some p) (hn : n = p / 4096 % 4)
include hp hn

theorem exec_hbmAccess_absent (hdown : s.hbmDown a = true) :
    exec (.hbmAccess q) s = .next ((s.bump (A.gw (0x16 + n) R.GW_ABSENT_SENT)).emit (.hbmReply q.tag.toNat none)) := by
  subst ha hn
  refine (if_neg (by simp [hok])).trans ?_
  rw [hp]
  exact if_pos hdown

variable {t : State} (hup : s.hbmDown a = false) (ht : t = s.hbmDrain n)
include hup ht

theorem exec_hbmAccess_inRun : exec (.hbmAccess q) s =
    if t.rbit (memA n R.MEM_STAT) 1 || (t.stack n).held.any (fun w => w.tag == q.tag) || t.hbmThrottled n p q then
      .next (t.setStack n { t.stack n with
        held := (t.stack n).held ++ [q]
        lastReq := t.time.ticks })
    else .next (t.hbmServe n p q) := by
  subst ha hn ht
  refine (if_neg (by simp [hok])).trans ?_
  rw [hp]
  exact if_neg (by simp [hup])
end

/-- A failed request answers no data; a far lane's and a spill's are counted. -/
theorem State.hbmFailed_eq {s : State} {n : Nat} {q : HbmReq} {drop : Prop}
    (hdrop : drop ↔ tagKind q.tag.toNat = 5 ∨ (tagKind q.tag.toNat = 3 ∧ 0x1000000000 ≤ q.addr.toNat)) :
    (drop → s.hbmFailed n q = (s.bump (rasA n R.MEM_UE_DROP)).emit (.hbmReply q.tag.toNat none)) ∧
    (¬ drop → s.hbmFailed n q = s.emit (.hbmReply q.tag.toNat none)) := by
  have hcond : (tagKind q.tag.toNat == 5 || (tagKind q.tag.toNat == 3 && decide (0x1000000000 ≤ q.addr.toNat))) = true ↔ drop := by
    simp [hdrop]
  refine ⟨fun h => ?_, fun h => ?_⟩
  · exact congrArg (State.hbmAnswer · q none) (if_pos (hcond.2 h))
  · exact congrArg (State.hbmAnswer · q none) (if_neg (mt hcond.1 h))

section
variable {t v u w : State} {n p l ofs line rank row bank : Nat} {q : HbmReq} {bad : Bool}
  (hl : l = (hbmPlace p).1) (hofs : ofs = (hbmPlace p).2) (hline : line = ofs / 64) (hrank : rank = t.servingRank n l line)
  (hrow : row = (Config.hbmRow ofs).toNat) (hbank : bank = (Config.hbmBank ofs).toNat)
include hl hofs hline hrank hrow hbank

/-- The request of a place waits in self-refresh, behind one of its requester, or throttled at its row. -/
theorem State.hbmWaits_iff {waits : Prop} (hwaits : waits ↔ t.rbit (memA n R.MEM_STAT) 1 = true ∨ (∃ w ∈ (t.stack n).held, w.tag = q.tag) ∨
    t.rhWaits n q.tag.toNat rank bank row = true) :
    (t.rbit (memA n R.MEM_STAT) 1 || (t.stack n).held.any (fun w => w.tag == q.tag) || t.hbmThrottled n p q) = true ↔ waits := by
  subst hl hofs hline hrank hrow hbank
  rw [hwaits, Bool.or_eq_true, Bool.or_eq_true, or_assoc]
  simp [State.hbmThrottled]

variable (hv : v = t.rowActivate n q.tag.toNat rank bank row)
  (hu : u = (if q.err = .parityOnce ∨ q.err = .parityTwice then
    (((v.setStack n { v.stack n with lastReq := v.time.ticks }).rankCount n rank 2).raise (0x16 + n) 1 1).rankOut n l
    else v.setStack n { v.stack n with lastReq := v.time.ticks }))
  (hbad : bad = (q.err == .uncorrectable || u.poisoned n rank line))
include hv hu hbad

theorem State.hbmServe_read (hread : q.write = none) (hw : w = u.bump64 (memA n R.MEM_RD_BYTES) q.len) : t.hbmServe n p q =
    if bad || q.err == .parityTwice then w.hbmUe n l rank line q
    else (if q.err = .corrected then w.rankCount n rank 0 else w).hbmAnswer q
      (some (w.hbmBytes q.addr.toNat q.len)) := by
  subst hl hofs hline hrank hrow hbank hv hu hbad hw
  obtain ⟨tag, addr, len, write, err⟩ := q
  obtain rfl : write = none := hread
  rfl

theorem State.hbmServe_write {d : List Byte} (hwrite : q.write = some d) (hw : w = u.bump64 (memA n R.MEM_WR_BYTES) q.len) :
    t.hbmServe n p q = if q.err = .parityTwice then (w.setPoison n rank line true).hbmAnswer q (some []) else
      (((if !decide (d.length = 64) && bad then
        (if !decide (d.length = 64) && q.err == .corrected then w.rankCount n rank 0 else w).mergeUe n l rank
        else if !decide (d.length = 64) && q.err == .corrected then w.rankCount n rank 0 else w).setPoison n rank line
          (!decide (d.length = 64) && bad)).hbmWrite q.addr.toNat d).hbmAnswer q (some []) := by
  subst hl hofs hline hrank hrow hbank hv hu hbad hw
  obtain ⟨tag, addr, len, write, err⟩ := q
  obtain rfl : write = some d := hwrite
  rfl
end

theorem State.hbmBytes_rankCount (s : State) (n rank c a k : Nat) : (s.rankCount n rank c).hbmBytes a k = s.hbmBytes a k := by
  unfold State.rankCount
  split
  · rfl
  · exact congrArg (memBytes hbmEmpty · a k) (State.setTabN_hbm ..)

section
variable {s : State} {n : Fin 4}

theorem exec_pageIdlePrecharge_eq {rank : Fin 96} {bank : Fin 64} {i : Nat} {b : BankSt} (hi : i = rank.val * 64 + bank.val)
    (hb : b = spGet (fun _ => BankSt.reset) (s.stack n.val).banks i) : exec (.pageIdlePrecharge n rank bank) s =
      if b.open_.isSome && decide (b.tick * 10 + s.fld (memA n.val R.MEM_PAGE_IDLE) 0 11 * 7 ≤ s.time.ticks * 10) then
        .next (s.setStack n.val { s.stack n.val with
          banks := spPut (fun _ => BankSt.reset) (s.stack n.val).banks i { b with open_ := none } })
      else .next s := by
  subst hi hb
  rfl

section
variable {m : Master} {x : MemSt} (hx : x = s.stack n.val)
include hx

theorem exec_rhLogReadHead_reads (hr : s.mayRead m (rasA n.val R.MEM_RH_LOG)) : exec (.rhLogReadHead m n) s =
    .next ((s.setStack n.val { x with logLatch := headPut x.logLatch (some m) x.log.head? }).emit
      (.reply m (x.log.head?.elim 0 (fun e => rowLogWord e 0)))) := by
  subst hx
  refine congrArg Host.Outcome.next ((State.asRead_ok hr).trans ?_)
  unfold State.rhHead
  dsimp only
  cases (s.stack n.val).log.head? <;> rfl

variable (hr : s.mayRead m (rasA n.val (R.MEM_RH_LOG + 12))) {latch : List (Nat × Option RowLog)} (hlatch : latch = headPut x.logLatch (some m) none)
include hr hlatch

theorem exec_rhLogReadPop_empty (hlog : x.log = []) :
    exec (.rhLogReadPop m n) s = .next ((s.setStack n.val { x with logLatch := latch }).emit (.reply m 0)) := by
  subst hx hlatch
  refine congrArg Host.Outcome.next ((State.asRead_ok hr).trans ?_)
  unfold State.rhPop
  simp only [hlog]

theorem exec_rhLogReadPop_pops {e : RowLog} {r : List RowLog} (hlog : x.log = e :: r) : exec (.rhLogReadPop m n) s =
    .next ((s.setStack n.val { x with
      logLatch := latch
      log := r }).emit (.reply m (rowLogWord ((headOf x.logLatch (some m)).getD e) 3))) := by
  subst hx hlatch
  refine congrArg Host.Outcome.next ((State.asRead_ok hr).trans ?_)
  unfold State.rhPop
  simp only [hlog]
  cases headOf (s.stack n.val).logLatch (some m) <;> rfl
end
end

theorem exec_tempReadout_reads {s t u w : State} {n : Fin 4} {x : MemSt} {a hot : Nat} {v : Fin 256} (hx : x = s.stack n.val)
    (ha : a = memA n.val R.MEM_STAT) (hhot : hot = if 105 ≤ v.val then x.hot + 1 else 0)
    (ht : t = (s.setFld a 8 8 v.val).setStack n.val { x with
      tempFails := 0
      hot := hot
      delayTemp := if delayDue x.delayTemp v.val then some v.val else x.delayTemp })
    (hu : u = (if 85 < v.val then (if t.rbit a 2 then t else (t.setRbit a 2 true).raise (0x16 + n.val) 0 1)
      else if v.val ≤ 83 then t.setRbit a 2 false else t))
    (hw : w = u.setFld thermStatA 16 8 u.hbmHottest) :
    exec (.tempReadout n (some v)) s = if 3 ≤ hot ∧ w.awake = true then .next (w.chipFatal 4) else .next w.throttleEval := by
  subst hx ha hhot ht hu hw
  rfl

section
variable {s : State} {n : Fin 4} {err : HbmErr} {i l line rank : Nat} {off : Prop} (hi : i = (s.stack n.val).scrub)
  (hl : l = i / s.rankLines) (hline : line = i % s.rankLines) (hrank : rank = s.servingRank n.val l line)
  (hoff : off ↔ s.fld (rasA n.val R.MEM_SCRUB_HOURS) 0 8 = 0 ∨ s.rbit (memA n.val R.MEM_STAT) 1 = true ∨
    s.rgnDown (0x16 + n.val) = true ∨ s.maintWaits n.val rank (64 * line) = true)
include hi hl hline hrank hoff

theorem exec_patrolScrub_off (h : off) : exec (.patrolScrub n err) s = .next s := by
  subst hi hl hline hrank
  by_cases hrest : s.fld (rasA n.val R.MEM_SCRUB_HOURS) 0 8 = 0 ∨ s.rbit (memA n.val R.MEM_STAT) 1 = true ∨ s.rgnDown (0x16 + n.val) = true
  · exact if_pos hrest
  · obtain ⟨hhours, hsr, hrgn⟩ : _ ∧ _ ∧ _ := by simpa only [not_or] using hrest
    exact (if_neg hrest).trans (if_pos ((((hoff.1 h).resolve_left hhours).resolve_left hsr).resolve_left hrgn))

theorem exec_patrolScrub_reads (h : ¬ off) {v t u : State} (hv : v = s.maintain n.val rank (64 * line))
    (ht : t = v.setStack n.val { v.stack n.val with scrub := if i + 1 = 94 * v.rankLines then 0 else i + 1 })
    (hu : u = if err = .parityOnce ∨ err = .parityTwice then ((t.rankCount n.val rank 2).raise (0x16 + n.val) 1 1).rankOut n.val l else t) :
    exec (.patrolScrub n err) s = if err = .uncorrectable ∨ err = .parityTwice ∨ u.poisoned n.val rank line = true then
        .next ((((u.rankCount n.val rank 1).setPoison n.val rank line true).raise (0x16 + n.val) 1 0).rankOut n.val l)
      else .next (if err = .corrected then u.rankCount n.val rank 0 else u) := by
  obtain ⟨hhours, hsr, hrgn, hwaits⟩ : _ ∧ _ ∧ _ ∧ _ := by simpa only [hoff, not_or] using h
  subst hi hl hline hrank hv ht hu
  exact (if_neg (not_or.2 ⟨hhours, not_or.2 ⟨hsr, hrgn⟩⟩)).trans (if_neg hwaits)
end

/-- Settles O57: each clause is the equation of its instruction; a served request goes through `State.hbmServe`. -/
theorem hbmRequestsAndUpkeep : Obligations.HbmRequestsAndUpkeep := by
  intro s
  refine ⟨fun q => ⟨exec_hbmAccess_notOk, fun a drop hok ha hdrop => ⟨fun n u hnone hn hu => ?noRange, fun p n hp hn =>
      ⟨exec_hbmAccess_absent hok ha hp hn, fun t waits ofs l line rank row bank hup ht hl hofs hline hrank hrow hbank hwaits => ?inRun⟩⟩⟩,
    fun n rank bank i b hi hb => ?idle, fun n i b t hi hb ht => ?refresh, fun n x last hx hlast => ?window,
    fun m n x hx => ⟨exec_rhLogReadHead_reads hx, fun hr latch hlatch => ⟨exec_rhLogReadPop_empty hx hr hlatch, fun e r =>
      exec_rhLogReadPop_pops hx hr hlatch⟩⟩,
    fun n x a hx ha => ⟨fun v hot t u w hhot ht hu hw => ?readout, fun t u ht hu => ?failed⟩,
    fun n err i l line rank off v t u hi hl hline hrank hoff hv ht hu => ?scrub⟩
  case noRange =>
    subst hn hu
    rw [exec_hbmAccess_noRange hok ha hnone]
    obtain ⟨hcounted, hplain⟩ := State.hbmFailed_eq (s := s.addrErr a) (n := a / 4096 % 4) (ha ▸ hdrop)
    exact ⟨fun h => congrArg _ (hcounted h), fun h => congrArg _ (hplain h)⟩
  case inRun =>
    rw [exec_hbmAccess_inRun hok ha hp hn hup ht]
    have hiff := State.hbmWaits_iff hl hofs hline hrank hrow hbank hwaits
    refine ⟨fun h => if_pos (hiff.2 h), fun h v u bad fail hv hu hbad hfail => ?_⟩
    rw [if_neg (mt hiff.1 h)]
    refine ⟨fun w hread hw => ⟨fun hue => ?_, fun z hgood herr hz => ?_⟩, fun w d hwrite hw => ⟨fun herr => ?_, fun y z herr hpart hy hz => ?_,
      fun herr hfull => ?_⟩⟩
    · rw [State.hbmServe_read hl hofs hline hrank hrow hbank hv hu hbad hread hw, if_pos (by simpa using hue), hfail]
      obtain ⟨hcounted, hplain⟩ := State.hbmFailed_eq
        (s := (((w.rankCount n rank 1).setPoison n rank line true).rasRaise n 0).rankOut n l) (n := n) (ha ▸ hdrop)
      exact ⟨fun h => congrArg _ (hcounted h), fun h => congrArg _ (hplain h)⟩
    · rw [State.hbmServe_read hl hofs hline hrank hrow hbank hv hu hbad hread hw, if_neg (by simp [hgood, herr]), ha, hz]
      split
      · rw [State.hbmBytes_rankCount] <;> rfl
      · rfl
    · rw [State.hbmServe_write hl hofs hline hrank hrow hbank hv hu hbad hwrite hw, if_pos herr] <;> rfl
    · rw [State.hbmServe_write hl hofs hline hrank hrow hbank hv hu hbad hwrite hw, if_neg herr, hz, hy, ha]
      simp only [decide_eq_false hpart, Bool.not_false, Bool.true_and, beq_iff_eq] <;> rfl
    · rw [State.hbmServe_write hl hofs hline hrank hrow hbank hv hu hbad hwrite hw, if_neg herr, ha]
      simp only [decide_eq_true hfull, Bool.not_true, Bool.false_and, Bool.false_eq_true, if_false] <;> rfl
  case idle =>
    rw [exec_pageIdlePrecharge_eq hi hb]
    refine ⟨fun hopen hdue => if_pos (by simp [Option.isSome_iff_ne_none.2 hopen, hdue]), fun h => if_neg ?_⟩
    rcases h with hclosed | hearly
    · simp [hclosed]
    · simp [Nat.not_le.2 hearly]
  case refresh =>
    subst hi hb ht
    rfl
  case window =>
    subst hx hlast
    rfl
  case readout =>
    rw [exec_tempReadout_reads hx ha hhot ht hu hw]
    refine ⟨fun h3 hawake => if_pos ⟨h3, hawake⟩, fun h => if_neg ?_⟩
    rintro ⟨h3, hawake⟩
    exact h.elim (fun hlt => absurd h3 (Nat.not_le.2 hlt)) (fun hno => absurd hawake (by simp [hno]))
  case failed =>
    subst hx ha ht hu
    rfl
  case scrub =>
    refine ⟨exec_patrolScrub_off hi hl hline hrank hoff, fun hon hue => ?_, fun hon herr hparity hclean => ?_⟩
    · rw [exec_patrolScrub_reads hi hl hline hrank hoff hon hv ht hu, if_pos hue]
    · rw [exec_patrolScrub_reads hi hl hline hrank hoff hon hv ht hu, if_neg (by simp [herr, hparity, hclean])]

end Sys2Proof.Machine
end

section
/-! Rank retirement, migration and verification, the retirement record, and self-refresh (R440 to R446). -/

namespace Sys2Proof.Machine

section
variable {s : State} {n : Fin 4} {m : Master} {v : Word} {x : MemSt} {rank st : Nat} {u : State} (hx : x = s.stack n.val)
  (hst : st = rasA n.val R.MEM_RAS_STAT) (hw : s.mayWrite m (rasA n.val R.MEM_RAS_CMD)) (hrank : rank = natField v.toNat 8 7)
  (hu : u = (s.setFld st 3 7 rank).setRbit st 1 false)
include hx hst hw hrank hu

theorem exec_rasRetire_eq {bad : Prop} (hbad : bad ↔ 94 ≤ rank ∨ (∃ g, x.migration = some g ∧ g.logical = rank) ∨ rank ∈ x.waiting) :
    (¬ bad → exec (.rasRetire m n v) s = .next (u.rankOut n.val rank)) ∧
    (bad → exec (.rasRetire m n v) s = .next ((u.setRbit st 1 true).raise (0x16 + n.val) 1 8)) := by
  have hmoving : (match x.migration with | some g => g.logical == rank | none => false) = true ↔
      ∃ g, x.migration = some g ∧ g.logical = rank := by
    cases x.migration <;> simp
  classical
  have hcmd : exec (.rasRetire m n v) s = .next (if bad then u.rasRefused n.val else u.rankOut n.val rank) := by
    refine congrArg Host.Outcome.next ((State.asWrite_ok hw).trans ?_)
    unfold State.rasCmd
    simp only [rasCmd_rank v.toNat 1 (by decide), rasCmd_code v.toNat 1 (by decide)]
    subst hx hst hu hrank
    exact if_congr ((or_congr_right (or_congr_left hmoving)).trans hbad.symm) rfl rfl
  subst hst
  exact ⟨fun h => hcmd.trans (congrArg _ (if_neg h)), fun h => hcmd.trans (congrArg _ (if_pos h))⟩

theorem exec_rasVerify_eq {busy : Prop} (hbusy : busy ↔ s.rbit st 0 = true ∨ 96 ≤ rank ∨ u.rankServes n.val rank = true) :
    (¬ busy → exec (.rasVerify m n v) s = .next ((u.setRbit st 0 true).setStack n.val { x with verify := some rank })) ∧
    (busy → exec (.rasVerify m n v) s = .next ((u.setRbit st 1 true).raise (0x16 + n.val) 1 8)) := by
  have hcond : (s.rbit st 0 || decide (96 ≤ rank) || u.rankServes n.val rank) = true ↔ busy := by
    simp [hbusy, or_assoc]
  classical
  have hcmd : exec (.rasVerify m n v) s = .next (if busy then u.rasRefused n.val else
      (u.setRbit st 0 true).setStack n.val { x with verify := some rank }) := by
    refine congrArg Host.Outcome.next ((State.asWrite_ok hw).trans ?_)
    unfold State.rasCmd
    simp only [rasCmd_rank v.toNat 2 (by decide), rasCmd_code v.toNat 2 (by decide)]
    subst hx hst hu hrank
    exact if_congr hcond rfl rfl
  subst hst
  exact ⟨fun h => hcmd.trans (congrArg _ (if_neg h)), fun h => hcmd.trans (congrArg _ (if_pos h))⟩
end

section
variable {s : State} {n : Fin 4} {x : MemSt} (hx : x = s.stack n.val)
include hx

theorem exec_migrationCopyLine_none (h : x.migration = none) {b : Bool} : exec (.migrationCopyLine n b) s = .next s := by
  subst hx
  show execMigrationCopyLine n b s = _
  unfold execMigrationCopyLine
  rw [h]

section
variable {g h : Migration} {b bad : Bool} {off : Prop} (hg : x.migration = some g)
  (hoff : off ↔ s.rgnDown (0x16 + n.val) = true ∨ s.rbit (memA n.val R.MEM_STAT) 1 = true ∨
    s.maintWaits n.val g.old (64 * g.next) = true ∨ s.maintWaits n.val g.spare (64 * g.next) = true)
include hg hoff

theorem exec_migrationCopyLine_off (ho : off) : exec (.migrationCopyLine n b) s = .next s := by
  subst hx
  show execMigrationCopyLine n b s = _
  unfold execMigrationCopyLine
  rw [hg]
  exact if_pos (by simpa [or_assoc] using hoff.1 ho)

theorem exec_migrationCopyLine_copies (ho : ¬ off) (hh : h = { g with next := g.next + 1 }) {r t w : State}
    (hr : r = (s.maintain n.val g.old (64 * g.next)).maintain n.val g.spare (64 * g.next))
    (hbad : bad = (b || r.poisoned n.val g.old g.next))
    (ht : t = State.setPoison (if bad then r.rankCount n.val g.old 1 else r) n.val g.spare g.next bad)
    (hw : w = t.setStack n.val { t.stack n.val with
      migration := some h
      lastReq := t.time.ticks }) :
    exec (.migrationCopyLine n b) s = .next (if w.rankLines ≤ g.next + 1 then w.migDone n.val h else w.migShow n.val) := by
  have hno : ¬ (s.rgnDown (0x16 + n.val) || s.rbit (memA n.val R.MEM_STAT) 1 || s.maintWaits n.val g.old (64 * g.next) ||
      s.maintWaits n.val g.spare (64 * g.next)) = true := fun hc => ho (hoff.2 (by simpa [or_assoc] using hc))
  subst hx hh hr hbad ht hw
  show execMigrationCopyLine n b s = _
  unfold execMigrationCopyLine
  rw [hg]
  exact if_neg hno
end

theorem exec_verifyDone_waits (h : x.verify = none ∨ s.rbit (memA n.val R.MEM_STAT) 1 = true) {b : Bool} :
    exec (.verifyDone n b) s = .next s := by
  subst hx
  show execVerifyDone n b s = _
  unfold execVerifyDone
  cases hr : (s.stack n.val).verify with
  | none => simp only [hr]
  | some r =>
    simp only [hr]
    exact if_pos (h.resolve_left (by simp [hr]))

theorem exec_verifyDone_ends_pattern {r : Nat} {b : Bool} {st : Nat} (hst : st = rasA n.val R.MEM_RAS_STAT) (hr : x.verify = some r)
    (hawake : s.rbit (memA n.val R.MEM_STAT) 1 = false) : exec (.verifyDone n b) s = .next
      (((((s.setStack n.val { x with
        verify := none
        spares := if b then x.spares else x.spares.erase r
        lastReq := s.time.ticks }).setRbit st 0 false).setRbit st 2 b).migShow n.val).raise (0x16 + n.val) 1 7) := by
  subst hx hst
  show execVerifyDone n b s = _
  unfold execVerifyDone
  simp only [hr]
  exact if_neg (by simp [hawake])

theorem exec_selfRefreshEntry_off {off : Prop} {ab : Bool} (hoff : off ↔ s.rbit (memA n.val R.MEM_SR_CTRL) 0 = false ∨
    s.rbit (memA n.val R.MEM_STAT) 1 = true ∨ s.rgnDown (0x16 + n.val) = true ∨ x.held ≠ [] ∨
    s.time.ticks < x.lastReq + 10000 * ticksPerUs) :
    (off → exec (.selfRefreshEntry n ab) s = .next s) ∧
    (∀ u : State, ¬ off → u = s.setStack n.val { x with
        banks := x.banks.map (fun p => (p.1, { p.2 with open_ := none }))
        srTick := s.time.ticks } → exec (.selfRefreshEntry n ab) s =
      .next (if ab then u.bump (memA n.val R.MEM_SR_ABANDON)
        else (u.setRbit (memA n.val R.MEM_STAT) 1 true).bump (memA n.val R.MEM_SR_CNT))) := by
  have hcond : (!s.rbit (memA n.val R.MEM_SR_CTRL) 0 || s.rbit (memA n.val R.MEM_STAT) 1 || s.rgnDown (0x16 + n.val) ||
      !x.held.isEmpty || decide (s.time.ticks < x.lastReq + 10000 * ticksPerUs)) = true ↔ off := by
    simp [hoff, or_assoc]
  subst hx
  exact ⟨fun h => if_pos (hcond.2 h), fun u h hu => hu ▸ if_neg (mt hcond.1 h)⟩

theorem exec_selfRefreshExit_eq {off : Prop} (hoff : off ↔ s.rbit (memA n.val R.MEM_STAT) 1 = false ∨
      (x.held = [] ∧ x.migration = none ∧ x.verify = none) ∨ s.time.ticks < x.srTick + ticksPerUs) :
    (off → exec (.selfRefreshExit n) s = .next s) ∧
    (¬ off → exec (.selfRefreshExit n) s = .next ((s.setRbit (memA n.val R.MEM_STAT) 1 false).hbmDrain n.val)) := by
  have hcond : (!s.rbit (memA n.val R.MEM_STAT) 1 || !x.calls || decide (s.time.ticks < x.srTick + ticksPerUs)) = true ↔ off := by
    simp [hoff, or_assoc, MemSt.calls, and_assoc]
  subst hx
  exact ⟨fun h => if_pos (hcond.2 h), fun h => if_neg (mt hcond.1 h)⟩
end

/-- The end of a migration: the next waiting rank starts, if any. -/
theorem State.migDone_eq {w y z : State} {n : Nat} {h : Migration}
    (hy : y = w.wr (rasA n (R.MEM_REDIR + 4 * h.logical)) (BitVec.ofNat 32 h.spare))
    (hz : z = ((y.setStack n { w.stack n with
      migration := none
      retired := (w.stack n).retired ++ [h.old]
      waiting := (w.stack n).waiting.drop 1 }).migShow n).raise (0x16 + n) 1 3) :
    w.migDone n h = (w.stack n).waiting.head?.elim z (z.rankOut n) := by
  have hmodel : w.migDone n h = match (w.stack n).waiting with
      | l :: _ => z.rankOut n l
      | [] => z := by
    subst hy hz
    rfl
  rw [hmodel]
  cases (w.stack n).waiting with
  | nil => exact (Option.elim_none z (z.rankOut n)).symm
  | cons l r => exact (Option.elim_some z (z.rankOut n) l).symm

/-- Settles O58: each clause is the equation of its instruction. -/
theorem ranksRetireAndStacksRest : Obligations.RanksRetireAndStacksRest := by
  intro s n x st hx hst
  refine ⟨fun m v rank u bad busy hw hrank hu hbad hbusy => ?commands, fun hnone b => exec_migrationCopyLine_none hx hnone,
    fun g h b bad off r t w hg hh hoff hr hbad ht hw => ⟨exec_migrationCopyLine_off hx hg hoff, fun hon hmore => ?more,
      fun y z hon hlast hy hz => ?last⟩, fun h b => exec_verifyDone_waits hx h, fun r b hr hawake =>
        exec_verifyDone_ends_pattern hx hst hr hawake, fun hno => if_pos (by simp [hno]), fun hdue => ?record,
    fun u ab off hoff hu => ⟨fun hon => ⟨?enters, ?abandons⟩, fun ho => (exec_selfRefreshEntry_off hx hoff).1 ho⟩,
    fun off hoff => exec_selfRefreshExit_eq hx hoff⟩
  case commands =>
    obtain ⟨hretires, hrefused⟩ := exec_rasRetire_eq hx hst hw hrank hu hbad
    exact ⟨hretires, hrefused, exec_rasVerify_eq hx hst hw hrank hu hbusy⟩
  case more =>
    rw [exec_migrationCopyLine_copies hx hg hoff hon hh hr hbad ht hw, if_neg (Nat.not_le.2 hmore)]
  case last =>
    subst hh
    rw [exec_migrationCopyLine_copies hx hg hoff hon rfl hr hbad ht hw, if_pos hlast, State.migDone_eq (h := { g with next := g.next + 1 }) hy hz]
  case record => exact ⟨_, _, _, rfl, rfl, rfl, if_neg (by simp [hdue])⟩
  case enters => exact (exec_selfRefreshEntry_off hx hoff).2 u hon hu
  case abandons => exact (exec_selfRefreshEntry_off hx hoff).2 u hon hu

end Sys2Proof.Machine
end

section
/-! The commands of SYS_RGN_RESET, the fence, and a region's release with its write list (R453, R459, R460). -/

namespace Sys2Proof.Machine

section
variable {s : State} {m : Master} {r : Fin 26} (hw : s.mayWriteCp m (rgnResetA r.val))
include hw

theorem exec_rgnCmds_sys (hr : r.val = 0) :
    exec (.rgnRun m r) s = .next s ∧ exec (.rgnReset m r) s = .next s ∧ exec (.rgnPowerDown m r) s = .next s := by
  have hrefused {v : Nat} (hv : v < 4) : s.asRgnReset m r.val v = s :=
    (State.asRgnReset_ok hw hv).trans (if_pos (by simp [State.rgnCmdRefused, hr]))
  exact ⟨congrArg _ (hrefused (by decide)), congrArg _ (hrefused (by decide)), congrArg _ (hrefused (by decide))⟩

theorem exec_rgnRun_failedList (h : s.rbit (rgnStatA r.val) 13 = true) : exec (.rgnRun m r) s = .next s :=
  congrArg _ ((State.asRgnReset_ok hw (by decide)).trans (if_pos (by simp [State.rgnCmdRefused, h])))

variable (hr : r.val ≠ 0)
include hr

theorem exec_rgnRun_accepted (h : s.rbit (rgnStatA r.val) 13 = false) {u : State} (hu : u = s.cpStore 3 (rgnResetA r.val) 0) :
    exec (.rgnRun m r) s = .next (if !u.live r.val then u else u.rgnRunCmd r.val) := by
  subst hu
  exact congrArg Host.Outcome.next ((State.asRgnReset_ok hw (by decide)).trans (if_neg (by simp [State.rgnCmdRefused, hr, h])))

theorem exec_rgnReset_accepted {u : State} (hu : u = s.cpStore 3 (rgnResetA r.val) 1) :
    exec (.rgnReset m r) s = .next (if !u.live r.val then u else u.rgnResetCmd r.val) := by
  subst hu
  exact congrArg Host.Outcome.next ((State.asRgnReset_ok hw (by decide)).trans (if_neg (by simp [State.rgnCmdRefused, hr])))

theorem exec_rgnPowerDown_accepted {u : State} (hu : u = s.cpStore 3 (rgnResetA r.val) 2) :
    exec (.rgnPowerDown m r) s = .next (if !u.live r.val then u else u.rgnPowerCmd r.val) := by
  subst hu
  exact congrArg Host.Outcome.next ((State.asRgnReset_ok hw (by decide)).trans (if_neg (by simp [State.rgnCmdRefused, hr])))
end

section
variable {u : State} {r : Nat}

theorem State.rgnRunCmd_cases :
    (u.rgnState r = .restore → u.rgnRunCmd r = u.regionRun r) ∧
    (u.rgnState r = .absent ∨ u.rgnState r = .poweredDown ∨ u.rgnState r = .fencing →
      u.rgnRunCmd r = (u.setRst r { u.rst r with runDue := true }).setFld (rgnStatA r) 12 1 0) ∧
    (u.rgnState r = .run ∨ u.rgnState r = .releasing → u.rgnRunCmd r = u) := by
  unfold State.rgnRunCmd
  refine ⟨fun h => ?_, fun h => ?_, fun h => ?_⟩
  · rw [h]
  · rcases h with h | h | h <;> rw [h]
  · rcases h with h | h <;> rw [h]

theorem State.rgnResetCmd_cases :
    (u.rgnState r = .run → u.rgnResetCmd r = u.leaveRun r false) ∧
    (u.rgnState r = .fencing → u.rgnResetCmd r = u.setRst r { u.rst r with toPower := false }) ∧
    (u.rgnState r = .poweredDown → u.rgnResetCmd r = (u.setRst r { u.rst r with tick := u.time.ticks }).setRgnState r .absent) ∧
    (u.rgnState r = .releasing ∨ u.rgnState r = .restore → u.rgnResetCmd r = u.againAbsent r false) ∧
    (u.rgnState r = .absent → u.rgnResetCmd r = u) := by
  unfold State.rgnResetCmd
  refine ⟨fun h => ?_, fun h => ?_, fun h => ?_, fun h => ?_, fun h => ?_⟩
  · rw [h]
  · rw [h]
  · rw [h]
  · rcases h with h | h <;> rw [h]
  · rw [h]

theorem State.rgnPowerCmd_cases :
    (u.rgnState r = .run → u.rgnPowerCmd r = u.leaveRun r true) ∧
    (u.rgnState r = .fencing → u.rgnPowerCmd r = u.setRst r { u.rst r with toPower := true }) ∧
    (u.rgnState r = .absent → u.rgnPowerCmd r = (u.setRst r { u.rst r with
      runDue := false
      auto := false }).regionPowerOff r) ∧
    (u.rgnState r = .releasing ∨ u.rgnState r = .restore → u.rgnPowerCmd r = u.againAbsent r true) ∧
    (u.rgnState r = .poweredDown → u.rgnPowerCmd r = u) := by
  unfold State.rgnPowerCmd
  refine ⟨fun h => ?_, fun h => ?_, fun h => ?_, fun h => ?_, fun h => ?_⟩
  · rw [h]
  · rw [h]
  · rw [h]
  · rcases h with h | h <;> rw [h]
  · rw [h]
end

section
variable {s : State} {r : Fin 26}

theorem exec_regionRelease_eq {due : Prop} (hdue : due ↔ s.live r.val = true ∧ (s.rgnState r.val = .absent ∨ s.rgnState r.val = .poweredDown) ∧
    (s.rst r.val).tick + 10 * ticksPerUs ≤ s.time.ticks ∧ s.rbit (rgnStatA r.val) 13 = false ∧
    ((s.rst r.val).runDue = true ∨
      ((s.rst r.val).auto = true ∧ s.rbit (policyA r.val) 0 = true ∧ s.rbit (rgnStatA r.val) 12 = false))) :
    (¬ due → exec (.regionRelease r) s = .next s) ∧
    (due → exec (.regionRelease r) s = if (rgnDepends r.val).all s.rgnRuns then
        .next ((((s.setRst r.val { s.rst r.val with
          runDue := false
          listPos := 0
          pollTick := none }).setFld (rgnStatA r.val) 3 1 0).setRgnState r.val .releasing).regionUp r.val)
      else if s.rbit (rgnStatA r.val) 3 then .next s
      else .next ((s.setFld (rgnStatA r.val) 3 1 1).raise 0 6 2)) := by
  have hcond : (s.live r.val && s.releaseDue r.val) = true ↔ due := by
    simp [hdue, State.releaseDue, and_assoc]
  exact ⟨fun h => if_neg (mt hcond.1 h), fun h => if_pos (hcond.2 h)⟩

section
variable {list : Nat → Option (List Byte)} {fuel : Nat} {out : ListStep} (hlive : s.live r.val = true)
  (hstate : s.rgnState r.val = .releasing) (hlist : s.rgnList r.val = (list, fuel))
  (hout : out = listGo list r.val fuel (s.rst r.val).listPos (s.rst r.val).pollTick s)
include hlive hstate hlist hout

/-- The loader goes on with the list, and stops where `out` says. -/
theorem exec_regionReady_loads : exec (.regionReady r) s = .next (listFinish r.val list out) := by
  refine (if_pos ⟨hlive, hstate⟩).trans (congrArg Host.Outcome.next ?_)
  unfold State.listRun
  rw [hlist, hout]
end
end

section
variable {t u v : State} {r : Nat} {l : List Byte} (hu : u = t.setRst r { t.rst r with
  listPos := 0
  pollTick := none })
include hu

theorem State.listEnds_badTiles (hr : r = 7) (htiles : u.tilesOk = false) : t.listEnds r l = (u.regionFatal r 0 3).setRbit (rgnStatA r) 13 true := by
  subst hu
  exact if_pos ⟨hr, htiles⟩

variable (hok : r ≠ 7 ∨ u.tilesOk = true) (hv : v = u.extendList l)
include hok hv

theorem State.listEnds_noPreload (h : v.rgnPreload r = none) : t.listEnds r l = (u.regionFatal r 0x3F 3).setRbit (rgnStatA r) 13 true := by
  have hno : ¬ (r = 7 ∧ u.tilesOk = false) := by
    rintro ⟨hr, htiles⟩
    exact hok.elim (absurd hr) (fun hyes => absurd htiles (by simp [hyes]))
  subst hu hv
  refine (if_neg hno).trans ?_
  rw [h] <;> rfl

theorem State.listEnds_preloaded {w : State} (h : v.rgnPreload r = some w) :
    t.listEnds r l = if w.rbit (policyA r) 1 then w.setRgnState r .restore else w.regionRun r := by
  have hno : ¬ (r = 7 ∧ u.tilesOk = false) := by
    rintro ⟨hr, htiles⟩
    exact hok.elim (absurd hr) (fun hyes => absurd htiles (by simp [hyes]))
  subst hu hv
  refine (if_neg hno).trans ?_
  rw [h]
end

/-- Settles O59: each clause is the equation of its command; `abs` is `State.enterAbsent` and `run` is `State.regionRun`. -/
theorem regionCommandsRunTheFence : Obligations.RegionCommandsRunTheFence := by
  intro s r abs run hAbs hRun
  have habs (u : State) (b : Bool) : abs u b = u.enterAbsent r.val false b := by
    obtain ⟨hstays, hpower⟩ := hAbs u _ _ _ rfl rfl rfl
    cases b with
    | false => exact hstays
    | true => exact hpower
  have hrun (u : State) : run u = u.regionRun r.val := hRun u
  refine ⟨fun m u v w hw hu hv hw' => ⟨exec_rgnCmds_sys hw, exec_rgnRun_failedList hw, fun hr hlist => ?runs, fun hr => ?resets⟩,
    fun hlive hstate => (if_pos ⟨hlive, hstate⟩).trans (congrArg _ (habs ..).symm), fun h => if_neg ?notFencing,
    fun due hdue => ?release, fun h => if_neg ?notReleasing, fun list fuel out hlive hstate hlist hout => ?loads⟩
  case runs =>
    rw [exec_rgnRun_accepted hw hr hlist hu]
    refine ⟨fun hlive => by rw [hlive]; rfl, fun hlive => ?_⟩
    obtain ⟨hrestore, hdue, hsame⟩ := State.rgnRunCmd_cases (u := u) (r := r.val)
    rw [hlive, hrun]
    exact ⟨fun h => congrArg _ (hrestore h), fun h => congrArg _ (hdue h), fun h => congrArg _ (hsame h)⟩
  case resets =>
    rw [exec_rgnReset_accepted hw hr hv, exec_rgnPowerDown_accepted hw hr hw']
    refine ⟨fun hlive => by rw [hlive]; rfl, fun hlive => ?_, fun hlive => by rw [hlive]; rfl, fun hlive => ?_⟩
    · obtain ⟨hleaves, hfencing, hpowered, hagain, hsame⟩ := State.rgnResetCmd_cases (u := v) (r := r.val)
      rw [hlive, habs]
      exact ⟨fun h => congrArg _ (hleaves h), fun h => congrArg _ (hfencing h), fun h => congrArg _ (hpowered h),
        fun h => congrArg _ (hagain h), fun h => congrArg _ (hsame h)⟩
    · obtain ⟨hleaves, hfencing, hoff, hagain, hsame⟩ := State.rgnPowerCmd_cases (u := w) (r := r.val)
      rw [hlive, habs]
      exact ⟨fun h => congrArg _ (hleaves h), fun h => congrArg _ (hfencing h), fun h => congrArg _ (hoff h),
        fun h => congrArg _ (hagain h), fun h => congrArg _ (hsame h)⟩
  case notFencing =>
    rintro ⟨hlive, hstate⟩
    exact h.elim (fun hno => absurd hlive (by simp [hno])) (absurd hstate)
  case notReleasing =>
    rintro ⟨hlive, hstate⟩
    exact h.elim (fun hno => absurd hlive (by simp [hno])) (absurd hstate)
  case release =>
    obtain ⟨hno, hyes⟩ := exec_regionRelease_eq hdue
    exact ⟨hno, fun h hall => (hyes h).trans (if_pos hall), fun h hall hwait => (hyes h).trans
      ((if_neg (by simp [hall])).trans (if_neg (by simp [hwait]))), fun h hall hwait => (hyes h).trans
      ((if_neg (by simp [hall])).trans (if_pos hwait))⟩
  case loads =>
    have hloads := exec_regionReady_loads hlive hstate hlist hout
    rw [hloads]
    refine ⟨fun p t hgo => hgo ▸ rfl, fun p since t hwait => hwait ▸ rfl, fun b t hfail => hfail ▸ rfl, fun n t u v hend hu hv => ?_⟩
    rw [hend]
    refine ⟨fun hr htiles => congrArg _ (State.listEnds_badTiles hu hr htiles), fun hok => ⟨fun hnone => congrArg _
      (State.listEnds_noPreload hu hok hv hnone), fun w hsome => ⟨fun hpol => ?_, fun hpol => ?_⟩⟩⟩
    · rw [hrun]
      exact congrArg _ ((State.listEnds_preloaded hu hok hv hsome).trans (if_neg (by simp [hpol])))
    · exact congrArg _ ((State.listEnds_preloaded hu hok hv hsome).trans (if_pos hpol))

end Sys2Proof.Machine
end

section
/-! Errors of blocks, regions and the chip, and the sensors and supplies (R450 to R463, R502 to R508). -/

namespace Sys2Proof.Machine

section
variable {s : State} {r : Fin 26} {b : Fin 64} {k : Nat} (hk : k = r.val * 64 + b.val)

/-- A device that is awake detects the error, in a block that is there of a region out of reset. -/
theorem detects_iff {on : Prop} (hon : on ↔ s.awake = true ∧ s.live r.val = true ∧ blockExists r.val b.val = true) :
    (s.awake && s.live r.val && blockExists r.val b.val) = true ↔ on := by
  simp [hon, and_assoc]

theorem exec_fatal_notDetected (h : ¬ (s.awake && s.live r.val && blockExists r.val b.val) = true) :
    exec (.blockFatal r b) s = .next s ∧ exec (.regionFatal r b) s = .next s :=
  ⟨if_pos (by simpa only [Bool.not_eq_true'] using Bool.eq_false_iff.2 h), if_neg h⟩

section
variable (h : (s.awake && s.live r.val && blockExists r.val b.val) = true)
include h

theorem exec_regionFatal_detected : exec (.regionFatal r b) s = .next (s.regionFatal r.val b.val 2) := if_pos h

theorem exec_blockFatal_gateway (hb : b.val = 0x3F) : exec (.blockFatal r b) s = .next (s.regionFatal r.val b.val 2) :=
  (if_neg (by simp [h])).trans (if_pos hb)

include hk

theorem exec_blockFatal_strikes (hb : b.val ≠ 0x3F) {t u v w : State} {old : List (Nat × Nat)}
    (ht : t = (s.fatalInfo r.val b.val 1).raise r.val 0x3F 0)
    (hu : u = (if t.blkHeld r.val b.val = false ∧ 3 ≤ r.val ∧ r.val ≤ 6 then
      (if b.val = 9 then t.lrnDown (r.val - 3)
        else if b.val = 10 ∨ b.val = 11 then t.arrDown (r.val - 3) (b.val == 11) else t) else t))
    (hv : v = u.setRbit (regAddr r.val b.val 0x010) 1 true)
    (hold : old = v.flt.blockFatals.filter (fun p => decide (v.time.ticks < p.2 + ticksPerSec)))
    (hw : w = { v with flt := { v.flt with blockFatals := (k, v.time.ticks) :: old } }) :
    exec (.blockFatal r b) s = .next (if 2 ≤ (old.filter (fun p => p.1 == k)).length then w.regionFatal r.val b.val 2
      else if r.val = 0 ∨ w.rbit (policyA r.val) 2 = true then { w with flt := { w.flt with
        blockAuto := if w.flt.blockAuto.contains k then w.flt.blockAuto else w.flt.blockAuto ++ [k] } }
      else w) := by
  have hcut : u = if t.blkHeld r.val b.val then t else t.blockCut r.val b.val := by
    subst hu
    cases hheld : t.blkHeld r.val b.val with
    | true => exact if_neg (by simp)
    | false =>
      unfold State.blockCut
      simp
  have hhold : v = s.blockHold r.val b.val := by
    subst hv hcut ht
    rfl
  refine (if_neg (by simp [h])).trans ((if_neg hb).trans (congrArg Host.Outcome.next ?_))
  subst hw
  show (s.blockHold r.val b.val).blockStrike r.val b.val = _
  rw [← hhold, State.blockStrike_eq hk hold] <;> rfl
end

include hk in
theorem exec_blockAutoRelease_eq {due : Prop} {t : State} (hdue : due ↔ s.flt.blockAuto.contains k = true ∧
    ∀ p, s.flt.blockFatals.find? (fun p => p.1 == k) = some p → p.2 + 10 * ticksPerUs ≤ s.time.ticks)
    (ht : t = { s with flt := { s.flt with blockAuto := s.flt.blockAuto.filter (fun x => x != k) } }) :
    (due → exec (.blockAutoRelease r b) s =
      .next (((t.setRbit (regAddr r.val b.val 0x010) 1 false).blockEpoch r.val b.val).blockInit r.val b.val)) ∧
    (¬ due → exec (.blockAutoRelease r b) s = .next s) := by
  have hcond : (s.flt.blockAuto.contains k && match s.flt.blockFatals.find? (fun p => p.1 == k) with
      | some p => decide (p.2 + 10 * ticksPerUs ≤ s.time.ticks)
      | none => true) = true ↔ due := by
    rw [hdue, Bool.and_eq_true]
    refine and_congr_right' ?_
    cases s.flt.blockFatals.find? (fun p => p.1 == k) with
    | none => simp
    | some p => simp
  subst hk ht
  exact ⟨fun h => if_pos (hcond.2 h), fun h => if_neg (mt hcond.1 h)⟩
end

section
variable {s : State} {r b : Nat}

theorem State.regionFatal_sys {cls : Nat} : s.regionFatal 0 b cls = ((s.fatalInfo 0 b cls).raise 0 0x3F 1).chipFatal 2 := by
  unfold State.regionFatal
  exact if_pos rfl

theorem State.regionFatal_other (hr : r ≠ 0) {v w x : State} {l : List Nat} (hv : v = State.raise (State.setRbit
      ((s.fatalInfo r b 2).raise r 0x3F 1) (A.rgn R.SYS_RGN_FATAL) r true) 0 6 0)
    (hl : l = v.time.ticks :: v.within (60 * ticksPerSec) (v.rst r).fatalTicks)
    (hw : w = v.setRst r { v.rst r with
      fatalTicks := l
      auto := if v.rgnState r = .absent ∨ v.rgnState r = .poweredDown then (v.rst r).auto else true })
    (hx : x = (if 3 ≤ l.length ∧ w.rbit (rgnStatA r) 12 = false then (w.setFld (rgnStatA r) 12 1 1).raise 0 6 3 else w)) :
    (x.rgnState r = .absent ∨ x.rgnState r = .poweredDown → s.regionFatal r b 2 = x) ∧
    (x.rgnState r ≠ .absent → x.rgnState r ≠ .poweredDown → s.regionFatal r b 2 =
      x.enterAbsent r true (x.rgnState r == .fencing && (x.rst r).toPower)) := by
  have hmodel : s.regionFatal r b 2 = match x.rgnState r with
      | .absent | .poweredDown => x
      | st => x.enterAbsent r true (st == .fencing && (x.rst r).toPower) := by
    subst hv hl hw hx
    exact if_neg hr
  rw [hmodel]
  refine ⟨fun h => ?_, fun habsent hpowered => ?_⟩
  · rcases h with h | h <;> rw [h]
  · generalize x.rgnState r = st at habsent hpowered
    cases st
    case absent => exact absurd rfl habsent
    case poweredDown => exact absurd rfl hpowered
    all_goals rfl
end

/-- The chip-level cause stands: a module is gone for D2D, power was good for RAIL. -/
def State.causeStands (s : State) : ChipCause → Bool
  | .d2d => decide (s.flt.d2dModules < 4)
  | .rail => s.boot.vin12 && s.boot.rails && s.boot.resetN
  | _ => true

theorem State.causeStands_iff {s : State} {c : ChipCause} : s.causeStands c = true ↔ (c = .d2d → s.flt.d2dModules < 4) ∧
    (c = .rail → s.boot.vin12 = true ∧ s.boot.rails = true ∧ s.boot.resetN = true) := by
  cases c with
  | d2d => simp [State.causeStands]
  | rail => simp [State.causeStands, and_assoc]
  | timePartition => simp [State.causeStands]
  | sysFatal => simp [State.causeStands]
  | thermalTrip => simp [State.causeStands]

theorem exec_chipFatal_eq (s : State) (c : ChipCause) : exec (.chipFatal c) s =
    if s.awake && s.causeStands c then .next (s.chipFatal (chipCode c)) else .next s := by
  cases c <;> rfl

theorem State.chipFatal_again {s : State} (h : s.flt.failsafe ≠ none) (code : Nat) : s.chipFatal code = s :=
  if_pos (Option.isSome_iff_ne_none.2 h)

theorem State.chipFatal_enters {s : State} (hfree : s.flt.failsafe = none) {code at_ fatal : Nat} {u v : State}
    (hat : at_ = if s.time.wtValid then s.wt else 0) (hfatal : fatal = (s.rd (A.rgn R.SYS_RGN_FATAL)).toNat)
    (hu : u = (List.range 64).foldl State.txDisable ((List.range 4).foldl State.ppsLow { s with flt := { s.flt with
      failsafe := some (code, at_, s.gstat, fatal) } }))
    (hv : v = (u.faultWrite code (tvSec at_ % 2 ^ 48) (tvNs at_) s.gstat fatal).setRbit (A.rgn R.SYS_CHIP_FAULT) 31 true) :
    s.chipFatal code = if code = 4 then { v with therm := { v.therm with tripLow := true } } else v := by
  subst hat hfatal hu hv
  exact if_neg (by simp [hfree])

section
variable {s : State} {l : List (Option (BitVec 8))}

theorem exec_thermSample_ignored (h : s.awake = false ∨ l.length ≠ 48) : exec (.thermSample l) s = .next s :=
  if_pos (by simpa using h)

theorem exec_thermSample_shows {t v u w x : State} {f d top : Option Int} {n : Nat} (hawake : s.awake = true) (hlen : l.length = 48)
    (ht : t = State.raiseIf ((l.zipIdx).foldl (fun (s : State) p => s.sensorTake p.2 p.1) s) (l.any (·.isNone)) 0 13 3)
    (hf : f = hottest t.fdie) (hd : d = hottest t.tdie) (htop : top = hottest [f, d]) (hv : v = (t.showHottest 0 f).showHottest 8 d)
    (hu : u = v.setFld thermStatA 16 8 t.hbmHottest) (hn : n = (if top.any (fun x => decide (115 ≤ x)) then u.therm.hot + 1 else 0))
    (hw : w = { u with therm := { u.therm with
      hot := n
      sampled := true
      tripLow := u.therm.tripLow && !top.any (fun x => decide (x < 95)) } })
    (hx : x = (if w.boot.dev = .boot ∧ w.boot.started = false then w.setRbit thermStatA 26 w.bootHold else w).warnEval) :
    exec (.thermSample l) s = if f.isNone || d.isNone || decide (3 ≤ n) then .next (x.chipFatal 4) else .next x.throttleEval := by
  subst ht hf hd htop hv hu hn hw hx
  have hreads : ¬ (!s.awake || l.length != 48) = true := by simp [hawake, hlen]
  refine (if_neg hreads).trans ?_
  dsimp only
  generalize hottest [hottest (State.fdie _), hottest (State.tdie _)] = top
  cases top <;> rfl
end

/-- Settles O60: each clause is the equation of its event. -/
theorem errorsEscalateToTheFailSafe : Obligations.ErrorsEscalateToTheFailSafe := by
  intro s
  refine ⟨fun r b k on hk hon => ⟨fun hno => exec_fatal_notDetected (mt (detects_iff hon).1 hno), fun ho => ⟨exec_regionFatal_detected
      ((detects_iff hon).2 ho), exec_blockFatal_gateway ((detects_iff hon).2 ho), fun hb t u v w old ht hu hv hold hw => ?block⟩,
      fun due t hdue ht => exec_blockAutoRelease_eq hk hdue ht, fun ho hr => ?sys, fun ho hr v w x l hv hl hw hx => ?region⟩,
    fun c on hon => ⟨fun hno => ?notChip, fun ho at_ fatal u v hat hfatal hu hv => ?chip⟩,
    fun hsafe hauto => if_pos ⟨Option.isSome_iff_ne_none.2 hsafe, hauto⟩, fun h => if_neg ?notAuto, rfl,
    fun r => ⟨fun hex hruns => if_pos (by simp [hex, hruns]), fun h => if_neg ?noReply, fun hex hlive => if_pos (by simp [hex, hlive]),
      fun h => if_neg ?noEpoch⟩,
    fun x v hv => ⟨fun hawake => ?supply, fun hasleep => if_pos (by simp [hasleep])⟩,
    fun l => ⟨exec_thermSample_ignored, fun t v u w x f d top n hawake hlen ht hf hd htop hv hu hn hw hx => ?thermal⟩⟩
  case block =>
    rw [exec_blockFatal_strikes hk ((detects_iff hon).2 ho) hb ht hu hv hold hw]
    refine ⟨fun hthree => congrArg _ (if_pos hthree), fun hfew => ?_⟩
    rw [if_neg (Nat.not_le.2 hfew)]
    exact ⟨fun hr hpol => congrArg _ (if_neg (by simp [hr, hpol])), fun hauto => congrArg _ (if_pos hauto)⟩
  case sys =>
    rw [exec_regionFatal_detected ((detects_iff hon).2 ho), hr]
    exact congrArg _ State.regionFatal_sys
  case region =>
    rw [exec_regionFatal_detected ((detects_iff hon).2 ho)]
    obtain ⟨hthere, henters⟩ := State.regionFatal_other hr hv hl hw hx
    exact ⟨fun h => congrArg _ (hthere h), fun habsent hpowered => congrArg _ (henters habsent hpowered)⟩
  case notChip =>
    rw [exec_chipFatal_eq]
    by_cases hdet : (s.awake && s.causeStands c) = true
    · obtain ⟨hawake, hstands⟩ := Bool.and_eq_true_iff.1 hdet
      have hsafe : s.flt.failsafe ≠ none := fun hfree => hno (hon.2 ⟨hawake, hfree, State.causeStands_iff.1 hstands⟩)
      rw [if_pos hdet, State.chipFatal_again hsafe]
    · exact if_neg hdet
  case chip =>
    obtain ⟨hawake, hfree, hstands⟩ := hon.1 ho
    rw [exec_chipFatal_eq, if_pos (by simp [hawake, State.causeStands_iff.2 hstands]), State.chipFatal_enters hfree hat hfatal hu hv]
    exact congrArg Host.Outcome.next (if_congr (by cases c <;> decide) rfl rfl)
  case notAuto =>
    rintro ⟨hsafe, hauto⟩
    exact h.elim (fun hno => absurd hsafe (by simp [hno])) (fun hno => absurd hauto (by simp [hno]))
  case noReply =>
    rcases h with h | h
    · simp [h]
    · simp [h]
  case noEpoch =>
    rcases h with h | h
    · simp [h]
    · simp [h]
  case supply =>
    subst hv
    exact if_neg (by simp [hawake])
  case thermal =>
    rw [exec_thermSample_shows hawake hlen ht hf hd htop hv hu hn hw hx]
    refine ⟨fun h => if_pos ?_, fun hfok hdok hfew => if_neg ?_⟩
    · rcases h with h | h | h
      · simp [h]
      · simp [h]
      · simp [h]
    · simp [Nat.not_le.2 hfew, hfok, hdok]

end Sys2Proof.Machine
end
